-- ==== Sys2Proof/Word.lean ====
section
/-! DEFINITION. The word types of the module: bytes, register words, and strings of bytes. -/

namespace Sys2Proof

/-- One byte of a record, an image, a frame or a memory. -/
abbrev Byte := BitVec 8

/-- A string of bytes, lowest address first. -/
abbrev Bytes := List Byte

/-- A register word (*Scope and Conventions*, Register tables). -/
abbrev Word := BitVec 32

end Sys2Proof
end

