-- ==== Sys2Proof/Syntax.lean ====
section
/-! DEFINITION. The commands of the block: one constructor of `Instr` per row of spec/opcode_table.json, with the
operands of that row. What comes from outside the module (the host's records, the partner's blocks, what a probe of
the environment finds) is an operand; everything the module computes is not. -/

namespace Sys2Proof

/-- Where an access or a command comes from (R302, R443): a host port, a management-port session, the service
UART, or a control processor. -/
inductive Origin where
  | host (n : Nat)
  | mgmt (session : Nat)
  | uart
  | cp (c : Nat)
deriving DecidableEq, Repr

/-- The identity of one command in flight: its origin, the mailbox (for a host port), and the SEQ of its request
record (R305, R308). -/
structure CmdRef where
  org : Origin
  slot : Nat
  seq : Nat
deriving DecidableEq, Repr

/-- What carries check bits: the stores of a hearth (R43, R88, R105, R121), and the words that a link port receives (R91),
whose key is the anvil and the port. -/
inductive Store where
  | instr | route | dict | egress | inject | bank | link
deriving DecidableEq, Repr

/-- A storage error that strikes one stored word: where it lies (`key` is the store's own index: anvil, hearth, ...)
and whether SECDED corrects it (one bit) or only detects it (two bits). -/
structure Upset where
  store : Store
  key : List Nat
  double : Bool
deriving DecidableEq, Repr

/-- What a trace source has to report (R237); SYNC, LONG_DELTA, OVERFLOW and SLEEP are formed by the source itself. -/
inductive TraceItem where
  | branch (icount target : Nat)
  | exception (vector target : Nat)
  | data (store : Bool) (size addr : Nat)
  | noc (router code value : Nat)
  | dram (code rank bank : Nat) (addr : Option Nat)
  | sched (code queue engine prio : Nat)
  | power (code value : Nat)
deriving DecidableEq, Repr

/-- What a packet carries, for its priority (R283). -/
inductive NocTraffic where
  /-- register accesses, mailboxes, CP accesses, event messages. -/
  | register
  /-- capture drain and copy-on-write, probe bits, fail-map and acquisition records. -/
  | capture
  /-- DMA, readback, deposit, loader traffic, remote DRAM access. -/
  | dma
  | trace
deriving DecidableEq, Repr

/-- A packet that a source has to send (R281, R282): a request, or a message with its data. `tag` is the tag that the source
would take, and `hearth` the hearth of a hearth agent (0 to 7) for which it sends. -/
structure NocReq where
  type : Nat
  src : Nat
  dst : Nat
  hearth : Nat
  tag : Nat
  addr : Nat
  be : Nat
  len : Nat
  traffic : NocTraffic
  data : Bytes
deriving DecidableEq, Repr

/-- Errors that strike a packet between two routers: header bits, and bits of its data flits as (64-bit group, bit of its 64 data
and 8 check bits). -/
structure NocFlaw where
  header : List Nat
  flits : List (Nat × Nat)
deriving DecidableEq, Repr

/-- What happens to a packet: its source sends it (a completion is named by its source, destination and tag); an output of a
router passes its next packet on (ports by their codes, R276); the packet at the head of the channel of a link port arrives
(port 3 is a management link toward the management controller, 4 away from it). -/
inductive NocEvent where
  | send (q : NocReq)
  | pass (a r out : Nat) (flaw : NocFlaw)
  | arrive (a port : Nat)
deriving DecidableEq, Repr

/-- Who a DMA access of a bank, or an access of class 2 to module DRAM, is for: a command, or a request of the packet network,
by its requester, the endpoint that serves it, and its tag. -/
inductive DmaFor where
  | cmd (r : CmdRef)
  | noc (src dst tag : Nat)
deriving DecidableEq, Repr

/-- A Waltline frame as received on a lane (R335): the LSEQ and REPLAY of its SOF, whether SOF and EOF were valid,
the data blocks counted between them, the 56 header bytes, the payload blocks and the CRC-32 of its EOF. -/
structure WlFrame where
  lseq : Nat
  replay : Bool
  framed : Bool
  blocks : Nat
  header : Bytes
  payload : Bytes
  crc : Nat
deriving DecidableEq, Repr

/-- A block received on a Waltline lane: its sync header, its eight bytes, and, for a data block, whether it lies outside a
frame and follows no STATUS (R332, R334). -/
structure WlBlock where
  sync : Nat
  bytes : Bytes
  stray : Bool
deriving DecidableEq, Repr

/-- The fields of a CAP block (R348). -/
structure CapFields where
  seen : Bool
  lane : Nat
  rate : Nat
  nlanes : Nat
  bundle : Nat
  ident : Nat
deriving DecidableEq, Repr

/-- What a PTP message says (R363). Times are in ns of the master. `rank` stands for the data sets that the default best
master clock algorithm compares, the lower number for the better master; `arb` says that its timescale is ARB. `interval` is
the base-2 logarithm of the Delay_Req interval in s. -/
inductive PtpBody where
  | sync (seq : Nat) (twoStep : Bool) (origin correction : Int)
  | followUp (seq : Nat) (origin correction : Int)
  | announce (utcOffset rank : Nat) (arb : Bool)
  | delayResp (seq : Nat) (receive correction interval : Int)
deriving DecidableEq, Repr

/-- A PTP message as the Ethernet port delivers it: its domain, its transport, and the clockIdentity of its sender. -/
structure PtpMsg where
  domain : Nat
  l2 : Bool
  source : Nat
  body : PtpBody
deriving DecidableEq, Repr

/-- What the pattern test of one physical BP or store word found in SVC_SELFTEST (R434). -/
inductive SelfTestFind where
  | bp (anvil hearth phys : Nat)
  | word (anvil hearth : Nat)
deriving DecidableEq, Repr

/-- One temper tap reading (R421): hearth, monitor 0-3 and tap 0-7 (monitor 4 stands for the billet tap), the
corrected fmax and the uncorrected one, in MHz. -/
structure TapReading where
  anvil : Nat
  hearth : Nat
  monitor : Nat
  tap : Nat
  fmax : Nat
  raw : Nat
deriving DecidableEq, Repr

/-- The cause of a host-port reset (R300). -/
inductive PortReset where
  | flr | hot | d3 | linkDown
deriving DecidableEq, Repr

/-- What the reads of one burst of a page copy find (R258): the burst within the page, and the symbols in error of the first
and of the second read, each as a byte position of the codeword and what was added to it. -/
structure BurstRead where
  burst : Nat
  bad : List (Nat × Nat)
  second : List (Nat × Nat)
deriving DecidableEq, Repr

/-- The commands, in the order of spec/opcode_table.json. -/
inductive Instr where
  -- fabric, memories and run control (R40, R74, R130, R141, R155, R162)
  | step (p : Nat) (ups : List Upset)
  | dmaBankTimeout (who : DmaFor)
  | dramReadReturn (a id : Nat)
  | cycleBoundary (p : Nat)
  | freezeLands (p : Nat)
  | partitionResume (p : Nat)
  | hostAbort (o : Origin) (p : Nat)
  | timerExpired (p j : Nat)
  | timeReached (p : Nat)
  | trigCtlArm (o : Origin) (p : Nat)
  | trigCtlDisarm (o : Origin) (p : Nat)
  | captureDrainComplete (p : Nat)
  | acqSegmentOpen (p : Nat)
  | partCreate (r : CmdRef) (p regions port : Nat)
  | partDestroy (r : CmdRef) (p : Nat)
  | partBind (r : CmdRef) (p port : Nat)
  | partRun (r : CmdRef) (p mode ackFault cycles : Nat)
  | partStop (r : CmdRef) (p flush ackFault : Nat)
  | partHalt (r : CmdRef) (p now ackFault : Nat)
  | partResume (r : CmdRef) (p ackFault : Nat)
  | partUnload (r : CmdRef) (p : Nat)
  -- image loading (R194, R202, R203, R205)
  | partLoad (r : CmdRef) (p srcPort addr length flags : Nat)
  | loadDequeue
  | loadHeader (p : Nat) (img : Bytes)
  | loadPlan (p : Nat) (img : Bytes)
  | loadCheck (p : Nat) (img : Bytes)
  | loadPrepare (p : Nat)
  | loadSetup (p : Nat) (img : Bytes)
  | hearthVerify (p : Nat) (img : Bytes) (mismatches : Nat)
  | imageKeySet (r : CmdRef) (slot : Nat) (key : Bytes) (flashBad : Bool)
  | imageKeyClear (r : CmdRef) (slot : Nat) (flashBad : Bool)
  -- capture, readback and deposit (R211 to R219)
  | captureRequest (r : CmdRef) (p at_ cycle edge flags : Nat)
  | captureRelease (r : CmdRef) (p : Nat)
  | captureDramRead (r : CmdRef) (p anvil offset length addr : Nat)
  | stateRead (r : CmdRef) (p kind anvil hearth first count addr : Nat)
  | stateDeposit (r : CmdRef) (p kind anvil hearth first count addr flags : Nat) (data : Bytes)
  -- trace (R237 to R251)
  | tracePacketEmit (src : Nat) (item : TraceItem)
  | traceStallEnd (c : Nat)
  | traceStallLimit (c : Nat)
  | traceOverflowRecovery (src : Nat)
  | funnelBlockWrite
  | traceEnable (o : Origin)
  | traceDisable (o : Origin)
  | traceTrigger (kind k : Nat)
  | stopNow (o : Origin)
  | stopDelayReached
  | cpSleep (c level icount target : Nat)
  | cpWake (c addr : Nat)
  | traceBufAlloc (r : CmdRef) (anvil sizeLog2 : Nat)
  | traceBufFree (r : CmdRef)
  -- DRAM (R260 to R273)
  | dramRequestServe (a id : Nat) (bad second : List (Nat × Nat)) (crc : Nat)
  | phyTrainingLoss (a sub : Nat)
  | deviceDiagnosis (a sub rank failing : Nat)
  | markRediagnosis (a sub rank failing : Nat)
  | pageRetirement (a page : Nat) (reads : List BurstRead)
  | migrationStep (a : Nat) (reads : List BurstRead)
  | patrolScrub (a sub : Nat)
  | agePromotion (a id : Nat)
  | sameBankRefresh (a sub bank : Nat)
  | allBankRefresh (a sub : Nat)
  | refreshEnd (a sub : Nat)
  | rankPowerDown (a sub rank : Nat)
  | dramFrozenTimeout (a id : Nat)
  | stewardThaw (a : Nat) (retrainOk : Bool)
  | ddrThaw (r : CmdRef) (a action : Nat) (retrainOk : Bool)
  | ddrRetirePage (r : CmdRef) (a addr : Nat)
  | ddrMarkSet (r : CmdRef) (a sub rank device : Nat)
  -- packet network (R278 to R292)
  | nocRequest (e : NocEvent)
  | nocCompletion (e : NocEvent)
  | nocCplTimeout (a tag : Nat)
  | tagRelease (a tag : Nat)
  | linkFlitReplay (a port : Nat)
  | routeChangeStart (ref : Option CmdRef) (table : List (List Nat × Nat))
  | shadowValid
  | epochSwitch
  | epochRetired
  | epochFenceTimeout
  | nocEpochBusy (r : CmdRef)
  | fenceRequest (region : Nat)
  | regionFenced (region : Nat)
  | nocDrainTimeout (region : Nat)
  | anvilDomainOff (a : Nat)
  -- registers and host interface (R10, R298 to R327, R443)
  | registerWrite (o : Origin) (addr size : Nat) (value : BitVec 64)
  | rcFieldRead (o : Origin) (addr size : Nat)
  | loWordRead (o : Origin) (addr size : Nat)
  | hostPortReset (n : Nat) (cause : PortReset)
  | hostDmaFailure (queue : Option Nat) (r : CmdRef) (ecrc : Bool)
  | mboxGo (n m : Nat) (record : Bytes)
  | mboxAck (n m : Nat)
  | commandStart
  | mgmtSessionOpen (fingerprint : Bytes)
  | mgmtSessionClose (k : Nat)
  | mgmtMessage (k : Nat) (record : Bytes)
  | uartFrame (record : Bytes) (crc : Nat)
  | queueDoorbell (o : Origin) (q index : Nat)
  | queueEnable (o : Origin) (q value : Nat)
  | taskSoftFlagSet (o : Origin) (q flags : Nat)
  | taskDispatch (engine : Nat) (entries : List Bytes)
  | interruptCoalesceTimeout (q : Nat)
  | hostIdentify (r : CmdRef) (ident : Bytes)
  | queueAssign (r : CmdRef) (q part port : Nat)
  | queueSetup (r : CmdRef) (q type sizeLog2 entryLog2 base wb pair : Nat)
  | auditRead (r : CmdRef) (first count addr : Nat)
  | ownerCertSet (r : CmdRef) (slot : Nat) (fingerprint : Bytes) (flashBad : Bool)
  | roleGrant (r : CmdRef) (port grant : Nat) (flashBad : Bool)
  | regRead (r : CmdRef) (addr count : Nat)
  | regWrite (r : CmdRef) (addr count : Nat) (words : List Nat)
  | auditPersist
  -- Waltline (R329 to R353)
  | laneEnable (o : Origin) (l : Nat)
  | laneDisable (o : Origin) (l : Nat)
  | retrain (o : Origin) (l : Nat)
  | terminationDetect (l : Nat)
  | cdrLock (l : Nat)
  | blockLock (l : Nat)
  | tsDetected (l : Nat) (complement : Bool)
  | trainTimeout (l : Nat)
  | lockLoss (l : Nat)
  | cap (l : Nat) (c : CapFields)
  | frame (l : Nat) (f : WlFrame)
  | ack (l lane lseq : Nat) (nak : Bool)
  | replayTimeout (l : Nat)
  | credit (b stream gen limit : Nat)
  | mark (b stream count : Nat)
  | stop (b stream number copies : Nat)
  | spare (l lane k : Nat) (req ack refuse ret : Bool)
  | bank (b : Nat) (req ack : Bool)
  | dsk (b : Nat) (arrivals : List (Nat × Nat))
  | dskSend (b : Nat)
  | frameTransmit (stream : Nat)
  | creditSend (stream : Nat)
  | creditStall (stream : Nat)
  | statusBlockSend (p : Nat)
  | crcErrorLimit (l : Nat)
  | spareRequestRepeat (l : Nat)
  | bankExitSignal (b : Nat)
  | injGo (o : Origin) (l : Nat)
  | wlStreamBind (r : CmdRef) (stream part bundles inEn outEn : Nat)
  | wlStreamUnbind (r : CmdRef) (stream : Nat)
  | wlLaneCtl (r : CmdRef) (lane action : Nat)
  | wlBank (r : CmdRef) (bundle enter : Nat)
  -- time (R357 to R369)
  | timeIncrWrite (o : Origin) (incrNs : Nat)
  | refRateWrite (o : Origin) (k rateNs : Nat)
  | refAdj (o : Origin) (k adj : Nat)
  | counterMismatch
  | ptpMessage (m : PtpMsg)
  | delayReqSend
  | ptpSourceLoss
  | ppsEdge
  | ppsLoss
  | ppsOut
  | freqSourceLoss
  | pllRelock
  | timeCapArm (o : Origin) (src : Nat)
  | launchArm (o : Origin) (k : Nat)
  | launchDisarm (o : Origin) (k : Nat)
  | launch (k : Nat)
  | timeStep (r : CmdRef) (mode value : Nat)
  -- side pins (R372 to R385)
  | triggerInputEdge (k : Nat)
  | pinFuncSwitch (o : Origin) (n func : Nat)
  | pinOwnerWrite (o : Origin) (n owner : Nat)
  | bankVselWrite (o : Origin) (b vsel : Nat)
  | bankRampDone (b : Nat)
  | gpioSet (o : Origin) (hi : Bool) (mask : Nat)
  | gpioClr (o : Origin) (hi : Bool) (mask : Nat)
  | gpioTgl (o : Origin) (hi : Bool) (mask : Nat)
  | pinShort (n : Nat)
  | shortClear (o : Origin) (n : Nat)
  | strapClose
  | strapOpen
  | uartRxByte (u byte : Nat) (bad : Bool)
  | spUartCfg (r : CmdRef) (u baud format : Nat)
  | spUartSend (r : CmdRef) (u len : Nat) (data : Bytes)
  | spUartRecv (r : CmdRef) (u max : Nat)
  | spI2cXfer (r : CmdRef) (bus speed addr wlen rlen : Nat) (data : Bytes)
  | spSpiXfer (r : CmdRef) (cs mode div len : Nat) (data : Bytes)
  -- power (R27, R161, R388 to R403)
  | clksetWrite (o : Origin) (value : Nat)
  | inputPowerSample (totalW : Nat) (partW : List (Nat × Nat))
  | dutyBurstEnd
  | thermalCeilingUpdate (anvil tj : Nat) (cool1s : Bool)
  | powerCeilingUpdate (meanW : Nat) (idle1s : Bool)
  | clockChange
  | clockChangeRelease
  | inletEntersService (i volts : Nat)
  | inletLeavesService (i volts : Nat)
  | shareFault
  | lowLineEntry
  | highLineReturn
  | dropoutFreeze
  | powerLossShutdown
  | railFault (rail kind : Nat)
  | thermalTrip (anvil : Option Nat)
  | coolantSample (inDc outDc flowCl : Nat)
  | auxCurrentLimit
  | auxEnable (o : Origin) (en : Nat)
  -- start-up, settings and firmware (R406 to R418)
  | firmwareBoot
  | stewardBootTimeout
  | bootComplete
  | wakingComplete
  | sleepingComplete
  | modPower (r : CmdRef) (enter : Nat)
  | modReset (r : CmdRef) (scope force : Nat)
  | settingsSave (r : CmdRef) (flashBad : Bool)
  | settingsErase (r : CmdRef) (flashBad : Bool)
  | settingsRead (r : CmdRef) (offset length addr : Nat)
  | fwStage (r : CmdRef) (mode srcPort addr length offset final : Nat) (data : Bytes) (flashBad : Bool)
  | fwActivate (r : CmdRef) (flashBad : Bool)
  | stewardReady
  | activationTimeout
  | fwConfirm (r : CmdRef) (flashBad : Bool)
  -- service life (R421 to R439)
  | temperSample (taps : List TapReading)
  | billetInsertion (anvil hearth : Nat) (lbps : List Nat)
  | billetCopyComplete (failed : List Nat)
  | storeScrub (st : Store) (key : List Nat)
  | heartbeatTimeout (c : Nat)
  | linkUncorrectableWord (a port : Nat)
  | mgmtLinkLoss
  | svcMaint (r : CmdRef) (scope enter regions : Nat)
  | svcSelftest (r : CmdRef) (regions : Nat) (finds : List SelfTestFind)
  | temperReplan (r : CmdRef)
  | billetInsert (r : CmdRef) (anvil hearth lbp : Nat)
  -- the rows added at the end of the table
  | blockDiscard (l : Nat) (b : WlBlock)
  | prbsCheckerLock (l : Nat)
  | prbsLockLoss (l : Nat)
  | continuousErrorInjection (l : Nat)
  | timeTick
  | temperResample (taps : List TapReading)
  | linkRetrain (a port : Nat) (ok : Bool)
  | commandCompletion (r : CmdRef)
  | hostLinkUp (n width speed : Nat)
deriving DecidableEq, Repr

end Sys2Proof
end

