-- ==== Sys2Proof/Machine/Bits.lean ====
section
/-! DEFINITION. Bit fields, little-endian strings, saturation, signed words and the CRC-32 of IEEE 802.3:
the arithmetic that the register tables, records and images of spec/ are written in. -/

namespace Sys2Proof.Machine

/-- Bits `[hi:lo]` of a number. -/
def bits (w hi lo : Nat) : Nat := (w / 2 ^ lo) % 2 ^ (hi + 1 - lo)

/-- Bit `n` of a number. -/
def bit (w n : Nat) : Bool := (w / 2 ^ n) % 2 = 1

/-- 1 for true, 0 for false. -/
def b2n (b : Bool) : Nat := if b then 1 else 0

/-- The number with bit `n` set to `b`. -/
def setBit (w n : Nat) (b : Bool) : Nat :=
  if b then (if bit w n then w else w + 2 ^ n) else (if bit w n then w - 2 ^ n else w)

/-- The number with bits `[hi:lo]` replaced by `v`. -/
def setBits (w hi lo v : Nat) : Nat :=
  w - bits w hi lo * 2 ^ lo + (v % 2 ^ (hi + 1 - lo)) * 2 ^ lo

/-- Addition that saturates at `m` (the saturating counters of the register tables). -/
def satAdd (m a b : Nat) : Nat := min m (a + b)

/-- The all-ones word, at which counters saturate (R79 and others). -/
def ones32 : Nat := 0xFFFFFFFF

/-- The signed value of a two's-complement number of `w` bits. -/
def signed (w v : Nat) : Int := if v % 2 ^ w < 2 ^ (w - 1) then ((v % 2 ^ w : Nat) : Int) else ((v % 2 ^ w : Nat) : Int) - 2 ^ w

/-- The two's-complement number of `w` bits of a signed value, modulo `2^w`. -/
def unsigned (w : Nat) (v : Int) : Nat := (v % (2 ^ w : Int)).toNat

/-- A signed value held in `w` bits, saturating at the limits (R371). -/
def satSigned (w : Nat) (v : Int) : Nat :=
  unsigned w (max (-(2 ^ (w - 1) : Int)) (min (2 ^ (w - 1) - 1) v))

/-- The value of a little-endian string (R184, R308). -/
def leVal : Bytes → Nat
  | [] => 0
  | b :: bs => b.toNat + 256 * leVal bs

/-- `n` bytes of a string, from `off` on; bytes beyond its end read 0. -/
def slice (bs : Bytes) (off n : Nat) : Bytes := ((bs.drop off).take n) ++ List.replicate (n - (bs.length - off)) 0

/-- The little-endian number in `n` bytes of a string, from `off` on. -/
def le (bs : Bytes) (off n : Nat) : Nat := leVal ((bs.drop off).take n)

/-- The little-endian string of `n` bytes of a number. -/
def toLE : Nat → Nat → Bytes
  | 0, _ => []
  | n + 1, v => BitVec.ofNat 8 v :: toLE n (v / 256)

/-- The big-endian value of a string (R193, the signature's r and s). -/
def beVal (bs : Bytes) : Nat := bs.foldl (fun a b => 256 * a + b.toNat) 0

/-- `n` zero bytes. -/
def zeros (n : Nat) : Bytes := List.replicate n 0

/-- Bit `i` of a packed string: bit `i mod 8` of byte `i div 8` (R184). -/
def packedBit (bs : Bytes) (i : Nat) : Bool := bit ((bs.getD (i / 8) 0).toNat) (i % 8)

/-- The number whose bit `i` is the `i`-th of a list. -/
def bitsToNat : List Bool → Nat
  | [] => 0
  | b :: bs => b2n b + 2 * bitsToNat bs

/-- A list of bits packed into bytes, bit 0 of the list in bit 0 of the first byte (R184). -/
def packBits (bs : List Bool) : Bytes := toLE ((bs.length + 7) / 8) (bitsToNat bs)

/-- One bit of the CRC-32 of IEEE 802.3 (reflected polynomial 0xEDB88320). -/
def crcBit (c : Nat) : Nat := if c % 2 = 1 then Nat.xor (c / 2) 0xEDB88320 else c / 2

/-- One byte of the CRC-32. -/
def crcByte (c : Nat) (b : Byte) : Nat :=
  crcBit (crcBit (crcBit (crcBit (crcBit (crcBit (crcBit (crcBit (Nat.xor c b.toNat))))))))

/-- CRC-32 of IEEE 802.3 over a string (R175, R187, R304, R335, R411). -/
def crc32 (bs : Bytes) : Nat := Nat.xor (bs.foldl crcByte 0xFFFFFFFF) 0xFFFFFFFF

/-- A cyclic redundancy code of `w` bits over a string of bits, the most significant coefficient first, from a start value. -/
def crcOf (w poly start : Nat) (bs : List Bool) : Nat :=
  bs.foldl (fun c b =>
    let c2 := c * 2 % 2 ^ w
    if bit c (w - 1) ≠ b then Nat.xor c2 poly else c2) (start % 2 ^ w)

/-- The bits of a string of bytes, each from its most significant bit. -/
def bitsMsb (bs : Bytes) : List Bool := bs.flatMap (fun b => (List.range 8).map (fun k => bit b.toNat (7 - k)))

/-- CRC-8 with polynomial x^8 + x^2 + x + 1 and initial value 0 (R332). -/
def crc8 (bs : Bytes) : Nat := crcOf 8 7 0 (bitsMsb bs)

/-- The number of set bits among the low `n`. -/
def popcount : Nat → Nat → Nat
  | 0, _ => 0
  | n + 1, w => b2n (bit w n) + popcount n w

/-- The positions of the set bits below `n`, rising. -/
def setBitsOf (n w : Nat) : List Nat := (List.range n).filter (fun i => bit w i)

/-- The smallest of the elements of a list that meet a test. -/
def firstIdx (n : Nat) (p : Nat → Bool) : Option Nat := (List.range n).find? p

end Sys2Proof.Machine
end

