-- ==== Sys2Proof/Machine/Crypto.lean ====
section
/-! DEFINITION. The two standard functions that spec/ names without restating them: SHA-384 (FIPS 180-4) and
ECDSA over P-384 (FIPS 186-5), used by R187, R193, R194, R219, R326 and R415. -/

namespace Sys2Proof.Machine

/-- The integer part of the `e`-th root of a number, found bit by bit, `n` bits in all. -/
def rootBits (e x : Nat) : Nat → Nat → Nat
  | 0, acc => acc
  | n + 1, acc => rootBits e x n (if (acc + 2 ^ n) ^ e ≤ x then acc + 2 ^ n else acc)

/-- The first 64 bits of the fraction of the `e`-th root of a number below 512. -/
def rootFraction (e q : Nat) : Nat := rootBits e (q * 2 ^ (64 * e)) 69 0 % 2 ^ 64

/-- The first 80 primes. -/
def shaPrimes : List Nat :=
  (List.range 410).filter fun q => decide (2 ≤ q) && (List.range 21).all fun d => decide (d < 2 ∨ q ≤ d ∨ q % d ≠ 0)

/-- The round constants of SHA-384: from the cube roots of the first 80 primes. -/
def shaK : List Nat := shaPrimes.map (rootFraction 3)

/-- The initial hash value of SHA-384: from the square roots of the ninth to the sixteenth prime. -/
def shaInit : List Nat := ((shaPrimes.drop 8).take 8).map (rootFraction 2)

/-- Arithmetic modulo 2^64. -/
def w64 (x : Nat) : Nat := x % 2 ^ 64

/-- Rotation right of a 64-bit word. -/
def rotr (x n : Nat) : Nat := x / 2 ^ n + (x % 2 ^ n) * 2 ^ (64 - n)

/-- The small sigma functions of the message schedule. -/
def shaSig0 (x : Nat) : Nat := Nat.xor (Nat.xor (rotr x 1) (rotr x 8)) (x / 2 ^ 7)
/-- See `shaSig0`. -/
def shaSig1 (x : Nat) : Nat := Nat.xor (Nat.xor (rotr x 19) (rotr x 61)) (x / 2 ^ 6)
/-- The big sigma functions of a round. -/
def shaSum0 (x : Nat) : Nat := Nat.xor (Nat.xor (rotr x 28) (rotr x 34)) (rotr x 39)
/-- See `shaSum0`. -/
def shaSum1 (x : Nat) : Nat := Nat.xor (Nat.xor (rotr x 14) (rotr x 18)) (rotr x 41)

/-- The message schedule, kept as its last 16 words (newest last), extended `n` more words. -/
def shaExtend : Nat → List Nat → List Nat
  | 0, w => w
  | n + 1, w =>
    let l := w.length
    let x := w64 (shaSig1 (w.getD (l - 2) 0) + w.getD (l - 7) 0 + shaSig0 (w.getD (l - 15) 0) + w.getD (l - 16) 0)
    shaExtend n (w ++ [x])

/-- One round on the eight working words: the first half takes one new word at its front, the second half one between. -/
def shaRound (s : List Nat) (kw : Nat × Nat) : List Nat :=
  let v := fun k => s.getD k 0
  let choice := Nat.lor (Nat.land (v 4) (v 5)) (Nat.land (2 ^ 64 - 1 - v 4) (v 6))
  let majority := Nat.lor (Nat.land (v 0) (Nat.lor (v 1) (v 2))) (Nat.land (v 1) (v 2))
  let t := kw.1 + kw.2 + v 7 + choice + shaSum1 (v 4)
  w64 (t + majority + shaSum0 (v 0)) :: s.take 3 ++ w64 (t + v 3) :: (s.drop 4).take 3

/-- The big-endian 64-bit words of a string. -/
def shaWords : Nat → Bytes → List Nat
  | 0, _ => []
  | n + 1, bs => beVal (bs.take 8) :: shaWords n (bs.drop 8)

/-- One 128-byte block: 80 rounds, whose outcome is added to what there was. -/
def shaBlock (s : List Nat) (blk : Bytes) : List Nat :=
  (s.zip ((shaK.zip (shaExtend 64 (shaWords 16 blk))).foldl shaRound s)).map fun x => w64 (x.1 + x.2)

/-- The blocks of a padded message. -/
def shaBlocks : Nat → Bytes → List Nat → List Nat
  | 0, _, s => s
  | n + 1, bs, s => shaBlocks n (bs.drop 128) (shaBlock s (bs.take 128))

/-- The big-endian string of `n` bytes of a number. -/
def toBE (n v : Nat) : Bytes := (toLE n v).reverse

/-- The padding of a message of `n` bytes. -/
def shaPad (n : Nat) : Bytes := (0x80 : Byte) :: zeros ((239 - n % 128) % 128) ++ toBE 16 (8 * n)

/-- SHA-384 of a string: 48 bytes. -/
def sha384 (bs : Bytes) : Bytes :=
  let m := bs ++ shaPad bs.length
  ((shaBlocks (m.length / 128) m shaInit).take 6).flatMap (toBE 8)

/-- The prime of P-384. -/
def p384P : Nat := 2 ^ 384 - 2 ^ 128 - 2 ^ 96 + 2 ^ 32 - 1
/-- The coefficient b of P-384. -/
def p384B : Nat := 0xb3312fa7e23ee7e4988e056be3f82d19181d9c6efe8141120314088f5013875ac656398d8a2ed19d2a85c8edd3ec2aef
/-- The order of the base point. -/
def p384N : Nat := 0xffffffffffffffffffffffffffffffffffffffffffffffffc7634d81f4372ddf581a0db248b0a77aecec196accc52973
/-- The base point. -/
def p384G : Nat × Nat :=
  (0xaa87ca22be8b05378eb1c71ef320ad746e1d3b628ba79b9859f741e082542a385502f25dbf55296c3a545e3872760ab7,
   0x3617de4a96262c6f5d9e98bf9292dc29f8f41dbd289a147ce9da3113b5f0b8c00a60b1ce1d7e819d7a431d7c90ea0e5f)

/-- Modular power by squaring, over the low `n` bits of the exponent. -/
def powMod (m : Nat) : Nat → Nat → Nat → Nat
  | 0, _, _ => 1
  | n + 1, b, e => (if e % 2 = 1 then b else 1) * powMod m n (b * b % m) (e / 2) % m

/-- The inverse modulo a 384-bit prime. -/
def invMod (m a : Nat) : Nat := powMod m 384 (a % m) (m - 2)

/-- Subtraction modulo `m`. -/
def subMod (m a b : Nat) : Nat := (a % m + (m - b % m)) % m

/-- A point of the curve; `none` is the point at infinity. -/
abbrev EcPoint := Option (Nat × Nat)

/-- The point lies on P-384 (R194). -/
def onCurve (p : Nat × Nat) : Bool :=
  decide (p.1 < p384P) && decide (p.2 < p384P) &&
    decide (p.2 * p.2 % p384P = subMod p384P (p.1 * p.1 * p.1 + p384B) (3 * p.1))

/-- Addition of points. -/
def ecAdd (p q : EcPoint) : EcPoint :=
  match p, q with
  | none, _ => q
  | _, none => p
  | some (x1, y1), some (x2, y2) =>
    if x1 = x2 then
      if (y1 + y2) % p384P = 0 then none
      else
        let l := (subMod p384P (3 * x1 * x1) 3) * invMod p384P (2 * y1) % p384P
        let x := subMod p384P (l * l) (x1 + x2)
        some (x, subMod p384P (l * subMod p384P x1 x) y1)
    else
      let l := (subMod p384P y2 y1) * invMod p384P (subMod p384P x2 x1) % p384P
      let x := subMod p384P (l * l) (x1 + x2)
      some (x, subMod p384P (l * subMod p384P x1 x) y1)

/-- A multiple of a point, over the low `n` bits of the factor. -/
def ecMul : Nat → Nat → EcPoint → EcPoint
  | 0, _, _ => none
  | n + 1, k, p => ecAdd (if k % 2 = 1 then p else none) (ecMul n (k / 2) (ecAdd p p))

/-- ECDSA P-384 verification of a signature (r, s) over a 48-byte hash. -/
def ecdsaVerify (q : Nat × Nat) (hash : Bytes) (r s : Nat) : Bool :=
  if r = 0 ∨ s = 0 ∨ p384N ≤ r ∨ p384N ≤ s then false
  else
    let w := invMod p384N s
    let u1 := beVal hash * w % p384N
    let u2 := r * w % p384N
    match ecAdd (ecMul 384 u1 (some p384G)) (ecMul 384 u2 (some q)) with
    | none => false
    | some (x, _) => decide (x % p384N = r)

/-- The coordinates of a 97-byte uncompressed point (0x04, X, Y) (R194). -/
def pointOf (key : Bytes) : Nat × Nat := (beVal (slice key 1 48), beVal (slice key 49 48))

/-- KEY_ID: the first 8 bytes of SHA-384 over the 97-byte key, as a little-endian number (R193). -/
def keyId (key : Bytes) : Nat := leVal ((sha384 key).take 8)

end Sys2Proof.Machine
end

