-- ==== Sys2Proof/Config.lean ====
section
/-! DEFINITION. What an implementation fixes: grades, steppings and the constants the spec derives from them; and the
FREE VALUES: constants without a body that stand for what the spec leaves open, so that no proof can see what they are. -/

namespace Sys2Proof

/-- The two grades (R2). -/
inductive Grade where
  | tz8h | tz4h
deriving DecidableEq, Repr

/-- The two steppings (R1). -/
inductive Stepping where
  | a0 | b0
deriving DecidableEq, Repr

/-- Anvils populated (R2). -/
def Grade.anvils : Grade → Nat
  | .tz8h => 8
  | .tz4h => 4

/-- MOD.ID.GRADE (R27). -/
def Grade.code (g : Grade) : Nat := g.anvils

/-- Regions populated (R2). -/
def Grade.regions (g : Grade) : Nat := 8 * g.anvils

/-- Bit `a` is set if anvil `a` is populated (R27). -/
def Grade.anvilMask (g : Grade) : Nat := 2 ^ g.anvils - 1

/-- The Waltline lanes of the grade: working lanes and spares 64 on (R2, R3). -/
def Grade.hasLane (g : Grade) (l : Nat) : Bool :=
  decide (l < 8 * g.anvils) || (decide (64 ≤ l) && decide (l < 64 + g.anvils / 2))

/-- MOD.ID.STEPPING (R27). -/
def Stepping.code : Stepping → Nat
  | .a0 => 0xA0
  | .b0 => 0xB0

/-- L_BASE of R95, in steps. -/
def Stepping.lBase : Stepping → Nat
  | .a0 => 8
  | .b0 => 6

/-- HZ_LEAD of R139, in steps. -/
def Stepping.hzLead : Stepping → Nat
  | .a0 => 40
  | .b0 => 32

namespace Config

/-- SP_LAT of R124, in steps. -/
def spLat : Nat := 3
/-- DRAM_RTN of R138, in steps. -/
def dramRtn : Nat := 272
/-- The quench tree latency across one anvil (R37, R154). -/
def qTree : Nat := 6
/-- CMP_MIN of R172. -/
def cmpMin : Nat := 1
/-- End of the usable DRAM of an anvil (R254). -/
def dramUsable : Nat := 0x7C0000000
/-- Start of the audit log in the usable DRAM of anvils 0 and 1 (R327). -/
def auditBase : Nat := 0x7BFC00000
/-- End of the linear DRAM addresses of an anvil, reserve included (R255). -/
def dramEnd : Nat := 0x800000000
/-- The nominal increment of a time tick, in units of 2^-32 ns (R359). -/
def incrNominal : Nat := 0x333333333
/-- The clamp of the increment in effect (R359). -/
def incrSlack : Nat := 2748779
/-- The clamp of a reference rate: 1,000 ppm of the nominal increment (R361). -/
def rateSlack : Nat := 13743895

/-- FREE VALUE: the initial value of a packet header's CRC-16, which the spec does not give (R281). -/
opaque crc16Start : Nat
/-- FREE VALUE: the initial value of a status block's CRC-16, which the spec does not give (R333). -/
opaque statusCrcStart : Nat
/-- FREE VALUE: a bit that the spec leaves open, one for each use of the free counter. -/
opaque freeBit : Nat → Bool
/-- FREE VALUE: a number that the spec leaves open, one for each use of the free counter. -/
opaque freeNat : Nat → Nat
/-- FREE VALUE: a byte of host memory as a read by the module finds it (port, address, use). The host's memory is
outside the module. -/
opaque hostByte : Nat → Nat → Nat → Byte
/-- FREE VALUE: the level an outside driver puts on side pin `n` at a use of the free counter (R379). -/
opaque padLevel : Nat → Nat → Bool
/-- FREE VALUE: what an I2C or SPI target, or an Ethernet master, delivers. -/
opaque wireByte : Nat → Nat → Byte
/-- FREE VALUE: a measurement of the power stage (rail, use): millivolts, deciamperes, watts (R393, R405). -/
opaque measure : Nat → Nat → Nat
/-- FREE VALUE: the firmware package's verdict that a slot's bytes verify under the vendor key, whose value the
spec does not give (R415). -/
opaque vendorVerify : Bytes → Bool
/-- FREE VALUE: the version and the SVN that a package carries; the spec gives the package no layout (R415). -/
opaque packageVersion : Bytes → Nat
/-- See `packageVersion`. -/
opaque packageSvn : Bytes → Nat
/-- FREE VALUE: a factory calibration or an identity recorded for this particular module (R12). -/
opaque factoryRecord : Nat → Nat → Nat
/-- FREE VALUE: a byte of a flash area beyond what the module has written into it (use, offset). -/
opaque flashByte : Nat → Nat → Byte
/-- FREE VALUE: the hearth of a hearth agent (0 to 7), the bank and the byte that a byte address at the agent names, if it
names one; the spec gives the agents no address map (R277). -/
opaque agentByte : Nat → Option (Nat × Nat × Nat)
/-- FREE VALUE: what a self-test started by a mailbox command finds (R434). -/
opaque selfTest : Nat → List SelfTestFind

end Config

end Sys2Proof
end

