-- ==== Sys2Proof/Machine/Fields.lean ====
section
/-! DEFINITION. The name of every register field the spec gives the module (one constructor per
non-reserved row of the register tables of spec/), and the shape of a row of such a table. -/

namespace Sys2Proof.Machine

/-- A register field. The constructor is the field's name in the spec, in camel case:
`PART.CTL.S_STEPS` is `partCtlSSteps`. The table that lays each out is `regTable`. -/
inductive Fld where
  -- R27, 01_architecture.md
  | modIdGrade
  | modIdStepping
  | modIdAnvilMask
  | modSerialLo
  | modSerialHi
  | modClkLimit
  | modClkStepMhz
  | modClksetStepMhzMax
  | modRgnOnLo
  | modRgnOnHi
  -- R79, 02_boolean_processor.md
  | partHaltMode
  | partHaltCount
  | partHaltFirstValid
  | partHaltFirstAnvil
  | partHaltFirstHearth
  | partHaltFirstLbp
  | partHaltFirstStep
  | partHaltCycleLo
  | partHaltCycleHi
  -- R80, 02_boolean_processor.md
  | hearthIdAnvil
  | hearthIdHearth
  | hearthOwnUnassigned
  | hearthOwnPartition
  | hearthErrStatusOperand
  | hearthErrStatusRouteCode
  | hearthErrStatusOpcode
  | hearthErrStatusDictUncorr
  | hearthErrStatusRouteUncorr
  | hearthErrStatusInstrUncorr
  | hearthErrStatusCorr
  | hearthErrLocStep
  | hearthErrLocLbp
  | hearthErrLocDictEntry
  | hearthErrCorrCount
  | hearthMapBilletValid
  | hearthMapBilletLbp
  -- R86, 03_schedule_and_routing.md
  | partCtlSSteps
  | partSchedSExt
  | partSchedSImg
  | partSchedEnd
  | partSchedStep
  | partSchedCycleLo
  | partSchedCycleHi
  -- R96, 03_schedule_and_routing.md
  | linkIdPresent
  | linkIdPeer
  | linkIdPort
  | linkLatBase
  | linkRxdelayPad
  | linkErrCorrCount
  | linkErrUncorr
  -- R103, 03_schedule_and_routing.md
  | partRouteDdCount
  | partRouteDdFirstValid
  | partRouteDdFirstAnvil
  | partRouteDdFirstHearth
  | partRouteDdFirstChan
  | partRouteDdFirstStep
  | partRouteDdWinner
  | partRouteDdLoser
  | partRouteDdCycleLo
  | partRouteDdCycleHi
  | partRouteFenceCount
  | partRouteFenceFirstValid
  | partRouteFenceFirstAnvil
  | partRouteFenceFirstHearth
  | partRouteFenceFirstEntry
  | partRouteFenceFirstStep
  -- R104, 03_schedule_and_routing.md
  | hearthEgrStatusEgrCode
  | hearthEgrStatusInjUncorr
  | hearthEgrStatusEgrUncorr
  | hearthEgrStatusCorr
  | hearthEgrLocStep
  | hearthEgrLocEntry
  | hearthEgrCorrCount
  -- R107, 03_schedule_and_routing.md
  | partIoSbEnable
  | partIoSbPin
  -- R113, 03_schedule_and_routing.md
  | partClkDivPeriodM1
  | partClkDivHigh
  | partClkDivOffset
  | partClkMuxFollow
  | partClkMuxSel
  | partClkMuxSrcB
  | partClkMuxSrcA
  | partClkEnEdge
  | partClkEnSrc
  -- R115, 03_schedule_and_routing.md
  | partRstInit
  | partRstHold
  | partRstSync
  | partRstLevel
  | partRstAssert
  -- R119, 04_emulated_memory.md
  | hearthPortcfgTarget
  | hearthPortcfgLport
  | hearthPortcfgDp
  | hearthPortcfgShift
  | hearthPortcfgSizeLog2
  | hearthPortcfgRdPad
  | hearthPortcfgWidthM1
  | hearthPortbaseSp
  | hearthPortdramBaseLo
  | hearthPortdramBaseHi
  -- R133, 04_emulated_memory.md
  | hearthBankStatusConflict
  | hearthBankStatusUncorr
  | hearthBankStatusCorr
  | hearthBankLocStep
  | hearthBankLocPortX
  | hearthBankLocPortY
  | hearthBankLocWord
  | hearthBankWlostCount
  | hearthBankCorrCount
  -- R144, 04_emulated_memory.md
  | partMemHzCheck
  | partMemHzStep
  | partMemHzMissCount
  | partMemSlotQuenchCount
  | partMemStatusUncorr
  | partMemStatusSlotLimit
  | partMemStatusHzMiss
  | partMemSlotsAllot
  | partMemSlotsPeak
  -- R162, 05_run_control_and_compare.md
  | partRunReason
  | partRunExists
  | partRunHeld
  | partRunQuenched
  | partRunMidcycle
  | partRunMode
  | partOwnHost
  | partRgnLo
  | partRgnHi
  | partRunLeftLo
  | partRunLeftHi
  | partQuenchLatched
  | partQuenchActive
  | partQuenchLast
  | partQuenchQLat
  | partStopAt
  | partStopLaneEn
  | partStopPinEn
  | partStopPin
  | partQuenchTotalLo
  | partQuenchTotalHi
  | partQuenchStretchLo
  | partQuenchStretchHi
  | partQuenchEvents
  | partAbortGo
  -- R179, 05_run_control_and_compare.md
  | partCmpSrcStream
  | partCmpSrcCare
  | partCmpSrcResp
  | partCmpSrcStim
  | partCmpPaceMarkPin
  | partCmpPaceMode
  | partCmpDimNIn
  | partCmpDimNOut
  | partCmpLatWMax
  | partCmpLatDCmp
  | partCmpEnFmap
  | partCmpEnCompare
  | partCmpFmapBaseLo
  | partCmpFmapBaseHi
  | partCmpFmapMode
  | partCmpFmapSizeLog2
  | partCmpFmapWr
  | partCmpFmapRd
  | partCmpFmapDropCount
  | partCmpFailCount
  | partCmpFailCycles
  | partCmpStatusMarkOverrun
  | partCmpStatusFmapDrop
  | partCmpStatusFmapFull
  | partCmpStatusFail
  | partCmpFirstValid
  | partCmpFirstPin
  | partCmpFirstCycleLo
  | partCmpFirstCycleHi
  | partCmpMarkPending
  | partCmpStimLevel
  | partCmpRespLevel
  | partCmpPin
  | partCmpPincnt
  -- R196, 06_compiler_contract.md
  | modLatSpLat
  | modLatLinkBase
  | modLatHzLead
  | modLatDramRtn
  | modLatQTree
  | modLatCmpMin
  | modLatEnableTree
  -- R208, 06_compiler_contract.md
  | partLoadStatus
  | partLoadEndStage
  | partLoadStage
  | partLoadTotal
  | partLoadDone
  | partLoadRelocRowShift
  | partLoadRelocColShift
  | partLoadRelocRowSwap
  | partLoadKeySlot
  | partLoadSteppingC
  | partLoadImageId
  | partLoadFailSection
  | partLoadFailDetail
  -- R231, 07_observation.md
  | partTrigCtlDisarm
  | partTrigCtlArm
  | partTrigStatusArmed
  | partTrigStatusTriggered
  | partTrigStatusState
  | partTrigFireCycleLo
  | partTrigFireCycleHi
  | partTrigTimeAtLo
  | partTrigTimeAtHi
  | partTrigCntLimitLo
  | partTrigCntLimitHi
  | partTrigCntValueLo
  | partTrigCntValueHi
  | partTrigTmrDuration
  | partTrigTmrRunning
  | partTrigTmrExpired
  | partTrigTrInA
  | partTrigTrInB
  | partTrigTrInC
  | partTrigTrValid
  | partTrigTrNext
  | partTrigTrInD
  | partTrigTrTable
  | partTrigTrCapture
  | partTrigTrHalt
  | partTrigTrQuench
  | partTrigTrFire
  | partTrigTrToutEn
  | partTrigTrTout
  | partTrigTrCntOp
  | partTrigTrCntSel
  | partTrigTrTmrOp
  | partTrigTrTmrSel
  | partTrigTrFlagOp
  | partTrigTrFlagSel
  | partAcqCtlAutoRearm
  | partAcqCtlEnable
  | partAcqRingSizeLog2
  | partAcqRingSegLog2
  | partAcqBaseLo
  | partAcqBaseHi
  | partAcqPost
  | partAcqRecBytes
  | partAcqNProbe
  | partAcqSegWr
  | partAcqSegRd
  | partAcqStatusDrop
  | partAcqStatusWait
  | partAcqStatusPost
  | partAcqDropCount
  | partCapBaseLo
  | partCapBaseHi
  | partCapTrigDram
  | partCapTrigSp
  | partCapSizeMib
  | partCapNeedUs
  | partCapNeedSp
  | partCapStatusLast
  | partCapStatusMissed
  | partCapStatusState
  | partCapCycleLo
  | partCapCycleHi
  | partCapSpLost
  | partCapDramCopied
  | partCapDramLost
  -- R252, 08_trace.md
  | traceCtlStopNow
  | traceCtlTz3Mode
  | traceCtlEnable
  | traceStatusSinkErr
  | traceStatusStallLimit
  | traceStatusOverflow
  | traceStatusState
  | traceSrcEnLo
  | traceSrcEnHi
  | traceStallEn
  | traceStallLimitUs
  | traceSyncLog2
  | traceEvtPower
  | traceEvtSched
  | traceEvtDram
  | traceEvtNoc
  | traceSinkQueue
  | traceSinkMode
  | traceSinkKind
  | traceBufBaseLo
  | traceBufValid
  | traceBufSizeLog2
  | traceBufAnvil
  | traceBufBaseHi
  | traceBufWr
  | traceBufRd
  | traceTriggerPinEn
  | traceTriggerPin
  | traceTriggerPartEn
  | traceTriggerPart
  | traceStopDelay
  | traceStopLeft
  | traceDropCount
  | traceStallNs
  | traceTrigMissed
  | traceTrigTimeLo
  | traceTrigTimeHi
  -- R274, 09_dram.md
  | ddrStatusReserveEmpty
  | ddrStatusMigrating
  | ddrStatusRankOut
  | ddrStatusMarkActive
  | ddrStatusFrozen
  | ddrCfgAgeNs
  | ddrCfgPdNs
  | ddrScrubPeriodH
  | ddrReserveRetired
  | ddrReserveLent
  | ddrReserveFree
  | ddrFrzClass
  | ddrFrzKind
  | ddrFrzRow
  | ddrFrzBurst
  | ddrFrzBank
  | ddrFrzRank
  | ddrFrzSubch
  | ddrFrzAddrLo
  | ddrFrzAddrHi
  | ddrFrzSource
  | ddrFrzDevMask
  | ddrFrzTimeLo
  | ddrFrzTimeHi
  -- R275, 09_dram.md
  | ddrMarkValid
  | ddrMarkDevice
  | ddrMarkLeft
  | ddrErrCorrCount
  | ddrErrUncorrCount
  | ddrEcsCount
  | ddrErrSymCount
  | ddrRefHidden
  | ddrRefForced
  | ddrSlotPeak
  | ddrSlotFullCount
  | ddrOrdPromoted
  | ddrOrdInorder
  | ddrWcrcRetry
  | ddrPdEntries
  -- R294, 10_noc.md
  | nocEpochShadowValid
  | nocEpochRetiring
  | nocEpochCurrent
  | nocCfgCplTimeoutMs
  | nocCfgStarveUs
  | nocCfgFenceTimeoutUs
  | nocTagInuse
  | nocTagPeak
  | nocTagFullCount
  | nocErrStatusEpochTimeout
  | nocErrStatusDrainTimeout
  | nocErrStatusLinkDown
  | nocErrStatusLate
  | nocErrStatusTimeout
  | nocErrStatusPoison
  | nocErrStatusUnroutable
  | nocErrStatusEpoch
  | nocErrStatusHeader
  | nocErrCorrCount
  | nocErrDiscardCount
  | nocErrTimeoutCount
  | nocErrLateCount
  | nocStallCount
  | nocFenceDraining
  | nocFenceFenced
  | nocLinkUpMgmt
  | nocLinkUp
  -- R295, 10_noc.md
  | nocRouteSet0
  | nocRouteSet1
  -- R305, 11_host_interface.md
  | mboxCtlAck
  | mboxCtlGo
  | mboxStateProto
  | mboxStateState
  -- R323, 11_host_interface.md
  | hostRoleGrant
  | hostLinkUp
  | hostLinkWidth
  | hostLinkSpeed
  | hostId
  | hostDmaTagPeak
  | hostDmaTagInuse
  | hostDmaTagFullCount
  | hostErrStatusTimeout
  | hostErrStatusAccess
  | hostErrStatusEcrc
  | hostErrStatusDma
  | hostErrStatusLinkDown
  | hostErrStatusFlr
  | hostErrForeignCount
  | hostBifurcCurrent
  | hostBifurcNext
  | hostEvtUndelivered
  -- R324, 11_host_interface.md
  | queueCfgPart
  | queueCfgPort
  | queueCfgEntryLog2
  | queueCfgSizeLog2
  | queueCfgType
  | queueBaseLo
  | queueBaseHi
  | queueWbLo
  | queueWbHi
  | queuePair
  | queueCtlEnable
  | queuePidx
  | queueCidx
  | queueStatusEntryErr
  | queueStatusDmaErr
  | queueStatusDrop
  | queueStatusSetupErr
  | queueStatusDbErr
  | queueStatusFull
  | queueDropCount
  | taskCfgChainEn
  | taskCfgModeAll
  | taskCfgPrio
  | taskCfgBatchM1
  | taskCfgPred
  | taskMask
  | taskFlagsSoft
  | taskFlagsHw
  | queueIntEn
  | queueIntCoalUs
  | queueIntCoalNM1
  | queueIntVector
  | taskDispatchCount
  -- R354, 12_stream_lanes.md
  | wlTrainPolarity
  | wlTrainPartner
  | wlTrainLogical
  | wlTrainState
  | wlLaneCtlRetrain
  | wlLaneCtlEnable
  | wlLaneErrCrcCount
  | wlLaneErrReplayCount
  | wlLaneErrBlockCount
  | wlLaneErrLockLoss
  | wlLaneStatusRetryLimit
  | wlLaneStatusDeskew
  | wlLaneStatusCapMismatch
  | wlLaneStatusTrainFail
  | wlLaneStatusCrc
  | wlPrbsInjBurst
  | wlPrbsInjRateLog2
  | wlPrbsInjGo
  | wlPrbsInjMode
  | wlPrbsLock
  | wlPrbsChkEn
  | wlPrbsGenEn
  | wlPrbsMode
  | wlPrbsErrCount
  | wlPrbsBitsLo
  | wlPrbsBitsHi
  -- R355, 12_stream_lanes.md
  | wlBundleBanked
  | wlBundleSpareFor
  | wlBundleAligned
  | wlBundleActive
  | wlBundleCfgAutoWake
  | wlBundleCfgAutoSpare
  | wlBundleCfgRate
  | wlBundlePartnerId
  | wlBundlePartnerBundle
  | wlBundleSkewNs
  | wlBundleErrLimit
  | wlBundleReplayUs
  -- R356, 12_stream_lanes.md
  | wlStreamBindValid
  | wlStreamBindInEn
  | wlStreamBindOutEn
  | wlStreamBindPrimary
  | wlStreamBindPart
  | wlStreamBindBundles
  | wlStreamInSseq
  | wlStreamInLimit
  | wlStreamOutSseq
  | wlStreamOutLimit
  | wlStreamOutGen
  | wlStreamInGen
  | wlStreamMarkCount
  | wlStreamOutDropCount
  | wlStreamStallNs
  | wlStreamStatusOutDrop
  | wlStreamStatusCredit
  | wlStreamStatusFormat
  -- R371, 13_time.md
  | timeNowLo
  | timeNowHi
  | timeNowFrac
  | timeIncrFrac
  | timeIncrIncrNs
  | timeIncrEffFrac
  | timeCfgSlewPpm
  | timeCfgPhaseSrc
  | timeCfgFollow
  | timeCfgFreqSrc
  | timeStatusMismatch
  | timeStatusPpsLost
  | timeStatusFreqLost
  | timeStatusSet
  | timeStatusServo
  | timeServoOffsetNs
  | timeServoSlewNs
  | timeServoBoundNs
  | timeServoUnlockNs
  | timeServoLockNs
  | timePtpCfgDomain
  | timePtpCfgL2
  | timePtpMeanDelayNs
  | timePtpMasterLo
  | timePtpMasterHi
  | timePtpUtcOffset
  | timeAdjEthRx
  | timeAdjEthTx
  | timeAdjAsym
  | timeAdjPps
  | timeAdjWlRx
  | timeAdjWlTx
  | timeAdjTrig
  | timeCapValid
  | timeCapArm
  | timeCapSrc
  | timeCapTsLo
  | timeCapTsHi
  | timeRefRateFrac
  | timeRefRateNs
  | timeRefAdj
  | timeRefValueLo
  | timeRefValueHi
  | timeLaunchTLo
  | timeLaunchTHi
  | timeLaunchPeriod
  | timeLaunchArmed
  | timeLaunchArm
  | timeLaunchDisarm
  | timeLaunchKind
  | timeLaunchLate
  | timeLaunchQueue
  | timeLaunchOverrun
  | timeLaunchSetupErr
  | timeLaunchSel
  | timeLaunchWidthM1
  | timeLaunchCount
  | timeLaunchDone
  | timeLaunchLastLo
  | timeLaunchLastHi
  -- R386, 14_side_pins.md
  | spPinOwner
  | spPinFunc
  | spPinPull
  | spPinDrive
  | spPinShort
  | spPinDup
  | spPinHold
  | spGpioOutLo
  | spGpioOutHi
  | spGpioSetLo
  | spGpioSetHi
  | spGpioClrLo
  | spGpioClrHi
  | spGpioTglLo
  | spGpioTglHi
  | spGpioInLo
  | spGpioInHi
  | spBankRamping
  | spBankVsel
  | spCfgLatched
  | spCfgStrap
  | spCfgStbyLp
  | spUartRxDrop
  | spUartRxLevel
  -- R405, 15_power_and_energy.md
  | pwrStatusAuxFault
  | pwrStatusTrip
  | pwrStatusCoolTemp
  | pwrStatusCoolFlow
  | pwrStatusDuty
  | pwrStatusDropout
  | pwrStatusShare
  | pwrStatusLowLine
  | pwrStatusFeedB
  | pwrStatusFeedA
  | pwrInVDv
  | pwrInW
  | pwrInPf
  | pwrInLimitW
  | pwrInTotalW
  | pwrCfgLimitW
  | pwrCfgLowMhz
  | pwrCfgTjTargetC
  | pwrAuxEn
  | pwrBellowsCeilMhz
  | pwrDutyPpm
  | pwrCoolInDc
  | pwrCoolOutDc
  | pwrCoolFlowCl
  | pwrTjAnvil
  | pwrTjMaxC
  | pwrRailFirstValid
  | pwrRailFirstKind
  | pwrRailFirstRail
  | pwrRailFaultCount
  | pwrInDropoutCount
  | pwrPartProtect
  | pwrRailOn
  | pwrRailGood
  | pwrRailAmpsDa
  | pwrRailMv
  -- R420, 16_startup_and_settings.md
  | modStateFactoryBad
  | modStateLastReset
  | modStateMode
  | modBootAutoWake
  | modBootRejected
  | modBootSettingsSrc
  | modBootGeneration
  | modFwFallbacks
  | modFwBValid
  | modFwAValid
  | modFwNext
  | modFwTrial
  | modFwActive
  | modFwVerA
  | modFwVerB
  | modFwSvnMin
  -- R441, 17_service_life.md
  | hearthTemperWorstTap
  | hearthTemperMarginPm
  | hearthBilletFailed
  | hearthBilletFree
  | hearthTemperBilletIn
  | hearthTemperBilletPm
  -- R442, 17_service_life.md
  | svcCond
  | svcStewardFailovers
  | svcStewardAnvil
  | svcCpout
  | svcTemperCeilMhz
  | svcTemperGuardPm
  | svcTemperSamples
  | svcBilletInserts
  | svcScrubPeriodS
  | svcLinkOut
  | svcRegionState
  | svcRegionVcoreMv
  | svcRegionMarginPm
  | svcAvailOutMs
  | svcAvailOutEvents
  | svcAvailExtMs
  | svcAvailExposedS
deriving DecidableEq, Repr

/-- The register blocks (each chapter gives its base address and stride). -/
inductive Blk where
  | mod | trace | time | sp | pwr | svc | hostif | queue | part | cmp | obs | link | ddr | noc
  | wlLane | wlBundle | wlStream | hearth | mbox
deriving DecidableEq, Repr

/-- Access codes of R10. -/
inductive Access where
  | ro | rw | w1c | w1s | wo | rc
deriving DecidableEq, Repr

/-- Field classes of R13 (`none` for a field that is not writable). -/
inductive FClass where
  | none | static | boundary | live
deriving DecidableEq, Repr

/-- One row of a register table: the field lies at `base + stride1 * i1 + stride2 * i2` of its block,
bits `[hi:lo]`, for `i1 < count1` and `i2 < count2`; its index within a block instance is
`i1 * count2 + i2`. `reset` is the Reset column (for a "settings" field, its factory default). -/
structure FieldInfo where
  fld : Fld
  blk : Blk
  base : Nat
  stride1 : Nat
  count1 : Nat
  stride2 : Nat
  count2 : Nat
  hi : Nat
  lo : Nat
  acc : Access
  cls : FClass
  reset : Nat
  settings : Bool
deriving DecidableEq, Repr

end Sys2Proof.Machine
end

