-- ==== Sys2Proof/Machine/RegTable.lean ====
section
/-! DEFINITION. The register tables of spec/ (R27, R79, R80, R86, R96, R103, R104, R107, R113, R115, R119,
R133, R144, R162, R179, R196, R208, R231, R252, R274, R275, R294, R295, R305, R323, R324, R354, R355, R356,
R371, R386, R405, R420, R441, R442), row by row, in the order of `Fld`. -/

namespace Sys2Proof.Machine

/-- 01_architecture.md, R27. -/
def regTableR27 : List FieldInfo := [
  ⟨.modIdGrade, .mod, 0x0, 0, 1, 0, 1, 31, 16, .ro, .none, 0x0, false⟩,
  ⟨.modIdStepping, .mod, 0x0, 0, 1, 0, 1, 15, 8, .ro, .none, 0x0, false⟩,
  ⟨.modIdAnvilMask, .mod, 0x0, 0, 1, 0, 1, 7, 0, .ro, .none, 0x0, false⟩,
  ⟨.modSerialLo, .mod, 0x4, 0, 1, 0, 1, 31, 0, .ro, .none, 0x0, true⟩,
  ⟨.modSerialHi, .mod, 0x8, 0, 1, 0, 1, 31, 0, .ro, .none, 0x0, true⟩,
  ⟨.modClkLimit, .mod, 0x10, 0, 1, 0, 1, 18, 16, .ro, .none, 0x0, false⟩,
  ⟨.modClkStepMhz, .mod, 0x10, 0, 1, 0, 1, 15, 0, .ro, .none, 0x640, false⟩,
  ⟨.modClksetStepMhzMax, .mod, 0x14, 0, 1, 0, 1, 15, 0, .rw, .static, 0x640, true⟩,
  ⟨.modRgnOnLo, .mod, 0x18, 0, 1, 0, 1, 31, 0, .ro, .none, 0x0, false⟩,
  ⟨.modRgnOnHi, .mod, 0x1c, 0, 1, 0, 1, 31, 0, .ro, .none, 0x0, false⟩]

/-- 02_boolean_processor.md, R79. -/
def regTableR79 : List FieldInfo := [
  ⟨.partHaltMode, .part, 0x400, 0, 1, 0, 1, 1, 0, .rw, .boundary, 0x1, true⟩,
  ⟨.partHaltCount, .part, 0x404, 0, 1, 0, 1, 31, 0, .rc, .none, 0x0, false⟩,
  ⟨.partHaltFirstValid, .part, 0x408, 0, 1, 0, 1, 31, 31, .w1c, .live, 0x0, false⟩,
  ⟨.partHaltFirstAnvil, .part, 0x408, 0, 1, 0, 1, 29, 27, .ro, .none, 0x0, false⟩,
  ⟨.partHaltFirstHearth, .part, 0x408, 0, 1, 0, 1, 26, 20, .ro, .none, 0x0, false⟩,
  ⟨.partHaltFirstLbp, .part, 0x408, 0, 1, 0, 1, 19, 10, .ro, .none, 0x0, false⟩,
  ⟨.partHaltFirstStep, .part, 0x408, 0, 1, 0, 1, 9, 0, .ro, .none, 0x0, false⟩,
  ⟨.partHaltCycleLo, .part, 0x410, 0, 1, 0, 1, 31, 0, .ro, .none, 0x0, false⟩,
  ⟨.partHaltCycleHi, .part, 0x414, 0, 1, 0, 1, 31, 0, .ro, .none, 0x0, false⟩]

/-- 02_boolean_processor.md, R80. -/
def regTableR80 : List FieldInfo := [
  ⟨.hearthIdAnvil, .hearth, 0x0, 0, 1, 0, 1, 10, 8, .ro, .none, 0x0, false⟩,
  ⟨.hearthIdHearth, .hearth, 0x0, 0, 1, 0, 1, 6, 0, .ro, .none, 0x0, false⟩,
  ⟨.hearthOwnUnassigned, .hearth, 0x4, 0, 1, 0, 1, 5, 5, .ro, .none, 0x1, false⟩,
  ⟨.hearthOwnPartition, .hearth, 0x4, 0, 1, 0, 1, 4, 0, .ro, .none, 0x0, false⟩,
  ⟨.hearthErrStatusOperand, .hearth, 0x10, 0, 1, 0, 1, 6, 6, .w1c, .live, 0x0, false⟩,
  ⟨.hearthErrStatusRouteCode, .hearth, 0x10, 0, 1, 0, 1, 5, 5, .w1c, .live, 0x0, false⟩,
  ⟨.hearthErrStatusOpcode, .hearth, 0x10, 0, 1, 0, 1, 4, 4, .w1c, .live, 0x0, false⟩,
  ⟨.hearthErrStatusDictUncorr, .hearth, 0x10, 0, 1, 0, 1, 3, 3, .w1c, .live, 0x0, false⟩,
  ⟨.hearthErrStatusRouteUncorr, .hearth, 0x10, 0, 1, 0, 1, 2, 2, .w1c, .live, 0x0, false⟩,
  ⟨.hearthErrStatusInstrUncorr, .hearth, 0x10, 0, 1, 0, 1, 1, 1, .w1c, .live, 0x0, false⟩,
  ⟨.hearthErrStatusCorr, .hearth, 0x10, 0, 1, 0, 1, 0, 0, .w1c, .live, 0x0, false⟩,
  ⟨.hearthErrLocStep, .hearth, 0x14, 0, 1, 0, 1, 29, 20, .ro, .none, 0x0, false⟩,
  ⟨.hearthErrLocLbp, .hearth, 0x14, 0, 1, 0, 1, 19, 10, .ro, .none, 0x0, false⟩,
  ⟨.hearthErrLocDictEntry, .hearth, 0x14, 0, 1, 0, 1, 7, 0, .ro, .none, 0x0, false⟩,
  ⟨.hearthErrCorrCount, .hearth, 0x18, 0, 1, 0, 1, 31, 0, .rc, .none, 0x0, false⟩,
  ⟨.hearthMapBilletValid, .hearth, 0x100, 4, 32, 0, 1, 31, 31, .ro, .none, 0x0, true⟩,
  ⟨.hearthMapBilletLbp, .hearth, 0x100, 4, 32, 0, 1, 9, 0, .ro, .none, 0x0, true⟩]

/-- 03_schedule_and_routing.md, R86. -/
def regTableR86 : List FieldInfo := [
  ⟨.partCtlSSteps, .part, 0x0, 0, 1, 0, 1, 10, 0, .rw, .static, 0x400, false⟩,
  ⟨.partSchedSExt, .part, 0x4, 0, 1, 0, 1, 16, 16, .ro, .none, 0x0, false⟩,
  ⟨.partSchedSImg, .part, 0x4, 0, 1, 0, 1, 10, 0, .ro, .none, 0x400, false⟩,
  ⟨.partSchedEnd, .part, 0x8, 0, 1, 0, 1, 10, 10, .ro, .none, 0x0, false⟩,
  ⟨.partSchedStep, .part, 0x8, 0, 1, 0, 1, 9, 0, .ro, .none, 0x0, false⟩,
  ⟨.partSchedCycleLo, .part, 0x10, 0, 1, 0, 1, 31, 0, .ro, .none, 0x0, false⟩,
  ⟨.partSchedCycleHi, .part, 0x14, 0, 1, 0, 1, 31, 0, .ro, .none, 0x0, false⟩]

/-- 03_schedule_and_routing.md, R96. -/
def regTableR96 : List FieldInfo := [
  ⟨.linkIdPresent, .link, 0x0, 0, 1, 0, 1, 16, 16, .ro, .none, 0x1, false⟩,
  ⟨.linkIdPeer, .link, 0x0, 0, 1, 0, 1, 10, 8, .ro, .none, 0x0, false⟩,
  ⟨.linkIdPort, .link, 0x0, 0, 1, 0, 1, 1, 0, .ro, .none, 0x0, false⟩,
  ⟨.linkLatBase, .link, 0x4, 0, 1, 0, 1, 3, 0, .ro, .none, 0x0, false⟩,
  ⟨.linkRxdelayPad, .link, 0x10, 4, 8, 0, 1, 2, 0, .rw, .static, 0x0, false⟩,
  ⟨.linkErrCorrCount, .link, 0x40, 0, 1, 0, 1, 31, 0, .rc, .none, 0x0, false⟩,
  ⟨.linkErrUncorr, .link, 0x44, 0, 1, 0, 1, 0, 0, .w1c, .live, 0x0, false⟩]

/-- 03_schedule_and_routing.md, R103. -/
def regTableR103 : List FieldInfo := [
  ⟨.partRouteDdCount, .part, 0x500, 0, 1, 0, 1, 31, 0, .rc, .none, 0x0, false⟩,
  ⟨.partRouteDdFirstValid, .part, 0x504, 0, 1, 0, 1, 31, 31, .w1c, .live, 0x0, false⟩,
  ⟨.partRouteDdFirstAnvil, .part, 0x504, 0, 1, 0, 1, 29, 27, .ro, .none, 0x0, false⟩,
  ⟨.partRouteDdFirstHearth, .part, 0x504, 0, 1, 0, 1, 26, 20, .ro, .none, 0x0, false⟩,
  ⟨.partRouteDdFirstChan, .part, 0x504, 0, 1, 0, 1, 17, 10, .ro, .none, 0x0, false⟩,
  ⟨.partRouteDdFirstStep, .part, 0x504, 0, 1, 0, 1, 9, 0, .ro, .none, 0x0, false⟩,
  ⟨.partRouteDdWinner, .part, 0x508, 0, 1, 0, 1, 18, 0, .ro, .none, 0x0, false⟩,
  ⟨.partRouteDdLoser, .part, 0x50c, 0, 1, 0, 1, 18, 0, .ro, .none, 0x0, false⟩,
  ⟨.partRouteDdCycleLo, .part, 0x510, 0, 1, 0, 1, 31, 0, .ro, .none, 0x0, false⟩,
  ⟨.partRouteDdCycleHi, .part, 0x514, 0, 1, 0, 1, 31, 0, .ro, .none, 0x0, false⟩,
  ⟨.partRouteFenceCount, .part, 0x520, 0, 1, 0, 1, 31, 0, .rc, .none, 0x0, false⟩,
  ⟨.partRouteFenceFirstValid, .part, 0x524, 0, 1, 0, 1, 31, 31, .w1c, .live, 0x0, false⟩,
  ⟨.partRouteFenceFirstAnvil, .part, 0x524, 0, 1, 0, 1, 29, 27, .ro, .none, 0x0, false⟩,
  ⟨.partRouteFenceFirstHearth, .part, 0x524, 0, 1, 0, 1, 26, 20, .ro, .none, 0x0, false⟩,
  ⟨.partRouteFenceFirstEntry, .part, 0x524, 0, 1, 0, 1, 18, 10, .ro, .none, 0x0, false⟩,
  ⟨.partRouteFenceFirstStep, .part, 0x524, 0, 1, 0, 1, 9, 0, .ro, .none, 0x0, false⟩]

/-- 03_schedule_and_routing.md, R104. -/
def regTableR104 : List FieldInfo := [
  ⟨.hearthEgrStatusEgrCode, .hearth, 0x20, 0, 1, 0, 1, 3, 3, .w1c, .live, 0x0, false⟩,
  ⟨.hearthEgrStatusInjUncorr, .hearth, 0x20, 0, 1, 0, 1, 2, 2, .w1c, .live, 0x0, false⟩,
  ⟨.hearthEgrStatusEgrUncorr, .hearth, 0x20, 0, 1, 0, 1, 1, 1, .w1c, .live, 0x0, false⟩,
  ⟨.hearthEgrStatusCorr, .hearth, 0x20, 0, 1, 0, 1, 0, 0, .w1c, .live, 0x0, false⟩,
  ⟨.hearthEgrLocStep, .hearth, 0x24, 0, 1, 0, 1, 29, 20, .ro, .none, 0x0, false⟩,
  ⟨.hearthEgrLocEntry, .hearth, 0x24, 0, 1, 0, 1, 17, 9, .ro, .none, 0x0, false⟩,
  ⟨.hearthEgrCorrCount, .hearth, 0x28, 0, 1, 0, 1, 31, 0, .rc, .none, 0x0, false⟩]

/-- 03_schedule_and_routing.md, R107. -/
def regTableR107 : List FieldInfo := [
  ⟨.partIoSbEnable, .part, 0x600, 4, 32, 0, 1, 31, 31, .rw, .static, 0x0, false⟩,
  ⟨.partIoSbPin, .part, 0x600, 4, 32, 0, 1, 13, 0, .rw, .static, 0x0, false⟩]

/-- 03_schedule_and_routing.md, R113. -/
def regTableR113 : List FieldInfo := [
  ⟨.partClkDivPeriodM1, .part, 0x100, 4, 16, 0, 1, 31, 16, .rw, .boundary, 0x0, false⟩,
  ⟨.partClkDivHigh, .part, 0x100, 4, 16, 0, 1, 15, 0, .rw, .boundary, 0x0, false⟩,
  ⟨.partClkDivOffset, .part, 0x140, 4, 16, 0, 1, 15, 0, .rw, .static, 0x0, false⟩,
  ⟨.partClkMuxFollow, .part, 0x180, 4, 16, 0, 1, 17, 17, .ro, .none, 0x1, false⟩,
  ⟨.partClkMuxSel, .part, 0x180, 4, 16, 0, 1, 16, 16, .rw, .boundary, 0x0, false⟩,
  ⟨.partClkMuxSrcB, .part, 0x180, 4, 16, 0, 1, 11, 8, .rw, .static, 0x0, false⟩,
  ⟨.partClkMuxSrcA, .part, 0x180, 4, 16, 0, 1, 3, 0, .rw, .static, 0x0, false⟩,
  ⟨.partClkEnEdge, .part, 0x200, 4, 64, 0, 1, 7, 5, .rw, .boundary, 0x0, false⟩,
  ⟨.partClkEnSrc, .part, 0x200, 4, 64, 0, 1, 4, 0, .rw, .boundary, 0x0, false⟩]

/-- 03_schedule_and_routing.md, R115. -/
def regTableR115 : List FieldInfo := [
  ⟨.partRstInit, .part, 0x300, 4, 16, 0, 1, 24, 24, .rw, .static, 0x0, false⟩,
  ⟨.partRstHold, .part, 0x300, 4, 16, 0, 1, 23, 16, .rw, .boundary, 0x0, false⟩,
  ⟨.partRstSync, .part, 0x300, 4, 16, 0, 1, 14, 8, .rw, .static, 0x40, false⟩,
  ⟨.partRstLevel, .part, 0x300, 4, 16, 0, 1, 1, 1, .ro, .none, 0x0, false⟩,
  ⟨.partRstAssert, .part, 0x300, 4, 16, 0, 1, 0, 0, .rw, .boundary, 0x0, false⟩]

/-- 04_emulated_memory.md, R119. -/
def regTableR119 : List FieldInfo := [
  ⟨.hearthPortcfgTarget, .hearth, 0x200, 32, 16, 0, 1, 31, 30, .rw, .static, 0x0, false⟩,
  ⟨.hearthPortcfgLport, .hearth, 0x200, 32, 16, 0, 1, 29, 29, .rw, .static, 0x0, false⟩,
  ⟨.hearthPortcfgDp, .hearth, 0x200, 32, 16, 0, 1, 28, 28, .rw, .static, 0x0, false⟩,
  ⟨.hearthPortcfgShift, .hearth, 0x200, 32, 16, 0, 1, 27, 26, .rw, .static, 0x0, false⟩,
  ⟨.hearthPortcfgSizeLog2, .hearth, 0x200, 32, 16, 0, 1, 20, 16, .rw, .static, 0x3, false⟩,
  ⟨.hearthPortcfgRdPad, .hearth, 0x200, 32, 16, 0, 1, 14, 12, .rw, .static, 0x0, false⟩,
  ⟨.hearthPortcfgWidthM1, .hearth, 0x200, 32, 16, 0, 1, 5, 0, .rw, .static, 0x3f, false⟩,
  ⟨.hearthPortbaseSp, .hearth, 0x204, 32, 16, 0, 1, 16, 0, .rw, .static, 0x0, false⟩,
  ⟨.hearthPortdramBaseLo, .hearth, 0x208, 32, 16, 0, 1, 31, 0, .rw, .static, 0x0, false⟩,
  ⟨.hearthPortdramBaseHi, .hearth, 0x20c, 32, 16, 0, 1, 2, 0, .rw, .static, 0x0, false⟩]

/-- 04_emulated_memory.md, R133. -/
def regTableR133 : List FieldInfo := [
  ⟨.hearthBankStatusConflict, .hearth, 0x400, 32, 2, 0, 1, 2, 2, .w1c, .live, 0x0, false⟩,
  ⟨.hearthBankStatusUncorr, .hearth, 0x400, 32, 2, 0, 1, 1, 1, .w1c, .live, 0x0, false⟩,
  ⟨.hearthBankStatusCorr, .hearth, 0x400, 32, 2, 0, 1, 0, 0, .w1c, .live, 0x0, false⟩,
  ⟨.hearthBankLocStep, .hearth, 0x404, 32, 2, 0, 1, 31, 22, .ro, .none, 0x0, false⟩,
  ⟨.hearthBankLocPortX, .hearth, 0x404, 32, 2, 0, 1, 21, 18, .ro, .none, 0x0, false⟩,
  ⟨.hearthBankLocPortY, .hearth, 0x404, 32, 2, 0, 1, 17, 14, .ro, .none, 0x0, false⟩,
  ⟨.hearthBankLocWord, .hearth, 0x404, 32, 2, 0, 1, 13, 0, .ro, .none, 0x0, false⟩,
  ⟨.hearthBankWlostCount, .hearth, 0x408, 32, 2, 0, 1, 31, 0, .rc, .none, 0x0, false⟩,
  ⟨.hearthBankCorrCount, .hearth, 0x40c, 32, 2, 0, 1, 31, 0, .rc, .none, 0x0, false⟩]

/-- 04_emulated_memory.md, R144. -/
def regTableR144 : List FieldInfo := [
  ⟨.partMemHzCheck, .part, 0x700, 0, 1, 0, 1, 25, 16, .ro, .none, 0x0, false⟩,
  ⟨.partMemHzStep, .part, 0x700, 0, 1, 0, 1, 9, 0, .ro, .none, 0x0, false⟩,
  ⟨.partMemHzMissCount, .part, 0x704, 0, 1, 0, 1, 31, 0, .rc, .none, 0x0, false⟩,
  ⟨.partMemSlotQuenchCount, .part, 0x708, 0, 1, 0, 1, 31, 0, .rc, .none, 0x0, false⟩,
  ⟨.partMemStatusUncorr, .part, 0x70c, 0, 1, 0, 1, 2, 2, .w1c, .live, 0x0, false⟩,
  ⟨.partMemStatusSlotLimit, .part, 0x70c, 0, 1, 0, 1, 1, 1, .w1c, .live, 0x0, false⟩,
  ⟨.partMemStatusHzMiss, .part, 0x70c, 0, 1, 0, 1, 0, 0, .w1c, .live, 0x0, false⟩,
  ⟨.partMemSlotsAllot, .part, 0x720, 4, 8, 0, 1, 8, 0, .rw, .static, 0x0, false⟩,
  ⟨.partMemSlotsPeak, .part, 0x740, 4, 8, 0, 1, 8, 0, .rc, .none, 0x0, false⟩]

/-- 05_run_control_and_compare.md, R162. -/
def regTableR162 : List FieldInfo := [
  ⟨.partRunReason, .part, 0x800, 0, 1, 0, 1, 15, 8, .ro, .none, 0x0, false⟩,
  ⟨.partRunExists, .part, 0x800, 0, 1, 0, 1, 6, 6, .ro, .none, 0x0, false⟩,
  ⟨.partRunHeld, .part, 0x800, 0, 1, 0, 1, 5, 5, .ro, .none, 0x0, false⟩,
  ⟨.partRunQuenched, .part, 0x800, 0, 1, 0, 1, 4, 4, .ro, .none, 0x0, false⟩,
  ⟨.partRunMidcycle, .part, 0x800, 0, 1, 0, 1, 3, 3, .ro, .none, 0x0, false⟩,
  ⟨.partRunMode, .part, 0x800, 0, 1, 0, 1, 2, 0, .ro, .none, 0x0, false⟩,
  ⟨.partOwnHost, .part, 0x804, 0, 1, 0, 1, 1, 0, .ro, .none, 0x0, false⟩,
  ⟨.partRgnLo, .part, 0x808, 0, 1, 0, 1, 31, 0, .ro, .none, 0x0, false⟩,
  ⟨.partRgnHi, .part, 0x80c, 0, 1, 0, 1, 31, 0, .ro, .none, 0x0, false⟩,
  ⟨.partRunLeftLo, .part, 0x810, 0, 1, 0, 1, 31, 0, .ro, .none, 0x0, false⟩,
  ⟨.partRunLeftHi, .part, 0x814, 0, 1, 0, 1, 31, 0, .ro, .none, 0x0, false⟩,
  ⟨.partQuenchLatched, .part, 0x820, 0, 1, 0, 1, 31, 16, .ro, .none, 0x0, false⟩,
  ⟨.partQuenchActive, .part, 0x820, 0, 1, 0, 1, 15, 0, .ro, .none, 0x0, false⟩,
  ⟨.partQuenchLast, .part, 0x824, 0, 1, 0, 1, 11, 8, .ro, .none, 0x0, false⟩,
  ⟨.partQuenchQLat, .part, 0x824, 0, 1, 0, 1, 5, 0, .ro, .none, 0x6, false⟩,
  ⟨.partStopAt, .part, 0x830, 0, 1, 0, 1, 10, 10, .rw, .static, 0x0, true⟩,
  ⟨.partStopLaneEn, .part, 0x830, 0, 1, 0, 1, 9, 9, .rw, .static, 0x1, true⟩,
  ⟨.partStopPinEn, .part, 0x830, 0, 1, 0, 1, 8, 8, .rw, .static, 0x0, true⟩,
  ⟨.partStopPin, .part, 0x830, 0, 1, 0, 1, 3, 0, .rw, .static, 0x0, true⟩,
  ⟨.partQuenchTotalLo, .part, 0x838, 0, 1, 0, 1, 31, 0, .ro, .none, 0x0, false⟩,
  ⟨.partQuenchTotalHi, .part, 0x83c, 0, 1, 0, 1, 31, 0, .ro, .none, 0x0, false⟩,
  ⟨.partQuenchStretchLo, .part, 0x840, 16, 13, 0, 1, 31, 0, .ro, .none, 0x0, false⟩,
  ⟨.partQuenchStretchHi, .part, 0x844, 16, 13, 0, 1, 31, 0, .ro, .none, 0x0, false⟩,
  ⟨.partQuenchEvents, .part, 0x848, 16, 13, 0, 1, 31, 0, .rc, .none, 0x0, false⟩]

/-- 05_run_control_and_compare.md, R162. -/
def regTableR162b : List FieldInfo := [
  ⟨.partAbortGo, .part, 0x980, 0, 1, 0, 1, 0, 0, .wo, .live, 0x0, false⟩]

/-- 05_run_control_and_compare.md, R179. -/
def regTableR179 : List FieldInfo := [
  ⟨.partCmpSrcStream, .cmp, 0x0, 0, 1, 0, 1, 20, 16, .rw, .static, 0x0, false⟩,
  ⟨.partCmpSrcCare, .cmp, 0x0, 0, 1, 0, 1, 4, 4, .rw, .static, 0x0, false⟩,
  ⟨.partCmpSrcResp, .cmp, 0x0, 0, 1, 0, 1, 3, 2, .rw, .static, 0x0, false⟩,
  ⟨.partCmpSrcStim, .cmp, 0x0, 0, 1, 0, 1, 1, 0, .rw, .static, 0x0, false⟩,
  ⟨.partCmpPaceMarkPin, .cmp, 0x4, 0, 1, 0, 1, 7, 4, .rw, .static, 0x0, false⟩,
  ⟨.partCmpPaceMode, .cmp, 0x4, 0, 1, 0, 1, 1, 0, .rw, .static, 0x0, false⟩,
  ⟨.partCmpDimNIn, .cmp, 0x8, 0, 1, 0, 1, 30, 16, .ro, .none, 0x0, false⟩,
  ⟨.partCmpDimNOut, .cmp, 0x8, 0, 1, 0, 1, 14, 0, .ro, .none, 0x0, false⟩,
  ⟨.partCmpLatWMax, .cmp, 0xc, 0, 1, 0, 1, 10, 8, .ro, .none, 0x0, false⟩,
  ⟨.partCmpLatDCmp, .cmp, 0xc, 0, 1, 0, 1, 4, 0, .ro, .none, 0x1, false⟩,
  ⟨.partCmpEnFmap, .cmp, 0x10, 0, 1, 0, 1, 1, 1, .rw, .boundary, 0x0, false⟩,
  ⟨.partCmpEnCompare, .cmp, 0x10, 0, 1, 0, 1, 0, 0, .rw, .boundary, 0x0, false⟩,
  ⟨.partCmpFmapBaseLo, .cmp, 0x20, 0, 1, 0, 1, 31, 5, .rw, .static, 0x0, false⟩,
  ⟨.partCmpFmapBaseHi, .cmp, 0x24, 0, 1, 0, 1, 2, 0, .rw, .static, 0x0, false⟩,
  ⟨.partCmpFmapMode, .cmp, 0x28, 0, 1, 0, 1, 8, 8, .rw, .static, 0x0, false⟩,
  ⟨.partCmpFmapSizeLog2, .cmp, 0x28, 0, 1, 0, 1, 4, 0, .rw, .static, 0xa, false⟩,
  ⟨.partCmpFmapWr, .cmp, 0x30, 0, 1, 0, 1, 31, 0, .ro, .none, 0x0, false⟩,
  ⟨.partCmpFmapRd, .cmp, 0x34, 0, 1, 0, 1, 31, 0, .rw, .live, 0x0, false⟩,
  ⟨.partCmpFmapDropCount, .cmp, 0x38, 0, 1, 0, 1, 31, 0, .rc, .none, 0x0, false⟩,
  ⟨.partCmpFailCount, .cmp, 0x40, 0, 1, 0, 1, 31, 0, .rc, .none, 0x0, false⟩,
  ⟨.partCmpFailCycles, .cmp, 0x44, 0, 1, 0, 1, 31, 0, .rc, .none, 0x0, false⟩,
  ⟨.partCmpStatusMarkOverrun, .cmp, 0x48, 0, 1, 0, 1, 3, 3, .w1c, .live, 0x0, false⟩,
  ⟨.partCmpStatusFmapDrop, .cmp, 0x48, 0, 1, 0, 1, 2, 2, .w1c, .live, 0x0, false⟩,
  ⟨.partCmpStatusFmapFull, .cmp, 0x48, 0, 1, 0, 1, 1, 1, .w1c, .live, 0x0, false⟩]

/-- 05_run_control_and_compare.md, R179. -/
def regTableR179b : List FieldInfo := [
  ⟨.partCmpStatusFail, .cmp, 0x48, 0, 1, 0, 1, 0, 0, .w1c, .live, 0x0, false⟩,
  ⟨.partCmpFirstValid, .cmp, 0x50, 0, 1, 0, 1, 31, 31, .w1c, .live, 0x0, false⟩,
  ⟨.partCmpFirstPin, .cmp, 0x50, 0, 1, 0, 1, 13, 0, .ro, .none, 0x0, false⟩,
  ⟨.partCmpFirstCycleLo, .cmp, 0x54, 0, 1, 0, 1, 31, 0, .ro, .none, 0x0, false⟩,
  ⟨.partCmpFirstCycleHi, .cmp, 0x58, 0, 1, 0, 1, 31, 0, .ro, .none, 0x0, false⟩,
  ⟨.partCmpMarkPending, .cmp, 0x60, 0, 1, 0, 1, 8, 0, .ro, .none, 0x0, false⟩,
  ⟨.partCmpStimLevel, .cmp, 0x64, 0, 1, 0, 1, 21, 0, .ro, .none, 0x0, false⟩,
  ⟨.partCmpRespLevel, .cmp, 0x68, 0, 1, 0, 1, 21, 0, .ro, .none, 0x0, false⟩,
  ⟨.partCmpPin, .cmp, 0x10000, 4, 16384, 0, 1, 31, 0, .rw, .boundary, 0x0, false⟩,
  ⟨.partCmpPincnt, .cmp, 0x20000, 4, 16384, 0, 1, 31, 0, .rc, .none, 0x0, false⟩]

/-- 06_compiler_contract.md, R196. -/
def regTableR196 : List FieldInfo := [
  ⟨.modLatSpLat, .mod, 0x100, 0, 1, 0, 1, 15, 8, .ro, .none, 0x3, false⟩,
  ⟨.modLatLinkBase, .mod, 0x100, 0, 1, 0, 1, 7, 0, .ro, .none, 0x0, false⟩,
  ⟨.modLatHzLead, .mod, 0x104, 0, 1, 0, 1, 25, 16, .ro, .none, 0x0, false⟩,
  ⟨.modLatDramRtn, .mod, 0x104, 0, 1, 0, 1, 9, 0, .ro, .none, 0x110, false⟩,
  ⟨.modLatQTree, .mod, 0x108, 0, 1, 0, 1, 15, 8, .ro, .none, 0x6, false⟩,
  ⟨.modLatCmpMin, .mod, 0x108, 0, 1, 0, 1, 7, 0, .ro, .none, 0x1, false⟩,
  ⟨.modLatEnableTree, .mod, 0x10c, 0, 1, 0, 1, 7, 0, .ro, .none, 0x28, false⟩]

/-- 06_compiler_contract.md, R208. -/
def regTableR208 : List FieldInfo := [
  ⟨.partLoadStatus, .part, 0xa00, 0, 1, 0, 1, 31, 16, .ro, .none, 0x0, false⟩,
  ⟨.partLoadEndStage, .part, 0xa00, 0, 1, 0, 1, 7, 4, .ro, .none, 0x0, false⟩,
  ⟨.partLoadStage, .part, 0xa00, 0, 1, 0, 1, 3, 0, .ro, .none, 0x0, false⟩,
  ⟨.partLoadTotal, .part, 0xa04, 0, 1, 0, 1, 26, 16, .ro, .none, 0x0, false⟩,
  ⟨.partLoadDone, .part, 0xa04, 0, 1, 0, 1, 10, 0, .ro, .none, 0x0, false⟩,
  ⟨.partLoadRelocRowShift, .part, 0xa08, 0, 1, 0, 1, 10, 8, .ro, .none, 0x0, false⟩,
  ⟨.partLoadRelocColShift, .part, 0xa08, 0, 1, 0, 1, 5, 4, .ro, .none, 0x0, false⟩,
  ⟨.partLoadRelocRowSwap, .part, 0xa08, 0, 1, 0, 1, 0, 0, .ro, .none, 0x0, false⟩,
  ⟨.partLoadKeySlot, .part, 0xa0c, 0, 1, 0, 1, 10, 8, .ro, .none, 0x0, false⟩,
  ⟨.partLoadSteppingC, .part, 0xa0c, 0, 1, 0, 1, 7, 0, .ro, .none, 0x0, false⟩,
  ⟨.partLoadImageId, .part, 0xa10, 4, 4, 0, 1, 31, 0, .ro, .none, 0x0, false⟩,
  ⟨.partLoadFailSection, .part, 0xa20, 0, 1, 0, 1, 31, 0, .ro, .none, 0x0, false⟩,
  ⟨.partLoadFailDetail, .part, 0xa24, 0, 1, 0, 1, 31, 0, .ro, .none, 0x0, false⟩]

/-- 07_observation.md, R231. -/
def regTableR231 : List FieldInfo := [
  ⟨.partTrigCtlDisarm, .obs, 0x0, 0, 1, 0, 1, 1, 1, .wo, .boundary, 0x0, false⟩,
  ⟨.partTrigCtlArm, .obs, 0x0, 0, 1, 0, 1, 0, 0, .wo, .boundary, 0x0, false⟩,
  ⟨.partTrigStatusArmed, .obs, 0x4, 0, 1, 0, 1, 8, 8, .ro, .none, 0x0, false⟩,
  ⟨.partTrigStatusTriggered, .obs, 0x4, 0, 1, 0, 1, 4, 4, .ro, .none, 0x0, false⟩,
  ⟨.partTrigStatusState, .obs, 0x4, 0, 1, 0, 1, 3, 0, .ro, .none, 0x0, false⟩,
  ⟨.partTrigFireCycleLo, .obs, 0x8, 0, 1, 0, 1, 31, 0, .ro, .none, 0x0, false⟩,
  ⟨.partTrigFireCycleHi, .obs, 0xc, 0, 1, 0, 1, 31, 0, .ro, .none, 0x0, false⟩,
  ⟨.partTrigTimeAtLo, .obs, 0x10, 0, 1, 0, 1, 31, 0, .rw, .boundary, 0xffffffff, false⟩,
  ⟨.partTrigTimeAtHi, .obs, 0x14, 0, 1, 0, 1, 31, 0, .rw, .boundary, 0xffffffff, false⟩,
  ⟨.partTrigCntLimitLo, .obs, 0x20, 8, 8, 0, 1, 31, 0, .rw, .boundary, 0x0, false⟩,
  ⟨.partTrigCntLimitHi, .obs, 0x24, 8, 8, 0, 1, 15, 0, .rw, .boundary, 0x0, false⟩,
  ⟨.partTrigCntValueLo, .obs, 0x60, 8, 8, 0, 1, 31, 0, .ro, .none, 0x0, false⟩,
  ⟨.partTrigCntValueHi, .obs, 0x64, 8, 8, 0, 1, 15, 0, .ro, .none, 0x0, false⟩,
  ⟨.partTrigTmrDuration, .obs, 0xa0, 4, 4, 0, 1, 31, 0, .rw, .boundary, 0x0, false⟩,
  ⟨.partTrigTmrRunning, .obs, 0xb0, 4, 4, 0, 1, 31, 31, .ro, .none, 0x0, false⟩,
  ⟨.partTrigTmrExpired, .obs, 0xb0, 4, 4, 0, 1, 30, 30, .ro, .none, 0x0, false⟩,
  ⟨.partTrigTrInA, .obs, 0x100, 16, 64, 0, 1, 29, 20, .rw, .static, 0x0, false⟩,
  ⟨.partTrigTrInB, .obs, 0x100, 16, 64, 0, 1, 19, 10, .rw, .static, 0x0, false⟩,
  ⟨.partTrigTrInC, .obs, 0x100, 16, 64, 0, 1, 9, 0, .rw, .static, 0x0, false⟩,
  ⟨.partTrigTrValid, .obs, 0x104, 16, 64, 0, 1, 31, 31, .rw, .static, 0x0, false⟩,
  ⟨.partTrigTrNext, .obs, 0x104, 16, 64, 0, 1, 29, 26, .rw, .static, 0x0, false⟩,
  ⟨.partTrigTrInD, .obs, 0x104, 16, 64, 0, 1, 25, 16, .rw, .static, 0x0, false⟩,
  ⟨.partTrigTrTable, .obs, 0x104, 16, 64, 0, 1, 15, 0, .rw, .static, 0x0, false⟩,
  ⟨.partTrigTrCapture, .obs, 0x108, 16, 64, 0, 1, 24, 24, .rw, .static, 0x0, false⟩]

/-- 07_observation.md, R231. -/
def regTableR231b : List FieldInfo := [
  ⟨.partTrigTrHalt, .obs, 0x108, 16, 64, 0, 1, 23, 23, .rw, .static, 0x0, false⟩,
  ⟨.partTrigTrQuench, .obs, 0x108, 16, 64, 0, 1, 22, 22, .rw, .static, 0x0, false⟩,
  ⟨.partTrigTrFire, .obs, 0x108, 16, 64, 0, 1, 21, 21, .rw, .static, 0x0, false⟩,
  ⟨.partTrigTrToutEn, .obs, 0x108, 16, 64, 0, 1, 20, 20, .rw, .static, 0x0, false⟩,
  ⟨.partTrigTrTout, .obs, 0x108, 16, 64, 0, 1, 19, 16, .rw, .static, 0x0, false⟩,
  ⟨.partTrigTrCntOp, .obs, 0x108, 16, 64, 0, 1, 15, 14, .rw, .static, 0x0, false⟩,
  ⟨.partTrigTrCntSel, .obs, 0x108, 16, 64, 0, 1, 13, 11, .rw, .static, 0x0, false⟩,
  ⟨.partTrigTrTmrOp, .obs, 0x108, 16, 64, 0, 1, 10, 9, .rw, .static, 0x0, false⟩,
  ⟨.partTrigTrTmrSel, .obs, 0x108, 16, 64, 0, 1, 8, 7, .rw, .static, 0x0, false⟩,
  ⟨.partTrigTrFlagOp, .obs, 0x108, 16, 64, 0, 1, 4, 3, .rw, .static, 0x0, false⟩,
  ⟨.partTrigTrFlagSel, .obs, 0x108, 16, 64, 0, 1, 2, 0, .rw, .static, 0x0, false⟩,
  ⟨.partAcqCtlAutoRearm, .obs, 0x800, 0, 1, 0, 1, 1, 1, .rw, .static, 0x1, false⟩,
  ⟨.partAcqCtlEnable, .obs, 0x800, 0, 1, 0, 1, 0, 0, .rw, .boundary, 0x0, false⟩,
  ⟨.partAcqRingSizeLog2, .obs, 0x804, 0, 1, 0, 1, 12, 8, .rw, .static, 0x10, false⟩,
  ⟨.partAcqRingSegLog2, .obs, 0x804, 0, 1, 0, 1, 2, 0, .rw, .static, 0x0, false⟩,
  ⟨.partAcqBaseLo, .obs, 0x808, 0, 1, 0, 1, 31, 16, .rw, .static, 0x0, false⟩,
  ⟨.partAcqBaseHi, .obs, 0x80c, 0, 1, 0, 1, 2, 0, .rw, .static, 0x0, false⟩,
  ⟨.partAcqPost, .obs, 0x810, 0, 1, 0, 1, 31, 0, .rw, .static, 0x0, false⟩,
  ⟨.partAcqRecBytes, .obs, 0x814, 0, 1, 0, 1, 15, 0, .ro, .none, 0x20, false⟩,
  ⟨.partAcqNProbe, .obs, 0x818, 0, 1, 0, 1, 16, 0, .ro, .none, 0x0, false⟩,
  ⟨.partAcqSegWr, .obs, 0x820, 0, 1, 0, 1, 31, 0, .ro, .none, 0x0, false⟩,
  ⟨.partAcqSegRd, .obs, 0x824, 0, 1, 0, 1, 31, 0, .rw, .live, 0x0, false⟩,
  ⟨.partAcqStatusDrop, .obs, 0x828, 0, 1, 0, 1, 2, 2, .w1c, .live, 0x0, false⟩,
  ⟨.partAcqStatusWait, .obs, 0x828, 0, 1, 0, 1, 1, 1, .ro, .none, 0x0, false⟩]

/-- 07_observation.md, R231. -/
def regTableR231c : List FieldInfo := [
  ⟨.partAcqStatusPost, .obs, 0x828, 0, 1, 0, 1, 0, 0, .ro, .none, 0x0, false⟩,
  ⟨.partAcqDropCount, .obs, 0x82c, 0, 1, 0, 1, 31, 0, .rc, .none, 0x0, false⟩,
  ⟨.partCapBaseLo, .obs, 0xc00, 0, 1, 0, 1, 31, 20, .rw, .static, 0x0, false⟩,
  ⟨.partCapBaseHi, .obs, 0xc04, 0, 1, 0, 1, 2, 0, .rw, .static, 0x0, false⟩,
  ⟨.partCapTrigDram, .obs, 0xc08, 0, 1, 0, 1, 17, 17, .rw, .static, 0x0, false⟩,
  ⟨.partCapTrigSp, .obs, 0xc08, 0, 1, 0, 1, 16, 16, .rw, .static, 0x0, false⟩,
  ⟨.partCapSizeMib, .obs, 0xc08, 0, 1, 0, 1, 15, 0, .rw, .static, 0x0, false⟩,
  ⟨.partCapNeedUs, .obs, 0xc0c, 0, 1, 0, 1, 31, 0, .ro, .none, 0x0, false⟩,
  ⟨.partCapNeedSp, .obs, 0xc10, 0, 1, 0, 1, 31, 0, .ro, .none, 0x0, false⟩,
  ⟨.partCapStatusLast, .obs, 0xc14, 0, 1, 0, 1, 31, 16, .ro, .none, 0x0, false⟩,
  ⟨.partCapStatusMissed, .obs, 0xc14, 0, 1, 0, 1, 2, 2, .w1c, .live, 0x0, false⟩,
  ⟨.partCapStatusState, .obs, 0xc14, 0, 1, 0, 1, 1, 0, .ro, .none, 0x0, false⟩,
  ⟨.partCapCycleLo, .obs, 0xc18, 0, 1, 0, 1, 31, 0, .ro, .none, 0x0, false⟩,
  ⟨.partCapCycleHi, .obs, 0xc1c, 0, 1, 0, 1, 31, 0, .ro, .none, 0x0, false⟩,
  ⟨.partCapSpLost, .obs, 0xc20, 0, 1, 0, 1, 31, 0, .ro, .none, 0x0, false⟩,
  ⟨.partCapDramCopied, .obs, 0xc24, 0, 1, 0, 1, 31, 0, .ro, .none, 0x0, false⟩,
  ⟨.partCapDramLost, .obs, 0xc28, 0, 1, 0, 1, 31, 0, .ro, .none, 0x0, false⟩]

/-- 08_trace.md, R252. -/
def regTableR252 : List FieldInfo := [
  ⟨.traceCtlStopNow, .trace, 0x0, 0, 1, 0, 1, 2, 2, .wo, .live, 0x0, false⟩,
  ⟨.traceCtlTz3Mode, .trace, 0x0, 0, 1, 0, 1, 1, 1, .rw, .live, 0x0, true⟩,
  ⟨.traceCtlEnable, .trace, 0x0, 0, 1, 0, 1, 0, 0, .rw, .live, 0x0, false⟩,
  ⟨.traceStatusSinkErr, .trace, 0x4, 0, 1, 0, 1, 6, 6, .w1c, .live, 0x0, false⟩,
  ⟨.traceStatusStallLimit, .trace, 0x4, 0, 1, 0, 1, 5, 5, .w1c, .live, 0x0, false⟩,
  ⟨.traceStatusOverflow, .trace, 0x4, 0, 1, 0, 1, 4, 4, .w1c, .live, 0x0, false⟩,
  ⟨.traceStatusState, .trace, 0x4, 0, 1, 0, 1, 1, 0, .ro, .none, 0x0, false⟩,
  ⟨.traceSrcEnLo, .trace, 0x8, 0, 1, 0, 1, 31, 0, .rw, .live, 0x0, false⟩,
  ⟨.traceSrcEnHi, .trace, 0xc, 0, 1, 0, 1, 17, 0, .rw, .live, 0x0, false⟩,
  ⟨.traceStallEn, .trace, 0x10, 0, 1, 0, 1, 8, 0, .rw, .live, 0x0, true⟩,
  ⟨.traceStallLimitUs, .trace, 0x14, 0, 1, 0, 1, 9, 0, .rw, .live, 0x64, true⟩,
  ⟨.traceSyncLog2, .trace, 0x18, 0, 1, 0, 1, 4, 0, .rw, .live, 0x10, true⟩,
  ⟨.traceEvtPower, .trace, 0x1c, 0, 1, 0, 1, 25, 21, .rw, .live, 0x1f, false⟩,
  ⟨.traceEvtSched, .trace, 0x1c, 0, 1, 0, 1, 20, 17, .rw, .live, 0xf, false⟩,
  ⟨.traceEvtDram, .trace, 0x1c, 0, 1, 0, 1, 16, 5, .rw, .live, 0xfff, false⟩,
  ⟨.traceEvtNoc, .trace, 0x1c, 0, 1, 0, 1, 4, 0, .rw, .live, 0x1f, false⟩,
  ⟨.traceSinkQueue, .trace, 0x20, 0, 1, 0, 1, 27, 16, .rw, .live, 0x0, false⟩,
  ⟨.traceSinkMode, .trace, 0x20, 0, 1, 0, 1, 1, 1, .rw, .live, 0x0, false⟩,
  ⟨.traceSinkKind, .trace, 0x20, 0, 1, 0, 1, 0, 0, .rw, .live, 0x0, false⟩,
  ⟨.traceBufBaseLo, .trace, 0x24, 0, 1, 0, 1, 31, 21, .ro, .none, 0x0, false⟩,
  ⟨.traceBufValid, .trace, 0x28, 0, 1, 0, 1, 15, 15, .ro, .none, 0x0, false⟩,
  ⟨.traceBufSizeLog2, .trace, 0x28, 0, 1, 0, 1, 12, 8, .ro, .none, 0x0, false⟩,
  ⟨.traceBufAnvil, .trace, 0x28, 0, 1, 0, 1, 6, 4, .ro, .none, 0x0, false⟩,
  ⟨.traceBufBaseHi, .trace, 0x28, 0, 1, 0, 1, 2, 0, .ro, .none, 0x0, false⟩]

/-- 08_trace.md, R252. -/
def regTableR252b : List FieldInfo := [
  ⟨.traceBufWr, .trace, 0x30, 0, 1, 0, 1, 31, 0, .ro, .none, 0x0, false⟩,
  ⟨.traceBufRd, .trace, 0x34, 0, 1, 0, 1, 31, 0, .rw, .live, 0x0, false⟩,
  ⟨.traceTriggerPinEn, .trace, 0x38, 0, 1, 0, 1, 10, 10, .rw, .live, 0x0, false⟩,
  ⟨.traceTriggerPin, .trace, 0x38, 0, 1, 0, 1, 9, 6, .rw, .live, 0x0, false⟩,
  ⟨.traceTriggerPartEn, .trace, 0x38, 0, 1, 0, 1, 5, 5, .rw, .live, 0x0, false⟩,
  ⟨.traceTriggerPart, .trace, 0x38, 0, 1, 0, 1, 4, 0, .rw, .live, 0x0, false⟩,
  ⟨.traceStopDelay, .trace, 0x3c, 0, 1, 0, 1, 31, 0, .rw, .live, 0x0, false⟩,
  ⟨.traceStopLeft, .trace, 0x40, 0, 1, 0, 1, 31, 0, .ro, .none, 0x0, false⟩,
  ⟨.traceDropCount, .trace, 0x44, 0, 1, 0, 1, 31, 0, .rc, .none, 0x0, false⟩,
  ⟨.traceStallNs, .trace, 0x48, 0, 1, 0, 1, 31, 0, .rc, .none, 0x0, false⟩,
  ⟨.traceTrigMissed, .trace, 0x4c, 0, 1, 0, 1, 31, 0, .rc, .none, 0x0, false⟩,
  ⟨.traceTrigTimeLo, .trace, 0x50, 0, 1, 0, 1, 31, 0, .ro, .none, 0x0, false⟩,
  ⟨.traceTrigTimeHi, .trace, 0x54, 0, 1, 0, 1, 31, 0, .ro, .none, 0x0, false⟩]

/-- 09_dram.md, R274. -/
def regTableR274 : List FieldInfo := [
  ⟨.ddrStatusReserveEmpty, .ddr, 0x0, 0, 1, 0, 1, 4, 4, .ro, .none, 0x0, false⟩,
  ⟨.ddrStatusMigrating, .ddr, 0x0, 0, 1, 0, 1, 3, 3, .ro, .none, 0x0, false⟩,
  ⟨.ddrStatusRankOut, .ddr, 0x0, 0, 1, 0, 1, 2, 2, .ro, .none, 0x0, false⟩,
  ⟨.ddrStatusMarkActive, .ddr, 0x0, 0, 1, 0, 1, 1, 1, .ro, .none, 0x0, true⟩,
  ⟨.ddrStatusFrozen, .ddr, 0x0, 0, 1, 0, 1, 0, 0, .ro, .none, 0x0, false⟩,
  ⟨.ddrCfgAgeNs, .ddr, 0x4, 0, 1, 0, 1, 15, 0, .rw, .boundary, 0x7d0, true⟩,
  ⟨.ddrCfgPdNs, .ddr, 0x8, 0, 1, 0, 1, 15, 0, .rw, .boundary, 0x3e8, true⟩,
  ⟨.ddrScrubPeriodH, .ddr, 0xc, 0, 1, 0, 1, 4, 0, .rw, .live, 0x18, true⟩,
  ⟨.ddrReserveRetired, .ddr, 0x10, 0, 1, 0, 1, 17, 0, .ro, .none, 0x0, true⟩,
  ⟨.ddrReserveLent, .ddr, 0x14, 0, 1, 0, 1, 17, 0, .ro, .none, 0x0, false⟩,
  ⟨.ddrReserveFree, .ddr, 0x18, 0, 1, 0, 1, 17, 0, .ro, .none, 0x3fffe, true⟩,
  ⟨.ddrFrzClass, .ddr, 0x100, 0, 1, 0, 1, 7, 4, .ro, .none, 0x0, false⟩,
  ⟨.ddrFrzKind, .ddr, 0x100, 0, 1, 0, 1, 3, 0, .ro, .none, 0x0, false⟩,
  ⟨.ddrFrzRow, .ddr, 0x104, 0, 1, 0, 1, 31, 16, .ro, .none, 0x0, false⟩,
  ⟨.ddrFrzBurst, .ddr, 0x104, 0, 1, 0, 1, 15, 10, .ro, .none, 0x0, false⟩,
  ⟨.ddrFrzBank, .ddr, 0x104, 0, 1, 0, 1, 9, 5, .ro, .none, 0x0, false⟩,
  ⟨.ddrFrzRank, .ddr, 0x104, 0, 1, 0, 1, 4, 4, .ro, .none, 0x0, false⟩,
  ⟨.ddrFrzSubch, .ddr, 0x104, 0, 1, 0, 1, 3, 3, .ro, .none, 0x0, false⟩,
  ⟨.ddrFrzAddrLo, .ddr, 0x108, 0, 1, 0, 1, 31, 0, .ro, .none, 0x0, false⟩,
  ⟨.ddrFrzAddrHi, .ddr, 0x10c, 0, 1, 0, 1, 2, 0, .ro, .none, 0x0, false⟩,
  ⟨.ddrFrzSource, .ddr, 0x110, 0, 1, 0, 1, 15, 8, .ro, .none, 0x0, false⟩,
  ⟨.ddrFrzDevMask, .ddr, 0x110, 0, 1, 0, 1, 4, 0, .ro, .none, 0x0, false⟩,
  ⟨.ddrFrzTimeLo, .ddr, 0x114, 0, 1, 0, 1, 31, 0, .ro, .none, 0x0, false⟩,
  ⟨.ddrFrzTimeHi, .ddr, 0x118, 0, 1, 0, 1, 31, 0, .ro, .none, 0x0, false⟩]

/-- 09_dram.md, R275. -/
def regTableR275 : List FieldInfo := [
  ⟨.ddrMarkValid, .ddr, 0x200, 256, 2, 4, 2, 31, 31, .ro, .none, 0x0, true⟩,
  ⟨.ddrMarkDevice, .ddr, 0x200, 256, 2, 4, 2, 30, 28, .ro, .none, 0x0, true⟩,
  ⟨.ddrMarkLeft, .ddr, 0x200, 256, 2, 4, 2, 17, 0, .ro, .none, 0x0, true⟩,
  ⟨.ddrErrCorrCount, .ddr, 0x210, 256, 2, 0, 1, 31, 0, .rc, .none, 0x0, false⟩,
  ⟨.ddrErrUncorrCount, .ddr, 0x214, 256, 2, 0, 1, 31, 0, .rc, .none, 0x0, false⟩,
  ⟨.ddrEcsCount, .ddr, 0x220, 256, 2, 4, 10, 31, 16, .ro, .none, 0x0, false⟩,
  ⟨.ddrErrSymCount, .ddr, 0x220, 256, 2, 4, 10, 15, 0, .rc, .none, 0x0, false⟩,
  ⟨.ddrRefHidden, .ddr, 0x248, 256, 2, 0, 1, 31, 0, .rc, .none, 0x0, false⟩,
  ⟨.ddrRefForced, .ddr, 0x24c, 256, 2, 0, 1, 31, 0, .rc, .none, 0x0, false⟩,
  ⟨.ddrSlotPeak, .ddr, 0x250, 256, 2, 0, 1, 6, 0, .rc, .none, 0x0, false⟩,
  ⟨.ddrSlotFullCount, .ddr, 0x254, 256, 2, 0, 1, 31, 0, .rc, .none, 0x0, false⟩,
  ⟨.ddrOrdPromoted, .ddr, 0x258, 256, 2, 0, 1, 31, 0, .rc, .none, 0x0, false⟩,
  ⟨.ddrOrdInorder, .ddr, 0x25c, 256, 2, 0, 1, 31, 0, .rc, .none, 0x0, false⟩,
  ⟨.ddrWcrcRetry, .ddr, 0x260, 256, 2, 0, 1, 31, 0, .rc, .none, 0x0, false⟩,
  ⟨.ddrPdEntries, .ddr, 0x264, 256, 2, 0, 1, 31, 0, .rc, .none, 0x0, false⟩]

/-- 10_noc.md, R294. -/
def regTableR294 : List FieldInfo := [
  ⟨.nocEpochShadowValid, .noc, 0x0, 0, 1, 0, 1, 2, 2, .ro, .none, 0x0, false⟩,
  ⟨.nocEpochRetiring, .noc, 0x0, 0, 1, 0, 1, 1, 1, .ro, .none, 0x0, false⟩,
  ⟨.nocEpochCurrent, .noc, 0x0, 0, 1, 0, 1, 0, 0, .ro, .none, 0x0, false⟩,
  ⟨.nocCfgCplTimeoutMs, .noc, 0x4, 0, 1, 0, 1, 9, 0, .rw, .live, 0x14, true⟩,
  ⟨.nocCfgStarveUs, .noc, 0x8, 0, 1, 0, 1, 7, 0, .rw, .live, 0x8, true⟩,
  ⟨.nocCfgFenceTimeoutUs, .noc, 0xc, 0, 1, 0, 1, 15, 0, .rw, .live, 0x64, true⟩,
  ⟨.nocTagInuse, .noc, 0x10, 0, 1, 0, 1, 10, 0, .ro, .none, 0x0, false⟩,
  ⟨.nocTagPeak, .noc, 0x14, 0, 1, 0, 1, 10, 0, .rc, .none, 0x0, false⟩,
  ⟨.nocTagFullCount, .noc, 0x18, 0, 1, 0, 1, 31, 0, .rc, .none, 0x0, false⟩,
  ⟨.nocErrStatusEpochTimeout, .noc, 0x20, 0, 1, 0, 1, 8, 8, .w1c, .live, 0x0, false⟩,
  ⟨.nocErrStatusDrainTimeout, .noc, 0x20, 0, 1, 0, 1, 7, 7, .w1c, .live, 0x0, false⟩,
  ⟨.nocErrStatusLinkDown, .noc, 0x20, 0, 1, 0, 1, 6, 6, .w1c, .live, 0x0, false⟩,
  ⟨.nocErrStatusLate, .noc, 0x20, 0, 1, 0, 1, 5, 5, .w1c, .live, 0x0, false⟩,
  ⟨.nocErrStatusTimeout, .noc, 0x20, 0, 1, 0, 1, 4, 4, .w1c, .live, 0x0, false⟩,
  ⟨.nocErrStatusPoison, .noc, 0x20, 0, 1, 0, 1, 3, 3, .w1c, .live, 0x0, false⟩,
  ⟨.nocErrStatusUnroutable, .noc, 0x20, 0, 1, 0, 1, 2, 2, .w1c, .live, 0x0, false⟩,
  ⟨.nocErrStatusEpoch, .noc, 0x20, 0, 1, 0, 1, 1, 1, .w1c, .live, 0x0, false⟩,
  ⟨.nocErrStatusHeader, .noc, 0x20, 0, 1, 0, 1, 0, 0, .w1c, .live, 0x0, false⟩,
  ⟨.nocErrCorrCount, .noc, 0x24, 0, 1, 0, 1, 31, 0, .rc, .none, 0x0, false⟩,
  ⟨.nocErrDiscardCount, .noc, 0x28, 0, 1, 0, 1, 31, 0, .rc, .none, 0x0, false⟩,
  ⟨.nocErrTimeoutCount, .noc, 0x2c, 0, 1, 0, 1, 31, 0, .rc, .none, 0x0, false⟩,
  ⟨.nocErrLateCount, .noc, 0x30, 0, 1, 0, 1, 31, 0, .rc, .none, 0x0, false⟩,
  ⟨.nocStallCount, .noc, 0x34, 0, 1, 0, 1, 31, 0, .rc, .none, 0x0, false⟩,
  ⟨.nocFenceDraining, .noc, 0x40, 0, 1, 0, 1, 15, 8, .ro, .none, 0x0, false⟩]

/-- 10_noc.md, R294. -/
def regTableR294b : List FieldInfo := [
  ⟨.nocFenceFenced, .noc, 0x40, 0, 1, 0, 1, 7, 0, .ro, .none, 0xff, false⟩,
  ⟨.nocLinkUpMgmt, .noc, 0x44, 0, 1, 0, 1, 3, 3, .ro, .none, 0x0, false⟩,
  ⟨.nocLinkUp, .noc, 0x44, 0, 1, 0, 1, 2, 0, .ro, .none, 0x0, false⟩]

/-- 10_noc.md, R295. -/
def regTableR295 : List FieldInfo := [
  ⟨.nocRouteSet0, .noc, 0x1000, 64, 16, 4, 4, 31, 0, .ro, .none, 0x0, false⟩,
  ⟨.nocRouteSet1, .noc, 0x1020, 64, 16, 4, 4, 31, 0, .ro, .none, 0x77777777, false⟩]

/-- 11_host_interface.md, R305. -/
def regTableR305 : List FieldInfo := [
  ⟨.mboxCtlAck, .mbox, 0xff0, 0, 1, 0, 1, 1, 1, .wo, .live, 0x0, false⟩,
  ⟨.mboxCtlGo, .mbox, 0xff0, 0, 1, 0, 1, 0, 0, .wo, .live, 0x0, false⟩,
  ⟨.mboxStateProto, .mbox, 0xff4, 0, 1, 0, 1, 8, 8, .w1c, .live, 0x0, false⟩,
  ⟨.mboxStateState, .mbox, 0xff4, 0, 1, 0, 1, 1, 0, .ro, .none, 0x0, false⟩]

/-- 11_host_interface.md, R323. -/
def regTableR323 : List FieldInfo := [
  ⟨.hostRoleGrant, .hostif, 0x0, 256, 4, 0, 1, 16, 16, .ro, .none, 0x0, true⟩,
  ⟨.hostLinkUp, .hostif, 0x0, 256, 4, 0, 1, 12, 12, .ro, .none, 0x0, false⟩,
  ⟨.hostLinkWidth, .hostif, 0x0, 256, 4, 0, 1, 8, 4, .ro, .none, 0x0, false⟩,
  ⟨.hostLinkSpeed, .hostif, 0x0, 256, 4, 0, 1, 3, 0, .ro, .none, 0x0, false⟩,
  ⟨.hostId, .hostif, 0x10, 256, 4, 4, 4, 31, 0, .ro, .none, 0x0, false⟩,
  ⟨.hostDmaTagPeak, .hostif, 0x20, 256, 4, 0, 1, 19, 10, .rc, .none, 0x0, false⟩,
  ⟨.hostDmaTagInuse, .hostif, 0x20, 256, 4, 0, 1, 9, 0, .ro, .none, 0x0, false⟩,
  ⟨.hostDmaTagFullCount, .hostif, 0x24, 256, 4, 0, 1, 31, 0, .rc, .none, 0x0, false⟩,
  ⟨.hostErrStatusTimeout, .hostif, 0x28, 256, 4, 0, 1, 5, 5, .w1c, .live, 0x0, false⟩,
  ⟨.hostErrStatusAccess, .hostif, 0x28, 256, 4, 0, 1, 4, 4, .w1c, .live, 0x0, false⟩,
  ⟨.hostErrStatusEcrc, .hostif, 0x28, 256, 4, 0, 1, 3, 3, .w1c, .live, 0x0, false⟩,
  ⟨.hostErrStatusDma, .hostif, 0x28, 256, 4, 0, 1, 2, 2, .w1c, .live, 0x0, false⟩,
  ⟨.hostErrStatusLinkDown, .hostif, 0x28, 256, 4, 0, 1, 1, 1, .w1c, .live, 0x0, false⟩,
  ⟨.hostErrStatusFlr, .hostif, 0x28, 256, 4, 0, 1, 0, 0, .w1c, .live, 0x0, false⟩,
  ⟨.hostErrForeignCount, .hostif, 0x2c, 256, 4, 0, 1, 31, 0, .rc, .none, 0x0, false⟩,
  ⟨.hostBifurcCurrent, .hostif, 0x800, 0, 1, 0, 1, 5, 4, .ro, .none, 0x0, true⟩,
  ⟨.hostBifurcNext, .hostif, 0x800, 0, 1, 0, 1, 1, 0, .rw, .static, 0x0, true⟩,
  ⟨.hostEvtUndelivered, .hostif, 0x804, 0, 1, 0, 1, 31, 0, .rc, .none, 0x0, false⟩]

/-- 11_host_interface.md, R324. -/
def regTableR324 : List FieldInfo := [
  ⟨.queueCfgPart, .queue, 0x0, 0, 1, 0, 1, 31, 24, .ro, .none, 0x0, false⟩,
  ⟨.queueCfgPort, .queue, 0x0, 0, 1, 0, 1, 23, 22, .ro, .none, 0x0, false⟩,
  ⟨.queueCfgEntryLog2, .queue, 0x0, 0, 1, 0, 1, 19, 16, .ro, .none, 0x0, false⟩,
  ⟨.queueCfgSizeLog2, .queue, 0x0, 0, 1, 0, 1, 12, 8, .ro, .none, 0x0, false⟩,
  ⟨.queueCfgType, .queue, 0x0, 0, 1, 0, 1, 2, 0, .ro, .none, 0x0, false⟩,
  ⟨.queueBaseLo, .queue, 0x4, 0, 1, 0, 1, 31, 0, .ro, .none, 0x0, false⟩,
  ⟨.queueBaseHi, .queue, 0x8, 0, 1, 0, 1, 31, 0, .ro, .none, 0x0, false⟩,
  ⟨.queueWbLo, .queue, 0xc, 0, 1, 0, 1, 31, 0, .ro, .none, 0x0, false⟩,
  ⟨.queueWbHi, .queue, 0x10, 0, 1, 0, 1, 31, 0, .ro, .none, 0x0, false⟩,
  ⟨.queuePair, .queue, 0x14, 0, 1, 0, 1, 11, 0, .ro, .none, 0x0, false⟩,
  ⟨.queueCtlEnable, .queue, 0x18, 0, 1, 0, 1, 0, 0, .rw, .live, 0x0, false⟩,
  ⟨.queuePidx, .queue, 0x1c, 0, 1, 0, 1, 31, 0, .ro, .none, 0x0, false⟩,
  ⟨.queueCidx, .queue, 0x20, 0, 1, 0, 1, 31, 0, .ro, .none, 0x0, false⟩,
  ⟨.queueStatusEntryErr, .queue, 0x24, 0, 1, 0, 1, 5, 5, .w1c, .live, 0x0, false⟩,
  ⟨.queueStatusDmaErr, .queue, 0x24, 0, 1, 0, 1, 4, 4, .w1c, .live, 0x0, false⟩,
  ⟨.queueStatusDrop, .queue, 0x24, 0, 1, 0, 1, 3, 3, .w1c, .live, 0x0, false⟩,
  ⟨.queueStatusSetupErr, .queue, 0x24, 0, 1, 0, 1, 2, 2, .w1c, .live, 0x0, false⟩,
  ⟨.queueStatusDbErr, .queue, 0x24, 0, 1, 0, 1, 1, 1, .w1c, .live, 0x0, false⟩,
  ⟨.queueStatusFull, .queue, 0x24, 0, 1, 0, 1, 0, 0, .ro, .none, 0x0, false⟩,
  ⟨.queueDropCount, .queue, 0x28, 0, 1, 0, 1, 31, 0, .rc, .none, 0x0, false⟩,
  ⟨.taskCfgChainEn, .queue, 0x2c, 0, 1, 0, 1, 31, 31, .rw, .live, 0x0, false⟩,
  ⟨.taskCfgModeAll, .queue, 0x2c, 0, 1, 0, 1, 30, 30, .rw, .live, 0x1, false⟩,
  ⟨.taskCfgPrio, .queue, 0x2c, 0, 1, 0, 1, 29, 27, .rw, .live, 0x3, false⟩,
  ⟨.taskCfgBatchM1, .queue, 0x2c, 0, 1, 0, 1, 23, 16, .rw, .live, 0xf, false⟩]

/-- 11_host_interface.md, R324. -/
def regTableR324b : List FieldInfo := [
  ⟨.taskCfgPred, .queue, 0x2c, 0, 1, 0, 1, 11, 0, .rw, .live, 0x0, false⟩,
  ⟨.taskMask, .queue, 0x30, 0, 1, 0, 1, 31, 0, .rw, .live, 0x6, false⟩,
  ⟨.taskFlagsSoft, .queue, 0x34, 0, 1, 0, 1, 31, 16, .w1s, .live, 0x0, false⟩,
  ⟨.taskFlagsHw, .queue, 0x34, 0, 1, 0, 1, 15, 0, .ro, .none, 0x0, false⟩,
  ⟨.queueIntEn, .queue, 0x38, 0, 1, 0, 1, 31, 31, .rw, .live, 0x0, false⟩,
  ⟨.queueIntCoalUs, .queue, 0x38, 0, 1, 0, 1, 30, 21, .rw, .live, 0x0, false⟩,
  ⟨.queueIntCoalNM1, .queue, 0x38, 0, 1, 0, 1, 19, 12, .rw, .live, 0x0, false⟩,
  ⟨.queueIntVector, .queue, 0x38, 0, 1, 0, 1, 8, 0, .rw, .live, 0x0, false⟩,
  ⟨.taskDispatchCount, .queue, 0x3c, 0, 1, 0, 1, 31, 0, .rc, .none, 0x0, false⟩]

/-- 12_stream_lanes.md, R354. -/
def regTableR354 : List FieldInfo := [
  ⟨.wlTrainPolarity, .wlLane, 0x0, 0, 1, 0, 1, 12, 12, .ro, .none, 0x0, false⟩,
  ⟨.wlTrainPartner, .wlLane, 0x0, 0, 1, 0, 1, 11, 8, .ro, .none, 0xf, false⟩,
  ⟨.wlTrainLogical, .wlLane, 0x0, 0, 1, 0, 1, 7, 4, .ro, .none, 0x0, false⟩,
  ⟨.wlTrainState, .wlLane, 0x0, 0, 1, 0, 1, 3, 0, .ro, .none, 0x0, false⟩,
  ⟨.wlLaneCtlRetrain, .wlLane, 0x4, 0, 1, 0, 1, 1, 1, .wo, .live, 0x0, false⟩,
  ⟨.wlLaneCtlEnable, .wlLane, 0x4, 0, 1, 0, 1, 0, 0, .rw, .live, 0x1, true⟩,
  ⟨.wlLaneErrCrcCount, .wlLane, 0x8, 0, 1, 0, 1, 31, 0, .rc, .none, 0x0, false⟩,
  ⟨.wlLaneErrReplayCount, .wlLane, 0xc, 0, 1, 0, 1, 31, 0, .rc, .none, 0x0, false⟩,
  ⟨.wlLaneErrBlockCount, .wlLane, 0x10, 0, 1, 0, 1, 31, 0, .rc, .none, 0x0, false⟩,
  ⟨.wlLaneErrLockLoss, .wlLane, 0x14, 0, 1, 0, 1, 31, 0, .rc, .none, 0x0, false⟩,
  ⟨.wlLaneStatusRetryLimit, .wlLane, 0x18, 0, 1, 0, 1, 4, 4, .w1c, .live, 0x0, false⟩,
  ⟨.wlLaneStatusDeskew, .wlLane, 0x18, 0, 1, 0, 1, 3, 3, .w1c, .live, 0x0, false⟩,
  ⟨.wlLaneStatusCapMismatch, .wlLane, 0x18, 0, 1, 0, 1, 2, 2, .w1c, .live, 0x0, false⟩,
  ⟨.wlLaneStatusTrainFail, .wlLane, 0x18, 0, 1, 0, 1, 1, 1, .w1c, .live, 0x0, false⟩,
  ⟨.wlLaneStatusCrc, .wlLane, 0x18, 0, 1, 0, 1, 0, 0, .w1c, .live, 0x0, false⟩,
  ⟨.wlPrbsInjBurst, .wlLane, 0x20, 0, 1, 0, 1, 23, 16, .rw, .live, 0x1, false⟩,
  ⟨.wlPrbsInjRateLog2, .wlLane, 0x20, 0, 1, 0, 1, 15, 11, .rw, .live, 0x14, false⟩,
  ⟨.wlPrbsInjGo, .wlLane, 0x20, 0, 1, 0, 1, 10, 10, .wo, .live, 0x0, false⟩,
  ⟨.wlPrbsInjMode, .wlLane, 0x20, 0, 1, 0, 1, 9, 8, .rw, .live, 0x0, false⟩,
  ⟨.wlPrbsLock, .wlLane, 0x20, 0, 1, 0, 1, 6, 6, .ro, .none, 0x0, false⟩,
  ⟨.wlPrbsChkEn, .wlLane, 0x20, 0, 1, 0, 1, 5, 5, .rw, .live, 0x0, false⟩,
  ⟨.wlPrbsGenEn, .wlLane, 0x20, 0, 1, 0, 1, 4, 4, .rw, .live, 0x0, false⟩,
  ⟨.wlPrbsMode, .wlLane, 0x20, 0, 1, 0, 1, 2, 0, .rw, .live, 0x0, false⟩,
  ⟨.wlPrbsErrCount, .wlLane, 0x24, 0, 1, 0, 1, 31, 0, .rc, .none, 0x0, false⟩]

/-- 12_stream_lanes.md, R354. -/
def regTableR354b : List FieldInfo := [
  ⟨.wlPrbsBitsLo, .wlLane, 0x28, 0, 1, 0, 1, 31, 0, .ro, .none, 0x0, false⟩,
  ⟨.wlPrbsBitsHi, .wlLane, 0x2c, 0, 1, 0, 1, 31, 0, .ro, .none, 0x0, false⟩]

/-- 12_stream_lanes.md, R355. -/
def regTableR355 : List FieldInfo := [
  ⟨.wlBundleBanked, .wlBundle, 0x0, 0, 1, 0, 1, 20, 20, .ro, .none, 0x0, false⟩,
  ⟨.wlBundleSpareFor, .wlBundle, 0x0, 0, 1, 0, 1, 19, 16, .ro, .none, 0xf, false⟩,
  ⟨.wlBundleAligned, .wlBundle, 0x0, 0, 1, 0, 1, 15, 8, .ro, .none, 0x0, false⟩,
  ⟨.wlBundleActive, .wlBundle, 0x0, 0, 1, 0, 1, 7, 0, .ro, .none, 0x0, false⟩,
  ⟨.wlBundleCfgAutoWake, .wlBundle, 0x4, 0, 1, 0, 1, 2, 2, .rw, .live, 0x1, true⟩,
  ⟨.wlBundleCfgAutoSpare, .wlBundle, 0x4, 0, 1, 0, 1, 1, 1, .rw, .live, 0x1, true⟩,
  ⟨.wlBundleCfgRate, .wlBundle, 0x4, 0, 1, 0, 1, 0, 0, .rw, .static, 0x0, true⟩,
  ⟨.wlBundlePartnerId, .wlBundle, 0x8, 0, 1, 0, 1, 31, 0, .ro, .none, 0x0, false⟩,
  ⟨.wlBundlePartnerBundle, .wlBundle, 0xc, 0, 1, 0, 1, 10, 8, .ro, .none, 0x0, false⟩,
  ⟨.wlBundleSkewNs, .wlBundle, 0xc, 0, 1, 0, 1, 7, 0, .ro, .none, 0x0, false⟩,
  ⟨.wlBundleErrLimit, .wlBundle, 0x10, 0, 1, 0, 1, 15, 0, .rw, .live, 0x10, true⟩,
  ⟨.wlBundleReplayUs, .wlBundle, 0x14, 0, 1, 0, 1, 7, 0, .rw, .live, 0xa, true⟩]

/-- 12_stream_lanes.md, R356. -/
def regTableR356 : List FieldInfo := [
  ⟨.wlStreamBindValid, .wlStream, 0x0, 0, 1, 0, 1, 31, 31, .ro, .none, 0x0, false⟩,
  ⟨.wlStreamBindInEn, .wlStream, 0x0, 0, 1, 0, 1, 30, 30, .ro, .none, 0x0, false⟩,
  ⟨.wlStreamBindOutEn, .wlStream, 0x0, 0, 1, 0, 1, 29, 29, .ro, .none, 0x0, false⟩,
  ⟨.wlStreamBindPrimary, .wlStream, 0x0, 0, 1, 0, 1, 26, 24, .ro, .none, 0x0, false⟩,
  ⟨.wlStreamBindPart, .wlStream, 0x0, 0, 1, 0, 1, 20, 16, .ro, .none, 0x0, false⟩,
  ⟨.wlStreamBindBundles, .wlStream, 0x0, 0, 1, 0, 1, 7, 0, .ro, .none, 0x0, false⟩,
  ⟨.wlStreamInSseq, .wlStream, 0x4, 0, 1, 0, 1, 31, 0, .ro, .none, 0x0, false⟩,
  ⟨.wlStreamInLimit, .wlStream, 0x8, 0, 1, 0, 1, 31, 0, .ro, .none, 0x0, false⟩,
  ⟨.wlStreamOutSseq, .wlStream, 0xc, 0, 1, 0, 1, 31, 0, .ro, .none, 0x0, false⟩,
  ⟨.wlStreamOutLimit, .wlStream, 0x10, 0, 1, 0, 1, 31, 0, .ro, .none, 0x0, false⟩,
  ⟨.wlStreamOutGen, .wlStream, 0x14, 0, 1, 0, 1, 17, 17, .ro, .none, 0x0, false⟩,
  ⟨.wlStreamInGen, .wlStream, 0x14, 0, 1, 0, 1, 16, 16, .ro, .none, 0x0, false⟩,
  ⟨.wlStreamMarkCount, .wlStream, 0x14, 0, 1, 0, 1, 15, 0, .ro, .none, 0x0, false⟩,
  ⟨.wlStreamOutDropCount, .wlStream, 0x18, 0, 1, 0, 1, 31, 0, .rc, .none, 0x0, false⟩,
  ⟨.wlStreamStallNs, .wlStream, 0x1c, 0, 1, 0, 1, 31, 0, .rc, .none, 0x0, false⟩,
  ⟨.wlStreamStatusOutDrop, .wlStream, 0x20, 0, 1, 0, 1, 2, 2, .w1c, .live, 0x0, false⟩,
  ⟨.wlStreamStatusCredit, .wlStream, 0x20, 0, 1, 0, 1, 1, 1, .w1c, .live, 0x0, false⟩,
  ⟨.wlStreamStatusFormat, .wlStream, 0x20, 0, 1, 0, 1, 0, 0, .w1c, .live, 0x0, false⟩]

/-- 13_time.md, R371. -/
def regTableR371 : List FieldInfo := [
  ⟨.timeNowLo, .time, 0x0, 0, 1, 0, 1, 31, 0, .ro, .none, 0x0, false⟩,
  ⟨.timeNowHi, .time, 0x4, 0, 1, 0, 1, 31, 0, .ro, .none, 0x0, false⟩,
  ⟨.timeNowFrac, .time, 0x8, 0, 1, 0, 1, 31, 0, .ro, .none, 0x0, false⟩,
  ⟨.timeIncrFrac, .time, 0x10, 0, 1, 0, 1, 31, 0, .rw, .live, 0x33333333, false⟩,
  ⟨.timeIncrIncrNs, .time, 0x14, 0, 1, 0, 1, 7, 0, .rw, .live, 0x3, false⟩,
  ⟨.timeIncrEffFrac, .time, 0x18, 0, 1, 0, 1, 31, 0, .ro, .none, 0x33333333, false⟩,
  ⟨.timeCfgSlewPpm, .time, 0x20, 0, 1, 0, 1, 15, 8, .rw, .live, 0xc8, true⟩,
  ⟨.timeCfgPhaseSrc, .time, 0x20, 0, 1, 0, 1, 5, 4, .rw, .live, 0x1, true⟩,
  ⟨.timeCfgFollow, .time, 0x20, 0, 1, 0, 1, 1, 1, .rw, .live, 0x1, true⟩,
  ⟨.timeCfgFreqSrc, .time, 0x20, 0, 1, 0, 1, 0, 0, .rw, .live, 0x0, true⟩,
  ⟨.timeStatusMismatch, .time, 0x24, 0, 1, 0, 1, 7, 7, .w1c, .live, 0x0, false⟩,
  ⟨.timeStatusPpsLost, .time, 0x24, 0, 1, 0, 1, 6, 6, .w1c, .live, 0x0, false⟩,
  ⟨.timeStatusFreqLost, .time, 0x24, 0, 1, 0, 1, 5, 5, .w1c, .live, 0x0, false⟩,
  ⟨.timeStatusSet, .time, 0x24, 0, 1, 0, 1, 4, 4, .ro, .none, 0x0, false⟩,
  ⟨.timeStatusServo, .time, 0x24, 0, 1, 0, 1, 2, 0, .ro, .none, 0x0, false⟩,
  ⟨.timeServoOffsetNs, .time, 0x28, 0, 1, 0, 1, 31, 0, .ro, .none, 0x0, false⟩,
  ⟨.timeServoSlewNs, .time, 0x2c, 0, 1, 0, 1, 31, 0, .ro, .none, 0x0, false⟩,
  ⟨.timeServoBoundNs, .time, 0x30, 0, 1, 0, 1, 31, 0, .ro, .none, 0xffffffff, false⟩,
  ⟨.timeServoUnlockNs, .time, 0x34, 0, 1, 0, 1, 31, 16, .rw, .live, 0x3e8, true⟩,
  ⟨.timeServoLockNs, .time, 0x34, 0, 1, 0, 1, 15, 0, .rw, .live, 0x64, true⟩,
  ⟨.timePtpCfgDomain, .time, 0x40, 0, 1, 0, 1, 15, 8, .rw, .live, 0x0, true⟩,
  ⟨.timePtpCfgL2, .time, 0x40, 0, 1, 0, 1, 0, 0, .rw, .live, 0x0, true⟩,
  ⟨.timePtpMeanDelayNs, .time, 0x44, 0, 1, 0, 1, 31, 0, .ro, .none, 0x0, false⟩,
  ⟨.timePtpMasterLo, .time, 0x48, 0, 1, 0, 1, 31, 0, .ro, .none, 0x0, false⟩]

/-- 13_time.md, R371. -/
def regTableR371b : List FieldInfo := [
  ⟨.timePtpMasterHi, .time, 0x4c, 0, 1, 0, 1, 31, 0, .ro, .none, 0x0, false⟩,
  ⟨.timePtpUtcOffset, .time, 0x50, 0, 1, 0, 1, 15, 0, .ro, .none, 0x0, false⟩,
  ⟨.timeAdjEthRx, .time, 0x54, 0, 1, 0, 1, 31, 16, .rw, .live, 0x0, true⟩,
  ⟨.timeAdjEthTx, .time, 0x54, 0, 1, 0, 1, 15, 0, .rw, .live, 0x0, true⟩,
  ⟨.timeAdjAsym, .time, 0x58, 0, 1, 0, 1, 31, 0, .rw, .live, 0x0, true⟩,
  ⟨.timeAdjPps, .time, 0x5c, 0, 1, 0, 1, 15, 0, .rw, .live, 0x0, true⟩,
  ⟨.timeAdjWlRx, .time, 0x60, 4, 8, 0, 1, 31, 16, .rw, .live, 0x0, true⟩,
  ⟨.timeAdjWlTx, .time, 0x60, 4, 8, 0, 1, 15, 0, .rw, .live, 0x0, true⟩,
  ⟨.timeAdjTrig, .time, 0x80, 4, 16, 0, 1, 15, 0, .rw, .live, 0x0, true⟩,
  ⟨.timeCapValid, .time, 0xc0, 0, 1, 0, 1, 9, 9, .ro, .none, 0x0, false⟩,
  ⟨.timeCapArm, .time, 0xc0, 0, 1, 0, 1, 8, 8, .wo, .live, 0x0, false⟩,
  ⟨.timeCapSrc, .time, 0xc0, 0, 1, 0, 1, 7, 0, .rw, .live, 0x0, false⟩,
  ⟨.timeCapTsLo, .time, 0xc4, 0, 1, 0, 1, 31, 0, .ro, .none, 0x0, false⟩,
  ⟨.timeCapTsHi, .time, 0xc8, 0, 1, 0, 1, 31, 0, .ro, .none, 0x0, false⟩,
  ⟨.timeRefRateFrac, .time, 0x100, 32, 4, 0, 1, 31, 0, .rw, .live, 0x33333333, false⟩,
  ⟨.timeRefRateNs, .time, 0x104, 32, 4, 0, 1, 7, 0, .rw, .live, 0x3, false⟩,
  ⟨.timeRefAdj, .time, 0x108, 32, 4, 0, 1, 31, 0, .wo, .live, 0x0, false⟩,
  ⟨.timeRefValueLo, .time, 0x110, 32, 4, 0, 1, 31, 0, .ro, .none, 0x0, false⟩,
  ⟨.timeRefValueHi, .time, 0x114, 32, 4, 0, 1, 31, 0, .ro, .none, 0x0, false⟩,
  ⟨.timeLaunchTLo, .time, 0x200, 32, 16, 0, 1, 31, 0, .rw, .live, 0x0, false⟩,
  ⟨.timeLaunchTHi, .time, 0x204, 32, 16, 0, 1, 31, 0, .rw, .live, 0x0, false⟩,
  ⟨.timeLaunchPeriod, .time, 0x208, 32, 16, 0, 1, 31, 0, .rw, .live, 0x0, false⟩,
  ⟨.timeLaunchArmed, .time, 0x20c, 32, 16, 0, 1, 31, 31, .ro, .none, 0x0, false⟩,
  ⟨.timeLaunchArm, .time, 0x20c, 32, 16, 0, 1, 30, 30, .wo, .live, 0x0, false⟩]

/-- 13_time.md, R371. -/
def regTableR371c : List FieldInfo := [
  ⟨.timeLaunchDisarm, .time, 0x20c, 32, 16, 0, 1, 29, 29, .wo, .live, 0x0, false⟩,
  ⟨.timeLaunchKind, .time, 0x20c, 32, 16, 0, 1, 28, 27, .rw, .live, 0x0, false⟩,
  ⟨.timeLaunchLate, .time, 0x20c, 32, 16, 0, 1, 26, 26, .w1c, .live, 0x0, false⟩,
  ⟨.timeLaunchQueue, .time, 0x20c, 32, 16, 0, 1, 25, 14, .rw, .live, 0x0, false⟩,
  ⟨.timeLaunchOverrun, .time, 0x20c, 32, 16, 0, 1, 13, 13, .w1c, .live, 0x0, false⟩,
  ⟨.timeLaunchSetupErr, .time, 0x20c, 32, 16, 0, 1, 12, 12, .w1c, .live, 0x0, false⟩,
  ⟨.timeLaunchSel, .time, 0x20c, 32, 16, 0, 1, 11, 8, .rw, .live, 0x0, false⟩,
  ⟨.timeLaunchWidthM1, .time, 0x20c, 32, 16, 0, 1, 7, 0, .rw, .live, 0x0, false⟩,
  ⟨.timeLaunchCount, .time, 0x210, 32, 16, 0, 1, 31, 0, .rw, .live, 0x1, false⟩,
  ⟨.timeLaunchDone, .time, 0x214, 32, 16, 0, 1, 31, 0, .ro, .none, 0x0, false⟩,
  ⟨.timeLaunchLastLo, .time, 0x218, 32, 16, 0, 1, 31, 0, .ro, .none, 0x0, false⟩,
  ⟨.timeLaunchLastHi, .time, 0x21c, 32, 16, 0, 1, 31, 0, .ro, .none, 0x0, false⟩]

/-- 14_side_pins.md, R386. -/
def regTableR386 : List FieldInfo := [
  ⟨.spPinOwner, .sp, 0x0, 4, 48, 0, 1, 31, 26, .rw, .static, 0x3f, true⟩,
  ⟨.spPinFunc, .sp, 0x0, 4, 48, 0, 1, 23, 16, .rw, .live, 0x0, true⟩,
  ⟨.spPinPull, .sp, 0x0, 4, 48, 0, 1, 15, 14, .rw, .live, 0x3, true⟩,
  ⟨.spPinDrive, .sp, 0x0, 4, 48, 0, 1, 13, 12, .rw, .live, 0x1, true⟩,
  ⟨.spPinShort, .sp, 0x0, 4, 48, 0, 1, 4, 4, .w1c, .live, 0x0, false⟩,
  ⟨.spPinDup, .sp, 0x0, 4, 48, 0, 1, 3, 3, .ro, .none, 0x0, false⟩,
  ⟨.spPinHold, .sp, 0x0, 4, 48, 0, 1, 2, 2, .ro, .none, 0x0, false⟩,
  ⟨.spGpioOutLo, .sp, 0x100, 0, 1, 0, 1, 31, 0, .rw, .live, 0x0, false⟩,
  ⟨.spGpioOutHi, .sp, 0x104, 0, 1, 0, 1, 15, 0, .rw, .live, 0x0, false⟩,
  ⟨.spGpioSetLo, .sp, 0x108, 0, 1, 0, 1, 31, 0, .w1s, .live, 0x0, false⟩,
  ⟨.spGpioSetHi, .sp, 0x10c, 0, 1, 0, 1, 15, 0, .w1s, .live, 0x0, false⟩,
  ⟨.spGpioClrLo, .sp, 0x110, 0, 1, 0, 1, 31, 0, .w1c, .live, 0x0, false⟩,
  ⟨.spGpioClrHi, .sp, 0x114, 0, 1, 0, 1, 15, 0, .w1c, .live, 0x0, false⟩,
  ⟨.spGpioTglLo, .sp, 0x118, 0, 1, 0, 1, 31, 0, .wo, .live, 0x0, false⟩,
  ⟨.spGpioTglHi, .sp, 0x11c, 0, 1, 0, 1, 15, 0, .wo, .live, 0x0, false⟩,
  ⟨.spGpioInLo, .sp, 0x120, 0, 1, 0, 1, 31, 0, .ro, .none, 0x0, false⟩,
  ⟨.spGpioInHi, .sp, 0x124, 0, 1, 0, 1, 15, 0, .ro, .none, 0x0, false⟩,
  ⟨.spBankRamping, .sp, 0x130, 4, 4, 0, 1, 2, 2, .ro, .none, 0x0, false⟩,
  ⟨.spBankVsel, .sp, 0x130, 4, 4, 0, 1, 1, 0, .rw, .static, 0x1, true⟩,
  ⟨.spCfgLatched, .sp, 0x140, 0, 1, 0, 1, 2, 2, .ro, .none, 0x0, false⟩,
  ⟨.spCfgStrap, .sp, 0x140, 0, 1, 0, 1, 1, 1, .ro, .none, 0x0, false⟩,
  ⟨.spCfgStbyLp, .sp, 0x140, 0, 1, 0, 1, 0, 0, .rw, .static, 0x0, true⟩,
  ⟨.spUartRxDrop, .sp, 0x150, 4, 2, 0, 1, 31, 0, .rc, .none, 0x0, false⟩,
  ⟨.spUartRxLevel, .sp, 0x158, 4, 2, 0, 1, 12, 0, .ro, .none, 0x0, false⟩]

/-- 15_power_and_energy.md, R405. -/
def regTableR405 : List FieldInfo := [
  ⟨.pwrStatusAuxFault, .pwr, 0x0, 0, 1, 0, 1, 9, 9, .w1c, .live, 0x0, false⟩,
  ⟨.pwrStatusTrip, .pwr, 0x0, 0, 1, 0, 1, 8, 8, .w1c, .live, 0x0, false⟩,
  ⟨.pwrStatusCoolTemp, .pwr, 0x0, 0, 1, 0, 1, 7, 7, .ro, .none, 0x0, false⟩,
  ⟨.pwrStatusCoolFlow, .pwr, 0x0, 0, 1, 0, 1, 6, 6, .ro, .none, 0x0, false⟩,
  ⟨.pwrStatusDuty, .pwr, 0x0, 0, 1, 0, 1, 5, 5, .ro, .none, 0x0, false⟩,
  ⟨.pwrStatusDropout, .pwr, 0x0, 0, 1, 0, 1, 4, 4, .w1c, .live, 0x0, false⟩,
  ⟨.pwrStatusShare, .pwr, 0x0, 0, 1, 0, 1, 3, 3, .w1c, .live, 0x0, false⟩,
  ⟨.pwrStatusLowLine, .pwr, 0x0, 0, 1, 0, 1, 2, 2, .ro, .none, 0x0, false⟩,
  ⟨.pwrStatusFeedB, .pwr, 0x0, 0, 1, 0, 1, 1, 1, .ro, .none, 0x0, false⟩,
  ⟨.pwrStatusFeedA, .pwr, 0x0, 0, 1, 0, 1, 0, 0, .ro, .none, 0x0, false⟩,
  ⟨.pwrInVDv, .pwr, 0x4, 4, 2, 0, 1, 31, 20, .ro, .none, 0x0, false⟩,
  ⟨.pwrInW, .pwr, 0x4, 4, 2, 0, 1, 19, 8, .ro, .none, 0x0, false⟩,
  ⟨.pwrInPf, .pwr, 0x4, 4, 2, 0, 1, 7, 0, .ro, .none, 0x0, false⟩,
  ⟨.pwrInLimitW, .pwr, 0xc, 0, 1, 0, 1, 31, 16, .ro, .none, 0x640, false⟩,
  ⟨.pwrInTotalW, .pwr, 0xc, 0, 1, 0, 1, 15, 0, .ro, .none, 0x0, false⟩,
  ⟨.pwrCfgLimitW, .pwr, 0x10, 0, 1, 0, 1, 10, 0, .rw, .live, 0x640, true⟩,
  ⟨.pwrCfgLowMhz, .pwr, 0x14, 0, 1, 0, 1, 10, 0, .rw, .live, 0x578, true⟩,
  ⟨.pwrCfgTjTargetC, .pwr, 0x18, 0, 1, 0, 1, 6, 0, .rw, .live, 0x55, true⟩,
  ⟨.pwrAuxEn, .pwr, 0x1c, 0, 1, 0, 1, 0, 0, .rw, .live, 0x0, true⟩,
  ⟨.pwrBellowsCeilMhz, .pwr, 0x20, 0, 1, 0, 1, 15, 0, .ro, .none, 0x708, false⟩,
  ⟨.pwrDutyPpm, .pwr, 0x24, 0, 1, 0, 1, 19, 0, .ro, .none, 0x0, false⟩,
  ⟨.pwrCoolInDc, .pwr, 0x28, 0, 1, 0, 1, 31, 22, .ro, .none, 0x0, false⟩,
  ⟨.pwrCoolOutDc, .pwr, 0x28, 0, 1, 0, 1, 21, 12, .ro, .none, 0x0, false⟩,
  ⟨.pwrCoolFlowCl, .pwr, 0x28, 0, 1, 0, 1, 11, 0, .ro, .none, 0x0, false⟩]

/-- 15_power_and_energy.md, R405. -/
def regTableR405b : List FieldInfo := [
  ⟨.pwrTjAnvil, .pwr, 0x2c, 0, 1, 0, 1, 10, 8, .ro, .none, 0x0, false⟩,
  ⟨.pwrTjMaxC, .pwr, 0x2c, 0, 1, 0, 1, 7, 0, .ro, .none, 0x0, false⟩,
  ⟨.pwrRailFirstValid, .pwr, 0x30, 0, 1, 0, 1, 31, 31, .w1c, .live, 0x0, false⟩,
  ⟨.pwrRailFirstKind, .pwr, 0x30, 0, 1, 0, 1, 11, 8, .ro, .none, 0x0, false⟩,
  ⟨.pwrRailFirstRail, .pwr, 0x30, 0, 1, 0, 1, 6, 0, .ro, .none, 0x0, false⟩,
  ⟨.pwrRailFaultCount, .pwr, 0x34, 0, 1, 0, 1, 31, 0, .rc, .none, 0x0, false⟩,
  ⟨.pwrInDropoutCount, .pwr, 0x38, 0, 1, 0, 1, 31, 0, .rc, .none, 0x0, false⟩,
  ⟨.pwrPartProtect, .pwr, 0x100, 4, 32, 0, 1, 0, 0, .rw, .live, 0x0, true⟩,
  ⟨.pwrRailOn, .pwr, 0x200, 4, 128, 0, 1, 31, 31, .ro, .none, 0x0, false⟩,
  ⟨.pwrRailGood, .pwr, 0x200, 4, 128, 0, 1, 30, 30, .ro, .none, 0x0, false⟩,
  ⟨.pwrRailAmpsDa, .pwr, 0x200, 4, 128, 0, 1, 29, 16, .ro, .none, 0x0, false⟩,
  ⟨.pwrRailMv, .pwr, 0x200, 4, 128, 0, 1, 15, 0, .ro, .none, 0x0, false⟩]

/-- 16_startup_and_settings.md, R420. -/
def regTableR420 : List FieldInfo := [
  ⟨.modStateFactoryBad, .mod, 0x200, 0, 1, 0, 1, 12, 12, .ro, .none, 0x0, false⟩,
  ⟨.modStateLastReset, .mod, 0x200, 0, 1, 0, 1, 11, 8, .ro, .none, 0x0, false⟩,
  ⟨.modStateMode, .mod, 0x200, 0, 1, 0, 1, 2, 0, .ro, .none, 0x1, false⟩,
  ⟨.modBootAutoWake, .mod, 0x204, 0, 1, 0, 1, 0, 0, .rw, .live, 0x1, true⟩,
  ⟨.modBootRejected, .mod, 0x208, 0, 1, 0, 1, 31, 16, .ro, .none, 0x0, false⟩,
  ⟨.modBootSettingsSrc, .mod, 0x208, 0, 1, 0, 1, 1, 0, .ro, .none, 0x0, false⟩,
  ⟨.modBootGeneration, .mod, 0x20c, 0, 1, 0, 1, 31, 0, .ro, .none, 0x0, false⟩,
  ⟨.modFwFallbacks, .mod, 0x210, 0, 1, 0, 1, 31, 16, .ro, .none, 0x0, true⟩,
  ⟨.modFwBValid, .mod, 0x210, 0, 1, 0, 1, 4, 4, .ro, .none, 0x0, false⟩,
  ⟨.modFwAValid, .mod, 0x210, 0, 1, 0, 1, 3, 3, .ro, .none, 0x0, false⟩,
  ⟨.modFwNext, .mod, 0x210, 0, 1, 0, 1, 2, 2, .ro, .none, 0x0, true⟩,
  ⟨.modFwTrial, .mod, 0x210, 0, 1, 0, 1, 1, 1, .ro, .none, 0x0, true⟩,
  ⟨.modFwActive, .mod, 0x210, 0, 1, 0, 1, 0, 0, .ro, .none, 0x0, false⟩,
  ⟨.modFwVerA, .mod, 0x214, 0, 1, 0, 1, 31, 0, .ro, .none, 0x0, false⟩,
  ⟨.modFwVerB, .mod, 0x218, 0, 1, 0, 1, 31, 0, .ro, .none, 0x0, false⟩,
  ⟨.modFwSvnMin, .mod, 0x21c, 0, 1, 0, 1, 31, 0, .ro, .none, 0x0, true⟩]

/-- 17_service_life.md, R441. -/
def regTableR441 : List FieldInfo := [
  ⟨.hearthTemperWorstTap, .hearth, 0x600, 4, 4, 0, 1, 26, 24, .ro, .none, 0x0, false⟩,
  ⟨.hearthTemperMarginPm, .hearth, 0x600, 4, 4, 0, 1, 15, 0, .ro, .none, 0x7fff, false⟩,
  ⟨.hearthBilletFailed, .hearth, 0x610, 0, 1, 0, 1, 26, 16, .ro, .none, 0x0, true⟩,
  ⟨.hearthBilletFree, .hearth, 0x610, 0, 1, 0, 1, 5, 0, .ro, .none, 0x20, true⟩,
  ⟨.hearthTemperBilletIn, .hearth, 0x614, 0, 1, 0, 1, 16, 16, .ro, .none, 0x0, false⟩,
  ⟨.hearthTemperBilletPm, .hearth, 0x614, 0, 1, 0, 1, 15, 0, .ro, .none, 0x7fff, false⟩]

/-- 17_service_life.md, R442. -/
def regTableR442 : List FieldInfo := [
  ⟨.svcCond, .svc, 0x0, 0, 1, 0, 1, 9, 0, .ro, .none, 0x0, true⟩,
  ⟨.svcStewardFailovers, .svc, 0x4, 0, 1, 0, 1, 31, 16, .ro, .none, 0x0, true⟩,
  ⟨.svcStewardAnvil, .svc, 0x4, 0, 1, 0, 1, 2, 0, .ro, .none, 0x0, false⟩,
  ⟨.svcCpout, .svc, 0x8, 0, 1, 0, 1, 8, 0, .ro, .none, 0x0, false⟩,
  ⟨.svcTemperCeilMhz, .svc, 0xc, 0, 1, 0, 1, 15, 0, .ro, .none, 0x708, true⟩,
  ⟨.svcTemperGuardPm, .svc, 0x10, 0, 1, 0, 1, 9, 0, .rw, .live, 0x3c, true⟩,
  ⟨.svcTemperSamples, .svc, 0x14, 0, 1, 0, 1, 31, 0, .rc, .none, 0x0, false⟩,
  ⟨.svcBilletInserts, .svc, 0x18, 0, 1, 0, 1, 31, 0, .rc, .none, 0x0, false⟩,
  ⟨.svcScrubPeriodS, .svc, 0x1c, 0, 1, 0, 1, 15, 0, .rw, .live, 0xe10, true⟩,
  ⟨.svcLinkOut, .svc, 0x20, 0, 1, 0, 1, 23, 0, .ro, .none, 0x0, true⟩,
  ⟨.svcRegionState, .svc, 0x100, 4, 64, 0, 1, 31, 30, .ro, .none, 0x0, true⟩,
  ⟨.svcRegionVcoreMv, .svc, 0x100, 4, 64, 0, 1, 29, 20, .ro, .none, 0x2bc, true⟩,
  ⟨.svcRegionMarginPm, .svc, 0x100, 4, 64, 0, 1, 15, 0, .ro, .none, 0x7fff, false⟩,
  ⟨.svcAvailOutMs, .svc, 0x200, 16, 32, 0, 1, 31, 0, .ro, .none, 0x0, false⟩,
  ⟨.svcAvailOutEvents, .svc, 0x204, 16, 32, 0, 1, 31, 0, .ro, .none, 0x0, false⟩,
  ⟨.svcAvailExtMs, .svc, 0x208, 16, 32, 0, 1, 31, 0, .ro, .none, 0x0, false⟩,
  ⟨.svcAvailExposedS, .svc, 0x20c, 16, 32, 0, 1, 31, 0, .ro, .none, 0x0, false⟩]

/-- Every row of every register table, in the order of `Fld`. -/
def regTable : List FieldInfo :=
  regTableR27 ++ regTableR79 ++ regTableR80 ++ regTableR86 ++ regTableR96 ++ regTableR103 ++
  regTableR104 ++ regTableR107 ++ regTableR113 ++ regTableR115 ++ regTableR119 ++ regTableR133 ++
  regTableR144 ++ regTableR162 ++ regTableR162b ++ regTableR179 ++ regTableR179b ++ regTableR196 ++
  regTableR208 ++ regTableR231 ++ regTableR231b ++ regTableR231c ++ regTableR252 ++ regTableR252b ++
  regTableR274 ++ regTableR275 ++ regTableR294 ++ regTableR294b ++ regTableR295 ++ regTableR305 ++
  regTableR323 ++ regTableR324 ++ regTableR324b ++ regTableR354 ++ regTableR354b ++ regTableR355 ++
  regTableR356 ++ regTableR371 ++ regTableR371b ++ regTableR371c ++ regTableR386 ++ regTableR405 ++
  regTableR405b ++ regTableR420 ++ regTableR441 ++ regTableR442

/-- The row that stands for a field that is in no table (never met: `fieldInfo_fld`). -/
def FieldInfo.none : FieldInfo := ⟨.modIdGrade, .mod, 0, 0, 1, 0, 1, 31, 0, .ro, .none, 0, false⟩

/-- The table row of a field. -/
def Fld.info (f : Fld) : FieldInfo := regTable.getD f.ctorIdx FieldInfo.none

/-- Width of a field in bits. -/
def Fld.width (f : Fld) : Nat := f.info.hi + 1 - f.info.lo

end Sys2Proof.Machine
end

