-- ==== Sys2Proof/Machine/Status.lean ====
section
/-! DEFINITION. Status codes (R310 and the status lists of the chapters) and event kinds (R316). -/

namespace Sys2Proof.Machine

/-- A completion status. The order within a block is the order of its chapter, so `Status.num` gives block + 1,
block + 2 and so on (R310). -/
inductive Status where
  | ok
  | notPresent | imageTargetMismatch | fieldClassViolation
  | illegalOpcode | illegalRoute | illegalOperand | assertHalt
  | scheduleInvalid | wireOwnership | doubleDrive | fenceViolation
  | bankConflict | horizonMiss | memWindow | memSlots | memBusy
  | notOwner | modeInvalid | modeSuperseded | partExists | regionBusy | quenchFaultHeld | cmpSource | cmpWindow
  | markOverrun
  | imageFormat | imageSignature | imageDigest | imageProbe | imageOutput | imageRelocation | dramAlloc | queueAlloc
  | loadVerify | loadBusy | loadAborted
  | captureBusy | captureLate | captureSpace | captureIncomplete | captureAborted
  | traceBusy | traceSink
  | dramFrozen | dramNotFrozen | dramMarkHeld | reserveEmpty
  | nocFenced | nocUnroutable | nocLinkDown | nocTimeout | nocEpochBusy | nocDrainTimeout | epochFenceTimeout
  | nocHeader | nocEpoch
  | uncorrectable | latencyMismatch | cmdUnknown | cmdFormat | cmdAborted | hostDma | queueEnabled | queueSetup
  | queueDoorbell | authFailed | hostPortInUse | queueEntry
  | wlStreamBound | wlRoute | wlState | wlFrame | wlCredit | wlCapMismatch | wlTrainFail | wlRetryLimit | wlSpareNone
  | wlLaneDown
  | timeBusy | timeSetup | timeMismatch | timeSourceLost
  | spFunc | spShort | spBusy | spI2cNack | spI2cTimeout | spI2cArb
  | pwrRailFault | pwrInputLost | pwrThermalTrip | pwrCoolant | pwrAuxFault | pwrShare
  | settingsAbsent | settingsCorrupt | settingsRecord | fwInvalid | fwBusy | fwNotTrial | partsExist | flashError
  | svcNoBillet | svcBusy | svcRegionRetired | svcLinkOut | svcCpOut | selftestFail | temperLimit | moduleFault
deriving DecidableEq, Repr

/-- The 16-bit number of a status (R310). -/
def Status.num : Status → Nat
  | .ok => 0
  | .notPresent => 0x0001 | .imageTargetMismatch => 0x0002 | .fieldClassViolation => 0x0003
  | .illegalOpcode => 0x0201 | .illegalRoute => 0x0202 | .illegalOperand => 0x0203 | .assertHalt => 0x0204
  | .scheduleInvalid => 0x0301 | .wireOwnership => 0x0302 | .doubleDrive => 0x0303 | .fenceViolation => 0x0304
  | .bankConflict => 0x0401 | .horizonMiss => 0x0402 | .memWindow => 0x0403 | .memSlots => 0x0404
  | .memBusy => 0x0405
  | .notOwner => 0x0501 | .modeInvalid => 0x0502 | .modeSuperseded => 0x0503 | .partExists => 0x0504
  | .regionBusy => 0x0505 | .quenchFaultHeld => 0x0506 | .cmpSource => 0x0507 | .cmpWindow => 0x0508
  | .markOverrun => 0x0509
  | .imageFormat => 0x0601 | .imageSignature => 0x0602 | .imageDigest => 0x0603 | .imageProbe => 0x0604
  | .imageOutput => 0x0605 | .imageRelocation => 0x0606 | .dramAlloc => 0x0607 | .queueAlloc => 0x0608
  | .loadVerify => 0x0609 | .loadBusy => 0x060A | .loadAborted => 0x060B
  | .captureBusy => 0x0701 | .captureLate => 0x0702 | .captureSpace => 0x0703 | .captureIncomplete => 0x0704
  | .captureAborted => 0x0705
  | .traceBusy => 0x0801 | .traceSink => 0x0802
  | .dramFrozen => 0x0901 | .dramNotFrozen => 0x0902 | .dramMarkHeld => 0x0903 | .reserveEmpty => 0x0904
  | .nocFenced => 0x0A01 | .nocUnroutable => 0x0A02 | .nocLinkDown => 0x0A03 | .nocTimeout => 0x0A04
  | .nocEpochBusy => 0x0A05 | .nocDrainTimeout => 0x0A06 | .epochFenceTimeout => 0x0A07 | .nocHeader => 0x0A08
  | .nocEpoch => 0x0A09
  | .uncorrectable => 0x0B01 | .latencyMismatch => 0x0B02 | .cmdUnknown => 0x0B03 | .cmdFormat => 0x0B04
  | .cmdAborted => 0x0B05 | .hostDma => 0x0B06 | .queueEnabled => 0x0B07 | .queueSetup => 0x0B08
  | .queueDoorbell => 0x0B09 | .authFailed => 0x0B0A | .hostPortInUse => 0x0B0B | .queueEntry => 0x0B0C
  | .wlStreamBound => 0x0C01 | .wlRoute => 0x0C02 | .wlState => 0x0C03 | .wlFrame => 0x0C04 | .wlCredit => 0x0C05
  | .wlCapMismatch => 0x0C06 | .wlTrainFail => 0x0C07 | .wlRetryLimit => 0x0C08 | .wlSpareNone => 0x0C09
  | .wlLaneDown => 0x0C0A
  | .timeBusy => 0x0D01 | .timeSetup => 0x0D02 | .timeMismatch => 0x0D03 | .timeSourceLost => 0x0D04
  | .spFunc => 0x0E01 | .spShort => 0x0E02 | .spBusy => 0x0E03 | .spI2cNack => 0x0E04 | .spI2cTimeout => 0x0E05
  | .spI2cArb => 0x0E06
  | .pwrRailFault => 0x0F01 | .pwrInputLost => 0x0F02 | .pwrThermalTrip => 0x0F03 | .pwrCoolant => 0x0F04
  | .pwrAuxFault => 0x0F05 | .pwrShare => 0x0F06
  | .settingsAbsent => 0x1001 | .settingsCorrupt => 0x1002 | .settingsRecord => 0x1003 | .fwInvalid => 0x1004
  | .fwBusy => 0x1005 | .fwNotTrial => 0x1006 | .partsExist => 0x1007 | .flashError => 0x1008
  | .svcNoBillet => 0x1101 | .svcBusy => 0x1102 | .svcRegionRetired => 0x1103 | .svcLinkOut => 0x1104
  | .svcCpOut => 0x1105 | .selftestFail => 0x1106 | .temperLimit => 0x1107 | .moduleFault => 0x1108

/-- Event kinds of R316. -/
def Ev.mode : Nat := 0x01
def Ev.error : Nat := 0x02
def Ev.quench : Nat := 0x03
def Ev.halt : Nat := 0x04
def Ev.capture : Nat := 0x05
/-- Module events (R440 and the chapters). -/
def Ev.condition : Nat := 0x1D
def Ev.outage : Nat := 0x1E

/-- The quench causes of R156. -/
def Cause.hzMiss : Nat := 0x1
def Cause.refresh : Nat := 0x2
def Cause.slots : Nat := 0x3
def Cause.underrun : Nat := 0x4
def Cause.throttle : Nat := 0x5
def Cause.doubleDrive : Nat := 0x6
def Cause.bank : Nat := 0x7
def Cause.trigger : Nat := 0x8
def Cause.stop : Nat := 0x9
def Cause.abort : Nat := 0xA
def Cause.uncorr : Nat := 0xB
def Cause.billet : Nat := 0xC

/-- The order in which one interval of stretch is counted against one of the active causes (R160), highest first. -/
def Cause.rank : List Nat := [0xB, 0x6, 0x7, 0xA, 0x9, 0x8, 0xC, 0x5, 0x2, 0x1, 0x3, 0x4]

/-- A cause that is latched until the host releases it (R156): held causes and fault causes. -/
def Cause.held (c : Nat) : Bool := decide (c = 0x6 ∨ c = 0x7 ∨ c = 0x8 ∨ c = 0x9 ∨ c = 0xA ∨ c = 0xB)

/-- A cause whose release also needs ACK_FAULT (R156). -/
def Cause.isFault (c : Nat) : Bool := decide (c = 0x6 ∨ c = 0x7 ∨ c = 0xB)

end Sys2Proof.Machine
end

