-- ==== Sys2Proof/Machine/Tab.lean ====
section
/-! DEFINITION. Sparse tables: what the module stores under an index, as a list of keys and values in ONE
canonical form (keys strictly rising, no entry equal to what an unlisted key reads as). Every memory and
every indexed store of the model is one of these. -/

namespace Sys2Proof.Machine

/-- The index of an entry: the coordinates the spec gives it (anvil, hearth, BP, step ...), outermost first. -/
abbrev Key := List Nat

/-- Lexicographic order of keys. -/
def Key.lt : Key → Key → Bool
  | [], [] => false
  | [], _ :: _ => true
  | _ :: _, [] => false
  | a :: as, b :: bs => if a < b then true else if a = b then Key.lt as bs else false

/-- A sparse table. -/
abbrev Tab (α : Type) := List (Key × α)

/-- The entry of a key, if it is listed. -/
def Tab.find? {α : Type} : Tab α → Key → Option α
  | [], _ => none
  | (k', v) :: t, k => if k' = k then some v else Tab.find? t k

/-- What a key reads as: its entry, or the default of an unlisted key. -/
def Tab.get {α : Type} (d : α) (t : Tab α) (k : Key) : α := (Tab.find? t k).getD d

/-- The table without a key. -/
def Tab.erase {α : Type} : Tab α → Key → Tab α
  | [], _ => []
  | (k', v) :: t, k => if k' = k then Tab.erase t k else (k', v) :: Tab.erase t k

/-- An entry put in its place in the order of keys. -/
def Tab.insert {α : Type} : Tab α → Key → α → Tab α
  | [], k, v => [(k, v)]
  | (k', v') :: t, k, v =>
    if Key.lt k k' then (k, v) :: (k', v') :: t else (k', v') :: Tab.insert t k v

/-- The table with one key set; setting the default removes the entry. -/
def Tab.put {α : Type} [DecidableEq α] (d : α) (t : Tab α) (k : Key) (v : α) : Tab α :=
  if v = d then Tab.erase t k else Tab.insert (Tab.erase t k) k v

/-- The entries whose key meets a test. -/
def Tab.keep {α : Type} (p : Key → Bool) : Tab α → Tab α
  | [] => []
  | (k, v) :: t => if p k then (k, v) :: Tab.keep p t else Tab.keep p t

/-- Every key is above `lo`, the keys rise strictly, and no entry equals the default. -/
def Tab.wfFrom {α : Type} [DecidableEq α] (d : α) : Option Key → Tab α → Bool
  | _, [] => true
  | lo, (k, v) :: t =>
    (match lo with
     | none => true
     | some l => Key.lt l k) && decide (v ≠ d) && Tab.wfFrom d (some k) t

/-- The canonical form: keys strictly rising, no entry equal to the default. -/
def Tab.wf {α : Type} [DecidableEq α] (d : α) (t : Tab α) : Bool := Tab.wfFrom d none t

/-- A run of values written at consecutive last coordinates, from `i` on. -/
def Tab.putRun {α : Type} [DecidableEq α] (d : α) (pre : Key) : Nat → List α → Tab α → Tab α
  | _, [], t => t
  | i, v :: vs, t => Tab.putRun d pre (i + 1) vs (Tab.put d t (pre ++ [i]) v)

/-- A run of `n` values read at consecutive last coordinates, from `i` on. -/
def Tab.getRun {α : Type} (d : α) (t : Tab α) (pre : Key) : Nat → Nat → List α
  | _, 0 => []
  | i, n + 1 => Tab.get d t (pre ++ [i]) :: Tab.getRun d t pre (i + 1) n

/-- The table with one key's entry changed by a function. -/
def Tab.modify {α : Type} [DecidableEq α] (d : α) (t : Tab α) (k : Key) (f : α → α) : Tab α :=
  Tab.put d t k (f (Tab.get d t k))

/-- Every entry changed by a function of its key and value; entries that become the default leave the table. -/
def Tab.mapAll {α : Type} [DecidableEq α] (d : α) (f : Key → α → α) : Tab α → Tab α
  | [] => []
  | (k, v) :: t => if f k v = d then Tab.mapAll d f t else (k, f k v) :: Tab.mapAll d f t

end Sys2Proof.Machine
end

