-- ==== Sys2Proof/Machine/State.lean ====
section
/-! DEFINITION. The state of the module: every register, store, FIFO, buffer, counter, mode and pin that spec/ gives
it, as plain data, and the queue of the commands that are waiting. `State.reset` is the module just after mains
arrives (module state OFF has been left, R406), with nothing recorded in its flash. -/

namespace Sys2Proof.Machine

/-! ## Outcomes -/

/-- The faults of the machine. There is none: the spec gives every command an effect in every state (an absent
resource reads 0 and ignores writes, R3; an event that is not due has no effect, log entry 4). -/
inductive Fault where
deriving DecidableEq, Repr

/-- The refusals of the machine. -/
inductive Refusal where
  /-- Raised by `exec` for a command whose meaning is not written; safe: nothing can be proved of it. -/
  | notModelled (mnemonic : String)
deriving DecidableEq, Repr

/-! ## The fabric (chapters 02 to 04) -/

/-- A bit on its way to a routing wire (R89, R94): the receiving hearth and channel bit, its driver number (R100), its
value, the partition, the executed steps until it arrives, and the link port it crosses, if any. -/
structure Flight where
  part : Nat
  anvil : Nat
  hearth : Nat
  chan : Nat
  driver : Nat
  value : Bool
  left : Nat
  link : Option Nat
deriving DecidableEq, Repr

/-- A scratchpad read under way (R124): executed steps until it delivers, and its read word. -/
structure SpRead where
  part : Nat
  anvil : Nat
  hearth : Nat
  port : Nat
  left : Nat
  word : Nat
deriving DecidableEq, Repr

/-- A DRAM access of a memory port (R134 to R142): the port, its byte address in the anvil, its bytes (to write, or how
many to read), whether it still waits in the port's hold, and the number that orders it. -/
structure EmuReq where
  part : Nat
  anvil : Nat
  hearth : Nat
  port : Nat
  write : Bool
  addr : Nat
  len : Nat
  data : Bytes
  held : Bool
  id : Nat
  /-- the WIDTH of the binding at the issue (R116). -/
  width : Nat
deriving DecidableEq, Repr

/-- A DRAM read that is due at the horizon step of a cycle (R137): its word once it has returned. -/
structure DueRead where
  part : Nat
  anvil : Nat
  hearth : Nat
  port : Nat
  cycle : Nat
  id : Nat
  word : Option Nat
  /-- its return is late because of an announced refresh (R140). -/
  refreshed : Bool
deriving DecidableEq, Repr

/-- A DMA access of a bank that waits for idle steps (R129, R130), of `count` bytes from `first` on, `done` of them done.
A read has its bytes so far in `got`; a write has the byte for each address it replaces in `put`. `busy` counts the
consecutive executed steps in which the bank was not idle. -/
structure DmaJob where
  who : DmaFor
  anvil : Nat
  hearth : Nat
  bank : Nat
  first : Nat
  count : Nat
  done : Nat
  got : Bytes
  addr : Nat
  bad : Bool
  put : Option (List (Option Byte))
  busy : Nat
deriving DecidableEq, Repr

/-- The stores of the hearth fabric. Keys are [anvil, hearth, ...]. -/
structure Fab where
  /-- instruction words (R43), [a, h, lbp, step]; 0 is NOP. -/
  instr : Tab (BitVec 80)
  /-- route words (R43), [a, h, lbp, step]; 0 is "none". -/
  route : Tab (BitVec 12)
  /-- egress words (R88), [a, h, step, entry]. -/
  egress : Tab (BitVec 22)
  /-- injector words (R105), [a, h, step, slot]. -/
  inject : Tab (BitVec 24)
  /-- table dictionary (R55), [a, h, entry]. -/
  dict : Tab (BitVec 64)
  /-- storage errors: [store, a, h, ...] is 1 for a single-bit error, 2 for a double-bit error (R44, R91, R132). -/
  flaws : Tab Nat
  /-- data memory 0 to 1,791 (R46), [a, h, lbp, address]. -/
  mem : Tab Bool
  /-- commit shadow values (R60), [a, h, lbp, u], u = 0 to 255. -/
  shadow : Tab Bool
  /-- pending marks of the commit shadow. -/
  pend : Tab Bool
  /-- hearth bus as driven in the last executed step (R73), [a, h, j]. -/
  bus : Tab Bool
  /-- bits in the channel registers and link pipelines (R92). -/
  flight : List Flight
  /-- address, write-data and read-word registers of the memory ports (R63, R64), [a, h, port]. -/
  paddr : Tab Nat
  pdata : Tab Nat
  pword : Tab Nat
  /-- WLOST specials (R126). -/
  wlost : Tab Bool
  spReads : List SpRead
  /-- scratchpad bytes (R121), [a, h, bank, physical byte address]. -/
  banks : Tab Byte
  /-- DRAM accesses that wait in a hold or hold a slot (R141, R142), in issue order. -/
  emu : List EmuReq
  due : List DueRead
  nextId : Nat
  /-- the cycle, plus 1, in which each DRAM-bound port last issued, [a, h, port] (R127). -/
  issued : Tab Nat
  dma : List DmaJob
deriving DecidableEq, Repr

def Fab.init : Fab := ⟨[], [], [], [], [], [], [], [], [], [], [], [], [], [], [], [], [], [], [], 0, [], []⟩

/-! ## A partition (chapters 03 to 07) -/

/-- A cause on its way to its landing point (R155): it freezes the partition before step `step` of cycle `cycle`;
`step` = S stands for "after step S − 1". `fixed` is a landing point that the cause table names: the partition reaches it
even if another cause has frozen it before. -/
structure Enter where
  cause : Nat
  cycle : Nat
  step : Nat
  fixed : Bool
deriving DecidableEq, Repr

/-- One set of levels of the clock generator (R109, R110): the divider counters, the levels of sources 0 to 31, and
for each multiplexer its present source and state (0 follow, 1 drain, 2 arm). -/
structure Levels where
  cnt : List Nat
  lvl : List Bool
  mux : List (Nat × Nat)
deriving DecidableEq, Repr

def Levels.init : Levels := ⟨List.replicate 16 0, List.replicate 32 false, List.replicate 16 (0, 0)⟩

/-- The clock generator of the home region (R108 to R114): levels of the current and of the next cycle, CLKEN and RST
of the current cycle as 64 and 16 bits, and the reset counters. -/
structure Clock where
  cur : Levels
  nxt : Levels
  clken : Nat
  rst : Nat
  count : List Nat
deriving DecidableEq, Repr

def Clock.init : Clock := ⟨Levels.init, Levels.init, 0, 0, List.replicate 16 0⟩

/-- What the compare engine keeps of one executed cycle (R172, R173): its start time, its emulated outputs, whether it
is to be compared, and the tester's response and care vector once read. Vectors are numbers, bit i for pin i. -/
structure CycRec where
  cycle : Nat
  start : Nat
  outs : Nat
  compare : Bool
  resp : Nat
  care : Nat
deriving DecidableEq, Repr

/-- A vector FIFO of R169: bytes of a stimulus queue, or stream frames by SSEQ (R339) from `head`, the lowest SSEQ not
yet freed, on; `used` bytes of the head frame are consumed; `src` is the stream whose frames the slots hold. -/
structure Fifo where
  bytes : Bytes
  slots : Tab Bytes
  held : Tab Bool
  head : Nat
  used : Nat
  src : Option Nat
deriving DecidableEq, Repr

def Fifo.init : Fifo := ⟨[], [], [], 0, 0, none⟩

/-- A halt request of the cycle (R77). -/
structure HaltReq where
  step : Nat
  anvil : Nat
  hearth : Nat
  lbp : Nat
deriving DecidableEq, Repr

/-- A full-state capture (R211 to R216). `us` and `sp` hold the bits taken at the boundary. The copier of a bank
[a, h, bank] has taken every group below `next`; `taken` are the groups above it that a write saved, `lost` those it lost;
`cow` counts the entries in each hearth's copy-on-write buffer. `ranges` are the DRAM pages marked at the boundary
(anvil, first page, end); a page is unmarked once it is in `copies` or `gone`. -/
structure Capture where
  ref : Option CmdRef
  at_ : Nat
  cycle : Nat
  edge : Nat
  flags : Nat
  /-- the header's TIME is known. -/
  timed : Bool
  time : Nat
  head : Bytes
  us : Tab Bool
  sp : Tab Byte
  next : Tab Nat
  taken : Tab Bool
  lost : Tab Bool
  cow : Tab Nat
  ranges : List (Nat × Nat × Nat)
  /-- snapshot copies: [anvil, page] to the reserve page that holds it, plus 1. -/
  copies : Tab Nat
  /-- pages lost to the snapshot, [anvil, page]. -/
  gone : Tab Bool
  snapshot : Bool
  incomplete : Bool
deriving DecidableEq, Repr

def Capture.init : Capture :=
  ⟨none, 0, 0, 0, 0, false, 0, [], [], [], [], [], [], [], [], [], [], false, false⟩

/-- The acquisition unit (R225 to R229). -/
structure Acq where
  isOpen : Bool
  /-- records written into the open segment. -/
  j : Nat
  seq : Nat
  openCycle : Nat
  openTime : Nat
  lastCycle : Nat
  /-- trigger cycle and its time, once a fire is accepted, and cycles left in the post window. -/
  trig : Option (Nat × Nat)
  postLeft : Nat
  missed : Nat
  dropped : Nat
  gap : Nat
  /-- last cycle of the previous segment and the start time of the cycle after it, once it has started. -/
  prev : Option Nat
  prevNext : Option Nat
  /-- start time of the cycle after the last one recorded in the open segment, once it has started. -/
  after : Option Nat
  /-- records waiting in the 256 KiB buffer: their ring address and bytes. -/
  buf : List (Nat × Bytes)
deriving DecidableEq, Repr

def Acq.init : Acq := ⟨false, 0, 0, 0, 0, 0, none, 0, 0, 0, 0, none, none, none, []⟩

/-- A load in progress (R202 to R205). -/
structure Load where
  ref : CmdRef
  srcPort : Nat
  addr : Nat
  length : Nat
  checkOnly : Bool
  order : Nat
  /-- the header, the section table and the trailer, as fetched in stage 0x1. -/
  head : Bytes
  table : Bytes
  trailer : Bytes
  /-- KEY_ID and IMAGE_ID once read. -/
  keyId : Nat
  imageId : Nat
  rowSwap : Nat
  colShift : Nat
  rowShift : Nat
  /-- reserved allocations (anvil, base, size) and slots (anvil, n). -/
  allocs : List (Nat × Nat × Nat)
  slots : List (Nat × Nat)
  /-- hold states of the PINS section: pin and code. -/
  holds : List (Nat × Nat)
  /-- hearths verified so far. -/
  next : Nat
  /-- the fields that the records of the image write. -/
  writes : List Key
deriving DecidableEq, Repr

/-- What a partition holds beside its registers. -/
structure Part where
  /-- FREE-RUN or LOCKSTEP, as left for INSPECT (R149). -/
  leftMode : Nat
  /-- a PART_STOP from INSPECT finishes its cycle (R149). -/
  finishing : Bool
  /-- step 0 of the present cycle has executed. -/
  started : Bool
  /-- the partition restarts from a held boundary: pending fields commit and ARM acts at step 0 (R153, R224). -/
  heldStart : Bool
  /-- boundary fields written in INSPECT with MIDCYCLE = 1 before such a step 0: they commit at the end of its cycle. -/
  midHeld : List Key
  stops : List (CmdRef × Bool)
  halts : List CmdRef
  /-- a PART_HALT with NOW = 1 that waits for its freeze to land (R149). -/
  haltNow : List CmdRef
  destroys : List CmdRef
  /-- commands that wait until a billet insertion ends (R428). -/
  entering : List Enter
  /-- frozen: counter value up to which stretch has been counted, and the cause that takes the next interval. -/
  stretchFrom : Nat
  stretchTo : Nat
  /-- time of the last quench event of each cause (R316). -/
  quenchEv : Tab Nat
  /-- anvils whose DRAM freeze holds cause 0xB (R143). -/
  frzHold : List Nat
  underCycle : Nat
  hzCycle : Nat
  haltReqs : List HaltReq
  clk : Clock
  /-- input vector of the current cycle, outputs delivered so far. -/
  inVec : Nat
  outs : Nat
  cycs : List CycRec
  stim : Fifo
  resp : Fifo
  /-- first cycle whose response the sources carry (R171): 0, or the first cycle after a FLUSH. -/
  respFrom : Nat
  failNow : Bool
  failSticky : Bool
  failRecent : Bool
  sideband : Nat
  /-- records formed since PART_CREATE (R175), and the records buffered for the ring (R176). -/
  failSeq : Nat
  failBuf : List Bytes
  failFirst : Bool
  /-- trigger probes delivered 1 this cycle, probe bits of this cycle, and the probe map [a, h, lbp, step] (R220). -/
  tprobes : List Nat
  probes : Nat
  probeMap : Tab Nat
  /-- sequencer: flags, timer deadlines, edges and stream events since the last evaluation. -/
  trigFlags : Nat
  deadline : Tab (Option Nat)
  edges : List Nat
  strEvents : List Nat
  armReq : Bool
  disarmReq : Bool
  cap : Capture
  acq : Acq
  load : Option Load
  /-- DRAM allocations: anvil, base, size (R201). -/
  allocs : List (Nat × Nat × Nat)
  /-- HOLD as last sent (R170). -/
  hold : Bool
deriving DecidableEq, Repr

def Part.init : Part where
  leftMode := 0
  finishing := false
  started := false
  heldStart := false
  midHeld := []
  stops := []
  halts := []
  haltNow := []
  destroys := []
  entering := []
  stretchFrom := 0
  stretchTo := 0
  quenchEv := []
  frzHold := []
  underCycle := 0
  hzCycle := 0
  haltReqs := []
  clk := Clock.init
  inVec := 0
  outs := 0
  cycs := []
  stim := Fifo.init
  resp := Fifo.init
  respFrom := 0
  failNow := false
  failSticky := false
  failRecent := false
  sideband := 0
  failSeq := 0
  failBuf := []
  failFirst := false
  tprobes := []
  probes := 0
  probeMap := []
  trigFlags := 0
  deadline := []
  edges := []
  strEvents := []
  armReq := false
  disarmReq := false
  cap := Capture.init
  acq := Acq.init
  load := none
  allocs := []
  hold := true

/-! ## Module DRAM (chapter 09) -/

/-- Who a DRAM request is for (R266). -/
inductive DSrc where
  /-- a memory port: the number of its `EmuReq`. -/
  | port (id : Nat)
  /-- a fail record of a partition. -/
  | fmap (p : Nat)
  /-- an acquisition record of a partition. -/
  | acq (p : Nat)
  /-- a block of the trace buffer. -/
  | trace
  /-- patrol scrub; the request's address is a linear address. -/
  | scrub
  /-- a part of an access of class 2, at an offset of it. -/
  | job (id off : Nat)
deriving DecidableEq, Repr

/-- A request in a DRAM controller (R266 to R268). -/
structure DReq where
  id : Nat
  cls : Nat
  part : Nat
  addr : Nat
  len : Nat
  write : Bool
  /-- the bytes of a write; one whose byte enable is off has none. -/
  data : List (Option Byte)
  src : DSrc
  /-- promotion by age, and whether it holds a request slot of its subchannel. -/
  promoted : Bool
  slot : Bool
deriving DecidableEq, Repr

/-- A part of an access of class 2: one burst of it at most. `data` is absent for a read. -/
structure DPiece where
  off : Nat
  addr : Nat
  len : Nat
  data : Option (List (Option Byte))
deriving DecidableEq, Repr

/-- An access of class 2 to module DRAM (R266): its parts not yet accepted, the bytes read so far, how many parts are
outstanding in all, and whether one was uncorrectable. One of size 0 marks a load that waits for a thaw. -/
structure DJob where
  id : Nat
  who : DmaFor
  anvil : Nat
  part : Nat
  size : Nat
  todo : List DPiece
  got : Bytes
  left : Nat
  bad : Bool
deriving DecidableEq, Repr

/-- A diagnosis under way (R260): why it runs (1 after a correction, 2 after a detected error, 3 of a scrub, 4 of a page
copy), the request it decides, the burst (linear address / 64), and the symbols in error. -/
structure DDiag where
  why : Nat
  req : Nat
  burst : Nat
  bad : List (Nat × Nat)
deriving DecidableEq, Repr

/-- Why a controller is frozen: kind, failing request (if it is one), failing burst (linear address / 64), and the burst of
the page that a snapshot copy was reading (address / 64), if the freeze is of that read. -/
structure DFreeze where
  kind : Nat
  req : Option Nat
  burst : Nat
  sub : Nat
  rank : Nat
  time : Nat
  snap : Option Nat
deriving DecidableEq, Repr

/-- The DRAM of the module. Keys begin with the anvil. -/
structure Dram where
  /-- data bytes, [a, linear address]. A byte nothing has written reads 0 (log entry 9). -/
  mem : Tab Byte
  /-- remap table (R254): [a, page] to the linear page that serves it, plus 1. -/
  remap : Tab Nat
  /-- retired pages (R263), [a, page]. -/
  retired : Tab Bool
  /-- reserve pages in use, [a, linear page]. -/
  used : Tab Bool
  /-- poisoned bursts (R265), [a, linear burst]. -/
  poison : Tab Bool
  /-- times of the corrections of each page within 24 h (R263), [a, page]. -/
  corr : Tab (List Nat)
  reqs : Tab (List DReq)
  /-- reads served whose data has not reached the return buffer yet: [a, EmuReq number] to word + 1. -/
  back : Tab Nat
  /-- banks in in-order mode (R267): [a, sub, bank] to the numbers of the requests queued at entry. -/
  inOrder : Tab (List Nat)
  /-- refresh under way: [a, sub] to 1 + the bank number, or 255 for all banks (R269). -/
  refresh : Tab Nat
  /-- ranks in power-down (R270), [a, sub, rank]. -/
  pdown : Tab Bool
  frozen : Tab (Option DFreeze)
  /-- rank pairs out of service (R272), [a, rank]. -/
  rankOut : Tab Bool
  /-- marked rank pairs whose pages the steward migrates (R264), [a] to a mask. -/
  migrate : Tab Nat
  /-- next burst the patrol scrub reads, [a, sub]. -/
  patrol : Tab Nat
  /-- pages due to be retired (R262, R263), [a] to pages. -/
  waiting : Tab (List Nat)
  /-- diagnoses under way (R260), [a, sub, rank]. -/
  diag : Tab (Option DDiag)
  /-- accesses of class 2 under way. -/
  jobs : List DJob
  /-- open rows (R266), [a, sub, bank] to 1 + the row. -/
  openRow : Tab Nat
  /-- sources whose next request has found no slot, [a, sub] (R268). -/
  noSlot : Tab (List DSrc)
  /-- rank pairs whose migration waits for a free page (R262), [a] to a mask. -/
  stalled : Tab Nat
  /-- bursts whose snapshot copy is 0, decided by a thaw, [a, address / 64] (R272). -/
  cowZero : Tab Bool
deriving DecidableEq, Repr

def Dram.init : Dram := ⟨[], [], [], [], [], [], [], [], [], [], [], [], [], [], [], [], [], [], [], [], [], []⟩

/-! ## The host interface (chapter 11) -/

/-- An audit entry (R326). -/
structure AuditEntry where
  time : Nat
  seq : Nat
  role : Nat
  port : Nat
  status : Nat
  kind : Nat
  flags : Nat
  part : Nat
  field : Nat
  mask : Nat
  hostId : Bytes
  old : Nat
  new : Nat
deriving DecidableEq, Repr

/-- A request record that waits for the steward (R306, R307). -/
structure Posted where
  ref : CmdRef
  record : Bytes
  /-- HOST_ID of the origin as the record arrived (R326). -/
  hostId : Bytes
deriving DecidableEq, Repr

/-- What a command answers: its status, the DETAIL word and the results (R308). -/
structure Answer where
  status : Status
  detail : Nat
  results : Bytes
deriving DecidableEq, Repr

/-- A command that has started and whose response is not written (BUSY): its identity, code, parameters, the vector
that NOTIFY asks for, the partition it names (0xFFFF for none), the role and the HOST_ID it came with (R326), and its
answer once it has one. -/
structure Busy where
  ref : CmdRef
  code : Nat
  params : Bytes
  notify : Option Nat
  part : Nat
  role : Nat
  hostId : Bytes
  ans : Option Answer
deriving DecidableEq, Repr

/-- What a queue holds beside its registers: records not yet written to its ring (R317), whether events were dropped,
entries not yet signalled (R324), and the PRED flag (R320). -/
structure Queue where
  hold : List Bytes
  dropMark : Bool
  unsignalled : Nat
  pred : Bool
  /-- a command queue whose entry is executing (R312). -/
  executing : Bool
deriving DecidableEq, Repr

def Queue.init : Queue := ⟨[], false, 0, false, false⟩

/-- A mailbox page (R305): its request and response records. -/
structure Mailbox where
  req : Bytes
  resp : Bytes
deriving DecidableEq, Repr

def Mailbox.init : Mailbox := ⟨[], []⟩

/-- A management-port session (R303). -/
structure Session where
  fingerprint : Bytes
  outstanding : Nat
deriving DecidableEq, Repr

/-- The host interface. -/
structure HostIf where
  boxes : Tab Mailbox
  posted : List Posted
  busy : List Busy
  /-- commands whose response is not written (R300, R303, R304). -/
  orphans : List CmdRef
  sessions : Tab (Option Session)
  /-- a service-UART command is outstanding (R304). -/
  uartBusy : Bool
  queues : Tab Queue
  /-- ready lists of R319: (priority, queue), in the order of joining. -/
  ready : List (Nat × Nat)
  /-- host memory as the module has written it, [port, address]. -/
  mem : Tab (Option Byte)
  /-- audit entries held, oldest first (R327), the number of the next, those persisted, and those lost. -/
  log : List AuditEntry
  logSeq : Nat
  flashLog : List AuditEntry
  lost : List Nat
  /-- entries from here on are not persisted yet. -/
  persisted : Nat
  /-- owner certificate slots (R303) and image key slots (R194), as the user settings image holds them. -/
  certs : Tab Bytes
  keys : Tab Bytes
deriving DecidableEq, Repr

def HostIf.init : HostIf := ⟨[], [], [], [], [], false, [], [], [], [], 0, [], [], 0, [], []⟩

/-- What leaves the module other than by a write to host memory. -/
inductive Out where
  /-- what a read of a register returns to its origin (R10, R299). -/
  | readData (o : Origin) (addr value : Nat)
  /-- an MSI-X message (R297, R306, R324). -/
  | msix (port vector : Nat)
  /-- a response record on the management port or the service UART (R303, R304). -/
  | response (ref : CmdRef) (record : Bytes)
  /-- a control block and a data block of 8 bytes sent on a lane (R332, R333). -/
  | block (lane : Nat) (bytes : Bytes)
  | dataBlock (lane : Nat) (bytes : Bytes)
  /-- transmitted bits of a lane that error injection flips (R350). -/
  | bitFlips (lane n : Nat)
  /-- a frame sent on a lane, with the CRC-32 of its EOF (R335). -/
  | frame (lane : Nat) (lseq : Nat) (replay : Bool) (header payload : Bytes) (crc : Nat)
  /-- one pin clock of a crossbar signal: FAIL_PULSE of a partition, or a trigger output. -/
  | failPulse (p : Nat)
  | trigOut (k : Nat)
  /-- the sideband word of a partition (R31). -/
  | sideband (p word : Nat)
  /-- a pulse on PPS out (R364), and a Delay_Req (R363). -/
  | pps (time : Nat)
  | delayReq (seq time : Nat)
  /-- a byte sent by a UART, I2C or SPI peripheral (R384). -/
  | serial (kind unit byte : Nat)
  /-- a 64-byte trace block written to host memory or DRAM is not here; a lost one leaves nothing. -/
  | alarm (code : Nat)
deriving DecidableEq, Repr

/-! ## Trace (chapter 08) -/

/-- A trace source (R234, R240, R242): its FIFO of packets, packets dropped since its last packet, the tick of its
last packet, its last addresses, the reason of a SYNC it owes, and, for a CP, whether it sleeps or is stalled. -/
structure TraceSrc where
  fifo : List Bytes
  dropped : Nat
  lastTick : Nat
  lastA : Nat
  lastB : Nat
  sync : Option Nat
  asleep : Bool
  stalledSince : Option Nat
  /-- a stall that reached its limit: the source drops until it finds room (R247). -/
  limited : Bool
deriving DecidableEq, Repr

def TraceSrc.init : TraceSrc := ⟨[], 0, 0, 0, 0, none, false, none, false⟩

/-- The funnel and its sink (R243). -/
structure Trace where
  srcs : Tab TraceSrc
  /-- bytes of the block being filled, finished blocks in the output FIFO, and the next source of the round robin. -/
  block : Bytes
  out : List Bytes
  turn : Nat
  /-- bytes written since the last periodic SYNC request (R248). -/
  grown : Nat
  /-- sink fields as read at the enable: kind, mode, queue. -/
  sinkKind : Nat
  sinkMode : Nat
  sinkQueue : Nat
  /-- tick of the funnel's own last packet. -/
  lastTick : Nat
  /-- the stream ends after what the FIFOs hold (ENABLE was cleared). -/
  closing : Bool
  /-- triggers on their way to the funnel (R250): (0, partition) of a FIRE, (1, k) of a trigger input. -/
  signals : List (Nat × Nat)
deriving DecidableEq, Repr

def Trace.init : Trace := ⟨[], [], [], 0, 0, 0, 0, 0, 0, false, []⟩

/-! ## The packet network (chapter 10) -/

/-- A packet (R281): its header flit, and its data flits of 32 bytes. -/
structure NocPkt where
  hdr : BitVec 256
  data : Bytes
deriving DecidableEq, Repr

/-- A packet in an input buffer of a router, and when it came there. -/
structure NocTrav where
  pkt : NocPkt
  since : Nat
deriving DecidableEq, Repr

/-- A tag that is not free (R284 to R286): the request that holds it with its epoch, the region its hearth agent sent it for,
its priority, the bytes a READ asks for, and whether it has timed out and is unusable. -/
structure NocTag where
  src : Nat
  dst : Nat
  epoch : Nat
  region : Option Nat
  prio : Nat
  len : Nat
  dead : Bool
deriving DecidableEq, Repr

/-- A completion that has not been sent (R282). `place` is the router at which the network itself makes it: the router's anvil
and number, 16 for the bridge of a management link, an anvil of 8 for the management controller's own side. -/
structure NocReply where
  src : Nat
  dst : Nat
  tag : Nat
  cpl : Nat
  data : Bytes
  place : Option (Nat × Nat)
deriving DecidableEq, Repr

/-- What a request came to at its requester (R282, R286): the status number and the data of a READ. -/
structure NocDone where
  src : Nat
  tag : Nat
  status : Nat
  data : Bytes
deriving DecidableEq, Repr

/-- The network: routers' buffers and channels, the epoch state machine of R289, tags, and what waits for it. -/
structure Noc where
  /-- 0 STABLE, 1 LOADING_SHADOW, 2 FENCE, 3 RETIRING. -/
  phase : Nat
  /-- the timeout of RETIRING has been raised. -/
  late : Bool
  /-- route changes that wait for STABLE, with the commands that caused them (R289). -/
  queued : List (Option CmdRef × List (List Nat × Nat))
  /-- commands among these that have not been answered. -/
  waiting : List CmdRef
  /-- tags of an anvil, [a, tag], and of the management controller, [255, tag] (R285, R299). -/
  tags : Tab (Option NocTag)
  /-- input buffers of routers (R283), [a, router, input port, VC], oldest first. -/
  bufs : Tab (List NocTrav)
  /-- packets in a link channel, from its replay buffer to the far end (R278), [a, port]; ports 3 and 4 are the two directions
  of a management link. -/
  chans : Tab (List NocPkt)
  /-- the input port that an output served last, plus 1, [a, router, output]. -/
  turn : Tab Nat
  /-- replays of the flit at the head of each link channel (R278, R292), [a, port]; port 3 is the management link. -/
  replays : Tab Nat
  /-- management links that are down, [a]. -/
  mgmtDown : Tab Bool
  /-- the timeout of a drain has been raised (R290), [region]. -/
  drainLate : Tab Bool
  /-- the region switches off once it is FENCED (R290). -/
  offAfter : Tab Bool
  /-- anvils whose CP, DRAM controller and monitor endpoints drain or are not in use yet (R291), [a]. -/
  closed : Tab Bool
  /-- requests and messages held at their sources, in order. -/
  held : List NocReq
  /-- completions that have not been sent. -/
  replies : List NocReply
  /-- messages delivered to endpoints. -/
  messages : List NocPkt
  /-- requests that have completed at their requesters. -/
  results : List NocDone
deriving DecidableEq, Repr

def Noc.init : Noc := ⟨0, false, [], [], [], [], [], [], [], [], [], [], [], [], [], [], []⟩

/-! ## The time base (chapter 13) -/

/-- A foreign master (R363): its clockIdentity, its rank among masters, its currentUtcOffset, and whether it uses ARB. -/
structure Foreign where
  id : Nat
  rank : Nat
  utc : Nat
  arb : Bool
deriving DecidableEq, Repr

/-- The time base. Counters are in units of 2^-32 ns. -/
structure TimeBase where
  /-- anvil counters, [a] (R358). -/
  ctr : Tab Nat
  /-- time that has passed, in units of 2^-32 ns: what the counters have added up by their increments alone. -/
  run : Nat
  /-- raw tick count of the references (R361). -/
  ticks : Nat
  /-- ANCHOR_NS (in units of 2^-32 ns), ANCHOR_COUNT and RATE of REF0 to REF3. -/
  anchor : Tab Int
  anchorCnt : Tab Nat
  rate : Tab Nat
  /-- TIME.INCR as last taken, and the increment in effect (R359). -/
  incr : Nat
  eff : Nat
  /-- consecutive updates within LOCK_NS (R362), and a boot step that waits (R360). -/
  good : Nat
  stepDue : Bool
  /-- a two-step Sync that waits for its Follow_Up: sequence, receive stamp, correction (R363). -/
  sync : Option (Nat × Nat × Int)
  /-- master-to-slave difference of the last Sync, in ns. -/
  msDelay : Int
  /-- Delay_Req sent: sequence and transmit stamp. -/
  delayReq : Option (Nat × Nat)
  delaySeq : Nat
  /-- the Delay_Req interval in ns, and the time of the last Delay_Req (R363). -/
  delayGap : Nat
  delayAt : Option Nat
  /-- time of the last accepted PPS edge (R364). -/
  ppsLast : Option Nat
  /-- the capture point that TIME.CAP waits for (R366). -/
  capArmed : Option Nat
  /-- whole second of the last PPS out edge. -/
  ppsOutAt : Nat
  /-- the masters heard: clockIdentity, rank, currentUtcOffset, ARB; the one in use; and whether it sends Sync. -/
  foreign : List Foreign
  master : Option Nat
  ptpUp : Bool
  /-- the PLL holds its last frequency (R357). -/
  freqHeld : Bool
deriving DecidableEq, Repr

def TimeBase.init : TimeBase :=
  ⟨[], 0, 0, [], [], [], Config.incrNominal, Config.incrNominal, 0, false, none, 0, none, 0, 0, none, none, none, 0, [], none,
    false, false⟩

/-! ## Waltline (chapter 12) -/

/-- A frame in a retry buffer (R336): its LSEQ, header and payload, when it was last sent, and its replays. -/
structure TxFrame where
  lseq : Nat
  header : Bytes
  payload : Bytes
  since : Nat
  replays : Nat
deriving DecidableEq, Repr

/-- One logical lane of a bundle (R336 to R338): the next LSEQ and the retry buffer of the transmitter; the expected
LSEQ of the receiver, and the sender's logical lane, which its ACKs name; whether its unacknowledged frames wait for places
on other lanes. -/
structure LogLane where
  lseq : Nat
  retry : List TxFrame
  expect : Nat
  partner : Nat
  moving : Bool
deriving DecidableEq, Repr

def LogLane.init : LogLane := ⟨0, [], 0, 0, false⟩

/-- One physical lane (R347 to R350). -/
structure Lane where
  /-- consecutive training failures, and whether the lane retrains after a loss of lock. -/
  fails : Nat
  lost : Bool
  /-- the CAP block last received, how many identical ones came in a row, and how many of them had SEEN = 1. -/
  cap : Option CapFields
  capRun : Nat
  seenRun : Nat
  /-- SEEN as the lane sends it, and CAP blocks sent with SEEN = 1. -/
  ownSeen : Bool
  capSent : Nat
  /-- times of the CRC errors of the last second (R349). -/
  crcTimes : List Nat
deriving DecidableEq, Repr

def Lane.init : Lane := ⟨0, false, none, 0, 0, false, 0, []⟩

/-- One bundle (R343, R348, R349, R351). -/
structure Bundle where
  /-- IDENT and BUNDLE of the first lane to reach ACTIVE since the bundle last had no active lane. -/
  partner : Option (Nat × Nat)
  dskCount : Nat
  /-- a spare request under way: logical lane and RETURN. -/
  spare : Option (Nat × Bool)
  bankReq : Bool
  /-- the commands that wait for the bank handshake and for the spare handshake. -/
  bankWaits : List CmdRef
  spareWaits : List CmdRef
deriving DecidableEq, Repr

def Bundle.init : Bundle := ⟨none, 0, none, false, [], []⟩

/-- One stream (R339 to R345): output bytes not yet in frames, as (cycle, offset in its vector, bytes), whether the
next frame carries GAP, since when a frame waits for credit, whether that wait has been recorded as an event, and the
last STOP number. -/
structure Stream where
  outBuf : List (Nat × Nat × Bytes)
  gap : Bool
  stallSince : Option Nat
  stallSeen : Bool
  lastStop : Option Nat
  /-- the lowest inbound SSEQ not yet freed, while no FIFO holds frames of the stream (R339). -/
  head : Nat
  /-- the count of the MARK block received last (R345). -/
  received : Nat
deriving DecidableEq, Repr

def Stream.init : Stream := ⟨[], false, none, false, none, 0, 0⟩

/-- The Waltline lanes. -/
structure Wl where
  lanes : Tab Lane
  /-- logical lanes, [bundle, logical lane]. -/
  logs : Tab LogLane
  bundles : Tab Bundle
  streams : Tab Stream
deriving DecidableEq, Repr

def Wl.init : Wl := ⟨[], [], [], []⟩

/-! ## Side pins (chapter 14) -/

/-- The side pins. -/
structure Pins where
  /-- hold state of each pin (R192): a code of the PINS section; 0 is high-Z with keeper, the factory state. -/
  holdCode : Tab Nat
  /-- pads that keep their last state for one pin clock (R377): pin to its level + 2 * driving, plus 1. -/
  switching : Tab Nat
  /-- level an outside driver puts on a pin, where the environment has said so (plus 1), and levels seen by the
  synchronisers (R376). -/
  level : Tab Bool
  /-- keeper of each pin: the last level held. -/
  keeper : Tab Bool
  /-- time left, in tenths of a ns, of the pulse of trigger output k ([k], R367) and of FAIL_PULSE of partition p
  ([100 + p], R177). -/
  trigOut : Tab Nat
  /-- pad latches (R382): pin to level + 2 * driving + 4 * pull, plus 1. -/
  latch : Tab Nat
  /-- receive FIFOs and settings of the UARTs (R384, R385). -/
  uartRx : Tab Bytes
  uartBaud : Tab Nat
  uartFormat : Tab Nat
  /-- the pin clock is stopped (R382). -/
  stopped : Bool
deriving DecidableEq, Repr

def Pins.init : Pins := ⟨[], [], [], [], [], [], [], [], [], false⟩

/-! ## Power and cooling (chapter 15) -/

/-- A clock change under way (R403): the frequency it sets, the limit code it will report. -/
structure ClockChange where
  target : Nat
  code : Nat
deriving DecidableEq, Repr

/-- The power stage and the bellows. -/
structure Power where
  /-- thermal and power ceilings in MHz (R400, R401), the power ceiling before low line (R402). -/
  thermal : Nat
  powerCeil : Nat
  beforeLow : Option Nat
  change : Option ClockChange
  lastRelease : Option Nat
  /-- partitions frozen by the duty burst under way, and the one frozen last. -/
  burst : List Nat
  lastTaken : Nat
  /-- [p]: ns the partition had executed when the last burst on it ended, plus 1. -/
  ran : Tab Nat
  /-- samples of the last 10 ms: time, partitions a burst froze, partitions executing. -/
  window : List (Nat × Nat × Nat)
  /-- start of the interruption under way, if any (R390). -/
  interruption : Option Nat
  dropoutHeld : Bool
  /-- domains whose rails do not come up (R395 KIND 0x1, R397): [0, region], [1, anvil]; [2, bank] is a VIO rail that a
  fault switched off (R396). -/
  failed : Tab Bool
  /-- AUX12 latched off until EN is written 0 and then 1 (R398). -/
  auxLatched : Bool
  /-- the 54 V bus was dumped after a management rail fault: off until no inlet for 10 s (R396). -/
  dumped : Bool
deriving DecidableEq, Repr

def Power.init : Power :=
  ⟨1800, 1800, none, none, none, [], 31, [], [], none, false, [], false, false⟩

/-! ## Start-up, settings and firmware (chapter 16) -/

/-- The module as a whole: its domains, its flash and its firmware. -/
structure Sys where
  /-- the module is OFF (R406): no inlet in service. -/
  off : Bool
  /-- control islands that a rail fault has switched off (R396), and anvil domains that are on (R28). -/
  islandOff : Tab Bool
  anvilOn : Tab Bool
  /-- the steward runs, and the boot ROM is in recovery (R415). -/
  steward : Bool
  recovery : Bool
  /-- the settings table (R410): what differs from the factory default, keyed as the registers are. -/
  settings : Tab (Option Nat)
  /-- the service record (R409), keyed as the registers are. -/
  record : Tab (Option Nat)
  /-- user image copies 0 and 1 and firmware slots A and B, as the flash holds them. -/
  copies : Tab Bytes
  slots : Tab Bytes
  /-- the factory region fails its CRC (R409): fixed for this module. -/
  factoryBad : Bool
  /-- the slot that was active before the activation on trial (R415). -/
  trialFrom : Nat
  /-- a firmware activation under way (R416): whether it is the return to the previous slot. -/
  activating : Option Bool
  /-- the steward's CP restarts (R416, R432). -/
  stewardDown : Bool
  /-- commands that wait for the module's own transitions. -/
  waking : List CmdRef
  sleeping : List CmdRef
  moduleFault : Bool
  /-- audit entries a shutdown failed to persist (R390). -/
  unpersisted : Nat
  /-- the reset that LAST_RESET will report. -/
  lastReset : Nat
deriving DecidableEq, Repr

def Sys.init : Sys :=
  ⟨false, [], [], false, false, [], [], [], [], false, 0, none, false, [], [], false, 0, 0⟩

/-! ## Service life (chapter 17) -/

/-- A billet insertion under way (R428): the hearth, the logical BPs, the command that asked for it, and the partition it
quenches; no logical BP is left once the map has committed and only the release is due. -/
structure Insertion where
  anvil : Nat
  hearth : Nat
  lbps : List Nat
  ref : Option CmdRef
  part : Option Nat
deriving DecidableEq, Repr

/-- Outage accounting of a partition (R437, R438): start of the first or second part under way, ms counted so far in
this interval, and whether the recovery has been accepted. -/
structure Outage where
  since : Option Nat
  acc : Nat
  recovering : Bool
  active : Bool
  born : Nat
deriving DecidableEq, Repr

def Outage.init : Outage := ⟨none, 0, false, false, 0⟩

/-- Service life. -/
structure Svc where
  /-- physical BPs marked failed, [a, h, physical]. -/
  failed : Tab Bool
  /-- times of the uncorrectable errors of each physical BP, and of the corrections of each stored word (R427). -/
  uncorr : Tab (List Nat)
  corr : Tab (List Nat)
  /-- last reading of each tap (R421): [a, h, monitor, tap] to corrected fmax + 1. -/
  taps : Tab Nat
  insertion : Option Insertion
  /-- insertions that wait (a partition in LOADING, or another insertion): (anvil, hearth, lbps, command). -/
  queued : List (Nat × Nat × List Nat × Option CmdRef)
  /-- a re-plan that awaits a resample (R424): the command that asked for it, if one did. -/
  replan : Option (Option CmdRef)
  /-- times of the restarts of each CP (R432), and of the uncorrectable words of each link, [a, port]. -/
  restarts : Tab (List Nat)
  linkErrs : Tab (List Nat)
  outage : Tab Outage
  /-- commands that wait until regions are fenced (R290), each with the mask of those regions. -/
  waits : List (CmdRef × Nat)
deriving DecidableEq, Repr

def Svc.init : Svc := ⟨[], [], [], [], none, [], none, [], [], [], []⟩

/-! ## The module -/

/-- The state of the module. -/
structure State where
  /-- commands that wait, first in, first out. -/
  pending : List Instr
  /-- the grade and the stepping of this module (R1, R2): fixed, part of the state so that statements range over
  them. -/
  grade : Grade
  stepping : Stepping
  /-- the model's own counter of free values (log entry 3). -/
  free : Nat
  /-- registers: [field, instance, index] to the value, where it differs from the reset value. -/
  regs : Tab (Option Nat)
  /-- pending values of boundary fields (R15), keyed in the same way. -/
  held : Tab (Option Nat)
  /-- HI words latched by a read of the LO word (R443): [origin, number, address of the HI word]. -/
  latches : Tab (Option Nat)
  fab : Fab
  parts : Tab Part
  dram : Dram
  host : HostIf
  trace : Trace
  noc : Noc
  time : TimeBase
  wl : Wl
  pins : Pins
  pwr : Power
  sys : Sys
  svc : Svc
  /-- what has left the module, oldest first. -/
  out : List Out
deriving DecidableEq, Repr

/-- The module at power-up (R406, R417, R420): it has just left OFF, in state BOOT, with every control island on and
every anvil and region domain off, no partition, and flash that holds nothing beside the factory region. The grade and
the stepping are one choice among the four kinds of module (log entry 2). -/
def State.reset : State where
  pending := []
  grade := .tz8h
  stepping := .b0
  free := 0
  regs := []
  held := []
  latches := []
  fab := Fab.init
  parts := []
  dram := Dram.init
  host := HostIf.init
  trace := Trace.init
  noc := Noc.init
  time := TimeBase.init
  wl := Wl.init
  pins := Pins.init
  pwr := Power.init
  sys := Sys.init
  svc := Svc.init
  out := []

end Sys2Proof.Machine
end

