-- ==== Sys2Proof/Machine/Regs.lean ====
section
/-! DEFINITION. The registers as the module itself reads and writes them: one home for every field, its start-up
value, and the topology that identity fields report (R9, R20, R93, R276, R287). -/

namespace Sys2Proof.Machine

/-! ## Topology -/

/-- The column of an anvil in its ring (R20). -/
def anvilCol (a : Nat) : Nat := a % 4
/-- The row of an anvil (R20). -/
def anvilRow (a : Nat) : Nat := a / 4

/-- Relay hops of a quench from anvil `a` to anvil `b`: along increasing columns, then the row link (R20). -/
def relayHops (a b : Nat) : Nat :=
  (anvilCol b + 4 - anvilCol a) % 4 + (if anvilRow a = anvilRow b then 0 else 1)

/-- The peer of link port `l` of anvil `a` (R93). -/
def linkPeer (a l : Nat) : Nat :=
  if l = 0 then 4 * anvilRow a + (anvilCol a + 3) % 4
  else if l = 1 then 4 * anvilRow a + (anvilCol a + 1) % 4
  else (a + 4) % 8

/-- The port of the peer that faces link port `l` (R93). -/
def linkFacing (l : Nat) : Nat := if l = 0 then 1 else if l = 1 then 0 else 2

/-- Link port `l` of anvil `a` is populated (R93). -/
def Grade.hasLink (g : Grade) (a l : Nat) : Bool :=
  decide (a < g.anvils) && (decide (l < 2) || (decide (l = 2) && decide (g = .tz8h)))

/-- The port code (R276) by which router `r` of an anvil reaches router `d` of it under the default table (R287). -/
def routeWithin (r d : Nat) : Nat :=
  let dc := (d % 4 + 4 - r % 4) % 4
  let dr := (d / 4 + 4 - r / 4) % 4
  if dc = 1 ∨ dc = 2 then 2 else if dc = 3 then 3 else if dr = 1 ∨ dr = 2 then 0 else if dr = 3 then 1 else 4

/-- The router to which the NoC channel of a link port attaches (R278). -/
def linkRouter (l : Nat) : Nat := if l = 0 then 4 else if l = 1 then 7 else 6

/-- The link port by which anvil `a` reaches anvil `t` under the default table (R287). -/
def routeLink (a t : Nat) : Nat :=
  let dc := (anvilCol t + 4 - anvilCol a) % 4
  if dc = 1 ∨ dc = 2 then 1 else if dc = 3 then 0 else 2

/-- Entry `d` of the default table of router `r` of anvil `a` (R287). -/
def defaultRoute (g : Grade) (a r d : Nat) : Nat :=
  if d < 16 then routeWithin r d
  else if d < 24 then
    let t := d - 16
    if t = a ∨ g.anvils ≤ t then 7
    else if r = linkRouter (routeLink a t) then 5 else routeWithin r (linkRouter (routeLink a t))
  else if d = 24 then
    if a = 0 then (if r = 0 then 6 else routeWithin r 0)
    else if r = linkRouter (routeLink a 0) then 5 else routeWithin r (linkRouter (routeLink a 0))
  else 7

/-- Eight entries of the default table as one word (R294). -/
def defaultRouteWord (g : Grade) (a r w : Nat) : Nat :=
  (List.range 8).foldr (fun k acc => defaultRoute g a r (8 * w + k) + 16 * acc) 0

/-! ## Fields -/

/-- The key under which a field's value is stored. -/
def Fld.key (f : Fld) (i j : Nat) : Key := [f.ctorIdx, i, j]

/-- The value of a field at power-up with nothing recorded in the flash: the Reset column of its table, or, where the
column names an identity, that identity. -/
def State.rst (s : State) (f : Fld) (i j : Nat) : Nat :=
  match f with
  | .modIdGrade => s.grade.code
  | .modIdStepping => s.stepping.code
  | .modIdAnvilMask => s.grade.anvilMask
  | .modSerialLo => if s.sys.factoryBad then 0 else Config.factoryRecord 0 0 % 2 ^ 32
  | .modSerialHi => if s.sys.factoryBad then 0 else Config.factoryRecord 0 1 % 2 ^ 32
  | .hearthIdAnvil => i / 128
  | .hearthIdHearth => i % 128
  | .linkIdPeer => linkPeer (i / 3) (i % 3)
  | .linkIdPort => i % 3
  | .linkLatBase => s.stepping.lBase
  | .modLatLinkBase => s.stepping.lBase
  | .modLatHzLead => s.stepping.hzLead
  | .nocRouteSet0 => defaultRouteWord s.grade i (j / 4) (j % 4)
  | .queueCfgPart => i / 128
  | .wlTrainLogical => if i < 64 then i % 8 else 0xF
  | .timeAdjEthRx => Config.factoryRecord 1 0 % 2 ^ 16
  | .timeAdjEthTx => Config.factoryRecord 1 1 % 2 ^ 16
  | .timeAdjPps => Config.factoryRecord 1 2 % 2 ^ 16
  | .timeAdjWlRx => Config.factoryRecord 2 j % 2 ^ 16
  | .timeAdjWlTx => Config.factoryRecord 3 j % 2 ^ 16
  | .timeAdjTrig => Config.factoryRecord 4 j % 2 ^ 16
  | _ => f.info.reset

/-- The value of a field. -/
def State.reg (s : State) (f : Fld) (i j : Nat) : Nat := (Tab.get none s.regs (f.key i j)).getD (s.rst f i j)

/-- A field set to a value, which its width truncates. -/
def State.setReg (s : State) (f : Fld) (i j v : Nat) : State :=
  let w := v % 2 ^ f.width
  { s with regs := Tab.put none s.regs (f.key i j) (if w = s.rst f i j then none else some w) }

/-- The value of a pair of words. -/
def State.reg64 (s : State) (lo hi : Fld) (i j : Nat) : Nat := s.reg lo i j + 2 ^ 32 * s.reg hi i j

/-- A pair of words set to a value modulo 2^64. -/
def State.setReg64 (s : State) (lo hi : Fld) (i j v : Nat) : State :=
  (s.setReg lo i j (v % 2 ^ 32)).setReg hi i j (v / 2 ^ 32 % 2 ^ 32)

/-- A counter raised by `n`, saturating at its all-ones value. -/
def State.bump (s : State) (f : Fld) (i j n : Nat) : State :=
  s.setReg f i j (min (2 ^ f.width - 1) (s.reg f i j + n))

/-- A one-bit field set to a truth value. -/
def State.setFlag (s : State) (f : Fld) (i j : Nat) (b : Bool) : State := s.setReg f i j (b2n b)

/-- A one-bit field as a truth value. -/
def State.flag (s : State) (f : Fld) (i j : Nat) : Bool := decide (s.reg f i j = 1)

/-- The value a block's reset gives a field (R12, R410): the settings table where it names the field, else the service
record, else the start-up value. -/
def State.startVal (s : State) (f : Fld) (i j : Nat) : Nat :=
  match Tab.get none s.sys.settings (f.key i j) with
  | some v => v
  | none =>
    match Tab.get none s.sys.record (f.key i j) with
    | some v => v
    | none => s.rst f i j

/-- A field that the service record keeps (R409), set together with its record. -/
def State.setRecord (s : State) (f : Fld) (i j v : Nat) : State :=
  let s1 := s.setReg f i j v
  let w := v % 2 ^ f.width
  let e := if w = s.rst f i j then none else some w
  { s1 with sys := { s1.sys with record := Tab.put none s1.sys.record (f.key i j) e } }

/-- A field with a settings entry written by the host: the field and its table entry change together (R410). -/
def State.setSetting (s : State) (f : Fld) (i j v : Nat) : State :=
  let s1 := s.setReg f i j v
  let w := v % 2 ^ f.width
  let e := if w = s.rst f i j then none else some w
  { s1 with sys := { s1.sys with settings := Tab.put none s1.sys.settings (f.key i j) e } }

/-- A field written by the host: its settings entry follows it where it has one. -/
def State.setHost (s : State) (f : Fld) (i j v : Nat) : State :=
  if f.info.settings then s.setSetting f i j v else s.setReg f i j v

/-- The stored registers and pending values without those of the fields and instances that a test picks. -/
def State.dropRegs (s : State) (p : Nat → Nat → Bool) : State :=
  { s with
    regs := Tab.keep (fun k => !(p (k.getD 0 0) (k.getD 1 0))) s.regs
    held := Tab.keep (fun k => !(p (k.getD 0 0) (k.getD 1 0))) s.held }

/-- The field of a number. -/
def fldOf (n : Nat) : Fld := (regTable.getD n FieldInfo.none).fld

/-- The settings and the service record put back for the fields and instances that a test picks. -/
def State.applySettings (s : State) (p : Nat → Nat → Bool) : State :=
  let put := fun (t : Tab (Option Nat)) (e : Key × Option Nat) =>
    if p (e.1.getD 0 0) (e.1.getD 1 0) then
      Tab.put none t e.1 (if e.2 = some (s.rst (fldOf (e.1.getD 0 0)) (e.1.getD 1 0) (e.1.getD 2 0)) then none else e.2)
    else t
  { s with regs := s.sys.settings.foldl put (s.sys.record.foldl put s.regs) }

/-- The block of a field, by its number. -/
def blkOf (n : Nat) : Blk := (regTable.getD n FieldInfo.none).blk

/-- Every field of one block instance put at its start value (R12). -/
def State.startBlock (s : State) (b : Blk) (i : Nat) : State :=
  let p := fun f k => decide (blkOf f = b) && decide (k = i)
  (s.dropRegs p).applySettings p

/-! ## Pending values of boundary fields (R15) -/

/-- The value a boundary field will have once its pending value, if any, has committed. -/
def State.pendingOr (s : State) (f : Fld) (i j : Nat) : Nat := (Tab.get none s.held (f.key i j)).getD (s.reg f i j)

/-- A pending value set; a second one before the commit point replaces it. -/
def State.hold (s : State) (f : Fld) (i j v : Nat) : State :=
  { s with held := Tab.put none s.held (f.key i j) (some v) }

/-- Every pending value whose key meets a test commits, all together (R15); a settings entry follows its field (R410). -/
def State.commit (s : State) (p : Key → Bool) : State :=
  let s1 := (s.held.filter (fun e => p e.1)).foldl (fun s e =>
    match e.2 with
    | none => s
    | some v => s.setHost (fldOf (e.1.getD 0 0)) (e.1.getD 1 0) (e.1.getD 2 0) v) s
  { s1 with held := Tab.keep (fun k => !p k) s1.held }

/-! ## Free values -/

/-- A free bit, and the state with the free counter advanced. -/
def State.takeBit (s : State) : Bool × State := (Config.freeBit s.free, { s with free := s.free + 1 })

/-- A free number, and the state with the free counter advanced. -/
def State.takeNat (s : State) : Nat × State := (Config.freeNat s.free, { s with free := s.free + 1 })

end Sys2Proof.Machine
end

