-- ==== Sys2Proof/Machine/Ops.lean ====
section
/-! DEFINITION. The shared operations of the module: partitions and their hearths, time, roles, event records, the
audit log, host memory, and the framework in which every command runs (R302 to R310, R444). -/

namespace Sys2Proof.Machine

/-! ## Partitions (R22, R23) -/

/-- A partition's record changed by a function. -/
def State.modPart (s : State) (p : Nat) (f : Part → Part) : State :=
  { s with parts := Tab.put Part.init s.parts [p] (f (Tab.get Part.init s.parts [p])) }

/-- A partition's record. -/
def State.part (s : State) (p : Nat) : Part := Tab.get Part.init s.parts [p]

/-- The partition exists (R145). -/
def State.pExists (s : State) (p : Nat) : Bool := decide (p < 32) && s.flag .partRunExists p 0

/-- The partitions that exist, rising. -/
def State.partitions (s : State) : List Nat := (List.range 32).filter s.pExists

/-- The region mask of a partition. -/
def State.rgnMask (s : State) (p : Nat) : Nat := s.reg64 .partRgnLo .partRgnHi p 0

/-- The regions of a partition, rising. -/
def State.regions (s : State) (p : Nat) : List Nat := setBitsOf 64 (s.rgnMask p)

/-- The home region (R23). -/
def State.home (s : State) (p : Nat) : Nat := (s.regions p).headD 0

/-- The home anvil. -/
def State.homeAnvil (s : State) (p : Nat) : Nat := s.home p / 8

/-- The partition that holds a region. -/
def State.regionPart (s : State) (r : Nat) : Option Nat :=
  (List.range 32).find? (fun p => s.pExists p && bit (s.rgnMask p) r)

/-- The region of hearth `h` of anvil `a` (R21). -/
def regionOf (a h : Nat) : Nat := 8 * a + h / 16

/-- The partition that holds a hearth. -/
def State.hearthPart (s : State) (a h : Nat) : Option Nat := s.regionPart (regionOf a h)

/-- The hearth belongs to the partition. -/
def State.inPart (s : State) (p a h : Nat) : Bool := bit (s.rgnMask p) (regionOf a h)

/-- The hearths of a region, as (anvil, hearth). -/
def hearthsOf (r : Nat) : List (Nat × Nat) := (List.range 16).map (fun c => (r / 8, 16 * (r % 8) + c))

/-- The hearths of a partition, by region and column. -/
def State.hearths (s : State) (p : Nat) : List (Nat × Nat) := (s.regions p).flatMap hearthsOf

/-- The anvils that hold a region of the partition, rising. -/
def State.anvilsOf (s : State) (p : Nat) : List Nat :=
  (List.range 8).filter (fun a => (s.regions p).any (fun r => r / 8 = a))

/-- The instance number of a hearth's register block. -/
def hInst (a h : Nat) : Nat := a * 128 + h

/-- Quench latency of a set of anvils, in steps (R154). -/
def qLatOf (lBase : Nat) (as : List Nat) : Nat :=
  Config.qTree + lBase * (as.foldl (fun m a => as.foldl (fun m b => max m (relayHops a b)) m) 0)

/-- Modes of a partition (chapter 05). -/
def Mode.loading : Nat := 0
def Mode.ready : Nat := 1
def Mode.freeRun : Nat := 2
def Mode.lockstep : Nat := 3
def Mode.inspect : Nat := 4

/-- The mode of a partition. -/
def State.mode (s : State) (p : Nat) : Nat := s.reg .partRunMode p 0

/-- The partition is in FREE-RUN or LOCKSTEP. -/
def State.running (s : State) (p : Nat) : Bool :=
  s.pExists p && (decide (s.mode p = Mode.freeRun) || decide (s.mode p = Mode.lockstep))

/-- The partition executes steps: it runs, or a PART_STOP from INSPECT finishes its cycle (R149). -/
def State.executing (s : State) (p : Nat) : Bool :=
  s.running p || (s.pExists p && decide (s.mode p = Mode.inspect) && (s.part p).finishing)

/-- The mode the partition's steps execute as: its own, or the one it left (R149). -/
def State.effMode (s : State) (p : Nat) : Nat := if s.mode p = Mode.inspect then (s.part p).leftMode else s.mode p

/-- The partition is frozen. -/
def State.frozen (s : State) (p : Nat) : Bool := s.flag .partRunQuenched p 0

/-- S of a partition. -/
def State.sSteps (s : State) (p : Nat) : Nat := s.reg .partCtlSSteps p 0

/-- The step the partition executes next; S once step S − 1 has executed and the boundary is still to come (R86). -/
def State.pos (s : State) (p : Nat) : Nat :=
  if s.flag .partSchedEnd p 0 then s.sSteps p else s.reg .partSchedStep p 0

/-- The cycle in progress (R87). -/
def State.cycle (s : State) (p : Nat) : Nat := s.reg64 .partSchedCycleLo .partSchedCycleHi p 0

/-! ## Time (R358, R361) -/

/-- The counter of an anvil, in units of 2^-32 ns. -/
def State.ctr (s : State) (a : Nat) : Nat := Tab.get 0 s.time.ctr [a]

/-- The counter of an anvil in ns. -/
def State.ctrNs (s : State) (a : Nat) : Nat := s.ctr a / 2 ^ 32

/-- The time base in ns: the counter of anvil 0 (all hold the same value, R358). -/
def State.clock (s : State) : Nat := s.ctrNs 0

/-- Time as the model itself measures durations, in ns: what the counters have counted, without their steps (R360). -/
def State.now (s : State) : Nat := s.time.run / 2 ^ 32

/-- The rate of a reference counter. -/
def State.rate (s : State) (k : Nat) : Nat := Tab.get Config.incrNominal s.time.rate [k]

/-- The value of a reference counter in units of 2^-32 ns (R361). -/
def State.refVal (s : State) (k : Nat) : Int :=
  Tab.get (0 : Int) s.time.anchor [k] + (s.rate k : Int) * ((s.time.ticks : Int) - ((Tab.get 0 s.time.anchorCnt [k] : Nat) : Int))

/-- The value of a reference counter in whole ns, as a 64-bit word. -/
def State.refNs (s : State) (k : Nat) : Nat := unsigned 64 (s.refVal k / 2 ^ 32)

/-- The anvil on which the steward runs. -/
def State.steward (s : State) : Nat := s.reg .svcStewardAnvil 0 0

/-! ## Power domains (R28) -/

/-- The power domain of a region is on. -/
def State.regionOn (s : State) (r : Nat) : Bool :=
  bit (s.reg .modRgnOnLo 0 0 + 2 ^ 32 * s.reg .modRgnOnHi 0 0) r

/-- The power domain of a region switched. -/
def State.setRegionOn (s : State) (r : Nat) (b : Bool) : State :=
  if r < 32 then s.setReg .modRgnOnLo 0 0 (setBit (s.reg .modRgnOnLo 0 0) r b)
  else s.setReg .modRgnOnHi 0 0 (setBit (s.reg .modRgnOnHi 0 0) (r - 32) b)

/-- The power domain of an anvil is on. -/
def State.anvilOn (s : State) (a : Nat) : Bool := Tab.get false s.sys.anvilOn [a]

/-- Module states of R406, as MOD.STATE.MODE codes. -/
def Mod.boot : Nat := 1
def Mod.standby : Nat := 2
def Mod.waking : Nat := 3
def Mod.service : Nat := 4
def Mod.maintenance : Nat := 5
def Mod.sleeping : Nat := 6

/-- The module state. -/
def State.modMode (s : State) : Nat := s.reg .modStateMode 0 0

/-- "The module is in STANDBY": states 0x1, 0x2, 0x3 and 0x6 (R406). -/
def State.modStandby (s : State) : Bool :=
  decide (s.modMode = Mod.boot) || decide (s.modMode = Mod.standby) || decide (s.modMode = Mod.waking) ||
    decide (s.modMode = Mod.sleeping)

/-! ## Roles (R302) -/

/-- Role numbers of R326. -/
def Role.factory : Nat := 0
def Role.owner : Nat := 1
def Role.tenant : Nat := 2
def Role.local_ : Nat := 3
def Role.module : Nat := 4

/-- The role of an origin. -/
def State.role (s : State) : Origin → Nat
  | .host n => if s.flag .hostRoleGrant n 0 then Role.owner else Role.tenant
  | .mgmt _ => Role.owner
  | .uart => Role.local_
  | .cp _ => Role.module

/-- The PORT byte of R326. -/
def portByteOf : Origin → Nat
  | .host n => n
  | .mgmt _ => 0x10
  | .uart => 0x20
  | .cp _ => 0x30

/-- The HOST_ID of R326. -/
def State.hostIdOf (s : State) : Origin → Bytes
  | .host n => toLE 4 (s.reg .hostId n 0) ++ toLE 4 (s.reg .hostId n 1) ++ toLE 4 (s.reg .hostId n 2) ++
      toLE 4 (s.reg .hostId n 3)
  | .mgmt k =>
    match Tab.get none s.host.sessions [k] with
    | some x => slice x.fingerprint 0 16
    | none => zeros 16
  | _ => zeros 16

/-- The origin is the module's owner. A CP is none of the sources of R302: it has the rights that single rules give it. -/
def State.isOwner (s : State) (o : Origin) : Bool := decide (s.role o = Role.owner)

/-- The origin is the owner or local service. -/
def State.isOwnerOrLocal (s : State) (o : Origin) : Bool := s.isOwner o || decide (s.role o = Role.local_)

/-- The origin is the partition's tenant port (R146). -/
def State.isTenantOf (s : State) (o : Origin) (p : Nat) : Bool :=
  match o with
  | .host n => decide (s.reg .partOwnHost p 0 = n)
  | _ => false

/-- The origin is the owner or the partition's tenant port (R146). -/
def State.mayPart (s : State) (o : Origin) (p : Nat) : Bool := s.isOwner o || s.isTenantOf o p

/-- Host port `n` is formed by the bifurcation in effect (R296). -/
def State.portPresent (s : State) (n : Nat) : Bool :=
  let c := s.reg .hostBifurcCurrent 0 0
  if c = 0 then decide (n = 0) else if c = 1 then decide (n < 2) else if c = 2 then decide (n < 4) else false

/-! ## Host memory -/

/-- Bytes the module writes to host memory at a port's bus address. -/
def State.hostWrite (s : State) (port addr : Nat) (bs : Bytes) : State :=
  { s with host := { s.host with mem := Tab.putRun none [port] addr (bs.map some) s.host.mem } }

/-- Bytes the module reads from host memory: what it wrote itself, otherwise the host's, a free value. -/
def State.hostRead (s : State) (port addr : Nat) (n : Nat) : Bytes :=
  (List.range n).map (fun k => (Tab.get none s.host.mem [port, addr + k]).getD (Config.hostByte port (addr + k) s.free))

/-- Reads of host memory through a port hold PCIe tags until their data has come: how many at once is a free value from 1 to 512.
HOST.DMA notes the most, and counts each time that all 512 are held and a DMA engine waits (R298, R323). No tag is held between
two commands. -/
def State.dmaUse (s : State) (port : Nat) : State :=
  if 4 ≤ port then s
  else
    let f := s.takeNat
    let n := 1 + f.1 % 512
    let s1 := f.2.setReg .hostDmaTagPeak port 0 (max n (s.reg .hostDmaTagPeak port 0))
    if n = 512 then s1.bump .hostDmaTagFullCount port 0 1 else s1

/-- Something leaves the module. -/
def State.emit (s : State) (o : Out) : State := { s with out := s.out ++ [o] }

/-! ## Latches of HI words (R443) -/

/-- The part of a latch's key that names its origin. -/
def originKey (o : Origin) : Key :=
  match o with
  | .host n => [0, n]
  | .mgmt k => [1, k]
  | .uart => [2, 0]
  | .cp c => [3, c]

/-- The key of a latch: an origin and a word. -/
def latchKey (o : Origin) (addr : Nat) : Key := originKey o ++ [addr]

/-- The latches of an origin that ends are gone. -/
def State.dropLatches (s : State) (o : Origin) : State :=
  { s with latches := s.latches.filter (fun e => decide (e.1.take 2 ≠ originKey o)) }

/-! ## Queues (R311 to R318) -/

/-- A queue's record. -/
def State.queue (s : State) (q : Nat) : Queue := Tab.get Queue.init s.host.queues [q]

/-- A queue's record changed. -/
def State.modQueue (s : State) (q : Nat) (f : Queue → Queue) : State :=
  { s with host := { s.host with queues := Tab.put Queue.init s.host.queues [q] (f (s.queue q)) } }

/-- A queue is enabled. -/
def State.qEnabled (s : State) (q : Nat) : Bool := s.flag .queueCtlEnable q 0

/-- The enabled queues, rising. -/
def State.enabledQueues (s : State) : List Nat :=
  s.regs.filterMap (fun e =>
    if e.1.getD 0 0 = Fld.queueCtlEnable.ctorIdx ∧ e.2 = some 1 then some (e.1.getD 1 0) else none)

/-- Scope of a queue: a partition, or 0xFF for the module. -/
def State.qScope (s : State) (q : Nat) : Nat := s.reg .queueCfgPart q 0

/-- A queue at module scope, or of a partition that exists (R311). -/
def State.qLive (s : State) (q : Nat) : Bool := decide (s.qScope q = 0xFF) || s.pExists (s.qScope q)

/-- The port that owns a queue (R311): none for a queue of a partition that does not exist. -/
def State.qPort (s : State) (q : Nat) : Option Nat :=
  if s.qScope q = 0xFF then some (s.reg .queueCfgPort q 0)
  else if s.pExists (s.qScope q) then some (s.reg .partOwnHost (s.qScope q) 0) else none

/-- Ring size in entries. -/
def State.qSize (s : State) (q : Nat) : Nat := 2 ^ s.reg .queueCfgSizeLog2 q 0

/-- Entries between C and P, modulo 2^32. -/
def State.qFill (s : State) (q : Nat) : Nat := (s.reg .queuePidx q 0 + 2 ^ 32 - s.reg .queueCidx q 0) % 2 ^ 32

/-- The ring is full (R313). -/
def State.qFull (s : State) (q : Nat) : Bool := decide (s.qFill q = s.qSize q)

/-- Types of R312. -/
def QT.command : Nat := 1
def QT.completion : Nat := 2
def QT.stimulus : Nat := 3
def QT.fail : Nat := 4
def QT.capture : Nat := 5
def QT.trace : Nat := 6
def QT.event : Nat := 7

/-- A queue that carries data into the module (R312). -/
def State.qIn (s : State) (q : Nat) : Bool :=
  decide (s.reg .queueCfgType q 0 = QT.command) || decide (s.reg .queueCfgType q 0 = QT.stimulus)

/-- The enabled queues of a scope and a type. -/
def State.queuesOf (s : State) (scope type : Nat) : List Nat :=
  s.enabledQueues.filter (fun q => decide (s.qScope q = scope) && decide (s.reg .queueCfgType q 0 = type))

/-- Bytes free in the vector FIFO a stimulus queue feeds (R169): the stimulus FIFO if STIM names the queue, else the
response FIFO. -/
def State.fifoFree (s : State) (p : Nat) : Nat :=
  let f := if s.reg .partCmpSrcStim p 0 = 1 then (s.part p).stim else (s.part p).resp
  2097152 - f.bytes.length

/-- The hardware flags of a queue's task (R318). -/
def State.hwFlags (s : State) (q : Nat) : Nat :=
  let t := s.reg .queueCfgType q 0
  let p := s.qScope q
  let work := if s.qIn q then decide (0 < s.qFill q) else decide (0 < (s.queue q).hold.length)
  let space :=
    if t = QT.command then !(s.qFull (s.reg .queuePair q 0))
    else if t = QT.stimulus then decide (4096 ≤ s.fifoFree p)
    else !(s.qFull q)
  let run := decide (p = 0xFF) || s.running p
  b2n (s.qEnabled q) + 2 * b2n work + 4 * b2n space + 8 * b2n (s.queue q).pred + 16 * b2n run

/-- All 32 flags of a queue's task. -/
def State.taskFlags (s : State) (q : Nat) : Nat := s.hwFlags q + 2 ^ 16 * s.reg .taskFlagsSoft q 0

/-- A queue's task is ready (R318). -/
def State.taskReady (s : State) (q : Nat) : Bool :=
  let m := s.reg .taskMask q 0
  let fm := Nat.land (s.taskFlags q) m
  s.qEnabled q && (if s.flag .taskCfgModeAll q 0 then decide (fm = m) else decide (fm ≠ 0))

/-- The ready lists brought up to date for one queue (R319): a task that becomes ready joins the tail of the list of
its priority; one that is no longer ready leaves. -/
def State.rescan (s : State) (q : Nat) : State :=
  let l := s.host.ready
  if s.taskReady q then
    if l.any (fun e => e.2 = q) then s
    else { s with host := { s.host with ready := l ++ [(s.reg .taskCfgPrio q 0, q)] } }
  else { s with host := { s.host with ready := l.filter (fun e => decide (e.2 ≠ q)) } }

/-- A queue is disabled and its setup invalidated (R300, R311): TYPE reads 0, not set up. -/
def State.queueDown (s : State) (q : Nat) : State :=
  (((s.setReg .queueCtlEnable q 0 0).setReg .queueCfgType q 0 0).modQueue q (fun x => { Queue.init with executing := x.executing })).rescan q

/-- A record handed to an out queue that never drops it: it waits until it is written to the ring. -/
def State.qAppend (s : State) (q : Nat) (r : Bytes) : State :=
  (s.modQueue q (fun x => { x with hold := x.hold ++ [r] })).rescan q

/-- A record handed to a fail or capture queue: one that finds the ring full is not copied (R317), nor is one that is
larger than an entry (R322). -/
def State.qOffer (s : State) (q : Nat) (r : Bytes) : State :=
  if s.qSize q ≤ s.qFill q + (s.queue q).hold.length ∨ 2 ^ s.reg .queueCfgEntryLog2 q 0 < r.length then
    (s.bump .queueDropCount q 0 1).setReg .queueStatusDrop q 0 1
  else s.qAppend q r

/-- A record copied to every enabled queue of a scope and type. -/
def State.qOfferAll (s : State) (scope type : Nat) (r : Bytes) : State :=
  (s.queuesOf scope type).foldl (fun s q => s.qOffer q r) s

/-! ## Event records (R316, R317) -/

/-- An event record of 32 bytes. -/
def eventBytes (kind part flags status cycle time detail : Nat) : Bytes :=
  toLE 2 kind ++ toLE 1 part ++ toLE 1 flags ++ toLE 2 status ++ zeros 2 ++ toLE 8 cycle ++ toLE 8 time ++ toLE 8 detail

/-- An event record for one queue: it waits for the ring; beyond the 64-entry hold it is dropped and counted, and the
next record written carries FLAGS[0] (R317). -/
def State.eventTo (kind part status cycle time detail : Nat) (s : State) (q : Nat) : State :=
  let x := s.queue q
  let room := s.qSize q - s.qFill q + 64
  if x.hold.length < room then
    (s.modQueue q (fun x =>
      { x with hold := x.hold ++ [eventBytes kind part (b2n x.dropMark) status cycle time detail], dropMark := false })).rescan q
  else ((s.bump .queueDropCount q 0 1).setReg .queueStatusDrop q 0 1).modQueue q (fun x => { x with dropMark := true })

/-- An event of a partition, delivered to every enabled event queue of it; with none it is counted (R317). -/
def State.pEvent (s : State) (p kind status detail : Nat) : State :=
  let qs := s.queuesOf p QT.event
  if qs = [] then s.bump .hostEvtUndelivered 0 0 1
  else qs.foldl (State.eventTo kind p status (s.cycle p) (s.ctrNs (s.homeAnvil p)) detail) s

/-- A module event. -/
def State.mEvent (s : State) (kind status detail : Nat) : State :=
  let qs := s.queuesOf 0xFF QT.event
  if qs = [] then s.bump .hostEvtUndelivered 0 0 1
  else qs.foldl (State.eventTo kind 0xFF status 0 (s.ctrNs s.steward) detail) s

/-- A module event that names a partition (R438). -/
def State.mEventOf (s : State) (p kind status detail : Nat) : State :=
  let qs := s.queuesOf 0xFF QT.event
  if qs = [] then s.bump .hostEvtUndelivered 0 0 1
  else qs.foldl (State.eventTo kind p status 0 (s.ctrNs s.steward) detail) s

/-- Base address of a block instance. -/
def blockBase (b : Blk) (i : Nat) : Nat :=
  match b with
  | .mod => 0
  | .trace => 0x80000
  | .time => 0x90000
  | .sp => 0xA0000
  | .pwr => 0xB0000
  | .svc => 0xC0000
  | .hostif => 0x100000
  | .queue => 0x01000000 + 0x40 * i
  | .part => 0x02000000 + 0x10000 * i
  | .cmp => 0x04000000 + 0x40000 * i
  | .obs => 0x06000000 + 0x10000 * i
  | .link => 0x30000000 + 0x10000 * (i / 3) + 0x100 * (i % 3)
  | .ddr => 0x31000000 + 0x10000 * i
  | .noc => 0x32000000 + 0x10000 * i
  | .wlLane => 0x34000000 + 0x100 * i
  | .wlBundle => 0x34010000 + 0x100 * i
  | .wlStream => 0x34020000 + 0x100 * i
  | .hearth => 0x40000000 + 0x10000 * i
  | .mbox => 0

/-- The module address of a field. -/
def Fld.addr (f : Fld) (i j : Nat) : Nat :=
  let x := f.info
  let i' := if x.blk = .hostif then 0 else i
  let off := if x.blk = .hostif ∧ 1 < x.count1 then x.stride1 * i + x.stride2 * j
    else x.stride1 * (j / x.count2) + x.stride2 * (j % x.count2)
  blockBase x.blk i' + x.base + off

/-- The error event of a partition (KIND 0x02), naming the register that records the error. -/
def State.pError (s : State) (p : Nat) (st : Status) (addr : Nat) : State := s.pEvent p Ev.error st.num addr

/-- The error event at module scope. -/
def State.mError (s : State) (st : Status) (addr : Nat) : State := s.mEvent Ev.error st.num addr

/-! ## Audit log (R325 to R327) -/

/-- Entries the log holds (R327): the ring in the DRAM of anvil 0, or the buffer of the management controller while that
anvil's domain is off. -/
def State.auditRing (s : State) : Nat := if s.anvilOn 0 then 65536 else 1024

/-- An entry put into the audit log; SEQ and TIME are the log's. -/
def State.audit (s : State) (e : AuditEntry) : State :=
  let h := s.host
  let l := h.log ++ [{ e with time := s.refNs 1, seq := h.logSeq }]
  let gone := l.take (l.length - s.auditRing)
  { s with host := { h with
    log := l.drop (l.length - s.auditRing)
    logSeq := h.logSeq + 1
    lost := h.lost ++ (gone.filter (fun x => decide (h.persisted ≤ x.seq))).map (fun x => x.seq) } }

/-- An audit entry as its 64 bytes (R326). -/
def AuditEntry.bytes (e : AuditEntry) : Bytes :=
  toLE 8 e.time ++ toLE 8 e.seq ++ toLE 1 e.role ++ toLE 1 e.port ++ toLE 2 e.status ++ toLE 1 e.kind ++ toLE 1 e.flags ++
    toLE 2 e.part ++ toLE 4 e.field ++ toLE 4 e.mask ++ slice e.hostId 0 16 ++ toLE 8 e.old ++ toLE 8 e.new

/-- A byte of the log's range of module DRAM (R327): the ring lies there on anvil 0, and its mirror on anvil 1. -/
def State.auditByte (s : State) (addr : Nat) : Byte :=
  let k := (addr - Config.auditBase) / 64
  match s.host.log.find? (fun e => decide (e.seq % 65536 = k)) with
  | some e => e.bytes.getD ((addr - Config.auditBase) % 64) 0
  | none => 0

/-- Entries the flash keeps of the persisted log: 8 MiB of 64-byte entries (R409). -/
def auditFlash : Nat := 131072

/-- The log is persisted to the settings flash (R327). -/
def State.persistAudit (s : State) : State :=
  let h := s.host
  let l := h.flashLog ++ h.log.filter (fun e => decide (h.persisted ≤ e.seq))
  { s with host := { h with flashLog := l.drop (l.length - auditFlash), persisted := h.logSeq } }

/-- The entry of an action of the module itself. -/
def State.auditAction (s : State) (st : Status) (part addr : Nat) : State :=
  s.audit ⟨0, 0, Role.module, 0x30, st.num, 2, 0, part, addr, 0, zeros 16, 0, 0⟩

/-- A service condition sets its bit of SVC.COND, raises a module event of KIND 0x1D and is entered in the audit log
(R435, R442). -/
def State.condition (s : State) (n : Nat) : State :=
  let c := s.reg .svcCond 0 0
  if bit c n then s
  else
    let s1 := s.setRecord .svcCond 0 0 (setBit c n true)
    (s1.mEvent Ev.condition 0 (setBit c n true)).auditAction .ok 0xFFFF (Fld.addr .svcCond 0 0)

/-- The entry of a register write: the word before and after (R326). -/
def State.auditWrite (s : State) (o : Origin) (st : Status) (part addr old new : Nat) : State :=
  s.audit ⟨0, 0, s.role o, (portByteOf o), st.num, 0, if st = .ok then 0 else 4, part, addr, 0xFFFFFFFF, s.hostIdOf o, old, new⟩

/-! ## Records of commands (R308, R309) -/

/-- How a parameter lies in a record: an integer of `n` bytes, aligned to its size, or a string of `n` bytes at the
next free offset. -/
inductive PKind where
  | int (n : Nat)
  | str (n : Nat)
deriving DecidableEq, Repr

/-- A parameter's offset, and the first free offset after it. -/
def PKind.place (k : PKind) (off : Nat) : Nat × Nat :=
  match k with
  | .int n => let o := (off + n - 1) / n * n; (o, o + n)
  | .str n => (off, off + n)

/-- Offsets and lengths of the parameters of a command (R309). -/
def layoutFrom : Nat → List PKind → List (Nat × Nat)
  | _, [] => []
  | off, k :: ks => ((k.place off).1, (match k with | .int n => n | .str n => n)) :: layoutFrom (k.place off).2 ks

/-- The end of the last parameter. -/
def layoutEnd : Nat → List PKind → Nat
  | off, [] => off
  | off, k :: ks => layoutEnd (k.place off).2 ks

/-- PLEN of a command: the end of its last parameter, rounded up to a multiple of 8. -/
def plenOf (ks : List PKind) : Nat := (layoutEnd 0 ks + 7) / 8 * 8

/-- The values of the parameters of a record. -/
def parseParams (ks : List PKind) (bs : Bytes) : List Nat := (layoutFrom 0 ks).map (fun e => le bs e.1 e.2)

/-- A byte that belongs to no parameter is not 0: a reserved field was written (R308). -/
def gapsClear (ks : List PKind) (bs : Bytes) : Bool :=
  (List.range bs.length).all (fun i =>
    (layoutFrom 0 ks).any (fun e => decide (e.1 ≤ i ∧ i < e.1 + e.2)) || decide (bs.getD i 0 = 0))

/-- One parameter of a record being formed: gap bytes up to its offset, then its value. -/
def formParams : Nat → List (PKind × Nat) → Bytes
  | off, [] => zeros ((off + 7) / 8 * 8 - off)
  | off, (k, v) :: ks =>
    zeros ((k.place off).1 - off) ++ toLE ((k.place off).2 - (k.place off).1) v ++ formParams (k.place off).2 ks

/-- Parameters that end in a byte string: the integers, the string at the next free offset, and the padding of R309. -/
def formWith (ks : List (PKind × Nat)) (data : Bytes) : Bytes :=
  let b := (formParams 0 ks).take (layoutEnd 0 (ks.map Prod.fst)) ++ data
  b ++ zeros ((b.length + 7) / 8 * 8 - b.length)

/-- A response record: header and results (R308). -/
def responseBytes (code seq : Nat) (a : Answer) : Bytes :=
  toLE 2 code ++ toLE 2 a.results.length ++ toLE 4 seq ++ toLE 2 a.status.num ++ zeros 2 ++ toLE 4 a.detail ++ a.results

/-! ## The life of a command (R302, R306, R307, R325) -/

/-- Commands that enter no audit entry (R325): REG_READ, AUDIT_READ, STATE_READ and CAPTURE_DRAM_READ. -/
def unaudited (code : Nat) : Bool :=
  decide (code = 0x0B06 ∨ code = 0x0B03 ∨ code = 0x0703 ∨ code = 0x0702)

/-- Commands that make a persistent change (R326, FLAGS [0]): those of R414, and SETTINGS_ERASE, which writes its result
under R414. -/
def persistent (code : Nat) : Bool :=
  decide (code = 0x0601 ∨ code = 0x0602 ∨ code = 0x0B04 ∨ code = 0x0B05 ∨ code = 0x1002 ∨ code = 0x1003)

/-- A command that has started, if it has. -/
def State.busyOf (s : State) (r : CmdRef) : Option Busy := s.host.busy.find? (fun b => b.ref = r)

/-- The command is started: it is BUSY from now on. `hostId` is the identity it came with. -/
def State.begin (s : State) (r : CmdRef) (code : Nat) (params : Bytes) (part : Nat) (notify : Option Nat) (hostId : Bytes) : State :=
  if (s.busyOf r).isSome then s
  else { s with host := { s.host with busy := s.host.busy ++ [⟨r, code, params, notify, part, s.role r.org, hostId, none⟩] } }

/-- OLD and NEW of a command's audit entry: the digest of the parameters, or KEY_ID and IMAGE_ID for a PART_LOAD
(R202, R326). -/
def State.auditWords (s : State) (b : Busy) : Nat × Nat :=
  if b.code = 0x0600 then
    match (s.part b.part).load with
    | some l => if l.ref = b.ref then (l.keyId, l.imageId % 2 ^ 64) else (0, 0)
    | none => (0, 0)
  else (0, leVal ((sha384 b.params).take 8))

/-- A command gets its answer, and its audit entry (R325); a persistent change also persists the log (R327). A command
that has an answer already keeps it. -/
def State.answer (s : State) (r : CmdRef) (a : Answer) : State :=
  match s.busyOf r with
  | none => s
  | some b =>
    if b.ans.isSome then s
    else
      let w := s.auditWords b
      let s1 :=
        if unaudited b.code then s
        else s.audit ⟨0, 0, b.role, (portByteOf r.org), a.status.num, 1,
          b2n (persistent b.code && decide (a.status = .ok)) + 2 * b2n (decide (b.code ≠ 0x0600)) +
            4 * b2n (decide (a.status ≠ .ok)), b.part, b.code, 0, b.hostId, w.1, w.2⟩
      let s2 := if persistent b.code ∧ a.status = .ok then s1.persistAudit else s1
      let l := s2.host.busy.map (fun x => if x.ref = r then { x with ans := some a } else x)
      { s2 with host := { s2.host with busy := l } }

/-- A command that answers with a bare status. -/
def State.done (s : State) (r : CmdRef) (st : Status) : State := s.answer r ⟨st, 0, []⟩

/-- Several commands that answer with one status. -/
def State.doneAll (s : State) (rs : List CmdRef) (st : Status) : State := rs.foldl (fun s r => s.done r st) s

/-- What a command's effect gives: the new state and the answer, if it has one already. -/
abbrev CmdRes := State × Option Answer

/-- The command answers with a bare status and changes nothing more. -/
def State.says (s : State) (st : Status) : CmdRes := (s, some ⟨st, 0, []⟩)

/-- The command has completed. -/
def State.oks (s : State) : CmdRes := (s, some ⟨.ok, 0, []⟩)

/-- The command waits. -/
def State.waits (s : State) : CmdRes := (s, none)

/-- The first broken condition of a list refuses the command, which changes nothing (R444). -/
def refuseIf (cs : List (Bool × Status)) (s : State) (k : State → CmdRes) : CmdRes :=
  match cs.find? (fun c => c.1) with
  | some c => s.says c.2
  | none => k s

/-- A command that needs the CP of an anvil completes with SVC_CP_OUT once that CP is out (R33, R432). -/
def State.cpOut (s : State) (a : Nat) : Bool × Status := (bit (s.reg .svcCpout 0 0) a, .svcCpOut)

/-- Conditions 4 to 6 of R444 for a command that names a partition, after the role condition 3. -/
def State.partChecks (s : State) (o : Origin) (p : Nat) : List (Bool × Status) :=
  [(decide (32 ≤ p), .notPresent), (!s.pExists p, .notPresent), (!s.mayPart o p, .notOwner)]

/-- Condition 3 of R444 for a command that the owner and tenants issue: local service may not name a partition (R302). -/
def State.noLocal (s : State) (o : Origin) : Bool × Status := (decide (s.role o = Role.local_), .notOwner)

/-- Condition 3 of R444 for a command of the owner alone. -/
def State.ownerOnly (s : State) (o : Origin) : Bool × Status := (!s.isOwner o, .notOwner)

/-- Condition 3 of R444 for a command of the owner and local service. -/
def State.ownerOrLocal (s : State) (o : Origin) : Bool × Status := (!s.isOwnerOrLocal o, .notOwner)

/-- A command that has started waits for something that will complete it, or will let it go on: a mode change, its load,
a DMA, a fence, an insertion, a handshake, a transition of the module. -/
def State.awaits (s : State) (r : CmdRef) : Bool :=
  s.parts.any (fun e =>
    e.2.stops.any (fun x => decide (x.1 = r)) || e.2.halts.contains r || e.2.haltNow.contains r || e.2.destroys.contains r ||
      (match e.2.load with | some l => decide (l.ref = r) | none => false)) ||
  s.fab.dma.any (fun d => decide (d.who = .cmd r)) ||
  s.dram.jobs.any (fun j => decide (j.who = .cmd r ∧ j.left ≠ 0)) ||
  s.noc.waiting.contains r ||
  s.wl.bundles.any (fun e => e.2.bankWaits.contains r || e.2.spareWaits.contains r) ||
  s.sys.waking.contains r || s.sys.sleeping.contains r ||
  (match s.svc.insertion with | some i => decide (i.ref = some r) | none => false) ||
  s.svc.queued.any (fun q => decide (q.2.2.2 = some r)) ||
  decide (s.svc.replan = some (some r)) ||
  s.svc.waits.any (fun x => decide (x.1 = r))

/-- The boot ROM in recovery accepts FW_STAGE with MODE 1 and MOD_RESET, and answers every other command with FW_INVALID
(R415). -/
def State.recoveryRefuses (s : State) (code : Nat) (params : Bytes) : Bool :=
  s.sys.recovery && !(decide (code = 0x1001) || (decide (code = 0x1005) && decide (le params 0 1 = 1)))

/-- A command runs as one step (R307): it is BUSY, has its effect, and gets its answer. One that has been answered, or
that waits, is left as it is; a module that is OFF runs none. -/
def runCmd (r : CmdRef) (code : Nat) (params : Bytes) (part : Nat) (f : State → CmdRes) (s : State) : State :=
  if s.sys.off || (s.busyOf r).any (fun b => b.ans.isSome) || s.awaits r then s
  else
    let s1 := s.begin r code params part none (s.hostIdOf r.org)
    let x := if s.recoveryRefuses code params then s1.says .fwInvalid else f s1
    match x.2 with
    | none => x.1
    | some a => x.1.answer r a

end Sys2Proof.Machine
end

