-- ==== Sys2Proof/Machine/Quench.lean ====
section
/-! DEFINITION. The quench (R34 to R37, R154 to R160): causes that assert and release, the freeze that lands, stretch,
the resumption; and the change of a partition's mode (R152). -/

namespace Sys2Proof.Machine

/-- The highest of the causes of a mask, in the order of R160; 0 if there is none. -/
def topCause (mask : Nat) : Nat := (Cause.rank.find? (fun c => bit mask c)).getD 0

/-- The causes asserted. -/
def State.activeMask (s : State) (p : Nat) : Nat := s.reg .partQuenchActive p 0

/-- The causes latched. -/
def State.latchedMask (s : State) (p : Nat) : Nat := s.reg .partQuenchLatched p 0

/-! ## Counted outage (R437, R438) -/

/-- The outage record of a partition. -/
def State.outageOf (s : State) (p : Nat) : Outage := Tab.get Outage.init s.svc.outage [p]

/-- The outage record of a partition set. -/
def State.setOutage (s : State) (p : Nat) (o : Outage) : State :=
  { s with svc := { s.svc with outage := Tab.put Outage.init s.svc.outage [p] o } }

/-- A counted fault has frozen the partition, or holds it where nothing lands: the first part begins. -/
def State.outageStart (s : State) (p : Nat) : State :=
  let o := s.outageOf p
  if o.active then s else s.setOutage p { o with since := some s.now, acc := 0, recovering := false, active := true }

/-- A recovery command is accepted: the first part ends, and the second begins unless the recovery is a PART_UNLOAD. -/
def State.outageRecover (s : State) (p : Nat) (unload : Bool) : State :=
  let o := s.outageOf p
  if o.active ∧ !o.recovering then
    match o.since with
    | some t => s.setOutage p { o with
        since := if unload then none else some s.now, acc := o.acc + (s.now - t), recovering := !unload }
    | none => s
  else s

/-- The first PART_LOAD after a PART_UNLOAD is accepted: the second part begins. -/
def State.outageReload (s : State) (p : Nat) : State :=
  let o := s.outageOf p
  if o.active ∧ o.since = none then s.setOutage p { o with since := some s.now, recovering := true } else s

/-- The partition executes a step or enters READY: the interval ends, is counted and raises its event. -/
def State.outageEnd (s : State) (p : Nat) : State :=
  let o := s.outageOf p
  if o.active ∧ o.recovering then
    let ns := o.acc + (match o.since with | some t => s.now - t | none => 0)
    let s1 := (s.bump .svcAvailOutMs 0 p (ns / 1000000)).bump .svcAvailOutEvents 0 p 1
    let s2 := s1.setOutage p { o with since := none, acc := 0, recovering := false, active := false }
    s2.mEventOf p Ev.outage 0 (ns / 1000000)
  else s

/-- A fault cause is latched (R156). -/
def State.faultHeld (s : State) (p : Nat) : Bool :=
  bit (s.latchedMask p) Cause.doubleDrive || bit (s.latchedMask p) Cause.bank || bit (s.latchedMask p) Cause.uncorr

/-- Stretch counted up to now against the cause that takes the present interval (R160). -/
def State.acct (s : State) (p : Nat) : State :=
  if s.frozen p then
    let t := s.now
    let x := s.part p
    let d := t - x.stretchFrom
    let c := x.stretchTo
    let s1 := s.setReg64 .partQuenchStretchLo .partQuenchStretchHi p c
      (s.reg64 .partQuenchStretchLo .partQuenchStretchHi p c + d)
    let s2 := s1.setReg64 .partQuenchTotalLo .partQuenchTotalHi p 0
      (s1.reg64 .partQuenchTotalLo .partQuenchTotalHi p 0 + d)
    s2.modPart p (fun x => { x with stretchFrom := t })
  else s

/-- The next interval of stretch goes to the highest active cause; with none active it stays where it was. -/
def State.reAcct (s : State) (p : Nat) : State :=
  if s.frozen p ∧ s.activeMask p ≠ 0 then
    s.modPart p (fun x => { x with stretchTo := topCause (s.activeMask p) })
  else s

/-- The asserted causes set, with the accounting of R160 before and after. -/
def State.setActive (s : State) (p m : Nat) : State := ((s.acct p).setReg .partQuenchActive p 0 m).reAcct p

/-- The latched causes set, and HELD with them. -/
def State.setLatched (s : State) (p m : Nat) : State :=
  (s.setReg .partQuenchLatched p 0 m).setReg .partRunHeld p 0 (b2n (decide (m ≠ 0)))

/-- Where the freeze of a cause lands that enters the quench tree now: before the step Q_LAT later, or after step
S − 1 (R155). -/
def State.entryPoint (s : State) (p : Nat) : Nat × Nat :=
  (s.cycle p, min (s.sSteps p) (s.pos p + s.reg .partQuenchQLat p 0))

/-- The landing point "after step S − 1" of the present cycle. -/
def State.endPoint (s : State) (p : Nat) : Nat × Nat := (s.cycle p, s.sSteps p)

/-- The landing point "after the boundary" that ends the present cycle. -/
def State.boundaryPoint (s : State) (p : Nat) : Nat × Nat := (s.cycle p + 1, 0)

/-- A cause asserts (R155 to R159). `fixed` is whether the cause table names its landing point. On an executing partition it becomes active, is latched if it is a held cause, and
its freeze is on its way to its landing point; asserted again it counts one more event and extends nothing. On any
other partition it counts, and only a fault cause is latched. -/
def State.assertAt (s : State) (p c : Nat) (at_ : Nat × Nat) (latch fixed : Bool) : State :=
  let s := s.bump .partQuenchEvents p c 1
  if s.executing p then
    let s := if latch then s.setLatched p (setBit (s.latchedMask p) c true) else s
    if bit (s.activeMask p) c then s
    else
      (s.setActive p (setBit (s.activeMask p) c true)).modPart p
        (fun x => { x with entering := x.entering ++ [⟨c, at_.1, at_.2, fixed⟩] })
  else if latch ∧ Cause.isFault c then
    ((s.setActive p (setBit (s.activeMask p) c true)).setLatched p (setBit (s.latchedMask p) c true)).outageStart p
  else s

/-- A cause asserts with the latching that its kind gives and a landing point that the table of R156 names. That of cause
0xC holds only for a partition that is not frozen. -/
def State.assertCause (s : State) (p c : Nat) (at_ : Nat × Nat) : State :=
  s.assertAt p c at_ (Cause.held c) (decide (c ≠ Cause.billet))

/-- A cause asserts at entry + Q_LAT. -/
def State.assertEntry (s : State) (p c : Nat) : State := s.assertAt p c (s.entryPoint p) (Cause.held c) false

/-- A self-releasing cause releases. The freeze it sent still lands (R155). -/
def State.releaseCause (s : State) (p c : Nat) : State :=
  if bit (s.activeMask p) c ∧ !bit (s.latchedMask p) c then s.setActive p (setBit (s.activeMask p) c false) else s

/-- Every latched cause is released (R158). Cause 0xB stays active while a frozen DRAM controller holds it (R143), and
in a module fault, which lasts until power is cycled (R436). -/
def State.releaseHeld (s : State) (p : Nat) : State :=
  let l := s.latchedMask p
  let keep := if (s.part p).frzHold = [] ∧ !s.sys.moduleFault then 0 else 2 ^ Cause.uncorr
  if l = 0 then s
  else (s.setActive p (Nat.lor (s.activeMask p - Nat.land (s.activeMask p) l) keep)).setLatched p 0

/-- A DRAM controller's freeze holds cause 0xB on a partition (R143): self-releasing. -/
def State.assertFreeze (s : State) (p a : Nat) : State :=
  let s1 := s.assertAt p Cause.uncorr (s.entryPoint p) false false
  if s.executing p then s1.modPart p (fun x => { x with frzHold := x.frzHold.filter (· ≠ a) ++ [a] }) else s1

/-- A thawed DRAM controller lets cause 0xB go. -/
def State.releaseFreeze (s : State) (p a : Nat) : State :=
  let s1 := s.modPart p (fun x => { x with frzHold := x.frzHold.filter (· ≠ a) })
  if (s1.part p).frzHold = [] then s1.releaseCause p Cause.uncorr else s1

/-- A cause withdrawn before anything lands (R166: a mode change falls due). -/
def State.withdraw (s : State) (p c : Nat) : State :=
  (s.releaseCause p c).modPart p (fun x => { x with entering := x.entering.filter (fun e => decide (e.cause ≠ c)) })

/-- A landing point has been reached. A freeze at entry + Q_LAT, or of cause 0xC, that finds the partition frozen lands where
it stands (R160, R428); one with a landing point of its own lands there and nowhere else (R81, R155). -/
def State.reached (s : State) (p : Nat) (e : Enter) : Bool :=
  (s.frozen p && !e.fixed) || decide (e.cycle < s.cycle p) || (decide (e.cycle = s.cycle p) && decide (e.step ≤ s.pos p))

/-- The active causes that hold the partition where it stands: all but those whose own landing point it has not reached. -/
def State.holdMask (s : State) (p : Nat) : Nat :=
  (s.part p).entering.foldl (fun m e => if e.fixed && !s.reached p e then setBit m e.cause false else m) (s.activeMask p)

/-- The freezes due at the partition's present place. -/
def State.landings (s : State) (p : Nat) : List Enter := (s.part p).entering.filter (s.reached p)

/-- The quench event of a freeze that lands, at most one per millisecond for one cause (R316). -/
def State.quenchEvent (s : State) (p c : Nat) : State :=
  let t := s.now
  let last := Tab.get 0 (s.part p).quenchEv [c]
  if last = 0 ∨ last + 999999 < t + 1 then
    (s.pEvent p Ev.quench (if c = Cause.hzMiss then Status.horizonMiss.num else 0)
      (c + 2 ^ 16 * s.activeMask p)).modPart p (fun x => { x with quenchEv := Tab.put 0 x.quenchEv [c] (t + 1) })
  else s

/-- The mode changes (R152): MODE, REASON and the mode event. -/
def State.enterMode (s : State) (p m reason : Nat) : State :=
  let s1 := (s.setReg .partRunMode p 0 m).setReg .partRunReason p 0 reason
  s1.pEvent p Ev.mode (if reason = 4 then Status.assertHalt.num else 0) (m + 256 * reason)

/-- PART_HALT commands with NOW = 1 take effect where the freeze has landed (R149): INSPECT with MIDCYCLE = 1. If
nothing is latched by then they are carried out as NOW = 0. -/
def State.haltHere (s : State) (p : Nat) : State :=
  let x := s.part p
  if x.haltNow = [] ∨ !s.running p then s
  else if s.latchedMask p = 0 then s.modPart p (fun y => { y with haltNow := [], halts := y.halts ++ y.haltNow })
  else
    let s1 := (s.setReg .partRunMidcycle p 0 1).modPart p (fun y => { y with leftMode := s.mode p, haltNow := [] })
    (s1.enterMode p Mode.inspect 1).doneAll x.haltNow .ok

/-- A freeze that lands is of a fault whose outage is counted (R435): a latched fault cause, or the freeze of a DRAM
controller for a second failing device. -/
def State.countedFault (s : State) (p : Nat) (due : List Enter) : Bool :=
  due.any (fun e => Cause.isFault e.cause && bit (s.latchedMask p) e.cause) ||
    (due.any (fun e => decide (e.cause = Cause.uncorr)) && (s.part p).frzHold.any (fun a => decide (s.reg .ddrFrzKind a 0 = 3)))

/-- Freezes land (R155): the partition is frozen where it stands, LAST names the highest of the causes that land, and
each raises its quench event. -/
def State.land (s : State) (p : Nat) : State :=
  let due := s.landings p
  if !s.executing p ∨ due = [] then s
  else
    let c := topCause (due.foldl (fun m e => setBit m e.cause true) 0)
    let s1 := s.modPart p (fun x => { x with entering := x.entering.filter (fun e => !s.reached p e) })
    let s2 :=
      if s1.frozen p then s1
      else (s1.setReg .partRunQuenched p 0 1).modPart p
        (fun x => { x with stretchFrom := s1.now, stretchTo := c })
    let s3 := (s2.reAcct p).setReg .partQuenchLast p 0 c
    let s4 := if s3.countedFault p due then s3.outageStart p else s3
    (due.foldl (fun s e => s.quenchEvent p e.cause) s4).haltHere p

/-- The partition resumes where it stopped (R155, R158): every cause that holds it there has released. Freezes on their way
to no landing point of their own have landed by then, where the partition stands. -/
def State.resume (s : State) (p : Nat) : State :=
  if s.executing p ∧ s.frozen p ∧ s.holdMask p = 0 then
    let s1 := s.land p
    if s1.executing p then (s1.acct p).setReg .partRunQuenched p 0 0 else s1
  else s

/-- Everything of the quench dropped, with the stretch counted: the partition stops executing without a boundary. -/
def State.dropQuench (s : State) (p : Nat) : State :=
  let s1 := (s.acct p).setReg .partRunQuenched p 0 0
  ((s1.setReg .partQuenchActive p 0 0).setLatched p 0).modPart p
    (fun x => { x with entering := [], frzHold := [], haltNow := [] })

/-- A host abort arrives (R162, R163): the tenant port and the owner may raise it; a write from any other origin has no
effect and is entered in the audit log (R146). -/
def State.abort (s : State) (o : Origin) (p : Nat) : State :=
  if !s.pExists p then s
  else if s.mayPart o p then
    (s.assertEntry p Cause.abort).auditWrite o .ok p (Fld.addr .partAbortGo p 0) 0 1
  else s.auditWrite o .notOwner p (Fld.addr .partAbortGo p 0) 0 1

/-- HOST_ABORT (R162). -/
def execHostAbort (o : Origin) (p : Nat) (s : State) : Host.Outcome State Fault Refusal := .next (s.abort o p)

/-- A module fault (R436): every executing partition takes cause 0xB, the error event is raised and the audit ring is
persisted. The module stays so until power is cycled or a forced module reset. -/
def State.moduleFault (s : State) (addr : Nat) : State :=
  let s1 := (s.partitions.filter s.executing).foldl (fun s p => s.assertEntry p Cause.uncorr) s
  let s2 := ((s1.mError .moduleFault addr).auditAction .moduleFault 0xFFFF addr).persistAudit
  { s2 with sys := { s2.sys with moduleFault := true } }

/-- A tester STOP asserts (R156, R163): at entry + Q_LAT, or after step S − 1 under PART.STOP.AT. -/
def State.testerStop (s : State) (p : Nat) : State :=
  if s.flag .partStopAt p 0 then s.assertCause p Cause.stop (s.endPoint p) else s.assertEntry p Cause.stop

end Sys2Proof.Machine
end

