-- ==== Sys2Proof/Machine/Fabric.lean ====
section
/-! DEFINITION. The Boolean processors, their route words, the egress words and injectors of the hearths, and the routing
wires (chapters 02 and 03): what one step computes from the stores as they stood at its start. -/

namespace Sys2Proof.Machine

/-! ## Operands (R46, R50) -/

/-- The specials that hold one value for all steps of a cycle (R51). -/
structure Specials where
  clken : Nat
  rst : Nat
  sticky : Bool
  recent : Bool
  tstate : Nat
  triggered : Bool
  tflags : Nat
deriving DecidableEq, Repr

/-- The specials of a partition in its present cycle. -/
def State.specials (s : State) (p : Nat) : Specials :=
  let x := s.part p
  ⟨x.clk.clken, x.clk.rst, x.failSticky, x.failRecent, s.reg .partTrigStatusState p 0,
    s.flag .partTrigStatusTriggered p 0, x.trigFlags⟩

/-- The value of a special (R50); a reserved address reads 0. -/
def special (fab : Fab) (x : Specials) (a h addr : Nat) : Bool :=
  if addr = 1793 then true
  else if 1808 ≤ addr ∧ addr < 1872 then bit x.clken (addr - 1808)
  else if 1872 ≤ addr ∧ addr < 1888 then bit x.rst (addr - 1872)
  else if 1888 ≤ addr ∧ addr < 1952 then bit (Tab.get 0 fab.pword [a, h, (addr - 1888) / 4]) ((addr - 1888) % 4)
  else if 1952 ≤ addr ∧ addr < 1968 then Tab.get false fab.wlost [a, h, addr - 1952]
  else if addr = 1968 then x.sticky
  else if addr = 1969 then x.recent
  else if 1970 ≤ addr ∧ addr < 1974 then bit x.tstate (addr - 1970)
  else if addr = 1974 then x.triggered
  else if 1976 ≤ addr ∧ addr < 1984 then bit x.tflags (addr - 1976)
  else false

/-- The bit an operand selector names (R46). -/
def operand (fab : Fab) (x : Specials) (a h b addr : Nat) : Bool :=
  if addr < 1792 then Tab.get false fab.mem [a, h, b, addr] else special fab x a h addr

/-! ## Instruction words (R52 to R69) -/

/-- The effect of a family beside its result. -/
inductive Fx where
  | none
  | user (u : Nat)
  | shadow (u : Nat)
  | load (data : Bool) (port group val : Nat)
  | issue (port : Nat) (write : Bool)
  | tprobe (n : Nat)
  | out (pin : Nat)
  | halt
deriving DecidableEq, Repr

/-- What one BP does in a step: its result, the D and P flags, the effect, the error it reports (a bit of
HEARTH.ERR.STATUS, 0 for none) and the dictionary entry it looked up. -/
structure BpOut where
  r : Bool
  drive : Bool
  probe : Bool
  fx : Fx
  err : Nat
  dict : Option Nat
deriving DecidableEq, Repr

/-- The lookup index formed from the first `n` operands (R56). -/
def lutIndex (v : Nat → Bool) (n : Nat) : Nat := bitsToNat ((List.range n).map v)

/-- A user-state write of an address: its effect, or the OPERAND error where the address is out of range (R81). -/
def userFx (direct : Bool) (f : Nat) : Fx × Nat :=
  if 1536 ≤ f ∧ f < 1792 then (if direct then (.user (f - 1536), 0) else (.shadow (f - 1536), 0)) else (.none, 6)

/-- One instruction word executed (R53 to R69): `v i` is operand i, `dict` the table of an entry, `word` the read word
of a port. -/
def evalWord (w : Nat) (v : Nat → Bool) (dict word : Nat → Nat) : BpOut :=
  let op := bits w 79 74
  let idx := bits w 73 66
  let f := bits w 10 0
  let d := bit op 0
  if op = 0 then ⟨false, false, false, .none, 0, none⟩
  else if 0x10 ≤ op ∧ op ≤ 0x13 then ⟨bit (dict idx) (lutIndex v 6), d, bit op 1, .none, 0, some idx⟩
  else if 0x18 ≤ op ∧ op ≤ 0x1F then
    let u := userFx true f
    ⟨bit (dict idx) (32 * b2n (bit op 2) + lutIndex v 5), d, bit op 1, u.1, u.2, some idx⟩
  else if 0x20 ≤ op ∧ op ≤ 0x2F then
    let u := if v 4 then userFx (decide (0x28 ≤ op)) f else (.none, 0)
    ⟨bit (dict idx) (16 * bits op 2 1 + lutIndex v 4), d, false, u.1, u.2, some idx⟩
  else if 0x30 ≤ op ∧ op ≤ 0x33 then
    let k := b2n (v 4) + 2 * b2n (v 5)
    ⟨xor (xor (v k) (bit idx (4 + k))) (bit idx 3), d, bit op 1, .none, 0, none⟩
  else if op = 0x38 ∨ op = 0x39 then
    let port := bits idx 7 4
    let g := bits idx 3 0
    let fx : Fx :=
      if g < 15 then .load (decide (op = 0x39)) port g (lutIndex v 6)
      else if op = 0x38 ∧ v 0 then .issue port (v 1) else .none
    ⟨false, false, false, fx, 0, none⟩
  else if op = 0x3A ∨ op = 0x3B then ⟨bit (word (bits idx 7 4)) (bits w 60 55), d, false, .none, 0, none⟩
  else if op = 0x3C then ⟨v 0, false, true, .none, 0, none⟩
  else if op = 0x3D then ⟨v 0, false, false, .tprobe idx, 0, none⟩
  else if op = 0x3E then ⟨v 0, false, false, .out (bits w 54 41), 0, none⟩
  else if op = 0x3F then
    let r := bit (dict idx) (lutIndex v 6)
    ⟨r, false, false, if r then .halt else .none, 0, some idx⟩
  else ⟨false, false, false, .none, 4, none⟩

/-! ## Storage errors (R44, R81, R91) -/

/-- The state of a stored word's check bits: 0 good, 1 a single-bit error, 2 a double-bit error. -/
def flawOf (fab : Fab) (st : Store) (key : Key) : Nat := Tab.get 0 fab.flaws (st.ctorIdx :: key)

/-- A storage error strikes a stored word. -/
def Fab.strike (fab : Fab) (u : Upset) : Fab :=
  let k := u.store.ctorIdx :: u.key
  { fab with flaws := Tab.put 0 fab.flaws k (if u.double ∨ Tab.get 0 fab.flaws k ≠ 0 then 2 else 1) }

/-- A fault that a hearth reports (R81, R91): the register block that records it, the STATUS bit, the logical BP or
egress entry, the dictionary entry, and the status code. -/
structure FabErr where
  a : Nat
  h : Nat
  egr : Bool
  no : Nat
  loc : Nat
  dict : Nat
  st : Status
deriving DecidableEq, Repr

/-! ## One step of the fabric -/

/-- A drive of a routing wire: the wire (anvil, hearth, channel bit), its driver number and its value. -/
structure Drive where
  a : Nat
  h : Nat
  c : Nat
  driver : Nat
  value : Bool
deriving DecidableEq, Repr

/-- What the drivers of one wire come to: winner and its value, the lowest other driver, and how many drive. -/
structure Wire where
  winner : Nat
  value : Bool
  loser : Nat
  count : Nat
deriving DecidableEq, Repr

/-- The undriven wire. -/
def Wire.init : Wire := ⟨0, false, 0, 0⟩

/-- One more driver of a wire: the lowest driver number wins (R101). -/
def Wire.add (w : Wire) (d : Drive) : Wire :=
  if w.count = 0 then ⟨d.driver, d.value, 0, 1⟩
  else if d.driver < w.winner then ⟨d.driver, d.value, w.winner, w.count + 1⟩
  else ⟨w.winner, w.value, (if w.count = 1 then d.driver else min w.loser d.driver), w.count + 1⟩

/-- The wires driven in a step, by anvil, hearth and channel bit. -/
def wiresOf (ds : List Drive) : Tab Wire :=
  ds.foldl (fun t d => Tab.put Wire.init t [d.a, d.h, d.c] (Wire.add (Tab.get Wire.init t [d.a, d.h, d.c]) d)) []

/-- The neighbour of hearth `h` in outbound direction `n` (R89). -/
def neighbour (h n : Nat) : Nat :=
  let row := h / 16
  let col := h % 16
  if n = 0 then 16 * ((row + 1) % 8) + col
  else if n = 1 then 16 * row + (col + 15) % 16
  else if n = 2 then 16 * ((row + 7) % 8) + col
  else 16 * row + (col + 1) % 16

/-- The link port that a hearth serves as a gateway (R93). -/
def gatewayPort (g : Grade) (a h : Nat) : Option Nat :=
  let l := if h % 16 = 0 then 0 else if h % 16 = 15 then 1 else if h % 16 = 8 then 2 else 3
  if l < 3 ∧ Grade.hasLink g a l then some l else none

/-- The gateway hearth of a row that a link port uses, and the direction in which its bits arrive (R93, R94). -/
def gatewayHearth (l row : Nat) : Nat := 16 * row + (if l = 0 then 0 else if l = 1 then 15 else 8)
/-- See `gatewayHearth`. -/
def gatewayDir (l : Nat) : Nat := if l = 0 then 3 else if l = 1 then 1 else 2

/-- The driver number of an egress word or an injector slot (R100). -/
def driverNo (a h entry : Nat) : Nat := a * 2 ^ 16 + h * 2 ^ 9 + entry

/-- An egress word decoded: nothing, a reserved form, or a destination with its source (R88, R91). -/
inductive Egr where
  | none
  | bad
  | torus (chan : Bool) (src n k : Nat)
  | link (chan : Bool) (src l k : Nat)
deriving DecidableEq, Repr

/-- An egress word of a hearth decoded. -/
def decodeEgr (g : Grade) (a h w : Nat) : Egr :=
  let sk := bits w 21 20
  let dk := bits w 9 8
  let src := if sk = 2 then bits w 17 10 else bits w 19 10
  if sk = 0 then .none
  else if sk = 3 ∨ 2 ≤ dk then .bad
  else if dk = 0 then .torus (decide (sk = 2)) src (bits w 7 6) (bits w 5 0)
  else
    match gatewayPort g a h with
    | some l => .link (decide (sk = 2)) src l (bits w 5 0)
    | Option.none => .bad

/-- What a step of the fabric gives: the stores after it, what each BP did, the corrections and faults of the stores, the
double-driven wires, and the drives discarded at the fence (driver's anvil, hearth and entry). -/
structure FabStep where
  fab : Fab
  outs : List (Nat × Nat × Nat × BpOut)
  corrBp : List (Nat × Nat × Key)
  corrEgr : List (Nat × Nat × Key)
  errs : List FabErr
  doubles : List (Key × Wire)
  fence : List (Nat × Nat × Nat)
deriving Repr

/-- The entries of a store that belong to a step and a set of hearths; the step is coordinate `n` of the key. -/
def ofStep {α : Type} (t n : Nat) (inP : Nat → Nat → Bool) (l : Tab α) : Tab α :=
  l.filter (fun e => decide (e.1.getD n 0 = t) && inP (e.1.getD 0 0) (e.1.getD 1 0))

/-- Flawed words of one store that a step reads, as (anvil, hearth, key within the store, single or double). -/
def flawsOfStep (fab : Fab) (st : Store) (t n : Nat) (inP : Nat → Nat → Bool) : List (Nat × Nat × Key × Nat) :=
  fab.flaws.filterMap (fun e =>
    if e.1.getD 0 0 = st.ctorIdx ∧ e.1.getD (n + 1) 0 = t ∧ inP (e.1.getD 1 0) (e.1.getD 2 0) then
      some (e.1.getD 1 0, e.1.getD 2 0, e.1.tail, e.2) else none)

/-- What every BP with a stored instruction word does in step `t` (R40, R41, R81). -/
def bpOuts (fab : Fab) (x : Specials) (inP : Nat → Nat → Bool) (t : Nat) : List (Nat × Nat × Nat × BpOut) :=
  (ofStep t 3 inP fab.instr).filterMap (fun e =>
    let a := e.1.getD 0 0
    let h := e.1.getD 1 0
    let b := e.1.getD 2 0
    let w := e.2.toNat
    if flawOf fab .instr e.1 = 2 then none
    else some (a, h, b, evalWord w (fun i => operand fab x a h b (bits w (65 - 11 * i) (55 - 11 * i)))
      (fun k => if flawOf fab .dict [a, h, k] = 2 then 0 else (Tab.get 0 fab.dict [a, h, k]).toNat)
      (fun port => Tab.get 0 fab.pword [a, h, port])))

/-- Data memory, commit shadow and bus after the BPs' results (R41, R59 to R61, R70). -/
def Fab.results (fab : Fab) (inP : Nat → Nat → Bool) (t : Nat) (outs : List (Nat × Nat × Nat × BpOut)) : Fab :=
  let f0 := { fab with
    mem := Tab.keep (fun k => !(inP (k.getD 0 0) (k.getD 1 0) && decide (k.getD 3 0 = t))) fab.mem
    bus := Tab.keep (fun k => !inP (k.getD 0 0) (k.getD 1 0)) fab.bus }
  outs.foldl (fun f o =>
    let a := o.1
    let h := o.2.1
    let b := o.2.2.1
    let x := o.2.2.2
    let f1 := { f with
      mem := Tab.put false f.mem [a, h, b, t] x.r
      bus := Tab.put false f.bus [a, h, b] (x.drive && x.r) }
    match x.fx with
    | .user u => { f1 with mem := Tab.put false f1.mem [a, h, b, 1536 + u] x.r }
    | .shadow u => { f1 with
        shadow := Tab.put false f1.shadow [a, h, b, u] x.r
        pend := Tab.put false f1.pend [a, h, b, u] true }
    | _ => f1) f0

/-- The bit a route word selects: `some` where it captures (R71). A reserved code captures 0 (R81). -/
def routeBit (busPrev : Tab Bool) (wires : Tab Wire) (a h w : Nat) : Option Bool :=
  let code := bits w 11 10
  if code = 0 then none
  else if code = 1 then some (Tab.get false busPrev [a, h, bits w 9 0])
  else if code = 2 then some (Tab.get Wire.init wires [a, h, bits w 7 0]).value
  else some false

/-- The drives of the injector slots of a step (R105, R106). -/
def injectDrives (fab : Fab) (inP : Nat → Nat → Bool) (t inVec : Nat) : List Drive :=
  (ofStep t 2 inP fab.inject).filterMap (fun e =>
    let w := e.2.toNat
    if flawOf fab .inject e.1 = 2 ∨ !bit w 23 then none
    else some ⟨e.1.getD 0 0, e.1.getD 1 0, bits w 7 0, driverNo (e.1.getD 0 0) (e.1.getD 1 0) (256 + e.1.getD 3 0),
      bit inVec (bits w 22 9)⟩)

/-- The flights that the egress words of a step send, whatever partition receives them (R88 to R95). `lat` is the
latency of a receiving link port and row. -/
def egressFlights (fab : Fab) (g : Grade) (p : Nat) (inP : Nat → Nat → Bool) (t : Nat) (busNow : Tab Bool)
    (wires : Tab Wire) (lat : Nat → Nat → Nat) : List Flight :=
  (ofStep t 2 inP fab.egress).filterMap (fun e =>
    let a := e.1.getD 0 0
    let h := e.1.getD 1 0
    let val := fun (chan : Bool) (src : Nat) =>
      if chan then (Tab.get Wire.init wires [a, h, src]).value else Tab.get false busNow [a, h, src]
    if flawOf fab .egress e.1 = 2 then none
    else
      match decodeEgr g a h e.2.toNat with
      | .none => none
      | .bad => none
      | .torus ch src n k =>
        some ⟨p, a, neighbour h n, 64 * n + k, driverNo a h (e.1.getD 3 0), val ch src, 1, none⟩
      | .link ch src l k =>
        let pa := linkPeer a l
        let pl := linkFacing l
        some ⟨p, pa, gatewayHearth pl (h / 16), 64 * gatewayDir pl + k, driverNo a h (e.1.getD 3 0), val ch src,
          lat (3 * pa + pl) (h / 16), some (3 * pa + pl)⟩)

/-- One step of the fabric of a partition (R40 to R73, R88 to R106). `inVec` is the input vector of the cycle. -/
def fabStep (fab : Fab) (g : Grade) (p : Nat) (inP : Nat → Nat → Bool) (x : Specials) (t inVec : Nat)
    (lat : Nat → Nat → Nat) : FabStep :=
  let mine := fab.flight.filter (fun f => decide (f.part = p))
  let arriving := (mine.filter (fun f => decide (f.left ≤ 1))).map (fun f => (⟨f.anvil, f.hearth, f.chan, f.driver, f.value⟩ : Drive))
  let wires := wiresOf (arriving ++ injectDrives fab inP t inVec)
  let outs := bpOuts fab x inP t
  let f1 := fab.results inP t outs
  let routes := (ofStep t 3 inP fab.route).filter (fun e => decide (flawOf fab .route e.1 ≠ 2))
  let mem2 := routes.foldl (fun m e =>
    match routeBit fab.bus wires (e.1.getD 0 0) (e.1.getD 1 0) e.2.toNat with
    | some v => Tab.put false m [e.1.getD 0 0, e.1.getD 1 0, e.1.getD 2 0, 1024 + t % 512] v
    | none => m) f1.mem
  let sent := egressFlights fab g p inP t f1.bus wires lat
  let still := (fab.flight.filter (fun f => !(decide (f.part = p) && decide (f.left ≤ 1)))).map
    (fun f => if f.part = p then { f with left := f.left - 1 } else f)
  let fi := flawsOfStep fab .instr t 3 inP
  let fr := flawsOfStep fab .route t 3 inP
  let fe := flawsOfStep fab .egress t 2 inP
  let fj := flawsOfStep fab .inject t 2 inP
  let looked := outs.filterMap (fun o => o.2.2.2.dict.map (fun k => (o.1, o.2.1, o.2.2.1, k)))
  let firstUse := fun (a h k : Nat) => (looked.find? (fun e => e.1 = a ∧ e.2.1 = h ∧ e.2.2.2 = k)).map (·.2.2.1)
  let fd := fab.flaws.filterMap (fun e =>
    let a := e.1.getD 1 0
    let h := e.1.getD 2 0
    let k := e.1.getD 3 0
    if e.1.getD 0 0 = Store.dict.ctorIdx then (firstUse a h k).map (fun b => (a, h, b, k, e.2)) else none)
  let errs : List FabErr :=
    fi.filterMap (fun e => if e.2.2.2 = 2 then some ⟨e.1, e.2.1, false, 1, e.2.2.1.getD 2 0, 0, .uncorrectable⟩ else none) ++
    fr.filterMap (fun e => if e.2.2.2 = 2 then some ⟨e.1, e.2.1, false, 2, e.2.2.1.getD 2 0, 0, .uncorrectable⟩ else none) ++
    fd.filterMap (fun e => if e.2.2.2.2 = 2 then some ⟨e.1, e.2.1, false, 3, e.2.2.1, e.2.2.2.1, .uncorrectable⟩ else none) ++
    outs.filterMap (fun o => if o.2.2.2.err = 4 then some ⟨o.1, o.2.1, false, 4, o.2.2.1, 0, .illegalOpcode⟩
      else if o.2.2.2.err = 6 then some ⟨o.1, o.2.1, false, 6, o.2.2.1, 0, .illegalOperand⟩ else none) ++
    routes.filterMap (fun e => if bits e.2.toNat 11 10 = 3 then
      some ⟨e.1.getD 0 0, e.1.getD 1 0, false, 5, e.1.getD 2 0, 0, .illegalRoute⟩ else none) ++
    fe.filterMap (fun e => if e.2.2.2 = 2 then some ⟨e.1, e.2.1, true, 1, e.2.2.1.getD 3 0, 0, .uncorrectable⟩ else none) ++
    fj.filterMap (fun e => if e.2.2.2 = 2 then some ⟨e.1, e.2.1, true, 2, 256 + e.2.2.1.getD 3 0, 0, .uncorrectable⟩ else none) ++
    (ofStep t 2 inP fab.egress).filterMap (fun e =>
      if flawOf fab .egress e.1 ≠ 2 ∧ decodeEgr g (e.1.getD 0 0) (e.1.getD 1 0) e.2.toNat = .bad then
        some ⟨e.1.getD 0 0, e.1.getD 1 0, true, 3, e.1.getD 3 0, 0, .illegalRoute⟩ else none)
  { fab := { f1 with mem := mem2, flight := still ++ sent.filter (fun f => inP f.anvil f.hearth) }
    outs := outs
    corrBp := (fi ++ fr).filterMap (fun e => if e.2.2.2 = 1 then some (e.1, e.2.1, e.2.2.1) else none) ++
      fd.filterMap (fun e => if e.2.2.2.2 = 1 then some (e.1, e.2.1, [e.1, e.2.1, e.2.2.2.1]) else none)
    corrEgr := (fe ++ fj).filterMap (fun e => if e.2.2.2 = 1 then some (e.1, e.2.1, e.2.2.1) else none)
    errs := errs
    doubles := wires.filter (fun e => decide (2 ≤ e.2.count))
    fence := (sent.filter (fun f => !inP f.anvil f.hearth)).map
      (fun f => (f.driver / 2 ^ 16, f.driver / 2 ^ 9 % 128, f.driver % 512)) }

/-! ## What the hearths report -/

/-- The physical BP that serves a logical BP (R45). -/
def State.physOf (s : State) (a h b : Nat) : Nat :=
  match (List.range 32).find? (fun k => s.flag .hearthMapBilletValid (hInst a h) k &&
      decide (s.reg .hearthMapBilletLbp (hInst a h) k = b)) with
  | some k => 1024 + k
  | none => b

/-- HEARTH.BILLET and the service record follow the marks and the map (R427, R441). -/
def State.countBillets (s : State) (a h : Nat) : State :=
  let bad := fun n => Tab.get false s.svc.failed [a, h, n]
  let free := ((List.range 32).filter (fun k => !bad (1024 + k) && !s.flag .hearthMapBilletValid (hInst a h) k)).length
  let failed := (s.svc.failed.filter (fun e => decide (e.1.getD 0 0 = a ∧ e.1.getD 1 0 = h))).length
  (s.setRecord .hearthBilletFree (hInst a h) 0 free).setRecord .hearthBilletFailed (hInst a h) 0 failed

/-- A physical BP is marked failed (R427). -/
def State.markFailed (s : State) (a h phys : Nat) : State :=
  if Tab.get false s.svc.failed [a, h, phys] then s
  else ({ s with svc := { s.svc with failed := Tab.put false s.svc.failed [a, h, phys] true } }).countBillets a h

/-- One day in ns. -/
def day : Nat := 86400000000000

/-- An uncorrectable error of a physical BP's stores: the second within a day marks it (R427). -/
def State.noteUncorr (s : State) (a h b : Nat) : State :=
  let ph := s.physOf a h b
  let l := (Tab.get [] s.svc.uncorr [a, h, ph]).filter (fun t => decide (s.now < t + day)) ++ [s.now]
  let s1 := { s with svc := { s.svc with uncorr := Tab.put [] s.svc.uncorr [a, h, ph] l } }
  if 2 ≤ l.length then s1.markFailed a h ph else s1

/-- A correction of one stored word of a BP: the sixteenth within a day marks the BP (R427). -/
def State.noteCorr (s : State) (st : Store) (key : Key) : State :=
  let k := st.ctorIdx :: key
  let l := (Tab.get [] s.svc.corr k).filter (fun t => decide (s.now < t + day)) ++ [s.now]
  let s1 := { s with svc := { s.svc with corr := Tab.put [] s.svc.corr k l } }
  if 16 ≤ l.length then s1.markFailed (key.getD 0 0) (key.getD 1 0) (s.physOf (key.getD 0 0) (key.getD 1 0) (key.getD 2 0))
  else s1

/-- The STATUS bit of HEARTH.ERR of a number (R80). -/
def errField (n : Nat) : Fld :=
  match n with
  | 1 => .hearthErrStatusInstrUncorr
  | 2 => .hearthErrStatusRouteUncorr
  | 3 => .hearthErrStatusDictUncorr
  | 4 => .hearthErrStatusOpcode
  | 5 => .hearthErrStatusRouteCode
  | _ => .hearthErrStatusOperand

/-- The STATUS bit of HEARTH.EGR of a number (R104). -/
def egrField (n : Nat) : Fld :=
  match n with
  | 1 => .hearthEgrStatusEgrUncorr
  | 2 => .hearthEgrStatusInjUncorr
  | _ => .hearthEgrStatusEgrCode

/-- A fault recorded in a hearth's registers (R80, R104): LOC keeps the first since the STATUS bits were all 0. -/
def State.recordFab (s : State) (t : Nat) (e : FabErr) : State :=
  let i := hInst e.a e.h
  if e.egr then
    let clear := [1, 2, 3].all (fun n => !s.flag (egrField n) i 0)
    let s1 := if clear then (s.setReg .hearthEgrLocStep i 0 t).setReg .hearthEgrLocEntry i 0 e.loc else s
    s1.setReg (egrField e.no) i 0 1
  else
    let clear := [1, 2, 3, 4, 5, 6].all (fun n => !s.flag (errField n) i 0)
    let s1 :=
      if clear then
        ((s.setReg .hearthErrLocStep i 0 t).setReg .hearthErrLocLbp i 0 e.loc).setReg .hearthErrLocDictEntry i 0 e.dict
      else s
    s1.setReg (errField e.no) i 0 1

/-- A store fault of a partition (R81): recorded, reported, and a boundary quench. -/
def State.fabFault (p t : Nat) (s : State) (e : FabErr) : State :=
  let s1 := s.recordFab t e
  let f := if e.egr then Fld.hearthEgrStatusCorr else Fld.hearthErrStatusCorr
  let s2 := (s1.pError p e.st (f.addr (hInst e.a e.h) 0)).assertCause p Cause.uncorr (s1.boundaryPoint p)
  if !e.egr ∧ e.no ≤ 2 then s2.noteUncorr e.a e.h e.loc else s2

/-- Corrections counted (R44, R91). -/
def State.fabCorr (s : State) (f : FabStep) : State :=
  let s1 := f.corrBp.foldl (fun s e =>
    (s.bump .hearthErrCorrCount (hInst e.1 e.2.1) 0 1).setReg .hearthErrStatusCorr (hInst e.1 e.2.1) 0 1) s
  f.corrEgr.foldl (fun s e =>
    (s.bump .hearthEgrCorrCount (hInst e.1 e.2.1) 0 1).setReg .hearthEgrStatusCorr (hInst e.1 e.2.1) 0 1) s1

/-- The double drives of a step (R101). -/
def State.fabDoubles (s : State) (p t : Nat) (l : List (Key × Wire)) : State :=
  match l with
  | [] => s
  | (k, w) :: _ =>
    let s1 := s.bump .partRouteDdCount p 0 l.length
    let s2 :=
      if s1.flag .partRouteDdFirstValid p 0 then s1
      else
        ((((((s1.setReg .partRouteDdFirstAnvil p 0 (k.getD 0 0)).setReg .partRouteDdFirstHearth p 0 (k.getD 1 0)).setReg
          .partRouteDdFirstChan p 0 (k.getD 2 0)).setReg .partRouteDdFirstStep p 0 t).setReg
          .partRouteDdWinner p 0 w.winner).setReg .partRouteDdLoser p 0 w.loser |>.setReg64
          .partRouteDdCycleLo .partRouteDdCycleHi p 0 (s1.cycle p)).setReg .partRouteDdFirstValid p 0 1
    (s2.pError p .doubleDrive (Fld.addr .partRouteDdFirstValid p 0)).assertCause p Cause.doubleDrive (s2.boundaryPoint p)

/-- The drives discarded at the fence in a step (R102). -/
def State.fabFence (s : State) (p t : Nat) (l : List (Nat × Nat × Nat)) : State :=
  match l with
  | [] => s
  | (a, h, e) :: _ =>
    let s1 := s.bump .partRouteFenceCount p 0 l.length
    let s2 :=
      if s1.flag .partRouteFenceFirstValid p 0 then s1
      else ((((s1.setReg .partRouteFenceFirstAnvil p 0 a).setReg .partRouteFenceFirstHearth p 0 h).setReg
        .partRouteFenceFirstEntry p 0 e).setReg .partRouteFenceFirstStep p 0 t).setReg .partRouteFenceFirstValid p 0 1
    (s2.pError p .fenceViolation (Fld.addr .partRouteFenceFirstValid p 0)).assertCause p Cause.uncorr (s2.boundaryPoint p)

end Sys2Proof.Machine
end

