-- ==== Sys2Proof/Machine/Billets.lean ====
section
/-! DEFINITION. Billets (R427 to R430): marks, insertion of billets, and the retirement of a region (R425). -/

namespace Sys2Proof.Machine

/-- The state of a region in SVC.REGION.STATE: 0 in service, 1 MAINTENANCE, 2 retired. -/
def State.regionState (s : State) (r : Nat) : Nat := s.reg .svcRegionState 0 r

/-- A region is retired (R425): its partition takes cause 0xB, and the region stays in MAINTENANCE for good. -/
def State.retireRegion (s : State) (r : Nat) : State :=
  if s.regionState r = 2 then s
  else
    let s1 := s.setRecord .svcRegionState 0 r 2
    let s2 := match s1.regionPart r with
      | some p => s1.assertEntry p Cause.uncorr
      | none => s1
    s2.condition 9

/-- BILLETS_LOW is set while a hearth of a powered region has fewer than 4 free billets (R430). -/
def State.billetsLow (s : State) : State :=
  let low := s.regs.any (fun e => decide (e.1.getD 0 0 = Fld.hearthBilletFree.ctorIdx) &&
    s.regionOn (regionOf (e.1.getD 1 0 / 128) (e.1.getD 1 0 % 128)) && decide (e.2.getD 32 < 4))
  if low then s.condition 7
  else if bit (s.reg .svcCond 0 0) 7 then s.setRecord .svcCond 0 0 (setBit (s.reg .svcCond 0 0) 7 false) else s

/-- The billets of a hearth that are free, rising. -/
def State.freeBillets (s : State) (a h : Nat) : List Nat :=
  (List.range 32).filter (fun k => !Tab.get false s.svc.failed [a, h, 1024 + k] && !s.flag .hearthMapBilletValid (hInst a h) k)

/-- An insertion works in a partition. -/
def State.insertingIn (s : State) (p : Nat) : Bool :=
  match s.svc.insertion with
  | some i => decide (s.hearthPart i.anvil i.hearth = some p)
  | none => false

/-- The partition of a hearth is in LOADING: an insertion there is deferred (R205). -/
def State.deferred (s : State) (a h : Nat) : Bool :=
  match s.hearthPart a h with
  | some p => decide (s.mode p = Mode.loading)
  | none => false

/-- The copy engine starts on a hearth (R428): on an executing partition under cause 0xC, which lands after step S − 1, or
where the partition stands if it is frozen already. -/
def State.startInsertion (s : State) (a h : Nat) (lbps : List Nat) (ref : Option CmdRef) : State :=
  let p := (s.hearthPart a h).filter s.executing
  let s1 := match p with
    | some p => s.assertCause p Cause.billet (if s.frozen p then (s.cycle p, s.pos p) else s.endPoint p)
    | none => s
  { s1 with svc := { s1.svc with insertion := some ⟨a, h, lbps, ref, p⟩ } }

/-- The oldest insertion that waits and may start, starts: one at a time in the module. -/
def State.nextInsertion (s : State) : State :=
  match s.svc.insertion with
  | some _ => s
  | none =>
    match s.svc.queued.find? (fun q => !s.deferred q.1 q.2.1) with
    | none => s
    | some q => ({ s with svc := { s.svc with queued := s.svc.queued.erase q } }).startInsertion q.1 q.2.1 q.2.2.1 q.2.2.2

/-- An insertion is asked for. -/
def State.requestInsertion (s : State) (a h : Nat) (lbps : List Nat) (ref : Option CmdRef) : State :=
  ({ s with svc := { s.svc with queued := s.svc.queued ++ [(a, h, lbps, ref)] } }).nextInsertion

/-- The same insertion is under way or waits already. -/
def State.insertionKnown (s : State) (a h : Nat) (l : Nat) : Bool :=
  (match s.svc.insertion with
    | some i => decide (i.anvil = a ∧ i.hearth = h) && i.lbps.contains l
    | none => false) || s.svc.queued.any (fun q => decide (q.1 = a ∧ q.2.1 = h) && q.2.2.1.contains l)

/-- The logical BPs of a hearth that a failed physical BP serves and no insertion helps yet. -/
def State.ailing (s : State) (a h : Nat) : List Nat :=
  let phys := (s.svc.failed.filter (fun e => decide (e.1.getD 0 0 = a ∧ e.1.getD 1 0 = h))).map (fun e => e.1.getD 2 0)
  ((phys.filterMap (fun n =>
    if n < 1024 then some n
    else if s.flag .hearthMapBilletValid (hInst a h) (n - 1024) then some (s.reg .hearthMapBilletLbp (hInst a h) (n - 1024))
    else none)).dedup).filter (fun b => Tab.get false s.svc.failed [a, h, s.physOf a h b] && !s.insertionKnown a h b)

/-- Billets asked for: those under way or waiting in a hearth. -/
def State.billetsAsked (s : State) (a h : Nat) : Nat :=
  (s.svc.queued.filter (fun q => decide (q.1 = a ∧ q.2.1 = h))).foldl (fun n q => n + q.2.2.1.length)
    (match s.svc.insertion with
      | some i => if i.anvil = a ∧ i.hearth = h then i.lbps.length else 0
      | none => 0)

/-- Failed BPs in service of a hearth are replaced by billets; without one, the region is retired (R427, R430). -/
def State.careFor (s : State) (a h : Nat) : State :=
  let l := s.ailing a h
  if l = [] then s
  else
    let room := (s.freeBillets a h).length - s.billetsAsked a h
    let s1 := if room < l.length then s.retireRegion (regionOf a h) else s
    let go := l.take room
    (if go = [] then s1 else s1.requestInsertion a h go none).billetsLow

/-- Every hearth with marks that were not there before is cared for. -/
def State.careForNew (s s0 : State) : State :=
  if s.svc.failed.length = s0.svc.failed.length then s
  else (((s.svc.failed.filter (fun e => !Tab.get false s0.svc.failed e.1)).map (fun e => (e.1.getD 0 0, e.1.getD 1 0))).dedup).foldl
    (fun s ah => s.careFor ah.1 ah.2) s

/-- A logical BP is served by a billet from now on; the billet that served it before is out of service. -/
def State.mapBillet (a h : Nat) (s : State) (e : Nat × Nat) : State :=
  let i := hInst a h
  let s1 := (List.range 32).foldl (fun s k =>
    if s.flag .hearthMapBilletValid i k ∧ s.reg .hearthMapBilletLbp i k = e.1 then
      (s.setRecord .hearthMapBilletValid i k 0).setRecord .hearthMapBilletLbp i k 0 else s) s
  let s2 := (s1.setRecord .hearthMapBilletLbp i e.2 e.1).setRecord .hearthMapBilletValid i e.2 1
  let heal := fun (k : Key) => decide ((k.getD 0 0 = Store.instr.ctorIdx ∨ k.getD 0 0 = Store.route.ctorIdx) ∧ k.getD 1 0 = a ∧
    k.getD 2 0 = h ∧ k.getD 3 0 = e.1)
  { s2 with fab := { s2.fab with flaws := s2.fab.flaws.filter (fun x => !(heal x.1 && decide (x.2 = 1))) } }

/-- The insertion under way ends: cause 0xC releases, the command that asked for it completes, and the next one starts. -/
def State.endInsertion (s : State) (i : Insertion) (st : Status) : State :=
  let s1 := { s with svc := { s.svc with insertion := none } }
  let s2 := match i.part with
    | some p => s1.releaseCause p Cause.billet
    | none => s1
  let s3 := match i.ref with
    | some r => s2.done r st
    | none => s2
  s3.nextInsertion

/-- BILLET_COPY_COMPLETE: billets whose copy failed twice are marked failed, the copies that passed go to the lowest free
billets, and the map commits (R428). A steward that is restarting holds the release back. -/
def State.copyComplete (s : State) (failed : List Nat) : State :=
  match s.svc.insertion with
  | none => s
  | some i =>
    let landed := match i.part with
      | some p => !s.executing p || s.frozen p
      | none => true
    if !landed ∨ i.lbps = [] then s
    else
      let a := i.anvil
      let h := i.hearth
      let s1 := (failed.filter (fun k => (s.freeBillets a h).contains k)).foldl (fun s k => s.markFailed a h (1024 + k)) s
      let pairs := i.lbps.zip (s1.freeBillets a h)
      let s2 := (pairs.foldl (State.mapBillet a h) s1).countBillets a h
      let s3 := if pairs = [] then s2 else (s2.bump .svcBilletInserts 0 0 1).mEvent 0x1B 0
        (a + 16 * h + 2 ^ 11 * i.lbps.headD 0 + 2 ^ 21 * pairs.length)
      let short := decide (pairs.length < i.lbps.length)
      let s4 := (if short then s3.retireRegion (regionOf a h) else s3).billetsLow
      if s4.sys.stewardDown then { s4 with svc := { s4.svc with insertion := some { i with lbps := [] } } }
      else s4.endInsertion i (if short then .svcNoBillet else .ok)

/-- BILLET_INSERTION (R428): the insertion of these logical BPs starts, or waits for its turn. -/
def State.billetInsertion (s : State) (a h : Nat) (lbps : List Nat) : State :=
  if s.grade.anvils ≤ a ∨ 128 ≤ h ∨ lbps = [] ∨ 32 < lbps.length ∨ lbps.any (fun b => decide (1024 ≤ b)) ∨
      (s.freeBillets a h).length < lbps.length + s.billetsAsked a h ∨ lbps.any (s.insertionKnown a h) then s.nextInsertion
  else s.requestInsertion a h lbps none

/-- BILLET_INSERTION (R428). -/
def execBilletInsertion (anvil hearth : Nat) (lbps : List Nat) (s : State) : Host.Outcome State Fault Refusal :=
  .next (s.billetInsertion anvil hearth lbps)

/-- BILLET_COPY_COMPLETE (R428). -/
def execBilletCopyComplete (failed : List Nat) (s : State) : Host.Outcome State Fault Refusal := .next (s.copyComplete failed)

end Sys2Proof.Machine
end

