-- ==== Sys2Proof/Machine/Clocks.lean ====
section
/-! DEFINITION. The clock generator of a partition's home region (R108 to R114): divider levels, glitch-free
multiplexers, enables and resets. -/

namespace Sys2Proof.Machine

/-- P of a divider (R109). -/
def State.divP (s : State) (p d : Nat) : Nat := s.reg .partClkDivPeriodM1 p d + 1

/-- Levels of the dividers for given counters (R109). -/
def State.divLevels (s : State) (p : Nat) (cnt : List Nat) : List Bool :=
  (List.range 16).map (fun d => decide (cnt.getD d 0 < s.reg .partClkDivHigh p d))

/-- The divider a multiplexer's source bit names: SRC_A for 0, SRC_B for 1. -/
def State.muxSrc (s : State) (p m cur : Nat) : Nat :=
  if cur = 0 then s.reg .partClkMuxSrcA p m else s.reg .partClkMuxSrcB p m

/-- One computation of a multiplexer (R110): its source and state (0 follow, 1 drain, 2 arm), and the level. -/
def muxNext (sel : Nat) (x : Nat × Nat) (level : Nat → Bool) : (Nat × Nat) × Bool :=
  let st1 := if x.2 = 0 ∧ sel ≠ x.1 then 1 else x.2
  let st2 := if st1 = 1 ∧ !level x.1 then 2 else st1
  let y : Nat × Nat := if st2 = 2 ∧ !level sel then (sel, 0) else (x.1, st2)
  (y, decide (y.2 < 2) && level y.1)

/-- The levels of the cycle after those given, from the fields in effect (R109, R110). -/
def State.nextLevels (s : State) (p : Nat) (l : Levels) : Levels :=
  let cnt := (List.range 16).map (fun d => (l.cnt.getD d 0 + 1) % s.divP p d)
  let dl := s.divLevels p cnt
  let ms := (List.range 16).map (fun m =>
    muxNext (s.reg .partClkMuxSel p m) (l.mux.getD m (0, 0)) (fun c => dl.getD (s.muxSrc p m c) false))
  ⟨cnt, dl ++ ms.map (·.2), ms.map (·.1)⟩

/-- CLKEN of a cycle from its levels and those of the next (R111). -/
def State.enables (s : State) (p : Nat) (cur nxt : Levels) : Nat :=
  bitsToNat ((List.range 64).map (fun k =>
    let src := s.reg .partClkEnSrc p k
    let a := cur.lvl.getD src false
    let b := nxt.lvl.getD src false
    let e := s.reg .partClkEnEdge p k
    if e = 1 then !a && b else if e = 2 then a && !b else if e = 3 then xor a b else decide (e = 4)))

/-- One reset for the next cycle (R114): its level and its count. -/
def rstNext (asserted en level : Bool) (hold count : Nat) : Bool × Nat :=
  let c := if level ∧ en ∧ count < 255 then count + 1 else count
  let l := if asserted then true else if level ∧ en ∧ hold ≤ c then false else level
  (l, if l then c else 0)

/-- The generator preset when a PART_RUN from READY at cycle 0 is accepted (R109, R110, R114). -/
def State.clkPreset (s : State) (p : Nat) : State :=
  let cnt := (List.range 16).map (fun d => s.reg .partClkDivOffset p d % s.divP p d)
  let dl := s.divLevels p cnt
  let mux := (List.range 16).map (fun m => (s.reg .partClkMuxSel p m, 0))
  let cur : Levels := ⟨cnt, dl ++ (List.range 16).map (fun m =>
    dl.getD (s.muxSrc p m (s.reg .partClkMuxSel p m)) false), mux⟩
  let nxt := s.nextLevels p cur
  let rst := bitsToNat ((List.range 16).map (fun k => s.flag .partRstInit p k))
  s.modPart p (fun x => { x with clk := ⟨cur, nxt, s.enables p cur nxt, rst, List.replicate 16 0⟩ })

/-- The generator's values of the cycle that begins (R108, R112): computed during the cycle that ends, from the fields
in effect in it. -/
def State.clkAdvance (s : State) (p : Nat) : State :=
  let c := (s.part p).clk
  let l := s.nextLevels p c.nxt
  let rs := (List.range 16).map (fun k =>
    let sync := s.reg .partRstSync p k
    rstNext (s.flag .partRstAssert p k) (decide (sync = 64) || bit c.clken sync) (bit c.rst k)
      (s.reg .partRstHold p k) (c.count.getD k 0))
  s.modPart p (fun x => { x with clk := ⟨c.nxt, l, s.enables p c.nxt l, bitsToNat (rs.map (·.1)), rs.map (·.2)⟩ })

end Sys2Proof.Machine
end

