-- ==== Sys2Proof/Machine/Ecc.lean ====
section
/-! DEFINITION. The outer code of module DRAM (R256): RS(80,64) over GF(2^8), its check bytes, its decoder of up to eight
symbol errors, and the decoding of sixteen erasures (R260, R261). -/

namespace Sys2Proof.Machine

/-! ## The field -/

/-- α times an element, modulo x^8 + x^4 + x^3 + x^2 + 1. -/
def gfDouble (a : Byte) : Byte := if a.getLsbD 7 then (a <<< 1) ^^^ 0x1D else a <<< 1

/-- The product of two elements. -/
def gfMul (a b : Byte) : Byte :=
  (List.range 8).foldr (fun k acc => gfDouble acc ^^^ (if b.getLsbD k then a else 0)) 0

/-- α^n. -/
def gfAlpha (n : Nat) : Byte := Nat.repeat gfDouble (n % 255) 1

/-- The inverse of an element, its 254th power. -/
def gfInv (a : Byte) : Byte :=
  ((List.range 7).foldl (fun (x : Byte × Byte) _ => let q := gfMul x.1 x.1; (q, gfMul x.2 q)) (a, 1)).2

/-! ## Polynomials, lowest coefficient first -/

/-- A polynomial's value. -/
def polyEval (p : List Byte) (x : Byte) : Byte := p.foldr (fun c acc => c ^^^ gfMul acc x) 0

/-- The sum of two polynomials. -/
def polyAdd : List Byte → List Byte → List Byte
  | [], q => q
  | p, [] => p
  | a :: p, b :: q => (a ^^^ b) :: polyAdd p q

/-- A polynomial times a constant. -/
def polyScale (c : Byte) (p : List Byte) : List Byte := p.map (gfMul c)

/-- The product of two polynomials. -/
def polyMul (p q : List Byte) : List Byte := p.foldr (fun a acc => polyAdd (polyScale a q) (0 :: acc)) []

/-- The formal derivative: only odd powers leave a term. -/
def polyDeriv (p : List Byte) : List Byte := (List.range (p.length - 1)).map (fun k => if k % 2 = 0 then p.getD (k + 1) 0 else 0)

/-- The generator of the code: the product of (x − α^i) for i = 0 to 15. -/
def rsGen : List Byte := (List.range 16).foldl (fun g i => polyMul g [gfAlpha i, 1]) [1]

/-! ## Codewords -/

/-- The locator of byte position j, the coefficient of x^(79 − j). -/
def rsLoc (j : Nat) : Byte := gfAlpha (79 - j)

/-- The values of a received word at the roots of the generator. -/
def rsSyndromes (w : List Byte) : List Byte := (List.range 16).map (fun i => polyEval w.reverse (gfAlpha i))

/-- A word of 80 bytes is a codeword. -/
def rsValid (w : List Byte) : Bool := decide (w.length = 80) && (rsSyndromes w).all (fun x => decide (x = 0))

/-- What must be added at given positions so that the given syndromes vanish (at most 16 positions). -/
def rsErasures (pos : List Nat) (synd : List Byte) : List Byte :=
  let loc := pos.foldl (fun p j => polyMul p [1, rsLoc j]) [1]
  let omega := (polyMul synd loc).take 16
  pos.map (fun j =>
    let x := rsLoc j
    let y := gfInv x
    gfMul x (gfMul (polyEval omega y) (gfInv (polyEval (polyDeriv loc) y))))

/-- A word with bytes added at positions. -/
def addAt (w : List Byte) (pos : List Nat) (vals : List Byte) : List Byte :=
  (pos.zip vals).foldl (fun w e => w.modify e.1 (· ^^^ e.2)) w

/-- The byte positions that device d carries. -/
def devPositions (d : Nat) : List Nat := (List.range 16).map (fun b => 5 * b + d)

/-- The word with the bytes of one device made such that it is a codeword. -/
def rsFill (d : Nat) (w : List Byte) : List Byte := addAt w (devPositions d) (rsErasures (devPositions d) (rsSyndromes w))

/-- 64 data bytes in their places, device 4 left 0: in beat b, device d carries data byte 4b + d. -/
def rsSpread (data : Bytes) : List Byte :=
  (List.range 80).map (fun j => if j % 5 = 4 then 0 else data.getD (4 * (j / 5) + j % 5) 0)

/-- The codeword of a burst's 64 data bytes. -/
def rsWord (data : Bytes) : List Byte := rsFill 4 (rsSpread data)

/-- The data bytes of a word. -/
def rsData (w : List Byte) : Bytes := (List.range 64).map (fun k => w.getD (5 * (k / 4) + k % 4) 0)

/-- The 16 check bytes of a word. -/
def rsCheck (w : List Byte) : Bytes := (List.range 16).map (fun b => w.getD (5 * b + 4) 0)

/-- The poison pattern (R265): data 0 with every check byte inverted. -/
def rsPoison : List Byte := (rsWord (zeros 64)).mapIdx (fun j x => if j % 5 = 4 then x ^^^ 0xFF else x)

/-! ## The decoder -/

/-- The error locator of a list of syndromes (Berlekamp and Massey): the locator, the locator before its last change of
length, the number of errors, the steps since that change, and its discrepancy. -/
structure Locator where
  cur : List Byte
  old : List Byte
  len : Nat
  gap : Nat
  disc : Byte
deriving DecidableEq, Repr

/-- One step of the search for the error locator. -/
def Locator.step (synd : List Byte) (x : Locator) (n : Nat) : Locator :=
  let d := (List.range (x.len + 1)).foldl (fun acc i => acc ^^^ gfMul (x.cur.getD i 0) (if i ≤ n then synd.getD (n - i) 0 else 0)) 0
  if d = 0 then { x with gap := x.gap + 1 }
  else
    let next := polyAdd x.cur (polyScale (gfMul d (gfInv x.disc)) (List.replicate x.gap 0 ++ x.old))
    if 2 * x.len ≤ n then ⟨next, x.cur, n + 1 - x.len, 1, d⟩ else { x with cur := next, gap := x.gap + 1 }

/-- A received word decoded: the codeword within eight symbols of it, and how many symbols were corrected. -/
def rsDecode (w : List Byte) : Option (List Byte × Nat) :=
  let synd := rsSyndromes w
  if synd.all (fun x => decide (x = 0)) then some (w, 0)
  else
    let loc := (List.range 16).foldl (Locator.step synd) ⟨[1], [1], 0, 1, 1⟩
    let pos := (List.range 80).filter (fun j => decide (polyEval loc.cur (gfInv (rsLoc j)) = 0))
    let w1 := addAt w pos (rsErasures pos synd)
    if pos.length = loc.len ∧ loc.len ≤ 8 ∧ rsValid w1 then some (w1, pos.length) else none

end Sys2Proof.Machine
end

