-- ==== Sys2Proof/Machine/TraceSrc.lean ====
section
/-! DEFINITION. Trace sources and their packets (chapter 08, R233 to R242, R245, R246): how a source writes a packet into
its FIFO. -/

namespace Sys2Proof.Machine

/-- Packet types of R237. -/
def TP.sync : Nat := 1
def TP.longDelta : Nat := 2
def TP.overflow : Nat := 3
def TP.sleep : Nat := 4
def TP.branch : Nat := 8
def TP.trigger : Nat := 0x14
def TP.stop : Nat := 0x15

/-- States of TRACE.STATUS.STATE. -/
def State.traceState (s : State) : Nat := s.reg .traceStatusState 0 0

/-- The sources that have a FIFO (R233), rising. -/
def traceSources : List Nat := List.range 9 ++ (List.range 8).map (0x10 + ·) ++ (List.range 16).map (0x20 + ·) ++ [0x30, 0x31]

/-- A source ID that the grade has. -/
def State.srcPresent (s : State) (x : Nat) : Bool :=
  decide (x < s.grade.anvils) || decide (x = 8) || (decide (0x10 ≤ x) && decide (x < 0x10 + s.grade.anvils)) ||
    (decide (0x20 ≤ x) && decide (x < 0x20 + 2 * s.grade.anvils)) || decide (x = 0x30) || decide (x = 0x31)

/-- A source whose power domain is on (R28, R234): those of an anvil's NoC and DRAM lie in the anvil domain. -/
def State.srcOn (s : State) (x : Nat) : Bool :=
  s.srcPresent x && (if 0x10 ≤ x ∧ x < 0x18 then s.anvilOn (x - 0x10) else if 0x20 ≤ x ∧ x < 0x30 then s.anvilOn ((x - 0x20) / 2) else true)

/-- A source enabled in TRACE.SRC_EN. -/
def State.srcEnabled (s : State) (x : Nat) : Bool := bit (s.reg .traceSrcEnLo 0 0 + 2 ^ 32 * s.reg .traceSrcEnHi 0 0) x

/-- A source's record. -/
def State.src (s : State) (x : Nat) : TraceSrc := Tab.get TraceSrc.init s.trace.srcs [x]

/-- A source's record changed. -/
def State.modSrc (s : State) (x : Nat) (f : TraceSrc → TraceSrc) : State :=
  { s with trace := { s.trace with srcs := Tab.modify TraceSrc.init s.trace.srcs [x] f } }

/-- Size of a source's FIFO in bytes (R234). -/
def srcSize (x : Nat) : Nat := if x ≤ 8 then 2048 else if x < 0x30 then 512 else 1024

/-- Bytes in a FIFO. -/
def TraceSrc.used (t : TraceSrc) : Nat := t.fifo.foldl (fun n b => n + b.length) 0

/-- Free bytes outside the reserve. -/
def TraceSrc.free (t : TraceSrc) (x : Nat) : Nat := srcSize x - 64 - t.used

/-- The anvil whose time counter a source's SYNC carries (R241). -/
def State.srcAnvil (s : State) (x : Nat) : Nat :=
  if x < 8 then x else if 0x10 ≤ x ∧ x < 0x18 then x - 0x10 else if 0x20 ≤ x ∧ x < 0x30 then (x - 0x20) / 2 else s.steward

/-- A packet: header and payload (R235). -/
def packet (src type delta : Nat) (payload : Bytes) : Bytes :=
  toLE 4 (src * 2 ^ 25 + type * 2 ^ 20 + payload.length * 2 ^ 15 + delta) ++ payload

/-- The shortest two's-complement string of 1 to 8 bytes for a difference modulo 2^64 (R242). -/
def difference (new old : Nat) : Bytes :=
  let d := (new + 2 ^ 64 - old % 2 ^ 64) % 2 ^ 64
  let n := ((List.range 8).map (· + 1)).find? (fun n => decide (d < 2 ^ (8 * n - 1)) || decide (2 ^ 64 - 2 ^ (8 * n - 1) ≤ d))
  toLE (n.getD 8) (d % 2 ^ 64)

/-- The packets of an event: a LONG_DELTA where the count needs one, then the packet (R240). -/
def stamped (src type count : Nat) (payload : Bytes) : List Bytes :=
  if count ≤ 0x7FFF then [packet src type count payload]
  else if type = TP.sync then [packet src type 0x7FFF payload]
  else [packet src TP.longDelta 0 (toLE 6 count), packet src type 0 payload]

/-- Bytes that a packet with this payload would take. -/
def State.pushLen (s : State) (x type : Nat) (payload : Bytes) : Nat :=
  (stamped x type (s.time.ticks - (s.src x).lastTick) payload).foldl (fun n b => n + b.length) 0

/-- A packet is put into a source's FIFO, and the tick counter restarts; one for which not even the reserve has room is
dropped and counted. -/
def State.push (s : State) (x type : Nat) (payload : Bytes) : State :=
  if srcSize x < (s.src x).used + s.pushLen x type payload then s.modSrc x (fun t => { t with dropped := t.dropped + 1 })
  else
    s.modSrc x (fun t => { t with fifo := t.fifo ++ stamped x type (s.time.ticks - t.lastTick) payload, lastTick := s.time.ticks })

/-- A SYNC (R237, R238, R242). -/
def State.pushSync (s : State) (x reason addr : Nat) : State :=
  (s.push x TP.sync (toLE 8 (s.ctrNs (s.srcAnvil x)) ++ toLE 8 addr ++ toLE 1 reason)).modSrc x
    (fun t => { t with lastA := addr % 2 ^ 64, lastB := 0, sync := none })

/-- A SYNC whose ADDR the module itself gives: the next instruction of a CP is the firmware's, a free value; any other
source gives its last address. -/
def State.autoSync (s : State) (x reason : Nat) : State :=
  if x ≤ 8 then
    let f := s.takeNat
    f.2.pushSync x reason f.1
  else s.pushSync x reason (s.src x).lastA

/-- A source that dropped packets has found room: OVERFLOW, then a SYNC (R246). A CP that has restarted meanwhile owes a SYNC
with REASON 0x04 before any other packet (R251). -/
def State.recoverSrc (s0 : State) (x : Nat) : State :=
  let s := if (s0.src x).sync = some 4 then s0.autoSync x 4 else s0
  let n := (s.src x).dropped
  let s1 := (s.push x TP.overflow (toLE 4 (min ones32 n))).modSrc x (fun t => { t with dropped := 0, limited := false })
  ((s1.bump .traceDropCount 0 0 n).setReg .traceStatusOverflow 0 0 1).autoSync x 2

/-- Type and payload of an item of a source, with the last addresses after it; nothing if the source does not emit such an
item, or has not enabled the event (R237, R239). -/
def State.itemPacket (s : State) (x : Nat) (i : TraceItem) : Option (Nat × Bytes × Nat × Nat) :=
  let t := s.src x
  let cp := decide (x ≤ 8)
  match i with
  | .branch icount target =>
    if cp then some (TP.branch, toLE 2 icount ++ difference target t.lastA, target, t.lastB) else none
  | .exception vector target => if cp then some (9, toLE 1 vector ++ difference target t.lastA, target, t.lastB) else none
  | .data store size addr =>
    if cp then some (0xA, toLE 1 (b2n store + 2 * size) ++ difference addr t.lastB, t.lastA, addr) else none
  | .noc router code value =>
    if 0x10 ≤ x ∧ x < 0x18 ∧ 1 ≤ code ∧ bit (s.reg .traceEvtNoc 0 0) (code - 1) then
      some (0x10, toLE 1 router ++ toLE 1 code ++ toLE 4 value, t.lastA, t.lastB) else none
  | .dram code rank bank addr =>
    if 0x20 ≤ x ∧ x < 0x30 ∧ 1 ≤ code ∧ bit (s.reg .traceEvtDram 0 0) (code - 1) then
      some (0x11, toLE 1 code ++ toLE 1 (32 * rank + bank) ++ (match addr with | some a => difference a t.lastA | none => []),
        addr.getD t.lastA, t.lastB) else none
  | .sched code queue engine prio =>
    if x = 0x30 ∧ 1 ≤ code ∧ bit (s.reg .traceEvtSched 0 0) (code - 1) then
      some (0x12, toLE 1 code ++ toLE 2 queue ++ toLE 1 engine ++ toLE 1 prio, t.lastA, t.lastB) else none
  | .power code value =>
    if x = 0x31 ∧ 1 ≤ code ∧ bit (s.reg .traceEvtPower 0 0) (code - 1) then
      some (0x13, toLE 1 code ++ toLE 4 value, t.lastA, t.lastB) else none

/-- A source may emit: trace runs, the source is on and enabled, and, for a CP, it neither sleeps nor is stalled. -/
def State.srcRuns (s : State) (x : Nat) : Bool :=
  (decide (s.traceState = 1) || decide (s.traceState = 2)) && s.flag .traceCtlEnable 0 0 && s.srcOn x && s.srcEnabled x &&
    !(s.src x).asleep && (s.src x).stalledSince.isNone

/-- A source has one packet to report (R237, R245, R246, R248): it is written into the FIFO, after what the source owes; it
is dropped and counted where it does not fit, or, with the stall bit set, the CP stops before its instruction. -/
def State.traceOne (s : State) (x : Nat) (i : TraceItem) : State :=
  if !s.srcRuns x then s
  else
    match s.itemPacket x i with
    | none => s
    | some _ =>
      let drop := fun (s : State) => s.modSrc x (fun t => { t with dropped := t.dropped + 1 })
      let s1 := if 0 < (s.src x).dropped ∧ 64 ≤ (s.src x).free x then s.recoverSrc x else s
      if 0 < (s1.src x).dropped then drop s1
      else
        let s2 := match (s1.src x).sync with
          | some reason => s1.autoSync x reason
          | none => s1
        match s2.itemPacket x i with
        | none => s2
        | some (type, payload, la, lb) =>
          if s2.pushLen x type payload ≤ (s2.src x).free x then
            (s2.push x type payload).modSrc x (fun t => { t with lastA := la % 2 ^ 64, lastB := lb % 2 ^ 64 })
          else if x ≤ 8 ∧ bit (s2.reg .traceStallEn 0 0) x ∧ !(s2.src x).limited then
            s2.modSrc x (fun t => { t with stalledSince := some s.now })
          else drop s2

/-- The BRANCHes that a CP has emitted each time its ICOUNT would have passed 65,535 (R237); where they lead is the
firmware's, a free value. -/
def State.countBranches (x : Nat) : Nat → State → State
  | 0, s => s
  | n + 1, s =>
    let f := s.takeNat
    State.countBranches x n (f.2.traceOne x (.branch 65535 (f.1 % 2 ^ 64)))

/-- A source has something to report: one packet, or more where ICOUNT passes its limit (R237). -/
def State.traceItem (s : State) (x : Nat) (i : TraceItem) : State :=
  match i with
  | .branch icount target =>
    let n := (icount - 1) / 65535
    (State.countBranches x n s).traceOne x (.branch (icount - 65535 * n) target)
  | _ => s.traceOne x i

/-- The stall of a CP ends; its time is counted. -/
def State.stallEnd (s : State) (c ns : Nat) : State :=
  (s.modSrc c (fun t => { t with stalledSince := none })).bump .traceStallNs 0 0 ns

/-- The time a stall has lasted. -/
def State.stalledNs (s : State) (c : Nat) : Nat :=
  match (s.src c).stalledSince with
  | some t => s.now - t
  | none => 0

/-- A stall under way ends now. -/
def State.stallOver (s : State) (c : Nat) : State :=
  if (s.src c).stalledSince.isSome then s.stallEnd c (s.stalledNs c) else s

/-- A CP restarts (R251): its first packet is a SYNC with REASON 0x04, and its last addresses are not used again. -/
def State.traceRestart (s : State) (c : Nat) : State :=
  (s.stallOver c).modSrc c (fun t => { t with sync := some 4, lastA := 0, lastB := 0, asleep := false })

/-- The event source of a subchannel. -/
def dramSrc (a sub : Nat) : Nat := 0x20 + 2 * a + sub

/-- A trigger that TRACE.TRIGGER names is on its way to the funnel (R250): kind 0 a FIRE of partition `k`, kind 1 trigger
input `k`. -/
def State.traceSignal (s : State) (kind k : Nat) : State :=
  let hit := if kind = 0 then s.flag .traceTriggerPartEn 0 0 && decide (s.reg .traceTriggerPart 0 0 = k)
    else s.flag .traceTriggerPinEn 0 0 && decide (s.reg .traceTriggerPin 0 0 = k)
  let l := s.trace.signals ++ [(kind, k)]
  if hit ∧ s.traceState ≠ 0 then { s with trace := { s.trace with signals := l } } else s

end Sys2Proof.Machine
end

