-- ==== Sys2Proof/Machine/Dram.lean ====
section
/-! DEFINITION. Module DRAM (chapter 09): addresses and remapping, the two codes, marks, retirement and migration, how requests
reach a controller, its freeze, refresh and power-down; and the page copies of a DRAM snapshot (R214). -/

namespace Sys2Proof.Machine

/-! ## Events (R239) -/

/-- A DRAM_EVENT of a subchannel. -/
def State.dramEvent (s : State) (a sub code rank bank : Nat) (addr : Option Nat) : State :=
  s.traceItem (dramSrc a sub) (.dram code rank bank addr)

/-! ## Addresses (R254, R255) -/

/-- The DRAM part of the state changed. -/
def State.modDram (s : State) (f : Dram → Dram) : State := { s with dram := f s.dram }

/-- The linear address that serves an anvil DRAM byte address. -/
def Dram.lin (d : Dram) (a addr : Nat) : Nat :=
  let r := Tab.get 0 d.remap [a, addr / 4096]
  if r = 0 then addr else (r - 1) * 4096 + addr % 4096

/-- Subchannel, rank, bank group, bank and row of a linear address. -/
def linSub (l : Nat) : Nat := bits l 6 6
/-- See `linSub`. -/
def linRank (l : Nat) : Nat := bits l 18 18
/-- Bank group × 4 + bank, see `linSub`. -/
def linBank (l : Nat) : Nat := 4 * (bits l 8 7 + 4 * bits l 15 15) + bits l 17 16
/-- See `linSub`. -/
def linRow (l : Nat) : Nat := bits l 34 19

/-- Bytes read at an anvil DRAM byte address. -/
def Dram.read (d : Dram) (a addr n : Nat) : Bytes :=
  (List.range n).map (fun k => Tab.get 0 d.mem [a, d.lin a (addr + k)])

/-- Bytes that a request reads: of the audit log's range on anvils 0 and 1, or of the DRAM. -/
def State.dramBytes (s : State) (a addr n : Nat) : Bytes :=
  if a < 2 ∧ Config.auditBase ≤ addr ∧ addr < Config.dramUsable then (List.range n).map (fun k => s.auditByte (addr + k))
  else s.dram.read a addr n

/-- The entries of a table moved from one run of 2^k last coordinates to another. -/
def moveRun {α : Type} [DecidableEq α] (dflt : α) (t : Tab α) (a src dst size : Nat) : Tab α :=
  let kept := Tab.keep (fun k => !(decide (k.getD 0 0 = a) && decide (k.getD 1 0 / size = dst))) t
  (t.filter (fun e => decide (e.1.getD 0 0 = a ∧ e.1.getD 1 0 / size = src))).foldl
    (fun t e => Tab.put dflt t [a, dst * size + e.1.getD 1 0 % size] e.2) kept

/-- The anvil page that a linear page serves, if it serves one: the page remapped to it, or itself unless it has been left. -/
def Dram.pageOf (d : Dram) (a lpage : Nat) : Option Nat :=
  match List.find? (fun e => decide (e.1.getD 0 0 = a ∧ e.2 = lpage + 1)) d.remap with
  | some e => some (e.1.getD 1 0)
  | none => if 0x7C0000 ≤ lpage ∨ Tab.get 0 d.remap [a, lpage] ≠ 0 then none else some lpage

/-- The contents of a linear page copied to another, poisoned bursts with them. -/
def Dram.copyPage (d : Dram) (a src dst : Nat) : Dram :=
  { d with mem := moveRun 0 d.mem a src dst 4096, poison := moveRun false d.poison a src dst 64 }

/-- The `k`-th reserve page, and the `k`-th of one rank; the last page of each rank is its diagnostic page (R259). -/
def reservePage (k : Nat) : Nat := 0x7C0000 + k
/-- See `reservePage`. -/
def reserveOfRank (r k : Nat) : Nat := 0x7C0000 + 128 * (k / 64) + 64 * r + k % 64

/-- A free reserve page, of a given rank if one is named. -/
def Dram.freePage (d : Dram) (a : Nat) (rank : Option Nat) : Option Nat :=
  let n := d.used.length + 3
  let free := fun p => !Tab.get false d.used [a, p] && decide (p ≠ 0x7FFFBF) && decide (p < 0x7FFFFF)
  match rank with
  | none => ((List.range n).map reservePage).find? free
  | some r => ((List.range n).map (reserveOfRank r)).find? free

/-! ## DRAM-bound ports and the fence of a partition (R119, R135) -/

/-- The DRAM-bound ports of a partition on an anvil, as (hearth, port). -/
def State.dramPorts (s : State) (p a : Nat) : List (Nat × Nat) :=
  s.regs.filterMap (fun e =>
    let i := e.1.getD 1 0
    if e.1.getD 0 0 = Fld.hearthPortcfgTarget.ctorIdx ∧ e.2 = some 3 ∧ i / 128 = a ∧ s.inPart p a (i % 128) then
      some (i % 128, e.1.getD 2 0) else none)

/-- The base of a port's DRAM window. -/
def State.portDramBase (s : State) (a h j : Nat) : Nat :=
  s.reg64 .hearthPortdramBaseLo .hearthPortdramBaseHi (hInst a h) j

/-- The windows of the DRAM-bound ports of a partition on an anvil: base and size. -/
def State.dramWindows (s : State) (p a : Nat) : List (Nat × Nat) :=
  (s.dramPorts p a).map (fun e =>
    (s.portDramBase a e.1 e.2, 2 ^ s.reg .hearthPortcfgSizeLog2 (hInst a e.1) e.2))

/-- The allocation of a partition on an anvil (R201): base and size. -/
def State.allocOn (s : State) (p a : Nat) : Option (Nat × Nat) :=
  ((s.part p).allocs.find? (fun e => e.1 = a)).map (·.2)

/-- A range lies wholly inside a partition's allocation on an anvil. -/
def State.inAlloc (s : State) (p a base size : Nat) : Bool :=
  match s.allocOn p a with
  | some (b, n) => decide (b ≤ base) && decide (base + size ≤ b + n)
  | none => false

/-- Two ranges meet. -/
def overlaps (b1 n1 b2 n2 : Nat) : Bool := decide (b1 < b2 + n2) && decide (b2 < b1 + n1) && decide (0 < n1 ∧ 0 < n2)

/-- A range meets a DRAM port window of a partition. -/
def State.meetsWindow (s : State) (p a base size : Nat) : Bool :=
  (s.dramWindows p a).any (fun w => overlaps base size w.1 w.2)

/-! ## Snapshot copies (R214, R262) -/

/-- Reserve pages that snapshots may still take on an anvil. -/
def State.mayLend (s : State) (a : Nat) : Bool :=
  decide (s.reg .ddrReserveLent a 0 < 229376 - s.reg .ddrReserveRetired a 0)

/-- A page is marked for a partition's snapshot. -/
def Capture.marked (c : Capture) (a page : Nat) : Bool :=
  c.ranges.any (fun r => decide (r.1 = a ∧ r.2.1 ≤ page ∧ page < r.2.2)) && decide (Tab.get 0 c.copies [a, page] = 0) &&
    !Tab.get false c.gone [a, page]

/-- The copy of a page for a snapshot: bursts that read as uncorrectable are 0 in it (R272). -/
def Dram.copySnap (d : Dram) (a page dst : Nat) : Dram :=
  let d1 := d.copyPage a (d.lin a (page * 4096) / 4096) dst
  let sick := (List.range 64).filter (fun k => Tab.get false d1.poison [a, dst * 64 + k])
  { d1 with
    mem := Tab.keep (fun k => !(decide (k.getD 0 0 = a ∧ k.getD 1 0 / 4096 = dst) && sick.contains (k.getD 1 0 / 64 % 64))) d1.mem
    poison := Tab.keep (fun k => !decide (k.getD 0 0 = a ∧ k.getD 1 0 / 64 = dst)) d1.poison
    cowZero := Tab.keep (fun k => !decide (k.getD 0 0 = a ∧ k.getD 1 0 / 64 = page)) d1.cowZero }

/-- The first poisoned burst that the copy of a page for a snapshot would read, as (partition, address / 64): the read is an
uncorrectable data error of class 1, unless a thaw has decided it (R265, R271, R272). -/
def State.cowSick (s : State) (a addr : Nat) : Option (Nat × Nat) :=
  let page := addr / 4096
  if s.dram.poison = [] then none
  else (s.partitions.find? (fun p => (s.part p).cap.marked a page && s.mayLend a && (s.dram.freePage a none).isSome)).bind (fun p =>
    ((List.range 64).find? (fun k => Tab.get false s.dram.poison [a, s.dram.lin a (page * 4096) / 64 + k] &&
      !Tab.get false s.dram.cowZero [a, page * 64 + k])).map (fun k => (p, page * 64 + k)))

/-- Retirements or migrations of an anvil wait for a free reserve page (R262). -/
def State.noteReserve (s : State) (a : Nat) : State :=
  s.setFlag .ddrStatusReserveEmpty a 0 ((decide (Tab.get [] s.dram.waiting [a] ≠ []) && (s.dram.freePage a none).isNone) ||
    decide (Tab.get 0 s.dram.stalled [a] ≠ 0))

/-- Before a write reaches a marked page, the page is copied into the reserve, or lost to the snapshot. -/
def State.snapshotPage (a page : Nat) (s : State) (p : Nat) : State :=
  let c := (s.part p).cap
  if c.marked a page then
    match (if s.mayLend a then s.dram.freePage a none else none) with
    | some dst =>
      let s1 := ((((s.modDram (fun d => { d.copySnap a page dst with
          used := Tab.put false d.used [a, dst] true })).bump .ddrReserveLent a 0 1).setReg .ddrReserveFree a 0
          (s.reg .ddrReserveFree a 0 - 1)).bump .partCapDramCopied p 0 1).noteReserve a
      s1.modPart p (fun x => { x with cap := { x.cap with copies := Tab.put 0 x.cap.copies [a, page] (dst + 1) } })
    | none =>
      (s.bump .partCapDramLost p 0 1).modPart p (fun x => { x with cap := { x.cap with
        gone := Tab.put false x.cap.gone [a, page] true, incomplete := true } })
  else s

/-- Bytes put at an anvil DRAM byte address, where there are any. -/
def Dram.write (d : Dram) (a addr : Nat) (bs : List (Option Byte)) : Dram :=
  (bs.foldl (fun (x : Nat × Dram) b =>
    (x.1 + 1, match b with
      | some v => { x.2 with mem := Tab.put 0 x.2.mem [a, x.2.lin a x.1] v }
      | none => x.2)) (addr, d)).2

/-- Bytes written at an anvil DRAM byte address, with the snapshot copies their pages need. -/
def State.dramPut (s : State) (a addr : Nat) (bs : List (Option Byte)) : State :=
  let pages := (List.range ((addr + bs.length + 4095) / 4096 - addr / 4096)).map (fun k => addr / 4096 + k)
  let s1 := pages.foldl (fun s pg => s.partitions.foldl (State.snapshotPage a pg) s) s
  s1.modDram (fun d => d.write a addr bs)

/-- A long run written with full bursts, which replace the poison there (R265). -/
def State.dramPutRun (s : State) (a addr : Nat) (bs : Bytes) : State :=
  let whole := (List.range ((addr + bs.length) / 64 - (addr + 63) / 64)).map (fun k => (addr + 63) / 64 + k)
  (s.dramPut a addr (bs.map some)).modDram (fun d => if d.poison = [] then d else
    { d with poison := whole.foldl (fun t b => Tab.put false t [a, d.lin a (b * 64) / 64] false) d.poison })

/-! ## Marks, errors and retirement (R258 to R263) -/

/-- The device marked in a rank of a subchannel (R261). -/
def State.markOf (s : State) (a sub rank : Nat) : Option Nat :=
  if s.flag .ddrMarkValid a (2 * sub + rank) then some (s.reg .ddrMarkDevice a (2 * sub + rank)) else none

/-- How the read of a burst comes out (R258, R261). -/
inductive Decoded where
  /-- the data as written, with so many symbols corrected. -/
  | right (n : Nat)
  /-- another codeword, taken for the data, with so many symbols corrected. -/
  | other (n : Nat) (data : Bytes)
  /-- an error that the decoder notices and does not correct. -/
  | detected
deriving DecidableEq, Repr

/-- The symbols in error, each once, with what was added to it in all. -/
def netErrors (bad : List (Nat × Nat)) : List (Nat × Byte) :=
  ((List.range 80).map (fun j => (j, (bad.filter (fun e => e.1 = j)).foldl (fun x e => x ^^^ BitVec.ofNat 8 e.2) (0 : Byte)))).filter
    (fun e => decide (e.2 ≠ 0))

/-- The read of a burst decoded: `data` its 64 bytes as written, `bad` the symbols in error; symbol 5b + d belongs to device
d. In a rank with a mark the marked device's symbols are erasures, and no redundancy is left for the others (R261). Without
one, up to 8 bad symbols are corrected, 9 to 16 are detected unless the word lies within 8 symbols of another codeword, and
more lie outside the guarantee: `luck` says then whether the decoder notices, and `wild` what it delivers (R258). -/
def decodeBurst (mark : Option Nat) (data : Bytes) (bad : List (Nat × Nat)) (luck : Bool) (wild : Nat) : Decoded :=
  let errs := netErrors bad
  let n := errs.length
  let word := addAt (rsWord data) (errs.map (·.1)) (errs.map (·.2))
  match mark with
  | some d => if errs.all (fun e => e.1 % 5 = d) then .right 0 else .other 0 (rsData (rsFill d word))
  | none =>
    if n ≤ 8 then .right n
    else if n ≤ 16 then
      match rsDecode word with
      | some x => .other x.2 (rsData x.1)
      | none => .detected
    else if luck then .detected else .other 0 (toLE 64 wild)

/-- The devices whose symbols are bad, as a mask. -/
def devMask (bad : List (Nat × Nat)) : Nat := (netErrors bad).foldl (fun m e => setBit m (e.1 % 5) true) 0

/-- A page joins those due to be retired (R263). -/
def State.dueRetire (s : State) (a page : Nat) : State :=
  s.modDram (fun d => let l := Tab.get [] d.waiting [a]
    { d with waiting := Tab.put [] d.waiting [a] (if l.contains page then l else l ++ [page]) }) |>.noteReserve a

/-- The page of a linear address joins those due to be retired, if it serves one. -/
def State.dueOf (s : State) (a l : Nat) : State :=
  match s.dram.pageOf a (l / 4096) with
  | some page => s.dueRetire a page
  | none => s

/-- A corrected burst is counted, by device, and against its page (R258, R263). -/
def State.countCorrected (s : State) (a l : Nat) (bad : List (Nat × Nat)) : State :=
  let sub := linSub l
  let errs := netErrors bad
  let s1 := s.bump .ddrErrCorrCount a sub 1
  let s2 := (List.range 5).foldl (fun s d =>
    s.bump .ddrErrSymCount a (10 * sub + 5 * linRank l + d) (errs.filter (fun e => e.1 % 5 = d)).length) s1
  let page := s.dram.pageOf a (l / 4096)
  let s3 := s2.dramEvent a sub 7 (linRank l) (linBank l) (some (page.elim l (fun p => 4096 * p + l % 4096)))
  match page with
  | none => s3
  | some pg =>
    let times := (Tab.get [] s.dram.corr [a, pg]).filter (fun t => decide (s.now < t + day)) ++ [s.now]
    let s4 := s3.modDram (fun d => { d with corr := Tab.put [] d.corr [a, pg] times })
    if 5 ≤ errs.length ∨ 8 ≤ times.length then s4.dueRetire a pg else s4

/-- A burst holds the poison pattern: data 0 with every check byte inverted (R265). -/
def Dram.poisonBurst (d : Dram) (a b : Nat) : Dram :=
  { d with
    mem := Tab.keep (fun k => !decide (k.getD 0 0 = a ∧ k.getD 1 0 / 64 = b)) d.mem
    poison := Tab.put false d.poison [a, b] true }

/-- The 80 bytes that a burst holds in its devices (R256, R265). -/
def Dram.word (d : Dram) (a b : Nat) : List Byte :=
  if Tab.get false d.poison [a, b] then rsPoison else rsWord (Tab.getRun 0 d.mem [a] (64 * b) 64)

/-- What the read of a burst comes to when it may be read twice (R258): the decoded data (none: as written) with the symbols
corrected, or nothing where a diagnosis must decide. A correction has been counted. -/
def State.readBurst (s : State) (a l : Nat) (bad second : List (Nat × Nat)) : State × Option (Option Bytes × Nat) :=
  let b := l / 64
  let data := Tab.getRun 0 s.dram.mem [a] (64 * b) 64
  let mark := s.markOf a (linSub l) (linRank l)
  let f := s.takeBit
  let g := f.2.takeNat
  let open_ := decide (16 < (netErrors bad).length) || decide (16 < (netErrors second).length)
  let s0 := if open_ then g.2 else s
  let count := fun (n : Nat) (errs : List (Nat × Nat)) => if n = 0 then s0 else s0.countCorrected a l errs
  match decodeBurst mark data bad f.1 g.1 with
  | .right n => (count n bad, some (none, n))
  | .other n bs => (count n bad, some (some bs, n))
  | .detected =>
    match decodeBurst mark data second f.1 g.1 with
    | .right n => (if n = 0 then s0.bump .ddrErrCorrCount a (linSub l) 1 else count n second, some (none, n))
    | .other n bs => (if n = 0 then s0.bump .ddrErrCorrCount a (linSub l) 1 else count n second, some (some bs, n))
    | .detected => (s0, none)

/-- A diagnosis of a rank begins (R260). -/
def State.diagnose (s : State) (a l : Nat) (d : DDiag) : State :=
  s.modDram (fun x => { x with diag := Tab.put none x.diag [a, linSub l, linRank l] (some d) })

/-- A page is retired: copied into a free reserve page and remapped (R263). `copy` is false for an unallocated page that
migrates (R264). A page retired before is remapped and counts once. -/
def State.retire (s : State) (a page : Nat) (rank : Option Nat) (copy : Bool) : State :=
  match s.dram.freePage a rank with
  | none => s
  | some dst =>
    let again := Tab.get false s.dram.retired [a, page]
    let s1 := s.modDram (fun d =>
      let d1 := if copy then d.copyPage a (d.lin a (page * 4096) / 4096) dst else d
      { d1 with
        remap := Tab.put 0 d1.remap [a, page] (dst + 1)
        used := Tab.put false d1.used [a, dst] true
        retired := Tab.put false d1.retired [a, page] true
        corr := Tab.put [] d1.corr [a, page] []
        waiting := Tab.modify [] d1.waiting [a] (fun l => l.filter (fun x => decide (x ≠ page))) })
    let n := s1.reg .ddrReserveRetired a 0 + (if again then 0 else 1)
    let s2 := s1.setRecord .ddrReserveRetired a 0 n
    let s3 := (s2.setRecord .ddrReserveFree a 0 (262142 - n)).setReg .ddrReserveFree a 0 (s.reg .ddrReserveFree a 0 - 1)
    (s3.noteReserve a).auditAction .ok 0xFFFF (Fld.addr .ddrReserveRetired a 0)

/-- Pages x of [0, n) whose rank bit is r. -/
def rankPages (r n : Nat) : Nat := n / 128 * 64 + (if r = 0 then min 64 (n % 128) else n % 128 - 64)

/-- The allocated ranges of an anvil: the partitions' allocations, the trace buffer and the audit log (R201, R244, R327). -/
def State.allocated (s : State) (a : Nat) : List (Nat × Nat) :=
  (s.partitions.flatMap (fun p => (s.part p).allocs.filterMap (fun e => if e.1 = a then some e.2 else none))) ++
    (if s.flag .traceBufValid 0 0 ∧ s.reg .traceBufAnvil 0 0 = a then
      [(s.reg .traceBufBaseLo 0 0 * 2 ^ 21 + s.reg .traceBufBaseHi 0 0 * 2 ^ 32, 2 ^ s.reg .traceBufSizeLog2 0 0)] else []) ++
    (if a < 2 then [(Config.auditBase, 4194304)] else [])

/-- DDR.MARK.LEFT: the allocated pages of a marked rank pair not yet migrated (R264). -/
def State.markLeft (s : State) (a rank : Nat) : Nat :=
  (s.allocated a).foldl (fun n r =>
    let lo := r.1 / 4096
    let hi := (r.1 + r.2 + 4095) / 4096
    let moved := s.dram.remap.filter (fun e => decide (e.1.getD 0 0 = a ∧ lo ≤ e.1.getD 1 0 ∧ e.1.getD 1 0 < hi))
    let own := (moved.filter (fun e => decide (linRank (e.1.getD 1 0 * 4096) = rank))).length
    let served := (moved.filter (fun e => decide (linRank ((e.2 - 1) * 4096) = rank))).length
    n + (rankPages rank hi - rankPages rank lo) - own + served) 0

/-- The first page of a range that a rank serves: a page there, or one retired into a reserve page there. -/
def State.firstPage (s : State) (a rank : Nat) (r : Nat × Nat) : Option Nat :=
  let lo := r.1 / 4096
  let hi := (r.1 + r.2 + 4095) / 4096
  ((List.range (min (hi - lo) (2 * s.dram.remap.length + 130))).map (fun k => lo + k)).find? (fun pg =>
    decide (linRank (s.dram.lin a (pg * 4096)) = rank))

/-- The lowest of the pages that ranges offer. -/
def State.lowestPage (s : State) (a rank : Nat) (rs : List (Nat × Nat)) : Option Nat :=
  (rs.filterMap (s.firstPage a rank)).foldl (fun m pg => match m with | none => some pg | some x => some (min x pg)) none

/-- The rings and areas of the partitions whose home anvil is `a` (R264, second group). -/
def State.ringRanges (s : State) (a : Nat) : List (Nat × Nat) :=
  (s.partitions.filter (fun p => decide (s.homeAnvil p = a))).flatMap (fun p =>
    [(s.reg .partCmpFmapBaseLo p 0 * 32 + s.reg .partCmpFmapBaseHi p 0 * 2 ^ 32, 32 * 2 ^ s.reg .partCmpFmapSizeLog2 p 0),
     (s.reg .partAcqBaseLo p 0 * 2 ^ 16 + s.reg .partAcqBaseHi p 0 * 2 ^ 32, 2 ^ s.reg .partAcqRingSizeLog2 p 0),
     (s.reg .partCapBaseLo p 0 * 2 ^ 20 + s.reg .partCapBaseHi p 0 * 2 ^ 32, s.reg .partCapSizeMib p 0 * 2 ^ 20)].filter
      (fun r => s.inAlloc p a r.1 r.2))

/-- The next page to migrate from a rank pair, and whether it is copied (R264). -/
def State.nextMigrate (s : State) (a rank : Nat) : Option (Nat × Bool) :=
  let g1 := s.partitions.flatMap (fun p => s.dramWindows p a)
  let g2 := s.ringRanges a
  let g3 := if s.flag .traceBufValid 0 0 ∧ s.reg .traceBufAnvil 0 0 = a then
    [(s.reg .traceBufBaseLo 0 0 * 2 ^ 21 + s.reg .traceBufBaseHi 0 0 * 2 ^ 32, 2 ^ s.reg .traceBufSizeLog2 0 0)] else []
  match [g1, g2, g3, s.allocated a].findSome? (s.lowestPage a rank) with
  | some pg => some (pg, true)
  | none => (s.firstPage a rank (0, Config.dramUsable)).map (fun pg => (pg, false))

/-- The rank pair a migration works on: the lowest set bit of the anvil's mask. -/
def State.migratingRank (s : State) (a : Nat) : Option Nat :=
  (List.range 2).find? (fun r => bit (Tab.get 0 s.dram.migrate [a]) r)

/-- Migration of a rank pair ends; pages left are a service condition (R264). -/
def State.migrateEnd (s : State) (a rank : Nat) : State :=
  let m := setBit (Tab.get 0 s.dram.migrate [a]) rank false
  let s1 := (s.modDram (fun d => { d with migrate := Tab.put 0 d.migrate [a] m })).setFlag .ddrStatusMigrating a 0
    (decide (m ≠ 0))
  if 0 < s1.markLeft a rank then s1.condition 5 else s1

/-- A migration without a free page in the other rank pair stops, and waits for one (R262, R264). -/
def State.migrateStall (s : State) (a rank : Nat) : State :=
  ((s.migrateEnd a rank).modDram (fun d =>
    { d with stalled := Tab.put 0 d.stalled [a] (setBit (Tab.get 0 d.stalled [a]) rank true) })).noteReserve a

/-- Reserve pages of an anvil have become free: the migrations that waited for one go on (R262). -/
def State.reserveFreed (s : State) (a : Nat) : State :=
  let m := Tab.get 0 s.dram.stalled [a]
  let on := (List.range 2).filter (fun r => bit m r && (s.dram.freePage a (some (1 - r))).isSome)
  let s1 := on.foldl (fun s r => s.modDram (fun d => { d with
    stalled := Tab.put 0 d.stalled [a] (setBit (Tab.get 0 d.stalled [a]) r false)
    migrate := Tab.put 0 d.migrate [a] (setBit (Tab.get 0 d.migrate [a]) r true) })) s
  (if on = [] then s1 else s1.setFlag .ddrStatusMigrating a 0 true).noteReserve a

/-- A device is marked: MARK, the record, the audit entry, the service condition, and the migration of its rank pair
(R261, R264). -/
def State.setMark (s : State) (a sub rank device : Nat) : State :=
  let s1 := ((s.setRecord .ddrMarkValid a (2 * sub + rank) 1).setRecord .ddrMarkDevice a (2 * sub + rank) device).setRecord
    .ddrStatusMarkActive a 0 1
  let s2 := ((s1.auditAction .ok 0xFFFF (Fld.addr .ddrMarkValid a (2 * sub + rank))).condition 4).dramEvent a sub 8 rank 0
    none
  (s2.modDram (fun d => { d with migrate := Tab.put 0 d.migrate [a] (setBit (Tab.get 0 d.migrate [a]) rank true) })).setFlag
    .ddrStatusMigrating a 0 true

/-! ## Requests (R266 to R268) -/

/-- The requests of an anvil, in order of arrival. -/
def State.reqs (s : State) (a : Nat) : List DReq := Tab.get [] s.dram.reqs [a]

/-- The requests of an anvil set. -/
def State.setReqs (s : State) (a : Nat) (l : List DReq) : State :=
  s.modDram (fun d => { d with reqs := Tab.put [] d.reqs [a] l })

/-- The linear address of a request; that of a scrub is one already. -/
def State.reqLin (s : State) (a : Nat) (r : DReq) : Nat := if r.src = .scrub then r.addr else s.dram.lin a r.addr

/-- The subchannel of a request. -/
def State.reqSub (s : State) (a : Nat) (r : DReq) : Nat := linSub (s.reqLin a r)

/-- A request slot is free for a class (R268): 16 for class 0 alone, 4 for class 3 alone, 44 for any. -/
def slotFree (held : List DReq) (cls : Nat) : Bool :=
  let n0 := (held.filter (fun r => decide (r.cls = 0))).length
  let n3 := (held.filter (fun r => decide (r.cls = 3))).length
  let n12 := held.length - n0 - n3
  decide ((n0 - 16) + n12 + (n3 - 4) < 44) || (decide (cls = 0) && decide (n0 < 16)) || (decide (cls = 3) && decide (n3 < 4))

/-- The requests that hold a slot of a subchannel. -/
def State.slotHolders (s : State) (a sub : Nat) : List DReq :=
  (s.reqs a).filter (fun r => r.slot && decide (s.reqSub a r = sub))

/-- The bank key of a request: rank × 32 + bank group × 4 + bank. -/
def linBankKey (l : Nat) : Nat := 32 * linRank l + linBank l

/-- The in-order rule on arrival (R267): a read behind a queued write to its row puts the bank into in-order mode. -/
def State.enterInOrder (s : State) (a : Nat) (r : DReq) : State :=
  let l := s.reqLin a r
  let same := fun (x : DReq) => decide (linSub (s.reqLin a x) = linSub l ∧ linBankKey (s.reqLin a x) = linBankKey l)
  let k : Key := [a, linSub l, linBankKey l]
  if !r.write ∧ Tab.get [] s.dram.inOrder k = [] ∧
      (s.reqs a).any (fun x => x.write && same x && decide (linRow (s.reqLin a x) = linRow l)) then
    ((s.modDram (fun d => { d with inOrder := Tab.put [] d.inOrder k (((s.reqs a).filter same).map (·.id) ++ [r.id]) })).bump
      .ddrOrdInorder a (linSub l) 1).dramEvent a (linSub l) 4 (linRank l) (linBank l) (some r.addr)
  else s

/-- The source of a request as the controller's count of refusals tells it apart. -/
def DSrc.head (x : DSrc) : DSrc :=
  match x with
  | .job id _ => .job id 0
  | y => y

/-- The most slots in use are noted (R275). -/
def State.notePeak (s : State) (a sub : Nat) : State :=
  s.setReg .ddrSlotPeak a sub (max (s.slotHolders a sub).length (s.reg .ddrSlotPeak a sub))

/-- A request has found no slot: counted once for each request (R268). -/
def State.noteFull (s : State) (a l : Nat) (src : DSrc) : State :=
  let k := src.head
  if (Tab.get [] s.dram.noSlot [a, linSub l]).contains k then s
  else ((s.modDram (fun d => { d with noSlot := Tab.put [] d.noSlot [a, linSub l] (Tab.get [] d.noSlot [a, linSub l] ++ [k]) })).bump
    .ddrSlotFullCount a (linSub l) 1).dramEvent a (linSub l) 6 (linRank l) (linBank l) none

/-- A request reaches the controller. A frozen controller takes none; a class-0 request always enters the input FIFO, one of
another class needs a slot (R268, R271). The answer is nothing for a request not taken, else whether it holds a slot. -/
def State.submit (s : State) (a : Nat) (r : DReq) : Option Bool × State :=
  let l := s.reqLin a r
  let ok := slotFree (s.slotHolders a (linSub l)) r.cls
  if s.flag .ddrStatusFrozen a 0 then (none, s)
  else
    let s0 := if ok then s else s.noteFull a l r.src
    if !ok ∧ r.cls ≠ 0 then (none, s0)
    else
      let s1 := (s0.modDram (fun d => { d with
        noSlot := Tab.put [] d.noSlot [a, linSub l] ((Tab.get [] d.noSlot [a, linSub l]).filter (fun x => decide (x ≠ r.src.head))) })).enterInOrder a r
      (some ok, (s1.setReqs a (s1.reqs a ++ [{ r with slot := ok }])).notePeak a (linSub l))

/-- A number for a request. -/
def State.freshId (s : State) : Nat × State := (s.fab.nextId, { s with fab := { s.fab with nextId := s.fab.nextId + 1 } })

/-- Buffered fail records go to the controller in order (R176): one at a time, while it accepts them, with a copy to each
fail queue (R312). -/
def State.pushFails (fuel p : Nat) (s : State) : State :=
  match fuel, (s.part p).failBuf with
  | 0, _ => s
  | _, [] => s
  | n + 1, r :: rest =>
    let size := 2 ^ s.reg .partCmpFmapSizeLog2 p 0
    let wr := s.reg .partCmpFmapWr p 0
    let fill := (wr + 2 ^ 32 - s.reg .partCmpFmapRd p 0) % 2 ^ 32
    let pop := fun (s : State) => s.modPart p (fun x => { x with failBuf := rest })
    if s.flag .partCmpFmapMode p 0 ∧ size ≤ fill then
      State.pushFails n p (((pop s).setReg .partCmpStatusFmapFull p 0 1).bump .partCmpFmapDropCount p 0 1)
    else
      let base := s.reg .partCmpFmapBaseLo p 0 * 32 + s.reg .partCmpFmapBaseHi p 0 * 2 ^ 32
      let f := s.freshId
      let x := f.2.submit (s.homeAnvil p) ⟨f.1, 1, p, base + 32 * (wr % size), 32, true, r.map some, .fmap p, false, false⟩
      if x.1.isSome then State.pushFails n p (((pop x.2).setReg .partCmpFmapWr p 0 (wr + 1)).qOfferAll p QT.fail r) else x.2

/-- Buffered acquisition records go to the controller (R229), split at bursts. -/
def State.pushAcq (fuel p : Nat) (s : State) : State :=
  match fuel, (s.part p).acq.buf with
  | 0, _ => s
  | _, [] => s
  | n + 1, (addr, bs) :: rest =>
    let k := min bs.length (64 - addr % 64)
    let f := s.freshId
    let x := f.2.submit (s.homeAnvil p) ⟨f.1, 1, p, addr, k, true, (bs.take k).map some, .acq p, false, false⟩
    if x.1.isSome then
      let left := bs.drop k
      State.pushAcq n p (x.2.modPart p (fun y => { y with acq := { y.acq with
        buf := if left = [] then rest else (addr + k, left) :: rest } }))
    else x.2

/-- The next parts of an access of class 2 go to the controller, as far as it takes them. -/
def State.pushJob (fuel id : Nat) (s : State) : State :=
  match fuel, s.dram.jobs.find? (fun j => decide (j.id = id)) with
  | 0, _ => s
  | _, none => s
  | n + 1, some j =>
    match j.todo with
    | [] => s
    | q :: rest =>
      let f := s.freshId
      let x := f.2.submit j.anvil ⟨f.1, 2, j.part, q.addr, q.len, q.data.isSome, q.data.getD [], .job id q.off, false, false⟩
      if x.1.isSome then
        State.pushJob n id (x.2.modDram (fun d => { d with jobs := d.jobs.map (fun y => if y.id = id then { y with todo := rest } else y) }))
      else x.2

/-- The buffers of every partition and the accesses of class 2 send on what the controllers take. -/
def State.pushAll (s : State) : State :=
  let s1 := s.partitions.foldl (fun s p =>
    let x := s.part p
    State.pushAcq (x.acq.buf.length * 40 + 1) p (State.pushFails (x.failBuf.length + 1) p s)) s
  s1.dram.jobs.foldl (fun s j => State.pushJob (j.todo.length + 1) j.id s) s1

/-- The parts of a run of bytes: one for each burst that it touches. -/
def piecesOf (off addr n : Nat) (data : Option (List (Option Byte))) : List DPiece :=
  (List.range ((addr + n + 63) / 64 - addr / 64)).map (fun k =>
    let lo := max addr ((addr / 64 + k) * 64)
    let hi := min (addr + n) ((addr / 64 + k) * 64 + 64)
    ⟨off + (lo - addr), lo, hi - lo, data.map (fun l => (l.drop (lo - addr)).take (hi - lo))⟩)

/-- An access of class 2 begins. -/
def State.jobStart (s : State) (who : DmaFor) (a part size : Nat) (todo : List DPiece) : State :=
  let f := s.freshId
  let s1 := f.2.modDram (fun d => { d with jobs := d.jobs ++ [⟨f.1, who, a, part, size, todo, zeros size, todo.length, false⟩] })
  State.pushJob (todo.length + 1) f.1 s1

/-- A load waits at a frozen controller (R271). -/
def State.jobWait (s : State) (r : CmdRef) (a p : Nat) : State :=
  if s.dram.jobs.any (fun j => decide (j.who = .cmd r)) then s
  else
    let f := s.freshId
    f.2.modDram (fun d => { d with jobs := d.jobs ++ [⟨f.1, .cmd r, a, p, 0, [], [], 1, false⟩] })

/-- Nothing of a command's access of class 2 is kept; parts of it that a controller has accepted are served all the same. -/
def State.dramForget (s : State) (r : CmdRef) : State :=
  s.modDram (fun d => { d with jobs := d.jobs.filter (fun j => decide (j.who ≠ .cmd r)) })

/-- A command's access of class 2: it begins, waits, or is done, with the bytes read and whether a burst of it was
uncorrectable. -/
def State.dramAccess (s : State) (r : CmdRef) (a part size : Nat) (todo : List DPiece) : State × Option (Bytes × Bool) :=
  match s.dram.jobs.find? (fun j => decide (j.who = .cmd r)) with
  | some j => if j.left = 0 then (s.dramForget r, some (j.got.take size, j.bad)) else (s, none)
  | none => if todo = [] then (s, some (zeros size, false)) else (s.jobStart (.cmd r) a part size todo, none)

/-- Long streams of class 1 and 2 run in one step of the model: while the controller serves everything and holds no request for
their range. -/
def State.streamHeld (s : State) (a base size : Nat) : Bool :=
  s.flag .ddrStatusFrozen a 0 || s.dram.refresh.any (fun e => decide (e.1.getD 0 0 = a)) ||
    s.dram.diag.any (fun e => decide (e.1.getD 0 0 = a)) ||
    (s.reqs a).any (fun r => decide (r.src ≠ .scrub) && overlaps base size r.addr r.len)

/-! ## Freeze (R271, R143) -/

/-- Every partition with a DRAM-bound port on a frozen controller quenches (R143). -/
def State.freezeQuench (s : State) (a : Nat) : State :=
  (s.partitions.filter (fun p => decide (s.dramPorts p a ≠ []))).foldl (fun s p => s.assertFreeze p a) s

/-- The controller freezes: the freeze record, the audit entry, and the quench. `l` is the failing burst's linear address. -/
def State.dramFreeze (s : State) (a kind : Nat) (req : Option Nat) (l0 sub cls source mask : Nat) (snap : Option Nat) : State :=
  let l := l0 / 64 * 64
  let set := fun (s : State) (f : Fld) v => s.setReg f a 0 v
  let t := s.ctrNs a
  let s1 := [(Fld.ddrStatusFrozen, 1), (.ddrFrzClass, cls), (.ddrFrzKind, kind), (.ddrFrzRow, linRow l),
    (.ddrFrzBurst, bits l 14 9), (.ddrFrzBank, linBank l), (.ddrFrzRank, linRank l), (.ddrFrzSubch, sub),
    (.ddrFrzAddrLo, l % 2 ^ 32), (.ddrFrzAddrHi, l / 2 ^ 32), (.ddrFrzSource, source), (.ddrFrzDevMask, mask),
    (.ddrFrzTimeLo, t % 2 ^ 32), (.ddrFrzTimeHi, t / 2 ^ 32 % 2 ^ 32)].foldl (fun s e => set s e.1 e.2) s
  let s2 := s1.modDram (fun d => { d with frozen := Tab.put none d.frozen [a] (some ⟨kind, req, l / 64, sub, linRank l, t, snap⟩) })
  ((s2.auditAction .dramFrozen 0xFFFF (Fld.addr .ddrFrzKind a 0)).dramEvent a sub 9 (linRank l) (linBank l) none).freezeQuench a

/-- A rank leaves power-down (R270). -/
def State.wakeRank (s : State) (a sub rank : Nat) : State :=
  if Tab.get false s.dram.pdown [a, sub, rank] then
    (s.modDram (fun d => { d with pdown := Tab.put false d.pdown [a, sub, rank] false })).dramEvent a sub 0xC rank 0 none
  else s

/-- A subchannel whose anvil has power. -/
def State.subOn (s : State) (a sub : Nat) : Bool := s.anvilOn a && decide (sub < 2)

/-- PHY training is lost: a command error (R271). -/
def State.phyLoss (s : State) (a sub : Nat) : State :=
  if !s.subOn a sub ∨ s.flag .ddrStatusFrozen a 0 then s else s.dramFreeze a 2 none (64 * sub) sub 3 0x80 0 none

/-- PHY_TRAINING_LOSS (R271). -/
def execPhyTrainingLoss (a sub : Nat) (s : State) : Host.Outcome State Fault Refusal := .next (s.phyLoss a sub)

/-- The diagnosis of a marked rank, every 10 ms: another failing device freezes the controller (R261). -/
def State.rediagnosis (s : State) (a sub rank failing : Nat) : State :=
  match s.markOf a sub rank with
  | none => s
  | some d =>
    if s.flag .ddrStatusFrozen a 0 ∨ setBit failing d false % 32 = 0 then s
    else s.dramFreeze a 3 none (2 ^ 18 * rank + 64 * sub) sub 3 0x80 failing none

/-- MARK_REDIAGNOSIS (R261). -/
def execMarkRediagnosis (a sub rank failing : Nat) (s : State) : Host.Outcome State Fault Refusal :=
  .next (s.rediagnosis a sub rank failing)

/-- AGE_PROMOTION: a request of class 1 to 3 that has waited AGE_NS is ordered with class 0 (R266). -/
def State.promote (s : State) (a id : Nat) : State :=
  match (s.reqs a).find? (fun r => r.id = id) with
  | none => s
  | some r =>
    if r.cls = 0 ∨ r.promoted ∨ s.reg .ddrCfgAgeNs a 0 = 0 then s
    else
      let l := s.reqLin a r
      ((s.setReqs a ((s.reqs a).map (fun x => if x.id = id then { x with promoted := true } else x))).bump .ddrOrdPromoted
        a (linSub l) 1).dramEvent a (linSub l) 3 (linRank l) (linBank l) (some r.addr)

/-- AGE_PROMOTION (R266). -/
def execAgePromotion (a id : Nat) (s : State) : Host.Outcome State Fault Refusal := .next (s.promote a id)

/-! ## Refresh and power-down (R269, R270) -/

/-- A refresh command is the DRAM refresh window: boundary fields of the DDR block commit (R13, R269). -/
def State.refreshWindow (s : State) (a : Nat) : State :=
  s.commit (fun k => decide (blkOf (k.getD 0 0) = .ddr ∧ k.getD 1 0 = a))

/-- A refresh closes the rows of the banks it covers: those of a bank number, or all. -/
def State.closeRows (s : State) (a sub : Nat) (bank : Option Nat) : State :=
  s.modDram (fun d => { d with openRow := Tab.keep (fun k => !(decide (k.getD 0 0 = a ∧ k.getD 1 0 = sub) &&
    bank.all (fun b => decide (k.getD 2 0 % 4 = b)))) d.openRow })

/-- The ranks of a subchannel awake. -/
def State.wakeRanks (s : State) (a sub : Nat) : State :=
  (s.wakeRank a sub 0).wakeRank a sub 1

/-- SAME_BANK_REFRESH: a hidden refresh of a bank number for which no class-0 request waits. -/
def State.sameBank (s : State) (a sub bank0 : Nat) : State :=
  let bank := bank0 % 4
  if !s.subOn a sub ∨ Tab.get 0 s.dram.refresh [a, sub] ≠ 0 ∨
      (s.reqs a).any (fun r => decide (r.cls = 0 ∧ s.reqSub a r = sub ∧ bits (s.reqLin a r) 17 16 = bank)) then s
  else
    ((((s.modDram (fun d => { d with refresh := Tab.put 0 d.refresh [a, sub] (1 + bank) })).wakeRanks a sub).closeRows a sub (some bank) |>.bump
      .ddrRefHidden a sub 1).dramEvent a sub 1 0 bank none).refreshWindow a

/-- SAME_BANK_REFRESH (R269). -/
def execSameBankRefresh (a sub bank : Nat) (s : State) : Host.Outcome State Fault Refusal := .next (s.sameBank a sub bank)

/-- The horizon step of a partition, and where its freeze for the horizon lands: before the next horizon step. -/
def State.nextHorizon (s : State) (p : Nat) : Nat × Nat :=
  let k := s.reg .partMemHzStep p 0
  if s.pos p ≤ k then (s.cycle p, k) else (s.cycle p + 1, k)

/-- ALL_BANK_REFRESH: announced, so each partition with a DRAM-bound port on the anvil quenches (R140). -/
def State.allBank (s : State) (a sub : Nat) : State :=
  if !s.subOn a sub ∨ Tab.get 0 s.dram.refresh [a, sub] ≠ 0 then s
  else
    let s0 := ((((s.modDram (fun d => { d with refresh := Tab.put 0 d.refresh [a, sub] 255 })).wakeRanks a sub).closeRows a sub none |>.bump
      .ddrRefForced a sub 1).dramEvent a sub 1 0 0 none).refreshWindow a
    let late := (s.reqs a).filterMap (fun r => match r.src with
      | .port id => if s.reqSub a r = sub then some id else none
      | _ => none)
    let s1 := { s0 with fab := { s0.fab with due := s0.fab.due.map (fun (d : DueRead) =>
      if late.contains d.id then { d with refreshed := true } else d) } }
    (s1.partitions.filter (fun p => decide (s1.dramPorts p a ≠ []))).foldl (fun s p =>
      (s.assertCause p Cause.refresh (s.nextHorizon p))) s1

/-- ALL_BANK_REFRESH (R269). -/
def execAllBankRefresh (a sub : Nat) (s : State) : Host.Outcome State Fault Refusal := .next (s.allBank a sub)

/-- RANK_POWER_DOWN: a rank without requests enters power-down. -/
def State.powerDown (s : State) (a sub rank : Nat) : State :=
  if !s.subOn a sub ∨ 2 ≤ rank ∨ s.reg .ddrCfgPdNs a 0 = 0 ∨ Tab.get false s.dram.pdown [a, sub, rank] ∨ Tab.get 0 s.dram.refresh [a, sub] ≠ 0 ∨
      (s.reqs a).any (fun r => decide (linSub (s.reqLin a r) = sub ∧ linRank (s.reqLin a r) = rank)) then s
  else
    ((s.modDram (fun d => { d with pdown := Tab.put false d.pdown [a, sub, rank] true })).bump .ddrPdEntries a sub 1).dramEvent
      a sub 0xB rank 0 none

/-- RANK_POWER_DOWN (R270). -/
def execRankPowerDown (a sub rank : Nat) (s : State) : Host.Outcome State Fault Refusal := .next (s.powerDown a sub rank)

end Sys2Proof.Machine
end

