-- ==== Sys2Proof/Machine/Memory.lean ====
section
/-! DEFINITION. Emulated memories (chapter 04): the memory ports, the scratchpad banks, DMA and the capture's copier on
them, and the DRAM-mapped memories with their horizon, slots and returns. -/

namespace Sys2Proof.Machine

/-! ## Bindings (R116 to R123) -/

/-- A port's binding as its registers give it. -/
structure Binding where
  target : Nat
  lport : Nat
  dp : Bool
  shift : Nat
  sizeLog2 : Nat
  rdPad : Nat
  width : Nat
  sp : Nat
  dram : Nat
deriving DecidableEq, Repr

/-- The binding of port `j` of a hearth. -/
def State.binding (s : State) (a h j : Nat) : Binding :=
  let i := hInst a h
  ⟨s.reg .hearthPortcfgTarget i j, s.reg .hearthPortcfgLport i j, s.flag .hearthPortcfgDp i j, s.reg .hearthPortcfgShift i j,
    s.reg .hearthPortcfgSizeLog2 i j, s.reg .hearthPortcfgRdPad i j, s.reg .hearthPortcfgWidthM1 i j + 1,
    s.reg .hearthPortbaseSp i j, s.portDramBase a h j⟩

/-- Bytes of an access (R117). -/
def Binding.bytes (b : Binding) : Nat := (b.width + 7) / 8

/-- Byte offset of an access (R117). -/
def Binding.off (b : Binding) (index : Nat) : Nat := index * 2 ^ b.shift % 2 ^ b.sizeLog2

/-- A dual-port view address as a physical one (R122). -/
def dualAddr (v : Nat) : Nat := v / 8 * 16 + v % 8

/-- Physical byte address, in the bank, of byte `k` of an access (R117, R122). -/
def Binding.phys (b : Binding) (index k : Nat) : Nat :=
  let x := b.sp + (b.off index + k) % 2 ^ b.sizeLog2
  if b.dp then dualAddr x else x

/-- The words an access touches, without repeats. -/
def Binding.words (b : Binding) (index : Nat) : List Nat :=
  ((List.range b.bytes).map (fun k => b.phys index k / 8)).dedup

/-- A group of bits loaded into a port's address or data register; bits beyond its width are discarded (R63). -/
def State.loadPort (s : State) (a h : Nat) (data : Bool) (port g val : Nat) : State :=
  let b := s.binding a h port
  let w := if data then b.width else b.sizeLog2 - b.shift
  let f := s.fab
  if data then
    { s with fab := { f with pdata := Tab.modify 0 f.pdata [a, h, port] (fun x => setBits x (6 * g + 5) (6 * g) val % 2 ^ w) } }
  else
    { s with fab := { f with paddr := Tab.modify 0 f.paddr [a, h, port] (fun x => setBits x (6 * g + 5) (6 * g) val % 2 ^ w) } }

/-! ## Banks, copy-on-write and the copier (R121, R129, R213) -/

/-- The bytes of a bank. -/
def Fab.bankBytes (f : Fab) (a h b addr n : Nat) : Bytes := Tab.getRun 0 f.banks [a, h, b] addr n

/-- The partition that captures a hearth's banks now: state DRAINING with SP. -/
def State.captures (s : State) (p : Nat) : Bool :=
  decide (s.reg .partCapStatusState p 0 = 2) && bit (s.part p).cap.flags 0

/-- A group has been taken (R213). -/
def Capture.has (c : Capture) (a h b g : Nat) : Bool :=
  decide (g < Tab.get 0 c.next [a, h, b]) || Tab.get false c.taken [a, h, b, g]

/-- A group's bytes put into the capture. -/
def Capture.save (c : Capture) (f : Fab) (a h b g : Nat) : Capture :=
  { c with sp := Tab.putRun 0 [a, h, b] (32 * g) (f.bankBytes a h b (32 * g) 32) c.sp }

/-- The state of a bank word's check bits. -/
def Fab.wordFlaw (f : Fab) (a h b w : Nat) : Nat := flawOf f .bank [a, h, b, w]

/-- A single-bit error of a scratchpad word corrected (R132). -/
def State.bankCorr (s : State) (a h b : Nat) : State :=
  (s.bump .hearthBankCorrCount (hInst a h) b 1).setReg .hearthBankStatusCorr (hInst a h) b 1

/-- The words of a bank that DMA or the copier reads: those with a single-bit error are corrected and counted (R132). -/
def State.bankReads (s : State) (a h b : Nat) (ws : List Nat) : State :=
  ws.foldl (fun s w => if s.fab.wordFlaw a h b w = 1 then s.bankCorr a h b else s) s

/-- The four words of a group. -/
def groupWords (g : Nat) : List Nat := [4 * g, 4 * g + 1, 4 * g + 2, 4 * g + 3]

/-- A write is about to reach a group (R213): the copier takes it, where no step executes; otherwise its contents go into
the copy-on-write buffer, or the group is lost. -/
def State.cowGroup (s0 : State) (a h b g : Nat) : State :=
  match s0.hearthPart a h with
  | none => s0
  | some p =>
    let c := (s0.part p).cap
    let s := if !s0.captures p ∨ c.has a h b g then s0 else s0.bankReads a h b (groupWords g)
    if !s0.captures p ∨ c.has a h b g then s0
    else if !s.executing p ∨ s.frozen p then
      s.modPart p (fun x => { x with cap := { (c.save s.fab a h b g) with taken := Tab.put false c.taken [a, h, b, g] true } })
    else if Tab.get 0 c.cow [a, h] < 512 then
      s.modPart p (fun x => { x with cap := { (c.save s.fab a h b g) with
        taken := Tab.put false c.taken [a, h, b, g] true, cow := Tab.modify 0 c.cow [a, h] (· + 1) } })
    else
      (s.bump .partCapSpLost p 0 1).modPart p (fun x => { x with cap := { c with
        taken := Tab.put false c.taken [a, h, b, g] true, lost := Tab.put false c.lost [a, h, b, g] true
        incomplete := true } })

/-- The next group of a bank that the copier takes, if one is left. -/
def Capture.nextGroup (c : Capture) (a h b : Nat) : Option Nat :=
  ((List.range (c.taken.length + 1)).map (fun k => Tab.get 0 c.next [a, h, b] + k)).find? (fun g => !c.has a h b g && decide (g < 4096))

/-- The copier takes the next group of a bank, if one is left. -/
def Capture.copyNext (c : Capture) (f : Fab) (a h b : Nat) : Capture :=
  match c.nextGroup a h b with
  | some g => { (c.save f a h b g) with next := Tab.put 0 c.next [a, h, b] (g + 1) }
  | none => { c with next := Tab.put 0 c.next [a, h, b] 4096 }

/-- The copier has work in a bank. -/
def Capture.pending (c : Capture) (a h b : Nat) : Bool := decide (Tab.get 0 c.next [a, h, b] < 4096)

/-- Bytes put into a bank at physical addresses, with the copies a capture needs. -/
def State.bankPut (s : State) (a h b : Nat) (l : List (Nat × Byte)) : State :=
  let s1 := ((l.map (fun e => e.1 / 32)).dedup).foldl (fun s g => s.cowGroup a h b g) s
  { s1 with fab := { s1.fab with banks := l.foldl (fun t e => Tab.put 0 t [a, h, b, e.1] e.2) s1.fab.banks } }

/-- Both banks of a hearth cleared, with valid check bits, and its ports' state with them (R131). -/
def Fab.clearBanks (f : Fab) (a h : Nat) : Fab :=
  let off := fun (k : Key) => !decide (k.getD 0 0 = a ∧ k.getD 1 0 = h)
  { f with
    banks := Tab.keep off f.banks
    flaws := Tab.keep (fun k => !decide (k.getD 0 0 = Store.bank.ctorIdx ∧ k.getD 1 0 = a ∧ k.getD 2 0 = h)) f.flaws }

/-! ## Scratchpad accesses (R124 to R128, R132) -/

/-- An access that a port issues in a step. -/
structure Issue where
  a : Nat
  h : Nat
  port : Nat
  write : Bool
deriving DecidableEq, Repr

/-- Two issues of one hearth and step that R127 does not allow together. -/
def conflict (b1 b2 : Binding) : Bool :=
  (decide (b1.target = 3) && decide (b2.target = 3)) ||
    (decide (b1.target = b2.target) && (decide (b1.target = 1) || decide (b1.target = 2)) &&
      (decide (b1.lport = b2.lport) || (!b1.dp && !b2.dp)))

/-- The bank whose registers record an event of a binding: DRAM issues use bank 0 (R128). -/
def Binding.bank (b : Binding) : Nat := if b.target = 2 then 1 else 0

/-- A bank event recorded (R133): LOC keeps the first since CONFLICT and UNCORR were both 0. -/
def State.bankEvent (s : State) (a h b t x y word : Nat) (uncorr : Bool) : State :=
  let i := hInst a h
  let clear := !s.flag .hearthBankStatusConflict i b && !s.flag .hearthBankStatusUncorr i b
  let s1 :=
    if clear then (((s.setReg .hearthBankLocStep i b t).setReg .hearthBankLocPortX i b x).setReg .hearthBankLocPortY i b
      y).setReg .hearthBankLocWord i b word
    else s
  s1.setReg (if uncorr then .hearthBankStatusUncorr else .hearthBankStatusConflict) i b 1

/-- A double-bit error of a scratchpad word met by an access (R132); a bank of no partition (`p` = 32) quenches none. -/
def State.bankUncorr (s : State) (p a h b t port word : Nat) : State :=
  let s1 := s.bankEvent a h b t port 0 word true
  if 32 ≤ p then s1 else
  (s1.pError p .uncorrectable (Fld.addr .hearthBankStatusCorr (hInst a h) b)).assertCause p Cause.uncorr (s1.boundaryPoint p)

/-- The check bits of a bank word are good again. -/
def Fab.healWord (f : Fab) (a h b w : Nat) : Fab :=
  { f with flaws := Tab.put 0 f.flaws [Store.bank.ctorIdx, a, h, b, w] 0 }

/-- The errors a scratchpad read meets are corrected or reported. -/
def State.readErrors (s : State) (p a h b t port : Nat) (ws : List Nat) : State :=
  ws.foldl (fun s w =>
    let f := s.fab.wordFlaw a h b w
    if f = 1 then s.bankCorr a h b else if f = 2 then s.bankUncorr p a h b t port w else s) s

/-- The read word of a scratchpad read (R118, R132): bytes of an uncorrectable word read 0. -/
def Fab.readWord (f : Fab) (a h b : Nat) (x : Binding) (index : Nat) : Nat :=
  leVal ((List.range x.bytes).map (fun k =>
    let ad := x.phys index k
    if f.wordFlaw a h b (ad / 8) = 2 then 0 else Tab.get 0 f.banks [a, h, b, ad])) % 2 ^ x.width

/-- A served scratchpad read: its read word is on its way (R124). `f0` is the fabric at the start of the step. -/
def State.spRead (s : State) (f0 : Fab) (p t : Nat) (x : Issue) (b : Binding) : State :=
  let index := Tab.get 0 s.fab.paddr [x.a, x.h, x.port]
  let s1 := s.readErrors p x.a x.h b.bank t x.port (b.words index)
  { s1 with fab := { s1.fab with spReads := s1.fab.spReads ++
    [⟨p, x.a, x.h, x.port, Config.spLat + b.rdPad, f0.readWord x.a x.h b.bank b index⟩] } }

/-- A write meets the check bits of a word (R132): one that covers the word makes them good, one that must merge corrects a
single-bit error, and finds a double-bit error, which stays. -/
def State.mergeWord (s : State) (p a h b t port w : Nat) (full : Bool) : State :=
  let f := s.fab.wordFlaw a h b w
  let heal := fun (s : State) => { s with fab := s.fab.healWord a h b w }
  if f = 0 then s
  else if full then heal s
  else if f = 1 then heal (s.bankCorr a h b)
  else s.bankUncorr p a h b t port w

/-- Bytes written into a bank at physical addresses, merged with the words they lie in. -/
def State.bankMerge (s : State) (p a h b t port : Nat) (l : List (Nat × Byte)) : State :=
  (((l.map (fun e => e.1 / 8)).dedup).foldl (fun s w =>
    s.mergeWord p a h b t port w (decide (8 ≤ (l.filter (fun e => e.1 / 8 = w)).length))) s).bankPut a h b l

/-- The data register of a port as an access writes it: bits at or above WIDTH are 0 (R118). -/
def State.portData (s : State) (x : Issue) (b : Binding) : Bytes :=
  toLE b.bytes (Tab.get 0 s.fab.pdata [x.a, x.h, x.port] % 2 ^ b.width)

/-- A served scratchpad write (R118, R125, R132). -/
def State.spWrite (s : State) (p t : Nat) (x : Issue) (b : Binding) : State :=
  let index := Tab.get 0 s.fab.paddr [x.a, x.h, x.port]
  s.bankMerge p x.a x.h b.bank t x.port
    ((List.range b.bytes).map (fun k => (b.phys index k, (s.portData x b).getD k 0)))

/-- WLOST of a port (R126). -/
def State.setWlost (s : State) (a h port : Nat) (v : Bool) : State :=
  { s with fab := { s.fab with wlost := Tab.put false s.fab.wlost [a, h, port] v } }

/-! ## DRAM-mapped memories (R134 to R143) -/

/-- The slots a partition holds on an anvil. -/
def State.slotsHeld (s : State) (p a : Nat) : Nat :=
  (s.fab.emu.filter (fun e => decide (e.part = p ∧ e.anvil = a) && !e.held)).length

/-- The emulation requests changed. -/
def State.setEmu (s : State) (l : List EmuReq) : State := { s with fab := { s.fab with emu := l } }

/-- A request that holds a slot goes to the controller; a write frees its slot once it holds a request slot there (R141). One
that a frozen controller does not accept stays, and goes at the thaw. -/
def State.submitPort (s : State) (e : EmuReq) : State :=
  let f := s.freshId
  let x := f.2.submit e.anvil ⟨f.1, 0, e.part, e.addr, e.len, e.write, e.data.map some, .port e.id, false, false⟩
  if x.1.isNone then s
  else if e.write then (if x.1 = some true then x.2.setEmu (x.2.fab.emu.filter (fun y => decide (y.id ≠ e.id))) else x.2)
  else
    let l := s.dram.lin e.anvil e.addr
    if Tab.get 0 s.dram.refresh [e.anvil, linSub l] = 255 then
      { x.2 with fab := { x.2.fab with due := x.2.fab.due.map (fun d => if d.id = e.id then { d with refreshed := true } else d) } }
    else x.2

/-- A slot count noted in PEAK and SLOT_LIMIT (R144). -/
def State.noteSlots (s : State) (p a : Nat) : State :=
  let n := s.slotsHeld p a
  let s1 := s.setReg .partMemSlotsPeak p a (max n (s.reg .partMemSlotsPeak p a))
  if s.reg .partMemSlotsAllot p a ≤ n then s1.setReg .partMemStatusSlotLimit p 0 1 else s1

/-- Held requests take slots, in issue order, as slots free (R142). -/
def State.takeSlots (fuel : Nat) (p a : Nat) (s : State) : State :=
  match fuel with
  | 0 => s
  | n + 1 =>
    match s.fab.emu.find? (fun e => decide (e.part = p ∧ e.anvil = a) && e.held) with
    | none => s
    | some e =>
      if s.slotsHeld p a < s.reg .partMemSlotsAllot p a then
        let s1 := (s.setEmu (s.fab.emu.map (fun y => if y.id = e.id then { y with held := false } else y))).noteSlots p a
        State.takeSlots n p a (s1.submitPort { e with held := false })
      else s

/-- The cycle of a partition's next horizon step (R137). -/
def State.horizonCycle (s : State) (p : Nat) : Nat :=
  if s.pos p ≤ s.reg .partMemHzStep p 0 then s.cycle p else s.cycle p + 1

/-- The reads due at the next horizon step of a partition have all returned (R140, R143). -/
def State.horizonBack (s : State) (p : Nat) : Bool :=
  s.fab.due.all (fun d => decide (d.part ≠ p) || decide (s.horizonCycle p < d.cycle) || d.word.isSome)

/-- The causes of chapter 04 that no longer hold release (R139, R140, R142, R143). -/
def State.memRelease (s : State) (p : Nat) : State :=
  let mine := s.fab.due.filter (fun d => decide (d.part = p))
  let s1 :=
    if bit (s.activeMask p) Cause.hzMiss ∧ mine.all (fun d => decide ((s.part p).hzCycle < d.cycle) || d.word.isSome) then
      s.releaseCause p Cause.hzMiss else s
  let refreshing := (s1.dram.refresh.filter (fun e => decide (e.2 = 255))).any (fun e =>
    decide (s1.dramPorts p (e.1.getD 0 0) ≠ []))
  let s2 := if bit (s1.activeMask p) Cause.refresh ∧ !refreshing ∧ s1.horizonBack p then s1.releaseCause p Cause.refresh else s1
  let s3 := if bit (s2.activeMask p) Cause.slots ∧ s2.fab.emu.all (fun e => decide (e.part ≠ p) || !e.held) then
    s2.releaseCause p Cause.slots else s2
  (s3.part p).frzHold.foldl (fun s a =>
    if !s.flag .ddrStatusFrozen a 0 ∧ s.horizonBack p then s.releaseFreeze p a else s) s3

/-- A DRAM-bound port issues (R117, R135, R141, R142). -/
def State.dramIssue (s : State) (p : Nat) (x : Issue) (b : Binding) : State :=
  let index := Tab.get 0 s.fab.paddr [x.a, x.h, x.port]
  let f := s.freshId
  let s1 := f.2
  let hold := s1.fab.emu.any (fun e => decide (e.part = p ∧ e.anvil = x.a) && e.held) ||
    decide (s1.reg .partMemSlotsAllot p x.a ≤ s1.slotsHeld p x.a)
  let e : EmuReq := ⟨p, x.a, x.h, x.port, x.write, b.dram + b.off index, b.bytes,
    if x.write then s.portData x b else [], hold, f.1, b.width⟩
  let due : List DueRead := if x.write then [] else [⟨p, x.a, x.h, x.port, s.cycle p + 1, f.1, none, false⟩]
  let s2 := { s1 with fab := { s1.fab with
    emu := s1.fab.emu ++ [e]
    due := s1.fab.due ++ due
    issued := Tab.put 0 s1.fab.issued [x.a, x.h, x.port] (s.cycle p + 1) } }
  if hold then
    let s3 := s2.setReg .partMemStatusSlotLimit p 0 1
    if bit (s3.activeMask p) Cause.slots then s3 else (s3.bump .partMemSlotQuenchCount p 0 1).assertEntry p Cause.slots
  else (s2.noteSlots p x.a).submitPort e

/-- A breach of R127 met at run time (R128): port `x` is served, port `y` discarded. -/
def State.bankConflict (s : State) (p a h t bank x y : Nat) : State :=
  let s1 := s.bankEvent a h bank t x y 0 false
  (s1.pError p .bankConflict (Fld.addr .hearthBankStatusCorr (hInst a h) bank)).assertCause p Cause.bank (s1.boundaryPoint p)

/-- The issues of one hearth in one step: those served, and the breaches (served port, issue discarded). -/
def serveIssues (bind : Nat → Binding) (again : Nat → Bool) : List Issue → List Issue → List Issue × List (Nat × Issue)
  | served, [] => (served, [])
  | served, x :: rest =>
    if (bind x.port).target = 0 then serveIssues bind again served rest
    else
      match served.find? (fun y => conflict (bind y.port) (bind x.port)) with
      | some y =>
        let r := serveIssues bind again served rest
        (r.1, (y.port, x) :: r.2)
      | none =>
        if again x.port ∧ (bind x.port).target = 3 then
          let r := serveIssues bind again served rest
          (r.1, (x.port, x) :: r.2)
        else serveIssues bind again (served ++ [x]) rest

/-- The accesses that the ports of one hearth issue in a step (R116, R124 to R128). `f0` is the fabric at the start of the
step, `xs` the issues by rising port number. -/
def State.hearthIssues (p t a h : Nat) (f0 : Fab) (xs : List Issue) (s : State) : State :=
  let bind := s.binding a h
  let r := serveIssues bind (fun j => decide (Tab.get 0 s.fab.issued [a, h, j] = s.cycle p + 1)) [] xs
  let s1 := r.2.foldl (fun s e =>
    let s1 := s.bankConflict p a h t (bind e.2.port).bank e.1 e.2.port
    if e.2.write then s1.setWlost a h e.2.port true else s1) s
  let wordsOf := fun (x : Issue) => (bind x.port).words (Tab.get 0 s1.fab.paddr [a, h, x.port])
  let lost := fun (x : Issue) =>
    x.write && decide ((bind x.port).lport = 1) && decide ((bind x.port).target ≠ 3) && r.1.any (fun y =>
      y.write && decide (y.port ≠ x.port) && decide ((bind y.port).target = (bind x.port).target) &&
        decide ((bind y.port).lport = 0) && (wordsOf x).any (fun w => (wordsOf y).contains w))
  let s2 := (r.1.filter (fun x => !x.write)).foldl (fun s x =>
    if (bind x.port).target = 3 then s.dramIssue p x (bind x.port) else s.spRead f0 p t x (bind x.port)) s1
  (r.1.filter (fun x => x.write)).foldl (fun s x =>
    let b := bind x.port
    if b.target = 3 then (s.dramIssue p x b).setWlost a h x.port false
    else if lost x then (s.bump .hearthBankWlostCount (hInst a h) b.bank 1).setWlost a h x.port true
    else (s.spWrite p t x b).setWlost a h x.port false) s2

/-- The port loads of a step, the lower logical BP last so that its load takes effect (R63, R65). -/
def State.portLoads (s : State) (outs : List (Nat × Nat × Nat × BpOut)) : State :=
  outs.reverse.foldl (fun s o =>
    match o.2.2.2.fx with
    | .load data port g v => s.loadPort o.1 o.2.1 data port g v
    | _ => s) s

/-- The issues of a step: for each port that of the lowest logical BP (R65), by anvil, hearth and port. -/
def portIssues (outs : List (Nat × Nat × Nat × BpOut)) : List Issue :=
  let all := outs.filterMap (fun o =>
    match o.2.2.2.fx with
    | .issue port w => some ([o.1, o.2.1, port], w)
    | _ => none)
  let t := all.foldl (fun (t : Tab Nat) e => if Tab.get 0 t e.1 = 0 then Tab.put 0 t e.1 (1 + b2n e.2) else t) []
  t.map (fun e => ⟨e.1.getD 0 0, e.1.getD 1 0, e.1.getD 2 0, decide (e.2 = 2)⟩)

/-- Loads and accesses of the memory ports in a step. -/
def State.ports (s : State) (p t : Nat) (f0 : Fab) (outs : List (Nat × Nat × Nat × BpOut)) : State × List Issue :=
  let xs := portIssues outs
  let hs := (xs.map (fun x => (x.a, x.h))).dedup
  (hs.foldl (fun s ah => s.hearthIssues p t ah.1 ah.2 f0 (xs.filter (fun x => decide (x.a = ah.1 ∧ x.h = ah.2))))
    (s.portLoads outs), xs)

/-! ## What the start of a step delivers (R124, R137) -/

/-- Scratchpad reads come one executed step nearer; those that arrive set their read word. -/
def Fab.deliverSp (f : Fab) (p : Nat) : Fab :=
  let due := f.spReads.filter (fun r => decide (r.part = p ∧ r.left ≤ 1))
  { f with
    pword := due.foldl (fun t r => Tab.put 0 t [r.anvil, r.hearth, r.port] r.word) f.pword
    spReads := (f.spReads.filter (fun r => !decide (r.part = p ∧ r.left ≤ 1))).map
      (fun r => if r.part = p then { r with left := r.left - 1 } else r) }

/-- At the horizon step, the reads of the cycle before deliver (R137). -/
def Fab.deliverDram (f : Fab) (p cycle : Nat) : Fab :=
  let due := f.due.filter (fun d => decide (d.part = p ∧ d.cycle ≤ cycle))
  { f with
    pword := due.foldl (fun t d => Tab.put 0 t [d.anvil, d.hearth, d.port] (d.word.getD 0)) f.pword
    due := f.due.filter (fun d => !decide (d.part = p ∧ d.cycle ≤ cycle)) }

/-- A read that is due at the present step has not returned: the step waits (R139, R140, R143). -/
def State.horizonWaits (s : State) (p : Nat) : Bool :=
  decide (s.pos p = s.reg .partMemHzStep p 0) &&
    s.fab.due.any (fun d => decide (d.part = p ∧ d.cycle ≤ s.cycle p) && d.word.isNone)

/-- HZ_CHECK: the step at which the horizon is checked, and whether it looks at the next cycle (R139). -/
def State.hzCheck (s : State) (p : Nat) : Nat × Nat :=
  let k := s.reg .partMemHzStep p 0
  let lead := s.stepping.hzLead
  if lead ≤ k then (k - lead, 0) else (s.sSteps p + k - lead, 1)

/-- The horizon check in step `t` (R139): a read that is due and has not returned is a horizon miss, unless an announced
refresh delays it (R140). -/
def State.checkHorizon (s : State) (p t : Nat) : State :=
  let c := s.hzCheck p
  if t ≠ c.1 then s
  else
    let at_ := s.cycle p + c.2
    if s.fab.due.any (fun d => decide (d.part = p ∧ d.cycle = at_) && d.word.isNone && !d.refreshed) then
      let s1 := ((s.bump .partMemHzMissCount p 0 1).setReg .partMemStatusHzMiss p 0 1).modPart p (fun x => { x with hzCycle := at_ })
      s1.assertCause p Cause.hzMiss (at_, s.reg .partMemHzStep p 0)
    else s

/-! ## Returns (R139, R141, R142) -/

/-- DRAM_READ_RETURN: a read's data reaches the port's return buffer and frees its slot. -/
def State.readReturn (s : State) (a id : Nat) : State :=
  let w := Tab.get 0 s.dram.back [a, id]
  if w = 0 then s
  else
    let s1 := s.modDram (fun d => { d with back := Tab.put 0 d.back [a, id] 0 })
    match s.fab.emu.find? (fun e => e.id = id) with
    | none => s1
    | some e =>
      let word := (w - 1) % 2 ^ e.width
      let s2 := { s1 with fab := { s1.fab with
        emu := s1.fab.emu.filter (fun y => decide (y.id ≠ id))
        due := s1.fab.due.map (fun d => if d.id = id then { d with word := some word } else d) } }
      (State.takeSlots (s2.fab.emu.length + 1) e.part a s2).memRelease e.part

/-- DRAM_READ_RETURN (R141). -/
def execDramReadReturn (a id : Nat) (s : State) : Host.Outcome State Fault Refusal := .next (s.readReturn a id)

/-- REFRESH_END: requests start again; after an announced refresh the quench of R140 may end. -/
def State.refreshEnd (s : State) (a sub : Nat) : State :=
  if Tab.get 0 s.dram.refresh [a, sub] = 0 then s
  else
    let n := Tab.get 0 s.dram.refresh [a, sub]
    let s1 := (s.modDram (fun d => { d with refresh := Tab.put 0 d.refresh [a, sub] 0 })).dramEvent a sub 2 0
      (if n = 255 then 0 else n - 1) none
    s1.partitions.foldl (fun s p => s.memRelease p) s1

/-- REFRESH_END (R269). -/
def execRefreshEnd (a sub : Nat) (s : State) : Host.Outcome State Fault Refusal := .next (s.refreshEnd a sub)

/-! ## DMA of a bank (R129, R130, R132) -/

/-- A bank of a hearth is idle to DMA outside executed steps: its partition does not execute, or is frozen. -/
def State.bankIdle (s : State) (a h : Nat) : Bool :=
  match s.hearthPart a h with
  | none => true
  | some p => !s.executing p || s.frozen p

/-- A DMA read of a run of a bank: its bytes, and whether a word of it was uncorrectable. -/
def Fab.dmaRead (f : Fab) (a h b addr n : Nat) : Bytes × Bool :=
  ((List.range n).map (fun k => if f.wordFlaw a h b ((addr + k) / 8) = 2 then 0 else Tab.get 0 f.banks [a, h, b, addr + k]),
    (List.range n).any (fun k => decide (f.wordFlaw a h b ((addr + k) / 8) = 2)))

/-- The words of a run of bytes. -/
def wordsOfRun (addr n : Nat) : List Nat := ((List.range n).map (fun k => (addr + k) / 8)).dedup

/-- The bytes that a run of a write replaces, at their addresses; a bank has 131,072. -/
def runCells (first : Nat) (l : List (Option Byte)) : List (Nat × Byte) :=
  ((List.range l.length).filterMap (fun k => ((l[k]?).bind id).map (fun v => (first + k, v)))).filter
    (fun e => decide (e.1 < 131072))

/-- The next `n` bytes of a DMA access, done in idle steps (R129, R132). A write that must merge with an uncorrectable word
records step and port 0 beside the word. -/
def State.dmaBytes (s : State) (d : DmaJob) (n : Nat) : State × DmaJob :=
  let at_ := d.first + d.done
  match d.put with
  | none =>
    let r := s.fab.dmaRead d.anvil d.hearth d.bank at_ n
    (s.bankReads d.anvil d.hearth d.bank (wordsOfRun at_ n),
      { d with done := d.done + n, got := d.got ++ r.1, bad := d.bad || r.2, busy := 0 })
  | some l =>
    let p := (s.hearthPart d.anvil d.hearth).getD 32
    (s.bankMerge p d.anvil d.hearth d.bank 0 0 (runCells at_ ((l.drop d.done).take n)), { d with done := d.done + n, busy := 0 })

/-- The rest of a DMA access at once: every step is idle for it. -/
def State.dmaRest (s : State) (d : DmaJob) : State × DmaJob := s.dmaBytes d (d.count - d.done)

/-- The bytes left of the group that a DMA access has reached. -/
def DmaJob.step (d : DmaJob) : Nat :=
  min (d.first + d.count) ((d.first + d.done) / 32 * 32 + 32) - (d.first + d.done)

/-- A completion is on its way from an endpoint to the requester (R282). -/
def State.replyTo (s : State) (src dst tag cpl : Nat) (data : Bytes) : State :=
  { s with noc := { s.noc with replies := s.noc.replies ++ [⟨dst, src, tag, cpl, data, none⟩] } }

/-- A deposit is entered in the audit log with its KIND, location, length and the digest of its data (R219). KIND, the
anvil and the hearth are bits [2:0], [5:3] and [12:6] of MASK, whose upper 19 bits hold bits [46:28] of the length; OLD
holds bits [35:0] of FIRST and bits [27:0] of the length. -/
def State.auditDeposit (s : State) (r : CmdRef) (p kind anvil hearth first count : Nat) (data : Bytes) : State :=
  s.audit ⟨0, 0, s.role r.org, portByteOf r.org, 0, 2, 2, p, 0x0704,
    kind + 2 ^ 3 * anvil + 2 ^ 6 * hearth + 2 ^ 13 * (count / 2 ^ 28 % 2 ^ 19), s.hostIdOf r.org,
    first % 2 ^ 36 + 2 ^ 36 * (count % 2 ^ 28), leVal ((sha384 data).take 8)⟩

/-- Bytes go to the host memory of the port that issued a command; another origin has none. -/
def State.toHost (s : State) (r : CmdRef) (addr : Nat) (bs : Bytes) : State :=
  match r.org with
  | .host n => s.hostWrite n addr bs
  | _ => s

/-- A DMA access that is done completes: a read delivers its bytes, a deposit is logged (R130, R132, R219, R282). -/
def State.dmaDone (s : State) (d : DmaJob) : State :=
  let s1 := { s with fab := { s.fab with dma := s.fab.dma.filter (fun x => decide (x.who ≠ d.who)) } }
  match d.who, d.put with
  | .noc src dst tag, _ => s1.replyTo src dst tag (b2n d.bad) d.got
  | .cmd r, none => (s1.toHost r d.addr d.got).done r (if d.bad then .uncorrectable else .ok)
  | .cmd r, some l =>
    (s1.auditDeposit r ((s1.hearthPart d.anvil d.hearth).getD 0xFFFF) (4 + d.bank) d.anvil d.hearth d.first d.count
      (l.map (fun x => x.getD 0))).done r .ok

/-- A DMA access reaches its bank (R129): it is done at once where every step is idle and nothing waits there before it, and
waits for idle steps otherwise. -/
def State.dmaStart (s : State) (d : DmaJob) : State :=
  if s.fab.dma.any (fun x => decide (x.who = d.who)) then s
  else if s.bankIdle d.anvil d.hearth ∧
      !(s.fab.dma.any (fun x => decide (x.anvil = d.anvil ∧ x.hearth = d.hearth ∧ x.bank = d.bank))) then
    let x := s.dmaRest d
    x.1.dmaDone x.2
  else { s with fab := { s.fab with dma := s.fab.dma ++ [d] } }

/-- Waiting DMA accesses whose banks have become idle are done, in the order in which they came. -/
def State.dmaSettle (s : State) : State :=
  (s.fab.dma.filter (fun d => s.bankIdle d.anvil d.hearth)).foldl (fun s d =>
    let x := s.dmaRest d
    x.1.dmaDone x.2) s

/-- A waiting DMA access in an executed step: it does a group if its bank is idle and it is the first that waits there. -/
def State.dmaTurn (idle : Nat → Nat → Nat → Bool) (s : State) (d : DmaJob) : State :=
  let first := (s.fab.dma.find? (fun x => decide (x.anvil = d.anvil ∧ x.hearth = d.hearth ∧ x.bank = d.bank))).map (·.who)
  let keep := fun (s : State) (y : DmaJob) => { s with fab := { s.fab with dma := s.fab.dma.map (fun x => if x.who = y.who then y else x) } }
  if idle d.anvil d.hearth d.bank ∧ first = some d.who then
    let x := s.dmaBytes d d.step
    if x.2.count ≤ x.2.done then (keep x.1 x.2).dmaDone x.2 else keep x.1 x.2
  else if idle d.anvil d.hearth d.bank then keep s { d with busy := 0 }
  else keep s { d with busy := d.busy + 1 }

/-- The capture's copier takes the next group of each idle bank of a partition (R213). `idle` picks the banks. -/
def State.copierTurn (idle : Nat → Nat → Nat → Bool) (p : Nat) (s : State) : State :=
  (s.hearths p).foldl (fun s ah => [0, 1].foldl (fun s b =>
    let c := (s.part p).cap
    if !idle ah.1 ah.2 b ∨ !c.pending ah.1 ah.2 b then s
    else (s.bankReads ah.1 ah.2 b (((c.nextGroup ah.1 ah.2 b).map groupWords).getD [])).modPart p
      (fun x => { x with cap := c.copyNext s.fab ah.1 ah.2 b })) s) s

/-- The copy-on-write buffers of a partition drain over the NoC, at a rate the spec leaves open; a freeze of the home anvil's
DRAM controller pauses the drain (R213, R216). -/
def State.cowDrain (s : State) (p : Nat) : State :=
  if (s.part p).cap.cow = [] ∨ s.flag .ddrStatusFrozen (s.homeAnvil p) 0 then s
  else
    let f := s.takeNat
    f.2.modPart p (fun x => { x with cap := { x.cap with cow := Tab.mapAll 0 (fun _ v => v - f.1 % 17) x.cap.cow } })

/-- The idle banks of an executed step serve the copier, else a waiting DMA access (R129, R213). `xs` are the step's
issues. -/
def State.idleBanks (s : State) (p : Nat) (xs : List Issue) : State :=
  let idle := fun (a h b : Nat) => !(xs.any (fun x => decide (x.a = a ∧ x.h = h ∧ (s.binding a h x.port).target = b + 1)))
  let cap := (s.part p).cap
  let s1 := if s.captures p then (s.copierTurn idle p).cowDrain p else s
  (s1.fab.dma.filter (fun d => s.inPart p d.anvil d.hearth)).foldl (State.dmaTurn (fun a h b =>
    idle a h b && !(s.captures p && cap.pending a h b))) s1

/-- Executed steps without an idle one after which a DMA access times out (R130). -/
def dmaLimit : Nat := 4096

/-- A DMA access is rejected with MEM_BUSY (R130). R282 has no code for it: a request of the packet network takes a free code
other than 0. -/
def State.dmaBusy (s : State) (who : DmaFor) : State :=
  match who with
  | .cmd r => s.done r .memBusy
  | .noc src dst tag => let f := s.takeNat; f.2.replyTo src dst tag (1 + f.1 % 15) []

/-- DMA_BANK_TIMEOUT: no idle step for 4,096 steps: the request completes with MEM_BUSY and moves no data (R130). -/
def State.dmaTimeout (s : State) (who : DmaFor) : State :=
  if s.fab.dma.any (fun d => decide (d.who = who ∧ dmaLimit ≤ d.busy)) then
    ({ s with fab := { s.fab with dma := s.fab.dma.filter (fun d => decide (d.who ≠ who)) } }).dmaBusy who
  else s

/-- DMA_BANK_TIMEOUT (R130). -/
def execDmaBankTimeout (who : DmaFor) (s : State) : Host.Outcome State Fault Refusal := .next (s.dmaTimeout who)

/-! ## A freeze that lands, and a resumption -/

/-- FREEZE_LANDS (R155): from then on every step is idle for DMA (R129). -/
def execFreezeLands (p : Nat) (s : State) : Host.Outcome State Fault Refusal := .next (s.land p).dmaSettle

/-- PARTITION_RESUME (R155). -/
def execPartitionResume (p : Nat) (s : State) : Host.Outcome State Fault Refusal := .next (s.resume p)

end Sys2Proof.Machine
end

