-- ==== Sys2Proof/Machine/DramCtl.lean ====
section
/-! DEFINITION. How a DRAM controller serves its requests (R258 to R268): order, decoding, diagnosis, patrol scrub and page
copies; its freeze and thaw (R271, R272); and the DRAM commands (R273). -/

namespace Sys2Proof.Machine

/-! ## Requests that leave the controller -/

/-- A request holds a slot: a write of a memory port frees its emulation slot, and held requests take it (R141, R142). -/
def State.slotTaken (s : State) (r : DReq) (a : Nat) : State :=
  match r.src, r.write with
  | .port id, true =>
    let s1 := s.setEmu (s.fab.emu.filter (fun y => decide (y.id ≠ id)))
    (State.takeSlots (s1.fab.emu.length + 1) r.part a s1).memRelease r.part
  | _, _ => s

/-- Freed slots go to waiting class-0 requests in order of arrival. -/
def State.giveSlots (s : State) (a : Nat) : State :=
  ((s.reqs a).map (·.id)).foldl (fun s id =>
    match (s.reqs a).find? (fun r => r.id = id) with
    | some r =>
      if !r.slot ∧ slotFree (s.slotHolders a (s.reqSub a r)) r.cls then
        ((s.setReqs a ((s.reqs a).map (fun x => if x.id = id then { x with slot := true } else x))).notePeak a
          (s.reqSub a r)).slotTaken r a
      else s
    | none => s) s

/-- A request leaves the controller: its slot frees, and in-order mode ends once every request queued at entry has
completed (R267). -/
def State.dropReq (s : State) (a id : Nat) : State :=
  let s1 := s.setReqs a ((s.reqs a).filter (fun r => decide (r.id ≠ id)))
  let less := fun (l : List Nat) => l.filter (fun x => decide (x ≠ id))
  let s2 := s1.modDram (fun d => { d with inOrder := Tab.mapAll [] (fun k l => if k.getD 0 0 = a then less l else l) d.inOrder })
  let ended := s.dram.inOrder.filter (fun e => decide (e.1.getD 0 0 = a) && decide (less e.2 = []))
  let s3 := ended.foldl (fun s e =>
    s.dramEvent a (e.1.getD 1 0) 5 (e.1.getD 2 0 / 32) (e.1.getD 2 0 % 32) none) s2
  (s3.giveSlots a).pushAll

/-- Requests leave the controllers unserved: those that `keep` does not name. -/
def State.dropReqs (s : State) (keep : DReq → Bool) : State :=
  let gone := s.dram.reqs.flatMap (fun e => (e.2.filter (fun r => !keep r)).map (·.id))
  if gone = [] then s
  else
    let s1 := s.modDram (fun d => { d with
      reqs := Tab.mapAll [] (fun _ l => l.filter keep) d.reqs
      inOrder := Tab.mapAll [] (fun _ l => l.filter (fun x => !gone.contains x)) d.inOrder })
    (List.range 8).foldl State.giveSlots s1

/-! ## What a request gives -/

/-- A part of an access of class 2 is done. An access of the packet network completes to its requester; a command's waits for
the command to take it. -/
def State.jobPart (s : State) (id off : Nat) (bs : Bytes) (bad : Bool) : State :=
  match s.dram.jobs.find? (fun j => decide (j.id = id)) with
  | none => s
  | some j =>
    let j1 := { j with
      got := j.got.take off ++ bs ++ j.got.drop (off + bs.length)
      left := j.left - 1
      bad := j.bad || bad }
    match j.who, j1.left with
    | .noc src dst tag, 0 =>
      (s.modDram (fun d => { d with jobs := d.jobs.filter (fun y => decide (y.id ≠ id)) })).replyTo src dst tag (b2n j1.bad) j1.got
    | _, _ => s.modDram (fun d => { d with jobs := d.jobs.map (fun y => if y.id = id then j1 else y) })

/-- A read delivers its bytes, or a write has been done: to a memory port its word (0 in every bit where the data is
uncorrectable, R143), to an access of class 2 its bytes. -/
def State.readBack (s : State) (a : Nat) (r : DReq) (bs : Bytes) (uncorr : Bool) : State :=
  match r.src with
  | .port id =>
    if r.write then s
    else
      let s1 := s.modDram (fun d => { d with back := Tab.put 0 d.back [a, id] (1 + leVal bs) })
      if uncorr then s1.setReg .partMemStatusUncorr r.part 0 1 else s1
  | .job id off => s.jobPart id off (if r.write then [] else bs) uncorr
  | _ => s

/-- A write of a whole burst. -/
def DReq.whole (r : DReq) : Bool := r.write && decide (r.addr % 64 = 0 ∧ r.len = 64) && r.data.all (·.isSome)

/-- A request performed. `got` is the burst as delivered, where it is not as written. With `uncorr` it was found
uncorrectable, and counts as 0: a read delivers 0, a narrow write puts 0 in the other bytes of the burst (R272). -/
def State.perform (s : State) (a : Nat) (r : DReq) (got : Option Bytes) (uncorr : Bool) : State :=
  let b := s.reqLin a r / 64
  let got := if uncorr then some (zeros 64) else got
  let s1 :=
    if r.src = .scrub then
      match got with
      | some bs => s.modDram (fun d => { d with mem := Tab.putRun 0 [a] (64 * b) bs d.mem })
      | none => s
    else if r.write then
      let s1 := s.dramPut a r.addr r.data
      let s2 := match got with
        | some bs => s1.dramPut a (r.addr / 64 * 64) ((List.range 64).map (fun k =>
            if r.addr % 64 ≤ k ∧ k < r.addr % 64 + r.len ∧ (r.data.getD (k - r.addr % 64) none).isSome then none else bs[k]?))
        | none => s1
      (if r.whole ∨ uncorr then s2.modDram (fun d => { d with poison := Tab.put false d.poison [a, b] false }) else s2).readBack a
        r [] uncorr
    else
      s.readBack a r (match got with
        | some bs => (bs.drop (r.addr % 64)).take r.len
        | none => s.dramBytes a r.addr r.len) uncorr
  s1.dropReq a r.id

/-! ## Which request is served (R266 to R270) -/

/-- A request is ready: it holds a slot, nothing holds its rank, bank or subchannel back, and neither the burst order nor
in-order mode puts another first (R260, R267 to R269). -/
def State.reqReady (s : State) (a : Nat) (r : DReq) : Bool :=
  let l := s.reqLin a r
  let sub := linSub l
  let ref := Tab.get 0 s.dram.refresh [a, sub]
  let before := (s.reqs a).takeWhile (fun x => decide (x.id ≠ r.id))
  let io := Tab.get [] s.dram.inOrder [a, sub, linBankKey l]
  r.slot && decide (ref ≠ 255) && decide (ref ≠ 1 + bits l 17 16) &&
    decide (Tab.get none s.dram.diag [a, sub, linRank l] = none) &&
    before.all (fun x => decide (s.reqLin a x / 64 ≠ l / 64)) && (decide (io = []) || decide (io.head? = some r.id))

/-- Where a ready request stands: class 0 and promoted requests first, then the classes; within them hits of an open row
first (DEDUCED: a promoted request is ordered with class 0 in both). -/
def State.reqRank (s : State) (a : Nat) (r : DReq) : Nat :=
  let l := s.reqLin a r
  2 * (if r.promoted then 0 else r.cls) + b2n (decide (Tab.get 0 s.dram.openRow [a, linSub l, linBankKey l] ≠ 1 + linRow l))

/-- The controller serves a request next: it is ready, and no ready one of its subchannel stands before it, the older first
of two that stand alike. -/
def State.isNext (s : State) (a : Nat) (r : DReq) : Bool :=
  let before := ((s.reqs a).takeWhile (fun x => decide (x.id ≠ r.id))).map (·.id)
  s.reqReady a r && !((s.reqs a).any (fun x => decide (x.id ≠ r.id) && decide (s.reqSub a x = s.reqSub a r) &&
    (decide (s.reqRank a x < s.reqRank a r) || (decide (s.reqRank a x = s.reqRank a r) && before.contains x.id)) &&
    s.reqReady a x))

/-- The access of a request begins: its rank leaves power-down, and its row opens. -/
def State.openBank (s : State) (a l : Nat) : State :=
  (s.wakeRank a (linSub l) (linRank l)).modDram (fun d =>
    { d with openRow := Tab.put 0 d.openRow [a, linSub l, linBankKey l] (1 + linRow l) })

/-- SOURCE of the freeze record for a request (R274). -/
def State.reqSource (s : State) (r : DReq) : Nat :=
  match r.src with
  | .trace => 0x80
  | .scrub => 0x80
  | .job id _ =>
    match s.dram.jobs.find? (fun j => decide (j.id = id)) with
    | some j => match j.who with | .cmd ⟨.host n, _, _⟩ => 0x40 + n | _ => 0x80
    | none => 0x80
  | _ => r.part

/-! ## Serving a request (R258) -/

/-- The controller freezes for a request. -/
def State.freezeFor (s : State) (a kind : Nat) (r : DReq) (mask : Nat) : State :=
  let l := s.reqLin a r
  s.dramFreeze a kind (some r.id) l (linSub l) r.cls (s.reqSource r) mask none

/-- A decoded request is done: a write goes out with `crc` write CRC errors, of which three are retried (R271). -/
def State.finish (s : State) (a : Nat) (r : DReq) (got : Option Bytes) (uncorr : Bool) (crc : Nat) : State :=
  if r.write then
    let s1 := s.bump .ddrWcrcRetry a (s.reqSub a r) (min 3 crc)
    if crc ≤ 3 then s1.perform a r got uncorr else s1.freezeFor a 2 r 0
  else s.perform a r got uncorr

/-- A burst of the patrol, or of a page copy, found uncorrectable: counted, poisoned, and its page is due to be retired
(R265). -/
def State.scrubBad (s : State) (a l : Nat) : State :=
  ((s.bump .ddrErrUncorrCount a (linSub l) 1).modDram (fun d => d.poisonBurst a (l / 64))).dueOf a l

/-- DRAM_REQUEST_SERVE: the controller serves the request that is next. `bad` and `second` are the symbols in error of the burst
at its first and second read, `crc` the write CRC errors that a write meets. -/
def State.serve (s : State) (a id : Nat) (bad second : List (Nat × Nat)) (crc : Nat) : State :=
  match (s.reqs a).find? (fun r => r.id = id) with
  | none => s
  | some r =>
    if s.flag .ddrStatusFrozen a 0 ∨ !s.isNext a r then s
    else
      let l := s.reqLin a r
      let sub := linSub l
      let s0 := s.openBank a l
      if Tab.get false s.dram.rankOut [a, linRank l] then
        if r.src = .scrub then s0.dropReq a id else s0.perform a r none true
      else
        match (if r.write then s0.cowSick a r.addr else none) with
        | some c =>
          let cl := s0.dram.lin a (c.2 * 64)
          (s0.bump .ddrErrUncorrCount a (linSub cl) 1).dramFreeze a 1 none cl (linSub cl) 1 c.1 0 (some c.2)
        | none =>
          if r.whole then s0.finish a r none false crc
          else if Tab.get false s0.dram.poison [a, l / 64] then
            let s1 := s0.bump .ddrErrUncorrCount a sub 1
            if r.src = .scrub then s1.dropReq a id else s1.freezeFor a 1 r (devMask bad)
          else
            let x := s0.readBurst a l bad second
            match x.2 with
            | some d =>
              let s1 := x.1.finish a r d.1 false crc
              if 5 ≤ d.2 ∧ (s.markOf a sub (linRank l)).isNone then s1.diagnose a l ⟨1, 0, l / 64, bad⟩ else s1
            | none => x.1.diagnose a l ⟨if r.src = .scrub then 3 else 2, id, l / 64, second⟩

/-- DRAM_REQUEST_SERVE (R266). -/
def execDramRequestServe (a id : Nat) (bad second : List (Nat × Nat)) (crc : Nat) (s : State) : Host.Outcome State Fault Refusal :=
  .next (s.serve a id bad second crc)

/-- The diagnosis of a rank completes (R260): one failing device is marked, unless the rank holds a mark already, and the burst
is decoded with the marked device's symbols as erasures; without a mark a detected error is uncorrectable. -/
def State.diagnosis (s : State) (a sub rank failing : Nat) : State :=
  let k : Key := [a, sub, rank]
  match Tab.get none s.dram.diag k with
  | none => s
  | some d =>
    if s.flag .ddrStatusFrozen a 0 then s
    else
      let l := 64 * d.burst
      let s1 := s.modDram (fun x => { x with diag := Tab.put none x.diag k none })
      let s2 := if popcount 5 failing = 1 ∧ (s.markOf a sub rank).isNone then
        s1.setMark a sub rank ((setBitsOf 5 failing).headD 0) else s1
      let req := (s2.reqs a).find? (fun r => r.id = d.req)
      if d.why = 1 then s2
      else if (s2.markOf a sub rank).isSome then
        match req, d.why with
        | some r, 2 => s2.perform a r ((s2.readBurst a l d.bad d.bad).2.bind (·.1)) false
        | some r, 3 => s2.perform a r ((s2.readBurst a l d.bad d.bad).2.bind (·.1)) false
        | _, _ => s2
      else
        match req, d.why with
        | some r, 2 => (s2.bump .ddrErrUncorrCount a sub 1).freezeFor a 1 r (Nat.lor failing (devMask d.bad))
        | some r, 3 => (s2.scrubBad a l).dropReq a r.id
        | _, 4 => s2.scrubBad a l
        | _, _ => s2

/-- DEVICE_DIAGNOSIS (R260). -/
def execDeviceDiagnosis (a sub rank failing : Nat) (s : State) : Host.Outcome State Fault Refusal :=
  .next (s.diagnosis a sub rank failing)

/-! ## Patrol scrub (R257, R265) -/

/-- A pass of the patrol ends: each device's error-check-and-scrub count is read (R257). -/
def State.readEcs (s : State) (a sub : Nat) : State :=
  (List.range 10).foldl (fun s d =>
    let f := s.takeNat
    f.2.setReg .ddrEcsCount a (10 * sub + d) (f.1 % 2 ^ 16)) s

/-- PATROL_SCRUB: the next burst of a subchannel is requested, with class 3, where a slot is free. -/
def State.patrolScrub (s : State) (a sub : Nat) : State :=
  if !s.subOn a sub then s
  else
    let n := Tab.get 0 s.dram.patrol [a, sub]
    let f := s.freshId
    let x := f.2.submit a ⟨f.1, 3, 0x80, 128 * n + 64 * sub, 64, false, [], .scrub, false, false⟩
    if x.1.isSome then
      let s1 := x.2.modDram (fun d => { d with patrol := Tab.put 0 d.patrol [a, sub] ((n + 1) % 2 ^ 28) })
      if n + 1 = 2 ^ 28 then s1.readEcs a sub else s1
    else x.2

/-- PATROL_SCRUB (R265). -/
def execPatrolScrub (a sub : Nat) (s : State) : Host.Outcome State Fault Refusal := .next (s.patrolScrub a sub)

/-! ## Page copies (R263, R264) -/

/-- A page copy from one linear page to another can run: the controller serves, on both subchannels a class-3 slot is free, and
no refresh or diagnosis holds the banks and ranks of the two pages. -/
def State.copyReady (s : State) (a src dst : Nat) : Bool :=
  !s.flag .ddrStatusFrozen a 0 && [0, 1].all (fun sub =>
    let ref := Tab.get 0 s.dram.refresh [a, sub]
    slotFree (s.slotHolders a sub) 3 && decide (ref ≠ 255) && [src, dst].all (fun pg =>
      decide (ref ≠ 1 + bits (4096 * pg) 17 16) && decide (Tab.get none s.dram.diag [a, sub, linRank (4096 * pg)] = none)))

/-- The read of one burst of a page copy (R258): the state after it, and whether the copy goes on. -/
def State.copyRead (a src : Nat) (x : State × Bool) (r : BurstRead) : State × Bool :=
  let l := 4096 * src + 64 * (r.burst % 64)
  if !x.2 then x
  else if Tab.get false x.1.dram.poison [a, l / 64] then (x.1.bump .ddrErrUncorrCount a (linSub l) 1, true)
  else
    let y := x.1.readBurst a l r.bad r.second
    match y.2 with
    | some d =>
      let s1 := match d.1 with
        | some bs => y.1.modDram (fun z => { z with mem := Tab.putRun 0 [a] l bs z.mem })
        | none => y.1
      (if 5 ≤ d.2 ∧ (x.1.markOf a (linSub l) (linRank l)).isNone then s1.diagnose a l ⟨1, 0, l / 64, r.bad⟩ else s1, true)
    | none => (y.1.diagnose a l ⟨4, 0, l / 64, r.second⟩, false)

/-- The reads of a page copy, with the ranks of both pages awake. -/
def State.copyReads (s : State) (a src dst : Nat) (reads : List BurstRead) : State × Bool :=
  let s1 := [src, dst].foldl (fun s pg => (s.wakeRank a 0 (linRank (4096 * pg))).wakeRank a 1 (linRank (4096 * pg))) s
  reads.foldl (State.copyRead a src) (s1, true)

/-- PAGE_RETIREMENT: a page that is due is retired, or waits for a free reserve page (R262, R263). -/
def State.pageRetirement (s : State) (a page : Nat) (reads : List BurstRead) : State :=
  if !(Tab.get [] s.dram.waiting [a]).contains page then s
  else
    match s.dram.freePage a none with
    | none => s.noteReserve a
    | some dst =>
      let src := s.dram.lin a (page * 4096) / 4096
      if !s.copyReady a src dst then s
      else
        let x := s.copyReads a src dst reads
        if x.2 then x.1.retire a page none true else x.1

/-- PAGE_RETIREMENT (R263). -/
def execPageRetirement (a page : Nat) (reads : List BurstRead) (s : State) : Host.Outcome State Fault Refusal :=
  .next (s.pageRetirement a page reads)

/-- MIGRATION_STEP: one page of a marked rank pair moves to the other (R264). -/
def State.migrationStep (s : State) (a : Nat) (reads : List BurstRead) : State :=
  match s.migratingRank a with
  | none => s
  | some r =>
    match s.nextMigrate a r, s.dram.freePage a (some (1 - r)) with
    | none, _ => if s.flag .ddrStatusFrozen a 0 then s else s.migrateEnd a r
    | some _, none => if s.flag .ddrStatusFrozen a 0 then s else s.migrateStall a r
    | some (pg, copy), some dst =>
      let src := s.dram.lin a (pg * 4096) / 4096
      if !s.copyReady a src dst then s
      else
        let x := if copy then s.copyReads a src dst reads else (s, true)
        if x.2 then x.1.retire a pg (some (1 - r)) copy else x.1

/-- MIGRATION_STEP (R264). -/
def execMigrationStep (a : Nat) (reads : List BurstRead) (s : State) : Host.Outcome State Fault Refusal :=
  .next (s.migrationStep a reads)

/-! ## Thaw (R272) -/

/-- The page of a failing burst is retired under action 1, with the poison pattern in the burst's place. A burst that was poisoned
in a page retired before is left to action 0. -/
def State.thawRetire (s : State) (a burst : Nat) : State :=
  match s.dram.pageOf a (burst / 64) with
  | none => s
  | some page =>
    let s1 := s.modDram (fun d => d.poisonBurst a burst)
    if (s1.dram.freePage a none).isSome then s1.retire a page none true else s1.dueRetire a page

/-- The failing request of a freeze completes as uncorrectable; a snapshot copy puts 0 for the burst it could not read. -/
def State.thawFail (s : State) (a : Nat) (z : DFreeze) : State :=
  let s1 := match z.snap with
    | some b => s.modDram (fun d => { d with cowZero := Tab.put false d.cowZero [a, b] true })
    | none => s
  match z.req.bind (fun id => (s1.reqs a).find? (fun r => decide (r.id = id))) with
  | some r => s1.perform a r none true
  | none => s1

/-- The controller serves again: FROZEN clears, and requests that the freeze held back reach it. -/
def State.thawEnd (s : State) (a : Nat) : State :=
  let s1 := (s.setReg .ddrStatusFrozen a 0 0).modDram (fun d => { d with
    frozen := Tab.put none d.frozen [a] none
    jobs := d.jobs.filter (fun j => !decide (j.anvil = a ∧ j.size = 0)) })
  let z := (Tab.get none s.dram.frozen [a]).getD ⟨0, none, 0, 0, 0, 0, none⟩
  let s3 := (s1.auditAction .ok 0xFFFF (Fld.addr .ddrStatusFrozen a 0)).dramEvent a z.sub 0xA z.rank 0 none
  let back := fun (id : Nat) => (s3.reqs a).any (fun r => decide (r.src = .port id)) ||
    decide (Tab.get 0 s3.dram.back [a, id] ≠ 0)
  let wait := s3.fab.emu.filter (fun e => decide (e.anvil = a) && !e.held && !back e.id)
  let s4 := (wait.foldl (fun s e => s.submitPort e) s3).pushAll
  s4.partitions.foldl (fun s p => (State.takeSlots (s.fab.emu.length + 1) p a s).memRelease p) s4

/-- A thaw with an action (R272). -/
def State.thaw (s : State) (a action : Nat) (retrainOk : Bool) : State :=
  match Tab.get none s.dram.frozen [a] with
  | none => s
  | some z =>
    if action = 2 ∧ !retrainOk then s.moduleFault (Fld.addr .ddrFrzKind a 0)
    else if action = 2 then s.thawEnd a
    else if z.kind = 3 then
      ((s.modDram (fun d => { d with rankOut := Tab.put false d.rankOut [a, z.rank] true })).setReg .ddrStatusRankOut a 0
        1).condition 6 |>.thawEnd a
    else
      let again := Tab.get false s.dram.poison [a, z.burst] &&
        (s.dram.pageOf a (z.burst / 64)).any (fun pg => Tab.get false s.dram.retired [a, pg])
      let s1 := if z.kind = 1 then s.thawFail a z else s
      let failing := decide (z.kind = 1) || z.req.isSome
      (if action = 1 ∧ failing ∧ !again then s1.thawRetire a z.burst else s1).thawEnd a

/-- The steward's own thaw: action 1 for kind 1, action 2 for kind 2, none for kind 3. -/
def State.stewardThaw (s : State) (a : Nat) (retrainOk : Bool) : State :=
  match Tab.get none s.dram.frozen [a] with
  | none => s
  | some z =>
    if s.sys.stewardDown then s
    else if z.kind = 1 then s.thaw a 1 retrainOk else if z.kind = 2 then s.thaw a 2 retrainOk else s

/-- STEWARD_THAW (R272). -/
def execStewardThaw (a : Nat) (retrainOk : Bool) (s : State) : Host.Outcome State Fault Refusal :=
  .next (s.stewardThaw a retrainOk)

/-- The anvil a command names is not populated. -/
def State.noAnvil (s : State) (a : Nat) : Bool × Status := (decide (s.grade.anvils ≤ a), .notPresent)

/-- DDR_THAW: an accepted thaw is also the recovery of the partitions that the freeze holds (R437). -/
def cmdDdrThaw (r : CmdRef) (a action : Nat) (retrainOk : Bool) (s : State) : CmdRes :=
  refuseIf [s.ownerOrLocal r.org, s.noAnvil a, (decide (3 ≤ action), .cmdFormat),
    (!s.flag .ddrStatusFrozen a 0, .dramNotFrozen),
    (decide (action = 2 ∧ s.reg .ddrFrzKind a 0 = 3), .modeInvalid), s.cpOut a] s (fun s =>
    let s1 := (s.partitions.filter (fun p => (s.part p).frzHold.contains a)).foldl (fun s p => s.outageRecover p false) s
    let s2 := s1.thaw a action retrainOk
    if s2.flag .ddrStatusFrozen a 0 then s2.says .dramFrozen else s2.oks)

/-- DDR_THAW (R273). -/
def execDdrThaw (r : CmdRef) (a action : Nat) (retrainOk : Bool) (s : State) : Host.Outcome State Fault Refusal :=
  .next (runCmd r 0x0900 (formParams 0 [(.int 1, a), (.int 1, action)]) 0xFFFF (cmdDdrThaw r a action retrainOk) s)

/-- DDR_RETIRE_PAGE: a page copy, which waits while the controller is frozen or holds the page back (R263, R271). -/
def cmdDdrRetirePage (r : CmdRef) (a addr : Nat) (s : State) : CmdRes :=
  refuseIf [s.ownerOrLocal r.org, s.noAnvil a, (decide (Config.dramUsable ≤ addr), .memWindow), s.cpOut a] s (fun s =>
    let page := addr / 4096
    if Tab.get false s.dram.retired [a, page] then s.oks
    else
      match s.dram.freePage a none with
      | none => s.says .reserveEmpty
      | some dst => if s.copyReady a (s.dram.lin a (page * 4096) / 4096) dst then (s.retire a page none true).oks else s.waits)

/-- DDR_RETIRE_PAGE (R273). -/
def execDdrRetirePage (r : CmdRef) (a addr : Nat) (s : State) : Host.Outcome State Fault Refusal :=
  .next (runCmd r 0x0901 (formParams 0 [(.int 1, a), (.int 8, addr)]) 0xFFFF (cmdDdrRetirePage r a addr) s)

/-- DDR_MARK_SET. -/
def cmdDdrMarkSet (r : CmdRef) (a sub rank device : Nat) (s : State) : CmdRes :=
  refuseIf [s.ownerOrLocal r.org, s.noAnvil a, (decide (2 ≤ sub), .notPresent), (decide (2 ≤ rank ∨ 5 ≤ device), .cmdFormat),
    ((s.markOf a sub rank).isSome, .dramMarkHeld), s.cpOut a] s (fun s => (s.setMark a sub rank device).oks)

/-- DDR_MARK_SET (R273). -/
def execDdrMarkSet (r : CmdRef) (a sub rank device : Nat) (s : State) : Host.Outcome State Fault Refusal :=
  .next (runCmd r 0x0902 (formParams 0 [(.int 1, a), (.int 1, sub), (.int 1, rank), (.int 1, device)]) 0xFFFF
    (cmdDdrMarkSet r a sub rank device) s)

end Sys2Proof.Machine
end

