-- ==== Sys2Proof/Machine/Operands.lean ====
section
/-! DEFINITION. Operand forms: module addresses taken apart into block, instance and offset (the base addresses of the
chapters), the fields of a register word, and the words of the audit entries of register writes (R10, R301, R325). -/

namespace Sys2Proof.Machine

/-- The coordinates of a field at an offset of its block, if the field lies there. -/
def FieldInfo.at? (x : FieldInfo) (off : Nat) : Option (Nat × Nat) :=
  if off < x.base then Option.none
  else
    let r := off - x.base
    let j1 := if x.stride1 = 0 then 0 else min (r / x.stride1) (x.count1 - 1)
    let rem := r - j1 * x.stride1
    let j2 := if x.stride2 = 0 then 0 else min (rem / x.stride2) (x.count2 - 1)
    if rem = j2 * x.stride2 then some (j1, j2) else Option.none

/-- A register word: its block, the instance of the block, and its offset. -/
structure WordAt where
  blk : Blk
  inst : Nat
  off : Nat
deriving DecidableEq, Repr

/-- The block that a module address names (BAR0 of R301). An address in no block names nothing. -/
def decodeAddr (x : Nat) : Option WordAt :=
  let y := x / 4 * 4
  if y < 0x80000 then some ⟨.mod, 0, y⟩
  else if y < 0x90000 then some ⟨.trace, 0, y - 0x80000⟩
  else if y < 0xA0000 then some ⟨.time, 0, y - 0x90000⟩
  else if y < 0xB0000 then some ⟨.sp, 0, y - 0xA0000⟩
  else if y < 0xC0000 then some ⟨.pwr, 0, y - 0xB0000⟩
  else if y < 0x100000 then some ⟨.svc, 0, y - 0xC0000⟩
  else if y < 0x1000000 then some ⟨.hostif, 0, y - 0x100000⟩
  else if y < 0x1040000 then some ⟨.queue, (y - 0x1000000) / 0x40, (y - 0x1000000) % 0x40⟩
  else if y < 0x2000000 then none
  else if y < 0x2200000 then some ⟨.part, (y - 0x2000000) / 0x10000, y % 0x10000⟩
  else if y < 0x4000000 then none
  else if y < 0x4800000 then some ⟨.cmp, (y - 0x4000000) / 0x40000, y % 0x40000⟩
  else if y < 0x6000000 then none
  else if y < 0x6200000 then some ⟨.obs, (y - 0x6000000) / 0x10000, y % 0x10000⟩
  else if y < 0x30000000 then none
  else if y < 0x30080000 then
    let a := (y - 0x30000000) / 0x10000
    let l := y % 0x10000 / 0x100
    if l < 3 then some ⟨.link, 3 * a + l, y % 0x100⟩ else none
  else if y < 0x31000000 then none
  else if y < 0x31080000 then some ⟨.ddr, (y - 0x31000000) / 0x10000, y % 0x10000⟩
  else if y < 0x32000000 then none
  else if y < 0x32080000 then some ⟨.noc, (y - 0x32000000) / 0x10000, y % 0x10000⟩
  else if y < 0x34000000 then none
  else if y < 0x34004400 then some ⟨.wlLane, (y - 0x34000000) / 0x100, y % 0x100⟩
  else if y < 0x34010000 then none
  else if y < 0x34010800 then some ⟨.wlBundle, (y - 0x34010000) / 0x100, y % 0x100⟩
  else if y < 0x34020000 then none
  else if y < 0x34022000 then some ⟨.wlStream, (y - 0x34020000) / 0x100, y % 0x100⟩
  else if y < 0x40000000 then none
  else if y < 0x44000000 then some ⟨.hearth, (y - 0x40000000) / 0x10000, y % 0x10000⟩
  else none

/-- The fields of a register word, each with its instance and index. -/
def WordAt.fields (w : WordAt) : List (FieldInfo × Nat × Nat) :=
  regTable.filterMap (fun x =>
    if x.blk = w.blk then
      match x.at? w.off with
      | some (j1, j2) =>
        if w.blk = .hostif ∧ 1 < x.count1 then some (x, j1, j2) else some (x, w.inst, j1 * x.count2 + j2)
      | none => none
    else none)

/-- The bits of its word that a field takes. -/
def FieldInfo.mask (x : FieldInfo) : Nat := (2 ^ (x.hi + 1 - x.lo) - 1) * 2 ^ x.lo

/-- The module address of a register word. -/
def WordAt.addr (w : WordAt) : Nat := blockBase w.blk w.inst + w.off

/-- The word as written: the values of its fields in effect or pending. -/
def State.wordWritten (s : State) (w : WordAt) : Nat :=
  w.fields.foldl (fun acc e => acc + s.pendingOr e.1.fld e.2.1 e.2.2 * 2 ^ e.1.lo) 0

/-- The word that holds a field. -/
def wordOf (f : Fld) (i j : Nat) : WordAt :=
  match decodeAddr (f.addr i j) with
  | some w => w
  | none => ⟨f.info.blk, i, f.info.base⟩

/-- A write that has changed a register word is entered in the audit log, with the word before and after (R325). -/
def State.auditDiff (o : Origin) (part : Nat) (f : Fld) (i j : Nat) (s0 s1 : State) : State :=
  let w := wordOf f i j
  let a := s0.wordWritten w
  let b := s1.wordWritten w
  if a = b then s1 else s1.auditWrite o .ok part w.addr a b

/-- A write refused with a status, which only the audit log shows (R146, R302). -/
def State.auditRefuse (s : State) (o : Origin) (st : Status) (part : Nat) (f : Fld) (i j v : Nat) : State :=
  let w := wordOf f i j
  s.auditWrite o st part w.addr (s.wordWritten w) v

/-- A write that acts without changing a register (a WO field of R325). -/
def State.auditAct (s : State) (o : Origin) (part : Nat) (f : Fld) (i j v : Nat) : State :=
  let w := wordOf f i j
  s.auditWrite o .ok part w.addr (s.wordWritten w) v

/-- The partition is in READY or LOADING, or does not exist: what R14 asks of a partition a static field affects. -/
def State.partQuiet (s : State) (p : Nat) : Bool :=
  !s.pExists p || decide (s.mode p = Mode.ready) || decide (s.mode p = Mode.loading)

/-- The module is in STANDBY or MAINTENANCE (R14). -/
def State.modQuiet (s : State) : Bool := s.modStandby || decide (s.modMode = Mod.maintenance)

end Sys2Proof.Machine
end

