-- ==== Sys2Proof/Machine/Pins.lean ====
section
/-! DEFINITION. The side pins (chapter 14): ownership, functions, hold states, general-purpose outputs, shorts, bank
rails, the physical-presence strap, and the serial peripherals. -/

namespace Sys2Proof.Machine

/-! ## Rights and codes -/

/-- A pin belongs to module scope. -/
def State.pinModule (s : State) (n : Nat) : Bool := decide (s.reg .spPinOwner 0 n = 0x3F)

/-- The origin may write a pin's fields and its GPIO bits (R373). -/
def State.mayPin (s : State) (o : Origin) (n : Nat) : Bool :=
  s.isOwnerOrLocal o || (!s.pinModule n && s.pExists (s.reg .spPinOwner 0 n) && s.isTenantOf o (s.reg .spPinOwner 0 n))

/-- A function code is permitted on a pin (R374). -/
def State.pinFuncOk (s : State) (n func : Nat) : Bool :=
  decide (func ≤ 2) || decide (0x10 ≤ func ∧ func ≤ 0x2F) ||
    (s.pinModule n && (decide (0x30 ≤ func ∧ func ≤ 0x32) || decide (0x38 ≤ func ∧ func ≤ 0x46))) ||
    (!s.pinModule n && decide (0x80 ≤ func ∧ func ≤ 0xA1))

/-- A function that reads the pad. -/
def funcIsInput (func : Nat) : Bool :=
  decide (func = 0) || decide (0x10 ≤ func ∧ func ≤ 0x1F) || decide (func = 0x30) || decide (func = 0x32) ||
    decide (func = 0x39) || decide (func = 0x3B) || decide (0x3C ≤ func ∧ func ≤ 0x3F) || decide (func = 0x42)

/-- The strap overrides the function of SP46 and SP47 (R383). -/
def State.pinFunc (s : State) (n : Nat) : Nat :=
  if s.flag .spCfgStrap 0 0 ∧ n = 46 then 0x3A
  else if s.flag .spCfgStrap 0 0 ∧ n = 47 then 0x3B
  else s.reg .spPinFunc 0 n

/-- The pin shows its hold state: its partition is in LOADING, or does not exist (R373, R378). -/
def State.pinHeld (s : State) (n : Nat) : Bool :=
  !s.pinModule n && (!s.pExists (s.reg .spPinOwner 0 n) || decide (s.mode (s.reg .spPinOwner 0 n) = Mode.loading)) &&
    !(s.flag .spCfgStrap 0 0 && decide (46 ≤ n))

/-- The pin that supplies an input function: the lowest one that selects it (R375), and SP47 for UART 1 while the strap is
closed (R383). -/
def State.inputPin (s : State) (func : Nat) : Option Nat :=
  if s.flag .spCfgStrap 0 0 ∧ func = 0x3B then some 47 else
  (List.range 48).find? (fun n => decide (s.pinFunc n = func) && !s.pinHeld n)

/-- SP.PIN.DUP: another, lower pin supplies the same input function (R375). -/
def State.pinDup (s : State) (n : Nat) : Bool :=
  decide (s.pinFunc n ≠ 0) && funcIsInput (s.pinFunc n) && !s.pinHeld n &&
    (match s.inputPin (s.pinFunc n) with
     | some m => decide (m ≠ n)
     | none => false)

/-- SP.PIN.HOLD (R378, R382). -/
def State.pinHold (s : State) (n : Nat) : Bool := s.pinHeld n || s.flag .spCfgLatched 0 0

/-! ## Pads -/

/-- The GPIO output bit of a pin. -/
def State.gpioOut (s : State) (n : Nat) : Bool :=
  if n < 32 then bit (s.reg .spGpioOutLo 0 0) n else bit (s.reg .spGpioOutHi 0 0) (n - 32)

/-- The level of a trigger output: high while a pulse lasts. -/
def State.trigLevel (s : State) (k : Nat) : Bool := decide (0 < Tab.get 0 s.pins.trigOut [k])

/-- PPS out: high for 100 ms from each whole second of the anvil counter (R364). -/
def State.ppsHigh (s : State) : Bool := decide (s.clock % 1000000000 < 100000000)

/-- The level that a function drives; `none` where it does not drive. -/
def State.funcDrives (s : State) (n func : Nat) : Option Bool :=
  let p := s.reg .spPinOwner 0 n
  if func = 1 then some (s.gpioOut n)
  else if func = 2 then (if s.gpioOut n then none else some false)
  else if 0x20 ≤ func ∧ func ≤ 0x2F then some (s.trigLevel (func - 0x20))
  else if func = 0x31 then some s.ppsHigh
  else if func = 0x38 ∨ func = 0x3A then some true
  else if func = 0x40 ∨ func = 0x41 then some (Config.padLevel n s.free)
  else if 0x43 ≤ func ∧ func ≤ 0x46 then some true
  else if 0x80 ≤ func ∧ func ≤ 0x9F then some (bit (s.part p).sideband (func - 0x80))
  else if func = 0xA0 then some (decide (0 < Tab.get 0 s.pins.trigOut [100 + p]))
  else if func = 0xA1 then some (s.part p).failSticky
  else none

/-- The level a pin drives: from its latch, its hold state, the level kept for one pin clock of a switch, or its
function; a bank that ramps, a bank whose rail has faulted, and a shorted pin drive nothing (R372, R377, R378, R381, R382,
R396). -/
def State.pinDrives (s : State) (n : Nat) : Option Bool :=
  let lat := Tab.get 0 s.pins.latch [n]
  let sw := Tab.get 0 s.pins.switching [n] % 8
  if s.flag .spBankRamping 0 (n / 12) || Tab.get false s.pwr.failed [2, n / 12] then none
  else if s.flag .spPinShort 0 n then none
  else if lat ≠ 0 then (if bit (lat - 1) 1 then some (bit (lat - 1) 0) else none)
  else if sw ≠ 0 then (if bit (sw - 1) 1 then some (bit (sw - 1) 0) else none)
  else if s.pinHeld n then
    let c := Tab.get 0 s.pins.holdCode [n]
    if c = 3 then some false else if c = 4 then some true else none
  else s.funcDrives n (s.pinFunc n)

/-- The pull in effect at a pad, in the codes of SP.PIN.PULL: off during a ramp, held by a latch, a pull-up at SP47 while the
strap is closed, and that of the hold state (R207) instead of PULL (R372, R378, R382, R383). -/
def State.pinPull (s : State) (n : Nat) : Nat :=
  let lat := Tab.get 0 s.pins.latch [n]
  if s.flag .spBankRamping 0 (n / 12) || Tab.get false s.pwr.failed [2, n / 12] then 0
  else if lat ≠ 0 then (lat - 1) / 4 % 4
  else if s.flag .spCfgStrap 0 0 ∧ n = 47 then 1
  else if s.pinHeld n then
    let c := Tab.get 0 s.pins.holdCode [n]
    if c = 1 then 1 else if c = 2 then 2 else if c = 0 then 3 else 0
  else s.reg .spPinPull 0 n

/-- The level at a pad: what the pin drives, else what the outside puts there, a free value (log entry 20). -/
def State.padAt (s : State) (n : Nat) : Bool :=
  match s.pinDrives n with
  | some b => b
  | none => Config.padLevel n s.free

/-- The pad keeps its last driven level for one pin clock (R377); the entry counts two time ticks. -/
def State.keepPad (s : State) (n : Nat) : State :=
  let c := match s.pinDrives n with
    | some b => 1 + b2n b + 2
    | none => 1
  { s with pins := { s.pins with
    switching := Tab.put 0 s.pins.switching [n] (c + 8)
    keeper := match s.pinDrives n with
      | some b => Tab.put false s.pins.keeper [n] b
      | none => s.pins.keeper } }

/-- Several pads change their source. -/
def State.keepPads (s : State) (ns : List Nat) : State := ns.foldl State.keepPad s

/-- The pins a partition owns. -/
def State.pinsOf (s : State) (p : Nat) : List Nat := (List.range 48).filter (fun n => decide (s.reg .spPinOwner 0 n = p))

/-- A partition's pins change between driven and held (R207, R378): each keeps its level for one pin clock. -/
def State.pinsChange (s : State) (p : Nat) : State := s.keepPads (s.pinsOf p)

/-- The hold states of a partition's pins become those of a list; a pin the list does not name takes the factory
state, high-Z with keeper (R207). -/
def State.setHolds (s : State) (p : Nat) (l : List (Nat × Nat)) : State :=
  (s.pinsOf p).foldl (fun s n =>
    let c := (l.find? (fun e => e.1 = n)).elim 0 (·.2)
    { s.keepPad n with pins := { (s.keepPad n).pins with holdCode := Tab.put 0 (s.keepPad n).pins.holdCode [n] c } }) s

/-- PART_DESTROY gives a partition's pins back to module scope, input, keeper (R373). -/
def State.pinsDestroy (s : State) (p : Nat) : State :=
  (s.pinsOf p).foldl (fun s n =>
    let s1 := s.keepPad n
    let s2 := ((s1.setReg .spPinOwner 0 n 0x3F).setReg .spPinFunc 0 n 0).setReg .spPinPull 0 n 3
    { s2 with pins := { s2.pins with holdCode := Tab.put 0 s2.pins.holdCode [n] 0 } }) s

/-- A pulse on a trigger output for a number of pin clocks: the output carries the OR of the pulses (R367). Durations
are kept in tenths of a ns. -/
def State.trigPulse (s : State) (k clocks : Nat) : State :=
  let x := Tab.get 0 s.pins.trigOut [k]
  { s with
    pins := { s.pins with trigOut := Tab.put 0 s.pins.trigOut [k] (max x (50 * clocks)) }
    out := s.out ++ [Out.trigOut k] }

/-- FAIL_PULSE of a partition goes high for one pin clock (R177). -/
def State.failPulse (s : State) (p : Nat) : State :=
  { s with
    pins := { s.pins with trigOut := Tab.put 0 s.pins.trigOut [100 + p] 50 }
    out := s.out ++ [Out.failPulse p] }

/-- The level of a trigger input, or 0 where no pin selects it (R375). -/
def State.trigInLevel (s : State) (k : Nat) : Bool :=
  match s.inputPin (0x10 + k) with
  | some n => s.padAt n
  | none => false

/-- What a time tick does to pulses and to pads that keep their level. -/
def Pins.tick (x : Pins) : Pins :=
  { x with
    trigOut := Tab.mapAll 0 (fun _ v => v - 32) x.trigOut
    switching := Tab.mapAll 0 (fun _ v => if 8 ≤ v then v - 8 else 0) x.switching }

/-! ## Writes of the pin fields -/

/-- A write of SP.PIN.FUNC (R374, R377). -/
def State.wrPinFunc (s : State) (o : Origin) (n func : Nat) : State :=
  if !s.mayPin o n then s.auditRefuse o .notOwner 0xFFFF .spPinFunc 0 n func
  else if !s.pinFuncOk n func then s.auditRefuse o .spFunc 0xFFFF .spPinFunc 0 n func
  else State.auditDiff o 0xFFFF .spPinFunc 0 n s (((s.keepPad n).setSetting .spPinFunc 0 n func).setReg .spPinShort 0 n 0)

/-- PIN_FUNC_SWITCH (R377). -/
def execPinFuncSwitch (o : Origin) (n func : Nat) (s : State) : Host.Outcome State Fault Refusal :=
  .next (if s.sys.off then s else s.wrPinFunc o n func)

/-- The partition an owner code names meets R14: no partition, or one in READY or LOADING. -/
def State.ownerQuiet (s : State) (owner : Nat) : Bool := decide (32 ≤ owner) || s.partQuiet owner

/-- A write of SP.PIN.OWNER (R373, R386): it also sets FUNC to 0x00. -/
def State.wrPinOwner (s : State) (o : Origin) (n owner : Nat) : State :=
  if !s.isOwnerOrLocal o then s.auditRefuse o .notOwner 0xFFFF .spPinOwner 0 n owner
  else if !(decide (owner < 32) || decide (owner = 0x3F)) then s
  else if !(s.modQuiet || (s.ownerQuiet (s.reg .spPinOwner 0 n) && s.ownerQuiet owner)) then
    s.auditRefuse o .fieldClassViolation 0xFFFF .spPinOwner 0 n owner
  else
    let s1 := ((s.keepPad n).setSetting .spPinOwner 0 n owner).setSetting .spPinFunc 0 n 0
    let s2 := { s1 with pins := { s1.pins with holdCode := Tab.put 0 s1.pins.holdCode [n] 0 } }
    State.auditDiff o 0xFFFF .spPinOwner 0 n s s2

/-- PIN_OWNER_WRITE (R373). -/
def execPinOwnerWrite (o : Origin) (n owner : Nat) (s : State) : Host.Outcome State Fault Refusal :=
  .next (if s.sys.off then s else s.wrPinOwner o n owner)

/-- The pins of a bank (R372). -/
def bankPins (b : Nat) : List Nat := (List.range 12).map (fun k => 12 * b + k)

/-- A write of SP.BANK.VSEL (R372, R386): a new voltage starts a ramp. -/
def State.wrBankVsel (s : State) (o : Origin) (b vsel : Nat) : State :=
  if !s.isOwnerOrLocal o then s.auditRefuse o .notOwner 0xFFFF .spBankVsel 0 b vsel
  else if 3 ≤ vsel then s
  else if !(s.modQuiet || (bankPins b).all (fun n => s.ownerQuiet (s.reg .spPinOwner 0 n))) then
    s.auditRefuse o .fieldClassViolation 0xFFFF .spBankVsel 0 b vsel
  else if s.reg .spBankVsel 0 b = vsel then s
  else State.auditDiff o 0xFFFF .spBankVsel 0 b s ((s.setSetting .spBankVsel 0 b vsel).setReg .spBankRamping 0 b 1)

/-- BANK_VSEL_WRITE (R372). -/
def execBankVselWrite (o : Origin) (b vsel : Nat) (s : State) : Host.Outcome State Fault Refusal :=
  .next (if s.sys.off then s else s.wrBankVsel o b vsel)

/-- The rail has reached its voltage: each pin of the bank resumes as if switching from high-Z (R372). -/
def State.rampDone (s : State) (b : Nat) : State :=
  if s.flag .spBankRamping 0 b then ((s.keepPads (bankPins b)).setReg .spBankRamping 0 b 0) else s

/-- BANK_RAMP_DONE (R372). -/
def execBankRampDone (b : Nat) (s : State) : Host.Outcome State Fault Refusal := .next (s.rampDone b)

/-! ## General-purpose outputs (R379) -/

/-- The bits of a GPIO word whose pins the writer may write. -/
def State.gpioMask (s : State) (o : Origin) (hi : Bool) (mask : Nat) : Nat :=
  let base := if hi then 32 else 0
  let w := if hi then 16 else 32
  bitsToNat ((List.range w).map (fun k => bit mask k && s.mayPin o (base + k)))

/-- OUT bits replaced under the writer's rights. -/
def State.gpioPut (s : State) (o : Origin) (hi : Bool) (f : Nat → Nat) : State :=
  let r : Fld := if hi then .spGpioOutHi else .spGpioOutLo
  State.auditDiff o 0xFFFF r 0 0 s (s.setReg r 0 0 (f (s.reg r 0 0)))

/-- A write of SP.GPIO.OUT: each bit the writer may write takes its value. -/
def State.gpioWrite (s : State) (o : Origin) (hi : Bool) (v : Nat) : State :=
  let m := s.gpioMask o hi 0xFFFFFFFF
  s.gpioPut o hi (fun x => Nat.lor (x - Nat.land x m) (Nat.land v m))

/-- A write of SP.GPIO.SET. -/
def State.gpioSet (s : State) (o : Origin) (hi : Bool) (mask : Nat) : State :=
  s.gpioPut o hi (fun x => Nat.lor x (s.gpioMask o hi mask))

/-- A write of SP.GPIO.CLR. -/
def State.gpioClr (s : State) (o : Origin) (hi : Bool) (mask : Nat) : State :=
  s.gpioPut o hi (fun x => x - Nat.land x (s.gpioMask o hi mask))

/-- A write of SP.GPIO.TGL. -/
def State.gpioTgl (s : State) (o : Origin) (hi : Bool) (mask : Nat) : State :=
  s.gpioPut o hi (fun x => Nat.xor x (s.gpioMask o hi mask))

/-- GPIO_SET (R379). -/
def execGpioSet (o : Origin) (hi : Bool) (mask : Nat) (s : State) : Host.Outcome State Fault Refusal :=
  .next (if s.sys.off then s else s.gpioSet o hi mask)

/-- GPIO_CLR (R379). -/
def execGpioClr (o : Origin) (hi : Bool) (mask : Nat) (s : State) : Host.Outcome State Fault Refusal :=
  .next (if s.sys.off then s else s.gpioClr o hi mask)

/-- GPIO_TGL (R379). -/
def execGpioTgl (o : Origin) (hi : Bool) (mask : Nat) (s : State) : Host.Outcome State Fault Refusal :=
  .next (if s.sys.off then s else s.gpioTgl o hi mask)

/-! ## Shorts (R381) -/

/-- A driving pin is found shorted: its driver is released. -/
def State.pinShorted (s : State) (n : Nat) : State :=
  if (s.pinDrives n).isSome ∧ !s.flag .spPinShort 0 n then
    (s.setReg .spPinShort 0 n 1).mError .spShort (Fld.addr .spPinShort 0 n)
  else s

/-- PIN_SHORT (R381). -/
def execPinShort (n : Nat) (s : State) : Host.Outcome State Fault Refusal := .next (s.pinShorted n)

/-- A write of 1 to SP.PIN.SHORT re-enables the driver. -/
def State.shortClear (s : State) (o : Origin) (n : Nat) : State :=
  if s.mayPin o n then s.setReg .spPinShort 0 n 0 else s.auditRefuse o .notOwner 0xFFFF .spPinShort 0 n 0x10

/-- SHORT_CLEAR (R381). -/
def execShortClear (o : Origin) (n : Nat) (s : State) : Host.Outcome State Fault Refusal :=
  .next (if s.sys.off then s else s.shortClear o n)

/-! ## Pad latches and the strap (R382, R383) -/

/-- The latches engage: every pad keeps its level, its drive and its pull. -/
def State.latchPads (s : State) (stopClock : Bool) : State :=
  let code := fun n => 1 + 4 * s.pinPull n + (match s.pinDrives n with
    | some b => b2n b + 2
    | none => 0)
  let l := (List.range 48).map (fun n => ([n], code n))
  { s.setReg .spCfgLatched 0 0 1 with pins := { s.pins with latch := l, stopped := stopClock || s.pins.stopped } }

/-- The latches release; each pad resumes from its latched level. -/
def State.releasePads (s : State) : State :=
  let s1 := s.keepPads (if s.flag .spCfgLatched 0 0 then List.range 48 else [])
  { s1.setReg .spCfgLatched 0 0 0 with pins := { s1.pins with latch := [], stopped := false } }

/-- The strap closes: UART 1 takes SP46 and SP47; a stopped pin clock starts again. -/
def State.strapClose (s : State) : State :=
  let s1 := if s.pins.stopped then s.releasePads else s
  (s1.keepPads [46, 47]).setReg .spCfgStrap 0 0 1

/-- STRAP_CLOSE (R383). -/
def execStrapClose (s : State) : Host.Outcome State Fault Refusal := .next s.strapClose

/-- The strap opens: the service session ends (R304), a command of it in BUSY completes without a response, and the
two pins return to their functions. -/
def State.strapOpen (s : State) : State :=
  let gone := (s.host.busy.filter (fun b => decide (b.ref.org = .uart))).map (·.ref)
  let s1 := (s.keepPads [46, 47]).setReg .spCfgStrap 0 0 0
  { s1 with host := { s1.host with
    orphans := s1.host.orphans ++ gone
    posted := s1.host.posted.filter (fun x => decide (x.ref.org ≠ .uart))
    uartBusy := false } }

/-- STRAP_OPEN (R383). -/
def execStrapOpen (s : State) : Host.Outcome State Fault Refusal := .next s.strapOpen

/-! ## UARTs (R384, R385) -/

/-- UART 1 serves the service session (R383). -/
def State.uartTaken (s : State) (u : Nat) : Bool := decide (u = 1) && s.flag .spCfgStrap 0 0

/-- The receive FIFO of a UART. -/
def State.uartFifo (s : State) (u : Nat) : Bytes := Tab.get [] s.pins.uartRx [u]

/-- The receive FIFO of a UART set. -/
def State.setUartFifo (s : State) (u : Nat) (l : Bytes) : State :=
  { s with pins := { s.pins with uartRx := Tab.put [] s.pins.uartRx [u] l } }

/-- A byte arrives: it is held, or dropped and counted if it is bad or the FIFO is full. -/
def State.uartRx (s : State) (u byte : Nat) (bad : Bool) : State :=
  if s.uartTaken u ∨ s.pins.stopped ∨ (s.inputPin (0x39 + 2 * u)).isNone then s
  else if bad ∨ 4096 ≤ (s.uartFifo u).length then s.bump .spUartRxDrop 0 u 1
  else s.setUartFifo u (s.uartFifo u ++ [BitVec.ofNat 8 byte])

/-- UART_RX_BYTE (R384). -/
def execUartRxByte (u byte : Nat) (bad : Bool) (s : State) : Host.Outcome State Fault Refusal :=
  .next (if s.sys.off then s else s.uartRx u byte bad)

/-- Layout of SP_UART_CFG. -/
def lSpUartCfg : List PKind := [.int 1, .int 4, .int 1]

/-- SP_UART_CFG: the format is set and the receive FIFO emptied. -/
def cmdSpUartCfg (r : CmdRef) (u baud format : Nat) (s : State) : CmdRes :=
  refuseIf [s.ownerOrLocal r.org, (decide (2 ≤ u), .cmdFormat), (decide (baud < 300 ∨ 3000000 < baud), .cmdFormat),
    (decide (16 ≤ format ∨ format % 4 = 3), .cmdFormat), (s.uartTaken u, .spBusy)] s (fun s =>
    ({ (s.setUartFifo u []) with pins := { (s.setUartFifo u []).pins with
      uartBaud := Tab.put 0 s.pins.uartBaud [u] baud
      uartFormat := Tab.put 0 s.pins.uartFormat [u] format } }).oks)

/-- SP_UART_CFG (R385). -/
def execSpUartCfg (r : CmdRef) (u baud format : Nat) (s : State) : Host.Outcome State Fault Refusal :=
  .next (runCmd r 0x0E00 (formParams 0 [(.int 1, u), (.int 4, baud), (.int 1, format)]) 0xFFFF
    (cmdSpUartCfg r u baud format) s)

/-- Bytes leave a serial peripheral. -/
def State.serialOut (s : State) (kind unit : Nat) (bs : Bytes) : State :=
  { s with out := s.out ++ bs.map (fun b => Out.serial kind unit b.toNat) }

/-- SP_UART_SEND: the bytes leave. -/
def cmdSpUartSend (r : CmdRef) (u len : Nat) (data : Bytes) (s : State) : CmdRes :=
  refuseIf [(decide (data.length < len), .cmdFormat), s.ownerOrLocal r.org, (decide (2 ≤ u), .cmdFormat),
    (decide (len = 0 ∨ 1024 < len), .cmdFormat), (s.uartTaken u, .spBusy)] s
    (fun s => (s.serialOut 0 u (data.take len)).oks)

/-- SP_UART_SEND (R385). -/
def execSpUartSend (r : CmdRef) (u len : Nat) (data : Bytes) (s : State) : Host.Outcome State Fault Refusal :=
  .next (runCmd r 0x0E01 (formWith [(.int 1, u), (.int 2, len)] data) 0xFFFF (cmdSpUartSend r u len data) s)

/-- SP_UART_RECV: COUNT and the bytes taken from the FIFO. -/
def cmdSpUartRecv (r : CmdRef) (u max : Nat) (s : State) : CmdRes :=
  refuseIf [s.ownerOrLocal r.org, (decide (2 ≤ u), .cmdFormat), (decide (max = 0 ∨ 1024 < max), .cmdFormat),
    (s.uartTaken u, .spBusy)] s (fun s =>
    let got := (s.uartFifo u).take max
    (s.setUartFifo u ((s.uartFifo u).drop max), some ⟨.ok, 0, toLE 2 got.length ++ got⟩))

/-- SP_UART_RECV (R385). -/
def execSpUartRecv (r : CmdRef) (u max : Nat) (s : State) : Host.Outcome State Fault Refusal :=
  .next (runCmd r 0x0E02 (formParams 0 [(.int 1, u), (.int 2, max)]) 0xFFFF (cmdSpUartRecv r u max) s)

/-! ## I²C and SPI (R384, R385) -/

/-- SP_I2C_XFER: what the targets do is outside the module. An address that nothing can acknowledge, because no pin
carries SDA (R375), is a NACK; otherwise the transfer ends, by a free value, well, with a NACK of some byte, with a
timeout or with an arbitration loss. -/
def cmdSpI2cXfer (r : CmdRef) (bus speed addr wlen rlen : Nat) (data : Bytes) (s : State) : CmdRes :=
  refuseIf [(decide (data.length < wlen), .cmdFormat), s.ownerOrLocal r.org, (decide (2 ≤ bus), .cmdFormat),
    (decide (3 ≤ speed), .cmdFormat), (decide (128 ≤ addr), .cmdFormat), (decide (256 < wlen), .cmdFormat),
    (decide (256 < rlen), .cmdFormat)] s (fun s =>
    let sent := BitVec.ofNat 8 (2 * addr + b2n (decide (wlen = 0 ∧ 0 < rlen)))
    if (s.inputPin (0x3D + 2 * bus)).isNone then (s.serialOut 1 bus [sent], some ⟨.spI2cNack, 0xFFFF, []⟩)
    else
      let x := s.takeNat
      let y := x.2.takeNat
      let how := x.1 % 4
      let nack := if y.1 % (wlen + 1) = wlen then 0xFFFF else y.1 % (wlen + 1)
      if how = 1 then (y.2.serialOut 1 bus (sent :: (if nack = 0xFFFF then [] else data.take (nack + 1))),
        some ⟨.spI2cNack, nack, []⟩)
      else if how = 2 then (y.2, some ⟨.spI2cTimeout, 0, []⟩)
      else if how = 3 then (y.2.serialOut 1 bus [sent], some ⟨.spI2cArb, 0, []⟩)
      else (y.2.serialOut 1 bus (sent :: data.take wlen),
        some ⟨.ok, 0, (List.range rlen).map (Config.wireByte s.free)⟩))

/-- SP_I2C_XFER (R385). -/
def execSpI2cXfer (r : CmdRef) (bus speed addr wlen rlen : Nat) (data : Bytes) (s : State) :
    Host.Outcome State Fault Refusal :=
  .next (runCmd r 0x0E03 (formWith [(.int 1, bus), (.int 1, speed), (.int 1, addr), (.int 2, wlen), (.int 2, rlen)]
    data) 0xFFFF (cmdSpI2cXfer r bus speed addr wlen rlen data) s)

/-- SP_SPI_XFER: LEN bytes each way; MISO without a pin reads 1 (R375). -/
def cmdSpSpiXfer (r : CmdRef) (cs mode div len : Nat) (data : Bytes) (s : State) : CmdRes :=
  refuseIf [(decide (data.length < len), .cmdFormat), s.ownerOrLocal r.org, (decide (4 ≤ cs), .cmdFormat),
    (decide (4 ≤ mode), .cmdFormat), (decide (div < 2 ∨ 255 < div), .cmdFormat),
    (decide (len = 0 ∨ 1024 < len), .cmdFormat)] s (fun s =>
    let s1 := (s.serialOut 2 cs (data.take len)).takeNat.2
    if (s.inputPin 0x42).isNone then (s1, some ⟨.ok, 0, List.replicate len 0xFF⟩)
    else (s1, some ⟨.ok, 0, (List.range len).map (Config.wireByte s.free)⟩))

/-- SP_SPI_XFER (R385). -/
def execSpSpiXfer (r : CmdRef) (cs mode div len : Nat) (data : Bytes) (s : State) :
    Host.Outcome State Fault Refusal :=
  .next (runCmd r 0x0E04 (formWith [(.int 1, cs), (.int 1, mode), (.int 1, div), (.int 2, len)] data) 0xFFFF
    (cmdSpSpiXfer r cs mode div len data) s)

end Sys2Proof.Machine
end

