-- ==== Sys2Proof/Machine/Time.lean ====
section
/-! DEFINITION. The time base (chapter 13): anvil counters and their slew, reference counters, the servo with its PTP
and 1PPS sources, time captures, launchers, and TIME_STEP. -/

namespace Sys2Proof.Machine

/-- Trace is running or stopping (states 0x1 and 0x2). -/
def State.tracing (s : State) : Bool :=
  decide (s.reg .traceStatusState 0 0 = 1) || decide (s.reg .traceStatusState 0 0 = 2)

/-! ## Counters (R358, R359) -/

/-- A value clamped to a range around the nominal increment. -/
def clampIncr (slack v : Nat) : Nat := max (Config.incrNominal - slack) (min (Config.incrNominal + slack) v)

/-- The increment of the next tick (R359). -/
def State.nextIncr (s : State) : Nat :=
  if s.flag .timeCfgFollow 0 0 then
    let d : Int := (s.ctr 0 : Int) - s.refVal 0
    let slew := s.reg .timeCfgSlewPpm 0 0 * Config.incrNominal / 1000000
    let r := s.rate 0
    clampIncr Config.incrSlack
      (if d ≤ 2 ^ 32 ∧ -(2 ^ 32) ≤ d then r else if 0 < d then r - slew else r + slew)
  else clampIncr Config.incrSlack s.time.incr

/-- SLEW_NS: the anvil counter minus REF0, in ns. -/
def State.slewNs (s : State) : Int := ((s.ctr 0 : Int) - s.refVal 0) / 2 ^ 32

/-- OFFSET_NS as a signed number. -/
def State.offsetNs (s : State) : Int := signed 32 (s.reg .timeServoOffsetNs 0 0)

/-- BOUND_NS (R371). -/
def State.boundNs (s : State) : Nat :=
  if s.flag .timeStatusSet 0 0 then min ones32 (s.offsetNs.natAbs + s.slewNs.natAbs) else ones32

/-- Every anvil counter moved by a signed amount in units of 2^-32 ns. -/
def State.addCounters (s : State) (d : Int) : State :=
  { s with time := { s.time with ctr := (List.range s.grade.anvils).foldl (fun t a =>
      Tab.put 0 t [a] (unsigned 96 ((s.ctr a : Int) + d))) s.time.ctr } }

/-- A reference counter moved by a signed amount in units of 2^-32 ns. -/
def State.shiftRef (s : State) (k : Nat) (d : Int) : State :=
  { s with time := { s.time with anchor := Tab.put 0 s.time.anchor [k] (Tab.get 0 s.time.anchor [k] + d) } }

/-- A reference counter moved by a signed amount in ns. -/
def State.addRef (s : State) (k : Nat) (d : Int) : State := s.shiftRef k (d * 2 ^ 32)

/-- The rate of a reference counter set: the value does not move (R361). -/
def State.setRate (s : State) (k v : Nat) : State :=
  { s with time := { s.time with
    anchor := Tab.put 0 s.time.anchor [k] (s.refVal k)
    anchorCnt := Tab.put 0 s.time.anchorCnt [k] s.time.ticks
    rate := Tab.put Config.incrNominal s.time.rate [k] (clampIncr Config.rateSlack v) } }

/-! ## Launchers (R367, R368) -/

/-- T of a launcher. -/
def State.launchT (s : State) (k : Nat) : Nat := s.reg64 .timeLaunchTLo .timeLaunchTHi 0 k

/-- The due time of a launcher's next launch. -/
def State.launchDue (s : State) (k : Nat) : Nat :=
  s.launchT k + s.reg .timeLaunchDone 0 k * s.reg .timeLaunchPeriod 0 k

/-- A soft flag of a queue's task set. -/
def State.setSoft (s : State) (q m : Nat) : State :=
  (s.setReg .taskFlagsSoft q 0 (Nat.lor (s.reg .taskFlagsSoft q 0) m)).rescan q

/-- The action of one launch. -/
def State.launchAct (s : State) (k : Nat) : State :=
  let kind := s.reg .timeLaunchKind 0 k
  let sel := s.reg .timeLaunchSel 0 k
  let q := s.reg .timeLaunchQueue 0 k
  if kind = 1 then
    (s.trigPulse sel (s.reg .timeLaunchWidthM1 0 k + 1)).setReg64 .timeLaunchLastLo .timeLaunchLastHi 0 k
      (unsigned 64 ((s.clock : Int) - signed 16 (s.reg .timeAdjTrig 0 sel)))
  else if kind = 2 then
    if bit (s.reg .taskFlagsSoft q 0) sel then s.setReg .timeLaunchOverrun 0 k 1
    else (s.setSoft q (2 ^ sel)).setReg64 .timeLaunchLastLo .timeLaunchLastHi 0 k s.clock
  else s

/-- After launches: ARMED clears after the last one, with the event of R370. -/
def State.launchEnd (s : State) (k : Nat) : State :=
  let n := s.reg .timeLaunchCount 0 k
  if s.reg .timeLaunchPeriod 0 k = 0 ∨ (n ≠ 0 ∧ n ≤ s.reg .timeLaunchDone 0 k) then
    (s.setReg .timeLaunchArmed 0 k 0).mEvent 0x13 0
      (k + 256 * s.reg .timeLaunchLate 0 k + 512 * s.reg .timeLaunchOverrun 0 k)
  else s

/-- One launch on time. -/
def State.launchOne (s : State) (k : Nat) : State :=
  if s.flag .timeLaunchArmed 0 k ∧ s.launchDue k ≤ s.clock then
    ((s.launchAct k).bump .timeLaunchDone 0 k 1).launchEnd k
  else s

/-- Due times already passed: one launch at once, LATE, and on from the first due time in the future (R368). -/
def State.launchLate (s : State) (k : Nat) : State :=
  if s.flag .timeLaunchArmed 0 k ∧ s.launchDue k < s.clock then
    let p := s.reg .timeLaunchPeriod 0 k
    let n := if p = 0 then 1 else (s.clock - s.launchT k) / p + 1
    let cnt := s.reg .timeLaunchCount 0 k
    let n' := min ones32 (if cnt = 0 then n else min n cnt)
    (((s.launchAct k).setReg .timeLaunchLate 0 k 1).setReg .timeLaunchDone 0 k n').launchEnd k
  else s

/-- LAUNCH (R368). -/
def execLaunch (k : Nat) (s : State) : Host.Outcome State Fault Refusal := .next (s.launchOne k)

/-- A write of 1 to TIME.LAUNCH.ARM (R367). -/
def State.launchArm (s : State) (o : Origin) (k : Nat) : State :=
  let kind := s.reg .timeLaunchKind 0 k
  let p := s.reg .timeLaunchPeriod 0 k
  if !s.isOwnerOrLocal o then s.auditRefuse o .notOwner 0xFFFF .timeLaunchArm 0 k (2 ^ 30)
  else if kind = 3 ∨ (0 < p ∧ p < max 100 (5 * (s.reg .timeLaunchWidthM1 0 k + 3))) ∨
      (kind = 2 ∧ s.reg .queueCfgType (s.reg .timeLaunchQueue 0 k) 0 = 0) then
    s.setReg .timeLaunchSetupErr 0 k 1
  else ((s.setReg .timeLaunchArmed 0 k 1).setReg .timeLaunchDone 0 k 0).launchLate k

/-- LAUNCH_ARM (R367). -/
def execLaunchArm (o : Origin) (k : Nat) (s : State) : Host.Outcome State Fault Refusal :=
  .next (if s.sys.off then s else s.launchArm o k)

/-- A write of 1 to TIME.LAUNCH.DISARM stops the launcher at once. -/
def State.launchDisarm (s : State) (o : Origin) (k : Nat) : State :=
  if s.isOwnerOrLocal o then s.setReg .timeLaunchArmed 0 k 0
  else s.auditRefuse o .notOwner 0xFFFF .timeLaunchDisarm 0 k (2 ^ 29)

/-- LAUNCH_DISARM (R367). -/
def execLaunchDisarm (o : Origin) (k : Nat) (s : State) : Host.Outcome State Fault Refusal :=
  .next (if s.sys.off then s else s.launchDisarm o k)

/-! ## Steps (R360, R369) -/

/-- Every anvil counter steps, on one tick, by an amount in units of 2^-32 ns; launchers a forward step passes over launch
late (R360, R368). PPS out goes on from the second in which the counter then stands. -/
def State.stepCounters (s : State) (d : Int) : State :=
  let s0 := s.addCounters d
  let s1 := { s0 with time := { s0.time with ppsOutAt := (s0.clock + 999999999) / 1000000000 - 1 } }.mEvent 0x12 0
    (unsigned 64 (d / 2 ^ 32))
  if 0 < d then (List.range 16).foldl (fun s k => s.launchLate k) s1 else s1

/-- The boot step, unless it is deferred (R360). -/
def State.bootStep (s : State) : State :=
  let d := s.refVal 0 - (s.ctr 0 : Int)
  if s.tracing ∨ (d < 0 ∧ s.partitions ≠ []) then { s with time := { s.time with stepDue := true } }
  else
    let s1 := ({ s with time := { s.time with stepDue := false } }.stepCounters d).setReg .timeStatusSet 0 0 1
    s1.auditAction .ok 0xFFFF (Fld.addr .timeStatusSet 0 0)

/-- One tick of the time clock (R358, R359): every anvil counter takes the increment in effect, the references count,
and a boot step that waits is tried again. -/
def State.tick (s : State) : State :=
  if s.sys.off then s
  else
    let e := s.nextIncr
    let t := s.time
    let s1 := { s with
      time := { t with
        ctr := (List.range s.grade.anvils).foldl (fun c a => Tab.put 0 c [a] (Tab.get 0 t.ctr [a] + e)) t.ctr
        ticks := t.ticks + 1
        run := t.run + e
        eff := e }
      pins := s.pins.tick }
    if s1.time.stepDue then s1.bootStep else s1

/-- TIME_TICK (R359). -/
def execTimeTick (s : State) : Host.Outcome State Fault Refusal := .next s.tick

/-- TIME_STEP (R369): the counters and REF0 take the new value; a forward step moves REF1 as far. -/
def cmdTimeStep (r : CmdRef) (mode value : Nat) (s : State) : CmdRes :=
  let d : Int := if mode = 0 then signed 64 value * 2 ^ 32 else (value : Int) * 2 ^ 32 - (s.ctr 0 : Int)
  refuseIf [s.ownerOrLocal r.org, (decide (2 ≤ mode), .cmdFormat), (decide (s.reg .timeCfgPhaseSrc 0 0 ≠ 0), .timeBusy),
    (s.tracing, .timeBusy), (decide (d < 0 ∧ s.partitions ≠ []), .timeBusy)] s (fun s =>
    let s1 := s.shiftRef 0 ((s.ctr 0 : Int) + d - s.refVal 0)
    let s2 := if 0 < d then s1.shiftRef 1 d else s1
    (s2.stepCounters d).oks)

/-- TIME_STEP (R369). -/
def execTimeStep (r : CmdRef) (mode value : Nat) (s : State) : Host.Outcome State Fault Refusal :=
  .next (runCmd r 0x0D00 (formParams 0 [(.int 1, mode), (.int 8, value)]) 0xFFFF (cmdTimeStep r mode value) s)

/-! ## Writes of the time registers -/

/-- A write of the INCR_NS word of TIME.INCR (R359). -/
def State.wrIncr (s : State) (o : Origin) (v : Nat) : State :=
  if !s.isOwnerOrLocal o then s.auditRefuse o .notOwner 0xFFFF .timeIncrIncrNs 0 0 v
  else if s.flag .timeCfgFollow 0 0 then s.auditRefuse o .timeBusy 0xFFFF .timeIncrIncrNs 0 0 v
  else
    let s1 := s.setReg .timeIncrIncrNs 0 0 v
    let s2 := { s1 with time := { s1.time with incr := v * 2 ^ 32 + s1.reg .timeIncrFrac 0 0 } }
    State.auditDiff o 0xFFFF .timeIncrIncrNs 0 0 s s2

/-- TIME_INCR_WRITE (R359). -/
def execTimeIncrWrite (o : Origin) (incrNs : Nat) (s : State) : Host.Outcome State Fault Refusal :=
  .next (if s.sys.off then s else s.wrIncr o incrNs)

/-- Who may write reference `k` (R361): the servo firmware REF0, the steward REF1, the owner and local service REF2
and REF3. -/
def State.mayRef (s : State) (o : Origin) (k : Nat) : Bool :=
  if k = 0 then o = .cp 8 else if k = 1 then o = .cp s.steward else s.isOwnerOrLocal o

/-- A write of TIME.REF.RATE_NS (R361). -/
def State.wrRate (s : State) (o : Origin) (k v : Nat) : State :=
  if !s.mayRef o k then s.auditRefuse o .notOwner 0xFFFF .timeRefRateNs 0 k v
  else
    let s1 := s.setRate k (v * 2 ^ 32 + s.reg .timeRefRateFrac 0 k)
    State.auditDiff o 0xFFFF .timeRefRateNs 0 k s
      (s1.setReg64 .timeRefRateFrac .timeRefRateNs 0 k (s1.rate k))

/-- REF_RATE_WRITE (R361). -/
def execRefRateWrite (o : Origin) (k rateNs : Nat) (s : State) : Host.Outcome State Fault Refusal :=
  .next (if s.sys.off then s else s.wrRate o k rateNs)

/-- A write of TIME.REF.ADJ (R361): a negative ADJ on REF1 is discarded. -/
def State.wrAdj (s : State) (o : Origin) (k v : Nat) : State :=
  if !s.mayRef o k then s.auditRefuse o .notOwner 0xFFFF .timeRefAdj 0 k v
  else if k = 1 ∧ signed 32 v < 0 then s
  else s.addRef k (signed 32 v)

/-- REF_ADJ (R361). -/
def execRefAdj (o : Origin) (k adj : Nat) (s : State) : Host.Outcome State Fault Refusal :=
  .next (if s.sys.off then s else s.wrAdj o k adj)

/-! ## The servo (R362) -/

/-- The servo enters a state, with the event of R370. -/
def State.servoTo (s : State) (st : Nat) : State :=
  if s.reg .timeStatusServo 0 0 = st then s
  else
    let s1 := (s.setReg .timeStatusServo 0 0 st).mEvent 0x11 0 (st + 256 * s.reg .timeStatusSet 0 0)
    { s1 with time := { s1.time with good := 0 } }

/-- The servo takes PTP. -/
def State.usesPtp (s : State) : Bool :=
  decide (s.reg .timeCfgPhaseSrc 0 0 = 1) || decide (s.reg .timeCfgPhaseSrc 0 0 = 3)

/-- The servo takes 1PPS. -/
def State.usesPps (s : State) : Bool :=
  decide (s.reg .timeCfgPhaseSrc 0 0 = 2) || decide (s.reg .timeCfgPhaseSrc 0 0 = 3)

/-- Every source that PHASE_SRC names is valid: a master that sends Sync, and accepted PPS edges. -/
def State.sourceValid (s : State) : Bool :=
  (!s.usesPtp || (s.time.master.isSome && s.time.ptpUp)) && (!s.usesPps || s.time.ppsLast.isSome)

/-- What the module holds of its masters is given up. -/
def State.ptpForget (s : State) : State :=
  { s with time := { s.time with foreign := [], master := none, ptpUp := false, sync := none, delayReq := none } }

/-- PHASE_SRC has been written or loaded: FREE without a source, ACQUIRING from FREE with one. -/
def State.servoSource (s0 : State) : State :=
  let s := if s0.usesPtp then s0 else s0.ptpForget
  if s.reg .timeCfgPhaseSrc 0 0 = 0 then s.servoTo 0
  else if s.reg .timeStatusServo 0 0 = 0 then s.servoTo 1 else s

/-- The servo corrects REF0 by ADJ and RATE: by how much the spec leaves to the firmware, a free value. -/
def State.servoCorrect (s : State) : State :=
  let x := s.takeNat
  let y := x.2.takeNat
  (y.2.addRef 0 (signed 64 x.1)).setRate 0 y.1

/-- HOLDOVER ends once every source is valid again (R362). -/
def State.servoBack (s : State) : State :=
  if s.reg .timeStatusServo 0 0 = 3 ∧ s.sourceValid then s.servoTo 1 else s

/-- An update of the servo with the offset of REF0 from its source (R362): it takes one only from valid sources. -/
def State.servoUpdate (s00 : State) (off : Int) : State :=
  let s := s00.servoBack
  if !s.sourceValid then s else
  let st := s.reg .timeStatusServo 0 0
  let s0 := s.setReg .timeServoOffsetNs 0 0 (satSigned 32 off)
  let mag := off.natAbs
  let s1 :=
    if st = 1 then
      if mag < s.reg .timeServoLockNs 0 0 then
        if 16 ≤ s.time.good + 1 then
          let l := s0.servoTo 2
          if l.flag .timeStatusSet 0 0 then l else l.bootStep
        else { s0 with time := { s0.time with good := s0.time.good + 1 } }
      else { s0 with time := { s0.time with good := 0 } }
    else if st = 2 ∧ s.reg .timeServoUnlockNs 0 0 < mag then s0.servoTo 1
    else s0
  if s1.reg .timeStatusServo 0 0 = 1 ∨ s1.reg .timeStatusServo 0 0 = 2 then s1.servoCorrect else s1

/-- The phase source is lost: HOLDOVER, REF0 keeps its last RATE, and the error event. -/
def State.servoLoss (s : State) : State :=
  let st := s.reg .timeStatusServo 0 0
  if st = 1 ∨ st = 2 then (s.servoTo 3).mError .timeSourceLost (Fld.addr .timeStatusServo 0 0) else s

/-- REF0 in ns, as a signed number. -/
def State.ref0 (s : State) : Int := s.refVal 0 / 2 ^ 32

/-- delayAsymmetry (R363). -/
def State.asym (s : State) : Int := signed 32 (s.reg .timeAdjAsym 0 0)

/-- A complete Sync: its receive stamp, its origin and its correction. Under PHASE_SRC 0x3 it only corrects the second
count. -/
def State.ptpSync (s : State) (rx origin corr : Int) : State :=
  let ms := rx - origin - corr
  let s1 := { s with time := { s.time with msDelay := ms, ptpUp := true } }
  let off := ms - signed 32 (s.reg .timePtpMeanDelayNs 0 0) - s.asym
  if s.reg .timeCfgPhaseSrc 0 0 = 3 ∧ off.natAbs < 500000000 then s1.servoBack else s1.servoUpdate off

/-- The better of two foreign masters: the lower rank, then the lower clockIdentity. -/
def Foreign.best (x y : Foreign) : Foreign := if y.rank < x.rank ∨ (y.rank = x.rank ∧ y.id < x.id) then y else x

/-- The best foreign master is the master: its clockIdentity and its currentUtcOffset, which ARB ignores, are shown. Another
master starts with no message of the one before it. -/
def State.ptpSelect (s : State) : State :=
  match s.time.foreign with
  | [] => { s with time := { s.time with master := none, ptpUp := false, sync := none, delayReq := none } }
  | x :: xs =>
    let m := xs.foldl Foreign.best x
    let s1 := if s.time.master = some m.id then s
      else { s with time := { s.time with master := some m.id, sync := none, delayReq := none } }
    let s2 := s1.setReg64 .timePtpMasterLo .timePtpMasterHi 0 0 m.id
    if m.arb then s2 else s2.setReg .timePtpUtcOffset 0 0 m.utc

/-- An Announce: up to eight foreign masters are kept, and the best of them is the master. -/
def State.ptpAnnounce (s : State) (m : Foreign) : State :=
  let l := s.time.foreign
  let l1 := if l.any (fun x => decide (x.id = m.id)) then l.map (fun x => if x.id = m.id then m else x)
    else if l.length < 8 then l ++ [m] else l
  { s with time := { s.time with foreign := l1 } }.ptpSelect

/-- The interval of 2^i seconds, in ns. -/
def logInterval (i : Int) : Nat := if 0 ≤ i then 1000000000 * 2 ^ i.toNat else 1000000000 / 2 ^ (-i).toNat

/-- A PTP message of the configured domain and transport is received and stamped (R363, R365). Only an Announce may come from
another clock than the master. -/
def State.ptp (s : State) (m : PtpMsg) : State :=
  if !s.usesPtp ∨ m.domain ≠ s.reg .timePtpCfgDomain 0 0 ∨ m.l2 ≠ s.flag .timePtpCfgL2 0 0 then s
  else
    let rx := s.ref0 - signed 16 (s.reg .timeAdjEthRx 0 0)
    let ours := s.time.master = some m.source
    match m.body with
    | .announce utc rank arb => s.ptpAnnounce ⟨m.source, rank, utc, arb⟩
    | .sync seq twoStep origin corr =>
      if !ours then s
      else if twoStep then { s with time := { s.time with sync := some (seq, unsigned 64 rx, corr) } }
      else s.ptpSync rx origin corr
    | .followUp seq origin corr =>
      match s.time.sync with
      | some (q, stamp, c) =>
        if ours ∧ q = seq then
          { s with time := { s.time with sync := none } }.ptpSync (signed 64 stamp) origin (c + corr)
        else s
      | none => s
    | .delayResp seq receive corr interval =>
      match s.time.delayReq with
      | some (q, stamp) =>
        if ours ∧ q = seq then
          let sm := receive - signed 64 stamp - corr
          let mean := (s.time.msDelay + sm) / 2
          let s1 := { s with time := { s.time with delayReq := none, delayGap := logInterval interval } }
          s1.setReg .timePtpMeanDelayNs 0 0 (satSigned 32 mean)
        else s
      | none => s

/-- PTP_MESSAGE (R363). -/
def execPtpMessage (m : PtpMsg) (s : State) : Host.Outcome State Fault Refusal := .next (if s.sys.off then s else s.ptp m)

/-- A Delay_Req is due: the module has a master, and the interval since the last one has passed. -/
def State.delayDue (s : State) : Bool :=
  s.usesPtp && s.time.master.isSome && s.time.delayAt.all (fun t => decide (t + s.time.delayGap ≤ s.now))

/-- A Delay_Req is sent and stamped (R363, R365). -/
def State.delayReqOut (s : State) : State :=
  if !s.delayDue then s
  else
    let stamp := unsigned 64 (s.ref0 + signed 16 (s.reg .timeAdjEthTx 0 0))
    let q := s.time.delaySeq
    { s with
      time := { s.time with delayReq := some (q, stamp), delaySeq := (q + 1) % 2 ^ 16, delayAt := some s.now }
      out := s.out ++ [Out.delayReq q stamp] }

/-- DELAY_REQ_SEND (R363). -/
def execDelayReqSend (s : State) : Host.Outcome State Fault Refusal := .next (if s.sys.off then s else s.delayReqOut)

/-- The master is lost (R363): the next best foreign master, if any, is the master. -/
def State.ptpLoss (s : State) : State :=
  if s.usesPtp then
    let l := s.time.foreign.filter (fun x => decide (some x.id ≠ s.time.master))
    { s with time := { s.time with foreign := l, ptpUp := false, sync := none, delayReq := none } }.ptpSelect.servoLoss
  else s

/-- PTP_SOURCE_LOSS (R363). -/
def execPtpSourceLoss (s : State) : Host.Outcome State Fault Refusal := .next s.ptpLoss

/-- An edge of PPS in (R364): accepted if it follows the last accepted one by 1 s ± 100 µs; the first after a loss is
accepted as it comes. -/
def State.ppsIn (s : State) : State :=
  if (s.inputPin 0x30).isNone ∨ s.pins.stopped then s
  else
    let t := s.now
    let ok := match s.time.ppsLast with
      | none => true
      | some u => decide (u + 999900000 ≤ t ∧ t ≤ u + 1000100000)
    if !ok then s
    else
      let s1 := { s with time := { s.time with ppsLast := some t } }
      if s.usesPps then
        let v := s.ref0 - signed 16 (s.reg .timeAdjPps 0 0)
        s1.servoUpdate ((v + 500000000) % 1000000000 - 500000000)
      else s1

/-- PPS_EDGE (R364). -/
def execPpsEdge (s : State) : Host.Outcome State Fault Refusal := .next s.ppsIn

/-- Two seconds without an accepted edge (R364). -/
def State.ppsLost (s : State) : State :=
  let due := match s.time.ppsLast with
    | none => true
    | some u => decide (u + 2000000000 ≤ s.now)
  if due then
    let s1 := { s with time := { s.time with ppsLast := none } }.setReg .timeStatusPpsLost 0 0 1
    if s.usesPps then s1.servoLoss else s1
  else s

/-- PPS_LOSS (R364). -/
def execPpsLoss (s : State) : Host.Outcome State Fault Refusal := .next (if s.sys.off then s else s.ppsLost)

/-- PPS out rises at a whole second of the anvil counter (R364). -/
def State.ppsRise (s : State) : State :=
  let sec := s.clock / 1000000000
  if s.time.ppsOutAt < sec then
    { s with time := { s.time with ppsOutAt := sec }, out := s.out ++ [Out.pps (sec * 1000000000)] }
  else s

/-- PPS_OUT (R364). -/
def execPpsOut (s : State) : Host.Outcome State Fault Refusal := .next s.ppsRise

/-! ## Clock source (R357) and faults -/

/-- The 10 MHz input is lost: the PLL holds its last frequency. -/
def State.freqLoss (s : State) : State :=
  if s.flag .timeCfgFreqSrc 0 0 ∧ !s.time.freqHeld then
    let s1 := { s with time := { s.time with freqHeld := true } }
    (s1.setReg .timeStatusFreqLost 0 0 1).mError .timeSourceLost (Fld.addr .timeStatusFreqLost 0 0)
  else s

/-- FREQ_SOURCE_LOSS (R357). -/
def execFreqSourceLoss (s : State) : Host.Outcome State Fault Refusal := .next s.freqLoss

/-- PLL_RELOCK (R357): the PLL follows its source again; no tick is removed or added. -/
def execPllRelock (s : State) : Host.Outcome State Fault Refusal :=
  .next { s with time := { s.time with freqHeld := false } }

/-- The anvil counters differ (R358): a module fault. -/
def State.counterFault (s : State) : State :=
  ((s.setReg .timeStatusMismatch 0 0 1).mError .timeMismatch (Fld.addr .timeStatusMismatch 0 0)).moduleFault
    (Fld.addr .timeStatusMismatch 0 0)

/-- COUNTER_MISMATCH (R358): the counters of two control islands that are on differ (R396). -/
def execCounterMismatch (s : State) : Host.Outcome State Fault Refusal :=
  .next (if s.sys.off ∨ ((List.range s.grade.anvils).filter (fun a => !Tab.get false s.sys.islandOff [a])).length < 2 then s
    else s.counterFault)

/-! ## Captures (R366) -/

/-- A write of 1 to TIME.CAP.ARM. -/
def State.capArm (s : State) (o : Origin) (src : Nat) : State :=
  if !s.isOwnerOrLocal o then s.auditRefuse o .notOwner 0xFFFF .timeCapArm 0 0 (0x100 + src)
  else
    let s1 := (s.setReg .timeCapValid 0 0 0).setReg .timeCapSrc 0 0 src
    State.auditDiff o 0xFFFF .timeCapArm 0 0 s { s1 with time := { s1.time with capArmed := some src } }

/-- TIME_CAP_ARM (R366). -/
def execTimeCapArm (o : Origin) (src : Nat) (s : State) : Host.Outcome State Fault Refusal :=
  .next (if s.sys.off then s else s.capArm o src)

/-- An event of a capture point, with its corrected stamp. -/
def State.capEvent (s : State) (src stamp : Nat) : State :=
  if s.time.capArmed = some src then
    let s1 := (s.setReg .timeCapValid 0 0 1).setReg64 .timeCapTsLo .timeCapTsHi 0 0 stamp
    { s1 with time := { s1.time with capArmed := none } }
  else s

end Sys2Proof.Machine
end

