-- ==== Sys2Proof/Machine/Compare.lean ====
section
/-! DEFINITION. The compare engine of a partition (chapter 05): vector FIFOs, start checks, marks, the compare with its
fail map, and the edge of a trigger input (R376). -/

namespace Sys2Proof.Machine

/-! ## Vector FIFOs (R169, R339) -/

/-- The bytes of the slots of a stream FIFO from a sequence number on, as far as no hole interrupts them. -/
def Fifo.slotBytes (f : Fifo) : Nat → Nat → Bytes
  | 0, _ => []
  | n + 1, q =>
    if Tab.get false f.held [q % 512] then Tab.get [] f.slots [q % 512] ++ Fifo.slotBytes f n (q + 1) else []

/-- The bytes that the engine can consume, in order. -/
def Fifo.ready (f : Fifo) : Bytes := f.bytes ++ (f.slotBytes 512 f.head).drop f.used

/-- Slots whose bytes have all been consumed are freed: `used` bytes are consumed from slot `head` on. -/
def Fifo.free : Nat → Fifo → Fifo
  | 0, f => f
  | n + 1, f =>
    let i := f.head % 512
    if Tab.get false f.held [i] ∧ (Tab.get [] f.slots [i]).length ≤ f.used then
      Fifo.free n { f with
        used := f.used - (Tab.get [] f.slots [i]).length
        slots := Tab.put [] f.slots [i] []
        held := Tab.put false f.held [i] false
        head := f.head + 1 }
    else f

/-- Bytes consumed. -/
def Fifo.consume (f : Fifo) (n : Nat) : Fifo :=
  let k := min n f.bytes.length
  Fifo.free 513 { f with bytes := f.bytes.drop k, used := f.used + (n - k) }

/-- The fill level: bytes held and not yet consumed, holes or not. -/
def Fifo.level (f : Fifo) : Nat := f.bytes.length + (f.slots.foldl (fun n e => n + e.2.length) 0 - f.used)

/-- Slots in use. -/
def Fifo.slotsUsed (f : Fifo) : Nat := f.held.length

/-- A frame put into its slot (R339); a duplicate changes nothing. -/
def Fifo.place (f : Fifo) (q : Nat) (bs : Bytes) : Fifo :=
  if Tab.get false f.held [q % 512] then f
  else Fifo.free 513 { f with slots := Tab.put [] f.slots [q % 512] bs, held := Tab.put false f.held [q % 512] true }

/-- Frames held in order from `head` on. -/
def Fifo.inOrder (f : Fifo) : Nat := (List.range 512).findIdx (fun k => !Tab.get false f.held [(f.head + k) % 512])

/-- A FIFO that another source feeds from now on: the bytes that can be consumed stay. -/
def Fifo.rebase (f : Fifo) (src : Option Nat) (head : Nat) : Fifo := { Fifo.init with bytes := f.ready, src := src, head := head }

/-- A stream's record. -/
def State.stream (s : State) (k : Nat) : Stream := Tab.get Stream.init s.wl.streams [k]
/-- A stream's record changed. -/
def State.modStream (s : State) (k : Nat) (f : Stream → Stream) : State :=
  { s with wl := { s.wl with streams := Tab.modify Stream.init s.wl.streams [k] f } }

/-- The stimulus FIFO or the response FIFO of a partition. -/
def State.fifo (s : State) (p : Nat) (stim : Bool) : Fifo := if stim then (s.part p).stim else (s.part p).resp
/-- The same, replaced. -/
def State.setFifo (s : State) (p : Nat) (stim : Bool) (f : Fifo) : State :=
  s.modPart p (fun x => if stim then { x with stim := f } else { x with resp := f })

/-- A vector FIFO is fed by a stream, or by none, from now on. A stream that fed it before keeps its place: frames in order
count as taken. -/
def State.fifoFrom (s : State) (p : Nat) (stim : Bool) (src : Option Nat) : State :=
  let f := s.fifo p stim
  if f.src = src then s
  else
    let s1 := match f.src with
      | some k => s.modStream k (fun x => { x with head := (f.head + f.inOrder) % 2 ^ 32 })
      | none => s
    s1.setFifo p stim (f.rebase src (match src with | some k => (s.stream k).head | none => 0))

/-- Both FIFOs of a partition without a stream. -/
def State.fifosFree (s : State) (p : Nat) : State := (s.fifoFrom p true none).fifoFrom p false none

/-- The lowest inbound SSEQ of a stream that is not yet freed (R340, R356). -/
def State.streamHead (s : State) (k : Nat) : Nat :=
  let x := s.part (s.reg .wlStreamBindPart k 0)
  (if x.stim.src = some k then x.stim.head else if x.resp.src = some k then x.resp.head else (s.stream k).head) % 2 ^ 32

/-! ## What a cycle needs (R166, R171) -/

/-- Bytes of a vector of `n` bits. -/
def vecBytes (n : Nat) : Nat := 8 * ((n + 63) / 64)

/-- Bytes of an input vector in the stimulus source; none without one. -/
def State.inBytes (s : State) (p : Nat) : Nat :=
  if s.reg .partCmpSrcStim p 0 = 0 then 0 else vecBytes (s.reg .partCmpDimNIn p 0)

/-- Bytes of a response vector, and with its care vector. -/
def State.respLen (s : State) (p : Nat) : Nat := vecBytes (s.reg .partCmpDimNOut p 0)

/-- The response source carries the response that cycle `n` needs (R166). -/
def State.respDue (s : State) (p n : Nat) : Bool :=
  let d := s.reg .partCmpLatDCmp p 0
  decide (s.reg .partCmpSrcResp p 0 ≠ 0) && decide (d ≤ n) && decide ((s.part p).respFrom ≤ n - d)

/-- Bytes of the response and care vectors that cycle `n` needs. -/
def State.respBytes (s : State) (p n : Nat) : Nat :=
  if s.respDue p n then s.respLen p * (1 + s.reg .partCmpSrcCare p 0) else 0

/-- The response comes with the input vectors. -/
def State.oneSource (s : State) (p : Nat) : Bool := decide (s.reg .partCmpSrcStim p 0 = s.reg .partCmpSrcResp p 0)

/-- Something that step 0 of cycle `n` needs is missing. -/
def State.missing (s : State) (p n : Nat) : Bool :=
  let x := s.part p
  let inN := s.inBytes p + (if s.oneSource p then s.respBytes p n else 0)
  let rsN := if s.oneSource p then 0 else s.respBytes p n
  decide (x.stim.ready.length < inN) || decide (x.resp.ready.length < rsN) ||
    (decide (s.reg .partCmpPaceMode p 0 ≠ 0) && decide (s.reg .partCmpMarkPending p 0 = 0))

/-- The start check of cycle `n` (R166): with something missing, cause 0x4 asserts. -/
def State.startCheck (s : State) (p n : Nat) (at_ : Nat × Nat) : State :=
  if s.missing p n then (s.modPart p (fun x => { x with underCycle := n })).assertCause p Cause.underrun at_ else s

/-- Data for a partition has arrived: cause 0x4 releases once everything is present. -/
def State.arrived (s : State) (p : Nat) : State :=
  if bit (s.activeMask p) Cause.underrun ∧ !s.missing p (s.part p).underCycle then s.releaseCause p Cause.underrun else s

/-- A mode change is due at the boundary that ends the present cycle (R166). -/
def State.modeDue (s : State) (p : Nat) : Bool :=
  let x := s.part p
  decide (x.stops ≠ []) || decide (x.halts ≠ []) || (decide (x.haltReqs ≠ []) && decide (s.reg .partHaltMode p 0 = 1)) ||
    decide (s.reg64 .partRunLeftLo .partRunLeftHi p 0 = 1)

/-- A mode change has fallen due: cause 0x4 releases (R166). -/
def State.dueNow (s : State) (p : Nat) : State :=
  if s.modeDue p ∧ bit (s.activeMask p) Cause.underrun ∧ s.cycle p < (s.part p).underCycle then s.withdraw p Cause.underrun
  else s

/-- At step 0 the engine takes the input vector, the response and the mark of the cycle that begins (R166, R171). -/
def State.takeVectors (s : State) (p : Nat) : State :=
  let n := s.cycle p
  let x := s.part p
  let a := s.inBytes p
  let r := s.respBytes p n
  let one := s.oneSource p
  let src := if one then x.stim.ready.drop a else x.resp.ready
  let len := s.respLen p
  let rv := leVal (src.take len)
  let care := if s.reg .partCmpSrcCare p 0 = 1 then leVal ((src.drop len).take len) else 2 ^ s.reg .partCmpDimNOut p 0 - 1
  let d := s.reg .partCmpLatDCmp p 0
  let s1 := s.modPart p (fun x => { x with
    inVec := if a = 0 then 0 else leVal (x.stim.ready.take a)
    stim := x.stim.consume (a + (if one then r else 0))
    resp := x.resp.consume (if one then 0 else r)
    cycs := if r = 0 then x.cycs else x.cycs.map (fun (c : CycRec) =>
      if c.cycle + d = n then { c with resp := rv, care := care } else c) })
  if s1.reg .partCmpPaceMode p 0 ≠ 0 then s1.setReg .partCmpMarkPending p 0 (s1.reg .partCmpMarkPending p 0 - 1) else s1

/-! ## Marks (R167, R168) -/

/-- Marks arrive: counted and held in FREE-RUN, LOCKSTEP and INSPECT, up to 256. -/
def State.deliverMarks (s : State) (p n : Nat) : State :=
  if s.mode p < Mode.freeRun then s
  else
    let s1 := (List.range n).foldl (fun s _ =>
      let k := s.reg .partCmpMarkPending p 0
      if k < 256 then s.setReg .partCmpMarkPending p 0 (k + 1)
      else (s.setReg .partCmpStatusMarkOverrun p 0 1).pError p .markOverrun (Fld.addr .partCmpStatusMarkOverrun p 0)) s
    s1.arrived p

/-! ## The compare (R172 to R177) -/

/-- The emulated value of a pin in a cycle, if the cycle has one. -/
def outAt (cs : List CycRec) (c i : Nat) : Option Bool := (cs.find? (fun (r : CycRec) => decide (r.cycle = c))).map (fun r => bit r.outs i)

/-- Pin `i` fails in the cycle of a record (R173). -/
def pinFails (cs : List CycRec) (r : CycRec) (entry i : Nat) : Bool :=
  let mode := bits entry 31 30
  let w := bits entry 29 27
  let x := bit r.resp i
  (decide (mode = 1) || (decide (mode = 2) && bit r.care i)) &&
    (List.range (2 * w + 1)).all (fun k => decide (r.cycle + k < w) || decide (outAt cs (r.cycle + k - w) i ≠ some x))

/-- The pins whose entries are not 0, rising, with their entries. -/
def State.pinEntries (s : State) (p : Nat) : List (Nat × Nat) :=
  s.regs.filterMap (fun e =>
    if e.1.getD 0 0 = Fld.partCmpPin.ctorIdx ∧ e.1.getD 1 0 = p then e.2.map (fun v => (e.1.getD 2 0, v)) else none)

/-- A fail record (R175). -/
def failRecord (s : State) (p : Nat) (r : CycRec) (i entry seq nfail : Nat) (first : Bool) : Bytes :=
  let care := s.reg .partCmpSrcCare p 0 = 0 ∨ bit r.care i
  let b := toLE 8 r.cycle ++ toLE 8 r.start ++ toLE 2 i ++
    toLE 1 (b2n (bit r.resp i) + 2 * b2n (bit r.outs i) + 4 * b2n (decide care) + 8 * bits entry 29 27 + 64 * b2n first) ++
    toLE 1 0 ++ toLE 4 seq ++ toLE 4 nfail
  b ++ toLE 4 (crc32 b)

/-- A fail record formed: it takes its number and goes into the buffer, or is dropped (R176). -/
def State.formFail (p : Nat) (r : CycRec) (nfail : Nat) (s : State) (e : Nat × Nat) : State :=
  let x := s.part p
  let b := failRecord s p r e.1 e.2 x.failSeq nfail x.failFirst
  let s1 := s.modPart p (fun x => { x with failSeq := x.failSeq + 1, failFirst := false })
  if x.failBuf.length < 1024 then s1.modPart p (fun x => { x with failBuf := x.failBuf ++ [b] })
  else (s1.bump .partCmpFmapDropCount p 0 1).setReg .partCmpStatusFmapDrop p 0 1

/-- The fails of a compared cycle are counted and recorded. -/
def State.recordFails (s : State) (p : Nat) (r : CycRec) (fs : List (Nat × Nat)) : State :=
  let s1 := ((s.bump .partCmpFailCount p 0 fs.length).bump .partCmpFailCycles p 0 1).setReg .partCmpStatusFail p 0 1
  let s2 := fs.foldl (fun s e => if bit e.2 26 then s.bump .partCmpPincnt p e.1 1 else s) s1
  let s3 :=
    if s2.flag .partCmpFirstValid p 0 then s2
    else ((s2.setReg .partCmpFirstValid p 0 1).setReg .partCmpFirstPin p 0 ((fs.map (·.1)).headD 0)).setReg64
      .partCmpFirstCycleLo .partCmpFirstCycleHi p 0 r.cycle
  let s4 :=
    if s3.flag .partCmpEnFmap p 0 then
      let s4 := fs.foldl (State.formFail p r fs.length) (s3.modPart p (fun x => { x with failFirst := true }))
      State.pushFails ((s4.part p).failBuf.length + 1) p s4
    else s3
  s4.failPulse p

/-- The compare made in the present cycle (R172): that of the cycle D_CMP before it. -/
def State.compareCycle (s : State) (p : Nat) : State :=
  let n := s.cycle p
  let d := s.reg .partCmpLatDCmp p 0
  let cs := (s.part p).cycs
  let set := fun (s : State) (b : Bool) => s.modPart p (fun x => { x with failNow := b })
  match cs.find? (fun (r : CycRec) => decide (r.cycle + d = n)) with
  | none => set s false
  | some r =>
    let fs := if r.compare then
        (s.pinEntries p).filter (fun e => decide (e.1 < s.reg .partCmpDimNOut p 0) && pinFails cs r e.2 e.1) else []
    if fs = [] then set s false else set (s.recordFails p r fs) true

/-- At the boundary that ends the present cycle: FAIL_RECENT and FAIL_STICKY (R172), and the records of cycles that no
later compare can use leave the engine. -/
def State.compareBoundary (s : State) (p : Nat) : State :=
  let n := s.cycle p
  let d := s.reg .partCmpLatDCmp p 0
  s.modPart p (fun x => { x with
    failRecent := x.failNow
    failSticky := x.failSticky || x.failNow
    failNow := false
    cycs := x.cycs.filter (fun (r : CycRec) => decide (n < r.cycle + d + 8)) })

/-- The stream of a partition (R179, R356): the one its CMP block names, while it is bound to the partition. -/
def State.partStream (s : State) (p : Nat) : Option Nat :=
  let k := s.reg .partCmpSrcStream p 0
  if s.flag .wlStreamBindValid k 0 ∧ s.reg .wlStreamBindPart k 0 = p then some k else none

/-- A FLUSH (R178, R341): both vector FIFOs, the held marks and every pending compare are discarded, and the sources start
again with the cycle that runs next. A stream changes its IN_GEN and gets new credit. -/
def State.flush (s : State) (p : Nat) : State :=
  let s1 := ((s.fifosFree p).modPart p (fun x => { x with
    stim := Fifo.init
    resp := Fifo.init
    respFrom := s.cycle p
    cycs := x.cycs.map (fun (r : CycRec) => { r with compare := false }) })).setReg .partCmpMarkPending p 0 0
  match s.partStream p with
  | some k =>
    if s.reg .partCmpSrcStim p 0 = 2 ∨ s.reg .partCmpSrcResp p 0 = 2 then
      ((s1.setReg .wlStreamInGen k 0 (1 - s.reg .wlStreamInGen k 0)).setReg .wlStreamInLimit k 0 512).modStream k
        (fun x => { x with head := 0 })
    else s1
  | none => s1

/-! ## Trigger inputs (R163, R167, R222, R250, R366, R376) -/

/-- A rising edge of trigger input `k`. -/
def State.trigEdge (s : State) (k : Nat) : State :=
  if (s.inputPin (0x10 + k)).isNone ∨ s.pins.stopped then s
  else
    let stamp := unsigned 64 ((s.clock : Int) - signed 16 (s.reg .timeAdjTrig 0 k))
    let s1 := s.partitions.foldl (fun s p =>
      let s1 := s.modPart p (fun x => { x with edges := if x.edges.contains k then x.edges else x.edges ++ [k] })
      let s2 := if s.flag .partStopPinEn p 0 ∧ s.reg .partStopPin p 0 = k then s1.testerStop p else s1
      if s.reg .partCmpPaceMode p 0 = 2 ∧ s.reg .partCmpPaceMarkPin p 0 = k then s2.deliverMarks p 1 else s2) s
    let s2 := s1.capEvent (0x80 + k) stamp
    s2.traceSignal 1 k

/-- TRIGGER_INPUT_EDGE (R376). -/
def execTriggerInputEdge (k : Nat) (s : State) : Host.Outcome State Fault Refusal := .next (s.trigEdge k)

end Sys2Proof.Machine
end

