-- ==== Sys2Proof/Machine/Observe.lean ====
section
/-! DEFINITION. Capture, triggers and acquisition (chapter 07): the trigger sequencer, the acquisition unit, full-state
capture, readback and deposit. -/

namespace Sys2Proof.Machine

/-! ## The trigger sequencer (R221 to R224) -/

/-- A counter of the sequencer, 48 bits. -/
def State.trigCnt (s : State) (p j : Nat) : Nat := s.reg64 .partTrigCntValueLo .partTrigCntValueHi p j

/-- A counter set. -/
def State.setTrigCnt (s : State) (p j v : Nat) : State := s.setReg64 .partTrigCntValueLo .partTrigCntValueHi p j v

/-- A timer has expired: running, and the time is at or past its deadline. -/
def State.tmrExpired (s : State) (p j : Nat) : Bool :=
  s.flag .partTrigTmrRunning p j &&
    (match Tab.get none (s.part p).deadline [j] with
     | some d => decide (d ≤ s.ctrNs (s.homeAnvil p))
     | none => false)

/-- The inputs of the compare at this boundary: FAIL and FAIL_STICKY as they read after it. -/
structure TrigIn where
  fail : Bool
  sticky : Bool
deriving DecidableEq, Repr

/-- An input of the sequencer sampled (R222). -/
def State.trigInput (s : State) (p : Nat) (x : TrigIn) (sel : Nat) : Bool :=
  let c := sel % 512
  let y := s.part p
  let v :=
    if c < 256 then y.tprobes.contains c
    else if c = 0x100 then x.fail
    else if c = 0x101 then x.sticky
    else if 0x110 ≤ c ∧ c < 0x120 then y.edges.contains (c - 0x110)
    else if 0x120 ≤ c ∧ c < 0x130 then s.trigInLevel (c - 0x120)
    else if 0x130 ≤ c ∧ c < 0x138 then
      decide (s.reg64 .partTrigCntLimitLo .partTrigCntLimitHi p (c - 0x130) ≤ s.trigCnt p (c - 0x130))
    else if 0x138 ≤ c ∧ c < 0x13C then s.tmrExpired p (c - 0x138)
    else if c = 0x13C then decide (s.reg64 .partTrigTimeAtLo .partTrigTimeAtHi p 0 ≤ s.ctrNs (s.homeAnvil p))
    else if 0x140 ≤ c ∧ c < 0x148 then bit y.trigFlags (c - 0x140)
    else if 0x150 ≤ c ∧ c < 0x158 then y.strEvents.contains (c - 0x150)
    else decide (c = 0x1FF)
  xor v (bit sel 9)

/-- Transition `t` = 4 × state + i is enabled (R221). -/
def State.trigEnabled (s : State) (p : Nat) (x : TrigIn) (t : Nat) : Bool :=
  let v := fun (f : Fld) => b2n (s.trigInput p x (s.reg f p t))
  s.flag .partTrigTrValid p t &&
    bit (s.reg .partTrigTrTable p t) (v .partTrigTrInA + 2 * v .partTrigTrInB + 4 * v .partTrigTrInC + 8 * v .partTrigTrInD)

/-- The actions of a boundary's evaluation that other parts of the boundary carry out. -/
structure TrigAct where
  fire : Bool
  quench : Bool
  halt : Bool
  capture : Bool
deriving DecidableEq, Repr

/-- No action. -/
def TrigAct.none : TrigAct := ⟨false, false, false, false⟩

/-- The counter operation of a transition. -/
def State.trigCntOp (s : State) (p t : Nat) : State :=
  let j := s.reg .partTrigTrCntSel p t
  let op := s.reg .partTrigTrCntOp p t
  if op = 1 then s.setTrigCnt p j (min (2 ^ 48 - 1) (s.trigCnt p j + 1))
  else if op = 2 then s.setTrigCnt p j 0 else s

/-- The timer operation of a transition. -/
def State.trigTmrOp (s : State) (p t : Nat) : State :=
  let j := s.reg .partTrigTrTmrSel p t
  let op := s.reg .partTrigTrTmrOp p t
  if op = 1 then
    ((s.setReg .partTrigTmrRunning p j 1).setReg .partTrigTmrExpired p j 0).modPart p (fun x => { x with
      deadline := Tab.put Option.none x.deadline [j] (some (s.ctrNs (s.homeAnvil p) + s.reg .partTrigTmrDuration p j)) })
  else if op = 2 then
    ((s.setReg .partTrigTmrRunning p j 0).setReg .partTrigTmrExpired p j 0).modPart p (fun x => { x with
      deadline := Tab.put Option.none x.deadline [j] Option.none })
  else s

/-- The flag operation of a transition. -/
def State.trigFlagOp (s : State) (p t : Nat) : State :=
  let j := s.reg .partTrigTrFlagSel p t
  let op := s.reg .partTrigTrFlagOp p t
  let f := (s.part p).trigFlags
  let g := if op = 1 then setBit f j true else if op = 2 then setBit f j false else if op = 3 then setBit f j (!bit f j) else f
  s.modPart p (fun x => { x with trigFlags := g })

/-- The actions of a transition (R223) and its next state. -/
def State.trigApply (s : State) (p t : Nat) : State × TrigAct :=
  let s1 := ((s.trigCntOp p t).trigTmrOp p t).trigFlagOp p t
  let fire := s.flag .partTrigTrFire p t
  let s2 :=
    if fire then
      let s2 := (s1.setReg .partTrigStatusTriggered p 0 1).setReg64 .partTrigFireCycleLo .partTrigFireCycleHi p 0 (s.cycle p)
      s2.traceSignal 0 p
    else s1
  let s3 := if s.flag .partTrigTrToutEn p t then s2.trigPulse (s.reg .partTrigTrTout p t) 1 else s2
  (s3.setReg .partTrigStatusState p 0 (s.reg .partTrigTrNext p t),
    ⟨fire, s.flag .partTrigTrQuench p t, s.flag .partTrigTrHalt p t, s.flag .partTrigTrCapture p t⟩)

/-- The sequencer is reset and armed (R224). -/
def State.trigArmNow (s : State) (p : Nat) : State :=
  let s1 := ((s.setReg .partTrigStatusState p 0 0).setReg .partTrigStatusTriggered p 0 0).setReg .partTrigStatusArmed p 0 1
  let s2 := (List.range 8).foldl (fun s j => s.setTrigCnt p j 0) s1
  let s3 := (List.range 4).foldl (fun s j => (s.setReg .partTrigTmrRunning p j 0).setReg .partTrigTmrExpired p j 0) s2
  s3.modPart p (fun x => { x with trigFlags := 0, deadline := [], edges := [], strEvents := [], armReq := false, disarmReq := false })

/-- Pending ARM and DISARM requests act: ARM wins. -/
def State.trigRequests (s : State) (p : Nat) : State :=
  let x := s.part p
  if x.armReq then s.trigArmNow p
  else if x.disarmReq then (s.setReg .partTrigStatusArmed p 0 0).modPart p (fun x => { x with disarmReq := false })
  else s

/-- The sequencer at a boundary (R221, R224). -/
def State.trigBoundary (s : State) (p : Nat) (x : TrigIn) : State × TrigAct :=
  let y := s.part p
  if y.armReq ∨ y.disarmReq then ((s.trigRequests p).modPart p (fun x => { x with tprobes := [] }), TrigAct.none)
  else if s.flag .partTrigStatusArmed p 0 then
    let s0 := (List.range 4).foldl (fun s j => s.setFlag .partTrigTmrExpired p j (s.tmrExpired p j)) s
    let st := s.reg .partTrigStatusState p 0
    let r := match ((List.range 4).map (fun i => 4 * st + i)).find? (s0.trigEnabled p x) with
      | some t => s0.trigApply p t
      | Option.none => (s0, TrigAct.none)
    (r.1.modPart p (fun x => { x with tprobes := [], edges := [], strEvents := [] }), r.2)
  else (s.modPart p (fun x => { x with tprobes := [] }), TrigAct.none)

/-- TIMER_EXPIRED (R222): a running timer at its deadline reads as expired; it runs on. -/
def execTimerExpired (p j : Nat) (s : State) : Host.Outcome State Fault Refusal :=
  .next (if s.pExists p ∧ j < 4 ∧ s.tmrExpired p j then s.setReg .partTrigTmrExpired p j 1 else s)

/-- TIME_REACHED (R222): the sequencer samples the comparison at each boundary; the event itself changes nothing. -/
def execTimeReached (_p : Nat) (s : State) : Host.Outcome State Fault Refusal := .next s

/-- A write of 1 to ARM or DISARM (R224). -/
def State.trigCtl (s : State) (o : Origin) (p : Nat) (arm : Bool) : State :=
  let f : Fld := if arm then .partTrigCtlArm else .partTrigCtlDisarm
  let v := if arm then 1 else 2
  if !s.pExists p then s
  else if !s.mayPart o p then s.auditRefuse o .notOwner p f p 0 v
  else (if arm then s.modPart p (fun x => { x with armReq := true }) else s.modPart p (fun x => { x with disarmReq := true })).auditAct
    o p f p 0 v

/-- TRIG_CTL_ARM (R224). -/
def execTrigCtlArm (o : Origin) (p : Nat) (s : State) : Host.Outcome State Fault Refusal := .next (s.trigCtl o p true)

/-- TRIG_CTL_DISARM (R224). -/
def execTrigCtlDisarm (o : Origin) (p : Nat) (s : State) : Host.Outcome State Fault Refusal := .next (s.trigCtl o p false)

/-! ## Acquisition (R225 to R229) -/

/-- The acquisition ring: base and size in bytes. -/
def State.acqRing (s : State) (p : Nat) : Nat × Nat :=
  (s.reg .partAcqBaseLo p 0 * 2 ^ 16 + s.reg .partAcqBaseHi p 0 * 2 ^ 32, 2 ^ s.reg .partAcqRingSizeLog2 p 0)

/-- Bytes of a segment. -/
def State.segSize (s : State) (p : Nat) : Nat := 2 ^ s.reg .partAcqRingSizeLog2 p 0 / 2 ^ s.reg .partAcqRingSegLog2 p 0

/-- K: record slots of a segment (R226). -/
def State.segSlots (s : State) (p : Nat) : Nat := (s.segSize p - 64) / s.reg .partAcqRecBytes p 0

/-- Address of the open segment. -/
def State.segBase (s : State) (p : Nat) : Nat :=
  (s.acqRing p).1 + s.segSize p * (s.reg .partAcqSegWr p 0 % 2 ^ s.reg .partAcqRingSegLog2 p 0)

/-- The next segment is free (R226). -/
def State.segFree (s : State) (p : Nat) : Bool :=
  decide ((s.reg .partAcqSegWr p 0 + 2 ^ 32 - s.reg .partAcqSegRd p 0) % 2 ^ 32 < 2 ^ s.reg .partAcqRingSegLog2 p 0)

/-- The acquisition unit changed. -/
def State.modAcq (s : State) (p : Nat) (f : Acq → Acq) : State := s.modPart p (fun x => { x with acq := f x.acq })

/-- The next segment opens if it is free; otherwise the unit waits. -/
def State.acqOpen (s : State) (p : Nat) : State :=
  if s.segFree p then
    (s.modAcq p (fun a => { a with isOpen := true, j := 0, trig := none, postLeft := 0, dropped := 0, after := none })).setReg
      .partAcqStatusWait p 0 0
  else s.setReg .partAcqStatusWait p 0 1

/-- Start time of the present cycle. -/
def State.cycleStart (s : State) (p : Nat) : Nat :=
  (((s.part p).cycs.find? (fun (r : CycRec) => decide (r.cycle = s.cycle p))).map (·.start)).getD 0

/-- Bytes waiting in the 256 KiB buffer. -/
def Acq.bufBytes (a : Acq) : Nat := a.buf.foldl (fun n e => n + e.2.length) 0

/-- A segment header (R228). `free` stands for TRIG_TIME where there is no trigger cycle. -/
def segHeader (a : Acq) (k free : Nat) (noTrig : Bool) : Bytes :=
  let trig := if noTrig then none else a.trig
  let tc := match trig with | some t => toLE 8 t.1 ++ toLE 8 t.2 | none => toLE 8 (2 ^ 64 - 1) ++ toLE 8 free
  let dead := match a.prev, a.prevNext with
    | some last, some t => toLE 8 (a.openTime - t) ++ toLE 4 (min ones32 (a.openCycle - last - 1))
    | _, _ => zeros 12
  let b := tc ++ toLE 8 a.openCycle ++ toLE 8 a.lastCycle ++ toLE 4 (if a.j ≤ k then 0 else a.j % k) ++ toLE 4 (min a.j k) ++
    dead ++ toLE 4 a.missed ++ toLE 4 a.dropped
  b ++ toLE 4 (crc32 b)

/-- A record or header goes to the ring through the buffer, with a copy to each capture queue (R229, R312). -/
def State.acqWrite (s : State) (p addr kind : Nat) (bs : Bytes) : State :=
  let s1 := s.modAcq p (fun a => { a with buf := a.buf ++ [(addr, bs)] })
  let s2 := s1.qOfferAll p QT.capture (toLE 1 kind ++ zeros 7 ++ bs)
  State.pushAcq (((s2.part p).acq.buf.foldl (fun n e => n + e.2.length) 0) + 1) p s2

/-- The open segment closes (R227): its header, SEG_WR, ENABLE, and the next segment. -/
def State.acqClose (s : State) (p : Nat) (noTrig : Bool) : State :=
  let f := s.takeNat
  let a := (s.part p).acq
  let s1 := f.2.acqWrite p (s.segBase p) 2 (segHeader a (s.segSlots p) f.1 noTrig)
  let s2 := (s1.setReg .partAcqSegWr p 0 (s.reg .partAcqSegWr p 0 + 1)).setReg .partAcqStatusPost p 0 0
  let s3 := s2.modAcq p (fun a => { a with
    isOpen := false, trig := none, postLeft := 0, missed := 0, dropped := 0
    prev := some a.lastCycle, prevNext := a.after, after := none })
  if noTrig then s3
  else
    let s4 := if s.flag .partAcqCtlAutoRearm p 0 then s3 else s3.setReg .partAcqCtlEnable p 0 0
    if s4.flag .partAcqCtlEnable p 0 then s4.acqOpen p else s4

/-- The record of the present cycle (R225, R226, R229). -/
def State.acqRecord (s : State) (p : Nat) (trigger : Bool) : State :=
  let a := (s.part p).acq
  let r := s.reg .partAcqRecBytes p 0
  if 262144 < a.bufBytes + r then
    ((s.bump .partAcqDropCount p 0 1).setReg .partAcqStatusDrop p 0 1).modAcq p (fun a => { a with
      gap := min ones32 (a.gap + 1), dropped := a.dropped + 1 })
  else
    let t := s.cycleStart p
    let n := s.cycle p
    let head := toLE 8 n ++ toLE 8 t ++ toLE 4 a.seq ++ toLE 1 (b2n trigger + 2 * b2n (decide (0 < a.gap))) ++ zeros 3 ++ toLE 4 a.gap
    let data := toLE (r - 32) (s.part p).probes
    let k := s.segSlots p
    let s1 := s.acqWrite p (s.segBase p + 64 + a.j % k * r) 1 (head ++ toLE 4 (crc32 (head ++ data)) ++ data)
    s1.modAcq p (fun a => { a with
      openCycle := if a.j = 0 then n else a.openCycle
      openTime := if a.j = 0 then t else a.openTime
      lastCycle := n
      after := none
      j := a.j + 1
      seq := a.seq + 1
      gap := 0 })

/-- A FIRE reaches the acquisition unit (R227). The answer says whether it was accepted. -/
def State.acqFire (s : State) (p : Nat) : Bool × State :=
  let a := (s.part p).acq
  if a.isOpen ∧ a.trig = none then
    (true, (s.modAcq p (fun a => { a with
      trig := some (s.cycle p, s.cycleStart p), postLeft := min (s.reg .partAcqPost p 0) (s.segSlots p - 1) + 1 })).setReg
      .partAcqStatusPost p 0 1)
  else (false, s.modAcq p (fun a => { a with missed := a.missed + 1 }))

/-- Acquisition at the boundary that ends the present cycle. -/
def State.acqBoundary (s : State) (p : Nat) (fire : Bool) : State :=
  let f := if fire then s.acqFire p else (false, s)
  let s1 := if (s.part p).acq.isOpen ∧ s.running p then f.2.acqRecord p f.1 else f.2
  let a := (s1.part p).acq
  if a.isOpen ∧ a.trig.isSome then
    if a.postLeft ≤ 1 then s1.acqClose p false else s1.modAcq p (fun a => { a with postLeft := a.postLeft - 1 })
  else s1

/-- ENABLE has taken a new value: recording starts anew, or the open segment closes without a trigger cycle. -/
def State.acqEnabled (s : State) (p : Nat) (old : Bool) : State :=
  let new := s.flag .partAcqCtlEnable p 0
  if new ∧ !old then
    (s.modAcq p (fun a => { a with seq := 0, gap := 0, prev := none, prevNext := none })).acqOpen p
  else if old ∧ !new then
    let s1 := if (s.part p).acq.isOpen then s.acqClose p true else s
    s1.setReg .partAcqStatusWait p 0 0
  else s

/-- The start of a cycle as the dead time of a header needs it (R228): that of the cycle after the last one recorded in the
open segment, and in the segment before it. -/
def State.acqCycleStart (s : State) (p t : Nat) : State :=
  s.modAcq p (fun a =>
    let a1 := if a.isOpen ∧ 0 < a.j ∧ s.cycle p = a.lastCycle + 1 then { a with after := some t } else a
    match a1.prev, a1.prevNext with
    | some last, none => if s.cycle p = last + 1 then { a1 with prevNext := some t } else a1
    | _, _ => a1)

/-- ACQ_SEGMENT_OPEN (R227): a waiting unit opens the next segment once it is free. -/
def execAcqSegmentOpen (p : Nat) (s : State) : Host.Outcome State Fault Refusal :=
  .next (if s.flag .partAcqCtlEnable p 0 ∧ !(s.part p).acq.isOpen ∧ s.segFree p then s.acqOpen p else s)

/-! ## Full-state capture (R211 to R217) -/

/-- The capture changed. -/
def State.modCap (s : State) (p : Nat) (f : Capture → Capture) : State := s.modPart p (fun x => { x with cap := f x.cap })

/-- The capture area: base and size. -/
def State.capArea (s : State) (p : Nat) : Nat × Nat :=
  (s.reg .partCapBaseLo p 0 * 2 ^ 20 + s.reg .partCapBaseHi p 0 * 2 ^ 32, s.reg .partCapSizeMib p 0 * 2 ^ 20)

/-- What a capture with or without the scratchpads needs (R215). -/
def State.capNeed (s : State) (p : Nat) (sp : Bool) : Nat :=
  4096 + 16 * (s.regions p).length * (if sp then 294976 else 32832)

/-- An area of a partition lies where R211 and R226 let it: inside the allocation on the home anvil, clear of the DRAM port
windows and of another area. -/
def State.areaOk (s : State) (p : Nat) (area other : Nat × Nat) : Bool :=
  let a := s.homeAnvil p
  s.inAlloc p a area.1 area.2 && !s.meetsWindow p a area.1 area.2 && !overlaps area.1 area.2 other.1 other.2

/-- What stands against a capture with some FLAGS (R211). -/
def State.capRefusal (s : State) (p flags : Nat) : Option Status :=
  if (s.capArea p).2 < s.capNeed p (bit flags 0) then some .captureSpace
  else if !s.areaOk p (s.capArea p) (s.acqRing p) then some .memWindow
  else none

/-- A capture may start: IDLE, or COMPLETE with no held snapshot (R216). -/
def State.capReady (s : State) (p : Nat) : Bool :=
  let st := s.reg .partCapStatusState p 0
  decide (st = 0) || (decide (st = 3) && !(s.part p).cap.snapshot)

/-- The header of a capture, from byte 16 on without TIME (R215): IMAGE_ID to RST. -/
def State.capHead (s : State) (p flags : Nat) (held : Bool) : Bytes :=
  let c := (s.part p).clk
  let id := (List.range 4).flatMap (fun k => toLE 4 (s.reg .partLoadImageId p k))
  id ++ toLE 8 (s.rgnMask p) ++ toLE 2 (s.sSteps p) ++ toLE 1 (flags % 4 + 4 * b2n held) ++ zeros 13 ++
    (List.range 16).flatMap (fun d => toLE 2 (c.cur.cnt.getD d 0)) ++
    (List.range 16).flatMap (fun m => toLE 1 ((c.cur.mux.getD m (0, 0)).1 + 2 * (c.cur.mux.getD m (0, 0)).2)) ++
    (List.range 16).flatMap (fun k => toLE 1 (c.count.getD k 0) ++ toLE 1 (b2n (bit c.rst k)))

/-- The capture is taken at a boundary, action 4 of R74 (R212 to R214). `n` is the cycle that begins there. -/
def State.capTake (s : State) (p n flags : Nat) (held : Bool) : State :=
  let mine := fun (k : Key) => s.inPart p (k.getD 0 0) (k.getD 1 0)
  let us := Tab.keep (fun k => mine k && decide (1536 ≤ k.getD 3 0)) s.fab.mem
  let full := (s.hearths p).foldl (fun t ah => [0, 1].foldl (fun t b => Tab.put 0 t [ah.1, ah.2, b] 4096) t) ([] : Tab Nat)
  let ranges := if bit flags 1 then
      (s.anvilsOf p).flatMap (fun a => (s.dramWindows p a).map (fun w => (a, w.1 / 4096, (w.1 + w.2 + 4095) / 4096)))
    else []
  let s1 := (((s.setReg .partCapStatusState p 0 2).setReg64 .partCapCycleLo .partCapCycleHi p 0 n).setReg .partCapSpLost p 0
    0).setReg .partCapDramCopied p 0 0 |>.setReg .partCapDramLost p 0 0
  s1.modCap p (fun c => { c with
    flags := flags, head := s.capHead p flags held, cycle := n
    timed := held, time := if held then s.ctrNs (s.homeAnvil p) else 0
    us := us, sp := [], next := if bit flags 0 then [] else full, taken := [], lost := [], cow := []
    ranges := ranges, copies := [], gone := [], snapshot := bit flags 1, incomplete := false })

/-- Step 0 of the cycle that begins at the capture boundary gives the header its TIME. -/
def State.capCycleStart (s : State) (p t : Nat) : State :=
  let c := (s.part p).cap
  if s.reg .partCapStatusState p 0 = 2 ∧ !c.timed ∧ c.cycle = s.cycle p then
    s.modCap p (fun c => { c with timed := true, time := t })
  else s

/-- A pending request falls on the boundary that ends cycle `n` (R211). -/
def State.capDue (s : State) (p n : Nat) : Bool :=
  let c := (s.part p).cap
  decide (s.reg .partCapStatusState p 0 = 1) && (decide (c.at_ = 0) || (decide (c.at_ = 1) && decide (c.cycle = n)) ||
    (decide (c.at_ = 2) && bit (s.part p).clk.clken c.edge))

/-- Captures at the boundary that ends cycle `n`: the pending request, or the CAPTURE action of the sequencer. `due` is
whether the request falls on this boundary. -/
def State.capBoundary (s : State) (p n : Nat) (due action : Bool) : State :=
  let missed := fun (s : State) => s.setReg .partCapStatusMissed p 0 1
  let s1 := if due then s.capTake p (n + 1) (s.part p).cap.flags false else s
  if !action then s1
  else if !s1.capReady p then missed s1
  else
    let flags := s.reg .partCapTrigSp p 0 + 2 * s.reg .partCapTrigDram p 0
    match s.capRefusal p flags with
    | some st => (missed s1).pEvent p Ev.capture st.num 0
    | none => s1.capTake p (n + 1) flags false

/-- The partition is held at a boundary: READY, or INSPECT with MIDCYCLE = 0. -/
def State.atBoundary (s : State) (p : Nat) : Bool :=
  decide (s.mode p = Mode.ready) || (decide (s.mode p = Mode.inspect) && !s.flag .partRunMidcycle p 0)

/-- CAPTURE_REQUEST. -/
def cmdCaptureRequest (r : CmdRef) (p at_ cycle edge flags : Nat) (s : State) : CmdRes :=
  refuseIf ([(decide (4 ≤ flags), .cmdFormat), s.noLocal r.org] ++ s.partChecks r.org p ++
    [(decide (at_ = 3), .modeInvalid), (decide (4 ≤ at_ ∨ 64 ≤ edge), .cmdFormat),
     (decide (s.mode p = Mode.loading), .modeInvalid), (!s.capReady p, .captureBusy),
     ((s.capRefusal p flags).isSome, (s.capRefusal p flags).getD .ok),
     (decide (at_ = 1 ∧ (cycle + 1 < s.cycle p ∨ (cycle + 1 = s.cycle p ∧ (s.part p).started))), .captureLate)])
    s (fun s =>
      let s1 := (s.setReg .partCapStatusState p 0 1).modCap p (fun _ => { Capture.init with
        ref := some r, at_ := at_, cycle := cycle, edge := edge, flags := flags })
      if (s.atBoundary p ∧ at_ = 0) ∨ (at_ = 1 ∧ cycle + 1 = s.cycle p) then
        (s1.capTake p (s.cycle p) flags (s.atBoundary p)).oks
      else s1.oks)

/-- CAPTURE_REQUEST (R211). -/
def execCaptureRequest (r : CmdRef) (p at_ cycle edge flags : Nat) (s : State) : Host.Outcome State Fault Refusal :=
  .next (runCmd r 0x0700 (formParams 0 [(.int 1, p), (.int 1, at_), (.int 8, cycle), (.int 1, edge), (.int 1, flags)]) p
    (cmdCaptureRequest r p at_ cycle edge flags) s)

/-- The reserve pages of a capture's snapshot are given back (R214, R262). -/
def State.capFree (s : State) (p : Nat) : State :=
  let c := (s.part p).cap
  let s1 := c.copies.foldl (fun s e =>
    let a := e.1.getD 0 0
    (((s.modDram (fun d => { d with used := Tab.put false d.used [a, e.2 - 1] false })).setReg .ddrReserveLent a 0
      (s.reg .ddrReserveLent a 0 - 1)).setReg .ddrReserveFree a 0 (s.reg .ddrReserveFree a 0 + 1)).reserveFreed a) s
  s1.modCap p (fun c => { c with copies := [], gone := [], ranges := [], snapshot := false })

/-- The capture ends in IDLE with CAPTURE_ABORTED (R216). -/
def State.capAbort (s : State) (p : Nat) : State :=
  if s.reg .partCapStatusState p 0 = 0 then s
  else
    let s1 := ((s.capFree p).setReg .partCapStatusState p 0 0).setReg .partCapStatusLast p 0 Status.captureAborted.num
    (s1.modCap p (fun _ => Capture.init)).pEvent p Ev.capture Status.captureAborted.num 0

/-- CAPTURE_RELEASE. -/
def cmdCaptureRelease (r : CmdRef) (p : Nat) (s : State) : CmdRes :=
  refuseIf ([s.noLocal r.org] ++ s.partChecks r.org p ++ [(decide (s.reg .partCapStatusState p 0 = 2), .captureBusy)]) s (fun s =>
    let st := s.reg .partCapStatusState p 0
    if st = 1 then (s.capAbort p).oks
    else if st = 3 then (((s.capFree p).setReg .partCapStatusState p 0 0).modCap p (fun _ => Capture.init)).oks
    else s.oks)

/-- CAPTURE_RELEASE (R216). -/
def execCaptureRelease (r : CmdRef) (p : Nat) (s : State) : Host.Outcome State Fault Refusal :=
  .next (runCmd r 0x0701 (formParams 0 [(.int 1, p)]) p (cmdCaptureRelease r p) s)

/-- The copier of a capture takes every group it has not taken (R213): all steps of a partition that does not execute,
or is frozen, are idle. -/
def Capture.takeRest (c : Capture) (f : Fab) (hs : List (Nat × Nat)) : Capture :=
  hs.foldl (fun c ah => [0, 1].foldl (fun c b =>
    let n := Tab.get 0 c.next [ah.1, ah.2, b]
    if 4096 ≤ n then c
    else
      let bytes := f.banks.filter (fun e => decide (e.1.getD 0 0 = ah.1 ∧ e.1.getD 1 0 = ah.2 ∧ e.1.getD 2 0 = b) &&
        !c.has ah.1 ah.2 b (e.1.getD 3 0 / 32))
      { c with
        sp := bytes.foldl (fun t e => Tab.put 0 t e.1 e.2) c.sp
        next := Tab.put 0 c.next [ah.1, ah.2, b] 4096 }) c) c

/-- The copier's reads of the groups it has not taken, corrected and counted (R132). -/
def State.restReads (s : State) (p : Nat) : State :=
  (s.fab.flaws.filter (fun e => decide (e.1.getD 0 0 = Store.bank.ctorIdx ∧ e.2 = 1) && s.inPart p (e.1.getD 1 0) (e.1.getD 2 0) &&
    !(s.part p).cap.has (e.1.getD 1 0) (e.1.getD 2 0) (e.1.getD 3 0) (e.1.getD 4 0 / 4))).foldl
    (fun s e => s.bankCorr (e.1.getD 1 0) (e.1.getD 2 0) (e.1.getD 3 0)) s

/-- Every group of a capture has been taken. -/
def Capture.allTaken (c : Capture) (hs : List (Nat × Nat)) : Bool :=
  hs.all (fun ah => [0, 1].all (fun b => decide (4096 ≤ Tab.get 0 c.next [ah.1, ah.2, b])))

/-- The user state of a hearth as 32 bytes for each logical BP (R189). -/
def userBytes (us : Tab Bool) (a h : Nat) : Bytes :=
  (List.range 1024).flatMap (fun b => packBits (Tab.getRun false us [a, h, b] 1536 256))

/-- The block of a hearth in the capture area (R215). -/
def Capture.block (c : Capture) (sp : Bool) (a h : Nat) : Bytes :=
  let lost := (c.lost.filter (fun e => decide (e.1.getD 0 0 = a ∧ e.1.getD 1 0 = h))).length
  let head := toLE 1 a ++ toLE 1 h ++ zeros 2 ++ toLE 4 lost ++ zeros 52
  let body := userBytes c.us a h ++
    (if sp then Tab.getRun 0 c.sp [a, h, 0] 0 131072 ++ Tab.getRun 0 c.sp [a, h, 1] 0 131072 else [])
  head ++ toLE 4 (crc32 (head ++ body)) ++ body

/-- CAPTURE_DRAIN_COMPLETE: the area is written, and the capture enters COMPLETE (R216). -/
def State.capDrain (s : State) (p : Nat) : State :=
  let still := !s.executing p || s.frozen p
  let a := s.homeAnvil p
  let c0 := (s.part p).cap
  if s.reg .partCapStatusState p 0 ≠ 2 ∨ s.streamHeld a (s.capArea p).1 (s.capArea p).2 ∨ (!still ∧ !c0.allTaken (s.hearths p)) then s
  else
    let f := (((s.restReads p).wakeRanks a 0).wakeRanks a 1).takeNat
    let c := c0.takeRest s.fab (s.hearths p)
    let st : Status := if c.incomplete then .captureIncomplete else .ok
    let head := toLE 4 st.num ++ zeros 4 ++ toLE 8 c.cycle ++ toLE 8 (if c.timed then c.time else f.1) ++ c.head
    let page := head ++ zeros (4092 - head.length)
    let area := page ++ toLE 4 (crc32 page) ++ (s.hearths p).flatMap (fun ah => c.block (bit c.flags 0) ah.1 ah.2)
    let s1 := f.2.dramPutRun a (s.capArea p).1 area
    let s2 := (s1.setReg .partCapStatusState p 0 3).setReg .partCapStatusLast p 0 st.num
    (s2.modCap p (fun x => { x with us := [], sp := [], taken := [], cow := [] })).pEvent p Ev.capture st.num 0

/-- CAPTURE_DRAIN_COMPLETE (R216). -/
def execCaptureDrainComplete (p : Nat) (s : State) : Host.Outcome State Fault Refusal := .next (s.capDrain p)

/-- The reads that give a page of a snapshot (R214): of its copy, of nothing if it was lost, else of the live page. -/
def State.snapPieces (s : State) (p a base page : Nat) : List DPiece :=
  let c := (s.part p).cap
  let k := Tab.get 0 c.copies [a, page]
  if k ≠ 0 then piecesOf (4096 * page - base) ((k - 1) * 4096) 4096 none
  else if Tab.get false c.gone [a, page] then []
  else piecesOf (4096 * page - base) (4096 * page) 4096 none

/-- CAPTURE_DRAM_READ. -/
def cmdCaptureDramRead (r : CmdRef) (p anvil offset length addr : Nat) (s : State) : CmdRes :=
  refuseIf ([s.noLocal r.org, s.noAnvil anvil] ++ s.partChecks r.org p ++
    [(decide (offset % 4096 ≠ 0 ∨ length % 4096 ≠ 0), .cmdFormat),
     (!(decide (s.reg .partCapStatusState p 0 = 3) && (s.part p).cap.snapshot), .captureBusy),
     (decide (((s.allocOn p anvil).getD (0, 0)).2 < offset + length), .memWindow)]) s (fun s =>
    let base := ((s.allocOn p anvil).getD (0, 0)).1 + offset
    let pages := (List.range (length / 4096)).map (fun k => base / 4096 + k)
    let x := s.dramAccess r anvil p length (pages.flatMap (s.snapPieces p anvil base))
    match x.2 with
    | none => x.1.waits
    | some d =>
      let lost := pages.any (fun pg => Tab.get false (s.part p).cap.gone [anvil, pg])
      (x.1.toHost r addr d.1).says (if d.2 then .uncorrectable else if lost then .captureIncomplete else .ok))

/-- CAPTURE_DRAM_READ (R217). -/
def execCaptureDramRead (r : CmdRef) (p anvil offset length addr : Nat) (s : State) : Host.Outcome State Fault Refusal :=
  .next (runCmd r 0x0702 (formParams 0 [(.int 1, p), (.int 1, anvil), (.int 8, offset), (.int 8, length), (.int 8, addr)]) p
    (cmdCaptureDramRead r p anvil offset length addr) s)

/-! ## Readback and deposit (R218, R219) -/

/-- The bytes of one logical BP in the format of a KIND (R218). -/
def Fab.lbpBytes (f : Fab) (a h kind b : Nat) : Bytes :=
  if kind = 0 then packBits (Tab.getRun false f.mem [a, h, b] 1536 256)
  else if kind = 1 then packBits (Tab.getRun false f.mem [a, h, b] 0 1024)
  else if kind = 2 then packBits (Tab.getRun false f.mem [a, h, b] 1024 512)
  else packBits (Tab.getRun false f.shadow [a, h, b] 0 256) ++ packBits (Tab.getRun false f.pend [a, h, b] 0 256)

/-- The conditions on KIND, hearth and range that STATE_READ and STATE_DEPOSIT share. -/
def State.stateChecks (s : State) (p kind anvil hearth first count : Nat) : List (Bool × Status) :=
  [(decide (kind ≤ 5) && !s.inPart p anvil hearth, .notPresent),
   (decide (kind ≤ 3 ∧ (1024 ≤ first ∨ 1024 < first + count)), .notPresent),
   (decide (kind = 6 ∧ first % 8 ≠ 0), .cmdFormat),
   (decide ((kind = 4 ∨ kind = 5) ∧ 131072 < first + count), .memWindow),
   (decide (kind = 6 ∧ ((s.allocOn p anvil).getD (0, 0)).2 < first + count), .memWindow)]

/-- The partition is in READY or INSPECT. -/
def State.stopped (s : State) (p : Nat) : Bool := decide (s.mode p = Mode.ready) || decide (s.mode p = Mode.inspect)

/-- A hearth index outside its range (R9). -/
def noHearth (h : Nat) : Bool × Status := (decide (128 ≤ h), .notPresent)

/-- STATE_READ. -/
def cmdStateRead (r : CmdRef) (p kind anvil hearth first count addr : Nat) (s : State) : CmdRes :=
  refuseIf ([s.noLocal r.org, s.noAnvil anvil, noHearth hearth, (decide (kind ≤ 3 ∧ 1024 ≤ first), .notPresent)] ++
      s.partChecks r.org p ++
    [(decide (6 < kind), .cmdFormat)] ++ s.stateChecks p kind anvil hearth first count ++
    [(decide (kind ≠ 4 ∧ kind ≠ 5) && !s.stopped p, .modeInvalid)]) s (fun s =>
    if kind ≤ 3 then
      (s.toHost r addr ((List.range count).flatMap (fun k => s.fab.lbpBytes anvil hearth kind (first + k)))).oks
    else if kind = 6 then
      let x := s.dramAccess r anvil p count (piecesOf 0 (((s.allocOn p anvil).getD (0, 0)).1 + first) count none)
      match x.2 with
      | none => x.1.waits
      | some d => (x.1.toHost r addr d.1).says (if d.2 then .uncorrectable else .ok)
    else if count = 0 then s.oks
    else (s.dmaStart ⟨.cmd r, anvil, hearth, kind - 4, first, count, 0, [], addr, false, none, 0⟩).waits)

/-- STATE_READ (R218). -/
def execStateRead (r : CmdRef) (p kind anvil hearth first count addr : Nat) (s : State) : Host.Outcome State Fault Refusal :=
  .next (runCmd r 0x0703 (formParams 0 [(.int 1, p), (.int 1, kind), (.int 1, anvil), (.int 1, hearth), (.int 8, first),
    (.int 8, count), (.int 8, addr)]) p (cmdStateRead r p kind anvil hearth first count addr) s)

/-- User state deposited (R219). -/
def Fab.depositUser (f : Fab) (a h first count : Nat) (clear : Bool) (data : Bytes) : Fab :=
  (List.range count).foldl (fun f k =>
    let b := first + k
    let bs := (List.range 256).map (fun u => packedBit data (256 * k + u))
    { f with
      mem := Tab.putRun false [a, h, b] 1536 bs f.mem
      pend := if clear then Tab.keep (fun x => !decide (x.getD 0 0 = a ∧ x.getD 1 0 = h ∧ x.getD 2 0 = b)) f.pend else f.pend }) f

/-- STATE_DEPOSIT. -/
def cmdStateDeposit (r : CmdRef) (p kind anvil hearth first count addr flags : Nat) (data : Bytes) (s : State) : CmdRes :=
  let n := if kind = 0 then 32 * count else count
  let d := slice data 0 n
  refuseIf ([(decide (2 ≤ flags), .cmdFormat), s.noLocal r.org, s.noAnvil anvil, noHearth hearth,
      (decide (kind = 0 ∧ 1024 ≤ first), .notPresent)] ++ s.partChecks r.org p ++
    [(decide (kind ≠ 0 ∧ kind ≠ 4 ∧ kind ≠ 5 ∧ kind ≠ 6), .notPresent)] ++ s.stateChecks p kind anvil hearth first count ++
    [(decide (s.mode p ≠ Mode.inspect), .modeInvalid)]) s (fun s =>
    let s := s.dmaUse (portByteOf r.org)
    let log := fun (s : State) => s.auditDeposit r p kind anvil hearth first count d
    if kind = 0 then
      (log { s with fab := s.fab.depositUser anvil hearth first count (bit flags 0) d }).oks
    else if kind = 6 then
      let x := s.dramAccess r anvil p count (piecesOf 0 (((s.allocOn p anvil).getD (0, 0)).1 + first) count (some (d.map some)))
      match x.2 with
      | none => x.1.waits
      | some e => (log x.1).says (if e.2 then .uncorrectable else .ok)
    else (s.dmaStart ⟨.cmd r, anvil, hearth, kind - 4, first, count, 0, [], addr, false, some (d.map some), 0⟩).waits)

/-- STATE_DEPOSIT (R219). -/
def execStateDeposit (r : CmdRef) (p kind anvil hearth first count addr flags : Nat) (data : Bytes) (s : State) :
    Host.Outcome State Fault Refusal :=
  .next (runCmd r 0x0704 (formParams 0 [(.int 1, p), (.int 1, kind), (.int 1, anvil), (.int 1, hearth), (.int 8, first),
    (.int 8, count), (.int 8, addr), (.int 1, flags)]) p (cmdStateDeposit r p kind anvil hearth first count addr flags data) s)

end Sys2Proof.Machine
end

