-- ==== Sys2Proof/Machine/Flags.lean ====
section
/-! DEFINITION. The rules of field values: which values a write of a field may give it, and the checks of rings and
windows that a write is subject to (R11, R84, R107, R113, R120, R176, R179, R210, R215, R226). -/

namespace Sys2Proof.Machine

/-- What a write of a value gives a field: the value its table makes of it, or nothing where the table discards it. -/
def State.fieldTake (s : State) (f : Fld) (i v : Nat) : Option Nat :=
  let when := fun (b : Bool) => if b then some v else none
  match f with
  | .modClksetStepMhzMax => some (if 1800 < v then 1800 else if v < 800 then 800 else v / 25 * 25)
  | .partHaltMode => when (decide (v < 3))
  | .partClkEnEdge => when (decide (v < 5))
  | .partRstSync => when (decide (v ≤ 64))
  | .partMemSlotsAllot => when (decide (v ≤ 256))
  | .partCmpSrcStim => when (decide (v < 3))
  | .partCmpSrcResp => when (decide (v < 3))
  | .partCmpPaceMode => when (decide (v < 3))
  | .partCmpFmapSizeLog2 => when (decide (10 ≤ v ∧ v ≤ 26))
  | .partCmpPin => (when (decide (v / 2 ^ 30 < 3 ∧ bits v 29 27 ≤ s.reg .partCmpLatWMax i 0))).map (fun x => x / 2 ^ 26 * 2 ^ 26)
  | .partTrigTrCntOp => when (decide (v < 3))
  | .partTrigTrTmrOp => when (decide (v < 3))
  | .partAcqRingSizeLog2 => when (decide (16 ≤ v ∧ v ≤ 34))
  | .partAcqRingSegLog2 => when (decide (v ≤ 4))
  | .traceStallLimitUs => when (decide (1 ≤ v ∧ v ≤ 1000))
  | .traceSyncLog2 => when (decide (12 ≤ v ∧ v ≤ 24))
  | .ddrCfgAgeNs => some (if 1 ≤ v ∧ v < 100 then 100 else v)
  | .ddrScrubPeriodH => when (decide (6 ≤ v ∧ v ≤ 24))
  | .nocCfgCplTimeoutMs => when (decide (11 ≤ v ∧ v ≤ 1000))
  | .nocCfgStarveUs => when (decide (1 ≤ v))
  | .nocCfgFenceTimeoutUs => some (max 10 v)
  | .hostBifurcNext => when (decide (v < 3))
  | .wlPrbsInjBurst => when (decide (1 ≤ v))
  | .wlPrbsInjRateLog2 => when (decide (10 ≤ v))
  | .wlPrbsMode => when (decide (v < 5))
  | .wlBundleReplayUs => when (decide (1 ≤ v))
  | .timeCfgSlewPpm => when (decide (1 ≤ v ∧ v ≤ 200))
  | .timePtpCfgDomain => when (decide (v < 128))
  | .spPinOwner => when (decide (v < 32 ∨ v = 63))
  | .spBankVsel => when (decide (v < 3))
  | .pwrCfgLimitW => when (decide (400 ≤ v ∧ v ≤ 1600))
  | .pwrCfgLowMhz => if 800 ≤ v ∧ v ≤ 1600 then some (v / 25 * 25) else none
  | .pwrCfgTjTargetC => when (decide (70 ≤ v ∧ v ≤ 95))
  | .svcTemperGuardPm => when (decide (20 ≤ v ∧ v ≤ 200))
  | .svcScrubPeriodS => when (decide (60 ≤ v))
  | _ => some v

/-- The window rule of R120 for a binding; for a DRAM window, `inside` says that it lies in the allocation. -/
def Binding.valid (b : Binding) (inside : Bool) : Bool :=
  let n := 2 ^ b.sizeLog2
  if b.target = 0 then true
  else if b.target = 3 then
    decide (6 ≤ b.sizeLog2 ∧ b.sizeLog2 ≤ 34) && decide (b.dram % 64 = 0) && inside && decide (b.width ≤ 8 * 2 ^ b.shift) &&
      !b.dp && decide (b.rdPad = 0)
  else if b.dp then decide (3 ≤ b.sizeLog2 ∧ b.sizeLog2 ≤ 16) && decide (b.sp % n = 0) && decide (b.sp + n ≤ 65536)
  else decide (3 ≤ b.sizeLog2 ∧ b.sizeLog2 ≤ 17) && decide (b.sp % n = 0) && decide (b.sp + n ≤ 131072)

/-- The fail-map ring: base and size in bytes (R176). -/
def State.fmapRing (s : State) (p : Nat) : Nat × Nat :=
  (s.reg .partCmpFmapBaseLo p 0 * 32 + s.reg .partCmpFmapBaseHi p 0 * 2 ^ 32, 32 * 2 ^ s.reg .partCmpFmapSizeLog2 p 0)

/-- The fail-map ring lies inside the partition's allocation on the home anvil. -/
def State.fmapOk (s : State) (p : Nat) : Bool := s.inAlloc p (s.homeAnvil p) (s.fmapRing p).1 (s.fmapRing p).2

/-- The acquisition ring as set passes the checks of R226. -/
def State.acqOk (s : State) (p : Nat) : Bool := s.areaOk p (s.acqRing p) (s.capArea p)

/-- The acquisition ring as set may be enabled (R226). -/
def State.acqMayEnable (s : State) (p : Nat) : Bool := s.acqOk p && decide (2 ≤ s.segSlots p)

/-- The capture area as set passes the checks of R215. -/
def State.capOk (s : State) (p : Nat) : Bool := s.areaOk p (s.capArea p) (s.acqRing p)

end Sys2Proof.Machine
end

