-- ==== Sys2Proof/Machine/Image.lean ====
section
/-! DEFINITION. The image file (R184 to R193, R195, R220) as bytes, its relocation (R197 to R201), and the checks of its
hearth sections (R182, R204). -/

namespace Sys2Proof.Machine

/-! ## Bytes of an image -/

/-- An image as the module fetches it from host memory; bytes beyond its end could not be fetched. -/
abbrev Img := Array Byte

/-- A little-endian number of `n` bytes. -/
def imgLe (m : Img) (off n : Nat) : Nat := (List.range n).foldr (fun k acc => (m.getD (off + k) 0).toNat + 256 * acc) 0

/-- A run of bytes. -/
def imgBytes (m : Img) (off n : Nat) : Bytes := (List.range n).map (fun k => m.getD (off + k) 0)

/-- A run of bytes is all 0. -/
def imgZero (m : Img) (off n : Nat) : Bool := (List.range n).all (fun k => decide (m.getD (off + k) 0 = 0))

/-- A run of bytes has been fetched. -/
def imgHas (m : Img) (off n : Nat) : Bool := decide (off + n ≤ m.size)

/-- What a load fails with: its status, FAIL_SECTION and FAIL_DETAIL (R204). -/
structure LFail where
  st : Status
  sect : Nat
  detail : Nat
deriving DecidableEq, Repr

/-- FAIL_SECTION of a failure that concerns no single section. -/
def noSect : Nat := 0xFFFFFFFF

/-- FAIL_DETAIL: the step, the logical BP, entry or port, and the hearth column (R204). -/
def lDetail (step n col : Nat) : Nat := step + 2 ^ 10 * n + 2 ^ 20 * col

/-- A failure that concerns the image as a whole. -/
def lFail (st : Status) : LFail := ⟨st, noSect, 0⟩

/-- The first of a list of conditions that holds gives the failure. -/
def firstFail : List (Bool × LFail) → Option LFail
  | [] => none
  | (b, f) :: rest => if b then some f else firstFail rest

/-- The first failure that a test finds in a range. -/
def failIn (n : Nat) (f : Nat → Option LFail) : Option LFail := (List.range n).findSome? f

/-- The first of several checks that fails. -/
def orFail (a b : Option LFail) : Option LFail :=
  match a with
  | some f => some f
  | none => b

/-! ## The header (R185, R195) -/

/-- S_IMG. -/
def imgS (m : Img) : Nat := imgLe m 10 2
/-- N_REGIONS. -/
def imgRegions (m : Img) : Nat := imgLe m 9 1
/-- S_EXT. -/
def imgExt (m : Img) : Bool := bit (imgLe m 12 1) 0
/-- N_IN. -/
def imgNIn (m : Img) : Nat := imgLe m 24 2
/-- N_OUT. -/
def imgNOut (m : Img) : Nat := imgLe m 26 2
/-- IMAGE_LEN. -/
def imgLen (m : Img) : Nat := imgLe m 32 8
/-- SECT_COUNT. -/
def imgCount (m : Img) : Nat := imgLe m 40 4
/-- SECT_OFFSET. -/
def imgTable (m : Img) : Nat := imgLe m 48 8
/-- Start of the trailer. -/
def imgTrailer (m : Img) : Nat := imgLen m - 112
/-- LV.LINK. -/
def lvLink (m : Img) : Nat := imgLe m 16 1
/-- LV.SP. -/
def lvSp (m : Img) : Nat := imgLe m 17 1
/-- LV.HZ_STEP. -/
def lvHzStep (m : Img) : Nat := imgLe m 18 2
/-- LV.HZ_GAP. -/
def lvHzGap (m : Img) : Nat := imgLe m 20 2
/-- LV.D_CMP. -/
def lvDCmp (m : Img) : Nat := imgLe m 22 1
/-- LV.W_MAX. -/
def lvWMax (m : Img) : Nat := imgLe m 23 1

/-- The header checks of R204, step 1. -/
def State.headerFail (s : State) (p length : Nat) (m : Img) : Option LFail :=
  firstFail [
    (decide (imgLe m 0 4 ≠ 0x474D495A), lFail .imageFormat),
    (decide (imgLe m 5 1 = 1), lFail .imageTargetMismatch),
    (decide (imgLe m 4 2 ≠ 0x0200), lFail .imageFormat),
    (decide (2 ≤ imgLe m 12 1) || !imgZero m 13 3 || !imgZero m 28 4 || !imgZero m 44 4 || !imgZero m 72 184, lFail .imageFormat),
    (decide (16384 < imgNIn m ∨ 16384 < imgNOut m), lFail .imageFormat),
    (decide (imgLe m 6 2 ≠ s.grade.code), lFail .imageTargetMismatch),
    (decide (imgRegions m ≠ (s.regions p).length), lFail .imageTargetMismatch),
    (decide (imgLen m ≠ length), lFail .imageFormat),
    (!(decide (imgS m % 16 = 0) && decide (64 ≤ imgS m) && decide (imgS m ≤ 1024)), lFail .scheduleInvalid),
    (decide (imgLen m < 368) || decide (imgTable m % 8 ≠ 0) || decide (imgTable m < 256) ||
      decide (imgTrailer m < imgTable m + 96 * imgCount m), lFail .imageFormat)]

/-- The signature check of R193: the key slot that verifies the image. -/
def State.imageKey (s : State) (m : Img) : Option Nat :=
  let t := imgTrailer m
  let h := sha384 (imgBytes m 0 256 ++ imgBytes m (imgTable m) (96 * imgCount m))
  (List.range 8).find? (fun k =>
    let key := Tab.get [] s.host.keys [k]
    decide (key ≠ []) && decide (keyId key = imgLe m t 8) &&
      ecdsaVerify (pointOf key) h (beVal (imgBytes m (t + 8) 48)) (beVal (imgBytes m (t + 56) 48)))

/-! ## The section table (R187, R188) -/

/-- An entry of the section table. -/
structure Sect where
  idx : Nat
  type : Nat
  scope : Nat
  off : Nat
  len : Nat
  crc : Nat
deriving DecidableEq, Repr

/-- Section types. -/
def ST.regionMap : Nat := 0x0001
/-- See `ST.regionMap`. -/
def ST.hearth : Nat := 0x0010
/-- See `ST.regionMap`. -/
def ST.regs : Nat := 0x0020
/-- See `ST.regionMap`. -/
def ST.dram : Nat := 0x0030
/-- See `ST.regionMap`. -/
def ST.queues : Nat := 0x0040
/-- See `ST.regionMap`. -/
def ST.pins : Nat := 0x0050
/-- See `ST.regionMap`. -/
def ST.probes : Nat := 0x0060

/-- Entry `k` of the section table. -/
def sectAt (m : Img) (k : Nat) : Sect :=
  let o := imgTable m + 96 * k
  ⟨k, imgLe m o 2, imgLe m (o + 2) 2, imgLe m (o + 8) 8, imgLe m (o + 16) 8, imgLe m (o + 24) 4⟩

/-- The section table. -/
def imgSects (m : Img) : List Sect := (List.range (imgCount m)).map (sectAt m)

/-- The section of a type and a scope. -/
def sectOf (m : Img) (type scope : Nat) : Option Sect :=
  (imgSects m).find? (fun e => decide (e.type = type ∧ e.scope = scope))

/-- The region map: compiled anvil and row of every image region. -/
def regionMap (m : Img) : List (Nat × Nat) :=
  match sectOf m ST.regionMap 0 with
  | none => []
  | some e => (List.range (min (imgRegions m) (e.len / 2))).map (fun i => (imgLe m (e.off + 2 * i) 1, imgLe m (e.off + 2 * i + 1) 1))

/-- A TYPE and a SCOPE of the table of R188; a DRAM section needs an anvil that the region map names. -/
def scopeOk (m : Img) (e : Sect) : Bool :=
  if e.type = ST.hearth then decide (e.scope < 16 * imgRegions m)
  else if e.type = ST.dram then
    (sectOf m ST.regionMap 0).isNone || (regionMap m).any (fun r => r.1 = e.scope)
  else decide (e.scope = 0) &&
    (decide (e.type = ST.regionMap) || decide (e.type = ST.regs) || decide (e.type = ST.queues) || decide (e.type = ST.pins) ||
      decide (e.type = ST.probes))

/-- An entry of the section table is at fault (R204, step 3). -/
def sectBad (m : Img) (e : Sect) : Bool :=
  let o := imgTable m + 96 * e.idx
  !imgZero m (o + 4) 4 || !imgZero m (o + 28) 20 || decide (e.off % 8 ≠ 0) || decide (e.off < 256) ||
    decide (imgTrailer m < e.off + e.len) || overlaps e.off e.len (imgTable m) (96 * imgCount m) || !scopeOk m e ||
    (List.range e.idx).any (fun k =>
      let d := sectAt m k
      overlaps e.off e.len d.off d.len || decide (e.type = d.type ∧ e.scope = d.scope))

/-- The section table as a whole. -/
def tableFail (m : Img) : Option LFail :=
  orFail ((imgSects m).findSome? (fun e => if sectBad m e then some ⟨.imageFormat, e.idx, 0⟩ else none))
    (if (sectOf m ST.regionMap 0).isNone ∨
        (List.range (16 * imgRegions m)).any (fun k => (sectOf m ST.hearth k).isNone) then some (lFail .imageFormat) else none)

/-! ## Relocation (R199, R200) -/

/-- A transform: ROW_SWAP, COL_SHIFT and ROW_SHIFT. -/
structure Transform where
  swap : Nat
  col : Nat
  row : Nat
deriving DecidableEq, Repr

/-- The anvil a compiled anvil maps to. -/
def Transform.anvil (t : Transform) (a : Nat) : Nat := 4 * ((a / 4 + t.swap) % 2) + (a % 4 + t.col) % 4

/-- The row a compiled row maps to. -/
def Transform.rowOf (t : Transform) (g : Nat) : Nat := (g + t.row) % 8

/-- The region an image region maps to. -/
def Transform.region (t : Transform) (r : Nat × Nat) : Nat := 8 * t.anvil r.1 + t.rowOf r.2

/-- A transform fits: the mapped regions are the partition's, and image region 0 is the home region. -/
def State.fits (s : State) (p : Nat) (rm : List (Nat × Nat)) (t : Transform) : Bool :=
  let l := rm.map t.region
  decide (l.headD 64 = s.home p) && l.all (fun r => bit (s.rgnMask p) r) && (s.regions p).all (fun r => l.contains r)

/-- The transforms in the order in which they are tried; ROW_SWAP is 0 on the TZ-4H. -/
def transforms (g : Grade) : List Transform :=
  (List.range (if g = .tz8h then 2 else 1)).flatMap (fun x => (List.range 4).flatMap (fun c => (List.range 8).map (fun r => ⟨x, c, r⟩)))

/-- The transform that a load uses. -/
def State.transform (s : State) (p : Nat) (m : Img) : Option Transform :=
  (transforms s.grade).find? (s.fits p (regionMap m))

/-- A region map that R199 rejects. -/
def State.mapBad (s : State) (m : Img) : Bool :=
  let rm := regionMap m
  decide (rm.length ≠ imgRegions m) || decide (((sectOf m ST.regionMap 0).elim 0 (·.len)) ≠ 2 * imgRegions m) ||
    decide (¬rm.Nodup) || rm.any (fun r => decide (8 ≤ r.2 ∨ s.grade.anvils ≤ r.1))

/-- The hearth to which the HEARTH section of a scope goes: anvil, hearth. -/
def Transform.hearth (t : Transform) (m : Img) (scope : Nat) : Nat × Nat :=
  let r := (regionMap m).getD (scope / 16) (0, 0)
  (t.anvil r.1, 16 * t.rowOf r.2 + scope % 16)

/-- Scopes of the HEARTH sections in the order in which hearths are written (R205), with their sections. -/
def hearthOrder (s : State) (p : Nat) (t : Transform) (m : Img) : List (Nat × Nat × Sect) :=
  (s.hearths p).filterMap (fun ah =>
    ((List.range (16 * imgRegions m)).find? (fun k => decide (t.hearth m k = ah))).bind (fun k =>
      (sectOf m ST.hearth k).map (fun e => (ah.1, ah.2, e))))

/-! ## HEARTH sections (R189) -/

/-- Instruction word of BP `b` in step `t`. -/
def hxInstr (m : Img) (e : Sect) (t b : Nat) : Nat := imgLe m (e.off + 10 * (1024 * t + b)) 10
/-- Route word, with the pad bits of its container. -/
def hxRoute (m : Img) (e : Sect) (t b : Nat) : Nat := imgLe m (e.off + 10240 * imgS m + 2 * (1024 * t + b)) 2
/-- Egress word. -/
def hxEgress (m : Img) (e : Sect) (t k : Nat) : Nat := imgLe m (e.off + 12288 * imgS m + 3 * (256 * t + k)) 3
/-- Injector word. -/
def hxInject (m : Img) (e : Sect) (t k : Nat) : Nat := imgLe m (e.off + 13056 * imgS m + 3 * (16 * t + k)) 3
/-- Dictionary entry. -/
def hxDict (m : Img) (e : Sect) (k : Nat) : Nat := imgLe m (e.off + 13104 * imgS m + 8 * k) 8
/-- Word `w` of the binding of port `j`. -/
def hxPort (m : Img) (e : Sect) (j w : Nat) : Nat := imgLe m (e.off + 13104 * imgS m + 2048 + 16 * j + 4 * w) 4
/-- End of the port bindings in a HEARTH section. -/
def hxPortEnd (m : Img) : Nat := 13104 * imgS m + 2304
/-- Initial user state of BP `b`, 256 bits. -/
def hxUser (m : Img) (e : Sect) (b : Nat) : Nat := imgLe m (e.off + 13104 * imgS m + 2304 + 32 * b) 32
/-- Length of a HEARTH section without runs. -/
def hxFixed (m : Img) : Nat := 13104 * imgS m + 35072

/-- The binding of port `j` as the image declares it: RD_PAD declared, DRAM base relative. -/
def hxBinding (m : Img) (e : Sect) (j : Nat) : Binding :=
  let w := hxPort m e j 0
  ⟨bits w 31 30, bits w 29 29, bit w 28, bits w 27 26, bits w 20 16, bits w 14 12, bits w 5 0 + 1, bits (hxPort m e j 1) 16 0,
    hxPort m e j 2 + 2 ^ 32 * bits (hxPort m e j 3) 2 0⟩

/-- A run of initial contents: where it starts in its store (bank and address, or address), and its data's place in the
image. -/
structure Run where
  bank : Nat
  addr : Nat
  len : Nat
  at_ : Nat
deriving DecidableEq, Repr

/-- The scratchpad runs of a HEARTH section from an offset on; none if they are malformed. -/
def hxRuns (m : Img) : Nat → Nat → Nat → Option (List Run)
  | 0, off, stop => if off = stop then some [] else none
  | n + 1, off, stop =>
    if off = stop then some []
    else
      let len := imgLe m (off + 8) 4
      let next := off + 16 + (len + 7) / 8 * 8
      if off + 16 ≤ stop ∧ next ≤ stop ∧ imgLe m off 1 < 2 ∧ imgZero m (off + 1) 3 ∧ imgZero m (off + 12) 4 ∧
          imgLe m (off + 4) 4 + len ≤ 131072 ∧ imgZero m (off + 16 + len) (next - off - 16 - len) then
        (hxRuns m n next stop).map (fun l => ⟨imgLe m off 1, imgLe m (off + 4) 4, len, off + 16⟩ :: l)
      else none

/-- The scratchpad runs of a HEARTH section. -/
def hxScratch (m : Img) (e : Sect) : Option (List Run) := hxRuns m (e.len / 16 + 1) (e.off + hxFixed m) (e.off + e.len)

/-! ## Content rules of a HEARTH section (R182) -/

/-- Selector `i` of an instruction word. -/
def selOf (w i : Nat) : Nat := bits w (65 - 11 * i) (55 - 11 * i)

/-- A reserved opcode or a nonzero reserved field (R53, R54). -/
def opcodeBad (w : Nat) : Bool :=
  let op := bits w 79 74
  let idx := bits w 73 66
  if op = 0 ∨ op = 0x3C then decide (idx ≠ 0)
  else if 0x10 ≤ op ∧ op ≤ 0x13 then false
  else if 0x18 ≤ op ∧ op ≤ 0x2F then false
  else if 0x30 ≤ op ∧ op ≤ 0x33 then decide (bits w 68 66 ≠ 0)
  else if op = 0x38 ∨ op = 0x3D ∨ op = 0x3F then false
  else if op = 0x39 then decide (bits w 69 66 = 15)
  else if op = 0x3A ∨ op = 0x3B then decide (bits w 69 66 ≠ 0 ∨ bits w 65 61 ≠ 0 ∨ bits w 54 0 ≠ 0)
  else if op = 0x3E then decide (idx ≠ 0 ∨ bits w 40 0 ≠ 0)
  else true

/-- A selector outside what its family permits (R54, R57, R59 to R61, R64, R67). -/
def operandBad (w : Nat) : Bool :=
  let op := bits w 79 74
  let used := fun (l : List Nat) => l.any (fun i => decide (selOf w i ≠ 1792))
  if op = 0 then used [0, 1, 2, 3, 4, 5]
  else if 0x18 ≤ op ∧ op ≤ 0x2F then !(decide (1536 ≤ selOf w 5) && decide (selOf w 5 < 1792))
  else if op = 0x38 ∧ bits w 69 66 = 15 then used [2, 3, 4, 5]
  else if op = 0x3C ∨ op = 0x3D then used [1, 2, 3, 4, 5]
  else false

/-- A route word that R71 does not define. -/
def routeBad (w : Nat) : Bool :=
  let code := bits w 11 10
  if code = 0 then decide (bits w 9 0 ≠ 0) else if code = 2 then decide (bits w 9 8 ≠ 0) else decide (code = 3)

/-- An egress word that R88 does not define. -/
def egressBad (g : Grade) (a h w : Nat) : Bool :=
  let sk := bits w 21 20
  if sk = 0 then decide (w ≠ 0)
  else decide (sk = 3) || (decide (sk = 2) && decide (bits w 19 18 ≠ 0)) || decide (2 ≤ bits w 9 8) ||
    (decide (bits w 9 8 = 1) && (decide (bits w 7 6 ≠ 0) || (gatewayPort g a h).isNone))

/-- An injector word that R105 or R189 does not permit. -/
def injectBad (home : Bool) (w : Nat) : Bool :=
  if home then bit w 8 || (!bit w 23 && decide (w ≠ 0)) else decide (w ≠ 0)

/-- The port loads and issues of a step of a hearth: BP, what (0 address, 1 data, 2 issue), port and group. -/
def hxPortOps (m : Img) (e : Sect) (t : Nat) : List (Nat × Nat × Nat × Nat) :=
  (List.range 1024).filterMap (fun b =>
    let w := hxInstr m e t b
    let op := bits w 79 74
    let g := bits w 69 66
    if op = 0x38 ∨ op = 0x39 then some (b, if op = 0x38 ∧ g = 15 then 2 else op - 0x38, bits w 73 70, g) else none)

/-- The first entry whose key an earlier entry has. -/
def firstRepeat : List (Nat × Nat × Nat × Nat) → List (Nat × Nat × Nat) → Option Nat
  | [], _ => none
  | x :: rest, seen => if seen.contains x.2 then some x.1 else firstRepeat rest (x.2 :: seen)

/-- The issues of a step: BP and port. -/
def hxIssues (m : Img) (e : Sect) (t : Nat) : List (Nat × Nat) :=
  (hxPortOps m e t).filterMap (fun x => if x.2.1 = 2 then some (x.1, x.2.2.1) else none)

/-- The first issue of a step that R127 does not allow beside an earlier one. -/
def firstConflict (m : Img) (e : Sect) : List (Nat × Nat) → List Nat → Option Nat
  | [], _ => none
  | (b, j) :: rest, seen =>
    if seen.any (fun k => decide (k ≠ j) && conflict (hxBinding m e k) (hxBinding m e j)) then some b
    else firstConflict m e rest (seen ++ [j])

/-- The steps in which a port issues. -/
def hxIssueSteps (m : Img) (e : Sect) (j : Nat) : List (Nat × Nat) :=
  (List.range (imgS m)).filterMap (fun t => ((hxIssues m e t).find? (fun x => x.2 = j)).map (fun x => (t, x.1)))

/-- The reserved bits of a binding's words are 0. -/
def hxBindingClean (m : Img) (e : Sect) (j : Nat) : Bool :=
  let w := hxPort m e j 0
  decide (bits w 25 21 = 0 ∧ bit w 15 = false ∧ bits w 11 6 = 0 ∧ bits (hxPort m e j 1) 31 17 = 0 ∧ bits (hxPort m e j 3) 31 3 = 0)

/-- Structure of a HEARTH section (R184, R189): its length, its runs, and the pad bits of its words. -/
def hearthForm (m : Img) (e : Sect) : Option LFail :=
  let bad : LFail := ⟨.imageFormat, e.idx, 0⟩
  if e.len < hxFixed m ∨ (hxScratch m e).isNone then some bad
  else if (List.range (imgS m)).any (fun t => (List.range 1024).any (fun b => decide (2 ^ 12 ≤ hxRoute m e t b)) ||
      (List.range 256).any (fun k => decide (2 ^ 22 ≤ hxEgress m e t k))) then some bad
  else if (List.range 16).any (fun j => !hxBindingClean m e j) then some bad
  else none

/-- The allocation that the DRAM section of a compiled anvil asks for. -/
def dramAsk (m : Img) (a : Nat) : Nat := ((sectOf m ST.dram a).map (fun e => imgLe m e.off 8)).getD 0

/-- Content rules of a HEARTH section, in the order of R182. -/
def hearthContent (g : Grade) (t : Transform) (m : Img) (e : Sect) : Option LFail :=
  let col := e.scope % 16
  let ah := t.hearth m e.scope
  let home := decide (e.scope < 16)
  let words := fun (n : Nat) (bad : Nat → Nat → Bool) (st : Status) =>
    failIn (imgS m) (fun t => failIn n (fun b => if bad t b then some ⟨st, e.idx, lDetail t b col⟩ else none))
  let compiled := ((regionMap m).getD (e.scope / 16) (0, 0)).1
  [words 1024 (fun t b => opcodeBad (hxInstr m e t b)) .illegalOpcode,
   words 1024 (fun t b => routeBad (hxRoute m e t b)) .illegalRoute,
   words 1024 (fun t b => operandBad (hxInstr m e t b)) .illegalOperand,
   failIn (imgS m) (fun t => (firstRepeat (hxPortOps m e t) []).map (fun b => ⟨.bankConflict, e.idx, lDetail t b col⟩)),
   words 256 (fun t k => egressBad g ah.1 ah.2 (hxEgress m e t k)) .wireOwnership,
   words 16 (fun t k => injectBad home (hxInject m e t k)) .wireOwnership,
   failIn 16 (fun j =>
     let b := hxBinding m e j
     if b.valid (decide (b.dram + 2 ^ b.sizeLog2 ≤ dramAsk m compiled)) then none
     else some ⟨.memWindow, e.idx, lDetail 0 j col⟩),
   failIn (imgS m) (fun t => (firstConflict m e (hxIssues m e t) []).map (fun b => ⟨.bankConflict, e.idx, lDetail t b col⟩)),
   failIn 16 (fun j =>
     if (hxBinding m e j).target = 3 then
       ((hxIssueSteps m e j)[1]?).map (fun x => ⟨.bankConflict, e.idx, lDetail x.1 x.2 col⟩)
     else none)].findSome? id

/-! ## Rules that span sections (R204, step 10) -/

/-- The HEARTH sections, in table order. -/
def hearthSects (m : Img) : List Sect := (imgSects m).filter (fun e => decide (e.type = ST.hearth))

/-- Where the wires of a hearth section's words lead: (step of arrival, hearth key, channel bit), the sending step and
entry, and whether the wire crosses the boundary. `pad` is the declared pad of a receiving link port and row. -/
def hxWires (g : Grade) (t : Transform) (m : Img) (pad : Nat → Nat → Nat) (e : Sect) : List (List Nat × Nat × Nat × Bool) :=
  let ah := t.hearth m e.scope
  let s := imgS m
  (List.range s).flatMap (fun k =>
    (List.range 256).filterMap (fun x =>
      match decodeEgr g ah.1 ah.2 (hxEgress m e k x) with
      | .torus _ _ n c => some ([(k + 1) % s, ah.1, neighbour ah.2 n, 64 * n + c], k, x, decide (s ≤ k + 1))
      | .link _ _ l c =>
        let pa := linkPeer ah.1 l
        let pl := linkFacing l
        let lat := lvLink m + pad (3 * pa + pl) (ah.2 / 16)
        some ([(k + lat) % s, pa, gatewayHearth pl (ah.2 / 16), 64 * gatewayDir pl + c], k, x, decide (s ≤ k + lat))
      | _ => none) ++
    (List.range 16).filterMap (fun x =>
      let w := hxInject m e k x
      if bit w 23 then some ([k, ah.1, ah.2, bits w 7 0], k, 256 + x, false) else none))

/-- At most one driver per wire, and no wire that leaves the partition (R99). -/
def wiresFail (inP : Nat → Nat → Bool) : List (Nat × Nat × List Nat × Nat × Nat × Bool) → Tab Bool → Option LFail
  | [], _ => none
  | (idx, col, key, k, x, _) :: rest, seen =>
    if !inP (key.getD 1 0) (key.getD 2 0) ∨ Tab.get false seen key then some ⟨.wireOwnership, idx, lDetail k (x % 1024) col⟩
    else wiresFail inP rest (Tab.put false seen key true)

/-- The trigger probes named by a hearth section: (n, step, BP). -/
def hxTProbes (m : Img) (e : Sect) : List (Nat × Nat × Nat) :=
  (List.range (imgS m)).flatMap (fun t => (List.range 1024).filterMap (fun b =>
    let w := hxInstr m e t b
    if bits w 79 74 = 0x3D then some (bits w 73 66, t, b) else none))

/-- An instruction delivers a probe: a P flag, or PROBE (R53, R67). -/
def deliversProbe (w : Nat) : Bool :=
  let op := bits w 79 74
  ((decide (0x10 ≤ op ∧ op ≤ 0x13) || decide (0x18 ≤ op ∧ op ≤ 0x1F) || decide (0x30 ≤ op ∧ op ≤ 0x33)) && bit op 1) ||
    decide (op = 0x3C)

/-- The probe deliveries of a hearth section: (step, BP). -/
def hxProbes (m : Img) (e : Sect) : List (Nat × Nat) :=
  (List.range (imgS m)).flatMap (fun t => (List.range 1024).filterMap (fun b =>
    if deliversProbe (hxInstr m e t b) then some (t, b) else none))

/-- The entries of the PROBES section: number, hearth scope, BP and step. -/
def probeEntries (m : Img) : List (Nat × Nat × Nat × Nat) :=
  match sectOf m ST.probes 0 with
  | none => []
  | some e => (List.range (e.len / 8)).map (fun k =>
      let o := e.off + 8 * k
      (imgLe m o 2, if imgLe m (o + 3) 1 < 16 then 16 * imgLe m (o + 2) 1 + imgLe m (o + 3) 1 else 2 ^ 16, imgLe m (o + 4) 2,
        imgLe m (o + 6) 2))

/-- The probe rules of R67 and R220. -/
def probesFail (m : Img) : Option LFail :=
  let hs := hearthSects m
  let named := hs.flatMap (fun e => (hxTProbes m e).map (fun x => (e.idx, e.scope % 16, x.1, x.2.1, x.2.2)))
  let twice := (List.range named.length).findSome? (fun k =>
    (named[k]?).bind (fun x => if (named.take k).any (fun y => decide (y.2.2.1 = x.2.2.1)) then
      some (⟨.imageProbe, x.1, lDetail x.2.2.2.1 x.2.2.2.2 x.2.1⟩ : LFail) else none))
  let caps := hs.findSome? (fun e =>
    let ds := hxProbes m e
    match (List.range (imgS m)).find? (fun t => decide (16 < (ds.filter (fun d => decide (d.1 = t))).length)) with
    | some t => some (⟨.imageProbe, e.idx, lDetail t 0 (e.scope % 16)⟩ : LFail)
    | none => if 4096 < ds.length then some ⟨.imageProbe, e.idx, lDetail 0 0 (e.scope % 16)⟩ else none)
  let dels := hs.flatMap (fun e => (hxProbes m e).map (fun d => (e.scope, d.2, d.1)))
  let ents := probeEntries m
  let col := match sectOf m ST.probes 0 with | some e => e.idx | none => noSect
  let ok := decide (dels.length = ents.length) && decide (ents.length ≤ 65536) &&
    dels.all (fun d => (ents.filter (fun x => decide (x.2 = d))).length == 1) &&
    (List.range ents.length).all (fun n => ents.any (fun x => decide (x.1 = n)))
  orFail twice (orFail caps (if ok then none else some ⟨.imageProbe, col, 0⟩))

/-- The output pins delivered by a hearth section: (pin, step, BP). -/
def hxOutputs (m : Img) (e : Sect) : List (Nat × Nat × Nat) :=
  (List.range (imgS m)).flatMap (fun t => (List.range 1024).filterMap (fun b =>
    let w := hxInstr m e t b
    if bits w 79 74 = 0x3E then some (bits w 54 41, t, b) else none))

/-- Each output pin is delivered exactly once, and none at or above N_OUT (R68). -/
def outputsFail (m : Img) : Option LFail :=
  let outs := (hearthSects m).flatMap (fun e => (hxOutputs m e).map (fun x => (e.idx, e.scope % 16, x.1, x.2.1, x.2.2)))
  let bad := (List.range outs.length).findSome? (fun k =>
    (outs[k]?).bind (fun x => if imgNOut m ≤ x.2.2.1 ∨ (outs.take k).any (fun y => decide (y.2.2.1 = x.2.2.1)) then
      some (⟨.imageOutput, x.1, lDetail x.2.2.2.1 x.2.2.2.2 x.2.1⟩ : LFail) else none))
  orFail bad (if outs.length = imgNOut m then none else some (lFail .imageOutput))

/-- A transfer of the schedule crosses the cycle boundary (R83). -/
def crosses (m : Img) (wires : List (Nat × Nat × List Nat × Nat × Nat × Bool)) : Bool :=
  wires.any (fun w => w.2.2.2.2.2) ||
    (hearthSects m).any (fun e =>
      (List.range 1024).any (fun b => decide (bits (hxRoute m e 0 b) 11 10 = 1)) ||
      (List.range 16).any (fun j =>
        let b := hxBinding m e j
        (decide (b.target = 1) || decide (b.target = 2)) &&
          (hxIssueSteps m e j).any (fun x => decide (imgS m ≤ x.1 + lvSp m + b.rdPad))))

/-- A port of the image is bound to DRAM. -/
def usesDram (m : Img) : Bool := (hearthSects m).any (fun e => (List.range 16).any (fun j => decide ((hxBinding m e j).target = 3)))

/-- HZ_GAP as the instruction words give it (R195). -/
def hzGap (m : Img) : Nat :=
  ((hearthSects m).flatMap (fun e => (List.range 16).flatMap (fun j =>
    if (hxBinding m e j).target = 3 then (hxIssueSteps m e j).map (fun x => imgS m - x.1 + lvHzStep m) else []))).foldl min 0xFFFF

/-- The rules that span sections, in their order. -/
def spanFail (g : Grade) (inP : Nat → Nat → Bool) (t : Transform) (m : Img) (pad : Nat → Nat → Nat) : Option LFail :=
  let wires := (hearthSects m).flatMap (fun e => (hxWires g t m pad e).map (fun w => (e.idx, e.scope % 16, w)))
  [wiresFail inP wires [], probesFail m, outputsFail m,
   if imgExt m ∧ crosses m wires then some (lFail .scheduleInvalid) else none,
   if (decide (lvHzStep m = 0xFFFF)) = usesDram m then some (lFail .imageFormat) else none,
   if hzGap m ≠ lvHzGap m then some (lFail .imageFormat) else none].findSome? id

end Sys2Proof.Machine
end

