-- ==== Sys2Proof/Machine/Settings.lean ====
section
/-! DEFINITION. The user settings image (R410 to R414): how it is built from the settings table, when a copy of it is
valid, and how its records fill the table. -/

namespace Sys2Proof.Machine

/-- A register block that the grade populates (R3). -/
def State.populated (s : State) (w : WordAt) : Bool :=
  match w.blk with
  | .link => Grade.hasLink s.grade (w.inst / 3) (w.inst % 3)
  | .ddr => decide (w.inst < s.grade.anvils)
  | .noc => decide (w.inst < s.grade.anvils)
  | .wlLane => Grade.hasLane s.grade w.inst
  | .wlBundle => decide (w.inst < s.grade.anvils)
  | .hearth => decide (w.inst / 128 < s.grade.anvils)
  | _ => true

/-! ## Building an image (R411, R414) -/

/-- A record of an image. -/
def imgRecord (type : Nat) (body : Bytes) : Bytes := toLE 2 type ++ toLE 2 body.length ++ body

/-- The field record of a settings entry. -/
def fieldRecord (k : Key) (v : Nat) : Bytes :=
  let f := fldOf (k.getD 0 0)
  imgRecord 1 (toLE 4 (Fld.addr f (k.getD 1 0) (k.getD 2 0) / 4 * 4) ++ toLE 4 f.info.mask ++ toLE 4 (v * 2 ^ f.info.lo))

/-- The role grants as the image holds them. -/
def State.grants (s : State) : Nat :=
  bitsToNat ((List.range 4).map (fun n => decide (Tab.get none s.sys.settings (Fld.hostRoleGrant.key n 0) = some 1)))

/-- The records of the settings table: fields that differ from their factory default, key slots, certificates, grants. -/
def State.imageRecords (s : State) : List Bytes :=
  (s.sys.settings.filter (fun e => decide (e.1.getD 0 0 ≠ Fld.hostRoleGrant.ctorIdx))).filterMap (fun e => e.2.map (fieldRecord e.1)) ++
  s.host.keys.map (fun e => imgRecord 2 (toLE 1 (e.1.getD 0 0) ++ zeros 3 ++ e.2 ++ zeros 3)) ++
  s.host.certs.map (fun e => imgRecord 3 (toLE 1 (e.1.getD 0 0) ++ zeros 3 ++ e.2)) ++ [imgRecord 4 (toLE 4 s.grants)]

/-- A user image with a GENERATION. -/
def State.buildImage (s : State) (gen : Nat) : Bytes :=
  let rs := s.imageRecords
  let body := rs.flatten
  let head := toLE 4 0x47544553 ++ toLE 2 0x0100 ++ zeros 2 ++ toLE 4 gen ++ toLE 4 (64 + body.length) ++ toLE 4 rs.length
  let tail := zeros 40 ++ body
  head ++ toLE 4 (crc32 (head ++ tail)) ++ tail

/-- The copy that the next persistent change writes: the one that is not chosen. -/
def State.nextCopy (s : State) : Nat := if s.reg .modBootSettingsSrc 0 0 = 1 then 1 else 0

/-- A persistent change whose program or erase fails its read-back (R409): the copy written is no valid one, and the other
stays chosen. -/
def State.copyLost (s : State) : State := { s with sys := { s.sys with copies := Tab.put [] s.sys.copies [s.nextCopy] [] } }

/-- A persistent change: the image goes into the copy that is not the chosen one, which is chosen from then on (R414). -/
def State.saveImage (s : State) : State :=
  let k := s.nextCopy
  let gen := s.reg .modBootGeneration 0 0 + 1
  (({ s with sys := { s.sys with copies := Tab.put [] s.sys.copies [k] (s.buildImage gen) } }.setReg .modBootSettingsSrc 0 0
    (k + 1)).setReg .modBootGeneration 0 0 gen)

/-! ## Reading an image (R411 to R413) -/

/-- The records of an image, type and body, if each lies inside it. -/
def imageParse : Nat → Bytes → Option (List (Nat × Bytes))
  | 0, bs => if bs = [] then some [] else none
  | n + 1, bs =>
    let len := le bs 2 2
    if bs.length < 4 ∨ len % 4 ≠ 0 ∨ bs.length < 4 + len then none
    else (imageParse n (bs.drop (4 + len))).map (fun l => (le bs 0 2, slice bs 4 len) :: l)

/-- The records of a valid copy: MAGIC, FORMAT, LENGTH, COUNT and CRC hold, and every record lies inside LENGTH. -/
def copyRecords (bs : Bytes) : Option (List (Nat × Bytes)) :=
  let len := le bs 12 4
  let img := bs.take len
  if le bs 0 4 = 0x47544553 ∧ le bs 4 2 = 0x0100 ∧ 64 ≤ len ∧ len ≤ 524288 ∧ len ≤ bs.length ∧
      le bs 20 4 = crc32 (img.take 20 ++ img.drop 24) then
    imageParse (le bs 16 4) (img.drop 64)
  else none

/-- The copy of the image that the steward uses: its number and its records. -/
def State.chosenCopy (s : State) : Option (Nat × List (Nat × Bytes)) :=
  let c := fun k => Tab.get [] s.sys.copies [k]
  match copyRecords (c 0), copyRecords (c 1) with
  | none, none => none
  | some l, none => some (0, l)
  | none, some l => some (1, l)
  | some l0, some l1 => if le (c 0) 8 4 < le (c 1) 8 4 then some (1, l1) else some (0, l0)

/-- A settings entry set. -/
def State.setEntry (s : State) (f : Fld) (i j v : Nat) : State :=
  { s with sys := { s.sys with settings := Tab.put none s.sys.settings (f.key i j) (if v = s.rst f i j then none else some v) } }

/-- The settings entry of a field. -/
def State.entry (s : State) (f : Fld) (i j : Nat) : Nat := (Tab.get none s.sys.settings (f.key i j)).getD (s.rst f i j)

/-- A field that an image record may set: a settings field that can be written. -/
def mayRecord (x : FieldInfo) : Bool := x.settings && decide (x.acc = .rw)

/-- A field record applied; nothing if it is skipped (R413). -/
def State.applyField (s : State) (addr mask value : Nat) : Option State :=
  match decodeAddr addr with
  | none => none
  | some w =>
    let fs := w.fields.filter (fun e => mayRecord e.1)
    let hit := fs.filter (fun e => decide (Nat.land e.1.mask mask ≠ 0))
    let take := hit.map (fun e =>
      let old := s.entry e.1.fld e.2.1 e.2.2
      let m := Nat.land e.1.mask mask / 2 ^ e.1.lo
      let new := old - Nat.land old m + Nat.land (value / 2 ^ e.1.lo) m
      ((e.1.fld, e.2.1, e.2.2), s.fieldTake e.1.fld e.2.1 new))
    if addr % 4 ≠ 0 ∨ !s.populated w ∨ Nat.land mask (fs.foldl (fun m e => Nat.lor m e.1.mask) 0) ≠ mask ∨
        take.any (fun t => t.2.isNone) then none
    else some (take.foldl (fun s t => s.setEntry t.1.1 t.1.2.1 t.1.2.2 (t.2.getD 0)) s)

/-- A record applied; nothing if it is skipped. -/
def State.applyRecord (s : State) (type : Nat) (b : Bytes) : Option State :=
  if type = 1 then (if b.length = 12 then s.applyField (le b 0 4) (le b 4 4) (le b 8 4) else none)
  else if type = 2 then
    if b.length = 104 ∧ le b 0 1 < 8 then
      some { s with host := { s.host with keys := Tab.put [] s.host.keys [le b 0 1] (slice b 4 97) } } else none
  else if type = 3 then
    if b.length = 52 ∧ le b 0 1 < 2 then
      some { s with host := { s.host with certs := Tab.put [] s.host.certs [le b 0 1] (slice b 4 48) } } else none
  else if type = 4 then
    if b.length = 4 ∧ le b 0 4 < 16 then
      some ((List.range 4).foldl (fun s n => s.setEntry .hostRoleGrant n 0 (b2n (bit (le b 0 4) n))) s) else none
  else none

/-- The records of an image applied in order; the count of those that are skipped. -/
def applyRecords : List (Nat × Bytes) → State → Nat → State × Nat
  | [], s, n => (s, n)
  | (t, b) :: l, s, n =>
    match s.applyRecord t b with
    | some s1 => applyRecords l s1 n
    | none => applyRecords l s (n + 1)

/-- A settings event (R419). -/
def State.settingsEvent (s : State) (st : Status) : State :=
  s.mEvent 0x18 st.num (2 ^ 16 * s.reg .modBootRejected 0 0 + s.reg .modBootSettingsSrc 0 0)

/-- The settings table filled at power-up (R410, R412, R413). -/
def State.fillSettings (s : State) : State :=
  let s0 := { s with
    sys := { s.sys with settings := [] }
    host := { s.host with keys := [], certs := [] } }
  match s.chosenCopy with
  | none =>
    let st : Status := if s.sys.copies = [] then .settingsAbsent else .settingsCorrupt
    let s1 := (s0.setReg .modBootSettingsSrc 0 0 0).setReg .modBootGeneration 0 0 0
    (s1.settingsEvent st).auditAction st 0xFFFF (Fld.addr .modBootSettingsSrc 0 0)
  | some (k, l) =>
    let x := applyRecords l s0 0
    let s1 := ((x.1.setReg .modBootRejected 0 0 (min 65535 x.2)).setReg .modBootSettingsSrc 0 0 (k + 1)).setReg .modBootGeneration 0 0
      (le (Tab.get [] s.sys.copies [k]) 8 4)
    if x.2 = 0 then s1 else s1.settingsEvent .settingsRecord

end Sys2Proof.Machine
end

