-- ==== Sys2Proof/Machine/Load.lean ====
section
/-! DEFINITION. Loading an image (R194, R201 to R208): the key slots, the commands, and the stages of a load. -/

namespace Sys2Proof.Machine

/-! ## Key slots (R194) -/

/-- An owner's change of a key slot: the slot, the user image (R414), and an audit entry with the slot and the KEY_ID. -/
def State.setKey (s : State) (r : CmdRef) (slot : Nat) (key : Bytes) : State :=
  let id := keyId (if key = [] then Tab.get [] s.host.keys [slot] else key)
  let s1 := ({ s with host := { s.host with keys := Tab.put [] s.host.keys [slot] key } }).saveImage
  s1.audit ⟨0, 0, s.role r.org, portByteOf r.org, Status.ok.num, 2, 1, 0xFFFF, 0x0601 + b2n (decide (key = [])), 0,
    s.hostIdOf r.org, slot, id⟩

/-- IMAGE_KEY_SET. -/
def cmdImageKeySet (r : CmdRef) (slot : Nat) (key : Bytes) (flashBad : Bool) (s : State) : CmdRes :=
  refuseIf [s.ownerOnly r.org, (decide (8 ≤ slot), .cmdFormat),
    (!(decide (key.length = 97) && decide (key.getD 0 0 = 4) && onCurve (pointOf key)), .imageSignature)] s
    (fun s => if flashBad then s.copyLost.says .flashError else (s.setKey r slot key).oks)

/-- IMAGE_KEY_SET (R194). -/
def execImageKeySet (r : CmdRef) (slot : Nat) (key : Bytes) (flashBad : Bool) (s : State) : Host.Outcome State Fault Refusal :=
  .next (runCmd r 0x0601 (formWith [(.int 1, slot)] key) 0xFFFF (cmdImageKeySet r slot key flashBad) s)

/-- IMAGE_KEY_CLEAR. -/
def cmdImageKeyClear (r : CmdRef) (slot : Nat) (flashBad : Bool) (s : State) : CmdRes :=
  refuseIf [s.ownerOnly r.org, (decide (8 ≤ slot), .cmdFormat)] s
    (fun s => if flashBad then s.copyLost.says .flashError else (s.setKey r slot []).oks)

/-- IMAGE_KEY_CLEAR (R194). -/
def execImageKeyClear (r : CmdRef) (slot : Nat) (flashBad : Bool) (s : State) : Host.Outcome State Fault Refusal :=
  .next (runCmd r 0x0602 (formParams 0 [(.int 1, slot)]) 0xFFFF (cmdImageKeyClear r slot flashBad) s)

/-! ## Stages and the end of a load (R203, R208) -/

/-- The stage of a partition's load. -/
def State.loadStage (s : State) (p : Nat) : Nat := s.reg .partLoadStage p 0

/-- Loads in progress on the module: those past WAITING. -/
def State.loadsBusy (s : State) : Nat :=
  ((List.range 32).filter (fun p => decide (1 ≤ s.loadStage p ∧ s.loadStage p ≤ 6))).length

/-- The load registers that a new load starts with. -/
def State.loadRegs (s : State) (p stage : Nat) : State :=
  let s1 := [Fld.partLoadDone, .partLoadRelocRowShift, .partLoadRelocColShift, .partLoadRelocRowSwap, .partLoadKeySlot,
    .partLoadSteppingC, .partLoadFailSection, .partLoadFailDetail].foldl (fun s f => s.setReg f p 0 0) s
  let s2 := (List.range 4).foldl (fun s j => s.setReg .partLoadImageId p j 0) s1
  (s2.setReg .partLoadTotal p 0 (16 * (s.regions p).length)).setReg .partLoadStage p 0 stage

/-- The oldest waiting load starts its header stage. -/
def State.loadDequeue (s : State) : State :=
  if 4 ≤ s.loadsBusy then s
  else
    let w := (List.range 32).filter (fun p => decide (s.loadStage p = 7))
    let age := fun (p : Nat) => (s.part p).load.elim 0 (·.order)
    match w.find? (fun p => w.all (fun q => decide (age p ≤ age q))) with
    | some p => s.setReg .partLoadStage p 0 1
    | none => s

/-- LOAD_DEQUEUE (R203). -/
def execLoadDequeue (s : State) : Host.Outcome State Fault Refusal := .next s.loadDequeue

/-- What is under way in the fabric of a partition leaves it: bits in flight, reads and memory requests. -/
def State.dropFlights (s : State) (p : Nat) : State :=
  let ids := (s.fab.emu.filter (fun e => decide (e.part = p))).map (·.id)
  let f := { s.fab with
    flight := s.fab.flight.filter (fun x => decide (x.part ≠ p))
    spReads := s.fab.spReads.filter (fun x => decide (x.part ≠ p))
    due := s.fab.due.filter (fun x => decide (x.part ≠ p))
    emu := s.fab.emu.filter (fun x => decide (x.part ≠ p)) }
  let s1 := { s with
    fab := f
    dram := { s.dram with back := Tab.keep (fun k => !ids.contains (k.getD 1 0)) s.dram.back } }
  s1.dropReqs (fun r => match r.src with
    | .port id => r.write || !ids.contains id
    | _ => true)

/-- Everything of an image that the compare engine, the sequencer's probes and the memories hold is discarded. -/
def State.discardImage (s : State) (p : Nat) : State :=
  ((s.dropFlights p).modPart p (fun x => { x with
    started := false, heldStart := false, finishing := false, haltReqs := [], cycs := [], inVec := 0, outs := 0
    failNow := false, tprobes := [], probes := 0, probeMap := [], respFrom := 0 })).capAbort p

/-- The first actions of the PREPARE stage (R203): the previous image is discarded, the partition is in LOADING, its pins take
the hold state, and the reserved allocations take the place of the previous ones. -/
def State.loadOpen (s : State) (p : Nat) (l : Load) : State :=
  let s1 := s.discardImage p
  let s2 := if s1.mode p = Mode.ready then s1.enterMode p Mode.loading 1 else s1
  (s2.setHolds p l.holds).modPart p (fun x => { x with allocs := l.allocs })

/-- The DRAM allocations and slots of a partition are released. -/
def State.releaseAllocs (s : State) (p : Nat) : State :=
  (List.range 8).foldl (fun s a => s.setReg .partMemSlotsAllot p a 0) (s.modPart p (fun x => { x with allocs := [] }))

/-- A load ends in its present stage with a status (R203, R208): the registers, the completion, and what it reserved. -/
def State.loadEnd (s : State) (p : Nat) (st : Status) (sect detail : Nat) : State :=
  match (s.part p).load with
  | none => s
  | some l =>
    let stage := s.loadStage p
    let f := if st = .ok then (0, 0) else (sect, detail)
    let s1 := ((((s.setReg .partLoadStatus p 0 st.num).setReg .partLoadEndStage p 0 stage).setReg .partLoadStage p 0 0).setReg
      .partLoadFailSection p 0 f.1).setReg .partLoadFailDetail p 0 f.2
    let s2 := (s1.answer l.ref ⟨st, stage, toLE 4 f.1 ++ toLE 4 f.2⟩).dramForget l.ref
    let s3 := s2.modPart p (fun x => { x with load := none })
    if 4 ≤ stage ∧ stage ≤ 6 ∧ st ≠ .ok then s3.releaseAllocs p else s3

/-- A load ends with a failure: from stage 0x4 on the partition stays in LOADING with no image. -/
def State.loadFail (s : State) (p : Nat) (f : LFail) : State :=
  let s1 := match (s.part p).load with
    | some l => if 4 ≤ s.loadStage p ∧ s.loadStage p ≤ 6 ∧ s.mode p = Mode.ready then s.loadOpen p l else s
    | none => s
  s1.loadEnd p f.st f.sect f.detail

/-- A part of an image could not be fetched: HOST_DMA (R202, R298). -/
def State.loadDma (s : State) (p : Nat) (l : Load) : State :=
  (s.setReg .hostErrStatusDma l.srcPort 0 1).loadFail p (lFail .hostDma)

/-- A load in progress goes on to a stage. -/
def State.toStage (s : State) (p n : Nat) : State := s.setReg .partLoadStage p 0 n

/-- The load of a partition, if it is in a stage. -/
def State.loadIn (s : State) (p stage : Nat) : Option Load :=
  if s.pExists p ∧ s.loadStage p = stage then (s.part p).load else none

/-! ## PART_LOAD (R202) -/

/-- PART_LOAD. -/
def cmdPartLoad (r : CmdRef) (p srcPort addr length flags : Nat) (s : State) : CmdRes :=
  let only := bit flags 0
  refuseIf ((decide (2 ≤ flags), .cmdFormat) :: s.noLocal r.org :: (!s.portPresent srcPort, .notPresent) :: s.partChecks r.org p ++
    [(!s.isOwner r.org && r.org != .host srcPort, .notOwner)] ++
    [(decide (s.loadStage p ≠ 0), .loadBusy),
     (!only && !(decide (s.mode p = Mode.loading) || decide (s.mode p = Mode.ready)), .modeInvalid)]) s (fun s =>
    let orders := (List.range 32).map (fun q => (s.part q).load.elim 0 (fun l => l.order + 1))
    let l : Load := ⟨r, srcPort, addr, length, only, orders.foldl max 0, [], [], [], 0, 0, 0, 0, 0, [], [], [], 0, []⟩
    let s1 := (s.modPart p (fun x => { x with load := some l })).loadRegs p (if 4 ≤ s.loadsBusy then 7 else 1)
    (if only then s1 else s1.outageReload p).waits)

/-- PART_LOAD (R202). -/
def execPartLoad (r : CmdRef) (p srcPort addr length flags : Nat) (s : State) : Host.Outcome State Fault Refusal :=
  .next (runCmd r 0x0600 (formParams 0 [(.int 1, p), (.int 1, srcPort), (.int 8, addr), (.int 8, length), (.int 4, flags)]) p
    (cmdPartLoad r p srcPort addr length flags) s)

/-! ## Stage 0x1 HEADER -/

/-- The header stage (R204, steps 1 to 3). -/
def State.loadHeader (s : State) (p : Nat) (img : Bytes) : State :=
  match s.loadIn p 1 with
  | none => s
  | some l =>
    let s := s.dmaUse l.srcPort
    let m := img.toArray
    if !imgHas m 0 256 then s.loadDma p l
    else
      let id := imgLe m 56 16
      let s1 := (List.range 4).foldl (fun s j => s.setReg .partLoadImageId p j (imgLe m (56 + 4 * j) 4))
        (s.setReg .partLoadSteppingC p 0 (imgLe m 8 1))
      let s2 := s1.modPart p (fun x => { x with load := some { l with imageId := id, head := imgBytes m 0 256 } })
      match s2.headerFail p l.length m with
      | some f => s2.loadFail p f
      | none =>
        let n := 96 * imgCount m
        if !imgHas m (imgTable m) n ∨ !imgHas m (imgTrailer m) 112 then s2.loadDma p l
        else
          let s3 := s2.modPart p (fun x => { x with load := some { l with
            imageId := id, head := imgBytes m 0 256, table := imgBytes m (imgTable m) n
            trailer := imgBytes m (imgTrailer m) 112, keyId := imgLe m (imgTrailer m) 8 } })
          if !imgZero m (imgTrailer m + 104) 8 then s3.loadFail p (lFail .imageFormat)
          else
            match s3.imageKey m with
            | none => s3.loadFail p (lFail .imageSignature)
            | some k =>
              let s4 := s3.setReg .partLoadKeySlot p 0 k
              let gone := match sectOf m ST.regionMap 0 with
                | some e => decide (e.off + e.len ≤ imgTrailer m) && !imgHas m e.off e.len
                | none => false
              if gone then s4.loadDma p l
              else
                match tableFail m with
                | some f => s4.loadFail p f
                | none => s4.toStage p 2

/-- LOAD_HEADER (R203). -/
def execLoadHeader (p : Nat) (img : Bytes) (s : State) : Host.Outcome State Fault Refusal := .next (s.loadHeader p img)

/-! ## Stage 0x2 PLAN -/

/-- Bytes laid over an image. -/
def overlay (m : Img) (off : Nat) (bs : Bytes) : Img :=
  (bs.foldl (fun (x : Img × Nat) b => (x.1.setIfInBounds x.2 b, x.2 + 1)) (m, off)).1

/-- The image as a later stage sees it: the sections as fetched now, the header and the table as fetched in stage 0x1. -/
def Load.view (l : Load) (img : Bytes) : Img :=
  let off := le l.head 48 8
  let len := le l.head 32 8
  let n := max (max 256 (off + l.table.length)) (min len img.length)
  overlay (overlay (overlay (img ++ zeros (n - img.length)).toArray 0 l.head) off l.table) (len - 112) l.trailer

/-- The bytes of a section could be fetched. -/
def sectHas (img : Bytes) (e : Sect) : Bool := decide (e.off + e.len ≤ img.length)

/-- The transform a load has chosen. -/
def Load.transform (l : Load) : Transform := ⟨l.rowSwap, l.colShift, l.rowShift⟩

/-- A record of a REGS section (R190). -/
structure Rec where
  block : Nat
  patch : Nat
  scope : Nat
  off : Nat
  value : Nat
  mask : Nat
deriving DecidableEq, Repr

/-- The records of the REGS section. -/
def imgRecs (m : Img) : List Rec :=
  match sectOf m ST.regs 0 with
  | none => []
  | some e => (List.range (e.len / 16)).map (fun k =>
      let o := e.off + 16 * k
      ⟨imgLe m o 1, imgLe m (o + 1) 1, imgLe m (o + 2) 2, imgLe m (o + 4) 4, imgLe m (o + 8) 4, imgLe m (o + 12) 4⟩)

/-- The register word that a record writes (R190, R200). -/
def Rec.word (x : Rec) (t : Transform) (p : Nat) : WordAt :=
  if x.block = 0 then ⟨.part, p, x.off⟩
  else if x.block = 1 then ⟨.cmp, p, x.off⟩
  else if x.block = 2 then ⟨.link, 3 * t.anvil (bits x.scope 7 5) + bits x.scope 4 3, 0x10 + 4 * t.rowOf (bits x.scope 2 0)⟩
  else ⟨.obs, p, x.off⟩

/-- The link pads that the image declares: link port, row and pad, in module terms, first to last. -/
def linkPads (t : Transform) (m : Img) : List (Nat × Nat × Nat) :=
  (imgRecs m).filterMap (fun x =>
    if x.block = 2 ∧ x.patch = 3 ∧ bits x.mask 2 0 ≠ 0 then
      some (3 * t.anvil (bits x.scope 7 5) + bits x.scope 4 3, t.rowOf (bits x.scope 2 0), bits x.value 2 0) else none)

/-- The declared pad of a receiving link port and row: the last one, or 0. -/
def declaredPad (t : Transform) (m : Img) (link row : Nat) : Nat :=
  ((linkPads t m).reverse.find? (fun x => decide (x.1 = link ∧ x.2.1 = row))).elim 0 (·.2.2)

/-- A declared pad as the loader writes it, or none if it does not lie in 0 to 7 (R197). -/
def shiftPad (declared lv lat : Nat) : Option Nat :=
  if lat ≤ declared + lv ∧ declared + lv - lat ≤ 7 then some (declared + lv - lat) else none

/-- The pads and the header-only latency checks (R204, step 5). -/
def State.latencyFail (s : State) (t : Transform) (m : Img) : Option LFail :=
  let lm := fun (b : Bool) => if b then some (lFail .latencyMismatch) else none
  let regs := (sectOf m ST.regs 0).elim noSect (·.idx)
  [(linkPads t m).findSome? (fun x =>
     if (shiftPad x.2.2 (lvLink m) s.stepping.lBase).isNone then some (⟨.latencyMismatch, regs, 0⟩ : LFail) else none),
   (hearthSects m).findSome? (fun e => failIn 16 (fun j =>
     let b := hxBinding m e j
     if (b.target = 1 ∨ b.target = 2) ∧ (shiftPad b.rdPad (lvSp m) Config.spLat).isNone then
       some ⟨.latencyMismatch, e.idx, lDetail 0 j (e.scope % 16)⟩ else none)),
   lm (decide (lvHzStep m ≠ 0xFFFF ∧ imgS m ≤ lvHzStep m)),
   lm (decide (lvHzGap m < Config.dramRtn)),
   lm (decide (7 < lvWMax m)),
   lm (decide (lvDCmp m < 1 ∨ 31 < lvDCmp m)),
   lm (decide (lvDCmp m < Config.cmpMin + lvWMax m))].findSome? id

/-- The DRAM sections, in table order. -/
def dramSects (m : Img) : List Sect := (imgSects m).filter (fun e => decide (e.type = ST.dram))

/-- Head of a DRAM section that R191 rejects. -/
def dramHeadBad (m : Img) (e : Sect) : Bool :=
  decide (e.len < 16) || decide (imgLe m e.off 8 % 2 ^ 21 ≠ 0) || decide (Config.dramUsable < imgLe m e.off 8) ||
    decide (256 < imgLe m (e.off + 8) 2) || !imgZero m (e.off + 10) 6

/-- The ranges of an anvil's DRAM that a plan of partition `p` must avoid (R201). -/
def State.planBusy (s : State) (p a : Nat) : List (Nat × Nat) :=
  let on := fun (l : List (Nat × Nat × Nat)) => l.filterMap (fun e => if e.1 = a then some e.2 else none)
  (s.partitions.filter (· ≠ p)).flatMap (fun q =>
    let x := s.part q
    on x.allocs ++ (match x.load with | some l => if l.checkOnly then [] else on l.allocs | none => [])) ++
  (if s.flag .traceBufValid 0 0 ∧ s.reg .traceBufAnvil 0 0 = a then
    [(s.reg .traceBufBaseLo 0 0 * 2 ^ 21 + s.reg .traceBufBaseHi 0 0 * 2 ^ 32, 2 ^ s.reg .traceBufSizeLog2 0 0)] else []) ++
  (if a < 2 then [(Config.auditBase, 4194304)] else [])

/-- The lowest free range of an anvil, aligned to 2 MiB. -/
def lowestFree (busy : List (Nat × Nat)) (n : Nat) : Option Nat :=
  let starts := 0 :: busy.map (fun r => (r.1 + r.2 + 2 ^ 21 - 1) / 2 ^ 21 * 2 ^ 21)
  let fits := starts.filter (fun b => decide (b + n ≤ Config.dramUsable) && busy.all (fun r => !overlaps b n r.1 r.2))
  match fits with
  | [] => none
  | b :: bs => some (bs.foldl min b)

/-- Slots of an anvil that other partitions hold or have reserved. -/
def State.slotsTaken (s : State) (p a : Nat) : Nat :=
  (s.partitions.filter (· ≠ p)).foldl (fun n q =>
    let r := match (s.part q).load with
      | some l => if l.checkOnly then 0 else ((l.slots.find? (fun e => e.1 = a)).elim 0 (·.2))
      | none => 0
    n + max r (s.reg .partMemSlotsAllot q a)) 0

/-- The allocations of a plan, in table order, or the first section that finds none. -/
def State.planAllocs (s : State) (p : Nat) (t : Transform) (m : Img) : List Sect → Except LFail (List (Nat × Nat × Nat))
  | [] => .ok []
  | e :: rest =>
    let n := imgLe m e.off 8
    let a := t.anvil e.scope
    if n = 0 then State.planAllocs s p t m rest
    else
      match lowestFree (s.planBusy p a) n with
      | none => .error ⟨.dramAlloc, e.idx, 0⟩
      | some b =>
        match State.planAllocs s p t m rest with
        | .ok l => .ok ((a, b, n) :: l)
        | .error f => .error f

/-- The slots of a plan, per anvil. -/
def planSlots (t : Transform) (m : Img) : List (Nat × Nat) := (dramSects m).map (fun e => (t.anvil e.scope, imgLe m (e.off + 8) 2))

/-- The queues assigned to a partition, rising. -/
def State.queuesAssigned (s : State) (p : Nat) : List Nat := (List.range 4096).filter (fun q => decide (s.qScope q = p))

/-- Q of the QUEUES section. -/
def imgQueues (m : Img) : Nat := (sectOf m ST.queues 0).elim 0 (fun e => imgLe m e.off 4)

/-- The queue count (R204, step 7). -/
def State.queueFail (s : State) (p : Nat) (m : Img) : Option LFail :=
  let at_ := fun (ty : Nat) => (sectOf m ty 0).elim noSect (·.idx)
  firstFail [
    (decide ((s.queuesAssigned p).length < imgQueues m), ⟨.queueAlloc, at_ ST.queues, 0⟩),
    ((imgRecs m).any (fun x => decide (x.patch = 2 ∧ imgQueues m ≤ x.value % 4096)), ⟨.queueAlloc, at_ ST.regs, 0⟩)]

/-- The entries of the PINS section: pin, code and reserved bytes. -/
def imgPins (m : Img) : List (Nat × Nat × Nat) :=
  match sectOf m ST.pins 0 with
  | none => []
  | some e => (List.range (e.len / 4)).map (fun k => (imgLe m (e.off + 4 * k) 1, imgLe m (e.off + 4 * k + 1) 1, imgLe m (e.off + 4 * k + 2) 2))

/-- The pins (R204, step 8). -/
def State.pinFail (s : State) (p : Nat) (m : Img) : Option LFail :=
  let i := (sectOf m ST.pins 0).elim noSect (·.idx)
  (imgPins m).findSome? (fun x =>
    if 48 ≤ x.1 ∨ 5 ≤ x.2.1 ∨ x.2.2 ≠ 0 then some ⟨.imageFormat, i, 0⟩
    else if s.reg .spPinOwner 0 x.1 ≠ p then some ⟨.notOwner, i, 0⟩ else none)

/-- An egress word of the image crosses a link that is out of service (R432). -/
def State.linkOutFail (s : State) (t : Transform) (m : Img) : Option LFail :=
  (hearthSects m).findSome? (fun e =>
    let ah := t.hearth m e.scope
    failIn (imgS m) (fun k => failIn 256 (fun x =>
      match decodeEgr s.grade ah.1 ah.2 (hxEgress m e k x) with
      | .link _ _ l _ =>
        if bit (s.reg .svcLinkOut 0 0) (3 * ah.1 + l) ∨ bit (s.reg .svcLinkOut 0 0) (3 * linkPeer ah.1 l + linkFacing l) then
          some ⟨.svcLinkOut, e.idx, lDetail k x (e.scope % 16)⟩ else none
      | _ => none)))

/-- The checks of a stage in their order, each with whether the bytes that it needs could be fetched; the first that fails ends
the load. -/
def stepFail : List (Bool × Option LFail) → Option LFail
  | [] => none
  | (has, f) :: rest => if !has then some (lFail .hostDma) else orFail f (stepFail rest)

/-- The first bytes of the sections of a type could be fetched. -/
def headsHas (img : Bytes) (m : Img) (type n : Nat) : Bool :=
  (imgSects m).all (fun e => decide (e.type ≠ type) || decide (e.off + min n e.len ≤ img.length))

/-- A load ends with a failure; one of a fetch is recorded at its port as well. -/
def State.loadStop (s : State) (p : Nat) (l : Load) (f : LFail) : State :=
  if f.st = .hostDma then s.loadDma p l else s.loadFail p f

/-- The plan stage (R204, steps 4 to 8), which ends with SVC_LINK_OUT where the image uses a link that is out of service
(R432); with a region off after a rail fault it fails (R397). -/
def State.loadPlan (s : State) (p : Nat) (img : Bytes) : State :=
  match s.loadIn p 2 with
  | none => s
  | some l =>
    let s := s.dmaUse l.srcPort
    let m := l.view img
    let whole := fun (type : Nat) => headsHas img m type (2 ^ 64)
    let map := if s.mapBad m then some (⟨.imageFormat, (sectOf m ST.regionMap 0).elim noSect (·.idx), 0⟩ : LFail) else none
    if (s.regions p).any (fun r => !s.regionOn r) then s.loadFail p (lFail .pwrRailFault)
    else
      match stepFail [(whole ST.regionMap, map)] with
      | some f => s.loadStop p l f
      | none =>
        match s.transform p m with
        | none => s.loadFail p (lFail .imageRelocation)
        | some t =>
          let s1 := ((s.setReg .partLoadRelocRowSwap p 0 t.swap).setReg .partLoadRelocColShift p 0 t.col).setReg
            .partLoadRelocRowShift p 0 t.row
          let heads := (dramSects m).findSome? (fun e => if dramHeadBad m e then some (⟨.imageFormat, e.idx, 0⟩ : LFail) else none)
          match stepFail [(whole ST.regs && headsHas img m ST.hearth (hxPortEnd m), s1.latencyFail t m),
              (headsHas img m ST.dram 16, heads)] with
          | some f => s1.loadStop p l f
          | none =>
            match s1.planAllocs p t m (dramSects m) with
            | .error f => s1.loadFail p f
            | .ok allocs =>
              let slots := (dramSects m).findSome? (fun e =>
                if 256 < s1.slotsTaken p (t.anvil e.scope) + imgLe m (e.off + 8) 2 then some (⟨.memSlots, e.idx, 0⟩ : LFail) else none)
              match stepFail [(true, slots), (headsHas img m ST.queues 4, s1.queueFail p m), (whole ST.pins, s1.pinFail p m),
                  (decide (s1.reg .svcLinkOut 0 0 = 0) || whole ST.hearth, s1.linkOutFail t m)] with
              | some f => s1.loadStop p l f
              | none =>
                (s1.modPart p (fun x => { x with load := some { l with
                  rowSwap := t.swap, colShift := t.col, rowShift := t.row, allocs := allocs, slots := planSlots t m
                  holds := (imgPins m).map (fun y => (y.1, y.2.1)) } })).toStage p 3

/-- LOAD_PLAN (R203). -/
def execLoadPlan (p : Nat) (img : Bytes) (s : State) : Host.Outcome State Fault Refusal := .next (s.loadPlan p img)

/-! ## What the loader writes (R190, R197, R198, R200) -/

/-- Fields that no record may write. -/
def recExcluded (f : Fld) : Bool :=
  decide (f = .partCtlSSteps ∨ f = .partMemSlotsAllot ∨ f = .partCmpFmapRd ∨ f = .partAcqSegRd)

/-- A field that a record may write. -/
def recMay (x : FieldInfo) : Bool := decide (x.acc = .rw) && !recExcluded x.fld

/-- A word written by the loader through a mask: a field takes its part of the value, at once; a value that its table
discards leaves it. ENABLE of the acquisition unit acts as it takes its value (R226). -/
def State.writeMasked (s : State) (w : WordAt) (value mask : Nat) : State :=
  w.fields.foldl (fun s e =>
    let x := e.1
    let m := Nat.land mask x.mask
    if m = 0 ∨ !recMay x then s
    else
      let old := s.reg x.fld e.2.1 e.2.2 * 2 ^ x.lo
      let v := (old - Nat.land old m + Nat.land value m) / 2 ^ x.lo
      match s.fieldTake x.fld e.2.1 v with
      | some v =>
        let s1 := { s.setReg x.fld e.2.1 e.2.2 v with held := Tab.put none s.held (x.fld.key e.2.1 e.2.2) none }
        if x.fld = .partAcqCtlEnable then s1.acqEnabled e.2.1 (s.flag .partAcqCtlEnable e.2.1 0) else s1
      | none => s) s

/-- The base of a load's allocation for a compiled anvil. -/
def Load.base (l : Load) (a : Nat) : Nat := ((l.allocs.find? (fun e => e.1 = l.transform.anvil a)).map (·.2.1)).getD 0

/-- The records applied in their order, with their patches. -/
def State.applyRecs (p : Nat) (l : Load) (m : Img) : List Rec → State → State
  | [], s => s
  | x :: rest, s =>
    let w := x.word l.transform p
    if x.patch = 1 then
      match rest with
      | [] => s
      | y :: rest' =>
        let v := x.value + 2 ^ 32 * y.value + l.base (x.scope % 8)
        State.applyRecs p l m rest' ((s.writeMasked w (v % 2 ^ 32) x.mask).writeMasked (y.word l.transform p) (v / 2 ^ 32 % 2 ^ 32) y.mask)
    else
      let v :=
        if x.patch = 2 then x.value - x.value % 4096 + (s.queuesAssigned p).getD (x.value % 4096) 0
        else if x.patch = 3 then (shiftPad (bits x.value 2 0) (lvLink m) s.stepping.lBase).getD 0
        else x.value
      State.applyRecs p l m rest (s.writeMasked w v x.mask)

/-- A port binding written with its patches (R197, R200). -/
def State.writeBinding (s : State) (l : Load) (m : Img) (e : Sect) (a h j : Nat) : State :=
  let b := hxBinding m e j
  let i := hInst a h
  let compiled := ((regionMap m).getD (e.scope / 16) (0, 0)).1
  let pad := if b.target = 1 ∨ b.target = 2 then (shiftPad b.rdPad (lvSp m) Config.spLat).getD 0 else b.rdPad
  let base := if b.target = 3 then b.dram + l.base compiled else b.dram
  ((((((((s.setReg .hearthPortcfgTarget i j b.target).setReg .hearthPortcfgLport i j b.lport).setReg .hearthPortcfgDp i j
    (b2n b.dp)).setReg .hearthPortcfgShift i j b.shift).setReg .hearthPortcfgSizeLog2 i j b.sizeLog2).setReg
    .hearthPortcfgRdPad i j pad).setReg .hearthPortcfgWidthM1 i j (b.width - 1)).setReg .hearthPortbaseSp i j b.sp).setReg64
    .hearthPortdramBaseLo .hearthPortdramBaseHi i j base

/-- Bytes of an acquisition record (R225). -/
def recBytes (n : Nat) : Nat := (32 + 8 * ((n + 63) / 64) + 31) / 32 * 32

/-- The registers that SETUP writes from the image: S, the descriptor's copies, the slots, the pads and the records. -/
def State.setupRegs (s : State) (p : Nat) (l : Load) (m : Img) : State :=
  let n := (probeEntries m).length
  let s1 := ((((((((((s.setReg .partCtlSSteps p 0 (imgS m)).setReg .partSchedSImg p 0 (imgS m)).setFlag .partSchedSExt p 0
    (imgExt m)).setReg .partMemHzStep p 0 (lvHzStep m)).setReg .partCmpLatDCmp p 0 (lvDCmp m)).setReg .partCmpLatWMax p 0
    (lvWMax m)).setReg .partCmpDimNIn p 0 (imgNIn m)).setReg .partCmpDimNOut p 0 (imgNOut m)).setReg .partAcqNProbe p 0 n).setReg
    .partAcqRecBytes p 0 (recBytes n))
  let s2 := (List.range 8).foldl (fun s a =>
    s.setReg .partMemSlotsAllot p a ((l.slots.find? (fun e => e.1 = a)).elim 0 (·.2))) s1
  let s3 := (s.regions p).foldl (fun s r => (List.range 3).foldl (fun s k => s.setReg .linkRxdelayPad (3 * (r / 8) + k) (r % 8) 0) s) s2
  State.applyRecs p l m (imgRecs m) s3

/-- The state as the load would leave its registers and bindings: what the ring checks of stage 0x3 look at. -/
def State.trial (s : State) (p : Nat) (l : Load) (m : Img) : State :=
  let s1 := (s.modPart p (fun x => { x with allocs := l.allocs })).setupRegs p l m
  (hearthSects m).foldl (fun s e =>
    let ah := l.transform.hearth m e.scope
    (List.range 16).foldl (fun s j => s.writeBinding l m e ah.1 ah.2 j) s) s1

/-! ## Stage 0x3 CHECK -/

/-- Structure of a record that R190 rejects; `next` is the record after it. -/
def State.recBad (s : State) (p : Nat) (t : Transform) (m : Img) (x : Rec) (next : Option Rec) : Bool :=
  let w := x.word t p
  let fs := w.fields
  let place :=
    if x.block = 2 then
      decide (x.scope < 256) && Grade.hasLink s.grade (t.anvil (bits x.scope 7 5)) (bits x.scope 4 3) &&
        (regionMap m).contains (bits x.scope 7 5, bits x.scope 2 0) && decide (x.off = 0x10 + 4 * bits x.scope 2 0)
    else if x.patch = 1 then
      decide (x.scope < 8) && (sectOf m ST.dram x.scope).isSome && (match next with
        | some y => decide (y.block = x.block ∧ y.off = x.off + 4 ∧ y.patch = 0)
        | none => false)
    else decide (x.scope = 0)
  decide (3 < x.block) || decide (3 < x.patch) || decide ((x.block = 2) ≠ (x.patch = 3)) || !place || decide (x.off % 4 ≠ 0) ||
    decide ((if x.block = 1 then 0x40000 else 0x10000) ≤ x.off) || !fs.any (fun e => recMay e.1) ||
    fs.any (fun e => !recMay e.1 && decide (Nat.land x.mask e.1.mask ≠ 0))

/-- A record writes a field of a list. -/
def recTouches (t : Transform) (p : Nat) (l : List Fld) (x : Rec) : Bool :=
  (x.word t p).fields.any (fun e => l.contains e.1.fld && decide (Nat.land x.mask e.1.mask ≠ 0))

/-- The fields that the records of an image write. -/
def recKeys (t : Transform) (p : Nat) (m : Img) : List Key :=
  (imgRecs m).flatMap (fun x => ((x.word t p).fields.filter (fun e => recMay e.1 && decide (Nat.land x.mask e.1.mask ≠ 0))).map
    (fun e => e.1.fld.key e.2.1 e.2.2))

/-- The checks of R176, R215 and R226 on the values that the records produce. -/
def State.ringFail (s : State) (p : Nat) (l : Load) (m : Img) (idx : Nat) : Option LFail :=
  let rs := imgRecs m
  let hit := fun (fs : List Fld) => rs.any (recTouches l.transform p fs)
  let z := s.trial p l m
  let bad : LFail := ⟨.memWindow, idx, 0⟩
  firstFail [
    ((hit [.partCmpFmapBaseLo, .partCmpFmapBaseHi, .partCmpFmapSizeLog2] || (hit [.partCmpEnFmap] && z.flag .partCmpEnFmap p 0)) &&
      !z.fmapOk p, bad),
    (hit [.partAcqBaseLo, .partAcqBaseHi, .partAcqRingSizeLog2] && !z.acqOk p, bad),
    (hit [.partAcqCtlEnable] && z.flag .partAcqCtlEnable p 0 && !z.acqMayEnable p, bad),
    (hit [.partCapBaseLo, .partCapBaseHi, .partCapSizeMib] && !z.capOk p, bad)]

/-- The initial-content runs of a DRAM section: (address relative to the allocation, length, place); none if malformed. -/
def dramRuns (m : Img) : Nat → Nat → Nat → Option (List Run)
  | 0, off, stop => if off = stop then some [] else none
  | n + 1, off, stop =>
    if off = stop then some []
    else
      let len := imgLe m (off + 8) 8
      if off + 16 ≤ stop ∧ len % 8 = 0 ∧ off + 16 + len ≤ stop then
        (dramRuns m n (off + 16 + len) stop).map (fun l => ⟨0, imgLe m off 8, len, off + 16⟩ :: l)
      else none

/-- The runs of a DRAM section. -/
def sectRuns (m : Img) (e : Sect) : Option (List Run) := dramRuns m (e.len / 16 + 1) (e.off + 16) (e.off + e.len)

/-- The digest of a section is the one its table entry gives. -/
def digestOk (m : Img) (e : Sect) : Bool :=
  decide (sha384 (imgBytes m e.off e.len) = imgBytes m (imgTable m + 96 * e.idx + 48) 48)

/-- One section checked: digest, structure and content rules (R204, step 9). -/
def State.sectFail (s : State) (p : Nat) (l : Load) (m : Img) (e : Sect) : Option LFail :=
  let form := fun (b : Bool) => if b then some (⟨.imageFormat, e.idx, 0⟩ : LFail) else none
  if !digestOk m e then some ⟨.imageDigest, e.idx, 0⟩
  else if e.type = ST.hearth then orFail (hearthForm m e) (hearthContent s.grade l.transform m e)
  else if e.type = ST.regs then
    let rs := imgRecs m
    orFail (form (decide (e.len % 16 ≠ 0) || (List.range rs.length).any (fun k =>
      (rs[k]?).any (fun x => s.recBad p l.transform m x rs[k + 1]?)))) (s.ringFail p l m e.idx)
  else if e.type = ST.dram then
    match sectRuns m e with
    | none => form true
    | some rs => if rs.any (fun r => decide (imgLe m e.off 8 < r.addr + r.len)) then some ⟨.memWindow, e.idx, 0⟩ else none
  else if e.type = ST.queues then form (decide (e.len ≠ 4))
  else if e.type = ST.pins then form (decide (e.len % 4 ≠ 0))
  else if e.type = ST.probes then form (decide (e.len % 8 ≠ 0))
  else none

/-- What the check stage finds (R204, steps 9 and 10). -/
def State.checkFail (s : State) (p : Nat) (l : Load) (m : Img) : Option LFail :=
  orFail ((imgSects m).findSome? (s.sectFail p l m))
    (spanFail s.grade (s.inPart p) l.transform m (declaredPad l.transform m))

/-- The check stage. -/
def State.loadCheck (s : State) (p : Nat) (img : Bytes) : State :=
  match s.loadIn p 3 with
  | none => s
  | some l =>
    let s := s.dmaUse l.srcPort
    let m := l.view img
    if (imgSects m).any (fun e => !sectHas img e) then s.loadDma p l
    else
      match s.checkFail p l m with
      | some f => s.loadFail p f
      | none =>
        if l.checkOnly then s.loadEnd p .ok 0 0
        else (s.modPart p (fun x => { x with load := some { l with writes := recKeys l.transform p m } })).toStage p 4

/-- LOAD_CHECK (R203). -/
def execLoadCheck (p : Nat) (img : Bytes) (s : State) : Host.Outcome State Fault Refusal := .next (s.loadCheck p img)

/-! ## Stage 0x4 PREPARE -/

/-- Bytes of an anvil that serve a range of its DRAM. -/
def Dram.serves (d : Dram) (a base size l : Nat) : Bool :=
  (d.pageOf a (l / 4096)).any (fun pg => decide (base / 4096 ≤ pg) && decide (pg < (base + size + 4095) / 4096))

/-- A range of an anvil's DRAM written to 0, with class 2 (R201). -/
def State.zeroRange (s : State) (a base size : Nat) : State :=
  s.modDram (fun d => { d with
    mem := Tab.keep (fun k => !(decide (k.getD 0 0 = a) && d.serves a base size (k.getD 1 0))) d.mem
    poison := Tab.keep (fun k => !(decide (k.getD 0 0 = a) && d.serves a base size (k.getD 1 0 * 64))) d.poison })

/-- A controller that a load needs is frozen, or does not serve the load's streams yet: the load waits there. -/
def State.loadFrozen (s : State) (l : Load) : Option Nat :=
  (l.allocs.find? (fun e => s.streamHeld e.1 e.2.1 e.2.2)).map (·.1)

/-- The ranks that a load's streams reach awake. -/
def State.loadWakes (s : State) (l : Load) : State :=
  l.allocs.foldl (fun s e => (s.wakeRanks e.1 0).wakeRanks e.1 1) s

/-- The prepare stage (R203). -/
def State.loadPrepare (s : State) (p : Nat) : State :=
  match s.loadIn p 4 with
  | none => s
  | some l =>
    let s3 := s.loadOpen p l
    match s3.loadFrozen l with
    | some a => if s3.flag .ddrStatusFrozen a 0 then s3.jobWait l.ref a p else s3
    | none =>
      let s4 := (List.range 8).foldl (fun s a =>
        s.setReg .partMemSlotsAllot p a ((l.slots.find? (fun e => e.1 = a)).elim 0 (·.2))) (s3.loadWakes l)
      let s5 := l.allocs.foldl (fun s e => s.zeroRange e.1 e.2.1 e.2.2) s4
      ({ s5 with fab := (s5.hearths p).foldl (fun (f : Fab) (ah : Nat × Nat) => f.clearBanks ah.1 ah.2) s5.fab }).toStage p 5

/-- LOAD_PREPARE (R203). -/
def execLoadPrepare (p : Nat) (s : State) : Host.Outcome State Fault Refusal := .next (s.loadPrepare p)

/-! ## Stage 0x5 SETUP -/

/-- The counters of the compare block, which the loader clears (R179). -/
def State.clearCompare (s : State) (p : Nat) : State :=
  let s1 := s.dropRegs (fun f i => decide (f = Fld.partCmpPincnt.ctorIdx ∧ i = p))
  [Fld.partCmpFailCount, .partCmpFailCycles, .partCmpFmapDropCount, .partCmpFmapWr].foldl (fun s f => s.setReg f p 0 0) s1

/-- The probe map of a partition (R220): the probe number, plus 1, of a delivery. -/
def Load.probeMap (l : Load) (m : Img) : Tab Nat :=
  (probeEntries m).foldl (fun t x =>
    let ah := l.transform.hearth m x.2.1
    Tab.put 0 t [ah.1, ah.2, x.2.2.1, x.2.2.2] (x.1 + 1)) []

/-- The DRAM runs written (R191). -/
def State.writeRuns (s : State) (l : Load) (m : Img) : State :=
  (dramSects m).foldl (fun s e =>
    ((sectRuns m e).getD []).foldl (fun s r =>
      s.dramPutRun (l.transform.anvil e.scope) (l.base e.scope + r.addr) (imgBytes m r.at_ r.len)) s) s

/-- The setup stage (R203). -/
def State.loadSetup (s : State) (p : Nat) (img : Bytes) : State :=
  match s.loadIn p 5 with
  | none => s
  | some l =>
    let s := s.dmaUse l.srcPort
    let m := l.view img
    let others := (imgSects m).filter (fun e => decide (e.type ≠ ST.hearth))
    if others.any (fun e => !sectHas img e) then s.loadDma p l
    else
      match others.find? (fun e => !digestOk m e) with
      | some e => s.loadFail p ⟨.imageDigest, e.idx, 0⟩
      | none =>
        match s.loadFrozen l with
        | some a => if s.flag .ddrStatusFrozen a 0 then s.jobWait l.ref a p else s
        | none =>
          let s1 := (((s.loadWakes l).setupRegs p l m).clearCompare p).modPart p (fun x => { x with probeMap := l.probeMap m })
          ((s1.setReg64 .partSchedCycleLo .partSchedCycleHi p 0 0).writeRuns l m).toStage p 6

/-- Fields that every load writes (R203). -/
def loaderField (f : Fld) : Bool :=
  decide (f = .partCtlSSteps ∨ f = .partMemSlotsAllot ∨ f = .linkRxdelayPad) ||
    decide (f = .hearthPortcfgTarget ∨ f = .hearthPortcfgLport ∨ f = .hearthPortcfgDp ∨ f = .hearthPortcfgShift ∨
      f = .hearthPortcfgSizeLog2 ∨ f = .hearthPortcfgRdPad ∨ f = .hearthPortcfgWidthM1) ||
    decide (f = .hearthPortbaseSp ∨ f = .hearthPortdramBaseLo ∨ f = .hearthPortdramBaseHi)

/-- The partition whose load may write a field. -/
def State.loadOf (s : State) (f : Fld) (i j : Nat) : Option Nat :=
  match f.info.blk with
  | .part => some i
  | .cmp => some i
  | .obs => some i
  | .link => s.regionPart (8 * (i / 3) + j)
  | .hearth => s.hearthPart (i / 128) (i % 128)
  | _ => none

/-- A load in stage 0x4 or later writes the field (R206). -/
def State.loaderWrites (s : State) (f : Fld) (i j : Nat) : Bool :=
  (s.loadOf f i j).any (fun p => decide (4 ≤ s.loadStage p ∧ s.loadStage p ≤ 6) &&
    (loaderField f || (s.part p).load.any (fun l => l.writes.contains (f.key i j))))

/-- LOAD_SETUP (R203). -/
def execLoadSetup (p : Nat) (img : Bytes) (s : State) : Host.Outcome State Fault Refusal := .next (s.loadSetup p img)

/-! ## Stage 0x6 HEARTHS (R43, R49, R205) -/

/-- The NOP that an image holds: opcode 0, every selector CONST0. The model's store keeps it as 0. -/
def nopWord : Nat := (List.range 6).foldl (fun w i => w + 1792 * 2 ^ (55 - 11 * i)) 0

/-- The stores of a hearth written from its section, with the steps from S_IMG on empty; its user state, history, receive
buffers and port registers as a load leaves them. -/
def Fab.writeHearth (f : Fab) (m : Img) (e : Sect) (a h : Nat) : Fab :=
  let off := fun (k : Key) => !decide (k.getD 0 0 = a ∧ k.getD 1 0 = h)
  let offS := fun (k : Key) => !decide (k.getD 0 0 ≠ Store.bank.ctorIdx ∧ k.getD 1 0 = a ∧ k.getD 2 0 = h)
  let steps := List.range (imgS m)
  let put3 := fun {α : Type} [DecidableEq α] (d : α) (t : Tab α) (n : Nat) (w : Nat → Nat → α) (stepFirst : Bool) =>
    steps.foldl (fun t k => (List.range n).foldl (fun t b =>
      Tab.put d t (if stepFirst then [a, h, k, b] else [a, h, b, k]) (w k b)) t) (Tab.keep off t)
  { f with
    instr := put3 0 f.instr 1024 (fun k b => let w := hxInstr m e k b; BitVec.ofNat 80 (if w = nopWord then 0 else w)) false
    route := put3 0 f.route 1024 (fun k b => BitVec.ofNat 12 (hxRoute m e k b)) false
    egress := put3 0 f.egress 256 (fun k b => BitVec.ofNat 22 (hxEgress m e k b)) true
    inject := put3 0 f.inject 16 (fun k b => BitVec.ofNat 24 (hxInject m e k b)) true
    dict := (List.range 256).foldl (fun t k => Tab.put 0 t [a, h, k] (BitVec.ofNat 64 (hxDict m e k))) (Tab.keep off f.dict)
    flaws := Tab.keep offS f.flaws
    mem := (List.range 1024).foldl (fun t b => (List.range 256).foldl (fun t u =>
      Tab.put false t [a, h, b, 1536 + u] (bit (hxUser m e b) u)) t) (Tab.keep off f.mem)
    shadow := Tab.keep off f.shadow
    pend := Tab.keep off f.pend
    bus := Tab.keep off f.bus
    paddr := Tab.keep off f.paddr
    pdata := Tab.keep off f.pdata
    pword := Tab.keep off f.pword
    wlost := Tab.keep off f.wlost
    issued := Tab.keep off f.issued
    banks := ((hxScratch m e).getD []).foldl (fun t r => Tab.putRun 0 [a, h, r.bank] r.addr (imgBytes m r.at_ r.len) t) f.banks }

/-- Every hearth has verified: the partition enters READY at cycle 0 (R149, R203). -/
def State.loadReady (s : State) (p : Nat) : State :=
  let s1 := s.modPart p (fun x => { x with failSticky := false, failRecent := false })
  let s2 := ((s1.setReg64 .partSchedCycleLo .partSchedCycleHi p 0 0).setReg .partSchedEnd p 0 0).setReg .partSchedStep p 0 0
  let s3 := (((s2.clkPreset p).pinsChange p).enterMode p Mode.ready 2).outageEnd p
  (s3.loadEnd p .ok 0 0).nextInsertion

/-- One hearth written, read back and compared by CRC, at most three times (R205). -/
def State.hearthVerify (s : State) (p : Nat) (img : Bytes) (mismatches : Nat) : State :=
  match s.loadIn p 6 with
  | none => s
  | some l =>
    let s := s.dmaUse l.srcPort
    let m := l.view img
    match (hearthOrder s p l.transform m)[l.next]? with
    | none => s
    | some (a, h, e) =>
      if !sectHas img e then s.loadDma p l
      else if !digestOk m e then s.loadFail p ⟨.imageDigest, e.idx, 0⟩
      else
        let s1 := (List.range 16).foldl (fun s j => s.writeBinding l m e a h j) { s with fab := s.fab.writeHearth m e a h }
        if 3 ≤ mismatches ∨ crc32 (imgBytes m e.off e.len) ≠ e.crc then
          s1.loadFail p ⟨.loadVerify, e.idx, 2 ^ 28 * a + 2 ^ 20 * h⟩
        else
          let s2 := (s1.setReg .partLoadDone p 0 (l.next + 1)).modPart p (fun x => { x with load := some { l with next := l.next + 1 } })
          if l.next + 1 = 16 * (s.regions p).length then s2.loadReady p else s2

/-- HEARTH_VERIFY (R205). -/
def execHearthVerify (p : Nat) (img : Bytes) (mismatches : Nat) (s : State) : Host.Outcome State Fault Refusal :=
  .next (s.hearthVerify p img mismatches)

/-! ## The 10 ms limit of a class-2 access (R271) -/

/-- An access of class 2 that has waited 10 ms at a frozen controller: a command or a load completes with DRAM_FROZEN, a request
of the packet network with CPL 0x6 (R271, R282). What the controller had accepted of it is served after the thaw. -/
def State.frozenTimeout (s : State) (a id : Nat) : State :=
  match s.dram.jobs.find? (fun j => decide (j.id = id ∧ j.anvil = a)) with
  | none => s
  | some j =>
    if !s.flag .ddrStatusFrozen a 0 ∨ j.left = 0 then s
    else
      match j.who with
      | .noc src dst tag =>
        (s.modDram (fun d => { d with jobs := d.jobs.filter (fun y => decide (y.id ≠ id)) })).replyTo src dst tag 6 []
      | .cmd r =>
        match (List.range 32).find? (fun p => (s.part p).load.any (fun l => decide (l.ref = r))) with
        | some p => s.loadFail p (lFail .dramFrozen)
        | none => (s.done r .dramFrozen).dramForget r

/-- DRAM_FROZEN_TIMEOUT (R271). -/
def execDramFrozenTimeout (a id : Nat) (s : State) : Host.Outcome State Fault Refusal := .next (s.frozenTimeout a id)

end Sys2Proof.Machine
end

