-- ==== Sys2Proof/Machine/Lanes.lean ====
section
/-! DEFINITION. Waltline stream lanes (chapter 12): training, frames and their retry, streams and credits, bundle control,
spares, PRBS and banking. -/

namespace Sys2Proof.Machine

/-! ## Lanes and bundles (R19, R329, R347) -/

/-- Lane states of R347. -/
def LaneSt.disabled : Nat := 0
def LaneSt.detect : Nat := 1
def LaneSt.train : Nat := 2
def LaneSt.bitlock : Nat := 3
def LaneSt.blocklock : Nat := 4
def LaneSt.capex : Nat := 5
def LaneSt.active : Nat := 6
def LaneSt.banked : Nat := 7
def LaneSt.prbs : Nat := 8
def LaneSt.failed : Nat := 9

/-- The state of a lane. -/
def State.laneSt (s : State) (l : Nat) : Nat := s.reg .wlTrainState l 0

/-- The logical lane that a physical lane carries, 15 for none. -/
def State.logical (s : State) (l : Nat) : Nat := s.reg .wlTrainLogical l 0

/-- A lane is present and its SerDes is powered: that of its anvil, or, for a spare, of either of its two (R28, R329). -/
def State.laneOn (s : State) (l : Nat) : Bool :=
  Grade.hasLane s.grade l &&
    (if l < 64 then s.anvilOn (l / 8) else s.anvilOn (2 * (l - 64)) || s.anvilOn (2 * (l - 64) + 1))

/-- The spare that serves a bundle (R19). -/
def spareOf (b : Nat) : Nat := 64 + b / 2

/-- The physical lanes that may carry logical lanes of a bundle. -/
def State.lanesOf (s : State) (b : Nat) : List Nat :=
  (List.range 8).map (fun i => 8 * b + i) ++ (if s.reg .wlBundleSpareFor b 0 = 15 then [] else [spareOf b])

/-- The bundle whose logical lanes a physical lane carries: a spare's is the one of its pair that it serves. -/
def State.bundleOf (s : State) (l : Nat) : Nat :=
  if l < 64 then l / 8
  else if s.reg .wlBundleSpareFor (2 * (l - 64) + 1) 0 ≠ 15 then 2 * (l - 64) + 1 else 2 * (l - 64)

/-- The active lanes of a bundle that carry a logical lane, rising. -/
def State.activeLanes (s : State) (b : Nat) : List Nat :=
  (s.lanesOf b).filter (fun l => decide (s.laneSt l = LaneSt.active) && decide (s.logical l < 8))

/-- The active lane that carries a logical lane. -/
def State.carrier (s : State) (b i : Nat) : Option Nat := (s.activeLanes b).find? (fun l => s.logical l = i)

/-- A lane's record. -/
def State.lane (s : State) (l : Nat) : Lane := Tab.get Lane.init s.wl.lanes [l]
/-- A lane's record changed. -/
def State.modLane (s : State) (l : Nat) (f : Lane → Lane) : State :=
  { s with wl := { s.wl with lanes := Tab.modify Lane.init s.wl.lanes [l] f } }
/-- A logical lane's record. -/
def State.log (s : State) (b i : Nat) : LogLane := Tab.get LogLane.init s.wl.logs [b, i]
/-- A logical lane's record changed. -/
def State.modLog (s : State) (b i : Nat) (f : LogLane → LogLane) : State :=
  { s with wl := { s.wl with logs := Tab.modify LogLane.init s.wl.logs [b, i] f } }
/-- A bundle's record. -/
def State.bundle (s : State) (b : Nat) : Bundle := Tab.get Bundle.init s.wl.bundles [b]
/-- A bundle's record changed. -/
def State.modBundle (s : State) (b : Nat) (f : Bundle → Bundle) : State :=
  { s with wl := { s.wl with bundles := Tab.modify Bundle.init s.wl.bundles [b] f } }

/-- The streams bound to some partition, rising. -/
def State.bound (s : State) : List Nat := (List.range 32).filter (fun k => s.flag .wlStreamBindValid k 0)

/-- A stream event (R222, R352) recorded for the partition whose stream it is. -/
def State.strEvent (e : Nat) (s : State) (k : Nat) : State :=
  let p := s.reg .wlStreamBindPart k 0
  if s.partStream p = some k then
    s.modPart p (fun x => { x with strEvents := if x.strEvents.contains e then x.strEvents else x.strEvents ++ [e] })
  else s

/-- A stream event on a bundle, for every stream bound to it. -/
def State.strEventOn (s : State) (b e : Nat) : State :=
  (s.bound.filter (fun k => bit (s.reg .wlStreamBindBundles k 0) b)).foldl (State.strEvent e) s

/-- WL.BUNDLE.ACTIVE and ALIGNED follow the lanes; a bundle left with no active lane is an error and a stream event
(R349, R352). -/
def State.updateBundle (s : State) (b : Nat) : State :=
  let old := s.reg .wlBundleActive b 0
  let now := (s.activeLanes b).foldl (fun m l => setBit m (s.logical l) true) 0
  let s1 := (s.setReg .wlBundleActive b 0 now).setReg .wlBundleAligned b 0 (Nat.land (s.reg .wlBundleAligned b 0) now)
  if old ≠ 0 ∧ now = 0 then
    let s2 := (s1.modBundle b (fun x => { x with partner := none })).strEventOn b 7
    if s2.flag .wlBundleBanked b 0 then s2 else s2.mError .wlLaneDown (Fld.addr .wlBundleActive b 0)
  else s1

/-! ## Blocks (R332, R333) -/

/-- A control block: its type, bytes 1 to 6, and the CRC-8 of those seven. -/
def ctrlBlock (type : Nat) (body : Bytes) : Bytes := toLE 1 type ++ body ++ toLE 1 (crc8 (toLE 1 type ++ body))

/-- The block types. -/
def blockTypes : List Nat := [0x1E, 0x2D, 0x33, 0x4B, 0x55, 0x66, 0x78, 0x87, 0x99, 0xAA, 0xB4, 0xC3, 0xE1]

/-- A received block is not taken: a sync header that is neither 0b01 nor 0b10, a control block with a bad CRC-8 or an
unknown type, or a stray data block. -/
def WlBlock.bad (b : WlBlock) : Bool :=
  if b.sync = 2 then decide (b.bytes.length ≠ 8) || decide (le b.bytes 7 1 ≠ crc8 (b.bytes.take 7)) || !blockTypes.contains (le b.bytes 0 1)
  else decide (b.sync ≠ 1) || b.stray

/-- A control block sent on a lane. -/
def State.blockOut (s : State) (l type : Nat) (body : Bytes) : State := s.emit (.block l (ctrlBlock type body))

/-- IDLE, TS and CAP blocks go out for as long as a lane is in the state that sends them; the model shows the first. -/
def State.idleOut (s : State) (l : Nat) : State := s.blockOut l 0x1E (zeros 6)

/-- The lane's own CAP block (R348). -/
def State.capOut (s : State) (l : Nat) (seen : Bool) : State :=
  let lane := if l < 64 then l % 8 else 8 + (l - 64)
  let b := if l < 64 then l / 8 else 2 * (l - 64)
  s.blockOut l 0x33 (toLE 1 (128 * b2n seen + lane) ++ toLE 1 (128 * s.reg .wlBundleCfgRate (s.bundleOf l) 0 + 8 * 8 + b) ++
    toLE 4 (s.reg .modSerialLo 0 0))

/-- A lane changes its state: one that enters TRAIN sends TS. A change into ACTIVE, FAILED or BANKED raises a module event
(R352). -/
def State.toLane (s : State) (l st code : Nat) : State :=
  let s0 := s.setReg .wlTrainState l 0 st
  let s1 := if st = LaneSt.train then s0.blockOut l 0x2D (toLE 6 0x4A4A4A4A4A4A) else s0
  if (st = LaneSt.active ∨ st = LaneSt.failed ∨ st = LaneSt.banked) ∧ s.laneSt l ≠ st then s1.mEvent 0x10 code (l + 256 * st) else s1

/-- The bundles that a physical lane belongs to. -/
def bundlesOf (l : Nat) : List Nat := if l < 64 then [l / 8] else [2 * (l - 64), 2 * (l - 64) + 1]

/-- A lane changes its state, and its bundles follow. -/
def State.laneTo (s : State) (l st code : Nat) : State := (bundlesOf l).foldl State.updateBundle (s.toLane l st code)

/-- A block sent on every active lane of a bundle. -/
def State.blockAll (s : State) (b type : Nat) (body : Bytes) : State :=
  (s.activeLanes b).foldl (fun s l => s.blockOut l type body) s

/-! ## Frames sent, and their retry (R336, R338, R342) -/

/-- Frames of a logical lane that no ACK covers. -/
def State.unacked (s : State) (b i : Nat) : Nat := (s.log b i).retry.length

/-- A frame on a lane: its EOF carries the CRC-32 of header and payload (R335). -/
def State.frameSent (s : State) (l lseq : Nat) (replay : Bool) (header payload : Bytes) : State :=
  s.emit (.frame l lseq replay header payload (crc32 (header ++ payload)))

/-- A frame goes out on a logical lane under its next LSEQ. -/
def State.sendOn (s : State) (b i l : Nat) (header payload : Bytes) : State :=
  let g := s.log b i
  (s.frameSent l g.lseq false header payload).modLog b i (fun x => { x with
    lseq := (x.lseq + 1) % 256, retry := x.retry ++ [⟨x.lseq, header, payload, s.now, 0⟩] })

/-- The logical lanes of a set of bundles that can take a frame, as (bundle, logical lane, physical lane). -/
def State.senders (s : State) (bundles : Nat) : List (Nat × Nat × Nat) :=
  (setBitsOf 8 bundles).flatMap (fun b => ((s.activeLanes b).map (fun l => (b, s.logical l, l))).filter
    (fun e => decide (s.unacked b e.2.1 < 8)))

/-- The one with the fewest unacknowledged frames. -/
def State.bestSender (s : State) (bundles : Nat) : Option (Nat × Nat × Nat) :=
  let c := s.senders bundles
  c.find? (fun e => c.all (fun x => decide (s.unacked e.1 e.2.1 ≤ s.unacked x.1 x.2.1)))

/-- TIME of a frame sent on a bundle: the time counter, corrected to the reference plane (R335, R365). -/
def State.sofTime (s : State) (b : Nat) : Nat := unsigned 64 ((s.ctrNs b : Int) + signed 16 (s.reg .timeAdjWlTx 0 b))

/-- The header of a frame with the time of its transmission. -/
def withTime (header : Bytes) (t : Nat) : Bytes := header.take 20 ++ toLE 8 t ++ header.drop 28

/-- The unacknowledged frames of a logical lane move to other active lanes of its bundle, as new frames (R338), as far as
those have places. -/
def State.moveFrames (s : State) (b i : Nat) : State :=
  (s.log b i).retry.foldl (fun s f =>
    match (s.senders (2 ^ b)).filter (fun e => decide (e.2.1 ≠ i)) with
    | [] => s
    | c :: cs =>
      let e := cs.foldl (fun (m e : Nat × Nat × Nat) => if s.unacked b e.2.1 < s.unacked b m.2.1 then e else m) c
      (s.sendOn b e.2.1 e.2.2 (withTime f.header (s.sofTime b)) f.payload).modLog b i (fun x => { x with
        retry := x.retry.filter (fun y => decide (y ≠ f)) })) s

/-- Frames of failed lanes of a bundle that still wait for places on other lanes move. -/
def State.moveWaiting (s : State) (b : Nat) : State :=
  (List.range 8).foldl (fun s i => if (s.log b i).moving then s.moveFrames b i else s) s

/-- The lane fails: with no spare to take over, its frames move (R349), and the service condition LANE_FAILED is set (R435). -/
def State.laneFails (s : State) (b i l : Nat) : State :=
  let code := if s.flag .wlLaneStatusRetryLimit l 0 then Status.wlRetryLimit.num else Status.wlSpareNone.num
  let s1 := ((s.laneTo l LaneSt.failed code).mError .wlSpareNone (Fld.addr .wlTrainState l 0)).condition 3
  (s1.modLog b i (fun x => { x with moving := true })).moveFrames b i

/-- The spare of a bundle waits and can be asked for. -/
def State.spareFree (s : State) (b : Nat) : Bool :=
  s.laneOn (spareOf b) && decide (s.laneSt (spareOf b) = LaneSt.active) && decide (s.logical (spareOf b) = 15) &&
    (bundlesOf (spareOf b)).all (fun c => (s.bundle c).spare.isNone)

/-- SPARE blocks with REQ leave on the spare and on every active lane of the bundle. -/
def State.spareAsk (s : State) (b i : Nat) (ret : Bool) : State :=
  let body := toLE 1 i ++ toLE 1 (b / 2) ++ toLE 1 (1 + 8 * b2n ret) ++ zeros 3
  ((s.activeLanes b).filter (fun l => decide (l ≠ spareOf b)) ++ [spareOf b]).foldl (fun s l => s.blockOut l 0xC3 body) s

/-- A lane fault (R349): the serving spare is requested, or the lane fails. `forced` is action 3 of WL_LANE_CTL. The
answer says whether a request is under way. -/
def State.laneFault (s : State) (l : Nat) (forced : Bool) : State × Bool :=
  let b := s.bundleOf l
  let i := s.logical l
  if 8 ≤ i then (s, false)
  else if l < 64 ∧ (s.bundle b).spare = some (i, false) then (s, true)
  else if (s.flag .wlBundleCfgAutoSpare b 0 ∨ forced) ∧ l < 64 ∧ s.spareFree b then
    ((s.modBundle b (fun x => { x with spare := some (i, false) })).spareAsk b i false, true)
  else (s.laneFails b i l, false)

/-- Unacknowledged frames of a logical lane are sent again with REPLAY = 1 (R338); a fourth replay of one is a lane
fault. -/
def State.replay (s : State) (b i l : Nat) : State :=
  let fs := (s.log b i).retry
  if fs = [] then s
  else
    let s1 := fs.foldl (fun s f => s.frameSent l f.lseq true f.header f.payload) s
    let s2 := ((s1.modLog b i (fun x => { x with
      retry := x.retry.map (fun f => { f with replays := f.replays + 1, since := s.now }) })).bump
      .wlLaneErrReplayCount l 0 fs.length).strEventOn b 0
    if fs.any (fun f => decide (f.replays = 3)) then
      (((s2.setReg .wlLaneStatusRetryLimit l 0 1).mError .wlRetryLimit (Fld.addr .wlLaneStatusRetryLimit l 0)).laneFault l false).1
    else s2

/-- ACK (R337, R338): it covers every frame up to its LSEQ; a NAK starts a replay of the rest. -/
def State.ackBlock (s : State) (l i lseq : Nat) (nak : Bool) : State :=
  let b := s.bundleOf l
  if !s.laneOn l ∨ s.laneSt l ≠ LaneSt.active ∨ 8 ≤ i then s
  else
    let fs := (s.log b i).retry
    let n := match fs with
      | [] => 0
      | f :: _ => let d := (lseq + 256 - f.lseq) % 256; if d < fs.length then d + 1 else 0
    let s1 := (s.modLog b i (fun x => { x with retry := x.retry.drop n })).moveWaiting b
    if nak then
      match s1.carrier b i with
      | some c => s1.replay b i c
      | none => s1
    else s1

/-- ACK (R338). -/
def execAck (l lane lseq : Nat) (nak : Bool) (s : State) : Host.Outcome State Fault Refusal := .next (s.ackBlock l lane lseq nak)

/-- The oldest unacknowledged frame of a lane has waited REPLAY_US (R338). -/
def State.replayDue (s : State) (l : Nat) : Bool :=
  s.laneOn l && decide (s.laneSt l = LaneSt.active) && decide (s.logical l < 8) &&
    (match (s.log (s.bundleOf l) (s.logical l)).retry with
     | f :: _ => decide (f.since + 1000 * s.reg .wlBundleReplayUs (s.bundleOf l) 0 ≤ s.now)
     | [] => false)

/-- REPLAY_TIMEOUT (R338). -/
def execReplayTimeout (l : Nat) (s : State) : Host.Outcome State Fault Refusal :=
  .next (if s.replayDue l then s.replay (s.bundleOf l) (s.logical l) l else s)

/-! ## Bring-up (R347, R348) -/

/-- A lane starts anew in DETECT. -/
def State.laneDetect (s : State) (l : Nat) : State :=
  (s.modLane l (fun x => { Lane.init with crcTimes := x.crcTimes })).laneTo l LaneSt.detect 0

/-- A write of a lane's register that the origin may not make is discarded and audited (R354). -/
def State.wlDenied (s : State) (o : Origin) (f : Fld) (l v : Nat) : State := s.auditRefuse o .notOwner 0xFFFF f l 0 v

/-- A write of WL.LANE.CTL.ENABLE. -/
def State.wrLaneEnable (s : State) (o : Origin) (l : Nat) (on : Bool) : State :=
  if !s.laneOn l then s
  else if !s.isOwnerOrLocal o then s.wlDenied o .wlLaneCtlEnable l (b2n on)
  else
    let s1 := s.auditDiff o 0xFFFF .wlLaneCtlEnable l 0 (s.setHost .wlLaneCtlEnable l 0 (b2n on))
    if on then (if s.laneSt l = LaneSt.disabled then s1.laneDetect l else s1) else s1.laneTo l LaneSt.disabled 0

/-- LANE_ENABLE (R347). -/
def execLaneEnable (o : Origin) (l : Nat) (s : State) : Host.Outcome State Fault Refusal := .next (s.wrLaneEnable o l true)

/-- LANE_DISABLE (R347). -/
def execLaneDisable (o : Origin) (l : Nat) (s : State) : Host.Outcome State Fault Refusal := .next (s.wrLaneEnable o l false)

/-- A lane retrains (R347): from ACTIVE it counts as a loss of block lock. -/
def State.retrain (s : State) (l : Nat) : State :=
  let lost := decide (s.laneSt l = LaneSt.active) || (s.lane l).lost
  let s1 := if s.laneSt l = LaneSt.active then s.bump .wlLaneErrLockLoss l 0 1 else s
  (s1.laneDetect l).modLane l (fun x => { x with lost := lost })

/-- A write of 1 to WL.LANE.CTL.RETRAIN. -/
def State.wrRetrain (s : State) (o : Origin) (l : Nat) : State :=
  if !s.laneOn l then s
  else if !s.isOwnerOrLocal o then s.wlDenied o .wlLaneCtlRetrain l 2
  else if s.laneSt l = LaneSt.disabled then s else s.retrain l

/-- RETRAIN (R347). -/
def execRetrain (o : Origin) (l : Nat) (s : State) : Host.Outcome State Fault Refusal := .next (s.wrRetrain o l)

/-- A lane goes from one state to the next. -/
def State.laneStep (s : State) (l src dst : Nat) : State :=
  if s.laneOn l ∧ s.laneSt l = src then s.laneTo l dst 0 else s

/-- TERMINATION_DETECT (R347). -/
def execTerminationDetect (l : Nat) (s : State) : Host.Outcome State Fault Refusal := .next (s.laneStep l LaneSt.detect LaneSt.train)

/-- CDR_LOCK (R347). -/
def execCdrLock (l : Nat) (s : State) : Host.Outcome State Fault Refusal := .next (s.laneStep l LaneSt.train LaneSt.bitlock)

/-- BLOCK_LOCK (R347). -/
def execBlockLock (l : Nat) (s : State) : Host.Outcome State Fault Refusal := .next (s.laneStep l LaneSt.bitlock LaneSt.blocklock)

/-- TS_DETECTED (R347): polarity is found anew, and the lane exchanges CAP blocks. -/
def execTsDetected (l : Nat) (complement : Bool) (s : State) : Host.Outcome State Fault Refusal :=
  .next (if s.laneOn l ∧ s.laneSt l = LaneSt.blocklock then
    (((s.setFlag .wlTrainPolarity l 0 complement).modLane l (fun x => { x with
      cap := none, capRun := 0, seenRun := 0, ownSeen := false, capSent := 0 })).laneTo l LaneSt.capex 0).capOut l false
  else s)

/-- A time limit of training passes (R347); the third time in a row the lane fails, after a loss of lock with a lane fault
(R349). -/
def State.trainTimeout (s : State) (l : Nat) : State :=
  let st := s.laneSt l
  let x := s.lane l
  if !s.laneOn l ∨ st < LaneSt.train ∨ LaneSt.capex < st then s
  else if x.fails < 2 then (s.modLane l (fun x => { x with fails := x.fails + 1 })).laneTo l LaneSt.train 0
  else
    let s1 := ((s.modLane l (fun x => { x with fails := 0, lost := false })).setReg .wlLaneStatusTrainFail l 0 1).laneTo l
      LaneSt.failed Status.wlTrainFail.num
    let s2 := s1.mError .wlTrainFail (Fld.addr .wlLaneStatusTrainFail l 0)
    if x.lost then (s2.laneFault l false).1 else s2

/-- TRAIN_TIMEOUT (R347). -/
def execTrainTimeout (l : Nat) (s : State) : Host.Outcome State Fault Refusal := .next (s.trainTimeout l)

/-- LOCK_LOSS (R347). -/
def execLockLoss (l : Nat) (s : State) : Host.Outcome State Fault Refusal :=
  .next (if s.laneOn l ∧ s.laneSt l = LaneSt.active then
    ((s.bump .wlLaneErrLockLoss l 0 1).modLane l (fun x => { Lane.init with crcTimes := x.crcTimes, lost := true })).laneTo l
      LaneSt.train 0
  else s)

/-- The CAP fields are refused (R348). -/
def State.capRefused (s : State) (l : Nat) (c : CapFields) : Bool :=
  let b := s.bundleOf l
  decide (c.rate ≠ s.reg .wlBundleCfgRate b 0) || (decide (c.lane < 8) && decide (c.nlanes ≤ c.lane)) ||
    (decide (l < 64) && (match (s.bundle b).partner with
      | some x => decide (x ≠ (c.ident, c.bundle))
      | none => false))

/-- A lane carries its logical lane again: what no ACK covers is sent again on it, and frames of other lanes find places. -/
def State.carryAgain (s : State) (b i l : Nat) : State :=
  ((s.modLog b i (fun x => { x with moving := false })).replay b i l).moveWaiting b

/-- The handshake is complete: the lane is mapped and active (R347, R348), and sends again what no ACK covers. -/
def State.capComplete (s : State) (l : Nat) (c : CapFields) : State :=
  let s1 := (s.setReg .wlTrainPartner l 0 c.lane).modLane l (fun x => { x with fails := 0, lost := false })
  if 64 ≤ l then
    if s1.logical l < 8 then (s1.laneTo l LaneSt.active 0).carryAgain (s1.bundleOf l) (s1.logical l) l
    else ((s1.setReg .wlTrainLogical l 0 15).laneTo l LaneSt.active 0).idleOut l
  else
    let b := l / 8
    let i := l % 8
    let s2 := if (s.bundle b).partner.isSome then s1
      else ((s1.modBundle b (fun x => { x with partner := some (c.ident, c.bundle) })).setReg .wlBundlePartnerId b 0 c.ident).setReg
        .wlBundlePartnerBundle b 0 c.bundle
    if s2.reg .wlBundleSpareFor b 0 = i then ((s2.setReg .wlTrainLogical l 0 15).laneTo l LaneSt.active 0).idleOut l
    else
      let s3 := ((s2.setReg .wlTrainLogical l 0 i).modLog b i (fun x => { x with partner := c.lane })).laneTo l LaneSt.active 0
      s3.carryAgain b i l

/-- A CAP block is received (R348). The module's own blocks leave at the same pace. -/
def State.capBlock (s : State) (l : Nat) (c : CapFields) : State :=
  if !s.laneOn l ∨ s.laneSt l ≠ LaneSt.capex then s
  else if s.capRefused l c then
    ((s.setReg .wlLaneStatusCapMismatch l 0 1).laneTo l LaneSt.failed Status.wlCapMismatch.num).mError .wlCapMismatch
      (Fld.addr .wlLaneStatusCapMismatch l 0)
  else
    let x := s.lane l
    let same := decide (x.cap = some c)
    let run := if same then x.capRun + 1 else 1
    let seen := if c.seen then (if same then x.seenRun + 1 else 1) else 0
    let sent := if x.ownSeen then x.capSent + 1 else x.capSent
    let s1 := (s.modLane l (fun x => { x with
      cap := some c, capRun := run, seenRun := seen, ownSeen := x.ownSeen || decide (8 ≤ run), capSent := sent })).capOut l x.ownSeen
    if 8 ≤ seen ∧ 8 ≤ sent then s1.capComplete l c else s1

/-- CAP (R348). -/
def execCap (l : Nat) (c : CapFields) (s : State) : Host.Outcome State Fault Refusal := .next (s.capBlock l c)

/-! ## Frames received (R335, R337, R339, R340) -/

/-- The checks of a received frame but that of LSEQ (R337). -/
def WlFrame.good (f : WlFrame) : Bool :=
  let len := le f.header 0 2
  f.framed && decide (f.header.length = 56) && decide (1 ≤ len ∧ len ≤ 4096) && decide (f.blocks = 7 + (len + 7) / 8) &&
    decide (len ≤ f.payload.length) && decide (crc32 (f.header ++ f.payload.take len) = f.crc)

/-- An ACK for the logical lane that a physical lane carries leaves on that lane. -/
def State.sendAck (s : State) (b i l : Nat) (nak : Bool) : State :=
  let g := s.log b i
  s.blockOut l 0x78 (toLE 1 g.partner ++ toLE 1 ((g.expect + 255) % 256) ++ toLE 1 (b2n nak) ++ zeros 3)

/-- The vector FIFO that the streams of a partition feed: the stimulus FIFO, else the response FIFO, else none. -/
def State.fedStim (s : State) (p : Nat) : Option Bool :=
  if s.reg .partCmpSrcStim p 0 = 2 then some true else if s.reg .partCmpSrcResp p 0 = 2 then some false else none

/-- The FIFO of `fedStim`. -/
def State.fedFifo (s : State) (p : Nat) : Fifo := if s.fedStim p = some false then (s.part p).resp else (s.part p).stim

/-- A frame goes to its stream (R339, R340). -/
def State.frameIn (s : State) (b : Nat) (header payload : Bytes) : State :=
  let k := bits (le header 2 1) 4 0
  let gen := bits (le header 2 1) 5 5
  let p := s.reg .wlStreamBindPart k 0
  let bound := s.flag .wlStreamBindValid k 0 && bit (s.reg .wlStreamBindBundles k 0) b
  if !bound ∨ !s.flag .wlStreamBindInEn k 0 then
    let s1 := s.setReg .wlStreamStatusFormat k 0 1
    if bound then s1.pError p .wlFrame (Fld.addr .wlStreamStatusFormat k 0) else s1.mError .wlFrame (Fld.addr .wlStreamStatusFormat k 0)
  else if gen ≠ s.reg .wlStreamInGen k 0 then s
  else
    let head := s.streamHead k
    let d := (le header 4 4 + 2 ^ 32 - head) % 2 ^ 32
    if d < (s.reg .wlStreamInLimit k 0 + 2 ^ 32 - head) % 2 ^ 32 then
      match s.fedStim p with
      | some stim =>
        if s.partStream p = some k then
          let s1 := s.fifoFrom p stim (some k)
          let f := s1.fifo p stim
          (s1.setFifo p stim (f.place (f.head + d) payload)).arrived p
        else s
      | none => s
    else if d < 2 ^ 31 then
      (s.setReg .wlStreamStatusCredit k 0 1).pError p .wlCredit (Fld.addr .wlStreamStatusCredit k 0)
    else s

/-- A frame is received on a lane (R337). -/
def State.frameBlock (s : State) (l : Nat) (f : WlFrame) : State :=
  let b := s.bundleOf l
  let i := s.logical l
  if !s.laneOn l ∨ s.laneSt l ≠ LaneSt.active ∨ 8 ≤ i then s
  else
    let stamped := s.capEvent l (unsigned 64 ((s.ctrNs b : Int) - signed 16 (s.reg .timeAdjWlRx 0 b)))
    let s0 := if f.replay then stamped.strEventOn b 0 else stamped
    if !WlFrame.good f then
      let s1 := (s0.bump .wlLaneErrCrcCount l 0 1).setReg .wlLaneStatusCrc l 0 1
      ((s1.modLane l (fun x => { x with
        crcTimes := x.crcTimes.filter (fun t => decide (s.now < t + 1000000000)) ++ [s.now] })).strEventOn b 1).sendAck b i l true
    else if f.lseq ≠ (s.log b i).expect then s0
    else
      let s1 := (s0.modLog b i (fun x => { x with expect := (x.expect + 1) % 256 })).sendAck b i l false
      s1.frameIn b f.header (f.payload.take (le f.header 0 2))

/-- FRAME (R337). -/
def execFrame (l : Nat) (f : WlFrame) (s : State) : Host.Outcome State Fault Refusal := .next (s.frameBlock l f)

/-- BLOCK_DISCARD (R332, R334): a received block that is not taken is discarded and counted. -/
def execBlockDiscard (l : Nat) (b : WlBlock) (s : State) : Host.Outcome State Fault Refusal :=
  .next (if WlBlock.bad b ∧ s.laneOn l ∧ LaneSt.blocklock ≤ s.laneSt l ∧ s.laneSt l ≤ LaneSt.active then s.bump .wlLaneErrBlockCount l 0 1 else s)

/-- CRC_ERROR_LIMIT (R349): more CRC errors than ERR_LIMIT within a second are a lane fault. -/
def execCrcErrorLimit (l : Nat) (s : State) : Host.Outcome State Fault Refusal :=
  .next (if s.laneOn l ∧ s.laneSt l = LaneSt.active ∧
      s.reg .wlBundleErrLimit (s.bundleOf l) 0 < ((s.lane l).crcTimes.filter (fun t => decide (s.now < t + 1000000000))).length then
    ((s.modLane l (fun x => { x with crcTimes := [] })).laneFault l false).1
  else s)

/-! ## Streams sent (R342), credits (R340) -/

/-- Bytes of a stream's outbound buffer. -/
def Stream.outBytes (x : Stream) : Nat := x.outBuf.foldl (fun n e => n + e.2.2.length) 0

/-- The partner's credit covers the next outbound frame. -/
def State.credited (s : State) (k : Nat) : Bool :=
  let d := (s.reg .wlStreamOutLimit k 0 + 2 ^ 32 - s.reg .wlStreamOutSseq k 0) % 2 ^ 32
  decide (0 < d ∧ d < 2 ^ 31)

/-- A frame that has to wait for credit begins its wait; one that no longer waits ends it, and a wait of 1 µs or more is
added to STALL_NS (R352). -/
def State.stallUpdate (s : State) (k : Nat) : State :=
  let x := s.stream k
  let wait := decide (x.outBuf ≠ []) && !s.credited k
  match x.stallSince with
  | none => if wait then s.modStream k (fun x => { x with stallSince := some s.now, stallSeen := false }) else s
  | some t =>
    if wait then s
    else
      let s1 := if x.stallSeen then s.bump .wlStreamStallNs k 0 (s.now - t) else s
      s1.modStream k (fun x => { x with stallSince := none, stallSeen := false })

/-- The output vector of a cycle of a partition joins the outbound byte sequence of a stream, or is dropped whole
(R342). -/
def State.outVector (p cycle outs : Nat) (s : State) (k : Nat) : State :=
  let v := toLE (vecBytes (s.reg .partCmpDimNOut p 0)) outs
  if v = [] then s
  else if 524288 < (s.stream k).outBytes + v.length then
    ((s.bump .wlStreamOutDropCount k 0 1).setReg .wlStreamStatusOutDrop k 0 1).modStream k (fun x => { x with gap := true })
  else (s.modStream k (fun x => { x with outBuf := x.outBuf ++ [(cycle, 0, v)] })).stallUpdate k

/-- The output vector of a cycle goes to every stream of the partition with OUT_EN = 1. -/
def State.outVectors (s : State) (p cycle outs : Nat) : State :=
  (s.bound.filter (fun k => decide (s.reg .wlStreamBindPart k 0 = p) && s.flag .wlStreamBindOutEn k 0)).foldl
    (State.outVector p cycle outs) s

/-- Up to `n` bytes taken from the pieces of a buffer; a piece whose cycle does not follow the one before it, because a
vector was dropped, begins a new frame. -/
def cutFrame : Nat → List (Nat × Nat × Bytes) → Bytes × List (Nat × Nat × Bytes)
  | _, [] => ([], [])
  | n, (c, o, bs) :: rest =>
    if n < bs.length then (bs.take n, (c, o + n, bs.drop n) :: rest)
    else
      match rest with
      | (c', _, _) :: _ =>
        if c' = c + 1 then
          let r := cutFrame (n - bs.length) rest
          (bs ++ r.1, r.2)
        else (bs, rest)
      | [] => (bs, [])

/-- One outbound frame of a stream is formed and sent (R335, R342). -/
def State.frameOut (s : State) (k : Nat) : State :=
  let x := s.stream k
  if !(s.flag .wlStreamBindValid k 0 && s.flag .wlStreamBindOutEn k 0) ∨ !s.credited k then s
  else
    match x.outBuf, s.bestSender (s.reg .wlStreamBindBundles k 0) with
    | (c, o, _) :: _, some e =>
      let f := cutFrame 4096 x.outBuf
      let h := toLE 2 f.1.length ++ toLE 1 (k + 32 * s.reg .wlStreamOutGen k 0 + 64 * b2n x.gap) ++ zeros 1 ++
        toLE 4 (s.reg .wlStreamOutSseq k 0) ++ toLE 8 c ++ toLE 4 o ++ toLE 8 (s.sofTime e.1) ++ zeros 28
      let s1 := s.sendOn e.1 e.2.1 e.2.2 h f.1
      let s2 := s1.setReg .wlStreamOutSseq k 0 (s.reg .wlStreamOutSseq k 0 + 1)
      (s2.modStream k (fun x => { x with outBuf := f.2.filter (fun y => decide (y.2.2 ≠ [])), gap := false })).stallUpdate k
    | _, _ => s

/-- FRAME_TRANSMIT (R342). -/
def execFrameTransmit (stream : Nat) (s : State) : Host.Outcome State Fault Refusal := .next (s.frameOut stream)

/-- A stream is bound and a bundle is its primary one: bundle-wide control blocks count there only (R331). -/
def State.onPrimary (s : State) (b k : Nat) : Bool :=
  decide (k < 32) && s.flag .wlStreamBindValid k 0 && decide (s.reg .wlStreamBindPrimary k 0 = b)

/-- CREDIT (R342): the partner's LIMIT, if its GEN is OUT_GEN. -/
def execCredit (b stream gen limit : Nat) (s : State) : Host.Outcome State Fault Refusal :=
  .next (if s.onPrimary b stream ∧ gen = s.reg .wlStreamOutGen stream 0 then
    (s.setReg .wlStreamOutLimit stream 0 limit).stallUpdate stream else s)

/-- CREDIT_SEND (R340): LIMIT is the lowest SSEQ not yet freed, plus 512. -/
def execCreditSend (stream : Nat) (s : State) : Host.Outcome State Fault Refusal :=
  .next (
    let b := s.reg .wlStreamBindPrimary stream 0
    if s.onPrimary b stream ∧ s.activeLanes b ≠ [] then
      let limit := (s.streamHead stream + 512) % 2 ^ 32
      (s.setReg .wlStreamInLimit stream 0 limit).blockAll b 0x87
        (toLE 1 (stream + 32 * s.reg .wlStreamInGen stream 0) ++ toLE 4 limit ++ zeros 1)
    else s)

/-- CREDIT_STALL (R352): an outbound frame has waited 1 µs for credit. -/
def execCreditStall (stream : Nat) (s : State) : Host.Outcome State Fault Refusal :=
  .next (if (s.stream stream).stallSince.any (fun t => decide (t + 1000 ≤ s.now)) ∧ !(s.stream stream).stallSeen then
    State.strEvent 6 (s.modStream stream (fun x => { x with stallSeen := true })) stream else s)

/-! ## Bundle control (R170, R343 to R346) -/

/-- MARK (R345): the cumulative count of marks. -/
def execMark (b stream count : Nat) (s : State) : Host.Outcome State Fault Refusal :=
  .next (
    if !s.onPrimary b stream then s
    else
      let p := s.reg .wlStreamBindPart stream 0
      let c := count % 2 ^ 16
      let s := s.modStream stream (fun x => { x with received := c })
      let d := (c + 2 ^ 16 - s.reg .wlStreamMarkCount stream 0) % 2 ^ 16
      if s.partStream p ≠ some stream ∨ s.mode p < Mode.freeRun ∨ s.reg .partCmpPaceMode p 0 ≠ 1 then
        s.setReg .wlStreamMarkCount stream 0 c
      else if 1 ≤ d ∧ d ≤ 4096 then
        (State.strEvent 3 (s.setReg .wlStreamMarkCount stream 0 c) stream).deliverMarks p d
      else s)

/-- STOP (R344): identical copies on a majority of the aligned lanes; a repeat of the last number raises nothing. -/
def execStop (b stream number copies : Nat) (s : State) : Host.Outcome State Fault Refusal :=
  .next (
    let n := popcount 8 (s.reg .wlBundleAligned b 0)
    if !s.onPrimary b stream ∨ copies < n / 2 + 1 ∨ (s.stream stream).lastStop = some (number % 2 ^ 16) then s
    else
      let p := s.reg .wlStreamBindPart stream 0
      let s1 := State.strEvent 2 (s.modStream stream (fun x => { x with lastStop := some (number % 2 ^ 16) })) stream
      if s.flag .partStopLaneEn p 0 then s1.testerStop p else s1)

/-- DSK (R343): `arrivals` are the physical lanes on which the markers of one count arrived, with the time of each in ns. -/
def State.deskew (s : State) (b : Nat) (arrivals : List (Nat × Nat)) : State :=
  let xs := arrivals.filter (fun e => (s.activeLanes b).contains e.1)
  match xs with
  | [] => s
  | x :: _ =>
    let first := xs.foldl (fun m e => min m e.2) x.2
    let s1 := s.setReg .wlBundleSkewNs b 0 (min 255 (xs.foldl (fun m e => max m (e.2 - first)) 0))
    xs.foldl (fun s e =>
      let i := s.logical e.1
      let late := decide (96 < e.2 - first)
      let s1 := s.setReg .wlBundleAligned b 0 (setBit (s.reg .wlBundleAligned b 0) i (!late))
      if late then
        ((s1.bound.filter (fun k => decide (s1.reg .wlStreamBindPrimary k 0 = b))).foldl (State.strEvent 5) s1).setReg
          .wlLaneStatusDeskew e.1 0 1
      else s1) s1

/-- DSK (R343). -/
def execDsk (b : Nat) (arrivals : List (Nat × Nat)) (s : State) : Host.Outcome State Fault Refusal := .next (s.deskew b arrivals)

/-- DSK_SEND (R343). -/
def execDskSend (b : Nat) (s : State) : Host.Outcome State Fault Refusal :=
  .next (if s.activeLanes b = [] then s
    else (s.blockAll b 0x4B (toLE 2 (s.bundle b).dskCount ++ zeros 4)).modBundle b
      (fun x => { x with dskCount := (x.dskCount + 1) % 2 ^ 16 }))

/-- HOLD of a partition (R170). -/
def State.holdOf (s : State) (p : Nat) : Bool := decide (s.mode p ≠ Mode.lockstep) || s.frozen p

/-- A STATUS block and the data block that follows it, whose CRC-16 covers both (R333). -/
def State.statusOut (control cycle : Bytes) (s : State) (l : Nat) : State :=
  let crc := crcOf 16 0x1021 Config.statusCrcStart (bitsMsb (toLE 1 0xB4 ++ control ++ cycle))
  (s.blockOut l 0xB4 control).emit (.dataBlock l (cycle ++ toLE 2 crc ++ zeros 2))

/-- STATUS_BLOCK_SEND (R170, R333, R346). -/
def State.statusSend (s : State) (p : Nat) : State :=
  match s.partStream p with
  | none => s
  | some k =>
    let h := s.holdOf p
    let b := s.reg .wlStreamBindPrimary k 0
    if s.activeLanes b = [] ∨ (s.mode p ≠ Mode.lockstep ∧ h = (s.part p).hold) then s
    else
      let free := min 0xFFFF ((512 - (s.fedFifo p).slotsUsed) * 4)
      let control := toLE 1 (p + 32 * b2n h) ++ toLE 1 (if h then s.reg .partQuenchLast p 0 else 0) ++ toLE 2 free ++ zeros 2
      ((s.activeLanes b).foldl (State.statusOut control (toLE 4 (s.cycle p))) s).modPart p (fun x => { x with hold := h })

/-- STATUS_BLOCK_SEND (R170). -/
def execStatusBlockSend (p : Nat) (s : State) : Host.Outcome State Fault Refusal := .next (s.statusSend p)

/-! ## Spare lanes (R349) -/

/-- A logical lane is carried by another physical lane from now on; what no ACK covers is sent again on it. -/
def State.carryOn (s : State) (b i src dst spareFor : Nat) : State :=
  let s1 := ((s.setReg .wlTrainLogical src 0 15).setReg .wlTrainLogical dst 0 i).setReg .wlBundleSpareFor b 0 spareFor
  (s1.updateBundle b).carryAgain b i dst

/-- The handshake is done: the spare takes the logical lane over, or gives it back. -/
def State.substitute (s : State) (b i : Nat) (ret : Bool) : State :=
  let l := 8 * b + i
  let s1 := s.modBundle b (fun x => { x with spare := none, spareWaits := [] })
  let s2 :=
    if ret then (s1.carryOn b i (spareOf b) l 15).idleOut (spareOf b)
    else
      let code := if s.flag .wlLaneStatusRetryLimit l 0 then Status.wlRetryLimit.num else 0
      (((s1.carryOn b i l (spareOf b) i).laneTo l LaneSt.failed code)).strEventOn b 4
  s2.doneAll (s.bundle b).spareWaits .ok

/-- The spare's own partner belongs to the partner of the bundle: the same IDENT, and the bundle of the pair (R348,
R349). -/
def State.spareMatches (s : State) (b : Nat) : Bool :=
  match (s.lane (spareOf b)).cap, (s.bundle b).partner with
  | some c, some x => decide (c.ident = x.1) && decide (c.bundle / 2 = x.2 / 2)
  | _, _ => false

/-- A request for the spare ends without it. -/
def State.spareRefused (s : State) (b i : Nat) (st : Status) : State :=
  let s1 := s.modBundle b (fun x => { x with spare := none, spareWaits := [] })
  let s2 := if (s.bundle b).spare = some (i, false) then s1.laneFails b i (8 * b + i) else s1
  s2.doneAll (s.bundle b).spareWaits st

/-- A SPARE block answers the partner's request. -/
def State.spareAnswer (s : State) (b i : Nat) (ack : Bool) : State :=
  s.blockAll b 0xC3 (toLE 1 i ++ toLE 1 (b / 2) ++ toLE 1 (if ack then 2 else 4) ++ zeros 3)

/-- The bundle of a spare's pair for which the module's own request for it is under way. -/
def State.spareMine (s : State) (b : Nat) : Option Nat := (bundlesOf (spareOf b)).find? (fun c => (s.bundle c).spare.isSome)

/-- The partner asks for the spare, or gives it back. Against a request of the module for the same spare, for either bundle
of its pair, the end with the lower IDENT wins (R349). -/
def State.spareReq (s : State) (b i : Nat) (ret : Bool) : State :=
  let serial := s.reg .modSerialLo 0 0
  let theirs := (s.bundle b).partner.elim 0 (·.1)
  let mine := s.spareMine b
  let s0 := match mine with
    | some c => if theirs < serial ∧ (c ≠ b ∨ (s.bundle c).spare ≠ some (i, ret)) then
        s.spareRefused c ((s.bundle c).spare.elim 0 (·.1)) .wlSpareNone else s
    | none => s
  if mine.isSome ∧ serial < theirs then s
  else if ret then
    if s0.reg .wlBundleSpareFor b 0 = i ∧ s0.laneSt (8 * b + i) = LaneSt.active then (s0.spareAnswer b i true).substitute b i true
    else s0.spareAnswer b i false
  else if s0.reg .wlBundleSpareFor b 0 = i then s0.spareAnswer b i true
  else if s0.laneSt (spareOf b) ≠ LaneSt.active ∨ s0.logical (spareOf b) ≠ 15 then s0.spareAnswer b i false
  else if !s0.spareMatches b then (s0.spareAnswer b i false).mError .wlCapMismatch (Fld.addr .wlTrainState (spareOf b) 0)
  else (s0.spareAnswer b i true).substitute b i false

/-- The bundle that a SPARE block on a lane is about: that of a working lane, or, on a spare, the one whose request is
under way. -/
def State.spareBundle (s : State) (l : Nat) : Option Nat :=
  if l < 64 then some (l / 8) else (bundlesOf l).find? (fun b => (s.bundle b).spare.isSome)

/-- SPARE (R349). -/
def State.spareBlock (s : State) (l i k : Nat) (req ack refuse ret : Bool) : State :=
  match s.spareBundle l with
  | none => s
  | some b =>
    if !s.laneOn l ∨ s.laneSt l ≠ LaneSt.active ∨ b / 2 ≠ k ∨ 8 ≤ i then s
    else if req then s.spareReq b i ret
    else
      match (s.bundle b).spare with
      | some (j, r) =>
        if j ≠ i then s
        else if ack then
          if !r ∧ !s.spareMatches b then (s.spareRefused b i .wlCapMismatch).mError .wlCapMismatch (Fld.addr .wlTrainState (spareOf b) 0)
          else s.substitute b i r
        else if refuse then s.spareRefused b i .wlSpareNone else s
      | none => s

/-- SPARE (R349). -/
def execSpare (l lane k : Nat) (req ack refuse ret : Bool) (s : State) : Host.Outcome State Fault Refusal :=
  .next (s.spareBlock l lane k req ack refuse ret)

/-- SPARE_REQUEST_REPEAT (R349). -/
def execSpareRequestRepeat (l : Nat) (s : State) : Host.Outcome State Fault Refusal :=
  .next (match s.spareBundle l with
    | some b => match (s.bundle b).spare with
      | some (i, ret) => s.spareAsk b i ret
      | none => s
    | none => s)

/-! ## PRBS and error injection (R350) -/

/-- A lane transmits PRBS or coded bits that injection acts on. -/
def State.injects (s : State) (l : Nat) : Bool :=
  s.laneOn l && (decide (s.laneSt l = LaneSt.prbs) || decide (s.laneSt l = LaneSt.active))

/-- A write of 1 to WL.PRBS.INJ_GO: one bit, or a burst, is flipped. -/
def State.injGo (s : State) (o : Origin) (l : Nat) : State :=
  if !s.laneOn l then s
  else if !s.isOwnerOrLocal o then s.wlDenied o .wlPrbsInjGo l 1024
  else
    let m := s.reg .wlPrbsInjMode l 0
    if !s.injects l then s
    else if m = 1 then s.emit (.bitFlips l 1)
    else if m = 2 then s.emit (.bitFlips l (s.reg .wlPrbsInjBurst l 0)) else s

/-- INJ_GO (R350). -/
def execInjGo (o : Origin) (l : Nat) (s : State) : Host.Outcome State Fault Refusal := .next (s.injGo o l)

/-- CONTINUOUS_ERROR_INJECTION (R350). -/
def execContinuousErrorInjection (l : Nat) (s : State) : Host.Outcome State Fault Refusal :=
  .next (if s.injects l ∧ s.reg .wlPrbsInjMode l 0 = 3 then s.emit (.bitFlips l 1) else s)

/-- PRBS_CHECKER_LOCK (R350). -/
def execPrbsCheckerLock (l : Nat) (s : State) : Host.Outcome State Fault Refusal :=
  .next (if s.laneOn l ∧ s.laneSt l = LaneSt.prbs ∧ s.flag .wlPrbsChkEn l 0 ∧ s.reg .wlPrbsMode l 0 ≠ 0 then
    s.setReg .wlPrbsLock l 0 1 else s)

/-- What the checker counted since it was last looked at is the environment's: at least `atLeast` errors, the rest is
free. -/
def State.prbsAdvance (s : State) (l atLeast : Nat) : State :=
  let a := s.takeNat
  let b := a.2.takeNat
  let errs := atLeast + a.1
  let bs := errs + b.1
  (b.2.bump .wlPrbsErrCount l 0 errs).setReg64 .wlPrbsBitsLo .wlPrbsBitsHi l 0
    ((s.reg64 .wlPrbsBitsLo .wlPrbsBitsHi l 0 + bs) % 2 ^ 64)

/-- The lock of the checker ends, and with it the counting. -/
def State.prbsCount (s : State) (l atLeast : Nat) : State := (s.prbsAdvance l atLeast).setReg .wlPrbsLock l 0 0

/-- PRBS_LOCK_LOSS (R350): 64 errors in 1,024 bits; counting stops. -/
def execPrbsLockLoss (l : Nat) (s : State) : Host.Outcome State Fault Refusal :=
  .next (if s.flag .wlPrbsLock l 0 then s.prbsCount l 64 else s)

/-! ## Banking (R351) -/

/-- What stands against a bundle's entry to BANKED: a stream of a running partition, or unacknowledged frames. -/
def State.bankBusy (s : State) (b : Nat) : Bool :=
  s.bound.any (fun k => bit (s.reg .wlStreamBindBundles k 0) b && s.running (s.reg .wlStreamBindPart k 0)) ||
    (List.range 8).any (fun i => decide (0 < s.unacked b i))

/-- The lanes that bank with a bundle: its own, and the serving spare unless it carries, or is asked to carry, a lane of the
other bundle of its pair. -/
def State.bankLanes (s : State) (b : Nat) : List Nat :=
  let waits := decide (s.logical (spareOf b) = 15) && (bundlesOf (spareOf b)).all (fun c => (s.bundle c).spare.isNone)
  s.lanesOf b ++ (if waits ∧ s.reg .wlBundleSpareFor b 0 = 15 then [spareOf b] else [])

/-- The lanes of a bundle enter BANKED, its serving spare with them. -/
def State.bankEnter (s : State) (b : Nat) : State :=
  let ls := (s.bankLanes b).filter (fun l => decide (s.laneSt l = LaneSt.active))
  let s1 := ls.foldl (fun s l => s.toLane l LaneSt.banked 0) (s.setReg .wlBundleBanked b 0 1)
  let s2 := (s1.updateBundle b).modBundle b (fun x => { x with bankReq := false, bankWaits := [] })
  s2.doneAll (s.bundle b).bankWaits .ok

/-- A bundle leaves BANKED: its lanes train. -/
def State.bankExit (s : State) (b : Nat) : State :=
  if s.flag .wlBundleBanked b 0 then
    ((s.bankLanes b).filter (fun l => decide (s.laneSt l = LaneSt.banked))).foldl (fun s l => s.toLane l LaneSt.train 0)
      (s.setReg .wlBundleBanked b 0 0)
  else s

/-- BANK (R351). -/
def execBank (b : Nat) (req ack : Bool) (s : State) : Host.Outcome State Fault Refusal :=
  .next (
    if s.activeLanes b = [] then s
    else if req then (if s.bankBusy b then s else (s.blockAll b 0xE1 (toLE 1 2 ++ zeros 5)).bankEnter b)
    else if ack ∧ (s.bundle b).bankReq then s.bankEnter b else s)

/-- BANK_EXIT_SIGNAL (R351). -/
def execBankExitSignal (b : Nat) (s : State) : Host.Outcome State Fault Refusal := .next (s.bankExit b)

/-! ## Commands (R353) -/

/-- The link directions that frames of a bundle take between two anvils, under the default table (R331, R287). -/
def linkPath : Nat → Nat → Nat → List (Nat × Nat)
  | 0, _, _ => []
  | n + 1, a, t => if a = t then [] else (a, routeLink a t) :: linkPath n (linkPeer a (routeLink a t)) t

/-- The link directions that a binding uses, each with the bundle whose traffic it carries. -/
def bindingLinks (bundles home : Nat) (inEn outEn : Bool) : List ((Nat × Nat) × Nat) :=
  ((setBitsOf 8 bundles).filter (fun b => decide (b ≠ home))).flatMap (fun b =>
    ((if inEn then linkPath 8 b home else []) ++ (if outEn then linkPath 8 home b else [])).map (fun x => (x, b)))

/-- A binding would make a link direction carry the traffic of two bundles (R331). -/
def State.routeClash (s : State) (new : List ((Nat × Nat) × Nat)) : Bool :=
  let old := s.bound.flatMap (fun k => bindingLinks (s.reg .wlStreamBindBundles k 0) (s.reg .wlStreamBindPrimary k 0)
    (s.flag .wlStreamBindInEn k 0) (s.flag .wlStreamBindOutEn k 0))
  let all := old ++ new
  all.any (fun x => all.any (fun y => decide (x.1 = y.1) && decide (x.2 ≠ y.2)))

/-- WL_STREAM_BIND. -/
def cmdWlStreamBind (r : CmdRef) (k p bundles inEn outEn : Nat) (s : State) : CmdRes :=
  let home := s.homeAnvil p
  refuseIf [s.ownerOnly r.org, (decide (32 ≤ p), .notPresent), (!s.pExists p, .notPresent), (decide (32 ≤ k), .cmdFormat),
    (!bit bundles home || decide (2 ^ s.grade.anvils ≤ bundles), .wlRoute), (decide (2 ≤ inEn ∨ 2 ≤ outEn), .cmdFormat),
    (decide (s.mode p ≠ Mode.loading ∧ s.mode p ≠ Mode.ready), .modeInvalid), (s.flag .wlStreamBindValid k 0, .wlStreamBound),
    (s.routeClash (bindingLinks bundles home (decide (inEn = 1)) (decide (outEn = 1))), .wlRoute)] s (fun s =>
    let s1 := [(Fld.wlStreamBindValid, 1), (.wlStreamBindInEn, inEn), (.wlStreamBindOutEn, outEn), (.wlStreamBindPrimary, home),
      (.wlStreamBindPart, p), (.wlStreamBindBundles, bundles), (.wlStreamInLimit, 512), (.wlStreamOutSseq, 0), (.wlStreamOutLimit, 0),
      (.wlStreamOutGen, 0), (.wlStreamInGen, 0)].foldl (fun s e => s.setReg e.1 k 0 e.2) s
    (s1.modStream k (fun x => { Stream.init with received := x.received })).oks)

/-- WL_STREAM_BIND (R330). -/
def execWlStreamBind (r : CmdRef) (stream part bundles inEn outEn : Nat) (s : State) : Host.Outcome State Fault Refusal :=
  .next (runCmd r 0x0C00 (formParams 0 [(.int 1, stream), (.int 1, part), (.int 1, bundles), (.int 1, inEn), (.int 1, outEn)]) part
    (cmdWlStreamBind r stream part bundles inEn outEn) s)

/-- A stream is unbound: its binding fields read 0, its buffer is given up, and it feeds no FIFO. -/
def State.unbind (s : State) (k : Nat) : State :=
  let p := s.reg .wlStreamBindPart k 0
  let s := [true, false].foldl (fun s stim => if (s.fifo p stim).src = some k then s.fifoFrom p stim none else s) s
  ([Fld.wlStreamBindValid, .wlStreamBindInEn, .wlStreamBindOutEn, .wlStreamBindPrimary, .wlStreamBindPart,
    .wlStreamBindBundles].foldl (fun s f => s.setReg f k 0 0) s).modStream k (fun x => { Stream.init with received := x.received })

/-- WL_STREAM_UNBIND. -/
def cmdWlStreamUnbind (r : CmdRef) (k : Nat) (s : State) : CmdRes :=
  let p := s.reg .wlStreamBindPart k 0
  refuseIf [s.ownerOnly r.org, (decide (32 ≤ k), .cmdFormat)] s (fun s =>
    if !s.flag .wlStreamBindValid k 0 then s.oks
    else if s.mode p ≠ Mode.loading ∧ s.mode p ≠ Mode.ready then s.says .modeInvalid
    else (s.unbind k).oks)

/-- WL_STREAM_UNBIND (R353). -/
def execWlStreamUnbind (r : CmdRef) (stream : Nat) (s : State) : Host.Outcome State Fault Refusal :=
  .next (runCmd r 0x0C01 (formParams 0 [(.int 1, stream)]) 0xFFFF (cmdWlStreamUnbind r stream) s)

/-- A logical lane of a bundle that a running partition uses is carried by this lane (R350). -/
def State.laneUsed (s : State) (l : Nat) : Bool :=
  decide (s.logical l < 8) && s.bound.any (fun k => bit (s.reg .wlStreamBindBundles k 0) (s.bundleOf l) &&
    s.running (s.reg .wlStreamBindPart k 0))

/-- WL_LANE_CTL (R347, R349, R350): an action that does not fit the lane's state is WL_STATE. -/
def cmdWlLaneCtl (r : CmdRef) (l action : Nat) (s : State) : CmdRes :=
  let st := s.laneSt l
  let b := s.bundleOf l
  refuseIf [s.ownerOrLocal r.org, (!Grade.hasLane s.grade l, .notPresent), (decide (5 ≤ action), .cmdFormat),
    (!s.laneOn l, .wlState)] s (fun s =>
    if action = 0 then (if st = LaneSt.disabled then s.says .wlState else (s.retrain l).oks)
    else if action = 1 then
      if (st = LaneSt.disabled ∨ st = LaneSt.active ∨ st = LaneSt.failed) ∧ !s.laneUsed l then (s.laneTo l LaneSt.prbs 0).oks
      else s.says .wlState
    else if action = 2 then
      if st = LaneSt.prbs then ((if s.flag .wlPrbsLock l 0 then s.prbsCount l 0 else s).laneDetect l).oks else s.says .wlState
    else if action = 3 then
      if l < 64 ∧ s.logical l < 8 ∧ (st = LaneSt.active ∨ st = LaneSt.failed) then
        let x := s.laneFault l true
        if x.2 then (x.1.modBundle b (fun y => { y with spareWaits := y.spareWaits ++ [r] })).waits else x.1.says .wlSpareNone
      else s.says .wlState
    else if l < 64 ∧ st = LaneSt.active ∧ s.logical l = 15 ∧ s.reg .wlBundleSpareFor b 0 = l % 8 ∧ (s.bundle b).spare.isNone then
      ((s.modBundle b (fun y => { y with spare := some (l % 8, true), spareWaits := y.spareWaits ++ [r] })).spareAsk b (l % 8) true).waits
    else s.says .wlState)

/-- WL_LANE_CTL (R353). -/
def execWlLaneCtl (r : CmdRef) (lane action : Nat) (s : State) : Host.Outcome State Fault Refusal :=
  .next (runCmd r 0x0C02 (formParams 0 [(.int 1, lane), (.int 1, action)]) 0xFFFF (cmdWlLaneCtl r lane action) s)

/-- WL_BANK. -/
def cmdWlBank (r : CmdRef) (b enter : Nat) (s : State) : CmdRes :=
  refuseIf [s.ownerOrLocal r.org, (decide (s.grade.anvils ≤ b), .notPresent), (decide (2 ≤ enter), .cmdFormat),
    (decide (enter = 1) && (s.bankBusy b || decide (s.activeLanes b = [])), .wlState)] s (fun s =>
    if enter = 0 then (s.bankExit b).oks
    else ((s.blockAll b 0xE1 (toLE 1 1 ++ zeros 5)).modBundle b (fun x => { x with
      bankReq := true, bankWaits := x.bankWaits ++ [r] })).waits)

/-- WL_BANK (R351). -/
def execWlBank (r : CmdRef) (bundle enter : Nat) (s : State) : Host.Outcome State Fault Refusal :=
  .next (runCmd r 0x0C03 (formParams 0 [(.int 1, bundle), (.int 1, enter)]) 0xFFFF (cmdWlBank r bundle enter) s)

/-! ## Power (R28, R407) -/

/-- The bundle of an anvil, and its spare if no other anvil powers it, at their start-up values. -/
def State.lanesReset (s : State) (a : Nat) : State :=
  let spare := if s.anvilOn (if a % 2 = 0 then a + 1 else a - 1) then [] else [64 + a / 2]
  let ls := (List.range 8).map (fun i => 8 * a + i) ++ spare
  let s1 := ls.foldl (fun s l => (s.startBlock .wlLane l).modLane l (fun _ => Lane.init)) s
  let s2 := (s1.startBlock .wlBundle a).modBundle a (fun _ => Bundle.init)
  (List.range 8).foldl (fun s i => s.modLog a i (fun _ => LogLane.init)) s2

/-- The bundle of an anvil starts bring-up on the lanes with ENABLE = 1 (R407). -/
def State.lanesUp (s : State) (a : Nat) : State :=
  (((List.range 8).map (fun i => 8 * a + i) ++ [64 + a / 2]).filter (fun l =>
    s.laneOn l && s.flag .wlLaneCtlEnable l 0 && decide (s.laneSt l = LaneSt.disabled))).foldl (fun s l => s.laneDetect l) s

end Sys2Proof.Machine
end

