-- ==== Sys2Proof/Machine/Trace.lean ====
section
/-! DEFINITION. The funnel, its sink and its triggers; stalls and recoveries; the power states of the CPs as trace sees
them; and the trace buffer (chapter 08, R243 to R252). -/

namespace Sys2Proof.Machine

/-! ## The stream (R236, R243) -/

/-- Blocks that the output FIFO holds (R243): 64 KiB. -/
def traceOutMax : Nat := 1024

/-- The rest of the block filled with zero bytes; the finished block joins the output FIFO. -/
def Trace.pad (t : Trace) : Trace :=
  if t.block = [] then t
  else { t with block := [], out := t.out ++ [t.block ++ zeros (64 - t.block.length)], grown := t.grown + 64 }

/-- A packet joins the stream; it never spans a block boundary. -/
def Trace.place (t : Trace) (b : Bytes) : Trace :=
  let t1 := if 64 < t.block.length + b.length then t.pad else t
  let l := t1.block ++ b
  if l.length = 64 then { t1 with block := l }.pad else { t1 with block := l }

/-- The next source of the round robin that has a packet. -/
def State.nextSource (s : State) : Option Nat :=
  let n := s.trace.turn
  let l := traceSources.drop n ++ traceSources.take n
  l.find? (fun x => decide ((s.src x).fifo ≠ []))

/-- Blocks still to write after a trigger, one fewer for every block that the stream has grown by (R250). -/
def State.stopCount (s0 s : State) : State :=
  if s.traceState = 2 then
    s.setReg .traceStopLeft 0 0 (s.reg .traceStopLeft 0 0 - (s.trace.out.length - s0.trace.out.length))
  else s

/-- One packet goes from its source to the stream; a source that then has room drops no more for a stall limit (R247). -/
def State.funnelTake (s : State) : State :=
  match s.nextSource with
  | none => s
  | some x =>
    match (s.src x).fifo with
    | [] => s
    | b :: rest =>
      let s1 := s.modSrc x (fun t =>
        let t1 := { t with fifo := rest }
        { t1 with limited := t.limited && decide (t1.free x < 64) })
      let t := { s1.trace.place b with turn := (traceSources.findIdx (fun y => y = x) + 1) % traceSources.length }
      s.stopCount { s1 with trace := t }

/-- Packets are taken until a block is finished, the output FIFO is full, or nothing is left; in STATE 2 the stream ends
with its last block. -/
def State.funnelFill (s0 : State) : Nat → State → State
  | 0, s => s
  | n + 1, s =>
    if s0.trace.out.length < s.trace.out.length ∨ traceOutMax ≤ s.trace.out.length ∨
        (s.traceState = 2 ∧ s.reg .traceStopLeft 0 0 = 0 ∧ !s.trace.closing) then s
    else
      match s.nextSource with
      | none => s
      | some _ => State.funnelFill s0 n s.funnelTake

/-- Every source has sent what its FIFO held. -/
def State.sourcesEmpty (s : State) : Bool := decide (s.nextSource = none)

/-! ## The sink (R243) -/

/-- The range of the trace buffer. -/
def State.traceBuf (s : State) : Nat × Nat :=
  (s.reg .traceBufBaseLo 0 0 * 2 ^ 21 + s.reg .traceBufBaseHi 0 0 * 2 ^ 32, 2 ^ s.reg .traceBufSizeLog2 0 0)

/-- One block goes to the sink, if the sink takes it. -/
def State.sinkWrite (s : State) : State :=
  match s.trace.out with
  | [] => s
  | b :: rest =>
    let pop := fun (s : State) => { s with trace := { s.trace with out := rest } }
    if s.trace.sinkKind = 1 then
      let q := s.trace.sinkQueue
      if s.qEnabled q ∧ s.qFill q + (s.queue q).hold.length < s.qSize q then (pop s).qAppend q b else s
    else if !s.flag .traceBufValid 0 0 then pop s
    else
      let r := s.traceBuf
      let wr := s.reg .traceBufWr 0 0
      let fill := (wr + 2 ^ 32 - s.reg .traceBufRd 0 0) % 2 ^ 32
      if s.trace.sinkMode = 1 ∧ r.2 / 64 ≤ fill then s
      else
        let f := s.freshId
        let x := f.2.submit (s.reg .traceBufAnvil 0 0) ⟨f.1, 1, 0xFF, r.1 + 64 * (wr % (r.2 / 64)), 64, true, b.map some, .trace, false, false⟩
        if x.1.isSome then (pop x.2).setReg .traceBufWr 0 0 (wr + 1) else x.2

/-! ## Stalls (R245 to R247) -/

/-- Every stall ends: trace has stopped (R249, R250). -/
def State.stallsEnd (s : State) : State :=
  (List.range 9).foldl State.stallOver s

/-- TRACE_STALL_END: the FIFO of a stalled CP is at least half empty (R245). -/
def State.traceStallEnd (s : State) (c : Nat) : State :=
  if c ≤ 8 ∧ (s.src c).stalledSince.isSome ∧ 2 * (s.src c).used ≤ srcSize c then s.stallEnd c (s.stalledNs c) else s

/-- TRACE_STALL_END (R245). -/
def execTraceStallEnd (c : Nat) (s : State) : Host.Outcome State Fault Refusal := .next (s.traceStallEnd c)

/-- TRACE_STALL_LIMIT: the CP restarts, and its source drops packets until it finds room (R247). -/
def State.traceStallLimit (s : State) (c : Nat) : State :=
  if c ≤ 8 ∧ (s.src c).stalledSince.isSome ∧ 1000 * s.reg .traceStallLimitUs 0 0 ≤ s.stalledNs c then
    ((s.stallEnd c (1000 * s.reg .traceStallLimitUs 0 0)).modSrc c (fun t => { t with limited := true })).setReg
      .traceStatusStallLimit 0 0 1
  else s

/-- TRACE_STALL_LIMIT (R247). -/
def execTraceStallLimit (c : Nat) (s : State) : Host.Outcome State Fault Refusal := .next (s.traceStallLimit c)

/-- TRACE_OVERFLOW_RECOVERY: a source that dropped packets finds room again (R246). -/
def State.traceRecovery (s : State) (x : Nat) : State :=
  if s.srcRuns x ∧ 0 < (s.src x).dropped ∧ 64 ≤ (s.src x).free x then s.recoverSrc x else s

/-- TRACE_OVERFLOW_RECOVERY (R246). -/
def execTraceOverflowRecovery (src : Nat) (s : State) : Host.Outcome State Fault Refusal := .next (s.traceRecovery src)

/-- TRACE_PACKET_EMIT (R237). -/
def execTracePacketEmit (src : Nat) (item : TraceItem) (s : State) : Host.Outcome State Fault Refusal :=
  .next ((match item with
    | .noc _ code _ => if code = 1 ∧ 0x10 ≤ src ∧ src < 0x18 then s.bump .nocStallCount (src - 0x10) 0 1 else s
    | _ => s).traceItem src item)

/-! ## Start and stop (R249, R250) -/

/-- A source starts (R249): its SYNC comes before any other packet. A CP that sleeps sends its SYNC when it wakes. -/
def State.srcStart (s : State) (x : Nat) : State :=
  let s1 := s.modSrc x (fun t => { t with lastTick := s.time.ticks, dropped := 0, sync := none, limited := false })
  if s1.srcRuns x then s1.autoSync x 0 else s1

/-- The sources of an anvil whose domain has come on start as enabled ones. -/
def State.traceUp (s : State) (a : Nat) : State :=
  if s.traceState = 1 ∧ !s.trace.closing then
    [0x10 + a, 0x20 + 2 * a, 0x21 + 2 * a].foldl (fun s x => if s.srcEnabled x then s.srcStart x else s) s
  else s

/-- SRC_EN written (R249): a source enabled while STATE is 1 starts. Bits of absent sources ignore writes. -/
def State.setSrcEn (s : State) (hi : Bool) (v : Nat) : State :=
  let f := if hi then Fld.traceSrcEnHi else Fld.traceSrcEnLo
  let k := if hi then 32 else 0
  let present := (List.range 32).foldl (fun m n => setBit m n (bit v n && s.srcPresent (k + n))) 0
  let old := s.reg f 0 0
  let s1 := s.setReg f 0 0 present
  if s.traceState = 1 ∧ !s.trace.closing then
    (traceSources.filter (fun x => decide (k ≤ x ∧ x < k + 32) && bit present (x - k) && !bit old (x - k))).foldl
      State.srcStart s1
  else s1

/-- The sink that the registers name is invalid (R243). -/
def State.sinkInvalid (s : State) : Bool :=
  if s.reg .traceSinkKind 0 0 = 1 then decide (s.reg .queueCfgType (s.reg .traceSinkQueue 0 0) 0 ≠ QT.trace)
  else !s.flag .traceBufValid 0 0

/-- ENABLE changes from 0 to 1 (R243, R249). -/
def State.traceStart (s : State) : State :=
  let t := { s.trace.pad with
    sinkKind := s.reg .traceSinkKind 0 0, sinkMode := s.reg .traceSinkMode 0 0, sinkQueue := s.reg .traceSinkQueue 0 0
    grown := 0, closing := false, lastTick := s.time.ticks }
  let s1 := ({ s with trace := t }.setReg .traceCtlEnable 0 0 1).setReg .traceStatusState 0 0 1
  (traceSources.filter s1.srcEnabled).foldl State.srcStart s1

/-- TRACE_ENABLE: a write of ENABLE = 1. -/
def State.wrTraceEnable (s : State) (o : Origin) : State :=
  if !s.isOwnerOrLocal o then s.auditRefuse o .notOwner 0xFFFF .traceCtlEnable 0 0 1
  else if s.flag .traceCtlEnable 0 0 then s
  else if s.sinkInvalid then
    (s.setReg .traceStatusSinkErr 0 0 1).auditRefuse o .traceSink 0xFFFF .traceCtlEnable 0 0 1
  else State.auditDiff o 0xFFFF .traceCtlEnable 0 0 s s.traceStart

/-- TRACE_ENABLE (R249). -/
def execTraceEnable (o : Origin) (s : State) : Host.Outcome State Fault Refusal :=
  .next (if s.sys.off then s else s.wrTraceEnable o)

/-- The stream of a disabled trace ends once everything has been sent: its last block is padded, and STATE becomes 0. -/
def State.traceClose (s : State) : State :=
  if s.trace.closing ∧ s.sourcesEmpty then
    let t := s.trace.pad
    if t.out = [] then { s with trace := { t with closing := false } }.setReg .traceStatusState 0 0 0
    else { s with trace := t }
  else s

/-- ENABLE changes from 1 to 0: every source stops at once, and what the FIFOs hold is sent (R249). -/
def State.traceStop (s : State) : State :=
  let s1 := (s.setReg .traceCtlEnable 0 0 0).stallsEnd
  { s1 with trace := { s1.trace with closing := true } }.traceClose

/-- TRACE_DISABLE: a write of ENABLE = 0. -/
def State.wrTraceDisable (s : State) (o : Origin) : State :=
  if !s.isOwnerOrLocal o then s.auditRefuse o .notOwner 0xFFFF .traceCtlEnable 0 0 0
  else if !s.flag .traceCtlEnable 0 0 then s
  else State.auditDiff o 0xFFFF .traceCtlEnable 0 0 s s.traceStop

/-- TRACE_DISABLE (R249). -/
def execTraceDisable (o : Origin) (s : State) : Host.Outcome State Fault Refusal :=
  .next (if s.sys.off then s else s.wrTraceDisable o)

/-- Every enabled source owes a SYNC with REASON 3 each time the stream has grown by 2^LOG2 bytes (R248). -/
def State.periodicSync (s : State) : State :=
  let n := 2 ^ s.reg .traceSyncLog2 0 0
  if s.trace.grown < n then s
  else
    let s1 := { s with trace := { s.trace with grown := s.trace.grown % n } }
    if s.flag .traceCtlTz3Mode 0 0 then
      (traceSources.filter s.srcEnabled).foldl (fun s x => s.modSrc x (fun t => { t with sync := some (t.sync.getD 3) })) s1
    else s1

/-- FUNNEL_BLOCK_WRITE: packets are merged in round-robin order, and one block goes to the sink (R243). -/
def State.funnel (s : State) : State :=
  let s1 := if s.traceState = 0 ∨ (s.traceState = 3 ∧ !s.trace.closing) then s else State.funnelFill s 64 s
  s1.traceClose.periodicSync.sinkWrite.traceClose

/-- FUNNEL_BLOCK_WRITE (R243). -/
def execFunnelBlockWrite (s : State) : Host.Outcome State Fault Refusal := .next s.funnel

/-- A packet of the funnel itself (source 0x7E). -/
def State.funnelPacket (s : State) (type : Nat) (payload : Bytes) : State :=
  let t := (stamped 0x7E type (s.time.ticks - s.trace.lastTick) payload).foldl Trace.place s.trace
  { s with trace := { t with lastTick := s.time.ticks } }

/-- The trigger: its packet, TRIG_TIME, and the stop delay (R250). -/
def State.triggered (s : State) (origin k : Nat) : State :=
  let t := s.ctrNs s.steward
  (((s.funnelPacket TP.trigger (toLE 1 origin ++ toLE 1 k ++ toLE 8 t)).setReg64 .traceTrigTimeLo .traceTrigTimeHi 0 0
    t).setReg .traceStatusState 0 0 2).setReg .traceStopLeft 0 0 (s.reg .traceStopDelay 0 0)

/-- STOP: the packet, the rest of the block, and STATE 3. Sources keep nothing, and stalled CPs restart (R250). -/
def State.traceStopped (s : State) (reason : Nat) : State :=
  let s1 := s.funnelPacket TP.stop (toLE 1 reason)
  let s2 := ({ s1 with trace := s1.trace.pad }.setReg .traceStatusState 0 0 3).setReg .traceStopLeft 0 0 0
  traceSources.foldl (fun s x => s.modSrc x (fun t => { t with fifo := [], dropped := 0, sync := none })) s2.stallsEnd

/-- A trigger arrives: it starts the stop delay in STATE 1, and is ignored and counted in STATE 2 and 3 (R250). -/
def State.trigger (s : State) (origin k : Nat) : State :=
  if s.trace.closing then s
  else if s.traceState = 1 then s.triggered origin k
  else if s.traceState = 0 then s
  else s.bump .traceTrigMissed 0 0 1

/-- TRACE_TRIGGER: a FIRE or a trigger input edge that is on its way reaches the funnel. -/
def State.traceTrigger (s : State) (kind k : Nat) : State :=
  if s.trace.signals.contains (kind, k) then
    { s with trace := { s.trace with signals := s.trace.signals.erase (kind, k) } }.trigger kind k
  else s

/-- TRACE_TRIGGER (R250). -/
def execTraceTrigger (kind k : Nat) (s : State) : Host.Outcome State Fault Refusal := .next (s.traceTrigger kind k)

/-- STOP_NOW: a write of 1 triggers and stops at once (R250). -/
def State.wrStopNow (s : State) (o : Origin) : State :=
  if !s.isOwnerOrLocal o then s.auditRefuse o .notOwner 0xFFFF .traceCtlStopNow 0 0 4
  else
    let s1 := if s.traceState = 1 ∧ !s.trace.closing then (s.triggered 2 0).traceStopped 1 else s.trigger 2 0
    s1.auditAct o 0xFFFF .traceCtlStopNow 0 0 4

/-- STOP_NOW (R250). -/
def execStopNow (o : Origin) (s : State) : Host.Outcome State Fault Refusal := .next (if s.sys.off then s else s.wrStopNow o)

/-- STOP_DELAY_REACHED: the blocks after the trigger have been written (R250). -/
def State.stopDelay (s : State) : State :=
  if s.traceState = 2 ∧ s.reg .traceStopLeft 0 0 = 0 ∧ !s.trace.closing then s.traceStopped 0 else s

/-- STOP_DELAY_REACHED (R250). -/
def execStopDelayReached (s : State) : Host.Outcome State Fault Refusal := .next s.stopDelay

/-! ## Sleeping CPs (R251) -/

/-- A CP emits what R251 asks for as it sleeps or wakes: its source runs, and STATE is 1. -/
def State.sleepRuns (s : State) (c : Nat) : Bool := s.srcRuns c && decide (s.traceState = 1)

/-- A CP enters low-power level 1 to 3: its pending flow state, then SLEEP, and only then its clock stops. A CP that stalls on
the first packet has not entered the level yet. -/
def State.cpSleep (s : State) (c level icount target : Nat) : State :=
  if 8 < c ∨ level = 0 ∨ 3 < level ∨ (s.src c).asleep ∨ (s.src c).stalledSince.isSome then s
  else
    let s1 := if s.sleepRuns c then s.traceItem c (.branch icount target) else s
    if (s1.src c).stalledSince.isSome then s1
    else
      let s2 := if s1.sleepRuns c then
          (if 0 < (s1.src c).dropped then s1.recoverSrc c else s1).push c TP.sleep (toLE 1 level)
        else s1
      s2.modSrc c (fun t => { t with asleep := true })

/-- CP_SLEEP (R251). -/
def execCpSleep (c level icount target : Nat) (s : State) : Host.Outcome State Fault Refusal :=
  .next (if s.sys.off then s else s.cpSleep c level icount target)

/-- A CP wakes: its first packet is a SYNC with the address of its first instruction. -/
def State.cpWake (s : State) (c addr : Nat) : State :=
  if 8 < c ∨ !(s.src c).asleep then s
  else
    let s1 := s.modSrc c (fun t => { t with asleep := false })
    if s1.sleepRuns c then s1.pushSync c 1 addr else s1

/-- CP_WAKE (R251). -/
def execCpWake (c addr : Nat) (s : State) : Host.Outcome State Fault Refusal := .next (s.cpWake c addr)

/-! ## The trace buffer (R244) -/

/-- The ranges of an anvil's DRAM that the trace buffer must avoid: allocations, loads and the audit log. -/
def State.traceBusy (s : State) (a : Nat) : List (Nat × Nat) :=
  (s.setReg .traceBufValid 0 0 0).planBusy 32 a

/-- The trace buffer is not held any more. -/
def State.traceBufFree (s : State) : State := s.setReg .traceBufValid 0 0 0

/-- TRACE.STATUS.STATE is 1 or 2. -/
def State.traceBusyNow (s : State) : Bool := decide (s.traceState = 1) || decide (s.traceState = 2)

/-- TRACE_BUF_ALLOC: a held buffer is freed, and the lowest free range is reserved. -/
def cmdTraceBufAlloc (r : CmdRef) (a sizeLog2 : Nat) (s : State) : CmdRes :=
  refuseIf [s.ownerOrLocal r.org, s.noAnvil a, (decide (sizeLog2 < 16 ∨ 30 < sizeLog2), .cmdFormat),
    (s.traceBusyNow, .traceBusy)] s (fun s =>
    let s1 := s.traceBufFree
    match lowestFree (s1.traceBusy a) (2 ^ sizeLog2) with
    | none => s1.says .dramAlloc
    | some b =>
      (([(Fld.traceBufBaseLo, b / 2 ^ 21 % 2 ^ 11), (.traceBufBaseHi, b / 2 ^ 32), (.traceBufSizeLog2, sizeLog2),
        (.traceBufAnvil, a), (.traceBufValid, 1), (.traceBufRd, 0), (.traceBufWr, 0)] : List (Fld × Nat)).foldl
          (fun s e => s.setReg e.1 0 0 e.2) s1).oks)

/-- TRACE_BUF_ALLOC (R244). -/
def execTraceBufAlloc (r : CmdRef) (anvil sizeLog2 : Nat) (s : State) : Host.Outcome State Fault Refusal :=
  .next (runCmd r 0x0800 (formParams 0 [(.int 1, anvil), (.int 1, sizeLog2)]) 0xFFFF (cmdTraceBufAlloc r anvil sizeLog2) s)

/-- TRACE_BUF_FREE: the range is released. -/
def cmdTraceBufFree (r : CmdRef) (s : State) : CmdRes :=
  refuseIf [s.ownerOrLocal r.org, (s.traceBusyNow, .traceBusy)] s (fun s => s.traceBufFree.oks)

/-- TRACE_BUF_FREE (R244). -/
def execTraceBufFree (r : CmdRef) (s : State) : Host.Outcome State Fault Refusal :=
  .next (runCmd r 0x0801 [] 0xFFFF (cmdTraceBufFree r) s)

end Sys2Proof.Machine
end

