-- ==== Sys2Proof/Machine/NocPkt.lean ====
section
/-! DEFINITION. The packet network between its endpoints: packets (R281), routing tables (R287), the input buffers of the
routers with their credits and arbitration (R283), link channels (R278), tags (R285), and how a source sends (R282, R284,
R288). -/

namespace Sys2Proof.Machine

/-- The network part of the state changed. -/
def State.modNoc (s : State) (f : Noc → Noc) : State := { s with noc := f s.noc }

/-- A NOC_EVENT of an anvil's monitor (R239). -/
def State.nocEvent (s : State) (a router code value : Nat) : State := s.traceItem (0x10 + a) (.noc router code value)

/-- A fault of the network at a router (R293): its bit in NOC.ERR.STATUS, the trace of its status number, and the count
of the packet if it is discarded. -/
def State.nocFault (s : State) (a router : Nat) (f : Fld) (st : Status) (discard : Bool) : State :=
  let s1 := (s.setReg f a 0 1).nocEvent a router 5 st.num
  if discard then s1.bump .nocErrDiscardCount a 0 1 else s1

/-- The anvils whose domain is on, rising. -/
def State.anvilsOn (s : State) : List Nat := (List.range s.grade.anvils).filter s.anvilOn

/-! ## Packets (R277, R281) -/

/-- HCRC over bits [239:0] of a header. -/
def headerCrc (body : Nat) : Nat := crcOf 16 0x1021 Config.crc16Start ((List.range 240).map (fun k => bit body (239 - k)))

/-- A header with its HCRC. -/
def sealed (body : Nat) : BitVec 256 := BitVec.ofNat 256 (body % 2 ^ 240 + headerCrc (body % 2 ^ 240) * 2 ^ 240)

/-- A field of the header. -/
def NocPkt.field (k : NocPkt) (hi lo : Nat) : Nat := bits k.hdr.toNat hi lo

def NocPkt.addr (k : NocPkt) : Nat := k.field 239 176
def NocPkt.be (k : NocPkt) : Nat := k.field 175 112
def NocPkt.len (k : NocPkt) : Nat := k.field 47 41
def NocPkt.tag (k : NocPkt) : Nat := k.field 40 31
def NocPkt.cpl (k : NocPkt) : Nat := k.field 30 27
def NocPkt.src (k : NocPkt) : Nat := k.field 26 19
def NocPkt.dst (k : NocPkt) : Nat := k.field 18 11
def NocPkt.type (k : NocPkt) : Nat := k.field 10 7
def NocPkt.dflits (k : NocPkt) : Nat := k.field 6 5
def NocPkt.prio (k : NocPkt) : Nat := k.field 4 3
def NocPkt.vc (k : NocPkt) : Nat := k.field 2 2
def NocPkt.epoch (k : NocPkt) : Nat := k.field 1 1
def NocPkt.poison (k : NocPkt) : Bool := decide (k.field 0 0 = 1)

/-- The header body of a packet that a source forms: VC 1 carries completions (R283). -/
def headerBody (type src dst tag cpl addr be len dflits prio epoch : Nat) : Nat :=
  addr % 2 ^ 64 * 2 ^ 176 + be % 2 ^ 64 * 2 ^ 112 + len % 128 * 2 ^ 41 + tag % 1024 * 2 ^ 31 + cpl % 16 * 2 ^ 27 + src % 256 * 2 ^ 19 +
    dst % 256 * 2 ^ 11 + type % 16 * 2 ^ 7 + dflits % 4 * 2 ^ 5 + prio % 4 * 2 ^ 3 + b2n (decide (type = 3)) * 2 ^ 2 + epoch % 2 * 2

/-- The data flits that a string fills, the last padded with 0. -/
def flitsOf (bs : Bytes) : Bytes := bs ++ zeros (32 * ((bs.length + 31) / 32) - bs.length)

/-- Flits of a packet. -/
def NocPkt.flits (k : NocPkt) : Nat := 1 + k.data.length / 32

/-- Flits of the largest packet. -/
def maxFlits : Nat := 3

/-- PRIO of what a packet carries (R283). -/
def trafficPrio : NocTraffic → Nat
  | .register => 3
  | .capture => 2
  | .dma => 1
  | .trace => 0

/-- The router of an endpoint of an anvil (R277). -/
def endpointRouter (e : Nat) : Nat := if e < 16 then e else if e = 0x11 then 5 else 0

/-- An endpoint number of R277. -/
def dstKnown (e : Nat) : Bool := decide (e = 0xFF) || decide (e % 32 ≤ 0x12)

/-- The header of a packet as a router finds it: HCRC, TYPE or DST is bad. -/
def NocPkt.headerBad (k : NocPkt) : Bool :=
  decide (k.field 255 240 ≠ headerCrc (k.hdr.toNat % 2 ^ 240)) || decide (k.type = 0 ∨ 4 < k.type) || !dstKnown k.dst

/-- The hearth that a hearth agent's hearth number names (R21). -/
def agentHearth (e n : Nat) : Nat := 16 * (2 * (e % 32 / 4) + n / 4 % 2) + 4 * (e % 4) + n % 4

/-- A hearth agent that serves a region (R21). -/
def agentServes (e r : Nat) : Bool := decide (e / 32 = r / 8) && decide (e % 32 < 16) && decide (e % 32 / 4 = r % 8 / 2)

/-- The region of a packet's hearth, where it goes to a hearth agent; how the agent's addresses lie is a free value. -/
def NocPkt.region (k : NocPkt) : Option Nat :=
  if k.dst = 0xFF ∨ 16 ≤ k.dst % 32 then none
  else (Config.agentByte k.addr).map (fun x => regionOf (k.dst / 32) (agentHearth k.dst x.1))

/-! ## Errors on the way (R293) -/

/-- Positions that occur an odd number of times. -/
def oddOnes (l : List (Nat × Nat)) : List (Nat × Nat) := l.dedup.filter (fun x => decide (l.count x % 2 = 1))

/-- Header bits that errors flip. -/
def NocPkt.flipHeader (k : NocPkt) (l : List Nat) : NocPkt :=
  { k with hdr := l.foldl (fun h i => h ^^^ BitVec.ofNat 256 (2 ^ (i % 256))) k.hdr }

/-- Bit errors of each 64-bit group of the data flits. -/
def groupErrors (k : NocPkt) (f : NocFlaw) : List Nat :=
  (List.range (4 * (k.data.length / 32))).map (fun g => ((oddOnes f.flits).filter (fun x => decide (x.1 = g))).length)

/-- A router checks the data flits of a packet: single errors are corrected and counted, a double error poisons it. -/
def State.checkFlits (s : State) (a r : Nat) (k : NocPkt) (f : NocFlaw) : State × NocPkt :=
  let e := groupErrors k f
  let s1 := s.bump .nocErrCorrCount a 0 (e.filter (fun n => decide (n = 1))).length
  if e.any (fun n => decide (2 ≤ n)) then
    (s1.nocFault a r .nocErrStatusPoison .uncorrectable false, { k with hdr := sealed (k.hdr.toNat % 2 ^ 240 / 2 * 2 + 1) })
  else (s1, k)

/-! ## Routing tables (R276, R287, R295) -/

/-- The field that holds a set of a router's table. -/
def routeFld (set : Nat) : Fld := if set % 2 = 0 then .nocRouteSet0 else .nocRouteSet1

/-- Entry `d` of a set of router `r` of anvil `a`. -/
def State.routeEntry (s : State) (set a r d : Nat) : Nat :=
  if 25 ≤ d ∨ d = 16 + a then 7 else bits (s.reg (routeFld set) a (4 * r + d / 8)) (4 * (d % 8) + 3) (4 * (d % 8))

/-- One entry of a set written; entries 25 to 31, and 16 + a on anvil a, always read 0x7 (R295). -/
def State.setRoute (s : State) (set a r d code : Nat) : State :=
  let j := 4 * r + d / 8
  if 25 ≤ d ∨ d = 16 + a then s else
  s.setReg (routeFld set) a j (setBits (s.reg (routeFld set) a j) (4 * (d % 8) + 3) (4 * (d % 8)) (code % 16))

/-- The router beyond port N, S, E or W of a router (R276). -/
def hopTo (port r : Nat) : Nat :=
  if port = 0 then (r / 4 + 1) % 4 * 4 + r % 4
  else if port = 1 then (r / 4 + 3) % 4 * 4 + r % 4
  else if port = 2 then r / 4 * 4 + (r + 1) % 4
  else r / 4 * 4 + (r + 3) % 4

/-- The link port whose channel attaches to a router (R278). -/
def linkAt (r : Nat) : Option Nat := if r = 4 then some 0 else if r = 7 then some 1 else if r = 6 then some 2 else none

/-- Where a packet goes: an anvil and a router of it, or the management controller. -/
inductive NocDst where
  | router (a r : Nat)
  | mgmt
deriving DecidableEq, Repr

/-- How a packet fares on its route. -/
inductive NocPath where
  /-- delivered; the link channels it crossed, as (anvil, port). -/
  | arrives (links : List (Nat × Nat))
  /-- an entry 0x7 or a code that the router cannot follow, at anvil `a` and router `r`. -/
  | noRoute (a r : Nat)
  /-- a link channel that is down. -/
  | linkDown (a port r : Nat)
  /-- the table has no end for this packet. -/
  | loops
deriving DecidableEq, Repr

/-- The index at which a router looks a destination up (R287). -/
def NocDst.index (d : NocDst) (a : Nat) : Nat :=
  match d with
  | .mgmt => 24
  | .router t r => if t = a then r else 16 + t

/-- The route of a packet from a router, through tables `ent` and the channels that are up. -/
def nocWalk (ent : Nat → Nat → Nat → Nat) (up : Nat → Nat → Bool) (d : NocDst) :
    Nat → Nat → Nat → List (Nat × Nat) → NocPath
  | 0, _, _, _ => .loops
  | n + 1, a, r, links =>
    let e := ent a r (d.index a)
    if e < 4 then nocWalk ent up d n a (hopTo e r) links
    else if e = 4 then (if d = .router a r then .arrives links else .noRoute a r)
    else if e = 5 then
      match linkAt r with
      | none => .noRoute a r
      | some l =>
        if up a l then nocWalk ent up d n (linkPeer a l) (linkRouter (linkFacing l)) (links ++ [(a, l)]) else .linkDown a l r
    else if e = 6 ∧ r = 0 ∧ a < 2 ∧ d = .mgmt then (if up a 3 then .arrives (links ++ [(a, 3)]) else .linkDown a 3 r)
    else .noRoute a r

/-- Routers of the largest module: a walk that is longer is a loop. -/
def walkFuel : Nat := 129

/-- The NoC channel of a link port is up; port 3 is the management link, which is up while its control island is on, unless it has
failed (R279). -/
def State.linkUp (s : State) (a l : Nat) : Bool :=
  if l = 3 then !Tab.get false s.noc.mgmtDown [a] && !s.sys.off && !Tab.get false s.sys.islandOff [a] else bit (s.reg .nocLinkUp a 0) l

/-- The NoC channel of a link port set up or down. -/
def State.setLinkUp (s : State) (a l : Nat) (b : Bool) : State :=
  if l = 3 then (s.modNoc (fun n => { n with mgmtDown := Tab.put false n.mgmtDown [a] (!b) })).setFlag .nocLinkUpMgmt a 0 (b && s.anvilOn a) else s.setReg .nocLinkUp a 0 (setBit (s.reg .nocLinkUp a 0) l b)

/-- A route within an anvil turns at most once, from E–W to N–S, and ends (R287). -/
def turnsOnce (ent : Nat → Nat → Nat → Nat) (a d : Nat) : Nat → Bool → Nat → Bool
  | 0, _, _ => false
  | n + 1, vertical, r =>
    let e := ent a r d
    if e < 2 then turnsOnce ent a d n true (hopTo e r)
    else if e < 4 then !vertical && turnsOnce ent a d n vertical (hopTo e r)
    else true

/-- The steward accepts a table (R287). -/
def tableAccepted (ent : Nat → Nat → Nat → Nat) (anvils : List Nat) : Bool :=
  anvils.all (fun a => (List.range 16).all (fun r =>
    (List.range 16).all (fun d => turnsOnce ent a d 17 false r) &&
    anvils.all (fun t => decide (t = a) || decide (nocWalk ent (fun _ _ => true) (.router t 0) walkFuel a r [] ≠ .loops)) &&
    decide (nocWalk ent (fun _ _ => true) .mgmt walkFuel a r [] ≠ .loops)))

/-! ## Buffers of the routers (R283) -/

/-- The flits that an input buffer holds. -/
def State.bufUsed (s : State) (a r inp v : Nat) : Nat :=
  (Tab.get [] s.noc.bufs [a, r, inp, v]).foldl (fun n t => n + t.pkt.flits) 0

/-- The flits in a channel, of one VC or of both. -/
def State.chanUsed (s : State) (a l : Nat) (v : Option Nat) : Nat :=
  ((Tab.get [] s.noc.chans [a, l]).filter (fun k => v.all (fun x => decide (x = k.vc)))).foldl (fun n k => n + k.flits) 0

/-- Flits that an input port holds for each VC, and those of the replay buffer of a link channel (R278). -/
def bufFlits : Nat := 24
/-- See `bufFlits`. -/
def replayFlits : Nat := 64

/-- The opposite port: what leaves by N arrives at S, and so on. -/
def oppositePort (p : Nat) : Nat := if p % 2 = 0 then p + 1 else p - 1

/-- The output that a packet needs at a router. -/
inductive NocHop where
  | out (port : Nat)
  | noRoute
  | linkDown
deriving DecidableEq, Repr

/-- The destination of an endpoint number. -/
def dstOf (e : Nat) : NocDst := if e = 0xFF then .mgmt else .router (e / 32) (endpointRouter (e % 32))

/-- The output of a packet at a router, by the set that its EPOCH names (R287). -/
def State.nextHop (s : State) (a r : Nat) (k : NocPkt) : NocHop :=
  let e := s.routeEntry k.epoch a r ((dstOf k.dst).index a)
  if e < 4 then .out e
  else if e = 4 then (if dstOf k.dst = .router a r then .out 4 else .noRoute)
  else if e = 5 then
    match linkAt r with
    | none => .noRoute
    | some l => if !Grade.hasLink s.grade a l then .noRoute else if s.linkUp a l then .out 5 else .linkDown
  else if e = 6 ∧ r = 0 ∧ a < 2 ∧ dstOf k.dst = .mgmt then (if s.linkUp a 3 then .out 6 else .linkDown)
  else .noRoute

/-- A set that an anvil's routers hold as valid (R288). -/
def State.epochValid (s : State) (a e : Nat) : Bool :=
  decide (e = s.reg .nocEpochCurrent a 0) || s.flag .nocEpochShadowValid a 0 || s.flag .nocEpochRetiring a 0

/-- A packet asks for a completion. -/
def NocPkt.asks (k : NocPkt) : Bool := decide (k.type = 1 ∨ k.type = 2)

/-- A completion that the network itself makes for a request. -/
def State.nocAnswer (s : State) (k : NocPkt) (cpl : Nat) (place : Nat × Nat) : State :=
  s.modNoc (fun n => { n with replies := n.replies ++ [⟨k.dst, k.src, k.tag, cpl, [], some place⟩] })

/-- A packet reaches an input port of a router: it is checked, looked up, and joins the buffer, or leaves the network (R287,
R288, R292, R293). -/
def State.nocEnter (s : State) (a r inp : Nat) (k0 : NocPkt) (flaw : NocFlaw) : State :=
  let k1 := k0.flipHeader flaw.header
  if k1.headerBad then s.nocFault a r .nocErrStatusHeader .nocHeader true
  else
    let x := s.checkFlits a r k1 flaw
    let k := x.2
    if !x.1.epochValid a k.epoch then x.1.nocFault a r .nocErrStatusEpoch .nocEpoch true
    else
      match x.1.nextHop a r k with
      | .out _ => x.1.modNoc (fun n => { n with bufs := Tab.modify [] n.bufs [a, r, inp, k.vc] (· ++ [⟨k, s.now⟩]) })
      | .noRoute =>
        let s1 := x.1.nocFault a r .nocErrStatusUnroutable .nocUnroutable (!k.asks)
        if k.asks then s1.nocAnswer k 3 (a, r) else s1
      | .linkDown =>
        let s1 := x.1.bump .nocErrDiscardCount a 0 1
        if k.asks then s1.nocAnswer k 4 (a, r) else s1

/-- The next buffer has room for a packet that leaves an input port by an output (bubble flow control). -/
def State.roomFor (s : State) (a r inp out v : Nat) : Bool :=
  if out < 4 then
    decide ((if inp = oppositePort out then maxFlits else 2 * maxFlits) + s.bufUsed a (hopTo out r) (oppositePort out) v ≤ bufFlits)
  else if out = 4 then true
  else if out = 5 then
    (linkAt r).all (fun l => decide (maxFlits + s.chanUsed a l none ≤ replayFlits) &&
      decide (maxFlits + s.chanUsed a l (some v) + s.bufUsed (linkPeer a l) (linkRouter (linkFacing l)) 5 v ≤ bufFlits))
  else decide (maxFlits + s.chanUsed a 3 none ≤ replayFlits)

/-- Where the head of an input buffer stands for an output: less is served first. A packet that has waited STARVE_US comes before
any priority; then VC 1 before VC 0, the higher PRIO, and the inputs in turn. Nothing if it does not want the output, or
has no room beyond it. -/
def State.nocRank (s : State) (a r out inp v : Nat) : Option Nat :=
  match (Tab.get [] s.noc.bufs [a, r, inp, v]).head? with
  | none => none
  | some t =>
    if s.nextHop a r t.pkt = .out out ∧ s.roomFor a r inp out v then
      let turn := (inp + 7 - Tab.get 0 s.noc.turn [a, r, out]) % 7
      some (if t.since + 1000 * s.reg .nocCfgStarveUs a 0 ≤ s.now then turn + 7 * v
        else 14 + (1 - v) * 28 + (3 - t.pkt.prio) * 7 + turn)
    else none

/-- The input port and VC that an output serves next. -/
def State.nocPick (s : State) (a r out : Nat) : Option (Nat × Nat) :=
  let all := (List.range 7).flatMap (fun inp => [(inp, 0), (inp, 1)])
  let ranked := all.filterMap (fun c => (s.nocRank a r out c.1 c.2).map (fun n => (n, c)))
  (ranked.foldl (fun (m : Option (Nat × Nat × Nat)) x =>
    match m with
    | none => some x
    | some y => if x.1 < y.1 then some x else some y) none).map (·.2)

/-! ## Tags (R285, R286, R299) -/

/-- Whose tags a requester uses: an anvil's, or those of the management controller (255). -/
def tagOwner (src : Nat) : Nat := if src = 0xFF then 255 else src / 32

/-- A tag. -/
def State.nocTag (s : State) (a tag : Nat) : Option NocTag := Tab.get none s.noc.tags [a, tag]

/-- Tags of an anvil that requests hold, and those that are not free. -/
def State.tagsHeld (s : State) (a : Nat) : Nat × Nat :=
  s.noc.tags.foldl (fun x e =>
    match e.2 with
    | some t => if e.1.getD 0 0 = a then (if t.dead then x.1 else x.1 + 1, x.2 + 1) else x
    | none => x) (0, 0)

/-- A tag changes; INUSE and PEAK of an anvil follow, and reaching the bound is counted and traced (R285). -/
def State.setTag (s : State) (a tag : Nat) (t : Option NocTag) : State :=
  let s1 := s.modNoc (fun n => { n with tags := Tab.put none n.tags [a, tag] t })
  if 8 ≤ a then s1
  else
    let n := s1.tagsHeld a
    let s2 := (s1.setReg .nocTagInuse a 0 n.1).setReg .nocTagPeak a 0 (max n.1 (s1.reg .nocTagPeak a 0))
    if n.2 = 1024 ∧ (s.tagsHeld a).2 < 1024 then (s2.bump .nocTagFullCount a 0 1).nocEvent a 0 2 1024 else s2

/-- The tags among which a requester takes one: any of its anvil's, or those of one holder of the management controller:
the four host ports, the DMA engines, its CP, and the management port with the UART (R299). -/
def tagRange (src tag : Nat) : Nat × Nat :=
  if src ≠ 0xFF then (0, 1024)
  else if tag % 1024 < 512 then (tag % 1024 / 128 * 128, 128)
  else if tag % 1024 < 768 then (512, 256)
  else if tag % 1024 < 896 then (768, 128) else (896, 128)

/-- The tag that a request takes: the one it names if that is free, else the lowest free one of its holder. -/
def State.freeTag (s : State) (q : NocReq) : Option Nat :=
  let a := tagOwner q.src
  let free := fun t => decide (s.nocTag a t = none)
  if free (q.tag % 1024) then some (q.tag % 1024)
  else ((List.range (tagRange q.src q.tag).2).map (fun k => (tagRange q.src q.tag).1 + k)).find? free

/-- A request completes at its requester with a status and the data of a READ (R282). -/
def State.nocResult (s : State) (src tag : Nat) (st : Status) (data : Bytes) : State :=
  s.modNoc (fun n => { n with results := n.results ++ [⟨src, tag, st.num, data⟩] })

/-- The status of a completion code (R282); a reserved code has none, and stands as UNCORRECTABLE. -/
def cplStatus (c : Nat) : Status :=
  if c = 0 then .ok else if c = 2 then .nocFenced else if c = 3 then .nocUnroutable else if c = 4 then .nocLinkDown
  else if c = 5 then .notPresent else if c = 6 then .dramFrozen else .uncorrectable

/-! ## Sending (R279, R284, R288, R290) -/

/-- The epoch that a source stamps; the management controller's packets enter at the anvil of the steward. -/
def State.epochOf (s : State) (src : Nat) : Nat := s.reg .nocEpochCurrent (if src = 0xFF then s.steward else src / 32) 0

/-- The CP of an anvil with a management link, which reaches the management controller by the bridge alone (R279). -/
def bridged (e : Nat) : Bool := decide (e = 0x10 ∨ e = 0x30)

/-- The region for whose hearth a hearth agent sends. -/
def agentRegion (q : NocReq) : Option Nat :=
  if q.src ≠ 0xFF ∧ q.src % 32 < 16 then some (regionOf (q.src / 32) (agentHearth q.src (q.hearth % 8))) else none

/-- A region's fence is closing or closed (R290). -/
def State.regionClosed (s : State) (r : Nat) : Bool :=
  bit (s.reg .nocFenceFenced (r / 8) 0) (r % 8) || bit (s.reg .nocFenceDraining (r / 8) 0) (r % 8)

/-- A request waits at its source: an earlier request to the same destination is outstanding in another epoch, or the region or
the endpoint of the source is fenced or draining. -/
def State.sourceHolds (s : State) (q : NocReq) : Bool :=
  s.noc.tags.any (fun e => e.2.any (fun (t : NocTag) =>
    !t.dead && decide (t.src = q.src ∧ t.dst = q.dst ∧ t.epoch ≠ s.epochOf q.src))) ||
  (match agentRegion q with
    | some r => s.regionClosed r
    | none => decide (q.src ≠ 0xFF) && !(bridged q.src && decide (q.dst = 0xFF)) && Tab.get false s.noc.closed [q.src / 32])

/-- The source of a packet has power. -/
def State.sourceOn (s : State) (src dst : Nat) : Bool :=
  decide (src = 0xFF) || (decide (src / 32 < s.grade.anvils) && (s.anvilOn (src / 32) || (bridged src && decide (dst = 0xFF))))

/-- A packet into a channel of a management link, where the replay buffer has room; a link that is down loses it. -/
def State.intoBridge (s : State) (a port : Nat) (k : NocPkt) : Option State :=
  if !s.linkUp a 3 then some (if k.asks then s.nocAnswer k 4 (8, 0) else s)
  else if replayFlits < k.flits + s.chanUsed a port none then none
  else some (s.modNoc (fun n => { n with chans := Tab.modify [] n.chans [a, port] (· ++ [k]) }))

/-- A packet enters the network at its source, or where the network made it, if there is room for it. -/
def State.nocInject (s : State) (k : NocPkt) (place : Option (Nat × Nat)) : Option State :=
  let router := fun (a r : Nat) =>
    if s.bufUsed a r 4 k.vc + k.flits ≤ bufFlits then some (s.nocEnter a r 4 k ⟨[], []⟩) else none
  match place with
  | some (a, r) => if r = 16 then s.intoBridge a 3 k else router a r
  | none =>
    if k.src = 0xFF then s.intoBridge (if bridged k.dst then k.dst / 32 else s.steward) 4 k
    else if bridged k.src ∧ k.dst = 0xFF then s.intoBridge (k.src / 32) 3 k
    else router (k.src / 32) (endpointRouter (k.src % 32))

/-- The packet of a request or message, with a tag. -/
def State.packetOf (s : State) (q : NocReq) (tag : Nat) : NocPkt :=
  let data := flitsOf (if q.type = 2 then slice q.data 0 (min q.len 64) else if q.type = 4 then q.data.take 64 else [])
  ⟨sealed (headerBody q.type q.src q.dst tag 0 q.addr (if q.type = 2 then q.be else 0) (if q.type = 4 then 0 else q.len)
    (data.length / 32) (trafficPrio q.traffic) (s.epochOf q.src)), data⟩

/-- A source sends what it holds, if nothing keeps it: a request takes its tag. -/
def State.nocTry (s : State) (q : NocReq) : Option State :=
  if q.type = 1 ∨ q.type = 2 then
    if s.sourceHolds q then none
    else (s.freeTag q).bind (fun t =>
      let e := s.epochOf q.src
      (s.nocInject (s.packetOf q t) none).map (fun s1 =>
        s1.setTag (tagOwner q.src) t (some ⟨q.src, q.dst, e, agentRegion q, trafficPrio q.traffic, if q.type = 1 then q.len else 0, false⟩)))
  else s.nocInject (s.packetOf q 0) none

/-- Sources send what they hold, each in the order in which it was held for a destination (R284). -/
def State.nocPump (s : State) : State :=
  let x := s.noc.held.foldl (fun (x : State × List NocReq) q =>
    if x.2.any (fun y => decide (y.src = q.src ∧ y.dst = q.dst)) then (x.1, x.2 ++ [q])
    else
      match x.1.nocTry q with
      | some s1 => (s1, x.2)
      | none => (x.1, x.2 ++ [q])) (s, [])
  if s.noc.held = [] then s else x.1.modNoc (fun n => { n with held := x.2 })

/-- NOC_CPL_TIMEOUT: the request completes at its requester with NOC_TIMEOUT, and its tag stays unusable. A register access of a
host port is reported at the port (R299). -/
def State.cplTimeout (s : State) (a tag : Nat) : State :=
  match s.nocTag a tag with
  | none => s
  | some t =>
    if t.dead then s
    else
      let s1 := (s.setTag a tag (some { t with dead := true })).nocResult t.src tag .nocTimeout []
      if a < 8 then (s1.bump .nocErrTimeoutCount a 0 1).nocFault a (endpointRouter (t.src % 32)) .nocErrStatusTimeout .nocTimeout false
      else if tag < 512 then s1.setReg .hostErrStatusTimeout (tag / 128) 0 1 else s1

/-- NOC_CPL_TIMEOUT (R286). -/
def execNocCplTimeout (a tag : Nat) (s : State) : Host.Outcome State Fault Refusal := .next (s.cplTimeout a tag)

/-- TAG_RELEASE (R286): a timed-out tag is free, and what waited for one is sent. -/
def execTagRelease (a tag : Nat) (s : State) : Host.Outcome State Fault Refusal :=
  .next (match s.nocTag a tag with
    | none => s
    | some t => if t.dead then (s.setTag a tag none).nocPump else s)

end Sys2Proof.Machine
end

