-- ==== Sys2Proof/Machine/Noc.lean ====
section
/-! DEFINITION. The packet network's changes of routes (R287 to R289), fences (R290), link channels (R278, R292), and the power
domains of regions and anvils (R28, R131, R291, R417). -/

namespace Sys2Proof.Machine

/-! ## Change of routes (R289) -/

/-- The epoch of the network: NOC.EPOCH.CURRENT of the powered anvils, of which those that have just come up follow at the next
change (R288, R291). -/
def State.epoch (s : State) : Nat :=
  match (s.anvilsOn.find? (fun a => !Tab.get false s.noc.closed [a])).orElse (fun _ => s.anvilsOn.head?) with
  | some a => s.reg .nocEpochCurrent a 0
  | none => 0

/-- A field of the NOC block of every powered anvil set. -/
def State.setNocAll (s : State) (f : Fld) (v : Nat) : State := s.anvilsOn.foldl (fun s a => s.setReg f a 0 v) s

/-- A new table written into the shadow set of every router of every powered anvil: the current set of each with the listed
entries ([anvil, router, destination] to a port code) changed. -/
def State.writeShadow (s : State) (table : List (List Nat × Nat)) : State :=
  let s1 := s.anvilsOn.foldl (fun s a => (List.range 64).foldl (fun s j =>
    s.setReg (routeFld (s.epoch + 1)) a j (s.reg (routeFld (s.reg .nocEpochCurrent a 0)) a j)) s) s
  table.foldl (fun s e =>
    let a := e.1.getD 0 0
    if s.anvilOn a ∧ e.1.getD 1 0 < 16 ∧ e.1.getD 2 0 < 25 then
      s.setRoute (s.epoch + 1) a (e.1.getD 1 0) (e.1.getD 2 0) e.2
    else s) s1

/-- The steward starts a change in STABLE, with a table that it accepts. -/
def State.routeBegin (s : State) (table : List (List Nat × Nat)) : State :=
  let s1 := s.writeShadow table
  if s.anvilsOn ≠ [] ∧ tableAccepted (s1.routeEntry (s.epoch + 1)) s1.anvilsOn then
    (s1.setNocAll .nocEpochShadowValid 0).modNoc (fun n => { n with phase := 1 })
  else s

/-- ROUTE_CHANGE_START: outside STABLE the change waits, and with it the command that caused it. -/
def State.routeStart (s : State) (ref : Option CmdRef) (table : List (List Nat × Nat)) : State :=
  if s.noc.phase = 0 ∧ s.noc.queued = [] then s.routeBegin table
  else s.modNoc (fun n => { n with
    queued := n.queued ++ [(ref, table)]
    waiting := n.waiting ++ (ref.toList.filter (fun r => (s.busyOf r).isSome && !n.waiting.contains r)) })

/-- ROUTE_CHANGE_START (R289). -/
def execRouteChangeStart (ref : Option CmdRef) (table : List (List Nat × Nat)) (s : State) : Host.Outcome State Fault Refusal :=
  .next (s.routeStart ref table)

/-- SHADOW_VALID: every router reports its shadow set valid, and the fence handshake starts. -/
def State.shadowValid (s : State) : State :=
  if s.noc.phase = 1 then (s.setNocAll .nocEpochShadowValid 1).modNoc (fun n => { n with phase := 2 }) else s

/-- SHADOW_VALID (R289). -/
def execShadowValid (s : State) : Host.Outcome State Fault Refusal := .next s.shadowValid

/-- EPOCH_SWITCH: every anvil has confirmed, and every source stamps the new epoch from now on. -/
def State.epochSwitch (s : State) : State :=
  if s.noc.phase = 2 then
    let e := (s.epoch + 1) % 2
    (s.anvilsOn.foldl (fun s a =>
      ((s.setReg .nocEpochCurrent a 0 e).setReg .nocEpochRetiring a 0 1).nocEvent a 0 3 e) s).modNoc (fun n =>
        { n with phase := 3, late := false })
  else s

/-- EPOCH_SWITCH (R289). -/
def execEpochSwitch (s : State) : Host.Outcome State Fault Refusal := .next s.epochSwitch

/-- A packet of an epoch is in a buffer or a channel. -/
def State.epochUsed (s : State) (e : Nat) : Bool :=
  s.noc.bufs.any (fun x => x.2.any (fun t => decide (t.pkt.epoch = e))) || s.noc.chans.any (fun x => x.2.any (fun k => decide (k.epoch = e)))

/-- The next change that waits for STABLE starts. -/
def State.routeNext (s : State) : State :=
  match s.noc.queued with
  | [] => s
  | (ref, table) :: rest =>
    (s.modNoc (fun n => { n with queued := rest, waiting := n.waiting.filter (fun r => decide (some r ≠ ref)) })).routeBegin table

/-- An anvil that has come up is in use once every other powered anvil has a route to it (R291). -/
def State.anvilJoins (s : State) (a : Nat) : State :=
  if Tab.get false s.noc.closed [a] ∧ s.modMode ≠ Mod.sleeping ∧ (s.anvilsOn.filter (· ≠ a)).all (fun b =>
      (List.range 16).all (fun r => decide (s.routeEntry s.epoch b r (16 + a) ≠ 7))) then
    s.modNoc (fun n => { n with closed := Tab.put false n.closed [a] false })
  else s

/-- EPOCH_RETIRED: no flit or credit of the old epoch is left. The old set becomes the shadow, anvils that the new routes reach are
in use, and what waited for STABLE goes on. -/
def State.epochRetired (s : State) : State :=
  if s.noc.phase = 3 ∧ !s.epochUsed ((s.epoch + 1) % 2) then
    let s1 := ((s.setNocAll .nocEpochRetiring 0).setNocAll .nocEpochShadowValid 0).modNoc (fun n => { n with phase := 0, late := false })
    ((s1.anvilsOn.foldl State.anvilJoins s1).routeNext).nocPump
  else s

/-- EPOCH_RETIRED (R289). -/
def execEpochRetired (s : State) : Host.Outcome State Fault Refusal := .next s.epochRetired

/-- The register word NOC.ERR.STATUS of an anvil. -/
def nocErrAddr (a : Nat) : Nat := Fld.addr .nocErrStatusHeader a 0

/-- EPOCH_FENCE_TIMEOUT: RETIRING has lasted FENCE_TIMEOUT_US. -/
def State.epochTimeout (s : State) : State :=
  if s.noc.phase = 3 ∧ !s.noc.late then
    ((s.setNocAll .nocErrStatusEpochTimeout 1).mError .epochFenceTimeout (nocErrAddr s.steward)).modNoc (fun n =>
      { n with late := true })
  else s

/-- EPOCH_FENCE_TIMEOUT (R289). -/
def execEpochFenceTimeout (s : State) : Host.Outcome State Fault Refusal := .next s.epochTimeout

/-- NOC_EPOCH_BUSY: a command has waited 10 ms for STABLE. -/
def State.epochBusy (s : State) (r : CmdRef) : State :=
  if s.noc.waiting.contains r then
    (s.modNoc (fun n => { n with waiting := n.waiting.filter (fun x => decide (x ≠ r)) })).done r .nocEpochBusy
  else s

/-- NOC_EPOCH_BUSY (R289). -/
def execNocEpochBusy (r : CmdRef) (s : State) : Host.Outcome State Fault Refusal := .next (s.epochBusy r)

/-! ## Region domains (R28, R131) -/

/-- A hearth of a region, by its coordinates at the head of a key. -/
def keyInRegion (r : Nat) (k : Key) : Bool := decide (regionOf (k.getD 0 0) (k.getD 1 0) = r) && decide (k.getD 1 0 < 128)

/-- The stores of a region's hearths cleared. -/
def Fab.clearRegion (f : Fab) (r : Nat) : Fab :=
  let out := fun (k : Key) => !keyInRegion r k
  { f with
    instr := Tab.keep out f.instr
    route := Tab.keep out f.route
    egress := Tab.keep out f.egress
    inject := Tab.keep out f.inject
    dict := Tab.keep out f.dict
    flaws := Tab.keep (fun k => out (k.drop 1)) f.flaws
    mem := Tab.keep out f.mem
    shadow := Tab.keep out f.shadow
    pend := Tab.keep out f.pend
    bus := Tab.keep out f.bus
    flight := f.flight.filter (fun x => decide (regionOf x.anvil x.hearth ≠ r))
    paddr := Tab.keep out f.paddr
    pdata := Tab.keep out f.pdata
    pword := Tab.keep out f.pword
    wlost := Tab.keep out f.wlost
    spReads := f.spReads.filter (fun x => decide (regionOf x.anvil x.hearth ≠ r))
    banks := Tab.keep out f.banks
    emu := f.emu.filter (fun x => decide (regionOf x.anvil x.hearth ≠ r))
    due := f.due.filter (fun x => decide (regionOf x.anvil x.hearth ≠ r))
    issued := Tab.keep out f.issued }

/-- State of a region's fence: FENCED, DRAINING, or OPEN with neither (R290). -/
def State.fenced (s : State) (r : Nat) : Bool := bit (s.reg .nocFenceFenced (r / 8) 0) (r % 8)
/-- See `State.fenced`. -/
def State.draining (s : State) (r : Nat) : Bool := bit (s.reg .nocFenceDraining (r / 8) 0) (r % 8)

/-- The fence of a region set. -/
def State.setFence (s : State) (r : Nat) (draining fenced : Bool) : State :=
  (s.setReg .nocFenceDraining (r / 8) 0 (setBit (s.reg .nocFenceDraining (r / 8) 0) (r % 8) draining)).setReg
    .nocFenceFenced (r / 8) 0 (setBit (s.reg .nocFenceFenced (r / 8) 0) (r % 8) fenced)

/-- A region domain switches on (R28, R131, R417): its HEARTH blocks start, its scratchpads are cleared, its bit in
MOD.RGN_ON sets and its fence opens. -/
def State.regionUp (s : State) (r : Nat) : State :=
  let s1 := (hearthsOf r).foldl (fun s h => s.startBlock .hearth (hInst h.1 h.2)) { s with fab := s.fab.clearRegion r }
  ((((s1.setRegionOn r true).billetsLow).setFence r false false).modNoc (fun n => { n with
    drainLate := Tab.put false n.drainLate [r] false, offAfter := Tab.put false n.offAfter [r] false })).nocPump

/-- A region domain switches off: what its hearths held is lost. -/
def State.regionDown (s : State) (r : Nat) : State :=
  (({ s with fab := s.fab.clearRegion r }.setRegionOn r false).billetsLow).modNoc (fun n => { n with
    offAfter := Tab.put false n.offAfter [r] false })

/-! ## Fences (R290) -/

/-- A region begins to drain; with `off` it switches off once it is FENCED. -/
def State.fenceRegion (s : State) (r : Nat) (off : Bool) : State :=
  let s1 := if off then s.modNoc (fun n => { n with offAfter := Tab.put false n.offAfter [r] true }) else s
  if s.fenced r then (if off ∧ s.regionOn r then s1.regionDown r else s)
  else if s.draining r then s1
  else (s1.setFence r true false).modNoc (fun n => { n with drainLate := Tab.put false n.drainLate [r] false })

/-- FENCE_REQUEST (R290): the steward fences a region whose domain is on. -/
def execFenceRequest (region : Nat) (s : State) : Host.Outcome State Fault Refusal :=
  .next (if region < s.grade.regions ∧ s.regionOn region then s.fenceRegion region false else s)

/-- Commands that wait for a region go on without it; one that waits for nothing more completes. -/
def State.fenceDone (s : State) (r : Nat) (st : Status) : State :=
  let ends := s.svc.waits.filter (fun x => bit x.2 r && (decide (st ≠ .ok) || decide (setBit x.2 r false = 0)))
  let left : List (CmdRef × Nat) := (s.svc.waits.filter (fun x => !(ends.contains x))).map (fun x => (x.1, setBit x.2 r false))
  ({ s with svc := { s.svc with waits := left } }).doneAll (ends.map (fun (x : CmdRef × Nat) => x.1)) st

/-- A packet in the network of which a test holds. -/
def State.anyPacket (s : State) (f : NocPkt → Bool) : Bool :=
  s.noc.bufs.any (fun x => x.2.any (fun t => f t.pkt)) || s.noc.chans.any (fun x => x.2.any f)

/-- REGION_FENCED: every request that the region's agents started has completed, and no packet for the region waits in a router. -/
def State.regionFenced (s : State) (r : Nat) : State :=
  if s.draining r ∧ !(s.noc.tags.any (fun e => e.2.any (fun (t : NocTag) => !t.dead && decide (t.region = some r)))) ∧
      !s.anyPacket (fun k => decide (k.region = some r)) then
    let s1 := (s.setFence r false true).nocEvent (r / 8) (4 * (r % 8 / 2)) 4 r
    (if Tab.get false s.noc.offAfter [r] then s1.regionDown r else s1).fenceDone r .ok
  else s

/-- REGION_FENCED (R290). -/
def execRegionFenced (region : Nat) (s : State) : Host.Outcome State Fault Refusal := .next (s.regionFenced region)

/-- NOC_DRAIN_TIMEOUT: a drain has lasted FENCE_TIMEOUT_US; raised once, and the commands that wait complete. -/
def State.drainTimeout (s : State) (r : Nat) : State :=
  if s.draining r ∧ !Tab.get false s.noc.drainLate [r] then
    (((s.setReg .nocErrStatusDrainTimeout (r / 8) 0 1).mError .nocDrainTimeout (nocErrAddr (r / 8))).modNoc (fun n =>
      { n with drainLate := Tab.put false n.drainLate [r] true })).fenceDone r .nocDrainTimeout
  else s

/-- NOC_DRAIN_TIMEOUT (R290). -/
def execNocDrainTimeout (region : Nat) (s : State) : Host.Outcome State Fault Refusal := .next (s.drainTimeout region)

/-! ## Link channels (R278, R292) -/

/-- Packets that a link channel which has gone down held are discarded and counted at an anvil; requests among them complete with
CPL 0x4. -/
def State.loseChannel (s : State) (a r : Nat) (l : List NocPkt) : State :=
  l.foldl (fun s k =>
    let s1 := s.bump .nocErrDiscardCount a 0 1
    if k.asks then s1.nocAnswer k 4 (a, r) else s1) s

/-- What a router held for a link channel, or a channel held, is lost. -/
def State.channelEnd (s : State) (a r : Nat) (ports : List Nat) : State :=
  let dead := fun (x : NocTrav) => decide (s.nextHop a r x.pkt = .linkDown)
  let here := fun (k : Key) => decide (k.getD 0 0 = a ∧ k.getD 1 0 = r)
  let inBufs := (s.noc.bufs.filter (fun e => here e.1)).flatMap (fun e => (e.2.filter dead).map (·.pkt))
  let inChan := ports.flatMap (fun l => Tab.get [] s.noc.chans [a, l])
  (s.modNoc (fun n => { n with
    bufs := Tab.mapAll [] (fun k l => if here k then l.filter (fun x => !dead x) else l) n.bufs
    chans := ports.foldl (fun t l => Tab.put [] t [a, l] []) n.chans
    replays := ports.foldl (fun t l => Tab.put 0 t [a, l] 0) n.replays })).loseChannel a r (inBufs ++ inChan)

/-- A link channel goes down at both ends; what it held is lost. A management link ends at the management controller. -/
def State.channelDown (s : State) (a l : Nat) : State :=
  let s1 := (s.setLinkUp a l false).nocFault a (if l = 3 then 0 else linkRouter l) .nocErrStatusLinkDown .nocLinkDown false
  if l = 3 then s1.channelEnd a 0 [3, 4]
  else
    let b := linkPeer a l
    let s2 := (s1.setLinkUp b (linkFacing l) false).nocFault b (linkRouter (linkFacing l)) .nocErrStatusLinkDown .nocLinkDown false
    (s2.channelEnd a (linkRouter l) [l]).channelEnd b (linkRouter (linkFacing l)) [linkFacing l]

/-- LINK_FLIT_REPLAY: a flit arrives with an error and is replayed; after 4 failed replays the channel goes down. -/
def State.flitReplay (s : State) (a l : Nat) : State :=
  if !s.linkUp a l then s
  else
    let n := Tab.get 0 s.noc.replays [a, l]
    if 4 ≤ n then s.channelDown a l else s.modNoc (fun x => { x with replays := Tab.put 0 x.replays [a, l] (n + 1) })

/-- LINK_FLIT_REPLAY (R278). -/
def execLinkFlitReplay (a port : Nat) (s : State) : Host.Outcome State Fault Refusal := .next (s.flitReplay a port)

/-! ## Anvil domains (R28, R291, R417) -/

/-- What the DRAM of an anvil holds is lost, and its controller starts; marks and retirements are kept (R408). -/
def Dram.restart (d : Dram) (a : Nat) : Dram :=
  let out := fun (k : Key) => !decide (k.getD 0 0 = a)
  { d with
    mem := Tab.keep out d.mem
    poison := Tab.keep out d.poison
    corr := Tab.keep out d.corr
    reqs := Tab.keep out d.reqs
    back := Tab.keep out d.back
    inOrder := Tab.keep out d.inOrder
    refresh := Tab.keep out d.refresh
    pdown := Tab.keep out d.pdown
    frozen := Tab.keep out d.frozen
    rankOut := Tab.keep out d.rankOut
    migrate := Tab.keep out d.migrate
    patrol := Tab.keep out d.patrol
    waiting := Tab.keep out d.waiting
    diag := Tab.keep out d.diag
    jobs := d.jobs.filter (fun j => decide (j.anvil ≠ a))
    openRow := Tab.keep out d.openRow
    noSlot := Tab.keep out d.noSlot
    stalled := Tab.keep out d.stalled
    cowZero := Tab.keep out d.cowZero }

/-- The NoC channels of an anvil's links, at both ends, as the domains of the two anvils allow. -/
def State.linksFollow (s : State) (a : Nat) : State :=
  let s1 := (List.range 3).foldl (fun s l =>
    if Grade.hasLink s.grade a l then
      let up := s.anvilOn a && s.anvilOn (linkPeer a l)
      (s.setLinkUp a l up).setLinkUp (linkPeer a l) (linkFacing l) up
    else s) s
  if a < 2 then s1.setFlag .nocLinkUpMgmt a 0 (s1.anvilOn a && s1.linkUp a 3) else s1

/-- The registers of an anvil's domain at their start-up values. -/
def State.anvilBlocks (s : State) (a : Nat) : State :=
  (List.range 3).foldl (fun s l => s.startBlock .link (3 * a + l)) ((s.startBlock .noc a).startBlock .ddr a)

/-- The default table's entries toward an anvil, which an anvil switched on brings back into the others' tables (R287, R291). -/
def State.routesBack (s : State) (a : Nat) : List (List Nat × Nat) :=
  (s.anvilsOn.filter (· ≠ a)).flatMap (fun b => (List.range 16).map (fun r => ([b, r, 16 + a], defaultRoute s.grade b r (16 + a))))

/-- An anvil domain switches on (R407, R417). Where the other powered anvils have no route to it, its endpoints come into use after
the route change that gives them one (R291). -/
def State.anvilUp (s : State) (a : Nat) : State :=
  if s.anvilOn a then s
  else
    let s1 := (s.anvilBlocks a).lanesReset a
    let s2 := { s1 with
      sys := { s1.sys with anvilOn := Tab.put false s1.sys.anvilOn [a] true }
      dram := s1.dram.restart a }
    let s3 := ((s2.linksFollow a).lanesUp a).traceUp a
    let s4 := (s3.modNoc (fun n => { n with closed := Tab.put false n.closed [a] true })).anvilJoins a
    if Tab.get false s4.noc.closed [a] then s4.routeStart none (s4.routesBack a) else s4.nocPump

/-- An anvil domain switches off: its regions, its network, its DRAM and its lanes with it. -/
def State.anvilDown (s : State) (a : Nat) : State :=
  if !s.anvilOn a then s
  else
    let s1 := (List.range 8).foldl (fun s g => if s.regionOn (8 * a + g) then s.regionDown (8 * a + g) else s) s
    let s2 := { s1 with
      sys := { s1.sys with anvilOn := Tab.put false s1.sys.anvilOn [a] false }
      dram := s1.dram.restart a
      trace := { s1.trace with srcs := Tab.keep (fun k =>
        !decide (k.getD 0 0 = 0x10 + a ∨ k.getD 0 0 = 0x20 + 2 * a ∨ k.getD 0 0 = 0x21 + 2 * a)) s1.trace.srcs }
      noc := { s1.noc with
        tags := Tab.keep (fun k => decide (k.getD 0 0 ≠ a)) s1.noc.tags
        bufs := Tab.keep (fun k => decide (k.getD 0 0 ≠ a)) s1.noc.bufs
        chans := Tab.keep (fun k => decide (k.getD 0 0 ≠ a ∨ 3 ≤ k.getD 1 0)) s1.noc.chans
        turn := Tab.keep (fun k => decide (k.getD 0 0 ≠ a)) s1.noc.turn
        replays := Tab.keep (fun k => decide (k.getD 0 0 ≠ a)) s1.noc.replays
        closed := Tab.put false s1.noc.closed [a] false
        held := s1.noc.held.filter (fun q => decide (q.src = 0xFF ∨ q.src / 32 ≠ a))
        replies := s1.noc.replies.filter (fun x => decide (x.src = 0xFF ∨ x.src / 32 ≠ a)) } }
    ((s2.anvilBlocks a).lanesReset a).linksFollow a

/-- No route of another powered anvil leads to or through the anvil (R291). -/
def State.routedAround (s : State) (a : Nat) : Bool :=
  let others := s.anvilsOn.filter (· ≠ a)
  let crosses := fun (p : NocPath) =>
    match p with
    | .arrives links => links.any (fun e => decide (linkPeer e.1 e.2 = a ∧ e.2 < 3))
    | _ => false
  others.all (fun b => (List.range 16).all (fun r =>
    decide (s.routeEntry s.epoch b r (16 + a) = 7) &&
    others.all (fun t => !crosses (nocWalk (s.routeEntry s.epoch) s.linkUp (.router t 0) walkFuel b r [])) &&
    !crosses (nocWalk (s.routeEntry s.epoch) s.linkUp .mgmt walkFuel b r [])))

/-- The anvil's CP, DRAM controller and monitor have drained: their requests have completed, and nothing is under way to them or
from them (R291, step 4). -/
def State.endpointsDrained (s : State) (a : Nat) : Bool :=
  !s.noc.tags.any (fun e => e.2.any (fun (t : NocTag) => !t.dead && decide (t.src / 32 = a ∧ t.src ≠ 0xFF))) &&
    !s.anyPacket (fun k => decide (k.dst / 32 = a ∧ k.dst ≠ 0xFF) || decide (k.src / 32 = a ∧ k.src ≠ 0xFF)) &&
    !s.noc.replies.any (fun x => decide (x.src / 32 = a ∧ x.src ≠ 0xFF)) &&
    !s.dram.jobs.any (fun j => decide (j.anvil = a)) && (s.reqs a).all (fun r => decide (r.src = .scrub))

/-- ANVIL_DOMAIN_OFF: in SLEEPING, once the anvil's regions are fenced and off, routes lead around it, and the network is
STABLE, its other endpoints drain; once they have, the domain switches off (R291, R408). -/
def State.anvilDomainOff (s : State) (a : Nat) : State :=
  if s.modMode = Mod.sleeping ∧ s.anvilOn a ∧ s.noc.phase = 0 ∧
      (List.range 8).all (fun g => s.fenced (8 * a + g) && !s.regionOn (8 * a + g)) ∧ s.routedAround a then
    if s.endpointsDrained a then s.anvilDown a
    else s.modNoc (fun n => { n with closed := Tab.put false n.closed [a] true })
  else s

/-- ANVIL_DOMAIN_OFF (R291). -/
def execAnvilDomainOff (a : Nat) (s : State) : Host.Outcome State Fault Refusal := .next (s.anvilDomainOff a)

end Sys2Proof.Machine
end

