-- ==== Sys2Proof/Machine/Modes.lean ====
section
/-! DEFINITION. Run control (R145 to R153, R157, R158, R166, R206, R397, R429): the PART_ commands. -/

namespace Sys2Proof.Machine

/-! ## Conditions -/

/-- A load of the partition is under way (R206). -/
def State.loadBusyBit (s : State) (p : Nat) : Bool × Status := (decide (s.loadStage p ≠ 0), .loadBusy)

/-- A region of the partition is off after a rail fault (R397). -/
def State.railHeld (s : State) (p : Nat) : Bool × Status := ((s.regions p).any (fun r => !s.regionOn r), .pwrRailFault)

/-- A latched fault cause needs ACK_FAULT = 1 (R157, R158). -/
def State.needsAck (s : State) (p ack : Nat) : Bool × Status := (s.faultHeld p && decide (ack ≠ 1), .quenchFaultHeld)

/-- A PART_STOP from INSPECT finishes its cycle (R149). -/
def State.finishes (s : State) (p : Nat) : Bool := (s.part p).finishing

/-- The latched causes of a partition are released by a command; the acknowledgement of a fault is a recovery (R437). -/
def State.releaseBy (s : State) (p : Nat) : State :=
  (if s.faultHeld p then s.outageRecover p false else s).releaseHeld p

/-- What has not landed yet of causes that are no longer active is dropped: a partition starts from a held boundary. -/
def State.dropStale (s : State) (p : Nat) : State :=
  s.modPart p (fun x => { x with entering := x.entering.filter (fun e => bit (s.activeMask p) e.cause) })

/-- Bundles of the partition's streams that are BANKED wake (R351). -/
def State.autoWake (s : State) (p : Nat) : State :=
  ((List.range 8).filter (fun b => s.flag .wlBundleCfgAutoWake b 0 &&
    s.bound.any (fun k => decide (s.reg .wlStreamBindPart k 0 = p) && bit (s.reg .wlStreamBindBundles k 0) b))).foldl
    State.bankExit s

/-- The last MARK count received on the partition's stream is the baseline of a run (R345). -/
def State.markBaseline (s : State) (p : Nat) : State :=
  match s.partStream p with
  | some k => s.setReg .wlStreamMarkCount k 0 (s.stream k).received
  | none => s

/-- STIM or RESP names the stream, and no stream serves it (R329). -/
def State.streamMissing (s : State) (p : Nat) : Bool :=
  (decide (s.reg .partCmpSrcStim p 0 = 2) || decide (s.reg .partCmpSrcResp p 0 = 2)) &&
    !((s.partStream p).any (fun k => s.flag .wlStreamBindInEn k 0))

/-- The sources do not allow PART_RUN (R167). -/
def State.sourceBad (s : State) (p mode : Nat) : Bool :=
  (decide (mode = 1) && decide (s.reg .partCmpSrcStim p 0 ≠ 2)) ||
    ((s.flag .partCmpEnCompare p 0 || decide (s.pendingOr .partCmpEnCompare p 0 = 1)) && decide (s.reg .partCmpSrcResp p 0 = 0)) ||
    s.streamMissing p

/-! ## Domains of a partition (R28, R397) -/

/-- A region domain cannot be switched on: its own rail, or one of its anvil, does not come up. -/
def State.domainFailed (s : State) (r : Nat) : Bool :=
  Tab.get false s.pwr.failed [0, r] || Tab.get false s.pwr.failed [1, r / 8]

/-- A region switches on, its control island and its anvil before it (R28). -/
def State.domainUp (s : State) (r : Nat) : State :=
  if s.regionOn r ∨ s.domainFailed r then s
  else
    let s1 := { s with sys := { s.sys with islandOff := Tab.put false s.sys.islandOff [r / 8] false } }
    (s1.anvilUp (r / 8)).regionUp r

/-! ## PART_CREATE (R145) -/

/-- A region that PART_CREATE may not take: assigned, in MAINTENANCE or retired, or still draining (R145, R290, R425). -/
def State.regionBusy (s : State) (r : Nat) : Bool :=
  (s.regionPart r).isSome || decide (s.regionState r ≠ 0) || s.draining r

/-- The partition's record and registers as PART_CREATE starts them. -/
def State.createPart (s : State) (p regions port : Nat) : State :=
  let s0 := ((s.startBlock .part p).startBlock .cmp p).startBlock .obs p
  let s1 := ((((s0.setReg .partRunExists p 0 1).setReg .partOwnHost p 0 port).setReg64 .partRgnLo .partRgnHi p 0 regions).modPart p
    (fun _ => Part.init)).setOutage p { Outage.init with born := s.now }
  let s2 := [Fld.svcAvailOutMs, .svcAvailOutEvents, .svcAvailExtMs, .svcAvailExposedS].foldl (fun s f => s.setReg f 0 p 0) s1
  let s3 := s2.setReg .partQuenchQLat p 0 (qLatOf s.stepping.lBase (s2.anvilsOf p))
  (s3.setReg .partCapNeedUs p 0 (s3.capNeed p false)).setReg .partCapNeedSp p 0 (s3.capNeed p true)

/-- PART_CREATE. -/
def cmdPartCreate (r : CmdRef) (p regions port : Nat) (s : State) : CmdRes :=
  let rs := setBitsOf 64 regions
  refuseIf [s.ownerOnly r.org, (decide (32 ≤ p ∨ 4 ≤ port), .notPresent),
    (rs.any (fun x => decide (s.grade.regions ≤ x)), .notPresent), (!s.portPresent port, .notPresent),
    (decide (rs = []), .cmdFormat), (s.pExists p, .partExists), (rs.any s.regionBusy, .regionBusy),
    (s.modQuiet, .modeInvalid), (rs.any s.domainFailed, .pwrRailFault)] s (fun s =>
    let s1 := rs.foldl State.domainUp s
    let s2 := s1.createPart p regions port
    let s3 := (s2.queuesAssigned p).foldl State.queueDown s2
    (s3.setHolds p []).oks)

/-- PART_CREATE (R145). -/
def execPartCreate (r : CmdRef) (p regions port : Nat) (s : State) : Host.Outcome State Fault Refusal :=
  .next (runCmd r 0x0500 (formParams 0 [(.int 1, p), (.int 8, regions), (.int 1, port)]) p (cmdPartCreate r p regions port) s)

/-! ## PART_DESTROY (R148, R206, R290, R373, R429) -/

/-- DMA accesses that wait for idle steps of a partition that no longer executes are done. -/
def State.dmaFlush (s : State) (p : Nat) : State :=
  (s.fab.dma.filter (fun d => s.inPart p d.anvil d.hearth)).foldl (fun s d =>
    let x := s.dmaRest d
    x.1.dmaDone x.2) s

/-- The partition is destroyed. The commands complete once its regions are fenced. -/
def State.destroyNow (s : State) (p : Nat) (rs : List CmdRef) : State :=
  let regions := s.regions p
  let s1 := (((s.loadEnd p .loadAborted noSect 0).dmaFlush p).dropQuench p).discardImage p
  let s2 := (s1.bound.filter (fun k => decide (s1.reg .wlStreamBindPart k 0 = p))).foldl State.unbind s1
  let s3 := ((s2.queuesAssigned p).foldl State.queueDown s2).pinsDestroy p
  let s4 := ((s3.setReg .partRunExists p 0 0).modPart p (fun _ => Part.init)).setOutage p Outage.init
  let s5 := regions.foldl (fun s r => if s.regionOn r then s.fenceRegion r true else s) s4
  let mask := regions.foldl (fun m r => if s5.draining r then setBit m r true else m) 0
  if mask = 0 then s5.doneAll rs .ok
  else { s5 with svc := { s5.svc with waits := s5.svc.waits ++ rs.map (fun (r : CmdRef) => (r, mask)) } }

/-- PART_DESTROY. -/
def cmdPartDestroy (r : CmdRef) (p : Nat) (s : State) : CmdRes :=
  refuseIf ([s.ownerOnly r.org] ++ s.partChecks r.org p ++ [(s.running p, .modeInvalid)]) s (fun s =>
    if s.finishes p then (s.modPart p (fun x => { x with destroys := x.destroys ++ [r] })).waits
    else if s.insertingIn p then s.waits
    else (s.destroyNow p [r]).waits)

/-- PART_DESTROY (R148). -/
def execPartDestroy (r : CmdRef) (p : Nat) (s : State) : Host.Outcome State Fault Refusal :=
  .next (runCmd r 0x0501 (formParams 0 [(.int 1, p)]) p (cmdPartDestroy r p) s)

/-! ## PART_BIND -/

/-- PART_BIND: a new tenant port; the partition's queues are disabled (R311). -/
def cmdPartBind (r : CmdRef) (p port : Nat) (s : State) : CmdRes :=
  refuseIf ([s.ownerOnly r.org, (decide (32 ≤ p ∨ 4 ≤ port), .notPresent), (!s.portPresent port, .notPresent)] ++
    s.partChecks r.org p ++ [s.loadBusyBit p, (!s.partQuiet p, .modeInvalid)]) s (fun s =>
    let s1 := s.setReg .partOwnHost p 0 port
    ((s1.queuesAssigned p).foldl State.queueDown s1).oks)

/-- PART_BIND (R148). -/
def execPartBind (r : CmdRef) (p port : Nat) (s : State) : Host.Outcome State Fault Refusal :=
  .next (runCmd r 0x0502 (formParams 0 [(.int 1, p), (.int 1, port)]) p (cmdPartBind r p port) s)

/-! ## PART_RUN (R148, R149, R157, R166, R167) -/

/-- The partition restarts from a held boundary (R153, R166). -/
def State.startHeld (s : State) (p : Nat) : State :=
  ((s.dropStale p).modPart p (fun x => { x with heldStart := true })).startCheck p (s.cycle p) (s.cycle p, 0)

/-- The partition enters FREE-RUN or LOCKSTEP from READY. -/
def State.runNow (s : State) (p mode cycles : Nat) : State :=
  let s1 := (s.releaseBy p).setReg64 .partRunLeftLo .partRunLeftHi p 0 cycles
  let s2 := if s.cycle p = 0 then s1.clkPreset p else s1
  (((s2.autoWake p).markBaseline p).enterMode p (Mode.freeRun + mode) 1).startHeld p

/-- PART_RUN. -/
def cmdPartRun (r : CmdRef) (p mode ack cycles : Nat) (s : State) : CmdRes :=
  refuseIf ([s.noLocal r.org] ++ s.partChecks r.org p ++
    [(decide (2 ≤ mode ∨ 2 ≤ ack), .cmdFormat), s.loadBusyBit p, (decide (s.mode p ≠ Mode.ready), .modeInvalid),
     (decide (s.modMode = Mod.maintenance), .modeInvalid), s.railHeld p, (s.sourceBad p mode, .cmpSource), s.needsAck p ack])
    s (fun s => if s.insertingIn p then s.waits else (s.runNow p mode cycles).oks)

/-- PART_RUN (R148). -/
def execPartRun (r : CmdRef) (p mode ackFault cycles : Nat) (s : State) : Host.Outcome State Fault Refusal :=
  .next (runCmd r 0x0503 (formParams 0 [(.int 1, p), (.int 1, mode), (.int 1, ackFault), (.int 8, cycles)]) p
    (cmdPartRun r p mode ackFault cycles) s)

/-! ## PART_STOP and PART_HALT -/

/-- The partition enters READY (R149): FAIL_STICKY clears, and a FLUSH acts. -/
def State.enterReady (s : State) (p reason : Nat) (flush : Bool) : State :=
  let s1 := s.modPart p (fun x => { x with failSticky := false })
  (((if flush then s1.flush p else s1).enterMode p Mode.ready reason).outageEnd p)

/-- PART_STOP. -/
def cmdPartStop (r : CmdRef) (p flush ack : Nat) (s : State) : CmdRes :=
  refuseIf ([s.noLocal r.org] ++ s.partChecks r.org p ++
    [(decide (2 ≤ flush ∨ 2 ≤ ack), .cmdFormat), s.loadBusyBit p,
     (!(s.running p || (decide (s.mode p = Mode.inspect) && !s.finishes p)), .modeInvalid), s.railHeld p, s.needsAck p ack])
    s (fun s =>
      let f := decide (flush = 1)
      if s.running p then
        (((s.releaseBy p).modPart p (fun x => { x with stops := x.stops ++ [(r, f)] })).dueNow p).waits
      else if s.flag .partRunMidcycle p 0 then
        (((s.releaseBy p).modPart p (fun x => { x with stops := x.stops ++ [(r, f)], finishing := true })).dueNow p).waits
      else ((s.releaseBy p).enterReady p 1 f).oks)

/-- PART_STOP (R148). -/
def execPartStop (r : CmdRef) (p flush ackFault : Nat) (s : State) : Host.Outcome State Fault Refusal :=
  .next (runCmd r 0x0504 (formParams 0 [(.int 1, p), (.int 1, flush), (.int 1, ackFault)]) p (cmdPartStop r p flush ackFault) s)

/-- PART_HALT. -/
def cmdPartHalt (r : CmdRef) (p now ack : Nat) (s : State) : CmdRes :=
  let atOnce := decide (now = 1) && decide (s.latchedMask p ≠ 0)
  refuseIf ([s.noLocal r.org] ++ s.partChecks r.org p ++
    [(decide (2 ≤ now ∨ 2 ≤ ack), .cmdFormat), s.loadBusyBit p, (!s.running p, .modeInvalid), s.railHeld p,
     (!atOnce && (s.needsAck p ack).1, .quenchFaultHeld)]) s (fun s =>
    if atOnce then
      let s1 := s.modPart p (fun x => { x with haltNow := x.haltNow ++ [r] })
      (if s.frozen p then s1.haltHere p else s1).waits
    else (((s.releaseBy p).modPart p (fun x => { x with halts := x.halts ++ [r] })).dueNow p).waits)

/-- PART_HALT (R148). -/
def execPartHalt (r : CmdRef) (p now ackFault : Nat) (s : State) : Host.Outcome State Fault Refusal :=
  .next (runCmd r 0x0505 (formParams 0 [(.int 1, p), (.int 1, now), (.int 1, ackFault)]) p (cmdPartHalt r p now ackFault) s)

/-! ## PART_RESUME -/

/-- The partition returns from INSPECT to the mode it left (R149, R166). -/
def State.resumeInspect (s : State) (p : Nat) : State :=
  let mid := s.flag .partRunMidcycle p 0
  let s1 := ((s.releaseBy p).setReg .partRunMidcycle p 0 0).enterMode p (s.part p).leftMode 1
  if !mid then s1.startHeld p
  else if s.sSteps p < s.pos p + s.stepping.hzLead then (s1.startCheck p (s.cycle p + 1) (s1.endPoint p)).dueNow p
  else s1

/-- PART_RESUME. -/
def cmdPartResume (r : CmdRef) (p ack : Nat) (s : State) : CmdRes :=
  refuseIf ([s.noLocal r.org] ++ s.partChecks r.org p ++
    [(decide (2 ≤ ack), .cmdFormat), s.loadBusyBit p,
     (!(s.running p || (decide (s.mode p = Mode.inspect) && !s.finishes p)), .modeInvalid), s.railHeld p, s.needsAck p ack])
    s (fun s =>
      if s.running p then (s.releaseBy p).oks
      else if s.insertingIn p then s.waits
      else (s.resumeInspect p).oks)

/-- PART_RESUME (R148). -/
def execPartResume (r : CmdRef) (p ackFault : Nat) (s : State) : Host.Outcome State Fault Refusal :=
  .next (runCmd r 0x0506 (formParams 0 [(.int 1, p), (.int 1, ackFault)]) p (cmdPartResume r p ackFault) s)

/-! ## PART_UNLOAD -/

/-- A FIFO emptied by PART_UNLOAD: frames that had arrived in order count as consumed. -/
def Fifo.emptied (f : Fifo) : Fifo := { Fifo.init with head := f.head + f.inOrder, src := f.src }

/-- The commit of the pending boundary fields of a partition's blocks, but for those that `late` picks; ENABLE of the
acquisition unit acts as it takes its value (R227). -/
def State.commitPart (s : State) (p : Nat) (late : Key → Bool) : State :=
  (s.commit (fun k => decide (k.getD 1 0 = p) && (decide (blkOf (k.getD 0 0) = .part) || decide (blkOf (k.getD 0 0) = .cmp) ||
    decide (blkOf (k.getD 0 0) = .obs)) && !late k)).acqEnabled p (s.flag .partAcqCtlEnable p 0)

/-- PART_UNLOAD acts (R149, R150): steps stop at once, and the image is discarded. -/
def State.unloadNow (s : State) (p : Nat) : State :=
  let x := s.part p
  let s1 := s.loadEnd p .loadAborted noSect 0
  let s2 := (s1.doneAll (x.stops.map (·.1)) .modeSuperseded).doneAll (x.halts ++ x.haltNow) .modeSuperseded
  let s3 := ((((s2.dmaFlush p).dropQuench p).discardImage p).setReg .partRunMidcycle p 0 0).setReg .partCmpMarkPending p 0 0
  let s4 := (s3.modPart p (fun x => { x with
    stops := [], halts := [], haltNow := [], destroys := [], stim := x.stim.emptied, resp := x.resp.emptied, midHeld := [] })).pinsChange p
  let s5 := ((s4.commitPart p (fun _ => false)).enterMode p Mode.loading 6).outageRecover p true
  let s6 := (s5.regions p).foldl State.domainUp s5
  if x.destroys = [] then s6 else s6.destroyNow p x.destroys

/-- PART_UNLOAD. -/
def cmdPartUnload (r : CmdRef) (p : Nat) (s : State) : CmdRes :=
  refuseIf ([s.noLocal r.org] ++ s.partChecks r.org p) s (fun s => if s.insertingIn p then s.waits else (s.unloadNow p).oks)

/-- PART_UNLOAD (R148). -/
def execPartUnload (r : CmdRef) (p : Nat) (s : State) : Host.Outcome State Fault Refusal :=
  .next (runCmd r 0x0507 (formParams 0 [(.int 1, p)]) p (cmdPartUnload r p) s)

end Sys2Proof.Machine
end

