-- ==== Sys2Proof/Machine/Cycle.lean ====
section
/-! DEFINITION. The executed step (R40, R41, R89, R124, R137) and the cycle boundary (R74, R77, R150). -/

namespace Sys2Proof.Machine

/-! ## The step -/

/-- The partition may execute its next step: it is not frozen, nothing lands before the step, the cycle has a step left,
and the reads that the step delivers have returned. -/
def State.stepDue (s : State) (p : Nat) : Bool :=
  s.executing p && !s.frozen p && decide (s.landings p = []) && decide (s.pos p < s.sSteps p) && !s.horizonWaits p

/-- Storage errors strike words of the partition's hearths, and single-bit errors the words that link ports receive, which
are corrected and counted (R91, R96). -/
def State.strikes (s : State) (p : Nat) (ups : List Upset) : State :=
  let mine := ups.filter (fun u => decide (u.store ≠ .link) && s.inPart p (u.key.getD 0 0) (u.key.getD 1 0))
  let s1 := { s with fab := mine.foldl Fab.strike s.fab }
  (ups.filter (fun u => decide (u.store = .link ∧ !u.double) && Grade.hasLink s.grade (u.key.getD 0 0) (u.key.getD 1 0) &&
    s.anvilOn (u.key.getD 0 0))).foldl
    (fun s u => s.bump .linkErrCorrCount (3 * u.key.getD 0 0 + u.key.getD 1 0) 0 1) s1

/-- Emulation bits of a link that is out of service read 0 (R432). -/
def State.deadLinks (s : State) (p : Nat) : State :=
  let out := s.reg .svcLinkOut 0 0
  if out = 0 then s
  else { s with fab := { s.fab with flight := s.fab.flight.map (fun (f : Flight) =>
    if f.part = p ∧ f.link.any (fun l => bit out l) then { f with value := false } else f) } }

/-- Step 0 of a cycle begins (R153, R166, R171, R212, R228): from a held boundary the pending fields commit first, but for
those written in INSPECT with MIDCYCLE = 1, which wait for the end of the cycle. -/
def State.startCycle (s : State) (p : Nat) : State :=
  let s1 := if (s.part p).heldStart then
      ((s.commitPart p (fun k => (s.part p).midHeld.contains k)).trigRequests p).modPart p
        (fun x => { x with heldStart := false, midHeld := [] })
    else s
  let t := s1.ctrNs (s1.homeAnvil p)
  let c : CycRec := ⟨s1.cycle p, t, 0, s1.flag .partCmpEnCompare p 0, 0, 0⟩
  let s2 := s1.modPart p (fun x => { x with cycs := x.cycs ++ [c], outs := 0, probes := 0, haltReqs := [], started := true })
  ((s2.takeVectors p).acqCycleStart p t).capCycleStart p t

/-- A delivery of one BP in step `t` (R66 to R69, R220): an output, a trigger probe, a halt request, a probe bit. -/
def State.deliver (p t : Nat) (s : State) (o : Nat × Nat × Nat × BpOut) : State :=
  let r := o.2.2.2.r
  let s1 := match o.2.2.2.fx with
    | .out pin => s.modPart p (fun x => { x with outs := setBit x.outs pin r })
    | .tprobe n => if r ∧ !(s.part p).tprobes.contains n then s.modPart p (fun x => { x with tprobes := x.tprobes ++ [n] }) else s
    | .halt => s.modPart p (fun x => { x with haltReqs := x.haltReqs ++ [⟨t, o.1, o.2.1, o.2.2.1⟩] })
    | _ => s
  let n := Tab.get 0 (s.part p).probeMap [o.1, o.2.1, o.2.2.1, t]
  if o.2.2.2.probe ∧ n ≠ 0 then s1.modPart p (fun x => { x with probes := setBit x.probes (n - 1) r }) else s1

/-- Output pins that two BPs deliver in one step with different values: the pin's value is open. -/
def clashing (outs : List (Nat × Nat × Nat × BpOut)) : List Nat :=
  let l := outs.filterMap (fun o => match o.2.2.2.fx with | .out pin => some (pin, o.2.2.2.r) | _ => none)
  ((l.filter (fun x => l.contains (x.1, !x.2))).map (fun (x : Nat × Bool) => x.1)).dedup

/-- A pin takes a free value. -/
def State.freePin (p : Nat) (s : State) (pin : Nat) : State :=
  let b := s.takeBit
  b.2.modPart p (fun x => { x with outs := setBit x.outs pin b.1 })

/-- Corrections of instruction and route words in a step are noted for the BP that holds them (R427). -/
def State.noteCorrs (s : State) (p t : Nat) (f : Fab) : State :=
  let singles := fun (st : Store) => (flawsOfStep f st t 3 (s.inPart p)).filter (fun e => decide (e.2.2.2 = 1))
  let s1 := (singles .instr).foldl (fun s e => s.noteCorr .instr e.2.2.1) s
  (singles .route).foldl (fun s e => s.noteCorr .route e.2.2.1) s1

/-- The step after `t`: the next one, or the end of the cycle (R86). -/
def State.advance (s : State) (p t : Nat) : State :=
  if t + 1 = s.sSteps p then (s.setReg .partSchedEnd p 0 1).setReg .partSchedStep p 0 t else s.setReg .partSchedStep p 0 (t + 1)

/-- One executed step of a partition. -/
def State.runStep (s0 : State) (p : Nat) : State :=
  let t := s0.pos p
  let s1 := (if t = 0 ∧ !(s0.part p).started then s0.startCycle p else s0).deadLinks p
  let f1 := s1.fab.deliverSp p
  let f2 := if t = s1.reg .partMemHzStep p 0 then f1.deliverDram p (s1.cycle p) else f1
  let lat := fun i row => s1.reg .linkLatBase i 0 + s1.reg .linkRxdelayPad i row
  let r := fabStep f2 s1.grade p (s1.inPart p) (s1.specials p) t (s1.part p).inVec lat
  let x := ({ s1 with fab := r.fab }).ports p t f2 r.outs
  let s2 := (clashing r.outs).foldl (State.freePin p) (r.outs.foldl (State.deliver p t) x.1)
  let s3 := (r.errs.foldl (State.fabFault p t) ((s2.fabCorr r).noteCorrs p t f2)).fabDoubles p t r.doubles
  let s4 := (((s3.fabFence p t r.fence).careForNew s0).idleBanks p x.2).checkHorizon p t
  let s5 := (if t + s4.stepping.hzLead = s4.sSteps p then s4.startCheck p (s4.cycle p + 1) (s4.endPoint p) else s4).dueNow p
  let s6 := (if t + 1 = s5.sSteps p then s5.compareCycle p else s5).outageEnd p
  s6.advance p t

/-- STEP (R40). -/
def execStep (p : Nat) (ups : List Upset) (s : State) : Host.Outcome State Fault Refusal :=
  .next (if s.stepDue p then (s.strikes p ups).runStep p else s)

/-! ## The boundary -/

/-- The cycle boundary takes place: step S − 1 has executed, and no quench holds it. -/
def State.boundaryDue (s : State) (p : Nat) : Bool :=
  s.executing p && !s.frozen p && decide (s.landings p = []) && s.flag .partSchedEnd p 0

/-- Pending user state commits (R74). -/
def Fab.commitUser (f : Fab) (inP : Nat → Nat → Bool) : Fab :=
  let mine := fun (k : Key) => inP (k.getD 0 0) (k.getD 1 0)
  { f with
    mem := (f.pend.filter (fun e => mine e.1)).foldl (fun t e =>
      Tab.put false t [e.1.getD 0 0, e.1.getD 1 0, e.1.getD 2 0, 1536 + e.1.getD 3 0] (Tab.get false f.shadow e.1)) f.mem
    pend := Tab.keep (fun k => !mine k) f.pend }

/-- The sideband word of the cycle that ends (R31, R107). -/
def State.sidebandWord (s : State) (p : Nat) : Nat :=
  bitsToNat ((List.range 32).map (fun k => s.flag .partIoSbEnable p k && bit (s.part p).outs (s.reg .partIoSbPin p k)))

/-- The sideband bits take their values and pass to the pads. -/
def State.sidebandUpdate (s : State) (p : Nat) : State :=
  let w := s.sidebandWord p
  if w = (s.part p).sideband then s else (s.modPart p (fun x => { x with sideband := w })).emit (.sideband p w)

/-- Action 2 of R74: the values that the specials have in the next cycle. -/
def State.updateSpecials (s : State) (p : Nat) : State × TrigAct :=
  let s1 := s.modPart p (fun x => { x with
    cycs := x.cycs.map (fun (c : CycRec) => if c.cycle = s.cycle p then { c with outs := x.outs } else c) })
  let s2 := ((s1.clkAdvance p).compareBoundary p).sidebandUpdate p
  s2.trigBoundary p ⟨(s2.part p).failRecent, (s2.part p).failSticky⟩

/-- Action 3 of R74: halt requests counted and recorded (R77, R78). -/
def State.haltBoundary (s : State) (p : Nat) : State :=
  let l := (s.part p).haltReqs
  let mode := s.reg .partHaltMode p 0
  match l with
  | [] => s
  | x :: _ =>
    if mode = 0 then s
    else
      let s1 := s.bump .partHaltCount p 0 l.length
      let s2 :=
        if s1.flag .partHaltFirstValid p 0 then s1
        else (((((s1.setReg .partHaltFirstAnvil p 0 x.anvil).setReg .partHaltFirstHearth p 0 x.hearth).setReg .partHaltFirstLbp p 0
          x.lbp).setReg .partHaltFirstStep p 0 x.step).setReg .partHaltFirstValid p 0 1).setReg64 .partHaltCycleLo .partHaltCycleHi
          p 0 (s.cycle p)
      if mode = 1 then s2.pEvent p Ev.halt Status.assertHalt.num (s2.wordWritten (wordOf .partHaltFirstStep p 0)) else s2

/-- The mode change due at a boundary (R150): 1 HALT-IF, 2 trigger, 3 PART_HALT, 4 PART_STOP, 5 CYCLES, 0 none. `halt` is
whether HALT-IF requests one, `trig` whether the sequencer does, `count` whether the CYCLES count is reached. -/
def modeWinner (halt trig count : Bool) (halts : List CmdRef) (stops : List (CmdRef × Bool)) : Nat :=
  if halt then 1 else if trig then 2 else if halts ≠ [] then 3 else if stops ≠ [] then 4 else if count then 5 else 0

/-- The mode change that wins takes effect, and every command that loses completes with MODE_SUPERSEDED (R149, R150). -/
def State.changeMode (s : State) (p w : Nat) : State :=
  if w = 0 then s
  else
    let x := s.part p
    let won : List CmdRef := if w = 3 then x.halts.take 1 else if w = 4 then (x.stops.take 1).map (fun (e : CmdRef × Bool) => e.1) else []
    let lost := ((x.halts ++ x.stops.map (fun (e : CmdRef × Bool) => e.1)) ++ x.haltNow).filter (fun r => !won.contains r)
    let left := s.effMode p
    let s1 := (s.setReg .partRunMidcycle p 0 0).modPart p (fun x => { x with
      stops := [], halts := [], haltNow := [], finishing := false, leftMode := left })
    let s2 :=
      if w ≤ 3 then s1.enterMode p Mode.inspect (if w = 1 then 4 else if w = 2 then 5 else 1)
      else s1.enterReady p (if w = 5 then 3 else 1) (decide (w = 4) && ((x.stops.map (fun (e : CmdRef × Bool) => e.2)).headD false))
    (s2.doneAll won .ok).doneAll lost .modeSuperseded

/-- The next cycle begins (R87); the CYCLES count goes down. -/
def State.nextCycle (s : State) (p : Nat) : State :=
  let left := s.reg64 .partRunLeftLo .partRunLeftHi p 0
  let s1 := ((s.setReg64 .partSchedCycleLo .partSchedCycleHi p 0 (s.cycle p + 1)).setReg .partSchedEnd p 0 0).setReg .partSchedStep p 0 0
  (s1.setReg64 .partRunLeftLo .partRunLeftHi p 0 (left - 1)).modPart p (fun x => { x with started := false, haltReqs := [] })

/-- The five actions of R74, with what leaves the fabric at the boundary (R342), and
the sequencer's actions. -/
def State.boundaryActions (s : State) (p : Nat) : State × TrigAct :=
  let due := s.capDue p (s.cycle p)
  let x := ({ s with fab := s.fab.commitUser (s.inPart p) }).updateSpecials p
  let s1 := ((x.1.haltBoundary p).acqBoundary p x.2.fire).capBoundary p (s.cycle p) due x.2.capture
  let s2 := s1.commitPart p (fun _ => false)
  (s2.outVectors p (s.cycle p) (s.part p).outs, x.2)

/-- A HALT-IF request halts the partition at this boundary (R77). -/
def State.haltIf (s : State) (p : Nat) : Bool := decide (s.reg .partHaltMode p 0 = 1) && decide ((s.part p).haltReqs ≠ [])

/-- The CYCLES count of PART_RUN is reached at this boundary. -/
def State.countReached (s : State) (p : Nat) : Bool := decide (s.reg64 .partRunLeftLo .partRunLeftHi p 0 = 1)

/-- A PART_DESTROY that waited for READY acts (R149). -/
def State.destroyReady (s : State) (p : Nat) : State :=
  let l := (s.part p).destroys
  if s.mode p = Mode.ready ∧ l ≠ [] then s.destroyNow p l else s

/-- The cycle boundary of a partition. -/
def State.boundary (s : State) (p : Nat) : State :=
  let x := s.boundaryActions p
  let w := modeWinner (s.haltIf p) x.2.halt (s.countReached p) (x.1.part p).halts (x.1.part p).stops
  let s1 := (x.1.nextCycle p).changeMode p w
  ((if x.2.quench then s1.assertEntry p Cause.trigger else s1).destroyReady p).dmaSettle

/-- CYCLE_BOUNDARY (R74). -/
def execCycleBoundary (p : Nat) (s : State) : Host.Outcome State Fault Refusal :=
  .next (if s.boundaryDue p then s.boundary p else s)

end Sys2Proof.Machine
end

