-- ==== Sys2Proof/Machine/Respond.lean ====
section
/-! DEFINITION. Responses (R303 to R308, R312): how a completed command is answered, and a restart of the steward. -/

namespace Sys2Proof.Machine

/-- The instance number of a mailbox. -/
def mbInst (n m : Nat) : Nat := 16 * n + m

/-- The state of a mailbox (R306): 0 IDLE, 1 POSTED, 2 BUSY, 3 DONE. -/
def State.mbState (s : State) (n m : Nat) : Nat := s.reg .mboxStateState (mbInst n m) 0

/-- A mailbox page. -/
def State.box (s : State) (n m : Nat) : Mailbox := Tab.get Mailbox.init s.host.boxes [n, m]

/-- A mailbox page changed. -/
def State.modBox (s : State) (n m : Nat) (f : Mailbox → Mailbox) : State :=
  { s with host := { s.host with boxes := Tab.put Mailbox.init s.host.boxes [n, m] (f (s.box n m)) } }

/-- Entries of command queue `q` run with the slot number 4,096 + q; slots 0 to 15 are the mailboxes. -/
def queueSlot : Nat := 4096

/-- A record padded with zeros to an entry of a queue. -/
def State.entryOf (s : State) (q : Nat) (r : Bytes) : Bytes := slice r 0 (2 ^ s.reg .queueCfgEntryLog2 q 0)

/-- The response of a queue entry goes to the paired completion queue, if the queue is still set up, and the queue may run its
next entry (R312). -/
def State.queueRespond (s : State) (q : Nat) (r : Bytes) : State :=
  let c := s.reg .queuePair q 0
  let s1 := (s.modQueue q (fun x => { x with executing := false })).rescan q
  if s.reg .queueCfgType q 0 = QT.command ∧ s1.qEnabled c then s1.qAppend c (s1.entryOf c r) else s1

/-- A completed command is answered, unless its outcome appears in the audit log only (R300, R303, R304). -/
def State.respond (s : State) (b : Busy) : State :=
  match b.ans with
  | none => s
  | some a =>
    let r := responseBytes b.code b.ref.seq a
    let orphan := s.host.orphans.contains b.ref
    let s1 := { s with host := { s.host with
      busy := s.host.busy.filter (fun x => decide (x.ref ≠ b.ref))
      orphans := s.host.orphans.filter (fun x => decide (x ≠ b.ref)) } }
    match b.ref.org with
    | .host n =>
      let m := b.ref.slot
      if queueSlot ≤ m then s1.queueRespond (m - queueSlot) r
      else if s.mbState n m ≠ 2 ∨ le (s.box n m).req 4 4 ≠ b.ref.seq then s1
      else if orphan then s1.setReg .mboxStateState (mbInst n m) 0 0
      else
        let s2 := (s1.modBox n m (fun x => { x with resp := r })).setReg .mboxStateState (mbInst n m) 0 3
        match b.notify with
        | some v => s2.emit (.msix n v)
        | none => s2
    | .mgmt k =>
      let x := (Tab.get none s.host.sessions [k]).map (fun (y : Session) => { y with outstanding := y.outstanding - 1 })
      if orphan then s1
      else ({ s1 with host := { s1.host with sessions := Tab.put none s1.host.sessions [k] x } }).emit (.response b.ref r)
    | .uart => if orphan then s1 else ({ s1 with host := { s1.host with uartBusy := false } }).emit (.response b.ref r)
    | .cp _ => s1

/-- The steward's CP restarts (R206, R306): loads end with LOAD_ABORTED, every other BUSY command with CMD_ABORTED, and all
are answered. -/
def State.stewardRestart (s : State) : State :=
  let s1 := (List.range 32).foldl (fun s p => s.loadFail p (lFail .loadAborted)) s
  let s2 := (s1.host.busy.map (fun b => b.ref)).foldl (fun s r => s.done r .cmdAborted) s1
  s2.host.busy.foldl State.respond s2

end Sys2Proof.Machine
end

