-- ==== Sys2Proof/Machine/Startup.lean ====
section
/-! DEFINITION. Module states, resets, settings commands and firmware (chapter 16). -/

namespace Sys2Proof.Machine

/-! ## Module states (R406) -/

/-- The module state changes with its event (KIND 0x17). -/
def State.modEvent (s : State) : State := s.mEvent 0x17 0 (s.modMode + 256 * s.reg .modStateLastReset 0 0)

/-- STANDBY is entered: with STBY_LP = 1 every pad latch engages and the pin clock stops, unless the strap is closed, and the
event is raised (R382, R406). -/
def State.enterStandby (s : State) : State :=
  let s1 := s.setReg .modStateMode 0 0 Mod.standby
  (if s1.flag .spCfgStbyLp 0 0 ∧ !s1.flag .spCfgStrap 0 0 then s1.latchPads true else s1).modEvent

/-- STANDBY is left for WAKING: the pin clock starts again and the latches release. -/
def State.wake (s : State) : State :=
  (if s.pins.stopped then s.releasePads else s).setReg .modStateMode 0 0 Mod.waking

/-- What power-up leaves (R406, R417): every domain off but the management domain and the control islands, every block at its
Reset column, the flash and what lies outside the module unchanged. LAST_RESET reads `last`. -/
def State.powerCycle (s : State) (last : Nat) : State :=
  let moved := fun (e : Key × Bool) => s.dram.remap.any (fun x => decide (x.1.getD 0 0 = e.1.getD 0 0 ∧ x.2 = e.1.getD 1 0 + 1))
  let s1 : State := { State.reset with
    pending := s.pending
    grade := s.grade
    stepping := s.stepping
    free := s.free
    out := s.out
    dram := { Dram.init with remap := s.dram.remap, retired := s.dram.retired, used := s.dram.used.filter moved }
    host := { HostIf.init with mem := s.host.mem, flashLog := s.host.flashLog, logSeq := s.host.persisted, persisted := s.host.persisted }
    pins := { Pins.init with level := s.pins.level }
    svc := { Svc.init with failed := s.svc.failed }
    sys := { Sys.init with
      record := s.sys.record, copies := s.sys.copies, slots := s.sys.slots, factoryBad := s.sys.factoryBad
      trialFrom := s.sys.trialFrom, unpersisted := s.sys.unpersisted, lastReset := last } }
  ((((s1.setReg .modStateLastReset 0 0 last).setReg .pwrStatusFeedA 0 0 (s.reg .pwrStatusFeedA 0 0)).setReg .pwrStatusFeedB 0 0
    (s.reg .pwrStatusFeedB 0 0)).setReg .pwrStatusLowLine 0 0 (s.reg .pwrStatusLowLine 0 0)).setReg .spCfgStrap 0 0
    (s.reg .spCfgStrap 0 0)

/-- The module is OFF; its next power-up will report `last`. -/
def State.powerOff (s : State) (last : Nat) : State :=
  let s1 := s.powerCycle last
  { s1 with sys := { s1.sys with off := true } }

/-! ## Firmware slots (R415) -/

/-- The bytes of a slot. -/
def State.slotBytes (s : State) (k : Nat) : Bytes := Tab.get [] s.sys.slots [k]

/-- A slot is valid: its signature verifies, and its SVN is at least SVN_MIN of the service record. -/
def State.slotValid (s : State) (k : Nat) : Bool :=
  Config.vendorVerify (s.slotBytes k) && decide (s.startVal .modFwSvnMin 0 0 ≤ Config.packageSvn (s.slotBytes k))

/-- MOD.FW's view of the slots. -/
def State.fwFlags (s : State) : State :=
  let ver := fun k => if s.slotValid k then Config.packageVersion (s.slotBytes k) % 2 ^ 32 else 0
  (((s.setFlag .modFwAValid 0 0 (s.slotValid 0)).setFlag .modFwBValid 0 0 (s.slotValid 1)).setReg .modFwVerA 0 0 (ver 0)).setReg
    .modFwVerB 0 0 (ver 1)

/-- The firmware event (R419). -/
def State.fwEvent (s : State) (st : Status) : State :=
  s.mEvent 0x19 st.num (s.reg .modFwActive 0 0 + 2 * s.reg .modFwTrial 0 0 + 2 ^ 16 * s.reg .modFwFallbacks 0 0)

/-- The slot the boot ROM boots: the one before an activation that was never confirmed, else NEXT; the other if it is not
valid; none if neither is. -/
def State.bootSlot (s : State) : Option Nat :=
  let first := if s.startVal .modFwTrial 0 0 = 1 then s.sys.trialFrom else s.startVal .modFwNext 0 0
  if s.slotValid first then some first else if s.slotValid (1 - first) then some (1 - first) else none

/-- Blocks that the management domain holds. -/
def Blk.management (b : Blk) : Bool :=
  decide (b = .mod) || decide (b = .trace) || decide (b = .time) || decide (b = .sp) || decide (b = .pwr) || decide (b = .svc) ||
    decide (b = .hostif) || decide (b = .queue)

/-- The settings table is filled and applied to the management domain; CURRENT takes NEXT's entry (R407 events 6 and 7, R410). -/
def State.bootSettings (s : State) : State :=
  let s1 := (s.fillSettings).applySettings (fun f _ => Blk.management (blkOf f))
  ((s1.setReg .hostBifurcCurrent 0 0 (s1.entry .hostBifurcNext 0 0)).keepPads (List.range 48)).servoSource

/-- The steward starts on an anvil's CP from a slot; a bad factory region is a module fault (R409, R415). -/
def State.bootWith (s : State) (slot anvil : Nat) : State :=
  let n := s.startVal .modFwNext 0 0
  let s1 := if slot = n then s else s.setRecord .modFwFallbacks 0 0 (min 0xFFFF (s.startVal .modFwFallbacks 0 0 + 1))
  let s2 := (s1.setRecord .modFwTrial 0 0 0).setReg .modFwActive 0 0 slot
  let s3 := { s2 with sys := { s2.sys with steward := true } }
  let s4 := ((s3.setReg .svcStewardAnvil 0 0 anvil).bootSettings.fwFlags).setFlag .modStateFactoryBad 0 0 s3.sys.factoryBad
  if s4.sys.factoryBad then s4.moduleFault (Fld.addr .modStateFactoryBad 0 0) else s4

/-- The module is in BOOT, and no steward runs yet. -/
def State.booting (s : State) : Bool :=
  !s.sys.off && decide (s.modMode = Mod.boot) && !s.sys.steward && !s.sys.recovery

/-- The boot ROM of an anvil chooses and verifies a slot; with none it stays in BOOT, in recovery. -/
def State.firmwareBoot (s : State) (anvil : Nat) : State :=
  match s.bootSlot with
  | some k => s.bootWith k anvil
  | none => let s1 := s.fwFlags
    { s1 with sys := { s1.sys with recovery := true } }

/-- FIRMWARE_BOOT (R415). -/
def execFirmwareBoot (s : State) : Host.Outcome State Fault Refusal := .next (if s.booting then s.firmwareBoot 0 else s)

/-- The steward moves to the CP of anvil 1 (R432). -/
def State.stewardMoved (s : State) : State :=
  ((s.setReg .svcStewardAnvil 0 0 1).setRecord .svcStewardFailovers 0 0 (min 0xFFFF (s.reg .svcStewardFailovers 0 0 + 1))).condition 0 |>.mEvent 0x1C 0 1

/-- STEWARD_BOOT_TIMEOUT (R407): CP 1 starts the steward, which the module reports as a failover. -/
def execStewardBootTimeout (s : State) : Host.Outcome State Fault Refusal :=
  .next (if s.booting then
    (if (s.firmwareBoot 1).sys.steward then (s.firmwareBoot 1).stewardMoved else s.firmwareBoot 1) else s)

/-- MOD.BOOT.AUTO_WAKE: WAKING follows STANDBY at once, if the factory region is good (R406, R409). -/
def State.autoStart (s : State) : State :=
  if s.flag .modBootAutoWake 0 0 ∧ !s.sys.factoryBad then s.wake else s

/-- BOOT_COMPLETE: STANDBY, with the audit entry of the power-up; AUTO_WAKE goes on to WAKING (R406, R407). -/
def State.bootComplete (s : State) : State :=
  if !s.sys.off ∧ s.modMode = Mod.boot ∧ s.sys.steward then
    let s1 := s.enterStandby.audit ⟨0, 0, Role.module, 0x30, 0, 2, 0, 0xFFFF, Fld.addr .modStateLastReset 0 0, 0, zeros 16,
      s.reg .modStateLastReset 0 0, s.sys.unpersisted⟩
    State.autoStart { s1 with sys := { s1.sys with unpersisted := 0 } }
  else s

/-- BOOT_COMPLETE (R406). -/
def execBootComplete (s : State) : Host.Outcome State Fault Refusal := .next s.bootComplete

/-- WAKING_COMPLETE: every populated anvil domain that has not faulted is on, and the module is in SERVICE (R406, R407). -/
def State.wakingComplete (s : State) : State :=
  if s.modMode = Mod.waking then
    let s1 := (List.range s.grade.anvils).foldl (fun s a =>
      if Tab.get false s.pwr.failed [1, a] then s
      else ({ s with sys := { s.sys with islandOff := Tab.put false s.sys.islandOff [a] false } }).anvilUp a) s
    let s2 := (s1.setReg .modStateMode 0 0 Mod.service).modEvent
    ({ s2 with sys := { s2.sys with waking := [] } }).doneAll s2.sys.waking .ok
  else s

/-- WAKING_COMPLETE (R406). -/
def execWakingComplete (s : State) : Host.Outcome State Fault Refusal := .next s.wakingComplete

/-- SLEEPING_COMPLETE: every anvil domain is off, and the module is in STANDBY (R406, R408). -/
def State.sleepingComplete (s : State) : State :=
  if s.modMode = Mod.sleeping ∧ s.anvilsOn = [] then
    let s1 := s.enterStandby
    ({ s1 with sys := { s1.sys with sleeping := [] } }).doneAll s1.sys.sleeping .ok
  else s

/-- SLEEPING_COMPLETE (R408). -/
def execSleepingComplete (s : State) : Host.Outcome State Fault Refusal := .next s.sleepingComplete

/-! ## MOD_POWER (R408) -/

/-- The way to STANDBY begins: the audit ring is persisted, the trace buffer freed, and every region drained and fenced. -/
def State.sleep (s : State) (r : CmdRef) : State :=
  let s1 := (s.persistAudit.traceBufFree).setReg .modStateMode 0 0 Mod.sleeping
  let s2 := (List.range s1.grade.regions).foldl (fun s n => if s.regionOn n then s.fenceRegion n true else s.setFence n false true) s1
  { s2 with sys := { s2.sys with sleeping := s2.sys.sleeping ++ [r] } }

/-- MOD_POWER. -/
def cmdModPower (r : CmdRef) (enter : Nat) (s : State) : CmdRes :=
  let m := s.modMode
  let bad := if enter = 0 then decide (m ≠ Mod.standby ∧ m ≠ Mod.service) else decide (m ≠ Mod.service)
  refuseIf [s.ownerOrLocal r.org, (decide (2 ≤ enter), .cmdFormat), (s.sys.factoryBad, .flashError), (bad, .modeInvalid),
    (decide (enter = 1 ∧ s.partitions ≠ []), .partsExist), (decide (enter = 1) && s.traceBusyNow, .traceBusy)] s (fun s =>
    if enter = 1 then (s.sleep r).waits
    else if m = Mod.service then s.oks
    else
      let s1 := s.wake
      ({ s1 with sys := { s1.sys with waking := s1.sys.waking ++ [r] } }).waits)

/-- MOD_POWER (R408). -/
def execModPower (r : CmdRef) (enter : Nat) (s : State) : Host.Outcome State Fault Refusal :=
  .next (runCmd r 0x1000 (formParams 0 [(.int 1, enter)]) 0xFFFF (cmdModPower r enter) s)

/-! ## MOD_RESET (R417) -/

/-- A command gets its answer and its response at once. -/
def State.answerNow (s : State) (r : CmdRef) (st : Status) : State :=
  let s1 := s.done r st
  match s1.busyOf r with
  | some b => s1.respond b
  | none => s1

/-- A bifurcation code forms a port (R296). -/
def codeForms (code n : Nat) : Bool :=
  if code = 0 then decide (n = 0) else if code = 1 then decide (n < 2) else if code = 2 then decide (n < 4) else false

/-- HOST.BIFURC.NEXT would leave out a port in use (R296, R417). -/
def State.portLeftOut (s : State) : Bool :=
  let next := s.reg .hostBifurcNext 0 0
  s.partitions.any (fun p => !codeForms next (s.reg .partOwnHost p 0)) ||
    s.regs.any (fun e => decide (e.1.getD 0 0 = Fld.queueCfgPart.ctorIdx ∧ e.2 = some 0xFF) &&
      !codeForms next (s.reg .queueCfgPort (e.1.getD 1 0) 0))

/-- Something holds cause 0x5 on the partition beside what a test has ruled out (R161): a burst, a clock change, a dropout. -/
def State.throttled (s : State) (p : Nat) : Bool := s.pwr.burst.contains p || s.pwr.change.isSome || s.pwr.dropoutHeld

/-- Cause 0x5 releases on every partition that nothing throttles any more. -/
def State.unthrottle (s : State) : State :=
  s.partitions.foldl (fun s p => if s.throttled p then s else s.releaseCause p Cause.throttle) s

/-- The blocks that a management reset initialises. -/
def Blk.resetByMgmt (b : Blk) : Bool :=
  decide (b = .hostif) || decide (b = .queue) || decide (b = .sp) || decide (b = .trace) || decide (b = .pwr)

/-- The registers of a management reset: start values, but for what the inputs and the strap show. -/
def State.mgmtRegs (s : State) : State :=
  let p := fun f (_ : Nat) => Blk.resetByMgmt (blkOf f)
  let s1 := (s.dropRegs p).applySettings p
  let s2 := [Fld.pwrStatusFeedA, .pwrStatusFeedB, .pwrStatusLowLine, .spCfgStrap, .spCfgLatched].foldl
    (fun x f => x.setReg f 0 0 (s.reg f 0 0)) s1
  s2.setReg .hostBifurcCurrent 0 0 (s2.entry .hostBifurcNext 0 0)

/-- The management reset (R417): the HOSTIF, QUEUE, SP, TRACE and PWR blocks start, the pad latches act (R382), and every queue
stops. Commands of queues that have started complete without a response. -/
def State.mgmtReset (s : State) : State :=
  let s1 := (s.latchPads false).mgmtRegs
  let gone := (s1.host.busy.map (fun (b : Busy) => b.ref)).filter (fun x => decide (queueSlot ≤ x.slot))
  let s2 := { s1 with
    host := { s1.host with
      queues := [], ready := [], orphans := s1.host.orphans ++ gone
      posted := s1.host.posted.filter (fun x => decide (x.ref.slot < queueSlot)) }
    trace := Trace.init
    pins := { s1.pins with uartRx := [], uartBaud := [], uartFormat := [], trigOut := [] }
    pwr := { Power.init with
      interruption := s1.pwr.interruption, dropoutHeld := s1.pwr.dropoutHeld, failed := s1.pwr.failed, dumped := s1.pwr.dumped } }
  s2.releasePads.unthrottle

/-- MOD_RESET. -/
def cmdModReset (r : CmdRef) (scope force : Nat) (s : State) : CmdRes :=
  refuseIf [s.ownerOrLocal r.org, (decide (2 ≤ scope ∨ 2 ≤ force), .cmdFormat),
    (decide (s.partitions ≠ [] ∧ force ≠ 1), .partsExist), (decide (scope = 1) && s.portLeftOut, .hostPortInUse)] s (fun s =>
    if scope = 0 then (((s.answerNow r .ok).persistAudit).powerCycle 1).waits else s.mgmtReset.oks)

/-- MOD_RESET (R417). -/
def execModReset (r : CmdRef) (scope force : Nat) (s : State) : Host.Outcome State Fault Refusal :=
  .next (runCmd r 0x1001 (formParams 0 [(.int 1, scope), (.int 1, force)]) 0xFFFF (cmdModReset r scope force) s)

/-! ## Settings commands (R418) -/

/-- SETTINGS_SAVE. -/
def cmdSettingsSave (r : CmdRef) (flashBad : Bool) (s : State) : CmdRes :=
  refuseIf [s.ownerOrLocal r.org] s (fun s => if flashBad then s.copyLost.says .flashError else s.saveImage.oks)

/-- SETTINGS_SAVE (R414). -/
def execSettingsSave (r : CmdRef) (flashBad : Bool) (s : State) : Host.Outcome State Fault Refusal :=
  .next (runCmd r 0x1002 [] 0xFFFF (cmdSettingsSave r flashBad) s)

/-- The settings table at its factory defaults; what the service record holds stays. -/
def State.eraseSettings (s : State) : State :=
  { s with sys := { s.sys with settings := [] }, host := { s.host with keys := [], certs := [] } }

/-- SETTINGS_ERASE. -/
def cmdSettingsErase (r : CmdRef) (flashBad : Bool) (s : State) : CmdRes :=
  refuseIf [s.ownerOrLocal r.org] s (fun s => if flashBad then s.copyLost.says .flashError else s.eraseSettings.saveImage.oks)

/-- SETTINGS_ERASE (R418). -/
def execSettingsErase (r : CmdRef) (flashBad : Bool) (s : State) : Host.Outcome State Fault Refusal :=
  .next (runCmd r 0x1003 [] 0xFFFF (cmdSettingsErase r flashBad) s)

/-- Bytes of a flash area that holds `bs`; beyond them the area's bytes are not stated. -/
def State.flashSlice (s : State) (bs : Bytes) (off n : Nat) : Bytes :=
  (List.range n).map (fun k => if off + k < bs.length then bs.getD (off + k) 0 else Config.flashByte s.free (off + k))

/-- SETTINGS_READ. -/
def cmdSettingsRead (r : CmdRef) (offset length addr : Nat) (s : State) : CmdRes :=
  let src := s.reg .modBootSettingsSrc 0 0
  let host := match r.org with | .host _ => true | _ => false
  refuseIf [s.ownerOrLocal r.org, (decide (524288 < offset + length), .cmdFormat), (decide (length = 0 ∨ 1984 < length), .cmdFormat),
    (!host && decide (addr ≠ 0), .cmdFormat), (decide (src = 0), .settingsAbsent)] s (fun s =>
    let bs := s.flashSlice (Tab.get [] s.sys.copies [src - 1]) offset length
    let s1 := { s with free := s.free + 1 }
    if addr = 0 then (s1, some ⟨.ok, 0, bs⟩) else (s1.toHost r addr bs).oks)

/-- SETTINGS_READ (R418). -/
def execSettingsRead (r : CmdRef) (offset length addr : Nat) (s : State) : Host.Outcome State Fault Refusal :=
  .next (runCmd r 0x1004 (formParams 0 [(.int 8, offset), (.int 8, length), (.int 8, addr)]) 0xFFFF
    (cmdSettingsRead r offset length addr) s)

/-! ## Firmware commands (R416, R418) -/

/-- Size of a firmware slot (R409). -/
def slotSize : Nat := 33554432

/-- The slot that is not active. -/
def State.otherSlot (s : State) : Nat := 1 - s.reg .modFwActive 0 0

/-- Bytes written into a slot at an offset. -/
def State.writeSlot (s : State) (k off : Nat) (data : Bytes) : State :=
  let old := s.slotBytes k
  let new := s.flashSlice old 0 off ++ data ++ old.drop (off + data.length)
  { s with free := s.free + 1, sys := { s.sys with slots := Tab.put [] s.sys.slots [k] new } }

/-- FW_STAGE. -/
def cmdFwStage (r : CmdRef) (mode srcPort addr length offset final : Nat) (data : Bytes) (flashBad : Bool) (s : State) : CmdRes :=
  let chunk := decide (mode = 1)
  let size := if chunk then offset + length else length
  refuseIf [(chunk && decide (data.length < length), .cmdFormat), s.ownerOrLocal r.org,
    (!chunk && !s.portPresent srcPort, .notPresent), (decide (2 ≤ mode), .cmdFormat),
    (decide (length = 0) || (chunk && decide (1024 < length)), .cmdFormat), (decide (slotSize < size), .cmdFormat),
    (decide (2 ≤ final), .cmdFormat), (s.flag .modFwTrial 0 0, .fwBusy)] s (fun s =>
    let k := s.otherSlot
    let s := if chunk then s else s.dmaUse srcPort
    let s1 := if chunk then s.writeSlot k offset (data.take length)
      else ({ s with sys := { s.sys with slots := Tab.put [] s.sys.slots [k] (s.hostRead srcPort addr length) }, free := s.free + 1 })
    let s2 := s1.fwFlags
    if flashBad then
      (State.fwFlags { s1 with sys := { s1.sys with slots := Tab.put [] s1.sys.slots [k] [] } }).says .flashError
    else if (!chunk || decide (final = 1)) && !s2.slotValid k then s2.says .fwInvalid else s2.oks)

/-- FW_STAGE (R418). -/
def execFwStage (r : CmdRef) (mode srcPort addr length offset final : Nat) (data : Bytes) (flashBad : Bool) (s : State) :
    Host.Outcome State Fault Refusal :=
  .next (runCmd r 0x1005 (formWith [(.int 1, mode), (.int 1, srcPort), (.int 8, addr), (.int 8, length), (.int 8, offset),
    (.int 1, final)] data) 0xFFFF (cmdFwStage r mode srcPort addr length offset final data flashBad) s)

/-- What keeps FW_ACTIVATE back: a frozen DRAM controller, a clock change, a route change, a billet insertion (R416). -/
def State.activationBlocked (s : State) : Bool :=
  (List.range s.grade.anvils).any (fun a => s.flag .ddrStatusFrozen a 0) || s.pwr.change.isSome || decide (s.noc.phase ≠ 0) ||
    s.svc.insertion.isSome

/-- The 9 CPs restart on a slot. -/
def State.restartCps (s : State) (slot : Nat) (back : Bool) : State :=
  let s1 := (s.stewardRestart).setReg .modFwActive 0 0 slot
  let s2 := { s1 with sys := { s1.sys with stewardDown := true, activating := some back } }
  (List.range 9).foldl State.traceRestart s2

/-- FW_ACTIVATE: the slot goes on trial and the command completes before the CPs restart. -/
def cmdFwActivate (r : CmdRef) (flashBad : Bool) (s : State) : CmdRes :=
  refuseIf [s.ownerOrLocal r.org, (!s.slotValid s.otherSlot, .fwInvalid), (s.activationBlocked, .fwBusy), (flashBad, .flashError)] s (fun s =>
    let s1 := s.setRecord .modFwTrial 0 0 1
    let s2 := (({ s1 with sys := { s1.sys with trialFrom := s.reg .modFwActive 0 0 } }).persistAudit).answerNow r .ok
    (s2.restartCps s.otherSlot false).waits)

/-- FW_ACTIVATE (R416). -/
def execFwActivate (r : CmdRef) (flashBad : Bool) (s : State) : Host.Outcome State Fault Refusal :=
  .next (runCmd r 0x1006 [] 0xFFFF (cmdFwActivate r flashBad) s)

/-- STEWARD_READY: posted commands may start, the servo resumes in ACQUIRING, an insertion that waited for the steward is
released, and an activation raises its event (R416, R428, R432). -/
def State.stewardReady (s : State) : State :=
  if !s.sys.stewardDown then s
  else
    let act := s.sys.activating
    let s1 := { s with sys := { s.sys with stewardDown := false, activating := none } }
    let s2 := if act = some false then s1.fwEvent .ok else s1
    let s3 := if act.isSome ∧ s2.reg .timeStatusServo 0 0 ≠ 0 then s2.servoTo 1 else s2
    match s3.svc.insertion with
    | some i => if i.lbps = [] then s3.endInsertion i .ok else s3
    | none => s3

/-- STEWARD_READY (R416). -/
def execStewardReady (s : State) : Host.Outcome State Fault Refusal := .next s.stewardReady

/-- ACTIVATION_TIMEOUT: the CPs restart on the previous slot; TRIAL clears, with FW_INVALID (R416). -/
def State.activationTimeout (s : State) : State :=
  if s.sys.stewardDown ∧ s.sys.activating = some false then
    ((s.restartCps s.sys.trialFrom true).setRecord .modFwTrial 0 0 0).fwEvent .fwInvalid
  else s

/-- ACTIVATION_TIMEOUT (R416). -/
def execActivationTimeout (s : State) : Host.Outcome State Fault Refusal := .next s.activationTimeout

/-- FW_CONFIRM. -/
def cmdFwConfirm (r : CmdRef) (flashBad : Bool) (s : State) : CmdRes :=
  refuseIf [s.ownerOrLocal r.org, (!s.flag .modFwTrial 0 0, .fwNotTrial), (flashBad, .flashError)] s (fun s =>
    let k := s.reg .modFwActive 0 0
    let svn := max (s.reg .modFwSvnMin 0 0) (Config.packageSvn (s.slotBytes k))
    ((((s.setRecord .modFwTrial 0 0 0).setRecord .modFwNext 0 0 k).setRecord .modFwSvnMin 0 0 svn).fwFlags).oks)

/-- FW_CONFIRM (R416). -/
def execFwConfirm (r : CmdRef) (flashBad : Bool) (s : State) : Host.Outcome State Fault Refusal :=
  .next (runCmd r 0x1007 [] 0xFFFF (cmdFwConfirm r flashBad) s)

end Sys2Proof.Machine
end

