-- ==== Sys2Proof/Machine/Power.lean ====
section
/-! DEFINITION. Power and cooling (chapter 15): inlets, the line class, interruptions, rail faults, the auxiliary output,
coolant, the duty throttle, the ceilings and the clock change. -/

namespace Sys2Proof.Machine

/-- A POWER_EVENT of the bellows (R239). -/
def State.powerEvent (s : State) (code value : Nat) : State := s.traceItem 0x31 (.power code value)

/-! ## Ceilings and the clock (R27, R401, R403) -/

/-- The four ceilings on f_step, each with its code of MOD.CLK.LIMIT. -/
def State.ceilings (s : State) : List (Nat × Nat) :=
  [(s.reg .modClksetStepMhzMax 0 0, 0), (s.reg .svcTemperCeilMhz 0 0, 1), (s.pwr.thermal, 2), (s.pwr.powerCeil, 3)]

/-- The lowest ceiling, with the lowest code where several are equal. -/
def State.ceiling (s : State) : Nat × Nat :=
  s.ceilings.foldl (fun m c => if c.1 < m.1 then c else m) (s.reg .modClksetStepMhzMax 0 0, 0)

/-- MOD.CLK.LIMIT takes a code, with its event. -/
def State.setLimit (s : State) (code : Nat) : State :=
  if s.reg .modClkLimit 0 0 = code then s else (s.setReg .modClkLimit 0 0 code).powerEvent 4 code

/-- MOD.CLK.LIMIT follows the ceilings where no clock change is needed. -/
def State.limitFollow (s : State) : State :=
  if s.pwr.change = none ∧ s.ceiling.1 = s.reg .modClkStepMhz 0 0 then s.setLimit s.ceiling.2 else s

/-- The power block changed. -/
def State.modPwr (s : State) (f : Power → Power) : State := { s with pwr := f s.pwr }

/-- Partitions that execute take cause 0x5 (R161). -/
def State.throttleAll (s : State) : State :=
  (s.partitions.filter s.executing).foldl (fun s p => s.assertEntry p Cause.throttle) s

/-- A write of CLKSET (R14, R27): static while a partition executes, unless the module is in STANDBY or MAINTENANCE. -/
def State.wrClkset (s : State) (o : Origin) (v : Nat) : State :=
  let new := (s.fieldTake .modClksetStepMhzMax 0 (v % 65536)).getD 0
  if !s.isOwnerOrLocal o then s.auditRefuse o .notOwner 0xFFFF .modClksetStepMhzMax 0 0 v
  else if s.partitions.any s.executing ∧ !s.modQuiet then s.auditRefuse o .fieldClassViolation 0xFFFF .modClksetStepMhzMax 0 0 v
  else (State.auditDiff o 0xFFFF .modClksetStepMhzMax 0 0 s (s.setSetting .modClksetStepMhzMax 0 0 new)).limitFollow

/-- CLKSET_WRITE (R27). -/
def execClksetWrite (o : Origin) (value : Nat) (s : State) : Host.Outcome State Fault Refusal :=
  .next (if s.sys.off then s else s.wrClkset o value)

/-- CLOCK_CHANGE: f_step differs from the lowest ceiling, no change is under way, and 100 µs have passed since the last
release; every executing partition freezes (R161, R403). -/
def State.clockChange (s : State) : State :=
  let c := s.ceiling
  let apart := match s.pwr.lastRelease with
    | some t => decide (t + 100000 ≤ s.now)
    | none => true
  if s.sys.off ∨ s.sys.activating.isSome ∨ s.pwr.change.isSome ∨ !apart ∨ c.1 = s.reg .modClkStepMhz 0 0 then s
  else s.throttleAll.modPwr (fun x => { x with change := some ⟨c.1, c.2⟩ })

/-- CLOCK_CHANGE (R403). -/
def execClockChange (s : State) : Host.Outcome State Fault Refusal := .next s.clockChange

/-- CLOCK_CHANGE_RELEASE: the new f_step is in effect, and the partitions run on. -/
def State.clockRelease (s : State) : State :=
  match s.pwr.change with
  | none => s
  | some c =>
    let s1 := ((s.setReg .modClkStepMhz 0 0 c.target).powerEvent 3 c.target).setLimit c.code
    ((s1.modPwr (fun x => { x with change := none, lastRelease := some s.now })).unthrottle).limitFollow

/-- CLOCK_CHANGE_RELEASE (R403). -/
def execClockChangeRelease (s : State) : Host.Outcome State Fault Refusal := .next s.clockRelease

/-! ## Duty throttle and ceilings (R400 to R402) -/

/-- PWR.IN.LIMIT_W (R389). -/
def State.limitW (s : State) : Nat := min (s.reg .pwrCfgLimitW 0 0) (if s.flag .pwrStatusLowLine 0 0 then 1150 else 1600)

/-- Nanoseconds a partition has executed: its time less its stretch. -/
def State.ranNs (s : State) (p : Nat) : Nat :=
  let t := s.now
  t - (s.reg64 .partQuenchTotalLo .partQuenchTotalHi p 0 + (if s.frozen p then t - (s.part p).stretchFrom else 0))

/-- A burst may take the partition: it has executed for 1 µs since the last one. -/
def State.mayTake (s : State) (p : Nat) : Bool :=
  let x := Tab.get 0 s.pwr.ran [p]
  decide (x = 0) || decide (x - 1 + 1000 ≤ s.ranNs p)

/-- Partitions taken in order until their power reaches the excess, and what is left of it. -/
def takeUntil (power : Nat → Nat) : Nat → List Nat → List Nat × Nat
  | excess, [] => ([], excess)
  | excess, p :: l =>
    if excess = 0 then ([], 0)
    else
      let x := takeUntil power (excess - power p) l
      (p :: x.1, x.2)

/-- The partitions of a duty burst (R401): in round-robin order after the one frozen last; protected ones only once every
other executing partition has been taken. -/
def State.burstFor (s : State) (excess : Nat) (partW : List (Nat × Nat)) : List Nat :=
  let order := ((List.range 32).map (fun k => (s.pwr.lastTaken + 1 + k) % 32)).filter s.executing
  let free := order.filter (fun p => !s.flag .pwrPartProtect 0 p)
  let power := fun p => ((partW.find? (fun e => e.1 = p)).map (fun e => e.2)).getD 0
  let x := takeUntil power excess (free.filter s.mayTake)
  if free.all s.mayTake then x.1 ++ (takeUntil power x.2 (order.filter (fun p => s.flag .pwrPartProtect 0 p && s.mayTake p))).1
  else x.1

/-- The sample's part in DUTY.PPM and STATUS.DUTY. -/
def State.dutyCount (s : State) (frozen executing : Nat) : State :=
  let w := (s.pwr.window ++ [(s.now, frozen, executing)]).filter (fun e => decide (s.now < e.1 + 10000000))
  let f := w.foldl (fun n e => n + e.2.1) 0
  let r := w.foldl (fun n e => n + e.2.2) 0
  ((s.modPwr (fun x => { x with window := w })).setReg .pwrDutyPpm 0 0 (if r = 0 then 0 else min 1048575 (f * 1000000 / r))).setFlag
    .pwrStatusDuty 0 0 (decide (f ≠ 0))

/-- INPUT_POWER_SAMPLE: the 100 µs mean, and a duty burst where it exceeds the limit; none starts during a clock change or
another burst. -/
def State.powerSample (s : State) (totalW : Nat) (partW : List (Nat × Nat)) : State :=
  if s.sys.off then s
  else
    let s0 := s.setReg .pwrInTotalW 0 0 (min 0xFFFF totalW)
    let l := if s.limitW < totalW ∧ s.pwr.change = none ∧ s.pwr.burst = [] then s0.burstFor (totalW - s.limitW) partW else []
    let n := (s.partitions.filter s.executing).length
    let s1 := l.foldl (fun s p => (s.assertEntry p Cause.throttle).powerEvent 1 p) s0
    (s1.modPwr (fun x => { x with
      burst := x.burst ++ l, lastTaken := if l = [] then x.lastTaken else l.getLastD 31 })).dutyCount l.length n

/-- INPUT_POWER_SAMPLE (R401). -/
def execInputPowerSample (totalW : Nat) (partW : List (Nat × Nat)) (s : State) : Host.Outcome State Fault Refusal :=
  .next (s.powerSample totalW partW)

/-- DUTY_BURST_END: the burst's partitions run on. -/
def State.burstEnd (s : State) : State :=
  let l := s.pwr.burst
  let s1 := l.foldl (fun s p => s.powerEvent 2 p) s
  (s1.modPwr (fun x => { x with
    burst := []
    ran := l.foldl (fun t p => Tab.put 0 t [p] (s.ranNs p + 1)) x.ran })).unthrottle

/-- DUTY_BURST_END (R401). -/
def execDutyBurstEnd (s : State) : Host.Outcome State Fault Refusal := .next s.burstEnd

/-- The bellows' ceilings set. -/
def State.setCeil (s : State) (thermal power : Nat) : State :=
  ((s.modPwr (fun x => { x with thermal := thermal, powerCeil := power })).setReg .pwrBellowsCeilMhz 0 0 (min thermal power)).limitFollow

/-- THERMAL_CEILING_UPDATE: the hottest junction against the target. -/
def State.thermalUpdate (s : State) (anvil tj : Nat) (cool1s : Bool) : State :=
  if s.sys.off then s
  else
    let s1 := (s.setReg .pwrTjAnvil 0 0 anvil).setReg .pwrTjMaxC 0 0 (min 255 tj)
    let c := s.pwr.thermal
    if s.sys.stewardDown then s1
    else if s.reg .pwrCfgTjTargetC 0 0 < tj then s1.setCeil (max 800 (c - 25)) s.pwr.powerCeil
    else if cool1s ∧ tj + 5 ≤ s.reg .pwrCfgTjTargetC 0 0 then s1.setCeil (min 1800 (c + 25)) s.pwr.powerCeil else s1

/-- THERMAL_CEILING_UPDATE (R400). -/
def execThermalCeilingUpdate (anvil tj : Nat) (cool1s : Bool) (s : State) : Host.Outcome State Fault Refusal :=
  .next (s.thermalUpdate anvil tj cool1s)

/-- POWER_CEILING_UPDATE: DUTY.PPM against its bounds. -/
def State.powerUpdate (s : State) (meanW : Nat) (idle1s : Bool) : State :=
  let c := s.pwr.powerCeil
  let d := s.reg .pwrDutyPpm 0 0
  if s.sys.off ∨ s.sys.stewardDown then s
  else if 100000 < d then s.setCeil s.pwr.thermal (max 800 (c - 25))
  else if d = 0 ∧ idle1s ∧ 10 * meanW ≤ 9 * s.limitW then s.setCeil s.pwr.thermal (min 1800 (c + 25)) else s

/-- POWER_CEILING_UPDATE (R401). -/
def execPowerCeilingUpdate (meanW : Nat) (idle1s : Bool) (s : State) : Host.Outcome State Fault Refusal :=
  .next (s.powerUpdate meanW idle1s)

/-! ## Inlets (R388 to R390) -/

/-- The field of a feed. -/
def feedFld (i : Nat) : Fld := if i = 0 then .pwrStatusFeedA else .pwrStatusFeedB

/-- A feed is in service. -/
def State.feed (s : State) (i : Nat) : Bool := s.flag (feedFld i) 0 0

/-- The input-change event (R404). -/
def State.inputEvent (s : State) (st : Status) : State :=
  s.mEvent 0x14 st.num (s.reg .pwrStatusFeedA 0 0 + 2 * s.reg .pwrStatusFeedB 0 0 + 4 * s.reg .pwrStatusLowLine 0 0 +
    8 * s.reg .pwrStatusDropout 0 0)

/-- The RMS voltage lies in the range of R388. -/
def inRange (volts : Nat) : Bool := decide (85 ≤ volts ∧ volts ≤ 265)

/-- An interruption ends before 50 ms: the freeze releases, and the partitions count it as external (R390, R438). -/
def State.inputBack (s : State) : State :=
  match s.pwr.interruption with
  | none => s
  | some t =>
    let s1 := s.partitions.foldl (fun s p => s.bump .svcAvailExtMs 0 p ((s.now - t) / 1000000)) s
    (s1.modPwr (fun x => { x with interruption := none, dropoutHeld := false })).unthrottle

/-- INLET_ENTERS_SERVICE. A module that is OFF powers up, unless its bus was dumped: then it takes 10 s without an inlet, and
whether they have passed is not the module's to see (a free value). -/
def State.inletIn (s : State) (i volts : Nat) : State :=
  if 2 ≤ i ∨ !inRange volts ∨ s.feed i then s
  else
    let none_ := !s.feed 0 && !s.feed 1
    let s1 := s.setReg (feedFld i) 0 0 1
    if s.sys.off then
      if s.pwr.dumped then
        if !none_ then s1
        else
          let b := s1.takeBit
          if b.1 then b.2.powerCycle s.sys.lastReset else b.2
      else s1.powerCycle s.sys.lastReset
    else (s1.inputBack).inputEvent .ok

/-- INLET_ENTERS_SERVICE (R388). -/
def execInletEntersService (i volts : Nat) (s : State) : Host.Outcome State Fault Refusal := .next (s.inletIn i volts)

/-- INLET_LEAVES_SERVICE: the other inlet takes the load, or an interruption begins. -/
def State.inletOut (s : State) (i volts : Nat) : State :=
  if 2 ≤ i ∨ inRange volts ∨ !s.feed i then s
  else
    let s1 := s.setReg (feedFld i) 0 0 0
    if s.sys.off then s1
    else
      let s2 := s1.inputEvent .ok
      if s2.feed 0 || s2.feed 1 then s2
      else (s2.bump .pwrInDropoutCount 0 0 1).modPwr (fun x => { x with interruption := some s.now })

/-- INLET_LEAVES_SERVICE (R388). -/
def execInletLeavesService (i volts : Nat) (s : State) : Host.Outcome State Fault Refusal := .next (s.inletOut i volts)

/-- SHARE_FAULT (R388): sharing has stayed outside 40 to 60 % for 1 s. -/
def execShareFault (s : State) : Host.Outcome State Fault Refusal :=
  .next (if s.feed 0 ∧ s.feed 1 ∧ !s.sys.off then
    (s.setReg .pwrStatusShare 0 0 1).mError .pwrShare (Fld.addr .pwrStatusShare 0 0) else s)

/-- LOW_LINE_ENTRY: the power ceiling comes down to LOW_MHZ at once (R389, R402). -/
def State.lowLine (s : State) : State :=
  if s.sys.off ∨ s.flag .pwrStatusLowLine 0 0 ∨ (!s.feed 0 ∧ !s.feed 1) then s
  else
    let c := s.pwr.powerCeil
    let s1 := ((s.setReg .pwrStatusLowLine 0 0 1).inputEvent .ok).modPwr (fun x => { x with beforeLow := some c })
    s1.setCeil s.pwr.thermal (min c (s.reg .pwrCfgLowMhz 0 0))

/-- LOW_LINE_ENTRY (R389). -/
def execLowLineEntry (s : State) : Host.Outcome State Fault Refusal := .next s.lowLine

/-- HIGH_LINE_RETURN: the power ceiling in effect at the entry is restored. -/
def State.highLine (s : State) : State :=
  if s.sys.off ∨ !s.flag .pwrStatusLowLine 0 0 ∨ (!s.feed 0 ∧ !s.feed 1) then s
  else
    let s1 := ((s.setReg .pwrStatusLowLine 0 0 0).inputEvent .ok).modPwr (fun x => { x with beforeLow := none })
    s1.setCeil s.pwr.thermal (s.pwr.beforeLow.getD s.pwr.powerCeil)

/-- HIGH_LINE_RETURN (R389). -/
def execHighLineReturn (s : State) : Host.Outcome State Fault Refusal := .next s.highLine

/-- An interruption has lasted a time in ns. -/
def State.inputGone (s : State) (ns : Nat) : Bool := s.pwr.interruption.any (fun t => decide (t + ns ≤ s.now))

/-- DROPOUT_FREEZE: 15 ms without input. -/
def State.dropout (s : State) : State :=
  if !s.inputGone 15000000 ∨ s.pwr.dropoutHeld then s
  else ((s.throttleAll.setReg .pwrStatusDropout 0 0 1).modPwr (fun x => { x with dropoutHeld := true })).inputEvent .ok

/-- DROPOUT_FREEZE (R390). -/
def execDropoutFreeze (s : State) : Host.Outcome State Fault Refusal := .next s.dropout

/-- Up to 256 unpersisted audit entries persisted, oldest first; the rest are counted for the next power-up. -/
def State.persistSome (s : State) : State :=
  let h := s.host
  let l := h.log.filter (fun e => decide (h.persisted ≤ e.seq))
  let go := l.take 256
  let upTo := match go.getLast? with
    | some e => e.seq + 1
    | none => h.persisted
  { s with
    host := { h with flashLog := (h.flashLog ++ go).drop ((h.flashLog ++ go).length - auditFlash), persisted := upTo }
    sys := { s.sys with unpersisted := l.length - go.length } }

/-- POWER_LOSS_SHUTDOWN: 50 ms without input. -/
def State.powerLoss (s : State) : State :=
  if !s.inputGone 50000000 ∨ s.sys.off then s
  else (s.inputEvent .pwrInputLost).persistSome.powerOff (if s.sys.moduleFault then 3 else 2)

/-- POWER_LOSS_SHUTDOWN (R390). -/
def execPowerLossShutdown (s : State) : Host.Outcome State Fault Refusal := .next s.powerLoss

/-! ## Rail faults (R395 to R397) -/

/-- The anvil whose domain a rail belongs to, and whether it is a rail of the control island. -/
def railAnvil (rail : Nat) : Option (Nat × Bool) :=
  if 0x40 ≤ rail ∧ rail < 0x78 then
    some (rail % 8, decide (0x48 ≤ rail ∧ rail < 0x50) || decide (0x70 ≤ rail))
  else none

/-- A rail of the grade (R393). -/
def State.hasRail (s : State) (rail : Nat) : Bool :=
  if rail < 0x40 then decide (rail < s.grade.regions)
  else match railAnvil rail with
    | some (a, _) => decide (a < s.grade.anvils)
    | none => decide (rail < 0x80)

/-- A rail fault is recorded (R78, R404, R405). -/
def State.recordRail (s : State) (rail kind : Nat) : State :=
  let s1 := if s.flag .pwrRailFirstValid 0 0 then s
    else ((s.setReg .pwrRailFirstValid 0 0 1).setReg .pwrRailFirstKind 0 0 kind).setReg .pwrRailFirstRail 0 0 rail
  ((s1.bump .pwrRailFaultCount 0 0 1).powerEvent 5 rail).mEvent 0x15 Status.pwrRailFault.num (rail + 256 * kind)

/-- The requests that lost endpoints had started complete at their requester with NOC_FENCED (R396). -/
def State.fenceTags (s : State) (lost : NocTag → Bool) : State :=
  let l := s.noc.tags.filter (fun e => e.2.any (fun (t : NocTag) => !t.dead && lost t))
  l.foldl (fun s e =>
    match e.2 with
    | none => s
    | some t => (s.setTag (e.1.getD 0 0) (e.1.getD 1 0) none).nocResult t.src (e.1.getD 1 0) .nocFenced []) s

/-- Executing partitions that a lost domain affects take cause 0xB (R397). -/
def State.quenchLost (s : State) (hit : Nat → Bool) : State :=
  ((s.partitions.filter s.executing).filter hit).foldl (fun s p => s.assertEntry p Cause.uncorr) s

/-- The partition has a region, an allocation or a bound bundle on an anvil. -/
def State.onAnvil (s : State) (a p : Nat) : Bool :=
  (s.anvilsOf p).contains a || (s.part p).allocs.any (fun x => decide (x.1 = a)) ||
    s.bound.any (fun k => decide (s.reg .wlStreamBindPart k 0 = p) && bit (s.reg .wlStreamBindBundles k 0) a)

/-- The steward's CP restarts elsewhere: the steward moves to anvil 1; a failure there is a module fault (R432, R436). -/
def State.failover (s : State) : State :=
  if s.steward = 1 then s.moduleFault (Fld.addr .svcStewardAnvil 0 0)
  else
    let c := s.steward
    let s1 := (s.stewardRestart).stewardMoved
    ({ s1 with sys := { s1.sys with stewardDown := true } }).traceRestart c

/-- An anvil is lost. -/
def State.loseAnvil (s : State) (a : Nat) : State :=
  let s1 := (s.quenchLost (s.onAnvil a)).fenceTags (fun t => decide (t.src / 32 = a ∧ t.src ≠ 0xFF))
  let s2 := (List.range (if a < 2 then 4 else 3)).foldl (fun s l => if s.linkUp a l then s.channelDown a l else s) s1
  s2.anvilDown a

/-- RAIL_FAULT: a rail is found at fault and switched off; the domains it feeds follow. -/
def State.railFault (s : State) (rail kind : Nat) : State :=
  if s.sys.off ∨ !s.hasRail rail ∨ kind = 0 ∨ 6 < kind then s
  else
    let s0 := s.recordRail rail kind
    let mark := fun (k : Key) (s : State) => if kind = 1 then s.modPwr (fun x => { x with failed := Tab.put false x.failed k true }) else s
    if rail < 0x40 then
      let s1 := mark [0, rail] ((s0.quenchLost (fun p => bit (s.rgnMask p) rail)).fenceTags (fun t => decide (t.region = some rail)))
      if s1.regionOn rail then s1.regionDown rail else s1
    else match railAnvil rail with
      | some (a, island) =>
        let s1 := mark [1, a] (s0.loseAnvil a)
        if !island then s1
        else
          let s2 := { s1 with
            sys := { s1.sys with islandOff := Tab.put false s1.sys.islandOff [a] true }
            trace := { s1.trace with srcs := Tab.keep (fun k => decide (k.getD 0 0 ≠ a)) s1.trace.srcs } }
          if s2.steward = a ∧ s2.sys.steward then s2.failover else s2
      | none =>
        if rail < 0x7C then
          s0.modPwr (fun x => { x with failed := Tab.put false x.failed [2, rail - 0x78] true })
        else if rail = 0x7E then
          ((s0.modPwr (fun x => { x with auxLatched := true })).setReg .pwrStatusAuxFault 0 0 1).mError .pwrAuxFault
            (Fld.addr .pwrStatusAuxFault 0 0)
        else
          let s1 := (s0.moduleFault (Fld.addr .pwrRailFirstValid 0 0)).powerOff 3
          s1.modPwr (fun x => { x with dumped := true })

/-- RAIL_FAULT (R395). -/
def execRailFault (rail kind : Nat) (s : State) : Host.Outcome State Fault Refusal := .next (s.railFault rail kind)

/-- THERMAL_TRIP (R400): a rail fault of VANV, of one anvil or of every one. -/
def State.thermalTrip (s : State) (anvil : Option Nat) : State :=
  let l := match anvil with
    | some a => [a].filter (fun x => decide (x < s.grade.anvils))
    | none => List.range s.grade.anvils
  if s.sys.off ∨ l = [] then s
  else ((l.foldl (fun s a => s.railFault (0x40 + a) 6) s).setReg .pwrStatusTrip 0 0 1).mError .pwrThermalTrip
    (Fld.addr .pwrStatusTrip 0 0)

/-- THERMAL_TRIP (R400). -/
def execThermalTrip (anvil : Option Nat) (s : State) : Host.Outcome State Fault Refusal := .next (s.thermalTrip anvil)

/-! ## Coolant and the auxiliary output (R398, R399) -/

/-- One of the two coolant bits takes a value; a change raises its events. -/
def State.coolBit (f : Fld) (b : Bool) (s : State) : State :=
  if s.flag f 0 0 = b then s
  else
    let s1 := s.setFlag f 0 0 b
    (s1.mEvent 0x16 0 (s1.reg .pwrStatusCoolFlow 0 0 + 2 * s1.reg .pwrStatusCoolTemp 0 0 +
      2 ^ 16 * s1.reg .pwrCoolFlowCl 0 0)).mError .pwrCoolant (f.addr 0 0)

/-- COOLANT_SAMPLE: what is measured every 100 ms. -/
def State.coolant (s : State) (inDc outDc flowCl : Nat) : State :=
  if s.sys.off then s
  else
    let s1 := ((s.setReg .pwrCoolInDc 0 0 (min 1023 inDc)).setReg .pwrCoolOutDc 0 0 (min 1023 outDc)).setReg .pwrCoolFlowCl 0 0
      (min 4095 flowCl)
    (s1.coolBit .pwrStatusCoolTemp (decide (inDc < 150 ∨ 450 < inDc))).coolBit .pwrStatusCoolFlow (decide (flowCl < 200))

/-- COOLANT_SAMPLE (R399). -/
def execCoolantSample (inDc outDc flowCl : Nat) (s : State) : Host.Outcome State Fault Refusal :=
  .next (s.coolant inDc outDc flowCl)

/-- AUX12 is on. -/
def State.auxOn (s : State) : Bool := s.flag .pwrAuxEn 0 0 && !s.pwr.auxLatched && !s.sys.off

/-- AUX_CURRENT_LIMIT (R398): the output has stayed in current limit for 10 ms and switches off. -/
def execAuxCurrentLimit (s : State) : Host.Outcome State Fault Refusal :=
  .next (if s.auxOn then
    ((s.modPwr (fun x => { x with auxLatched := true })).setReg .pwrStatusAuxFault 0 0 1).mError .pwrAuxFault
      (Fld.addr .pwrStatusAuxFault 0 0)
  else s)

/-- A write of PWR.AUX.EN: 0 lets a switched-off output come on again with the next 1. -/
def State.wrAuxEn (s : State) (o : Origin) (en : Nat) : State :=
  if !s.isOwnerOrLocal o then s.auditRefuse o .notOwner 0xFFFF .pwrAuxEn 0 0 en
  else
    let s1 := State.auditDiff o 0xFFFF .pwrAuxEn 0 0 s (s.setSetting .pwrAuxEn 0 0 (en % 2))
    if en % 2 = 0 then s1.modPwr (fun x => { x with auxLatched := false }) else s1

/-- AUX_ENABLE (R398). -/
def execAuxEnable (o : Origin) (en : Nat) (s : State) : Host.Outcome State Fault Refusal :=
  .next (if s.sys.off then s else s.wrAuxEn o en)

end Sys2Proof.Machine
end

