-- ==== Sys2Proof/Machine/Service.lean ====
section
/-! DEFINITION. Service life (chapter 17): temper monitors and the margin re-plan, store scrub, heartbeats, links taken out of
service, and the maintenance commands. -/

namespace Sys2Proof.Machine

/-! ## Margins (R421, R422) -/

/-- A tap enters the margin: one of the physical BPs beside it serves a logical BP; the billet tap (monitor 4), once a billet
serves. -/
def State.tapIn (s : State) (a h m t : Nat) : Bool :=
  let mapped := fun n => (List.range 32).any (fun k =>
    s.flag .hearthMapBilletValid (hInst a h) k && decide (s.reg .hearthMapBilletLbp (hInst a h) k = n))
  if m = 4 then decide (t = 0) && (List.range 32).any (fun k => s.flag .hearthMapBilletValid (hInst a h) k)
  else (List.range 32).any (fun k =>
    let n := 32 * (8 * m + t) + k
    !Tab.get false s.svc.failed [a, h, n] && !mapped n)

/-- The last reading of a tap, in MHz. -/
def State.tapMhz (s : State) (a h m t : Nat) : Option Nat :=
  let x := Tab.get 0 s.svc.taps [a, h, m, t]
  if x = 0 then none else some (x - 1)

/-- The margin of a tap, in per mille of C. -/
def State.marginOf (s : State) (mhz : Nat) : Int :=
  let c := s.reg .svcTemperCeilMhz 0 0
  (1000 * ((mhz : Int) - (c : Int))) / (c : Int)

/-- The lowest of the taps of a monitor that enter the margin and have a reading: tap and MHz. -/
def State.lowestTap (s : State) (a h m : Nat) : Option (Nat × Nat) :=
  (List.range (if m = 4 then 1 else 8)).foldl (fun best t =>
    match s.tapMhz a h m t with
    | none => best
    | some f =>
      if !s.tapIn a h m t then best
      else match best with
        | none => some (t, f)
        | some b => if f < b.2 then some (t, f) else best) none

/-- The lowest tap of a region: hearth, monitor, tap and MHz. -/
def State.regionTap (s : State) (r : Nat) : Option (Nat × Nat × Nat × Nat) :=
  (hearthsOf r).foldl (fun best ah => (List.range 5).foldl (fun best m =>
    match s.lowestTap ah.1 ah.2 m with
    | none => best
    | some (t, f) => match best with
      | none => some (ah.2, m, t, f)
      | some b => if f < b.2.2.2 then some (ah.2, m, t, f) else best) best) none

/-- A margin as its register holds it. -/
def marginReg (m : Option Int) : Nat :=
  match m with
  | none => 0x7FFF
  | some x => satSigned 16 x

/-- HEARTH.TEMPER of a hearth follows the readings. -/
def State.hearthMargins (s : State) (ah : Nat × Nat) : State :=
  let i := hInst ah.1 ah.2
  let s1 := (List.range 4).foldl (fun s m =>
    let x := s.lowestTap ah.1 ah.2 m
    (s.setReg .hearthTemperWorstTap i m ((x.map (fun e => e.1)).getD 0)).setReg .hearthTemperMarginPm i m
      (marginReg (x.map (fun e => s.marginOf e.2)))) s
  (s1.setFlag .hearthTemperBilletIn i 0 (s1.tapIn ah.1 ah.2 4 0)).setReg .hearthTemperBilletPm i 0
    (marginReg ((s1.tapMhz ah.1 ah.2 4 0).map s1.marginOf))

/-- The powered regions. -/
def State.powered (s : State) : List Nat := (List.range s.grade.regions).filter s.regionOn

/-- The margins of every powered region. -/
def State.allMargins (s : State) : State :=
  s.powered.foldl (fun s r =>
    let s1 := (hearthsOf r).foldl State.hearthMargins s
    s1.setReg .svcRegionMarginPm 0 r (marginReg ((s1.regionTap r).map (fun e => s1.marginOf e.2.2.2)))) s

/-- A region is below the guard. -/
def State.belowGuard (s : State) (r : Nat) : Bool :=
  match s.regionTap r with
  | some e => decide (s.marginOf e.2.2.2 < (s.reg .svcTemperGuardPm 0 0 : Int))
  | none => false

/-! ## The re-plan (R424 to R426) -/

/-- The event and the audit entry of an action (R440). -/
def State.temperAction (s : State) (r step value : Nat) : State :=
  (s.mEvent 0x1A 0 (r + 256 * step + 2 ^ 16 * value)).auditAction .ok 0xFFFF (Fld.addr .svcRegionVcoreMv 0 r)

/-- Step 2 may act: the lowest tap's group is not served by billets, and its hearth has 32 free ones. -/
def State.groupToMove (s : State) (r : Nat) : Option (Nat × Nat) :=
  match s.regionTap r with
  | none => none
  | some (h, m, t, _) =>
    let g := 8 * m + t
    let served := (List.range 32).any (fun k => s.flag .hearthMapBilletValid (hInst (r / 8) h) k &&
      decide (s.reg .hearthMapBilletLbp (hInst (r / 8) h) k / 32 = g))
    if m < 4 ∧ !served ∧ (s.freeBillets (r / 8) h).length = 32 then some (h, g) else none

/-- The re-plan goes on or ends: the command that asked for it completes. -/
def State.replanEnd (s : State) (ref : Option CmdRef) (st : Status) : State :=
  let s1 := { s with svc := { s.svc with replan := none } }
  match ref with
  | some r => s1.done r st
  | none => s1

/-- One action of the re-plan, if a region needs one: VCORE, a group to billets, or C; at the floor TEMPER_LIMIT. -/
def State.replanGo (s : State) (ref : Option CmdRef) : State :=
  let rs := s.powered.filter s.belowGuard
  let vcore := fun r => s.reg .svcRegionVcoreMv 0 r
  let c := s.reg .svcTemperCeilMhz 0 0
  let wait := fun (x : State) => { x with svc := { x.svc with replan := some ref } }
  match rs with
  | [] => s.replanEnd ref .ok
  | _ :: _ =>
    match rs.find? (fun r => decide (vcore r < 850) || (s.groupToMove r).isSome || decide (800 < c)) with
    | none =>
      let s1 := rs.foldl (fun s r => s.temperAction r 3 c) s
      ((s1.condition 8).mError .temperLimit (Fld.addr .svcCond 0 0)).replanEnd ref .temperLimit
    | some r =>
      if vcore r < 850 then
        let v := min 850 (vcore r + 5)
        wait ((s.setRecord .svcRegionVcoreMv 0 r v).temperAction r 0 v)
      else match s.groupToMove r with
        | some (h, g) => wait ((s.requestInsertion (r / 8) h ((List.range 32).map (fun k => 32 * g + k)) none).billetsLow.temperAction
            r 1 (vcore r))
        | none => wait (((s.setRecord .svcTemperCeilMhz 0 0 (max 800 (c - 25))).limitFollow).temperAction r 2 (max 800 (c - 25)))

/-- A sample or an action has to wait: a billet insertion, a clock change or a route change is in progress, or no steward
runs (R426). -/
def State.temperWaits (s : State) : Bool :=
  s.sys.off || !s.sys.steward || s.sys.stewardDown || s.svc.insertion.isSome || decide (s.svc.queued ≠ []) ||
    s.pwr.change.isSome || decide (s.noc.phase ≠ 0)

/-- Readings taken: the margins follow, and a tap that fails the clock in use retires its region (R425). -/
def State.readTaps (s : State) (taps : List TapReading) : State :=
  let l := taps.filter (fun x => s.regionOn (regionOf x.anvil x.hearth))
  let s1 := { s with svc := { s.svc with
    taps := l.foldl (fun t (x : TapReading) => Tab.put 0 t [x.anvil, x.hearth, x.monitor, if x.monitor = 4 then 0 else x.tap] (x.fmax + 1)) s.svc.taps } }
  let bad := l.filter (fun x => s1.tapIn x.anvil x.hearth x.monitor (if x.monitor = 4 then 0 else x.tap) &&
    decide (x.raw < s1.reg .modClkStepMhz 0 0))
  ((bad.map (fun x => regionOf x.anvil x.hearth)).dedup).foldl State.retireRegion s1.allMargins

/-- TEMPER_SAMPLE: every tap of every powered region; the re-plan starts where a region is below the guard. -/
def State.temperSample (s : State) (taps : List TapReading) : State :=
  if s.temperWaits then s
  else
    let s1 := (s.bump .svcTemperSamples 0 0 1).readTaps taps
    match s1.svc.replan with
    | none => s1.replanGo none
    | some _ => s1

/-- TEMPER_SAMPLE (R422). -/
def execTemperSample (taps : List TapReading) (s : State) : Host.Outcome State Fault Refusal := .next (s.temperSample taps)

/-- TEMPER_RESAMPLE: the readings after an action, and the next action. -/
def State.temperResample (s : State) (taps : List TapReading) : State :=
  match s.svc.replan with
  | none => s
  | some ref => if s.temperWaits then s else (s.readTaps taps).replanGo ref

/-- TEMPER_RESAMPLE (R424). -/
def execTemperResample (taps : List TapReading) (s : State) : Host.Outcome State Fault Refusal := .next (s.temperResample taps)

/-- TEMPER_REPLAN: 700 mV and 1,800 MHz, and R424 from there. -/
def cmdTemperReplan (r : CmdRef) (s : State) : CmdRes :=
  refuseIf [s.ownerOrLocal r.org, (decide (s.modMode ≠ Mod.maintenance), .modeInvalid),
    (s.svc.insertion.isSome || decide (s.svc.queued ≠ []) || s.svc.replan.isSome, .svcBusy)] s (fun s =>
    let s1 := s.powered.foldl (fun s n => s.setRecord .svcRegionVcoreMv 0 n 700) s
    let s2 := (s1.setRecord .svcTemperCeilMhz 0 0 1800).limitFollow
    ({ s2 with svc := { s2.svc with replan := some (some r) } }).waits)

/-- TEMPER_REPLAN (R434). -/
def execTemperReplan (r : CmdRef) (s : State) : Host.Outcome State Fault Refusal :=
  .next (runCmd r 0x1102 [] 0xFFFF (cmdTemperReplan r) s)

/-! ## Store scrub (R431) -/

/-- A word of a step that its partition never executes has a known value: it is rewritten. -/
def Fab.rewriteUnused (f : Fab) (st : Store) (k : Key) : Fab :=
  let f1 := { f with flaws := Tab.put 0 f.flaws (st.ctorIdx :: k) 0 }
  match st with
  | .instr => { f1 with instr := Tab.put 0 f1.instr k 0 }
  | .route => { f1 with route := Tab.put 0 f1.route k 0 }
  | .egress => { f1 with egress := Tab.put 0 f1.egress k 0 }
  | .inject => { f1 with inject := Tab.put 0 f1.inject k 0 }
  | .dict => f
  | .bank => f
  | .link => f

/-- The step of a word: none for a dictionary entry. -/
def stepOfWord (st : Store) (k : Key) : Option Nat :=
  match st with
  | .instr => k[3]?
  | .route => k[3]?
  | .egress => k[2]?
  | .inject => k[2]?
  | .dict => none
  | .bank => none
  | .link => none

/-- A correction that a scrubber makes is counted where the store's own are. -/
def State.scrubCount (s : State) (st : Store) (k : Key) : State :=
  let i := hInst (k.getD 0 0) (k.getD 1 0)
  if st = .egress ∨ st = .inject then (s.bump .hearthEgrCorrCount i 0 1).setReg .hearthEgrStatusCorr i 0 1
  else (s.bump .hearthErrCorrCount i 0 1).setReg .hearthErrStatusCorr i 0 1

/-- STORE_SCRUB: one word of a hearth of an assigned region is read, corrected and written back. -/
def State.storeScrub (s : State) (st : Store) (k : Key) : State :=
  let a := k.getD 0 0
  let h := k.getD 1 0
  let bp := decide (st = .instr) || decide (st = .route)
  match s.hearthPart a h with
  | none => s
  | some p =>
    let e := flawOf s.fab st k
    if st = .bank ∨ st = .link ∨ e = 0 ∨ !s.regionOn (regionOf a h) then s
    else if e = 1 then
      let s1 := { s.scrubCount st k with fab := { s.fab with flaws := Tab.put 0 s.fab.flaws (st.ctorIdx :: k) 0 } }
      (if bp then s1.noteCorr st k else s1).careFor a h
    else
      let s1 := if (stepOfWord st k).any (fun t => decide (s.reg .partSchedSImg p 0 ≤ t)) then { s with fab := s.fab.rewriteUnused st k } else s
      (if bp then s1.noteUncorr a h (k.getD 2 0) else s1).careFor a h

/-- STORE_SCRUB (R431). -/
def execStoreScrub (st : Store) (key : List Nat) (s : State) : Host.Outcome State Fault Refusal := .next (s.storeScrub st key)

/-! ## Heartbeats and links (R97, R432, R436) -/

/-- HEARTBEAT_TIMEOUT: the steward moves; another CP restarts, and is out after 3 failed restarts within 10 minutes. -/
def State.heartbeat (s : State) (c : Nat) : State :=
  if s.sys.off ∨ s.grade.anvils ≤ c ∨ s.sys.stewardDown ∨ bit (s.reg .svcCpout 0 0) c then s
  else if s.sys.steward ∧ s.steward = c then s.failover
  else
    let l := (Tab.get [] s.svc.restarts [c]).filter (fun t => decide (s.now < t + 600000000000))
    let s1 := { s with svc := { s.svc with restarts := Tab.put [] s.svc.restarts [c] (l ++ [s.now]) } }
    if 3 ≤ l.length then (s1.setReg .svcCpout 0 0 (setBit (s1.reg .svcCpout 0 0) c true)).condition 1 else s1.traceRestart c

/-- HEARTBEAT_TIMEOUT (R432). -/
def execHeartbeatTimeout (c : Nat) (s : State) : Host.Outcome State Fault Refusal := .next (s.heartbeat c)

/-- A partition routes emulation bits to a receiving link port. -/
def State.routesLink (s : State) (a l p : Nat) : Bool :=
  s.fab.egress.any (fun e =>
    decide (e.1.getD 0 0 = linkPeer a l) && s.inPart p (e.1.getD 0 0) (e.1.getD 1 0) && decide (e.1.getD 2 0 < s.sSteps p) &&
      (match decodeEgr s.grade (e.1.getD 0 0) (e.1.getD 1 0) e.2.toNat with
        | .link _ _ k _ => decide (k = linkFacing l)
        | _ => false))

/-- A link is out of service for good: both its ports (R432). -/
def State.linkOut (s : State) (a l : Nat) : State :=
  (s.setRecord .svcLinkOut 0 0 (setBit (setBit (s.reg .svcLinkOut 0 0) (3 * a + l) true) (3 * linkPeer a l + linkFacing l) true)).condition 2

/-- The word that reaches a receiving link port next reads 0. -/
def State.zeroWord (s : State) (a l : Nat) : State :=
  { s with fab := { s.fab with flight := s.fab.flight.map (fun (f : Flight) =>
    if f.link = some (3 * a + l) ∧ f.left = 1 + s.reg .linkRxdelayPad (3 * a + l) (f.hearth / 16) then { f with value := false } else f) } }

/-- LINK_UNCORRECTABLE_WORD: the word reads 0, every partition that routes over the link takes cause 0xB, and the third word
within 1 s takes the link out of service. -/
def State.linkWord (s : State) (a l : Nat) : State :=
  if !Grade.hasLink s.grade a l ∨ !s.anvilOn a ∨ bit (s.reg .svcLinkOut 0 0) (3 * a + l) then s
  else
    let addr := Fld.addr .linkErrUncorr (3 * a + l) 0
    let s1 := (s.zeroWord a l).setReg .linkErrUncorr (3 * a + l) 0 1
    let s2 := (s1.partitions.filter (s1.routesLink a l)).foldl (fun s p => (s.pError p .uncorrectable addr).assertEntry p Cause.uncorr) s1
    let times := (Tab.get [] s.svc.linkErrs [a, l]).filter (fun t => decide (s.now < t + 1000000000)) ++ [s.now]
    let s3 := { s2 with svc := { s2.svc with linkErrs := Tab.put [] s2.svc.linkErrs [a, l] times } }
    if 3 ≤ times.length then s3.linkOut a l else s3

/-- LINK_UNCORRECTABLE_WORD (R97). -/
def execLinkUncorrectableWord (a port : Nat) (s : State) : Host.Outcome State Fault Refusal := .next (s.linkWord a port)

/-- LINK_RETRAIN (R432): a retrain that fails after an uncorrectable word takes the link out of service. -/
def execLinkRetrain (a port : Nat) (ok : Bool) (s : State) : Host.Outcome State Fault Refusal :=
  .next (if Grade.hasLink s.grade a port ∧ s.anvilOn a ∧ Tab.get [] s.svc.linkErrs [a, port] ≠ [] ∧ !ok ∧
      !bit (s.reg .svcLinkOut 0 0) (3 * a + port) then s.linkOut a port else s)

/-- MGMT_LINK_LOSS (R436). -/
def execMgmtLinkLoss (s : State) : Host.Outcome State Fault Refusal :=
  .next (if s.sys.off ∨ s.sys.moduleFault then s else s.moduleFault (Fld.addr .modStateMode 0 0))

/-! ## Maintenance (R433, R434, R439) -/

/-- A region enters MAINTENANCE: its domain switches on. -/
def State.maintEnter (s : State) (r : Nat) : State := (s.domainUp r).setReg .svcRegionState 0 r 1

/-- A region leaves MAINTENANCE: drained, fenced and switched off. -/
def State.maintLeave (s : State) (r : Nat) : State :=
  if s.regionState r = 1 then (if s.regionOn r then s.fenceRegion r true else s).setReg .svcRegionState 0 r 0 else s

/-- Conditions on the regions a maintenance command names. -/
def State.maintChecks (s : State) (rs : List Nat) : List (Bool × Status) :=
  [(rs.any (fun x => decide (s.grade.regions ≤ x)), .notPresent), (decide (rs = []), .cmdFormat),
    (rs.any (fun x => decide (s.regionState x = 2)), .svcRegionRetired)]

/-- SVC_MAINT for regions. -/
def maintRegions (r : CmdRef) (enter : Nat) (rs : List Nat) (s : State) : CmdRes :=
  refuseIf (s.maintChecks rs ++ [(rs.any (fun x => (s.regionPart x).isSome || s.draining x), .regionBusy), (s.modStandby, .modeInvalid),
    (decide (enter = 1) && rs.any s.domainFailed, .pwrRailFault)]) s (fun s =>
    if enter = 1 then (rs.foldl State.maintEnter s).oks
    else
      let s1 := rs.foldl State.maintLeave s
      let mask := rs.foldl (fun m x => if s1.draining x then setBit m x true else m) 0
      if mask = 0 then s1.oks else ({ s1 with svc := { s1.svc with waits := s1.svc.waits ++ [(r, mask)] } }).waits)

/-- SVC_MAINT. -/
def cmdSvcMaint (r : CmdRef) (scope enter regions : Nat) (s : State) : CmdRes :=
  refuseIf [s.ownerOrLocal r.org,
    (decide (scope = 0) && (setBitsOf 64 regions).any (fun x => decide (s.grade.regions ≤ x)), .notPresent),
    (decide (2 ≤ scope ∨ 2 ≤ enter), .cmdFormat)] s (fun s =>
    if scope = 0 then maintRegions r enter (setBitsOf 64 regions) s
    else refuseIf [(decide (s.modMode ≠ if enter = 1 then Mod.service else Mod.maintenance), .modeInvalid),
      (decide (enter = 1) && s.partitions.any s.executing, .modeInvalid)] s (fun s =>
      (s.setReg .modStateMode 0 0 (if enter = 1 then Mod.maintenance else Mod.service)).oks))

/-- SVC_MAINT (R433). -/
def execSvcMaint (r : CmdRef) (scope enter regions : Nat) (s : State) : Host.Outcome State Fault Refusal :=
  .next (runCmd r 0x1100 (formParams 0 [(.int 1, scope), (.int 1, enter), (.int 8, regions)]) 0xFFFF
    (cmdSvcMaint r scope enter regions) s)

/-- A finding of the self-test, in one of the regions named. -/
def SelfTestFind.region : SelfTestFind → Nat
  | .bp a h _ => regionOf a h
  | .word a h => regionOf a h

/-- What a finding leads to: a mark, with an insertion for what the BP serves; or the retirement of the region. -/
def State.selfTestFind (s : State) (f : SelfTestFind) : State :=
  match f with
  | .bp a h n => if n < 1056 then (s.markFailed a h n).careFor a h else s
  | .word a h => s.retireRegion (regionOf a h)

/-- SVC_SELFTEST. -/
def cmdSvcSelftest (r : CmdRef) (regions : Nat) (finds : List SelfTestFind) (s : State) : CmdRes :=
  let rs := setBitsOf 64 regions
  refuseIf (s.ownerOrLocal r.org :: s.maintChecks rs ++
    [(rs.any (fun x => decide (s.regionState x ≠ 1) || !s.regionOn x), .modeInvalid)]) s (fun s =>
    let s1 := (finds.filter (fun f => rs.contains (SelfTestFind.region f))).foldl State.selfTestFind s
    let s2 := (rs.flatMap hearthsOf).foldl (fun s ah => { s with fab := s.fab.clearBanks ah.1 ah.2 }) s1
    if rs.any (fun x => decide (s2.regionState x = 2)) then s2.says .selftestFail else s2.oks)

/-- SVC_SELFTEST (R434). -/
def execSvcSelftest (r : CmdRef) (regions : Nat) (finds : List SelfTestFind) (s : State) : Host.Outcome State Fault Refusal :=
  .next (runCmd r 0x1101 (formParams 0 [(.int 8, regions)]) 0xFFFF (cmdSvcSelftest r regions finds) s)

/-- BILLET_INSERT. -/
def cmdBilletInsert (r : CmdRef) (a h lbp : Nat) (s : State) : CmdRes :=
  refuseIf [s.ownerOrLocal r.org, (decide (s.grade.anvils ≤ a ∨ 128 ≤ h ∨ 1024 ≤ lbp), .notPresent),
    (s.svc.insertion.isSome || decide (s.svc.queued ≠ []) || s.svc.replan.isSome, .svcBusy),
    (decide (s.freeBillets a h = []), .svcNoBillet), s.cpOut a] s (fun s =>
    let s1 := s.markFailed a h (s.physOf a h lbp)
    ((s1.requestInsertion a h [lbp] (some r)).billetsLow).waits)

/-- BILLET_INSERT (R439). -/
def execBilletInsert (r : CmdRef) (anvil hearth lbp : Nat) (s : State) : Host.Outcome State Fault Refusal :=
  .next (runCmd r 0x1103 (formParams 0 [(.int 1, anvil), (.int 1, hearth), (.int 2, lbp)]) 0xFFFF
    (cmdBilletInsert r anvil hearth lbp) s)

end Sys2Proof.Machine
end

