-- ==== Sys2Proof/Machine/Access.lean ====
section
/-! DEFINITION. Register accesses (R3, R10 to R17, R301, R302, R325, R443): which words are present, what a read of a word
returns and clears, who may write it, and what a write of each field does. -/

namespace Sys2Proof.Machine

/-! ## Presence and ownership (R3, R119, R146, R299) -/

/-- The region whose partition owns a word of a LINK block: that of its gateway row (R96). -/
def linkRegion (w : WordAt) : Option Nat :=
  if 0x10 ≤ w.off ∧ w.off < 0x30 then some (8 * (w.inst / 3) + (w.off - 0x10) / 4) else none

/-- A register word is present: populated, its block's power on, its partition existing. -/
def State.present (s : State) (w : WordAt) : Bool :=
  s.populated w &&
    (match w.blk with
     | .part => s.pExists w.inst
     | .cmp => s.pExists w.inst
     | .obs => s.pExists w.inst
     | .hearth => s.regionOn (regionOf (w.inst / 128) (w.inst % 128))
     | .link => s.anvilOn (w.inst / 3)
     | .ddr => s.anvilOn w.inst
     | .noc => s.anvilOn w.inst
     | .wlBundle => s.anvilOn w.inst
     | .wlLane => s.laneOn w.inst
     | _ => true)

/-- A field of a present word is absent all the same: a port that the bifurcation does not form, or one of an anvil, a region
or a bundle that the grade does not populate (R3). -/
def State.fieldAbsent (s : State) (x : FieldInfo) (i j : Nat) : Bool :=
  match x.fld with
  | .partMemSlotsAllot => decide (s.grade.anvils ≤ j)
  | .partMemSlotsPeak => decide (s.grade.anvils ≤ j)
  | .timeAdjWlRx => decide (s.grade.anvils ≤ j)
  | .timeAdjWlTx => decide (s.grade.anvils ≤ j)
  | .svcRegionState => decide (s.grade.regions ≤ j)
  | .svcRegionVcoreMv => decide (s.grade.regions ≤ j)
  | .svcRegionMarginPm => decide (s.grade.regions ≤ j)
  | _ => decide (x.blk = .hostif) && decide (1 < x.count1) && !s.portPresent i

/-- The partition that a register word concerns (R326): 0xFFFF for none. -/
def State.wordPart (s : State) (w : WordAt) : Nat :=
  match w.blk with
  | .part => w.inst
  | .cmp => w.inst
  | .obs => w.inst
  | .queue => if s.qScope w.inst < 32 then s.qScope w.inst else 0xFFFF
  | .hearth => (s.hearthPart (w.inst / 128) (w.inst % 128)).getD 0xFFFF
  | .link => ((linkRegion w).bind s.regionPart).getD 0xFFFF
  | _ => 0xFFFF

/-- The origin may write the fields of a queue (R311): its owning port, and the owner; local service at module scope. -/
def State.mayQueue (s : State) (o : Origin) (q : Nat) : Bool :=
  match s.qPort q with
  | none => false
  | some n => s.isOwner o || (match o with | .host m => decide (m = n) | .uart => decide (s.qScope q = 0xFF) | _ => false)

/-- The rights to a field of a region, outside the blocks that R146 names: those of the owner, of local service, which may
do what the owner may (R302), and of the tenant port of its partition. -/
def State.wordRight (s : State) (o : Origin) (w : WordAt) : Bool :=
  s.isOwnerOrLocal o || (decide (s.wordPart w < 32) && s.isTenantOf o (s.wordPart w))

/-- The origin may write a register word (R146, R302 and the heads of the tables). SP pins and TIME references have
rules of their own. -/
def State.mayWrite (s : State) (o : Origin) (w : WordAt) : Bool :=
  match w.blk with
  | .sp => true
  | .queue => s.mayQueue o w.inst
  | .part => s.mayPart o w.inst
  | .cmp => s.mayPart o w.inst
  | .obs => s.mayPart o w.inst
  | .hearth => s.wordRight o w
  | .link => s.wordRight o w
  | _ => s.isOwnerOrLocal o

/-! ## Reads (R10, R443) -/

/-- The pairs of words of which the LO word latches the HI word. -/
def latchPairs : List (Fld × Fld) :=
  [(.partSchedCycleLo, .partSchedCycleHi), (.partRgnLo, .partRgnHi), (.partRunLeftLo, .partRunLeftHi),
   (.partQuenchTotalLo, .partQuenchTotalHi), (.partQuenchStretchLo, .partQuenchStretchHi), (.timeNowLo, .timeNowHi),
   (.timePtpMasterLo, .timePtpMasterHi), (.timeCapTsLo, .timeCapTsHi), (.timeRefValueLo, .timeRefValueHi),
   (.timeLaunchTLo, .timeLaunchTHi), (.timeLaunchLastLo, .timeLaunchLastHi), (.wlPrbsBitsLo, .wlPrbsBitsHi)]

/-- Fields that count or measure what the spec gives no rule for: each read takes a free value. -/
def Fld.measured : Fld → Bool
  | .pwrInVDv => true
  | .pwrInW => true
  | .pwrInPf => true
  | .pwrRailAmpsDa => true
  | .pwrRailMv => true
  | _ => false

/-- A rail is enabled (R393, R394). -/
def State.railOn (s : State) (r : Nat) : Bool :=
  s.hasRail r && !s.sys.off &&
    (if r < 0x40 then s.regionOn r
     else match railAnvil r with
       | some (a, true) => !Tab.get false s.sys.islandOff [a]
       | some (a, false) => s.anvilOn a
       | none =>
         if r = 0x7E then s.auxOn
         else if r < 0x7C then !Tab.get false s.pwr.failed [2, r - 0x78] else true)

/-- A rail is GOOD; a bank rail is not while it ramps (R372). -/
def State.railGood (s : State) (r : Nat) : Bool :=
  s.railOn r && !(decide (0x78 ≤ r ∧ r < 0x7C) && s.flag .spBankRamping 0 (r - 0x78))

/-- The value of a field that follows other state, or its register. -/
def State.view (s : State) (f : Fld) (i j : Nat) : Nat :=
  match f with
  | .hearthOwnUnassigned => b2n (s.hearthPart (i / 128) (i % 128)).isNone
  | .hearthOwnPartition => (s.hearthPart (i / 128) (i % 128)).getD 0
  | .partClkMuxFollow => b2n (decide (((s.part i).clk.cur.mux.getD j (0, 0)).2 = 0))
  | .partRstLevel => b2n (bit (s.part i).clk.rst j)
  | .partMemHzCheck => if s.mode i = Mode.loading then 0 else (s.hzCheck i).1
  | .partCmpStimLevel => (s.part i).stim.level
  | .partCmpRespLevel => (s.part i).resp.level
  | .partQuenchTotalLo => (s.acct i).reg f i j
  | .partQuenchTotalHi => (s.acct i).reg f i j
  | .partQuenchStretchLo => (s.acct i).reg f i j
  | .partQuenchStretchHi => (s.acct i).reg f i j
  | .ddrMarkLeft => if s.flag .ddrMarkValid i j then s.markLeft i (j % 2) else 0
  | .queueCfgPort => (s.qPort i).getD 0
  | .queueStatusFull => b2n (s.qFull i && decide (s.reg .queueCfgType i 0 ≠ 0))
  | .taskFlagsHw => s.hwFlags i
  | .wlStreamInSseq => if s.flag .wlStreamBindInEn i 0 then s.streamHead i else 0
  | .timeNowLo => s.clock % 2 ^ 32
  | .timeNowHi => s.clock / 2 ^ 32 % 2 ^ 32
  | .timeNowFrac => s.ctr 0 % 2 ^ 32
  | .timeIncrEffFrac => s.time.eff % 2 ^ 32
  | .timeServoSlewNs => unsigned 32 (max (-(2 ^ 31)) (min (2 ^ 31 - 1) s.slewNs))
  | .timeServoBoundNs => s.boundNs
  | .timeRefValueLo => s.refNs j % 2 ^ 32
  | .timeRefValueHi => s.refNs j / 2 ^ 32
  | .spPinDup => b2n (s.pinDup j)
  | .spPinHold => b2n (s.pinHold j)
  | .spGpioSetLo => s.reg .spGpioOutLo 0 0
  | .spGpioSetHi => s.reg .spGpioOutHi 0 0
  | .spGpioClrLo => s.reg .spGpioOutLo 0 0
  | .spGpioClrHi => s.reg .spGpioOutHi 0 0
  | .spGpioInLo => bitsToNat ((List.range 32).map s.padAt)
  | .spGpioInHi => bitsToNat ((List.range 16).map (fun n => s.padAt (32 + n)))
  | .spUartRxLevel => (s.uartFifo j).length
  | .pwrInLimitW => s.limitW
  | .pwrRailOn => b2n (s.railOn j)
  | .pwrRailGood => b2n (s.railGood j)
  | .svcAvailExposedS => if s.pExists j then (s.now - (s.outageOf j).born) / 1000000000 else 0
  | _ => s.reg f i j

/-- What a read of a field returns: a field that measures takes a free value; the counts of a locked PRBS checker are first
brought up to date (R350). -/
def State.readField (s : State) (x : FieldInfo) (i j : Nat) : Nat × State :=
  if s.fieldAbsent x i j ∨ x.acc = .wo then (0, s)
  else if x.fld.measured ∧ !(decide (x.blk = .pwr) && decide (0x200 ≤ x.base) && !s.hasRail j) then
    (s.takeNat.1 % 2 ^ x.fld.width, s.takeNat.2)
  else if (x.fld = .wlPrbsErrCount ∨ x.fld = .wlPrbsBitsLo ∨ x.fld = .wlPrbsBitsHi) ∧ s.flag .wlPrbsLock i 0 then
    let s1 := s.prbsAdvance i 0
    (s1.reg x.fld i j, s1)
  else (s.view x.fld i j, s)

/-- One field of a word as an origin reads it: a HI word with an unspent latch gives the latched value and spends it; a LO
word stores its HI word; an RC field is cleared. -/
def State.takeField (s : State) (o : Origin) (e : FieldInfo × Nat × Nat) : Nat × State :=
  let f := e.1.fld
  let k := latchKey o (Fld.addr f e.2.1 e.2.2)
  let spent := { s with latches := Tab.put none s.latches k none }
  match (latchPairs.find? (fun p => decide (p.2 = f))).bind (fun _ => Tab.get none s.latches k) with
  | some v => (v, spent)
  | none =>
    let x := s.readField e.1 e.2.1 e.2.2
    let s1 :=
      match latchPairs.find? (fun p => decide (p.1 = f)) with
      | some p =>
        let hi := latchKey o (Fld.addr p.2 e.2.1 e.2.2)
        { x.2 with latches := Tab.put none x.2.latches hi (some (x.2.view p.2 e.2.1 e.2.2)) }
      | none => x.2
    (x.1, if e.1.acc = .rc then s1.setReg f e.2.1 e.2.2 0 else s1)

/-- An access of a host port of a size or alignment that R299 does not admit. -/
def State.misaligned (s : State) (o : Origin) : State :=
  match o with
  | .host n => s.setReg .hostErrStatusAccess n 0 1
  | _ => s

/-- A read of a register word by an origin: its value, and what the read does. -/
def State.readWord (s : State) (o : Origin) (addr : Nat) : Nat × State :=
  if s.sys.off then (0, s)
  else if addr % 4 ≠ 0 then (0, s.misaligned o)
  else
    match decodeAddr addr with
    | none => (0, s)
    | some w =>
      if s.present w then
        w.fields.foldl (fun (x : Nat × State) e =>
          let y := x.2.takeField o e
          (x.1 + y.1 * 2 ^ e.1.lo, y.2)) (0, s)
      else (0, s)

/-! ## Static fields (R14) -/

/-- What R14 asks of a field of a region: outside any partition it is in MAINTENANCE, where a retired region stays for good
(R425). -/
def State.regionQuiet (s : State) (r : Nat) : Bool :=
  match s.regionPart r with
  | some p => s.partQuiet p
  | none => decide (s.reg .svcRegionState 0 r = 1) || decide (s.reg .svcRegionState 0 r = 2)

/-- A static field may be written now (R14). -/
def State.staticOk (s : State) (f : Fld) (i j : Nat) : Bool :=
  match f.info.blk with
  | .part => s.partQuiet i
  | .cmp => s.partQuiet i
  | .obs => s.partQuiet i
  | .hearth => s.regionQuiet (regionOf (i / 128) (i % 128))
  | .link => s.regionQuiet (8 * (i / 3) + j)
  | .wlBundle => s.modQuiet || (s.bound.filter (fun k => bit (s.reg .wlStreamBindBundles k 0) i)).all
      (fun k => s.partQuiet (s.reg .wlStreamBindPart k 0))
  | .sp => s.modQuiet || (List.range 48).all (fun n => s.ownerQuiet (s.reg .spPinOwner 0 n))
  | _ => s.modQuiet || s.partitions.all s.partQuiet

/-- A field takes a value by its class (R13, R153): a boundary field of a partition in LOADING takes it at once. -/
def State.takeClass (s : State) (o : Origin) (part : Nat) (f : Fld) (i j n v : Nat) : State :=
  match f.info.cls with
  | .static =>
    if s.staticOk f i j then s.setHost f i j n
    else s.auditRefuse o .fieldClassViolation part f i j v
  | .boundary =>
    if f.info.blk = .ddr then s.hold f i j n
    else if s.mode i = Mode.loading then s.setHost f i j n
    else if s.mode i = Mode.inspect ∧ s.flag .partRunMidcycle i 0 ∧ (s.part i).heldStart then
      (s.hold f i j n).modPart i (fun x => { x with midHeld := x.midHeld.filter (· ≠ f.key i j) ++ [f.key i j] })
    else s.hold f i j n
  | _ => s.setHost f i j n

/-- A write that must leave a check true: otherwise it is discarded and logged. -/
def State.guarded (s : State) (o : Origin) (part : Nat) (f : Fld) (i j n v : Nat) (st : Status) (ok : State → Bool) : State :=
  if (f.info.cls = .static ∧ !s.staticOk f i j) ∨ ok (s.setReg f i j n) then s.takeClass o part f i j n v
  else s.auditRefuse o st part f i j v

/-! ## Rules of single fields -/

/-- A write of S_STEPS that R84 accepts. -/
def State.stepsOk (s : State) (p n : Nat) : Bool :=
  decide (n % 16 = 0 ∧ 64 ≤ n ∧ n ≤ 1024) &&
    (decide (n = s.reg .partSchedSImg p 0) || (s.flag .partSchedSExt p 0 && decide (s.reg .partSchedSImg p 0 < n)))

/-- The slots allotted on an anvil fit its 256 (R141, R144). -/
def State.slotsOk (s : State) (a : Nat) : Bool :=
  decide (s.partitions.foldl (fun n p => n + s.reg .partMemSlotsAllot p a) 0 ≤ 256)

/-- A write of the FRAC word of TIME.INCR (R359). -/
def State.wrIncrFrac (s : State) (o : Origin) (n : Nat) : State :=
  if s.flag .timeCfgFollow 0 0 then s.auditRefuse o .timeBusy 0xFFFF .timeIncrFrac 0 0 n else s.setReg .timeIncrFrac 0 0 n

/-- A write of the FRAC word of a reference's RATE: it takes effect with the NS word (R361). -/
def State.wrRateFrac (s : State) (o : Origin) (k n : Nat) : State :=
  if s.mayRef o k then s.setReg .timeRefRateFrac 0 k n else s.auditRefuse o .notOwner 0xFFFF .timeRefRateFrac 0 k n

/-- A field of the PRBS checker written: one that stops the checker, or changes its pattern, ends the lock. -/
def State.wrPrbs (s : State) (f : Fld) (l n : Nat) : State :=
  let s1 := s.setHost f l 0 n
  if s.flag .wlPrbsLock l 0 ∧ n ≠ s.reg f l 0 ∧ (f = .wlPrbsMode ∨ n = 0) then s1.prbsCount l 0 else s1

/-- The tasks before a queue's task in its chain, the task itself included; none if there are more than 8 (R320). -/
def State.chainLen (s : State) : Nat → Nat → Option Nat
  | 0, _ => none
  | n + 1, q =>
    if s.flag .taskCfgChainEn q 0 then (s.chainLen n (s.reg .taskCfgPred q 0)).map (· + 1) else some 1

/-- The task of queue `q` stands in the chain that ends at a queue: the queue's own, or one before it. -/
def State.chainHas (s : State) (q : Nat) : Nat → Nat → Bool
  | 0, _ => false
  | n + 1, t => decide (t = q) || (s.flag .taskCfgChainEn t 0 && s.chainHas q n (s.reg .taskCfgPred t 0))

/-- The queues whose tasks are chained. -/
def State.chained (s : State) : List Nat :=
  s.regs.filterMap (fun e => if e.1.getD 0 0 = Fld.taskCfgChainEn.ctorIdx ∧ e.2 = some 1 then some (e.1.getD 1 0) else none)

/-- The chains that hold a queue's task keep the rules of R320: its predecessor has its scope, and each chain is free of
cycles and at most 8 tasks long. -/
def State.chainsOk (s : State) (q : Nat) : Bool :=
  (!s.flag .taskCfgChainEn q 0 || decide (s.qScope (s.reg .taskCfgPred q 0) = s.qScope q)) &&
    s.chained.all (fun t => !s.chainHas q 9 t || (s.chainLen 8 t).isSome)

/-- A write of the TASK.CFG word (R319, R320). -/
def State.wrTask (s : State) (o : Origin) (q v : Nat) : State :=
  let prio := if 6 ≤ bits v 29 27 ∧ !s.isOwnerOrLocal o then 5 else bits v 29 27
  let s1 := ((((s.setReg .taskCfgChainEn q 0 (bits v 31 31)).setReg .taskCfgModeAll q 0 (bits v 30 30)).setReg .taskCfgPrio q 0
    prio).setReg .taskCfgBatchM1 q 0 (bits v 23 16)).setReg .taskCfgPred q 0 (bits v 11 0)
  if s1.chainsOk q then
    let moved := { s1 with host := { s1.host with ready := s1.host.ready.filter (fun e => decide (e.2 ≠ q)) } }
    (if prio = s.reg .taskCfgPrio q 0 then s1 else moved).rescan q
  else s.setReg .queueStatusSetupErr q 0 1

/-- A write of QUEUE.CTL.ENABLE (R311, R322). A partition may have one enabled stimulus queue. -/
def State.enableQueue (s : State) (q v : Nat) : State :=
  let p := s.qScope q
  let t := s.reg .queueCfgType q 0
  if v = 0 then (s.setReg .queueCtlEnable q 0 0).rescan q
  else if s.qEnabled q then s
  else if t = 0 ∨ (t = QT.stimulus ∧ s.queuesOf p QT.stimulus ≠ []) then s.setReg .queueStatusSetupErr q 0 1
  else (s.setReg .queueCtlEnable q 0 1).rescan q

/-! ## Writes of a field -/

/-- A write of 1, or of a value, to a field that acts (R10). -/
def State.writeAct (s : State) (o : Origin) (f : Fld) (i j n v : Nat) : State :=
  match f with
  | .partAbortGo => if n = 1 then s.abort o i else s
  | .partTrigCtlArm => if n = 1 then s.trigCtl o i true else s
  | .partTrigCtlDisarm => if n = 1 then s.trigCtl o i false else s
  | .traceCtlStopNow => if n = 1 then s.wrStopNow o else s
  | .wlLaneCtlRetrain => if n = 1 then s.wrRetrain o i else s
  | .wlPrbsInjGo => if n = 1 then s.injGo o i else s
  | .timeCapArm => if n = 1 then s.capArm o (v % 256) else s
  | .timeRefAdj => s.wrAdj o j n
  | .timeLaunchArm => if n = 1 then s.launchArm o j else s
  | .timeLaunchDisarm => if n = 1 then s.launchDisarm o j else s
  | .spGpioSetLo => s.gpioSet o false n
  | .spGpioSetHi => s.gpioSet o true n
  | .spGpioClrLo => s.gpioClr o false n
  | .spGpioClrHi => s.gpioClr o true n
  | .spGpioTglLo => s.gpioTgl o false n
  | .spGpioTglHi => s.gpioTgl o true n
  | .taskFlagsSoft => (s.setReg .taskFlagsSoft i 0 (Nat.lor (s.reg .taskFlagsSoft i 0) n)).rescan i
  | _ => s

/-- A write of an RW field of the SP block (R373, R374, R386). -/
def State.writePin (s0 s : State) (o : Origin) (f : Fld) (j n v : Nat) : State :=
  match f with
  | .spPinOwner => s.wrPinOwner o j n
  | .spPinFunc =>
    if s0.reg .spPinOwner 0 j ≠ s.reg .spPinOwner 0 j ∨ n = s.reg f 0 j then s else s.wrPinFunc o j n
  | .spPinPull => if s0.mayPin o j then s.setHost f 0 j n else s.auditRefuse o .notOwner 0xFFFF f 0 j v
  | .spPinDrive => if s0.mayPin o j then s.setHost f 0 j n else s.auditRefuse o .notOwner 0xFFFF f 0 j v
  | .spGpioOutLo => s.gpioWrite o false n
  | .spGpioOutHi => s.gpioWrite o true n
  | .spBankVsel => s.wrBankVsel o j n
  | _ => if s.isOwnerOrLocal o then s.takeClass o 0xFFFF f 0 j n v else s.auditRefuse o .notOwner 0xFFFF f 0 j v

/-- A write of an RW field of the TIME block (R359, R361, R366, R367). -/
def State.writeTime (s : State) (o : Origin) (f : Fld) (j n v : Nat) : State :=
  match f with
  | .timeRefRateFrac => s.wrRateFrac o j n
  | .timeRefRateNs => s.wrRate o j n
  | .timeIncrFrac => s.wrIncrFrac o n
  | .timeIncrIncrNs => s.wrIncr o n
  | .timeCfgPhaseSrc => (s.setHost f 0 j n).servoSource
  | .timeCapSrc => if bit v 8 then s else s.setReg f 0 0 n
  | .timeLaunchTLo => if s.flag .timeLaunchArmed 0 j then s else s.setReg f 0 j n
  | .timeLaunchTHi => if s.flag .timeLaunchArmed 0 j then s else s.setReg f 0 j n
  | .timeLaunchPeriod => if s.flag .timeLaunchArmed 0 j then s else s.setReg f 0 j n
  | .timeLaunchKind => if s.flag .timeLaunchArmed 0 j then s else s.setReg f 0 j n
  | .timeLaunchQueue => if s.flag .timeLaunchArmed 0 j then s else s.setReg f 0 j n
  | .timeLaunchSel => if s.flag .timeLaunchArmed 0 j then s else s.setReg f 0 j n
  | .timeLaunchWidthM1 => if s.flag .timeLaunchArmed 0 j then s else s.setReg f 0 j n
  | .timeLaunchCount => if s.flag .timeLaunchArmed 0 j then s else s.setReg f 0 j n
  | _ => s.setHost f 0 j n

/-- A write of an RW field of the PART, CMP or OBS block of partition `p` with a value its table accepts. -/
def State.writePart (s : State) (o : Origin) (f : Fld) (p j n v : Nat) : State :=
  match f with
  | .partCtlSSteps => s.guarded o p f p j n v .scheduleInvalid (fun _ => s.stepsOk p n)
  | .partMemSlotsAllot => s.guarded o p f p j n v .memSlots (fun t => t.slotsOk j)
  | .partCmpEnCompare => s.guarded o p f p j n v .cmpSource (fun t => decide (n = 0) || decide (t.reg .partCmpSrcResp p 0 ≠ 0))
  | .partCmpFmapBaseLo => s.guarded o p f p j n v .memWindow (fun t => t.fmapOk p)
  | .partCmpFmapBaseHi => s.guarded o p f p j n v .memWindow (fun t => t.fmapOk p)
  | .partCmpFmapSizeLog2 => s.guarded o p f p j n v .memWindow (fun t => t.fmapOk p)
  | .partCmpEnFmap => s.guarded o p f p j n v .memWindow (fun t => decide (n = 0) || t.fmapOk p)
  | .partAcqBaseLo => s.guarded o p f p j n v .memWindow (fun t => t.acqOk p)
  | .partAcqBaseHi => s.guarded o p f p j n v .memWindow (fun t => t.acqOk p)
  | .partAcqRingSizeLog2 => s.guarded o p f p j n v .memWindow (fun t => t.acqOk p)
  | .partAcqCtlEnable =>
    (s.guarded o p f p j n v .memWindow (fun t => decide (n = 0) || t.acqMayEnable p)).acqEnabled p (s.flag f p 0)
  | .partCapBaseLo => s.guarded o p f p j n v .memWindow (fun t => t.capOk p)
  | .partCapBaseHi => s.guarded o p f p j n v .memWindow (fun t => t.capOk p)
  | .partCapSizeMib => s.guarded o p f p j n v .memWindow (fun t => t.capOk p)
  | _ => s.takeClass o p f p j n v

/-- A write of an RW field of the other blocks. -/
def State.writeOther (s : State) (o : Origin) (part : Nat) (f : Fld) (i j n v : Nat) : State :=
  match f with
  | .traceCtlEnable => if n = 1 then s.wrTraceEnable o else s.wrTraceDisable o
  | .traceSrcEnLo => s.setSrcEn false n
  | .traceSrcEnHi => s.setSrcEn true n
  | .wlLaneCtlEnable => if n = s.reg f i 0 then s else s.wrLaneEnable o i (decide (n = 1))
  | .wlPrbsMode => s.wrPrbs f i n
  | .wlPrbsChkEn => s.wrPrbs f i n
  | .modClksetStepMhzMax => s.wrClkset o n
  | .pwrAuxEn => s.wrAuxEn o n
  | .queueCtlEnable => s.enableQueue i n
  | .taskMask => (s.setReg f i j n).rescan i
  | _ => s.takeClass o part f i j n v

/-- A write of an RW field: a value that the field's table discards changes nothing. -/
def State.writeRw (s0 s : State) (o : Origin) (part : Nat) (x : FieldInfo) (i j n v : Nat) : State :=
  match s.fieldTake x.fld i n with
  | none =>
    if x.fld = .partCmpPin then s.auditRefuse o .cmpWindow part x.fld i j v
    else if x.fld = .partMemSlotsAllot then s.auditRefuse o .memSlots part x.fld i j v else s
  | some m =>
    match x.blk with
    | .sp => State.writePin s0 s o x.fld j m v
    | .time => s.writeTime o x.fld j m v
    | .part => s.writePart o x.fld i j m v
    | .cmp => s.writePart o x.fld i j m v
    | .obs => s.writePart o x.fld i j m v
    | _ => s.writeOther o part x.fld i j m v

/-- A write of a W1C field: the bits written as 1 are cleared. -/
def State.writeClear (s : State) (o : Origin) (x : FieldInfo) (i j n : Nat) : State :=
  if x.fld = .spPinShort then (if n = 1 then s.shortClear o j else s)
  else if x.fld = .spGpioClrLo ∨ x.fld = .spGpioClrHi then s.writeAct o x.fld i j n n
  else
    let r := s.reg x.fld i j
    s.setReg x.fld i j (r - Nat.land r n)

/-- A write of one field of a word: `v` is the word, `s0` the state before the word was written. -/
def State.writeOne (s0 : State) (o : Origin) (part v : Nat) (s : State) (e : FieldInfo × Nat × Nat) : State :=
  let x := e.1
  let n := v / 2 ^ x.lo % 2 ^ (x.hi + 1 - x.lo)
  if s0.fieldAbsent x e.2.1 e.2.2 then s
  else match x.acc with
    | .ro => s
    | .rc => s
    | .w1c => s.writeClear o x e.2.1 e.2.2 n
    | .w1s => s.writeAct o x.fld e.2.1 e.2.2 n v
    | .wo => s.writeAct o x.fld e.2.1 e.2.2 n v
    | .rw =>
      if s0.loaderWrites x.fld e.2.1 e.2.2 then s.auditRefuse o .loadBusy part x.fld e.2.1 e.2.2 v
      else State.writeRw s0 s o part x e.2.1 e.2.2 n v

/-! ## Writes of a word (R301, R325) -/

/-- A word of a port binding as written passes the window rule with the other words in effect (R119, R120). -/
def State.bindingOk (s : State) (w : WordAt) (v : Nat) : Bool :=
  let a := w.inst / 128
  let h := w.inst % 128
  let j := (w.off - 0x200) / 0x20
  let t := w.fields.foldl (fun s e => s.setReg e.1.fld e.2.1 e.2.2 (v / 2 ^ e.1.lo % 2 ^ (e.1.hi + 1 - e.1.lo))) s
  let b := t.binding a h j
  Binding.valid b (match s.hearthPart a h with
    | some p => s.inAlloc p a b.dram (2 ^ b.sizeLog2)
    | none => false)

/-- The RW fields that the log leaves out (R325). -/
def Fld.unlogged (f : Fld) : Bool := decide (f = .partCmpFmapRd ∨ f = .partAcqSegRd ∨ f = .traceBufRd)

/-- The entries that one word write has made become one for each outcome: the word before the first and after the last. -/
def mergeEntries (addr v : Nat) : List AuditEntry → List AuditEntry → List AuditEntry
  | acc, [] => acc
  | acc, e :: es =>
    if e.kind = 0 ∧ e.field = addr then
      let e1 := if e.status = 0 then e else { e with new := v }
      if acc.any (fun x => decide (x.kind = 0 ∧ x.field = addr ∧ x.status = e.status)) then
        mergeEntries addr v (acc.map (fun (x : AuditEntry) =>
          if x.kind = 0 ∧ x.field = addr ∧ x.status = e.status ∧ e.status = 0 then { x with new := e.new } else x)) es
      else mergeEntries addr v (acc ++ [e1]) es
    else mergeEntries addr v (acc ++ [e]) es

/-- The log with the entries that a word write has made merged. -/
def State.mergeAudit (s0 s : State) (addr v : Nat) : State :=
  let new := s.host.log.filter (fun e => decide (s0.host.logSeq ≤ e.seq))
  let back := { s with host := { s.host with log := s0.host.log, logSeq := s0.host.logSeq, lost := s0.host.lost } }
  if new.length < 2 then s else (mergeEntries addr v [] new).foldl State.audit back

/-- The fields of a word in the order in which a write reaches them: those that act come last. -/
def actOrder (l : List (FieldInfo × Nat × Nat)) : List (FieldInfo × Nat × Nat) :=
  let late := fun (e : FieldInfo × Nat × Nat) => decide (e.1.acc = .wo ∨ e.1.acc = .w1s)
  l.filter (fun e => !late e) ++ (l.filter late).reverse

/-- The fields of a word written, in turn; TASK.CFG and a port binding are taken as words. -/
def State.writeFields (s : State) (o : Origin) (part : Nat) (w : WordAt) (v : Nat) : State :=
  let fs := w.fields
  let f0 := (fs.headD (FieldInfo.none, 0, 0)).1.fld
  if w.blk = .queue ∧ w.off = 0x2C then s.wrTask o w.inst v
  else if w.blk = .hearth ∧ 0x200 ≤ w.off ∧ w.off < 0x400 ∧ s.staticOk f0 w.inst 0 ∧
      !s.loaderWrites f0 w.inst ((w.off - 0x200) / 0x20) ∧ !s.bindingOk w v then
    s.auditRefuse o .memWindow part f0 w.inst ((w.off - 0x200) / 0x20) v
  else (actOrder fs).foldl (State.writeOne s o part v) s

/-- A write of a register word by an origin. A write that the role does not permit is discarded and logged (R302); one to
a queue of another port is counted too (R311). -/
def State.writeWord (s : State) (o : Origin) (addr v : Nat) : State :=
  if s.sys.off then s
  else if addr % 4 ≠ 0 then s.misaligned o
  else
    match decodeAddr addr with
    | none => s
    | some w =>
      let part := s.wordPart w
      if !s.present w ∨ w.fields = [] then s
      else if w.blk = Blk.queue ∧ (s.qPort w.inst).isNone then s
      else if !s.mayWrite o w then
        let s1 := match o with
          | .host n => if w.blk = Blk.queue then s.bump .hostErrForeignCount n 0 1 else s
          | _ => s
        s1.auditWrite o .notOwner part w.addr (s.wordWritten w) v
      else
        let s1 := s.writeFields o part w v
        let old := s.wordWritten w
        let new := s1.wordWritten w
        let rw := w.fields.any (fun e => decide (e.1.acc = .rw) && !e.1.fld.unlogged &&
          decide (s.pendingOr e.1.fld e.2.1 e.2.2 ≠ s1.pendingOr e.1.fld e.2.1 e.2.2))
        let s2 := if rw then s1.auditWrite o .ok part w.addr old new else s1
        State.mergeAudit s s2 w.addr v

/-! ## QUEUE_ENABLE and TASK_SOFT_FLAG_SET -/

/-- QUEUE_ENABLE (R322): a write of QUEUE.CTL.ENABLE. -/
def execQueueEnable (o : Origin) (q value : Nat) (s : State) : Host.Outcome State Fault Refusal :=
  .next (s.writeWord o (Fld.addr .queueCtlEnable q 0) value)

/-- TASK_SOFT_FLAG_SET (R318): a write of TASK.FLAGS.SOFT. -/
def execTaskSoftFlagSet (o : Origin) (q flags : Nat) (s : State) : Host.Outcome State Fault Refusal :=
  .next (s.writeWord o (Fld.addr .taskFlagsSoft q 0) (flags * 2 ^ 16))

/-! ## REG_READ and REG_WRITE (R321) -/

/-- Words read one after another, from `addr` on. -/
def State.readWords (s : State) (o : Origin) (addr : Nat) : Nat → List Nat × State
  | 0 => ([], s)
  | n + 1 =>
    let x := s.readWord o addr
    let y := State.readWords x.2 o (addr + 4) n
    (x.1 :: y.1, y.2)

/-- REG_READ: the words as results. An ADDR that is not a multiple of 4, or a COUNT out of range, is CMD_FORMAT. -/
def cmdRegRead (r : CmdRef) (addr count : Nat) (s : State) : CmdRes :=
  refuseIf [(decide (addr % 4 ≠ 0), .cmdFormat), (decide (count < 1 ∨ 256 < count), .cmdFormat)] s (fun s =>
    let x := s.readWords r.org addr count
    (x.2, some ⟨.ok, 0, x.1.flatMap (toLE 4)⟩))

/-- REG_READ (R321). -/
def execRegRead (r : CmdRef) (addr count : Nat) (s : State) : Host.Outcome State Fault Refusal :=
  .next (runCmd r 0x0B06 (formParams 0 [(.int 4, addr), (.int 2, count)]) 0xFFFF (cmdRegRead r addr count) s)

/-- Words written one after another. -/
def State.writeWords (s : State) (o : Origin) : Nat → List Nat → State
  | _, [] => s
  | addr, v :: vs => State.writeWords (s.writeWord o addr v) o (addr + 4) vs

/-- REG_WRITE: as writes of BAR0. -/
def cmdRegWrite (r : CmdRef) (addr count : Nat) (words : List Nat) (s : State) : CmdRes :=
  refuseIf [(decide (words.length ≠ count ∧ 1 ≤ count ∧ count ≤ 252), .cmdFormat), (decide (addr % 4 ≠ 0), .cmdFormat),
    (decide (count < 1 ∨ 252 < count), .cmdFormat)] s (fun s => (s.writeWords r.org addr words).oks)

/-- The parameters of a REG_WRITE as its record carries them: ADDR, COUNT and the words. -/
def regWriteParams (addr count : Nat) (words : List Nat) : Bytes :=
  formParams 0 ([(.int 4, addr), (.int 1, count)] ++ words.map (fun v => (PKind.int 4, v)))

/-- REG_WRITE (R321). -/
def execRegWrite (r : CmdRef) (addr count : Nat) (words : List Nat) (s : State) : Host.Outcome State Fault Refusal :=
  .next (runCmd r 0x0B07 (regWriteParams addr count words) 0xFFFF (cmdRegWrite r addr count words) s)

end Sys2Proof.Machine
end

