-- ==== Sys2Proof/Machine/Queues.lean ====
section
/-! DEFINITION. Queues and their tasks (R311 to R324): doorbells, setup and assignment, dispatch, and coalesced
interrupts. -/

namespace Sys2Proof.Machine

/-! ## Doorbells (R314) -/

/-- The queues whose TYPE is not 0: those that are set up. -/
def State.setUpQueues (s : State) : List Nat :=
  s.regs.filterMap (fun e => if e.1.getD 0 0 = Fld.queueCfgType.ctorIdx then some (e.1.getD 1 0) else none)

/-- A queue's error event: of its partition, or of the module. -/
def State.queueError (s : State) (q : Nat) (st : Status) (f : Fld) : State :=
  if s.qScope q < 32 then s.pError (s.qScope q) st (Fld.addr f q 0) else s.mError st (Fld.addr f q 0)

/-- A host index that R314 accepts. -/
def State.indexValid (s : State) (q i : Nat) : Bool :=
  let p := s.reg .queuePidx q 0
  let c := s.reg .queueCidx q 0
  if s.qIn q then decide ((i + 2 ^ 32 - c) % 2 ^ 32 ≤ s.qSize q) && decide ((i + 2 ^ 32 - p) % 2 ^ 32 ≤ s.qSize q)
  else decide ((p + 2 ^ 32 - i) % 2 ^ 32 ≤ s.qFill q)

/-- The task of a queue, and those of the command queues paired with it, looked at again. -/
def State.rescanWith (s : State) (q : Nat) : State :=
  (s.enabledQueues.filter (fun x => decide (s.reg .queueCfgType x 0 = QT.command ∧ s.reg .queuePair x 0 = q))).foldl State.rescan
    (s.rescan q)

/-- A doorbell written with the host's index. The index register of the queue's way is the word that the audit log names
where the origin may not ring it (R302, R311). -/
def State.doorbell (s : State) (o : Origin) (q i : Nat) : State :=
  let f := if s.qIn q then Fld.queuePidx else Fld.queueCidx
  if s.sys.off ∨ 4096 ≤ q ∨ (s.qPort q).isNone then s
  else if !s.mayQueue o q then
    let s1 := match o with
      | .host n => s.bump .hostErrForeignCount n 0 1
      | _ => s
    s1.auditRefuse o .notOwner (if s.qScope q < 32 then s.qScope q else 0xFFFF) f q 0 (i % 2 ^ 32)
  else if s.qEnabled q ∧ s.indexValid q (i % 2 ^ 32) then (s.setReg f q 0 i).rescanWith q
  else (s.setReg .queueStatusDbErr q 0 1).queueError q .queueDoorbell .queueStatusDbErr

/-- QUEUE_DOORBELL (R314). -/
def execQueueDoorbell (o : Origin) (q index : Nat) (s : State) : Host.Outcome State Fault Refusal := .next (s.doorbell o q index)

/-! ## Interrupts (R324) -/

/-- An interrupt of a queue: every entry so far is signalled. -/
def State.queueSignal (s : State) (q : Nat) : State :=
  match s.qPort q with
  | none => s
  | some n => (s.modQueue q (fun x => { x with unsignalled := 0 })).emit (.msix n (s.reg .queueIntVector q 0))

/-- `n` more entries of a queue wait to be signalled. -/
def State.entriesMoved (s : State) (q n : Nat) : State :=
  let s1 := s.modQueue q (fun x => { x with unsignalled := x.unsignalled + n })
  if 0 < n ∧ s.flag .queueIntEn q 0 ∧
      (s.reg .queueIntCoalUs q 0 = 0 ∨ s.reg .queueIntCoalNM1 q 0 + 1 ≤ (s1.queue q).unsignalled) then s1.queueSignal q
  else s1

/-- INTERRUPT_COALESCE_TIMEOUT (R324). -/
def execInterruptCoalesceTimeout (q : Nat) (s : State) : Host.Outcome State Fault Refusal :=
  .next (if !s.sys.off ∧ s.flag .queueIntEn q 0 ∧ 0 < (s.queue q).unsignalled then s.queueSignal q else s)

/-! ## Dispatch (R315, R317 to R320) -/

/-- Source of the scheduler's events (R239). -/
def schedSrc : Nat := 0x30

/-- A SCHED_EVENT of a queue's task. -/
def State.schedEvent (s : State) (code q engine : Nat) : State :=
  s.traceItem schedSrc (.sched code q engine (s.reg .taskCfgPrio q 0))

/-- An engine that can run a task (R312): DMA engines 16 to 31, and, for command queues, the management CP (8) and the
steward's CP, while the steward does not restart. -/
def State.engineTakes (s : State) (engine q : Nat) : Bool :=
  if s.reg .queueCfgType q 0 = QT.command then
    (decide (engine = 8) || decide (engine = s.steward)) && s.sys.steward && !s.sys.stewardDown
  else decide (16 ≤ engine ∧ engine < 32)

/-- The ready task that an engine takes: the head of the highest list that has one of its kind. -/
def State.nextTask (s : State) (engine : Nat) : Option Nat :=
  let l := s.host.ready.filter (fun e => s.engineTakes engine e.2)
  (l.find? (fun e => l.all (fun x => decide (x.1 ≤ e.1)))).map (·.2)

/-- The address of entry `k` of a ring (R313). -/
def State.entryAddr (s : State) (q k : Nat) : Nat :=
  s.reg64 .queueBaseLo .queueBaseHi q 0 + 2 ^ s.reg .queueCfgEntryLog2 q 0 * (k % s.qSize q)

/-- One stimulus entry: consumed into the vector FIFO, or refused (R315). -/
def State.takeStimulus (s : State) (q : Nat) (e : Bytes) : State × Bool :=
  let p := s.qScope q
  let len := le e 0 4
  if 4088 < len ∨ le e 4 4 ≠ 0 then
    ((((s.setReg .queueCtlEnable q 0 0).setReg .queueStatusEntryErr q 0 1).queueError q .queueEntry .queueStatusEntryErr).rescan q, false)
  else
    let d := slice e 8 len
    let stim := decide (s.reg .partCmpSrcStim p 0 = 1)
    let s0 := s.fifoFrom p stim none
    let s1 := s0.setFifo p stim { s0.fifo p stim with bytes := (s0.fifo p stim).bytes ++ d }
    ((s1.setReg .queueCidx q 0 (s.reg .queueCidx q 0 + 1)).arrived p, true)

/-- A stimulus queue of the partition is consumed: STIM or RESP is 0x1 (R315). -/
def State.stimulusFeeds (s : State) (p : Nat) : Bool :=
  decide (s.reg .partCmpSrcStim p 0 = 1) || decide (s.reg .partCmpSrcResp p 0 = 1)

/-- Stimulus entries moved while the queue is consumed, the FIFO has 4,096 bytes free and entries remain; the number moved. -/
def State.moveStimulus (q : Nat) : List Bytes → State → State × Nat
  | [], s => (s, 0)
  | e :: es, s =>
    if s.qFill q = 0 ∨ s.fifoFree (s.qScope q) < 4096 ∨ !s.stimulusFeeds (s.qScope q) then (s, 0)
    else
      let x := s.takeStimulus q e
      if x.2 then
        let y := State.moveStimulus q es x.1
        (y.1, y.2 + 1)
      else (x.1, 0)

/-- The next command entry is posted for the steward; the queue runs it alone (R312). -/
def State.moveCommand (s : State) (q : Nat) : List Bytes → State × Nat
  | [] => (s, 0)
  | e :: _ =>
    match s.qPort q with
    | none => (s, 0)
    | some n =>
      if (s.queue q).executing then (s, 0) else
      let x : Posted := ⟨⟨.host n, queueSlot + q, le e 4 4⟩, e, s.hostIdOf (.host n)⟩
      let s1 := (s.modQueue q (fun y => { y with executing := true })).setReg .queueCidx q 0 (s.reg .queueCidx q 0 + 1)
      ({ s1 with host := { s1.host with posted := s1.host.posted ++ [x] } }, 1)

/-- Records of an out queue written to its ring, at most `n`. -/
def State.moveOut (q : Nat) : Nat → State → State × Nat
  | 0, s => (s, 0)
  | n + 1, s =>
    match (s.queue q).hold, s.qPort q with
    | r :: rest, some port =>
      if s.qFull q then (s, 0)
      else
        let p := s.reg .queuePidx q 0
        let s1 := (s.hostWrite port (s.entryAddr q p) (s.entryOf q r)).modQueue q (fun x => { x with hold := rest })
        let y := State.moveOut q n (s1.setReg .queuePidx q 0 (p + 1))
        (y.1, y.2 + 1)
    | _, _ => (s, 0)

/-- The entries of one dispatch are moved. -/
def State.moveEntries (s : State) (q : Nat) (entries : List Bytes) : State × Nat :=
  let n := s.reg .taskCfgBatchM1 q 0 + 1
  if s.reg .queueCfgType q 0 = QT.stimulus then State.moveStimulus q (entries.take n) s
  else if s.reg .queueCfgType q 0 = QT.command then s.moveCommand q (entries.take (min n (s.qFill q)))
  else State.moveOut q n s

/-- The module's index written to WB after a batch (R313). -/
def State.writeBack (s : State) (q : Nat) : State :=
  match s.qPort q with
  | none => s
  | some n => s.hostWrite n (s.reg64 .queueWbLo .queueWbHi q 0) (toLE 4 (if s.qIn q then s.reg .queueCidx q 0 else s.reg .queuePidx q 0))

/-- A dispatch of a task ends: it joins its list again if it is still ready, and tasks chained after it see PRED (R319,
R320). -/
def State.dispatchEnd (s : State) (q : Nat) : State :=
  (s.chained.filter (fun t => decide (s.reg .taskCfgPred t 0 = q))).foldl
    (fun s t => (s.modQueue t (fun x => { x with pred := true })).rescan t) (s.rescanWith q)

/-- A task that only its chain keeps from being ready again (SCHED_EVENT 0x04). -/
def State.chainWaits (s : State) (q : Nat) : Bool :=
  s.flag .taskCfgChainEn q 0 && bit (s.reg .taskMask q 0) 3 && !(s.queue q).pred && !s.taskReady q &&
    (s.modQueue q (fun x => { x with pred := true })).taskReady q

/-- A task leaves its list for an engine: PRED and the soft flags within MASK clear, and the dispatch is counted (R318). -/
def State.dispatchStart (s : State) (q engine : Nat) : State :=
  let soft := s.reg .taskFlagsSoft q 0
  let s0 := if s.qIn q then s.dmaUse ((s.qPort q).getD 4) else s
  let s1 := (s0.setReg .taskFlagsSoft q 0 (soft - Nat.land soft (s.reg .taskMask q 0 / 2 ^ 16))).bump .taskDispatchCount q 0 1
  let s2 := { s1 with host := { s1.host with ready := s1.host.ready.filter (fun e => decide (e.2 ≠ q)) } }
  (s2.modQueue q (fun x => { x with pred := false })).schedEvent 1 q engine

/-- A batch ends: the index is written back, and entries wait to be signalled. -/
def State.batchEnd (q : Nat) (x : State × Nat) : State :=
  if x.2 = 0 then x.1 else (x.1.writeBack q).entriesMoved q x.2

/-- Back-pressure of a full ring is traced. -/
def State.fullEvent (s : State) (q engine : Nat) : State :=
  if !s.qIn q ∧ s.qFull q ∧ (s.queue q).hold ≠ [] then s.schedEvent 3 q engine else s

/-- A task that waits on its chain is traced. -/
def State.chainEvent (s : State) (q engine : Nat) : State := if s.chainWaits q then s.schedEvent 4 q engine else s

/-- The task of a queue is dispatched to an engine. -/
def State.dispatch (s : State) (q engine : Nat) (entries : List Bytes) : State :=
  ((((State.batchEnd q ((s.dispatchStart q engine).moveEntries q entries)).fullEvent q engine).schedEvent 2 q engine).dispatchEnd
    q).chainEvent q engine

/-- The ready lists brought up to date for every queue. -/
def State.rescanAll (s : State) : State := (s.host.ready.map (·.2) ++ s.enabledQueues).foldl State.rescan s

/-- TASK_DISPATCH (R319): `entries` is what the engine finds in the ring of an in queue, from C on. -/
def execTaskDispatch (engine : Nat) (entries : List Bytes) (s : State) : Host.Outcome State Fault Refusal :=
  .next (if s.sys.off then s
    else
      let s1 := s.rescanAll
      match s1.nextTask engine with
      | none => s1
      | some q => s1.dispatch q engine entries)

/-! ## QUEUE_ASSIGN and QUEUE_SETUP (R311, R321, R322) -/

/-- The partition that an audit entry names for a queue. -/
def State.queuePart (s : State) (q : Nat) : Nat := if s.qScope q < 32 then s.qScope q else 0xFFFF

/-- QUEUE_ASSIGN. -/
def cmdQueueAssign (r : CmdRef) (q part port : Nat) (s : State) : CmdRes :=
  refuseIf [(!(s.isOwner r.org || (decide (s.role r.org = Role.local_) && decide (part = 0xFF))), .notOwner),
    (decide (4096 ≤ q), .notPresent), (decide (32 ≤ part ∧ part ≠ 0xFF), .notPresent),
    (decide (part = 0xFF) && !s.portPresent port, .notPresent), (decide (part ≠ 0xFF) && !s.pExists part, .notPresent),
    (s.qEnabled q, .queueEnabled)] s (fun s =>
    (((s.queueDown q).setReg .queueCfgPart q 0 part).setReg .queueCfgPort q 0 (if part = 0xFF then port else 0)).oks)

/-- QUEUE_ASSIGN (R311). -/
def execQueueAssign (r : CmdRef) (q part port : Nat) (s : State) : Host.Outcome State Fault Refusal :=
  .next (runCmd r 0x0B01 (formParams 0 [(.int 2, q), (.int 1, part), (.int 1, port)]) (if part < 32 then part else 0xFFFF)
    (cmdQueueAssign r q part port) s)

/-- TYPE is one of R312, permitted for the queue's scope. -/
def State.typeOk (s : State) (q type : Nat) : Bool :=
  if s.qScope q = 0xFF then decide (type = 1 ∨ type = 2 ∨ type = 6 ∨ type = 7)
  else decide (type = 1 ∨ type = 2 ∨ type = 3 ∨ type = 4 ∨ type = 5 ∨ type = 7)

/-- ENTRY_LOG2 is one that R312 gives the type. -/
def entryOk (type e : Nat) : Bool :=
  if type = 1 ∨ type = 2 then decide (6 ≤ e ∧ e ≤ 11)
  else if type = 3 then decide (e = 12)
  else if type = 4 then decide (e = 5)
  else if type = 5 then decide (6 ≤ e ∧ e ≤ 12)
  else if type = 6 then decide (e = 6)
  else decide (type = 7 ∧ e = 5)

/-- PAIR is a set-up completion queue of the same scope and port with the same entry size. -/
def State.pairOk (s : State) (q pair entryLog2 : Nat) : Bool :=
  decide (s.reg .queueCfgType pair 0 = QT.completion ∧ s.qScope pair = s.qScope q ∧ s.qPort pair = s.qPort q ∧
    s.reg .queueCfgEntryLog2 pair 0 = entryLog2)

/-- The setup written: P, C and STATUS 0, the task fields at their reset values. -/
def State.setupQueue (s : State) (q type sizeLog2 entryLog2 base wb pair : Nat) : State :=
  let s1 := ((s.setReg .queueCfgType q 0 type).setReg .queueCfgSizeLog2 q 0 sizeLog2).setReg .queueCfgEntryLog2 q 0 entryLog2
  let s2 := ((s1.setReg64 .queueBaseLo .queueBaseHi q 0 base).setReg64 .queueWbLo .queueWbHi q 0 wb).setReg .queuePair q 0 pair
  let clear := [Fld.queuePidx, .queueCidx, .queueStatusEntryErr, .queueStatusDmaErr, .queueStatusDrop, .queueStatusSetupErr,
    .queueStatusDbErr, .taskCfgChainEn, .taskCfgModeAll, .taskCfgPrio, .taskCfgBatchM1, .taskCfgPred, .taskMask, .taskFlagsSoft,
    .taskDispatchCount]
  let s3 := clear.foldl (fun s f => s.setReg f q 0 (s.rst f q 0)) s2
  (s3.modQueue q (fun x => { Queue.init with executing := x.executing })).rescan q

/-- QUEUE_SETUP. -/
def cmdQueueSetup (r : CmdRef) (q type sizeLog2 entryLog2 base wb pair : Nat) (s : State) : CmdRes :=
  refuseIf [(decide (4096 ≤ q ∨ 4096 ≤ pair), .notPresent), ((s.qPort q).isNone, .notPresent), (!s.mayQueue r.org q, .notOwner),
    (!s.typeOk q type, .queueSetup), (decide (sizeLog2 < 4 ∨ 16 < sizeLog2), .queueSetup), (!entryOk type entryLog2, .queueSetup),
    (decide (base % 64 ≠ 0 ∨ base % 2 ^ entryLog2 ≠ 0), .queueSetup), (decide (wb % 8 ≠ 0), .queueSetup),
    (s.qEnabled q, .queueEnabled),
    (decide (type = QT.command) && !s.pairOk q pair entryLog2, .queueSetup),
    (decide (type = QT.capture) && decide (2 ^ entryLog2 < 8 + s.reg .partAcqRecBytes (s.qScope q) 0), .queueSetup)] s
    (fun s => (s.setupQueue q type sizeLog2 entryLog2 base wb pair).oks)

/-- QUEUE_SETUP (R322). -/
def execQueueSetup (r : CmdRef) (q type sizeLog2 entryLog2 base wb pair : Nat) (s : State) :
    Host.Outcome State Fault Refusal :=
  .next (runCmd r 0x0B02 (formParams 0 [(.int 2, q), (.int 1, type), (.int 1, sizeLog2), (.int 1, entryLog2), (.int 8, base),
    (.int 8, wb), (.int 2, pair)]) (s.queuePart q) (cmdQueueSetup r q type sizeLog2 entryLog2 base wb pair) s)

end Sys2Proof.Machine
end

