-- ==== Sys2Proof/Machine/NocServe.lean ====
section
/-! DEFINITION. Packets at their endpoints (R277, R282, R290, R293), and how they move on: what a source sends, what an output of
a router passes on, and what a link channel delivers. -/

namespace Sys2Proof.Machine

/-! ## Service at an endpoint (R277, R282) -/

/-- What an endpoint answers: the code and the data, or nothing yet. -/
abbrev Served := State × Option (Nat × Bytes)

/-- The data of a write, by its byte enables. -/
def pktWrites (k : NocPkt) : List (Option Byte) :=
  (List.range k.len).map (fun i => if bit k.be i then some (k.data.getD i 0) else none)

/-- The endpoint answers. -/
def State.answers (s : State) (cpl : Nat) (data : Bytes) : Served := (s, some (cpl, data))

/-- A hearth agent serves scratchpad bytes by DMA (R129, R130), from the place that its address names; how its addresses lie is a
free value. A write into a bank of a partition in FREE-RUN or LOCKSTEP is rejected. -/
def State.serveAgent (s : State) (k : NocPkt) : Served :=
  let a := k.dst / 32
  match Config.agentByte k.addr with
  | none => s.answers 5 []
  | some x =>
    let h := agentHearth k.dst x.1
    let at_ := x.2.2 % 131072
    let w := decide (k.type = 2)
    if s.regionClosed (regionOf a h) then s.answers 2 []
    else if w ∧ k.poison then s.answers 1 []
    else if 131072 < at_ + k.len then s.answers 5 []
    else if w ∧ (s.hearthPart a h).any s.executing then (s.dmaBusy (.noc k.src k.dst k.tag), none)
    else (s.dmaStart ⟨.noc k.src k.dst k.tag, a, h, x.2.1 % 2, at_, k.len, 0, [], 0, false, if w then some (pktWrites k) else none, 0⟩,
      none)

/-- The DRAM controller serves usable memory with class 2 (R254, R266). -/
def State.serveDram (s : State) (k : NocPkt) : Served :=
  let w := decide (k.type = 2)
  if Config.dramUsable < k.addr + k.len then s.answers 5 []
  else if w ∧ k.poison then s.answers 1 []
  else (s.jobStart (.noc k.src k.dst k.tag) (k.dst / 32) 0x80 (if w then 0 else k.len)
    (piecesOf 0 k.addr k.len (if w then some (pktWrites k) else none)), none)

/-- The register words that an endpoint holds: the NOC, LINK and DDR blocks of its anvil, or the blocks of the management
domain (R277, R279). -/
def endpointHolds (e : Nat) (w : WordAt) : Bool :=
  if e = 0xFF then Blk.management w.blk
  else match w.blk with
    | .noc => decide (w.inst = e / 32)
    | .ddr => decide (w.inst = e / 32)
    | .link => decide (w.inst / 3 = e / 32)
    | _ => false

/-- For whom a requester accesses registers: the host port whose tag a request of the management controller holds (R299), else a
control processor. -/
def State.reqOrigin (s : State) (k : NocPkt) : Origin :=
  if k.src ≠ 0xFF then .cp (k.src / 32) else if k.tag < 512 then .host (k.tag / 128) else .cp s.steward

/-- Register accesses of an endpoint, word by word; ADDR is the module address of the first. A write takes the words all of
whose bytes are enabled. -/
def State.serveRegs (s : State) (k : NocPkt) : Served :=
  let o := s.reqOrigin k
  let words := (List.range (k.len / 4)).map (fun i => k.addr + 4 * i)
  let known := words.all (fun x => match decodeAddr x with | some w => endpointHolds k.dst w && decide (w.fields ≠ []) | none => false)
  if k.addr % 4 ≠ 0 ∨ k.len % 4 ≠ 0 ∨ !known then s.answers 5 []
  else if k.type = 2 ∧ k.poison then s.answers 1 []
  else if k.type = 1 then
    let x := s.readWords o k.addr (k.len / 4)
    x.2.answers 0 (x.1.flatMap (toLE 4))
  else
    let put := fun (s : State) (i : Nat) =>
      if (List.range 4).all (fun b => bit k.be (4 * i + b)) then s.writeWord o (k.addr + 4 * i) (le k.data (4 * i) 4) else s
    ((List.range (k.len / 4)).foldl put s).answers 0 []

/-- A control processor's own memory, of which the spec gives nothing: whether the address holds memory and what a read
returns are free values. -/
def State.serveCp (s : State) (k : NocPkt) : Served :=
  let x := s.takeBit
  if k.type = 2 ∧ k.poison then s.answers 1 []
  else if x.1 then x.2.answers 5 []
  else x.2.answers 0 (if k.type = 1 then (List.range k.len).map (Config.wireByte s.free) else [])

/-- A request served at its endpoint. An anvil's own endpoints refuse while they drain (R291); the CP's memory answers the
management controller over the bridge all the same (R279). -/
def State.serveRequest (s : State) (k : NocPkt) : Served :=
  let e := k.dst % 32
  if k.len = 0 ∨ 64 < k.len then s.answers 5 []
  else if k.dst = 0xFF then s.serveRegs k
  else if e < 16 then s.serveAgent k
  else if e = 0x10 ∧ k.src = 0xFF then s.serveCp k
  else if Tab.get false s.noc.closed [k.dst / 32] then s.answers 2 []
  else if e = 0x10 then s.serveCp k
  else if e = 0x11 then s.serveDram k
  else s.serveRegs k

/-- A completion reaches its requester: its status, and the data of a READ, and the tag is free; for any other tag it is late
(R282, R286). A poisoned completion carries uncorrectable data (R293). -/
def State.takeCompletion (s : State) (k : NocPkt) : State :=
  let a := tagOwner k.dst
  let late := if a < 8 then (s.bump .nocErrLateCount a 0 1).setReg .nocErrStatusLate a 0 1 else s
  match s.nocTag a k.tag with
  | some t =>
    if !t.dead ∧ t.src = k.dst ∧ t.dst = k.src then
      (s.setTag a k.tag none).nocResult k.dst k.tag (if k.poison then .uncorrectable else cplStatus k.cpl) (k.data.take t.len)
    else late
  | none => late

/-- A packet leaves the network at its endpoint. -/
def State.nocDeliver (s : State) (k : NocPkt) : State :=
  if k.type = 3 then s.takeCompletion k
  else if k.type = 4 then s.modNoc (fun n => { n with messages := n.messages ++ [k] })
  else
    let y := s.serveRequest k
    match y.2 with
    | some x => y.1.replyTo k.src k.dst k.tag x.1 x.2
    | none => y.1

/-! ## Movement (R276, R278, R283) -/

/-- An output of a router passes on the packet that it serves next, if that is one of VC `v`. -/
def State.nocPass (s : State) (v a r out : Nat) (flaw : NocFlaw) : State :=
  if !s.anvilOn a then s
  else
    match s.nocPick a r out with
    | none => s
    | some (inp, v1) =>
      match Tab.get [] s.noc.bufs [a, r, inp, v1] with
      | [] => s
      | t :: rest =>
        if v1 ≠ v then s
        else
          let s1 := s.modNoc (fun n => { n with
            bufs := Tab.put [] n.bufs [a, r, inp, v1] rest
            turn := Tab.put 0 n.turn [a, r, out] (inp + 1) })
          let chan := fun l => s1.modNoc (fun n => { n with chans := Tab.modify [] n.chans [a, l] (· ++ [t.pkt]) })
          if out < 4 then s1.nocEnter a (hopTo out r) (oppositePort out) t.pkt flaw
          else if out = 4 then s1.nocDeliver t.pkt
          else if out = 5 then (match linkAt r with | some l => chan l | none => s1)
          else chan 3

/-- The packet at the head of a channel arrives, if it is one of VC `v`; the replay buffer forgets it. A management link ends at the
management controller, at the anvil's CP, or at router 0; while the anvil domain is off the bridge has no way to the router,
and a request completes with CPL 0x3 (R279). -/
def State.nocLand (s : State) (v a l : Nat) : State :=
  match Tab.get [] s.noc.chans [a, l] with
  | [] => s
  | k :: rest =>
    if k.vc ≠ v ∨ !s.linkUp a (min l 3) then s
    else
      let s1 := s.modNoc (fun n => { n with
        chans := Tab.put [] n.chans [a, l] rest
        replays := Tab.put 0 n.replays [a, min l 3] 0 })
      if l < 3 then s1.nocEnter (linkPeer a l) (linkRouter (linkFacing l)) 5 k ⟨[], []⟩
      else if l = 3 then s1.nocDeliver k
      else if k.dst = 32 * a + 0x10 then s1.nocDeliver k
      else if !s.anvilOn a then (if k.asks then s1.nocAnswer k 3 (a, 16) else s1)
      else if s.bufUsed a 0 6 v + k.flits ≤ bufFlits then s1.nocEnter a 0 6 k ⟨[], []⟩
      else s

/-- Movement of the packets of one VC; freed buffers let sources send. -/
def State.nocMove (s : State) (v : Nat) (e : NocEvent) : State :=
  match e with
  | .send _ => s
  | .pass a r out flaw => (s.nocPass v a r out flaw).nocPump
  | .arrive a l => (s.nocLand v a l).nocPump

/-! ## NOC_REQUEST and NOC_COMPLETION -/

/-- NOC_REQUEST: a source has a READ, WRITE or MESSAGE to send, or one moves on and in the end is served. A completion is no
request. -/
def State.nocRequest (s : State) (e : NocEvent) : State :=
  if s.sys.off then s
  else
    match e with
    | .send q =>
      if q.type = 3 ∨ !s.sourceOn q.src q.dst then s
      else (s.modNoc (fun n => { n with held := n.held ++ [q] })).nocPump
    | e => s.nocMove 0 e

/-- NOC_REQUEST (R282). -/
def execNocRequest (e : NocEvent) (s : State) : Host.Outcome State Fault Refusal := .next (s.nocRequest e)

/-- The packet of a completion: it carries the epoch of its own source, and the priority of its request (R283, R288). -/
def State.replyPacket (s : State) (x : NocReply) : NocPkt :=
  let data := flitsOf (x.data.take 64)
  let prio := (s.nocTag (tagOwner x.dst) x.tag).elim 0 (·.prio)
  let e := match x.place with | some (a, _) => if a < 8 then s.reg .nocEpochCurrent a 0 else s.epochOf 0xFF | none => s.epochOf x.src
  ⟨sealed (headerBody 3 x.src x.dst x.tag x.cpl 0 0 0 (data.length / 32) prio e), data⟩

/-- A completion is sent, where there is room: by the endpoint that served the request, or by the network itself. -/
def State.sendReply (s : State) (q : NocReq) : State :=
  match s.noc.replies.find? (fun x => decide (x.src = q.src ∧ x.dst = q.dst ∧ x.tag = q.tag)) with
  | none => s
  | some x =>
    let s0 := s.modNoc (fun n => { n with replies := n.replies.erase x })
    let k := s.replyPacket x
    match x.place with
    | some (8, _) => s0.takeCompletion k
    | _ => if x.place.isNone ∧ !s.sourceOn x.src x.dst then s else (s0.nocInject k x.place).getD s

/-- NOC_COMPLETION: a completion is sent, moves on, and in the end reaches its requester. -/
def State.nocCompletion (s : State) (e : NocEvent) : State :=
  if s.sys.off then s
  else
    match e with
    | .send q => (s.sendReply q).nocPump
    | e => s.nocMove 1 e

/-- NOC_COMPLETION (R282). -/
def execNocCompletion (e : NocEvent) (s : State) : Host.Outcome State Fault Refusal := .next (s.nocCompletion e)

end Sys2Proof.Machine
end

