-- ==== Sys2Proof/Machine/Records.lean ====
section
/-! DEFINITION. The commands of the host interface itself (R321, R325, R327), and request records: how a record's CODE and
parameters become one of the module's commands (R308, R309, R444). -/

namespace Sys2Proof.Machine

/-! ## Host-interface commands (R321) -/

/-- HOST_IDENTIFY: only a host port has an identity. -/
def cmdHostIdentify (r : CmdRef) (ident : Bytes) (s : State) : CmdRes :=
  match r.org with
  | .host n => ([0, 1, 2, 3].foldl (fun s j => s.setReg .hostId n j (le ident (4 * j) 4)) s).oks
  | _ => s.says .notOwner

/-- HOST_IDENTIFY (R321). -/
def execHostIdentify (r : CmdRef) (ident : Bytes) (s : State) : Host.Outcome State Fault Refusal :=
  .next (runCmd r 0x0B00 (formWith [] ident) 0xFFFF (cmdHostIdentify r ident) s)

/-- The entries held: those of the flash that the ring no longer has, and the ring (R327). -/
def State.auditHeld (s : State) : List AuditEntry :=
  let h := s.host
  let first := match h.log with | e :: _ => e.seq | [] => h.logSeq
  h.flashLog.filter (fun e => decide (e.seq < first)) ++ h.log

/-- An origin may read an entry: a tenant only those of its port and of its partitions (R325). -/
def State.auditVisible (s : State) (o : Origin) (e : AuditEntry) : Bool :=
  decide (s.role o ≠ Role.tenant) || decide (e.port = portByteOf o) || (decide (e.part < 32) && s.isTenantOf o e.part)

/-- AUDIT_READ. -/
def cmdAuditRead (r : CmdRef) (first count addr : Nat) (s : State) : CmdRes :=
  let host := match r.org with | .host _ => true | _ => false
  let sel := ((s.auditHeld.filter (fun e => decide (first ≤ e.seq) && s.auditVisible r.org e)).take count)
  let last := match sel.getLast? with | some e => e.seq | none => s.host.logSeq - 1
  let lost := (s.host.lost.filter (fun q => decide (first ≤ q ∧ q ≤ last))).length
  let bs := sel.flatMap AuditEntry.bytes
  refuseIf [(decide (count < 1) || decide ((if host then 4096 else 30) < count), .cmdFormat),
    (!host && decide (addr ≠ 0), .cmdFormat)] s (fun s =>
    match r.org with
    | .host n => (s.hostWrite n addr bs, some ⟨.ok, 0, toLE 4 lost⟩)
    | _ => (s, some ⟨.ok, 0, bs ++ toLE 4 lost⟩))

/-- AUDIT_READ (R325). -/
def execAuditRead (r : CmdRef) (first count addr : Nat) (s : State) : Host.Outcome State Fault Refusal :=
  .next (runCmd r 0x0B03 (formParams 0 [(.int 8, first), (.int 2, count), (.int 8, addr)]) 0xFFFF (cmdAuditRead r first count addr) s)

/-- OWNER_CERT_SET: all zeros empty the slot. -/
def cmdOwnerCertSet (r : CmdRef) (slot : Nat) (fingerprint : Bytes) (flashBad : Bool) (s : State) : CmdRes :=
  refuseIf [(decide (s.role r.org ≠ Role.local_), .notOwner), (decide (2 ≤ slot), .cmdFormat)] s (fun s =>
    let f := if fingerprint = zeros 48 then [] else fingerprint
    if flashBad then s.copyLost.says .flashError
    else ({ s with host := { s.host with certs := Tab.put [] s.host.certs [slot] f } }).saveImage.oks)

/-- OWNER_CERT_SET (R321). -/
def execOwnerCertSet (r : CmdRef) (slot : Nat) (fingerprint : Bytes) (flashBad : Bool) (s : State) : Host.Outcome State Fault Refusal :=
  .next (runCmd r 0x0B04 (formWith [(.int 1, slot)] fingerprint) 0xFFFF (cmdOwnerCertSet r slot fingerprint flashBad) s)

/-- ROLE_GRANT: a session may not remove its own port's grant. -/
def cmdRoleGrant (r : CmdRef) (port grant : Nat) (flashBad : Bool) (s : State) : CmdRes :=
  refuseIf [s.ownerOrLocal r.org, (!s.portPresent port, .notPresent), (decide (2 ≤ grant), .cmdFormat),
    (decide (r.org = .host port ∧ grant = 0), .notOwner)] s (fun s =>
    if flashBad then s.copyLost.says .flashError else (s.setSetting .hostRoleGrant port 0 grant).saveImage.oks)

/-- ROLE_GRANT (R321). -/
def execRoleGrant (r : CmdRef) (port grant : Nat) (flashBad : Bool) (s : State) : Host.Outcome State Fault Refusal :=
  .next (runCmd r 0x0B05 (formParams 0 [(.int 1, port), (.int 1, grant)]) 0xFFFF (cmdRoleGrant r port grant flashBad) s)

/-- AUDIT_PERSIST (R327). -/
def execAuditPersist (s : State) : Host.Outcome State Fault Refusal := .next (if s.sys.off then s else s.persistAudit)

/-! ## Records (R308, R309) -/

/-- A command as its record gives it: its integers, the length of the byte string after them, the partition it names, and its
effect. -/
structure Form where
  kinds : List PKind
  tail : Nat
  part : Nat
  run : State → CmdRes

/-- A command of integers: `part` is the place of the partition among them, if it names one. -/
def formInts (ps : Bytes) (ks : List Nat) (part : Option Nat) (f : List Nat → State → CmdRes) : Option Form :=
  let kinds := ks.map PKind.int
  let v := parseParams kinds ps
  some ⟨kinds, 0, (match part with | some i => v.getD i 0 | none => 0xFFFF), f v⟩

/-- A command of integers and a byte string. -/
def formTail (ps : Bytes) (ks : List Nat) (len : List Nat → Nat) (f : List Nat → Bytes → State → CmdRes) : Option Form :=
  let kinds := ks.map PKind.int
  let v := parseParams kinds ps
  some ⟨kinds, len v, 0xFFFF, f v (slice ps (layoutEnd 0 kinds) (len v))⟩

/-- Partition commands (R147). -/
def form05 (r : CmdRef) (n : Nat) (ps : Bytes) : Option Form :=
  let g := fun (v : List Nat) i => v.getD i 0
  if n = 0 then formInts ps [1, 8, 1] (some 0) (fun v => cmdPartCreate r (g v 0) (g v 1) (g v 2))
  else if n = 1 then formInts ps [1] (some 0) (fun v => cmdPartDestroy r (g v 0))
  else if n = 2 then formInts ps [1, 1] (some 0) (fun v => cmdPartBind r (g v 0) (g v 1))
  else if n = 3 then formInts ps [1, 1, 1, 8] (some 0) (fun v => cmdPartRun r (g v 0) (g v 1) (g v 2) (g v 3))
  else if n = 4 then formInts ps [1, 1, 1] (some 0) (fun v => cmdPartStop r (g v 0) (g v 1) (g v 2))
  else if n = 5 then formInts ps [1, 1, 1] (some 0) (fun v => cmdPartHalt r (g v 0) (g v 1) (g v 2))
  else if n = 6 then formInts ps [1, 1] (some 0) (fun v => cmdPartResume r (g v 0) (g v 1))
  else if n = 7 then formInts ps [1] (some 0) (fun v => cmdPartUnload r (g v 0))
  else none

/-- Image loading and image keys (R194, R202); whether a copy in flash fails its read-back (R409) is a free value. -/
def form06 (r : CmdRef) (n : Nat) (ps : Bytes) : Option Form :=
  let g := fun (v : List Nat) i => v.getD i 0
  if n = 0 then formInts ps [1, 1, 8, 8, 4] (some 0) (fun v => cmdPartLoad r (g v 0) (g v 1) (g v 2) (g v 3) (g v 4))
  else if n = 1 then formTail ps [1] (fun _ => 97) (fun v d s => cmdImageKeySet r (g v 0) d s.takeBit.1 s.takeBit.2)
  else if n = 2 then formInts ps [1] none (fun v s => cmdImageKeyClear r (g v 0) s.takeBit.1 s.takeBit.2)
  else none

/-- The data of a deposit, read from host memory at its address (R219); an origin without host memory delivers free bytes. -/
def State.depositData (s : State) (r : CmdRef) (kind count addr : Nat) : Bytes :=
  s.hostRead (portByteOf r.org) addr (if kind = 0 then 32 * count else count)

/-- Capture, readback and deposit (R211, R218, R219). -/
def form07 (r : CmdRef) (n : Nat) (ps : Bytes) : Option Form :=
  let g := fun (v : List Nat) i => v.getD i 0
  if n = 0 then formInts ps [1, 1, 8, 1, 1] (some 0) (fun v => cmdCaptureRequest r (g v 0) (g v 1) (g v 2) (g v 3) (g v 4))
  else if n = 1 then formInts ps [1] (some 0) (fun v => cmdCaptureRelease r (g v 0))
  else if n = 2 then formInts ps [1, 1, 8, 8, 8] (some 0) (fun v => cmdCaptureDramRead r (g v 0) (g v 1) (g v 2) (g v 3) (g v 4))
  else if n = 3 then
    formInts ps [1, 1, 1, 1, 8, 8, 8] (some 0) (fun v => cmdStateRead r (g v 0) (g v 1) (g v 2) (g v 3) (g v 4) (g v 5) (g v 6))
  else if n = 4 then
    formInts ps [1, 1, 1, 1, 8, 8, 8, 1] (some 0) (fun v s =>
      cmdStateDeposit r (g v 0) (g v 1) (g v 2) (g v 3) (g v 4) (g v 5) (g v 6) (g v 7) (s.depositData r (g v 1) (g v 5) (g v 6))
        { s with free := s.free + 1 })
  else none

/-- Trace and DRAM commands (R251, R273). -/
def form08 (r : CmdRef) (n : Nat) (ps : Bytes) : Option Form :=
  let g := fun (v : List Nat) i => v.getD i 0
  if n = 0 then formInts ps [1, 1] none (fun v => cmdTraceBufAlloc r (g v 0) (g v 1))
  else if n = 1 then formInts ps [] none (fun _ => cmdTraceBufFree r)
  else none

/-- DRAM commands (R273); whether a thaw's retraining succeeds is a free value. -/
def form09 (r : CmdRef) (n : Nat) (ps : Bytes) : Option Form :=
  let g := fun (v : List Nat) i => v.getD i 0
  if n = 0 then formInts ps [1, 1] none (fun v s => cmdDdrThaw r (g v 0) (g v 1) s.takeBit.1 s.takeBit.2)
  else if n = 1 then formInts ps [1, 8] none (fun v => cmdDdrRetirePage r (g v 0) (g v 1))
  else if n = 2 then formInts ps [1, 1, 1, 1] none (fun v => cmdDdrMarkSet r (g v 0) (g v 1) (g v 2) (g v 3))
  else none

/-- Host-interface commands (R321); the read-back of flash is a free value. -/
def form0B (s : State) (r : CmdRef) (n : Nat) (ps : Bytes) : Option Form :=
  let g := fun (v : List Nat) i => v.getD i 0
  if n = 0 then formTail ps [] (fun _ => 16) (fun _ d => cmdHostIdentify r d)
  else if n = 1 then
    (formInts ps [2, 1, 1] (some 1) (fun v => cmdQueueAssign r (g v 0) (g v 1) (g v 2))).map (fun (f : Form) =>
      { f with part := if f.part < 32 then f.part else 0xFFFF })
  else if n = 2 then
    (formInts ps [2, 1, 1, 1, 8, 8, 2] (some 0)
      (fun v => cmdQueueSetup r (g v 0) (g v 1) (g v 2) (g v 3) (g v 4) (g v 5) (g v 6))).map (fun (f : Form) =>
        { f with part := s.queuePart f.part })
  else if n = 3 then formInts ps [8, 2, 8] none (fun v => cmdAuditRead r (g v 0) (g v 1) (g v 2))
  else if n = 4 then formTail ps [1] (fun _ => 48) (fun v d s => cmdOwnerCertSet r (g v 0) d s.takeBit.1 s.takeBit.2)
  else if n = 5 then formInts ps [1, 1] none (fun v s => cmdRoleGrant r (g v 0) (g v 1) s.takeBit.1 s.takeBit.2)
  else if n = 6 then formInts ps [4, 2] none (fun v => cmdRegRead r (g v 0) (g v 1))
  else if n = 7 then
    formInts ps ([4, 1] ++ List.replicate (le ps 4 1) 4) none (fun v => cmdRegWrite r (g v 0) (g v 1) (v.drop 2))
  else none

/-- Waltline and time commands (R353, R369). -/
def form0C (r : CmdRef) (n : Nat) (ps : Bytes) : Option Form :=
  let g := fun (v : List Nat) i => v.getD i 0
  if n = 0 then formInts ps [1, 1, 1, 1, 1] (some 1) (fun v => cmdWlStreamBind r (g v 0) (g v 1) (g v 2) (g v 3) (g v 4))
  else if n = 1 then formInts ps [1] none (fun v => cmdWlStreamUnbind r (g v 0))
  else if n = 2 then formInts ps [1, 1] none (fun v => cmdWlLaneCtl r (g v 0) (g v 1))
  else if n = 3 then formInts ps [1, 1] none (fun v => cmdWlBank r (g v 0) (g v 1))
  else none

/-- Side-pin commands (R385). -/
def form0E (r : CmdRef) (n : Nat) (ps : Bytes) : Option Form :=
  let g := fun (v : List Nat) i => v.getD i 0
  if n = 0 then formInts ps [1, 4, 1] none (fun v => cmdSpUartCfg r (g v 0) (g v 1) (g v 2))
  else if n = 1 then formTail ps [1, 2] (fun v => g v 1) (fun v d => cmdSpUartSend r (g v 0) (g v 1) d)
  else if n = 2 then formInts ps [1, 2] none (fun v => cmdSpUartRecv r (g v 0) (g v 1))
  else if n = 3 then
    formTail ps [1, 1, 1, 2, 2] (fun v => g v 3) (fun v d => cmdSpI2cXfer r (g v 0) (g v 1) (g v 2) (g v 3) (g v 4) d)
  else if n = 4 then formTail ps [1, 1, 1, 2] (fun v => g v 3) (fun v d => cmdSpSpiXfer r (g v 0) (g v 1) (g v 2) (g v 3) d)
  else none

/-- Module, settings and firmware commands (R418); the read-back of flash is a free value. -/
def form10 (r : CmdRef) (n : Nat) (ps : Bytes) : Option Form :=
  let g := fun (v : List Nat) i => v.getD i 0
  if n = 0 then formInts ps [1] none (fun v => cmdModPower r (g v 0))
  else if n = 1 then formInts ps [1, 1] none (fun v => cmdModReset r (g v 0) (g v 1))
  else if n = 2 then formInts ps [] none (fun _ s => cmdSettingsSave r s.takeBit.1 s.takeBit.2)
  else if n = 3 then formInts ps [] none (fun _ s => cmdSettingsErase r s.takeBit.1 s.takeBit.2)
  else if n = 4 then formInts ps [8, 8, 8] none (fun v => cmdSettingsRead r (g v 0) (g v 1) (g v 2))
  else if n = 5 then
    formTail ps [1, 1, 8, 8, 8, 1] (fun v => if g v 0 = 1 then g v 3 else 0)
      (fun v d s => cmdFwStage r (g v 0) (g v 1) (g v 2) (g v 3) (g v 4) (g v 5) d s.takeBit.1 s.takeBit.2)
  else if n = 6 then formInts ps [] none (fun _ s => cmdFwActivate r s.takeBit.1 s.takeBit.2)
  else if n = 7 then formInts ps [] none (fun _ s => cmdFwConfirm r s.takeBit.1 s.takeBit.2)
  else none

/-- Service commands (R439); what a self-test finds is a free value. -/
def form11 (r : CmdRef) (n : Nat) (ps : Bytes) : Option Form :=
  let g := fun (v : List Nat) i => v.getD i 0
  if n = 0 then formInts ps [1, 1, 8] none (fun v => cmdSvcMaint r (g v 0) (g v 1) (g v 2))
  else if n = 1 then
    formInts ps [8] none (fun v s => cmdSvcSelftest r (g v 0) (Config.selfTest s.free) { s with free := s.free + 1 })
  else if n = 2 then formInts ps [] none (fun _ => cmdTemperReplan r)
  else if n = 3 then formInts ps [1, 1, 2] none (fun v => cmdBilletInsert r (g v 0) (g v 1) (g v 2))
  else none

/-- The command of a CODE, if there is one. -/
def State.formOf (s : State) (r : CmdRef) (code : Nat) (ps : Bytes) : Option Form :=
  let n := code % 256
  if code / 256 = 0x05 then form05 r n ps
  else if code / 256 = 0x06 then form06 r n ps
  else if code / 256 = 0x07 then form07 r n ps
  else if code / 256 = 0x08 then form08 r n ps
  else if code / 256 = 0x09 then form09 r n ps
  else if code / 256 = 0x0B then form0B s r n ps
  else if code / 256 = 0x0C then form0C r n ps
  else if code = 0x0D00 then formInts ps [1, 8] none (fun v => cmdTimeStep r (v.getD 0 0) (v.getD 1 0))
  else if code / 256 = 0x0E then form0E r n ps
  else if code / 256 = 0x10 then form10 r n ps
  else if code / 256 = 0x11 then form11 r n ps
  else none

/-- A record as its header has it: CODE, PLEN, SEQ, FLAGS, VECTOR and the reserved word (R308). -/
structure ReqHead where
  code : Nat
  plen : Nat
  seq : Nat
  flags : Nat
  vector : Nat
  zero : Nat
deriving DecidableEq, Repr

/-- The header of a record. -/
def headOf (rec : Bytes) : ReqHead := ⟨le rec 0 2, le rec 2 2, le rec 4 4, le rec 8 2, le rec 10 2, le rec 12 4⟩

/-- The parameters of a record. -/
def paramsOf (rec : Bytes) : Bytes := slice rec 16 (le rec 2 2)

/-- PLEN matches the command, and no reserved field is set (R308, R309). -/
def Form.fits (f : Form) (h : ReqHead) (ps : Bytes) : Bool :=
  let ks := if f.tail = 0 then f.kinds else f.kinds ++ [.str f.tail]
  decide (h.plen = plenOf ks ∧ h.flags < 2 ∧ h.vector < 512 ∧ h.zero = 0) && gapsClear ks ps

/-- The effect of a command that has started, from its code and parameters. -/
def State.effect (s : State) (r : CmdRef) (code : Nat) (ps : Bytes) : CmdRes :=
  if s.recoveryRefuses code ps then s.says .fwInvalid
  else match s.formOf r code ps with
    | none => s.says .cmdUnknown
    | some f => f.run s

/-- A record that the steward starts: it is BUSY, it is checked, and it has its effect (R307, R308, R444). -/
def State.startRecord (s : State) (r : CmdRef) (rec hostId : Bytes) : CmdRes :=
  let h := headOf rec
  let ps := paramsOf rec
  let form := s.formOf r h.code ps
  let s1 := s.begin r h.code ps (match form with | some f => f.part | none => 0xFFFF) (if h.flags % 2 = 1 then some h.vector else none) hostId
  if s1.recoveryRefuses h.code ps then s1.says .fwInvalid
  else match form with
    | none => s1.says .cmdUnknown
    | some f => if f.fits h ps then f.run s1 else s1.says .cmdFormat

end Sys2Proof.Machine
end

