-- ==== Sys2Proof/Machine/HostIf.lean ====
section
/-! DEFINITION. How commands come in and how they end (R300, R303 to R308): mailboxes, management sessions, the service
UART, the start and the completion of a command; host-port resets and failed DMA reads (R298, R300); and REGISTER_WRITE. -/

namespace Sys2Proof.Machine

/-- A command joins those that wait for the steward. -/
def State.post (s : State) (r : CmdRef) (record : Bytes) : State :=
  { s with host := { s.host with posted := s.host.posted ++ [⟨r, record, s.hostIdOf r.org⟩] } }

/-! ## Mailboxes (R305, R306) -/

/-- A write was discarded under R306. -/
def State.mboxProto (s : State) (n m : Nat) : State := s.setReg .mboxStateProto (mbInst n m) 0 1

/-- The request area is written in IDLE and in DONE; otherwise the write is discarded. -/
def State.mboxRequest (s : State) (n m : Nat) (f : Bytes → Bytes) : State :=
  if s.mbState n m = 0 ∨ s.mbState n m = 3 then s.modBox n m (fun x => { x with req := f x.req }) else s.mboxProto n m

/-- GO: the request record is posted from IDLE. -/
def State.mboxGo (s : State) (n m : Nat) : State :=
  if s.mbState n m = 0 then
    let x := (s.box n m).req
    (s.setReg .mboxStateState (mbInst n m) 0 1).post ⟨.host n, m, le x 4 4⟩ x
  else s.mboxProto n m

/-- ACK: a mailbox in DONE returns to IDLE. -/
def State.mboxAck (s : State) (n m : Nat) : State :=
  if s.mbState n m = 3 then s.setReg .mboxStateState (mbInst n m) 0 0 else s.mboxProto n m

/-- A mailbox that exists and can be reached. -/
def State.mboxHere (s : State) (n m : Nat) : Bool := !s.sys.off && decide (n < 4) && s.portPresent n && decide (m < 16)

/-- MBOX_GO (R306): the host writes its record, then GO. -/
def execMboxGo (n m : Nat) (record : Bytes) (s : State) : Host.Outcome State Fault Refusal :=
  .next (if s.mboxHere n m then (s.mboxRequest n m (fun _ => record)).mboxGo n m else s)

/-- MBOX_ACK (R306). -/
def execMboxAck (n m : Nat) (s : State) : Host.Outcome State Fault Refusal :=
  .next (if s.mboxHere n m then s.mboxAck n m else s)

/-! ## The management port and the service UART (R303, R304) -/

/-- A session slot in use. -/
def State.session (s : State) (k : Nat) : Option Session := Tab.get none s.host.sessions [k]

/-- A fingerprint enrolled in an owner slot. -/
def State.enrolled (s : State) (f : Bytes) : Bool :=
  decide (f ≠ []) && [0, 1].any (fun i => decide (Tab.get [] s.host.certs [i] = f))

/-- MGMT_SESSION_OPEN: an enrolled client gets a session, up to 4; any other is refused, which the audit log shows. -/
def State.sessionOpen (s : State) (f : Bytes) : State :=
  if s.enrolled f then
    match (List.range 4).find? (fun k => (s.session k).isNone) with
    | some k =>
      let s1 := s.dropLatches (.mgmt k)
      { s1 with host := { s1.host with sessions := Tab.put none s1.host.sessions [k] (some ⟨f, 0⟩) } }
    | none => s
  else s.audit ⟨0, 0, Role.module, 0x10, Status.authFailed.num, 2, 4, 0xFFFF, 0, 0, slice f 0 16, 0, 0⟩

/-- MGMT_SESSION_OPEN (R303). -/
def execMgmtSessionOpen (fingerprint : Bytes) (s : State) : Host.Outcome State Fault Refusal :=
  .next (if s.sys.off then s else s.sessionOpen fingerprint)

/-- The commands of an origin that have not been answered. -/
def State.outstanding (s : State) (o : Origin) : List CmdRef :=
  ((s.host.posted.map (fun (x : Posted) => x.ref)) ++ (s.host.busy.map (fun (b : Busy) => b.ref))).filter (fun r => decide (r.org = o))

/-- MGMT_SESSION_CLOSE: its commands complete without a response. -/
def State.sessionClose (s : State) (k : Nat) : State :=
  match s.session k with
  | none => s
  | some _ =>
    let gone := (s.outstanding (.mgmt k)).filter (fun r => !s.host.orphans.contains r)
    let s1 := s.dropLatches (.mgmt k)
    { s1 with host := { s1.host with
      sessions := Tab.put none s1.host.sessions [k] none
      orphans := s1.host.orphans ++ gone } }

/-- MGMT_SESSION_CLOSE (R303). -/
def execMgmtSessionClose (k : Nat) (s : State) : Host.Outcome State Fault Refusal := .next (s.sessionClose k)

/-- The lowest command slot of an origin that no command in flight uses. -/
def State.freeSlot (s : State) (o : Origin) : Nat :=
  let used := (s.outstanding o).map (fun (r : CmdRef) => r.slot)
  ((List.range (used.length + 1)).find? (fun n => !used.contains n)).getD used.length

/-- MGMT_MESSAGE: a session holds up to 16 commands. -/
def State.mgmtMessage (s : State) (k : Nat) (record : Bytes) : State :=
  match s.session k with
  | none => s
  | some x =>
    if 16 ≤ x.outstanding then s
    else
      let y : Session := { x with outstanding := x.outstanding + 1 }
      ({ s with host := { s.host with sessions := Tab.put none s.host.sessions [k] (some y) } }).post
        ⟨.mgmt k, s.freeSlot (.mgmt k), le record 4 4⟩ record

/-- MGMT_MESSAGE (R303). -/
def execMgmtMessage (k : Nat) (record : Bytes) (s : State) : Host.Outcome State Fault Refusal :=
  .next (if s.sys.off then s else s.mgmtMessage k record)

/-- UART_FRAME: accepted while the strap is closed, with a good CRC, and while no command of the session is outstanding. -/
def State.uartFrame (s : State) (record : Bytes) (crc : Nat) : State :=
  if s.flag .spCfgStrap 0 0 ∧ crc = crc32 (toLE 2 record.length ++ record) ∧ !s.host.uartBusy then
    ({ s with host := { s.host with uartBusy := true } }).post ⟨.uart, s.freeSlot .uart, le record 4 4⟩ record
  else s

/-- UART_FRAME (R304). -/
def execUartFrame (record : Bytes) (crc : Nat) (s : State) : Host.Outcome State Fault Refusal :=
  .next (if s.sys.off then s else s.uartFrame record crc)

/-! ## Start and completion (R306, R307) -/

/-- A command that has an answer is answered. -/
def State.respondTo (s : State) (r : CmdRef) : State :=
  match s.busyOf r with
  | some b => s.respond b
  | none => s

/-- What a command's effect gave: its answer is entered and, if it has one, the response is written. -/
def State.settle (r : CmdRef) (x : CmdRes) : State :=
  match x.2 with
  | none => x.1.respondTo r
  | some a => (x.1.answer r a).respondTo r

/-- The command that starts next: the oldest; in recovery the boot ROM serves the UART alone (R307, R415). -/
def State.nextPosted (s : State) : Option Posted :=
  if s.sys.off then none
  else if s.sys.recovery then s.host.posted.find? (fun x => decide (x.ref.org = .uart))
  else if s.sys.steward ∧ !s.sys.stewardDown then s.host.posted.head?
  else none

/-- A posted command leaves the waiting ones; a mailbox becomes BUSY. -/
def State.unpost (s : State) (x : Posted) : State :=
  let s1 := { s with host := { s.host with posted := s.host.posted.erase x } }
  match x.ref.org with
  | .host n => if x.ref.slot < 16 then s1.setReg .mboxStateState (mbInst n x.ref.slot) 0 2 else s1
  | _ => s1

/-- COMMAND_START: a command that completes at once is answered at once. -/
def State.commandStart (s : State) : State :=
  match s.nextPosted with
  | none => s
  | some x => State.settle x.ref ((s.unpost x).startRecord x.ref x.record x.hostId)

/-- COMMAND_START (R307). -/
def execCommandStart (s : State) : Host.Outcome State Fault Refusal := .next s.commandStart

/-- COMMAND_COMPLETION: a command that has run its time is answered; one that waited for nothing but its turn is tried again. -/
def State.commandCompletion (s : State) (r : CmdRef) : State :=
  match s.busyOf r with
  | none => s
  | some b =>
    if b.ans.isSome then s.respond b
    else match s.fab.dma.find? (fun d => decide (d.who = .cmd r)) with
      | some d => if s.bankIdle d.anvil d.hearth then s.dmaSettle.respondTo r else s
      | none => if s.awaits r then s else State.settle r (s.effect r b.code b.params)

/-- COMMAND_COMPLETION (R306). -/
def execCommandCompletion (r : CmdRef) (s : State) : Host.Outcome State Fault Refusal :=
  .next (if s.sys.off then s else s.commandCompletion r)

/-! ## Failed DMA reads (R298) -/

/-- A queue whose DMA read fails is disabled. -/
def State.queueDmaFail (s : State) (q : Nat) : State :=
  if s.qIn q ∧ s.qEnabled q then
    let s1 := ((s.setReg .queueCtlEnable q 0 0).setReg .queueStatusDmaErr q 0 1).rescan q
    match s.qPort q with
    | some n => s1.setReg .hostErrStatusDma n 0 1
    | none => s1
  else s

/-- The failed read is counted at the port of the command. -/
def State.dmaErrOf (s : State) (r : CmdRef) : State :=
  match r.org with
  | .host n => s.setReg .hostErrStatusDma n 0 1
  | _ => s

/-- A command whose DMA read fails: a load ends; another command that has started completes with HOST_DMA; one that is about to
start completes so too, unless it is refused. -/
def State.commandDmaFail (s : State) (r : CmdRef) : State :=
  match s.partitions.find? (fun p => (s.part p).load.any (fun (l : Load) => decide (l.ref = r))) with
  | some p =>
    match (s.part p).load with
    | some l => s.loadDma p l
    | none => s
  | none =>
    if (s.busyOf r).isSome then ((s.done r .hostDma).dramForget r).dmaErrOf r
    else match s.nextPosted with
      | none => s
      | some x =>
        if x.ref = r then
          let s1 := s.unpost x
          let h := headOf x.record
          let y := s1.startRecord r x.record x.hostId
          match y.2 with
          | some a => if a.status = .ok then
              (((s1.begin r h.code (paramsOf x.record) 0xFFFF (if h.flags % 2 = 1 then some h.vector else none)
                x.hostId).done r
                .hostDma).dmaErrOf r).respondTo r
            else State.settle r y
          | none => State.settle r y
        else s

/-- An event of a port's link or of its error reporting: MSI-X vector 0 (R297). -/
def State.linkEvent (s : State) (n : Nat) : State := s.emit (.msix n 0)

/-- A TLP received at a port failed its ECRC (R297, R323). -/
def State.ecrcError (s : State) (port : Option Nat) : State :=
  match port with
  | some n => (s.setReg .hostErrStatusEcrc n 0 1).linkEvent n
  | none => s

/-- The host port of an origin. -/
def Origin.port : Origin → Option Nat
  | .host n => some n
  | _ => none

/-- HOST_DMA_FAILURE (R298); `ecrc` when the completion that failed did so by its ECRC. -/
def execHostDmaFailure (queue : Option Nat) (r : CmdRef) (ecrc : Bool) (s : State) : Host.Outcome State Fault Refusal :=
  .next (if s.sys.off then s
    else match queue with
      | some q => (if ecrc then s.ecrcError (s.qPort q) else s).queueDmaFail q
      | none => (if ecrc then s.ecrcError (Origin.port r.org) else s).commandDmaFail r)

/-! ## Host ports (R300, R323) -/

/-- What a reset of a host port does to its queues and mailboxes (R300). -/
def State.portReset (s : State) (n : Nat) : State :=
  let s1 := (s.setUpQueues.filter (fun q => decide (s.qPort q = some n))).foldl State.queueDown s
  let gone := s1.host.posted.filter (fun x => decide (x.ref.org = .host n))
  let s2 := { s1 with host := { s1.host with
    posted := s1.host.posted.filter (fun x => decide (x.ref.org ≠ .host n))
    orphans := s1.host.orphans ++ ((s1.host.busy.map (fun (b : Busy) => b.ref)).filter
      (fun r => decide (r.org = .host n) && !s1.host.orphans.contains r)) } }
  gone.foldl (fun s x =>
    if x.ref.slot < 16 then s.setReg .mboxStateState (mbInst n x.ref.slot) 0 0
    else s.modQueue (x.ref.slot - queueSlot) (fun y => { y with executing := false })) s2

/-- The fields of a link that is down. -/
def State.linkFields (s : State) (n up width speed : Nat) : State :=
  ((s.setReg .hostLinkUp n 0 up).setReg .hostLinkWidth n 0 width).setReg .hostLinkSpeed n 0 speed

/-- HOST_PORT_RESET (R300). -/
def execHostPortReset (n : Nat) (cause : PortReset) (s : State) : Host.Outcome State Fault Refusal :=
  .next (if s.sys.off ∨ !s.portPresent n then s
    else match cause with
      | .linkDown => (((s.portReset n).setReg .hostErrStatusLinkDown n 0 1).linkFields n 0 0 0).linkEvent n
      | _ => (s.portReset n).setReg .hostErrStatusFlr n 0 1)

/-- HOST_LINK_UP (R323). -/
def execHostLinkUp (n width speed : Nat) (s : State) : Host.Outcome State Fault Refusal :=
  .next (if s.sys.off ∨ !s.portPresent n then s else (s.linkFields n 1 width speed).linkEvent n)

/-! ## REGISTER_WRITE (R10, R301) -/

/-- A word put into a record at an offset. -/
def putWord (bs : Bytes) (off v : Nat) : Bytes := slice bs 0 off ++ toLE 4 v ++ bs.drop (off + 4)

/-- A write to BAR2 of a host port: mailboxes, ABORT.GO of each partition, and doorbells (R301, R305). -/
def State.writeBar2 (s : State) (n off v : Nat) : State :=
  let o := Origin.host n
  if off < 0x10000 then
    let m := off / 0x1000
    let w := off % 0x1000
    if w < 0x800 then s.mboxRequest n m (fun x => putWord x w v)
    else if w = 0xFF0 then
      let s1 := if bit v 1 then s.mboxAck n m else s
      if bit v 0 then (if s.mbState n m = 0 then s1.mboxGo n m else s1.mboxProto n m) else s1
    else if w = 0xFF4 ∧ bit v 8 then s.setReg .mboxStateProto (mbInst n m) 0 0
    else s
  else if off < 0x10080 then (if bit v 0 then s.abort o ((off - 0x10000) / 4) else s)
  else if 0x20000 ≤ off ∧ off < 0x28000 ∧ off % 8 = 0 then s.doorbell o ((off - 0x20000) / 8) v
  else s

/-- Module addresses end at 2 GiB (R301); the model names BAR2 of the writing host port above them. -/
def bar2Base : Nat := 2 ^ 31

/-- A write of one word by an origin, in the module's register space or in BAR2. -/
def State.writeAt (s : State) (o : Origin) (addr v : Nat) : State :=
  if addr < bar2Base then s.writeWord o addr v
  else match o with
    | .host n => if 4 ≤ n ∨ !s.portPresent n then s else s.writeBar2 n (addr - bar2Base) v
    | _ => s

/-- An access is one of those that R299 admits: 4 or 8 bytes, naturally aligned. -/
def accessOk (addr size : Nat) : Bool := decide ((size = 4 ∨ size = 8) ∧ addr % size = 0)

/-- A register write by an origin: one of 8 bytes acts as two of 4, lower address first (R299). -/
def State.registerWrite (s : State) (o : Origin) (addr size v : Nat) : State :=
  if s.sys.off then s
  else if !accessOk addr size then s.misaligned o
  else
    let s1 := s.writeAt o addr (v % 2 ^ 32)
    if size = 8 then s1.writeAt o (addr + 4) (v / 2 ^ 32) else s1

/-- REGISTER_WRITE (R10). -/
def execRegisterWrite (o : Origin) (addr size : Nat) (value : BitVec 64) (s : State) : Host.Outcome State Fault Refusal :=
  .next (s.registerWrite o addr size value.toNat)

/-! ## Reads (R10, R301, R305, R314, R443) -/

/-- The word of a mailbox page at an offset: the request and the response area, MBOX.STATE, and 0 elsewhere (R305). -/
def State.mboxWord (s : State) (n m w : Nat) : Nat :=
  let x := s.box n m
  if w < 0x800 then le x.req w 4
  else if w < 0xFF0 then le x.resp (w - 0x800) 4
  else if w = 0xFF4 then 256 * s.reg .mboxStateProto (mbInst n m) 0 + s.mbState n m
  else 0

/-- A doorbell as it reads (R314): the module's index, then ENABLE, FULL and DB_ERR. -/
def State.doorbellWord (s : State) (q : Nat) (hi : Bool) : Nat :=
  if hi then s.reg .queueCtlEnable q 0 + 2 * s.view .queueStatusFull q 0 + 4 * s.reg .queueStatusDbErr q 0
  else if s.qIn q then s.reg .queueCidx q 0 else s.reg .queuePidx q 0

/-- A word of BAR2 as a host port reads it (R301). -/
def State.readBar2 (s : State) (n off : Nat) : Nat :=
  if off < 0x10000 then s.mboxWord n (off / 0x1000) (off % 0x1000)
  else if 0x20000 ≤ off ∧ off < 0x28000 then s.doorbellWord ((off - 0x20000) / 8) (decide (off % 8 = 4))
  else 0

/-- A read of one word by an origin. -/
def State.readAt (s : State) (o : Origin) (addr : Nat) : Nat × State :=
  if addr < bar2Base then s.readWord o addr
  else match o with
    | .host n => (if 4 ≤ n ∨ !s.portPresent n then 0 else s.readBar2 n (addr - bar2Base), s)
    | _ => (0, s)

/-- A register read by an origin: what it returns leaves the module. One of 8 bytes acts as two of 4, lower address first, and
one that R299 does not admit returns 0. -/
def State.registerRead (s : State) (o : Origin) (addr size : Nat) : State :=
  if s.sys.off then s
  else if !accessOk addr size then (s.misaligned o).emit (.readData o addr 0)
  else
    let x := s.readAt o addr
    if size = 8 then
      let y := x.2.readAt o (addr + 4)
      y.2.emit (.readData o addr (x.1 + 2 ^ 32 * y.1))
    else x.2.emit (.readData o addr x.1)

/-- RC_FIELD_READ (R10). -/
def execRcFieldRead (o : Origin) (addr size : Nat) (s : State) : Host.Outcome State Fault Refusal := .next (s.registerRead o addr size)

/-- LO_WORD_READ (R443). -/
def execLoWordRead (o : Origin) (addr size : Nat) (s : State) : Host.Outcome State Fault Refusal := .next (s.registerRead o addr size)

end Sys2Proof.Machine
end

