-- ==== Sys2Proof/Machine/Dispatch.lean ====
section
/-! DEFINITION. One arm per command: the meaning each command has. -/

namespace Sys2Proof.Machine

def exec (i : Instr) (s : State) : Host.Outcome State Fault Refusal :=
  match i with
  | .step p ups => Sys2Proof.Machine.execStep p ups s
  | .dmaBankTimeout r => Sys2Proof.Machine.execDmaBankTimeout r s
  | .dramReadReturn a id => Sys2Proof.Machine.execDramReadReturn a id s
  | .cycleBoundary p => Sys2Proof.Machine.execCycleBoundary p s
  | .freezeLands p => Sys2Proof.Machine.execFreezeLands p s
  | .partitionResume p => Sys2Proof.Machine.execPartitionResume p s
  | .hostAbort o p => Sys2Proof.Machine.execHostAbort o p s
  | .timerExpired p j => Sys2Proof.Machine.execTimerExpired p j s
  | .timeReached p => Sys2Proof.Machine.execTimeReached p s
  | .trigCtlArm o p => Sys2Proof.Machine.execTrigCtlArm o p s
  | .trigCtlDisarm o p => Sys2Proof.Machine.execTrigCtlDisarm o p s
  | .captureDrainComplete p => Sys2Proof.Machine.execCaptureDrainComplete p s
  | .acqSegmentOpen p => Sys2Proof.Machine.execAcqSegmentOpen p s
  | .partCreate r p regions port => Sys2Proof.Machine.execPartCreate r p regions port s
  | .partDestroy r p => Sys2Proof.Machine.execPartDestroy r p s
  | .partBind r p port => Sys2Proof.Machine.execPartBind r p port s
  | .partRun r p mode ackFault cycles => Sys2Proof.Machine.execPartRun r p mode ackFault cycles s
  | .partStop r p flush ackFault => Sys2Proof.Machine.execPartStop r p flush ackFault s
  | .partHalt r p now ackFault => Sys2Proof.Machine.execPartHalt r p now ackFault s
  | .partResume r p ackFault => Sys2Proof.Machine.execPartResume r p ackFault s
  | .partUnload r p => Sys2Proof.Machine.execPartUnload r p s
  | .partLoad r p srcPort addr length flags => Sys2Proof.Machine.execPartLoad r p srcPort addr length flags s
  | .loadDequeue => Sys2Proof.Machine.execLoadDequeue s
  | .loadHeader p img => Sys2Proof.Machine.execLoadHeader p img s
  | .loadPlan p img => Sys2Proof.Machine.execLoadPlan p img s
  | .loadCheck p img => Sys2Proof.Machine.execLoadCheck p img s
  | .loadPrepare p => Sys2Proof.Machine.execLoadPrepare p s
  | .loadSetup p img => Sys2Proof.Machine.execLoadSetup p img s
  | .hearthVerify p img mismatches => Sys2Proof.Machine.execHearthVerify p img mismatches s
  | .imageKeySet r slot key flashBad => Sys2Proof.Machine.execImageKeySet r slot key flashBad s
  | .imageKeyClear r slot flashBad => Sys2Proof.Machine.execImageKeyClear r slot flashBad s
  | .captureRequest r p at_ cycle edge flags => Sys2Proof.Machine.execCaptureRequest r p at_ cycle edge flags s
  | .captureRelease r p => Sys2Proof.Machine.execCaptureRelease r p s
  | .captureDramRead r p anvil offset length addr => Sys2Proof.Machine.execCaptureDramRead r p anvil offset length addr s
  | .stateRead r p kind anvil hearth first count addr => Sys2Proof.Machine.execStateRead r p kind anvil hearth first count addr s
  | .stateDeposit r p kind anvil hearth first count addr flags data => Sys2Proof.Machine.execStateDeposit r p kind anvil hearth first count addr flags data s
  | .tracePacketEmit src item => Sys2Proof.Machine.execTracePacketEmit src item s
  | .traceStallEnd c => Sys2Proof.Machine.execTraceStallEnd c s
  | .traceStallLimit c => Sys2Proof.Machine.execTraceStallLimit c s
  | .traceOverflowRecovery src => Sys2Proof.Machine.execTraceOverflowRecovery src s
  | .funnelBlockWrite => Sys2Proof.Machine.execFunnelBlockWrite s
  | .traceEnable o => Sys2Proof.Machine.execTraceEnable o s
  | .traceDisable o => Sys2Proof.Machine.execTraceDisable o s
  | .traceTrigger kind k => Sys2Proof.Machine.execTraceTrigger kind k s
  | .stopNow o => Sys2Proof.Machine.execStopNow o s
  | .stopDelayReached => Sys2Proof.Machine.execStopDelayReached s
  | .cpSleep c level icount target => Sys2Proof.Machine.execCpSleep c level icount target s
  | .cpWake c addr => Sys2Proof.Machine.execCpWake c addr s
  | .traceBufAlloc r anvil sizeLog2 => Sys2Proof.Machine.execTraceBufAlloc r anvil sizeLog2 s
  | .traceBufFree r => Sys2Proof.Machine.execTraceBufFree r s
  | .dramRequestServe a id bad second crc => Sys2Proof.Machine.execDramRequestServe a id bad second crc s
  | .phyTrainingLoss a sub => Sys2Proof.Machine.execPhyTrainingLoss a sub s
  | .deviceDiagnosis a sub rank failing => Sys2Proof.Machine.execDeviceDiagnosis a sub rank failing s
  | .markRediagnosis a sub rank failing => Sys2Proof.Machine.execMarkRediagnosis a sub rank failing s
  | .pageRetirement a page reads => Sys2Proof.Machine.execPageRetirement a page reads s
  | .migrationStep a reads => Sys2Proof.Machine.execMigrationStep a reads s
  | .patrolScrub a sub => Sys2Proof.Machine.execPatrolScrub a sub s
  | .agePromotion a id => Sys2Proof.Machine.execAgePromotion a id s
  | .sameBankRefresh a sub bank => Sys2Proof.Machine.execSameBankRefresh a sub bank s
  | .allBankRefresh a sub => Sys2Proof.Machine.execAllBankRefresh a sub s
  | .refreshEnd a sub => Sys2Proof.Machine.execRefreshEnd a sub s
  | .rankPowerDown a sub rank => Sys2Proof.Machine.execRankPowerDown a sub rank s
  | .dramFrozenTimeout a id => Sys2Proof.Machine.execDramFrozenTimeout a id s
  | .stewardThaw a retrainOk => Sys2Proof.Machine.execStewardThaw a retrainOk s
  | .ddrThaw r a action retrainOk => Sys2Proof.Machine.execDdrThaw r a action retrainOk s
  | .ddrRetirePage r a addr => Sys2Proof.Machine.execDdrRetirePage r a addr s
  | .ddrMarkSet r a sub rank device => Sys2Proof.Machine.execDdrMarkSet r a sub rank device s
  | .nocRequest k => Sys2Proof.Machine.execNocRequest k s
  | .nocCompletion k => Sys2Proof.Machine.execNocCompletion k s
  | .nocCplTimeout a tag => Sys2Proof.Machine.execNocCplTimeout a tag s
  | .tagRelease a tag => Sys2Proof.Machine.execTagRelease a tag s
  | .linkFlitReplay a port => Sys2Proof.Machine.execLinkFlitReplay a port s
  | .routeChangeStart ref table => Sys2Proof.Machine.execRouteChangeStart ref table s
  | .shadowValid => Sys2Proof.Machine.execShadowValid s
  | .epochSwitch => Sys2Proof.Machine.execEpochSwitch s
  | .epochRetired => Sys2Proof.Machine.execEpochRetired s
  | .epochFenceTimeout => Sys2Proof.Machine.execEpochFenceTimeout s
  | .nocEpochBusy r => Sys2Proof.Machine.execNocEpochBusy r s
  | .fenceRequest region => Sys2Proof.Machine.execFenceRequest region s
  | .regionFenced region => Sys2Proof.Machine.execRegionFenced region s
  | .nocDrainTimeout region => Sys2Proof.Machine.execNocDrainTimeout region s
  | .anvilDomainOff a => Sys2Proof.Machine.execAnvilDomainOff a s
  | .registerWrite o addr size value => Sys2Proof.Machine.execRegisterWrite o addr size value s
  | .rcFieldRead o addr size => Sys2Proof.Machine.execRcFieldRead o addr size s
  | .loWordRead o addr size => Sys2Proof.Machine.execLoWordRead o addr size s
  | .hostPortReset n cause => Sys2Proof.Machine.execHostPortReset n cause s
  | .hostDmaFailure queue r ecrc => Sys2Proof.Machine.execHostDmaFailure queue r ecrc s
  | .mboxGo n m record => Sys2Proof.Machine.execMboxGo n m record s
  | .mboxAck n m => Sys2Proof.Machine.execMboxAck n m s
  | .commandStart => Sys2Proof.Machine.execCommandStart s
  | .mgmtSessionOpen fingerprint => Sys2Proof.Machine.execMgmtSessionOpen fingerprint s
  | .mgmtSessionClose k => Sys2Proof.Machine.execMgmtSessionClose k s
  | .mgmtMessage k record => Sys2Proof.Machine.execMgmtMessage k record s
  | .uartFrame record crc => Sys2Proof.Machine.execUartFrame record crc s
  | .queueDoorbell o q index => Sys2Proof.Machine.execQueueDoorbell o q index s
  | .queueEnable o q value => Sys2Proof.Machine.execQueueEnable o q value s
  | .taskSoftFlagSet o q flags => Sys2Proof.Machine.execTaskSoftFlagSet o q flags s
  | .taskDispatch engine entries => Sys2Proof.Machine.execTaskDispatch engine entries s
  | .interruptCoalesceTimeout q => Sys2Proof.Machine.execInterruptCoalesceTimeout q s
  | .hostIdentify r ident => Sys2Proof.Machine.execHostIdentify r ident s
  | .queueAssign r q part port => Sys2Proof.Machine.execQueueAssign r q part port s
  | .queueSetup r q type sizeLog2 entryLog2 base wb pair => Sys2Proof.Machine.execQueueSetup r q type sizeLog2 entryLog2 base wb pair s
  | .auditRead r first count addr => Sys2Proof.Machine.execAuditRead r first count addr s
  | .ownerCertSet r slot fingerprint flashBad => Sys2Proof.Machine.execOwnerCertSet r slot fingerprint flashBad s
  | .roleGrant r port grant flashBad => Sys2Proof.Machine.execRoleGrant r port grant flashBad s
  | .regRead r addr count => Sys2Proof.Machine.execRegRead r addr count s
  | .regWrite r addr count words => Sys2Proof.Machine.execRegWrite r addr count words s
  | .auditPersist => Sys2Proof.Machine.execAuditPersist s
  | .laneEnable o l => Sys2Proof.Machine.execLaneEnable o l s
  | .laneDisable o l => Sys2Proof.Machine.execLaneDisable o l s
  | .retrain o l => Sys2Proof.Machine.execRetrain o l s
  | .terminationDetect l => Sys2Proof.Machine.execTerminationDetect l s
  | .cdrLock l => Sys2Proof.Machine.execCdrLock l s
  | .blockLock l => Sys2Proof.Machine.execBlockLock l s
  | .tsDetected l complement => Sys2Proof.Machine.execTsDetected l complement s
  | .trainTimeout l => Sys2Proof.Machine.execTrainTimeout l s
  | .lockLoss l => Sys2Proof.Machine.execLockLoss l s
  | .cap l c => Sys2Proof.Machine.execCap l c s
  | .frame l f => Sys2Proof.Machine.execFrame l f s
  | .ack l lane lseq nak => Sys2Proof.Machine.execAck l lane lseq nak s
  | .replayTimeout l => Sys2Proof.Machine.execReplayTimeout l s
  | .credit b stream gen limit => Sys2Proof.Machine.execCredit b stream gen limit s
  | .mark b stream count => Sys2Proof.Machine.execMark b stream count s
  | .stop b stream number copies => Sys2Proof.Machine.execStop b stream number copies s
  | .spare l lane k req ack refuse ret => Sys2Proof.Machine.execSpare l lane k req ack refuse ret s
  | .bank b req ack => Sys2Proof.Machine.execBank b req ack s
  | .dsk b arrivals => Sys2Proof.Machine.execDsk b arrivals s
  | .dskSend b => Sys2Proof.Machine.execDskSend b s
  | .frameTransmit stream => Sys2Proof.Machine.execFrameTransmit stream s
  | .creditSend stream => Sys2Proof.Machine.execCreditSend stream s
  | .creditStall stream => Sys2Proof.Machine.execCreditStall stream s
  | .statusBlockSend p => Sys2Proof.Machine.execStatusBlockSend p s
  | .crcErrorLimit l => Sys2Proof.Machine.execCrcErrorLimit l s
  | .spareRequestRepeat l => Sys2Proof.Machine.execSpareRequestRepeat l s
  | .bankExitSignal b => Sys2Proof.Machine.execBankExitSignal b s
  | .injGo o l => Sys2Proof.Machine.execInjGo o l s
  | .wlStreamBind r stream part bundles inEn outEn => Sys2Proof.Machine.execWlStreamBind r stream part bundles inEn outEn s
  | .wlStreamUnbind r stream => Sys2Proof.Machine.execWlStreamUnbind r stream s
  | .wlLaneCtl r lane action => Sys2Proof.Machine.execWlLaneCtl r lane action s
  | .wlBank r bundle enter => Sys2Proof.Machine.execWlBank r bundle enter s
  | .timeIncrWrite o incrNs => Sys2Proof.Machine.execTimeIncrWrite o incrNs s
  | .refRateWrite o k rateNs => Sys2Proof.Machine.execRefRateWrite o k rateNs s
  | .refAdj o k adj => Sys2Proof.Machine.execRefAdj o k adj s
  | .counterMismatch => Sys2Proof.Machine.execCounterMismatch s
  | .ptpMessage m => Sys2Proof.Machine.execPtpMessage m s
  | .delayReqSend => Sys2Proof.Machine.execDelayReqSend s
  | .ptpSourceLoss => Sys2Proof.Machine.execPtpSourceLoss s
  | .ppsEdge => Sys2Proof.Machine.execPpsEdge s
  | .ppsLoss => Sys2Proof.Machine.execPpsLoss s
  | .ppsOut => Sys2Proof.Machine.execPpsOut s
  | .freqSourceLoss => Sys2Proof.Machine.execFreqSourceLoss s
  | .pllRelock => Sys2Proof.Machine.execPllRelock s
  | .timeCapArm o src => Sys2Proof.Machine.execTimeCapArm o src s
  | .launchArm o k => Sys2Proof.Machine.execLaunchArm o k s
  | .launchDisarm o k => Sys2Proof.Machine.execLaunchDisarm o k s
  | .launch k => Sys2Proof.Machine.execLaunch k s
  | .timeStep r mode value => Sys2Proof.Machine.execTimeStep r mode value s
  | .triggerInputEdge k => Sys2Proof.Machine.execTriggerInputEdge k s
  | .pinFuncSwitch o n func => Sys2Proof.Machine.execPinFuncSwitch o n func s
  | .pinOwnerWrite o n owner => Sys2Proof.Machine.execPinOwnerWrite o n owner s
  | .bankVselWrite o b vsel => Sys2Proof.Machine.execBankVselWrite o b vsel s
  | .bankRampDone b => Sys2Proof.Machine.execBankRampDone b s
  | .gpioSet o hi mask => Sys2Proof.Machine.execGpioSet o hi mask s
  | .gpioClr o hi mask => Sys2Proof.Machine.execGpioClr o hi mask s
  | .gpioTgl o hi mask => Sys2Proof.Machine.execGpioTgl o hi mask s
  | .pinShort n => Sys2Proof.Machine.execPinShort n s
  | .shortClear o n => Sys2Proof.Machine.execShortClear o n s
  | .strapClose => Sys2Proof.Machine.execStrapClose s
  | .strapOpen => Sys2Proof.Machine.execStrapOpen s
  | .uartRxByte u byte bad => Sys2Proof.Machine.execUartRxByte u byte bad s
  | .spUartCfg r u baud format => Sys2Proof.Machine.execSpUartCfg r u baud format s
  | .spUartSend r u len data => Sys2Proof.Machine.execSpUartSend r u len data s
  | .spUartRecv r u max => Sys2Proof.Machine.execSpUartRecv r u max s
  | .spI2cXfer r bus speed addr wlen rlen data => Sys2Proof.Machine.execSpI2cXfer r bus speed addr wlen rlen data s
  | .spSpiXfer r cs mode div len data => Sys2Proof.Machine.execSpSpiXfer r cs mode div len data s
  | .clksetWrite o value => Sys2Proof.Machine.execClksetWrite o value s
  | .inputPowerSample totalW partW => Sys2Proof.Machine.execInputPowerSample totalW partW s
  | .dutyBurstEnd => Sys2Proof.Machine.execDutyBurstEnd s
  | .thermalCeilingUpdate anvil tj cool1s => Sys2Proof.Machine.execThermalCeilingUpdate anvil tj cool1s s
  | .powerCeilingUpdate meanW idle1s => Sys2Proof.Machine.execPowerCeilingUpdate meanW idle1s s
  | .clockChange => Sys2Proof.Machine.execClockChange s
  | .clockChangeRelease => Sys2Proof.Machine.execClockChangeRelease s
  | .inletEntersService n volts => Sys2Proof.Machine.execInletEntersService n volts s
  | .inletLeavesService n volts => Sys2Proof.Machine.execInletLeavesService n volts s
  | .shareFault => Sys2Proof.Machine.execShareFault s
  | .lowLineEntry => Sys2Proof.Machine.execLowLineEntry s
  | .highLineReturn => Sys2Proof.Machine.execHighLineReturn s
  | .dropoutFreeze => Sys2Proof.Machine.execDropoutFreeze s
  | .powerLossShutdown => Sys2Proof.Machine.execPowerLossShutdown s
  | .railFault rail kind => Sys2Proof.Machine.execRailFault rail kind s
  | .thermalTrip anvil => Sys2Proof.Machine.execThermalTrip anvil s
  | .coolantSample inDc outDc flowCl => Sys2Proof.Machine.execCoolantSample inDc outDc flowCl s
  | .auxCurrentLimit => Sys2Proof.Machine.execAuxCurrentLimit s
  | .auxEnable o en => Sys2Proof.Machine.execAuxEnable o en s
  | .firmwareBoot => Sys2Proof.Machine.execFirmwareBoot s
  | .stewardBootTimeout => Sys2Proof.Machine.execStewardBootTimeout s
  | .bootComplete => Sys2Proof.Machine.execBootComplete s
  | .wakingComplete => Sys2Proof.Machine.execWakingComplete s
  | .sleepingComplete => Sys2Proof.Machine.execSleepingComplete s
  | .modPower r enter => Sys2Proof.Machine.execModPower r enter s
  | .modReset r scope force => Sys2Proof.Machine.execModReset r scope force s
  | .settingsSave r flashBad => Sys2Proof.Machine.execSettingsSave r flashBad s
  | .settingsErase r flashBad => Sys2Proof.Machine.execSettingsErase r flashBad s
  | .settingsRead r offset length addr => Sys2Proof.Machine.execSettingsRead r offset length addr s
  | .fwStage r mode srcPort addr length offset final data flashBad => Sys2Proof.Machine.execFwStage r mode srcPort addr length offset final data flashBad s
  | .fwActivate r flashBad => Sys2Proof.Machine.execFwActivate r flashBad s
  | .stewardReady => Sys2Proof.Machine.execStewardReady s
  | .activationTimeout => Sys2Proof.Machine.execActivationTimeout s
  | .fwConfirm r flashBad => Sys2Proof.Machine.execFwConfirm r flashBad s
  | .temperSample taps => Sys2Proof.Machine.execTemperSample taps s
  | .billetInsertion anvil hearth lbps => Sys2Proof.Machine.execBilletInsertion anvil hearth lbps s
  | .billetCopyComplete failed => Sys2Proof.Machine.execBilletCopyComplete failed s
  | .storeScrub st key => Sys2Proof.Machine.execStoreScrub st key s
  | .heartbeatTimeout c => Sys2Proof.Machine.execHeartbeatTimeout c s
  | .linkUncorrectableWord a port => Sys2Proof.Machine.execLinkUncorrectableWord a port s
  | .mgmtLinkLoss => Sys2Proof.Machine.execMgmtLinkLoss s
  | .svcMaint r scope enter regions => Sys2Proof.Machine.execSvcMaint r scope enter regions s
  | .svcSelftest r regions finds => Sys2Proof.Machine.execSvcSelftest r regions finds s
  | .temperReplan r => Sys2Proof.Machine.execTemperReplan r s
  | .billetInsert r anvil hearth lbp => Sys2Proof.Machine.execBilletInsert r anvil hearth lbp s
  | .blockDiscard l b => Sys2Proof.Machine.execBlockDiscard l b s
  | .prbsCheckerLock l => Sys2Proof.Machine.execPrbsCheckerLock l s
  | .prbsLockLoss l => Sys2Proof.Machine.execPrbsLockLoss l s
  | .continuousErrorInjection l => Sys2Proof.Machine.execContinuousErrorInjection l s
  | .timeTick => Sys2Proof.Machine.execTimeTick s
  | .temperResample taps => Sys2Proof.Machine.execTemperResample taps s
  | .linkRetrain a port ok => Sys2Proof.Machine.execLinkRetrain a port ok s
  | .commandCompletion r => Sys2Proof.Machine.execCommandCompletion r s
  | .hostLinkUp n width speed => Sys2Proof.Machine.execHostLinkUp n width speed s

end Sys2Proof.Machine
end

