-- ==== Sys2Proof/Safety.lean ====
section
/-! DEFINITION. The terms in which statements about the module are made: a canonical store, a tidy state, the parts of the
state a command may change, and a command that the firmware can start. -/

namespace Sys2Proof.Machine

/-! ## Canonical stores -/

section
variable {α : Type} [DecidableEq α]

/-- A table in the canonical form: keys strictly rising, no entry equal to what an unlisted key reads as. -/
def TabOk (d : α) (t : Tab α) : Prop := Tab.wf d t = true

/-- The canonical form of a memory whose unlisted bytes read as `d`. -/
abbrev Memory.wf (d : α) (m : Tab α) : Prop := TabOk d m
end

/-- The stores of the fabric are canonical. -/
structure FabOk (f : Fab) : Prop where
  instr : TabOk 0 f.instr
  route : TabOk 0 f.route
  egress : TabOk 0 f.egress
  inject : TabOk 0 f.inject
  dict : TabOk 0 f.dict
  mem : TabOk false f.mem
  banks : TabOk 0 f.banks

/-- The registers and the memories of the state are canonical. -/
structure Tidy (s : State) : Prop where
  regs : TabOk none s.regs
  fab : FabOk s.fab
  dram : Memory.wf 0 s.dram.mem
  host : Memory.wf none s.host.mem

/-! ## What a command leaves unchanged -/

/-- A part of the state, the registers apart. The DRAM bytes have a name of their own beside the rest of the DRAM. The host
interface is `boxes` (the mailbox pages), `commands` (commands posted, under way and outstanding), `queues`, `log` (the audit log),
`keys` (image keys and certificates) and `hostMem` (host memory). -/
inductive Piece where
  | free | held | latches | fab | parts | dram | boxes | trace | noc | time | wl | pins | pwr | sys | svc | out | dramMem | hostMem
  | commands | queues | log | keys
deriving DecidableEq, Repr

/-- The commands posted, under way and outstanding are the same. -/
def HostIf.sameCommands (h h' : HostIf) : Prop :=
  h'.posted = h.posted ∧ h'.busy = h.busy ∧ h'.orphans = h.orphans ∧ h'.sessions = h.sessions ∧ h'.uartBusy = h.uartBusy

/-- The queues and their ready lists are the same. -/
def HostIf.sameQueues (h h' : HostIf) : Prop := h'.queues = h.queues ∧ h'.ready = h.ready

/-- The audit log is the same. -/
def HostIf.sameLog (h h' : HostIf) : Prop :=
  h'.log = h.log ∧ h'.logSeq = h.logSeq ∧ h'.flashLog = h.flashLog ∧ h'.lost = h.lost ∧ h'.persisted = h.persisted

/-- Image keys and certificates are the same. -/
def HostIf.sameKeys (h h' : HostIf) : Prop := h'.certs = h.certs ∧ h'.keys = h.keys

/-- A part of the state is the same in two states. -/
def Piece.same (s t : State) : Piece → Prop
  | .free => t.free = s.free
  | .held => t.held = s.held
  | .latches => t.latches = s.latches
  | .fab => t.fab = s.fab
  | .parts => t.parts = s.parts
  | .dram => t.dram = s.dram
  | .boxes => t.host.boxes = s.host.boxes
  | .trace => t.trace = s.trace
  | .noc => t.noc = s.noc
  | .time => t.time = s.time
  | .wl => t.wl = s.wl
  | .pins => t.pins = s.pins
  | .pwr => t.pwr = s.pwr
  | .sys => t.sys = s.sys
  | .svc => t.svc = s.svc
  | .out => t.out = s.out
  | .dramMem => t.dram.mem = s.dram.mem
  | .hostMem => t.host.mem = s.host.mem
  | .commands => s.host.sameCommands t.host
  | .queues => s.host.sameQueues t.host
  | .log => s.host.sameLog t.host
  | .keys => s.host.sameKeys t.host

/-- From `s` to `t` nothing changes but registers that `p` admits and the parts listed: every other register, in every
instance, reads as before, and every part not listed is the same. -/
def Touches (p : Fld → Bool) (ks : List Piece) (s t : State) : Prop :=
  (∀ f i j, p f = false → t.reg f i j = s.reg f i j) ∧ ∀ k, k ∉ ks → k.same s t

/-- The registers of a list. -/
def among (fs : List Fld) (f : Fld) : Bool := fs.contains f

/-- The registers of some blocks, and those of a list. -/
def blocks (bs : List Blk) (fs : List Fld) (f : Fld) : Bool := bs.contains f.info.blk || fs.contains f

/-- The registers of a quench, as its landing writes them (R155–R160). -/
def quenchFlds : List Fld :=
    [.partRunHeld, .partQuenchLatched, .partQuenchActive, .partQuenchTotalLo, .partQuenchTotalHi, .partQuenchStretchLo,
   .partQuenchStretchHi, .partQuenchEvents]

/-- The registers of a quench, as the release of a cause writes them (R158, R160). -/
def releaseFlds : List Fld :=
    [.partQuenchActive, .partQuenchTotalLo, .partQuenchTotalHi, .partQuenchStretchLo, .partQuenchStretchHi]

/-- The registers that an event queue writes when an event is dropped (R317). -/
def eventFlds : List Fld :=
    [.hostEvtUndelivered, .queueStatusDrop, .queueDropCount]

/-- The registers of a trace packet dropped (R246). -/
def dropFlds : List Fld :=
    [.traceStatusOverflow, .traceDropCount]

/-- The registers that the end of a load writes (Registers of the loader, R208). -/
def loadEndFlds : List Fld :=
    [.partMemSlotsAllot, .partLoadStatus, .partLoadEndStage, .partLoadStage, .partLoadFailSection, .partLoadFailDetail]

/-- The registers that a DRAM freeze writes (R271). -/
def freezeFlds : List Fld :=
    [.ddrStatusFrozen, .ddrFrzClass, .ddrFrzKind, .ddrFrzRow, .ddrFrzBurst, .ddrFrzBank, .ddrFrzRank, .ddrFrzSubch,
   .ddrFrzAddrLo, .ddrFrzAddrHi, .ddrFrzSource, .ddrFrzDevMask, .ddrFrzTimeLo, .ddrFrzTimeHi]

/-- If the command answers a next state, the frame holds of it. -/
def Frame (c : Instr) (s : State) (p : Fld → Bool) (ks : List Piece) : Prop :=
  ∀ t, exec c s = .next t → Touches p ks s t

/-- If the command answers a next state, only instances of registers that `q` admits differ in it. -/
def Confined (c : Instr) (s : State) (q : Fld → Nat → Nat → Bool) : Prop :=
  ∀ t, exec c s = .next t → ∀ f i j, q f i j = false → t.reg f i j = s.reg f i j

/-- The command answers a next state, and that state meets `P`. -/
def Answers (c : Instr) (s : State) (P : State → Prop) : Prop := ∃ t, exec c s = .next t ∧ P t

/-! ## Instances of registers -/

/-- How many instances of a block its base-address map holds (the base-address tables of the chapters). -/
def Blk.instances : Blk → Nat
  | .part => 32
  | .cmp => 32
  | .obs => 32
  | .hearth => 1024
  | .link => 24
  | .ddr => 8
  | .noc => 8
  | .wlLane => 68
  | .wlBundle => 8
  | .wlStream => 32
  | .queue => 4096
  | _ => 1

/-- The field has this instance and index. A field of the host block that is repeated is numbered by its host port first; the
mailboxes lie in BAR2, not in the module's register space (R301, R305). -/
def Fld.exists (f : Fld) (i j : Nat) : Bool :=
  let x := f.info
  if x.blk = .mbox then false
  else if x.blk = .hostif ∧ 1 < x.count1 then decide (i < x.count1) && decide (j < x.count2)
  else decide (i < Blk.instances x.blk) && decide (j < x.count1 * x.count2)

/-! ## Commands that the firmware starts -/

/-- The firmware can start the command now: the module is on and not in recovery, and the command is neither answered nor
waiting already (R307, R415). -/
def State.fresh (s : State) (r : CmdRef) : Bool :=
  !s.sys.off && !s.sys.recovery && (s.busyOf r).isNone && !s.awaits r

/-- The firmware can start the command now, and its origin may name the partition, which exists (R146, R302). -/
def State.admits (s : State) (r : CmdRef) (p : Nat) : Bool := s.fresh r && s.pExists p && s.mayPart r.org p

/-- The status a command has been answered with, if it has (R310). -/
def State.statusOf (s : State) (r : CmdRef) : Option Status := ((s.busyOf r).bind Busy.ans).map Answer.status

/-- The command answers a next state in which it has the answer OK and which meets `P`. -/
def Completes (c : Instr) (r : CmdRef) (s : State) (P : State → Prop) : Prop :=
  Answers c s fun t => t.statusOf r = some .ok ∧ P t

/-- The byte at a linear DRAM address of an anvil. -/
def State.dramByte (s : State) (a addr : Nat) : Byte := Tab.get 0 s.dram.mem [a, addr]

/-- The byte at a bus address of a host port, where the module has written it. -/
def State.hostByte (s : State) (port addr : Nat) : Option Byte := Tab.get none s.host.mem [port, addr]

/-- Bytes stand in the memory of a host port, as the module has written them. -/
def State.hostHas (s : State) (port addr : Nat) (bs : Bytes) : Prop :=
  Tab.getRun none s.host.mem [port] addr bs.length = bs.map some

/-- An access of class 2 to module DRAM is under way: every part of it waits in the job, or is a request at the controller (R266,
R268). -/
def State.accessingFor (s : State) (who : DmaFor) (a size : Nat) (todo : List DPiece) : Bool :=
  s.dram.jobs.any (fun j => decide (j.who = who ∧ j.anvil = a ∧ j.size = size ∧ j.left = todo.length) &&
    todo.all (fun q => j.todo.contains q || (s.reqs a).any (fun x => decide (x.src = .job j.id q.off ∧ x.addr = q.addr ∧
      x.len = q.len ∧ x.cls = 2 ∧ x.write = q.data.isSome ∧ x.data = q.data.getD []))))

/-- The access of a command. -/
def State.accessing (s : State) (r : CmdRef) (a size : Nat) (todo : List DPiece) : Bool := s.accessingFor (.cmd r) a size todo

/-- The access of a command to module DRAM has been served, and brought these bytes; `bad`: one part was uncorrectable. -/
def State.accessed (s : State) (r : CmdRef) (bs : Bytes) (bad : Bool) : Bool :=
  (s.dram.jobs.find? (fun j => decide (j.who = .cmd r))).any (fun j => decide (j.left = 0 ∧ j.got = bs ∧ j.bad = bad))

/-- The identity that the next access of class 2 takes names none that is under way. A run gives each identity once. -/
def State.idFree (s : State) : Bool := s.dram.jobs.all (fun j => decide (j.id ≠ s.fab.nextId))

/-- No access of the command to module DRAM is known, and the identity of the next is free. -/
def State.noAccess (s : State) (r : CmdRef) : Bool := s.idFree && s.dram.jobs.all (fun j => decide (j.who ≠ .cmd r))

/-- The command is BUSY, waits for nothing, and can go on: the module is on and not in recovery (R307, R415). -/
def State.goesOn (s : State) (r : CmdRef) : Bool :=
  !s.sys.off && !s.sys.recovery && (s.busyOf r).any (fun b => b.ans.isNone) && !s.awaits r

/-- The firmware can go on with the command, and its origin may name the partition, which exists. -/
def State.admitsOn (s : State) (r : CmdRef) (p : Nat) : Bool := s.goesOn r && s.pExists p && s.mayPart r.org p

/-- No value waits to be committed to a field of a partition (R15). The fields so named are none that an origin may write at a
boundary. -/
def State.unheld (s : State) (f : Fld) (p : Nat) : Bool := s.held.all (fun e => decide (e.1 ≠ f.key p 0))

/-! ## Packets -/

/-- The packet that an output serves next is at the head of an input buffer of its router (R283). -/
def State.nextPacket (s : State) (a r out inp v since : Nat) (k : NocPkt) : Prop :=
  s.anvilOn a = true ∧ s.nocPick a r out = some (inp, v) ∧ (Tab.get [] s.noc.bufs [a, r, inp, v]).head? = some ⟨k, since⟩

/-- The packet that an event brings to an endpoint, if it brings one. -/
def State.delivers (s : State) (e : NocEvent) : Option NocPkt :=
  match e with
  | .send _ => none
  | .pass a r out _ =>
    if out = 4 then (s.nocPick a r out).bind (fun x => ((Tab.get [] s.noc.bufs [a, r, x.1, x.2]).head?).map NocTrav.pkt) else none
  | .arrive a l => if 3 ≤ l then (Tab.get [] s.noc.chans [a, l]).head? else none

/-- The packet asks for no register access: it is a completion or a message, or goes to a hearth agent, a CP or a DRAM controller. -/
def NocPkt.noRegister (k : NocPkt) : Prop := k.type = 3 ∨ k.type = 4 ∨ (k.dst ≠ 0xFF ∧ k.dst % 32 < 0x12)

/-- The packets of an input buffer. -/
def State.buffered (s : State) (a r inp v : Nat) : List NocPkt := (Tab.get [] s.noc.bufs [a, r, inp, v]).map NocTrav.pkt

/-- A router takes a packet with nothing amiss in it, and has a route for it by an output (R287, R288, R292, R293). -/
def State.routes (s : State) (a r : Nat) (k : NocPkt) : Prop :=
  k.headerBad = false ∧ s.epochValid a k.epoch = true ∧ ∃ o, s.nextHop a r k = .out o

/-- The source of a packet, an anvil's endpoint other than the CP at a management link, has room for it at its router. -/
def State.entersAt (s : State) (k : NocPkt) : Prop :=
  k.src ≠ 0xFF ∧ bridged k.src = false ∧
    s.bufUsed (k.src / 32) (endpointRouter (k.src % 32)) 4 k.vc + k.flits ≤ bufFlits ∧
    s.routes (k.src / 32) (endpointRouter (k.src % 32)) k

/-- The counts of the error test of a lane, which a read brings up to date while the checker is locked (R354). -/
def prbsFlds : List Fld := [.wlPrbsErrCount, .wlPrbsBitsLo, .wlPrbsBitsHi]

/-- A value that fits a parameter (R309): an integer of `n` bytes, or a string of `n` bytes as a number. -/
def PKind.holds (k : PKind) (v : Nat) : Bool :=
  match k with
  | .int n => decide (0 < n ∧ v < 256 ^ n)
  | .str n => decide (v < 256 ^ n)

/-! ## Serving a DRAM request -/

/-- A request is the next that its controller serves: it is known, the controller is not frozen, and its rank is not out of
service (R266, R271, R272). -/
def State.servable (s : State) (a id : Nat) (r : DReq) : Prop :=
  (s.reqs a).find? (fun x => decide (x.id = id)) = some r ∧ s.flag .ddrStatusFrozen a 0 = false ∧ s.isNext a r = true ∧
    Tab.get false s.dram.rankOut [a, linRank (s.reqLin a r)] = false

/-- The burst of a request as it stands in the memory. -/
def State.burstOf (s : State) (a : Nat) (r : DReq) : Bytes := Tab.getRun 0 s.dram.mem [a] (64 * (s.reqLin a r / 64)) 64

/-- The burst of a request as the decoder delivers it; none where it detects an error twice (R258). -/
def State.delivered (s : State) (a : Nat) (r : DReq) (bad second : List (Nat × Nat)) : Option Bytes :=
  ((s.openBank a (s.reqLin a r)).readBurst a (s.reqLin a r) bad second).2.map (fun d => d.1.getD (s.burstOf a r))

/-- A write meets no burst that a snapshot could not copy, and lies in no page that a snapshot copy takes (R217, R262). -/
def State.copyFree (s : State) (a : Nat) (r : DReq) : Bool :=
  (s.cowSick a r.addr).isNone && (decide (s.reqLin a r / 64 < Config.dramUsable / 64) || Tab.get false s.dram.used [a, s.reqLin a r / 4096])

/-- What a write request leaves of one byte of its burst: its own byte where it has one, the delivered one elsewhere (R258). -/
def DReq.merged (r : DReq) (burst : Bytes) (k : Nat) : Byte :=
  if r.addr % 64 ≤ k ∧ k < r.addr % 64 + r.len then (r.data.getD (k - r.addr % 64) none).getD (burst.getD k 0) else burst.getD k 0

end Sys2Proof.Machine
end

