-- ==== Sys2Proof/Certificates/Slice0/Obligations.lean ====
section
/-! DEFINITION. The statements about the module that provers are asked to prove: that every command completes and what it
leaves, what each command leaves unchanged, and rules of the specification. -/

open Sys2Proof Sys2Proof.Machine

/-- STEP, CYCLE_BOUNDARY, FREEZE_LANDS, PARTITION_RESUME and HOST_ABORT complete (R40, R74, R86, R155, R158, R162). A step that is
due is executed: the cycle stays and the next step is shown, or END after step S − 1 (S is at most 1,024 by R86). A boundary that is due
takes place: the cycle counts on, step 0 comes next, the cycles left are one fewer, and the mode stays unless a trigger, a halt request,
a command or the count changes it. A freeze that is due lands: the partition is frozen, and LAST names the highest cause that lands. A
partition whose causes have all released resumes. An abort by an origin that may raise it on an executing partition makes cause 0xA
active. -/
def Obligations.ExecutionEventsComplete : Prop :=
  (∀ p ups s, s.stepDue p = true → s.sSteps p ≤ 1024 → s.unheld .partCtlSSteps p = true →
    Answers (.step p ups) s fun t => t.pos p = s.pos p + 1 ∧ t.cycle p = s.cycle p ∧
      t.flag .partSchedEnd p 0 = decide (s.pos p + 1 = s.sSteps p)) ∧
  (∀ p s, s.boundaryDue p = true → s.unheld .partSchedCycleLo p = true → s.unheld .partSchedCycleHi p = true →
    s.unheld .partRunLeftLo p = true → s.unheld .partRunLeftHi p = true → s.unheld .partRunMode p = true →
    Answers (.cycleBoundary p) s fun t =>
      ((s.part p).destroys = [] → t.cycle p = (s.cycle p + 1) % 2 ^ 64 ∧ t.pos p = 0 ∧ t.flag .partSchedEnd p 0 = false) ∧
      ((s.boundaryActions p).2.halt = false → s.haltIf p = false → s.countReached p = false → (s.part p).halts = [] →
        (s.part p).stops = [] → (s.part p).destroys = [] → t.mode p = s.mode p ∧
          t.reg64 .partRunLeftLo .partRunLeftHi p 0 = (s.reg64 .partRunLeftLo .partRunLeftHi p 0 - 1) % 2 ^ 64)) ∧
  (∀ p s, s.executing p = true → s.landings p ≠ [] →
    Answers (.freezeLands p) s fun t => t.frozen p = true ∧
      t.reg .partQuenchLast p 0 = topCause ((s.landings p).foldl (fun m e => setBit m e.cause true) 0)) ∧
  (∀ p s, s.executing p = true → s.frozen p = true → s.holdMask p = 0 → s.latchedMask p = 0 → (s.part p).haltNow = [] →
    Answers (.partitionResume p) s fun t => t.frozen p = false ∧ t.mode p = s.mode p ∧ t.pos p = s.pos p) ∧
  ∀ o p s, s.executing p = true → s.mayPart o p = true →
    Answers (.hostAbort o p) s fun t => bit (t.activeMask p) Cause.abort = true ∧ t.mode p = s.mode p

/-- The PART_ commands complete (R145, R148, R149, R157, R158). `s.admits r p`: the firmware can start the command, the partition
exists, and the command's origin is the owner or the partition's tenant port. -/
def Obligations.PartitionCommandsComplete : Prop :=
  (∀ r p regions port s, s.fresh r = true → s.isOwner r.org = true → p < 32 → port < 4 → s.portPresent port = true →
    s.pExists p = false → setBitsOf 64 regions ≠ [] → (∀ x ∈ setBitsOf 64 regions, x < s.grade.regions) →
    (setBitsOf 64 regions).any s.regionBusy = false → s.modQuiet = false → (setBitsOf 64 regions).any s.domainFailed = false →
    Completes (.partCreate r p regions port) r s fun t => t.pExists p = true ∧ t.rgnMask p = regions % 2 ^ 64 ∧
      t.reg .partOwnHost p 0 = port) ∧
  (∀ r p port s, s.admits r p = true → s.isOwner r.org = true → port < 4 → s.portPresent port = true → s.loadStage p = 0 →
    s.partQuiet p = true →
    Completes (.partBind r p port) r s fun t => t.reg .partOwnHost p 0 = port) ∧
  (∀ r p s, s.admits r p = true → s.isOwner r.org = true → s.running p = false → s.finishes p = false → s.insertingIn p = false →
    Answers (.partDestroy r p) s fun t => t.pExists p = false) ∧
  (∀ r p mode ack cycles s, s.admits r p = true → mode < 2 → ack < 2 → s.loadStage p = 0 → s.mode p = Mode.ready →
    s.modMode ≠ Mod.maintenance → (s.regions p).all s.regionOn = true → s.sourceBad p mode = false →
    (s.faultHeld p = true → ack = 1) → s.insertingIn p = false →
    Completes (.partRun r p mode ack cycles) r s fun t => t.mode p = Mode.freeRun + mode ∧
      t.reg64 .partRunLeftLo .partRunLeftHi p 0 = cycles % 2 ^ 64) ∧
  (∀ r p flush ack s, s.admits r p = true → flush < 2 → ack < 2 → s.loadStage p = 0 → (s.regions p).all s.regionOn = true →
    (s.faultHeld p = true → ack = 1) → s.running p = true →
    Answers (.partStop r p flush ack) s fun t => (t.part p).stops = (s.part p).stops ++ [(r, decide (flush = 1))]) ∧
  (∀ r p flush ack s, s.admits r p = true → flush < 2 → ack < 2 → s.loadStage p = 0 → (s.regions p).all s.regionOn = true →
    (s.faultHeld p = true → ack = 1) → s.mode p = Mode.inspect → s.finishes p = false → s.flag .partRunMidcycle p 0 = false →
    Completes (.partStop r p flush ack) r s fun t => t.mode p = Mode.ready) ∧
  (∀ r p now ack s, s.admits r p = true → now < 2 → ack < 2 → s.loadStage p = 0 → (s.regions p).all s.regionOn = true →
    s.latchedMask p = 0 → s.running p = true →
    Answers (.partHalt r p now ack) s fun t => (t.part p).halts = (s.part p).halts ++ [r]) ∧
  (∀ r p ack s, s.admits r p = true → ack < 2 → s.loadStage p = 0 → (s.regions p).all s.regionOn = true →
    s.latchedMask p ≠ 0 → s.running p = true → s.frozen p = true →
    Answers (.partHalt r p 1 ack) s fun t => t.mode p = Mode.inspect ∧ t.flag .partRunMidcycle p 0 = true ∧
      (t.part p).leftMode = s.mode p) ∧
  (∀ r p ack s, s.admits r p = true → ack < 2 → s.loadStage p = 0 → (s.regions p).all s.regionOn = true →
    (s.faultHeld p = true → ack = 1) → s.running p = true →
    Completes (.partResume r p ack) r s fun t => t.latchedMask p = 0 ∧ t.mode p = s.mode p) ∧
  (∀ r p ack s, s.admits r p = true → ack < 2 → s.loadStage p = 0 → (s.regions p).all s.regionOn = true →
    (s.faultHeld p = true → ack = 1) → s.mode p = Mode.inspect → s.finishes p = false → s.insertingIn p = false →
    (s.part p).leftMode < 8 →
    Completes (.partResume r p ack) r s fun t => t.mode p = (s.part p).leftMode) ∧
  ∀ r p s, s.admits r p = true → s.insertingIn p = false → (s.part p).destroys = [] →
    Answers (.partUnload r p) s fun t => t.mode p = Mode.loading ∧ t.reg .partRunReason p 0 = 6

/-- A key slot is set or cleared, PART_LOAD starts a load or puts it in the waiting line, and each stage of a load that finds nothing
wrong goes on to the next one (R194, R202, R203, R205, R206): the check of a check-only load, and the last hearth of a load, end it with
OK, and the last hearth brings the partition to READY; an image no key slot has signed, a section whose digest differs, and a hearth that
reads back wrong end the load with the status R204 names. A command whose access waits 10 ms at a frozen
controller ends with DRAM_FROZEN (R271). Where the copy in flash fails its read-back, a key command ends with FLASH_ERROR and the slot
keeps its key (R409).
The conditions under which a stage finds nothing wrong are the checks of R204, which the model's functions name: `headerFail`,
`imageKey`, `tableFail`, `mapBad`, `latencyFail`, `planAllocs`, `queueFail`, `pinFail`, `linkOutFail`, `checkFail`. -/
def Obligations.LoadCommandsComplete : Prop :=
  (∀ r slot key s, s.fresh r = true → s.isOwner r.org = true → slot < 8 → key.length = 97 → key.getD 0 0 = 4 →
    onCurve (pointOf key) = true →
    Completes (.imageKeySet r slot key false) r s (fun t => Tab.get [] t.host.keys [slot] = key) ∧
    Answers (.imageKeySet r slot key true) s fun t => t.statusOf r = some .flashError ∧ t.host.keys = s.host.keys) ∧
  (∀ r slot s, s.fresh r = true → s.isOwner r.org = true → slot < 8 →
    Completes (.imageKeyClear r slot false) r s (fun t => Tab.get [] t.host.keys [slot] = []) ∧
    Answers (.imageKeyClear r slot true) s fun t => t.statusOf r = some .flashError ∧ t.host.keys = s.host.keys) ∧
  (∀ p s, s.loadsBusy < 4 → p < 32 → s.loadStage p = 7 →
    (∀ q, q < 32 → q ≠ p → s.loadStage q = 7 → (s.part p).load.elim 0 Load.order < (s.part q).load.elim 0 Load.order) →
    Answers .loadDequeue s fun t => t.loadStage p = 1) ∧
  (∀ r p srcPort addr length flags s, s.admits r p = true → flags < 2 → srcPort < 4 → s.portPresent srcPort = true →
    (s.isOwner r.org = true ∨ r.org = .host srcPort) → s.loadStage p = 0 →
    (bit flags 0 = true ∨ s.mode p = Mode.loading ∨ s.mode p = Mode.ready) →
    Answers (.partLoad r p srcPort addr length flags) s fun t =>
      t.loadStage p = (if 4 ≤ s.loadsBusy then 7 else 1) ∧ (t.part p).load.any (fun l => l.ref = r ∧ l.addr = addr ∧ l.length = length) = true) ∧
  (∀ p img s l, s.loadIn p 1 = some l → imgHas img.toArray 0 256 = true → s.headerFail p l.length img.toArray = none →
    imgHas img.toArray (imgTable img.toArray) (96 * imgCount img.toArray) = true →
    imgHas img.toArray (imgTrailer img.toArray) 112 = true → imgZero img.toArray (imgTrailer img.toArray + 104) 8 = true →
    (∀ e, sectOf img.toArray ST.regionMap 0 = some e → imgTrailer img.toArray < e.off + e.len ∨ imgHas img.toArray e.off e.len = true) →
    Answers (.loadHeader p img) s fun t =>
      (∀ k, s.imageKey img.toArray = some k →
        t.reg .partLoadKeySlot p 0 = k ∧ (tableFail img.toArray = none → t.loadStage p = 2)) ∧
      (s.imageKey img.toArray = none →
        t.loadStage p = 0 ∧ t.reg .partLoadStatus p 0 = Status.imageSignature.num ∧ t.reg .partLoadEndStage p 0 = 1)) ∧
  (∀ p img s l t0 allocs, s.loadIn p 2 = some l → (s.regions p).all s.regionOn = true →
    (imgSects (l.view img)).all (fun e => sectHas img e || decide (e.type = ST.probes)) = true → s.mapBad (l.view img) = false →
    s.transform p (l.view img) = some t0 →
    orFail (s.latencyFail t0 (l.view img))
      ((dramSects (l.view img)).findSome? fun e => if dramHeadBad (l.view img) e then some (⟨.imageFormat, e.idx, 0⟩ : LFail) else none)
      = none →
    s.planAllocs p t0 (l.view img) (dramSects (l.view img)) = .ok allocs →
    (∀ e ∈ dramSects (l.view img), s.slotsTaken p (t0.anvil e.scope) + imgLe (l.view img) (e.off + 8) 2 ≤ 256) →
    s.queueFail p (l.view img) = none → s.pinFail p (l.view img) = none → s.linkOutFail t0 (l.view img) = none →
    Answers (.loadPlan p img) s fun t => t.loadStage p = 3 ∧ (t.part p).load.any (fun x => x.allocs = allocs) = true) ∧
  (∀ p img s l, s.loadIn p 3 = some l → (imgSects (l.view img)).all (sectHas img) = true → s.checkFail p l (l.view img) = none →
    Answers (.loadCheck p img) s fun t =>
      if l.checkOnly then t.loadStage p = 0 ∧ t.reg .partLoadStatus p 0 = Status.ok.num ∧ t.reg .partLoadEndStage p 0 = 3
      else t.loadStage p = 4) ∧
  (∀ p s l, s.loadIn p 4 = some l → (s.loadOpen p l).loadFrozen l = none →
    Answers (.loadPrepare p) s fun t => t.loadStage p = 5 ∧ (s.mode p = Mode.ready → t.mode p = Mode.loading)) ∧
  (∀ p img s l, s.loadIn p 5 = some l →
    ((imgSects (l.view img)).filter fun e => decide (e.type ≠ ST.hearth)).all (sectHas img) = true →
    s.loadFrozen l = none →
    Answers (.loadSetup p img) s fun t =>
      if ((imgSects (l.view img)).filter fun e => decide (e.type ≠ ST.hearth)).all (digestOk (l.view img)) then
        t.loadStage p = 6 ∧ t.cycle p = 0
      else t.loadStage p = 0 ∧ t.reg .partLoadStatus p 0 = Status.imageDigest.num ∧ t.reg .partLoadEndStage p 0 = 5) ∧
  (∀ p img n s l a h e, s.loadIn p 6 = some l → (hearthOrder s p l.transform (l.view img))[l.next]? = some (a, h, e) →
    sectHas img e = true →
    Answers (.hearthVerify p img n) s fun t =>
      if digestOk (l.view img) e = false then t.loadStage p = 0 ∧ t.reg .partLoadStatus p 0 = Status.imageDigest.num
      else if 3 ≤ n ∨ crc32 (imgBytes (l.view img) e.off e.len) ≠ e.crc then
        t.loadStage p = 0 ∧ t.reg .partLoadStatus p 0 = Status.loadVerify.num ∧
          t.reg .partLoadFailDetail p 0 = 2 ^ 28 * a + 2 ^ 20 * h
      else if l.next + 1 = 16 * (s.regions p).length then
        t.mode p = Mode.ready ∧ t.cycle p = 0 ∧ t.loadStage p = 0 ∧ t.reg .partLoadStatus p 0 = Status.ok.num ∧
          t.reg .partLoadEndStage p 0 = 6
      else l.next < 1024 → t.loadStage p = 6 ∧ t.reg .partLoadDone p 0 = l.next + 1) ∧
  ∀ a id s j r b, s.dram.jobs.find? (fun j => decide (j.id = id ∧ j.anvil = a)) = some j → j.who = .cmd r →
    s.flag .ddrStatusFrozen a 0 = true → j.left ≠ 0 → s.busyOf r = some b → b.ans = none →
    (∀ p, p < 32 → (s.part p).load.any (fun l => decide (l.ref = r)) = false) →
    Answers (.dramFrozenTimeout a id) s fun t => t.statusOf r = some .dramFrozen

/-- The commands and events of observation complete (R211, R216 to R219, R222, R224, R227). A running timer at its deadline reads
expired; a time comparison that is reached changes nothing by itself, the sequencer sampling it at each boundary; ARM and DISARM are
requested for the next boundary; a waiting acquisition unit opens the next segment once it is free; a capture is requested, or taken
at once where the partition stands at the boundary it names; a capture drains into its area and is released. STATE_READ and
CAPTURE_DRAM_READ bring the bytes to the host port that asked for them; STATE_DEPOSIT puts user state and scratchpad bytes. An access
to module DRAM becomes requests of class 2 (R266), of which DRAM_REQUEST_SERVE is the serving, and the command completes once all are
served. -/
def Obligations.ObservationCommandsComplete : Prop :=
  (∀ p j s, s.pExists p = true → j < 4 → s.tmrExpired p j = true →
    Answers (.timerExpired p j) s fun t => t.reg .partTrigTmrExpired p j = 1) ∧
  (∀ p s, Answers (.timeReached p) s fun t => t = s) ∧
  (∀ o p s, s.pExists p = true → s.mayPart o p = true →
    Answers (.trigCtlArm o p) s fun t => (t.part p).armReq = true) ∧
  (∀ o p s, s.pExists p = true → s.mayPart o p = true →
    Answers (.trigCtlDisarm o p) s fun t => (t.part p).disarmReq = true) ∧
  (∀ p s, s.flag .partAcqCtlEnable p 0 = true → (s.part p).acq.isOpen = false → s.segFree p = true →
    Answers (.acqSegmentOpen p) s fun t => (t.part p).acq.isOpen = true ∧ t.reg .partAcqStatusWait p 0 = 0) ∧
  (∀ r p at_ cycle edge flags s, s.admits r p = true → at_ < 3 → edge < 64 → flags < 4 → s.mode p ≠ Mode.loading →
    s.capReady p = true → s.capRefusal p flags = none →
    (at_ = 1 → s.cycle p < cycle + 1 ∨ (cycle + 1 = s.cycle p ∧ (s.part p).started = false)) →
    Completes (.captureRequest r p at_ cycle edge flags) r s fun t =>
      if (s.atBoundary p = true ∧ at_ = 0) ∨ (at_ = 1 ∧ cycle + 1 = s.cycle p) then
        t.reg .partCapStatusState p 0 = 2 ∧ t.reg64 .partCapCycleLo .partCapCycleHi p 0 = s.cycle p % 2 ^ 64
      else t.reg .partCapStatusState p 0 = 1 ∧ (t.part p).cap.at_ = at_) ∧
  (∀ r p s, s.admits r p = true → s.reg .partCapStatusState p 0 ≠ 2 → s.reg .partCapStatusState p 0 < 4 →
    Completes (.captureRelease r p) r s fun t => t.reg .partCapStatusState p 0 = 0) ∧
  (∀ p s, s.reg .partCapStatusState p 0 = 2 → s.flag .ddrStatusFrozen (s.homeAnvil p) 0 = false →
    (s.executing p = false ∨ s.frozen p = true ∨ (s.part p).cap.allTaken (s.hearths p) = true) →
    Answers (.captureDrainComplete p) s fun t => t.reg .partCapStatusState p 0 = 3) ∧
  (∀ r p anvil offset length addr s b n, s.admits r p = true → anvil < s.grade.anvils → s.role r.org ≠ Role.local_ →
    offset % 4096 = 0 → length % 4096 = 0 → length ≠ 0 → s.reg .partCapStatusState p 0 = 3 → (s.part p).cap.snapshot = true →
    s.allocOn p anvil = some (b, n) → offset + length ≤ n → s.noAccess r = true →
    ((List.range (length / 4096)).all fun k => !Tab.get false (s.part p).cap.gone [anvil, (b + offset) / 4096 + k]) = true →
    Answers (.captureDramRead r p anvil offset length addr) s fun t => t.accessing r anvil length
      ((List.range (length / 4096)).flatMap fun k => s.snapPieces p anvil (b + offset) ((b + offset) / 4096 + k)) = true) ∧
  (∀ r p anvil offset length addr bs s b n, s.admitsOn r p = true → anvil < s.grade.anvils → s.role r.org ≠ Role.local_ →
    offset % 4096 = 0 → length % 4096 = 0 → s.reg .partCapStatusState p 0 = 3 → (s.part p).cap.snapshot = true →
    s.allocOn p anvil = some (b, n) → offset + length ≤ n → s.accessed r bs false = true →
    ((List.range (length / 4096)).all fun k => !Tab.get false (s.part p).cap.gone [anvil, (b + offset) / 4096 + k]) = true →
    Completes (.captureDramRead r p anvil offset length addr) r s fun t => ∀ port, r.org = .host port → t.hostHas port addr (bs.take length)) ∧
  (∀ r p kind anvil hearth first count addr s, s.admits r p = true → anvil < s.grade.anvils → hearth < 128 → kind ≤ 3 →
    s.role r.org ≠ Role.local_ → s.inPart p anvil hearth = true → first < 1024 → first + count ≤ 1024 → s.stopped p = true →
    Completes (.stateRead r p kind anvil hearth first count addr) r s fun t => ∀ port, r.org = .host port →
      t.hostHas port addr ((List.range count).flatMap fun k => s.fab.lbpBytes anvil hearth kind (first + k))) ∧
  (∀ r p kind anvil hearth first count addr s, s.admits r p = true → anvil < s.grade.anvils → hearth < 128 → kind = 4 ∨ kind = 5 →
    s.role r.org ≠ Role.local_ → s.inPart p anvil hearth = true → first + count ≤ 131072 → s.bankIdle anvil hearth = true →
    (s.fab.dma.any fun x => decide (x.anvil = anvil ∧ x.hearth = hearth ∧ x.bank = kind - 4)) = false →
    (s.fab.dmaRead anvil hearth (kind - 4) first count).2 = false →
    Completes (.stateRead r p kind anvil hearth first count addr) r s fun t => ∀ port, r.org = .host port →
      t.hostHas port addr (s.fab.dmaRead anvil hearth (kind - 4) first count).1) ∧
  (∀ r p anvil hearth first count addr s b n, s.admits r p = true → anvil < s.grade.anvils → hearth < 128 →
    s.role r.org ≠ Role.local_ → first % 8 = 0 → s.allocOn p anvil = some (b, n) → first + count ≤ n → count ≠ 0 →
    s.stopped p = true → s.noAccess r = true →
    Answers (.stateRead r p 6 anvil hearth first count addr) s fun t => t.accessing r anvil count (piecesOf 0 (b + first) count none) = true) ∧
  (∀ r p anvil hearth first count addr bs s b n, s.admitsOn r p = true → anvil < s.grade.anvils → hearth < 128 →
    s.role r.org ≠ Role.local_ → first % 8 = 0 → s.allocOn p anvil = some (b, n) → first + count ≤ n → s.stopped p = true →
    s.accessed r bs false = true →
    Completes (.stateRead r p 6 anvil hearth first count addr) r s fun t => ∀ port, r.org = .host port → t.hostHas port addr (bs.take count)) ∧
  (∀ r p anvil hearth first count addr flags data s, s.admits r p = true → anvil < s.grade.anvils → hearth < 128 →
    s.role r.org ≠ Role.local_ → s.inPart p anvil hearth = true → first < 1024 → first + count ≤ 1024 → flags < 2 → s.mode p = Mode.inspect →
    Completes (.stateDeposit r p 0 anvil hearth first count addr flags data) r s fun t => ∀ k u, k < count → u < 256 →
      Tab.get false t.fab.mem [anvil, hearth, first + k, 1536 + u] = packedBit (slice data 0 (32 * count)) (256 * k + u)) ∧
  (∀ r p kind anvil hearth first count addr flags data s, s.admits r p = true → anvil < s.grade.anvils → hearth < 128 →
    kind = 4 ∨ kind = 5 → s.role r.org ≠ Role.local_ → s.inPart p anvil hearth = true → first + count ≤ 131072 → flags < 2 →
    s.mode p = Mode.inspect → s.bankIdle anvil hearth = true →
    (s.fab.dma.any fun x => decide (x.anvil = anvil ∧ x.hearth = hearth ∧ x.bank = kind - 4)) = false →
    Completes (.stateDeposit r p kind anvil hearth first count addr flags data) r s fun t => ∀ k, k < count →
      Tab.get 0 t.fab.banks [anvil, hearth, kind - 4, first + k] = (slice data 0 count).getD k 0) ∧
  (∀ r p anvil hearth first count addr flags data s b n, s.admits r p = true → anvil < s.grade.anvils → hearth < 128 →
    s.role r.org ≠ Role.local_ → first % 8 = 0 → s.allocOn p anvil = some (b, n) → first + count ≤ n → count ≠ 0 → flags < 2 →
    s.mode p = Mode.inspect → s.noAccess r = true →
    Answers (.stateDeposit r p 6 anvil hearth first count addr flags data) s fun t =>
      t.accessing r anvil count (piecesOf 0 (b + first) count (some ((slice data 0 count).map some))) = true) ∧
  ∀ r p anvil hearth first count addr flags data bs s b n, s.admitsOn r p = true → anvil < s.grade.anvils → hearth < 128 →
    s.role r.org ≠ Role.local_ → first % 8 = 0 → s.allocOn p anvil = some (b, n) → first + count ≤ n → flags < 2 →
    s.mode p = Mode.inspect → s.accessed r bs false = true →
    Completes (.stateDeposit r p 6 anvil hearth first count addr flags data) r s fun t => s.host.logSeq < t.host.logSeq

/-- The events of the module DRAM complete (R130, R139, R141, R258, R260, R261, R263 to R266, R269 to R272). The request that is next is
served: a memory port's read has its word, a write its bytes, a command's access its part; a burst that cannot be decoded twice is
diagnosed, a poisoned one and a fourth write CRC error freeze the controller. A lost PHY training and a second failing device freeze
it; a diagnosis that finds one failing device marks it; the patrol requests the next burst; a page that is due moves to the free page;
a refresh begins and ends; a rank powers down; the steward's thaw lets the controller serve again. -/
def Obligations.DramEventsComplete : Prop :=
  (∀ r s d b, d ∈ s.fab.dma → d.who = .cmd r → dmaLimit ≤ d.busy → s.busyOf r = some b → b.ans = none →
    Answers (.dmaBankTimeout (.cmd r)) s fun t => t.statusOf r = some .memBusy ∧
      t.fab.dma.any (fun d => decide (d.who = .cmd r)) = false ∧ t.host.mem = s.host.mem) ∧
  (∀ src dst tag s d, d ∈ s.fab.dma → d.who = .noc src dst tag → dmaLimit ≤ d.busy →
    Answers (.dmaBankTimeout (.noc src dst tag)) s fun t => t.fab.dma.any (fun d => decide (d.who = .noc src dst tag)) = false ∧
      ∃ cpl, 0 < cpl ∧ cpl < 16 ∧ t.noc.replies = s.noc.replies ++ [⟨dst, src, tag, cpl, [], none⟩]) ∧
  (∀ a id s, Tab.get 0 s.dram.back [a, id] ≠ 0 →
    Answers (.dramReadReturn a id) s fun t => Tab.get 0 t.dram.back [a, id] = 0 ∧
      ∀ e, s.fab.emu.find? (fun e => e.id = id) = some e → ∀ d ∈ t.fab.due, d.id = id →
        d.word = some ((Tab.get 0 s.dram.back [a, id] - 1) % 2 ^ e.width)) ∧
  (∀ a sub s, Tab.get 0 s.dram.refresh [a, sub] ≠ 0 →
    Answers (.refreshEnd a sub) s fun t => Tab.get 0 t.dram.refresh [a, sub] = 0) ∧
  (∀ a page reads s, (Tab.get [] s.dram.waiting [a]).contains page = true →
    Answers (.pageRetirement a page reads) s fun t =>
      (s.dram.freePage a none = none → t.flag .ddrStatusReserveEmpty a 0 = true) ∧
      ∀ dst, s.dram.freePage a none = some dst → s.copyReady a (s.dram.lin a (page * 4096) / 4096) dst = true →
        (s.copyReads a (s.dram.lin a (page * 4096) / 4096) dst reads).2 = true →
        Tab.get false t.dram.retired [a, page] = true ∧ Tab.get 0 t.dram.remap [a, page] = dst + 1) ∧
  (∀ a reads s r, s.flag .ddrStatusFrozen a 0 = false → s.migratingRank a = some r →
    Answers (.migrationStep a reads) s fun t =>
      (s.nextMigrate a r = none → bit (Tab.get 0 t.dram.migrate [a]) r = false) ∧
      ∀ x, s.nextMigrate a r = some x → ∀ dst, s.dram.freePage a (some (1 - r)) = some dst →
        s.copyReady a (s.dram.lin a (x.1 * 4096) / 4096) dst = true →
        (x.2 = true → (s.copyReads a (s.dram.lin a (x.1 * 4096) / 4096) dst reads).2 = true) →
        Tab.get 0 t.dram.remap [a, x.1] = dst + 1) ∧
  (∀ a id bad second crc s r j bs, s.servable a id r → r.write = false → r.src = .port j → r.addr % 64 + r.len ≤ 64 →
    Tab.get false s.dram.poison [a, s.reqLin a r / 64] = false → s.delivered a r bad second = some bs →
    Answers (.dramRequestServe a id bad second crc) s fun t =>
      Tab.get 0 t.dram.back [a, j] = 1 + leVal ((bs.drop (r.addr % 64)).take r.len)) ∧
  (∀ a id bad second crc s r j x q bs, s.servable a id r → r.write = false → r.src = .job j x → r.addr % 64 + r.len ≤ 64 →
    s.dram.jobs.find? (fun y => decide (y.id = j)) = some q → (∃ c, q.who = .cmd c) → x + r.len ≤ q.got.length →
    Tab.get false s.dram.poison [a, s.reqLin a r / 64] = false → s.delivered a r bad second = some bs →
    Answers (.dramRequestServe a id bad second crc) s fun t => (t.dram.jobs.find? (fun y => decide (y.id = j))).any (fun y =>
      decide (y.left = q.left - 1 ∧ slice y.got x r.len = (bs.drop (r.addr % 64)).take r.len)) = true) ∧
  (∀ a id bad second crc s r bs, s.servable a id r → r.write = true → r.src ≠ .scrub → r.addr % 64 + r.len ≤ 64 →
    r.data.length = r.len → s.copyFree a r = true → crc ≤ 3 →
    (r.whole = true ∨ (Tab.get false s.dram.poison [a, s.reqLin a r / 64] = false ∧ s.delivered a r bad second = some bs)) →
    Answers (.dramRequestServe a id bad second crc) s fun t => ∀ k, k < 64 →
      t.dramByte a (64 * (s.reqLin a r / 64) + k) = r.merged bs k) ∧
  (∀ a id bad second crc s r, s.servable a id r → r.whole = true → r.src ≠ .scrub → (s.cowSick a r.addr).isNone = true → 3 < crc →
    Answers (.dramRequestServe a id bad second crc) s fun t => t.flag .ddrStatusFrozen a 0 = true ∧ t.reg .ddrFrzKind a 0 = 2 ∧
      t.reg .ddrFrzClass a 0 = r.cls) ∧
  (∀ a id bad second crc s r, s.servable a id r → r.write = false → r.src ≠ .scrub →
    Tab.get false s.dram.poison [a, s.reqLin a r / 64] = true →
    Answers (.dramRequestServe a id bad second crc) s fun t => t.flag .ddrStatusFrozen a 0 = true ∧ t.reg .ddrFrzKind a 0 = 1 ∧
      t.reg .ddrFrzClass a 0 = r.cls) ∧
  (∀ a id bad second crc s r, s.servable a id r → r.write = false → Tab.get false s.dram.poison [a, s.reqLin a r / 64] = false →
    s.delivered a r bad second = none →
    Answers (.dramRequestServe a id bad second crc) s fun t =>
      (Tab.get none t.dram.diag [a, s.reqSub a r, linRank (s.reqLin a r)]).any (fun d =>
        decide (d.req = id ∧ d.burst = s.reqLin a r / 64)) = true) ∧
  (∀ a sub s, s.subOn a sub = true → s.flag .ddrStatusFrozen a 0 = false →
    Answers (.phyTrainingLoss a sub) s fun t => t.flag .ddrStatusFrozen a 0 = true ∧ t.reg .ddrFrzKind a 0 = 2) ∧
  (∀ a sub rank failing s, Tab.get none s.dram.diag [a, sub, rank] ≠ none → s.flag .ddrStatusFrozen a 0 = false →
    s.markOf a sub rank = none → popcount 5 failing = 1 →
    Answers (.deviceDiagnosis a sub rank failing) s fun t => t.markOf a sub rank = some ((setBitsOf 5 failing).headD 0)) ∧
  (∀ a sub rank failing s d, s.markOf a sub rank = some d → s.flag .ddrStatusFrozen a 0 = false →
    setBit failing d false % 32 ≠ 0 →
    Answers (.markRediagnosis a sub rank failing) s fun t => t.flag .ddrStatusFrozen a 0 = true ∧ t.reg .ddrFrzKind a 0 = 3) ∧
  (∀ a sub s, s.subOn a sub = true → s.flag .ddrStatusFrozen a 0 = false → slotFree (s.slotHolders a sub) 3 = true →
    Answers (.patrolScrub a sub) s fun t =>
      Tab.get 0 t.dram.patrol [a, sub] = (Tab.get 0 s.dram.patrol [a, sub] + 1) % 2 ^ 28 ∧
        (t.reqs a).any (fun x => decide (x.src = .scrub ∧ x.cls = 3 ∧ x.addr = 128 * Tab.get 0 s.dram.patrol [a, sub] + 64 * sub)) = true) ∧
  (∀ a id s r, (s.reqs a).find? (fun r => r.id = id) = some r → r.cls ≠ 0 → r.promoted = false → s.reg .ddrCfgAgeNs a 0 ≠ 0 →
    Answers (.agePromotion a id) s fun t => (t.reqs a).any (fun x => decide (x.id = id) && x.promoted) = true) ∧
  (∀ a sub bank s, s.subOn a sub = true → Tab.get 0 s.dram.refresh [a, sub] = 0 →
    (s.reqs a).any (fun r => decide (r.cls = 0 ∧ s.reqSub a r = sub ∧ bits (s.reqLin a r) 17 16 = bank % 4)) = false →
    Answers (.sameBankRefresh a sub bank) s fun t => Tab.get 0 t.dram.refresh [a, sub] = 1 + bank % 4) ∧
  (∀ a sub s, s.subOn a sub = true → Tab.get 0 s.dram.refresh [a, sub] = 0 →
    Answers (.allBankRefresh a sub) s fun t => Tab.get 0 t.dram.refresh [a, sub] = 255) ∧
  (∀ a sub rank s, s.subOn a sub = true → rank < 2 → s.reg .ddrCfgPdNs a 0 ≠ 0 → Tab.get false s.dram.pdown [a, sub, rank] = false →
    Tab.get 0 s.dram.refresh [a, sub] = 0 →
    (s.reqs a).any (fun r => decide (linSub (s.reqLin a r) = sub ∧ linRank (s.reqLin a r) = rank)) = false →
    Answers (.rankPowerDown a sub rank) s fun t => Tab.get false t.dram.pdown [a, sub, rank] = true) ∧
  ∀ a ok s z, Tab.get none s.dram.frozen [a] = some z → s.sys.stewardDown = false → (z.kind = 1 ∨ (z.kind = 2 ∧ ok = true)) →
    Answers (.stewardThaw a ok) s fun t => t.flag .ddrStatusFrozen a 0 = false

/-- DDR_THAW, DDR_RETIRE_PAGE and DDR_MARK_SET complete (R272, R273): the controller serves again, the page is retired, the device
is marked. -/
def Obligations.DramCommandsComplete : Prop :=
  (∀ r a action ok s z, s.fresh r = true → s.isOwnerOrLocal r.org = true → a < s.grade.anvils → action < 3 →
    s.flag .ddrStatusFrozen a 0 = true → Tab.get none s.dram.frozen [a] = some z → (s.cpOut a).1 = false →
    (action = 2 → s.reg .ddrFrzKind a 0 ≠ 3 ∧ ok = true) →
    Completes (.ddrThaw r a action ok) r s fun t => t.flag .ddrStatusFrozen a 0 = false) ∧
  (∀ r a addr s, s.fresh r = true → s.isOwnerOrLocal r.org = true → a < s.grade.anvils → addr < Config.dramUsable →
    (s.cpOut a).1 = false →
    (Tab.get false s.dram.retired [a, addr / 4096] = true ∨
      ∃ dst, s.dram.freePage a none = some dst ∧ s.copyReady a (s.dram.lin a (addr / 4096 * 4096) / 4096) dst = true) →
    Completes (.ddrRetirePage r a addr) r s fun t => Tab.get false t.dram.retired [a, addr / 4096] = true) ∧
  ∀ r a sub rank device s, s.fresh r = true → s.isOwnerOrLocal r.org = true → a < s.grade.anvils → sub < 2 → rank < 2 → device < 5 →
    (s.cpOut a).1 = false → s.markOf a sub rank = none →
    Completes (.ddrMarkSet r a sub rank device) r s fun t => t.markOf a sub rank = some device

/-- The commands and events of the side pins complete (R372 to R374, R377, R379, R381, R383 to R385). The GPIO clauses say it bit by
bit: a bit is set, cleared or toggled where the mask has a 1 and the writer may write the pin, and keeps its value elsewhere. An I²C
transfer ends as a free value says; with no pin for SDA it ends with SP_I2C_NACK. -/
def Obligations.SidePinCommandsComplete : Prop :=
  (∀ o n func s, s.sys.off = false → s.mayPin o n = true → s.pinFuncOk n func = true →
    Answers (.pinFuncSwitch o n func) s fun t => t.reg .spPinFunc 0 n = func ∧ t.reg .spPinShort 0 n = 0) ∧
  (∀ o n owner s, s.sys.off = false → s.isOwnerOrLocal o = true → owner < 32 ∨ owner = 0x3F →
    (s.modQuiet = true ∨ (s.ownerQuiet (s.reg .spPinOwner 0 n) = true ∧ s.ownerQuiet owner = true)) →
    Answers (.pinOwnerWrite o n owner) s fun t => t.reg .spPinOwner 0 n = owner ∧ t.reg .spPinFunc 0 n = 0) ∧
  (∀ o b vsel s, s.sys.off = false → s.isOwnerOrLocal o = true → vsel < 3 →
    (s.modQuiet = true ∨ (bankPins b).all (fun n => s.ownerQuiet (s.reg .spPinOwner 0 n)) = true) →
    Answers (.bankVselWrite o b vsel) s fun t => t.reg .spBankVsel 0 b = vsel ∧
      (s.reg .spBankVsel 0 b ≠ vsel → t.flag .spBankRamping 0 b = true)) ∧
  (∀ b s, s.flag .spBankRamping 0 b = true →
    Answers (.bankRampDone b) s fun t => t.flag .spBankRamping 0 b = false) ∧
  (∀ o mask s, s.sys.off = false →
    Answers (.gpioSet o false mask) s (fun t => ∀ k, k < 32 →
      bit (t.reg .spGpioOutLo 0 0) k = (bit (s.reg .spGpioOutLo 0 0) k || (bit mask k && s.mayPin o k))) ∧
    Answers (.gpioSet o true mask) s (fun t => ∀ k, k < 16 →
      bit (t.reg .spGpioOutHi 0 0) k = (bit (s.reg .spGpioOutHi 0 0) k || (bit mask k && s.mayPin o (32 + k)))) ∧
    Answers (.gpioClr o false mask) s (fun t => ∀ k, k < 32 →
      bit (t.reg .spGpioOutLo 0 0) k = (bit (s.reg .spGpioOutLo 0 0) k && !(bit mask k && s.mayPin o k))) ∧
    Answers (.gpioClr o true mask) s (fun t => ∀ k, k < 16 →
      bit (t.reg .spGpioOutHi 0 0) k = (bit (s.reg .spGpioOutHi 0 0) k && !(bit mask k && s.mayPin o (32 + k)))) ∧
    Answers (.gpioTgl o false mask) s (fun t => ∀ k, k < 32 →
      bit (t.reg .spGpioOutLo 0 0) k = xor (bit (s.reg .spGpioOutLo 0 0) k) (bit mask k && s.mayPin o k)) ∧
    Answers (.gpioTgl o true mask) s fun t => ∀ k, k < 16 →
      bit (t.reg .spGpioOutHi 0 0) k = xor (bit (s.reg .spGpioOutHi 0 0) k) (bit mask k && s.mayPin o (32 + k))) ∧
  (∀ n s, (s.pinDrives n).isSome = true → s.flag .spPinShort 0 n = false →
    Answers (.pinShort n) s fun t => t.flag .spPinShort 0 n = true) ∧
  (∀ o n s, s.sys.off = false → s.mayPin o n = true →
    Answers (.shortClear o n) s fun t => t.flag .spPinShort 0 n = false) ∧
  (∀ s, Answers .strapClose s fun t => t.flag .spCfgStrap 0 0 = true) ∧
  (∀ s, Answers .strapOpen s fun t => t.flag .spCfgStrap 0 0 = false ∧ t.host.uartBusy = false) ∧
  (∀ u byte bad s, s.sys.off = false → s.uartTaken u = false → s.pins.stopped = false → (s.inputPin (0x39 + 2 * u)).isSome = true →
    Answers (.uartRxByte u byte bad) s fun t =>
      if bad = true ∨ 4096 ≤ (s.uartFifo u).length then
        t.reg .spUartRxDrop 0 u = min (2 ^ Fld.spUartRxDrop.width - 1) (s.reg .spUartRxDrop 0 u + 1) ∧ t.uartFifo u = s.uartFifo u
      else t.uartFifo u = s.uartFifo u ++ [BitVec.ofNat 8 byte]) ∧
  (∀ r u baud format s, s.fresh r = true → s.isOwnerOrLocal r.org = true → u < 2 → 300 ≤ baud → baud ≤ 3000000 → format < 16 →
    format % 4 ≠ 3 → s.uartTaken u = false →
    Completes (.spUartCfg r u baud format) r s fun t => t.uartFifo u = [] ∧ Tab.get 0 t.pins.uartBaud [u] = baud ∧
      Tab.get 0 t.pins.uartFormat [u] = format) ∧
  (∀ r u len data s, s.fresh r = true → s.isOwnerOrLocal r.org = true → u < 2 → 0 < len → len ≤ 1024 → len ≤ data.length →
    s.uartTaken u = false →
    Completes (.spUartSend r u len data) r s fun t => t.out = s.out ++ (data.take len).map fun b => Out.serial 0 u b.toNat) ∧
  (∀ r u max s, s.fresh r = true → s.isOwnerOrLocal r.org = true → u < 2 → 0 < max → max ≤ 1024 → s.uartTaken u = false →
    Completes (.spUartRecv r u max) r s fun t => t.uartFifo u = (s.uartFifo u).drop max ∧
      (t.busyOf r).bind Busy.ans = some ⟨.ok, 0, toLE 2 ((s.uartFifo u).take max).length ++ (s.uartFifo u).take max⟩) ∧
  (∀ r bus speed addr wlen rlen data s, s.fresh r = true → s.isOwnerOrLocal r.org = true → bus < 2 → speed < 3 → addr < 128 →
    wlen ≤ 256 → rlen ≤ 256 → wlen ≤ data.length →
    Answers (.spI2cXfer r bus speed addr wlen rlen data) s fun t =>
      t.statusOf r = some (if (s.inputPin (0x3D + 2 * bus)).isNone then .spI2cNack
        else if Config.freeNat s.free % 4 = 1 then .spI2cNack else if Config.freeNat s.free % 4 = 2 then .spI2cTimeout
        else if Config.freeNat s.free % 4 = 3 then .spI2cArb else .ok)) ∧
  ∀ r cs mode div len data s, s.fresh r = true → s.isOwnerOrLocal r.org = true → cs < 4 → mode < 4 → 2 ≤ div → div ≤ 255 → 0 < len →
    len ≤ 1024 → len ≤ data.length →
    Completes (.spSpiXfer r cs mode div len data) r s fun t => t.out = s.out ++ (data.take len).map fun b => Out.serial 2 cs b.toNat

/-- The events of the time base complete (R357 to R359, R363, R364, R368). A due launch of an armed launcher is counted; a tick adds the
increment in effect to every anvil counter; the first master announced is taken, and a Delay_Resp that answers the outstanding
Delay_Req gives the mean delay; losses of a source set their bits; an accepted edge of PPS in is remembered; a mismatch of the counters
is recorded. -/
def Obligations.TimeEventsComplete : Prop :=
  (∀ k s, s.flag .timeLaunchArmed 0 k = true → s.launchDue k ≤ s.clock →
    Answers (.launch k) s fun t =>
      t.reg .timeLaunchDone 0 k = min (2 ^ Fld.timeLaunchDone.width - 1) (s.reg .timeLaunchDone 0 k + 1)) ∧
  (∀ s, s.sys.off = false → s.time.stepDue = false →
    Answers .timeTick s fun t => t.time.ticks = s.time.ticks + 1 ∧ ∀ a, a < s.grade.anvils → t.ctr a = s.ctr a + s.nextIncr) ∧
  (∀ m utc rank arb s, s.sys.off = false → s.usesPtp = true → m.domain = s.reg .timePtpCfgDomain 0 0 →
    m.l2 = s.flag .timePtpCfgL2 0 0 → m.body = .announce utc rank arb → s.time.foreign = [] →
    Answers (.ptpMessage m) s fun t => t.time.foreign = [⟨m.source, rank, utc, arb⟩] ∧ t.time.master = some m.source ∧
      t.reg64 .timePtpMasterLo .timePtpMasterHi 0 0 = m.source % 2 ^ 64 ∧
      t.reg .timePtpUtcOffset 0 0 = if arb then s.reg .timePtpUtcOffset 0 0 else utc % 2 ^ Fld.timePtpUtcOffset.width) ∧
  (∀ m seq receive corr x stamp s, s.sys.off = false → s.usesPtp = true → m.domain = s.reg .timePtpCfgDomain 0 0 →
    m.l2 = s.flag .timePtpCfgL2 0 0 → s.time.master = some m.source → m.body = .delayResp seq receive corr x →
    s.time.delayReq = some (seq, stamp) →
    Answers (.ptpMessage m) s fun t => t.time.delayReq = none ∧ t.time.delayGap = logInterval x ∧
      t.reg .timePtpMeanDelayNs 0 0 =
        satSigned 32 ((s.time.msDelay + (receive - signed 64 stamp - corr)) / 2) % 2 ^ Fld.timePtpMeanDelayNs.width) ∧
  (∀ s, s.sys.off = false → s.delayDue = true →
    Answers .delayReqSend s fun t => t.time.delayReq.map Prod.fst = some s.time.delaySeq ∧
      t.time.delaySeq = (s.time.delaySeq + 1) % 2 ^ 16 ∧ t.time.delayAt = some s.now ∧ t.out.length = s.out.length + 1) ∧
  (∀ s m, s.usesPtp = true → s.time.master = some m → s.time.foreign.all (fun x => decide (x.id = m)) = true →
    Answers .ptpSourceLoss s fun t => t.time.master = none ∧ t.time.foreign = [] ∧
      ((s.reg .timeStatusServo 0 0 = 1 ∨ s.reg .timeStatusServo 0 0 = 2) → t.reg .timeStatusServo 0 0 = 3)) ∧
  (∀ s, (s.inputPin 0x30).isSome = true → s.pins.stopped = false →
    (∀ u, s.time.ppsLast = some u → u + 999900000 ≤ s.now ∧ s.now ≤ u + 1000100000) →
    Answers .ppsEdge s fun t => t.time.ppsLast = some s.now) ∧
  (∀ s, s.sys.off = false → (∀ u, s.time.ppsLast = some u → u + 2000000000 ≤ s.now) →
    Answers .ppsLoss s fun t => t.time.ppsLast = none ∧ t.flag .timeStatusPpsLost 0 0 = true) ∧
  (∀ s, s.time.ppsOutAt < s.clock / 1000000000 →
    Answers .ppsOut s fun t => t.out = s.out ++ [Out.pps (s.clock / 1000000000 * 1000000000)] ∧
      t.time.ppsOutAt = s.clock / 1000000000) ∧
  (∀ s, s.flag .timeCfgFreqSrc 0 0 = true → s.time.freqHeld = false →
    Answers .freqSourceLoss s fun t => t.time.freqHeld = true ∧ t.flag .timeStatusFreqLost 0 0 = true) ∧
  (∀ s, Answers .pllRelock s fun t => t.time.freqHeld = false ∧ t.time.ticks = s.time.ticks) ∧
  (∀ s, s.sys.off = false → 2 ≤ ((List.range s.grade.anvils).filter fun a => !Tab.get false s.sys.islandOff [a]).length →
    Answers .counterMismatch s fun t => t.flag .timeStatusMismatch 0 0 = true) ∧
  ∀ k s, (s.inputPin (0x10 + k)).isSome = true → s.pins.stopped = false →
    Answers (.triggerInputEdge k) s fun t => ∀ p, s.pExists p = true → k ∈ (t.part p).edges

/-- The commands of the time base complete (R359, R361, R366, R367, R369). ARM starts a launcher whose fields are in range and reports
SETUP_ERR otherwise; TIME_STEP moves every anvil counter, modulo 2^96, and puts REF0 at the new value; RATE and ADJ of a reference counter take effect at once. -/
def Obligations.TimeCommandsComplete : Prop :=
  (∀ o k s, s.sys.off = false → s.isOwnerOrLocal o = true →
    Answers (.launchArm o k) s fun t =>
      if s.reg .timeLaunchKind 0 k = 3 ∨
          (0 < s.reg .timeLaunchPeriod 0 k ∧ s.reg .timeLaunchPeriod 0 k < max 100 (5 * (s.reg .timeLaunchWidthM1 0 k + 3))) ∨
          (s.reg .timeLaunchKind 0 k = 2 ∧ s.reg .queueCfgType (s.reg .timeLaunchQueue 0 k) 0 = 0) then
        t.flag .timeLaunchSetupErr 0 k = true
      else s.clock ≤ s.launchT k → t.flag .timeLaunchArmed 0 k = true ∧ t.reg .timeLaunchDone 0 k = 0) ∧
  (∀ o k s, s.sys.off = false → s.isOwnerOrLocal o = true →
    Answers (.launchDisarm o k) s fun t => t.flag .timeLaunchArmed 0 k = false) ∧
  (∀ r mode value s, s.fresh r = true → s.isOwnerOrLocal r.org = true → mode < 2 → s.reg .timeCfgPhaseSrc 0 0 = 0 → s.tracing = false →
    (0 ≤ (if mode = 0 then signed 64 value * 2 ^ 32 else (value : Int) * 2 ^ 32 - (s.ctr 0 : Int)) ∨ s.partitions = []) →
    Completes (.timeStep r mode value) r s fun t => t.refVal 0 = (s.ctr 0 : Int) +
        (if mode = 0 then signed 64 value * 2 ^ 32 else (value : Int) * 2 ^ 32 - (s.ctr 0 : Int)) ∧
      t.time.run = s.time.run ∧ ∀ a, a < s.grade.anvils → t.ctr a = unsigned 96 ((s.ctr a : Int) +
        (if mode = 0 then signed 64 value * 2 ^ 32 else (value : Int) * 2 ^ 32 - (s.ctr 0 : Int)))) ∧
  (∀ o v s, s.sys.off = false → s.isOwnerOrLocal o = true → s.flag .timeCfgFollow 0 0 = false →
    Answers (.timeIncrWrite o v) s fun t => t.time.incr = v * 2 ^ 32 + s.reg .timeIncrFrac 0 0 ∧
      t.reg .timeIncrIncrNs 0 0 = v % 2 ^ Fld.timeIncrIncrNs.width) ∧
  (∀ o k v s, s.sys.off = false → s.mayRef o k = true →
    Answers (.refRateWrite o k v) s fun t => t.rate k = clampIncr Config.rateSlack (v * 2 ^ 32 + s.reg .timeRefRateFrac 0 k) ∧
      t.refVal k = s.refVal k) ∧
  (∀ o k v s, s.sys.off = false → s.mayRef o k = true →
    Answers (.refAdj o k v) s fun t =>
      t.refVal k = if k = 1 ∧ signed 32 v < 0 then s.refVal k else s.refVal k + signed 32 v * 2 ^ 32) ∧
  ∀ o src s, s.sys.off = false → s.isOwnerOrLocal o = true →
    Answers (.timeCapArm o src) s fun t => t.time.capArmed = some src ∧ t.flag .timeCapValid 0 0 = false

/-- Insertions of billets start, wait for their turn, and complete (R427, R428): once the copies have passed, each logical BP is served
by the next free billet. -/
def Obligations.BilletEventsComplete : Prop :=
  (∀ a h lbps s, a < s.grade.anvils → h < 128 → lbps ≠ [] → lbps.length ≤ 32 → (∀ b ∈ lbps, b < 1024) →
    lbps.length + s.billetsAsked a h ≤ (s.freeBillets a h).length → (∀ b ∈ lbps, s.insertionKnown a h b = false) →
    Answers (.billetInsertion a h lbps) s fun t =>
      (s.svc.insertion.isSome = true →
        t.svc.insertion = s.svc.insertion ∧ t.svc.queued = s.svc.queued ++ [(a, h, lbps, none)]) ∧
      (s.svc.insertion = none → s.svc.queued = [] → s.deferred a h = false →
        t.svc.insertion = some ⟨a, h, lbps, none, (s.hearthPart a h).filter s.executing⟩)) ∧
  ∀ i s, s.svc.insertion = some i → i.lbps ≠ [] → i.lbps.Nodup → (∀ b ∈ i.lbps, b < 1024) →
    (∀ p, i.part = some p → s.executing p = false ∨ s.frozen p = true) →
    i.lbps.length ≤ (s.freeBillets i.anvil i.hearth).length → s.sys.stewardDown = false →
    Answers (.billetCopyComplete []) s fun t => ∀ n, n < i.lbps.length → ∀ k, k = (s.freeBillets i.anvil i.hearth).getD n 0 →
      t.flag .hearthMapBilletValid (hInst i.anvil i.hearth) k = true ∧
        t.reg .hearthMapBilletLbp (hInst i.anvil i.hearth) k = i.lbps.getD n 0

/-- The bring-up events of a Waltline lane complete (R347 to R349): a lane that is powered and in the state the event is for goes on to
the next state; a training limit or a loss of lock sends it back to TRAIN, the third failure in a row to FAILED; a CAP block that is
refused fails the lane, and the one that completes the handshake makes it ACTIVE. -/
def Obligations.LaneBringUpCompletes : Prop :=
  (∀ o l s, s.laneOn l = true → s.isOwnerOrLocal o = true →
    Answers (.laneEnable o l) s (fun t => t.flag .wlLaneCtlEnable l 0 = true ∧
      (s.laneSt l = LaneSt.disabled → t.laneSt l = LaneSt.detect)) ∧
    Answers (.laneDisable o l) s (fun t => t.flag .wlLaneCtlEnable l 0 = false ∧ t.laneSt l = LaneSt.disabled) ∧
    (s.laneSt l ≠ LaneSt.disabled → Answers (.retrain o l) s fun t => t.laneSt l = LaneSt.detect)) ∧
  (∀ l s, s.laneOn l = true → s.laneSt l = LaneSt.detect → Answers (.terminationDetect l) s fun t => t.laneSt l = LaneSt.train) ∧
  (∀ l s, s.laneOn l = true → s.laneSt l = LaneSt.train → Answers (.cdrLock l) s fun t => t.laneSt l = LaneSt.bitlock) ∧
  (∀ l s, s.laneOn l = true → s.laneSt l = LaneSt.bitlock → Answers (.blockLock l) s fun t => t.laneSt l = LaneSt.blocklock) ∧
  (∀ l complement s, s.laneOn l = true → s.laneSt l = LaneSt.blocklock →
    Answers (.tsDetected l complement) s fun t => t.laneSt l = LaneSt.capex ∧ t.flag .wlTrainPolarity l 0 = complement) ∧
  (∀ l s, s.laneOn l = true → LaneSt.train ≤ s.laneSt l → s.laneSt l ≤ LaneSt.capex →
    Answers (.trainTimeout l) s fun t =>
      if (s.lane l).fails < 2 then t.laneSt l = LaneSt.train ∧ (t.lane l).fails = (s.lane l).fails + 1
      else t.laneSt l = LaneSt.failed ∧ t.flag .wlLaneStatusTrainFail l 0 = true) ∧
  (∀ l s, s.laneOn l = true → s.laneSt l = LaneSt.active →
    Answers (.lockLoss l) s fun t => t.laneSt l = LaneSt.train ∧ (t.lane l).lost = true) ∧
  ∀ l c s, s.laneOn l = true → s.laneSt l = LaneSt.capex →
    Answers (.cap l c) s fun t =>
      if s.capRefused l c = true then t.laneSt l = LaneSt.failed ∧ t.flag .wlLaneStatusCapMismatch l 0 = true
      else ((s.lane l).cap ≠ some c → (t.lane l).cap = some c ∧ (t.lane l).capRun = 1) ∧
        ((s.lane l).cap = some c → c.seen = true → 7 ≤ (s.lane l).seenRun → (s.lane l).ownSeen = true → 7 ≤ (s.lane l).capSent →
          (∀ f ∈ (s.log (s.bundleOf l) (if l < 64 then l % 8 else s.logical l)).retry, f.replays ≠ 3) → t.laneSt l = LaneSt.active)

/-- The frame and control block events of Waltline complete (R337, R338, R340, R342 to R345, R349 to R352). A frame that is in order
moves the expected LSEQ on, one that is not leaves it, one that fails its checks is counted; an ACK drops what it covers, a NAK and a
replay send the rest again. CREDIT, MARK, STOP, DSK, SPARE and BANK have the effect of their block where they count. Blocks and frames
that leave are shown with their CRCs. -/
def Obligations.LaneTrafficCompletes : Prop :=
  (∀ l f s, s.laneOn l = true → s.laneSt l = LaneSt.active → s.logical l < 8 →
    Answers (.frame l f) s fun t =>
      (WlFrame.good f = false → t.flag .wlLaneStatusCrc l 0 = true ∧ t.reg .wlLaneErrCrcCount l 0 =
        min (2 ^ Fld.wlLaneErrCrcCount.width - 1) (s.reg .wlLaneErrCrcCount l 0 + 1)) ∧
      (WlFrame.good f = true → (t.log (s.bundleOf l) (s.logical l)).expect =
        if f.lseq = (s.log (s.bundleOf l) (s.logical l)).expect then (f.lseq + 1) % 256
        else (s.log (s.bundleOf l) (s.logical l)).expect)) ∧
  (∀ l i lseq s f fs, s.laneOn l = true → s.laneSt l = LaneSt.active → i < 8 → (s.log (s.bundleOf l) i).retry = f :: fs →
    (∀ j, j < 8 → (s.log (s.bundleOf l) j).moving = false) → (lseq + 256 - f.lseq) % 256 < fs.length + 1 →
    Answers (.ack l i lseq false) s (fun t => (t.log (s.bundleOf l) i).retry = fs.drop ((lseq + 256 - f.lseq) % 256)) ∧
    ∀ c, s.carrier (s.bundleOf l) i = some c → (∀ x ∈ fs, x.replays ≠ 3) → fs.drop ((lseq + 256 - f.lseq) % 256) ≠ [] →
      Answers (.ack l i lseq true) s fun t =>
        (t.log (s.bundleOf l) i).retry.map (·.lseq) = (fs.drop ((lseq + 256 - f.lseq) % 256)).map (·.lseq) ∧
        t.out = s.out ++ (fs.drop ((lseq + 256 - f.lseq) % 256)).map fun x =>
          Out.frame c x.lseq true x.header x.payload (crc32 (x.header ++ x.payload))) ∧
  (∀ l s, s.replayDue l = true → (∀ f ∈ (s.log (s.bundleOf l) (s.logical l)).retry, f.replays ≠ 3) →
    Answers (.replayTimeout l) s fun t => t.out = s.out ++ (s.log (s.bundleOf l) (s.logical l)).retry.map (fun f =>
        Out.frame l f.lseq true f.header f.payload (crc32 (f.header ++ f.payload))) ∧
      ∀ f ∈ (t.log (s.bundleOf l) (s.logical l)).retry, f.since = s.now) ∧
  (∀ b k gen limit s, s.onPrimary b k = true → gen = s.reg .wlStreamOutGen k 0 →
    Answers (.credit b k gen limit) s fun t => t.reg .wlStreamOutLimit k 0 = limit % 2 ^ 32) ∧
  (∀ b k count s, s.onPrimary b k = true →
    Answers (.mark b k count) s fun t => (t.stream k).received = count % 2 ^ 16 ∧
      (1 ≤ (count % 2 ^ 16 + 2 ^ 16 - s.reg .wlStreamMarkCount k 0) % 2 ^ 16 →
        (count % 2 ^ 16 + 2 ^ 16 - s.reg .wlStreamMarkCount k 0) % 2 ^ 16 ≤ 4096 → t.reg .wlStreamMarkCount k 0 = count % 2 ^ 16)) ∧
  (∀ b k number copies s, s.onPrimary b k = true → popcount 8 (s.reg .wlBundleAligned b 0) / 2 + 1 ≤ copies →
    (s.stream k).lastStop ≠ some (number % 2 ^ 16) →
    Answers (.stop b k number copies) s fun t => (t.stream k).lastStop = some (number % 2 ^ 16)) ∧
  (∀ b arrivals s x xs, arrivals.filter (fun e => (s.activeLanes b).contains e.1) = x :: xs →
    Answers (.dsk b arrivals) s fun t => t.reg .wlBundleSkewNs b 0 = min 255 ((x :: xs).foldl (fun m e =>
      max m (e.2 - (x :: xs).foldl (fun m e => min m e.2) x.2)) 0)) ∧
  (∀ b s, s.activeLanes b ≠ [] →
    Answers (.dskSend b) s fun t => (t.bundle b).dskCount = ((s.bundle b).dskCount + 1) % 2 ^ 16 ∧
      t.out = s.out ++ (s.activeLanes b).map fun l => Out.block l (ctrlBlock 0x4B (toLE 2 (s.bundle b).dskCount ++ zeros 4))) ∧
  (∀ k s x e, s.flag .wlStreamBindValid k 0 = true → s.flag .wlStreamBindOutEn k 0 = true → s.credited k = true →
    (s.stream k).outBuf.head? = some x → s.bestSender (s.reg .wlStreamBindBundles k 0) = some e →
    Answers (.frameTransmit k) s fun t => t.reg .wlStreamOutSseq k 0 = (s.reg .wlStreamOutSseq k 0 + 1) % 2 ^ 32 ∧
      t.unacked e.1 e.2.1 = s.unacked e.1 e.2.1 + 1) ∧
  (∀ k s, s.onPrimary (s.reg .wlStreamBindPrimary k 0) k = true → s.activeLanes (s.reg .wlStreamBindPrimary k 0) ≠ [] →
    Answers (.creditSend k) s fun t => t.reg .wlStreamInLimit k 0 = (s.streamHead k + 512) % 2 ^ 32 ∧
      t.out = s.out ++ (s.activeLanes (s.reg .wlStreamBindPrimary k 0)).map fun l => Out.block l (ctrlBlock 0x87
        (toLE 1 (k + 32 * s.reg .wlStreamInGen k 0) ++ toLE 4 ((s.streamHead k + 512) % 2 ^ 32) ++ zeros 1))) ∧
  (∀ k s t0, (s.stream k).stallSince = some t0 → t0 + 1000 ≤ s.now → (s.stream k).stallSeen = false →
    Answers (.creditStall k) s fun t => (t.stream k).stallSeen = true) ∧
  (∀ p s k, s.partStream p = some k → s.activeLanes (s.reg .wlStreamBindPrimary k 0) ≠ [] →
    s.mode p = Mode.lockstep ∨ s.holdOf p ≠ (s.part p).hold →
    Answers (.statusBlockSend p) s fun t => (t.part p).hold = s.holdOf p ∧
      t.out.length = s.out.length + 2 * (s.activeLanes (s.reg .wlStreamBindPrimary k 0)).length) ∧
  (∀ l s, s.laneOn l = true → s.laneSt l = LaneSt.active → s.reg .wlBundleErrLimit (s.bundleOf l) 0 <
      ((s.lane l).crcTimes.filter (fun t => decide (s.now < t + 1000000000))).length →
    Answers (.crcErrorLimit l) s fun t => (t.lane l).crcTimes = [] ∧
      (s.logical l < 8 → (s.bundle (s.bundleOf l)).spare = none → s.spareFree (s.bundleOf l) = false →
        t.laneSt l = LaneSt.failed)) ∧
  (∀ l b i s, s.spareBundle l = some b → s.laneOn l = true → s.laneSt l = LaneSt.active → b < 8 → i < 8 →
    (s.bundle b).spare = some (i, false) →
    (s.spareMatches b = true →
      Answers (.spare l i (b / 2) false true false false) s fun t => t.reg .wlBundleSpareFor b 0 = i ∧ t.logical (spareOf b) = i ∧
        t.laneSt (8 * b + i) = LaneSt.failed ∧ (t.bundle b).spare = none) ∧
    Answers (.spare l i (b / 2) false false true false) s fun t =>
      t.laneSt (8 * b + i) = LaneSt.failed ∧ (t.bundle b).spare = none) ∧
  (∀ l b i s, s.spareBundle l = some b → s.laneOn l = true → s.laneSt l = LaneSt.active → b < 8 → i < 8 → s.spareMine b = none →
    s.reg .wlBundleSpareFor b 0 ≠ i → s.laneSt (spareOf b) = LaneSt.active → s.logical (spareOf b) = 15 → s.spareMatches b = true →
    Answers (.spare l i (b / 2) true false false false) s fun t => t.reg .wlBundleSpareFor b 0 = i ∧ t.logical (spareOf b) = i ∧
      t.laneSt (8 * b + i) = LaneSt.failed) ∧
  (∀ l b i ret s, s.spareBundle l = some b → (s.bundle b).spare = some (i, ret) →
    Answers (.spareRequestRepeat l) s fun t => t.out = s.out ++
      ((s.activeLanes b).filter (fun x => decide (x ≠ spareOf b)) ++ [spareOf b]).map fun x =>
        Out.block x (ctrlBlock 0xC3 (toLE 1 i ++ toLE 1 (b / 2) ++ toLE 1 (1 + 8 * b2n ret) ++ zeros 3))) ∧
  (∀ b s, s.activeLanes b ≠ [] →
    (s.bankBusy b = false → Answers (.bank b true false) s fun t => t.flag .wlBundleBanked b 0 = true ∧
      ∀ l ∈ s.bankLanes b, s.laneSt l = LaneSt.active → t.laneSt l = LaneSt.banked) ∧
    ((s.bundle b).bankReq = true → Answers (.bank b false true) s fun t => t.flag .wlBundleBanked b 0 = true ∧
      ∀ l ∈ s.bankLanes b, s.laneSt l = LaneSt.active → t.laneSt l = LaneSt.banked)) ∧
  (∀ b s, s.flag .wlBundleBanked b 0 = true →
    Answers (.bankExitSignal b) s fun t => t.flag .wlBundleBanked b 0 = false ∧
      ∀ l ∈ s.bankLanes b, s.laneSt l = LaneSt.banked → t.laneSt l = LaneSt.train) ∧
  (∀ l x s, WlBlock.bad x = true → s.laneOn l = true → LaneSt.blocklock ≤ s.laneSt l → s.laneSt l ≤ LaneSt.active →
    Answers (.blockDiscard l x) s fun t =>
      t.reg .wlLaneErrBlockCount l 0 = min (2 ^ Fld.wlLaneErrBlockCount.width - 1) (s.reg .wlLaneErrBlockCount l 0 + 1)) ∧
  (∀ o l s, s.laneOn l = true → s.isOwnerOrLocal o = true → s.injects l = true →
    (s.reg .wlPrbsInjMode l 0 = 1 → Answers (.injGo o l) s fun t => t.out = s.out ++ [Out.bitFlips l 1]) ∧
    (s.reg .wlPrbsInjMode l 0 = 2 →
      Answers (.injGo o l) s fun t => t.out = s.out ++ [Out.bitFlips l (s.reg .wlPrbsInjBurst l 0)])) ∧
  (∀ l s, s.injects l = true → s.reg .wlPrbsInjMode l 0 = 3 →
    Answers (.continuousErrorInjection l) s fun t => t.out = s.out ++ [Out.bitFlips l 1]) ∧
  (∀ l s, s.laneOn l = true → s.laneSt l = LaneSt.prbs → s.flag .wlPrbsChkEn l 0 = true → s.reg .wlPrbsMode l 0 ≠ 0 →
    Answers (.prbsCheckerLock l) s fun t => t.flag .wlPrbsLock l 0 = true) ∧
  ∀ l s, s.flag .wlPrbsLock l 0 = true →
    Answers (.prbsLockLoss l) s fun t => t.flag .wlPrbsLock l 0 = false ∧
      min (2 ^ Fld.wlPrbsErrCount.width - 1) (s.reg .wlPrbsErrCount l 0 + 64) ≤ t.reg .wlPrbsErrCount l 0

/-- The Waltline commands complete (R330, R347, R349 to R351, R353). A binding sets the stream's fields and starts its credit anew; an
unbinding clears VALID; WL_LANE_CTL retrains a lane, puts it into PRBS and takes it out; WL_BANK asks the partner, or leaves BANKED. -/
def Obligations.LaneCommandsComplete : Prop :=
  (∀ r k p bundles inEn outEn s, s.fresh r = true → s.isOwner r.org = true → s.pExists p = true → k < 32 →
    bit bundles (s.homeAnvil p) = true → bundles < 2 ^ s.grade.anvils → inEn < 2 → outEn < 2 →
    s.mode p = Mode.loading ∨ s.mode p = Mode.ready → s.flag .wlStreamBindValid k 0 = false →
    s.routeClash (bindingLinks bundles (s.homeAnvil p) (decide (inEn = 1)) (decide (outEn = 1))) = false →
    Completes (.wlStreamBind r k p bundles inEn outEn) r s fun t => t.flag .wlStreamBindValid k 0 = true ∧
      t.reg .wlStreamBindPart k 0 = p ∧ t.reg .wlStreamBindBundles k 0 = bundles ∧ t.reg .wlStreamInLimit k 0 = 512 ∧
      t.reg .wlStreamOutLimit k 0 = 0 ∧ t.reg .wlStreamOutSseq k 0 = 0) ∧
  (∀ r k s, s.fresh r = true → s.isOwner r.org = true → k < 32 →
    (s.flag .wlStreamBindValid k 0 = true →
      s.mode (s.reg .wlStreamBindPart k 0) = Mode.loading ∨ s.mode (s.reg .wlStreamBindPart k 0) = Mode.ready) →
    Completes (.wlStreamUnbind r k) r s fun t => t.flag .wlStreamBindValid k 0 = false) ∧
  (∀ r l s, s.fresh r = true → s.isOwnerOrLocal r.org = true → s.laneOn l = true →
    (s.laneSt l ≠ LaneSt.disabled → Completes (.wlLaneCtl r l 0) r s fun t => t.laneSt l = LaneSt.detect) ∧
    (s.laneSt l = LaneSt.disabled ∨ s.laneSt l = LaneSt.active ∨ s.laneSt l = LaneSt.failed → s.laneUsed l = false →
      Completes (.wlLaneCtl r l 1) r s fun t => t.laneSt l = LaneSt.prbs) ∧
    (s.laneSt l = LaneSt.prbs → Completes (.wlLaneCtl r l 2) r s fun t => t.laneSt l = LaneSt.detect) ∧
    (l < 64 → s.logical l < 8 → s.laneSt l = LaneSt.active → s.spareFree (l / 8) = true →
      Answers (.wlLaneCtl r l 3) s fun t => (t.bundle (l / 8)).spare = some (s.logical l, false) ∧ r ∈ (t.bundle (l / 8)).spareWaits) ∧
    (l < 64 → s.laneSt l = LaneSt.active → s.logical l = 15 → s.reg .wlBundleSpareFor (l / 8) 0 = l % 8 →
      (s.bundle (l / 8)).spare = none →
      Answers (.wlLaneCtl r l 4) s fun t => (t.bundle (l / 8)).spare = some (l % 8, true) ∧ r ∈ (t.bundle (l / 8)).spareWaits)) ∧
  ∀ r b s, s.fresh r = true → s.isOwnerOrLocal r.org = true → b < s.grade.anvils →
    Completes (.wlBank r b 0) r s (fun t => t.flag .wlBundleBanked b 0 = false) ∧
    (s.bankBusy b = false → s.activeLanes b ≠ [] →
      Answers (.wlBank r b 1) s fun t => (t.bundle b).bankReq = true ∧ r ∈ (t.bundle b).bankWaits)

/-- The rows of trace complete (R237, R243 to R251). An item that its source emits and that fits joins the source's FIFO; a stall ends or
reaches its limit; a source that dropped packets reports it once it has room; the funnel hands the oldest finished block to its
sink; ENABLE starts and ends a stream; a trigger starts the stop delay, and STOP_NOW or the delay's end stops the stream; a CP sleeps
and wakes; the buffer is reserved and released. -/
def Obligations.TraceRowsComplete : Prop :=
  (∀ x i s type payload la lb, s.srcRuns x = true → s.itemPacket x i = some (type, payload, la, lb) → (s.src x).dropped = 0 →
    (s.src x).sync = none → s.pushLen x type payload ≤ (s.src x).free x →
    Answers (.tracePacketEmit x i) s fun t =>
      (t.src x).fifo = (s.src x).fifo ++ stamped x type (s.time.ticks - (s.src x).lastTick) payload) ∧
  (∀ c s, c ≤ 8 → (s.src c).stalledSince.isSome = true → 2 * (s.src c).used ≤ srcSize c →
    Answers (.traceStallEnd c) s fun t => (t.src c).stalledSince = none ∧
      t.reg .traceStallNs 0 0 = min (2 ^ Fld.traceStallNs.width - 1) (s.reg .traceStallNs 0 0 + s.stalledNs c)) ∧
  (∀ c s, c ≤ 8 → (s.src c).stalledSince.isSome = true → 1000 * s.reg .traceStallLimitUs 0 0 ≤ s.stalledNs c →
    Answers (.traceStallLimit c) s fun t => (t.src c).stalledSince = none ∧ (t.src c).limited = true ∧
      t.flag .traceStatusStallLimit 0 0 = true ∧
      t.reg .traceStallNs 0 0 = min (2 ^ Fld.traceStallNs.width - 1) (s.reg .traceStallNs 0 0 + 1000 * s.reg .traceStallLimitUs 0 0)) ∧
  (∀ x s, s.srcRuns x = true → 0 < (s.src x).dropped → 64 ≤ (s.src x).free x →
    Answers (.traceOverflowRecovery x) s fun t => (t.src x).dropped = 0 ∧ t.flag .traceStatusOverflow 0 0 = true) ∧
  (∀ s b rest, s.trace.closing = false → s.trace.out = b :: rest → s.trace.sinkKind = 1 → s.qEnabled s.trace.sinkQueue = true →
    s.qFill s.trace.sinkQueue + (s.queue s.trace.sinkQueue).hold.length < s.qSize s.trace.sinkQueue →
    Answers .funnelBlockWrite s fun t => ∃ more, t.trace.out = rest ++ more) ∧
  (∀ o s, s.sys.off = false → s.isOwnerOrLocal o = true → s.flag .traceCtlEnable 0 0 = false → s.sinkInvalid = false →
    Answers (.traceEnable o) s fun t => t.flag .traceCtlEnable 0 0 = true ∧ t.traceState = 1) ∧
  (∀ o s, s.sys.off = false → s.isOwnerOrLocal o = true → s.flag .traceCtlEnable 0 0 = true →
    Answers (.traceDisable o) s fun t => t.flag .traceCtlEnable 0 0 = false ∧
      (s.sourcesEmpty = true → s.trace.block = [] → s.trace.out = [] → t.traceState = 0)) ∧
  (∀ kind k s, s.trace.signals.contains (kind, k) = true → s.trace.closing = false → s.traceState = 1 →
    Answers (.traceTrigger kind k) s fun t => t.traceState = 2 ∧
      t.reg .traceStopLeft 0 0 = s.reg .traceStopDelay 0 0 % 2 ^ Fld.traceStopLeft.width) ∧
  (∀ o s, s.sys.off = false → s.isOwnerOrLocal o = true → s.trace.closing = false → s.traceState = 1 →
    Answers (.stopNow o) s fun t => t.traceState = 3) ∧
  (∀ s, s.trace.closing = false → s.traceState = 2 → s.reg .traceStopLeft 0 0 = 0 →
    Answers .stopDelayReached s fun t => t.traceState = 3) ∧
  (∀ c level icount target s, s.sys.off = false → c ≤ 8 → 1 ≤ level → level ≤ 3 → (s.src c).asleep = false → (s.src c).stalledSince = none →
    ((s.traceItem c (.branch icount target)).src c).stalledSince = none →
    Answers (.cpSleep c level icount target) s fun t => (t.src c).asleep = true) ∧
  (∀ c addr s, s.sys.off = false → c ≤ 8 → (s.src c).asleep = true →
    Answers (.cpWake c addr) s fun t => (t.src c).asleep = false) ∧
  (∀ r a sizeLog2 s b, s.fresh r = true → s.isOwnerOrLocal r.org = true → a < s.grade.anvils → 16 ≤ sizeLog2 → sizeLog2 ≤ 30 →
    s.traceBusyNow = false → lowestFree (s.traceBufFree.traceBusy a) (2 ^ sizeLog2) = some b →
    Completes (.traceBufAlloc r a sizeLog2) r s fun t => t.flag .traceBufValid 0 0 = true ∧ t.reg .traceBufSizeLog2 0 0 = sizeLog2 ∧
      t.reg .traceBufRd 0 0 = 0 ∧ t.reg .traceBufWr 0 0 = 0) ∧
  ∀ r s, s.fresh r = true → s.isOwnerOrLocal r.org = true → s.traceBusyNow = false →
    Completes (.traceBufFree r) r s fun t => t.flag .traceBufValid 0 0 = false

/-- The rows of the packet network complete (R278, R282 to R291). A source sends a READ, WRITE or MESSAGE, which takes its place in
the buffer of its router, a READ or WRITE with a tag; an output passes the packet on that it serves next, to the next router or to
the endpoint, which queues a message, answers a register read, or reads usable DRAM; a completion is sent, and at the requester it
gives the status and the data and frees the tag; a timeout makes a tag unusable until its release; flit errors are counted until the
channel goes down; a change of routes goes through its four phases, or waits for STABLE; a fence drains, closes, or times out; an
anvil's endpoints drain and its domain switches off. -/
def Obligations.NetworkRowsComplete : Prop :=
  (∀ q s, s.sys.off = false → q.type = 4 → s.sourceOn q.src q.dst = true → s.noc.held = [] →
    (s.packetOf q 0).src = q.src → s.entersAt (s.packetOf q 0) →
    Answers (.nocRequest (.send q)) s fun t =>
      t.buffered (q.src / 32) (endpointRouter (q.src % 32)) 4 (s.packetOf q 0).vc =
        s.buffered (q.src / 32) (endpointRouter (q.src % 32)) 4 (s.packetOf q 0).vc ++ [s.packetOf q 0] ∧ t.noc.held = []) ∧
  (∀ q s tag, s.sys.off = false → q.type = 1 ∨ q.type = 2 → s.sourceOn q.src q.dst = true → s.noc.held = [] →
    s.sourceHolds q = false → s.freeTag q = some tag → (s.packetOf q tag).src = q.src → s.entersAt (s.packetOf q tag) →
    Answers (.nocRequest (.send q)) s fun t =>
      t.buffered (q.src / 32) (endpointRouter (q.src % 32)) 4 (s.packetOf q tag).vc =
        s.buffered (q.src / 32) (endpointRouter (q.src % 32)) 4 (s.packetOf q tag).vc ++ [s.packetOf q tag] ∧
      ∃ x, t.nocTag (q.src / 32) tag = some x ∧ x.src = q.src ∧ x.dst = q.dst ∧ x.dead = false) ∧
  (∀ a r out inp since k s, s.sys.off = false → s.nextPacket a r out inp 0 since k → out < 4 → k.vc = 0 → s.noc.held = [] →
    s.routes a (hopTo out r) k →
    Answers (.nocRequest (.pass a r out ⟨[], []⟩)) s fun t =>
      t.buffered a r inp 0 = (s.buffered a r inp 0).drop 1 ∧
      t.buffered a (hopTo out r) (oppositePort out) 0 = s.buffered a (hopTo out r) (oppositePort out) 0 ++ [k]) ∧
  (∀ a r inp since k s, s.sys.off = false → s.nextPacket a r 4 inp 0 since k → k.type = 4 →
    Answers (.nocRequest (.pass a r 4 ⟨[], []⟩)) s fun t => t.noc.messages = s.noc.messages ++ [k]) ∧
  (∀ a r inp since k s, s.sys.off = false → s.nextPacket a r 4 inp 0 since k → k.type = 1 → k.dst ≠ 0xFF → k.dst % 32 = 0x11 →
    Tab.get false s.noc.closed [k.dst / 32] = false → 0 < k.len → k.len ≤ 64 → k.addr + k.len ≤ Config.dramUsable →
    s.noc.held = [] → s.idFree = true →
    Answers (.nocRequest (.pass a r 4 ⟨[], []⟩)) s fun t =>
      t.accessingFor (.noc k.src k.dst k.tag) (k.dst / 32) k.len (piecesOf 0 k.addr k.len none) = true) ∧
  (∀ a r inp since k s, s.sys.off = false → s.nextPacket a r 4 inp 0 since k → k.type = 1 → k.dst ≠ 0xFF → k.dst % 32 = 0x12 →
    k.dst / 32 < 8 → Tab.get false s.noc.closed [k.dst / 32] = false → s.anvilOn (k.dst / 32) = true → k.len = 4 →
    k.addr = Fld.addr .nocTagFullCount (k.dst / 32) 0 → s.noc.held = [] →
    Answers (.nocRequest (.pass a r 4 ⟨[], []⟩)) s fun t =>
      t.noc.replies = s.noc.replies ++ [⟨k.dst, k.src, k.tag, 0, toLE 4 (s.reg .nocTagFullCount (k.dst / 32) 0), none⟩] ∧
      t.reg .nocTagFullCount (k.dst / 32) 0 = 0) ∧
  (∀ q s x, s.sys.off = false → s.noc.replies.find? (fun y => decide (y.src = q.src ∧ y.dst = q.dst ∧ y.tag = q.tag)) = some x →
    x.place = none → s.sourceOn x.src x.dst = true → (s.replyPacket x).src = x.src → s.entersAt (s.replyPacket x) →
    Answers (.nocCompletion (.send q)) s fun t => t.noc.replies = s.noc.replies.erase x ∧
      (s.noc.held = [] → t.buffered (x.src / 32) (endpointRouter (x.src % 32)) 4 (s.replyPacket x).vc =
        s.buffered (x.src / 32) (endpointRouter (x.src % 32)) 4 (s.replyPacket x).vc ++ [s.replyPacket x])) ∧
  (∀ a r inp since k s x, s.sys.off = false → s.nextPacket a r 4 inp 1 since k → k.type = 3 →
    s.nocTag (tagOwner k.dst) k.tag = some x → x.dead = false → x.src = k.dst → x.dst = k.src → s.noc.held = [] →
    Answers (.nocCompletion (.pass a r 4 ⟨[], []⟩)) s fun t => t.nocTag (tagOwner k.dst) k.tag = none ∧
      t.noc.results = s.noc.results ++
        [⟨k.dst, k.tag, (if k.poison then Status.uncorrectable else cplStatus k.cpl).num, k.data.take x.len⟩]) ∧
  (∀ a tag s x, s.nocTag a tag = some x → x.dead = false →
    Answers (.nocCplTimeout a tag) s fun t => t.nocTag a tag = some { x with dead := true } ∧
      t.noc.results = s.noc.results ++ [⟨x.src, tag, Status.nocTimeout.num, []⟩] ∧
      (a < 8 → t.flag .nocErrStatusTimeout a 0 = true) ∧ (a = 255 → tag < 512 → t.flag .hostErrStatusTimeout (tag / 128) 0 = true)) ∧
  (∀ a tag s x, s.nocTag a tag = some x → x.dead = true → s.noc.held = [] →
    Answers (.tagRelease a tag) s fun t => t.nocTag a tag = none) ∧
  (∀ a l s, s.linkUp a l = true →
    Answers (.linkFlitReplay a l) s fun t =>
      if Tab.get 0 s.noc.replays [a, l] < 4 then Tab.get 0 t.noc.replays [a, l] = Tab.get 0 s.noc.replays [a, l] + 1
      else t.linkUp a l = false) ∧
  (∀ r table s, s.noc.phase = 0 → s.noc.queued = [] → s.anvilsOn ≠ [] →
    tableAccepted ((s.writeShadow table).routeEntry (s.epoch + 1)) (s.writeShadow table).anvilsOn = true →
    Answers (.routeChangeStart r table) s fun t => t.noc.phase = 1 ∧
      ∀ a n d, a < s.grade.anvils → t.routeEntry s.epoch a n d = s.routeEntry s.epoch a n d) ∧
  (∀ r table s, s.noc.phase ≠ 0 → (s.busyOf r).isSome = true →
    Answers (.routeChangeStart (some r) table) s fun t => t.noc.queued = s.noc.queued ++ [(some r, table)] ∧
      r ∈ t.noc.waiting ∧ t.noc.phase = s.noc.phase) ∧
  (∀ s, s.noc.phase = 1 →
    Answers .shadowValid s fun t => t.noc.phase = 2 ∧ ∀ a ∈ s.anvilsOn, t.flag .nocEpochShadowValid a 0 = true) ∧
  (∀ s, s.noc.phase = 2 →
    Answers .epochSwitch s fun t => t.noc.phase = 3 ∧
      ∀ a ∈ s.anvilsOn, t.reg .nocEpochCurrent a 0 = (s.epoch + 1) % 2 ∧ t.flag .nocEpochRetiring a 0 = true) ∧
  (∀ s, s.noc.phase = 3 → s.epochUsed ((s.epoch + 1) % 2) = false →
    Answers .epochRetired s fun t => (s.noc.queued = [] → s.anvilsOn.all (fun a => !Tab.get false s.noc.closed [a]) = true →
        t.noc.phase = 0) ∧
      ∀ a ∈ s.anvilsOn, t.flag .nocEpochRetiring a 0 = false ∧ t.flag .nocEpochShadowValid a 0 = false) ∧
  (∀ s, s.noc.phase = 3 → s.noc.late = false →
    Answers .epochFenceTimeout s fun t => t.noc.late = true ∧ ∀ a ∈ s.anvilsOn, t.flag .nocErrStatusEpochTimeout a 0 = true) ∧
  (∀ r s b, s.noc.waiting.contains r = true → s.busyOf r = some b → b.ans = none →
    Answers (.nocEpochBusy r) s fun t => t.statusOf r = some .nocEpochBusy) ∧
  (∀ r s, r < s.grade.regions → s.regionOn r = true → s.fenced r = false →
    Answers (.fenceRequest r) s fun t => t.draining r = true) ∧
  (∀ r s, s.draining r = true → s.noc.tags.any (fun e => e.2.any fun x => !x.dead && decide (x.region = some r)) = false →
    s.anyPacket (fun k => decide (k.region = some r)) = false →
    Answers (.regionFenced r) s fun t => t.fenced r = true ∧ t.draining r = false) ∧
  (∀ r s, s.draining r = true → Tab.get false s.noc.drainLate [r] = false →
    Answers (.nocDrainTimeout r) s fun t => Tab.get false t.noc.drainLate [r] = true ∧
      t.flag .nocErrStatusDrainTimeout (r / 8) 0 = true) ∧
  ∀ a s, s.modMode = Mod.sleeping → s.anvilOn a = true → s.noc.phase = 0 → s.routedAround a = true →
    (∀ g, g < 8 → s.fenced (8 * a + g) = true ∧ s.regionOn (8 * a + g) = false) →
    Answers (.anvilDomainOff a) s fun t =>
      if s.endpointsDrained a then t.anvilOn a = false else t.anvilOn a = true ∧ Tab.get false t.noc.closed [a] = true

/-- The rows of the host interface complete (R10, R298, R300, R303 to R307, R323, R443). GO posts the record of an IDLE mailbox and ACK
returns a DONE one to IDLE; a management session opens, takes messages and closes; the UART takes a frame; a command that can start
is started, and one that has its answer is answered in its mailbox; a failed DMA read disables its queue or ends its command; a port
resets and comes up. A read of a word clears its RC fields and latches the HI word of a pair, and the
value leaves the module; an access of 8 bytes acts on two words. -/
def Obligations.HostInterfaceCompletes : Prop :=
  (∀ n m record s, s.mboxHere n m = true → s.mbState n m = 0 →
    Answers (.mboxGo n m record) s fun t => t.mbState n m = 1 ∧
      t.host.posted = s.host.posted ++ [⟨⟨.host n, m, le record 4 4⟩, record, s.hostIdOf (.host n)⟩]) ∧
  (∀ n m s, s.mboxHere n m = true → s.mbState n m = 3 → Answers (.mboxAck n m) s fun t => t.mbState n m = 0) ∧
  (∀ f s k, s.sys.off = false → s.enrolled f = true → (List.range 4).find? (fun k => (s.session k).isNone) = some k →
    Answers (.mgmtSessionOpen f) s fun t => t.session k = some ⟨f, 0⟩) ∧
  (∀ k s x, s.session k = some x →
    Answers (.mgmtSessionClose k) s fun t => t.session k = none ∧ ∀ r ∈ s.outstanding (.mgmt k), r ∈ t.host.orphans) ∧
  (∀ k record s x, s.sys.off = false → s.session k = some x → x.outstanding < 16 →
    Answers (.mgmtMessage k record) s fun t => t.session k = some { x with outstanding := x.outstanding + 1 } ∧
      t.host.posted = s.host.posted ++ [⟨⟨.mgmt k, s.freeSlot (.mgmt k), le record 4 4⟩, record, slice x.fingerprint 0 16⟩]) ∧
  (∀ record s, s.sys.off = false → s.flag .spCfgStrap 0 0 = true → s.host.uartBusy = false →
    Answers (.uartFrame record (crc32 (toLE 2 record.length ++ record))) s fun t => t.host.uartBusy = true ∧
      t.host.posted = s.host.posted ++ [⟨⟨.uart, s.freeSlot .uart, le record 4 4⟩, record, zeros 16⟩]) ∧
  (∀ s x, s.nextPosted = some x →
    Answers .commandStart s fun t => t = State.settle x.ref ((s.unpost x).startRecord x.ref x.record x.hostId) ∧
      ∀ n m, x.ref.org = .host n → m = x.ref.slot → n < 4 → m < 16 → s.busyOf x.ref = none → s.sys.recovery = false →
        s.formOf x.ref (headOf x.record).code (paramsOf x.record) = none → le (s.box n m).req 4 4 = x.ref.seq →
        s.host.orphans.contains x.ref = false → t.mbState n m = 3 ∧
          (t.box n m).resp = responseBytes (headOf x.record).code x.ref.seq ⟨.cmdUnknown, 0, []⟩) ∧
  (∀ r s b a, s.sys.off = false → s.busyOf r = some b → b.ans = some a →
    Answers (.commandCompletion r) s fun t => t.busyOf r = none ∧
      ∀ n m, r.org = .host n → m = r.slot → n < 4 → m < 16 → s.mbState n m = 2 → le (s.box n m).req 4 4 = r.seq →
        s.host.orphans.contains r = false → t.mbState n m = 3 ∧ (t.box n m).resp = responseBytes b.code r.seq a) ∧
  (∀ q r ecrc s, s.sys.off = false → s.qIn q = true → s.qEnabled q = true →
    Answers (.hostDmaFailure (some q) r ecrc) s fun t => t.qEnabled q = false ∧ t.flag .queueStatusDmaErr q 0 = true ∧
      ∀ n, s.qPort q = some n → t.flag .hostErrStatusDma n 0 = true ∧ (ecrc = true → t.flag .hostErrStatusEcrc n 0 = true)) ∧
  (∀ r ecrc s b, s.sys.off = false → s.busyOf r = some b → b.ans = none →
    (∀ p l, s.pExists p = true → (s.part p).load = some l → l.ref ≠ r) →
    Answers (.hostDmaFailure none r ecrc) s fun t => t.statusOf r = some .hostDma) ∧
  (∀ n cause s, s.sys.off = false → s.portPresent n = true →
    Answers (.hostPortReset n cause) s fun t => (∀ x ∈ t.host.posted, x.ref.org ≠ .host n) ∧
      (if cause = .linkDown then t.flag .hostErrStatusLinkDown n 0 = true ∧ t.reg .hostLinkUp n 0 = 0
        else t.flag .hostErrStatusFlr n 0 = true)) ∧
  (∀ n width speed s, s.sys.off = false → s.portPresent n = true →
    Answers (.hostLinkUp n width speed) s fun t => t.reg .hostLinkUp n 0 = 1 ∧ t.reg .hostLinkWidth n 0 = width % 2 ^ 5 ∧
      t.reg .hostLinkSpeed n 0 = speed % 2 ^ 4) ∧
  (∀ o addr s w, s.sys.off = false → addr % 4 = 0 → addr < bar2Base → decodeAddr addr = some w → s.present w = true →
    Answers (.rcFieldRead o addr 4) s fun t => (∀ e ∈ w.fields, e.1.acc = .rc → t.reg e.1.fld e.2.1 e.2.2 = 0) ∧
      ∀ e, w.fields = [e] → e.1.acc = .rc → s.fieldAbsent e.1 e.2.1 e.2.2 = false →
        (e.1.fld = .wlPrbsErrCount → s.flag .wlPrbsLock e.2.1 0 = false) →
        t.out = s.out ++ [.readData o addr (s.view e.1.fld e.2.1 e.2.2 * 2 ^ e.1.lo)]) ∧
  (∀ o addr s w w', s.sys.off = false → addr % 8 = 0 → addr < bar2Base → decodeAddr addr = some w → s.present w = true →
    decodeAddr (addr + 4) = some w' → s.present w' = true →
    Answers (.rcFieldRead o addr 8) s fun t => ∀ e ∈ w.fields ++ w'.fields, e.1.acc = .rc → t.reg e.1.fld e.2.1 e.2.2 = 0) ∧
  (∀ o addr s w e hi, s.sys.off = false → addr % 4 = 0 → addr < bar2Base → decodeAddr addr = some w → s.present w = true →
    w.fields = [e] → (e.1.fld, hi) ∈ latchPairs →
    Answers (.loWordRead o addr 4) s fun t =>
      Tab.get none t.latches (latchKey o (hi.addr e.2.1 e.2.2)) = some (t.view hi e.2.1 e.2.2)) ∧
  (∀ o p s, s.sys.off = false → p < 32 → s.pExists p = true →
    Answers (.loWordRead o (Fld.addr .partSchedCycleLo p 0) 8) s fun t =>
      t.out = s.out ++ [.readData o (Fld.addr .partSchedCycleLo p 0)
        (s.view .partSchedCycleLo p 0 + 2 ^ 32 * s.view .partSchedCycleHi p 0)]) ∧
  (∀ o v s, s.sys.off = false → s.isOwnerOrLocal o = true →
    Answers (.registerWrite o (Fld.addr .traceStopDelay 0 0) 4 v) s fun t => t.reg .traceStopDelay 0 0 = v.toNat % 2 ^ 32) ∧
  (∀ o v s, s.sys.off = false → s.isOwnerOrLocal o = true →
    Answers (.registerWrite o (Fld.addr .traceSrcEnLo 0 0) 8 v) s fun t => t.reg .traceSrcEnLo 0 0 = v.toNat % 2 ^ 32 ∧
      t.reg .traceSrcEnHi 0 0 = v.toNat / 2 ^ 32 % 2 ^ 18) ∧
  ∀ n m v s, s.sys.off = false → s.mboxHere n m = true → s.mbState n m = 0 → v.toNat % 4 = 1 →
    Answers (.registerWrite (.host n) (bar2Base + 0x1000 * m + 0xFF0) 4 v) s fun t => t.mbState n m = 1

/-- The rows of the queues and of the host interface's own commands complete (R311, R313, R314, R318, R319, R321, R322, R324, R325,
R327). A doorbell that R314 accepts sets the host's index; ENABLE and the soft flags are written; a dispatch is counted; an
interrupt signals its entries; QUEUE_ASSIGN and QUEUE_SETUP write the queue's fields; AUDIT_READ brings the entries to the host's
memory; register words are read and written as if over BAR0. -/
def Obligations.QueueAndRecordRowsComplete : Prop :=
  (∀ o q i s, s.sys.off = false → q < 4096 → (s.qPort q).isSome = true → s.mayQueue o q = true → s.qEnabled q = true →
    s.indexValid q (i % 2 ^ 32) = true →
    Answers (.queueDoorbell o q i) s fun t => t.reg (if s.qIn q then Fld.queuePidx else .queueCidx) q 0 = i % 2 ^ 32) ∧
  (∀ o q s, s.sys.off = false → q < 4096 → (s.qPort q).isSome = true → s.mayQueue o q = true →
    Answers (.queueEnable o q 0) s (fun t => t.qEnabled q = false) ∧
    (s.qEnabled q = false → s.reg .queueCfgType q 0 ≠ 0 →
      (s.reg .queueCfgType q 0 = QT.stimulus → s.queuesOf (s.qScope q) QT.stimulus = []) →
      Answers (.queueEnable o q 1) s fun t => t.qEnabled q = true)) ∧
  (∀ o q flags s, s.sys.off = false → q < 4096 → (s.qPort q).isSome = true → s.mayQueue o q = true → flags < 2 ^ 16 →
    s.reg .taskFlagsSoft q 0 < 2 ^ 16 →
    Answers (.taskSoftFlagSet o q flags) s fun t =>
      t.reg .taskFlagsSoft q 0 = Nat.lor (s.reg .taskFlagsSoft q 0) flags) ∧
  (∀ engine entries s q, s.sys.off = false → s.rescanAll.nextTask engine = some q →
    Answers (.taskDispatch engine entries) s fun t =>
      t.reg .taskDispatchCount q 0 = min (2 ^ Fld.taskDispatchCount.width - 1) (s.reg .taskDispatchCount q 0 + 1)) ∧
  (∀ q s n, s.sys.off = false → s.flag .queueIntEn q 0 = true → 0 < (s.queue q).unsignalled → s.qPort q = some n →
    Answers (.interruptCoalesceTimeout q) s fun t => (t.queue q).unsignalled = 0 ∧
      t.out = s.out ++ [Out.msix n (s.reg .queueIntVector q 0)]) ∧
  (∀ r ident s n, s.fresh r = true → r.org = .host n →
    Completes (.hostIdentify r ident) r s fun t => ∀ j, j < 4 → t.reg .hostId n j = le ident (4 * j) 4) ∧
  (∀ r q part port s, s.fresh r = true → s.isOwner r.org = true → q < 4096 →
    (part = 0xFF ∧ s.portPresent port = true) ∨ s.pExists part = true → s.qEnabled q = false →
    Completes (.queueAssign r q part port) r s fun t => t.qScope q = part ∧ t.reg .queueCfgType q 0 = 0) ∧
  (∀ r q type sizeLog2 entryLog2 base wb pair s, s.fresh r = true → q < 4096 → pair < 4096 → (s.qPort q).isSome = true →
    s.mayQueue r.org q = true → s.typeOk q type = true → 4 ≤ sizeLog2 → sizeLog2 ≤ 16 → entryOk type entryLog2 = true →
    base % 64 = 0 → base % 2 ^ entryLog2 = 0 → wb % 8 = 0 → s.qEnabled q = false →
    (type = QT.command → s.pairOk q pair entryLog2 = true) →
    (type = QT.capture → 8 + s.reg .partAcqRecBytes (s.qScope q) 0 ≤ 2 ^ entryLog2) →
    Completes (.queueSetup r q type sizeLog2 entryLog2 base wb pair) r s fun t => t.reg .queueCfgType q 0 = type ∧
      t.qSize q = 2 ^ sizeLog2 ∧ t.reg .queueCfgEntryLog2 q 0 = entryLog2 ∧
      t.reg64 .queueBaseLo .queueBaseHi q 0 = base % 2 ^ 64 ∧ t.reg .queuePidx q 0 = 0 ∧ t.reg .queueCidx q 0 = 0) ∧
  (∀ r first count addr s n, s.fresh r = true → r.org = .host n → 1 ≤ count → count ≤ 4096 →
    Completes (.auditRead r first count addr) r s fun t => t.hostHas n addr
      (((s.auditHeld.filter fun e => decide (first ≤ e.seq) && s.auditVisible r.org e).take count).flatMap AuditEntry.bytes)) ∧
  (∀ r slot fingerprint s, s.fresh r = true → s.role r.org = Role.local_ → slot < 2 →
    Completes (.ownerCertSet r slot fingerprint false) r s fun t =>
      Tab.get [] t.host.certs [slot] = (if fingerprint = zeros 48 then [] else fingerprint)) ∧
  (∀ r slot fingerprint s, s.fresh r = true → s.role r.org = Role.local_ → slot < 2 →
    Answers (.ownerCertSet r slot fingerprint true) s fun t => t.statusOf r = some .flashError ∧ t.host.certs = s.host.certs) ∧
  (∀ r port grant s, s.fresh r = true → s.isOwnerOrLocal r.org = true → s.portPresent port = true → grant < 2 →
    ¬(r.org = .host port ∧ grant = 0) →
    Completes (.roleGrant r port grant false) r s (fun t => t.reg .hostRoleGrant port 0 = grant) ∧
    Answers (.roleGrant r port grant true) s fun t => t.statusOf r = some .flashError ∧
      t.reg .hostRoleGrant port 0 = s.reg .hostRoleGrant port 0) ∧
  (∀ s, s.sys.off = false → Answers .auditPersist s fun t => t.host.persisted = s.host.logSeq) ∧
  (∀ r addr count s, s.fresh r = true → addr % 4 = 0 → 1 ≤ count → count ≤ 256 →
    Completes (.regRead r addr count) r s fun t => ((t.busyOf r).bind Busy.ans).map Answer.results =
      some (((s.begin r 0x0B06 (formParams 0 [(.int 4, addr), (.int 2, count)]) 0xFFFF none (s.hostIdOf r.org)).readWords r.org addr count).1.flatMap
        (toLE 4))) ∧
  ∀ r addr count words s, s.fresh r = true → addr % 4 = 0 → words.length = count → 1 ≤ count → count ≤ 252 →
    Completes (.regWrite r addr count words) r s fun t => ∀ f i j, t.reg f i j =
      ((s.begin r 0x0B07 (regWriteParams addr count words) 0xFFFF none (s.hostIdOf r.org)).writeWords r.org addr words).reg f i j

/-- The rows of power and cooling complete (R27, R161, R388 to R404). A write of CLKSET is clamped and takes effect; a sample sets
TOTAL_W and starts no burst within the limit; a burst ends; the ceilings step down by 25 MHz and not below 800; a clock change
starts and is released; inlets come and go, with the interruption when the last one leaves; low line, the dropout freeze and
the shutdown; a rail fault switches its region off; a thermal trip, coolant and the auxiliary output set their bits. -/
def Obligations.PowerRowsComplete : Prop :=
  (∀ o v s, s.sys.off = false → s.isOwnerOrLocal o = true → s.partitions.any s.executing = false ∨ s.modQuiet = true → v < 2 ^ 16 →
    Answers (.clksetWrite o v) s fun t =>
      t.reg .modClksetStepMhzMax 0 0 = if 1800 < v then 1800 else if v < 800 then 800 else v / 25 * 25) ∧
  (∀ totalW partW s, s.sys.off = false →
    Answers (.inputPowerSample totalW partW) s fun t => t.reg .pwrInTotalW 0 0 = min 0xFFFF totalW ∧
      (totalW ≤ s.limitW → t.pwr.burst = s.pwr.burst)) ∧
  (∀ s, Answers .dutyBurstEnd s fun t => t.pwr.burst = []) ∧
  (∀ anvil tj cool s, s.sys.off = false →
    Answers (.thermalCeilingUpdate anvil tj cool) s fun t => t.reg .pwrTjMaxC 0 0 = min 255 tj ∧
      (s.sys.stewardDown = false → (s.reg .pwrCfgTjTargetC 0 0 < tj → t.pwr.thermal = max 800 (s.pwr.thermal - 25)) ∧
        (cool = true → tj + 5 ≤ s.reg .pwrCfgTjTargetC 0 0 → t.pwr.thermal = min 1800 (s.pwr.thermal + 25)))) ∧
  (∀ meanW idle s, s.sys.off = false → s.sys.stewardDown = false → 100000 < s.reg .pwrDutyPpm 0 0 →
    Answers (.powerCeilingUpdate meanW idle) s fun t => t.pwr.powerCeil = max 800 (s.pwr.powerCeil - 25)) ∧
  (∀ s, s.sys.off = false → s.sys.activating = none → s.pwr.change = none →
    (∀ x, s.pwr.lastRelease = some x → x + 100000 ≤ s.now) → s.ceiling.1 ≠ s.reg .modClkStepMhz 0 0 →
    Answers .clockChange s fun t => t.pwr.change = some ⟨s.ceiling.1, s.ceiling.2⟩) ∧
  (∀ s c, s.pwr.change = some c →
    Answers .clockChangeRelease s fun t => t.reg .modClkStepMhz 0 0 = c.target % 2 ^ 16 ∧ t.pwr.change = none) ∧
  (∀ i volts s, i < 2 → inRange volts = true → s.feed i = false → s.sys.off = false →
    Answers (.inletEntersService i volts) s fun t => t.feed i = true ∧ t.pwr.interruption = none) ∧
  (∀ i volts s, i < 2 → inRange volts = false → s.feed i = true →
    Answers (.inletLeavesService i volts) s fun t => t.feed i = false ∧
      (s.sys.off = false → s.feed (1 - i) = false → t.pwr.interruption = some s.now)) ∧
  (∀ s, s.feed 0 = true → s.feed 1 = true → s.sys.off = false →
    Answers .shareFault s fun t => t.flag .pwrStatusShare 0 0 = true) ∧
  (∀ s, s.sys.off = false → s.flag .pwrStatusLowLine 0 0 = false → s.feed 0 = true ∨ s.feed 1 = true →
    Answers .lowLineEntry s fun t => t.flag .pwrStatusLowLine 0 0 = true ∧
      t.pwr.powerCeil = min s.pwr.powerCeil (s.reg .pwrCfgLowMhz 0 0)) ∧
  (∀ s, s.sys.off = false → s.flag .pwrStatusLowLine 0 0 = true → s.feed 0 = true ∨ s.feed 1 = true →
    Answers .highLineReturn s fun t => t.flag .pwrStatusLowLine 0 0 = false ∧
      t.pwr.powerCeil = s.pwr.beforeLow.getD s.pwr.powerCeil) ∧
  (∀ s x, s.pwr.interruption = some x → x + 15000000 ≤ s.now → s.pwr.dropoutHeld = false →
    Answers .dropoutFreeze s fun t => t.flag .pwrStatusDropout 0 0 = true ∧ t.pwr.dropoutHeld = true) ∧
  (∀ s x, s.pwr.interruption = some x → x + 50000000 ≤ s.now → s.sys.off = false →
    Answers .powerLossShutdown s fun t => t.sys.off = true ∧
      t.reg .modStateLastReset 0 0 = if s.sys.moduleFault then 3 else 2) ∧
  (∀ rail kind s, s.sys.off = false → rail < s.grade.regions → 1 ≤ kind → kind ≤ 6 → s.reg .modRgnOnLo 0 0 < 2 ^ 32 →
    Answers (.railFault rail kind) s fun t => t.regionOn rail = false ∧ t.flag .pwrRailFirstValid 0 0 = true) ∧
  (∀ a s, s.sys.off = false → a < s.grade.anvils →
    Answers (.thermalTrip (some a)) s fun t => t.flag .pwrStatusTrip 0 0 = true ∧ t.anvilOn a = false) ∧
  (∀ inDc outDc flowCl s, s.sys.off = false →
    Answers (.coolantSample inDc outDc flowCl) s fun t => t.reg .pwrCoolInDc 0 0 = min 1023 inDc ∧
      t.reg .pwrCoolOutDc 0 0 = min 1023 outDc ∧ t.reg .pwrCoolFlowCl 0 0 = min 4095 flowCl ∧
      t.flag .pwrStatusCoolTemp 0 0 = decide (inDc < 150 ∨ 450 < inDc) ∧ t.flag .pwrStatusCoolFlow 0 0 = decide (flowCl < 200)) ∧
  (∀ s, s.auxOn = true → Answers .auxCurrentLimit s fun t => t.flag .pwrStatusAuxFault 0 0 = true ∧ t.auxOn = false) ∧
  ∀ o en s, s.sys.off = false → s.isOwnerOrLocal o = true →
    Answers (.auxEnable o en) s fun t => t.reg .pwrAuxEn 0 0 = en % 2 ∧ (en % 2 = 0 → t.pwr.auxLatched = false)

/-- The rows of start-up, settings and firmware complete (R406 to R418). The boot ROM starts the steward from a valid slot, or goes
into recovery; BOOT, WAKING and SLEEPING end in the state that R406 names; MOD_POWER starts the way there; MOD_RESET powers the
module up anew, or restarts the management domain; the settings are saved, erased and read; a slot is staged, activated,
confirmed, or given up. Where the flash fails, the command completes with FLASH_ERROR. -/
def Obligations.StartUpRowsComplete : Prop :=
  (∀ s, s.booting = true →
    Answers .firmwareBoot s fun t => if s.bootSlot.isSome = true then t.sys.steward = true else t.sys.recovery = true) ∧
  (∀ s, s.booting = true →
    Answers .stewardBootTimeout s fun t => if s.bootSlot.isSome = true then t.sys.steward = true ∧ t.steward = 1 else t.sys.recovery = true) ∧
  (∀ s, s.sys.off = false → s.modMode = Mod.boot → s.sys.steward = true →
    Answers .bootComplete s fun t =>
      t.modMode = if s.flag .modBootAutoWake 0 0 && !s.sys.factoryBad then Mod.waking else Mod.standby) ∧
  (∀ s, s.modMode = Mod.waking →
    Answers .wakingComplete s fun t => t.modMode = Mod.service ∧
      ∀ a, a < s.grade.anvils → Tab.get false s.pwr.failed [1, a] = false → t.anvilOn a = true) ∧
  (∀ s, s.modMode = Mod.sleeping → s.anvilsOn = [] → Answers .sleepingComplete s fun t => t.modMode = Mod.standby) ∧
  (∀ r s, s.fresh r = true → s.isOwnerOrLocal r.org = true → s.sys.factoryBad = false →
    (s.modMode = Mod.service → s.partitions = [] → s.traceBusyNow = false →
      Answers (.modPower r 1) s fun t => t.modMode = Mod.sleeping ∧ r ∈ t.sys.sleeping) ∧
    (s.modMode = Mod.standby → Answers (.modPower r 0) s fun t => t.modMode = Mod.waking ∧ r ∈ t.sys.waking) ∧
    (s.modMode = Mod.service → Completes (.modPower r 0) r s fun t => t.modMode = Mod.service)) ∧
  (∀ r force s, s.fresh r = true → s.isOwnerOrLocal r.org = true → force < 2 → s.partitions = [] ∨ force = 1 →
    Answers (.modReset r 0 force) s (fun t => t.modMode = Mod.boot ∧ t.reg .modStateLastReset 0 0 = 1 ∧ t.partitions = []) ∧
    (s.portLeftOut = false → Completes (.modReset r 1 force) r s fun t => t.trace = Trace.init ∧ t.host.queues = [])) ∧
  (∀ r s, s.fresh r = true → s.isOwnerOrLocal r.org = true →
    Completes (.settingsSave r false) r s (fun t => t.reg .modBootGeneration 0 0 = (s.reg .modBootGeneration 0 0 + 1) % 2 ^ 32 ∧
      t.reg .modBootSettingsSrc 0 0 = if s.reg .modBootSettingsSrc 0 0 = 1 then 2 else 1) ∧
    Completes (.settingsErase r false) r s (fun t => t.sys.settings = [] ∧ t.host.keys = [] ∧ t.host.certs = []) ∧
    Answers (.settingsSave r true) s (fun t => t.statusOf r = some .flashError ∧ Tab.get [] t.sys.copies [s.nextCopy] = []) ∧
    Answers (.settingsErase r true) s fun t => t.statusOf r = some .flashError ∧ t.sys.settings = s.sys.settings ∧
      t.host.keys = s.host.keys) ∧
  (∀ r offset length s, s.fresh r = true → s.isOwnerOrLocal r.org = true → 0 < length → length ≤ 1984 →
    offset + length ≤ 524288 → s.reg .modBootSettingsSrc 0 0 ≠ 0 →
    offset + length ≤ (Tab.get [] s.sys.copies [s.reg .modBootSettingsSrc 0 0 - 1]).length →
    Completes (.settingsRead r offset length 0) r s fun t => ((t.busyOf r).bind Busy.ans).map Answer.results =
      some (((Tab.get [] s.sys.copies [s.reg .modBootSettingsSrc 0 0 - 1]).drop offset).take length)) ∧
  (∀ r srcPort addr length offset data s, s.fresh r = true → s.isOwnerOrLocal r.org = true → s.flag .modFwTrial 0 0 = false →
    0 < length →
    (length ≤ 1024 → length ≤ data.length → offset + length ≤ slotSize →
      Completes (.fwStage r 1 srcPort addr length offset 0 data false) r s fun t => ∀ k, k < length →
        (t.slotBytes s.otherSlot).getD (offset + k) 0 = data.getD k 0) ∧
    (length ≤ slotSize → srcPort < 4 → s.isOwner r.org = true ∨ r.org = .host srcPort → s.portPresent srcPort = true →
      Answers (.fwStage r 0 srcPort addr length offset 0 data false) s fun t =>
        ∃ f, t.slotBytes s.otherSlot = ({ s with free := f }).hostRead srcPort addr length) ∧
    (length ≤ 1024 → length ≤ data.length → offset + length ≤ slotSize →
      Answers (.fwStage r 1 srcPort addr length offset 0 data true) s fun t => t.statusOf r = some .flashError ∧
        t.slotBytes s.otherSlot = [])) ∧
  (∀ r s, s.fresh r = true → s.isOwnerOrLocal r.org = true → s.activationBlocked = false →
    Answers (.fwActivate r false) s (fun t =>
      if s.slotValid s.otherSlot = true then t.sys.stewardDown = true ∧ t.sys.activating = some false ∧
        t.reg .modFwActive 0 0 = s.otherSlot ∧ t.flag .modFwTrial 0 0 = true
      else t.statusOf r = some .fwInvalid) ∧
    Answers (.fwActivate r true) s fun t => t.statusOf r = some (if s.slotValid s.otherSlot then .flashError else .fwInvalid) ∧
      t.reg .modFwActive 0 0 = s.reg .modFwActive 0 0) ∧
  (∀ s, s.sys.stewardDown = true → Answers .stewardReady s fun t => t.sys.stewardDown = false ∧ t.sys.activating = none) ∧
  (∀ s, s.sys.stewardDown = true → s.sys.activating = some false →
    Answers .activationTimeout s fun t => t.reg .modFwActive 0 0 = s.sys.trialFrom % 2 ∧ t.flag .modFwTrial 0 0 = false) ∧
  ∀ r s, s.fresh r = true → s.isOwnerOrLocal r.org = true → s.flag .modFwTrial 0 0 = true →
    Completes (.fwConfirm r false) r s (fun t => t.flag .modFwTrial 0 0 = false ∧ t.reg .modFwNext 0 0 = s.reg .modFwActive 0 0 % 2) ∧
    Answers (.fwConfirm r true) s fun t => t.statusOf r = some .flashError ∧ t.flag .modFwTrial 0 0 = true

/-- The rows of service life complete (R97, R422 to R439). A sample is counted, a resample ends the re-plan when no region is below the
guard, a scrubbed single-bit error is gone, a lost steward moves to anvil 1 and another CP's loss is noted, an uncorrectable
word is recorded, links and modules fail as R432 and R436 say, and the maintenance commands do their work. -/
def Obligations.ServiceRowsComplete : Prop :=
  (∀ taps s, s.temperWaits = false →
    Answers (.temperSample taps) s fun t => t.reg .svcTemperSamples 0 0 =
      min (2 ^ Fld.svcTemperSamples.width - 1) (s.reg .svcTemperSamples 0 0 + 1)) ∧
  (∀ taps s ref, s.svc.replan = some ref → s.temperWaits = false →
    (s.readTaps taps).powered.filter (s.readTaps taps).belowGuard = [] →
    Answers (.temperResample taps) s fun t => t.svc.replan = none) ∧
  (∀ st k s p, s.hearthPart (k.getD 0 0) (k.getD 1 0) = some p → st ≠ .bank → st ≠ .link → flawOf s.fab st k = 1 →
    s.regionOn (regionOf (k.getD 0 0) (k.getD 1 0)) = true →
    Answers (.storeScrub st k) s fun t => flawOf t.fab st k = 0) ∧
  (∀ c s, s.sys.off = false → c < s.grade.anvils → s.sys.stewardDown = false → bit (s.reg .svcCpout 0 0) c = false →
    Answers (.heartbeatTimeout c) s fun t =>
      if s.sys.steward = true ∧ s.steward = c then c ≠ 1 → t.steward = 1 ∧ t.sys.stewardDown = true
      else Tab.get [] t.svc.restarts [c] =
        (Tab.get [] s.svc.restarts [c]).filter (fun x => decide (s.now < x + 600000000000)) ++ [s.now]) ∧
  (∀ a l s, Grade.hasLink s.grade a l = true → s.anvilOn a = true → bit (s.reg .svcLinkOut 0 0) (3 * a + l) = false →
    Answers (.linkUncorrectableWord a l) s (fun t => t.flag .linkErrUncorr (3 * a + l) 0 = true) ∧
    (Tab.get [] s.svc.linkErrs [a, l] ≠ [] →
      Answers (.linkRetrain a l false) s fun t => bit (t.reg .svcLinkOut 0 0) (3 * a + l) = true ∧
        bit (t.reg .svcLinkOut 0 0) (3 * linkPeer a l + linkFacing l) = true)) ∧
  (∀ s, s.sys.off = false → s.sys.moduleFault = false → Answers .mgmtLinkLoss s fun t => t.sys.moduleFault = true) ∧
  (∀ r regions s, s.fresh r = true → s.isOwnerOrLocal r.org = true →
    (s.modMode = Mod.service → s.partitions.any s.executing = false →
      Completes (.svcMaint r 1 1 regions) r s fun t => t.modMode = Mod.maintenance) ∧
    (s.modMode = Mod.maintenance → Completes (.svcMaint r 1 0 regions) r s fun t => t.modMode = Mod.service) ∧
    (setBitsOf 64 regions ≠ [] → s.modStandby = false →
      (∀ x ∈ setBitsOf 64 regions, x < s.grade.regions ∧ s.regionState x ≠ 2 ∧ s.regionPart x = none ∧ s.draining x = false ∧
        s.domainFailed x = false) →
      Completes (.svcMaint r 0 1 regions) r s fun t => ∀ x ∈ setBitsOf 64 regions, t.regionState x = 1)) ∧
  (∀ r regions s, s.fresh r = true → s.isOwnerOrLocal r.org = true → setBitsOf 64 regions ≠ [] →
    (∀ x ∈ setBitsOf 64 regions, x < s.grade.regions ∧ s.regionState x = 1 ∧ s.regionOn x = true) →
    Completes (.svcSelftest r regions []) r s fun t => ∀ x ∈ setBitsOf 64 regions, ∀ ah ∈ hearthsOf x, ∀ b addr,
      Tab.get 0 t.fab.banks [ah.1, ah.2, b, addr] = 0) ∧
  (∀ r s, s.fresh r = true → s.isOwnerOrLocal r.org = true → s.modMode = Mod.maintenance → s.svc.insertion = none →
    s.svc.queued = [] → s.svc.replan = none →
    Answers (.temperReplan r) s fun t => t.svc.replan = some (some r) ∧ t.reg .svcTemperCeilMhz 0 0 = 1800 ∧
      ∀ n ∈ s.powered, t.reg .svcRegionVcoreMv 0 n = 700) ∧
  ∀ r a h lbp s, s.fresh r = true → s.isOwnerOrLocal r.org = true → a < s.grade.anvils → h < 128 → lbp < 1024 →
    s.svc.insertion = none → s.svc.queued = [] → s.svc.replan = none → s.freeBillets a h ≠ [] → s.deferred a h = false →
    bit (s.reg .svcCpout 0 0) a = false →
    Answers (.billetInsert r a h lbp) s fun t =>
      t.svc.insertion = some ⟨a, h, [lbp], some r, (s.hearthPart a h).filter s.executing⟩

/-- The rows of execution and run control change no registers but those named, and no part of the state but those listed: STEP,
CYCLE_BOUNDARY, FREEZE_LANDS, PARTITION_RESUME, HOST_ABORT, the DMA and read-return rows, and the PART_ commands. -/
def Obligations.ExecutionFrames : Prop :=
  (∀ p ups s, Frame (.step p ups) s (blocks [.part, .hearth, .cmp, .obs] (eventFlds.append (dropFlds.append [.linkErrCorrCount,
      .ddrSlotPeak, .ddrSlotFullCount, .ddrOrdInorder, .svcCond, .svcRegionState, .svcAvailOutMs, .svcAvailOutEvents]))) [.free,
      .held, .fab, .parts, .dram, .trace, .noc, .pins, .sys, .svc, .out, .hostMem, .commands, .queues, .log]) ∧
  (∀ p s, Frame (.cycleBoundary p) s (blocks [.part, .cmp, .obs] (eventFlds.append (dropFlds.append [.modRgnOnLo, .modRgnOnHi,
      .hearthBankStatusConflict, .hearthBankStatusUncorr, .hearthBankStatusCorr, .hearthBankLocStep, .hearthBankLocPortX,
      .hearthBankLocPortY, .hearthBankLocWord, .hearthBankCorrCount, .ddrStatusReserveEmpty, .ddrStatusMigrating, .ddrReserveLent,
      .ddrReserveFree, .ddrSlotPeak, .ddrSlotFullCount, .ddrOrdInorder, .nocFenceDraining, .nocFenceFenced, .queueCfgType,
      .queueCtlEnable, .wlStreamBindValid, .wlStreamBindInEn, .wlStreamBindOutEn, .wlStreamBindPrimary, .wlStreamBindPart,
      .wlStreamBindBundles, .wlStreamInLimit, .wlStreamInGen, .wlStreamOutDropCount, .wlStreamStallNs, .wlStreamStatusOutDrop,
      .spPinOwner, .spPinFunc, .spPinPull, .svcCond, .svcAvailOutMs, .svcAvailOutEvents]))) [.free, .held, .fab, .parts, .dram,
      .trace, .noc, .wl, .pins, .sys, .svc, .out, .dramMem, .hostMem, .commands, .queues, .log]) ∧
  (∀ p s, Frame (.freezeLands p) s (among (quenchFlds.append (eventFlds.append [.hearthBankStatusConflict, .hearthBankStatusUncorr,
      .hearthBankStatusCorr, .hearthBankLocStep, .hearthBankLocPortX, .hearthBankLocPortY, .hearthBankLocWord, .hearthBankCorrCount,
      .partRunReason, .partRunQuenched, .partRunMidcycle, .partRunMode, .partQuenchLast, .partCapSpLost]))) [.fab, .parts, .noc,
      .svc, .hostMem, .commands, .queues, .log]) ∧
  (∀ p s, Frame (.partitionResume p) s (among (eventFlds.append [.partRunReason, .partRunQuenched, .partRunMidcycle, .partRunMode,
      .partQuenchLast, .partQuenchTotalLo, .partQuenchTotalHi, .partQuenchStretchLo, .partQuenchStretchHi])) [.parts, .svc,
      .commands, .queues, .log]) ∧
  (∀ o p s, Frame (.hostAbort o p) s (among quenchFlds) [.parts, .svc, .log]) ∧
  (∀ r s, Frame (.dmaBankTimeout r) s (among []) [.free, .fab, .noc, .commands, .log]) ∧
  (∀ a id s, Frame (.dramReadReturn a id) s (among (releaseFlds.append (dropFlds.append [.partMemStatusSlotLimit, .partMemSlotsPeak,
      .ddrSlotPeak, .ddrSlotFullCount, .ddrOrdInorder]))) [.free, .fab, .parts, .dram, .trace]) ∧
  (∀ r p regions port s, Frame (.partCreate r p regions port) s (blocks [.part, .hearth, .link, .cmp, .obs, .ddr, .noc, .wlLane,
      .wlBundle] (eventFlds.append (dropFlds.append [.modRgnOnLo, .modRgnOnHi, .queueCfgType, .queueCtlEnable, .svcCond,
      .svcAvailOutMs, .svcAvailOutEvents, .svcAvailExtMs, .svcAvailExposedS]))) [.free, .held, .fab, .parts, .dram, .trace, .noc,
      .wl, .pins, .sys, .svc, .out, .dramMem, .commands, .queues, .log]) ∧
  (∀ r p s, Frame (.partDestroy r p) s (blocks [] (quenchFlds.append (eventFlds.append (dropFlds.append (loadEndFlds.append
      [.modRgnOnLo, .modRgnOnHi, .hearthBankStatusConflict, .hearthBankStatusUncorr, .hearthBankStatusCorr, .hearthBankLocStep,
      .hearthBankLocPortX, .hearthBankLocPortY, .hearthBankLocWord, .hearthBankCorrCount, .partMemStatusSlotLimit, .partMemSlotsPeak,
      .partRunExists, .partRunQuenched, .partCapStatusLast, .partCapStatusState, .partCapSpLost, .ddrStatusReserveEmpty,
      .ddrStatusMigrating, .ddrReserveLent, .ddrReserveFree, .ddrSlotPeak, .ddrSlotFullCount, .ddrOrdInorder, .nocFenceDraining,
      .nocFenceFenced, .queueCfgType, .queueCtlEnable, .wlStreamBindValid, .wlStreamBindInEn, .wlStreamBindOutEn,
      .wlStreamBindPrimary, .wlStreamBindPart, .wlStreamBindBundles, .spPinOwner, .spPinFunc, .spPinPull, .svcCond]))))) [.free,
      .fab, .parts, .dram, .trace, .noc, .wl, .pins, .sys, .svc, .dramMem, .hostMem, .commands, .queues, .log]) ∧
  (∀ r p port s, Frame (.partBind r p port) s (among [.partOwnHost, .queueCfgType, .queueCtlEnable]) [.commands, .queues, .log]) ∧
  (∀ r p mode ackFault cycles s, Frame (.partRun r p mode ackFault cycles) s (among (quenchFlds.append (eventFlds.append
      [.partRunReason, .partRunMode, .partRunLeftLo, .partRunLeftHi, .wlTrainState, .wlBundleBanked, .wlStreamMarkCount]))) [.parts,
      .svc, .out, .commands, .queues, .log]) ∧
  (∀ r p flush ackFault s, Frame (.partStop r p flush ackFault) s (among (releaseFlds.append (eventFlds.append [.partRunReason,
      .partRunHeld, .partRunMode, .partQuenchLatched, .partCmpMarkPending, .wlStreamInLimit, .wlStreamInGen, .svcAvailOutMs,
      .svcAvailOutEvents]))) [.parts, .wl, .svc, .commands, .queues, .log]) ∧
  (∀ r p now ackFault s, Frame (.partHalt r p now ackFault) s (among (releaseFlds.append (eventFlds.append [.partRunReason,
      .partRunHeld, .partRunMidcycle, .partRunMode, .partQuenchLatched]))) [.parts, .svc, .commands, .queues, .log]) ∧
  (∀ r p ackFault s, Frame (.partResume r p ackFault) s (among (quenchFlds.append (eventFlds.append [.partRunReason,
      .partRunMidcycle, .partRunMode]))) [.parts, .svc, .commands, .queues, .log]) ∧
  (∀ r p s, Frame (.partUnload r p) s (blocks [.part, .hearth, .link, .cmp, .obs, .ddr, .noc, .wlLane,
      .wlBundle] (eventFlds.append (dropFlds.append [.modRgnOnLo, .modRgnOnHi, .queueCfgType, .queueCtlEnable, .wlStreamBindValid,
      .wlStreamBindInEn, .wlStreamBindOutEn, .wlStreamBindPrimary, .wlStreamBindPart, .wlStreamBindBundles, .spPinOwner, .spPinFunc,
      .spPinPull, .svcCond]))) [.free, .held, .fab, .parts, .dram, .trace, .noc, .wl, .pins, .sys, .svc, .out, .dramMem, .hostMem,
      .commands, .queues, .log])

/-- The rows of loading, of the timers and triggers, of capture, readback and deposit change no registers but those named, and
no part of the state but those listed. -/
def Obligations.LoadAndObservationFrames : Prop :=
  (∀ r p srcPort addr length flags s, Frame (.partLoad r p srcPort addr length flags) s (among [.partLoadStage, .partLoadTotal,
      .partLoadDone, .partLoadRelocRowShift, .partLoadRelocColShift, .partLoadRelocRowSwap, .partLoadKeySlot, .partLoadSteppingC,
      .partLoadImageId, .partLoadFailSection, .partLoadFailDetail]) [.parts, .svc, .commands, .log]) ∧
  (∀ s, Frame .loadDequeue s (among [.partLoadStage]) []) ∧
  (∀ p img s, Frame (.loadHeader p img) s (among (releaseFlds.append (eventFlds.append (dropFlds.append (loadEndFlds.append
      [.partMemStatusSlotLimit, .partMemSlotsPeak, .partRunReason, .partRunMode, .partLoadKeySlot, .partLoadSteppingC,
      .partLoadImageId, .partCapStatusLast, .partCapStatusState, .ddrStatusReserveEmpty, .ddrStatusMigrating, .ddrReserveLent,
      .ddrReserveFree, .ddrSlotPeak, .ddrSlotFullCount, .ddrOrdInorder, .hostDmaTagPeak, .hostDmaTagFullCount,
      .hostErrStatusDma]))))) [.free, .fab, .parts, .dram, .trace, .pins, .dramMem, .commands, .queues, .log]) ∧
  (∀ p img s, Frame (.loadPlan p img) s (among (releaseFlds.append (eventFlds.append (dropFlds.append (loadEndFlds.append
      [.partMemStatusSlotLimit, .partMemSlotsPeak, .partRunReason, .partRunMode, .partLoadRelocRowShift, .partLoadRelocColShift,
      .partLoadRelocRowSwap, .partCapStatusLast, .partCapStatusState, .ddrStatusReserveEmpty, .ddrStatusMigrating, .ddrReserveLent,
      .ddrReserveFree, .ddrSlotPeak, .ddrSlotFullCount, .ddrOrdInorder, .hostDmaTagPeak, .hostDmaTagFullCount,
      .hostErrStatusDma]))))) [.free, .fab, .parts, .dram, .trace, .pins, .dramMem, .commands, .queues, .log]) ∧
  (∀ p img s, Frame (.loadCheck p img) s (among (releaseFlds.append (eventFlds.append (dropFlds.append (loadEndFlds.append
      [.partMemStatusSlotLimit, .partMemSlotsPeak, .partRunReason, .partRunMode, .partCapStatusLast, .partCapStatusState,
      .ddrStatusReserveEmpty, .ddrStatusMigrating, .ddrReserveLent, .ddrReserveFree, .ddrSlotPeak, .ddrSlotFullCount, .ddrOrdInorder,
      .hostDmaTagPeak, .hostDmaTagFullCount, .hostErrStatusDma]))))) [.free, .fab, .parts, .dram, .trace, .pins, .dramMem, .commands,
      .queues, .log]) ∧
  (∀ p s, Frame (.loadPrepare p) s (among (releaseFlds.append (eventFlds.append (dropFlds.append [.partMemStatusSlotLimit,
      .partMemSlotsAllot, .partMemSlotsPeak, .partRunReason, .partRunMode, .partLoadStage, .partCapStatusLast, .partCapStatusState,
      .ddrStatusReserveEmpty, .ddrStatusMigrating, .ddrReserveLent, .ddrReserveFree, .ddrSlotPeak, .ddrSlotFullCount,
      .ddrOrdInorder])))) [.free, .fab, .parts, .dram, .trace, .pins, .dramMem, .queues]) ∧
  (∀ p img s, Frame (.loadSetup p img) s (fun _ => true) [.free, .held, .fab, .parts, .dram, .trace, .pins, .dramMem, .commands,
      .queues, .log]) ∧
  (∀ p img mismatches s, Frame (.hearthVerify p img mismatches) s (blocks [.part] (eventFlds.append (dropFlds.append
      [.hearthPortcfgTarget, .hearthPortcfgLport, .hearthPortcfgDp, .hearthPortcfgShift, .hearthPortcfgSizeLog2, .hearthPortcfgRdPad,
      .hearthPortcfgWidthM1, .hearthPortbaseSp, .hearthPortdramBaseLo, .hearthPortdramBaseHi, .partCapStatusLast,
      .partCapStatusState, .ddrStatusReserveEmpty, .ddrStatusMigrating, .ddrReserveLent, .ddrReserveFree, .ddrSlotPeak,
      .ddrSlotFullCount, .ddrOrdInorder, .hostDmaTagPeak, .hostDmaTagFullCount, .hostErrStatusDma, .svcAvailOutMs,
      .svcAvailOutEvents]))) [.free, .fab, .parts, .dram, .trace, .pins, .svc, .dramMem, .commands, .queues, .log]) ∧
  (∀ r slot key flashBad s, Frame (.imageKeySet r slot key flashBad) s (among [.modBootSettingsSrc, .modBootGeneration]) [.sys,
      .commands, .log, .keys]) ∧
  (∀ r slot flashBad s, Frame (.imageKeyClear r slot flashBad) s (among [.modBootSettingsSrc, .modBootGeneration]) [.sys, .commands,
      .log, .keys]) ∧
  (∀ p j s, Frame (.timerExpired p j) s (among [.partTrigTmrExpired]) []) ∧
  (∀ p s, Frame (.timeReached p) s (among []) [.parts, .log]) ∧
  (∀ o p s, Frame (.trigCtlArm o p) s (among []) [.parts, .log]) ∧
  (∀ o p s, Frame (.trigCtlDisarm o p) s (among []) [.parts, .log]) ∧
  (∀ p s, Frame (.captureDrainComplete p) s (among (eventFlds.append (dropFlds.append [.hearthBankStatusCorr, .hearthBankCorrCount,
      .partCapStatusLast, .partCapStatusState, .partCapDramCopied, .partCapDramLost, .ddrStatusReserveEmpty, .ddrReserveLent,
      .ddrReserveFree]))) [.free, .parts, .dram, .trace, .dramMem, .queues]) ∧
  (∀ p s, Frame (.acqSegmentOpen p) s (among [.partAcqStatusWait]) [.parts]) ∧
  (∀ r p at_ cycle edge flags s, Frame (.captureRequest r p at_ cycle edge flags) s (among [.partCapStatusState, .partCapCycleLo,
      .partCapCycleHi, .partCapSpLost, .partCapDramCopied, .partCapDramLost]) [.parts, .commands, .log]) ∧
  (∀ r p s, Frame (.captureRelease r p) s (among (eventFlds.append [.partCapStatusLast, .partCapStatusState, .ddrStatusReserveEmpty,
      .ddrStatusMigrating, .ddrReserveLent, .ddrReserveFree])) [.parts, .dram, .commands, .queues, .log]) ∧
  (∀ r p anvil offset length addr s, Frame (.captureDramRead r p anvil offset length addr) s (among (dropFlds.append [.ddrSlotPeak,
      .ddrSlotFullCount, .ddrOrdInorder])) [.free, .fab, .dram, .trace, .hostMem, .commands, .log]) ∧
  (∀ r p kind anvil hearth first count addr s,
      Frame (.stateRead r p kind anvil hearth first count addr) s (among (quenchFlds.append (eventFlds.append (dropFlds.append
      [.hearthBankStatusConflict, .hearthBankStatusUncorr, .hearthBankStatusCorr, .hearthBankLocStep, .hearthBankLocPortX,
      .hearthBankLocPortY, .hearthBankLocWord, .hearthBankCorrCount, .partCapSpLost, .ddrSlotPeak, .ddrSlotFullCount,
      .ddrOrdInorder])))) [.free, .fab, .parts, .dram, .trace, .noc, .svc, .hostMem, .commands, .queues, .log]) ∧
  (∀ r p kind anvil hearth first count addr flags data s,
      Frame (.stateDeposit r p kind anvil hearth first count addr flags data) s (among (quenchFlds.append (eventFlds.append
      (dropFlds.append [.hearthBankStatusConflict, .hearthBankStatusUncorr, .hearthBankStatusCorr, .hearthBankLocStep,
      .hearthBankLocPortX, .hearthBankLocPortY, .hearthBankLocWord, .hearthBankCorrCount, .partCapSpLost, .ddrSlotPeak,
      .ddrSlotFullCount, .ddrOrdInorder, .hostDmaTagPeak, .hostDmaTagFullCount])))) [.free, .fab, .parts, .dram, .trace, .noc, .svc,
      .hostMem, .commands, .queues, .log])

/-- The rows of trace change no registers but those named, and no part of the state but those listed. -/
def Obligations.TraceFrames : Prop :=
  (∀ src item s, Frame (.tracePacketEmit src item) s (among (dropFlds.append [.nocStallCount])) [.free, .trace]) ∧
  (∀ c s, Frame (.traceStallEnd c) s (among [.traceStallNs]) [.trace]) ∧
  (∀ c s, Frame (.traceStallLimit c) s (among [.traceStatusStallLimit, .traceStallNs]) [.trace]) ∧
  (∀ src s, Frame (.traceOverflowRecovery src) s (among dropFlds) [.free, .trace]) ∧
  (∀ s, Frame .funnelBlockWrite s (among (dropFlds.append [.traceStatusState, .traceBufWr, .traceStopLeft, .ddrSlotPeak,
      .ddrSlotFullCount, .ddrOrdInorder])) [.free, .fab, .dram, .trace, .queues]) ∧
  (∀ o s, Frame (.traceEnable o) s (among [.traceCtlEnable, .traceStatusSinkErr, .traceStatusState]) [.free, .trace, .log]) ∧
  (∀ o s, Frame (.traceDisable o) s (among [.traceCtlEnable, .traceStatusState, .traceStallNs]) [.trace, .log]) ∧
  (∀ kind k s, Frame (.traceTrigger kind k) s (among [.traceStatusState, .traceStopLeft, .traceTrigMissed, .traceTrigTimeLo,
      .traceTrigTimeHi]) [.trace]) ∧
  (∀ o s, Frame (.stopNow o) s (among [.traceStatusState, .traceStopLeft, .traceStallNs, .traceTrigMissed, .traceTrigTimeLo,
      .traceTrigTimeHi]) [.trace, .log]) ∧
  (∀ s, Frame .stopDelayReached s (among [.traceStatusState, .traceStopLeft, .traceStallNs]) [.trace]) ∧
  (∀ c level icount target s, Frame (.cpSleep c level icount target) s (among dropFlds) [.free, .trace]) ∧
  (∀ c addr s, Frame (.cpWake c addr) s (among []) [.trace]) ∧
  (∀ r anvil sizeLog2 s, Frame (.traceBufAlloc r anvil sizeLog2) s (among [.traceBufBaseLo, .traceBufValid, .traceBufSizeLog2,
      .traceBufAnvil, .traceBufBaseHi, .traceBufWr, .traceBufRd]) [.commands, .log]) ∧
  (∀ r s, Frame (.traceBufFree r) s (among [.traceBufValid]) [.commands, .log])

/-- The rows of the module DRAM change no registers but those named, and no part of the state but those listed. -/
def Obligations.DramFrames : Prop :=
  (∀ a id bad second crc s, Frame (.dramRequestServe a id bad second crc) s (blocks [.ddr] (quenchFlds.append (dropFlds.append
      [.partMemStatusUncorr, .partMemStatusSlotLimit, .partMemSlotsPeak, .partCmpFmapWr, .partCmpFmapDropCount,
      .partCmpStatusFmapFull, .partCapDramCopied, .partCapDramLost, .queueStatusDrop, .queueDropCount]))) [.free, .fab, .parts,
      .dram, .trace, .noc, .svc, .dramMem, .queues, .log]) ∧
  (∀ a sub s, Frame (.phyTrainingLoss a sub) s (among (quenchFlds.append (dropFlds.append freezeFlds))) [.free, .parts, .dram,
      .trace, .svc, .log]) ∧
  (∀ a sub rank failing s, Frame (.deviceDiagnosis a sub rank failing) s (blocks [.ddr] (quenchFlds.append (eventFlds.append
      (dropFlds.append [.partMemStatusUncorr, .partMemStatusSlotLimit, .partMemSlotsPeak, .partCmpFmapWr, .partCmpFmapDropCount,
      .partCmpStatusFmapFull, .partCapDramCopied, .partCapDramLost, .svcCond])))) [.free, .fab, .parts, .dram, .trace, .noc, .sys,
      .svc, .dramMem, .queues, .log]) ∧
  (∀ a sub rank failing s, Frame (.markRediagnosis a sub rank failing) s (among (quenchFlds.append (dropFlds.append freezeFlds)))
      [.free, .parts, .dram, .trace, .svc, .log]) ∧
  (∀ a page reads s, Frame (.pageRetirement a page reads) s (among (dropFlds.append [.ddrStatusReserveEmpty, .ddrReserveRetired,
      .ddrReserveFree, .ddrErrCorrCount, .ddrErrUncorrCount, .ddrErrSymCount])) [.free, .dram, .trace, .sys, .dramMem, .log]) ∧
  (∀ a reads s, Frame (.migrationStep a reads) s (among (eventFlds.append (dropFlds.append [.ddrStatusReserveEmpty,
      .ddrStatusMigrating, .ddrReserveRetired, .ddrReserveFree, .ddrErrCorrCount, .ddrErrUncorrCount, .ddrErrSymCount,
      .svcCond]))) [.free, .dram, .trace, .sys, .dramMem, .queues, .log]) ∧
  (∀ a sub s, Frame (.patrolScrub a sub) s (among (dropFlds.append [.ddrEcsCount, .ddrSlotPeak, .ddrSlotFullCount,
      .ddrOrdInorder])) [.free, .fab, .dram, .trace]) ∧
  (∀ a id s, Frame (.agePromotion a id) s (among (dropFlds.append [.ddrOrdPromoted])) [.free, .dram, .trace]) ∧
  (∀ a sub bank s, Frame (.sameBankRefresh a sub bank) s (among (dropFlds.append (freezeFlds.append [.ddrStatusReserveEmpty,
      .ddrStatusMigrating, .ddrStatusRankOut, .ddrStatusMarkActive, .ddrCfgAgeNs, .ddrCfgPdNs, .ddrScrubPeriodH, .ddrReserveRetired,
      .ddrReserveLent, .ddrReserveFree, .ddrMarkValid, .ddrMarkDevice, .ddrMarkLeft, .ddrErrCorrCount, .ddrErrUncorrCount,
      .ddrEcsCount, .ddrErrSymCount, .ddrRefHidden, .ddrRefForced, .ddrSlotPeak, .ddrSlotFullCount, .ddrOrdPromoted, .ddrOrdInorder,
      .ddrWcrcRetry, .ddrPdEntries]))) [.free, .held, .dram, .trace, .sys]) ∧
  (∀ a sub s, Frame (.allBankRefresh a sub) s (blocks [.ddr] (quenchFlds.append dropFlds)) [.free, .held, .fab, .parts, .dram,
      .trace, .sys, .svc]) ∧
  (∀ a sub s, Frame (.refreshEnd a sub) s (among (releaseFlds.append dropFlds)) [.free, .parts, .dram, .trace]) ∧
  (∀ a sub rank s, Frame (.rankPowerDown a sub rank) s (among (dropFlds.append [.ddrPdEntries])) [.free, .dram, .trace]) ∧
  (∀ a id s, Frame (.dramFrozenTimeout a id) s (among (releaseFlds.append (eventFlds.append (dropFlds.append (loadEndFlds.append
      [.partMemStatusSlotLimit, .partMemSlotsPeak, .partRunReason, .partRunMode, .partCapStatusLast, .partCapStatusState,
      .ddrStatusReserveEmpty, .ddrStatusMigrating, .ddrReserveLent, .ddrReserveFree, .ddrSlotPeak, .ddrSlotFullCount,
      .ddrOrdInorder]))))) [.free, .fab, .parts, .dram, .trace, .noc, .pins, .dramMem, .commands, .queues, .log]) ∧
  (∀ a retrainOk s, Frame (.stewardThaw a retrainOk) s (among (quenchFlds.append (eventFlds.append (dropFlds.append
      [.partMemStatusUncorr, .partMemStatusSlotLimit, .partMemSlotsPeak, .partCmpFmapWr, .partCmpFmapDropCount,
      .partCmpStatusFmapFull, .partCapDramCopied, .partCapDramLost, .ddrStatusReserveEmpty, .ddrStatusRankOut, .ddrStatusFrozen,
      .ddrReserveRetired, .ddrReserveLent, .ddrReserveFree, .ddrSlotPeak, .ddrSlotFullCount, .ddrOrdInorder, .svcCond])))) [.free,
      .fab, .parts, .dram, .trace, .noc, .sys, .svc, .dramMem, .queues, .log]) ∧
  (∀ r a action retrainOk s, Frame (.ddrThaw r a action retrainOk) s (among (quenchFlds.append (eventFlds.append (dropFlds.append
      [.partMemStatusUncorr, .partMemStatusSlotLimit, .partMemSlotsPeak, .partCmpFmapWr, .partCmpFmapDropCount,
      .partCmpStatusFmapFull, .partCapDramCopied, .partCapDramLost, .ddrStatusReserveEmpty, .ddrStatusRankOut, .ddrStatusFrozen,
      .ddrReserveRetired, .ddrReserveLent, .ddrReserveFree, .ddrSlotPeak, .ddrSlotFullCount, .ddrOrdInorder, .svcCond])))) [.free,
      .fab, .parts, .dram, .trace, .noc, .sys, .svc, .dramMem, .commands, .queues, .log]) ∧
  (∀ r a addr s, Frame (.ddrRetirePage r a addr) s (among [.ddrStatusReserveEmpty, .ddrReserveRetired, .ddrReserveFree]) [.dram,
      .sys, .dramMem, .commands, .log]) ∧
  (∀ r a sub rank device s, Frame (.ddrMarkSet r a sub rank device) s (among (eventFlds.append (dropFlds.append [.ddrStatusMigrating,
      .ddrStatusMarkActive, .ddrMarkValid, .ddrMarkDevice, .svcCond]))) [.free, .dram, .trace, .sys, .commands, .queues, .log])

/-- The rows of the packet network change no registers but those named, and no part of the state but those listed. A packet that
reaches a register endpoint has the effect of the register accesses it asks for, and is left out here. -/
def Obligations.NetworkFrames : Prop :=
  (∀ e s, (∀ k, s.delivers e = some k → k.noRegister) → Frame (.nocRequest e) s (among (quenchFlds.append (eventFlds.append
      (dropFlds.append [.hearthBankStatusConflict, .hearthBankStatusUncorr, .hearthBankStatusCorr, .hearthBankLocStep,
      .hearthBankLocPortX, .hearthBankLocPortY, .hearthBankLocWord, .hearthBankCorrCount, .partCapSpLost, .ddrSlotPeak,
      .ddrSlotFullCount, .ddrOrdInorder, .nocTagInuse, .nocTagPeak, .nocTagFullCount, .nocErrStatusLate, .nocErrStatusPoison,
      .nocErrStatusUnroutable, .nocErrStatusEpoch, .nocErrStatusHeader, .nocErrCorrCount, .nocErrDiscardCount,
      .nocErrLateCount])))) [.free, .fab, .parts, .dram, .trace, .noc, .svc, .hostMem, .commands, .queues, .log]) ∧
  (∀ e s, (∀ k, s.delivers e = some k → k.noRegister) → Frame (.nocCompletion e) s (among (quenchFlds.append (eventFlds.append
      (dropFlds.append [.hearthBankStatusConflict, .hearthBankStatusUncorr, .hearthBankStatusCorr, .hearthBankLocStep,
      .hearthBankLocPortX, .hearthBankLocPortY, .hearthBankLocWord, .hearthBankCorrCount, .partCapSpLost, .ddrSlotPeak,
      .ddrSlotFullCount, .ddrOrdInorder, .nocTagInuse, .nocTagPeak, .nocTagFullCount, .nocErrStatusLate, .nocErrStatusPoison,
      .nocErrStatusUnroutable, .nocErrStatusEpoch, .nocErrStatusHeader, .nocErrCorrCount, .nocErrDiscardCount,
      .nocErrLateCount])))) [.free, .fab, .parts, .dram, .trace, .noc, .svc, .hostMem, .commands, .queues, .log]) ∧
  (∀ a tag s, Frame (.nocCplTimeout a tag) s (among (dropFlds.append [.nocTagInuse, .nocTagPeak, .nocTagFullCount,
      .nocErrStatusTimeout, .nocErrDiscardCount, .nocErrTimeoutCount, .hostErrStatusTimeout])) [.free, .trace, .noc]) ∧
  (∀ a tag s, Frame (.tagRelease a tag) s (among (dropFlds.append [.nocTagInuse, .nocTagPeak, .nocTagFullCount, .nocErrStatusPoison,
      .nocErrStatusUnroutable, .nocErrStatusEpoch, .nocErrStatusHeader, .nocErrCorrCount, .nocErrDiscardCount])) [.free, .trace,
      .noc]) ∧
  (∀ a port s, Frame (.linkFlitReplay a port) s (among (dropFlds.append [.nocErrStatusLinkDown, .nocErrDiscardCount, .nocLinkUpMgmt,
      .nocLinkUp])) [.free, .trace, .noc]) ∧
  (∀ ref table s, Frame (.routeChangeStart ref table) s (among [.nocEpochShadowValid, .nocRouteSet0, .nocRouteSet1]) [.noc]) ∧
  (∀ s, Frame .shadowValid s (among [.nocEpochShadowValid]) [.noc]) ∧
  (∀ s, Frame .epochSwitch s (among (dropFlds.append [.nocEpochRetiring, .nocEpochCurrent])) [.free, .trace, .noc]) ∧
  (∀ s, Frame .epochRetired s (among (dropFlds.append [.nocEpochShadowValid, .nocEpochRetiring, .nocTagInuse, .nocTagPeak,
      .nocTagFullCount, .nocErrStatusPoison, .nocErrStatusUnroutable, .nocErrStatusEpoch, .nocErrStatusHeader, .nocErrCorrCount,
      .nocErrDiscardCount, .nocRouteSet0, .nocRouteSet1])) [.free, .trace, .noc]) ∧
  (∀ s, Frame .epochFenceTimeout s (among (eventFlds.append [.nocErrStatusEpochTimeout])) [.noc, .queues]) ∧
  (∀ r s, Frame (.nocEpochBusy r) s (among []) [.noc, .commands, .log]) ∧
  (∀ region s, Frame (.fenceRequest region) s (among (eventFlds.append [.modRgnOnLo, .modRgnOnHi, .nocFenceDraining, .nocFenceFenced,
      .svcCond])) [.fab, .noc, .sys, .queues, .log]) ∧
  (∀ region s, Frame (.regionFenced region) s (among (eventFlds.append (dropFlds.append [.modRgnOnLo, .modRgnOnHi, .nocFenceDraining,
      .nocFenceFenced, .svcCond]))) [.free, .fab, .trace, .noc, .sys, .svc, .commands, .queues, .log]) ∧
  (∀ region s, Frame (.nocDrainTimeout region) s (among (eventFlds.append [.nocErrStatusDrainTimeout])) [.noc, .svc, .commands,
      .queues, .log]) ∧
  (∀ a s, Frame (.anvilDomainOff a) s (blocks [.link, .ddr, .noc, .wlLane, .wlBundle] (eventFlds.append [.modRgnOnLo, .modRgnOnHi,
      .svcCond])) [.held, .fab, .dram, .trace, .noc, .wl, .sys, .dramMem, .queues, .log])

/-- The rows of the host interface, of the queues and of its commands change no registers but those named, and no part of the
state but those listed. A read changes RC fields alone. What REGISTER_WRITE and REG_WRITE leave unchanged depends on the field,
and what COMMAND_START and COMMAND_COMPLETION do on the command. -/
def Obligations.HostInterfaceFrames : Prop :=
  (∀ o addr size s, Frame (.rcFieldRead o addr size) s (fun f => decide (f.info.acc = .rc) || among [.hostErrStatusAccess,
      .wlPrbsErrCount, .wlPrbsBitsLo, .wlPrbsBitsHi] f) [.free, .latches, .out]) ∧
  (∀ o addr size s, Frame (.loWordRead o addr size) s (fun f => decide (f.info.acc = .rc) || among [.hostErrStatusAccess,
      .wlPrbsErrCount, .wlPrbsBitsLo, .wlPrbsBitsHi] f) [.free, .latches, .out]) ∧
  (∀ r addr count s, Frame (.regRead r addr count) s (fun f => decide (f.info.acc = .rc) || among [.wlPrbsErrCount, .wlPrbsBitsLo,
      .wlPrbsBitsHi] f) [.free, .latches, .commands, .log]) ∧
  (∀ n cause s, Frame (.hostPortReset n cause) s (among [.mboxStateState, .hostLinkUp, .hostLinkWidth, .hostLinkSpeed,
      .hostErrStatusLinkDown, .hostErrStatusFlr, .queueCfgType, .queueCtlEnable]) [.out, .commands, .queues]) ∧
  (∀ n width speed s, Frame (.hostLinkUp n width speed) s (among [.hostLinkUp, .hostLinkWidth, .hostLinkSpeed]) [.out]) ∧
  (∀ q r ecrc s, Frame (.hostDmaFailure (some q) r ecrc) s (among [.hostErrStatusEcrc, .hostErrStatusDma, .queueCtlEnable,
      .queueStatusDmaErr]) [.out, .queues]) ∧
  (∀ n m record s, Frame (.mboxGo n m record) s (among [.mboxStateProto, .mboxStateState]) [.boxes, .commands]) ∧
  (∀ n m s, Frame (.mboxAck n m) s (among [.mboxStateProto, .mboxStateState]) []) ∧
  (∀ fingerprint s, Frame (.mgmtSessionOpen fingerprint) s (among []) [.latches, .commands, .log]) ∧
  (∀ k s, Frame (.mgmtSessionClose k) s (among []) [.latches, .commands]) ∧
  (∀ k record s, Frame (.mgmtMessage k record) s (among []) [.commands]) ∧
  (∀ record crc s, Frame (.uartFrame record crc) s (among []) [.commands]) ∧
  (∀ o q index s, Frame (.queueDoorbell o q index) s (among (eventFlds.append [.hostErrForeignCount, .queuePidx, .queueCidx,
      .queueStatusDbErr])) [.queues, .log]) ∧
  (∀ o q value s, q < 4096 → Frame (.queueEnable o q value) s (among [.queueCtlEnable, .queueStatusSetupErr,
      .hostErrForeignCount]) [.queues, .log]) ∧
  (∀ o q flags s, q < 4096 → Frame (.taskSoftFlagSet o q flags) s (among [.taskFlagsSoft, .hostErrForeignCount]) [.queues, .log]) ∧
  (∀ engine entries s, Frame (.taskDispatch engine entries) s (among (releaseFlds.append (eventFlds.append (dropFlds.append
      [.hostDmaTagPeak, .hostDmaTagFullCount, .queueCtlEnable, .queuePidx, .queueCidx, .queueStatusEntryErr, .taskFlagsSoft,
      .taskDispatchCount])))) [.free, .parts, .trace, .wl, .out, .hostMem, .commands, .queues]) ∧
  (∀ q s, Frame (.interruptCoalesceTimeout q) s (among []) [.out, .queues]) ∧
  (∀ r ident s, Frame (.hostIdentify r ident) s (among [.hostId]) [.commands, .log]) ∧
  (∀ r q part port s, Frame (.queueAssign r q part port) s (among [.queueCfgPart, .queueCfgPort, .queueCfgType,
      .queueCtlEnable]) [.commands, .queues, .log]) ∧
  (∀ r q type sizeLog2 entryLog2 base wb pair s,
      Frame (.queueSetup r q type sizeLog2 entryLog2 base wb pair) s (among [.queueCfgEntryLog2, .queueCfgSizeLog2, .queueCfgType,
      .queueBaseLo, .queueBaseHi, .queueWbLo, .queueWbHi, .queuePair, .queuePidx, .queueCidx, .queueStatusEntryErr,
      .queueStatusDmaErr, .queueStatusDrop, .queueStatusSetupErr, .queueStatusDbErr, .taskCfgChainEn, .taskCfgModeAll, .taskCfgPrio,
      .taskCfgBatchM1, .taskCfgPred, .taskMask, .taskFlagsSoft, .taskDispatchCount]) [.commands, .queues, .log]) ∧
  (∀ r first count addr s, Frame (.auditRead r first count addr) s (among []) [.hostMem, .commands, .log]) ∧
  (∀ r slot fingerprint flashBad s, Frame (.ownerCertSet r slot fingerprint flashBad) s (among [.modBootSettingsSrc,
      .modBootGeneration]) [.sys, .commands, .log, .keys]) ∧
  (∀ r port grant flashBad s, Frame (.roleGrant r port grant flashBad) s (among [.hostRoleGrant, .modBootSettingsSrc,
      .modBootGeneration]) [.sys, .commands, .log]) ∧
  (∀ s, Frame .auditPersist s (among []) [.log])

/-- The rows of Waltline change no registers but those named, and no part of the state but those listed. -/
def Obligations.LaneFrames : Prop :=
  (∀ o l s, Frame (.laneEnable o l) s (among (eventFlds.append [.wlTrainState, .wlLaneCtlEnable, .wlBundleAligned,
      .wlBundleActive])) [.parts, .wl, .sys, .out, .queues, .log]) ∧
  (∀ o l s, Frame (.laneDisable o l) s (among (eventFlds.append [.wlTrainState, .wlLaneCtlEnable, .wlBundleAligned,
      .wlBundleActive])) [.parts, .wl, .sys, .out, .queues, .log]) ∧
  (∀ o l s, Frame (.retrain o l) s (among (eventFlds.append [.wlTrainState, .wlLaneErrLockLoss, .wlBundleAligned,
      .wlBundleActive])) [.parts, .wl, .out, .queues, .log]) ∧
  (∀ l s, Frame (.terminationDetect l) s (among (eventFlds.append [.wlTrainState, .wlBundleAligned, .wlBundleActive])) [.parts, .wl,
      .out, .queues]) ∧
  (∀ l s, Frame (.cdrLock l) s (among (eventFlds.append [.wlTrainState, .wlBundleAligned, .wlBundleActive])) [.parts, .wl, .out,
      .queues]) ∧
  (∀ l s, Frame (.blockLock l) s (among (eventFlds.append [.wlTrainState, .wlBundleAligned, .wlBundleActive])) [.parts, .wl, .out,
      .queues]) ∧
  (∀ l complement s, Frame (.tsDetected l complement) s (among (eventFlds.append [.wlTrainPolarity, .wlTrainState, .wlBundleAligned,
      .wlBundleActive])) [.parts, .wl, .out, .queues]) ∧
  (∀ l s, Frame (.trainTimeout l) s (among (eventFlds.append [.wlTrainState, .wlLaneStatusTrainFail, .wlBundleAligned,
      .wlBundleActive, .svcCond])) [.parts, .wl, .sys, .out, .queues, .log]) ∧
  (∀ l s, Frame (.lockLoss l) s (among (eventFlds.append [.wlTrainState, .wlLaneErrLockLoss, .wlBundleAligned,
      .wlBundleActive])) [.parts, .wl, .out, .queues]) ∧
  (∀ l c s, Frame (.cap l c) s (among (eventFlds.append [.wlTrainPartner, .wlTrainLogical, .wlTrainState, .wlLaneErrReplayCount,
      .wlLaneStatusRetryLimit, .wlLaneStatusCapMismatch, .wlBundleAligned, .wlBundleActive, .wlBundlePartnerId,
      .wlBundlePartnerBundle, .svcCond])) [.parts, .wl, .sys, .out, .queues, .log]) ∧
  (∀ l f s, Frame (.frame l f) s (among (releaseFlds.append (eventFlds.append [.wlLaneErrCrcCount, .wlLaneStatusCrc,
      .wlStreamStatusCredit, .wlStreamStatusFormat, .timeCapValid, .timeCapTsLo, .timeCapTsHi]))) [.parts, .time, .wl, .out, .queues]) ∧
  (∀ l lane lseq nak s, Frame (.ack l lane lseq nak) s (among (eventFlds.append [.wlTrainState, .wlLaneErrReplayCount,
      .wlLaneStatusRetryLimit, .wlBundleAligned, .wlBundleActive, .svcCond])) [.parts, .wl, .sys, .out, .queues, .log]) ∧
  (∀ l s, Frame (.replayTimeout l) s (among (eventFlds.append [.wlTrainState, .wlLaneErrReplayCount, .wlLaneStatusRetryLimit,
      .wlBundleAligned, .wlBundleActive, .svcCond])) [.parts, .wl, .sys, .out, .queues, .log]) ∧
  (∀ b stream gen limit s, Frame (.credit b stream gen limit) s (among [.wlStreamOutLimit, .wlStreamStallNs]) [.wl]) ∧
  (∀ b stream count s, Frame (.mark b stream count) s (among (releaseFlds.append (eventFlds.append [.partCmpStatusMarkOverrun,
      .partCmpMarkPending, .wlStreamMarkCount]))) [.parts, .wl, .queues]) ∧
  (∀ b stream number copies s, Frame (.stop b stream number copies) s (among quenchFlds) [.parts, .wl, .svc]) ∧
  (∀ l lane k req ack refuse ret s, Frame (.spare l lane k req ack refuse ret) s (among (eventFlds.append [.wlTrainLogical,
      .wlTrainState, .wlLaneErrReplayCount, .wlLaneStatusRetryLimit, .wlBundleSpareFor, .wlBundleAligned, .wlBundleActive,
      .svcCond])) [.parts, .wl, .sys, .out, .commands, .queues, .log]) ∧
  (∀ b req ack s, Frame (.bank b req ack) s (among (eventFlds.append [.wlTrainState, .wlBundleBanked, .wlBundleAligned,
      .wlBundleActive])) [.parts, .wl, .out, .commands, .queues, .log]) ∧
  (∀ b arrivals s, Frame (.dsk b arrivals) s (among [.wlLaneStatusDeskew, .wlBundleAligned, .wlBundleSkewNs]) [.parts]) ∧
  (∀ b s, Frame (.dskSend b) s (among []) [.wl, .out]) ∧
  (∀ stream s, Frame (.frameTransmit stream) s (among [.wlStreamOutSseq, .wlStreamStallNs]) [.wl, .out]) ∧
  (∀ stream s, Frame (.creditSend stream) s (among [.wlStreamInLimit]) [.out]) ∧
  (∀ stream s, Frame (.creditStall stream) s (among []) [.parts, .wl]) ∧
  (∀ p s, Frame (.statusBlockSend p) s (among []) [.parts, .out]) ∧
  (∀ l s, Frame (.crcErrorLimit l) s (among (eventFlds.append [.wlTrainState, .wlBundleAligned, .wlBundleActive, .svcCond])) [.parts,
      .wl, .sys, .out, .queues, .log]) ∧
  (∀ l s, Frame (.spareRequestRepeat l) s (among []) [.out]) ∧
  (∀ b s, Frame (.bankExitSignal b) s (among (eventFlds.append [.wlTrainState, .wlBundleBanked])) [.out, .queues]) ∧
  (∀ o l s, Frame (.injGo o l) s (among []) [.out, .log]) ∧
  (∀ l b s, Frame (.blockDiscard l b) s (among [.wlLaneErrBlockCount]) []) ∧
  (∀ l s, Frame (.prbsCheckerLock l) s (among [.wlPrbsLock]) []) ∧
  (∀ l s, Frame (.prbsLockLoss l) s (among [.wlPrbsLock, .wlPrbsErrCount, .wlPrbsBitsLo, .wlPrbsBitsHi]) [.free]) ∧
  (∀ l s, Frame (.continuousErrorInjection l) s (among []) [.out]) ∧
  (∀ r stream part bundles inEn outEn s, Frame (.wlStreamBind r stream part bundles inEn outEn) s (among [.wlStreamBindValid,
      .wlStreamBindInEn, .wlStreamBindOutEn, .wlStreamBindPrimary, .wlStreamBindPart, .wlStreamBindBundles, .wlStreamInLimit,
      .wlStreamOutSseq, .wlStreamOutLimit, .wlStreamOutGen, .wlStreamInGen]) [.wl, .commands, .log]) ∧
  (∀ r stream s, Frame (.wlStreamUnbind r stream) s (among [.wlStreamBindValid, .wlStreamBindInEn, .wlStreamBindOutEn,
      .wlStreamBindPrimary, .wlStreamBindPart, .wlStreamBindBundles]) [.parts, .wl, .commands, .log]) ∧
  (∀ r lane action s, Frame (.wlLaneCtl r lane action) s (among (eventFlds.append [.wlTrainState, .wlLaneErrLockLoss, .wlPrbsLock,
      .wlPrbsErrCount, .wlPrbsBitsLo, .wlPrbsBitsHi, .wlBundleAligned, .wlBundleActive, .svcCond])) [.free, .parts, .wl, .sys, .out,
      .commands, .queues, .log]) ∧
  (∀ r bundle enter s, Frame (.wlBank r bundle enter) s (among (eventFlds.append [.wlTrainState, .wlBundleBanked])) [.wl, .out,
      .commands, .queues, .log])

/-- The rows of the time base and of the side pins change no registers but those named, and no part of the state but those
listed. -/
def Obligations.TimeAndPinFrames : Prop :=
  (∀ o incrNs s, Frame (.timeIncrWrite o incrNs) s (among [.timeIncrIncrNs]) [.time, .log]) ∧
  (∀ o k rateNs s, Frame (.refRateWrite o k rateNs) s (among [.timeRefRateFrac, .timeRefRateNs]) [.time, .log]) ∧
  (∀ o k adj s, Frame (.refAdj o k adj) s (among []) [.time, .log]) ∧
  (∀ s, Frame .counterMismatch s (among (quenchFlds.append (eventFlds.append [.timeStatusMismatch]))) [.parts, .sys, .svc, .queues,
      .log]) ∧
  (∀ m s, Frame (.ptpMessage m) s (among (eventFlds.append [.taskFlagsSoft, .timeStatusSet, .timeStatusServo, .timeServoOffsetNs,
      .timePtpMeanDelayNs, .timePtpMasterLo, .timePtpMasterHi, .timePtpUtcOffset, .timeLaunchArmed, .timeLaunchLate,
      .timeLaunchOverrun, .timeLaunchDone, .timeLaunchLastLo, .timeLaunchLastHi])) [.free, .time, .pins, .out, .queues, .log]) ∧
  (∀ s, Frame .delayReqSend s (among []) [.time, .out]) ∧
  (∀ s, Frame .ptpSourceLoss s (among (eventFlds.append [.timeStatusServo, .timePtpMasterLo, .timePtpMasterHi,
      .timePtpUtcOffset])) [.time, .queues]) ∧
  (∀ s, Frame .ppsEdge s (among (eventFlds.append [.taskFlagsSoft, .timeStatusSet, .timeStatusServo, .timeServoOffsetNs,
      .timeLaunchArmed, .timeLaunchLate, .timeLaunchOverrun, .timeLaunchDone, .timeLaunchLastLo, .timeLaunchLastHi])) [.free, .time,
      .pins, .out, .queues, .log]) ∧
  (∀ s, Frame .ppsLoss s (among (eventFlds.append [.timeStatusPpsLost, .timeStatusServo])) [.time, .queues]) ∧
  (∀ s, Frame .ppsOut s (among []) [.time, .out]) ∧
  (∀ s, Frame .freqSourceLoss s (among (eventFlds.append [.timeStatusFreqLost])) [.time, .queues]) ∧
  (∀ s, Frame .pllRelock s (among []) [.time]) ∧
  (∀ o src s, Frame (.timeCapArm o src) s (among [.timeCapValid, .timeCapSrc]) [.time, .log]) ∧
  (∀ o k s, Frame (.launchArm o k) s (among (eventFlds.append [.taskFlagsSoft, .timeLaunchArmed, .timeLaunchLate, .timeLaunchOverrun,
      .timeLaunchSetupErr, .timeLaunchDone, .timeLaunchLastLo, .timeLaunchLastHi])) [.pins, .out, .queues, .log]) ∧
  (∀ o k s, Frame (.launchDisarm o k) s (among [.timeLaunchArmed]) [.log]) ∧
  (∀ k s, Frame (.launch k) s (among (eventFlds.append [.taskFlagsSoft, .timeLaunchArmed, .timeLaunchOverrun, .timeLaunchDone,
      .timeLaunchLastLo, .timeLaunchLastHi])) [.pins, .out, .queues]) ∧
  (∀ r mode value s, Frame (.timeStep r mode value) s (among (eventFlds.append [.taskFlagsSoft, .timeLaunchArmed, .timeLaunchLate,
      .timeLaunchOverrun, .timeLaunchDone, .timeLaunchLastLo, .timeLaunchLastHi])) [.time, .pins, .out, .commands, .queues, .log]) ∧
  (∀ s, Frame .timeTick s (among (eventFlds.append [.taskFlagsSoft, .timeStatusSet, .timeLaunchArmed, .timeLaunchLate,
      .timeLaunchOverrun, .timeLaunchDone, .timeLaunchLastLo, .timeLaunchLastHi])) [.time, .pins, .out, .queues, .log]) ∧
  (∀ k s, Frame (.triggerInputEdge k) s (among (quenchFlds.append (eventFlds.append [.partCmpStatusMarkOverrun, .partCmpMarkPending,
      .timeCapValid, .timeCapTsLo, .timeCapTsHi]))) [.parts, .trace, .time, .svc, .queues]) ∧
  (∀ o n func s, Frame (.pinFuncSwitch o n func) s (among [.spPinFunc, .spPinShort]) [.pins, .sys, .log]) ∧
  (∀ o n owner s, Frame (.pinOwnerWrite o n owner) s (among [.spPinOwner, .spPinFunc]) [.pins, .sys, .log]) ∧
  (∀ o b vsel s, Frame (.bankVselWrite o b vsel) s (among [.spBankRamping, .spBankVsel]) [.sys, .log]) ∧
  (∀ b s, Frame (.bankRampDone b) s (among [.spBankRamping]) [.pins]) ∧
  (∀ o hi mask s, Frame (.gpioSet o hi mask) s (among [.spGpioOutLo, .spGpioOutHi]) [.log]) ∧
  (∀ o hi mask s, Frame (.gpioClr o hi mask) s (among [.spGpioOutLo, .spGpioOutHi]) [.log]) ∧
  (∀ o hi mask s, Frame (.gpioTgl o hi mask) s (among [.spGpioOutLo, .spGpioOutHi]) [.log]) ∧
  (∀ n s, Frame (.pinShort n) s (among (eventFlds.append [.spPinShort])) [.queues]) ∧
  (∀ o n s, Frame (.shortClear o n) s (among [.spPinShort]) [.log]) ∧
  (∀ s, Frame .strapClose s (among [.spCfgLatched, .spCfgStrap]) [.pins]) ∧
  (∀ s, Frame .strapOpen s (among [.spCfgStrap]) [.pins, .commands]) ∧
  (∀ u byte bad s, Frame (.uartRxByte u byte bad) s (among [.spUartRxDrop]) [.pins]) ∧
  (∀ r u baud format s, Frame (.spUartCfg r u baud format) s (among []) [.pins, .commands, .log]) ∧
  (∀ r u len data s, Frame (.spUartSend r u len data) s (among []) [.out, .commands, .log]) ∧
  (∀ r u max s, Frame (.spUartRecv r u max) s (among []) [.pins, .commands, .log]) ∧
  (∀ r bus speed addr wlen rlen data s, Frame (.spI2cXfer r bus speed addr wlen rlen data) s (among []) [.free, .out, .commands,
      .log]) ∧
  (∀ r cs mode div len data s, Frame (.spSpiXfer r cs mode div len data) s (among []) [.free, .out, .commands, .log])

/-- The rows of power and cooling change no registers but those named, and no part of the state but those listed. An inlet that
powers the module up starts every register anew; the frame is that of a module that is on. A rail fault of a region is named;
one of an anvil, and a thermal trip, take the whole domain. -/
def Obligations.PowerFrames : Prop :=
  (∀ o value s, Frame (.clksetWrite o value) s (among (dropFlds.append [.modClkLimit, .modClksetStepMhzMax])) [.free, .trace, .sys,
      .log]) ∧
  (∀ totalW partW s, Frame (.inputPowerSample totalW partW) s (among (quenchFlds.append (dropFlds.append [.pwrStatusDuty,
      .pwrInTotalW, .pwrDutyPpm]))) [.free, .parts, .trace, .pwr, .svc]) ∧
  (∀ s, Frame .dutyBurstEnd s (among (releaseFlds.append dropFlds)) [.free, .parts, .trace, .pwr]) ∧
  (∀ anvil tj cool1s s, Frame (.thermalCeilingUpdate anvil tj cool1s) s (among (dropFlds.append [.modClkLimit, .pwrBellowsCeilMhz,
      .pwrTjAnvil, .pwrTjMaxC])) [.free, .trace, .pwr]) ∧
  (∀ meanW idle1s s, Frame (.powerCeilingUpdate meanW idle1s) s (among (dropFlds.append [.modClkLimit, .pwrBellowsCeilMhz])) [.free,
      .trace, .pwr]) ∧
  (∀ s, Frame .clockChange s (among quenchFlds) [.parts, .pwr, .svc]) ∧
  (∀ s, Frame .clockChangeRelease s (among (releaseFlds.append (dropFlds.append [.modClkLimit, .modClkStepMhz]))) [.free, .parts,
      .trace, .pwr]) ∧
  (∀ i volts s, s.sys.off = false → Frame (.inletEntersService i volts) s (among (releaseFlds.append (eventFlds.append
      [.pwrStatusFeedA, .pwrStatusFeedB, .svcAvailExtMs]))) [.parts, .pwr, .queues]) ∧
  (∀ n volts s, Frame (.inletLeavesService n volts) s (among (eventFlds.append [.pwrStatusFeedB, .pwrStatusFeedA,
      .pwrInDropoutCount])) [.pwr, .queues]) ∧
  (∀ s, Frame .shareFault s (among (eventFlds.append [.pwrStatusShare])) [.queues]) ∧
  (∀ s, Frame .lowLineEntry s (among (eventFlds.append (dropFlds.append [.modClkLimit, .pwrStatusLowLine,
      .pwrBellowsCeilMhz]))) [.free, .trace, .pwr, .queues]) ∧
  (∀ s, Frame .highLineReturn s (among (eventFlds.append (dropFlds.append [.modClkLimit, .pwrStatusLowLine,
      .pwrBellowsCeilMhz]))) [.free, .trace, .pwr, .queues]) ∧
  (∀ s, Frame .dropoutFreeze s (among (quenchFlds.append (eventFlds.append [.pwrStatusDropout]))) [.parts, .pwr, .svc, .queues]) ∧
  (∀ s, Frame .powerLossShutdown s (fun _ => true) [.held, .latches, .fab, .parts, .dram, .boxes, .trace, .noc, .time, .wl, .pins,
      .pwr, .sys, .svc, .dramMem, .commands, .queues, .log, .keys]) ∧
  (∀ rail kind s, rail < 0x40 → Frame (.railFault rail kind) s (among (quenchFlds.append (eventFlds.append (dropFlds.append
      [.modRgnOnLo, .modRgnOnHi, .nocTagInuse, .nocTagPeak, .nocTagFullCount, .pwrRailFirstValid, .pwrRailFirstKind,
      .pwrRailFirstRail, .pwrRailFaultCount, .svcCond])))) [.free, .fab, .parts, .trace, .noc, .sys, .svc, .queues, .log, .pwr]) ∧
  (∀ anvil s, Frame (.thermalTrip anvil) s (fun _ => true) [.free, .held, .latches, .fab, .parts, .dram, .boxes, .trace, .noc, .time,
      .wl, .pins, .pwr, .sys, .svc, .out, .dramMem, .commands, .queues, .log, .keys]) ∧
  (∀ inDc outDc flowCl s, Frame (.coolantSample inDc outDc flowCl) s (among (eventFlds.append [.pwrStatusCoolTemp,
      .pwrStatusCoolFlow, .pwrCoolInDc, .pwrCoolOutDc, .pwrCoolFlowCl])) [.queues]) ∧
  (∀ s, Frame .auxCurrentLimit s (among (eventFlds.append [.pwrStatusAuxFault])) [.pwr, .queues]) ∧
  (∀ o en s, Frame (.auxEnable o en) s (among [.pwrAuxEn]) [.pwr, .sys, .log])

/-- The rows of start-up, settings and firmware change no registers but those named, and no part of the state but those listed.
The management reset touches the blocks of R417 alone. -/
def Obligations.StartUpFrames : Prop :=
  (∀ s, Frame .firmwareBoot s (fun f => Blk.management f.info.blk || quenchFlds.contains f) [.parts, .time, .pins, .sys, .svc, .queues,
      .log, .keys]) ∧
  (∀ s, Frame .stewardBootTimeout s (fun f => Blk.management f.info.blk || quenchFlds.contains f) [.parts, .time, .pins, .sys, .svc,
      .queues, .log, .keys]) ∧
  (∀ s, Frame .bootComplete s (among (eventFlds.append [.spCfgLatched, .modStateMode])) [.pins, .sys, .queues, .log]) ∧
  (∀ s, Frame .wakingComplete s (blocks [.link, .ddr, .noc, .wlLane,
      .wlBundle] (eventFlds.append (dropFlds.append [.modStateMode]))) [.free, .held, .parts, .dram, .trace, .noc, .wl, .sys, .out,
      .dramMem, .commands, .queues, .log]) ∧
  (∀ s, Frame .sleepingComplete s (among (eventFlds.append [.spCfgLatched, .modStateMode])) [.pins, .sys, .commands, .queues, .log]) ∧
  (∀ r enter s, Frame (.modPower r enter) s (among (eventFlds.append [.modRgnOnLo, .modRgnOnHi, .traceBufValid, .nocFenceDraining,
      .nocFenceFenced, .spCfgLatched, .modStateMode, .svcCond])) [.fab, .noc, .pins, .sys, .commands, .queues, .log]) ∧
  (∀ r force s, Frame (.modReset r 1 force) s (fun f => Blk.resetByMgmt f.info.blk || releaseFlds.contains f) [.held, .parts, .trace,
      .pins, .pwr, .commands, .queues, .log]) ∧
  (∀ r flashBad s, Frame (.settingsSave r flashBad) s (among [.modBootSettingsSrc, .modBootGeneration]) [.sys, .commands, .log]) ∧
  (∀ r flashBad s, Frame (.settingsErase r flashBad) s (among [.modBootSettingsSrc, .modBootGeneration]) [.sys, .commands, .log,
      .keys]) ∧
  (∀ r offset length addr s, Frame (.settingsRead r offset length addr) s (among []) [.free, .hostMem, .commands, .log]) ∧
  (∀ r mode srcPort addr length offset final data flashBad s,
      Frame (.fwStage r mode srcPort addr length offset final data flashBad) s (among [.hostDmaTagPeak, .hostDmaTagFullCount,
      .modFwBValid, .modFwAValid, .modFwVerA, .modFwVerB]) [.free, .sys, .commands, .log]) ∧
  (∀ r flashBad s, Frame (.fwActivate r flashBad) s (among (releaseFlds.append (eventFlds.append (dropFlds.append (loadEndFlds.append
      [.partMemStatusSlotLimit, .partMemSlotsPeak, .partRunReason, .partRunMode, .partCapStatusLast, .partCapStatusState,
      .traceStallNs, .ddrStatusReserveEmpty, .ddrStatusMigrating, .ddrReserveLent, .ddrReserveFree, .ddrSlotPeak, .ddrSlotFullCount,
      .ddrOrdInorder, .mboxStateState, .modFwTrial, .modFwActive]))))) [.free, .fab, .parts, .dram, .boxes, .trace, .pins, .sys,
      .out, .dramMem, .commands, .queues, .log]) ∧
  (∀ s, Frame .stewardReady s (among (quenchFlds.append (eventFlds.append [.timeStatusServo]))) [.parts, .time, .sys, .svc,
      .commands, .queues, .log]) ∧
  (∀ s, Frame .activationTimeout s (among (releaseFlds.append (eventFlds.append (dropFlds.append (loadEndFlds.append
      [.partMemStatusSlotLimit, .partMemSlotsPeak, .partRunReason, .partRunMode, .partCapStatusLast, .partCapStatusState,
      .traceStallNs, .ddrStatusReserveEmpty, .ddrStatusMigrating, .ddrReserveLent, .ddrReserveFree, .ddrSlotPeak, .ddrSlotFullCount,
      .ddrOrdInorder, .mboxStateState, .modFwTrial, .modFwActive]))))) [.free, .fab, .parts, .dram, .boxes, .trace, .pins, .sys,
      .out, .dramMem, .commands, .queues, .log]) ∧
  (∀ r flashBad s, Frame (.fwConfirm r flashBad) s (among [.modFwBValid, .modFwAValid, .modFwNext, .modFwTrial, .modFwVerA,
      .modFwVerB, .modFwSvnMin]) [.sys, .commands, .log])

/-- The rows of service life change no registers but those named, and no part of the state but those listed. -/
def Obligations.ServiceFrames : Prop :=
  (∀ taps s, Frame (.temperSample taps) s (among (quenchFlds.append (eventFlds.append (dropFlds.append [.modClkLimit,
      .hearthTemperWorstTap, .hearthTemperMarginPm, .hearthTemperBilletIn, .hearthTemperBilletPm, .svcCond, .svcTemperCeilMhz,
      .svcTemperSamples, .svcRegionState, .svcRegionVcoreMv, .svcRegionMarginPm])))) [.free, .parts, .trace, .sys, .svc, .commands,
      .queues, .log]) ∧
  (∀ taps s, Frame (.temperResample taps) s (among (quenchFlds.append (eventFlds.append (dropFlds.append [.modClkLimit,
      .hearthTemperWorstTap, .hearthTemperMarginPm, .hearthTemperBilletIn, .hearthTemperBilletPm, .svcCond, .svcTemperCeilMhz,
      .svcRegionState, .svcRegionVcoreMv, .svcRegionMarginPm])))) [.free, .parts, .trace, .sys, .svc, .commands, .queues, .log]) ∧
  (∀ anvil hearth lbps s, Frame (.billetInsertion anvil hearth lbps) s (among quenchFlds) [.parts, .svc]) ∧
  (∀ failed s, Frame (.billetCopyComplete failed) s (among (quenchFlds.append (eventFlds.append [.hearthMapBilletValid,
      .hearthMapBilletLbp, .hearthBilletFailed, .hearthBilletFree, .svcCond, .svcBilletInserts, .svcRegionState]))) [.fab, .parts,
      .sys, .svc, .commands, .queues, .log]) ∧
  (∀ st key s, Frame (.storeScrub st key) s (among (quenchFlds.append (eventFlds.append [.hearthErrStatusCorr, .hearthErrCorrCount,
      .hearthEgrStatusCorr, .hearthEgrCorrCount, .hearthBilletFailed, .hearthBilletFree, .svcCond, .svcRegionState]))) [.fab, .parts,
      .sys, .svc, .queues, .log]) ∧
  (∀ c s, Frame (.heartbeatTimeout c) s (among (quenchFlds.append (eventFlds.append (dropFlds.append (loadEndFlds.append
      [.partMemStatusSlotLimit, .partMemSlotsPeak, .partRunReason, .partRunMode, .partCapStatusLast, .partCapStatusState,
      .traceStallNs, .ddrStatusReserveEmpty, .ddrStatusMigrating, .ddrReserveLent, .ddrReserveFree, .ddrSlotPeak, .ddrSlotFullCount,
      .ddrOrdInorder, .mboxStateState, .svcCond, .svcStewardFailovers, .svcStewardAnvil, .svcCpout]))))) [.free, .fab, .parts, .dram,
      .boxes, .trace, .pins, .sys, .svc, .out, .dramMem, .commands, .queues, .log]) ∧
  (∀ a port s, Frame (.linkUncorrectableWord a port) s (among (quenchFlds.append (eventFlds.append [.linkErrUncorr, .svcCond,
      .svcLinkOut]))) [.fab, .parts, .sys, .svc, .queues, .log]) ∧
  (∀ a port ok s, Frame (.linkRetrain a port ok) s (among (eventFlds.append [.svcCond, .svcLinkOut])) [.sys, .queues, .log]) ∧
  (∀ s, Frame .mgmtLinkLoss s (among (quenchFlds.append eventFlds)) [.parts, .sys, .svc, .queues, .log]) ∧
  (∀ r scope enter regions s, Frame (.svcMaint r scope enter regions) s (blocks [.hearth, .link, .ddr, .noc, .wlLane,
      .wlBundle] (eventFlds.append (dropFlds.append [.modRgnOnLo, .modRgnOnHi, .modStateMode, .svcCond, .svcRegionState]))) [.free,
      .held, .fab, .parts, .dram, .trace, .noc, .wl, .sys, .svc, .out, .dramMem, .commands, .queues, .log]) ∧
  (∀ r regions finds s, Frame (.svcSelftest r regions finds) s (among (quenchFlds.append (eventFlds.append [.hearthBilletFailed,
      .hearthBilletFree, .svcCond, .svcRegionState]))) [.fab, .parts, .sys, .svc, .commands, .queues, .log]) ∧
  (∀ r s, Frame (.temperReplan r) s (among (dropFlds.append [.modClkLimit, .svcTemperCeilMhz, .svcRegionVcoreMv])) [.free, .trace,
      .sys, .svc, .commands, .log]) ∧
  (∀ r anvil hearth lbp s, Frame (.billetInsert r anvil hearth lbp) s (among (quenchFlds.append (eventFlds.append
      [.hearthBilletFailed, .hearthBilletFree, .svcCond]))) [.parts, .sys, .svc, .commands, .queues, .log])

/-- A step takes the command at the front of the queue and runs it with the queue's rest. -/
def Obligations.StepRunsFrontCommand : Prop :=
  ∀ (c : Instr) (cs : List Instr) (s : State), step { s with pending := c :: cs } = exec c { s with pending := cs }
/-- On an empty queue the block idles (the model's choice, log entry 5). -/
def Obligations.EmptyQueueIdles : Prop := ∀ s : State, s.pending = [] → step s = .next s
/-- No command is refused and none faults: every command of the table answers a next state from every state. -/
def Obligations.EveryCommandAnswers : Prop := ∀ c s, ∃ t, exec c s = .next t
/-- A command changes neither the queue of waiting commands nor the grade and the stepping of the module. -/
def Obligations.CommandsKeepQueueAndGrade : Prop :=
  ∀ c s t, exec c s = .next t → t.pending = s.pending ∧ t.grade = s.grade ∧ t.stepping = s.stepping
/-- After reset every register reads the Reset column of its table; the fields that report an identity, the latencies of the
stepping or a record of the factory read what that is (R12, R20, R93, R276, R287, R311, R348). -/
def Obligations.ResetRegisters : Prop :=
  (∀ f i j, f ∉ [Fld.modIdGrade, .modIdStepping, .modIdAnvilMask, .modSerialLo, .modSerialHi, .hearthIdAnvil, .hearthIdHearth,
    .linkIdPeer, .linkIdPort, .linkLatBase, .modLatLinkBase, .modLatHzLead, .nocRouteSet0, .queueCfgPart, .wlTrainLogical,
    .timeAdjEthRx, .timeAdjEthTx, .timeAdjPps, .timeAdjWlRx, .timeAdjWlTx, .timeAdjTrig] → State.reset.reg f i j = f.info.reset) ∧
  State.reset.reg .modIdGrade 0 0 = State.reset.grade.code ∧ State.reset.reg .modIdStepping 0 0 = State.reset.stepping.code ∧
  (∀ q, State.reset.reg .queueCfgPart q 0 = q / 128) ∧
  (∀ a l, l < 3 → State.reset.reg .linkIdPeer (3 * a + l) 0 = linkPeer a l ∧ State.reset.reg .linkIdPort (3 * a + l) 0 = l) ∧
  (∀ a h, h < 128 → State.reset.reg .hearthIdAnvil (128 * a + h) 0 = a ∧ State.reset.reg .hearthIdHearth (128 * a + h) 0 = h) ∧
  (∀ l, l < 64 → State.reset.reg .wlTrainLogical l 0 = l % 8) ∧
  State.reset.pending = [] ∧ State.reset.partitions = [] ∧ State.reset.modMode = Mod.boot
/-- After reset the registers and the memories are canonical. -/
def Obligations.ResetIsTidy : Prop := Tidy State.reset
/-- Every step keeps the registers and the memories canonical: keys strictly rising, no entry equal to what an unlisted key reads
as, from every state in which they are. -/
def Obligations.StepKeepsTidy : Prop := ∀ s t, Tidy s → step s = .next t → Tidy t
/-- A command on one instance of a block leaves the other instances as they were: a timer, a launcher, a reference, a pin, a bank, a
UART, a queue, a host port, a stream, a region. -/
def Obligations.OneInstanceOnly : Prop :=
  (∀ p j s, Confined (.timerExpired p j) s fun f i k => decide (f = .partTrigTmrExpired ∧ i = p ∧ k = j)) ∧
  (∀ o k s, Confined (.launchDisarm o k) s fun f _ j => decide (f = .timeLaunchArmed ∧ j = k)) ∧
  (∀ o k s, Confined (.launchArm o k) s fun f _ j => decide (f.info.blk ≠ .time ∨ j = k)) ∧
  (∀ o k r s, Confined (.refRateWrite o k r) s fun f _ j => decide ((f = .timeRefRateNs ∨ f = .timeRefRateFrac) ∧ j = k)) ∧
  (∀ o n func s, Confined (.pinFuncSwitch o n func) s fun f _ j => decide ((f = .spPinFunc ∨ f = .spPinShort) ∧ j = n)) ∧
  (∀ o n owner s, Confined (.pinOwnerWrite o n owner) s fun f _ j => decide ((f = .spPinOwner ∨ f = .spPinFunc) ∧ j = n)) ∧
  (∀ n s, Confined (.pinShort n) s fun f _ j => eventFlds.contains f || decide (f = .spPinShort ∧ j = n)) ∧
  (∀ o n s, Confined (.shortClear o n) s fun f _ j => decide (f = .spPinShort ∧ j = n)) ∧
  (∀ o b vsel s, Confined (.bankVselWrite o b vsel) s fun f _ j => decide ((f = .spBankVsel ∨ f = .spBankRamping) ∧ j = b)) ∧
  (∀ b s, Confined (.bankRampDone b) s fun f _ j => decide (f = .spBankRamping ∧ j = b)) ∧
  (∀ u byte bad s, Confined (.uartRxByte u byte bad) s fun f _ j => decide (f = .spUartRxDrop ∧ j = u)) ∧
  (∀ r q part port s, Confined (.queueAssign r q part port) s fun _ i _ => decide (i = q)) ∧
  (∀ r q type sl el base wb pair s, Confined (.queueSetup r q type sl el base wb pair) s fun _ i _ => decide (i = q)) ∧
  (∀ r ident s, Confined (.hostIdentify r ident) s fun f i _ => decide (f = .hostId ∧ r.org = .host i)) ∧
  (∀ r port grant bad s, Confined (.roleGrant r port grant bad) s fun f i _ =>
    decide (f = .modBootSettingsSrc ∨ f = .modBootGeneration ∨ (f = .hostRoleGrant ∧ i = port))) ∧
  (∀ n width speed s, Confined (.hostLinkUp n width speed) s fun f i _ =>
    decide ((f = .hostLinkUp ∨ f = .hostLinkWidth ∨ f = .hostLinkSpeed) ∧ i = n)) ∧
  (∀ n m record s, Confined (.mboxGo n m record) s fun f i _ =>
    decide ((f = .mboxStateState ∨ f = .mboxStateProto) ∧ i = mbInst n m)) ∧
  (∀ b k gen limit s, Confined (.credit b k gen limit) s fun f i _ =>
    decide ((f = .wlStreamOutLimit ∨ f = .wlStreamStallNs) ∧ i = k)) ∧
  (∀ k s, Confined (.frameTransmit k) s fun f i _ => decide ((f = .wlStreamOutSseq ∨ f = .wlStreamStallNs) ∧ i = k)) ∧
  (∀ k s, Confined (.creditSend k) s fun f i _ => decide (f = .wlStreamInLimit ∧ i = k)) ∧
  ∀ r k s, Confined (.wlStreamUnbind r k) s fun _ i _ => decide (i = k)
/-- A lane's bring-up, its faults and its counters leave the registers of every other lane as they were. -/
def Obligations.OneLaneOnly : Prop :=
  ∀ c l s, (∃ o, c = .laneEnable o l) ∨ (∃ o, c = .laneDisable o l) ∨ (∃ o, c = .retrain o l) ∨ c = .terminationDetect l ∨
    c = .cdrLock l ∨ c = .blockLock l ∨ (∃ x, c = .tsDetected l x) ∨ c = .trainTimeout l ∨ c = .lockLoss l ∨ (∃ x, c = .cap l x) ∨
    c = .replayTimeout l ∨ c = .crcErrorLimit l ∨ (∃ x, c = .blockDiscard l x) ∨ c = .prbsCheckerLock l ∨ c = .prbsLockLoss l →
    Confined c s fun f i _ => decide (f.info.blk ≠ .wlLane ∨ i = l)
/-- Commands and events of one partition leave every PART, CMP and OBS register of every other partition as it was; its loads
neither quench nor change another partition (R206). -/
def Obligations.PartitionsDoNotInterfere : Prop :=
  ∀ c p s, c = .freezeLands p ∨ c = .partitionResume p ∨ (∃ o, c = .hostAbort o p) ∨ (∃ j, c = .timerExpired p j) ∨
    c = .timeReached p ∨ (∃ o, c = .trigCtlArm o p) ∨ (∃ o, c = .trigCtlDisarm o p) ∨ c = .captureDrainComplete p ∨
    c = .acqSegmentOpen p ∨ (∃ r m port, c = .partCreate r p m port) ∨ (∃ r, c = .partDestroy r p) ∨
    (∃ r port, c = .partBind r p port) ∨ (∃ r m a n, c = .partRun r p m a n) ∨ (∃ r f a, c = .partStop r p f a) ∨
    (∃ r n a, c = .partHalt r p n a) ∨ (∃ r a, c = .partResume r p a) ∨ (∃ r, c = .partUnload r p) ∨
    (∃ r x a n f, c = .partLoad r p x a n f) ∨ (∃ img, c = .loadHeader p img) ∨ (∃ img, c = .loadPlan p img) ∨
    (∃ img, c = .loadCheck p img) ∨ c = .loadPrepare p ∨ (∃ r a n e f, c = .captureRequest r p a n e f) ∨
    (∃ r, c = .captureRelease r p) →
    Confined c s fun f i _ => !([Blk.part, .cmp, .obs].contains f.info.blk) || decide (i = p)

/-- A command that brings bytes to the host stores to no other byte of host memory: STATE_READ to the COUNT units from ADDR, in the
format of the KIND; CAPTURE_DRAM_READ and SETTINGS_READ to LENGTH bytes; AUDIT_READ to 64 bytes for each of COUNT entries; each at
the port that issued it, and at none for an origin without host memory. -/
def Obligations.HostMemoryWindows : Prop :=
  (∀ r p kind anvil hearth first count addr s t port b, exec (.stateRead r p kind anvil hearth first count addr) s = .next t →
    ¬(r.org = .host port ∧ addr ≤ b ∧
      b < addr + count * (if kind = 0 then 32 else if kind = 1 then 128 else if kind = 2 ∨ kind = 3 then 64 else 1)) →
    t.hostByte port b = s.hostByte port b) ∧
  (∀ r p anvil offset length addr s t port b, exec (.captureDramRead r p anvil offset length addr) s = .next t →
    ¬(r.org = .host port ∧ addr ≤ b ∧ b < addr + length) → t.hostByte port b = s.hostByte port b) ∧
  (∀ r first count addr s t port b, exec (.auditRead r first count addr) s = .next t →
    ¬(r.org = .host port ∧ addr ≤ b ∧ b < addr + 64 * count) → t.hostByte port b = s.hostByte port b) ∧
  ∀ r offset length addr s t port b, exec (.settingsRead r offset length addr) s = .next t →
    ¬(r.org = .host port ∧ addr ≠ 0 ∧ addr ≤ b ∧ b < addr + length) → t.hostByte port b = s.hostByte port b
/-- STATE_DEPOSIT stores to no bank byte and no user-state bit but those it addresses, and to no DRAM byte before the controller serves
its parts. DRAM_REQUEST_SERVE stores to no DRAM byte but those of a request that writes, and of a burst that a scrub corrects: DRAM
bytes outside the burst keep their value, and those of the burst outside the bytes of the write too where the burst is good. A page
that retires or migrates is written nowhere but in its new place. Reserve pages that are free may take snapshot copies (R214), so
they are left out. -/
def Obligations.DepositAndServeWindows : Prop :=
  (∀ r p kind anvil hearth first count addr flags data s t, exec (.stateDeposit r p kind anvil hearth first count addr flags data) s = .next t →
    (∀ k : Key, (kind = 4 ∨ kind = 5 → ∀ x, x < count → k ≠ [anvil, hearth, kind - 4, first + x]) →
      Tab.get 0 t.fab.banks k = Tab.get 0 s.fab.banks k) ∧
    (∀ k : Key, (kind = 0 → ∀ x, x < count → ∀ u, u < 256 → k ≠ [anvil, hearth, first + x, 1536 + u]) →
      Tab.get false t.fab.mem k = Tab.get false s.fab.mem k) ∧
    ∀ a l, t.dramByte a l = s.dramByte a l) ∧
  (∀ a id bad second crc s t a' l, exec (.dramRequestServe a id bad second crc) s = .next t →
    l / 4096 < 0x7C0000 ∨ Tab.get false s.dram.used [a', l / 4096] = true →
    (∀ x, (s.reqs a).find? (fun x => decide (x.id = id)) = some x → x.write = true ∨ x.src = .scrub → a' = a →
      s.reqLin a x / 64 = l / 64 → x.src ≠ .scrub ∧ Tab.get false s.dram.rankOut [a, linRank (s.reqLin a x)] = false ∧
        s.delivered a x bad second = some (s.burstOf a x) ∧
        ∀ k, k < x.len → (x.data.getD k none).isSome = true → s.dram.lin a (x.addr + k) ≠ l) →
    t.dramByte a' l = s.dramByte a' l) ∧
  (∀ a page reads s t a' l, exec (.pageRetirement a page reads) s = .next t →
    a' ≠ a ∨ s.dram.freePage a none ≠ some (l / 4096) → t.dramByte a' l = s.dramByte a' l) ∧
  ∀ a reads s t a' l, exec (.migrationStep a reads) s = .next t →
    a' ≠ a ∨ (∀ r, s.migratingRank a = some r → s.dram.freePage a (some (1 - r)) ≠ some (l / 4096)) →
    t.dramByte a' l = s.dramByte a' l

/-- R154: PART_CREATE gives a partition the quench latency 6 + L_BASE × H, where H is the largest number of relay hops between two
anvils that hold a region of it: 0 for one anvil, at most 4, and at most 3 on the TZ-4H. PART.QUENCH.Q_LAT reports it; it is at most
38 on A0 and at most 30 on B0. -/
def Obligations.QuenchLatency : Prop :=
  ∀ r p regions port s, s.fresh r = true → s.isOwner r.org = true → p < 32 → port < 4 → s.portPresent port = true →
    s.pExists p = false → setBitsOf 64 regions ≠ [] → (∀ x ∈ setBitsOf 64 regions, x < s.grade.regions) →
    (setBitsOf 64 regions).any s.regionBusy = false → s.modQuiet = false → (setBitsOf 64 regions).any s.domainFailed = false →
    Completes (.partCreate r p regions port) r s fun t => ∃ h,
      t.reg .partQuenchQLat p 0 = 6 + s.stepping.lBase * h ∧
      (∀ x ∈ setBitsOf 64 regions, ∀ y ∈ setBitsOf 64 regions, relayHops (x / 8) (y / 8) ≤ h) ∧
      (∃ x ∈ setBitsOf 64 regions, ∃ y ∈ setBitsOf 64 regions, relayHops (x / 8) (y / 8) = h) ∧
      ((∀ x ∈ setBitsOf 64 regions, ∀ y ∈ setBitsOf 64 regions, x / 8 = y / 8) → h = 0) ∧
      h ≤ 4 ∧ (s.grade = .tz4h → h ≤ 3) ∧
      t.reg .partQuenchQLat p 0 ≤ match s.stepping with | .a0 => 38 | .b0 => 30
/-- R15: a read of a boundary field returns the value in effect, not the pending value; a second write before the commit point
replaces the pending value, and the last one commits; all that are due commit together, and what is not due stays as it was. -/
def Obligations.BoundaryFieldsCommitTogether : Prop :=
  ∀ (s : State) (ws : List (Fld × Nat × Nat × Nat)) (p : Key → Bool) (f : Fld) (i j : Nat), s.held = [] →
    let t := ws.foldl (fun s w => s.hold w.1 w.2.1 w.2.2.1 w.2.2.2) s
    t.reg f i j = s.reg f i j ∧
    let last := (ws.filter fun w => decide (w.1 = f ∧ w.2.1 = i ∧ w.2.2.1 = j)).getLast?
    (∀ w, last = some w → t.pendingOr f i j = w.2.2.2 ∧
      (if p (f.key i j) then (t.commit p).reg f i j = w.2.2.2 % 2 ^ f.width
       else (t.commit p).reg f i j = s.reg f i j ∧ (t.commit p).pendingOr f i j = w.2.2.2)) ∧
    (last = none → (t.commit p).reg f i j = s.reg f i j ∧ (t.commit p).pendingOr f i j = s.reg f i j)
/-- R157: a partition that executes no steps is not quenched. A self-releasing or held cause that arises then changes nothing but the
EVENTS counter of its cause; a fault cause is latched, and PART_RUN and PART_RESUME without ACK_FAULT complete with
QUENCH_FAULT_HELD and change nothing. -/
def Obligations.OnlyExecutingPartitionsQuench : Prop :=
  (∀ (s : State) p c e, s.executing p = false → Cause.isFault c = false → s.assertCause p c e = s.bump .partQuenchEvents p c 1) ∧
  (∀ (s : State) p c e, s.executing p = false → Cause.isFault c = true →
    bit ((s.assertCause p c e).latchedMask p) c = true ∧ (s.assertCause p c e).faultHeld p = true ∧
    (s.assertCause p c e).frozen p = s.frozen p ∧ (s.assertCause p c e).mode p = s.mode p ∧
    (s.assertCause p c e).reg .partQuenchEvents p c =
      min (2 ^ Fld.partQuenchEvents.width - 1) (s.reg .partQuenchEvents p c + 1)) ∧
  (∀ r p mode ack cycles s, s.admits r p = true → s.role r.org ≠ Role.local_ → mode < 2 → ack = 0 → s.loadStage p = 0 →
    s.mode p = Mode.ready → s.modMode ≠ Mod.maintenance → (s.regions p).all s.regionOn = true → s.sourceBad p mode = false →
    s.faultHeld p = true →
    Answers (.partRun r p mode ack cycles) s fun t => t.statusOf r = some .quenchFaultHeld ∧
      Touches (fun _ => false) [.commands, .log] s t) ∧
  ∀ r p ack s, s.admits r p = true → s.role r.org ≠ Role.local_ → ack = 0 → s.loadStage p = 0 → s.mode p = Mode.inspect →
    s.finishes p = false → (s.regions p).all s.regionOn = true → s.faultHeld p = true →
    Answers (.partResume r p ack) s fun t => t.statusOf r = some .quenchFaultHeld ∧
      Touches (fun _ => false) [.commands, .log] s t
/-- R159: a cause that asserts again counts one more event and extends nothing; a release and a new assertion of any cause in one
step leave a frozen partition frozen; a quench never changes a mode, and the partition stays in its mode with PART.RUN.QUENCHED = 1.
That a cause whose landing point the cause table names, and which still lies ahead, lets a partition that nothing else holds run on to
that point is the model's reading of R155 (log entry 169). -/
def Obligations.AssertedAgainExtendsNothing : Prop :=
  (∀ (s : State) p c e, s.executing p = true → bit (s.activeMask p) c = true →
    (s.assertCause p c e).activeMask p = s.activeMask p ∧ ((s.assertCause p c e).part p).entering = (s.part p).entering ∧
    (s.assertCause p c e).frozen p = s.frozen p ∧
    (s.assertCause p c e).reg .partQuenchEvents p c =
      min (2 ^ Fld.partQuenchEvents.width - 1) (s.reg .partQuenchEvents p c + 1)) ∧
  (∀ (s : State) p c c' e latch t, s.executing p = true → s.frozen p = true → 1 ≤ c' → c' ≤ 0xC →
    exec (.partitionResume p) ((s.releaseCause p c).assertAt p c' e latch false) = .next t → t.frozen p = true) ∧
  (∀ (s : State) p c c' e t, s.executing p = true → s.frozen p = true → 1 ≤ c' → c' ≤ 0xC →
    s.reached p ⟨c', e.1, e.2, true⟩ = true → (∀ x ∈ (s.part p).entering, s.reached p x = true) →
    exec (.partitionResume p) ((s.releaseCause p c).assertCause p c' e) = .next t → t.frozen p = true) ∧
  (∀ (s : State) p c e, (s.assertCause p c e).mode p = s.mode p) ∧
  (∀ (s : State) p t, s.executing p = true → s.landings p ≠ [] → (s.part p).haltNow = [] → exec (.freezeLands p) s = .next t →
    t.mode p = s.mode p ∧ t.reg .partRunQuenched p 0 = 1) ∧
  ∀ (s : State) p t, (s.part p).haltNow = [] → exec (.partitionResume p) s = .next t → t.mode p = s.mode p
/-- R150: a HALT-IF halt wins the boundary over every other mode change. Whichever change wins (2 trigger halt, 3 PART_HALT, 4 PART_STOP,
5 CYCLES), the partition enters its mode, and every PART_HALT and PART_STOP that loses completes with MODE_SUPERSEDED; of several
PART_HALTs, or PART_STOPs, the oldest is the one that wins, which is the model's choice (log entry 14). -/
def Obligations.OneModeChangeWins : Prop :=
  (∀ s p t, s.boundaryDue p = true → s.haltIf p = true → exec (.cycleBoundary p) s = .next t →
    t.mode p = Mode.inspect ∧ t.reg .partRunReason p 0 = 4) ∧
  ∀ (s : State) (p w : Nat) (r : CmdRef), 1 ≤ w → w ≤ 5 →
    let rs := (s.part p).halts ++ (s.part p).stops.map Prod.fst ++ (s.part p).haltNow
    rs.Nodup → (∀ x ∈ rs, ∃ b, s.busyOf x = some b ∧ b.ans = none) → r ∈ rs →
    ((s.changeMode p w).part p).halts = [] ∧ ((s.changeMode p w).part p).stops = [] ∧ ((s.changeMode p w).part p).haltNow = [] ∧
    (s.changeMode p w).mode p = (if w ≤ 3 then Mode.inspect else Mode.ready) ∧
    (s.changeMode p w).statusOf r = some
      (if (w = 3 ∧ (s.part p).halts.head? = some r) ∨ (w = 4 ∧ ((s.part p).stops.map Prod.fst).head? = some r) then Status.ok
       else Status.modeSuperseded)
/-- R101: a routing wire with several drivers carries the value of the driver with the lowest number, and the wire counts as driven
twice; one with a single driver carries that driver's value; an undriven wire carries 0. -/
def Obligations.LowestDriverWins : Prop :=
  (∀ (ds : List Drive) (d : Drive), d ∈ ds → (∀ x ∈ ds, (x.a, x.h, x.c) = (d.a, d.h, d.c) → x ≠ d → d.driver < x.driver) →
    let w := Tab.get Wire.init (wiresOf ds) [d.a, d.h, d.c]
    w.value = d.value ∧ w.winner = d.driver ∧ w.count = (ds.filter fun x => decide ((x.a, x.h, x.c) = (d.a, d.h, d.c))).length ∧
    (∀ x ∈ ds, (x.a, x.h, x.c) = (d.a, d.h, d.c) → x ≠ d → ds.Nodup → w.loser ≤ x.driver ∧ 2 ≤ w.count)) ∧
  ∀ (ds : List Drive) (a h c : Nat), (∀ x ∈ ds, (x.a, x.h, x.c) ≠ (a, h, c)) → Tab.get Wire.init (wiresOf ds) [a, h, c] = Wire.init

/-- R443: a read of the LO word of a pair latches the HI word for that origin; the first read of the HI word after it returns the stored
value and spends the latch; without a latch it returns the live word; a second LO read replaces the stored value; other reads, and
the reads of other origins, leave the latch. A WO field reads 0, and an RC field is cleared by its read (R10). No read changes
another register, but that of a PRBS count brings the counts of its lane up to date while the checker is locked (R354). -/
def Obligations.RegisterReads : Prop :=
  (∀ (s : State) (o : Origin) (f : Fld) i j, f.info.acc = .wo → (s.takeField o (f.info, i, j)).1 = 0) ∧
  (∀ (s : State) (o : Origin) (f : Fld) i j, f.info.acc = .rc → (s.takeField o (f.info, i, j)).1 = (s.readField f.info i j).1 ∧
    (s.takeField o (f.info, i, j)).2.reg f i j = 0 ∧
    ∀ g k l, (g, k, l) ≠ (f, i, j) → (prbsFlds.contains g = false ∨ prbsFlds.contains f = false ∨ s.flag .wlPrbsLock i 0 = false) →
      (s.takeField o (f.info, i, j)).2.reg g k l = s.reg g k l) ∧
  (∀ (s : State) (o : Origin) (f : Fld) i j g k l, f.info.acc ≠ .rc →
    (prbsFlds.contains g = false ∨ prbsFlds.contains f = false ∨ s.flag .wlPrbsLock i 0 = false) →
    (s.takeField o (f.info, i, j)).2.reg g k l = s.reg g k l) ∧
  (∀ (s : State) (o : Origin) (p : Fld × Fld) i j, p ∈ latchPairs →
    Tab.get none (s.takeField o (p.1.info, i, j)).2.latches (latchKey o (Fld.addr p.2 i j)) =
      some ((s.takeField o (p.1.info, i, j)).2.view p.2 i j) ∧
    (prbsFlds.contains p.1 = false ∨ s.flag .wlPrbsLock i 0 = false → (s.takeField o (p.1.info, i, j)).2.view p.2 i j = s.view p.2 i j) ∧
    ∀ k : Key, k ≠ latchKey o (Fld.addr p.2 i j) →
      Tab.get none (s.takeField o (p.1.info, i, j)).2.latches k = Tab.get none s.latches k) ∧
  (∀ (s : State) (o : Origin) (p : Fld × Fld) i j, p ∈ latchPairs →
    (s.takeField o (p.2.info, i, j)).1 =
      (Tab.get none s.latches (latchKey o (Fld.addr p.2 i j))).getD (s.readField p.2.info i j).1 ∧
    Tab.get none (s.takeField o (p.2.info, i, j)).2.latches (latchKey o (Fld.addr p.2 i j)) = none ∧
    ∀ k : Key, k ≠ latchKey o (Fld.addr p.2 i j) →
      Tab.get none (s.takeField o (p.2.info, i, j)).2.latches k = Tab.get none s.latches k) ∧
  (∀ (s : State) (o : Origin) (f : Fld) i j, (∀ p ∈ latchPairs, p.1 ≠ f ∧ p.2 ≠ f) → (s.takeField o (f.info, i, j)).2.latches = s.latches) ∧
  ∀ (o o' : Origin) (x y : Nat), latchKey o x = latchKey o' y → o = o' ∧ x = y
/-- A register write that the origin's role does not permit changes nothing and is entered in the audit log with NOT_OWNER (R146,
R302; a queue of another port counts it too, R311). A static field outside its permitted modes keeps its value, and the attempt is
logged with FIELD_CLASS_VIOLATION (R14); inside them it takes the value at once (R13). A word that is not present takes nothing (R3),
and an access that is not of 4 or 8 aligned bytes sets HOST.ERR.STATUS.ACCESS of its port alone (R299). -/
def Obligations.RefusedRegisterWrites : Prop :=
  (∀ o addr v (s : State) (w : WordAt), s.sys.off = false → addr % 4 = 0 → addr < bar2Base → decodeAddr addr = some w →
    s.present w = true → w.fields ≠ [] → (w.blk = .queue → (s.qPort w.inst).isSome = true) → s.mayWrite o w = false →
    Answers (.registerWrite o addr 4 v) s fun t => Touches (among [.hostErrForeignCount]) [.log] s t ∧
      (w.blk ≠ .queue → ∀ n, t.reg .hostErrForeignCount n 0 = s.reg .hostErrForeignCount n 0) ∧
      ∃ e, t.host.log.getLast? = some e ∧ e.status = Status.notOwner.num ∧ e.kind = 0 ∧ e.field = w.addr ∧
        e.role = s.role o ∧ bit e.flags 2 = true) ∧
  (∀ (s : State) (o : Origin) (w : WordAt), w.blk = .part ∨ w.blk = .cmp → (s.mayWrite o w = true ↔ s.isOwner o = true ∨ s.isTenantOf o w.inst = true)) ∧
  (∀ (s : State) (o : Origin) part (f : Fld) i j n v, f.info.cls = .static → s.staticOk f i j = false →
    Touches (fun _ => false) [.log] s (s.takeClass o part f i j n v) ∧
    ∃ e, (s.takeClass o part f i j n v).host.log.getLast? = some e ∧ e.status = Status.fieldClassViolation.num ∧ e.part = part) ∧
  (∀ (s : State) (o : Origin) part (f : Fld) i j n v, f.info.cls = .static → s.staticOk f i j = true → n < 2 ^ f.width →
    (s.takeClass o part f i j n v).reg f i j = n) ∧
  (∀ (s : State) (f : Fld) i j, f.info.blk = .part ∨ f.info.blk = .cmp ∨ f.info.blk = .obs →
    (s.staticOk f i j = true ↔ s.pExists i = true → s.mode i = Mode.ready ∨ s.mode i = Mode.loading)) ∧
  (∀ o addr v (s : State) (w : WordAt), addr % 4 = 0 → addr < bar2Base → decodeAddr addr = some w → s.present w = false →
    exec (.registerWrite o addr 4 v) s = .next s) ∧
  (∀ o addr v (s : State) (w w' : WordAt), addr % 8 = 0 → addr < bar2Base → decodeAddr addr = some w → s.present w = false →
    decodeAddr (addr + 4) = some w' → s.present w' = false → exec (.registerWrite o addr 8 v) s = .next s) ∧
  ∀ o addr size v (s : State), s.sys.off = false → accessOk addr size = false →
    Answers (.registerWrite o addr size v) s fun t => Touches (among [.hostErrStatusAccess]) [] s t ∧
      ∀ n, o = .host n → t.flag .hostErrStatusAccess n 0 = true
/-- A command that names a partition, from an origin that is neither the owner nor the partition's tenant port, completes with NOT_OWNER;
one that names a partition that does not exist completes with NOT_PRESENT. Either changes nothing but the audit log (R146, R147,
R444). -/
def Obligations.ForeignPartitionCommandsRefused : Prop :=
  ∀ c r p s, s.fresh r = true → s.role r.org ≠ Role.local_ →
    (∃ m a n, c = .partRun r p m a n) ∨ (∃ f a, c = .partStop r p f a) ∨ (∃ n a, c = .partHalt r p n a) ∨
    (∃ a, c = .partResume r p a) ∨ c = .partUnload r p ∨ (∃ a n e f, f < 4 ∧ c = .captureRequest r p a n e f) ∨ c = .captureRelease r p ∨
    (∃ k a h x n d, a < s.grade.anvils ∧ h < 128 ∧ (k ≤ 3 → x < 1024) ∧ c = .stateRead r p k a h x n d) ∨
    (∃ a o n d, a < s.grade.anvils ∧ c = .captureDramRead r p a o n d) ∨
    (∃ k a h x n d f b, a < s.grade.anvils ∧ h < 128 ∧ f < 2 ∧ (k = 0 → x < 1024) ∧ c = .stateDeposit r p k a h x n d f b) →
    (s.pExists p = true → s.mayPart r.org p = false →
      Answers c s fun t => t.statusOf r = some .notOwner ∧ Touches (fun _ => false) [.commands, .log] s t) ∧
    (s.pExists p = false →
      Answers c s fun t => t.statusOf r = some .notPresent ∧ Touches (fun _ => false) [.commands, .log] s t)
/-- A command that is answered has its status, and one audit entry with its code, status, origin and partition, unless it is one of
the four that the log leaves out (R325, R326). An entry read is 64 bytes, its fields at the offsets of R326. -/
def Obligations.AuditEntries : Prop :=
  (∀ (s : State) (r : CmdRef) (a : Answer) b, s.busyOf r = some b → b.ans = none →
    (s.answer r a).statusOf r = some a.status ∧
    (unaudited b.code = true → (s.answer r a).host.log = s.host.log) ∧
    (unaudited b.code = false → (s.answer r a).host.logSeq = s.host.logSeq + 1 ∧
      ∃ e, (s.answer r a).host.log.getLast? = some e ∧ e.seq = s.host.logSeq ∧ e.time = s.refNs 1 ∧ e.kind = 1 ∧ e.field = b.code ∧
        e.status = a.status.num ∧ e.part = b.part ∧ e.role = b.role ∧ e.hostId = b.hostId ∧ e.port = portByteOf r.org ∧
        (bit e.flags 2 = true ↔ a.status ≠ .ok))) ∧
  ∀ e : AuditEntry, e.hostId.length = 16 → e.bytes.length = 64 ∧ le e.bytes 0 8 = e.time % 2 ^ 64 ∧ le e.bytes 8 8 = e.seq % 2 ^ 64 ∧
    le e.bytes 16 1 = e.role % 256 ∧ le e.bytes 17 1 = e.port % 256 ∧ le e.bytes 18 2 = e.status % 2 ^ 16 ∧
    le e.bytes 20 1 = e.kind % 256 ∧ le e.bytes 21 1 = e.flags % 256 ∧ le e.bytes 22 2 = e.part % 2 ^ 16 ∧
    le e.bytes 24 4 = e.field % 2 ^ 32 ∧ le e.bytes 28 4 = e.mask % 2 ^ 32 ∧ slice e.bytes 32 16 = e.hostId ∧
    le e.bytes 48 8 = e.old % 2 ^ 64 ∧ le e.bytes 56 8 = e.new % 2 ^ 64
/-- A request record that is formed from parameters, and parsed, gives the parameters back: PLEN is the end of the last one rounded up to 8,
every integer lies aligned to its size, every byte between them is 0, and the header gives CODE, PLEN, SEQ, FLAGS and VECTOR (R308,
R309). -/
def Obligations.RequestRecordRoundTrip : Prop :=
  ∀ kvs : List (PKind × Nat),
    (∀ e ∈ kvs, PKind.holds e.1 e.2 = true) →
    (formParams 0 kvs).length = plenOf (kvs.map Prod.fst) ∧
    parseParams (kvs.map Prod.fst) (formParams 0 kvs) = kvs.map Prod.snd ∧
    gapsClear (kvs.map Prod.fst) (formParams 0 kvs) = true ∧
    ∀ code seq flags vector, code < 2 ^ 16 → (formParams 0 kvs).length < 2 ^ 16 → seq < 2 ^ 32 → flags < 2 ^ 16 → vector < 2 ^ 16 →
      let req := toLE 2 code ++ toLE 2 (formParams 0 kvs).length ++ toLE 4 seq ++ toLE 2 flags ++ toLE 2 vector ++ toLE 4 0 ++
        formParams 0 kvs
      headOf req = ⟨code, (formParams 0 kvs).length, seq, flags, vector, 0⟩ ∧ paramsOf req = formParams 0 kvs
/-- A user settings image that the module builds is a valid copy, and its records are those of the settings table, in order (R411,
R414), whenever keys and certificates have their lengths and the image fits its place. -/
def Obligations.SettingsImageRoundTrip : Prop :=
  ∀ (s : State) (gen : Nat), (∀ e ∈ s.host.keys, e.2.length = 97) → (∀ e ∈ s.host.certs, e.2.length = 48) →
    (s.buildImage gen).length ≤ 524288 →
    ∃ l, copyRecords (s.buildImage gen) = some l ∧ l.map (fun r => imgRecord r.1 r.2) = s.imageRecords ∧
      le (s.buildImage gen) 8 4 = gen % 2 ^ 32
/-- Every register field lies in the word at its address: the block, the instance and the offset that its address names, and no other
word's (R9, R10 and the base addresses of the chapters). -/
def Obligations.FieldAddresses : Prop :=
  ∀ (f : Fld) i j, f.exists i j = true →
    ∃ w, decodeAddr (f.addr i j) = some w ∧ w.addr = f.addr i j ∧ w.blk = f.info.blk ∧ (f.info, i, j) ∈ w.fields ∧
      ∀ e ∈ w.fields, Fld.addr e.1.fld e.2.1 e.2.2 = f.addr i j
/-- What one instruction word does, family by family (R53, R56 to R69): its result from the operands and the dictionary entry, its D and
P flags, and the effect of the family. -/
def Obligations.InstructionFamilies : Prop :=
  ∀ (w : Nat) (v : Nat → Bool) (dict word : Nat → Nat),
    let op := bits w 79 74
    let idx := bits w 73 66
    let f := bits w 10 0
    let x := evalWord w v dict word
    let idx4 := b2n (v 0) + 2 * b2n (v 1) + 4 * b2n (v 2) + 8 * b2n (v 3)
    (op = 0 → x = ⟨false, false, false, .none, 0, none⟩) ∧
    ((1 ≤ op ∧ op ≤ 0xF) ∨ (0x14 ≤ op ∧ op ≤ 0x17) ∨ (0x34 ≤ op ∧ op ≤ 0x37) → x = ⟨false, false, false, .none, 4, none⟩) ∧
    (0x10 ≤ op → op ≤ 0x13 → x.r = bit (dict idx) (idx4 + 16 * b2n (v 4) + 32 * b2n (v 5)) ∧ x.drive = bit op 0 ∧
      x.probe = bit op 1 ∧ x.fx = .none) ∧
    (0x18 ≤ op → op ≤ 0x1F → x.r = bit (dict idx) (32 * b2n (bit op 2) + idx4 + 16 * b2n (v 4)) ∧ x.drive = bit op 0 ∧
      x.probe = bit op 1 ∧ (1536 ≤ f → f < 1792 → x.fx = .user (f - 1536)) ∧ (f < 1536 ∨ 1792 ≤ f → x.fx = .none ∧ x.err = 6)) ∧
    (0x20 ≤ op → op ≤ 0x2F → x.r = bit (dict idx) (16 * bits op 2 1 + idx4) ∧ x.drive = bit op 0 ∧ x.probe = false ∧
      (v 4 = false → x.fx = .none ∧ x.err = 0) ∧
      (v 4 = true → 1536 ≤ f → f < 1792 → x.fx = if op < 0x28 then .shadow (f - 1536) else .user (f - 1536))) ∧
    (0x30 ≤ op → op ≤ 0x33 → x.r = (v (b2n (v 4) + 2 * b2n (v 5)) ^^ bit w (70 + (b2n (v 4) + 2 * b2n (v 5))) ^^ bit w 69) ∧
      x.drive = bit op 0 ∧ x.probe = bit op 1) ∧
    (op = 0x38 ∨ op = 0x39 → x.r = false ∧ x.drive = false ∧
      (bits w 69 66 < 15 → x.fx = .load (decide (op = 0x39)) (bits w 73 70) (bits w 69 66)
        (idx4 + 16 * b2n (v 4) + 32 * b2n (v 5))) ∧
      (bits w 69 66 = 15 → op = 0x38 → x.fx = if v 0 then .issue (bits w 73 70) (v 1) else .none)) ∧
    (op = 0x3A ∨ op = 0x3B → x.r = bit (word (bits w 73 70)) (bits w 60 55) ∧ x.drive = bit op 0) ∧
    (op = 0x3C → x.r = v 0 ∧ x.probe = true ∧ x.drive = false) ∧ (op = 0x3D → x.r = v 0 ∧ x.fx = .tprobe idx) ∧
    (op = 0x3E → x.r = v 0 ∧ x.fx = .out (bits w 54 41)) ∧
    (op = 0x3F → x.r = bit (dict idx) (idx4 + 16 * b2n (v 4) + 32 * b2n (v 5)) ∧ (x.fx = .halt ↔ x.r = true) ∧ x.drive = false)
/-- An event of a partition waits in the 64-entry hold of its event queue beside the free places of the ring; beyond it, it is dropped and
counted, and the next record carries FLAGS[0] = 1; with no enabled queue it is counted in HOST.EVT.UNDELIVERED (R316, R317). -/
def Obligations.EventsWaitOrAreCounted : Prop :=
  (∀ (s : State) p kind status detail q, s.queuesOf p QT.event = [q] →
    let t := s.pEvent p kind status detail
    if (s.queue q).hold.length < s.qSize q - s.qFill q + 64 then
      (t.queue q).hold = (s.queue q).hold ++ [eventBytes kind p (b2n (s.queue q).dropMark) status (s.cycle p) (s.ctrNs (s.homeAnvil p))
        detail] ∧ (t.queue q).dropMark = false ∧ t.reg .queueDropCount q 0 = s.reg .queueDropCount q 0
    else (t.queue q).hold = (s.queue q).hold ∧ (t.queue q).dropMark = true ∧ t.flag .queueStatusDrop q 0 = true ∧
      t.reg .queueDropCount q 0 = min (2 ^ Fld.queueDropCount.width - 1) (s.reg .queueDropCount q 0 + 1)) ∧
  (∀ (s : State) p kind status detail, s.queuesOf p QT.event = [] →
    (s.pEvent p kind status detail).reg .hostEvtUndelivered 0 0 =
      min (2 ^ Fld.hostEvtUndelivered.width - 1) (s.reg .hostEvtUndelivered 0 0 + 1)) ∧
  ∀ kind part flags status cycle time detail, (eventBytes kind part flags status cycle time detail).length = 32
/-- A mailbox changes state as R306 says: GO posts the record from IDLE; a GO outside IDLE and an ACK outside DONE are discarded and set
PROTO, and in POSTED and BUSY the request area keeps its contents; ACK takes DONE to IDLE, and the response area keeps its
contents; a mailbox that is not there takes nothing. -/
def Obligations.MailboxProtocol : Prop :=
  (∀ n m rc s, s.mboxHere n m = true → s.mbState n m = 0 →
    Answers (.mboxGo n m rc) s fun t => t.mbState n m = 1 ∧ t.host.posted = s.host.posted ++ [⟨⟨.host n, m, le rc 4 4⟩, rc, s.hostIdOf (.host n)⟩]) ∧
  (∀ n m rc s, s.mboxHere n m = true → s.mbState n m ≠ 0 →
    Answers (.mboxGo n m rc) s fun t => t.mbState n m = s.mbState n m ∧ t.flag .mboxStateProto (mbInst n m) 0 = true ∧
      t.host.posted = s.host.posted ∧ (s.mbState n m ≠ 3 → t.box n m = s.box n m) ∧
      (s.mbState n m = 3 → t.box n m = { s.box n m with req := rc })) ∧
  (∀ n m s, s.mboxHere n m = true → s.mbState n m = 3 →
    Answers (.mboxAck n m) s fun t => t.mbState n m = 0 ∧ t.host = s.host) ∧
  (∀ n m s, s.mboxHere n m = true → s.mbState n m ≠ 3 →
    Answers (.mboxAck n m) s fun t => t.mbState n m = s.mbState n m ∧ t.flag .mboxStateProto (mbInst n m) 0 = true ∧
      t.host = s.host) ∧
  ∀ n m rc s, s.mboxHere n m = false → exec (.mboxGo n m rc) s = .next s ∧ exec (.mboxAck n m) s = .next s
/-- On a tick every populated anvil counter adds the same increment, which lies within 200 ppm of 3.2 ns, so that counters that hold the
same value go on holding it, whatever boot step falls on the tick; with FOLLOW = 0 the increment is TIME.INCR, clamped (R358, R359). -/
def Obligations.CountersAdvanceTogether : Prop :=
  (∀ s : State, 0x3330941C8 ≤ s.nextIncr ∧ s.nextIncr ≤ 0x3335D249E) ∧
  (∀ s : State, s.sys.off = false → s.time.stepDue = false →
    Answers .timeTick s fun t => t.time.ticks = s.time.ticks + 1 ∧ t.time.eff = s.nextIncr ∧
      ∀ a, a < s.grade.anvils → t.ctr a = s.ctr a + s.nextIncr) ∧
  (∀ s : State, s.flag .timeCfgFollow 0 0 = false → s.nextIncr = max 0x3330941C8 (min 0x3335D249E s.time.incr)) ∧
  ∀ s t : State, exec .timeTick s = .next t → (∀ a, a < s.grade.anvils → ∀ b, b < s.grade.anvils → s.ctr a = s.ctr b) →
    ∀ a b, a < s.grade.anvils → b < s.grade.anvils → t.ctr a = t.ctr b
end

