-- ==== Sys2Proof/Laws/Tab.lean ====
section
/-! SUPPORT. The laws of sparse tables: a key reads as what was put there last, every other key as before, every
operation keeps the canonical form, and two canonical tables that read alike are equal. -/

namespace Sys2Proof.Machine

/-! ## The order of keys -/

theorem Key.lt_irrefl (k : Key) : Key.lt k k = false := by
  induction k with
  | nil => rfl
  | cons a k ih => simp [Key.lt, ih]

theorem Key.lt_trans : ∀ {a b c : Key}, Key.lt a b = true → Key.lt b c = true → Key.lt a c = true
  | [], [], _, h, _ => by cases h
  | _ :: _, [], _, h, _ => by cases h
  | [], _ :: _, [], _, h => by cases h
  | _ :: _, _ :: _, [], _, h => by cases h
  | [], _ :: _, _ :: _, _, _ => rfl
  | x :: a, y :: b, z :: c, h1, h2 => by
    simp only [Key.lt] at h1 h2 ⊢
    split at h1 <;> split at h2
    · have : x < z := by omega
      simp [this]
    · split at h2
      · next h => subst h; simp_all
      · cases h2
    · split at h1
      · next h => subst h; simp_all
      · cases h1
    · split at h1
      · next h => subst h; split at h2
                  · next h => subst h; simp [Key.lt_trans h1 h2]
                  · cases h2
      · cases h1

theorem Key.lt_or : ∀ (a b : Key), Key.lt a b = true ∨ a = b ∨ Key.lt b a = true
  | [], [] => .inr (.inl rfl)
  | [], _ :: _ => .inl rfl
  | _ :: _, [] => .inr (.inr rfl)
  | x :: a, y :: b => by
    simp only [Key.lt]
    rcases Nat.lt_trichotomy x y with h | h | h
    · simp [h]
    · subst h; simpa using Key.lt_or a b
    · have : ¬ y = x := by omega
      simp [h]

theorem Key.ne_of_lt {a b : Key} (h : Key.lt a b = true) : a ≠ b := by
  rintro rfl; simp [Key.lt_irrefl] at h

/-! ## The canonical form -/

variable {α : Type} [DecidableEq α] {d : α}

/-- Every key of the table is above `lo`. -/
def Tab.above (lo : Option Key) (k : Key) : Prop :=
  match lo with
  | none => True
  | some l => Key.lt l k = true

theorem Tab.wfFrom_cons {lo : Option Key} {k : Key} {v : α} {t : Tab α} :
    Tab.wfFrom d lo ((k, v) :: t) = true ↔ Tab.above lo k ∧ v ≠ d ∧ Tab.wfFrom d (some k) t = true := by
  cases lo <;> simp [Tab.wfFrom, Tab.above, and_assoc]

theorem Tab.above_trans {lo : Option Key} {k k' : Key} (h : Tab.above lo k) (h' : Key.lt k k' = true) :
    Tab.above lo k' := by
  cases lo with
  | none => trivial
  | some l => exact Key.lt_trans h h'

theorem Tab.wfFrom_mono {lo lo' : Option Key} {t : Tab α} (hl : ∀ k, Tab.above lo' k → Tab.above lo k)
    (h : Tab.wfFrom d lo' t = true) : Tab.wfFrom d lo t = true := by
  cases t with
  | nil => rfl
  | cons e t => obtain ⟨k, v⟩ := e; rw [Tab.wfFrom_cons] at h ⊢; exact ⟨hl k h.1, h.2⟩

theorem Tab.wfFrom_below {lo : Option Key} {k : Key} {t : Tab α} (hk : Tab.above lo k)
    (h : Tab.wfFrom d (some k) t = true) : Tab.wfFrom d lo t = true :=
  Tab.wfFrom_mono (lo' := some k) (fun _ h' => Tab.above_trans hk h') h

theorem Tab.wfFrom_tail {lo : Option Key} {e : Key × α} {t : Tab α} (h : Tab.wfFrom d lo (e :: t) = true) :
    Tab.wfFrom d lo t = true := by
  obtain ⟨k, v⟩ := e
  rw [Tab.wfFrom_cons] at h
  exact Tab.wfFrom_below h.1 h.2.2

theorem Tab.find?_below {k : Key} : ∀ {t : Tab α} {lo : Key}, Tab.wfFrom d (some lo) t = true →
    Key.lt lo k = false → Tab.find? t k = none
  | [], _, _, _ => rfl
  | (k', v) :: t, lo, h, hk => by
    rw [Tab.wfFrom_cons] at h
    have hne : k' ≠ k := by rintro rfl; simp [Tab.above, hk] at h
    rw [Tab.find?, if_neg hne]
    refine Tab.find?_below h.2.2 ?_
    cases hc : Key.lt k' k with
    | false => rfl
    | true => exact absurd (Key.lt_trans h.1 hc) (by simp [hk])

/-! ## Erasing, inserting and putting -/

theorem Tab.wfFrom_erase {k : Key} : ∀ {t : Tab α} {lo : Option Key}, Tab.wfFrom d lo t = true →
    Tab.wfFrom d lo (Tab.erase t k) = true
  | [], _, _ => rfl
  | (k', v) :: t, lo, h => by
    rw [Tab.erase]
    split
    · exact Tab.wfFrom_erase (Tab.wfFrom_tail h)
    · rw [Tab.wfFrom_cons] at h ⊢; exact ⟨h.1, h.2.1, Tab.wfFrom_erase h.2.2⟩

omit [DecidableEq α] in
theorem Tab.find?_erase {k k' : Key} : ∀ {t : Tab α},
    Tab.find? (Tab.erase t k) k' = if k = k' then none else Tab.find? t k'
  | [] => by simp [Tab.erase, Tab.find?]
  | (k0, v) :: t => by
    rw [Tab.erase]
    split
    · next h => rw [Tab.find?_erase, Tab.find?]; subst h; split <;> rfl
    · next h => rw [Tab.find?, Tab.find?, Tab.find?_erase]; split
                · next h' => subst h'; simp [Ne.symm h]
                · rfl

theorem Tab.wfFrom_insert {k : Key} {v : α} (hv : v ≠ d) : ∀ {t : Tab α} {lo : Option Key},
    Tab.wfFrom d lo t = true → Tab.find? t k = none → Tab.above lo k →
    Tab.wfFrom d lo (Tab.insert t k v) = true
  | [], lo, _, _, hl => by rw [Tab.insert, Tab.wfFrom_cons]; exact ⟨hl, hv, rfl⟩
  | (k', v') :: t, lo, h, hn, hl => by
    have hne : k' ≠ k := by rintro rfl; simp [Tab.find?] at hn
    rw [Tab.find?, if_neg hne] at hn
    rw [Tab.wfFrom_cons] at h
    rw [Tab.insert]
    split
    · next hlt => exact Tab.wfFrom_cons.2 ⟨hl, hv, Tab.wfFrom_cons.2 ⟨hlt, h.2⟩⟩
    · next hlt =>
      refine Tab.wfFrom_cons.2 ⟨h.1, h.2.1, Tab.wfFrom_insert hv h.2.2 hn ?_⟩
      rcases Key.lt_or k' k with h' | h' | h'
      · exact h'
      · exact absurd h' hne
      · exact absurd h' hlt

omit [DecidableEq α] in
theorem Tab.find?_insert {k k' : Key} {v : α} : ∀ {t : Tab α}, Tab.find? t k = none →
    Tab.find? (Tab.insert t k v) k' = if k = k' then some v else Tab.find? t k'
  | [], _ => by simp [Tab.insert, Tab.find?]
  | (k0, v0) :: t, hn => by
    have hne : k0 ≠ k := by rintro rfl; simp [Tab.find?] at hn
    rw [Tab.find?, if_neg hne] at hn
    rw [Tab.insert]
    split
    · rw [Tab.find?]
    · rw [Tab.find?, Tab.find?_insert hn, Tab.find?]; split
      · next h' => subst h'; simp [Ne.symm hne]
      · rfl

theorem TabOk.nil : TabOk d ([] : Tab α) := rfl

theorem TabOk.erase {t : Tab α} {k : Key} (h : TabOk d t) : TabOk d (Tab.erase t k) := Tab.wfFrom_erase h

/-- Setting a key keeps the canonical form. -/
theorem TabOk.put {t : Tab α} {k : Key} {v : α} (h : TabOk d t) : TabOk d (Tab.put d t k v) := by
  rw [Tab.put]
  split
  · exact h.erase
  · next hv => exact Tab.wfFrom_insert hv h.erase (by simp [Tab.find?_erase]) trivial

/-- A key that has been set reads as that value. -/
theorem Tab.get_put_self {t : Tab α} {k : Key} {v : α} : Tab.get d (Tab.put d t k v) k = v := by
  rw [Tab.get, Tab.put]
  split
  · next h => simp [Tab.find?_erase, h]
  · rw [Tab.find?_insert (by simp [Tab.find?_erase])]; simp

/-- Every other key reads as before. -/
theorem Tab.get_put_other {t : Tab α} {k k' : Key} {v : α} (h : k ≠ k') :
    Tab.get d (Tab.put d t k v) k' = Tab.get d t k' := by
  rw [Tab.get, Tab.put]
  split
  · simp [Tab.find?_erase, h, Tab.get]
  · rw [Tab.find?_insert (by simp [Tab.find?_erase])]; simp [Tab.find?_erase, h, Tab.get]

/-- What a key reads as after another key, or the same, has been set. -/
theorem Tab.get_put {t : Tab α} {k k' : Key} {v : α} :
    Tab.get d (Tab.put d t k v) k' = if k = k' then v else Tab.get d t k' := by
  split
  · next h => subst h; exact Tab.get_put_self
  · next h => exact Tab.get_put_other h

omit [DecidableEq α] in
@[simp] theorem Tab.get_nil {k : Key} : Tab.get d ([] : Tab α) k = d := rfl

/-! ## Keeping, mapping and runs -/

theorem Tab.wfFrom_keep {p : Key → Bool} : ∀ {t : Tab α} {lo : Option Key}, Tab.wfFrom d lo t = true →
    Tab.wfFrom d lo (Tab.keep p t) = true
  | [], _, _ => rfl
  | (k', v) :: t, lo, h => by
    rw [Tab.keep]
    split
    · rw [Tab.wfFrom_cons] at h ⊢; exact ⟨h.1, h.2.1, Tab.wfFrom_keep h.2.2⟩
    · exact Tab.wfFrom_keep (Tab.wfFrom_tail h)

theorem TabOk.keep {t : Tab α} {p : Key → Bool} (h : TabOk d t) : TabOk d (Tab.keep p t) := Tab.wfFrom_keep h

omit [DecidableEq α] in
theorem Tab.find?_keep {p : Key → Bool} {k : Key} (hk : p k = true) : ∀ {t : Tab α}, Tab.find? (Tab.keep p t) k = Tab.find? t k
  | [] => rfl
  | (k', v) :: t => by
    rw [Tab.keep]
    split
    · rw [Tab.find?, Tab.find?, Tab.find?_keep hk]
    · next h =>
      have : k' ≠ k := by rintro rfl; exact h hk
      rw [Tab.find?, if_neg this, Tab.find?_keep hk]

omit [DecidableEq α] in
/-- A key that the test keeps reads as before. -/
theorem Tab.get_keep {p : Key → Bool} {k : Key} {t : Tab α} (hk : p k = true) :
    Tab.get d (Tab.keep p t) k = Tab.get d t k := by rw [Tab.get, Tab.find?_keep hk, Tab.get]

theorem Tab.wfFrom_mapAll {f : Key → α → α} : ∀ {t : Tab α} {lo : Option Key}, Tab.wfFrom d lo t = true →
    Tab.wfFrom d lo (Tab.mapAll d f t) = true
  | [], _, _ => rfl
  | (k', v) :: t, lo, h => by
    rw [Tab.mapAll]
    split
    · exact Tab.wfFrom_mapAll (Tab.wfFrom_tail h)
    · next hv => rw [Tab.wfFrom_cons] at h ⊢; exact ⟨h.1, hv, Tab.wfFrom_mapAll h.2.2⟩

theorem TabOk.mapAll {t : Tab α} {f : Key → α → α} (h : TabOk d t) : TabOk d (Tab.mapAll d f t) :=
  Tab.wfFrom_mapAll h

theorem TabOk.putRun {pre : Key} {vs : List α} {i : Nat} {t : Tab α} (h : TabOk d t) :
    TabOk d (Tab.putRun d pre i vs t) := by
  induction vs generalizing i t with
  | nil => exact h
  | cons v vs ih => exact ih h.put

theorem TabOk.modify {t : Tab α} {k : Key} {f : α → α} (h : TabOk d t) : TabOk d (Tab.modify d t k f) := h.put

/-- A key outside a run reads as before the run was written. -/
theorem Tab.get_putRun_other {pre k : Key} : ∀ {vs : List α} {i : Nat} {t : Tab α},
    (∀ j, i ≤ j → j < i + vs.length → pre ++ [j] ≠ k) →
    Tab.get d (Tab.putRun d pre i vs t) k = Tab.get d t k
  | [], _, _, _ => rfl
  | v :: vs, i, t, h => by
    rw [Tab.putRun, Tab.get_putRun_other (fun j h1 h2 => h j (by omega) (by simp; omega)),
      Tab.get_put_other (h i (Nat.le_refl _) (by simp))]

/-- A run that has been written reads back. -/
theorem Tab.getRun_putRun {pre : Key} : ∀ {vs : List α} {i : Nat} {t : Tab α},
    Tab.getRun d (Tab.putRun d pre i vs t) pre i vs.length = vs
  | [], _, _ => rfl
  | v :: vs, i, t => by
    have hk : ∀ j, i + 1 ≤ j → j < i + 1 + vs.length → pre ++ [j] ≠ pre ++ [i] := by
      intro j h1 _ h
      have := List.append_cancel_left h
      simp at this; omega
    rw [List.length_cons, Tab.getRun, Tab.putRun, Tab.get_putRun_other hk, Tab.get_put_self,
      Tab.getRun_putRun]

/-! ## Canonical tables are equal when they read alike -/

theorem Tab.get_head {lo : Option Key} {k : Key} {v : α} {t : Tab α} (_ : Tab.wfFrom d lo ((k, v) :: t) = true) :
    Tab.get d ((k, v) :: t) k = v := by simp [Tab.get, Tab.find?]

theorem Tab.get_below {k : Key} {t : Tab α} {lo : Key} (h : Tab.wfFrom d (some lo) t = true)
    (hk : Key.lt lo k = false) : Tab.get d t k = d := by simp [Tab.get, Tab.find?_below h hk]

omit [DecidableEq α] in
theorem Tab.get_tail {k k' : Key} {v : α} {t : Tab α} (h : k ≠ k') :
    Tab.get d ((k, v) :: t) k' = Tab.get d t k' := by simp [Tab.get, Tab.find?, h]

theorem Tab.lt_asymm {a b : Key} (h : Key.lt a b = true) : Key.lt b a = false := by
  cases hc : Key.lt b a with
  | false => rfl
  | true => have := Key.lt_trans h hc; simp [Key.lt_irrefl] at this

theorem Tab.ext_from : ∀ {t t' : Tab α} {lo lo' : Option Key}, Tab.wfFrom d lo t = true →
    Tab.wfFrom d lo' t' = true → (∀ k, Tab.get d t k = Tab.get d t' k) → t = t'
  | [], [], _, _, _, _, _ => rfl
  | [], (k, v) :: t', _, lo', _, h', he => by
    have := he k
    rw [Tab.get_head h'] at this
    exact absurd this.symm (Tab.wfFrom_cons.1 h').2.1
  | (k, v) :: t, [], lo, _, h, _, he => by
    have := he k
    rw [Tab.get_head h] at this
    exact absurd this (Tab.wfFrom_cons.1 h).2.1
  | (k, v) :: t, (k', v') :: t', lo, lo', h, h', he => by
    have c := Tab.wfFrom_cons.1 h
    have c' := Tab.wfFrom_cons.1 h'
    rcases Key.lt_or k k' with hl | rfl | hl
    · have := he k
      rw [Tab.get_head h, Tab.get_tail (Ne.symm (Key.ne_of_lt hl)),
        Tab.get_below c'.2.2 (Tab.lt_asymm hl)] at this
      exact absurd this c.2.1
    · have hv := he k
      rw [Tab.get_head h, Tab.get_head h'] at hv
      subst hv
      refine congrArg _ (Tab.ext_from c.2.2 c'.2.2 fun j => ?_)
      by_cases hj : k = j
      · subst hj
        rw [Tab.get_below c.2.2 (Key.lt_irrefl k), Tab.get_below c'.2.2 (Key.lt_irrefl k)]
      · have := he j
        rwa [Tab.get_tail hj, Tab.get_tail hj] at this
    · have := he k'
      rw [Tab.get_head h', Tab.get_tail (Ne.symm (Key.ne_of_lt hl)),
        Tab.get_below c.2.2 (Tab.lt_asymm hl)] at this
      exact absurd this.symm c'.2.1

/-- Equal memories are equal data. -/
theorem TabOk.ext {t t' : Tab α} (h : TabOk d t) (h' : TabOk d t') (he : ∀ k, Tab.get d t k = Tab.get d t' k) :
    t = t' := Tab.ext_from h h' he

end Sys2Proof.Machine
end

