-- ==== Sys2Proof/Laws/Kept.lean ====
section
/-! SUPPORT. What every operation on the state keeps: the queue of commands, the grade and the stepping, the canonical form of
the stores, every register outside the fields it names, and every part of the state it does not name. The files beside this
one prove it operation by operation, in the order of the model. -/

namespace Sys2Proof.Machine

/-! ## The fields and the parts of the state that an operation may change -/

/-- What an operation may change: the fields whose numbers are bits of `flds`, the parts whose numbers are bits of `parts`. -/
structure Span where
  flds : Nat
  parts : Nat

/-- The field is in the span. -/
def Span.fld (w : Span) (f : Fld) : Bool := w.flds.testBit f.ctorIdx

/-- The part is in the span. -/
def Span.part (w : Span) (k : Piece) : Bool := w.parts.testBit k.ctorIdx

/-- A span within another. -/
structure Span.le (a w : Span) : Prop where
  flds : a.flds ||| w.flds = w.flds
  parts : a.parts ||| w.parts = w.parts

/-- The fields of a list, as bits. -/
def fldBits : List Fld → Nat
  | [] => 0
  | f :: l => 2 ^ f.ctorIdx ||| fldBits l

/-- The parts of a list, as bits. -/
def pieceBits : List Piece → Nat
  | [] => 0
  | k :: l => 2 ^ k.ctorIdx ||| pieceBits l

theorem lor_testBit {a b n : Nat} (h : a ||| b = b) (ha : a.testBit n = true) : b.testBit n = true := by
  rw [← h, Nat.testBit_lor, ha, Bool.true_or]

theorem lor_trans {a b c : Nat} (h : a ||| b = b) (h' : b ||| c = c) : a ||| c = c := by
  rw [← h', ← Nat.lor_assoc, h]

theorem Span.le.sub {a b w : Span} (h : a.le w) (e : b.flds ||| a.flds = a.flds) (e' : b.parts ||| a.parts = a.parts) :
    b.le w := ⟨lor_trans e h.flds, lor_trans e' h.parts⟩

theorem Span.le.fld {a w : Span} (h : a.le w) {f : Fld} (e : a.flds.testBit f.ctorIdx = true) : w.fld f = true :=
  lor_testBit h.flds e

/-- Every field, as bits. -/
def everyFld : Nat := 0xffffffffffffffffffffffffffffffffffffffffffffffffffffffffffffffffffffffffffffffffffffffffffffffffffffffffffffffffffffffffffffffffffffffffffffffffffffffffffffffffffffffffffffffffffffffffffffffffffffffffffffffffffffffffffffffffffffffffffffffffffffffffffffffff

theorem Fld.ctorIdx_lt (f : Fld) : f.ctorIdx < 636 := Nat.le_of_ble_eq_true (by cases f <;> rfl)

theorem Fld.ctorIdx_lt1024 (f : Fld) : f.ctorIdx < 1024 := Nat.lt_of_lt_of_le f.ctorIdx_lt (by decide)

theorem everyFld_eq : everyFld = 2 ^ 1024 - 1 := by decide +kernel

theorem Span.le.all {a w : Span} (h : a.le w) (e : a.flds = everyFld) {f : Fld} : w.fld f = true :=
  h.fld (by rw [e, everyFld_eq, Nat.testBit_two_pow_sub_one]; exact decide_eq_true f.ctorIdx_lt1024)

theorem Span.le.part {a w : Span} (h : a.le w) {k : Piece} (e : a.parts.testBit k.ctorIdx = true) : w.part k = true :=
  lor_testBit h.parts e

theorem Fld.ctorIdx_inj {f g : Fld} (h : f.ctorIdx = g.ctorIdx) : f = g := by
  have := congrArg Fld.ofNat h
  simpa [Fld.ofNat_ctorIdx] using this

theorem fldBits_mem {f : Fld} : ∀ {l : List Fld}, (fldBits l).testBit f.ctorIdx = true → f ∈ l
  | [], h => by simp [fldBits] at h
  | g :: l, h => by
    rw [fldBits, Nat.testBit_lor, Bool.or_eq_true, Nat.testBit_two_pow] at h
    rcases h with h | h
    · exact List.mem_cons.2 (.inl (Fld.ctorIdx_inj (of_decide_eq_true h).symm))
    · exact List.mem_cons_of_mem _ (fldBits_mem h)

theorem Piece.ctorIdx_inj {f g : Piece} (h : f.ctorIdx = g.ctorIdx) : f = g := by
  have := congrArg Piece.ofNat h
  simpa [Piece.ofNat_ctorIdx] using this

theorem pieceBits_mem {k : Piece} : ∀ {l : List Piece}, (pieceBits l).testBit k.ctorIdx = true → k ∈ l
  | [], h => by simp [pieceBits] at h
  | g :: l, h => by
    rw [pieceBits, Nat.testBit_lor, Bool.or_eq_true, Nat.testBit_two_pow] at h
    rcases h with h | h
    · exact List.mem_cons.2 (.inl (Piece.ctorIdx_inj (of_decide_eq_true h).symm))
    · exact List.mem_cons_of_mem _ (pieceBits_mem h)

/-! ## Registers -/

theorem Fld.key_inj {f g : Fld} {i j i' j' : Nat} (h : f.key i j = g.key i' j') : f = g ∧ i = i' ∧ j = j' := by
  simp only [Fld.key, List.cons.injEq, and_true] at h
  exact ⟨Fld.ctorIdx_inj h.1, h.2.1, h.2.2⟩

/-- What a field reads as is fixed by the stored registers and by what the start-up values name. -/
theorem reg_congr {s t : State} {f : Fld} {i j : Nat} (hr : Tab.get none t.regs (f.key i j) = Tab.get none s.regs (f.key i j))
    (hg : t.grade = s.grade) (hs : t.stepping = s.stepping) (hf : t.sys.factoryBad = s.sys.factoryBad) :
    t.reg f i j = s.reg f i j := by
  have h : t.rst f i j = s.rst f i j := by
    simp only [State.rst, hg, hs, hf]
  rw [State.reg, State.reg, hr, h]

/-! ## Canonical stores -/

/-- The DRAM bytes are canonical. -/
structure DramOk (d : Dram) : Prop where
  mem : TabOk 0 d.mem

/-- The host memory is canonical. -/
structure HostOk (h : HostIf) : Prop where
  mem : TabOk none h.mem

/-! ## Parts of the host interface -/

theorem HostIf.sameCommands.trans {a b c : HostIf} (h' : b.sameCommands c) (h : a.sameCommands b) : a.sameCommands c :=
  ⟨h'.1.trans h.1, h'.2.1.trans h.2.1, h'.2.2.1.trans h.2.2.1, h'.2.2.2.1.trans h.2.2.2.1, h'.2.2.2.2.trans h.2.2.2.2⟩

theorem HostIf.sameQueues.trans {a b c : HostIf} (h' : b.sameQueues c) (h : a.sameQueues b) : a.sameQueues c :=
  ⟨h'.1.trans h.1, h'.2.trans h.2⟩

theorem HostIf.sameLog.trans {a b c : HostIf} (h' : b.sameLog c) (h : a.sameLog b) : a.sameLog c :=
  ⟨h'.1.trans h.1, h'.2.1.trans h.2.1, h'.2.2.1.trans h.2.2.1, h'.2.2.2.1.trans h.2.2.2.1, h'.2.2.2.2.trans h.2.2.2.2⟩

theorem HostIf.sameKeys.trans {a b c : HostIf} (h' : b.sameKeys c) (h : a.sameKeys b) : a.sameKeys c :=
  ⟨h'.1.trans h.1, h'.2.trans h.2⟩

theorem HostIf.sameCommands.refl (h : HostIf) : h.sameCommands h := ⟨rfl, rfl, rfl, rfl, rfl⟩
theorem HostIf.sameQueues.refl (h : HostIf) : h.sameQueues h := ⟨rfl, rfl⟩
theorem HostIf.sameLog.refl (h : HostIf) : h.sameLog h := ⟨rfl, rfl, rfl, rfl, rfl⟩
theorem HostIf.sameKeys.refl (h : HostIf) : h.sameKeys h := ⟨rfl, rfl⟩

/-- `t` is `s0` but for what lies in `W`; it has the queue, the grade and the stepping of `s0`, and it is tidy if `s0` is. -/
structure Kept (W : Span) (s0 t : State) : Prop where
  queue : t.pending = s0.pending
  grade : t.grade = s0.grade
  stepping : t.stepping = s0.stepping
  factory : t.sys.factoryBad = s0.sys.factoryBad
  tidy : Tidy s0 → Tidy t
  regs : ∀ f, W.fld f = false → ∀ i j, Tab.get none t.regs (f.key i j) = Tab.get none s0.regs (f.key i j)
  rest : ∀ k, W.part k = false → k.same s0 t

/-- The state of a pair is kept. -/
def Kept1 {β : Type} (W : Span) (s0 : State) (r : State × β) : Prop := Kept W s0 r.1
def Kept2 {β : Type} (W : Span) (s0 : State) (r : β × State) : Prop := Kept W s0 r.2

/-- The state of an option, if there is one, is kept. -/
def KeptOpt (W : Span) (s0 : State) : Option State → Prop
  | none => True
  | some t => Kept W s0 t

/-- The next state of an outcome, if there is one, is kept. -/
def KeptOut (W : Span) (s0 : State) : Host.Outcome State Fault Refusal → Prop
  | .next t => Kept W s0 t
  | _ => True

section
variable {W : Span} {s0 : State}

theorem Kept1.of {β : Type} {s : State} {b : β} (h : Kept W s0 s) : Kept1 W s0 (s, b) := h
theorem Kept2.of {β : Type} {s : State} {b : β} (h : Kept W s0 s) : Kept2 W s0 (b, s) := h
theorem Kept1.st {β : Type} {r : State × β} (h : Kept1 W s0 r) : Kept W s0 r.1 := h
theorem Kept2.st {β : Type} {r : β × State} (h : Kept2 W s0 r) : Kept W s0 r.2 := h
theorem KeptOpt.of {s : State} (h : Kept W s0 s) : KeptOpt W s0 (some s) := h
theorem KeptOut.of {s : State} (h : Kept W s0 s) : KeptOut W s0 (.next s) := h

theorem Kept.refl : Kept W s0 s0 :=
  ⟨rfl, rfl, rfl, rfl, id, fun _ _ _ _ => rfl, fun k _ => match k with
    | .commands => HostIf.sameCommands.refl _
    | .queues => HostIf.sameQueues.refl _
    | .log => HostIf.sameLog.refl _
    | .keys => HostIf.sameKeys.refl _
    | .free | .held | .latches | .fab | .parts | .dram | .boxes | .trace | .noc | .time | .wl | .pins | .pwr | .sys | .svc | .out
    | .dramMem | .hostMem => rfl⟩

theorem Kept.reg {t : State} (h : Kept W s0 t) {f : Fld} (hf : W.fld f = false) (i j : Nat) : t.reg f i j = s0.reg f i j :=
  reg_congr (h.regs f hf i j) h.grade h.stepping h.factory

theorem Kept.regsOk {t : State} (h : Kept W s0 t) (i : Tidy s0) : TabOk none t.regs := (h.tidy i).regs
theorem Kept.fabOk {t : State} (h : Kept W s0 t) (i : Tidy s0) : FabOk t.fab := (h.tidy i).fab
theorem Kept.dramOk {t : State} (h : Kept W s0 t) (i : Tidy s0) : DramOk t.dram := ⟨(h.tidy i).dram⟩
theorem Kept.hostOk {t : State} (h : Kept W s0 t) (i : Tidy s0) : HostOk t.host := ⟨(h.tidy i).host⟩

theorem part_absurd {P : Prop} {k : Piece} (h : W.part k = true) (h' : W.part k = false) : P := by
  rw [h] at h'; cases h'

/-! ## Changes of one part of the state -/

/-- A change of `free`. -/
theorem Kept.setFree {b : State} {free} (h : Kept W s0 b) (hw : W.part .free = true) :
    Kept W s0 (State.mk b.pending b.grade b.stepping free b.regs b.held b.latches b.fab b.parts b.dram b.host
      b.trace b.noc b.time b.wl b.pins b.pwr b.sys b.svc b.out) :=
  ⟨h.queue, h.grade, h.stepping, h.factory, fun i => ⟨(h.tidy i).regs, (h.tidy i).fab, (h.tidy i).dram, (h.tidy i).host⟩, h.regs,
    fun k hk => match k, hk with
      | .free, hk => part_absurd hw hk
      | .held, hk => h.rest .held hk
      | .latches, hk => h.rest .latches hk
      | .fab, hk => h.rest .fab hk
      | .parts, hk => h.rest .parts hk
      | .dram, hk => h.rest .dram hk
      | .boxes, hk => h.rest .boxes hk
      | .trace, hk => h.rest .trace hk
      | .noc, hk => h.rest .noc hk
      | .time, hk => h.rest .time hk
      | .wl, hk => h.rest .wl hk
      | .pins, hk => h.rest .pins hk
      | .pwr, hk => h.rest .pwr hk
      | .sys, hk => h.rest .sys hk
      | .svc, hk => h.rest .svc hk
      | .out, hk => h.rest .out hk
      | .dramMem, hk => h.rest .dramMem hk
      | .hostMem, hk => h.rest .hostMem hk
      | .commands, hk => h.rest .commands hk
      | .queues, hk => h.rest .queues hk
      | .log, hk => h.rest .log hk
      | .keys, hk => h.rest .keys hk⟩

/-- A change of `held`. -/
theorem Kept.setHeld {b : State} {held} (h : Kept W s0 b) (hw : W.part .held = true) :
    Kept W s0 (State.mk b.pending b.grade b.stepping b.free b.regs held b.latches b.fab b.parts b.dram b.host
      b.trace b.noc b.time b.wl b.pins b.pwr b.sys b.svc b.out) :=
  ⟨h.queue, h.grade, h.stepping, h.factory, fun i => ⟨(h.tidy i).regs, (h.tidy i).fab, (h.tidy i).dram, (h.tidy i).host⟩, h.regs,
    fun k hk => match k, hk with
      | .free, hk => h.rest .free hk
      | .held, hk => part_absurd hw hk
      | .latches, hk => h.rest .latches hk
      | .fab, hk => h.rest .fab hk
      | .parts, hk => h.rest .parts hk
      | .dram, hk => h.rest .dram hk
      | .boxes, hk => h.rest .boxes hk
      | .trace, hk => h.rest .trace hk
      | .noc, hk => h.rest .noc hk
      | .time, hk => h.rest .time hk
      | .wl, hk => h.rest .wl hk
      | .pins, hk => h.rest .pins hk
      | .pwr, hk => h.rest .pwr hk
      | .sys, hk => h.rest .sys hk
      | .svc, hk => h.rest .svc hk
      | .out, hk => h.rest .out hk
      | .dramMem, hk => h.rest .dramMem hk
      | .hostMem, hk => h.rest .hostMem hk
      | .commands, hk => h.rest .commands hk
      | .queues, hk => h.rest .queues hk
      | .log, hk => h.rest .log hk
      | .keys, hk => h.rest .keys hk⟩

/-- A change of `latches`. -/
theorem Kept.setLatches {b : State} {latches} (h : Kept W s0 b) (hw : W.part .latches = true) :
    Kept W s0 (State.mk b.pending b.grade b.stepping b.free b.regs b.held latches b.fab b.parts b.dram b.host
      b.trace b.noc b.time b.wl b.pins b.pwr b.sys b.svc b.out) :=
  ⟨h.queue, h.grade, h.stepping, h.factory, fun i => ⟨(h.tidy i).regs, (h.tidy i).fab, (h.tidy i).dram, (h.tidy i).host⟩, h.regs,
    fun k hk => match k, hk with
      | .free, hk => h.rest .free hk
      | .held, hk => h.rest .held hk
      | .latches, hk => part_absurd hw hk
      | .fab, hk => h.rest .fab hk
      | .parts, hk => h.rest .parts hk
      | .dram, hk => h.rest .dram hk
      | .boxes, hk => h.rest .boxes hk
      | .trace, hk => h.rest .trace hk
      | .noc, hk => h.rest .noc hk
      | .time, hk => h.rest .time hk
      | .wl, hk => h.rest .wl hk
      | .pins, hk => h.rest .pins hk
      | .pwr, hk => h.rest .pwr hk
      | .sys, hk => h.rest .sys hk
      | .svc, hk => h.rest .svc hk
      | .out, hk => h.rest .out hk
      | .dramMem, hk => h.rest .dramMem hk
      | .hostMem, hk => h.rest .hostMem hk
      | .commands, hk => h.rest .commands hk
      | .queues, hk => h.rest .queues hk
      | .log, hk => h.rest .log hk
      | .keys, hk => h.rest .keys hk⟩

/-- A change of the fabric. -/
theorem Kept.setFab {b : State} {fab} (h : Kept W s0 b) (hw : W.part .fab = true) (f : Tidy s0 → FabOk fab) :
    Kept W s0 (State.mk b.pending b.grade b.stepping b.free b.regs b.held b.latches fab b.parts b.dram b.host
      b.trace b.noc b.time b.wl b.pins b.pwr b.sys b.svc b.out) :=
  ⟨h.queue, h.grade, h.stepping, h.factory, fun i => ⟨(h.tidy i).regs, f i, (h.tidy i).dram, (h.tidy i).host⟩, h.regs,
    fun k hk => match k, hk with
      | .free, hk => h.rest .free hk
      | .held, hk => h.rest .held hk
      | .latches, hk => h.rest .latches hk
      | .fab, hk => part_absurd hw hk
      | .parts, hk => h.rest .parts hk
      | .dram, hk => h.rest .dram hk
      | .boxes, hk => h.rest .boxes hk
      | .trace, hk => h.rest .trace hk
      | .noc, hk => h.rest .noc hk
      | .time, hk => h.rest .time hk
      | .wl, hk => h.rest .wl hk
      | .pins, hk => h.rest .pins hk
      | .pwr, hk => h.rest .pwr hk
      | .sys, hk => h.rest .sys hk
      | .svc, hk => h.rest .svc hk
      | .out, hk => h.rest .out hk
      | .dramMem, hk => h.rest .dramMem hk
      | .hostMem, hk => h.rest .hostMem hk
      | .commands, hk => h.rest .commands hk
      | .queues, hk => h.rest .queues hk
      | .log, hk => h.rest .log hk
      | .keys, hk => h.rest .keys hk⟩

/-- A change of `parts`. -/
theorem Kept.setParts {b : State} {parts} (h : Kept W s0 b) (hw : W.part .parts = true) :
    Kept W s0 (State.mk b.pending b.grade b.stepping b.free b.regs b.held b.latches b.fab parts b.dram b.host
      b.trace b.noc b.time b.wl b.pins b.pwr b.sys b.svc b.out) :=
  ⟨h.queue, h.grade, h.stepping, h.factory, fun i => ⟨(h.tidy i).regs, (h.tidy i).fab, (h.tidy i).dram, (h.tidy i).host⟩, h.regs,
    fun k hk => match k, hk with
      | .free, hk => h.rest .free hk
      | .held, hk => h.rest .held hk
      | .latches, hk => h.rest .latches hk
      | .fab, hk => h.rest .fab hk
      | .parts, hk => part_absurd hw hk
      | .dram, hk => h.rest .dram hk
      | .boxes, hk => h.rest .boxes hk
      | .trace, hk => h.rest .trace hk
      | .noc, hk => h.rest .noc hk
      | .time, hk => h.rest .time hk
      | .wl, hk => h.rest .wl hk
      | .pins, hk => h.rest .pins hk
      | .pwr, hk => h.rest .pwr hk
      | .sys, hk => h.rest .sys hk
      | .svc, hk => h.rest .svc hk
      | .out, hk => h.rest .out hk
      | .dramMem, hk => h.rest .dramMem hk
      | .hostMem, hk => h.rest .hostMem hk
      | .commands, hk => h.rest .commands hk
      | .queues, hk => h.rest .queues hk
      | .log, hk => h.rest .log hk
      | .keys, hk => h.rest .keys hk⟩

/-- A change of the DRAM, its bytes among it. -/
theorem Kept.setDram {b : State} {dram} (h : Kept W s0 b) (hw : W.part .dram = true) (hm : W.part .dramMem = true)
    (d : Tidy s0 → DramOk dram) :
    Kept W s0 (State.mk b.pending b.grade b.stepping b.free b.regs b.held b.latches b.fab b.parts dram b.host
      b.trace b.noc b.time b.wl b.pins b.pwr b.sys b.svc b.out) :=
  ⟨h.queue, h.grade, h.stepping, h.factory, fun i => ⟨(h.tidy i).regs, (h.tidy i).fab, (d i).mem, (h.tidy i).host⟩, h.regs,
    fun k hk => match k, hk with
      | .free, hk => h.rest .free hk
      | .held, hk => h.rest .held hk
      | .latches, hk => h.rest .latches hk
      | .fab, hk => h.rest .fab hk
      | .parts, hk => h.rest .parts hk
      | .dram, hk => part_absurd hw hk
      | .boxes, hk => h.rest .boxes hk
      | .trace, hk => h.rest .trace hk
      | .noc, hk => h.rest .noc hk
      | .time, hk => h.rest .time hk
      | .wl, hk => h.rest .wl hk
      | .pins, hk => h.rest .pins hk
      | .pwr, hk => h.rest .pwr hk
      | .sys, hk => h.rest .sys hk
      | .svc, hk => h.rest .svc hk
      | .out, hk => h.rest .out hk
      | .dramMem, hk => part_absurd hm hk
      | .hostMem, hk => h.rest .hostMem hk
      | .commands, hk => h.rest .commands hk
      | .queues, hk => h.rest .queues hk
      | .log, hk => h.rest .log hk
      | .keys, hk => h.rest .keys hk⟩

/-- A change of the DRAM that leaves its bytes. -/
theorem Kept.restDram {b : State} {remap retired used poison corr reqs back inOrder refresh pdown frozen rankOut
    migrate patrol waiting diag jobs openRow noSlot stalled cowZero} (h : Kept W s0 b) (hw : W.part .dram = true) :
    Kept W s0 (State.mk b.pending b.grade b.stepping b.free b.regs b.held b.latches b.fab b.parts (Dram.mk
      b.dram.mem remap retired used poison corr reqs back inOrder refresh pdown frozen rankOut migrate patrol waiting diag jobs openRow noSlot stalled cowZero) b.host b.trace b.noc b.time b.wl b.pins b.pwr b.sys b.svc b.out) :=
  ⟨h.queue, h.grade, h.stepping, h.factory, fun i => ⟨(h.tidy i).regs, (h.tidy i).fab, (h.tidy i).dram, (h.tidy i).host⟩, h.regs,
    fun k hk => match k, hk with
      | .free, hk => h.rest .free hk
      | .held, hk => h.rest .held hk
      | .latches, hk => h.rest .latches hk
      | .fab, hk => h.rest .fab hk
      | .parts, hk => h.rest .parts hk
      | .dram, hk => part_absurd hw hk
      | .boxes, hk => h.rest .boxes hk
      | .trace, hk => h.rest .trace hk
      | .noc, hk => h.rest .noc hk
      | .time, hk => h.rest .time hk
      | .wl, hk => h.rest .wl hk
      | .pins, hk => h.rest .pins hk
      | .pwr, hk => h.rest .pwr hk
      | .sys, hk => h.rest .sys hk
      | .svc, hk => h.rest .svc hk
      | .out, hk => h.rest .out hk
      | .dramMem, hk => h.rest .dramMem hk
      | .hostMem, hk => h.rest .hostMem hk
      | .commands, hk => h.rest .commands hk
      | .queues, hk => h.rest .queues hk
      | .log, hk => h.rest .log hk
      | .keys, hk => h.rest .keys hk⟩

/-- A change of the host interface, part by part. -/
theorem Kept.setHost {b : State} {host} (h : Kept W s0 b) (o : Tidy s0 → HostOk host)
    (cBoxes : W.part .boxes = true ∨ host.boxes = b.host.boxes)
    (cCommands : W.part .commands = true ∨ b.host.sameCommands host) (cQueues : W.part .queues = true ∨ b.host.sameQueues host)
    (cLog : W.part .log = true ∨ b.host.sameLog host) (cKeys : W.part .keys = true ∨ b.host.sameKeys host)
    (cHostMem : W.part .hostMem = true ∨ host.mem = b.host.mem) :
    Kept W s0 (State.mk b.pending b.grade b.stepping b.free b.regs b.held b.latches b.fab b.parts b.dram host
      b.trace b.noc b.time b.wl b.pins b.pwr b.sys b.svc b.out) :=
  ⟨h.queue, h.grade, h.stepping, h.factory, fun i => ⟨(h.tidy i).regs, (h.tidy i).fab, (h.tidy i).dram, (o i).mem⟩, h.regs,
    fun k hk => match k, hk with
      | .free, hk => h.rest .free hk
      | .held, hk => h.rest .held hk
      | .latches, hk => h.rest .latches hk
      | .fab, hk => h.rest .fab hk
      | .parts, hk => h.rest .parts hk
      | .dram, hk => h.rest .dram hk
      | .boxes, hk => cBoxes.elim (fun e => part_absurd e hk) fun e => e.trans (h.rest .boxes hk)
      | .trace, hk => h.rest .trace hk
      | .noc, hk => h.rest .noc hk
      | .time, hk => h.rest .time hk
      | .wl, hk => h.rest .wl hk
      | .pins, hk => h.rest .pins hk
      | .pwr, hk => h.rest .pwr hk
      | .sys, hk => h.rest .sys hk
      | .svc, hk => h.rest .svc hk
      | .out, hk => h.rest .out hk
      | .dramMem, hk => h.rest .dramMem hk
      | .hostMem, hk => cHostMem.elim (fun e => part_absurd e hk) fun e => e.trans (h.rest .hostMem hk)
      | .commands, hk => cCommands.elim (fun e => part_absurd e hk) fun e => e.trans (h.rest .commands hk)
      | .queues, hk => cQueues.elim (fun e => part_absurd e hk) fun e => e.trans (h.rest .queues hk)
      | .log, hk => cLog.elim (fun e => part_absurd e hk) fun e => e.trans (h.rest .log hk)
      | .keys, hk => cKeys.elim (fun e => part_absurd e hk) fun e => e.trans (h.rest .keys hk)⟩

/-- A change of `trace`. -/
theorem Kept.setTrace {b : State} {trace} (h : Kept W s0 b) (hw : W.part .trace = true) :
    Kept W s0 (State.mk b.pending b.grade b.stepping b.free b.regs b.held b.latches b.fab b.parts b.dram b.host
      trace b.noc b.time b.wl b.pins b.pwr b.sys b.svc b.out) :=
  ⟨h.queue, h.grade, h.stepping, h.factory, fun i => ⟨(h.tidy i).regs, (h.tidy i).fab, (h.tidy i).dram, (h.tidy i).host⟩, h.regs,
    fun k hk => match k, hk with
      | .free, hk => h.rest .free hk
      | .held, hk => h.rest .held hk
      | .latches, hk => h.rest .latches hk
      | .fab, hk => h.rest .fab hk
      | .parts, hk => h.rest .parts hk
      | .dram, hk => h.rest .dram hk
      | .boxes, hk => h.rest .boxes hk
      | .trace, hk => part_absurd hw hk
      | .noc, hk => h.rest .noc hk
      | .time, hk => h.rest .time hk
      | .wl, hk => h.rest .wl hk
      | .pins, hk => h.rest .pins hk
      | .pwr, hk => h.rest .pwr hk
      | .sys, hk => h.rest .sys hk
      | .svc, hk => h.rest .svc hk
      | .out, hk => h.rest .out hk
      | .dramMem, hk => h.rest .dramMem hk
      | .hostMem, hk => h.rest .hostMem hk
      | .commands, hk => h.rest .commands hk
      | .queues, hk => h.rest .queues hk
      | .log, hk => h.rest .log hk
      | .keys, hk => h.rest .keys hk⟩

/-- A change of `noc`. -/
theorem Kept.setNoc {b : State} {noc} (h : Kept W s0 b) (hw : W.part .noc = true) :
    Kept W s0 (State.mk b.pending b.grade b.stepping b.free b.regs b.held b.latches b.fab b.parts b.dram b.host
      b.trace noc b.time b.wl b.pins b.pwr b.sys b.svc b.out) :=
  ⟨h.queue, h.grade, h.stepping, h.factory, fun i => ⟨(h.tidy i).regs, (h.tidy i).fab, (h.tidy i).dram, (h.tidy i).host⟩, h.regs,
    fun k hk => match k, hk with
      | .free, hk => h.rest .free hk
      | .held, hk => h.rest .held hk
      | .latches, hk => h.rest .latches hk
      | .fab, hk => h.rest .fab hk
      | .parts, hk => h.rest .parts hk
      | .dram, hk => h.rest .dram hk
      | .boxes, hk => h.rest .boxes hk
      | .trace, hk => h.rest .trace hk
      | .noc, hk => part_absurd hw hk
      | .time, hk => h.rest .time hk
      | .wl, hk => h.rest .wl hk
      | .pins, hk => h.rest .pins hk
      | .pwr, hk => h.rest .pwr hk
      | .sys, hk => h.rest .sys hk
      | .svc, hk => h.rest .svc hk
      | .out, hk => h.rest .out hk
      | .dramMem, hk => h.rest .dramMem hk
      | .hostMem, hk => h.rest .hostMem hk
      | .commands, hk => h.rest .commands hk
      | .queues, hk => h.rest .queues hk
      | .log, hk => h.rest .log hk
      | .keys, hk => h.rest .keys hk⟩

/-- A change of `time`. -/
theorem Kept.setTime {b : State} {time} (h : Kept W s0 b) (hw : W.part .time = true) :
    Kept W s0 (State.mk b.pending b.grade b.stepping b.free b.regs b.held b.latches b.fab b.parts b.dram b.host
      b.trace b.noc time b.wl b.pins b.pwr b.sys b.svc b.out) :=
  ⟨h.queue, h.grade, h.stepping, h.factory, fun i => ⟨(h.tidy i).regs, (h.tidy i).fab, (h.tidy i).dram, (h.tidy i).host⟩, h.regs,
    fun k hk => match k, hk with
      | .free, hk => h.rest .free hk
      | .held, hk => h.rest .held hk
      | .latches, hk => h.rest .latches hk
      | .fab, hk => h.rest .fab hk
      | .parts, hk => h.rest .parts hk
      | .dram, hk => h.rest .dram hk
      | .boxes, hk => h.rest .boxes hk
      | .trace, hk => h.rest .trace hk
      | .noc, hk => h.rest .noc hk
      | .time, hk => part_absurd hw hk
      | .wl, hk => h.rest .wl hk
      | .pins, hk => h.rest .pins hk
      | .pwr, hk => h.rest .pwr hk
      | .sys, hk => h.rest .sys hk
      | .svc, hk => h.rest .svc hk
      | .out, hk => h.rest .out hk
      | .dramMem, hk => h.rest .dramMem hk
      | .hostMem, hk => h.rest .hostMem hk
      | .commands, hk => h.rest .commands hk
      | .queues, hk => h.rest .queues hk
      | .log, hk => h.rest .log hk
      | .keys, hk => h.rest .keys hk⟩

/-- A change of `wl`. -/
theorem Kept.setWl {b : State} {wl} (h : Kept W s0 b) (hw : W.part .wl = true) :
    Kept W s0 (State.mk b.pending b.grade b.stepping b.free b.regs b.held b.latches b.fab b.parts b.dram b.host
      b.trace b.noc b.time wl b.pins b.pwr b.sys b.svc b.out) :=
  ⟨h.queue, h.grade, h.stepping, h.factory, fun i => ⟨(h.tidy i).regs, (h.tidy i).fab, (h.tidy i).dram, (h.tidy i).host⟩, h.regs,
    fun k hk => match k, hk with
      | .free, hk => h.rest .free hk
      | .held, hk => h.rest .held hk
      | .latches, hk => h.rest .latches hk
      | .fab, hk => h.rest .fab hk
      | .parts, hk => h.rest .parts hk
      | .dram, hk => h.rest .dram hk
      | .boxes, hk => h.rest .boxes hk
      | .trace, hk => h.rest .trace hk
      | .noc, hk => h.rest .noc hk
      | .time, hk => h.rest .time hk
      | .wl, hk => part_absurd hw hk
      | .pins, hk => h.rest .pins hk
      | .pwr, hk => h.rest .pwr hk
      | .sys, hk => h.rest .sys hk
      | .svc, hk => h.rest .svc hk
      | .out, hk => h.rest .out hk
      | .dramMem, hk => h.rest .dramMem hk
      | .hostMem, hk => h.rest .hostMem hk
      | .commands, hk => h.rest .commands hk
      | .queues, hk => h.rest .queues hk
      | .log, hk => h.rest .log hk
      | .keys, hk => h.rest .keys hk⟩

/-- A change of `pins`. -/
theorem Kept.setPins {b : State} {pins} (h : Kept W s0 b) (hw : W.part .pins = true) :
    Kept W s0 (State.mk b.pending b.grade b.stepping b.free b.regs b.held b.latches b.fab b.parts b.dram b.host
      b.trace b.noc b.time b.wl pins b.pwr b.sys b.svc b.out) :=
  ⟨h.queue, h.grade, h.stepping, h.factory, fun i => ⟨(h.tidy i).regs, (h.tidy i).fab, (h.tidy i).dram, (h.tidy i).host⟩, h.regs,
    fun k hk => match k, hk with
      | .free, hk => h.rest .free hk
      | .held, hk => h.rest .held hk
      | .latches, hk => h.rest .latches hk
      | .fab, hk => h.rest .fab hk
      | .parts, hk => h.rest .parts hk
      | .dram, hk => h.rest .dram hk
      | .boxes, hk => h.rest .boxes hk
      | .trace, hk => h.rest .trace hk
      | .noc, hk => h.rest .noc hk
      | .time, hk => h.rest .time hk
      | .wl, hk => h.rest .wl hk
      | .pins, hk => part_absurd hw hk
      | .pwr, hk => h.rest .pwr hk
      | .sys, hk => h.rest .sys hk
      | .svc, hk => h.rest .svc hk
      | .out, hk => h.rest .out hk
      | .dramMem, hk => h.rest .dramMem hk
      | .hostMem, hk => h.rest .hostMem hk
      | .commands, hk => h.rest .commands hk
      | .queues, hk => h.rest .queues hk
      | .log, hk => h.rest .log hk
      | .keys, hk => h.rest .keys hk⟩

/-- A change of `pwr`. -/
theorem Kept.setPwr {b : State} {pwr} (h : Kept W s0 b) (hw : W.part .pwr = true) :
    Kept W s0 (State.mk b.pending b.grade b.stepping b.free b.regs b.held b.latches b.fab b.parts b.dram b.host
      b.trace b.noc b.time b.wl b.pins pwr b.sys b.svc b.out) :=
  ⟨h.queue, h.grade, h.stepping, h.factory, fun i => ⟨(h.tidy i).regs, (h.tidy i).fab, (h.tidy i).dram, (h.tidy i).host⟩, h.regs,
    fun k hk => match k, hk with
      | .free, hk => h.rest .free hk
      | .held, hk => h.rest .held hk
      | .latches, hk => h.rest .latches hk
      | .fab, hk => h.rest .fab hk
      | .parts, hk => h.rest .parts hk
      | .dram, hk => h.rest .dram hk
      | .boxes, hk => h.rest .boxes hk
      | .trace, hk => h.rest .trace hk
      | .noc, hk => h.rest .noc hk
      | .time, hk => h.rest .time hk
      | .wl, hk => h.rest .wl hk
      | .pins, hk => h.rest .pins hk
      | .pwr, hk => part_absurd hw hk
      | .sys, hk => h.rest .sys hk
      | .svc, hk => h.rest .svc hk
      | .out, hk => h.rest .out hk
      | .dramMem, hk => h.rest .dramMem hk
      | .hostMem, hk => h.rest .hostMem hk
      | .commands, hk => h.rest .commands hk
      | .queues, hk => h.rest .queues hk
      | .log, hk => h.rest .log hk
      | .keys, hk => h.rest .keys hk⟩

/-- A change of the module as a whole. -/
theorem Kept.setSys {b : State} {sys} (h : Kept W s0 b) (hw : W.part .sys = true) (hb : sys.factoryBad =
    b.sys.factoryBad) :
    Kept W s0 (State.mk b.pending b.grade b.stepping b.free b.regs b.held b.latches b.fab b.parts b.dram b.host
      b.trace b.noc b.time b.wl b.pins b.pwr sys b.svc b.out) :=
  ⟨h.queue, h.grade, h.stepping, hb.trans h.factory, fun i => ⟨(h.tidy i).regs, (h.tidy i).fab, (h.tidy i).dram, (h.tidy i).host⟩, h.regs,
    fun k hk => match k, hk with
      | .free, hk => h.rest .free hk
      | .held, hk => h.rest .held hk
      | .latches, hk => h.rest .latches hk
      | .fab, hk => h.rest .fab hk
      | .parts, hk => h.rest .parts hk
      | .dram, hk => h.rest .dram hk
      | .boxes, hk => h.rest .boxes hk
      | .trace, hk => h.rest .trace hk
      | .noc, hk => h.rest .noc hk
      | .time, hk => h.rest .time hk
      | .wl, hk => h.rest .wl hk
      | .pins, hk => h.rest .pins hk
      | .pwr, hk => h.rest .pwr hk
      | .sys, hk => part_absurd hw hk
      | .svc, hk => h.rest .svc hk
      | .out, hk => h.rest .out hk
      | .dramMem, hk => h.rest .dramMem hk
      | .hostMem, hk => h.rest .hostMem hk
      | .commands, hk => h.rest .commands hk
      | .queues, hk => h.rest .queues hk
      | .log, hk => h.rest .log hk
      | .keys, hk => h.rest .keys hk⟩

/-- A change of `svc`. -/
theorem Kept.setSvc {b : State} {svc} (h : Kept W s0 b) (hw : W.part .svc = true) :
    Kept W s0 (State.mk b.pending b.grade b.stepping b.free b.regs b.held b.latches b.fab b.parts b.dram b.host
      b.trace b.noc b.time b.wl b.pins b.pwr b.sys svc b.out) :=
  ⟨h.queue, h.grade, h.stepping, h.factory, fun i => ⟨(h.tidy i).regs, (h.tidy i).fab, (h.tidy i).dram, (h.tidy i).host⟩, h.regs,
    fun k hk => match k, hk with
      | .free, hk => h.rest .free hk
      | .held, hk => h.rest .held hk
      | .latches, hk => h.rest .latches hk
      | .fab, hk => h.rest .fab hk
      | .parts, hk => h.rest .parts hk
      | .dram, hk => h.rest .dram hk
      | .boxes, hk => h.rest .boxes hk
      | .trace, hk => h.rest .trace hk
      | .noc, hk => h.rest .noc hk
      | .time, hk => h.rest .time hk
      | .wl, hk => h.rest .wl hk
      | .pins, hk => h.rest .pins hk
      | .pwr, hk => h.rest .pwr hk
      | .sys, hk => h.rest .sys hk
      | .svc, hk => part_absurd hw hk
      | .out, hk => h.rest .out hk
      | .dramMem, hk => h.rest .dramMem hk
      | .hostMem, hk => h.rest .hostMem hk
      | .commands, hk => h.rest .commands hk
      | .queues, hk => h.rest .queues hk
      | .log, hk => h.rest .log hk
      | .keys, hk => h.rest .keys hk⟩

/-- A change of `out`. -/
theorem Kept.setOut {b : State} {out} (h : Kept W s0 b) (hw : W.part .out = true) :
    Kept W s0 (State.mk b.pending b.grade b.stepping b.free b.regs b.held b.latches b.fab b.parts b.dram b.host
      b.trace b.noc b.time b.wl b.pins b.pwr b.sys b.svc out) :=
  ⟨h.queue, h.grade, h.stepping, h.factory, fun i => ⟨(h.tidy i).regs, (h.tidy i).fab, (h.tidy i).dram, (h.tidy i).host⟩, h.regs,
    fun k hk => match k, hk with
      | .free, hk => h.rest .free hk
      | .held, hk => h.rest .held hk
      | .latches, hk => h.rest .latches hk
      | .fab, hk => h.rest .fab hk
      | .parts, hk => h.rest .parts hk
      | .dram, hk => h.rest .dram hk
      | .boxes, hk => h.rest .boxes hk
      | .trace, hk => h.rest .trace hk
      | .noc, hk => h.rest .noc hk
      | .time, hk => h.rest .time hk
      | .wl, hk => h.rest .wl hk
      | .pins, hk => h.rest .pins hk
      | .pwr, hk => h.rest .pwr hk
      | .sys, hk => h.rest .sys hk
      | .svc, hk => h.rest .svc hk
      | .out, hk => part_absurd hw hk
      | .dramMem, hk => h.rest .dramMem hk
      | .hostMem, hk => h.rest .hostMem hk
      | .commands, hk => h.rest .commands hk
      | .queues, hk => h.rest .queues hk
      | .log, hk => h.rest .log hk
      | .keys, hk => h.rest .keys hk⟩

/-- A change of several parts at once. -/
theorem Kept.many {b : State} {regs free held latches fab parts dram host trace noc time wl pins pwr sys svc out} (h
    : Kept W s0 b) (r : Tidy s0 → TabOk none regs) (er : (∀ f, W.fld f = true) ∨ regs = b.regs) (f : Tidy s0 → FabOk
    fab) (d : Tidy s0 → DramOk dram) (o : Tidy s0 → HostOk host) (hb : sys.factoryBad = b.sys.factoryBad) (c_free :
    W.part .free = true ∨ free = b.free) (c_held : W.part .held = true ∨ held = b.held) (c_latches : W.part .latches
    = true ∨ latches = b.latches) (c_fab : W.part .fab = true ∨ fab = b.fab) (c_parts : W.part .parts = true ∨ parts
    = b.parts) (c_dram : W.part .dram = true ∨ dram = b.dram) (c_boxes : W.part .boxes = true ∨ host.boxes = b.host.boxes)
    (c_trace : W.part .trace = true ∨ trace = b.trace) (c_noc : W.part .noc = true ∨ noc = b.noc) (c_time : W.part
    .time = true ∨ time = b.time) (c_wl : W.part .wl = true ∨ wl = b.wl) (c_pins : W.part .pins = true ∨ pins =
    b.pins) (c_pwr : W.part .pwr = true ∨ pwr = b.pwr) (c_sys : W.part .sys = true ∨ sys = b.sys) (c_svc : W.part
    .svc = true ∨ svc = b.svc) (c_out : W.part .out = true ∨ out = b.out) (cDramMem : W.part .dramMem = true ∨
    dram.mem = b.dram.mem) (cHostMem : W.part .hostMem = true ∨ host.mem = b.host.mem)
    (cCommands : W.part .commands = true ∨ b.host.sameCommands host) (cQueues : W.part .queues = true ∨ b.host.sameQueues host)
    (cLog : W.part .log = true ∨ b.host.sameLog host) (cKeys : W.part .keys = true ∨ b.host.sameKeys host) :
    Kept W s0 (State.mk b.pending b.grade b.stepping free regs held latches fab parts dram host trace noc time wl
      pins pwr sys svc out) :=
  ⟨h.queue, h.grade, h.stepping, hb.trans h.factory, fun i => ⟨r i, f i, (d i).mem, (o i).mem⟩,
    fun f hf i j => by
      rcases er with e | e
      · rw [e f] at hf; cases hf
      · subst e; exact h.regs f hf i j,
    fun k hk => match k, hk with
      | .free, hk => c_free.elim (fun e => part_absurd e hk) fun e => e.trans (h.rest .free hk)
      | .held, hk => c_held.elim (fun e => part_absurd e hk) fun e => e.trans (h.rest .held hk)
      | .latches, hk => c_latches.elim (fun e => part_absurd e hk) fun e => e.trans (h.rest .latches hk)
      | .fab, hk => c_fab.elim (fun e => part_absurd e hk) fun e => e.trans (h.rest .fab hk)
      | .parts, hk => c_parts.elim (fun e => part_absurd e hk) fun e => e.trans (h.rest .parts hk)
      | .dram, hk => c_dram.elim (fun e => part_absurd e hk) fun e => e.trans (h.rest .dram hk)
      | .boxes, hk => c_boxes.elim (fun e => part_absurd e hk) fun e => e.trans (h.rest .boxes hk)
      | .trace, hk => c_trace.elim (fun e => part_absurd e hk) fun e => e.trans (h.rest .trace hk)
      | .noc, hk => c_noc.elim (fun e => part_absurd e hk) fun e => e.trans (h.rest .noc hk)
      | .time, hk => c_time.elim (fun e => part_absurd e hk) fun e => e.trans (h.rest .time hk)
      | .wl, hk => c_wl.elim (fun e => part_absurd e hk) fun e => e.trans (h.rest .wl hk)
      | .pins, hk => c_pins.elim (fun e => part_absurd e hk) fun e => e.trans (h.rest .pins hk)
      | .pwr, hk => c_pwr.elim (fun e => part_absurd e hk) fun e => e.trans (h.rest .pwr hk)
      | .sys, hk => c_sys.elim (fun e => part_absurd e hk) fun e => e.trans (h.rest .sys hk)
      | .svc, hk => c_svc.elim (fun e => part_absurd e hk) fun e => e.trans (h.rest .svc hk)
      | .out, hk => c_out.elim (fun e => part_absurd e hk) fun e => e.trans (h.rest .out hk)
      | .dramMem, hk => cDramMem.elim (fun e => part_absurd e hk) fun e => e.trans (h.rest .dramMem hk)
      | .hostMem, hk => cHostMem.elim (fun e => part_absurd e hk) fun e => e.trans (h.rest .hostMem hk)
      | .commands, hk => cCommands.elim (fun e => part_absurd e hk) fun e => e.trans (h.rest .commands hk)
      | .queues, hk => cQueues.elim (fun e => part_absurd e hk) fun e => e.trans (h.rest .queues hk)
      | .log, hk => cLog.elim (fun e => part_absurd e hk) fun e => e.trans (h.rest .log hk)
      | .keys, hk => cKeys.elim (fun e => part_absurd e hk) fun e => e.trans (h.rest .keys hk)⟩

/-- The factory region is as it was. -/
theorem Sys.factoryBad_mk {off islandOff anvilOn steward recovery settings record copies slots factoryBad trialFrom
    activating stewardDown waking sleeping moduleFault unpersisted lastReset} : (Sys.mk off islandOff anvilOn
    steward recovery settings record copies slots factoryBad trialFrom activating stewardDown waking sleeping
    moduleFault unpersisted lastReset).factoryBad = factoryBad := rfl

theorem Dram.mem_mk {mem remap retired used poison corr reqs back inOrder refresh pdown frozen rankOut migrate patrol waiting diag jobs openRow noSlot stalled cowZero} : (Dram.mk mem remap retired used poison corr reqs back inOrder refresh pdown frozen rankOut migrate patrol waiting diag jobs openRow noSlot stalled cowZero).mem = mem := rfl

theorem HostIf.mem_mk {boxes posted busy orphans sessions uartBusy queues ready mem log logSeq flashLog lost
    persisted certs keys} : (HostIf.mk boxes posted busy orphans sessions uartBusy queues ready mem log logSeq
    flashLog lost persisted certs keys).mem = mem := rfl

/-- A change of the registers. -/
theorem Kept.setRegs {b : State} {regs} (h : Kept W s0 b) (r : Tidy s0 → TabOk none regs) (e : ∀ f, W.fld f = false
    → ∀ i j, Tab.get none regs (f.key i j) = Tab.get none b.regs (f.key i j)) :
    Kept W s0 (State.mk b.pending b.grade b.stepping b.free regs b.held b.latches b.fab b.parts b.dram b.host
      b.trace b.noc b.time b.wl b.pins b.pwr b.sys b.svc b.out) :=
  ⟨h.queue, h.grade, h.stepping, h.factory, fun i => ⟨r i, (h.tidy i).fab, (h.tidy i).dram, (h.tidy i).host⟩,
    fun f hf i j => (e f hf i j).trans (h.regs f hf i j), fun k hk => match k, hk with
      | .free, hk => h.rest .free hk
      | .held, hk => h.rest .held hk
      | .latches, hk => h.rest .latches hk
      | .fab, hk => h.rest .fab hk
      | .parts, hk => h.rest .parts hk
      | .dram, hk => h.rest .dram hk
      | .boxes, hk => h.rest .boxes hk
      | .trace, hk => h.rest .trace hk
      | .noc, hk => h.rest .noc hk
      | .time, hk => h.rest .time hk
      | .wl, hk => h.rest .wl hk
      | .pins, hk => h.rest .pins hk
      | .pwr, hk => h.rest .pwr hk
      | .sys, hk => h.rest .sys hk
      | .svc, hk => h.rest .svc hk
      | .out, hk => h.rest .out hk
      | .dramMem, hk => h.rest .dramMem hk
      | .hostMem, hk => h.rest .hostMem hk
      | .commands, hk => h.rest .commands hk
      | .queues, hk => h.rest .queues hk
      | .log, hk => h.rest .log hk
      | .keys, hk => h.rest .keys hk⟩

end

theorem FabOk.set {instr route egress inject dict flaws mem shadow pend bus flight paddr pdata pword wlost spReads
    banks emu due nextId issued dma} (h0 : TabOk 0 instr) (h1 : TabOk 0 route) (h2 : TabOk 0 egress) (h3 : TabOk 0
    inject) (h4 : TabOk 0 dict) (h5 : TabOk false mem) (h6 : TabOk 0 banks) : FabOk (Fab.mk instr route egress
    inject dict flaws mem shadow pend bus flight paddr pdata pword wlost spReads banks emu due nextId issued dma) :=
  ⟨h0, h1, h2, h3, h4, h5, h6⟩

theorem DramOk.set {mem remap retired used poison corr reqs back inOrder refresh pdown frozen rankOut migrate patrol waiting diag jobs openRow noSlot stalled cowZero} (h : TabOk 0 mem) : DramOk (Dram.mk mem remap retired used poison corr reqs back inOrder refresh pdown frozen rankOut migrate patrol waiting diag jobs openRow noSlot stalled cowZero) := ⟨h⟩

theorem HostOk.set {boxes posted busy orphans sessions uartBusy queues ready mem log logSeq flashLog lost persisted
    certs keys} (h : TabOk none mem) : HostOk (HostIf.mk boxes posted busy orphans sessions uartBusy queues ready
    mem log logSeq flashLog lost persisted certs keys) := ⟨h⟩

/-! ## Conditionals, folds and pairs -/

section
variable {α β γ : Type} {P : α → Prop}

theorem ite_of {c : Prop} [Decidable c] {a b : α} (ha : P a) (hb : P b) : P (if c then a else b) := by
  split <;> assumption

theorem dite_of {c : Prop} [Decidable c] {a : c → α} {b : ¬ c → α} (ha : ∀ h, P (a h)) (hb : ∀ h, P (b h)) :
    P (if h : c then a h else b h) := by
  split
  · exact ha _
  · exact hb _

theorem foldl_of {f : α → β → α} (hf : ∀ a x, P a → P (f a x)) : ∀ {l : List β} {a : α}, P a → P (l.foldl f a)
  | [], _, h => h
  | x :: l, a, h => foldl_of hf (l := l) (hf a x h)

theorem foldr_of {f : β → α → α} (hf : ∀ x a, P a → P (f x a)) : ∀ {l : List β} {a : α}, P a → P (l.foldr f a)
  | [], _, h => h
  | x :: l, _, h => hf x _ (foldr_of hf (l := l) h)

theorem pair1_of {W : Span} {s0 : State} {d : State × γ} {k : State → γ → α} (h : Kept1 W s0 d)
    (hk : ∀ a b, Kept W s0 a → P (k a b)) : P (match d with | (a, b) => k a b) := hk _ _ h

theorem pair2_of {W : Span} {s0 : State} {d : γ × State} {k : γ → State → α} (h : Kept2 W s0 d)
    (hk : ∀ a b, Kept W s0 b → P (k a b)) : P (match d with | (a, b) => k a b) := hk _ _ h
end

section
variable {W : Span} {s0 : State}

theorem kept_ite {c : Prop} [Decidable c] {a b : State} (ha : Kept W s0 a) (hb : Kept W s0 b) :
    Kept W s0 (if c then a else b) := ite_of ha hb

theorem kept_dite {c : Prop} [Decidable c] {a : c → State} {b : ¬ c → State} (ha : ∀ h, Kept W s0 (a h))
    (hb : ∀ h, Kept W s0 (b h)) : Kept W s0 (if h : c then a h else b h) := dite_of ha hb

theorem kept_foldl {β : Type} {f : State → β → State} (hf : ∀ a x, Kept W s0 a → Kept W s0 (f a x))
    {l : List β} {a : State} (h : Kept W s0 a) : Kept W s0 (l.foldl f a) := foldl_of hf h

theorem kept_foldr {β : Type} {f : β → State → State} (hf : ∀ x a, Kept W s0 a → Kept W s0 (f x a))
    {l : List β} {a : State} (h : Kept W s0 a) : Kept W s0 (l.foldr f a) := foldr_of hf h

theorem kept_pair1 {γ : Type} {d : State × γ} {k : State → γ → State} (h : Kept1 W s0 d)
    (hk : ∀ a b, Kept W s0 a → Kept W s0 (k a b)) : Kept W s0 (match d with | (a, b) => k a b) := hk _ _ h

theorem kept_pair2 {γ : Type} {d : γ × State} {k : γ → State → State} (h : Kept2 W s0 d)
    (hk : ∀ a b, Kept W s0 b → Kept W s0 (k a b)) : Kept W s0 (match d with | (a, b) => k a b) := hk _ _ h

theorem fld_ite {c : Prop} [Decidable c] {f g : Fld} (hf : W.fld f = true) (hg : W.fld g = true) :
    W.fld (if c then f else g) = true := by split <;> assumption

/-! ## The one operation that sets a field -/

theorem kept_setReg {s : State} {f i j v} (hf : W.fld f = true) (h : Kept W s0 s) : Kept W s0 (State.setReg s f i j v) := by
  delta State.setReg
  extract_lets
  refine h.setRegs (fun i => ((h.regsOk i)).put) fun g hg i' j' => ?_
  refine Tab.get_put_other fun e => ?_
  rw [(Fld.key_inj e).1, hg] at hf
  cases hf

end

end Sys2Proof.Machine
end

