-- ==== Sys2Proof/Laws/Frame.lean ====
section
/-! SUPPORT. From what an operation keeps (`Kept`) to a frame (`Touches`): the span of a frame's registers and parts, and what a frame
says of one register, of a byte of DRAM and of a byte of host memory. -/

namespace Sys2Proof.Machine

variable {s t u : State}

/-- What is kept but for a span is a frame of every list that covers the span. -/
theorem Kept.touches {W : Span} {p : Fld → Bool} {ks : List Piece} (h : Kept W s t) (hf : ∀ f, p f = false → W.fld f = false)
    (hk : ∀ k, k ∉ ks → W.part k = false) : Touches p ks s t :=
  ⟨fun _ i j e => h.reg (hf _ e) i j, fun k e => h.rest k (hk k e)⟩

theorem among_false {fs : List Fld} {f : Fld} (h : among fs f = false) : f ∉ fs := by
  simpa [among] using h

/-- The span of a list of registers holds no other register. -/
theorem fldBits_among {fs : List Fld} {f : Fld} (h : among fs f = false) : (fldBits fs).testBit f.ctorIdx = false := by
  by_contra c
  exact among_false h (fldBits_mem (by simpa using c))

theorem pieceBits_among {ks : List Piece} {k : Piece} (h : k ∉ ks) : (pieceBits ks).testBit k.ctorIdx = false := by
  by_contra c
  exact h (pieceBits_mem (by simpa using c))

/-- The frame of the registers and the parts that a span lists. -/
theorem Kept.touches_among {fs : List Fld} {ks : List Piece} (h : Kept ⟨fldBits fs, pieceBits ks⟩ s t) :
    Touches (among fs) ks s t :=
  h.touches (fun _ e => fldBits_among e) (fun _ e => pieceBits_among e)

/-- Every register, by its number. -/
theorem Fld.all_of {P : Fld → Bool} (h : (List.range 636).all (fun n => P (Fld.ofNat n)) = true) (f : Fld) : P f = true := by
  have := List.all_eq_true.1 h f.ctorIdx (List.mem_range.2 f.ctorIdx_lt)
  rwa [Fld.ofNat_ctorIdx] at this

/-- The frame of a test on registers that covers a span, the test checked on every register. -/
theorem Kept.touches_of {W : Span} {p : Fld → Bool} {ks : List Piece} (h : Kept W s t)
    (hf : (List.range 636).all (fun n => p (Fld.ofNat n) || !W.fld (Fld.ofNat n)) = true)
    (hk : W.parts ||| pieceBits ks = pieceBits ks) : Touches p ks s t :=
  h.touches (fun f e => by simpa [e] using Fld.all_of (P := fun f => p f || !W.fld f) hf f)
    (fun k e => by
      have := pieceBits_among e
      rw [← hk, Nat.testBit_lor, Bool.or_eq_false_iff] at this
      exact this.1)

/-- A frame that lists no DRAM: every byte of it is as before. -/
theorem Touches.dramByte {p : Fld → Bool} {ks : List Piece} (h : Touches p ks s t) (hk : Piece.dramMem ∉ ks) (a addr : Nat) :
    t.dramByte a addr = s.dramByte a addr := by
  have := h.2 .dramMem hk
  simp only [Piece.same] at this
  rw [State.dramByte, State.dramByte, this]

/-- A frame that lists no host memory: every byte of it is as before. -/
theorem Touches.hostByte {p : Fld → Bool} {ks : List Piece} (h : Touches p ks s t) (hk : Piece.hostMem ∉ ks) (port addr : Nat) :
    t.hostByte port addr = s.hostByte port addr := by
  have := h.2 .hostMem hk
  simp only [Piece.same] at this
  rw [State.hostByte, State.hostByte, this]

/-- A frame after a frame. -/
theorem Touches.trans {p : Fld → Bool} {ks : List Piece} (h : Touches p ks s t) (h' : Touches p ks t u) : Touches p ks s u :=
  ⟨fun f i j e => (h'.1 f i j e).trans (h.1 f i j e), fun k e => by
    have a := h.2 k e
    have b := h'.2 k e
    cases k <;> simp only [Piece.same] at * <;> exact b.trans a⟩

end Sys2Proof.Machine
end

