-- ==== Sys2Proof/Laws/KeptRegs.lean ====
section
/-! SUPPORT. What the operations of Machine/Regs.lean keep (see Laws/Kept.lean). -/

namespace Sys2Proof.Machine

theorem FabOk.init : FabOk Fab.init := ⟨rfl, rfl, rfl, rfl, rfl, rfl, rfl⟩

theorem kept_setReg64 {W : Span} {s0 : State} {x0 x1 x2 x3 x4 x5} (f1 : W.fld x1 = true) (f2 : W.fld x2 = true) (hx0
    : Kept W s0 x0) :
    Kept W s0 (State.setReg64 x0 x1 x2 x3 x4 x5) := by
  delta State.setReg64
  exact (kept_setReg f2 (kept_setReg f1 hx0))

theorem kept_bump {W : Span} {s0 : State} {x0 x1 x2 x3 x4} (f1 : W.fld x1 = true) (hx0 : Kept W s0 x0) :
    Kept W s0 (State.bump x0 x1 x2 x3 x4) := by
  delta State.bump
  exact (kept_setReg f1 hx0)

theorem kept_setFlag {W : Span} {s0 : State} {x0 x1 x2 x3 x4} (f1 : W.fld x1 = true) (hx0 : Kept W s0 x0) :
    Kept W s0 (State.setFlag x0 x1 x2 x3 x4) := by
  delta State.setFlag
  exact (kept_setReg f1 hx0)

theorem kept_setRecord {W : Span} {s0 : State} {x0 x1 x2 x3 x4} (w : Span.le ⟨0x0, 8192⟩ W) (f1 : W.fld x1 = true)
    (hx0 : Kept W s0 x0) :
    Kept W s0 (State.setRecord x0 x1 x2 x3 x4) := by
  delta State.setRecord
  extract_lets v1 v3 v4 v5
  have h2 : Kept W s0 v1 := (kept_setReg f1 hx0)
  exact (Kept.setSys h2 (w.part rfl) Sys.factoryBad_mk)

theorem kept_setSetting {W : Span} {s0 : State} {x0 x1 x2 x3 x4} (w : Span.le ⟨0x0, 8192⟩ W) (f1 : W.fld x1 = true)
    (hx0 : Kept W s0 x0) :
    Kept W s0 (State.setSetting x0 x1 x2 x3 x4) := by
  delta State.setSetting
  extract_lets v1 v3 v4 v5
  have h2 : Kept W s0 v1 := (kept_setReg f1 hx0)
  exact (Kept.setSys h2 (w.part rfl) Sys.factoryBad_mk)

theorem kept_setHost {W : Span} {s0 : State} {x0 x1 x2 x3 x4} (w : Span.le ⟨0x0, 8192⟩ W) (f1 : W.fld x1 = true) (hx0
    : Kept W s0 x0) :
    Kept W s0 (State.setHost x0 x1 x2 x3 x4) := by
  delta State.setHost
  exact (kept_ite (kept_setSetting (w.sub rfl rfl) f1 hx0) (kept_setReg f1 hx0))

theorem kept_dropRegs {W : Span} {s0 : State} {x0 x1} (w : Span.le
    ⟨0xffffffffffffffffffffffffffffffffffffffffffffffffffffffffffffffffffffffffffffffffffffffffffffffffffffffffffffffffffffffffffffffffffffffffffffffffffffffffffffffffffffffffffffffffffffffffffffffffffffffffffffffffffffffffffffffffffffffffffffffffffffffffffffffff, 2⟩ W) (hx0 : Kept W s0 x0) :
    Kept W s0 (State.dropRegs x0 x1) := by
  delta State.dropRegs
  exact (Kept.many hx0 (fun i1 => (TabOk.keep ((hx0).regsOk i1))) (.inl fun _ => w.all rfl) (fun i1 => ((hx0).fabOk
    i1)) (fun i1 => ((hx0).dramOk i1)) (fun i1 => ((hx0).hostOk i1)) rfl (.inr rfl) (.inl (w.part rfl)) (.inr rfl)
    (.inr rfl) (.inr rfl) (.inr rfl) (.inr rfl) (.inr rfl) (.inr rfl) (.inr rfl) (.inr rfl) (.inr rfl) (.inr rfl)
    (.inr rfl) (.inr rfl) (.inr rfl) (.inr rfl) (.inr rfl) (.inr (HostIf.sameCommands.refl _)) (.inr
    (HostIf.sameQueues.refl _)) (.inr (HostIf.sameLog.refl _)) (.inr (HostIf.sameKeys.refl _)))

theorem kept_applySettings {W : Span} {s0 : State} {x0 x1} (w : Span.le
    ⟨0xffffffffffffffffffffffffffffffffffffffffffffffffffffffffffffffffffffffffffffffffffffffffffffffffffffffffffffffffffffffffffffffffffffffffffffffffffffffffffffffffffffffffffffffffffffffffffffffffffffffffffffffffffffffffffffffffffffffffffffffffffffffffffffffff, 0⟩ W) (hx0 : Kept W s0 x0) :
    Kept W s0 (State.applySettings x0 x1) := by
  delta State.applySettings
  extract_lets v1
  exact (Kept.many hx0 (fun i2 => (foldl_of (P := TabOk none) (fun _ _ h3 => (ite_of (P := TabOk none) (TabOk.put h3)
    h3)) (foldl_of (P := TabOk none) (fun _ _ h4 => (ite_of (P := TabOk none) (TabOk.put h4) h4)) ((hx0).regsOk
    i2)))) (.inl fun _ => w.all rfl) (fun i2 => ((hx0).fabOk i2)) (fun i2 => ((hx0).dramOk i2)) (fun i2 =>
    ((hx0).hostOk i2)) rfl (.inr rfl) (.inr rfl) (.inr rfl) (.inr rfl) (.inr rfl) (.inr rfl) (.inr rfl) (.inr rfl)
    (.inr rfl) (.inr rfl) (.inr rfl) (.inr rfl) (.inr rfl) (.inr rfl) (.inr rfl) (.inr rfl) (.inr rfl) (.inr rfl)
    (.inr (HostIf.sameCommands.refl _)) (.inr (HostIf.sameQueues.refl _)) (.inr (HostIf.sameLog.refl _)) (.inr
    (HostIf.sameKeys.refl _)))

theorem kept_dropRegs_in {W : Span} {s0 s : State} {p : Nat → Nat → Bool} (hw : W.part .held = true)
    (hp : ∀ (f : Fld) i, W.fld f = false → p f.ctorIdx i = false) (h : Kept W s0 s) : Kept W s0 (State.dropRegs s p) := by
  delta State.dropRegs
  refine Kept.setHeld (Kept.setRegs h (fun i => (h.regsOk i).keep) fun f hf i j => ?_) hw
  exact Tab.get_keep (by simp [Fld.key, hp f i hf])


theorem kept_applySettings_in {W : Span} {s0 s : State} {p : Nat → Nat → Bool}
    (hp : ∀ (f : Fld) i, W.fld f = false → p f.ctorIdx i = false) (h : Kept W s0 s) :
    Kept W s0 (State.applySettings s p) := by
  delta State.applySettings
  extract_lets put
  have hput : ∀ (l : List (Key × Option Nat)) (t : Tab (Option Nat)), TabOk none t → TabOk none (l.foldl put t) :=
    fun l t ht => foldl_of (P := TabOk none) (fun t e ht => ite_of (P := TabOk none) ht.put ht) ht
  have hget : ∀ (f : Fld), W.fld f = false → ∀ i j (l : List (Key × Option Nat)) (t : Tab (Option Nat)),
      Tab.get none (l.foldl put t) (f.key i j) = Tab.get none t (f.key i j) := by
    intro f hf i j l
    induction l with
    | nil => exact fun _ => rfl
    | cons e l ih =>
      intro t
      rw [List.foldl_cons, ih]
      show Tab.get none (if p (e.1.getD 0 0) (e.1.getD 1 0) then _ else t) _ = _
      split
      · next hc =>
        refine Tab.get_put_other fun he => ?_
        rw [he] at hc
        simp [Fld.key, hp f i hf] at hc
      · rfl
  exact Kept.setRegs h (fun i => hput _ _ (hput _ _ (h.regsOk i))) fun f hf i j => (hget f hf i j _ _).trans (hget f hf i j _ _)

/-- The fields of each block, as bits. -/
def blkBits : Blk → Nat
  | .mod => 0x1fffe00000000000000000000000000000000000000000000000000000000000000000000000000000000000000000000000000000007f000000000000000000000000000000000000000003ff
  | .trace => 0x3ffffffffe00000000000000000000000000000000000000000000000000000000000000000
  | .time => 0x1ffffffffffffffe00000000000000000000000000000000000000000000000000000000000000000000000000000000000000000000000000000000000000000000000
  | .sp => 0x1fffffe00000000000000000000000000000000000000000000000000000000000000000000000000000000000000000000000000000000000000000000000000000000000000
  | .pwr => 0x1ffffffffe00000000000000000000000000000000000000000000000000000000000000000000000000000000000000000000000000000000000000000000000000000000000000000000
  | .svc => 0xffff80000000000000000000000000000000000000000000000000000000000000000000000000000000000000000000000000000000000000000000000000000000000000000000000000000000000
  | .hostif => 0xffffc00000000000000000000000000000000000000000000000000000000000000000000000000000000000000000000
  | .queue => 0x1ffffffff0000000000000000000000000000000000000000000000000000000000000000000000000000000000000000000000000
  | .part => 0xfff80000000003ffffffff00001fffe03fffc07f00007fc00
  | .cmp => 0xffffffffc00000000000000000000000000000000000
  | .obs => 0x1ffffffffffffffff0000000000000000000000000000000000000000000000000
  | .link => 0x3f80000000000
  | .ddr => 0x1fffffffffc00000000000000000000000000000000000000000000000000000000000000000000000000
  | .noc => 0x3ffffffe000000000000000000000000000000000000000000000000000000000000000000000000000000000000
  | .wlLane => 0x7fffffe000000000000000000000000000000000000000000000000000000000000000000000000000000000000000000000000000000000
  | .wlBundle => 0x7ff8000000000000000000000000000000000000000000000000000000000000000000000000000000000000000000000000000000000000000
  | .wlStream => 0x1ffff8000000000000000000000000000000000000000000000000000000000000000000000000000000000000000000000000000000000000000000
  | .hearth => 0x7e000000000000000000000000000000000000000000000000000000000000000000000000000000000000000000000000000000000000000000000000000000ffffe0001fc0000000ffff80000
  | .mbox => 0x3c0000000000000000000000000000000000000000000000000000000000000000000000000000000000000000000

/-- Every row of a list, numbered from `n`, is among the bits of its block. -/
def blkAll : Nat → List FieldInfo → Bool
  | _, [] => true
  | n, x :: l => (blkBits x.blk).testBit n && blkAll (n + 1) l


theorem blkAll_get : ∀ {l : List FieldInfo} {k n : Nat}, blkAll k l = true → n < l.length →
    (blkBits (l.getD n FieldInfo.none).blk).testBit (k + n) = true
  | [], _, _, _, h => by cases h
  | x :: l, k, 0, h, _ => (Bool.and_eq_true _ _ ▸ h).1
  | x :: l, k, n + 1, h, hn => by
    have := blkAll_get (k := k + 1) (n := n) (Bool.and_eq_true _ _ ▸ h).2 (Nat.lt_of_succ_lt_succ hn)
    rwa [Nat.add_assoc, Nat.add_comm 1 n] at this

/-- Every row of a list, numbered from `n`, is the row of the field of that number. -/
def fldAll : Nat → List FieldInfo → Bool
  | _, [] => true
  | n, x :: l => Nat.beq x.fld.ctorIdx n && fldAll (n + 1) l


theorem fldAll_get : ∀ {l : List FieldInfo} {k n : Nat}, fldAll k l = true → n < l.length →
    (l.getD n FieldInfo.none).fld.ctorIdx = k + n
  | [], _, _, _, h => by cases h
  | x :: l, k, 0, h, _ => Nat.eq_of_beq_eq_true (Bool.and_eq_true _ _ ▸ h).1
  | x :: l, k, n + 1, h, hn => by
    have := fldAll_get (k := k + 1) (n := n) (Bool.and_eq_true _ _ ▸ h).2 (Nat.lt_of_succ_lt_succ hn)
    rwa [Nat.add_assoc, Nat.add_comm 1 n] at this


theorem regTable_length : regTable.length = 636 := by decide +kernel


theorem regTable_blks : blkAll 0 regTable = true := by decide +kernel


theorem blkBits_table (n : Nat) (h : n < 636) : (blkBits (blkOf n)).testBit n = true := by
  have := blkAll_get (k := 0) (n := n) regTable_blks (by rw [regTable_length]; exact h)
  rwa [Nat.zero_add] at this


theorem startBlock_in {W : Span} {b : Blk} (w : Span.le ⟨blkBits b, 2⟩ W) :
    W.part .held = true ∧ ∀ f : Fld, blkOf f.ctorIdx = b → W.fld f = true :=
  ⟨w.part (by show Nat.testBit 2 _ = true; rfl), fun f hf => w.fld (by rw [← hf]; exact blkBits_table _ f.ctorIdx_lt)⟩


theorem kept_startBlock {W : Span} {s0 s : State} {b : Blk} {i : Nat}
    (w : W.part .held = true ∧ ∀ f : Fld, blkOf f.ctorIdx = b → W.fld f = true) (h : Kept W s0 s) :
    Kept W s0 (State.startBlock s b i) := by
  have hp : ∀ (f : Fld) k, W.fld f = false → (decide (blkOf f.ctorIdx = b) && decide (k = i)) = false := by
    intro f k hf
    by_cases hb : blkOf f.ctorIdx = b
    · rw [w.2 f hb] at hf; cases hf
    · simp [hb]
  exact kept_applySettings_in (p := fun f k => decide (blkOf f = b) && decide (k = i)) hp
    (kept_dropRegs_in (p := fun f k => decide (blkOf f = b) && decide (k = i)) w.1 hp h)

theorem kept_hold {W : Span} {s0 : State} {x0 x1 x2 x3 x4} (w : Span.le ⟨0x0, 2⟩ W) (hx0 : Kept W s0 x0) :
    Kept W s0 (State.hold x0 x1 x2 x3 x4) := by
  delta State.hold
  exact (Kept.setHeld hx0 (w.part rfl))

theorem fldOf_all : ∀ n, n < 636 → (fldOf n).ctorIdx = n := by
  have all : fldAll 0 regTable = true := by decide +kernel
  intro n h
  have := fldAll_get (k := 0) (n := n) all (by rw [regTable_length]; exact h)
  rwa [Nat.zero_add] at this

/-- A field that lies in a block of the span lies in the span. -/

theorem fldOf_in {W : Span} {n : Nat} {b : Blk} (w : Span.le ⟨blkBits b, 0⟩ W) (hb : blkOf n = b) (hm : b ≠ .mod) :
    W.fld (fldOf n) = true := by
  by_cases hn : n < 636
  · refine w.fld ?_
    rw [fldOf_all n hn, ← hb]
    exact blkBits_table n hn
  · have : blkOf n = .mod := by
      rw [blkOf, List.getD_eq_getElem?_getD, List.getElem?_eq_none (by rw [regTable_length]; omega)]
      rfl
    exact absurd (hb.symm.trans this) hm

/-- Pending values that commit to fields of the span. -/

theorem kept_commit_in {W : Span} {s0 s : State} {p : Key → Bool} (w : Span.le ⟨0, 8194⟩ W)
    (hp : ∀ k, p k = true → W.fld (fldOf (k.getD 0 0)) = true) (h : Kept W s0 s) : Kept W s0 (State.commit s p) := by
  delta State.commit
  extract_lets s1
  have h1 : Kept W s0 s1 := by
    have hl : ∀ (l : List (Key × Option Nat)) (s : State), (∀ e ∈ l, p e.1 = true) → Kept W s0 s →
        Kept W s0 (l.foldl (fun s e => match e.2 with
          | none => s
          | some v => s.setHost (fldOf (e.1.getD 0 0)) (e.1.getD 1 0) (e.1.getD 2 0) v) s) := by
      intro l
      induction l with
      | nil => exact fun _ _ h => h
      | cons e l ih =>
        intro s hl h
        refine ih _ (fun x hx => hl x (List.mem_cons_of_mem _ hx)) ?_
        show Kept W s0 (match e.2 with
          | none => s
          | some v => s.setHost (fldOf (e.1.getD 0 0)) (e.1.getD 1 0) (e.1.getD 2 0) v)
        split
        · exact h
        · exact kept_setHost (w.sub rfl rfl) (hp _ (hl e (List.mem_cons_self ..))) h
    exact hl _ _ (fun e he => (List.mem_filter.1 he).2) h
  exact h1.setHeld (w.part rfl)

theorem kept_takeBit {W : Span} {s0 : State} {x0} (w : Span.le ⟨0x0, 1⟩ W) (hx0 : Kept W s0 x0) :
    Kept2 W s0 (State.takeBit x0) := by
  delta State.takeBit
  exact (Kept2.of (Kept.setFree hx0 (w.part rfl)))

theorem kept_takeNat {W : Span} {s0 : State} {x0} (w : Span.le ⟨0x0, 1⟩ W) (hx0 : Kept W s0 x0) :
    Kept2 W s0 (State.takeNat x0) := by
  delta State.takeNat
  exact (Kept2.of (Kept.setFree hx0 (w.part rfl)))

end Sys2Proof.Machine
end

