-- ==== Sys2Proof/Laws/KeptOps.lean ====
section
/-! SUPPORT. What the operations of Machine/Ops.lean keep (see Laws/Kept.lean). -/

namespace Sys2Proof.Machine

theorem kept_modPart {W : Span} {s0 : State} {x0 x1 x2} (w : Span.le ⟨0x0, 16⟩ W) (hx0 : Kept W s0 x0) :
    Kept W s0 (State.modPart x0 x1 x2) := by
  delta State.modPart
  exact (Kept.setParts hx0 (w.part rfl))

theorem kept_setRegionOn {W : Span} {s0 : State} {x0 x1 x2} (w : Span.le ⟨0x300, 0⟩ W) (hx0 : Kept W s0 x0) :
    Kept W s0 (State.setRegionOn x0 x1 x2) := by
  delta State.setRegionOn
  exact (kept_ite (kept_setReg (w.fld rfl) hx0) (kept_setReg (w.fld rfl) hx0))

theorem kept_hostWrite {W : Span} {s0 : State} {x0 x1 x2 x3} (w : Span.le ⟨0x0, 131072⟩ W) (hx0 : Kept W s0 x0) :
    Kept W s0 (State.hostWrite x0 x1 x2 x3) := by
  delta State.hostWrite
  exact (Kept.setHost hx0 (fun i1 => (by
      extract_lets v2
      have h3 : HostOk v2 := ((hx0).hostOk i1)
      exact (HostOk.set (TabOk.putRun (((hx0).hostOk i1)).mem))))
    (.inr rfl) (.inr ⟨rfl, rfl, rfl, rfl, rfl⟩) (.inr ⟨rfl, rfl⟩) (.inr ⟨rfl, rfl, rfl, rfl, rfl⟩) (.inr ⟨rfl, rfl⟩)
      (.inl (w.part rfl)))

theorem kept_dmaUse {W : Span} {s0 : State} {x0 x1} (w : Span.le
    ⟨0x28000000000000000000000000000000000000000000000000000000000000000000000000000000000000000000000, 1⟩ W) (hx0 :
    Kept W s0 x0) :
    Kept W s0 (State.dmaUse x0 x1) := by
  delta State.dmaUse
  refine kept_ite ?_ ?_
  · exact hx0
  · extract_lets v1 v3 v4
    have h2 : Kept2 W s0 v1 := (kept_takeNat (w.sub rfl rfl) hx0)
    have h5 : Kept W s0 v4 := (kept_setReg (w.fld rfl) (Kept2.st h2))
    exact (kept_ite (kept_bump (w.fld rfl) h5) h5)

theorem kept_emit {W : Span} {s0 : State} {x0 x1} (w : Span.le ⟨0x0, 32768⟩ W) (hx0 : Kept W s0 x0) :
    Kept W s0 (State.emit x0 x1) := by
  delta State.emit
  exact (Kept.setOut hx0 (w.part rfl))

theorem kept_dropLatches {W : Span} {s0 : State} {x0 x1} (w : Span.le ⟨0x0, 4⟩ W) (hx0 : Kept W s0 x0) :
    Kept W s0 (State.dropLatches x0 x1) := by
  delta State.dropLatches
  exact (Kept.setLatches hx0 (w.part rfl))

theorem kept_modQueue {W : Span} {s0 : State} {x0 x1 x2} (w : Span.le ⟨0x0, 524288⟩ W) (hx0 : Kept W s0 x0) :
    Kept W s0 (State.modQueue x0 x1 x2) := by
  delta State.modQueue
  exact (Kept.setHost hx0 (fun i1 => (by
      extract_lets v2
      have h3 : HostOk v2 := ((hx0).hostOk i1)
      exact (HostOk.set (h3).mem)))
    (.inr rfl) (.inr ⟨rfl, rfl, rfl, rfl, rfl⟩) (.inl (w.part rfl)) (.inr ⟨rfl, rfl, rfl, rfl, rfl⟩) (.inr ⟨rfl,
      rfl⟩) (.inr rfl))

theorem kept_rescan {W : Span} {s0 : State} {x0 x1} (w : Span.le ⟨0x0, 524288⟩ W) (hx0 : Kept W s0 x0) :
    Kept W s0 (State.rescan x0 x1) := by
  delta State.rescan
  extract_lets v1 v2
  exact (kept_ite (kept_ite hx0 (Kept.setHost hx0 (fun i3 => (HostOk.set (((hx0).hostOk i3)).mem)) (.inr rfl) (.inr
    ⟨rfl, rfl, rfl, rfl, rfl⟩) (.inl (w.part rfl)) (.inr ⟨rfl, rfl, rfl, rfl, rfl⟩) (.inr ⟨rfl, rfl⟩) (.inr rfl)))
    (Kept.setHost hx0 (fun i4 => (HostOk.set (((hx0).hostOk i4)).mem)) (.inr rfl) (.inr ⟨rfl, rfl, rfl, rfl, rfl⟩)
    (.inl (w.part rfl)) (.inr ⟨rfl, rfl, rfl, rfl, rfl⟩) (.inr ⟨rfl, rfl⟩) (.inr rfl)))

theorem kept_queueDown {W : Span} {s0 : State} {x0 x1} (w : Span.le
    ⟨0x4100000000000000000000000000000000000000000000000000000000000000000000000000000000000000000000000000, 524288⟩
    W) (hx0 : Kept W s0 x0) :
    Kept W s0 (State.queueDown x0 x1) := by
  delta State.queueDown
  exact (kept_rescan (w.sub rfl rfl) (kept_modQueue (w.sub rfl rfl) (kept_setReg (w.fld rfl) (kept_setReg (w.fld rfl)
    hx0))))

theorem kept_qAppend {W : Span} {s0 : State} {x0 x1 x2} (w : Span.le ⟨0x0, 524288⟩ W) (hx0 : Kept W s0 x0) :
    Kept W s0 (State.qAppend x0 x1 x2) := by
  delta State.qAppend
  exact (kept_rescan (w.sub rfl rfl) (kept_modQueue (w.sub rfl rfl) hx0))

theorem kept_qOffer {W : Span} {s0 : State} {x0 x1 x2} (w : Span.le
    ⟨0x880000000000000000000000000000000000000000000000000000000000000000000000000000000000000000000000000000,
    524288⟩ W) (hx0 : Kept W s0 x0) :
    Kept W s0 (State.qOffer x0 x1 x2) := by
  delta State.qOffer
  exact (kept_ite (kept_setReg (w.fld rfl) (kept_bump (w.fld rfl) hx0)) (kept_qAppend (w.sub rfl rfl) hx0))

theorem kept_qOfferAll {W : Span} {s0 : State} {x0 x1 x2 x3} (w : Span.le
    ⟨0x880000000000000000000000000000000000000000000000000000000000000000000000000000000000000000000000000000,
    524288⟩ W) (hx0 : Kept W s0 x0) :
    Kept W s0 (State.qOfferAll x0 x1 x2 x3) := by
  delta State.qOfferAll
  exact (kept_foldl (fun _ _ h1 => (kept_qOffer (w.sub rfl rfl) h1)) hx0)

theorem kept_eventTo {W : Span} {s0 : State} {x0 x1 x2 x3 x4 x5 x6 x7} (w : Span.le
    ⟨0x880000000000000000000000000000000000000000000000000000000000000000000000000000000000000000000000000000,
    524288⟩ W) (hx6 : Kept W s0 x6) :
    Kept W s0 (State.eventTo x0 x1 x2 x3 x4 x5 x6 x7) := by
  delta State.eventTo
  extract_lets v1 v2
  exact (kept_ite (kept_rescan (w.sub rfl rfl) (kept_modQueue (w.sub rfl rfl) hx6)) (kept_modQueue (w.sub rfl rfl)
    (kept_setReg (w.fld rfl) (kept_bump (w.fld rfl) hx6))))

theorem kept_pEvent {W : Span} {s0 : State} {x0 x1 x2 x3 x4} (w : Span.le
    ⟨0x880008000000000000000000000000000000000000000000000000000000000000000000000000000000000000000000000000,
    524288⟩ W) (hx0 : Kept W s0 x0) :
    Kept W s0 (State.pEvent x0 x1 x2 x3 x4) := by
  delta State.pEvent
  extract_lets v1
  exact (kept_ite (kept_bump (w.fld rfl) hx0) (kept_foldl (fun _ _ h2 => (kept_eventTo (w.sub rfl rfl) h2)) hx0))

theorem kept_mEvent {W : Span} {s0 : State} {x0 x1 x2 x3} (w : Span.le
    ⟨0x880008000000000000000000000000000000000000000000000000000000000000000000000000000000000000000000000000,
    524288⟩ W) (hx0 : Kept W s0 x0) :
    Kept W s0 (State.mEvent x0 x1 x2 x3) := by
  delta State.mEvent
  extract_lets v1
  exact (kept_ite (kept_bump (w.fld rfl) hx0) (kept_foldl (fun _ _ h2 => (kept_eventTo (w.sub rfl rfl) h2)) hx0))

theorem kept_mEventOf {W : Span} {s0 : State} {x0 x1 x2 x3 x4} (w : Span.le
    ⟨0x880008000000000000000000000000000000000000000000000000000000000000000000000000000000000000000000000000,
    524288⟩ W) (hx0 : Kept W s0 x0) :
    Kept W s0 (State.mEventOf x0 x1 x2 x3 x4) := by
  delta State.mEventOf
  extract_lets v1
  exact (kept_ite (kept_bump (w.fld rfl) hx0) (kept_foldl (fun _ _ h2 => (kept_eventTo (w.sub rfl rfl) h2)) hx0))

theorem kept_pError {W : Span} {s0 : State} {x0 x1 x2 x3} (w : Span.le
    ⟨0x880008000000000000000000000000000000000000000000000000000000000000000000000000000000000000000000000000,
    524288⟩ W) (hx0 : Kept W s0 x0) :
    Kept W s0 (State.pError x0 x1 x2 x3) := by
  delta State.pError
  exact (kept_pEvent (w.sub rfl rfl) hx0)

theorem kept_mError {W : Span} {s0 : State} {x0 x1 x2} (w : Span.le
    ⟨0x880008000000000000000000000000000000000000000000000000000000000000000000000000000000000000000000000000,
    524288⟩ W) (hx0 : Kept W s0 x0) :
    Kept W s0 (State.mError x0 x1 x2) := by
  delta State.mError
  exact (kept_mEvent (w.sub rfl rfl) hx0)

theorem kept_audit {W : Span} {s0 : State} {x0 x1} (w : Span.le ⟨0x0, 1048576⟩ W) (hx0 : Kept W s0 x0) :
    Kept W s0 (State.audit x0 x1) := by
  delta State.audit
  extract_lets v1 v2 v3
  exact (Kept.setHost hx0 (fun i4 => (HostOk.set (((hx0).hostOk i4)).mem)) (.inr rfl) (.inr ⟨rfl, rfl, rfl, rfl,
    rfl⟩) (.inr ⟨rfl, rfl⟩) (.inl (w.part rfl)) (.inr ⟨rfl, rfl⟩) (.inr rfl))

theorem kept_persistAudit {W : Span} {s0 : State} {x0} (w : Span.le ⟨0x0, 1048576⟩ W) (hx0 : Kept W s0 x0) :
    Kept W s0 (State.persistAudit x0) := by
  delta State.persistAudit
  extract_lets v1 v2
  exact (Kept.setHost hx0 (fun i3 => (HostOk.set (((hx0).hostOk i3)).mem)) (.inr rfl) (.inr ⟨rfl, rfl, rfl, rfl,
    rfl⟩) (.inr ⟨rfl, rfl⟩) (.inl (w.part rfl)) (.inr ⟨rfl, rfl⟩) (.inr rfl))

theorem kept_auditAction {W : Span} {s0 : State} {x0 x1 x2 x3} (w : Span.le ⟨0x0, 1048576⟩ W) (hx0 : Kept W s0 x0) :
    Kept W s0 (State.auditAction x0 x1 x2 x3) := by
  delta State.auditAction
  exact (kept_audit (w.sub rfl rfl) hx0)

theorem kept_condition {W : Span} {s0 : State} {x0 x1} (w : Span.le
    ⟨0x80000000000000000000000000000000000000000000000000000880008000000000000000000000000000000000000000000000000000000000000000000000000000000000000000000000000, 1581056⟩ W) (hx0 : Kept W s0 x0) :
    Kept W s0 (State.condition x0 x1) := by
  delta State.condition
  extract_lets v1 v2
  have h3 : Kept W s0 v2 := (kept_setRecord (w.sub rfl rfl) (w.fld rfl) hx0)
  exact (kept_ite hx0 (kept_auditAction (w.sub rfl rfl) (kept_mEvent (w.sub rfl rfl) h3)))

theorem kept_auditWrite {W : Span} {s0 : State} {x0 x1 x2 x3 x4 x5 x6} (w : Span.le ⟨0x0, 1048576⟩ W) (hx0 : Kept W
    s0 x0) :
    Kept W s0 (State.auditWrite x0 x1 x2 x3 x4 x5 x6) := by
  delta State.auditWrite
  exact (kept_audit (w.sub rfl rfl) hx0)

theorem kept_begin {W : Span} {s0 : State} {x0 x1 x2 x3 x4 x5 x6} (w : Span.le ⟨0x0, 262144⟩ W) (hx0 : Kept W s0 x0) :
    Kept W s0 (State.begin x0 x1 x2 x3 x4 x5 x6) := by
  delta State.begin
  refine kept_ite ?_ ?_
  · exact hx0
  · exact (Kept.setHost hx0 (fun i1 => (by
        extract_lets v2
        have h3 : HostOk v2 := ((hx0).hostOk i1)
        exact (HostOk.set (h3).mem)))
      (.inr rfl) (.inl (w.part rfl)) (.inr ⟨rfl, rfl⟩) (.inr ⟨rfl, rfl, rfl, rfl, rfl⟩) (.inr ⟨rfl, rfl⟩) (.inr rfl))

theorem kept_answer {W : Span} {s0 : State} {x0 x1 x2} (w : Span.le ⟨0x0, 1310720⟩ W) (hx0 : Kept W s0 x0) :
    Kept W s0 (State.answer x0 x1 x2) := by
  delta State.answer
  split
  · exact hx0
  · refine kept_ite ?_ ?_
    · exact hx0
    · extract_lets v1 v2 v4 v6 v7
      have h3 : Kept W s0 v2 := (kept_ite hx0 (kept_audit (w.sub rfl rfl) hx0))
      have h5 : Kept W s0 v4 := (kept_ite (kept_persistAudit (w.sub rfl rfl) h3) h3)
      exact (Kept.setHost h5 (fun i8 => (HostOk.set (((h5).hostOk i8)).mem)) (.inr rfl) (.inl (w.part rfl)) (.inr
        ⟨rfl, rfl⟩) (.inr ⟨rfl, rfl, rfl, rfl, rfl⟩) (.inr ⟨rfl, rfl⟩) (.inr rfl))

theorem kept_done {W : Span} {s0 : State} {x0 x1 x2} (w : Span.le ⟨0x0, 1310720⟩ W) (hx0 : Kept W s0 x0) :
    Kept W s0 (State.done x0 x1 x2) := by
  delta State.done
  exact (kept_answer (w.sub rfl rfl) hx0)

theorem kept_doneAll {W : Span} {s0 : State} {x0 x1 x2} (w : Span.le ⟨0x0, 1310720⟩ W) (hx0 : Kept W s0 x0) :
    Kept W s0 (State.doneAll x0 x1 x2) := by
  delta State.doneAll
  exact (kept_foldl (fun _ _ h1 => (kept_done (w.sub rfl rfl) h1)) hx0)

theorem kept_says {W : Span} {s0 : State} {x0 x1} (hx0 : Kept W s0 x0) : Kept1 W s0 (State.says x0 x1) := by
  delta State.says
  exact (Kept1.of hx0)

theorem kept_oks {W : Span} {s0 : State} {x0} (hx0 : Kept W s0 x0) : Kept1 W s0 (State.oks x0) := by
  delta State.oks
  exact (Kept1.of hx0)

theorem kept_waits {W : Span} {s0 : State} {x0} (hx0 : Kept W s0 x0) : Kept1 W s0 (State.waits x0) := by
  delta State.waits
  exact (Kept1.of hx0)

theorem kept_refuseIf {W : Span} {s0 : State} {x0 x1 x2} (hx1 : Kept W s0 x1) (hx2 : ∀ y0, Kept W s0 y0 → Kept1 W s0
    (x2 y0)) :
    Kept1 W s0 (refuseIf x0 x1 x2) := by
  delta refuseIf
  exact (by split; exacts [(kept_says hx1), (hx2 _ hx1)])

theorem kept_runCmd {W : Span} {s0 : State} {x0 x1 x2 x3 x4 x5} (w : Span.le ⟨0x0, 1310720⟩ W) (hx4 : ∀ y0, Kept W s0
    y0 → Kept1 W s0 (x4 y0)) (hx5 : Kept W s0 x5) :
    Kept W s0 (runCmd x0 x1 x2 x3 x4 x5) := by
  delta runCmd
  refine kept_ite ?_ ?_
  · exact hx5
  · extract_lets v1 v3
    have h2 : Kept W s0 v1 := (kept_begin (w.sub rfl rfl) hx5)
    have h4 : Kept1 W s0 v3 := (ite_of (P := Kept1 W s0) (kept_says h2) (hx4 _ h2))
    exact (by split; exacts [(Kept1.st h4), (kept_answer (w.sub rfl rfl) (Kept1.st h4))])

end Sys2Proof.Machine
end

