-- ==== Sys2Proof/Laws/KeptQuench.lean ====
section
/-! SUPPORT. What the operations of Machine/Quench.lean keep (see Laws/Kept.lean). -/

namespace Sys2Proof.Machine

theorem kept_setOutage {W : Span} {s0 : State} {x0 x1 x2} (w : Span.le ⟨0x0, 16384⟩ W) (hx0 : Kept W s0 x0) :
    Kept W s0 (State.setOutage x0 x1 x2) := by
  delta State.setOutage
  exact (Kept.setSvc hx0 (w.part rfl))

theorem kept_outageStart {W : Span} {s0 : State} {x0 x1} (w : Span.le ⟨0x0, 16384⟩ W) (hx0 : Kept W s0 x0) :
    Kept W s0 (State.outageStart x0 x1) := by
  delta State.outageStart
  exact (by extract_lets v1; exact (kept_ite hx0 (kept_setOutage (w.sub rfl rfl) hx0)))

theorem kept_outageRecover {W : Span} {s0 : State} {x0 x1 x2} (w : Span.le ⟨0x0, 16384⟩ W) (hx0 : Kept W s0 x0) :
    Kept W s0 (State.outageRecover x0 x1 x2) := by
  delta State.outageRecover
  exact (by extract_lets v1; exact (kept_ite (by split; exacts [(kept_setOutage (w.sub rfl rfl) hx0), hx0]) hx0))

theorem kept_outageReload {W : Span} {s0 : State} {x0 x1} (w : Span.le ⟨0x0, 16384⟩ W) (hx0 : Kept W s0 x0) :
    Kept W s0 (State.outageReload x0 x1) := by
  delta State.outageReload
  exact (by extract_lets v1; exact (kept_ite (kept_setOutage (w.sub rfl rfl) hx0) hx0))

theorem kept_outageEnd {W : Span} {s0 : State} {x0 x1} (w : Span.le
    ⟨0x300000000000000000000000000000000000000000000000000000000880008000000000000000000000000000000000000000000000000000000000000000000000000000000000000000000000000, 540672⟩ W) (hx0 : Kept W s0 x0) :
    Kept W s0 (State.outageEnd x0 x1) := by
  delta State.outageEnd
  extract_lets v1 v2 v3 v5
  have h4 : Kept W s0 v3 := (kept_bump (w.fld rfl) (kept_bump (w.fld rfl) hx0))
  have h6 : Kept W s0 v5 := (kept_setOutage (w.sub rfl rfl) h4)
  exact (kept_ite (kept_mEventOf (w.sub rfl rfl) h6) hx0)

theorem kept_acct {W : Span} {s0 : State} {x0 x1} (w : Span.le ⟨0xf0000000000000000000000000000000000, 16⟩ W) (hx0 :
    Kept W s0 x0) :
    Kept W s0 (State.acct x0 x1) := by
  delta State.acct
  refine kept_ite ?_ ?_
  · extract_lets v1 v2 v3 v4 v5 v7
    have h6 : Kept W s0 v5 := (kept_setReg64 (w.fld rfl) (w.fld rfl) hx0)
    have h8 : Kept W s0 v7 := (kept_setReg64 (w.fld rfl) (w.fld rfl) h6)
    exact (kept_modPart (w.sub rfl rfl) h8)
  · exact hx0

theorem kept_reAcct {W : Span} {s0 : State} {x0 x1} (w : Span.le ⟨0x0, 16⟩ W) (hx0 : Kept W s0 x0) :
    Kept W s0 (State.reAcct x0 x1) := by
  delta State.reAcct
  exact (kept_ite (kept_modPart (w.sub rfl rfl) hx0) hx0)

theorem kept_setActive {W : Span} {s0 : State} {x0 x1 x2} (w : Span.le ⟨0xf0200000000000000000000000000000000, 16⟩ W)
    (hx0 : Kept W s0 x0) :
    Kept W s0 (State.setActive x0 x1 x2) := by
  delta State.setActive
  exact (kept_reAcct (w.sub rfl rfl) (kept_setReg (w.fld rfl) (kept_acct (w.sub rfl rfl) hx0)))

theorem kept_setLatched {W : Span} {s0 : State} {x0 x1 x2} (w : Span.le ⟨0x100800000000000000000000000000000, 0⟩ W)
    (hx0 : Kept W s0 x0) :
    Kept W s0 (State.setLatched x0 x1 x2) := by
  delta State.setLatched
  exact (kept_setReg (w.fld rfl) (kept_setReg (w.fld rfl) hx0))

theorem kept_assertAt {W : Span} {s0 : State} {x0 x1 x2 x3 x4 x5} (w : Span.le
    ⟨0x1f0300800000000000000000000000000000, 16400⟩ W) (hx0 : Kept W s0 x0) :
    Kept W s0 (State.assertAt x0 x1 x2 x3 x4 x5) := by
  delta State.assertAt
  extract_lets v1 v3
  have h2 : Kept W s0 v1 := (kept_bump (w.fld rfl) hx0)
  have h4 : Kept W s0 v3 := (kept_ite (kept_setLatched (w.sub rfl rfl) h2) h2)
  exact (kept_ite (kept_ite h4 (kept_modPart (w.sub rfl rfl) (kept_setActive (w.sub rfl rfl) h4))) (kept_ite
    (kept_outageStart (w.sub rfl rfl) (kept_setLatched (w.sub rfl rfl) (kept_setActive (w.sub rfl rfl) h2))) h2))

theorem kept_assertCause {W : Span} {s0 : State} {x0 x1 x2 x3} (w : Span.le ⟨0x1f0300800000000000000000000000000000,
    16400⟩ W) (hx0 : Kept W s0 x0) :
    Kept W s0 (State.assertCause x0 x1 x2 x3) := by
  delta State.assertCause
  exact (kept_assertAt (w.sub rfl rfl) hx0)

theorem kept_assertEntry {W : Span} {s0 : State} {x0 x1 x2} (w : Span.le ⟨0x1f0300800000000000000000000000000000,
    16400⟩ W) (hx0 : Kept W s0 x0) :
    Kept W s0 (State.assertEntry x0 x1 x2) := by
  delta State.assertEntry
  exact (kept_assertAt (w.sub rfl rfl) hx0)

theorem kept_releaseCause {W : Span} {s0 : State} {x0 x1 x2} (w : Span.le ⟨0xf0200000000000000000000000000000000, 16⟩
    W) (hx0 : Kept W s0 x0) :
    Kept W s0 (State.releaseCause x0 x1 x2) := by
  delta State.releaseCause
  exact (kept_ite (kept_setActive (w.sub rfl rfl) hx0) hx0)

theorem kept_releaseHeld {W : Span} {s0 : State} {x0 x1} (w : Span.le ⟨0xf0300800000000000000000000000000000, 16⟩ W)
    (hx0 : Kept W s0 x0) :
    Kept W s0 (State.releaseHeld x0 x1) := by
  delta State.releaseHeld
  extract_lets v1 v2
  exact (kept_ite hx0 (kept_setLatched (w.sub rfl rfl) (kept_setActive (w.sub rfl rfl) hx0)))

theorem kept_assertFreeze {W : Span} {s0 : State} {x0 x1 x2} (w : Span.le ⟨0x1f0300800000000000000000000000000000,
    16400⟩ W) (hx0 : Kept W s0 x0) :
    Kept W s0 (State.assertFreeze x0 x1 x2) := by
  delta State.assertFreeze
  extract_lets v1
  have h2 : Kept W s0 v1 := (kept_assertAt (w.sub rfl rfl) hx0)
  exact (kept_ite (kept_modPart (w.sub rfl rfl) h2) h2)

theorem kept_releaseFreeze {W : Span} {s0 : State} {x0 x1 x2} (w : Span.le ⟨0xf0200000000000000000000000000000000,
    16⟩ W) (hx0 : Kept W s0 x0) :
    Kept W s0 (State.releaseFreeze x0 x1 x2) := by
  delta State.releaseFreeze
  extract_lets v1
  have h2 : Kept W s0 v1 := (kept_modPart (w.sub rfl rfl) hx0)
  exact (kept_ite (kept_releaseCause (w.sub rfl rfl) h2) h2)

theorem kept_withdraw {W : Span} {s0 : State} {x0 x1 x2} (w : Span.le ⟨0xf0200000000000000000000000000000000, 16⟩ W)
    (hx0 : Kept W s0 x0) :
    Kept W s0 (State.withdraw x0 x1 x2) := by
  delta State.withdraw
  exact (kept_modPart (w.sub rfl rfl) (kept_releaseCause (w.sub rfl rfl) hx0))

theorem kept_quenchEvent {W : Span} {s0 : State} {x0 x1 x2} (w : Span.le
    ⟨0x880008000000000000000000000000000000000000000000000000000000000000000000000000000000000000000000000000,
    524304⟩ W) (hx0 : Kept W s0 x0) :
    Kept W s0 (State.quenchEvent x0 x1 x2) := by
  delta State.quenchEvent
  exact (by extract_lets v1 v2; exact (kept_ite (kept_modPart (w.sub rfl rfl) (kept_pEvent (w.sub rfl rfl) hx0)) hx0))

theorem kept_enterMode {W : Span} {s0 : State} {x0 x1 x2 x3} (w : Span.le
    ⟨0x880008000000000000000000000000000000000000000000000000000000000000000004200000000000000000000000000000,
    524288⟩ W) (hx0 : Kept W s0 x0) :
    Kept W s0 (State.enterMode x0 x1 x2 x3) := by
  delta State.enterMode
  extract_lets v1
  have h2 : Kept W s0 v1 := (kept_setReg (w.fld rfl) (kept_setReg (w.fld rfl) hx0))
  exact (kept_pEvent (w.sub rfl rfl) h2)

theorem kept_haltHere {W : Span} {s0 : State} {x0 x1} (w : Span.le
    ⟨0x880008000000000000000000000000000000000000000000000000000000000000000006200000000000000000000000000000,
    1835024⟩ W) (hx0 : Kept W s0 x0) :
    Kept W s0 (State.haltHere x0 x1) := by
  delta State.haltHere
  extract_lets v1 v2
  have h3 : Kept W s0 v2 := (kept_modPart (w.sub rfl rfl) (kept_setReg (w.fld rfl) hx0))
  exact (kept_ite hx0 (kept_ite (kept_modPart (w.sub rfl rfl) hx0) (kept_doneAll (w.sub rfl rfl) (kept_enterMode
    (w.sub rfl rfl) h3))))

theorem kept_land {W : Span} {s0 : State} {x0 x1} (w : Span.le
    ⟨0x880008000000000000000000000000000000000000000000000000000000000000000407200000000000000000000000000000,
    1851408⟩ W) (hx0 : Kept W s0 x0) :
    Kept W s0 (State.land x0 x1) := by
  delta State.land
  extract_lets v1 v2 v3 v5 v7 v9
  have h4 : Kept W s0 v3 := (kept_modPart (w.sub rfl rfl) hx0)
  have h6 : Kept W s0 v5 := (kept_ite h4 (kept_modPart (w.sub rfl rfl) (kept_setReg (w.fld rfl) h4)))
  have h8 : Kept W s0 v7 := (kept_setReg (w.fld rfl) (kept_reAcct (w.sub rfl rfl) h6))
  have h10 : Kept W s0 v9 := (kept_ite (kept_outageStart (w.sub rfl rfl) h8) h8)
  exact (kept_ite hx0 (kept_haltHere (w.sub rfl rfl) (kept_foldl (fun _ _ h11 => (kept_quenchEvent (w.sub rfl rfl)
    h11)) h10)))

theorem kept_resume {W : Span} {s0 : State} {x0 x1} (w : Span.le
    ⟨0x8800080000000000000000000000000000000000000000000000000000000000000f0407200000000000000000000000000000,
    1851408⟩ W) (hx0 : Kept W s0 x0) :
    Kept W s0 (State.resume x0 x1) := by
  delta State.resume
  refine kept_ite ?_ ?_
  · extract_lets v1
    have h2 : Kept W s0 v1 := (kept_land (w.sub rfl rfl) hx0)
    exact (kept_ite (kept_setReg (w.fld rfl) (kept_acct (w.sub rfl rfl) h2)) h2)
  · exact hx0

theorem kept_dropQuench {W : Span} {s0 : State} {x0 x1} (w : Span.le ⟨0xf0301800000000000000000000000000000, 16⟩ W)
    (hx0 : Kept W s0 x0) :
    Kept W s0 (State.dropQuench x0 x1) := by
  delta State.dropQuench
  extract_lets v1
  have h2 : Kept W s0 v1 := (kept_setReg (w.fld rfl) (kept_acct (w.sub rfl rfl) hx0))
  exact (kept_modPart (w.sub rfl rfl) (kept_setLatched (w.sub rfl rfl) (kept_setReg (w.fld rfl) h2)))

theorem kept_abort {W : Span} {s0 : State} {x0 x1 x2} (w : Span.le ⟨0x1f0300800000000000000000000000000000, 1064976⟩
    W) (hx0 : Kept W s0 x0) :
    Kept W s0 (State.abort x0 x1 x2) := by
  delta State.abort
  exact (kept_ite hx0 (kept_ite (kept_auditWrite (w.sub rfl rfl) (kept_assertEntry (w.sub rfl rfl) hx0))
    (kept_auditWrite (w.sub rfl rfl) hx0)))

theorem kept_execHostAbort {W : Span} {s0 : State} {x0 x1 x2} (w : Span.le ⟨0x1f0300800000000000000000000000000000,
    1064976⟩ W) (hx2 : Kept W s0 x2) :
    KeptOut W s0 (execHostAbort x0 x1 x2) := by
  delta execHostAbort
  exact (KeptOut.of (kept_abort (w.sub rfl rfl) hx2))

theorem kept_moduleFault {W : Span} {s0 : State} {x0 x1} (w : Span.le
    ⟨0x8800080000000000000000000000000000000000000000000000000000000000001f0300800000000000000000000000000000,
    1597456⟩ W) (hx0 : Kept W s0 x0) :
    Kept W s0 (State.moduleFault x0 x1) := by
  delta State.moduleFault
  extract_lets v1 v4 v6
  have h3 : Kept W s0 v1 := (kept_foldl (fun _ _ h2 => (kept_assertEntry (w.sub rfl rfl) h2)) hx0)
  have h5 : Kept W s0 v4 := (kept_persistAudit (w.sub rfl rfl) (kept_auditAction (w.sub rfl rfl) (kept_mError (w.sub
    rfl rfl) h3)))
  exact (Kept.setSys h5 (w.part rfl) Sys.factoryBad_mk)

theorem kept_testerStop {W : Span} {s0 : State} {x0 x1} (w : Span.le ⟨0x1f0300800000000000000000000000000000, 16400⟩
    W) (hx0 : Kept W s0 x0) :
    Kept W s0 (State.testerStop x0 x1) := by
  delta State.testerStop
  exact (kept_ite (kept_assertCause (w.sub rfl rfl) hx0) (kept_assertEntry (w.sub rfl rfl) hx0))

end Sys2Proof.Machine
end

