-- ==== Sys2Proof/Laws/KeptFabric.lean ====
section
/-! SUPPORT. What the operations of Machine/Fabric.lean keep (see Laws/Kept.lean). -/

namespace Sys2Proof.Machine

/-- The stores of the fabric are canonical after a step. -/
structure FsOk (r : FabStep) : Prop where
  fab : FabOk r.fab

theorem FsOk.set {fab outs corrBp corrEgr errs doubles fence} (h : FabOk fab) : FsOk (FabStep.mk fab outs corrBp corrEgr errs doubles fence) := ⟨h⟩

theorem fabOk_strike {x0 x1} (hx0 : FabOk x0) : FabOk (Fab.strike x0 x1) := by
  delta Fab.strike
  extract_lets v1
  exact (FabOk.set (hx0).instr (hx0).route (hx0).egress (hx0).inject (hx0).dict (hx0).mem (hx0).banks)

theorem fabOk_results {x0 x1 x2 x3} (hx0 : FabOk x0) : FabOk (Fab.results x0 x1 x2 x3) := by
  delta Fab.results
  extract_lets v1
  have h2 : FabOk v1 := (FabOk.set (hx0).instr (hx0).route (hx0).egress (hx0).inject (hx0).dict (TabOk.keep
    (hx0).mem) (hx0).banks)
  exact (foldl_of (P := FabOk) (fun _ _ h3 => (by
      extract_lets v4 v5 v6 v7 v8
      have h9 : FabOk v8 := (FabOk.set (h3).instr (h3).route (h3).egress (h3).inject (h3).dict (TabOk.put (h3).mem)
        (h3).banks)
      split
      · exact (FabOk.set (h9).instr (h9).route (h9).egress (h9).inject (h9).dict (TabOk.put (h9).mem) (h9).banks)
      · exact (FabOk.set (h9).instr (h9).route (h9).egress (h9).inject (h9).dict (h9).mem (h9).banks)
      · exact h9))
    h2)

theorem fsOk_fabStep {x0 x1 x2 x3 x4 x5 x6 x7} (hx0 : FabOk x0) : FsOk (fabStep x0 x1 x2 x3 x4 x5 x6 x7) := by
  delta fabStep
  extract_lets v1 v2 v3 v4 v5 v7 v8 v9 v10 v11 v12 v13 v14 v15 v16 v17 v18
  have h6 : FabOk v5 := (fabOk_results hx0)
  exact (FsOk.set (FabOk.set (h6).instr (h6).route (h6).egress (h6).inject (h6).dict (foldl_of (P := TabOk false)
    (fun _ _ h19 => (by
      split
      exacts [(TabOk.put h19), h19]))
    (h6).mem) (h6).banks))

theorem kept_countBillets {W : Span} {s0 : State} {x0 x1 x2} (w : Span.le
    ⟨0x18000000000000000000000000000000000000000000000000000000000000000000000000000000000000000000000000000000000000000000000000000000000000000000000000000000000, 8192⟩ W) (hx0 : Kept W s0 x0) :
    Kept W s0 (State.countBillets x0 x1 x2) := by
  delta State.countBillets
  extract_lets v1 v2 v3
  exact (kept_setRecord (w.sub rfl rfl) (w.fld rfl) (kept_setRecord (w.sub rfl rfl) (w.fld rfl) hx0))

theorem kept_markFailed {W : Span} {s0 : State} {x0 x1 x2 x3} (w : Span.le
    ⟨0x18000000000000000000000000000000000000000000000000000000000000000000000000000000000000000000000000000000000000000000000000000000000000000000000000000000000, 24576⟩ W) (hx0 : Kept W s0 x0) :
    Kept W s0 (State.markFailed x0 x1 x2 x3) := by
  delta State.markFailed
  exact (kept_ite hx0 (kept_countBillets (w.sub rfl rfl) (Kept.setSvc hx0 (w.part rfl))))

theorem kept_noteUncorr {W : Span} {s0 : State} {x0 x1 x2 x3} (w : Span.le
    ⟨0x18000000000000000000000000000000000000000000000000000000000000000000000000000000000000000000000000000000000000000000000000000000000000000000000000000000000, 24576⟩ W) (hx0 : Kept W s0 x0) :
    Kept W s0 (State.noteUncorr x0 x1 x2 x3) := by
  delta State.noteUncorr
  extract_lets v1 v2 v3 v4
  have h5 : Kept W s0 v4 := (Kept.setSvc hx0 (w.part rfl))
  exact (kept_ite (kept_markFailed (w.sub rfl rfl) h5) h5)

theorem kept_noteCorr {W : Span} {s0 : State} {x0 x1 x2} (w : Span.le
    ⟨0x18000000000000000000000000000000000000000000000000000000000000000000000000000000000000000000000000000000000000000000000000000000000000000000000000000000000, 24576⟩ W) (hx0 : Kept W s0 x0) :
    Kept W s0 (State.noteCorr x0 x1 x2) := by
  delta State.noteCorr
  extract_lets v1 v2 v3 v4
  have h5 : Kept W s0 v4 := (Kept.setSvc hx0 (w.part rfl))
  exact (kept_ite (kept_markFailed (w.sub rfl rfl) h5) h5)

theorem kept_recordFab {W : Span} {s0 : State} {x0 x1 x2} (w : Span.le ⟨0xdc00000001df800000, 0⟩ W) (hx0 : Kept W s0
    x0) :
    Kept W s0 (State.recordFab x0 x1 x2) := by
  delta State.recordFab
  extract_lets v1 v2 v3 v5 v6
  have h4 : Kept W s0 v3 := (kept_ite (kept_setReg (w.fld rfl) (kept_setReg (w.fld rfl) hx0)) hx0)
  have h7 : Kept W s0 v6 := (kept_ite (kept_setReg (w.fld rfl) (kept_setReg (w.fld rfl) (kept_setReg (w.fld rfl)
    hx0))) hx0)
  refine kept_ite ?_ ?_
  · exact (kept_setReg (by unfold egrField; split <;> exact w.fld rfl) h4)
  · exact (kept_setReg (by unfold errField; split <;> exact w.fld rfl) h7)

theorem kept_fabFault {W : Span} {s0 : State} {x0 x1 x2 x3} (w : Span.le
    ⟨0x180000000000000000000000000000000000000000000000000008800080000000000000000000000000000000000000000000000000000000000001f0300800000000000dc00000001df800000, 548880⟩ W) (hx2 : Kept W s0 x2) :
    Kept W s0 (State.fabFault x0 x1 x2 x3) := by
  delta State.fabFault
  extract_lets v1 v3 v4
  have h2 : Kept W s0 v1 := (kept_recordFab (w.sub rfl rfl) hx2)
  have h5 : Kept W s0 v4 := (kept_assertCause (w.sub rfl rfl) (kept_pError (w.sub rfl rfl) h2))
  exact (kept_ite (kept_noteUncorr (w.sub rfl rfl) h5) h5)

theorem kept_fabCorr {W : Span} {s0 : State} {x0 x1} (w : Span.le ⟨0x1200000000220000000, 0⟩ W) (hx0 : Kept W s0 x0) :
    Kept W s0 (State.fabCorr x0 x1) := by
  delta State.fabCorr
  extract_lets v1
  have h3 : Kept W s0 v1 := (kept_foldl (fun _ _ h2 => (kept_setReg (w.fld rfl) (kept_bump (w.fld rfl) h2))) hx0)
  exact (kept_foldl (fun _ _ h4 => (kept_setReg (w.fld rfl) (kept_bump (w.fld rfl) h4))) h3)

theorem kept_fabDoubles {W : Span} {s0 : State} {x0 x1 x2 x3} (w : Span.le
    ⟨0x8800080000000000000000000000000000000000000000000000000000000000001f0300800000000000000ffc000000000000,
    540688⟩ W) (hx0 : Kept W s0 x0) :
    Kept W s0 (State.fabDoubles x0 x1 x2 x3) := by
  delta State.fabDoubles
  split
  · exact hx0
  · extract_lets v1 v3
    have h2 : Kept W s0 v1 := (kept_bump (w.fld rfl) hx0)
    have h4 : Kept W s0 v3 := (kept_ite h2 (kept_setReg (w.fld rfl) (kept_setReg64 (w.fld rfl) (w.fld rfl)
      (kept_setReg (w.fld rfl) (kept_setReg (w.fld rfl) (kept_setReg (w.fld rfl) (kept_setReg (w.fld rfl)
      (kept_setReg (w.fld rfl) (kept_setReg (w.fld rfl) h2)))))))))
    exact (kept_assertCause (w.sub rfl rfl) (kept_pError (w.sub rfl rfl) h4))

theorem kept_fabFence {W : Span} {s0 : State} {x0 x1 x2 x3} (w : Span.le
    ⟨0x8800080000000000000000000000000000000000000000000000000000000000001f030080000000000003f000000000000000,
    540688⟩ W) (hx0 : Kept W s0 x0) :
    Kept W s0 (State.fabFence x0 x1 x2 x3) := by
  delta State.fabFence
  split
  · exact hx0
  · extract_lets v1 v3
    have h2 : Kept W s0 v1 := (kept_bump (w.fld rfl) hx0)
    have h4 : Kept W s0 v3 := (kept_ite h2 (kept_setReg (w.fld rfl) (kept_setReg (w.fld rfl) (kept_setReg (w.fld rfl)
      (kept_setReg (w.fld rfl) (kept_setReg (w.fld rfl) h2))))))
    exact (kept_assertCause (w.sub rfl rfl) (kept_pError (w.sub rfl rfl) h4))

end Sys2Proof.Machine
end

