-- ==== Sys2Proof/Laws/KeptTraceSrc.lean ====
section
/-! SUPPORT. What the operations of Machine/TraceSrc.lean keep (see Laws/Kept.lean). -/

namespace Sys2Proof.Machine

theorem kept_modSrc {W : Span} {s0 : State} {x0 x1 x2} (w : Span.le ⟨0x0, 128⟩ W) (hx0 : Kept W s0 x0) :
    Kept W s0 (State.modSrc x0 x1 x2) := by
  delta State.modSrc
  exact (Kept.setTrace hx0 (w.part rfl))

theorem kept_push {W : Span} {s0 : State} {x0 x1 x2 x3} (w : Span.le ⟨0x0, 128⟩ W) (hx0 : Kept W s0 x0) :
    Kept W s0 (State.push x0 x1 x2 x3) := by
  delta State.push
  exact (kept_ite (kept_modSrc (w.sub rfl rfl) hx0) (kept_modSrc (w.sub rfl rfl) hx0))

theorem kept_pushSync {W : Span} {s0 : State} {x0 x1 x2 x3} (w : Span.le ⟨0x0, 128⟩ W) (hx0 : Kept W s0 x0) :
    Kept W s0 (State.pushSync x0 x1 x2 x3) := by
  delta State.pushSync
  exact (kept_modSrc (w.sub rfl rfl) (kept_push (w.sub rfl rfl) hx0))

theorem kept_autoSync {W : Span} {s0 : State} {x0 x1 x2} (w : Span.le ⟨0x0, 129⟩ W) (hx0 : Kept W s0 x0) :
    Kept W s0 (State.autoSync x0 x1 x2) := by
  delta State.autoSync
  refine kept_ite ?_ ?_
  · extract_lets v1
    have h2 : Kept2 W s0 v1 := (kept_takeNat (w.sub rfl rfl) hx0)
    exact (kept_pushSync (w.sub rfl rfl) (Kept2.st h2))
  · exact (kept_pushSync (w.sub rfl rfl) hx0)

theorem kept_recoverSrc {W : Span} {s0 : State} {x0 x1} (w : Span.le
    ⟨0x20000004000000000000000000000000000000000000000000000000000000000000000000, 129⟩ W) (hx0 : Kept W s0 x0) :
    Kept W s0 (State.recoverSrc x0 x1) := by
  delta State.recoverSrc
  extract_lets v1 v3 v4
  have h2 : Kept W s0 v1 := (kept_ite (kept_autoSync (w.sub rfl rfl) hx0) hx0)
  have h5 : Kept W s0 v4 := (kept_modSrc (w.sub rfl rfl) (kept_push (w.sub rfl rfl) h2))
  exact (kept_autoSync (w.sub rfl rfl) (kept_setReg (w.fld rfl) (kept_bump (w.fld rfl) h5)))

theorem kept_traceOne {W : Span} {s0 : State} {x0 x1 x2} (w : Span.le
    ⟨0x20000004000000000000000000000000000000000000000000000000000000000000000000, 129⟩ W) (hx0 : Kept W s0 x0) :
    Kept W s0 (State.traceOne x0 x1 x2) := by
  delta State.traceOne
  refine kept_ite ?_ ?_
  · exact hx0
  · split
    · exact hx0
    · extract_lets v1 v2 v4
      have h3 : Kept W s0 v2 := (kept_ite (kept_recoverSrc (w.sub rfl rfl) hx0) hx0)
      have h5 : Kept W s0 v4 := (by unfold v4; split; exacts [(kept_autoSync (w.sub rfl rfl) h3), h3])
      refine kept_ite ?_ ?_
      · exact (kept_modSrc (w.sub rfl rfl) h3)
      · split
        · exact h5
        · exact (kept_ite (kept_modSrc (w.sub rfl rfl) (kept_push (w.sub rfl rfl) h5)) (kept_ite (kept_modSrc (w.sub
            rfl rfl) h5) (kept_modSrc (w.sub rfl rfl) h5)))

theorem kept_countBranches {W : Span} {s0 : State} {x n s} (w : Span.le ⟨0x20000004000000000000000000000000000000000000000000000000000000000000000000, 129⟩ W) (h : Kept W s0 s) :
    Kept W s0 (State.countBranches x n s) := by
  induction n generalizing s with
  | zero => exact h
  | succ n ih => exact ih (kept_traceOne (w.sub rfl rfl) (Kept2.st (kept_takeNat (w.sub rfl rfl) h)))

theorem kept_traceItem {W : Span} {s0 : State} {x0 x1 x2} (w : Span.le
    ⟨0x20000004000000000000000000000000000000000000000000000000000000000000000000, 129⟩ W) (hx0 : Kept W s0 x0) :
    Kept W s0 (State.traceItem x0 x1 x2) := by
  delta State.traceItem
  split
  · exact (by extract_lets v1; exact (kept_traceOne (w.sub rfl rfl) (kept_countBranches (w.sub rfl rfl) hx0)))
  · exact (kept_traceOne (w.sub rfl rfl) hx0)

theorem kept_stallEnd {W : Span} {s0 : State} {x0 x1 x2} (w : Span.le
    ⟨0x40000000000000000000000000000000000000000000000000000000000000000000000000, 128⟩ W) (hx0 : Kept W s0 x0) :
    Kept W s0 (State.stallEnd x0 x1 x2) := by
  delta State.stallEnd
  exact (kept_bump (w.fld rfl) (kept_modSrc (w.sub rfl rfl) hx0))

theorem kept_stallOver {W : Span} {s0 : State} {x0 x1} (w : Span.le
    ⟨0x40000000000000000000000000000000000000000000000000000000000000000000000000, 128⟩ W) (hx0 : Kept W s0 x0) :
    Kept W s0 (State.stallOver x0 x1) := by
  delta State.stallOver
  exact (kept_ite (kept_stallEnd (w.sub rfl rfl) hx0) hx0)

theorem kept_traceRestart {W : Span} {s0 : State} {x0 x1} (w : Span.le
    ⟨0x40000000000000000000000000000000000000000000000000000000000000000000000000, 128⟩ W) (hx0 : Kept W s0 x0) :
    Kept W s0 (State.traceRestart x0 x1) := by
  delta State.traceRestart
  exact (kept_modSrc (w.sub rfl rfl) (kept_stallOver (w.sub rfl rfl) hx0))

theorem kept_traceSignal {W : Span} {s0 : State} {x0 x1 x2} (w : Span.le ⟨0x0, 128⟩ W) (hx0 : Kept W s0 x0) :
    Kept W s0 (State.traceSignal x0 x1 x2) := by
  delta State.traceSignal
  exact (by extract_lets v1 v2 v3; exact (kept_ite (Kept.setTrace hx0 (w.part rfl)) hx0))

end Sys2Proof.Machine
end

