-- ==== Sys2Proof/Laws/KeptDram.lean ====
section
/-! SUPPORT. What the operations of Machine/Dram.lean keep (see Laws/Kept.lean). -/

namespace Sys2Proof.Machine

theorem TabOk.moveRun {α : Type} [DecidableEq α] {d : α} {t : Tab α} {a src dst size : Nat} (h : TabOk d t) :
    TabOk d (moveRun d t a src dst size) :=
  foldl_of (fun _ _ h => h.put) h.keep

/-- A change of the DRAM that leaves its bytes. -/
theorem kept_modDramRest {W : Span} {s0 s : State} {f : Dram → Dram} (hw : W.part .dram = true)
    (hf : ∀ d, (f d).mem = d.mem) (h : Kept W s0 s) : Kept W s0 (State.modDram s f) := by
  delta State.modDram
  have e : f s.dram = { f s.dram with mem := s.dram.mem } := by
    rw [← hf s.dram]
  rw [e]
  exact Kept.restDram h hw

theorem kept_dramEvent {W : Span} {s0 : State} {x0 x1 x2 x3 x4 x5 x6} (w : Span.le
    ⟨0x20000004000000000000000000000000000000000000000000000000000000000000000000, 129⟩ W) (hx0 : Kept W s0 x0) :
    Kept W s0 (State.dramEvent x0 x1 x2 x3 x4 x5 x6) := by
  delta State.dramEvent
  exact (kept_traceItem (w.sub rfl rfl) hx0)

theorem kept_modDram {W : Span} {s0 : State} {x0 x1} (w : Span.le ⟨0x0, 65568⟩ W) (hx0 : Kept W s0 x0) (hx1 : ∀ y0,
    DramOk y0 → DramOk (x1 y0)) :
    Kept W s0 (State.modDram x0 x1) := by
  delta State.modDram
  exact (Kept.setDram hx0 (w.part rfl) (w.part rfl) (fun i1 => (hx1 _ ((hx0).dramOk i1))))

theorem dramOk_copyPage {x0 x1 x2 x3} (hx0 : DramOk x0) : DramOk (Dram.copyPage x0 x1 x2 x3) := by
  delta Dram.copyPage
  exact (DramOk.set (TabOk.moveRun (hx0).mem))

theorem dramOk_copySnap {x0 x1 x2 x3} (hx0 : DramOk x0) : DramOk (Dram.copySnap x0 x1 x2 x3) := by
  delta Dram.copySnap
  extract_lets v1 v3
  have h2 : DramOk v1 := (dramOk_copyPage hx0)
  exact (DramOk.set (TabOk.keep (h2).mem))

theorem kept_noteReserve {W : Span} {s0 : State} {x0 x1} (w : Span.le
    ⟨0x400000000000000000000000000000000000000000000000000000000000000000000000000, 0⟩ W) (hx0 : Kept W s0 x0) :
    Kept W s0 (State.noteReserve x0 x1) := by
  delta State.noteReserve
  exact (kept_setFlag (w.fld rfl) hx0)

theorem kept_snapshotPage {W : Span} {s0 : State} {x0 x1 x2 x3} (w : Span.le
    ⟨0x180400000000180000000000000000000000000000000000000000000000000000000000000000, 65584⟩ W) (hx2 : Kept W s0 x2)
    :
    Kept W s0 (State.snapshotPage x0 x1 x2 x3) := by
  delta State.snapshotPage
  extract_lets v1
  refine kept_ite ?_ ?_
  · split
    · extract_lets v2
      have h6 : Kept W s0 v2 := (kept_noteReserve (w.sub rfl rfl) (kept_bump (w.fld rfl) (kept_setReg (w.fld rfl)
        (kept_bump (w.fld rfl) (kept_modDram (w.sub rfl rfl) hx2 (fun _ h3 => (by
          extract_lets v4
          have h5 : DramOk v4 := (dramOk_copySnap h3)
          exact (DramOk.set (h5).mem))))))))
      exact (kept_modPart (w.sub rfl rfl) h6)
    · exact (kept_modPart (w.sub rfl rfl) (kept_bump (w.fld rfl) hx2))
  · exact hx2

theorem dramOk_write {a addr : Nat} : ∀ {bs : List (Option Byte)} {d : Dram}, DramOk d → DramOk (Dram.write d a addr bs) := by
  intro bs d h
  delta Dram.write
  have hf : ∀ (l : List (Option Byte)) (x : Nat × Dram), DramOk x.2 → DramOk (l.foldl (fun (x : Nat × Dram) b =>
      (x.1 + 1, match b with
        | some v => { x.2 with mem := Tab.put 0 x.2.mem [a, x.2.lin a x.1] v }
        | none => x.2)) x).2 := by
    intro l
    induction l with
    | nil => exact fun _ h => h
    | cons b l ih =>
      intro x h
      refine ih _ ?_
      cases b with
      | none => exact h
      | some v => exact ⟨TabOk.put (t := x.2.mem) h.mem⟩
  exact hf bs (addr, d) h

theorem kept_dramPut {W : Span} {s0 : State} {x0 x1 x2 x3} (w : Span.le
    ⟨0x180400000000180000000000000000000000000000000000000000000000000000000000000000, 65584⟩ W) (hx0 : Kept W s0 x0)
    :
    Kept W s0 (State.dramPut x0 x1 x2 x3) := by
  delta State.dramPut
  extract_lets v1 v2
  have h5 : Kept W s0 v2 := (kept_foldl (fun _ _ h3 => (kept_foldl (fun _ _ h4 => (kept_snapshotPage (w.sub rfl rfl)
    h4)) h3)) hx0)
  exact (kept_modDram (w.sub rfl rfl) h5 (fun _ h6 => (dramOk_write h6)))

theorem kept_dramPutRun {W : Span} {s0 : State} {x0 x1 x2 x3} (w : Span.le
    ⟨0x180400000000180000000000000000000000000000000000000000000000000000000000000000, 65584⟩ W) (hx0 : Kept W s0 x0)
    :
    Kept W s0 (State.dramPutRun x0 x1 x2 x3) := by
  delta State.dramPutRun
  extract_lets v1
  exact (kept_modDram (w.sub rfl rfl) (kept_dramPut (w.sub rfl rfl) hx0) (fun _ h2 => (ite_of (P := DramOk) h2
    (DramOk.set (h2).mem))))

theorem kept_dueRetire {W : Span} {s0 : State} {x0 x1 x2} (w : Span.le
    ⟨0x400000000000000000000000000000000000000000000000000000000000000000000000000, 32⟩ W) (hx0 : Kept W s0 x0) :
    Kept W s0 (State.dueRetire x0 x1 x2) := by
  delta State.dueRetire
  exact (kept_noteReserve (w.sub rfl rfl) (kept_modDramRest (w.part rfl) (fun _ => Dram.mem_mk) hx0))

theorem kept_dueOf {W : Span} {s0 : State} {x0 x1 x2} (w : Span.le
    ⟨0x400000000000000000000000000000000000000000000000000000000000000000000000000, 32⟩ W) (hx0 : Kept W s0 x0) :
    Kept W s0 (State.dueOf x0 x1 x2) := by
  delta State.dueOf
  exact (by split; exacts [(kept_dueRetire (w.sub rfl rfl) hx0), hx0])

theorem kept_countCorrected {W : Span} {s0 : State} {x0 x1 x2 x3} (w : Span.le
    ⟨0x12000000420000004000000000000000000000000000000000000000000000000000000000000000000, 161⟩ W) (hx0 : Kept W s0
    x0) :
    Kept W s0 (State.countCorrected x0 x1 x2 x3) := by
  delta State.countCorrected
  extract_lets v1 v2 v3 v5 v8 v9
  have h4 : Kept W s0 v3 := (kept_bump (w.fld rfl) hx0)
  have h7 : Kept W s0 v5 := (kept_foldl (fun _ _ h6 => (kept_bump (w.fld rfl) h6)) h4)
  have h10 : Kept W s0 v9 := (kept_dramEvent (w.sub rfl rfl) h7)
  clear_value v8
  split
  · exact h10
  · extract_lets v11 v12
    have h13 : Kept W s0 v12 := (kept_modDramRest (w.part rfl) (fun _ => Dram.mem_mk) h10)
    exact (kept_ite (kept_dueRetire (w.sub rfl rfl) h13) h13)

theorem dramOk_poisonBurst {x0 x1 x2} (hx0 : DramOk x0) : DramOk (Dram.poisonBurst x0 x1 x2) := by
  delta Dram.poisonBurst
  exact (DramOk.set (TabOk.keep (hx0).mem))

theorem kept_readBurst {W : Span} {s0 : State} {x0 x1 x2 x3 x4} (w : Span.le
    ⟨0x12000000420000004000000000000000000000000000000000000000000000000000000000000000000, 161⟩ W) (hx0 : Kept W s0
    x0) :
    Kept1 W s0 (State.readBurst x0 x1 x2 x3 x4) := by
  delta State.readBurst
  extract_lets v1 v2 v3 v4 v6 v8 v9 v11
  have h5 : Kept2 W s0 v4 := (kept_takeBit (w.sub rfl rfl) hx0)
  have h7 : Kept2 W s0 v6 := (kept_takeNat (w.sub rfl rfl) (Kept2.st h5))
  have h10 : Kept W s0 v9 := (kept_ite (Kept2.st h7) hx0)
  split
  · exact (Kept1.of (kept_ite h10 (kept_countCorrected (w.sub rfl rfl) h10)))
  · exact (Kept1.of (kept_ite h10 (kept_countCorrected (w.sub rfl rfl) h10)))
  · split
    · exact (Kept1.of (kept_ite (kept_bump (w.fld rfl) h10) (kept_ite h10 (kept_countCorrected (w.sub rfl rfl) h10))))
    · exact (Kept1.of (kept_ite (kept_bump (w.fld rfl) h10) (kept_ite h10 (kept_countCorrected (w.sub rfl rfl) h10))))
    · exact (Kept1.of h10)

theorem kept_diagnose {W : Span} {s0 : State} {x0 x1 x2 x3} (w : Span.le ⟨0x0, 32⟩ W) (hx0 : Kept W s0 x0) :
    Kept W s0 (State.diagnose x0 x1 x2 x3) := by
  delta State.diagnose
  exact (kept_modDramRest (w.part rfl) (fun _ => Dram.mem_mk) hx0)

theorem kept_retire {W : Span} {s0 : State} {x0 x1 x2 x3 x4} (w : Span.le
    ⟨0x140400000000000000000000000000000000000000000000000000000000000000000000000000, 1122336⟩ W) (hx0 : Kept W s0
    x0) :
    Kept W s0 (State.retire x0 x1 x2 x3 x4) := by
  delta State.retire
  split
  · exact hx0
  · extract_lets v1 v2 v7 v8 v10
    have h6 : Kept W s0 v2 := (kept_modDram (w.sub rfl rfl) hx0 (fun _ h3 => (by
        extract_lets v4
        have h5 : DramOk v4 := (ite_of (P := DramOk) (dramOk_copyPage h3) h3)
        exact (DramOk.set (h5).mem))))
    have h9 : Kept W s0 v8 := (kept_setRecord (w.sub rfl rfl) (w.fld rfl) h6)
    have h11 : Kept W s0 v10 := (kept_setReg (w.fld rfl) (kept_setRecord (w.sub rfl rfl) (w.fld rfl) h9))
    exact (kept_auditAction (w.sub rfl rfl) (kept_noteReserve (w.sub rfl rfl) h11))

theorem kept_migrateEnd {W : Span} {s0 : State} {x0 x1 x2} (w : Span.le
    ⟨0x80000000000000000000000000000000000000000000000000000880008000000000000000000000800000000000000000000000000000000000000000000000000000000000000000000000000, 1581088⟩ W) (hx0 : Kept W s0 x0) :
    Kept W s0 (State.migrateEnd x0 x1 x2) := by
  delta State.migrateEnd
  extract_lets v1 v2
  have h3 : Kept W s0 v2 := (kept_setFlag (w.fld rfl) (kept_modDramRest (w.part rfl) (fun _ => Dram.mem_mk) hx0))
  exact (kept_ite (kept_condition (w.sub rfl rfl) h3) h3)

theorem kept_migrateStall {W : Span} {s0 : State} {x0 x1 x2} (w : Span.le
    ⟨0x80000000000000000000000000000000000000000000000000000880008000000000000000000000c00000000000000000000000000000000000000000000000000000000000000000000000000, 1581088⟩ W) (hx0 : Kept W s0 x0) :
    Kept W s0 (State.migrateStall x0 x1 x2) := by
  delta State.migrateStall
  exact (kept_noteReserve (w.sub rfl rfl) (kept_modDramRest (w.part rfl) (fun _ => Dram.mem_mk) (kept_migrateEnd
    (w.sub rfl rfl) hx0)))

theorem kept_reserveFreed {W : Span} {s0 : State} {x0 x1} (w : Span.le
    ⟨0xc00000000000000000000000000000000000000000000000000000000000000000000000000, 32⟩ W) (hx0 : Kept W s0 x0) :
    Kept W s0 (State.reserveFreed x0 x1) := by
  delta State.reserveFreed
  extract_lets v1 v2 v3
  have h5 : Kept W s0 v3 := (kept_foldl (fun _ _ h4 => (kept_modDramRest (w.part rfl) (fun _ => Dram.mem_mk) h4)) hx0)
  exact (kept_noteReserve (w.sub rfl rfl) (kept_ite h5 (kept_setFlag (w.fld rfl) h5)))

theorem kept_setMark {W : Span} {s0 : State} {x0 x1 x2 x3 x4} (w : Span.le
    ⟨0x80000000000000000000000000000000000000000000000000000880008000000000000000c00002820000004000000000000000000000000000000000000000000000000000000000000000000, 1581217⟩ W) (hx0 : Kept W s0 x0) :
    Kept W s0 (State.setMark x0 x1 x2 x3 x4) := by
  delta State.setMark
  extract_lets v1 v3
  have h2 : Kept W s0 v1 := (kept_setRecord (w.sub rfl rfl) (w.fld rfl) (kept_setRecord (w.sub rfl rfl) (w.fld rfl)
    (kept_setRecord (w.sub rfl rfl) (w.fld rfl) hx0)))
  have h4 : Kept W s0 v3 := (kept_dramEvent (w.sub rfl rfl) (kept_condition (w.sub rfl rfl) (kept_auditAction (w.sub
    rfl rfl) h2)))
  exact (kept_setFlag (w.fld rfl) (kept_modDramRest (w.part rfl) (fun _ => Dram.mem_mk) h4))

theorem kept_setReqs {W : Span} {s0 : State} {x0 x1 x2} (w : Span.le ⟨0x0, 32⟩ W) (hx0 : Kept W s0 x0) :
    Kept W s0 (State.setReqs x0 x1 x2) := by
  delta State.setReqs
  exact (kept_modDramRest (w.part rfl) (fun _ => Dram.mem_mk) hx0)

theorem kept_enterInOrder {W : Span} {s0 : State} {x0 x1 x2} (w : Span.le
    ⟨0x400000000020000004000000000000000000000000000000000000000000000000000000000000000000, 161⟩ W) (hx0 : Kept W s0
    x0) :
    Kept W s0 (State.enterInOrder x0 x1 x2) := by
  delta State.enterInOrder
  extract_lets v1 v2 v3
  exact (kept_ite (kept_dramEvent (w.sub rfl rfl) (kept_bump (w.fld rfl) (kept_modDramRest (w.part rfl) (fun _ =>
    Dram.mem_mk) hx0))) hx0)

theorem kept_notePeak {W : Span} {s0 : State} {x0 x1 x2} (w : Span.le
    ⟨0x80000000000000000000000000000000000000000000000000000000000000000000000000000000000, 0⟩ W) (hx0 : Kept W s0
    x0) :
    Kept W s0 (State.notePeak x0 x1 x2) := by
  delta State.notePeak
  exact (kept_setReg (w.fld rfl) hx0)

theorem kept_noteFull {W : Span} {s0 : State} {x0 x1 x2 x3} (w : Span.le
    ⟨0x100000000020000004000000000000000000000000000000000000000000000000000000000000000000, 161⟩ W) (hx0 : Kept W s0
    x0) :
    Kept W s0 (State.noteFull x0 x1 x2 x3) := by
  delta State.noteFull
  extract_lets v1
  exact (kept_ite hx0 (kept_dramEvent (w.sub rfl rfl) (kept_bump (w.fld rfl) (kept_modDramRest (w.part rfl) (fun _ =>
    Dram.mem_mk) hx0))))

theorem kept_submit {W : Span} {s0 : State} {x0 x1 x2} (w : Span.le
    ⟨0x580000000020000004000000000000000000000000000000000000000000000000000000000000000000, 161⟩ W) (hx0 : Kept W s0
    x0) :
    Kept2 W s0 (State.submit x0 x1 x2) := by
  delta State.submit
  extract_lets v1 v2 v3 v5
  have h4 : Kept W s0 v3 := (kept_ite hx0 (kept_noteFull (w.sub rfl rfl) hx0))
  have h6 : Kept W s0 v5 := (kept_enterInOrder (w.sub rfl rfl) (kept_modDramRest (w.part rfl) (fun _ => Dram.mem_mk)
    h4))
  exact (ite_of (P := Kept2 W s0) (Kept2.of hx0) (ite_of (P := Kept2 W s0) (Kept2.of h4) (Kept2.of (kept_notePeak
    (w.sub rfl rfl) (kept_setReqs (w.sub rfl rfl) h6)))))

theorem kept_freshId {W : Span} {s0 : State} {x0} (w : Span.le ⟨0x0, 8⟩ W) (hx0 : Kept W s0 x0) :
    Kept2 W s0 (State.freshId x0) := by
  delta State.freshId
  exact (Kept2.of (Kept.setFab hx0 (w.part rfl) (fun i1 => (by
      extract_lets v2
      have h3 : FabOk v2 := ((hx0).fabOk i1)
      exact (FabOk.set (h3).instr (h3).route (h3).egress (h3).inject (h3).dict (h3).mem (h3).banks)))))

theorem kept_pushFails {W : Span} {s0 : State} {n p s} (w : Span.le ⟨0x880000000000000000580000000020000004000000000000000000000000214000000000000000000000000000000000000000, 524473⟩ W) (h : Kept W s0 s) :
    Kept W s0 (State.pushFails n p s) := by
  induction n generalizing s with
  | zero => exact h
  | succ n ih =>
    cases hb : (s.part p).failBuf with
    | nil => unfold State.pushFails; simp only [hb]; exact h
    | cons r rest =>
      unfold State.pushFails; simp only [hb]
      refine kept_ite
        (ih (kept_bump (w.fld rfl) (kept_setReg (w.fld rfl) (kept_modPart (w.sub rfl rfl) h)))) ?_
      have h1 : ∀ {a r}, Kept W s0 (s.freshId.2.submit a r).2 :=
        Kept2.st (kept_submit (w.sub rfl rfl) (Kept2.st (kept_freshId (w.sub rfl rfl) h)))
      exact kept_ite (ih (kept_qOfferAll (w.sub rfl rfl) (kept_setReg (w.fld rfl) (kept_modPart (w.sub rfl rfl) h1)))) h1

theorem kept_pushAcq {W : Span} {s0 : State} {n p s} (w : Span.le ⟨0x580000000020000004000000000000000000000000000000000000000000000000000000000000000000, 185⟩ W) (h : Kept W s0 s) :
    Kept W s0 (State.pushAcq n p s) := by
  induction n generalizing s with
  | zero => exact h
  | succ n ih =>
    cases hb : (s.part p).acq.buf with
    | nil => unfold State.pushAcq; simp only [hb]; exact h
    | cons e rest =>
      unfold State.pushAcq; simp only [hb]
      have h1 : ∀ {a r}, Kept W s0 (s.freshId.2.submit a r).2 :=
        Kept2.st (kept_submit (w.sub rfl rfl) (Kept2.st (kept_freshId (w.sub rfl rfl) h)))
      exact kept_ite (ih (kept_modPart (w.sub rfl rfl) h1)) h1

theorem kept_pushJob {W : Span} {s0 : State} {n id s} (w : Span.le ⟨0x580000000020000004000000000000000000000000000000000000000000000000000000000000000000, 169⟩ W) (h : Kept W s0 s) :
    Kept W s0 (State.pushJob n id s) := by
  induction n generalizing s with
  | zero => exact h
  | succ n ih =>
    cases hb : s.dram.jobs.find? (fun j => decide (j.id = id)) with
    | none => unfold State.pushJob; simp only [hb]; exact h
    | some j =>
      cases ht : j.todo with
      | nil => unfold State.pushJob; simp only [hb, ht]; exact h
      | cons q rest =>
        unfold State.pushJob; simp only [hb, ht]
        have h1 : ∀ {a r}, Kept W s0 (s.freshId.2.submit a r).2 :=
          Kept2.st (kept_submit (w.sub rfl rfl) (Kept2.st (kept_freshId (w.sub rfl rfl) h)))
        exact kept_ite (ih (kept_modDramRest (w.part rfl) (fun _ => Dram.mem_mk) h1)) h1

theorem kept_pushAll {W : Span} {s0 : State} {x0} (w : Span.le
    ⟨0x880000000000000000580000000020000004000000000000000000000000214000000000000000000000000000000000000000,
    524473⟩ W) (hx0 : Kept W s0 x0) :
    Kept W s0 (State.pushAll x0) := by
  delta State.pushAll
  extract_lets v1
  have h4 : Kept W s0 v1 := (kept_foldl (fun _ _ h2 => (by
      extract_lets v3
      exact (kept_pushAcq (w.sub rfl rfl) (kept_pushFails (w.sub rfl rfl) h2))))
    hx0)
  exact (kept_foldl (fun _ _ h5 => (kept_pushJob (w.sub rfl rfl) h5)) h4)

theorem kept_jobStart {W : Span} {s0 : State} {x0 x1 x2 x3 x4 x5} (w : Span.le
    ⟨0x580000000020000004000000000000000000000000000000000000000000000000000000000000000000, 169⟩ W) (hx0 : Kept W s0
    x0) :
    Kept W s0 (State.jobStart x0 x1 x2 x3 x4 x5) := by
  delta State.jobStart
  extract_lets v1 v3
  have h2 : Kept2 W s0 v1 := (kept_freshId (w.sub rfl rfl) hx0)
  have h4 : Kept W s0 v3 := (kept_modDramRest (w.part rfl) (fun _ => Dram.mem_mk) (Kept2.st h2))
  exact (kept_pushJob (w.sub rfl rfl) h4)

theorem kept_jobWait {W : Span} {s0 : State} {x0 x1 x2 x3} (w : Span.le ⟨0x0, 40⟩ W) (hx0 : Kept W s0 x0) :
    Kept W s0 (State.jobWait x0 x1 x2 x3) := by
  delta State.jobWait
  refine kept_ite ?_ ?_
  · exact hx0
  · extract_lets v1
    have h2 : Kept2 W s0 v1 := (kept_freshId (w.sub rfl rfl) hx0)
    exact (kept_modDramRest (w.part rfl) (fun _ => Dram.mem_mk) (Kept2.st h2))

theorem kept_dramForget {W : Span} {s0 : State} {x0 x1} (w : Span.le ⟨0x0, 32⟩ W) (hx0 : Kept W s0 x0) :
    Kept W s0 (State.dramForget x0 x1) := by
  delta State.dramForget
  exact (kept_modDramRest (w.part rfl) (fun _ => Dram.mem_mk) hx0)

theorem kept_dramAccess {W : Span} {s0 : State} {x0 x1 x2 x3 x4 x5} (w : Span.le
    ⟨0x580000000020000004000000000000000000000000000000000000000000000000000000000000000000, 169⟩ W) (hx0 : Kept W s0
    x0) :
    Kept1 W s0 (State.dramAccess x0 x1 x2 x3 x4 x5) := by
  delta State.dramAccess
  split
  · exact (ite_of (P := Kept1 W s0) (Kept1.of (kept_dramForget (w.sub rfl rfl) hx0)) (Kept1.of hx0))
  · exact (ite_of (P := Kept1 W s0) (Kept1.of hx0) (Kept1.of (kept_jobStart (w.sub rfl rfl) hx0)))

theorem kept_freezeQuench {W : Span} {s0 : State} {x0 x1} (w : Span.le ⟨0x1f0300800000000000000000000000000000,
    16400⟩ W) (hx0 : Kept W s0 x0) :
    Kept W s0 (State.freezeQuench x0 x1) := by
  delta State.freezeQuench
  exact (kept_foldl (fun _ _ h1 => (kept_assertFreeze (w.sub rfl rfl) h1)) hx0)

theorem kept_dramFreeze {W : Span} {s0 : State} {x0 x1 x2 x3 x4 x5 x6 x7 x8 x9} (w : Span.le
    ⟨0x3ffe040200000040000000000000000000000000000001f0300800000000000000000000000000000, 1065137⟩ W) (hx0 : Kept W
    s0 x0) :
    Kept W s0 (State.dramFreeze x0 x1 x2 x3 x4 x5 x6 x7 x8 x9) := by
  delta State.dramFreeze
  extract_lets v1 v2 v3 v4 v6
  have h5 : Kept W s0 v4 := (kept_setReg (w.fld (f := .ddrFrzTimeHi) rfl) (kept_setReg (w.fld (f := .ddrFrzTimeLo)
    rfl) (kept_setReg (w.fld (f := .ddrFrzDevMask) rfl) (kept_setReg (w.fld (f := .ddrFrzSource) rfl) (kept_setReg
    (w.fld (f := .ddrFrzAddrHi) rfl) (kept_setReg (w.fld (f := .ddrFrzAddrLo) rfl) (kept_setReg (w.fld (f :=
    .ddrFrzSubch) rfl) (kept_setReg (w.fld (f := .ddrFrzRank) rfl) (kept_setReg (w.fld (f := .ddrFrzBank) rfl)
    (kept_setReg (w.fld (f := .ddrFrzBurst) rfl) (kept_setReg (w.fld (f := .ddrFrzRow) rfl) (kept_setReg (w.fld (f :=
    .ddrFrzKind) rfl) (kept_setReg (w.fld (f := .ddrFrzClass) rfl) (kept_setReg (w.fld (f := .ddrStatusFrozen) rfl)
    hx0))))))))))))))
  have h7 : Kept W s0 v6 := (kept_modDramRest (w.part rfl) (fun _ => Dram.mem_mk) h5)
  exact (kept_freezeQuench (w.sub rfl rfl) (kept_dramEvent (w.sub rfl rfl) (kept_auditAction (w.sub rfl rfl) h7)))

theorem kept_wakeRank {W : Span} {s0 : State} {x0 x1 x2 x3} (w : Span.le
    ⟨0x20000004000000000000000000000000000000000000000000000000000000000000000000, 161⟩ W) (hx0 : Kept W s0 x0) :
    Kept W s0 (State.wakeRank x0 x1 x2 x3) := by
  delta State.wakeRank
  exact (kept_ite (kept_dramEvent (w.sub rfl rfl) (kept_modDramRest (w.part rfl) (fun _ => Dram.mem_mk) hx0)) hx0)

theorem kept_phyLoss {W : Span} {s0 : State} {x0 x1 x2} (w : Span.le
    ⟨0x3ffe040200000040000000000000000000000000000001f0300800000000000000000000000000000, 1065137⟩ W) (hx0 : Kept W
    s0 x0) :
    Kept W s0 (State.phyLoss x0 x1 x2) := by
  delta State.phyLoss
  exact (kept_ite hx0 (kept_dramFreeze (w.sub rfl rfl) hx0))

theorem kept_execPhyTrainingLoss {W : Span} {s0 : State} {x0 x1 x2} (w : Span.le
    ⟨0x3ffe040200000040000000000000000000000000000001f0300800000000000000000000000000000, 1065137⟩ W) (hx2 : Kept W
    s0 x2) :
    KeptOut W s0 (execPhyTrainingLoss x0 x1 x2) := by
  delta execPhyTrainingLoss
  exact (KeptOut.of (kept_phyLoss (w.sub rfl rfl) hx2))

theorem kept_rediagnosis {W : Span} {s0 : State} {x0 x1 x2 x3 x4} (w : Span.le
    ⟨0x3ffe040200000040000000000000000000000000000001f0300800000000000000000000000000000, 1065137⟩ W) (hx0 : Kept W
    s0 x0) :
    Kept W s0 (State.rediagnosis x0 x1 x2 x3 x4) := by
  delta State.rediagnosis
  exact (by split; exacts [hx0, (kept_ite hx0 (kept_dramFreeze (w.sub rfl rfl) hx0))])

theorem kept_execMarkRediagnosis {W : Span} {s0 : State} {x0 x1 x2 x3 x4} (w : Span.le
    ⟨0x3ffe040200000040000000000000000000000000000001f0300800000000000000000000000000000, 1065137⟩ W) (hx4 : Kept W
    s0 x4) :
    KeptOut W s0 (execMarkRediagnosis x0 x1 x2 x3 x4) := by
  delta execMarkRediagnosis
  exact (KeptOut.of (kept_rediagnosis (w.sub rfl rfl) hx4))

theorem kept_promote {W : Span} {s0 : State} {x0 x1 x2} (w : Span.le
    ⟨0x200000000020000004000000000000000000000000000000000000000000000000000000000000000000, 161⟩ W) (hx0 : Kept W s0
    x0) :
    Kept W s0 (State.promote x0 x1 x2) := by
  delta State.promote
  split
  · exact hx0
  · refine kept_ite ?_ ?_
    · exact hx0
    · extract_lets v1
      exact (kept_dramEvent (w.sub rfl rfl) (kept_bump (w.fld rfl) (kept_setReqs (w.sub rfl rfl) hx0)))

theorem kept_execAgePromotion {W : Span} {s0 : State} {x0 x1 x2} (w : Span.le
    ⟨0x200000000020000004000000000000000000000000000000000000000000000000000000000000000000, 161⟩ W) (hx2 : Kept W s0
    x2) :
    KeptOut W s0 (execAgePromotion x0 x1 x2) := by
  delta execAgePromotion
  exact (KeptOut.of (kept_promote (w.sub rfl rfl) hx2))

theorem kept_refreshWindow {W : Span} {s0 s : State} {a : Nat} (w : Span.le ⟨0x1fffffffffc00000000000000000000000000000000000000000000000000000000000000000000000000, 8194⟩ W) (h : Kept W s0 s) :
    Kept W s0 (State.refreshWindow s a) := by
  delta State.refreshWindow
  refine kept_commit_in (w.sub rfl rfl) (fun k hk => ?_) h
  exact fldOf_in (w.sub rfl rfl) (of_decide_eq_true hk).1 (by decide)

theorem kept_closeRows {W : Span} {s0 : State} {x0 x1 x2 x3} (w : Span.le ⟨0x0, 32⟩ W) (hx0 : Kept W s0 x0) :
    Kept W s0 (State.closeRows x0 x1 x2 x3) := by
  delta State.closeRows
  exact (kept_modDramRest (w.part rfl) (fun _ => Dram.mem_mk) hx0)

theorem kept_wakeRanks {W : Span} {s0 : State} {x0 x1 x2} (w : Span.le
    ⟨0x20000004000000000000000000000000000000000000000000000000000000000000000000, 161⟩ W) (hx0 : Kept W s0 x0) :
    Kept W s0 (State.wakeRanks x0 x1 x2) := by
  delta State.wakeRanks
  exact (kept_wakeRank (w.sub rfl rfl) (kept_wakeRank (w.sub rfl rfl) hx0))

theorem kept_sameBank {W : Span} {s0 : State} {x0 x1 x2 x3} (w : Span.le
    ⟨0x1fffffffffc20000004000000000000000000000000000000000000000000000000000000000000000000, 8355⟩ W) (hx0 : Kept W
    s0 x0) :
    Kept W s0 (State.sameBank x0 x1 x2 x3) := by
  delta State.sameBank
  extract_lets v1
  exact (kept_ite hx0 (kept_refreshWindow (w.sub rfl rfl) (kept_dramEvent (w.sub rfl rfl) (kept_bump (w.fld rfl)
    (kept_closeRows (w.sub rfl rfl) (kept_wakeRanks (w.sub rfl rfl) (kept_modDramRest (w.part rfl) (fun _ =>
    Dram.mem_mk) hx0)))))))

theorem kept_execSameBankRefresh {W : Span} {s0 : State} {x0 x1 x2 x3} (w : Span.le
    ⟨0x1fffffffffc20000004000000000000000000000000000000000000000000000000000000000000000000, 8355⟩ W) (hx3 : Kept W
    s0 x3) :
    KeptOut W s0 (execSameBankRefresh x0 x1 x2 x3) := by
  delta execSameBankRefresh
  exact (KeptOut.of (kept_sameBank (w.sub rfl rfl) hx3))

theorem kept_allBank {W : Span} {s0 : State} {x0 x1 x2} (w : Span.le
    ⟨0x1fffffffffc200000040000000000000000000000000000001f0300800000000000000000000000000000, 24763⟩ W) (hx0 : Kept W
    s0 x0) :
    Kept W s0 (State.allBank x0 x1 x2) := by
  delta State.allBank
  refine kept_ite ?_ ?_
  · exact hx0
  · extract_lets v1 v3 v4 v5
    have h2 : Kept W s0 v1 := (kept_refreshWindow (w.sub rfl rfl) (kept_dramEvent (w.sub rfl rfl) (kept_bump (w.fld
      rfl) (kept_closeRows (w.sub rfl rfl) (kept_wakeRanks (w.sub rfl rfl) (kept_modDramRest (w.part rfl) (fun _ =>
      Dram.mem_mk) hx0))))))
    have h7 : Kept W s0 v5 := (Kept.setFab h2 (w.part rfl) (fun i6 => (FabOk.set (((h2).fabOk i6)).instr (((h2).fabOk
      i6)).route (((h2).fabOk i6)).egress (((h2).fabOk i6)).inject (((h2).fabOk i6)).dict (((h2).fabOk i6)).mem
      (((h2).fabOk i6)).banks)))
    exact (kept_foldl (fun _ _ h8 => (kept_assertCause (w.sub rfl rfl) h8)) h7)

theorem kept_execAllBankRefresh {W : Span} {s0 : State} {x0 x1 x2} (w : Span.le
    ⟨0x1fffffffffc200000040000000000000000000000000000001f0300800000000000000000000000000000, 24763⟩ W) (hx2 : Kept W
    s0 x2) :
    KeptOut W s0 (execAllBankRefresh x0 x1 x2) := by
  delta execAllBankRefresh
  exact (KeptOut.of (kept_allBank (w.sub rfl rfl) hx2))

theorem kept_powerDown {W : Span} {s0 : State} {x0 x1 x2 x3} (w : Span.le
    ⟨0x1000000000020000004000000000000000000000000000000000000000000000000000000000000000000, 161⟩ W) (hx0 : Kept W
    s0 x0) :
    Kept W s0 (State.powerDown x0 x1 x2 x3) := by
  delta State.powerDown
  exact (kept_ite hx0 (kept_dramEvent (w.sub rfl rfl) (kept_bump (w.fld rfl) (kept_modDramRest (w.part rfl) (fun _ =>
    Dram.mem_mk) hx0))))

theorem kept_execRankPowerDown {W : Span} {s0 : State} {x0 x1 x2 x3} (w : Span.le
    ⟨0x1000000000020000004000000000000000000000000000000000000000000000000000000000000000000, 161⟩ W) (hx3 : Kept W
    s0 x3) :
    KeptOut W s0 (execRankPowerDown x0 x1 x2 x3) := by
  delta execRankPowerDown
  exact (KeptOut.of (kept_powerDown (w.sub rfl rfl) hx3))

end Sys2Proof.Machine
end

