-- ==== Sys2Proof/Laws/KeptMemory.lean ====
section
/-! SUPPORT. What the operations of Machine/Memory.lean keep (see Laws/Kept.lean). -/

namespace Sys2Proof.Machine

theorem kept_loadPort {W : Span} {s0 : State} {x0 x1 x2 x3 x4 x5 x6} (w : Span.le ⟨0x0, 8⟩ W) (hx0 : Kept W s0 x0) :
    Kept W s0 (State.loadPort x0 x1 x2 x3 x4 x5 x6) := by
  delta State.loadPort
  extract_lets v1 v2 v3
  exact (kept_ite (Kept.setFab hx0 (w.part rfl) (fun i4 => (FabOk.set (((hx0).fabOk i4)).instr (((hx0).fabOk
    i4)).route (((hx0).fabOk i4)).egress (((hx0).fabOk i4)).inject (((hx0).fabOk i4)).dict (((hx0).fabOk i4)).mem
    (((hx0).fabOk i4)).banks))) (Kept.setFab hx0 (w.part rfl) (fun i5 => (FabOk.set (((hx0).fabOk i5)).instr
    (((hx0).fabOk i5)).route (((hx0).fabOk i5)).egress (((hx0).fabOk i5)).inject (((hx0).fabOk i5)).dict
    (((hx0).fabOk i5)).mem (((hx0).fabOk i5)).banks))))

theorem kept_bankCorr {W : Span} {s0 : State} {x0 x1 x2 x3} (w : Span.le ⟨0x820000000000000000000000000, 0⟩ W) (hx0 :
    Kept W s0 x0) :
    Kept W s0 (State.bankCorr x0 x1 x2 x3) := by
  delta State.bankCorr
  exact (kept_setReg (w.fld rfl) (kept_bump (w.fld rfl) hx0))

theorem kept_bankReads {W : Span} {s0 : State} {x0 x1 x2 x3 x4} (w : Span.le ⟨0x820000000000000000000000000, 0⟩ W)
    (hx0 : Kept W s0 x0) :
    Kept W s0 (State.bankReads x0 x1 x2 x3 x4) := by
  delta State.bankReads
  exact (kept_foldl (fun _ _ h1 => (kept_ite (kept_bankCorr (w.sub rfl rfl) h1) h1)) hx0)

theorem kept_cowGroup {W : Span} {s0 : State} {x0 x1 x2 x3 x4} (w : Span.le
    ⟨0x40000000000000000000000000000000000000820000000000000000000000000, 16⟩ W) (hx0 : Kept W s0 x0) :
    Kept W s0 (State.cowGroup x0 x1 x2 x3 x4) := by
  delta State.cowGroup
  split
  · exact hx0
  · extract_lets v1 v2 v4
    have h3 : Kept W s0 v2 := (kept_ite hx0 (kept_bankReads (w.sub rfl rfl) hx0))
    exact (kept_ite hx0 (kept_ite (kept_modPart (w.sub rfl rfl) h3) (kept_ite (kept_modPart (w.sub rfl rfl) h3)
      (kept_modPart (w.sub rfl rfl) (kept_bump (w.fld rfl) h3)))))

theorem kept_bankPut {W : Span} {s0 : State} {x0 x1 x2 x3 x4} (w : Span.le
    ⟨0x40000000000000000000000000000000000000820000000000000000000000000, 24⟩ W) (hx0 : Kept W s0 x0) :
    Kept W s0 (State.bankPut x0 x1 x2 x3 x4) := by
  delta State.bankPut
  extract_lets v1 v4
  have h3 : Kept W s0 v1 := (kept_foldl (fun _ _ h2 => (kept_cowGroup (w.sub rfl rfl) h2)) hx0)
  exact (Kept.setFab h3 (w.part rfl) (fun i5 => (FabOk.set (((h3).fabOk i5)).instr (((h3).fabOk i5)).route
    (((h3).fabOk i5)).egress (((h3).fabOk i5)).inject (((h3).fabOk i5)).dict (((h3).fabOk i5)).mem (foldl_of (P :=
    TabOk 0) (fun _ _ h6 => (TabOk.put h6)) (((h3).fabOk i5)).banks))))

theorem fabOk_clearBanks {x0 x1 x2} (hx0 : FabOk x0) : FabOk (Fab.clearBanks x0 x1 x2) := by
  delta Fab.clearBanks
  extract_lets v1
  exact (FabOk.set (hx0).instr (hx0).route (hx0).egress (hx0).inject (hx0).dict (hx0).mem (TabOk.keep (hx0).banks))

theorem kept_bankEvent {W : Span} {s0 : State} {x0 x1 x2 x3 x4 x5 x6 x7 x8} (w : Span.le
    ⟨0x3d8000000000000000000000000, 0⟩ W) (hx0 : Kept W s0 x0) :
    Kept W s0 (State.bankEvent x0 x1 x2 x3 x4 x5 x6 x7 x8) := by
  delta State.bankEvent
  extract_lets v1 v2 v3
  have h4 : Kept W s0 v3 := (kept_ite (kept_setReg (w.fld rfl) (kept_setReg (w.fld rfl) (kept_setReg (w.fld rfl)
    (kept_setReg (w.fld rfl) hx0)))) hx0)
  exact (kept_setReg (fld_ite (w.fld rfl) (w.fld rfl)) h4)

theorem kept_bankUncorr {W : Span} {s0 : State} {x0 x1 x2 x3 x4 x5 x6 x7} (w : Span.le
    ⟨0x8800080000000000000000000000000000000000000000000000000000000000001f03008003d8000000000000000000000000,
    540688⟩ W) (hx0 : Kept W s0 x0) :
    Kept W s0 (State.bankUncorr x0 x1 x2 x3 x4 x5 x6 x7) := by
  delta State.bankUncorr
  extract_lets v1
  have h2 : Kept W s0 v1 := (kept_bankEvent (w.sub rfl rfl) hx0)
  exact (kept_ite h2 (kept_assertCause (w.sub rfl rfl) (kept_pError (w.sub rfl rfl) h2)))

theorem fabOk_healWord {x0 x1 x2 x3 x4} (hx0 : FabOk x0) : FabOk (Fab.healWord x0 x1 x2 x3 x4) := by
  delta Fab.healWord
  exact (FabOk.set (hx0).instr (hx0).route (hx0).egress (hx0).inject (hx0).dict (hx0).mem (hx0).banks)

theorem kept_readErrors {W : Span} {s0 : State} {x0 x1 x2 x3 x4 x5 x6 x7} (w : Span.le
    ⟨0x8800080000000000000000000000000000000000000000000000000000000000001f0300800bf8000000000000000000000000,
    540688⟩ W) (hx0 : Kept W s0 x0) :
    Kept W s0 (State.readErrors x0 x1 x2 x3 x4 x5 x6 x7) := by
  delta State.readErrors
  exact (kept_foldl (fun _ _ h1 => (by
      extract_lets v2
      exact (kept_ite (kept_bankCorr (w.sub rfl rfl) h1) (kept_ite (kept_bankUncorr (w.sub rfl rfl) h1) h1))))
    hx0)

theorem kept_spRead {W : Span} {s0 : State} {x0 x1 x2 x3 x4 x5} (w : Span.le
    ⟨0x8800080000000000000000000000000000000000000000000000000000000000001f0300800bf8000000000000000000000000,
    540696⟩ W) (hx0 : Kept W s0 x0) :
    Kept W s0 (State.spRead x0 x1 x2 x3 x4 x5) := by
  delta State.spRead
  extract_lets v1 v2 v4
  have h3 : Kept W s0 v2 := (kept_readErrors (w.sub rfl rfl) hx0)
  exact (Kept.setFab h3 (w.part rfl) (fun i5 => (FabOk.set (((h3).fabOk i5)).instr (((h3).fabOk i5)).route
    (((h3).fabOk i5)).egress (((h3).fabOk i5)).inject (((h3).fabOk i5)).dict (((h3).fabOk i5)).mem (((h3).fabOk
    i5)).banks)))

theorem kept_mergeWord {W : Span} {s0 : State} {x0 x1 x2 x3 x4 x5 x6 x7 x8} (w : Span.le
    ⟨0x8800080000000000000000000000000000000000000000000000000000000000001f0300800bf8000000000000000000000000,
    540696⟩ W) (hx0 : Kept W s0 x0) :
    Kept W s0 (State.mergeWord x0 x1 x2 x3 x4 x5 x6 x7 x8) := by
  delta State.mergeWord
  extract_lets v1 v2
  exact (kept_ite hx0 (kept_ite (Kept.setFab hx0 (w.part rfl) (fun i3 => (fabOk_healWord ((hx0).fabOk i3))))
    (kept_ite (Kept.setFab (kept_bankCorr (w.sub rfl rfl) hx0) (w.part rfl) (fun i4 => (fabOk_healWord
    (((kept_bankCorr (w.sub rfl rfl) hx0)).fabOk i4)))) (kept_bankUncorr (w.sub rfl rfl) hx0))))

theorem kept_bankMerge {W : Span} {s0 : State} {x0 x1 x2 x3 x4 x5 x6 x7} (w : Span.le
    ⟨0x8800080000000000000000000000000000000400000000000000000000000000001f0300800bf8000000000000000000000000,
    540696⟩ W) (hx0 : Kept W s0 x0) :
    Kept W s0 (State.bankMerge x0 x1 x2 x3 x4 x5 x6 x7) := by
  delta State.bankMerge
  exact (kept_bankPut (w.sub rfl rfl) (kept_foldl (fun _ _ h1 => (kept_mergeWord (w.sub rfl rfl) h1)) hx0))

theorem kept_spWrite {W : Span} {s0 : State} {x0 x1 x2 x3 x4} (w : Span.le
    ⟨0x8800080000000000000000000000000000000400000000000000000000000000001f0300800bf8000000000000000000000000,
    540696⟩ W) (hx0 : Kept W s0 x0) :
    Kept W s0 (State.spWrite x0 x1 x2 x3 x4) := by
  delta State.spWrite
  exact (by extract_lets v1; exact (kept_bankMerge (w.sub rfl rfl) hx0))

theorem kept_setWlost {W : Span} {s0 : State} {x0 x1 x2 x3 x4} (w : Span.le ⟨0x0, 8⟩ W) (hx0 : Kept W s0 x0) :
    Kept W s0 (State.setWlost x0 x1 x2 x3 x4) := by
  delta State.setWlost
  exact (Kept.setFab hx0 (w.part rfl) (fun i1 => (by
      extract_lets v2
      have h3 : FabOk v2 := ((hx0).fabOk i1)
      exact (FabOk.set (h3).instr (h3).route (h3).egress (h3).inject (h3).dict (h3).mem (h3).banks))))

theorem kept_setEmu {W : Span} {s0 : State} {x0 x1} (w : Span.le ⟨0x0, 8⟩ W) (hx0 : Kept W s0 x0) :
    Kept W s0 (State.setEmu x0 x1) := by
  delta State.setEmu
  exact (Kept.setFab hx0 (w.part rfl) (fun i1 => (by
      extract_lets v2
      have h3 : FabOk v2 := ((hx0).fabOk i1)
      exact (FabOk.set (h3).instr (h3).route (h3).egress (h3).inject (h3).dict (h3).mem (h3).banks))))

theorem kept_submitPort {W : Span} {s0 : State} {x0 x1} (w : Span.le
    ⟨0x580000000020000004000000000000000000000000000000000000000000000000000000000000000000, 169⟩ W) (hx0 : Kept W s0
    x0) :
    Kept W s0 (State.submitPort x0 x1) := by
  delta State.submitPort
  extract_lets v1 v3 v5 v6 v8
  have h2 : Kept2 W s0 v1 := (kept_freshId (w.sub rfl rfl) hx0)
  have h4 : Kept2 W s0 v3 := (kept_submit (w.sub rfl rfl) (Kept2.st h2))
  have h7 : Kept W s0 v6 := (Kept2.st h4)
  exact (kept_ite hx0 (kept_ite (kept_ite (kept_setEmu (w.sub rfl rfl) (Kept2.st h4)) (Kept2.st h4)) (kept_ite
    (Kept.setFab h7 (w.part rfl) (fun i9 => (FabOk.set ((((Kept2.st h4)).fabOk i9)).instr ((((Kept2.st h4)).fabOk
    i9)).route ((((Kept2.st h4)).fabOk i9)).egress ((((Kept2.st h4)).fabOk i9)).inject ((((Kept2.st h4)).fabOk
    i9)).dict ((((Kept2.st h4)).fabOk i9)).mem ((((Kept2.st h4)).fabOk i9)).banks))) (Kept2.st h4))))

theorem kept_noteSlots {W : Span} {s0 : State} {x0 x1 x2} (w : Span.le ⟨0x120000000000000000000000000000, 0⟩ W) (hx0
    : Kept W s0 x0) :
    Kept W s0 (State.noteSlots x0 x1 x2) := by
  delta State.noteSlots
  extract_lets v1 v2
  have h3 : Kept W s0 v2 := (kept_setReg (w.fld rfl) hx0)
  exact (kept_ite (kept_setReg (w.fld rfl) h3) h3)

theorem kept_takeSlots {W : Span} {s0 : State} {n p a s} (w : Span.le ⟨0x580000000020000004000000000000000000000000000000000000120000000000000000000000000000, 169⟩ W) (h : Kept W s0 s) :
    Kept W s0 (State.takeSlots n p a s) := by
  induction n generalizing s with
  | zero => exact h
  | succ n ih =>
    unfold State.takeSlots
    split
    · exact h
    · exact kept_ite (ih (kept_submitPort (w.sub rfl rfl) (kept_noteSlots (w.sub rfl rfl) (kept_setEmu (w.sub rfl rfl) h)))) h

theorem kept_memRelease {W : Span} {s0 : State} {x0 x1} (w : Span.le ⟨0xf0200000000000000000000000000000000, 16⟩ W)
    (hx0 : Kept W s0 x0) :
    Kept W s0 (State.memRelease x0 x1) := by
  delta State.memRelease
  extract_lets v1 v2 v4 v5 v7
  have h3 : Kept W s0 v2 := (kept_ite (kept_releaseCause (w.sub rfl rfl) hx0) hx0)
  have h6 : Kept W s0 v5 := (kept_ite (kept_releaseCause (w.sub rfl rfl) h3) h3)
  have h8 : Kept W s0 v7 := (kept_ite (kept_releaseCause (w.sub rfl rfl) h6) h6)
  exact (kept_foldl (fun _ _ h9 => (kept_ite (kept_releaseFreeze (w.sub rfl rfl) h9) h9)) h8)

theorem kept_dramIssue {W : Span} {s0 : State} {x0 x1 x2 x3} (w : Span.le
    ⟨0x5800000000200000040000000000000000000000000000001f0300928000000000000000000000000000, 16569⟩ W) (hx0 : Kept W
    s0 x0) :
    Kept W s0 (State.dramIssue x0 x1 x2 x3) := by
  delta State.dramIssue
  extract_lets v1 v2 v4 v6 v7 v8 v9 v10 v13
  have h3 : Kept2 W s0 v2 := (kept_freshId (w.sub rfl rfl) hx0)
  have h5 : Kept W s0 v4 := (Kept2.st h3)
  have h12 : Kept W s0 v10 := (Kept.setFab h5 (w.part rfl) (fun i11 => (FabOk.set (((h5).fabOk i11)).instr
    (((h5).fabOk i11)).route (((h5).fabOk i11)).egress (((h5).fabOk i11)).inject (((h5).fabOk i11)).dict (((h5).fabOk
    i11)).mem (((h5).fabOk i11)).banks)))
  have h14 : Kept W s0 v13 := (kept_setReg (w.fld rfl) h12)
  exact (kept_ite (kept_ite h14 (kept_assertEntry (w.sub rfl rfl) (kept_bump (w.fld rfl) h14))) (kept_submitPort
    (w.sub rfl rfl) (kept_noteSlots (w.sub rfl rfl) h12)))

theorem kept_bankConflict {W : Span} {s0 : State} {x0 x1 x2 x3 x4 x5 x6 x7} (w : Span.le
    ⟨0x8800080000000000000000000000000000000000000000000000000000000000001f03008003d8000000000000000000000000,
    540688⟩ W) (hx0 : Kept W s0 x0) :
    Kept W s0 (State.bankConflict x0 x1 x2 x3 x4 x5 x6 x7) := by
  delta State.bankConflict
  extract_lets v1
  have h2 : Kept W s0 v1 := (kept_bankEvent (w.sub rfl rfl) hx0)
  exact (kept_assertCause (w.sub rfl rfl) (kept_pError (w.sub rfl rfl) h2))

theorem kept_hearthIssues {W : Span} {s0 : State} {x0 x1 x2 x3 x4 x5 x6} (w : Span.le
    ⟨0x8800080000000000005800000000200000040400000000000000000000000000001f0300928ff8000000000000000000000000,
    540857⟩ W) (hx6 : Kept W s0 x6) :
    Kept W s0 (State.hearthIssues x0 x1 x2 x3 x4 x5 x6) := by
  delta State.hearthIssues
  extract_lets v1 v2 v3 v8 v9 v10
  have h7 : Kept W s0 v3 := (kept_foldl (fun _ _ h4 => (by
      extract_lets v5
      have h6 : Kept W s0 v5 := (kept_bankConflict (w.sub rfl rfl) h4)
      exact (kept_ite (kept_setWlost (w.sub rfl rfl) h6) h6)))
    hx6)
  have h12 : Kept W s0 v10 := (kept_foldl (fun _ _ h11 => (kept_ite (kept_dramIssue (w.sub rfl rfl) h11) (kept_spRead
    (w.sub rfl rfl) h11))) h7)
  exact (kept_foldl (fun _ _ h13 => (by
      extract_lets v14
      exact (kept_ite (kept_setWlost (w.sub rfl rfl) (kept_dramIssue (w.sub rfl rfl) h13)) (kept_ite (kept_setWlost
        (w.sub rfl rfl) (kept_bump (w.fld rfl) h13)) (kept_setWlost (w.sub rfl rfl) (kept_spWrite (w.sub rfl rfl)
        h13))))))
    h12)

theorem kept_portLoads {W : Span} {s0 : State} {x0 x1} (w : Span.le ⟨0x0, 8⟩ W) (hx0 : Kept W s0 x0) :
    Kept W s0 (State.portLoads x0 x1) := by
  delta State.portLoads
  exact (kept_foldl (fun _ _ h1 => (by split; exacts [(kept_loadPort (w.sub rfl rfl) h1), h1])) hx0)

theorem kept_ports {W : Span} {s0 : State} {x0 x1 x2 x3 x4} (w : Span.le
    ⟨0x8800080000000000005800000000200000040400000000000000000000000000001f0300928ff8000000000000000000000000,
    540857⟩ W) (hx0 : Kept W s0 x0) :
    Kept1 W s0 (State.ports x0 x1 x2 x3 x4) := by
  delta State.ports
  extract_lets v1 v2
  exact (Kept1.of (kept_foldl (fun _ _ h3 => (kept_hearthIssues (w.sub rfl rfl) h3)) (kept_portLoads (w.sub rfl rfl)
    hx0)))

theorem fabOk_deliverSp {x0 x1} (hx0 : FabOk x0) : FabOk (Fab.deliverSp x0 x1) := by
  delta Fab.deliverSp
  extract_lets v1
  exact (FabOk.set (hx0).instr (hx0).route (hx0).egress (hx0).inject (hx0).dict (hx0).mem (hx0).banks)

theorem fabOk_deliverDram {x0 x1 x2} (hx0 : FabOk x0) : FabOk (Fab.deliverDram x0 x1 x2) := by
  delta Fab.deliverDram
  extract_lets v1
  exact (FabOk.set (hx0).instr (hx0).route (hx0).egress (hx0).inject (hx0).dict (hx0).mem (hx0).banks)

theorem kept_checkHorizon {W : Span} {s0 : State} {x0 x1 x2} (w : Span.le ⟨0x1f0300844000000000000000000000000000,
    16400⟩ W) (hx0 : Kept W s0 x0) :
    Kept W s0 (State.checkHorizon x0 x1 x2) := by
  delta State.checkHorizon
  extract_lets v1 v2 v3
  have h4 : Kept W s0 v3 := (kept_modPart (w.sub rfl rfl) (kept_setReg (w.fld rfl) (kept_bump (w.fld rfl) hx0)))
  exact (kept_ite hx0 (kept_ite (kept_assertCause (w.sub rfl rfl) h4) hx0))

theorem kept_readReturn {W : Span} {s0 : State} {x0 x1 x2} (w : Span.le
    ⟨0x5800000000200000040000000000000000000000000000000f0200120000000000000000000000000000, 185⟩ W) (hx0 : Kept W s0
    x0) :
    Kept W s0 (State.readReturn x0 x1 x2) := by
  delta State.readReturn
  extract_lets v1 v2 v4
  have h3 : Kept W s0 v2 := (kept_modDramRest (w.part rfl) (fun _ => Dram.mem_mk) hx0)
  refine kept_ite ?_ ?_
  · exact hx0
  · split
    · exact h3
    · extract_lets v5 v6
      have h8 : Kept W s0 v6 := (Kept.setFab h3 (w.part rfl) (fun i7 => (FabOk.set (((h3).fabOk i7)).instr
        (((h3).fabOk i7)).route (((h3).fabOk i7)).egress (((h3).fabOk i7)).inject (((h3).fabOk i7)).dict (((h3).fabOk
        i7)).mem (((h3).fabOk i7)).banks)))
      exact (kept_memRelease (w.sub rfl rfl) (kept_takeSlots (w.sub rfl rfl) h8))

theorem kept_execDramReadReturn {W : Span} {s0 : State} {x0 x1 x2} (w : Span.le
    ⟨0x5800000000200000040000000000000000000000000000000f0200120000000000000000000000000000, 185⟩ W) (hx2 : Kept W s0
    x2) :
    KeptOut W s0 (execDramReadReturn x0 x1 x2) := by
  delta execDramReadReturn
  exact (KeptOut.of (kept_readReturn (w.sub rfl rfl) hx2))

theorem kept_refreshEnd {W : Span} {s0 : State} {x0 x1 x2} (w : Span.le
    ⟨0x200000040000000000000000000000000000000f0200000000000000000000000000000000, 177⟩ W) (hx0 : Kept W s0 x0) :
    Kept W s0 (State.refreshEnd x0 x1 x2) := by
  delta State.refreshEnd
  refine kept_ite ?_ ?_
  · exact hx0
  · extract_lets v1 v2
    have h3 : Kept W s0 v2 := (kept_dramEvent (w.sub rfl rfl) (kept_modDramRest (w.part rfl) (fun _ => Dram.mem_mk)
      hx0))
    exact (kept_foldl (fun _ _ h4 => (kept_memRelease (w.sub rfl rfl) h4)) h3)

theorem kept_execRefreshEnd {W : Span} {s0 : State} {x0 x1 x2} (w : Span.le
    ⟨0x200000040000000000000000000000000000000f0200000000000000000000000000000000, 177⟩ W) (hx2 : Kept W s0 x2) :
    KeptOut W s0 (execRefreshEnd x0 x1 x2) := by
  delta execRefreshEnd
  exact (KeptOut.of (kept_refreshEnd (w.sub rfl rfl) hx2))

theorem kept_dmaBytes {W : Span} {s0 : State} {x0 x1 x2} (w : Span.le
    ⟨0x8800080000000000000000000000000000000400000000000000000000000000001f0300800bf8000000000000000000000000,
    540696⟩ W) (hx0 : Kept W s0 x0) :
    Kept1 W s0 (State.dmaBytes x0 x1 x2) := by
  delta State.dmaBytes
  extract_lets v1 v2 v3
  split
  exacts [(Kept1.of (kept_bankReads (w.sub rfl rfl) hx0)), (Kept1.of (kept_bankMerge (w.sub rfl rfl) hx0))]

theorem kept_dmaRest {W : Span} {s0 : State} {x0 x1} (w : Span.le
    ⟨0x8800080000000000000000000000000000000400000000000000000000000000001f0300800bf8000000000000000000000000,
    540696⟩ W) (hx0 : Kept W s0 x0) :
    Kept1 W s0 (State.dmaRest x0 x1) := by
  delta State.dmaRest
  exact (kept_dmaBytes (w.sub rfl rfl) hx0)

theorem kept_replyTo {W : Span} {s0 : State} {x0 x1 x2 x3 x4 x5} (w : Span.le ⟨0x0, 256⟩ W) (hx0 : Kept W s0 x0) :
    Kept W s0 (State.replyTo x0 x1 x2 x3 x4 x5) := by
  delta State.replyTo
  exact (Kept.setNoc hx0 (w.part rfl))

theorem kept_auditDeposit {W : Span} {s0 : State} {x0 x1 x2 x3 x4 x5 x6 x7 x8} (w : Span.le ⟨0x0, 1048576⟩ W) (hx0 :
    Kept W s0 x0) :
    Kept W s0 (State.auditDeposit x0 x1 x2 x3 x4 x5 x6 x7 x8) := by
  delta State.auditDeposit
  exact (kept_audit (w.sub rfl rfl) hx0)

theorem kept_toHost {W : Span} {s0 : State} {x0 x1 x2 x3} (w : Span.le ⟨0x0, 131072⟩ W) (hx0 : Kept W s0 x0) :
    Kept W s0 (State.toHost x0 x1 x2 x3) := by
  delta State.toHost
  exact (by split; exacts [(kept_hostWrite (w.sub rfl rfl) hx0), hx0])

theorem kept_dmaDone {W : Span} {s0 : State} {x0 x1} (w : Span.le ⟨0x0, 1442056⟩ W) (hx0 : Kept W s0 x0) :
    Kept W s0 (State.dmaDone x0 x1) := by
  delta State.dmaDone
  extract_lets v1 v2
  have h4 : Kept W s0 v2 := (Kept.setFab hx0 (w.part rfl) (fun i3 => (FabOk.set (((hx0).fabOk i3)).instr
    (((hx0).fabOk i3)).route (((hx0).fabOk i3)).egress (((hx0).fabOk i3)).inject (((hx0).fabOk i3)).dict
    (((hx0).fabOk i3)).mem (((hx0).fabOk i3)).banks)))
  split
  · exact (kept_replyTo (w.sub rfl rfl) h4)
  · exact (kept_done (w.sub rfl rfl) (kept_toHost (w.sub rfl rfl) h4))
  · exact (kept_done (w.sub rfl rfl) (kept_auditDeposit (w.sub rfl rfl) h4))

theorem kept_dmaStart {W : Span} {s0 : State} {x0 x1} (w : Span.le
    ⟨0x8800080000000000000000000000000000000400000000000000000000000000001f0300800bf8000000000000000000000000,
    1982744⟩ W) (hx0 : Kept W s0 x0) :
    Kept W s0 (State.dmaStart x0 x1) := by
  delta State.dmaStart
  refine kept_ite ?_ ?_
  · exact hx0
  · refine kept_ite ?_ ?_
    · extract_lets v1
      have h2 : Kept1 W s0 v1 := (kept_dmaRest (w.sub rfl rfl) hx0)
      exact (kept_dmaDone (w.sub rfl rfl) (Kept1.st h2))
    · exact (Kept.setFab hx0 (w.part rfl) (fun i3 => (by
          extract_lets v4
          have h5 : FabOk v4 := ((hx0).fabOk i3)
          exact (FabOk.set (h5).instr (h5).route (h5).egress (h5).inject (h5).dict (h5).mem (h5).banks))))

theorem kept_dmaSettle {W : Span} {s0 : State} {x0} (w : Span.le
    ⟨0x8800080000000000000000000000000000000400000000000000000000000000001f0300800bf8000000000000000000000000,
    1982744⟩ W) (hx0 : Kept W s0 x0) :
    Kept W s0 (State.dmaSettle x0) := by
  delta State.dmaSettle
  exact (kept_foldl (fun _ _ h1 => (by
      extract_lets v2
      have h3 : Kept1 W s0 v2 := (kept_dmaRest (w.sub rfl rfl) h1)
      exact (kept_dmaDone (w.sub rfl rfl) (Kept1.st h3))))
    hx0)

theorem kept_dmaTurn {W : Span} {s0 : State} {x0 x1 x2} (w : Span.le
    ⟨0x8800080000000000000000000000000000000400000000000000000000000000001f0300800bf8000000000000000000000000,
    1982744⟩ W) (hx1 : Kept W s0 x1) :
    Kept W s0 (State.dmaTurn x0 x1 x2) := by
  delta State.dmaTurn
  extract_lets v1 v2 v3
  have h4 : Kept1 W s0 v3 := (kept_dmaBytes (w.sub rfl rfl) hx1)
  refine kept_ite ?_ ?_
  · refine kept_ite ?_ ?_
    · exact (kept_dmaDone (w.sub rfl rfl) (Kept.setFab (Kept1.st h4) (w.part rfl) (fun i5 => (by
          extract_lets v6
          have h7 : FabOk v6 := (((Kept1.st h4)).fabOk i5)
          exact (FabOk.set (h7).instr (h7).route (h7).egress (h7).inject (h7).dict (h7).mem (h7).banks)))))
    · exact (Kept.setFab (Kept1.st h4) (w.part rfl) (fun i8 => (by
          extract_lets v9
          have h10 : FabOk v9 := (((Kept1.st h4)).fabOk i8)
          exact (FabOk.set (h10).instr (h10).route (h10).egress (h10).inject (h10).dict (h10).mem (h10).banks))))
  · refine kept_ite ?_ ?_
    · exact (Kept.setFab hx1 (w.part rfl) (fun i11 => (by
          extract_lets v12
          have h13 : FabOk v12 := ((hx1).fabOk i11)
          exact (FabOk.set (h13).instr (h13).route (h13).egress (h13).inject (h13).dict (h13).mem (h13).banks))))
    · exact (Kept.setFab hx1 (w.part rfl) (fun i14 => (by
          extract_lets v15
          have h16 : FabOk v15 := ((hx1).fabOk i14)
          exact (FabOk.set (h16).instr (h16).route (h16).egress (h16).inject (h16).dict (h16).mem (h16).banks))))

theorem kept_copierTurn {W : Span} {s0 : State} {x0 x1 x2} (w : Span.le ⟨0x820000000000000000000000000, 16⟩ W) (hx2 :
    Kept W s0 x2) :
    Kept W s0 (State.copierTurn x0 x1 x2) := by
  delta State.copierTurn
  exact (kept_foldl (fun _ _ h1 => (kept_foldl (fun _ _ h2 => (by
      extract_lets v3
      exact (kept_ite h2 (kept_modPart (w.sub rfl rfl) (kept_bankReads (w.sub rfl rfl) h2)))))
    h1)) hx2)

theorem kept_cowDrain {W : Span} {s0 : State} {x0 x1} (w : Span.le ⟨0x0, 17⟩ W) (hx0 : Kept W s0 x0) :
    Kept W s0 (State.cowDrain x0 x1) := by
  delta State.cowDrain
  refine kept_ite ?_ ?_
  · exact hx0
  · extract_lets v1
    have h2 : Kept2 W s0 v1 := (kept_takeNat (w.sub rfl rfl) hx0)
    exact (kept_modPart (w.sub rfl rfl) (Kept2.st h2))

theorem kept_idleBanks {W : Span} {s0 : State} {x0 x1 x2} (w : Span.le
    ⟨0x8800080000000000000000000000000000000400000000000000000000000000001f0300800bf8000000000000000000000000,
    1982745⟩ W) (hx0 : Kept W s0 x0) :
    Kept W s0 (State.idleBanks x0 x1 x2) := by
  delta State.idleBanks
  extract_lets v1 v2 v3
  have h4 : Kept W s0 v3 := (kept_ite (kept_cowDrain (w.sub rfl rfl) (kept_copierTurn (w.sub rfl rfl) hx0)) hx0)
  exact (kept_foldl (fun _ _ h5 => (kept_dmaTurn (w.sub rfl rfl) h5)) h4)

theorem kept_dmaBusy {W : Span} {s0 : State} {x0 x1} (w : Span.le ⟨0x0, 1310977⟩ W) (hx0 : Kept W s0 x0) :
    Kept W s0 (State.dmaBusy x0 x1) := by
  delta State.dmaBusy
  split
  · exact (kept_done (w.sub rfl rfl) hx0)
  · extract_lets v1
    have h2 : Kept2 W s0 v1 := (kept_takeNat (w.sub rfl rfl) hx0)
    exact (kept_replyTo (w.sub rfl rfl) (Kept2.st h2))

theorem kept_dmaTimeout {W : Span} {s0 : State} {x0 x1} (w : Span.le ⟨0x0, 1310985⟩ W) (hx0 : Kept W s0 x0) :
    Kept W s0 (State.dmaTimeout x0 x1) := by
  delta State.dmaTimeout
  refine kept_ite ?_ ?_
  · exact (kept_dmaBusy (w.sub rfl rfl) (Kept.setFab hx0 (w.part rfl) (fun i1 => (by
        extract_lets v2
        have h3 : FabOk v2 := ((hx0).fabOk i1)
        exact (FabOk.set (h3).instr (h3).route (h3).egress (h3).inject (h3).dict (h3).mem (h3).banks)))))
  · exact hx0

theorem kept_execDmaBankTimeout {W : Span} {s0 : State} {x0 x1} (w : Span.le ⟨0x0, 1310985⟩ W) (hx1 : Kept W s0 x1) :
    KeptOut W s0 (execDmaBankTimeout x0 x1) := by
  delta execDmaBankTimeout
  exact (KeptOut.of (kept_dmaTimeout (w.sub rfl rfl) hx1))

theorem kept_execFreezeLands {W : Span} {s0 : State} {x0 x1} (w : Span.le
    ⟨0x8800080000000000000000000000000000000400000000000000000000000000001f0707a00bf8000000000000000000000000,
    1982744⟩ W) (hx1 : Kept W s0 x1) :
    KeptOut W s0 (execFreezeLands x0 x1) := by
  delta execFreezeLands
  exact (KeptOut.of (kept_dmaSettle (w.sub rfl rfl) (kept_land (w.sub rfl rfl) hx1)))

theorem kept_execPartitionResume {W : Span} {s0 : State} {x0 x1} (w : Span.le
    ⟨0x8800080000000000000000000000000000000000000000000000000000000000000f0407200000000000000000000000000000,
    1851408⟩ W) (hx1 : Kept W s0 x1) :
    KeptOut W s0 (execPartitionResume x0 x1) := by
  delta execPartitionResume
  exact (KeptOut.of (kept_resume (w.sub rfl rfl) hx1))

end Sys2Proof.Machine
end

