-- ==== Sys2Proof/Laws/KeptDramCtl.lean ====
section
/-! SUPPORT. What the operations of Machine/DramCtl.lean keep (see Laws/Kept.lean). -/

namespace Sys2Proof.Machine

theorem kept_slotTaken {W : Span} {s0 : State} {x0 x1 x2} (w : Span.le
    ⟨0x5800000000200000040000000000000000000000000000000f0200120000000000000000000000000000, 185⟩ W) (hx0 : Kept W s0
    x0) :
    Kept W s0 (State.slotTaken x0 x1 x2) := by
  delta State.slotTaken
  split
  · extract_lets v1
    have h2 : Kept W s0 v1 := (kept_setEmu (w.sub rfl rfl) hx0)
    exact (kept_memRelease (w.sub rfl rfl) (kept_takeSlots (w.sub rfl rfl) h2))
  · exact hx0

theorem kept_giveSlots {W : Span} {s0 : State} {x0 x1} (w : Span.le
    ⟨0x5800000000200000040000000000000000000000000000000f0200120000000000000000000000000000, 185⟩ W) (hx0 : Kept W s0
    x0) :
    Kept W s0 (State.giveSlots x0 x1) := by
  delta State.giveSlots
  exact (kept_foldl (fun _ _ h1 => (by
      split
      · exact (kept_ite (kept_slotTaken (w.sub rfl rfl) (kept_notePeak (w.sub rfl rfl) (kept_setReqs (w.sub rfl rfl)
          h1))) h1)
      · exact h1))
    hx0)

theorem kept_dropReq {W : Span} {s0 : State} {x0 x1 x2} (w : Span.le
    ⟨0x8800000000000000005800000000200000040000000000000000000000002140000f0200120000000000000000000000000000,
    524473⟩ W) (hx0 : Kept W s0 x0) :
    Kept W s0 (State.dropReq x0 x1 x2) := by
  delta State.dropReq
  extract_lets v1 v3 v4 v6 v7
  have h2 : Kept W s0 v1 := (kept_setReqs (w.sub rfl rfl) hx0)
  have h5 : Kept W s0 v4 := (kept_modDramRest (w.part rfl) (fun _ => Dram.mem_mk) h2)
  have h9 : Kept W s0 v7 := (kept_foldl (fun _ _ h8 => (kept_dramEvent (w.sub rfl rfl) h8)) h5)
  exact (kept_pushAll (w.sub rfl rfl) (kept_giveSlots (w.sub rfl rfl) h9))

theorem kept_dropReqs {W : Span} {s0 : State} {x0 x1} (w : Span.le
    ⟨0x5800000000200000040000000000000000000000000000000f0200120000000000000000000000000000, 185⟩ W) (hx0 : Kept W s0
    x0) :
    Kept W s0 (State.dropReqs x0 x1) := by
  delta State.dropReqs
  extract_lets v1 v2
  have h3 : Kept W s0 v2 := (kept_modDramRest (w.part rfl) (fun _ => Dram.mem_mk) hx0)
  exact (kept_ite hx0 (kept_foldl (fun _ _ h4 => (kept_giveSlots (w.sub rfl rfl) h4)) h3))

theorem kept_jobPart {W : Span} {s0 : State} {x0 x1 x2 x3 x4} (w : Span.le ⟨0x0, 288⟩ W) (hx0 : Kept W s0 x0) :
    Kept W s0 (State.jobPart x0 x1 x2 x3 x4) := by
  delta State.jobPart
  split
  · exact hx0
  · extract_lets v1
    split
    · exact (kept_replyTo (w.sub rfl rfl) (kept_modDramRest (w.part rfl) (fun _ => Dram.mem_mk) hx0))
    · exact (kept_modDramRest (w.part rfl) (fun _ => Dram.mem_mk) hx0)

theorem kept_readBack {W : Span} {s0 : State} {x0 x1 x2 x3 x4} (w : Span.le ⟨0x10000000000000000000000000000, 288⟩ W)
    (hx0 : Kept W s0 x0) :
    Kept W s0 (State.readBack x0 x1 x2 x3 x4) := by
  delta State.readBack
  split
  · refine kept_ite ?_ ?_
    · exact hx0
    · extract_lets v1
      have h2 : Kept W s0 v1 := (kept_modDramRest (w.part rfl) (fun _ => Dram.mem_mk) hx0)
      exact (kept_ite (kept_setReg (w.fld rfl) h2) h2)
  · exact (kept_jobPart (w.sub rfl rfl) hx0)
  · exact hx0

theorem kept_perform {W : Span} {s0 : State} {x0 x1 x2 x3 x4} (w : Span.le
    ⟨0x8800000000000000005800001804200000041800000000000000000000002140000f0200130000000000000000000000000000,
    590265⟩ W) (hx0 : Kept W s0 x0) :
    Kept W s0 (State.perform x0 x1 x2 x3 x4) := by
  delta State.perform
  extract_lets v1 v2 v3 v5 v7
  have h4 : Kept W s0 v3 := (kept_dramPut (w.sub rfl rfl) hx0)
  have h6 : Kept W s0 v5 := (by unfold v5; clear_value v2; split; exacts [(kept_dramPut (w.sub rfl rfl) h4), h4])
  have h9 : Kept W s0 v7 := (kept_ite (by
      clear_value v2
      split
      exacts [(kept_modDram (w.sub rfl rfl) hx0 (fun _ h8 => (DramOk.set (TabOk.putRun (h8).mem)))), hx0])
    (kept_ite (kept_readBack (w.sub rfl rfl) (kept_ite (kept_modDramRest (w.part rfl) (fun _ => Dram.mem_mk) h6) h6))
      (kept_readBack (w.sub rfl rfl) hx0)))
  exact (kept_dropReq (w.sub rfl rfl) h9)

theorem kept_openBank {W : Span} {s0 : State} {x0 x1 x2} (w : Span.le
    ⟨0x20000004000000000000000000000000000000000000000000000000000000000000000000, 161⟩ W) (hx0 : Kept W s0 x0) :
    Kept W s0 (State.openBank x0 x1 x2) := by
  delta State.openBank
  exact (kept_modDramRest (w.part rfl) (fun _ => Dram.mem_mk) (kept_wakeRank (w.sub rfl rfl) hx0))

theorem kept_freezeFor {W : Span} {s0 : State} {x0 x1 x2 x3 x4} (w : Span.le
    ⟨0x3ffe040200000040000000000000000000000000000001f0300800000000000000000000000000000, 1065137⟩ W) (hx0 : Kept W
    s0 x0) :
    Kept W s0 (State.freezeFor x0 x1 x2 x3 x4) := by
  delta State.freezeFor
  exact (by extract_lets v1; exact (kept_dramFreeze (w.sub rfl rfl) hx0))

theorem kept_finish {W : Span} {s0 : State} {x0 x1 x2 x3 x4 x5} (w : Span.le
    ⟨0x880000000000000000d803fff844200000041800000000000000000000002140001f0300930000000000000000000000000000,
    1655225⟩ W) (hx0 : Kept W s0 x0) :
    Kept W s0 (State.finish x0 x1 x2 x3 x4 x5) := by
  delta State.finish
  refine kept_ite ?_ ?_
  · extract_lets v1
    have h2 : Kept W s0 v1 := (kept_bump (w.fld rfl) hx0)
    exact (kept_ite (kept_perform (w.sub rfl rfl) h2) (kept_freezeFor (w.sub rfl rfl) h2))
  · exact (kept_perform (w.sub rfl rfl) hx0)

theorem kept_scrubBad {W : Span} {s0 : State} {x0 x1 x2} (w : Span.le
    ⟨0x4000000400000000000000000000000000000000000000000000000000000000000000000000000000, 65568⟩ W) (hx0 : Kept W s0
    x0) :
    Kept W s0 (State.scrubBad x0 x1 x2) := by
  delta State.scrubBad
  exact (kept_dueOf (w.sub rfl rfl) (kept_modDram (w.sub rfl rfl) (kept_bump (w.fld rfl) hx0) (fun _ h1 =>
    (dramOk_poisonBurst h1))))

theorem kept_serve {W : Span} {s0 : State} {x0 x1 x2 x3 x4 x5} (w : Span.le
    ⟨0x880000000000000000d963fff844200000041800000000000000000000002140001f0300930000000000000000000000000000,
    1655225⟩ W) (hx0 : Kept W s0 x0) :
    Kept W s0 (State.serve x0 x1 x2 x3 x4 x5) := by
  delta State.serve
  split
  · exact hx0
  · refine kept_ite ?_ ?_
    · exact hx0
    · extract_lets v1 v2 v3 v5 v7
      have h4 : Kept W s0 v3 := (kept_openBank (w.sub rfl rfl) hx0)
      have h6 : Kept W s0 v5 := (kept_bump (w.fld rfl) h4)
      have h8 : Kept1 W s0 v7 := (kept_readBurst (w.sub rfl rfl) h4)
      refine kept_ite ?_ ?_
      · exact (kept_ite (kept_dropReq (w.sub rfl rfl) h4) (kept_perform (w.sub rfl rfl) h4))
      · split
        · exact (by extract_lets v9; exact (kept_dramFreeze (w.sub rfl rfl) (kept_bump (w.fld rfl) h4)))
        · refine kept_ite ?_ ?_
          · exact (kept_finish (w.sub rfl rfl) h4)
          · refine kept_ite ?_ ?_
            · exact (kept_ite (kept_dropReq (w.sub rfl rfl) h6) (kept_freezeFor (w.sub rfl rfl) h6))
            · split
              · extract_lets v10
                have h11 : Kept W s0 v10 := (kept_finish (w.sub rfl rfl) (Kept1.st h8))
                exact (kept_ite (kept_diagnose (w.sub rfl rfl) h11) h11)
              · exact (kept_diagnose (w.sub rfl rfl) (Kept1.st h8))

theorem kept_execDramRequestServe {W : Span} {s0 : State} {x0 x1 x2 x3 x4 x5} (w : Span.le
    ⟨0x880000000000000000d963fff844200000041800000000000000000000002140001f0300930000000000000000000000000000,
    1655225⟩ W) (hx5 : Kept W s0 x5) :
    KeptOut W s0 (execDramRequestServe x0 x1 x2 x3 x4 x5) := by
  delta execDramRequestServe
  exact (KeptOut.of (kept_serve (w.sub rfl rfl) hx5))

theorem kept_diagnosis {W : Span} {s0 : State} {x0 x1 x2 x3 x4} (w : Span.le
    ⟨0x80000000000000000000000000000000000000000000000000000880008000000000000584ffff86c200000041800000000000000000000002140001f0300930000000000000000000000000000, 1663417⟩ W) (hx0 : Kept W s0 x0) :
    Kept W s0 (State.diagnosis x0 x1 x2 x3 x4) := by
  delta State.diagnosis
  extract_lets v1 v2 v4
  have h3 : Kept W s0 v2 := (kept_modDramRest (w.part rfl) (fun _ => Dram.mem_mk) hx0)
  have h5 : Kept W s0 v4 := (kept_ite (kept_setMark (w.sub rfl rfl) h3) h3)
  split
  · exact hx0
  · refine kept_ite ?_ ?_
    · exact hx0
    · extract_lets v6 v7
      refine kept_ite ?_ ?_
      · exact h5
      · refine kept_ite ?_ ?_
        · clear_value v7
          split
          exacts [(kept_perform (w.sub rfl rfl) h5), (kept_perform (w.sub rfl rfl) h5), h5]
        · clear_value v7
          split
          · exact (kept_freezeFor (w.sub rfl rfl) (kept_bump (w.fld rfl) h5))
          · exact (kept_dropReq (w.sub rfl rfl) (kept_scrubBad (w.sub rfl rfl) h5))
          · exact (kept_scrubBad (w.sub rfl rfl) h5)
          · exact h5

theorem kept_execDeviceDiagnosis {W : Span} {s0 : State} {x0 x1 x2 x3 x4} (w : Span.le
    ⟨0x80000000000000000000000000000000000000000000000000000880008000000000000584ffff86c200000041800000000000000000000002140001f0300930000000000000000000000000000, 1663417⟩ W) (hx4 : Kept W s0 x4) :
    KeptOut W s0 (execDeviceDiagnosis x0 x1 x2 x3 x4) := by
  delta execDeviceDiagnosis
  exact (KeptOut.of (kept_diagnosis (w.sub rfl rfl) hx4))

theorem kept_readEcs {W : Span} {s0 : State} {x0 x1 x2} (w : Span.le
    ⟨0x8000000000000000000000000000000000000000000000000000000000000000000000000000000000, 1⟩ W) (hx0 : Kept W s0 x0)
    :
    Kept W s0 (State.readEcs x0 x1 x2) := by
  delta State.readEcs
  exact (kept_foldl (fun _ _ h1 => (by
      extract_lets v2
      have h3 : Kept2 W s0 v2 := (kept_takeNat (w.sub rfl rfl) h1)
      exact (kept_setReg (w.fld rfl) (Kept2.st h3))))
    hx0)

theorem kept_patrolScrub {W : Span} {s0 : State} {x0 x1 x2} (w : Span.le
    ⟨0x588000000020000004000000000000000000000000000000000000000000000000000000000000000000, 169⟩ W) (hx0 : Kept W s0
    x0) :
    Kept W s0 (State.patrolScrub x0 x1 x2) := by
  delta State.patrolScrub
  refine kept_ite ?_ ?_
  · exact hx0
  · extract_lets v1 v2 v4 v6
    have h3 : Kept2 W s0 v2 := (kept_freshId (w.sub rfl rfl) hx0)
    have h5 : Kept2 W s0 v4 := (kept_submit (w.sub rfl rfl) (Kept2.st h3))
    have h7 : Kept W s0 v6 := (kept_modDramRest (w.part rfl) (fun _ => Dram.mem_mk) (Kept2.st h5))
    exact (kept_ite (kept_ite (kept_readEcs (w.sub rfl rfl) h7) h7) (Kept2.st h5))

theorem kept_execPatrolScrub {W : Span} {s0 : State} {x0 x1 x2} (w : Span.le
    ⟨0x588000000020000004000000000000000000000000000000000000000000000000000000000000000000, 169⟩ W) (hx2 : Kept W s0
    x2) :
    KeptOut W s0 (execPatrolScrub x0 x1 x2) := by
  delta execPatrolScrub
  exact (KeptOut.of (kept_patrolScrub (w.sub rfl rfl) hx2))

theorem kept_copyRead {W : Span} {s0 : State} {x0 x1 x2 x3} (w : Span.le
    ⟨0x16000000420000004000000000000000000000000000000000000000000000000000000000000000000, 65697⟩ W) (hx2 : Kept1 W
    s0 x2) :
    Kept1 W s0 (State.copyRead x0 x1 x2 x3) := by
  delta State.copyRead
  extract_lets v1 v2
  have h3 : Kept1 W s0 v2 := (kept_readBurst (w.sub rfl rfl) (Kept1.st hx2))
  refine ite_of (P := Kept1 W s0) ?_ ?_
  · exact hx2
  · refine ite_of (P := Kept1 W s0) ?_ ?_
    · exact (Kept1.of (kept_bump (w.fld rfl) (Kept1.st hx2)))
    · split
      · extract_lets v4
        have h6 : Kept W s0 v4 := by
          unfold v4
          split
          · exact (kept_modDram (w.sub rfl rfl) (Kept1.st h3) (fun _ h5 => (DramOk.set (TabOk.putRun (h5).mem))))
          · exact (Kept1.st h3)
        exact (Kept1.of (kept_ite (kept_diagnose (w.sub rfl rfl) h6) h6))
      · exact (Kept1.of (kept_diagnose (w.sub rfl rfl) (Kept1.st h3)))

theorem kept_copyReads {W : Span} {s0 : State} {x0 x1 x2 x3 x4} (w : Span.le
    ⟨0x16000000420000004000000000000000000000000000000000000000000000000000000000000000000, 65697⟩ W) (hx0 : Kept W
    s0 x0) :
    Kept1 W s0 (State.copyReads x0 x1 x2 x3 x4) := by
  delta State.copyReads
  extract_lets v1
  have h3 : Kept W s0 v1 := (kept_foldl (fun _ _ h2 => (kept_wakeRank (w.sub rfl rfl) (kept_wakeRank (w.sub rfl rfl)
    h2))) hx0)
  exact (foldl_of (P := Kept1 W s0) (fun _ _ h4 => (kept_copyRead (w.sub rfl rfl) h4)) (Kept1.of h3))

theorem kept_pageRetirement {W : Span} {s0 : State} {x0 x1 x2 x3} (w : Span.le
    ⟨0x16000140420000004000000000000000000000000000000000000000000000000000000000000000000, 1122465⟩ W) (hx0 : Kept W
    s0 x0) :
    Kept W s0 (State.pageRetirement x0 x1 x2 x3) := by
  delta State.pageRetirement
  refine kept_ite ?_ ?_
  · exact hx0
  · split
    · exact (kept_noteReserve (w.sub rfl rfl) hx0)
    · extract_lets v1 v2
      have h3 : Kept1 W s0 v2 := (kept_copyReads (w.sub rfl rfl) hx0)
      exact (kept_ite hx0 (kept_ite (kept_retire (w.sub rfl rfl) (Kept1.st h3)) (Kept1.st h3)))

theorem kept_execPageRetirement {W : Span} {s0 : State} {x0 x1 x2 x3} (w : Span.le
    ⟨0x16000140420000004000000000000000000000000000000000000000000000000000000000000000000, 1122465⟩ W) (hx3 : Kept W
    s0 x3) :
    KeptOut W s0 (execPageRetirement x0 x1 x2 x3) := by
  delta execPageRetirement
  exact (KeptOut.of (kept_pageRetirement (w.sub rfl rfl) hx3))

theorem kept_migrationStep {W : Span} {s0 : State} {x0 x1 x2} (w : Span.le
    ⟨0x80000000000000000000000000000000000000000000000000000880008000000000000016000140c20000004000000000000000000000000000000000000000000000000000000000000000000, 1646753⟩ W) (hx0 : Kept W s0 x0) :
    Kept W s0 (State.migrationStep x0 x1 x2) := by
  delta State.migrationStep
  split
  · exact hx0
  · split
    · exact (kept_ite hx0 (kept_migrateEnd (w.sub rfl rfl) hx0))
    · exact (kept_ite hx0 (kept_migrateStall (w.sub rfl rfl) hx0))
    · extract_lets v1 v2
      have h3 : Kept1 W s0 v2 := (ite_of (P := Kept1 W s0) (kept_copyReads (w.sub rfl rfl) hx0) (Kept1.of hx0))
      exact (kept_ite hx0 (kept_ite (kept_retire (w.sub rfl rfl) (Kept1.st h3)) (Kept1.st h3)))

theorem kept_execMigrationStep {W : Span} {s0 : State} {x0 x1 x2} (w : Span.le
    ⟨0x80000000000000000000000000000000000000000000000000000880008000000000000016000140c20000004000000000000000000000000000000000000000000000000000000000000000000, 1646753⟩ W) (hx2 : Kept W s0 x2) :
    KeptOut W s0 (execMigrationStep x0 x1 x2) := by
  delta execMigrationStep
  exact (KeptOut.of (kept_migrationStep (w.sub rfl rfl) hx2))

theorem kept_thawRetire {W : Span} {s0 : State} {x0 x1 x2} (w : Span.le
    ⟨0x140400000000000000000000000000000000000000000000000000000000000000000000000000, 1122336⟩ W) (hx0 : Kept W s0
    x0) :
    Kept W s0 (State.thawRetire x0 x1 x2) := by
  delta State.thawRetire
  split
  · exact hx0
  · extract_lets v1
    have h3 : Kept W s0 v1 := (kept_modDram (w.sub rfl rfl) hx0 (fun _ h2 => (dramOk_poisonBurst h2)))
    exact (kept_ite (kept_retire (w.sub rfl rfl) h3) (kept_dueRetire (w.sub rfl rfl) h3))

theorem kept_thawFail {W : Span} {s0 : State} {x0 x1 x2} (w : Span.le
    ⟨0x8800000000000000005800001804200000041800000000000000000000002140000f0200130000000000000000000000000000,
    590265⟩ W) (hx0 : Kept W s0 x0) :
    Kept W s0 (State.thawFail x0 x1 x2) := by
  delta State.thawFail
  extract_lets v1
  have h2 : Kept W s0 v1 := by
    unfold v1
    split
    exacts [(kept_modDramRest (w.part rfl) (fun _ => Dram.mem_mk) hx0), hx0]
  exact (by split; exacts [(kept_perform (w.sub rfl rfl) h2), h2])

theorem kept_thawEnd {W : Span} {s0 : State} {x0 x1} (w : Span.le
    ⟨0x8800000000000000005800000040200000040000000000000000000000002140000f0200120000000000000000000000000000,
    1573049⟩ W) (hx0 : Kept W s0 x0) :
    Kept W s0 (State.thawEnd x0 x1) := by
  delta State.thawEnd
  extract_lets v1 v3 v4 v6 v7 v8
  have h2 : Kept W s0 v1 := (kept_modDramRest (w.part rfl) (fun _ => Dram.mem_mk) (kept_setReg (w.fld rfl) hx0))
  have h5 : Kept W s0 v4 := (kept_dramEvent (w.sub rfl rfl) (kept_auditAction (w.sub rfl rfl) h2))
  have h10 : Kept W s0 v8 := (kept_pushAll (w.sub rfl rfl) (kept_foldl (fun _ _ h9 => (kept_submitPort (w.sub rfl
    rfl) h9)) h5))
  exact (kept_foldl (fun _ _ h11 => (kept_memRelease (w.sub rfl rfl) (kept_takeSlots (w.sub rfl rfl) h11))) h10)

theorem kept_thaw {W : Span} {s0 : State} {x0 x1 x2 x3} (w : Span.le
    ⟨0x800000000000000000000000000000000000000000000000000008800080000000000005800001c54200000041800000000000000000000002140001f0300930000000000000000000000000000, 1663417⟩ W) (hx0 : Kept W s0 x0) :
    Kept W s0 (State.thaw x0 x1 x2 x3) := by
  delta State.thaw
  split
  · exact hx0
  · refine kept_ite ?_ ?_
    · exact (kept_moduleFault (w.sub rfl rfl) hx0)
    · refine kept_ite ?_ ?_
      · exact (kept_thawEnd (w.sub rfl rfl) hx0)
      · refine kept_ite ?_ ?_
        · exact (kept_thawEnd (w.sub rfl rfl) (kept_condition (w.sub rfl rfl) (kept_setReg (w.fld rfl)
            (kept_modDramRest (w.part rfl) (fun _ => Dram.mem_mk) hx0))))
        · extract_lets v1 v2 v4
          have h3 : Kept W s0 v2 := (kept_ite (kept_thawFail (w.sub rfl rfl) hx0) hx0)
          exact (kept_thawEnd (w.sub rfl rfl) (kept_ite (kept_thawRetire (w.sub rfl rfl) h3) h3))

theorem kept_stewardThaw {W : Span} {s0 : State} {x0 x1 x2} (w : Span.le
    ⟨0x800000000000000000000000000000000000000000000000000008800080000000000005800001c54200000041800000000000000000000002140001f0300930000000000000000000000000000, 1663417⟩ W) (hx0 : Kept W s0 x0) :
    Kept W s0 (State.stewardThaw x0 x1 x2) := by
  delta State.stewardThaw
  split
  · exact hx0
  · exact (kept_ite hx0 (kept_ite (kept_thaw (w.sub rfl rfl) hx0) (kept_ite (kept_thaw (w.sub rfl rfl) hx0) hx0)))

theorem kept_execStewardThaw {W : Span} {s0 : State} {x0 x1 x2} (w : Span.le
    ⟨0x800000000000000000000000000000000000000000000000000008800080000000000005800001c54200000041800000000000000000000002140001f0300930000000000000000000000000000, 1663417⟩ W) (hx2 : Kept W s0 x2) :
    KeptOut W s0 (execStewardThaw x0 x1 x2) := by
  delta execStewardThaw
  exact (KeptOut.of (kept_stewardThaw (w.sub rfl rfl) hx2))

theorem kept_cmdDdrThaw {W : Span} {s0 : State} {x0 x1 x2 x3 x4} (w : Span.le
    ⟨0x800000000000000000000000000000000000000000000000000008800080000000000005800001c54200000041800000000000000000000002140001f0300930000000000000000000000000000, 1663417⟩ W) (hx4 : Kept W s0 x4) :
    Kept1 W s0 (cmdDdrThaw x0 x1 x2 x3 x4) := by
  delta cmdDdrThaw
  exact (kept_refuseIf hx4 (fun _ h1 => (by
      extract_lets v2 v5
      have h4 : Kept W s0 v2 := (kept_foldl (fun _ _ h3 => (kept_outageRecover (w.sub rfl rfl) h3)) h1)
      have h6 : Kept W s0 v5 := (kept_thaw (w.sub rfl rfl) h4)
      exact (ite_of (P := Kept1 W s0) (kept_says h6) (kept_oks h6)))))

theorem kept_execDdrThaw {W : Span} {s0 : State} {x0 x1 x2 x3 x4} (w : Span.le
    ⟨0x800000000000000000000000000000000000000000000000000008800080000000000005800001c54200000041800000000000000000000002140001f0300930000000000000000000000000000, 1925561⟩ W) (hx4 : Kept W s0 x4) :
    KeptOut W s0 (execDdrThaw x0 x1 x2 x3 x4) := by
  delta execDdrThaw
  exact (KeptOut.of (kept_runCmd (w.sub rfl rfl) (fun _ h1 => (kept_cmdDdrThaw (w.sub rfl rfl) h1)) hx4))

theorem kept_cmdDdrRetirePage {W : Span} {s0 : State} {x0 x1 x2 x3} (w : Span.le
    ⟨0x140400000000000000000000000000000000000000000000000000000000000000000000000000, 1122336⟩ W) (hx3 : Kept W s0
    x3) :
    Kept1 W s0 (cmdDdrRetirePage x0 x1 x2 x3) := by
  delta cmdDdrRetirePage
  exact (kept_refuseIf hx3 (fun _ h1 => (by
      extract_lets v2
      refine ite_of (P := Kept1 W s0) ?_ ?_
      · exact (kept_oks h1)
      · split
        · exact (kept_says h1)
        · exact (ite_of (P := Kept1 W s0) (kept_oks (kept_retire (w.sub rfl rfl) h1)) (kept_waits h1)))))

theorem kept_execDdrRetirePage {W : Span} {s0 : State} {x0 x1 x2 x3} (w : Span.le
    ⟨0x140400000000000000000000000000000000000000000000000000000000000000000000000000, 1384480⟩ W) (hx3 : Kept W s0
    x3) :
    KeptOut W s0 (execDdrRetirePage x0 x1 x2 x3) := by
  delta execDdrRetirePage
  exact (KeptOut.of (kept_runCmd (w.sub rfl rfl) (fun _ h1 => (kept_cmdDdrRetirePage (w.sub rfl rfl) h1)) hx3))

theorem kept_cmdDdrMarkSet {W : Span} {s0 : State} {x0 x1 x2 x3 x4 x5} (w : Span.le
    ⟨0x80000000000000000000000000000000000000000000000000000880008000000000000000c00002820000004000000000000000000000000000000000000000000000000000000000000000000, 1581217⟩ W) (hx5 : Kept W s0 x5) :
    Kept1 W s0 (cmdDdrMarkSet x0 x1 x2 x3 x4 x5) := by
  delta cmdDdrMarkSet
  exact (kept_refuseIf hx5 (fun _ h1 => (kept_oks (kept_setMark (w.sub rfl rfl) h1))))

theorem kept_execDdrMarkSet {W : Span} {s0 : State} {x0 x1 x2 x3 x4 x5} (w : Span.le
    ⟨0x80000000000000000000000000000000000000000000000000000880008000000000000000c00002820000004000000000000000000000000000000000000000000000000000000000000000000, 1843361⟩ W) (hx5 : Kept W s0 x5) :
    KeptOut W s0 (execDdrMarkSet x0 x1 x2 x3 x4 x5) := by
  delta execDdrMarkSet
  exact (KeptOut.of (kept_runCmd (w.sub rfl rfl) (fun _ h1 => (kept_cmdDdrMarkSet (w.sub rfl rfl) h1)) hx5))

end Sys2Proof.Machine
end

