-- ==== Sys2Proof/Laws/KeptOperands.lean ====
section
/-! SUPPORT. What the operations of Machine/Operands.lean keep (see Laws/Kept.lean). -/

namespace Sys2Proof.Machine

theorem kept_auditDiff {W : Span} {s0 : State} {x0 x1 x2 x3 x4 x5 x6} (w : Span.le ⟨0x0, 1048576⟩ W) (hx6 : Kept W s0
    x6) :
    Kept W s0 (State.auditDiff x0 x1 x2 x3 x4 x5 x6) := by
  delta State.auditDiff
  exact (by extract_lets v1 v2 v3; exact (kept_ite hx6 (kept_auditWrite (w.sub rfl rfl) hx6)))

theorem kept_auditRefuse {W : Span} {s0 : State} {x0 x1 x2 x3 x4 x5 x6 x7} (w : Span.le ⟨0x0, 1048576⟩ W) (hx0 : Kept
    W s0 x0) :
    Kept W s0 (State.auditRefuse x0 x1 x2 x3 x4 x5 x6 x7) := by
  delta State.auditRefuse
  exact (by extract_lets v1; exact (kept_auditWrite (w.sub rfl rfl) hx0))

theorem kept_auditAct {W : Span} {s0 : State} {x0 x1 x2 x3 x4 x5 x6} (w : Span.le ⟨0x0, 1048576⟩ W) (hx0 : Kept W s0
    x0) :
    Kept W s0 (State.auditAct x0 x1 x2 x3 x4 x5 x6) := by
  delta State.auditAct
  exact (by extract_lets v1; exact (kept_auditWrite (w.sub rfl rfl) hx0))

end Sys2Proof.Machine
end

