-- ==== Sys2Proof/Laws/KeptPins.lean ====
section
/-! SUPPORT. What the operations of Machine/Pins.lean keep (see Laws/Kept.lean). -/

namespace Sys2Proof.Machine

theorem kept_keepPad {W : Span} {s0 : State} {x0 x1} (w : Span.le ⟨0x0, 2048⟩ W) (hx0 : Kept W s0 x0) :
    Kept W s0 (State.keepPad x0 x1) := by
  delta State.keepPad
  exact (by extract_lets v1 v2; exact (Kept.setPins hx0 (w.part rfl)))

theorem kept_keepPads {W : Span} {s0 : State} {x0 x1} (w : Span.le ⟨0x0, 2048⟩ W) (hx0 : Kept W s0 x0) :
    Kept W s0 (State.keepPads x0 x1) := by
  delta State.keepPads
  exact (kept_foldl (fun _ _ h1 => (kept_keepPad (w.sub rfl rfl) h1)) hx0)

theorem kept_pinsChange {W : Span} {s0 : State} {x0 x1} (w : Span.le ⟨0x0, 2048⟩ W) (hx0 : Kept W s0 x0) :
    Kept W s0 (State.pinsChange x0 x1) := by
  delta State.pinsChange
  exact (kept_keepPads (w.sub rfl rfl) hx0)

theorem kept_setHolds {W : Span} {s0 : State} {x0 x1 x2} (w : Span.le ⟨0x0, 2048⟩ W) (hx0 : Kept W s0 x0) :
    Kept W s0 (State.setHolds x0 x1 x2) := by
  delta State.setHolds
  exact (kept_foldl (fun _ _ h1 => (by
      extract_lets v2 v3 v5
      have h4 : Kept W s0 v3 := (kept_keepPad (w.sub rfl rfl) h1)
      exact (Kept.setPins h4 (w.part rfl))))
    hx0)

theorem kept_pinsDestroy {W : Span} {s0 : State} {x0 x1} (w : Span.le
    ⟨0xe00000000000000000000000000000000000000000000000000000000000000000000000000000000000000000000000000000000000000000000000000000000000000, 2048⟩ W) (hx0 : Kept W s0 x0) :
    Kept W s0 (State.pinsDestroy x0 x1) := by
  delta State.pinsDestroy
  exact (kept_foldl (fun _ _ h1 => (by
      extract_lets v2 v4 v6
      have h3 : Kept W s0 v2 := (kept_keepPad (w.sub rfl rfl) h1)
      have h5 : Kept W s0 v4 := (kept_setReg (w.fld rfl) (kept_setReg (w.fld rfl) (kept_setReg (w.fld rfl) h3)))
      exact (Kept.setPins h5 (w.part rfl))))
    hx0)

theorem kept_trigPulse {W : Span} {s0 : State} {x0 x1 x2} (w : Span.le ⟨0x0, 34816⟩ W) (hx0 : Kept W s0 x0) :
    Kept W s0 (State.trigPulse x0 x1 x2) := by
  delta State.trigPulse
  extract_lets v1 v2
  exact (Kept.many hx0 (fun i3 => (hx0).regsOk i3) (.inr rfl) (fun i3 => ((hx0).fabOk i3)) (fun i3 => ((hx0).dramOk
    i3)) (fun i3 => ((hx0).hostOk i3)) rfl (.inr rfl) (.inr rfl) (.inr rfl) (.inr rfl) (.inr rfl) (.inr rfl) (.inr
    rfl) (.inr rfl) (.inr rfl) (.inr rfl) (.inr rfl) (.inl (w.part rfl)) (.inr rfl) (.inr rfl) (.inr rfl) (.inl
    (w.part rfl)) (.inr rfl) (.inr rfl) (.inr (HostIf.sameCommands.refl _)) (.inr (HostIf.sameQueues.refl _)) (.inr
    (HostIf.sameLog.refl _)) (.inr (HostIf.sameKeys.refl _)))

theorem kept_failPulse {W : Span} {s0 : State} {x0 x1} (w : Span.le ⟨0x0, 34816⟩ W) (hx0 : Kept W s0 x0) :
    Kept W s0 (State.failPulse x0 x1) := by
  delta State.failPulse
  exact (Kept.many hx0 (fun i1 => (hx0).regsOk i1) (.inr rfl) (fun i1 => ((hx0).fabOk i1)) (fun i1 => ((hx0).dramOk
    i1)) (fun i1 => ((hx0).hostOk i1)) rfl (.inr rfl) (.inr rfl) (.inr rfl) (.inr rfl) (.inr rfl) (.inr rfl) (.inr
    rfl) (.inr rfl) (.inr rfl) (.inr rfl) (.inr rfl) (.inl (w.part rfl)) (.inr rfl) (.inr rfl) (.inr rfl) (.inl
    (w.part rfl)) (.inr rfl) (.inr rfl) (.inr (HostIf.sameCommands.refl _)) (.inr (HostIf.sameQueues.refl _)) (.inr
    (HostIf.sameLog.refl _)) (.inr (HostIf.sameKeys.refl _)))

theorem kept_wrPinFunc {W : Span} {s0 : State} {x0 x1 x2 x3} (w : Span.le
    ⟨0x2400000000000000000000000000000000000000000000000000000000000000000000000000000000000000000000000000000000000000000000000000000000000000, 1058816⟩ W) (hx0 : Kept W s0 x0) :
    Kept W s0 (State.wrPinFunc x0 x1 x2 x3) := by
  delta State.wrPinFunc
  exact (kept_ite (kept_auditRefuse (w.sub rfl rfl) hx0) (kept_ite (kept_auditRefuse (w.sub rfl rfl) hx0)
    (kept_auditDiff (w.sub rfl rfl) (kept_setReg (w.fld rfl) (kept_setSetting (w.sub rfl rfl) (w.fld rfl)
    (kept_keepPad (w.sub rfl rfl) hx0))))))

theorem kept_execPinFuncSwitch {W : Span} {s0 : State} {x0 x1 x2 x3} (w : Span.le
    ⟨0x2400000000000000000000000000000000000000000000000000000000000000000000000000000000000000000000000000000000000000000000000000000000000000, 1058816⟩ W) (hx3 : Kept W s0 x3) :
    KeptOut W s0 (execPinFuncSwitch x0 x1 x2 x3) := by
  delta execPinFuncSwitch
  exact (KeptOut.of (kept_ite hx3 (kept_wrPinFunc (w.sub rfl rfl) hx3)))

theorem kept_wrPinOwner {W : Span} {s0 : State} {x0 x1 x2 x3} (w : Span.le
    ⟨0x600000000000000000000000000000000000000000000000000000000000000000000000000000000000000000000000000000000000000000000000000000000000000, 1058816⟩ W) (hx0 : Kept W s0 x0) :
    Kept W s0 (State.wrPinOwner x0 x1 x2 x3) := by
  delta State.wrPinOwner
  refine kept_ite ?_ ?_
  · exact (kept_auditRefuse (w.sub rfl rfl) hx0)
  · refine kept_ite ?_ ?_
    · exact hx0
    · refine kept_ite ?_ ?_
      · exact (kept_auditRefuse (w.sub rfl rfl) hx0)
      · extract_lets v1 v3 v4
        have h2 : Kept W s0 v1 := (kept_setSetting (w.sub rfl rfl) (w.fld rfl) (kept_setSetting (w.sub rfl rfl)
          (w.fld rfl) (kept_keepPad (w.sub rfl rfl) hx0)))
        have h5 : Kept W s0 v4 := (Kept.setPins h2 (w.part rfl))
        exact (kept_auditDiff (w.sub rfl rfl) h5)

theorem kept_execPinOwnerWrite {W : Span} {s0 : State} {x0 x1 x2 x3} (w : Span.le
    ⟨0x600000000000000000000000000000000000000000000000000000000000000000000000000000000000000000000000000000000000000000000000000000000000000, 1058816⟩ W) (hx3 : Kept W s0 x3) :
    KeptOut W s0 (execPinOwnerWrite x0 x1 x2 x3) := by
  delta execPinOwnerWrite
  exact (KeptOut.of (kept_ite hx3 (kept_wrPinOwner (w.sub rfl rfl) hx3)))

theorem kept_wrBankVsel {W : Span} {s0 : State} {x0 x1 x2 x3} (w : Span.le
    ⟨0xc000000000000000000000000000000000000000000000000000000000000000000000000000000000000000000000000000000000000000000000000000000000000000000, 1056768⟩ W) (hx0 : Kept W s0 x0) :
    Kept W s0 (State.wrBankVsel x0 x1 x2 x3) := by
  delta State.wrBankVsel
  exact (kept_ite (kept_auditRefuse (w.sub rfl rfl) hx0) (kept_ite hx0 (kept_ite (kept_auditRefuse (w.sub rfl rfl)
    hx0) (kept_ite hx0 (kept_auditDiff (w.sub rfl rfl) (kept_setReg (w.fld rfl) (kept_setSetting (w.sub rfl rfl)
    (w.fld rfl) hx0)))))))

theorem kept_execBankVselWrite {W : Span} {s0 : State} {x0 x1 x2 x3} (w : Span.le
    ⟨0xc000000000000000000000000000000000000000000000000000000000000000000000000000000000000000000000000000000000000000000000000000000000000000000, 1056768⟩ W) (hx3 : Kept W s0 x3) :
    KeptOut W s0 (execBankVselWrite x0 x1 x2 x3) := by
  delta execBankVselWrite
  exact (KeptOut.of (kept_ite hx3 (kept_wrBankVsel (w.sub rfl rfl) hx3)))

theorem kept_rampDone {W : Span} {s0 : State} {x0 x1} (w : Span.le
    ⟨0x4000000000000000000000000000000000000000000000000000000000000000000000000000000000000000000000000000000000000000000000000000000000000000000, 2048⟩ W) (hx0 : Kept W s0 x0) :
    Kept W s0 (State.rampDone x0 x1) := by
  delta State.rampDone
  exact (kept_ite (kept_setReg (w.fld rfl) (kept_keepPads (w.sub rfl rfl) hx0)) hx0)

theorem kept_execBankRampDone {W : Span} {s0 : State} {x0 x1} (w : Span.le
    ⟨0x4000000000000000000000000000000000000000000000000000000000000000000000000000000000000000000000000000000000000000000000000000000000000000000, 2048⟩ W) (hx1 : Kept W s0 x1) :
    KeptOut W s0 (execBankRampDone x0 x1) := by
  delta execBankRampDone
  exact (KeptOut.of (kept_rampDone (w.sub rfl rfl) hx1))

theorem kept_gpioPut {W : Span} {s0 : State} {x0 x1 x2 x3} (w : Span.le
    ⟨0x30000000000000000000000000000000000000000000000000000000000000000000000000000000000000000000000000000000000000000000000000000000000000000, 1048576⟩ W) (hx0 : Kept W s0 x0) :
    Kept W s0 (State.gpioPut x0 x1 x2 x3) := by
  delta State.gpioPut
  extract_lets v1
  exact (kept_auditDiff (w.sub rfl rfl) (kept_setReg (fld_ite (w.fld rfl) (w.fld rfl)) hx0))

theorem kept_gpioWrite {W : Span} {s0 : State} {x0 x1 x2 x3} (w : Span.le
    ⟨0x30000000000000000000000000000000000000000000000000000000000000000000000000000000000000000000000000000000000000000000000000000000000000000, 1048576⟩ W) (hx0 : Kept W s0 x0) :
    Kept W s0 (State.gpioWrite x0 x1 x2 x3) := by
  delta State.gpioWrite
  exact (by extract_lets v1; exact (kept_gpioPut (w.sub rfl rfl) hx0))

theorem kept_gpioSet {W : Span} {s0 : State} {x0 x1 x2 x3} (w : Span.le
    ⟨0x30000000000000000000000000000000000000000000000000000000000000000000000000000000000000000000000000000000000000000000000000000000000000000, 1048576⟩ W) (hx0 : Kept W s0 x0) :
    Kept W s0 (State.gpioSet x0 x1 x2 x3) := by
  delta State.gpioSet
  exact (kept_gpioPut (w.sub rfl rfl) hx0)

theorem kept_gpioClr {W : Span} {s0 : State} {x0 x1 x2 x3} (w : Span.le
    ⟨0x30000000000000000000000000000000000000000000000000000000000000000000000000000000000000000000000000000000000000000000000000000000000000000, 1048576⟩ W) (hx0 : Kept W s0 x0) :
    Kept W s0 (State.gpioClr x0 x1 x2 x3) := by
  delta State.gpioClr
  exact (kept_gpioPut (w.sub rfl rfl) hx0)

theorem kept_gpioTgl {W : Span} {s0 : State} {x0 x1 x2 x3} (w : Span.le
    ⟨0x30000000000000000000000000000000000000000000000000000000000000000000000000000000000000000000000000000000000000000000000000000000000000000, 1048576⟩ W) (hx0 : Kept W s0 x0) :
    Kept W s0 (State.gpioTgl x0 x1 x2 x3) := by
  delta State.gpioTgl
  exact (kept_gpioPut (w.sub rfl rfl) hx0)

theorem kept_execGpioSet {W : Span} {s0 : State} {x0 x1 x2 x3} (w : Span.le
    ⟨0x30000000000000000000000000000000000000000000000000000000000000000000000000000000000000000000000000000000000000000000000000000000000000000, 1048576⟩ W) (hx3 : Kept W s0 x3) :
    KeptOut W s0 (execGpioSet x0 x1 x2 x3) := by
  delta execGpioSet
  exact (KeptOut.of (kept_ite hx3 (kept_gpioSet (w.sub rfl rfl) hx3)))

theorem kept_execGpioClr {W : Span} {s0 : State} {x0 x1 x2 x3} (w : Span.le
    ⟨0x30000000000000000000000000000000000000000000000000000000000000000000000000000000000000000000000000000000000000000000000000000000000000000, 1048576⟩ W) (hx3 : Kept W s0 x3) :
    KeptOut W s0 (execGpioClr x0 x1 x2 x3) := by
  delta execGpioClr
  exact (KeptOut.of (kept_ite hx3 (kept_gpioClr (w.sub rfl rfl) hx3)))

theorem kept_execGpioTgl {W : Span} {s0 : State} {x0 x1 x2 x3} (w : Span.le
    ⟨0x30000000000000000000000000000000000000000000000000000000000000000000000000000000000000000000000000000000000000000000000000000000000000000, 1048576⟩ W) (hx3 : Kept W s0 x3) :
    KeptOut W s0 (execGpioTgl x0 x1 x2 x3) := by
  delta execGpioTgl
  exact (KeptOut.of (kept_ite hx3 (kept_gpioTgl (w.sub rfl rfl) hx3)))

theorem kept_pinShorted {W : Span} {s0 : State} {x0 x1} (w : Span.le
    ⟨0x2000000000000000000000000000000000880008000000000000000000000000000000000000000000000000000000000000000000000000000000000000000000000000, 524288⟩ W) (hx0 : Kept W s0 x0) :
    Kept W s0 (State.pinShorted x0 x1) := by
  delta State.pinShorted
  exact (kept_ite (kept_mError (w.sub rfl rfl) (kept_setReg (w.fld rfl) hx0)) hx0)

theorem kept_execPinShort {W : Span} {s0 : State} {x0 x1} (w : Span.le
    ⟨0x2000000000000000000000000000000000880008000000000000000000000000000000000000000000000000000000000000000000000000000000000000000000000000, 524288⟩ W) (hx1 : Kept W s0 x1) :
    KeptOut W s0 (execPinShort x0 x1) := by
  delta execPinShort
  exact (KeptOut.of (kept_pinShorted (w.sub rfl rfl) hx1))

theorem kept_shortClear {W : Span} {s0 : State} {x0 x1 x2} (w : Span.le
    ⟨0x2000000000000000000000000000000000000000000000000000000000000000000000000000000000000000000000000000000000000000000000000000000000000000, 1048576⟩ W) (hx0 : Kept W s0 x0) :
    Kept W s0 (State.shortClear x0 x1 x2) := by
  delta State.shortClear
  exact (kept_ite (kept_setReg (w.fld rfl) hx0) (kept_auditRefuse (w.sub rfl rfl) hx0))

theorem kept_execShortClear {W : Span} {s0 : State} {x0 x1 x2} (w : Span.le
    ⟨0x2000000000000000000000000000000000000000000000000000000000000000000000000000000000000000000000000000000000000000000000000000000000000000, 1048576⟩ W) (hx2 : Kept W s0 x2) :
    KeptOut W s0 (execShortClear x0 x1 x2) := by
  delta execShortClear
  exact (KeptOut.of (kept_ite hx2 (kept_shortClear (w.sub rfl rfl) hx2)))

theorem kept_latchPads {W : Span} {s0 : State} {x0 x1} (w : Span.le
    ⟨0x10000000000000000000000000000000000000000000000000000000000000000000000000000000000000000000000000000000000000000000000000000000000000000000, 2048⟩ W) (hx0 : Kept W s0 x0) :
    Kept W s0 (State.latchPads x0 x1) := by
  delta State.latchPads
  extract_lets v1 v2 v3 v5
  have h4 : Kept W s0 v3 := (kept_setReg (w.fld rfl) hx0)
  exact (Kept.setPins h4 (w.part rfl))

theorem kept_releasePads {W : Span} {s0 : State} {x0} (w : Span.le
    ⟨0x10000000000000000000000000000000000000000000000000000000000000000000000000000000000000000000000000000000000000000000000000000000000000000000, 2048⟩ W) (hx0 : Kept W s0 x0) :
    Kept W s0 (State.releasePads x0) := by
  delta State.releasePads
  extract_lets v1 v3 v5
  have h2 : Kept W s0 v1 := (kept_keepPads (w.sub rfl rfl) hx0)
  have h4 : Kept W s0 v3 := (kept_setReg (w.fld rfl) h2)
  exact (Kept.setPins h4 (w.part rfl))

theorem kept_strapClose {W : Span} {s0 : State} {x0} (w : Span.le
    ⟨0x30000000000000000000000000000000000000000000000000000000000000000000000000000000000000000000000000000000000000000000000000000000000000000000, 2048⟩ W) (hx0 : Kept W s0 x0) :
    Kept W s0 (State.strapClose x0) := by
  delta State.strapClose
  extract_lets v1
  have h2 : Kept W s0 v1 := (kept_ite (kept_releasePads (w.sub rfl rfl) hx0) hx0)
  exact (kept_setReg (w.fld rfl) (kept_keepPads (w.sub rfl rfl) h2))

theorem kept_execStrapClose {W : Span} {s0 : State} {x0} (w : Span.le
    ⟨0x30000000000000000000000000000000000000000000000000000000000000000000000000000000000000000000000000000000000000000000000000000000000000000000, 2048⟩ W) (hx0 : Kept W s0 x0) :
    KeptOut W s0 (execStrapClose x0) := by
  delta execStrapClose
  exact (KeptOut.of (kept_strapClose (w.sub rfl rfl) hx0))

theorem kept_strapOpen {W : Span} {s0 : State} {x0} (w : Span.le
    ⟨0x20000000000000000000000000000000000000000000000000000000000000000000000000000000000000000000000000000000000000000000000000000000000000000000, 264192⟩ W) (hx0 : Kept W s0 x0) :
    Kept W s0 (State.strapOpen x0) := by
  delta State.strapOpen
  extract_lets v1 v2 v4
  have h3 : Kept W s0 v2 := (kept_setReg (w.fld rfl) (kept_keepPads (w.sub rfl rfl) hx0))
  exact (Kept.setHost h3 (fun i5 => (HostOk.set (((h3).hostOk i5)).mem)) (.inr rfl) (.inl (w.part rfl)) (.inr ⟨rfl,
    rfl⟩) (.inr ⟨rfl, rfl, rfl, rfl, rfl⟩) (.inr ⟨rfl, rfl⟩) (.inr rfl))

theorem kept_execStrapOpen {W : Span} {s0 : State} {x0} (w : Span.le
    ⟨0x20000000000000000000000000000000000000000000000000000000000000000000000000000000000000000000000000000000000000000000000000000000000000000000, 264192⟩ W) (hx0 : Kept W s0 x0) :
    KeptOut W s0 (execStrapOpen x0) := by
  delta execStrapOpen
  exact (KeptOut.of (kept_strapOpen (w.sub rfl rfl) hx0))

theorem kept_setUartFifo {W : Span} {s0 : State} {x0 x1 x2} (w : Span.le ⟨0x0, 2048⟩ W) (hx0 : Kept W s0 x0) :
    Kept W s0 (State.setUartFifo x0 x1 x2) := by
  delta State.setUartFifo
  exact (Kept.setPins hx0 (w.part rfl))

theorem kept_uartRx {W : Span} {s0 : State} {x0 x1 x2 x3} (w : Span.le
    ⟨0x80000000000000000000000000000000000000000000000000000000000000000000000000000000000000000000000000000000000000000000000000000000000000000000, 2048⟩ W) (hx0 : Kept W s0 x0) :
    Kept W s0 (State.uartRx x0 x1 x2 x3) := by
  delta State.uartRx
  exact (kept_ite hx0 (kept_ite (kept_bump (w.fld rfl) hx0) (kept_setUartFifo (w.sub rfl rfl) hx0)))

theorem kept_execUartRxByte {W : Span} {s0 : State} {x0 x1 x2 x3} (w : Span.le
    ⟨0x80000000000000000000000000000000000000000000000000000000000000000000000000000000000000000000000000000000000000000000000000000000000000000000, 2048⟩ W) (hx3 : Kept W s0 x3) :
    KeptOut W s0 (execUartRxByte x0 x1 x2 x3) := by
  delta execUartRxByte
  exact (KeptOut.of (kept_ite hx3 (kept_uartRx (w.sub rfl rfl) hx3)))

theorem kept_cmdSpUartCfg {W : Span} {s0 : State} {x0 x1 x2 x3 x4} (w : Span.le ⟨0x0, 2048⟩ W) (hx4 : Kept W s0 x4) :
    Kept1 W s0 (cmdSpUartCfg x0 x1 x2 x3 x4) := by
  delta cmdSpUartCfg
  exact (kept_refuseIf hx4 (fun _ h1 => (kept_oks (by
      extract_lets v2 v4
      have h3 : Kept W s0 v2 := (kept_setUartFifo (w.sub rfl rfl) h1)
      exact (Kept.setPins h3 (w.part rfl))))))

theorem kept_execSpUartCfg {W : Span} {s0 : State} {x0 x1 x2 x3 x4} (w : Span.le ⟨0x0, 1312768⟩ W) (hx4 : Kept W s0
    x4) :
    KeptOut W s0 (execSpUartCfg x0 x1 x2 x3 x4) := by
  delta execSpUartCfg
  exact (KeptOut.of (kept_runCmd (w.sub rfl rfl) (fun _ h1 => (kept_cmdSpUartCfg (w.sub rfl rfl) h1)) hx4))

theorem kept_serialOut {W : Span} {s0 : State} {x0 x1 x2 x3} (w : Span.le ⟨0x0, 32768⟩ W) (hx0 : Kept W s0 x0) :
    Kept W s0 (State.serialOut x0 x1 x2 x3) := by
  delta State.serialOut
  exact (Kept.setOut hx0 (w.part rfl))

theorem kept_cmdSpUartSend {W : Span} {s0 : State} {x0 x1 x2 x3 x4} (w : Span.le ⟨0x0, 32768⟩ W) (hx4 : Kept W s0 x4)
    :
    Kept1 W s0 (cmdSpUartSend x0 x1 x2 x3 x4) := by
  delta cmdSpUartSend
  exact (kept_refuseIf hx4 (fun _ h1 => (kept_oks (kept_serialOut (w.sub rfl rfl) h1))))

theorem kept_execSpUartSend {W : Span} {s0 : State} {x0 x1 x2 x3 x4} (w : Span.le ⟨0x0, 1343488⟩ W) (hx4 : Kept W s0
    x4) :
    KeptOut W s0 (execSpUartSend x0 x1 x2 x3 x4) := by
  delta execSpUartSend
  exact (KeptOut.of (kept_runCmd (w.sub rfl rfl) (fun _ h1 => (kept_cmdSpUartSend (w.sub rfl rfl) h1)) hx4))

theorem kept_cmdSpUartRecv {W : Span} {s0 : State} {x0 x1 x2 x3} (w : Span.le ⟨0x0, 2048⟩ W) (hx3 : Kept W s0 x3) :
    Kept1 W s0 (cmdSpUartRecv x0 x1 x2 x3) := by
  delta cmdSpUartRecv
  exact (kept_refuseIf hx3 (fun _ h1 => (by extract_lets v2; exact (Kept1.of (kept_setUartFifo (w.sub rfl rfl) h1)))))

theorem kept_execSpUartRecv {W : Span} {s0 : State} {x0 x1 x2 x3} (w : Span.le ⟨0x0, 1312768⟩ W) (hx3 : Kept W s0 x3)
    :
    KeptOut W s0 (execSpUartRecv x0 x1 x2 x3) := by
  delta execSpUartRecv
  exact (KeptOut.of (kept_runCmd (w.sub rfl rfl) (fun _ h1 => (kept_cmdSpUartRecv (w.sub rfl rfl) h1)) hx3))

theorem kept_cmdSpI2cXfer {W : Span} {s0 : State} {x0 x1 x2 x3 x4 x5 x6 x7} (w : Span.le ⟨0x0, 32769⟩ W) (hx7 : Kept
    W s0 x7) :
    Kept1 W s0 (cmdSpI2cXfer x0 x1 x2 x3 x4 x5 x6 x7) := by
  delta cmdSpI2cXfer
  exact (kept_refuseIf hx7 (fun _ h1 => (by
      extract_lets v2 v3 v5 v7 v8
      have h4 : Kept2 W s0 v3 := (kept_takeNat (w.sub rfl rfl) h1)
      have h6 : Kept2 W s0 v5 := (kept_takeNat (w.sub rfl rfl) (Kept2.st h4))
      exact (ite_of (P := Kept1 W s0) (Kept1.of (kept_serialOut (w.sub rfl rfl) h1)) (ite_of (P := Kept1 W s0)
        (Kept1.of (kept_serialOut (w.sub rfl rfl) (Kept2.st h6))) (ite_of (P := Kept1 W s0) (Kept1.of (Kept2.st h6))
        (ite_of (P := Kept1 W s0) (Kept1.of (kept_serialOut (w.sub rfl rfl) (Kept2.st h6))) (Kept1.of (kept_serialOut
        (w.sub rfl rfl) (Kept2.st h6))))))))))

theorem kept_execSpI2cXfer {W : Span} {s0 : State} {x0 x1 x2 x3 x4 x5 x6 x7} (w : Span.le ⟨0x0, 1343489⟩ W) (hx7 :
    Kept W s0 x7) :
    KeptOut W s0 (execSpI2cXfer x0 x1 x2 x3 x4 x5 x6 x7) := by
  delta execSpI2cXfer
  exact (KeptOut.of (kept_runCmd (w.sub rfl rfl) (fun _ h1 => (kept_cmdSpI2cXfer (w.sub rfl rfl) h1)) hx7))

theorem kept_cmdSpSpiXfer {W : Span} {s0 : State} {x0 x1 x2 x3 x4 x5 x6} (w : Span.le ⟨0x0, 32769⟩ W) (hx6 : Kept W
    s0 x6) :
    Kept1 W s0 (cmdSpSpiXfer x0 x1 x2 x3 x4 x5 x6) := by
  delta cmdSpSpiXfer
  exact (kept_refuseIf hx6 (fun _ h1 => (by
      extract_lets v2
      have h3 : Kept W s0 v2 := (Kept2.st (kept_takeNat (w.sub rfl rfl) (kept_serialOut (w.sub rfl rfl) h1)))
      exact (ite_of (P := Kept1 W s0) (Kept1.of h3) (Kept1.of h3)))))

theorem kept_execSpSpiXfer {W : Span} {s0 : State} {x0 x1 x2 x3 x4 x5 x6} (w : Span.le ⟨0x0, 1343489⟩ W) (hx6 : Kept
    W s0 x6) :
    KeptOut W s0 (execSpSpiXfer x0 x1 x2 x3 x4 x5 x6) := by
  delta execSpSpiXfer
  exact (KeptOut.of (kept_runCmd (w.sub rfl rfl) (fun _ h1 => (kept_cmdSpSpiXfer (w.sub rfl rfl) h1)) hx6))

end Sys2Proof.Machine
end

