-- ==== Sys2Proof/Laws/KeptTime.lean ====
section
/-! SUPPORT. What the operations of Machine/Time.lean keep (see Laws/Kept.lean). -/

namespace Sys2Proof.Machine

theorem kept_addCounters {W : Span} {s0 : State} {x0 x1} (w : Span.le ⟨0x0, 512⟩ W) (hx0 : Kept W s0 x0) :
    Kept W s0 (State.addCounters x0 x1) := by
  delta State.addCounters
  exact (Kept.setTime hx0 (w.part rfl))

theorem kept_shiftRef {W : Span} {s0 : State} {x0 x1 x2} (w : Span.le ⟨0x0, 512⟩ W) (hx0 : Kept W s0 x0) :
    Kept W s0 (State.shiftRef x0 x1 x2) := by
  delta State.shiftRef
  exact (Kept.setTime hx0 (w.part rfl))

theorem kept_addRef {W : Span} {s0 : State} {x0 x1 x2} (w : Span.le ⟨0x0, 512⟩ W) (hx0 : Kept W s0 x0) :
    Kept W s0 (State.addRef x0 x1 x2) := by
  delta State.addRef
  exact (kept_shiftRef (w.sub rfl rfl) hx0)

theorem kept_setRate {W : Span} {s0 : State} {x0 x1 x2} (w : Span.le ⟨0x0, 512⟩ W) (hx0 : Kept W s0 x0) :
    Kept W s0 (State.setRate x0 x1 x2) := by
  delta State.setRate
  exact (Kept.setTime hx0 (w.part rfl))

theorem kept_setSoft {W : Span} {s0 : State} {x0 x1 x2} (w : Span.le
    ⟨0x40000000000000000000000000000000000000000000000000000000000000000000000000000000000000000000000000000000,
    524288⟩ W) (hx0 : Kept W s0 x0) :
    Kept W s0 (State.setSoft x0 x1 x2) := by
  delta State.setSoft
  exact (kept_rescan (w.sub rfl rfl) (kept_setReg (w.fld rfl) hx0))

theorem kept_launchAct {W : Span} {s0 : State} {x0 x1} (w : Span.le
    ⟨0x182000000000000000000000000000040000000000000000000000000000000000000000000000000000000000000000000000000000000000000000000000000000000, 559104⟩ W) (hx0 : Kept W s0 x0) :
    Kept W s0 (State.launchAct x0 x1) := by
  delta State.launchAct
  extract_lets v1 v2 v3
  exact (kept_ite (kept_setReg64 (w.fld rfl) (w.fld rfl) (kept_trigPulse (w.sub rfl rfl) hx0)) (kept_ite (kept_ite
    (kept_setReg (w.fld rfl) hx0) (kept_setReg64 (w.fld rfl) (w.fld rfl) (kept_setSoft (w.sub rfl rfl) hx0))) hx0))

theorem kept_launchEnd {W : Span} {s0 : State} {x0 x1} (w : Span.le
    ⟨0x80000000000000000000000000000880008000000000000000000000000000000000000000000000000000000000000000000000000000000000000000000000000, 524288⟩ W) (hx0 : Kept W s0 x0) :
    Kept W s0 (State.launchEnd x0 x1) := by
  delta State.launchEnd
  exact (by extract_lets v1; exact (kept_ite (kept_mEvent (w.sub rfl rfl) (kept_setReg (w.fld rfl) hx0)) hx0))

theorem kept_launchOne {W : Span} {s0 : State} {x0 x1} (w : Span.le
    ⟨0x1c2080000000000000000000000000040880008000000000000000000000000000000000000000000000000000000000000000000000000000000000000000000000000, 559104⟩ W) (hx0 : Kept W s0 x0) :
    Kept W s0 (State.launchOne x0 x1) := by
  delta State.launchOne
  exact (kept_ite (kept_launchEnd (w.sub rfl rfl) (kept_bump (w.fld rfl) (kept_launchAct (w.sub rfl rfl) hx0))) hx0)

theorem kept_launchLate {W : Span} {s0 : State} {x0 x1} (w : Span.le
    ⟨0x1c2880000000000000000000000000040880008000000000000000000000000000000000000000000000000000000000000000000000000000000000000000000000000, 559104⟩ W) (hx0 : Kept W s0 x0) :
    Kept W s0 (State.launchLate x0 x1) := by
  delta State.launchLate
  refine kept_ite ?_ ?_
  · extract_lets v1 v2 v3 v4
    exact (kept_launchEnd (w.sub rfl rfl) (kept_setReg (w.fld rfl) (kept_setReg (w.fld rfl) (kept_launchAct (w.sub
      rfl rfl) hx0))))
  · exact hx0

theorem kept_execLaunch {W : Span} {s0 : State} {x0 x1} (w : Span.le
    ⟨0x1c2080000000000000000000000000040880008000000000000000000000000000000000000000000000000000000000000000000000000000000000000000000000000, 559104⟩ W) (hx1 : Kept W s0 x1) :
    KeptOut W s0 (execLaunch x0 x1) := by
  delta execLaunch
  exact (KeptOut.of (kept_launchOne (w.sub rfl rfl) hx1))

theorem kept_launchArm {W : Span} {s0 : State} {x0 x1 x2} (w : Span.le
    ⟨0x1c6880000000000000000000000000040880008000000000000000000000000000000000000000000000000000000000000000000000000000000000000000000000000, 1607680⟩ W) (hx0 : Kept W s0 x0) :
    Kept W s0 (State.launchArm x0 x1 x2) := by
  delta State.launchArm
  extract_lets v1 v2
  exact (kept_ite (kept_auditRefuse (w.sub rfl rfl) hx0) (kept_ite (kept_setReg (w.fld rfl) hx0) (kept_launchLate
    (w.sub rfl rfl) (kept_setReg (w.fld rfl) (kept_setReg (w.fld rfl) hx0)))))

theorem kept_execLaunchArm {W : Span} {s0 : State} {x0 x1 x2} (w : Span.le
    ⟨0x1c6880000000000000000000000000040880008000000000000000000000000000000000000000000000000000000000000000000000000000000000000000000000000, 1607680⟩ W) (hx2 : Kept W s0 x2) :
    KeptOut W s0 (execLaunchArm x0 x1 x2) := by
  delta execLaunchArm
  exact (KeptOut.of (kept_ite hx2 (kept_launchArm (w.sub rfl rfl) hx2)))

theorem kept_launchDisarm {W : Span} {s0 : State} {x0 x1 x2} (w : Span.le
    ⟨0x80000000000000000000000000000000000000000000000000000000000000000000000000000000000000000000000000000000000000000000000000000000000, 1048576⟩ W) (hx0 : Kept W s0 x0) :
    Kept W s0 (State.launchDisarm x0 x1 x2) := by
  delta State.launchDisarm
  exact (kept_ite (kept_setReg (w.fld rfl) hx0) (kept_auditRefuse (w.sub rfl rfl) hx0))

theorem kept_execLaunchDisarm {W : Span} {s0 : State} {x0 x1 x2} (w : Span.le
    ⟨0x80000000000000000000000000000000000000000000000000000000000000000000000000000000000000000000000000000000000000000000000000000000000, 1048576⟩ W) (hx2 : Kept W s0 x2) :
    KeptOut W s0 (execLaunchDisarm x0 x1 x2) := by
  delta execLaunchDisarm
  exact (KeptOut.of (kept_ite hx2 (kept_launchDisarm (w.sub rfl rfl) hx2)))

theorem kept_stepCounters {W : Span} {s0 : State} {x0 x1} (w : Span.le
    ⟨0x1c2880000000000000000000000000040880008000000000000000000000000000000000000000000000000000000000000000000000000000000000000000000000000, 559616⟩ W) (hx0 : Kept W s0 x0) :
    Kept W s0 (State.stepCounters x0 x1) := by
  delta State.stepCounters
  extract_lets v1 v3 v4
  have h2 : Kept W s0 v1 := (kept_addCounters (w.sub rfl rfl) hx0)
  have h5 : Kept W s0 v4 := (kept_mEvent (w.sub rfl rfl) (Kept.setTime h2 (w.part rfl)))
  exact (kept_ite (kept_foldl (fun _ _ h6 => (kept_launchLate (w.sub rfl rfl) h6)) h5) h5)

theorem kept_bootStep {W : Span} {s0 : State} {x0} (w : Span.le
    ⟨0x1c2880000000400000000000000000040880008000000000000000000000000000000000000000000000000000000000000000000000000000000000000000000000000, 1608192⟩ W) (hx0 : Kept W s0 x0) :
    Kept W s0 (State.bootStep x0) := by
  delta State.bootStep
  extract_lets v1 v2 v3
  have h4 : Kept W s0 v3 := (kept_setReg (w.fld rfl) (kept_stepCounters (w.sub rfl rfl) (Kept.setTime hx0 (w.part
    rfl))))
  exact (kept_ite (Kept.setTime hx0 (w.part rfl)) (kept_auditAction (w.sub rfl rfl) h4))

theorem kept_tick {W : Span} {s0 : State} {x0} (w : Span.le
    ⟨0x1c2880000000400000000000000000040880008000000000000000000000000000000000000000000000000000000000000000000000000000000000000000000000000, 1608192⟩ W) (hx0 : Kept W s0 x0) :
    Kept W s0 (State.tick x0) := by
  delta State.tick
  refine kept_ite ?_ ?_
  · exact hx0
  · extract_lets v1 v2 v3
    have h5 : Kept W s0 v3 := (Kept.many hx0 (fun i4 => (hx0).regsOk i4) (.inr rfl) (fun i4 => ((hx0).fabOk i4)) (fun
      i4 => ((hx0).dramOk i4)) (fun i4 => ((hx0).hostOk i4)) rfl (.inr rfl) (.inr rfl) (.inr rfl) (.inr rfl) (.inr
      rfl) (.inr rfl) (.inr rfl) (.inr rfl) (.inr rfl) (.inl (w.part rfl)) (.inr rfl) (.inl (w.part rfl)) (.inr rfl)
      (.inr rfl) (.inr rfl) (.inr rfl) (.inr rfl) (.inr rfl) (.inr (HostIf.sameCommands.refl _)) (.inr
      (HostIf.sameQueues.refl _)) (.inr (HostIf.sameLog.refl _)) (.inr (HostIf.sameKeys.refl _)))
    exact (kept_ite (kept_bootStep (w.sub rfl rfl) h5) h5)

theorem kept_execTimeTick {W : Span} {s0 : State} {x0} (w : Span.le
    ⟨0x1c2880000000400000000000000000040880008000000000000000000000000000000000000000000000000000000000000000000000000000000000000000000000000, 1608192⟩ W) (hx0 : Kept W s0 x0) :
    KeptOut W s0 (execTimeTick x0) := by
  delta execTimeTick
  exact (KeptOut.of (kept_tick (w.sub rfl rfl) hx0))

theorem kept_cmdTimeStep {W : Span} {s0 : State} {x0 x1 x2 x3} (w : Span.le
    ⟨0x1c2880000000000000000000000000040880008000000000000000000000000000000000000000000000000000000000000000000000000000000000000000000000000, 559616⟩ W) (hx3 : Kept W s0 x3) :
    Kept1 W s0 (cmdTimeStep x0 x1 x2 x3) := by
  delta cmdTimeStep
  extract_lets v1
  exact (kept_refuseIf hx3 (fun _ h2 => (by
      extract_lets v3 v5
      have h4 : Kept W s0 v3 := (kept_shiftRef (w.sub rfl rfl) h2)
      have h6 : Kept W s0 v5 := (kept_ite (kept_shiftRef (w.sub rfl rfl) h4) h4)
      exact (kept_oks (kept_stepCounters (w.sub rfl rfl) h6)))))

theorem kept_execTimeStep {W : Span} {s0 : State} {x0 x1 x2 x3} (w : Span.le
    ⟨0x1c2880000000000000000000000000040880008000000000000000000000000000000000000000000000000000000000000000000000000000000000000000000000000, 1870336⟩ W) (hx3 : Kept W s0 x3) :
    KeptOut W s0 (execTimeStep x0 x1 x2 x3) := by
  delta execTimeStep
  exact (KeptOut.of (kept_runCmd (w.sub rfl rfl) (fun _ h1 => (kept_cmdTimeStep (w.sub rfl rfl) h1)) hx3))

theorem kept_wrIncr {W : Span} {s0 : State} {x0 x1 x2} (w : Span.le
    ⟨0x2000000000000000000000000000000000000000000000000000000000000000000000000000000000000000000000000000000000000000000000000, 1049088⟩ W) (hx0 : Kept W s0 x0) :
    Kept W s0 (State.wrIncr x0 x1 x2) := by
  delta State.wrIncr
  refine kept_ite ?_ ?_
  · exact (kept_auditRefuse (w.sub rfl rfl) hx0)
  · refine kept_ite ?_ ?_
    · exact (kept_auditRefuse (w.sub rfl rfl) hx0)
    · extract_lets v1 v3 v4
      have h2 : Kept W s0 v1 := (kept_setReg (w.fld rfl) hx0)
      have h5 : Kept W s0 v4 := (Kept.setTime h2 (w.part rfl))
      exact (kept_auditDiff (w.sub rfl rfl) h5)

theorem kept_execTimeIncrWrite {W : Span} {s0 : State} {x0 x1 x2} (w : Span.le
    ⟨0x2000000000000000000000000000000000000000000000000000000000000000000000000000000000000000000000000000000000000000000000000, 1049088⟩ W) (hx2 : Kept W s0 x2) :
    KeptOut W s0 (execTimeIncrWrite x0 x1 x2) := by
  delta execTimeIncrWrite
  exact (KeptOut.of (kept_ite hx2 (kept_wrIncr (w.sub rfl rfl) hx2)))

theorem kept_wrRate {W : Span} {s0 : State} {x0 x1 x2 x3} (w : Span.le
    ⟨0x1800000000000000000000000000000000000000000000000000000000000000000000000000000000000000000000000000000000000000000000000000000000, 1049088⟩ W) (hx0 : Kept W s0 x0) :
    Kept W s0 (State.wrRate x0 x1 x2 x3) := by
  delta State.wrRate
  refine kept_ite ?_ ?_
  · exact (kept_auditRefuse (w.sub rfl rfl) hx0)
  · extract_lets v1
    have h2 : Kept W s0 v1 := (kept_setRate (w.sub rfl rfl) hx0)
    exact (kept_auditDiff (w.sub rfl rfl) (kept_setReg64 (w.fld rfl) (w.fld rfl) h2))

theorem kept_execRefRateWrite {W : Span} {s0 : State} {x0 x1 x2 x3} (w : Span.le
    ⟨0x1800000000000000000000000000000000000000000000000000000000000000000000000000000000000000000000000000000000000000000000000000000000, 1049088⟩ W) (hx3 : Kept W s0 x3) :
    KeptOut W s0 (execRefRateWrite x0 x1 x2 x3) := by
  delta execRefRateWrite
  exact (KeptOut.of (kept_ite hx3 (kept_wrRate (w.sub rfl rfl) hx3)))

theorem kept_wrAdj {W : Span} {s0 : State} {x0 x1 x2 x3} (w : Span.le ⟨0x0, 1049088⟩ W) (hx0 : Kept W s0 x0) :
    Kept W s0 (State.wrAdj x0 x1 x2 x3) := by
  delta State.wrAdj
  exact (kept_ite (kept_auditRefuse (w.sub rfl rfl) hx0) (kept_ite hx0 (kept_addRef (w.sub rfl rfl) hx0)))

theorem kept_execRefAdj {W : Span} {s0 : State} {x0 x1 x2 x3} (w : Span.le ⟨0x0, 1049088⟩ W) (hx3 : Kept W s0 x3) :
    KeptOut W s0 (execRefAdj x0 x1 x2 x3) := by
  delta execRefAdj
  exact (KeptOut.of (kept_ite hx3 (kept_wrAdj (w.sub rfl rfl) hx3)))

theorem kept_servoTo {W : Span} {s0 : State} {x0 x1} (w : Span.le
    ⟨0x800000000000000000000880008000000000000000000000000000000000000000000000000000000000000000000000000000000000000000000000000, 524800⟩ W) (hx0 : Kept W s0 x0) :
    Kept W s0 (State.servoTo x0 x1) := by
  delta State.servoTo
  refine kept_ite ?_ ?_
  · exact hx0
  · extract_lets v1 v3
    have h2 : Kept W s0 v1 := (kept_mEvent (w.sub rfl rfl) (kept_setReg (w.fld rfl) hx0))
    exact (Kept.setTime h2 (w.part rfl))

theorem kept_ptpForget {W : Span} {s0 : State} {x0} (w : Span.le ⟨0x0, 512⟩ W) (hx0 : Kept W s0 x0) :
    Kept W s0 (State.ptpForget x0) := by
  delta State.ptpForget
  exact (Kept.setTime hx0 (w.part rfl))

theorem kept_servoSource {W : Span} {s0 : State} {x0} (w : Span.le
    ⟨0x800000000000000000000880008000000000000000000000000000000000000000000000000000000000000000000000000000000000000000000000000, 524800⟩ W) (hx0 : Kept W s0 x0) :
    Kept W s0 (State.servoSource x0) := by
  delta State.servoSource
  extract_lets v1
  have h2 : Kept W s0 v1 := (kept_ite hx0 (kept_ptpForget (w.sub rfl rfl) hx0))
  exact (kept_ite (kept_servoTo (w.sub rfl rfl) h2) (kept_ite (kept_servoTo (w.sub rfl rfl) h2) h2))

theorem kept_servoCorrect {W : Span} {s0 : State} {x0} (w : Span.le ⟨0x0, 513⟩ W) (hx0 : Kept W s0 x0) :
    Kept W s0 (State.servoCorrect x0) := by
  delta State.servoCorrect
  extract_lets v1 v3
  have h2 : Kept2 W s0 v1 := (kept_takeNat (w.sub rfl rfl) hx0)
  have h4 : Kept2 W s0 v3 := (kept_takeNat (w.sub rfl rfl) (Kept2.st h2))
  exact (kept_setRate (w.sub rfl rfl) (kept_addRef (w.sub rfl rfl) (Kept2.st h4)))

theorem kept_servoBack {W : Span} {s0 : State} {x0} (w : Span.le
    ⟨0x800000000000000000000880008000000000000000000000000000000000000000000000000000000000000000000000000000000000000000000000000, 524800⟩ W) (hx0 : Kept W s0 x0) :
    Kept W s0 (State.servoBack x0) := by
  delta State.servoBack
  exact (kept_ite (kept_servoTo (w.sub rfl rfl) hx0) hx0)

theorem kept_servoUpdate {W : Span} {s0 : State} {x0 x1} (w : Span.le
    ⟨0x1c2880000001c00000000000000000040880008000000000000000000000000000000000000000000000000000000000000000000000000000000000000000000000000, 1608193⟩ W) (hx0 : Kept W s0 x0) :
    Kept W s0 (State.servoUpdate x0 x1) := by
  delta State.servoUpdate
  extract_lets v1 v3 v4 v6 v7 v9 v10
  have h2 : Kept W s0 v1 := (kept_servoBack (w.sub rfl rfl) hx0)
  have h5 : Kept W s0 v4 := (kept_setReg (w.fld rfl) h2)
  have h8 : Kept W s0 v7 := (kept_servoTo (w.sub rfl rfl) h5)
  have h11 : Kept W s0 v10 := (kept_ite (kept_ite (kept_ite (kept_ite h8 (kept_bootStep (w.sub rfl rfl) h8))
    (Kept.setTime h5 (w.part rfl))) (Kept.setTime h5 (w.part rfl))) (kept_ite (kept_servoTo (w.sub rfl rfl) h5) h5))
  exact (kept_ite h2 (kept_ite (kept_servoCorrect (w.sub rfl rfl) h11) h11))

theorem kept_servoLoss {W : Span} {s0 : State} {x0} (w : Span.le
    ⟨0x800000000000000000000880008000000000000000000000000000000000000000000000000000000000000000000000000000000000000000000000000, 524800⟩ W) (hx0 : Kept W s0 x0) :
    Kept W s0 (State.servoLoss x0) := by
  delta State.servoLoss
  exact (by extract_lets v1; exact (kept_ite (kept_mError (w.sub rfl rfl) (kept_servoTo (w.sub rfl rfl) hx0)) hx0))

theorem kept_ptpSync {W : Span} {s0 : State} {x0 x1 x2 x3} (w : Span.le
    ⟨0x1c2880000001c00000000000000000040880008000000000000000000000000000000000000000000000000000000000000000000000000000000000000000000000000, 1608193⟩ W) (hx0 : Kept W s0 x0) :
    Kept W s0 (State.ptpSync x0 x1 x2 x3) := by
  delta State.ptpSync
  extract_lets v1 v2 v3 v5
  have h4 : Kept W s0 v3 := (Kept.setTime hx0 (w.part rfl))
  exact (kept_ite (kept_servoBack (w.sub rfl rfl) h4) (kept_servoUpdate (w.sub rfl rfl) h4))

theorem kept_ptpSelect {W : Span} {s0 : State} {x0} (w : Span.le
    ⟨0x700000000000000000000000000000000000000000000000000000000000000000000000000000000000000000000000000000000000000000000000000000, 512⟩ W) (hx0 : Kept W s0 x0) :
    Kept W s0 (State.ptpSelect x0) := by
  delta State.ptpSelect
  split
  · exact (Kept.setTime hx0 (w.part rfl))
  · extract_lets v1 v2 v3 v5
    have h4 : Kept W s0 v3 := (kept_ite hx0 (Kept.setTime hx0 (w.part rfl)))
    have h6 : Kept W s0 v5 := (kept_setReg64 (w.fld rfl) (w.fld rfl) h4)
    exact (kept_ite h6 (kept_setReg (w.fld rfl) h6))

theorem kept_ptpAnnounce {W : Span} {s0 : State} {x0 x1} (w : Span.le
    ⟨0x700000000000000000000000000000000000000000000000000000000000000000000000000000000000000000000000000000000000000000000000000000, 512⟩ W) (hx0 : Kept W s0 x0) :
    Kept W s0 (State.ptpAnnounce x0 x1) := by
  delta State.ptpAnnounce
  exact (by extract_lets v1 v2 v3; exact (kept_ptpSelect (w.sub rfl rfl) (Kept.setTime hx0 (w.part rfl))))

theorem kept_ptp {W : Span} {s0 : State} {x0 x1} (w : Span.le
    ⟨0x1c2880000781c00000000000000000040880008000000000000000000000000000000000000000000000000000000000000000000000000000000000000000000000000, 1608193⟩ W) (hx0 : Kept W s0 x0) :
    Kept W s0 (State.ptp x0 x1) := by
  delta State.ptp
  refine kept_ite ?_ ?_
  · exact hx0
  · extract_lets v1 v2 v3
    split
    · exact (kept_ptpAnnounce (w.sub rfl rfl) hx0)
    · exact (kept_ite hx0 (kept_ite (Kept.setTime hx0 (w.part rfl)) (kept_ptpSync (w.sub rfl rfl) hx0)))
    · exact (by split; exacts [(kept_ite (kept_ptpSync (w.sub rfl rfl) (Kept.setTime hx0 (w.part rfl))) hx0), hx0])
    · split
      · refine kept_ite ?_ ?_
        · extract_lets v4 v5 v6
          have h7 : Kept W s0 v6 := (Kept.setTime hx0 (w.part rfl))
          exact (kept_setReg (w.fld rfl) h7)
        · exact hx0
      · exact hx0

theorem kept_execPtpMessage {W : Span} {s0 : State} {x0 x1} (w : Span.le
    ⟨0x1c2880000781c00000000000000000040880008000000000000000000000000000000000000000000000000000000000000000000000000000000000000000000000000, 1608193⟩ W) (hx1 : Kept W s0 x1) :
    KeptOut W s0 (execPtpMessage x0 x1) := by
  delta execPtpMessage
  exact (KeptOut.of (kept_ite hx1 (kept_ptp (w.sub rfl rfl) hx1)))

theorem kept_delayReqOut {W : Span} {s0 : State} {x0} (w : Span.le ⟨0x0, 33280⟩ W) (hx0 : Kept W s0 x0) :
    Kept W s0 (State.delayReqOut x0) := by
  delta State.delayReqOut
  refine kept_ite ?_ ?_
  · exact hx0
  · extract_lets v1 v2 v3
    exact (Kept.many hx0 (fun i4 => (hx0).regsOk i4) (.inr rfl) (fun i4 => ((hx0).fabOk i4)) (fun i4 => ((hx0).dramOk
      i4)) (fun i4 => ((hx0).hostOk i4)) rfl (.inr rfl) (.inr rfl) (.inr rfl) (.inr rfl) (.inr rfl) (.inr rfl) (.inr
      rfl) (.inr rfl) (.inr rfl) (.inl (w.part rfl)) (.inr rfl) (.inr rfl) (.inr rfl) (.inr rfl) (.inr rfl) (.inl
      (w.part rfl)) (.inr rfl) (.inr rfl) (.inr (HostIf.sameCommands.refl _)) (.inr (HostIf.sameQueues.refl _)) (.inr
      (HostIf.sameLog.refl _)) (.inr (HostIf.sameKeys.refl _)))

theorem kept_execDelayReqSend {W : Span} {s0 : State} {x0} (w : Span.le ⟨0x0, 33280⟩ W) (hx0 : Kept W s0 x0) :
    KeptOut W s0 (execDelayReqSend x0) := by
  delta execDelayReqSend
  exact (KeptOut.of (kept_ite hx0 (kept_delayReqOut (w.sub rfl rfl) hx0)))

theorem kept_ptpLoss {W : Span} {s0 : State} {x0} (w : Span.le
    ⟨0x700800000000000000000000880008000000000000000000000000000000000000000000000000000000000000000000000000000000000000000000000000, 524800⟩ W) (hx0 : Kept W s0 x0) :
    Kept W s0 (State.ptpLoss x0) := by
  delta State.ptpLoss
  refine kept_ite ?_ ?_
  · extract_lets v1 v2
    exact (kept_servoLoss (w.sub rfl rfl) (kept_ptpSelect (w.sub rfl rfl) (Kept.setTime hx0 (w.part rfl))))
  · exact hx0

theorem kept_execPtpSourceLoss {W : Span} {s0 : State} {x0} (w : Span.le
    ⟨0x700800000000000000000000880008000000000000000000000000000000000000000000000000000000000000000000000000000000000000000000000000, 524800⟩ W) (hx0 : Kept W s0 x0) :
    KeptOut W s0 (execPtpSourceLoss x0) := by
  delta execPtpSourceLoss
  exact (KeptOut.of (kept_ptpLoss (w.sub rfl rfl) hx0))

theorem kept_ppsIn {W : Span} {s0 : State} {x0} (w : Span.le
    ⟨0x1c2880000001c00000000000000000040880008000000000000000000000000000000000000000000000000000000000000000000000000000000000000000000000000, 1608193⟩ W) (hx0 : Kept W s0 x0) :
    Kept W s0 (State.ppsIn x0) := by
  delta State.ppsIn
  refine kept_ite ?_ ?_
  · exact hx0
  · extract_lets v1 v2 v3 v4 v6
    have h5 : Kept W s0 v4 := (Kept.setTime hx0 (w.part rfl))
    exact (kept_ite hx0 (kept_ite (kept_servoUpdate (w.sub rfl rfl) h5) h5))

theorem kept_execPpsEdge {W : Span} {s0 : State} {x0} (w : Span.le
    ⟨0x1c2880000001c00000000000000000040880008000000000000000000000000000000000000000000000000000000000000000000000000000000000000000000000000, 1608193⟩ W) (hx0 : Kept W s0 x0) :
    KeptOut W s0 (execPpsEdge x0) := by
  delta execPpsEdge
  exact (KeptOut.of (kept_ppsIn (w.sub rfl rfl) hx0))

theorem kept_ppsLost {W : Span} {s0 : State} {x0} (w : Span.le
    ⟨0x900000000000000000000880008000000000000000000000000000000000000000000000000000000000000000000000000000000000000000000000000, 524800⟩ W) (hx0 : Kept W s0 x0) :
    Kept W s0 (State.ppsLost x0) := by
  delta State.ppsLost
  extract_lets v1 v2 v3
  have h4 : Kept W s0 v3 := (kept_setReg (w.fld rfl) (Kept.setTime hx0 (w.part rfl)))
  exact (kept_ite (kept_ite (kept_servoLoss (w.sub rfl rfl) h4) h4) hx0)

theorem kept_execPpsLoss {W : Span} {s0 : State} {x0} (w : Span.le
    ⟨0x900000000000000000000880008000000000000000000000000000000000000000000000000000000000000000000000000000000000000000000000000, 524800⟩ W) (hx0 : Kept W s0 x0) :
    KeptOut W s0 (execPpsLoss x0) := by
  delta execPpsLoss
  exact (KeptOut.of (kept_ite hx0 (kept_ppsLost (w.sub rfl rfl) hx0)))

theorem kept_ppsRise {W : Span} {s0 : State} {x0} (w : Span.le ⟨0x0, 33280⟩ W) (hx0 : Kept W s0 x0) :
    Kept W s0 (State.ppsRise x0) := by
  delta State.ppsRise
  extract_lets v1 v2
  exact (kept_ite (Kept.many hx0 (fun i3 => (hx0).regsOk i3) (.inr rfl) (fun i3 => ((hx0).fabOk i3)) (fun i3 =>
    ((hx0).dramOk i3)) (fun i3 => ((hx0).hostOk i3)) rfl (.inr rfl) (.inr rfl) (.inr rfl) (.inr rfl) (.inr rfl) (.inr
    rfl) (.inr rfl) (.inr rfl) (.inr rfl) (.inl (w.part rfl)) (.inr rfl) (.inr rfl) (.inr rfl) (.inr rfl) (.inr rfl)
    (.inl (w.part rfl)) (.inr rfl) (.inr rfl) (.inr (HostIf.sameCommands.refl _)) (.inr (HostIf.sameQueues.refl _))
    (.inr (HostIf.sameLog.refl _)) (.inr (HostIf.sameKeys.refl _))) hx0)

theorem kept_execPpsOut {W : Span} {s0 : State} {x0} (w : Span.le ⟨0x0, 33280⟩ W) (hx0 : Kept W s0 x0) :
    KeptOut W s0 (execPpsOut x0) := by
  delta execPpsOut
  exact (KeptOut.of (kept_ppsRise (w.sub rfl rfl) hx0))

theorem kept_freqLoss {W : Span} {s0 : State} {x0} (w : Span.le
    ⟨0x200000000000000000000880008000000000000000000000000000000000000000000000000000000000000000000000000000000000000000000000000, 524800⟩ W) (hx0 : Kept W s0 x0) :
    Kept W s0 (State.freqLoss x0) := by
  delta State.freqLoss
  refine kept_ite ?_ ?_
  · extract_lets v1 v2
    have h3 : Kept W s0 v2 := (Kept.setTime hx0 (w.part rfl))
    exact (kept_mError (w.sub rfl rfl) (kept_setReg (w.fld rfl) h3))
  · exact hx0

theorem kept_execFreqSourceLoss {W : Span} {s0 : State} {x0} (w : Span.le
    ⟨0x200000000000000000000880008000000000000000000000000000000000000000000000000000000000000000000000000000000000000000000000000, 524800⟩ W) (hx0 : Kept W s0 x0) :
    KeptOut W s0 (execFreqSourceLoss x0) := by
  delta execFreqSourceLoss
  exact (KeptOut.of (kept_freqLoss (w.sub rfl rfl) hx0))

theorem kept_execPllRelock {W : Span} {s0 : State} {x0} (w : Span.le ⟨0x0, 512⟩ W) (hx0 : Kept W s0 x0) :
    KeptOut W s0 (execPllRelock x0) := by
  delta execPllRelock
  exact (KeptOut.of (Kept.setTime hx0 (w.part rfl)))

theorem kept_counterFault {W : Span} {s0 : State} {x0} (w : Span.le
    ⟨0x800000000000000000008800080000000000000000000000000000000000000000000000000000000000001f0300800000000000000000000000000000, 1597456⟩ W) (hx0 : Kept W s0 x0) :
    Kept W s0 (State.counterFault x0) := by
  delta State.counterFault
  exact (kept_moduleFault (w.sub rfl rfl) (kept_mError (w.sub rfl rfl) (kept_setReg (w.fld rfl) hx0)))

theorem kept_execCounterMismatch {W : Span} {s0 : State} {x0} (w : Span.le
    ⟨0x800000000000000000008800080000000000000000000000000000000000000000000000000000000000001f0300800000000000000000000000000000, 1597456⟩ W) (hx0 : Kept W s0 x0) :
    KeptOut W s0 (execCounterMismatch x0) := by
  delta execCounterMismatch
  exact (KeptOut.of (kept_ite hx0 (kept_counterFault (w.sub rfl rfl) hx0)))

theorem kept_capArm {W : Span} {s0 : State} {x0 x1 x2} (w : Span.le
    ⟨0x140000000000000000000000000000000000000000000000000000000000000000000000000000000000000000000000000000000000000000000000000000000, 1049088⟩ W) (hx0 : Kept W s0 x0) :
    Kept W s0 (State.capArm x0 x1 x2) := by
  delta State.capArm
  refine kept_ite ?_ ?_
  · exact (kept_auditRefuse (w.sub rfl rfl) hx0)
  · extract_lets v1 v3
    have h2 : Kept W s0 v1 := (kept_setReg (w.fld rfl) (kept_setReg (w.fld rfl) hx0))
    exact (kept_auditDiff (w.sub rfl rfl) (Kept.setTime h2 (w.part rfl)))

theorem kept_execTimeCapArm {W : Span} {s0 : State} {x0 x1 x2} (w : Span.le
    ⟨0x140000000000000000000000000000000000000000000000000000000000000000000000000000000000000000000000000000000000000000000000000000000, 1049088⟩ W) (hx2 : Kept W s0 x2) :
    KeptOut W s0 (execTimeCapArm x0 x1 x2) := by
  delta execTimeCapArm
  exact (KeptOut.of (kept_ite hx2 (kept_capArm (w.sub rfl rfl) hx2)))

theorem kept_capEvent {W : Span} {s0 : State} {x0 x1 x2} (w : Span.le
    ⟨0x640000000000000000000000000000000000000000000000000000000000000000000000000000000000000000000000000000000000000000000000000000000, 512⟩ W) (hx0 : Kept W s0 x0) :
    Kept W s0 (State.capEvent x0 x1 x2) := by
  delta State.capEvent
  refine kept_ite ?_ ?_
  · extract_lets v1 v3
    have h2 : Kept W s0 v1 := (kept_setReg64 (w.fld rfl) (w.fld rfl) (kept_setReg (w.fld rfl) hx0))
    exact (Kept.setTime h2 (w.part rfl))
  · exact hx0

end Sys2Proof.Machine
end

