-- ==== Sys2Proof/Laws/KeptClocks.lean ====
section
/-! SUPPORT. What the operations of Machine/Clocks.lean keep (see Laws/Kept.lean). -/

namespace Sys2Proof.Machine

theorem kept_clkPreset {W : Span} {s0 : State} {x0 x1} (w : Span.le ⟨0x0, 16⟩ W) (hx0 : Kept W s0 x0) :
    Kept W s0 (State.clkPreset x0 x1) := by
  delta State.clkPreset
  exact (by extract_lets v1 v2 v3 v4 v5 v6; exact (kept_modPart (w.sub rfl rfl) hx0))

theorem kept_clkAdvance {W : Span} {s0 : State} {x0 x1} (w : Span.le ⟨0x0, 16⟩ W) (hx0 : Kept W s0 x0) :
    Kept W s0 (State.clkAdvance x0 x1) := by
  delta State.clkAdvance
  exact (by extract_lets v1 v2 v3; exact (kept_modPart (w.sub rfl rfl) hx0))

end Sys2Proof.Machine
end

