-- ==== Sys2Proof/Laws/KeptCompare.lean ====
section
/-! SUPPORT. What the operations of Machine/Compare.lean keep (see Laws/Kept.lean). -/

namespace Sys2Proof.Machine

theorem kept_modStream {W : Span} {s0 : State} {x0 x1 x2} (w : Span.le ⟨0x0, 1024⟩ W) (hx0 : Kept W s0 x0) :
    Kept W s0 (State.modStream x0 x1 x2) := by
  delta State.modStream
  exact (Kept.setWl hx0 (w.part rfl))

theorem kept_setFifo {W : Span} {s0 : State} {x0 x1 x2 x3} (w : Span.le ⟨0x0, 16⟩ W) (hx0 : Kept W s0 x0) :
    Kept W s0 (State.setFifo x0 x1 x2 x3) := by
  delta State.setFifo
  exact (kept_modPart (w.sub rfl rfl) hx0)

theorem kept_fifoFrom {W : Span} {s0 : State} {x0 x1 x2 x3} (w : Span.le ⟨0x0, 1040⟩ W) (hx0 : Kept W s0 x0) :
    Kept W s0 (State.fifoFrom x0 x1 x2 x3) := by
  delta State.fifoFrom
  extract_lets v1 v2
  have h3 : Kept W s0 v2 := (by unfold v2; split; exacts [(kept_modStream (w.sub rfl rfl) hx0), hx0])
  exact (kept_ite hx0 (kept_setFifo (w.sub rfl rfl) h3))

theorem kept_fifosFree {W : Span} {s0 : State} {x0 x1} (w : Span.le ⟨0x0, 1040⟩ W) (hx0 : Kept W s0 x0) :
    Kept W s0 (State.fifosFree x0 x1) := by
  delta State.fifosFree
  exact (kept_fifoFrom (w.sub rfl rfl) (kept_fifoFrom (w.sub rfl rfl) hx0))

theorem kept_startCheck {W : Span} {s0 : State} {x0 x1 x2 x3} (w : Span.le ⟨0x1f0300800000000000000000000000000000,
    16400⟩ W) (hx0 : Kept W s0 x0) :
    Kept W s0 (State.startCheck x0 x1 x2 x3) := by
  delta State.startCheck
  exact (kept_ite (kept_assertCause (w.sub rfl rfl) (kept_modPart (w.sub rfl rfl) hx0)) hx0)

theorem kept_arrived {W : Span} {s0 : State} {x0 x1} (w : Span.le ⟨0xf0200000000000000000000000000000000, 16⟩ W) (hx0
    : Kept W s0 x0) :
    Kept W s0 (State.arrived x0 x1) := by
  delta State.arrived
  exact (kept_ite (kept_releaseCause (w.sub rfl rfl) hx0) hx0)

theorem kept_dueNow {W : Span} {s0 : State} {x0 x1} (w : Span.le ⟨0xf0200000000000000000000000000000000, 16⟩ W) (hx0
    : Kept W s0 x0) :
    Kept W s0 (State.dueNow x0 x1) := by
  delta State.dueNow
  exact (kept_ite (kept_withdraw (w.sub rfl rfl) hx0) hx0)

theorem kept_takeVectors {W : Span} {s0 : State} {x0 x1} (w : Span.le ⟨0x8000000000000000000000000000000000000000000,
    16⟩ W) (hx0 : Kept W s0 x0) :
    Kept W s0 (State.takeVectors x0 x1) := by
  delta State.takeVectors
  extract_lets v1 v2 v3 v4 v5 v6 v7 v8 v9 v10 v11
  have h12 : Kept W s0 v11 := (kept_modPart (w.sub rfl rfl) hx0)
  exact (kept_ite (kept_setReg (w.fld rfl) h12) h12)

theorem kept_deliverMarks {W : Span} {s0 : State} {x0 x1 x2} (w : Span.le
    ⟨0x8800080000000000000000000000000000000000000000000000000000080800000f0200000000000000000000000000000000,
    524304⟩ W) (hx0 : Kept W s0 x0) :
    Kept W s0 (State.deliverMarks x0 x1 x2) := by
  delta State.deliverMarks
  refine kept_ite ?_ ?_
  · exact hx0
  · extract_lets v1
    have h4 : Kept W s0 v1 := (kept_foldl (fun _ _ h2 => (by
        extract_lets v3
        exact (kept_ite (kept_setReg (w.fld rfl) h2) (kept_pError (w.sub rfl rfl) (kept_setReg (w.fld rfl) h2)))))
      hx0)
    exact (kept_arrived (w.sub rfl rfl) h4)

theorem kept_formFail {W : Span} {s0 : State} {x0 x1 x2 x3 x4} (w : Span.le
    ⟨0x110000000000000000000000000000000000000000, 16⟩ W) (hx3 : Kept W s0 x3) :
    Kept W s0 (State.formFail x0 x1 x2 x3 x4) := by
  delta State.formFail
  extract_lets v1 v2 v3
  have h4 : Kept W s0 v3 := (kept_modPart (w.sub rfl rfl) hx3)
  exact (kept_ite (kept_modPart (w.sub rfl rfl) h4) (kept_setReg (w.fld rfl) (kept_bump (w.fld rfl) h4)))

theorem kept_recordFails {W : Span} {s0 : State} {x0 x1 x2 x3} (w : Span.le
    ⟨0x880000000000000000580000000020000004000000000000000000000087f74000000000000000000000000000000000000000,
    559289⟩ W) (hx0 : Kept W s0 x0) :
    Kept W s0 (State.recordFails x0 x1 x2 x3) := by
  delta State.recordFails
  extract_lets v1 v3 v6 v8 v11
  have h2 : Kept W s0 v1 := (kept_setReg (w.fld rfl) (kept_bump (w.fld rfl) (kept_bump (w.fld rfl) hx0)))
  have h5 : Kept W s0 v3 := (kept_foldl (fun _ _ h4 => (kept_ite (kept_bump (w.fld rfl) h4) h4)) h2)
  have h7 : Kept W s0 v6 := (kept_ite h5 (kept_setReg64 (w.fld rfl) (w.fld rfl) (kept_setReg (w.fld rfl) (kept_setReg
    (w.fld rfl) h5))))
  have h10 : Kept W s0 v8 := (kept_foldl (fun _ _ h9 => (kept_formFail (w.sub rfl rfl) h9)) (kept_modPart (w.sub rfl
    rfl) h7))
  have h12 : Kept W s0 v11 := (kept_ite (kept_pushFails (w.sub rfl rfl) h10) h7)
  exact (kept_failPulse (w.sub rfl rfl) h12)

theorem kept_compareCycle {W : Span} {s0 : State} {x0 x1} (w : Span.le
    ⟨0x880000000000000000580000000020000004000000000000000000000087f74000000000000000000000000000000000000000,
    559289⟩ W) (hx0 : Kept W s0 x0) :
    Kept W s0 (State.compareCycle x0 x1) := by
  delta State.compareCycle
  extract_lets v1 v2 v3 v4
  split
  · exact (kept_modPart (w.sub rfl rfl) hx0)
  · extract_lets v5
    exact (kept_ite (kept_modPart (w.sub rfl rfl) hx0) (kept_modPart (w.sub rfl rfl) (kept_recordFails (w.sub rfl
      rfl) hx0)))

theorem kept_compareBoundary {W : Span} {s0 : State} {x0 x1} (w : Span.le ⟨0x0, 16⟩ W) (hx0 : Kept W s0 x0) :
    Kept W s0 (State.compareBoundary x0 x1) := by
  delta State.compareBoundary
  exact (by extract_lets v1 v2; exact (kept_modPart (w.sub rfl rfl) hx0))

theorem kept_flush {W : Span} {s0 : State} {x0 x1} (w : Span.le
    ⟨0x4400000000000000000000000000000000000000000000000000000000000000000000000008000000000000000000000000000000000000000000, 1040⟩ W) (hx0 : Kept W s0 x0) :
    Kept W s0 (State.flush x0 x1) := by
  delta State.flush
  extract_lets v1
  have h2 : Kept W s0 v1 := (kept_setReg (w.fld rfl) (kept_modPart (w.sub rfl rfl) (kept_fifosFree (w.sub rfl rfl)
    hx0)))
  split
  exacts [(kept_ite (kept_modStream (w.sub rfl rfl) (kept_setReg (w.fld rfl) (kept_setReg (w.fld rfl) h2))) h2), h2]

theorem kept_trigEdge {W : Span} {s0 : State} {x0 x1} (w : Span.le
    ⟨0x6400000000000000000000000008800080000000000000000000000000000000000000000000000000000080800001f0300800000000000000000000000000000, 541328⟩ W) (hx0 : Kept W s0 x0) :
    Kept W s0 (State.trigEdge x0 x1) := by
  delta State.trigEdge
  refine kept_ite ?_ ?_
  · exact hx0
  · extract_lets v1 v2 v9
    have h8 : Kept W s0 v2 := (kept_foldl (fun _ _ h3 => (by
        extract_lets v4 v6
        have h5 : Kept W s0 v4 := (kept_modPart (w.sub rfl rfl) h3)
        have h7 : Kept W s0 v6 := (kept_ite (kept_testerStop (w.sub rfl rfl) h5) h5)
        exact (kept_ite (kept_deliverMarks (w.sub rfl rfl) h7) h7)))
      hx0)
    have h10 : Kept W s0 v9 := (kept_capEvent (w.sub rfl rfl) h8)
    exact (kept_traceSignal (w.sub rfl rfl) h10)

theorem kept_execTriggerInputEdge {W : Span} {s0 : State} {x0 x1} (w : Span.le
    ⟨0x6400000000000000000000000008800080000000000000000000000000000000000000000000000000000080800001f0300800000000000000000000000000000, 541328⟩ W) (hx1 : Kept W s0 x1) :
    KeptOut W s0 (execTriggerInputEdge x0 x1) := by
  delta execTriggerInputEdge
  exact (KeptOut.of (kept_trigEdge (w.sub rfl rfl) hx1))

end Sys2Proof.Machine
end

