-- ==== Sys2Proof/Laws/KeptLanes.lean ====
section
/-! SUPPORT. What the operations of Machine/Lanes.lean keep (see Laws/Kept.lean). -/

namespace Sys2Proof.Machine

theorem kept_modLane {W : Span} {s0 : State} {x0 x1 x2} (w : Span.le ⟨0x0, 1024⟩ W) (hx0 : Kept W s0 x0) :
    Kept W s0 (State.modLane x0 x1 x2) := by
  delta State.modLane
  exact (Kept.setWl hx0 (w.part rfl))

theorem kept_modLog {W : Span} {s0 : State} {x0 x1 x2 x3} (w : Span.le ⟨0x0, 1024⟩ W) (hx0 : Kept W s0 x0) :
    Kept W s0 (State.modLog x0 x1 x2 x3) := by
  delta State.modLog
  exact (Kept.setWl hx0 (w.part rfl))

theorem kept_modBundle {W : Span} {s0 : State} {x0 x1 x2} (w : Span.le ⟨0x0, 1024⟩ W) (hx0 : Kept W s0 x0) :
    Kept W s0 (State.modBundle x0 x1 x2) := by
  delta State.modBundle
  exact (Kept.setWl hx0 (w.part rfl))

theorem kept_strEvent {W : Span} {s0 : State} {x0 x1 x2} (w : Span.le ⟨0x0, 16⟩ W) (hx1 : Kept W s0 x1) :
    Kept W s0 (State.strEvent x0 x1 x2) := by
  delta State.strEvent
  exact (by extract_lets v1; exact (kept_ite (kept_modPart (w.sub rfl rfl) hx1) hx1))

theorem kept_strEventOn {W : Span} {s0 : State} {x0 x1 x2} (w : Span.le ⟨0x0, 16⟩ W) (hx0 : Kept W s0 x0) :
    Kept W s0 (State.strEventOn x0 x1 x2) := by
  delta State.strEventOn
  exact (kept_foldl (fun _ _ h1 => (kept_strEvent (w.sub rfl rfl) h1)) hx0)

theorem kept_updateBundle {W : Span} {s0 : State} {x0 x1} (w : Span.le
    ⟨0x60000000000880008000000000000000000000000000000000000000000000000000000000000000000000000000000000000000000000000, 525328⟩ W) (hx0 : Kept W s0 x0) :
    Kept W s0 (State.updateBundle x0 x1) := by
  delta State.updateBundle
  extract_lets v1 v2 v3 v5
  have h4 : Kept W s0 v3 := (kept_setReg (w.fld rfl) (kept_setReg (w.fld rfl) hx0))
  have h6 : Kept W s0 v5 := (kept_strEventOn (w.sub rfl rfl) (kept_modBundle (w.sub rfl rfl) h4))
  exact (kept_ite (kept_ite h6 (kept_mError (w.sub rfl rfl) h6)) h4)

theorem kept_blockOut {W : Span} {s0 : State} {x0 x1 x2 x3} (w : Span.le ⟨0x0, 32768⟩ W) (hx0 : Kept W s0 x0) :
    Kept W s0 (State.blockOut x0 x1 x2 x3) := by
  delta State.blockOut
  exact (kept_emit (w.sub rfl rfl) hx0)

theorem kept_idleOut {W : Span} {s0 : State} {x0 x1} (w : Span.le ⟨0x0, 32768⟩ W) (hx0 : Kept W s0 x0) :
    Kept W s0 (State.idleOut x0 x1) := by
  delta State.idleOut
  exact (kept_blockOut (w.sub rfl rfl) hx0)

theorem kept_capOut {W : Span} {s0 : State} {x0 x1 x2} (w : Span.le ⟨0x0, 32768⟩ W) (hx0 : Kept W s0 x0) :
    Kept W s0 (State.capOut x0 x1 x2) := by
  delta State.capOut
  exact (by extract_lets v1 v2; exact (kept_blockOut (w.sub rfl rfl) hx0))

theorem kept_toLane {W : Span} {s0 : State} {x0 x1 x2 x3} (w : Span.le
    ⟨0x10000880008000000000000000000000000000000000000000000000000000000000000000000000000000000000000000000000000,
    557056⟩ W) (hx0 : Kept W s0 x0) :
    Kept W s0 (State.toLane x0 x1 x2 x3) := by
  delta State.toLane
  extract_lets v1 v3
  have h2 : Kept W s0 v1 := (kept_setReg (w.fld rfl) hx0)
  have h4 : Kept W s0 v3 := (kept_ite (kept_blockOut (w.sub rfl rfl) h2) h2)
  exact (kept_ite (kept_mEvent (w.sub rfl rfl) h4) h4)

theorem kept_laneTo {W : Span} {s0 : State} {x0 x1 x2 x3} (w : Span.le
    ⟨0x60000010000880008000000000000000000000000000000000000000000000000000000000000000000000000000000000000000000000000, 558096⟩ W) (hx0 : Kept W s0 x0) :
    Kept W s0 (State.laneTo x0 x1 x2 x3) := by
  delta State.laneTo
  exact (kept_foldl (fun _ _ h1 => (kept_updateBundle (w.sub rfl rfl) h1)) (kept_toLane (w.sub rfl rfl) hx0))

theorem kept_blockAll {W : Span} {s0 : State} {x0 x1 x2 x3} (w : Span.le ⟨0x0, 32768⟩ W) (hx0 : Kept W s0 x0) :
    Kept W s0 (State.blockAll x0 x1 x2 x3) := by
  delta State.blockAll
  exact (kept_foldl (fun _ _ h1 => (kept_blockOut (w.sub rfl rfl) h1)) hx0)

theorem kept_frameSent {W : Span} {s0 : State} {x0 x1 x2 x3 x4 x5} (w : Span.le ⟨0x0, 32768⟩ W) (hx0 : Kept W s0 x0) :
    Kept W s0 (State.frameSent x0 x1 x2 x3 x4 x5) := by
  delta State.frameSent
  exact (kept_emit (w.sub rfl rfl) hx0)

theorem kept_sendOn {W : Span} {s0 : State} {x0 x1 x2 x3 x4 x5} (w : Span.le ⟨0x0, 33792⟩ W) (hx0 : Kept W s0 x0) :
    Kept W s0 (State.sendOn x0 x1 x2 x3 x4 x5) := by
  delta State.sendOn
  exact (by extract_lets v1; exact (kept_modLog (w.sub rfl rfl) (kept_frameSent (w.sub rfl rfl) hx0)))

theorem kept_moveFrames {W : Span} {s0 : State} {x0 x1 x2} (w : Span.le ⟨0x0, 33792⟩ W) (hx0 : Kept W s0 x0) :
    Kept W s0 (State.moveFrames x0 x1 x2) := by
  delta State.moveFrames
  exact (kept_foldl (fun _ _ h1 => (by
      split
      exacts [h1, (by extract_lets v2; exact (kept_modLog (w.sub rfl rfl) (kept_sendOn (w.sub rfl rfl) h1)))]))
    hx0)

theorem kept_moveWaiting {W : Span} {s0 : State} {x0 x1} (w : Span.le ⟨0x0, 33792⟩ W) (hx0 : Kept W s0 x0) :
    Kept W s0 (State.moveWaiting x0 x1) := by
  delta State.moveWaiting
  exact (kept_foldl (fun _ _ h1 => (kept_ite (kept_moveFrames (w.sub rfl rfl) h1) h1)) hx0)

theorem kept_laneFails {W : Span} {s0 : State} {x0 x1 x2 x3} (w : Span.le
    ⟨0x80000000000000000000000000000000000000000060000010000880008000000000000000000000000000000000000000000000000000000000000000000000000000000000000000000000000, 1614864⟩ W) (hx0 : Kept W s0 x0) :
    Kept W s0 (State.laneFails x0 x1 x2 x3) := by
  delta State.laneFails
  extract_lets v1 v2
  have h3 : Kept W s0 v2 := (kept_condition (w.sub rfl rfl) (kept_mError (w.sub rfl rfl) (kept_laneTo (w.sub rfl rfl)
    hx0)))
  exact (kept_moveFrames (w.sub rfl rfl) (kept_modLog (w.sub rfl rfl) h3))

theorem kept_spareAsk {W : Span} {s0 : State} {x0 x1 x2 x3} (w : Span.le ⟨0x0, 32768⟩ W) (hx0 : Kept W s0 x0) :
    Kept W s0 (State.spareAsk x0 x1 x2 x3) := by
  delta State.spareAsk
  exact (by extract_lets v1; exact (kept_foldl (fun _ _ h2 => (kept_blockOut (w.sub rfl rfl) h2)) hx0))

theorem kept_laneFault {W : Span} {s0 : State} {x0 x1 x2} (w : Span.le
    ⟨0x80000000000000000000000000000000000000000060000010000880008000000000000000000000000000000000000000000000000000000000000000000000000000000000000000000000000, 1614864⟩ W) (hx0 : Kept W s0 x0) :
    Kept1 W s0 (State.laneFault x0 x1 x2) := by
  delta State.laneFault
  extract_lets v1 v2
  exact (ite_of (P := Kept1 W s0) (Kept1.of hx0) (ite_of (P := Kept1 W s0) (Kept1.of hx0) (ite_of (P := Kept1 W s0)
    (Kept1.of (kept_spareAsk (w.sub rfl rfl) (kept_modBundle (w.sub rfl rfl) hx0))) (Kept1.of (kept_laneFails (w.sub
    rfl rfl) hx0)))))

theorem kept_replay {W : Span} {s0 : State} {x0 x1 x2 x3} (w : Span.le
    ⟨0x80000000000000000000000000000000000000000060000910000880008000000000000000000000000000000000000000000000000000000000000000000000000000000000000000000000000, 1614864⟩ W) (hx0 : Kept W s0 x0) :
    Kept W s0 (State.replay x0 x1 x2 x3) := by
  delta State.replay
  extract_lets v1 v2 v5
  have h4 : Kept W s0 v2 := (kept_foldl (fun _ _ h3 => (kept_frameSent (w.sub rfl rfl) h3)) hx0)
  have h6 : Kept W s0 v5 := (kept_strEventOn (w.sub rfl rfl) (kept_bump (w.fld rfl) (kept_modLog (w.sub rfl rfl) h4)))
  exact (kept_ite hx0 (kept_ite (Kept1.st (kept_laneFault (w.sub rfl rfl) (kept_mError (w.sub rfl rfl) (kept_setReg
    (w.fld rfl) h6)))) h6))

theorem kept_ackBlock {W : Span} {s0 : State} {x0 x1 x2 x3 x4} (w : Span.le
    ⟨0x80000000000000000000000000000000000000000060000910000880008000000000000000000000000000000000000000000000000000000000000000000000000000000000000000000000000, 1614864⟩ W) (hx0 : Kept W s0 x0) :
    Kept W s0 (State.ackBlock x0 x1 x2 x3 x4) := by
  delta State.ackBlock
  extract_lets v1 v2 v3 v4
  have h5 : Kept W s0 v4 := (kept_moveWaiting (w.sub rfl rfl) (kept_modLog (w.sub rfl rfl) hx0))
  exact (kept_ite hx0 (kept_ite (by split; exacts [(kept_replay (w.sub rfl rfl) h5), h5]) h5))

theorem kept_execAck {W : Span} {s0 : State} {x0 x1 x2 x3 x4} (w : Span.le
    ⟨0x80000000000000000000000000000000000000000060000910000880008000000000000000000000000000000000000000000000000000000000000000000000000000000000000000000000000, 1614864⟩ W) (hx4 : Kept W s0 x4) :
    KeptOut W s0 (execAck x0 x1 x2 x3 x4) := by
  delta execAck
  exact (KeptOut.of (kept_ackBlock (w.sub rfl rfl) hx4))

theorem kept_execReplayTimeout {W : Span} {s0 : State} {x0 x1} (w : Span.le
    ⟨0x80000000000000000000000000000000000000000060000910000880008000000000000000000000000000000000000000000000000000000000000000000000000000000000000000000000000, 1614864⟩ W) (hx1 : Kept W s0 x1) :
    KeptOut W s0 (execReplayTimeout x0 x1) := by
  delta execReplayTimeout
  exact (KeptOut.of (kept_ite (kept_replay (w.sub rfl rfl) hx1) hx1))

theorem kept_laneDetect {W : Span} {s0 : State} {x0 x1} (w : Span.le
    ⟨0x60000010000880008000000000000000000000000000000000000000000000000000000000000000000000000000000000000000000000000, 558096⟩ W) (hx0 : Kept W s0 x0) :
    Kept W s0 (State.laneDetect x0 x1) := by
  delta State.laneDetect
  exact (kept_laneTo (w.sub rfl rfl) (kept_modLane (w.sub rfl rfl) hx0))

theorem kept_wlDenied {W : Span} {s0 : State} {x0 x1 x2 x3 x4} (w : Span.le ⟨0x0, 1048576⟩ W) (hx0 : Kept W s0 x0) :
    Kept W s0 (State.wlDenied x0 x1 x2 x3 x4) := by
  delta State.wlDenied
  exact (kept_auditRefuse (w.sub rfl rfl) hx0)

theorem kept_wrLaneEnable {W : Span} {s0 : State} {x0 x1 x2 x3} (w : Span.le
    ⟨0x60000050000880008000000000000000000000000000000000000000000000000000000000000000000000000000000000000000000000000, 1614864⟩ W) (hx0 : Kept W s0 x0) :
    Kept W s0 (State.wrLaneEnable x0 x1 x2 x3) := by
  delta State.wrLaneEnable
  refine kept_ite ?_ ?_
  · exact hx0
  · refine kept_ite ?_ ?_
    · exact (kept_wlDenied (w.sub rfl rfl) hx0)
    · extract_lets v1
      have h2 : Kept W s0 v1 := (kept_auditDiff (w.sub rfl rfl) (kept_setHost (w.sub rfl rfl) (w.fld rfl) hx0))
      exact (kept_ite (kept_ite (kept_laneDetect (w.sub rfl rfl) h2) h2) (kept_laneTo (w.sub rfl rfl) h2))

theorem kept_execLaneEnable {W : Span} {s0 : State} {x0 x1 x2} (w : Span.le
    ⟨0x60000050000880008000000000000000000000000000000000000000000000000000000000000000000000000000000000000000000000000, 1614864⟩ W) (hx2 : Kept W s0 x2) :
    KeptOut W s0 (execLaneEnable x0 x1 x2) := by
  delta execLaneEnable
  exact (KeptOut.of (kept_wrLaneEnable (w.sub rfl rfl) hx2))

theorem kept_execLaneDisable {W : Span} {s0 : State} {x0 x1 x2} (w : Span.le
    ⟨0x60000050000880008000000000000000000000000000000000000000000000000000000000000000000000000000000000000000000000000, 1614864⟩ W) (hx2 : Kept W s0 x2) :
    KeptOut W s0 (execLaneDisable x0 x1 x2) := by
  delta execLaneDisable
  exact (KeptOut.of (kept_wrLaneEnable (w.sub rfl rfl) hx2))

theorem kept_retrain {W : Span} {s0 : State} {x0 x1} (w : Span.le
    ⟨0x60000410000880008000000000000000000000000000000000000000000000000000000000000000000000000000000000000000000000000, 558096⟩ W) (hx0 : Kept W s0 x0) :
    Kept W s0 (State.retrain x0 x1) := by
  delta State.retrain
  extract_lets v1 v2
  have h3 : Kept W s0 v2 := (kept_ite (kept_bump (w.fld rfl) hx0) hx0)
  exact (kept_modLane (w.sub rfl rfl) (kept_laneDetect (w.sub rfl rfl) h3))

theorem kept_wrRetrain {W : Span} {s0 : State} {x0 x1 x2} (w : Span.le
    ⟨0x60000410000880008000000000000000000000000000000000000000000000000000000000000000000000000000000000000000000000000, 1606672⟩ W) (hx0 : Kept W s0 x0) :
    Kept W s0 (State.wrRetrain x0 x1 x2) := by
  delta State.wrRetrain
  exact (kept_ite hx0 (kept_ite (kept_wlDenied (w.sub rfl rfl) hx0) (kept_ite hx0 (kept_retrain (w.sub rfl rfl)
    hx0))))

theorem kept_execRetrain {W : Span} {s0 : State} {x0 x1 x2} (w : Span.le
    ⟨0x60000410000880008000000000000000000000000000000000000000000000000000000000000000000000000000000000000000000000000, 1606672⟩ W) (hx2 : Kept W s0 x2) :
    KeptOut W s0 (execRetrain x0 x1 x2) := by
  delta execRetrain
  exact (KeptOut.of (kept_wrRetrain (w.sub rfl rfl) hx2))

theorem kept_laneStep {W : Span} {s0 : State} {x0 x1 x2 x3} (w : Span.le
    ⟨0x60000010000880008000000000000000000000000000000000000000000000000000000000000000000000000000000000000000000000000, 558096⟩ W) (hx0 : Kept W s0 x0) :
    Kept W s0 (State.laneStep x0 x1 x2 x3) := by
  delta State.laneStep
  exact (kept_ite (kept_laneTo (w.sub rfl rfl) hx0) hx0)

theorem kept_execTerminationDetect {W : Span} {s0 : State} {x0 x1} (w : Span.le
    ⟨0x60000010000880008000000000000000000000000000000000000000000000000000000000000000000000000000000000000000000000000, 558096⟩ W) (hx1 : Kept W s0 x1) :
    KeptOut W s0 (execTerminationDetect x0 x1) := by
  delta execTerminationDetect
  exact (KeptOut.of (kept_laneStep (w.sub rfl rfl) hx1))

theorem kept_execCdrLock {W : Span} {s0 : State} {x0 x1} (w : Span.le
    ⟨0x60000010000880008000000000000000000000000000000000000000000000000000000000000000000000000000000000000000000000000, 558096⟩ W) (hx1 : Kept W s0 x1) :
    KeptOut W s0 (execCdrLock x0 x1) := by
  delta execCdrLock
  exact (KeptOut.of (kept_laneStep (w.sub rfl rfl) hx1))

theorem kept_execBlockLock {W : Span} {s0 : State} {x0 x1} (w : Span.le
    ⟨0x60000010000880008000000000000000000000000000000000000000000000000000000000000000000000000000000000000000000000000, 558096⟩ W) (hx1 : Kept W s0 x1) :
    KeptOut W s0 (execBlockLock x0 x1) := by
  delta execBlockLock
  exact (KeptOut.of (kept_laneStep (w.sub rfl rfl) hx1))

theorem kept_execTsDetected {W : Span} {s0 : State} {x0 x1 x2} (w : Span.le
    ⟨0x60000012000880008000000000000000000000000000000000000000000000000000000000000000000000000000000000000000000000000, 558096⟩ W) (hx2 : Kept W s0 x2) :
    KeptOut W s0 (execTsDetected x0 x1 x2) := by
  delta execTsDetected
  exact (KeptOut.of (kept_ite (kept_capOut (w.sub rfl rfl) (kept_laneTo (w.sub rfl rfl) (kept_modLane (w.sub rfl rfl)
    (kept_setFlag (w.fld rfl) hx2)))) hx2))

theorem kept_trainTimeout {W : Span} {s0 : State} {x0 x1} (w : Span.le
    ⟨0x80000000000000000000000000000000000000000060004010000880008000000000000000000000000000000000000000000000000000000000000000000000000000000000000000000000000, 1614864⟩ W) (hx0 : Kept W s0 x0) :
    Kept W s0 (State.trainTimeout x0 x1) := by
  delta State.trainTimeout
  extract_lets v1 v2 v3 v5
  have h4 : Kept W s0 v3 := (kept_laneTo (w.sub rfl rfl) (kept_setReg (w.fld rfl) (kept_modLane (w.sub rfl rfl) hx0)))
  have h6 : Kept W s0 v5 := (kept_mError (w.sub rfl rfl) h4)
  exact (kept_ite hx0 (kept_ite (kept_laneTo (w.sub rfl rfl) (kept_modLane (w.sub rfl rfl) hx0)) (kept_ite (Kept1.st
    (kept_laneFault (w.sub rfl rfl) h6)) h6)))

theorem kept_execTrainTimeout {W : Span} {s0 : State} {x0 x1} (w : Span.le
    ⟨0x80000000000000000000000000000000000000000060004010000880008000000000000000000000000000000000000000000000000000000000000000000000000000000000000000000000000, 1614864⟩ W) (hx1 : Kept W s0 x1) :
    KeptOut W s0 (execTrainTimeout x0 x1) := by
  delta execTrainTimeout
  exact (KeptOut.of (kept_trainTimeout (w.sub rfl rfl) hx1))

theorem kept_execLockLoss {W : Span} {s0 : State} {x0 x1} (w : Span.le
    ⟨0x60000410000880008000000000000000000000000000000000000000000000000000000000000000000000000000000000000000000000000, 558096⟩ W) (hx1 : Kept W s0 x1) :
    KeptOut W s0 (execLockLoss x0 x1) := by
  delta execLockLoss
  exact (KeptOut.of (kept_ite (kept_laneTo (w.sub rfl rfl) (kept_modLane (w.sub rfl rfl) (kept_bump (w.fld rfl)
    hx1))) hx1))

theorem kept_carryAgain {W : Span} {s0 : State} {x0 x1 x2 x3} (w : Span.le
    ⟨0x80000000000000000000000000000000000000000060000910000880008000000000000000000000000000000000000000000000000000000000000000000000000000000000000000000000000, 1614864⟩ W) (hx0 : Kept W s0 x0) :
    Kept W s0 (State.carryAgain x0 x1 x2 x3) := by
  delta State.carryAgain
  exact (kept_moveWaiting (w.sub rfl rfl) (kept_replay (w.sub rfl rfl) (kept_modLog (w.sub rfl rfl) hx0)))

theorem kept_capComplete {W : Span} {s0 : State} {x0 x1 x2} (w : Span.le
    ⟨0x80000000000000000000000000000000000000000c6000091c000880008000000000000000000000000000000000000000000000000000000000000000000000000000000000000000000000000, 1614864⟩ W) (hx0 : Kept W s0 x0) :
    Kept W s0 (State.capComplete x0 x1 x2) := by
  delta State.capComplete
  extract_lets v1 v3 v4 v5 v7
  have h2 : Kept W s0 v1 := (kept_modLane (w.sub rfl rfl) (kept_setReg (w.fld rfl) hx0))
  have h6 : Kept W s0 v5 := (kept_ite h2 (kept_setReg (w.fld rfl) (kept_setReg (w.fld rfl) (kept_modBundle (w.sub rfl
    rfl) h2))))
  have h8 : Kept W s0 v7 := (kept_laneTo (w.sub rfl rfl) (kept_modLog (w.sub rfl rfl) (kept_setReg (w.fld rfl) h6)))
  exact (kept_ite (kept_ite (kept_carryAgain (w.sub rfl rfl) (kept_laneTo (w.sub rfl rfl) h2)) (kept_idleOut (w.sub
    rfl rfl) (kept_laneTo (w.sub rfl rfl) (kept_setReg (w.fld rfl) h2)))) (kept_ite (kept_idleOut (w.sub rfl rfl)
    (kept_laneTo (w.sub rfl rfl) (kept_setReg (w.fld rfl) h6))) (kept_carryAgain (w.sub rfl rfl) h8)))

theorem kept_capBlock {W : Span} {s0 : State} {x0 x1 x2} (w : Span.le
    ⟨0x80000000000000000000000000000000000000000c6000291c000880008000000000000000000000000000000000000000000000000000000000000000000000000000000000000000000000000, 1614864⟩ W) (hx0 : Kept W s0 x0) :
    Kept W s0 (State.capBlock x0 x1 x2) := by
  delta State.capBlock
  refine kept_ite ?_ ?_
  · exact hx0
  · refine kept_ite ?_ ?_
    · exact (kept_mError (w.sub rfl rfl) (kept_laneTo (w.sub rfl rfl) (kept_setReg (w.fld rfl) hx0)))
    · extract_lets v1 v2 v3 v4 v5 v6
      have h7 : Kept W s0 v6 := (kept_capOut (w.sub rfl rfl) (kept_modLane (w.sub rfl rfl) hx0))
      exact (kept_ite (kept_capComplete (w.sub rfl rfl) h7) h7)

theorem kept_execCap {W : Span} {s0 : State} {x0 x1 x2} (w : Span.le
    ⟨0x80000000000000000000000000000000000000000c6000291c000880008000000000000000000000000000000000000000000000000000000000000000000000000000000000000000000000000, 1614864⟩ W) (hx2 : Kept W s0 x2) :
    KeptOut W s0 (execCap x0 x1 x2) := by
  delta execCap
  exact (KeptOut.of (kept_capBlock (w.sub rfl rfl) hx2))

theorem kept_sendAck {W : Span} {s0 : State} {x0 x1 x2 x3 x4} (w : Span.le ⟨0x0, 32768⟩ W) (hx0 : Kept W s0 x0) :
    Kept W s0 (State.sendAck x0 x1 x2 x3 x4) := by
  delta State.sendAck
  exact (by extract_lets v1; exact (kept_blockOut (w.sub rfl rfl) hx0))

theorem kept_frameIn {W : Span} {s0 : State} {x0 x1 x2 x3} (w : Span.le
    ⟨0x1800000000000000008800080000000000000000000000000000000000000000000000000000000000000f0200000000000000000000000000000000, 525328⟩ W) (hx0 : Kept W s0 x0) :
    Kept W s0 (State.frameIn x0 x1 x2 x3) := by
  delta State.frameIn
  extract_lets v1 v2 v3 v4 v5 v7 v8
  have h6 : Kept W s0 v5 := (kept_setReg (w.fld rfl) hx0)
  refine kept_ite ?_ ?_
  · exact (kept_ite (kept_pError (w.sub rfl rfl) h6) (kept_mError (w.sub rfl rfl) h6))
  · refine kept_ite ?_ ?_
    · exact hx0
    · refine kept_ite ?_ ?_
      · split
        · refine kept_ite ?_ ?_
          · extract_lets v9 v11
            have h10 : Kept W s0 v9 := (kept_fifoFrom (w.sub rfl rfl) hx0)
            exact (kept_arrived (w.sub rfl rfl) (kept_setFifo (w.sub rfl rfl) h10))
          · exact hx0
        · exact hx0
      · exact (kept_ite (kept_pError (w.sub rfl rfl) (kept_setReg (w.fld rfl) hx0)) hx0)

theorem kept_frameBlock {W : Span} {s0 : State} {x0 x1 x2} (w : Span.le
    ⟨0x6400000001800000000080800008800080000000000000000000000000000000000000000000000000000000000000f0200000000000000000000000000000000, 558608⟩ W) (hx0 : Kept W s0 x0) :
    Kept W s0 (State.frameBlock x0 x1 x2) := by
  delta State.frameBlock
  extract_lets v1 v2 v3 v5 v7 v9
  have h4 : Kept W s0 v3 := (kept_capEvent (w.sub rfl rfl) hx0)
  have h6 : Kept W s0 v5 := (kept_ite (kept_strEventOn (w.sub rfl rfl) h4) h4)
  have h8 : Kept W s0 v7 := (kept_setReg (w.fld rfl) (kept_bump (w.fld rfl) h6))
  have h10 : Kept W s0 v9 := (kept_sendAck (w.sub rfl rfl) (kept_modLog (w.sub rfl rfl) h6))
  exact (kept_ite hx0 (kept_ite (kept_sendAck (w.sub rfl rfl) (kept_strEventOn (w.sub rfl rfl) (kept_modLane (w.sub
    rfl rfl) h8))) (kept_ite h6 (kept_frameIn (w.sub rfl rfl) h10))))

theorem kept_execFrame {W : Span} {s0 : State} {x0 x1 x2} (w : Span.le
    ⟨0x6400000001800000000080800008800080000000000000000000000000000000000000000000000000000000000000f0200000000000000000000000000000000, 558608⟩ W) (hx2 : Kept W s0 x2) :
    KeptOut W s0 (execFrame x0 x1 x2) := by
  delta execFrame
  exact (KeptOut.of (kept_frameBlock (w.sub rfl rfl) hx2))

theorem kept_execBlockDiscard {W : Span} {s0 : State} {x0 x1 x2} (w : Span.le
    ⟨0x200000000000000000000000000000000000000000000000000000000000000000000000000000000000000000000000000000000000,
    0⟩ W) (hx2 : Kept W s0 x2) :
    KeptOut W s0 (execBlockDiscard x0 x1 x2) := by
  delta execBlockDiscard
  exact (KeptOut.of (kept_ite (kept_bump (w.fld rfl) hx2) hx2))

theorem kept_execCrcErrorLimit {W : Span} {s0 : State} {x0 x1} (w : Span.le
    ⟨0x80000000000000000000000000000000000000000060000010000880008000000000000000000000000000000000000000000000000000000000000000000000000000000000000000000000000, 1614864⟩ W) (hx1 : Kept W s0 x1) :
    KeptOut W s0 (execCrcErrorLimit x0 x1) := by
  delta execCrcErrorLimit
  exact (KeptOut.of (kept_ite (Kept1.st (kept_laneFault (w.sub rfl rfl) (kept_modLane (w.sub rfl rfl) hx1))) hx1))

theorem kept_stallUpdate {W : Span} {s0 : State} {x0 x1} (w : Span.le
    ⟨0x20000000000000000000000000000000000000000000000000000000000000000000000000000000000000000000000000000000000000000000000, 1024⟩ W) (hx0 : Kept W s0 x0) :
    Kept W s0 (State.stallUpdate x0 x1) := by
  delta State.stallUpdate
  extract_lets v1 v2
  split
  · exact (kept_ite (kept_modStream (w.sub rfl rfl) hx0) hx0)
  · refine kept_ite ?_ ?_
    · exact hx0
    · extract_lets v3
      have h4 : Kept W s0 v3 := (kept_ite (kept_bump (w.fld rfl) hx0) hx0)
      exact (kept_modStream (w.sub rfl rfl) h4)

theorem kept_outVector {W : Span} {s0 : State} {x0 x1 x2 x3 x4} (w : Span.le
    ⟨0x70000000000000000000000000000000000000000000000000000000000000000000000000000000000000000000000000000000000000000000000, 1024⟩ W) (hx3 : Kept W s0 x3) :
    Kept W s0 (State.outVector x0 x1 x2 x3 x4) := by
  delta State.outVector
  extract_lets v1
  exact (kept_ite hx3 (kept_ite (kept_modStream (w.sub rfl rfl) (kept_setReg (w.fld rfl) (kept_bump (w.fld rfl)
    hx3))) (kept_stallUpdate (w.sub rfl rfl) (kept_modStream (w.sub rfl rfl) hx3))))

theorem kept_outVectors {W : Span} {s0 : State} {x0 x1 x2 x3} (w : Span.le
    ⟨0x70000000000000000000000000000000000000000000000000000000000000000000000000000000000000000000000000000000000000000000000, 1024⟩ W) (hx0 : Kept W s0 x0) :
    Kept W s0 (State.outVectors x0 x1 x2 x3) := by
  delta State.outVectors
  exact (kept_foldl (fun _ _ h1 => (kept_outVector (w.sub rfl rfl) h1)) hx0)

theorem kept_frameOut {W : Span} {s0 : State} {x0 x1} (w : Span.le
    ⟨0x20800000000000000000000000000000000000000000000000000000000000000000000000000000000000000000000000000000000000000000000, 33792⟩ W) (hx0 : Kept W s0 x0) :
    Kept W s0 (State.frameOut x0 x1) := by
  delta State.frameOut
  extract_lets v1 v2
  refine kept_ite ?_ ?_
  · exact hx0
  · split
    · extract_lets v3 v4 v6
      have h5 : Kept W s0 v4 := (kept_sendOn (w.sub rfl rfl) hx0)
      have h7 : Kept W s0 v6 := (kept_setReg (w.fld rfl) h5)
      exact (kept_stallUpdate (w.sub rfl rfl) (kept_modStream (w.sub rfl rfl) h7))
    · exact hx0

theorem kept_execFrameTransmit {W : Span} {s0 : State} {x0 x1} (w : Span.le
    ⟨0x20800000000000000000000000000000000000000000000000000000000000000000000000000000000000000000000000000000000000000000000, 33792⟩ W) (hx1 : Kept W s0 x1) :
    KeptOut W s0 (execFrameTransmit x0 x1) := by
  delta execFrameTransmit
  exact (KeptOut.of (kept_frameOut (w.sub rfl rfl) hx1))

theorem kept_execCredit {W : Span} {s0 : State} {x0 x1 x2 x3 x4} (w : Span.le
    ⟨0x21000000000000000000000000000000000000000000000000000000000000000000000000000000000000000000000000000000000000000000000, 1024⟩ W) (hx4 : Kept W s0 x4) :
    KeptOut W s0 (execCredit x0 x1 x2 x3 x4) := by
  delta execCredit
  exact (KeptOut.of (kept_ite (kept_stallUpdate (w.sub rfl rfl) (kept_setReg (w.fld rfl) hx4)) hx4))

theorem kept_execCreditSend {W : Span} {s0 : State} {x0 x1} (w : Span.le
    ⟨0x400000000000000000000000000000000000000000000000000000000000000000000000000000000000000000000000000000000000000000000, 32768⟩ W) (hx1 : Kept W s0 x1) :
    KeptOut W s0 (execCreditSend x0 x1) := by
  delta execCreditSend
  exact (KeptOut.of (by
      extract_lets v1 v2
      exact (kept_ite (kept_blockAll (w.sub rfl rfl) (kept_setReg (w.fld rfl) hx1)) hx1)))

theorem kept_execCreditStall {W : Span} {s0 : State} {x0 x1} (w : Span.le ⟨0x0, 1040⟩ W) (hx1 : Kept W s0 x1) :
    KeptOut W s0 (execCreditStall x0 x1) := by
  delta execCreditStall
  exact (KeptOut.of (kept_ite (kept_strEvent (w.sub rfl rfl) (kept_modStream (w.sub rfl rfl) hx1)) hx1))

theorem kept_execMark {W : Span} {s0 : State} {x0 x1 x2 x3} (w : Span.le
    ⟨0x80000000000000008800080000000000000000000000000000000000000000000000000000080800000f0200000000000000000000000000000000, 525328⟩ W) (hx3 : Kept W s0 x3) :
    KeptOut W s0 (execMark x0 x1 x2 x3) := by
  delta execMark
  exact (KeptOut.of (kept_ite hx3 (by
      extract_lets v1 v2 v3 v5
      have h4 : Kept W s0 v3 := (kept_modStream (w.sub rfl rfl) hx3)
      exact (kept_ite (kept_setReg (w.fld rfl) h4) (kept_ite (kept_deliverMarks (w.sub rfl rfl) (kept_strEvent (w.sub
        rfl rfl) (kept_setReg (w.fld rfl) h4))) h4)))))

theorem kept_execStop {W : Span} {s0 : State} {x0 x1 x2 x3 x4} (w : Span.le ⟨0x1f0300800000000000000000000000000000,
    17424⟩ W) (hx4 : Kept W s0 x4) :
    KeptOut W s0 (execStop x0 x1 x2 x3 x4) := by
  delta execStop
  exact (KeptOut.of (by
      extract_lets v1 v2 v3
      have h4 : Kept W s0 v3 := (kept_strEvent (w.sub rfl rfl) (kept_modStream (w.sub rfl rfl) hx4))
      exact (kept_ite hx4 (kept_ite (kept_testerStop (w.sub rfl rfl) h4) h4))))

theorem kept_deskew {W : Span} {s0 : State} {x0 x1 x2} (w : Span.le
    ⟨0x1020001000000000000000000000000000000000000000000000000000000000000000000000000000000000000000000000000000000000000, 16⟩ W) (hx0 : Kept W s0 x0) :
    Kept W s0 (State.deskew x0 x1 x2) := by
  delta State.deskew
  extract_lets v1
  clear_value v1
  split
  · exact hx0
  · extract_lets v2 v3
    have h4 : Kept W s0 v3 := (kept_setReg (w.fld rfl) hx0)
    exact (kept_foldl (fun _ _ h5 => (by
        extract_lets v6 v7 v8
        have h9 : Kept W s0 v8 := (kept_setReg (w.fld rfl) h5)
        exact (kept_ite (kept_setReg (w.fld rfl) (kept_foldl (fun _ _ h10 => (kept_strEvent (w.sub rfl rfl) h10))
          h9)) h9)))
      h4)

theorem kept_execDsk {W : Span} {s0 : State} {x0 x1 x2} (w : Span.le
    ⟨0x1020001000000000000000000000000000000000000000000000000000000000000000000000000000000000000000000000000000000000000, 16⟩ W) (hx2 : Kept W s0 x2) :
    KeptOut W s0 (execDsk x0 x1 x2) := by
  delta execDsk
  exact (KeptOut.of (kept_deskew (w.sub rfl rfl) hx2))

theorem kept_execDskSend {W : Span} {s0 : State} {x0 x1} (w : Span.le ⟨0x0, 33792⟩ W) (hx1 : Kept W s0 x1) :
    KeptOut W s0 (execDskSend x0 x1) := by
  delta execDskSend
  exact (KeptOut.of (kept_ite hx1 (kept_modBundle (w.sub rfl rfl) (kept_blockAll (w.sub rfl rfl) hx1))))

theorem kept_statusOut {W : Span} {s0 : State} {x0 x1 x2 x3} (w : Span.le ⟨0x0, 32768⟩ W) (hx2 : Kept W s0 x2) :
    Kept W s0 (State.statusOut x0 x1 x2 x3) := by
  delta State.statusOut
  exact (by extract_lets v1; exact (kept_emit (w.sub rfl rfl) (kept_blockOut (w.sub rfl rfl) hx2)))

theorem kept_statusSend {W : Span} {s0 : State} {x0 x1} (w : Span.le ⟨0x0, 32784⟩ W) (hx0 : Kept W s0 x0) :
    Kept W s0 (State.statusSend x0 x1) := by
  delta State.statusSend
  split
  · exact hx0
  · extract_lets v1 v2 v3 v4
    exact (kept_ite hx0 (kept_modPart (w.sub rfl rfl) (kept_foldl (fun _ _ h5 => (kept_statusOut (w.sub rfl rfl) h5))
      hx0)))

theorem kept_execStatusBlockSend {W : Span} {s0 : State} {x0 x1} (w : Span.le ⟨0x0, 32784⟩ W) (hx1 : Kept W s0 x1) :
    KeptOut W s0 (execStatusBlockSend x0 x1) := by
  delta execStatusBlockSend
  exact (KeptOut.of (kept_statusSend (w.sub rfl rfl) hx1))

theorem kept_carryOn {W : Span} {s0 : State} {x0 x1 x2 x3 x4 x5} (w : Span.le
    ⟨0x80000000000000000000000000000000000000000070000918000880008000000000000000000000000000000000000000000000000000000000000000000000000000000000000000000000000, 1614864⟩ W) (hx0 : Kept W s0 x0) :
    Kept W s0 (State.carryOn x0 x1 x2 x3 x4 x5) := by
  delta State.carryOn
  extract_lets v1
  have h2 : Kept W s0 v1 := (kept_setReg (w.fld rfl) (kept_setReg (w.fld rfl) (kept_setReg (w.fld rfl) hx0)))
  exact (kept_carryAgain (w.sub rfl rfl) (kept_updateBundle (w.sub rfl rfl) h2))

theorem kept_substitute {W : Span} {s0 : State} {x0 x1 x2 x3} (w : Span.le
    ⟨0x80000000000000000000000000000000000000000070000918000880008000000000000000000000000000000000000000000000000000000000000000000000000000000000000000000000000, 1877008⟩ W) (hx0 : Kept W s0 x0) :
    Kept W s0 (State.substitute x0 x1 x2 x3) := by
  delta State.substitute
  extract_lets v1 v2 v4 v5
  have h3 : Kept W s0 v2 := (kept_modBundle (w.sub rfl rfl) hx0)
  have h6 : Kept W s0 v5 := (kept_ite (kept_idleOut (w.sub rfl rfl) (kept_carryOn (w.sub rfl rfl) h3))
    (kept_strEventOn (w.sub rfl rfl) (kept_laneTo (w.sub rfl rfl) (kept_carryOn (w.sub rfl rfl) h3))))
  exact (kept_doneAll (w.sub rfl rfl) h6)

theorem kept_spareRefused {W : Span} {s0 : State} {x0 x1 x2 x3} (w : Span.le
    ⟨0x80000000000000000000000000000000000000000060000010000880008000000000000000000000000000000000000000000000000000000000000000000000000000000000000000000000000, 1877008⟩ W) (hx0 : Kept W s0 x0) :
    Kept W s0 (State.spareRefused x0 x1 x2 x3) := by
  delta State.spareRefused
  extract_lets v1 v3
  have h2 : Kept W s0 v1 := (kept_modBundle (w.sub rfl rfl) hx0)
  have h4 : Kept W s0 v3 := (kept_ite (kept_laneFails (w.sub rfl rfl) h2) h2)
  exact (kept_doneAll (w.sub rfl rfl) h4)

theorem kept_spareAnswer {W : Span} {s0 : State} {x0 x1 x2 x3} (w : Span.le ⟨0x0, 32768⟩ W) (hx0 : Kept W s0 x0) :
    Kept W s0 (State.spareAnswer x0 x1 x2 x3) := by
  delta State.spareAnswer
  exact (kept_blockAll (w.sub rfl rfl) hx0)

theorem kept_spareReq {W : Span} {s0 : State} {x0 x1 x2 x3} (w : Span.le
    ⟨0x80000000000000000000000000000000000000000070000918000880008000000000000000000000000000000000000000000000000000000000000000000000000000000000000000000000000, 1877008⟩ W) (hx0 : Kept W s0 x0) :
    Kept W s0 (State.spareReq x0 x1 x2 x3) := by
  delta State.spareReq
  extract_lets v1 v2 v3 v4
  have h5 : Kept W s0 v4 := by
    unfold v4
    clear_value v3
    split
    exacts [(kept_ite (kept_spareRefused (w.sub rfl rfl) hx0) hx0), hx0]
  exact (kept_ite hx0 (kept_ite (kept_ite (kept_substitute (w.sub rfl rfl) (kept_spareAnswer (w.sub rfl rfl) h5))
    (kept_spareAnswer (w.sub rfl rfl) h5)) (kept_ite (kept_spareAnswer (w.sub rfl rfl) h5) (kept_ite
    (kept_spareAnswer (w.sub rfl rfl) h5) (kept_ite (kept_mError (w.sub rfl rfl) (kept_spareAnswer (w.sub rfl rfl)
    h5)) (kept_substitute (w.sub rfl rfl) (kept_spareAnswer (w.sub rfl rfl) h5)))))))

theorem kept_spareBlock {W : Span} {s0 : State} {x0 x1 x2 x3 x4 x5 x6 x7} (w : Span.le
    ⟨0x80000000000000000000000000000000000000000070000918000880008000000000000000000000000000000000000000000000000000000000000000000000000000000000000000000000000, 1877008⟩ W) (hx0 : Kept W s0 x0) :
    Kept W s0 (State.spareBlock x0 x1 x2 x3 x4 x5 x6 x7) := by
  delta State.spareBlock
  split
  · exact hx0
  · refine kept_ite ?_ ?_
    · exact hx0
    · refine kept_ite ?_ ?_
      · exact (kept_spareReq (w.sub rfl rfl) hx0)
      · split
        · exact (kept_ite hx0 (kept_ite (kept_ite (kept_mError (w.sub rfl rfl) (kept_spareRefused (w.sub rfl rfl)
            hx0)) (kept_substitute (w.sub rfl rfl) hx0)) (kept_ite (kept_spareRefused (w.sub rfl rfl) hx0) hx0)))
        · exact hx0

theorem kept_execSpare {W : Span} {s0 : State} {x0 x1 x2 x3 x4 x5 x6 x7} (w : Span.le
    ⟨0x80000000000000000000000000000000000000000070000918000880008000000000000000000000000000000000000000000000000000000000000000000000000000000000000000000000000, 1877008⟩ W) (hx7 : Kept W s0 x7) :
    KeptOut W s0 (execSpare x0 x1 x2 x3 x4 x5 x6 x7) := by
  delta execSpare
  exact (KeptOut.of (kept_spareBlock (w.sub rfl rfl) hx7))

theorem kept_execSpareRequestRepeat {W : Span} {s0 : State} {x0 x1} (w : Span.le ⟨0x0, 32768⟩ W) (hx1 : Kept W s0 x1)
    :
    KeptOut W s0 (execSpareRequestRepeat x0 x1) := by
  delta execSpareRequestRepeat
  exact (KeptOut.of (by split; exacts [(by split; exacts [(kept_spareAsk (w.sub rfl rfl) hx1), hx1]), hx1]))

theorem kept_injGo {W : Span} {s0 : State} {x0 x1 x2} (w : Span.le ⟨0x0, 1081344⟩ W) (hx0 : Kept W s0 x0) :
    Kept W s0 (State.injGo x0 x1 x2) := by
  delta State.injGo
  refine kept_ite ?_ ?_
  · exact hx0
  · refine kept_ite ?_ ?_
    · exact (kept_wlDenied (w.sub rfl rfl) hx0)
    · extract_lets v1
      exact (kept_ite hx0 (kept_ite (kept_emit (w.sub rfl rfl) hx0) (kept_ite (kept_emit (w.sub rfl rfl) hx0) hx0)))

theorem kept_execInjGo {W : Span} {s0 : State} {x0 x1 x2} (w : Span.le ⟨0x0, 1081344⟩ W) (hx2 : Kept W s0 x2) :
    KeptOut W s0 (execInjGo x0 x1 x2) := by
  delta execInjGo
  exact (KeptOut.of (kept_injGo (w.sub rfl rfl) hx2))

theorem kept_execContinuousErrorInjection {W : Span} {s0 : State} {x0 x1} (w : Span.le ⟨0x0, 32768⟩ W) (hx1 : Kept W
    s0 x1) :
    KeptOut W s0 (execContinuousErrorInjection x0 x1) := by
  delta execContinuousErrorInjection
  exact (KeptOut.of (kept_ite (kept_emit (w.sub rfl rfl) hx1) hx1))

theorem kept_execPrbsCheckerLock {W : Span} {s0 : State} {x0 x1} (w : Span.le
    ⟨0x100000000000000000000000000000000000000000000000000000000000000000000000000000000000000000000000000000000000000, 0⟩ W) (hx1 : Kept W s0 x1) :
    KeptOut W s0 (execPrbsCheckerLock x0 x1) := by
  delta execPrbsCheckerLock
  exact (KeptOut.of (kept_ite (kept_setReg (w.fld rfl) hx1) hx1))

theorem kept_prbsAdvance {W : Span} {s0 : State} {x0 x1 x2} (w : Span.le
    ⟨0x7000000000000000000000000000000000000000000000000000000000000000000000000000000000000000000000000000000000000000, 1⟩ W) (hx0 : Kept W s0 x0) :
    Kept W s0 (State.prbsAdvance x0 x1 x2) := by
  delta State.prbsAdvance
  extract_lets v1 v3 v5 v6
  have h2 : Kept2 W s0 v1 := (kept_takeNat (w.sub rfl rfl) hx0)
  have h4 : Kept2 W s0 v3 := (kept_takeNat (w.sub rfl rfl) (Kept2.st h2))
  exact (kept_setReg64 (w.fld rfl) (w.fld rfl) (kept_bump (w.fld rfl) (Kept2.st h4)))

theorem kept_prbsCount {W : Span} {s0 : State} {x0 x1 x2} (w : Span.le
    ⟨0x7100000000000000000000000000000000000000000000000000000000000000000000000000000000000000000000000000000000000000, 1⟩ W) (hx0 : Kept W s0 x0) :
    Kept W s0 (State.prbsCount x0 x1 x2) := by
  delta State.prbsCount
  exact (kept_setReg (w.fld rfl) (kept_prbsAdvance (w.sub rfl rfl) hx0))

theorem kept_execPrbsLockLoss {W : Span} {s0 : State} {x0 x1} (w : Span.le
    ⟨0x7100000000000000000000000000000000000000000000000000000000000000000000000000000000000000000000000000000000000000, 1⟩ W) (hx1 : Kept W s0 x1) :
    KeptOut W s0 (execPrbsLockLoss x0 x1) := by
  delta execPrbsLockLoss
  exact (KeptOut.of (kept_ite (kept_prbsCount (w.sub rfl rfl) hx1) hx1))

theorem kept_bankEnter {W : Span} {s0 : State} {x0 x1} (w : Span.le
    ⟨0x68000010000880008000000000000000000000000000000000000000000000000000000000000000000000000000000000000000000000000, 1868816⟩ W) (hx0 : Kept W s0 x0) :
    Kept W s0 (State.bankEnter x0 x1) := by
  delta State.bankEnter
  extract_lets v1 v2 v5
  have h4 : Kept W s0 v2 := (kept_foldl (fun _ _ h3 => (kept_toLane (w.sub rfl rfl) h3)) (kept_setReg (w.fld rfl)
    hx0))
  have h6 : Kept W s0 v5 := (kept_modBundle (w.sub rfl rfl) (kept_updateBundle (w.sub rfl rfl) h4))
  exact (kept_doneAll (w.sub rfl rfl) h6)

theorem kept_bankExit {W : Span} {s0 : State} {x0 x1} (w : Span.le
    ⟨0x8000010000880008000000000000000000000000000000000000000000000000000000000000000000000000000000000000000000000000, 557056⟩ W) (hx0 : Kept W s0 x0) :
    Kept W s0 (State.bankExit x0 x1) := by
  delta State.bankExit
  exact (kept_ite (kept_foldl (fun _ _ h1 => (kept_toLane (w.sub rfl rfl) h1)) (kept_setReg (w.fld rfl) hx0)) hx0)

theorem kept_execBank {W : Span} {s0 : State} {x0 x1 x2 x3} (w : Span.le
    ⟨0x68000010000880008000000000000000000000000000000000000000000000000000000000000000000000000000000000000000000000000, 1868816⟩ W) (hx3 : Kept W s0 x3) :
    KeptOut W s0 (execBank x0 x1 x2 x3) := by
  delta execBank
  exact (KeptOut.of (kept_ite hx3 (kept_ite (kept_ite hx3 (kept_bankEnter (w.sub rfl rfl) (kept_blockAll (w.sub rfl
    rfl) hx3))) (kept_ite (kept_bankEnter (w.sub rfl rfl) hx3) hx3))))

theorem kept_execBankExitSignal {W : Span} {s0 : State} {x0 x1} (w : Span.le
    ⟨0x8000010000880008000000000000000000000000000000000000000000000000000000000000000000000000000000000000000000000000, 557056⟩ W) (hx1 : Kept W s0 x1) :
    KeptOut W s0 (execBankExitSignal x0 x1) := by
  delta execBankExitSignal
  exact (KeptOut.of (kept_bankExit (w.sub rfl rfl) hx1))

theorem kept_cmdWlStreamBind {W : Span} {s0 : State} {x0 x1 x2 x3 x4 x5 x6} (w : Span.le
    ⟨0x7df8000000000000000000000000000000000000000000000000000000000000000000000000000000000000000000000000000000000000000000, 1024⟩ W) (hx6 : Kept W s0 x6) :
    Kept1 W s0 (cmdWlStreamBind x0 x1 x2 x3 x4 x5 x6) := by
  delta cmdWlStreamBind
  extract_lets v1 v2
  exact (kept_refuseIf hx6 (fun _ h3 => (by
      extract_lets v4
      have h5 : Kept W s0 v4 := (kept_setReg (w.fld (f := .wlStreamInGen) rfl) (kept_setReg (w.fld (f :=
        .wlStreamOutGen) rfl) (kept_setReg (w.fld (f := .wlStreamOutLimit) rfl) (kept_setReg (w.fld (f :=
        .wlStreamOutSseq) rfl) (kept_setReg (w.fld (f := .wlStreamInLimit) rfl) (kept_setReg (w.fld (f :=
        .wlStreamBindBundles) rfl) (kept_setReg (w.fld (f := .wlStreamBindPart) rfl) (kept_setReg (w.fld (f :=
        .wlStreamBindPrimary) rfl) (kept_setReg (w.fld (f := .wlStreamBindOutEn) rfl) (kept_setReg (w.fld (f :=
        .wlStreamBindInEn) rfl) (kept_setReg (w.fld (f := .wlStreamBindValid) rfl) h3)))))))))))
      exact (kept_oks (kept_modStream (w.sub rfl rfl) h5)))))

theorem kept_execWlStreamBind {W : Span} {s0 : State} {x0 x1 x2 x3 x4 x5 x6} (w : Span.le
    ⟨0x7df8000000000000000000000000000000000000000000000000000000000000000000000000000000000000000000000000000000000000000000, 1311744⟩ W) (hx6 : Kept W s0 x6) :
    KeptOut W s0 (execWlStreamBind x0 x1 x2 x3 x4 x5 x6) := by
  delta execWlStreamBind
  exact (KeptOut.of (kept_runCmd (w.sub rfl rfl) (fun _ h1 => (kept_cmdWlStreamBind (w.sub rfl rfl) h1)) hx6))

theorem kept_unbind {W : Span} {s0 : State} {x0 x1} (w : Span.le
    ⟨0x1f8000000000000000000000000000000000000000000000000000000000000000000000000000000000000000000000000000000000000000000, 1040⟩ W) (hx0 : Kept W s0 x0) :
    Kept W s0 (State.unbind x0 x1) := by
  delta State.unbind
  extract_lets v1 v2 v5
  have h4 : Kept W s0 v2 := (kept_foldl (fun _ _ h3 => (kept_ite (kept_fifoFrom (w.sub rfl rfl) h3) h3)) hx0)
  exact (kept_modStream (w.sub rfl rfl) (kept_setReg (w.fld rfl) (kept_setReg (w.fld rfl) (kept_setReg (w.fld rfl)
    (kept_setReg (w.fld rfl) (kept_setReg (w.fld rfl) (kept_setReg (w.fld rfl) h4)))))))

theorem kept_cmdWlStreamUnbind {W : Span} {s0 : State} {x0 x1 x2} (w : Span.le
    ⟨0x1f8000000000000000000000000000000000000000000000000000000000000000000000000000000000000000000000000000000000000000000, 1040⟩ W) (hx2 : Kept W s0 x2) :
    Kept1 W s0 (cmdWlStreamUnbind x0 x1 x2) := by
  delta cmdWlStreamUnbind
  extract_lets v1
  exact (kept_refuseIf hx2 (fun _ h2 => (ite_of (P := Kept1 W s0) (kept_oks h2) (ite_of (P := Kept1 W s0) (kept_says
    h2) (kept_oks (kept_unbind (w.sub rfl rfl) h2))))))

theorem kept_execWlStreamUnbind {W : Span} {s0 : State} {x0 x1 x2} (w : Span.le
    ⟨0x1f8000000000000000000000000000000000000000000000000000000000000000000000000000000000000000000000000000000000000000000, 1311760⟩ W) (hx2 : Kept W s0 x2) :
    KeptOut W s0 (execWlStreamUnbind x0 x1 x2) := by
  delta execWlStreamUnbind
  exact (KeptOut.of (kept_runCmd (w.sub rfl rfl) (fun _ h1 => (kept_cmdWlStreamUnbind (w.sub rfl rfl) h1)) hx2))

theorem kept_cmdWlLaneCtl {W : Span} {s0 : State} {x0 x1 x2 x3} (w : Span.le
    ⟨0x80000000000000000000000000000000000000000067100410000880008000000000000000000000000000000000000000000000000000000000000000000000000000000000000000000000000, 1614865⟩ W) (hx3 : Kept W s0 x3) :
    Kept1 W s0 (cmdWlLaneCtl x0 x1 x2 x3) := by
  delta cmdWlLaneCtl
  extract_lets v1 v2
  exact (kept_refuseIf hx3 (fun _ h3 => (ite_of (P := Kept1 W s0) (ite_of (P := Kept1 W s0) (kept_says h3) (kept_oks
    (kept_retrain (w.sub rfl rfl) h3))) (ite_of (P := Kept1 W s0) (ite_of (P := Kept1 W s0) (kept_oks (kept_laneTo
    (w.sub rfl rfl) h3)) (kept_says h3)) (ite_of (P := Kept1 W s0) (ite_of (P := Kept1 W s0) (kept_oks
    (kept_laneDetect (w.sub rfl rfl) (kept_ite (kept_prbsCount (w.sub rfl rfl) h3) h3))) (kept_says h3)) (ite_of (P
    := Kept1 W s0) (ite_of (P := Kept1 W s0) (by
      extract_lets v4
      have h5 : Kept1 W s0 v4 := (kept_laneFault (w.sub rfl rfl) h3)
      exact (ite_of (P := Kept1 W s0) (kept_waits (kept_modBundle (w.sub rfl rfl) (Kept1.st h5))) (kept_says
        (Kept1.st h5))))
    (kept_says h3)) (ite_of (P := Kept1 W s0) (kept_waits (kept_spareAsk (w.sub rfl rfl) (kept_modBundle (w.sub rfl
      rfl) h3))) (kept_says h3))))))))

theorem kept_execWlLaneCtl {W : Span} {s0 : State} {x0 x1 x2 x3} (w : Span.le
    ⟨0x80000000000000000000000000000000000000000067100410000880008000000000000000000000000000000000000000000000000000000000000000000000000000000000000000000000000, 1877009⟩ W) (hx3 : Kept W s0 x3) :
    KeptOut W s0 (execWlLaneCtl x0 x1 x2 x3) := by
  delta execWlLaneCtl
  exact (KeptOut.of (kept_runCmd (w.sub rfl rfl) (fun _ h1 => (kept_cmdWlLaneCtl (w.sub rfl rfl) h1)) hx3))

theorem kept_cmdWlBank {W : Span} {s0 : State} {x0 x1 x2 x3} (w : Span.le
    ⟨0x8000010000880008000000000000000000000000000000000000000000000000000000000000000000000000000000000000000000000000, 558080⟩ W) (hx3 : Kept W s0 x3) :
    Kept1 W s0 (cmdWlBank x0 x1 x2 x3) := by
  delta cmdWlBank
  exact (kept_refuseIf hx3 (fun _ h1 => (ite_of (P := Kept1 W s0) (kept_oks (kept_bankExit (w.sub rfl rfl) h1))
    (kept_waits (kept_modBundle (w.sub rfl rfl) (kept_blockAll (w.sub rfl rfl) h1))))))

theorem kept_execWlBank {W : Span} {s0 : State} {x0 x1 x2 x3} (w : Span.le
    ⟨0x8000010000880008000000000000000000000000000000000000000000000000000000000000000000000000000000000000000000000000, 1868800⟩ W) (hx3 : Kept W s0 x3) :
    KeptOut W s0 (execWlBank x0 x1 x2 x3) := by
  delta execWlBank
  exact (KeptOut.of (kept_runCmd (w.sub rfl rfl) (fun _ h1 => (kept_cmdWlBank (w.sub rfl rfl) h1)) hx3))

theorem kept_lanesReset {W : Span} {s0 : State} {x0 x1} (w : Span.le
    ⟨0x7ffffffffe000000000000000000000000000000000000000000000000000000000000000000000000000000000000000000000000000000000, 1026⟩ W) (hx0 : Kept W s0 x0) :
    Kept W s0 (State.lanesReset x0 x1) := by
  delta State.lanesReset
  extract_lets v1 v2 v3 v6
  have h5 : Kept W s0 v3 := (kept_foldl (fun _ _ h4 => (kept_modLane (w.sub rfl rfl) (kept_startBlock (startBlock_in
    (w.sub rfl rfl)) h4))) hx0)
  have h7 : Kept W s0 v6 := (kept_modBundle (w.sub rfl rfl) (kept_startBlock (startBlock_in (w.sub rfl rfl)) h5))
  exact (kept_foldl (fun _ _ h8 => (kept_modLog (w.sub rfl rfl) h8)) h7)

theorem kept_lanesUp {W : Span} {s0 : State} {x0 x1} (w : Span.le
    ⟨0x60000010000880008000000000000000000000000000000000000000000000000000000000000000000000000000000000000000000000000, 558096⟩ W) (hx0 : Kept W s0 x0) :
    Kept W s0 (State.lanesUp x0 x1) := by
  delta State.lanesUp
  exact (kept_foldl (fun _ _ h1 => (kept_laneDetect (w.sub rfl rfl) h1)) hx0)

end Sys2Proof.Machine
end

