-- ==== Sys2Proof/Laws/KeptObserve.lean ====
section
/-! SUPPORT. What the operations of Machine/Observe.lean keep (see Laws/Kept.lean). -/

namespace Sys2Proof.Machine

theorem kept_setTrigCnt {W : Span} {s0 : State} {x0 x1 x2 x3} (w : Span.le
    ⟨0x18000000000000000000000000000000000000000000000000000, 0⟩ W) (hx0 : Kept W s0 x0) :
    Kept W s0 (State.setTrigCnt x0 x1 x2 x3) := by
  delta State.setTrigCnt
  exact (kept_setReg64 (w.fld rfl) (w.fld rfl) hx0)

theorem kept_trigCntOp {W : Span} {s0 : State} {x0 x1 x2} (w : Span.le
    ⟨0x18000000000000000000000000000000000000000000000000000, 0⟩ W) (hx0 : Kept W s0 x0) :
    Kept W s0 (State.trigCntOp x0 x1 x2) := by
  delta State.trigCntOp
  extract_lets v1 v2
  exact (kept_ite (kept_setTrigCnt (w.sub rfl rfl) hx0) (kept_ite (kept_setTrigCnt (w.sub rfl rfl) hx0) hx0))

theorem kept_trigTmrOp {W : Span} {s0 : State} {x0 x1 x2} (w : Span.le
    ⟨0xc0000000000000000000000000000000000000000000000000000, 16⟩ W) (hx0 : Kept W s0 x0) :
    Kept W s0 (State.trigTmrOp x0 x1 x2) := by
  delta State.trigTmrOp
  extract_lets v1 v2
  exact (kept_ite (kept_modPart (w.sub rfl rfl) (kept_setReg (w.fld rfl) (kept_setReg (w.fld rfl) hx0))) (kept_ite
    (kept_modPart (w.sub rfl rfl) (kept_setReg (w.fld rfl) (kept_setReg (w.fld rfl) hx0))) hx0))

theorem kept_trigFlagOp {W : Span} {s0 : State} {x0 x1 x2} (w : Span.le ⟨0x0, 16⟩ W) (hx0 : Kept W s0 x0) :
    Kept W s0 (State.trigFlagOp x0 x1 x2) := by
  delta State.trigFlagOp
  exact (by extract_lets v1 v2 v3 v4; exact (kept_modPart (w.sub rfl rfl) hx0))

theorem kept_trigApply {W : Span} {s0 : State} {x0 x1 x2} (w : Span.le
    ⟨0xd8780000000000000000000000000000000000000000000000000, 34960⟩ W) (hx0 : Kept W s0 x0) :
    Kept1 W s0 (State.trigApply x0 x1 x2) := by
  delta State.trigApply
  extract_lets v1 v3 v4 v6 v8
  have h2 : Kept W s0 v1 := (kept_trigFlagOp (w.sub rfl rfl) (kept_trigTmrOp (w.sub rfl rfl) (kept_trigCntOp (w.sub
    rfl rfl) hx0)))
  have h5 : Kept W s0 v4 := (kept_setReg64 (w.fld rfl) (w.fld rfl) (kept_setReg (w.fld rfl) h2))
  have h7 : Kept W s0 v6 := (kept_ite (kept_traceSignal (w.sub rfl rfl) h5) h2)
  have h9 : Kept W s0 v8 := (kept_ite (kept_trigPulse (w.sub rfl rfl) h7) h7)
  exact (Kept1.of (kept_setReg (w.fld rfl) h9))

theorem kept_trigArmNow {W : Span} {s0 : State} {x0 x1} (w : Span.le
    ⟨0xd81c0000000000000000000000000000000000000000000000000, 16⟩ W) (hx0 : Kept W s0 x0) :
    Kept W s0 (State.trigArmNow x0 x1) := by
  delta State.trigArmNow
  extract_lets v1 v3 v6
  have h2 : Kept W s0 v1 := (kept_setReg (w.fld rfl) (kept_setReg (w.fld rfl) (kept_setReg (w.fld rfl) hx0)))
  have h5 : Kept W s0 v3 := (kept_foldl (fun _ _ h4 => (kept_setTrigCnt (w.sub rfl rfl) h4)) h2)
  have h8 : Kept W s0 v6 := (kept_foldl (fun _ _ h7 => (kept_setReg (w.fld rfl) (kept_setReg (w.fld rfl) h7))) h5)
  exact (kept_modPart (w.sub rfl rfl) h8)

theorem kept_trigRequests {W : Span} {s0 : State} {x0 x1} (w : Span.le
    ⟨0xd81c0000000000000000000000000000000000000000000000000, 16⟩ W) (hx0 : Kept W s0 x0) :
    Kept W s0 (State.trigRequests x0 x1) := by
  delta State.trigRequests
  extract_lets v1
  exact (kept_ite (kept_trigArmNow (w.sub rfl rfl) hx0) (kept_ite (kept_modPart (w.sub rfl rfl) (kept_setReg (w.fld
    rfl) hx0)) hx0))

theorem kept_trigBoundary {W : Span} {s0 : State} {x0 x1 x2} (w : Span.le
    ⟨0xd87c0000000000000000000000000000000000000000000000000, 34960⟩ W) (hx0 : Kept W s0 x0) :
    Kept1 W s0 (State.trigBoundary x0 x1 x2) := by
  delta State.trigBoundary
  extract_lets v1 v2 v5 v6
  have h4 : Kept W s0 v2 := (kept_foldl (fun _ _ h3 => (kept_setFlag (w.fld rfl) h3)) hx0)
  have h7 : Kept1 W s0 v6 := (by unfold v6; split; exacts [(kept_trigApply (w.sub rfl rfl) h4), (Kept1.of h4)])
  exact (ite_of (P := Kept1 W s0) (Kept1.of (kept_modPart (w.sub rfl rfl) (kept_trigRequests (w.sub rfl rfl) hx0)))
    (ite_of (P := Kept1 W s0) (Kept1.of (kept_modPart (w.sub rfl rfl) (Kept1.st h7))) (Kept1.of (kept_modPart (w.sub
    rfl rfl) hx0))))

theorem kept_execTimerExpired {W : Span} {s0 : State} {x0 x1 x2} (w : Span.le
    ⟨0x80000000000000000000000000000000000000000000000000000, 0⟩ W) (hx2 : Kept W s0 x2) :
    KeptOut W s0 (execTimerExpired x0 x1 x2) := by
  delta execTimerExpired
  exact (KeptOut.of (kept_ite (kept_setReg (w.fld rfl) hx2) hx2))

theorem kept_execTimeReached {W : Span} {s0 : State} {x0 x1} (hx1 : Kept W s0 x1) :
    KeptOut W s0 (execTimeReached x0 x1) := by
  delta execTimeReached
  exact (KeptOut.of hx1)

theorem kept_trigCtl {W : Span} {s0 : State} {x0 x1 x2 x3} (w : Span.le ⟨0x0, 1048592⟩ W) (hx0 : Kept W s0 x0) :
    Kept W s0 (State.trigCtl x0 x1 x2 x3) := by
  delta State.trigCtl
  extract_lets v1 v2
  exact (kept_ite hx0 (kept_ite (kept_auditRefuse (w.sub rfl rfl) hx0) (kept_auditAct (w.sub rfl rfl) (kept_ite
    (kept_modPart (w.sub rfl rfl) hx0) (kept_modPart (w.sub rfl rfl) hx0)))))

theorem kept_execTrigCtlArm {W : Span} {s0 : State} {x0 x1 x2} (w : Span.le ⟨0x0, 1048592⟩ W) (hx2 : Kept W s0 x2) :
    KeptOut W s0 (execTrigCtlArm x0 x1 x2) := by
  delta execTrigCtlArm
  exact (KeptOut.of (kept_trigCtl (w.sub rfl rfl) hx2))

theorem kept_execTrigCtlDisarm {W : Span} {s0 : State} {x0 x1 x2} (w : Span.le ⟨0x0, 1048592⟩ W) (hx2 : Kept W s0 x2)
    :
    KeptOut W s0 (execTrigCtlDisarm x0 x1 x2) := by
  delta execTrigCtlDisarm
  exact (KeptOut.of (kept_trigCtl (w.sub rfl rfl) hx2))

theorem kept_modAcq {W : Span} {s0 : State} {x0 x1 x2} (w : Span.le ⟨0x0, 16⟩ W) (hx0 : Kept W s0 x0) :
    Kept W s0 (State.modAcq x0 x1 x2) := by
  delta State.modAcq
  exact (kept_modPart (w.sub rfl rfl) hx0)

theorem kept_acqOpen {W : Span} {s0 : State} {x0 x1} (w : Span.le
    ⟨0x8000000000000000000000000000000000000000000000000000000000000, 16⟩ W) (hx0 : Kept W s0 x0) :
    Kept W s0 (State.acqOpen x0 x1) := by
  delta State.acqOpen
  exact (kept_ite (kept_setReg (w.fld rfl) (kept_modAcq (w.sub rfl rfl) hx0)) (kept_setReg (w.fld rfl) hx0))

theorem kept_acqWrite {W : Span} {s0 : State} {x0 x1 x2 x3 x4} (w : Span.le
    ⟨0x880000000000000000580000000020000004000000000000000000000000000000000000000000000000000000000000000000,
    524473⟩ W) (hx0 : Kept W s0 x0) :
    Kept W s0 (State.acqWrite x0 x1 x2 x3 x4) := by
  delta State.acqWrite
  extract_lets v1 v3
  have h2 : Kept W s0 v1 := (kept_modAcq (w.sub rfl rfl) hx0)
  have h4 : Kept W s0 v3 := (kept_qOfferAll (w.sub rfl rfl) h2)
  exact (kept_pushAcq (w.sub rfl rfl) h4)

theorem kept_acqClose {W : Span} {s0 : State} {x0 x1 x2} (w : Span.le
    ⟨0x880000000000000000580000000020000004000019010000000000000000000000000000000000000000000000000000000000,
    524473⟩ W) (hx0 : Kept W s0 x0) :
    Kept W s0 (State.acqClose x0 x1 x2) := by
  delta State.acqClose
  extract_lets v1 v3 v4 v6 v8 v10
  have h2 : Kept2 W s0 v1 := (kept_takeNat (w.sub rfl rfl) hx0)
  have h5 : Kept W s0 v4 := (kept_acqWrite (w.sub rfl rfl) (Kept2.st h2))
  have h7 : Kept W s0 v6 := (kept_setReg (w.fld rfl) (kept_setReg (w.fld rfl) h5))
  have h9 : Kept W s0 v8 := (kept_modAcq (w.sub rfl rfl) h7)
  have h11 : Kept W s0 v10 := (kept_ite h9 (kept_setReg (w.fld rfl) h9))
  exact (kept_ite h9 (kept_ite (kept_acqOpen (w.sub rfl rfl) h11) h11))

theorem kept_acqRecord {W : Span} {s0 : State} {x0 x1 x2} (w : Span.le
    ⟨0x880000000000000000580000000020000004000024000000000000000000000000000000000000000000000000000000000000,
    524473⟩ W) (hx0 : Kept W s0 x0) :
    Kept W s0 (State.acqRecord x0 x1 x2) := by
  delta State.acqRecord
  extract_lets v1 v2 v3 v4 v5 v6 v7 v8
  have h9 : Kept W s0 v8 := (kept_acqWrite (w.sub rfl rfl) hx0)
  exact (kept_ite (kept_modAcq (w.sub rfl rfl) (kept_setReg (w.fld rfl) (kept_bump (w.fld rfl) hx0))) (kept_modAcq
    (w.sub rfl rfl) h9))

theorem kept_acqFire {W : Span} {s0 : State} {x0 x1} (w : Span.le
    ⟨0x10000000000000000000000000000000000000000000000000000000000000, 16⟩ W) (hx0 : Kept W s0 x0) :
    Kept2 W s0 (State.acqFire x0 x1) := by
  delta State.acqFire
  extract_lets v1
  exact (ite_of (P := Kept2 W s0) (Kept2.of (kept_setReg (w.fld rfl) (kept_modAcq (w.sub rfl rfl) hx0))) (Kept2.of
    (kept_modAcq (w.sub rfl rfl) hx0)))

theorem kept_acqBoundary {W : Span} {s0 : State} {x0 x1 x2} (w : Span.le
    ⟨0x88000000000000000058000000002000000400003d010000000000000000000000000000000000000000000000000000000000,
    524473⟩ W) (hx0 : Kept W s0 x0) :
    Kept W s0 (State.acqBoundary x0 x1 x2) := by
  delta State.acqBoundary
  extract_lets v1 v3 v5
  have h2 : Kept2 W s0 v1 := (ite_of (P := Kept2 W s0) (kept_acqFire (w.sub rfl rfl) hx0) (Kept2.of hx0))
  have h4 : Kept W s0 v3 := (kept_ite (kept_acqRecord (w.sub rfl rfl) (Kept2.st h2)) (Kept2.st h2))
  exact (kept_ite (kept_ite (kept_acqClose (w.sub rfl rfl) h4) (kept_modAcq (w.sub rfl rfl) h4)) h4)

theorem kept_acqEnabled {W : Span} {s0 : State} {x0 x1 x2} (w : Span.le
    ⟨0x880000000000000000580000000020000004000019010000000000000000000000000000000000000000000000000000000000,
    524473⟩ W) (hx0 : Kept W s0 x0) :
    Kept W s0 (State.acqEnabled x0 x1 x2) := by
  delta State.acqEnabled
  extract_lets v1 v2
  have h3 : Kept W s0 v2 := (kept_ite (kept_acqClose (w.sub rfl rfl) hx0) hx0)
  exact (kept_ite (kept_acqOpen (w.sub rfl rfl) (kept_modAcq (w.sub rfl rfl) hx0)) (kept_ite (kept_setReg (w.fld rfl)
    h3) hx0))

theorem kept_acqCycleStart {W : Span} {s0 : State} {x0 x1 x2} (w : Span.le ⟨0x0, 16⟩ W) (hx0 : Kept W s0 x0) :
    Kept W s0 (State.acqCycleStart x0 x1 x2) := by
  delta State.acqCycleStart
  exact (kept_modAcq (w.sub rfl rfl) hx0)

theorem kept_execAcqSegmentOpen {W : Span} {s0 : State} {x0 x1} (w : Span.le
    ⟨0x8000000000000000000000000000000000000000000000000000000000000, 16⟩ W) (hx1 : Kept W s0 x1) :
    KeptOut W s0 (execAcqSegmentOpen x0 x1) := by
  delta execAcqSegmentOpen
  exact (KeptOut.of (kept_ite (kept_acqOpen (w.sub rfl rfl) hx1) hx1))

theorem kept_modCap {W : Span} {s0 : State} {x0 x1 x2} (w : Span.le ⟨0x0, 16⟩ W) (hx0 : Kept W s0 x0) :
    Kept W s0 (State.modCap x0 x1 x2) := by
  delta State.modCap
  exact (kept_modPart (w.sub rfl rfl) hx0)

theorem kept_capTake {W : Span} {s0 : State} {x0 x1 x2 x3 x4} (w : Span.le
    ⟨0x1f8000000000000000000000000000000000000000000000000000000000000000, 16⟩ W) (hx0 : Kept W s0 x0) :
    Kept W s0 (State.capTake x0 x1 x2 x3 x4) := by
  delta State.capTake
  extract_lets v1 v2 v3 v4 v5
  have h6 : Kept W s0 v5 := (kept_setReg (w.fld rfl) (kept_setReg (w.fld rfl) (kept_setReg (w.fld rfl) (kept_setReg64
    (w.fld rfl) (w.fld rfl) (kept_setReg (w.fld rfl) hx0)))))
  exact (kept_modCap (w.sub rfl rfl) h6)

theorem kept_capCycleStart {W : Span} {s0 : State} {x0 x1 x2} (w : Span.le ⟨0x0, 16⟩ W) (hx0 : Kept W s0 x0) :
    Kept W s0 (State.capCycleStart x0 x1 x2) := by
  delta State.capCycleStart
  exact (by extract_lets v1; exact (kept_ite (kept_modCap (w.sub rfl rfl) hx0) hx0))

theorem kept_capBoundary {W : Span} {s0 : State} {x0 x1 x2 x3 x4} (w : Span.le
    ⟨0x8800080000000000000000000000000000001fc000000000000000000000000000000000000000000000000000000000000000,
    524304⟩ W) (hx0 : Kept W s0 x0) :
    Kept W s0 (State.capBoundary x0 x1 x2 x3 x4) := by
  delta State.capBoundary
  extract_lets v1 v2 v4
  have h3 : Kept W s0 v2 := (kept_ite (kept_capTake (w.sub rfl rfl) hx0) hx0)
  refine kept_ite ?_ ?_
  · exact h3
  · refine kept_ite ?_ ?_
    · exact (kept_setReg (w.fld rfl) h3)
    · split
      exacts [(kept_pEvent (w.sub rfl rfl) (kept_setReg (w.fld rfl) h3)), (kept_capTake (w.sub rfl rfl) h3)]

theorem kept_cmdCaptureRequest {W : Span} {s0 : State} {x0 x1 x2 x3 x4 x5 x6} (w : Span.le
    ⟨0x1f8000000000000000000000000000000000000000000000000000000000000000, 16⟩ W) (hx6 : Kept W s0 x6) :
    Kept1 W s0 (cmdCaptureRequest x0 x1 x2 x3 x4 x5 x6) := by
  delta cmdCaptureRequest
  exact (kept_refuseIf hx6 (fun _ h1 => (by
      extract_lets v2 v3
      have h4 : Kept W s0 v3 := (kept_modCap (w.sub rfl rfl) (kept_setReg (w.fld rfl) h1))
      exact (ite_of (P := Kept1 W s0) (kept_oks (kept_capTake (w.sub rfl rfl) h4)) (kept_oks h4)))))

theorem kept_execCaptureRequest {W : Span} {s0 : State} {x0 x1 x2 x3 x4 x5 x6} (w : Span.le
    ⟨0x1f8000000000000000000000000000000000000000000000000000000000000000, 1310736⟩ W) (hx6 : Kept W s0 x6) :
    KeptOut W s0 (execCaptureRequest x0 x1 x2 x3 x4 x5 x6) := by
  delta execCaptureRequest
  exact (KeptOut.of (kept_runCmd (w.sub rfl rfl) (fun _ h1 => (kept_cmdCaptureRequest (w.sub rfl rfl) h1)) hx6))

theorem kept_capFree {W : Span} {s0 : State} {x0 x1} (w : Span.le
    ⟨0x180c00000000000000000000000000000000000000000000000000000000000000000000000000, 48⟩ W) (hx0 : Kept W s0 x0) :
    Kept W s0 (State.capFree x0 x1) := by
  delta State.capFree
  extract_lets v1 v2
  have h5 : Kept W s0 v2 := (kept_foldl (fun _ _ h3 => (by
      extract_lets v4
      exact (kept_reserveFreed (w.sub rfl rfl) (kept_setReg (w.fld rfl) (kept_setReg (w.fld rfl) (kept_modDramRest
        (w.part rfl) (fun _ => Dram.mem_mk) h3))))))
    hx0)
  exact (kept_modCap (w.sub rfl rfl) h5)

theorem kept_capAbort {W : Span} {s0 : State} {x0 x1} (w : Span.le
    ⟨0x880008000000000000000000180c0000000000a000000000000000000000000000000000000000000000000000000000000000,
    524336⟩ W) (hx0 : Kept W s0 x0) :
    Kept W s0 (State.capAbort x0 x1) := by
  delta State.capAbort
  refine kept_ite ?_ ?_
  · exact hx0
  · extract_lets v1
    have h2 : Kept W s0 v1 := (kept_setReg (w.fld rfl) (kept_setReg (w.fld rfl) (kept_capFree (w.sub rfl rfl) hx0)))
    exact (kept_pEvent (w.sub rfl rfl) (kept_modCap (w.sub rfl rfl) h2))

theorem kept_cmdCaptureRelease {W : Span} {s0 : State} {x0 x1 x2} (w : Span.le
    ⟨0x880008000000000000000000180c0000000000a000000000000000000000000000000000000000000000000000000000000000,
    524336⟩ W) (hx2 : Kept W s0 x2) :
    Kept1 W s0 (cmdCaptureRelease x0 x1 x2) := by
  delta cmdCaptureRelease
  exact (kept_refuseIf hx2 (fun _ h1 => (by
      extract_lets v2
      exact (ite_of (P := Kept1 W s0) (kept_oks (kept_capAbort (w.sub rfl rfl) h1)) (ite_of (P := Kept1 W s0)
        (kept_oks (kept_modCap (w.sub rfl rfl) (kept_setReg (w.fld rfl) (kept_capFree (w.sub rfl rfl) h1))))
        (kept_oks h1))))))

theorem kept_execCaptureRelease {W : Span} {s0 : State} {x0 x1 x2} (w : Span.le
    ⟨0x880008000000000000000000180c0000000000a000000000000000000000000000000000000000000000000000000000000000,
    1835056⟩ W) (hx2 : Kept W s0 x2) :
    KeptOut W s0 (execCaptureRelease x0 x1 x2) := by
  delta execCaptureRelease
  exact (KeptOut.of (kept_runCmd (w.sub rfl rfl) (fun _ h1 => (kept_cmdCaptureRelease (w.sub rfl rfl) h1)) hx2))

theorem kept_restReads {W : Span} {s0 : State} {x0 x1} (w : Span.le ⟨0x820000000000000000000000000, 0⟩ W) (hx0 : Kept
    W s0 x0) :
    Kept W s0 (State.restReads x0 x1) := by
  delta State.restReads
  exact (kept_foldl (fun _ _ h1 => (kept_bankCorr (w.sub rfl rfl) h1)) hx0)

theorem kept_capDrain {W : Span} {s0 : State} {x0 x1} (w : Span.le
    ⟨0x88000800000000000000000018042000000418a000000000000000000000000000000000000820000000000000000000000000,
    590001⟩ W) (hx0 : Kept W s0 x0) :
    Kept W s0 (State.capDrain x0 x1) := by
  delta State.capDrain
  extract_lets v1 v2 v3 v4 v6 v7 v8 v9 v10 v11 v13
  have h5 : Kept2 W s0 v4 := (kept_takeNat (w.sub rfl rfl) (kept_wakeRanks (w.sub rfl rfl) (kept_wakeRanks (w.sub rfl
    rfl) (kept_restReads (w.sub rfl rfl) hx0))))
  have h12 : Kept W s0 v11 := (kept_dramPutRun (w.sub rfl rfl) (Kept2.st h5))
  have h14 : Kept W s0 v13 := (kept_setReg (w.fld rfl) (kept_setReg (w.fld rfl) h12))
  exact (kept_ite hx0 (kept_pEvent (w.sub rfl rfl) (kept_modCap (w.sub rfl rfl) h14)))

theorem kept_execCaptureDrainComplete {W : Span} {s0 : State} {x0 x1} (w : Span.le
    ⟨0x88000800000000000000000018042000000418a000000000000000000000000000000000000820000000000000000000000000,
    590001⟩ W) (hx1 : Kept W s0 x1) :
    KeptOut W s0 (execCaptureDrainComplete x0 x1) := by
  delta execCaptureDrainComplete
  exact (KeptOut.of (kept_capDrain (w.sub rfl rfl) hx1))

theorem kept_cmdCaptureDramRead {W : Span} {s0 : State} {x0 x1 x2 x3 x4 x5 x6} (w : Span.le
    ⟨0x580000000020000004000000000000000000000000000000000000000000000000000000000000000000, 131241⟩ W) (hx6 : Kept W
    s0 x6) :
    Kept1 W s0 (cmdCaptureDramRead x0 x1 x2 x3 x4 x5 x6) := by
  delta cmdCaptureDramRead
  exact (kept_refuseIf hx6 (fun _ h1 => (by
      extract_lets v2 v3 v4 v6
      have h5 : Kept1 W s0 v4 := (kept_dramAccess (w.sub rfl rfl) h1)
      exact (by split; exacts [(kept_waits (Kept1.st h5)), (kept_says (kept_toHost (w.sub rfl rfl) (Kept1.st h5)))]))))

theorem kept_execCaptureDramRead {W : Span} {s0 : State} {x0 x1 x2 x3 x4 x5 x6} (w : Span.le
    ⟨0x580000000020000004000000000000000000000000000000000000000000000000000000000000000000, 1441961⟩ W) (hx6 : Kept
    W s0 x6) :
    KeptOut W s0 (execCaptureDramRead x0 x1 x2 x3 x4 x5 x6) := by
  delta execCaptureDramRead
  exact (KeptOut.of (kept_runCmd (w.sub rfl rfl) (fun _ h1 => (kept_cmdCaptureDramRead (w.sub rfl rfl) h1)) hx6))

theorem kept_cmdStateRead {W : Span} {s0 : State} {x0 x1 x2 x3 x4 x5 x6 x7 x8} (w : Span.le
    ⟨0x8800080000000000005800000000200000040400000000000000000000000000001f0300800bf8000000000000000000000000,
    1982905⟩ W) (hx8 : Kept W s0 x8) :
    Kept1 W s0 (cmdStateRead x0 x1 x2 x3 x4 x5 x6 x7 x8) := by
  delta cmdStateRead
  exact (kept_refuseIf hx8 (fun _ h1 => (ite_of (P := Kept1 W s0) (kept_oks (kept_toHost (w.sub rfl rfl) h1)) (ite_of
    (P := Kept1 W s0) (by
      extract_lets v2
      have h3 : Kept1 W s0 v2 := (kept_dramAccess (w.sub rfl rfl) h1)
      exact (by split; exacts [(kept_waits (Kept1.st h3)), (kept_says (kept_toHost (w.sub rfl rfl) (Kept1.st h3)))]))
    (ite_of (P := Kept1 W s0) (kept_oks h1) (kept_waits (kept_dmaStart (w.sub rfl rfl) h1)))))))

theorem kept_execStateRead {W : Span} {s0 : State} {x0 x1 x2 x3 x4 x5 x6 x7 x8} (w : Span.le
    ⟨0x8800080000000000005800000000200000040400000000000000000000000000001f0300800bf8000000000000000000000000,
    1982905⟩ W) (hx8 : Kept W s0 x8) :
    KeptOut W s0 (execStateRead x0 x1 x2 x3 x4 x5 x6 x7 x8) := by
  delta execStateRead
  exact (KeptOut.of (kept_runCmd (w.sub rfl rfl) (fun _ h1 => (kept_cmdStateRead (w.sub rfl rfl) h1)) hx8))

theorem fabOk_depositUser {x0 x1 x2 x3 x4 x5 x6} (hx0 : FabOk x0) : FabOk (Fab.depositUser x0 x1 x2 x3 x4 x5 x6) := by
  delta Fab.depositUser
  exact (foldl_of (P := FabOk) (fun _ _ h1 => (by
      extract_lets v2 v3
      exact (FabOk.set (h1).instr (h1).route (h1).egress (h1).inject (h1).dict (TabOk.putRun (h1).mem) (h1).banks)))
    hx0)

theorem kept_cmdStateDeposit {W : Span} {s0 : State} {x0 x1 x2 x3 x4 x5 x6 x7 x8 x9 x10} (w : Span.le
    ⟨0x8800080280000000005800000000200000040400000000000000000000000000001f0300800bf8000000000000000000000000,
    1982905⟩ W) (hx10 : Kept W s0 x10) :
    Kept1 W s0 (cmdStateDeposit x0 x1 x2 x3 x4 x5 x6 x7 x8 x9 x10) := by
  delta cmdStateDeposit
  extract_lets v1 v2 v3
  exact (kept_refuseIf hx10 (fun _ h4 => (by
      extract_lets v5 v7
      have h6 : Kept W s0 v5 := (kept_dmaUse (w.sub rfl rfl) h4)
      have h8 : Kept1 W s0 v7 := (kept_dramAccess (w.sub rfl rfl) h6)
      refine ite_of (P := Kept1 W s0) ?_ ?_
      · exact (kept_oks (kept_auditDeposit (w.sub rfl rfl) (Kept.setFab h6 (w.part rfl) (fun i9 => (fabOk_depositUser
          ((h6).fabOk i9))))))
      · refine ite_of (P := Kept1 W s0) ?_ ?_
        · split
          exacts [(kept_waits (Kept1.st h8)), (kept_says (kept_auditDeposit (w.sub rfl rfl) (Kept1.st h8)))]
        · exact (kept_waits (kept_dmaStart (w.sub rfl rfl) h6)))))

theorem kept_execStateDeposit {W : Span} {s0 : State} {x0 x1 x2 x3 x4 x5 x6 x7 x8 x9 x10} (w : Span.le
    ⟨0x8800080280000000005800000000200000040400000000000000000000000000001f0300800bf8000000000000000000000000,
    1982905⟩ W) (hx10 : Kept W s0 x10) :
    KeptOut W s0 (execStateDeposit x0 x1 x2 x3 x4 x5 x6 x7 x8 x9 x10) := by
  delta execStateDeposit
  exact (KeptOut.of (kept_runCmd (w.sub rfl rfl) (fun _ h1 => (kept_cmdStateDeposit (w.sub rfl rfl) h1)) hx10))

end Sys2Proof.Machine
end

