-- ==== Sys2Proof/Laws/KeptBillets.lean ====
section
/-! SUPPORT. What the operations of Machine/Billets.lean keep (see Laws/Kept.lean). -/

namespace Sys2Proof.Machine

theorem kept_retireRegion {W : Span} {s0 : State} {x0 x1} (w : Span.le
    ⟨0x200800000000000000000000000000000000000000000000000000008800080000000000000000000000000000000000000000000000000000000000001f0300800000000000000000000000000000, 1597456⟩ W) (hx0 : Kept W s0 x0) :
    Kept W s0 (State.retireRegion x0 x1) := by
  delta State.retireRegion
  refine kept_ite ?_ ?_
  · exact hx0
  · extract_lets v1 v3
    have h2 : Kept W s0 v1 := (kept_setRecord (w.sub rfl rfl) (w.fld rfl) hx0)
    have h4 : Kept W s0 v3 := (by unfold v3; split; exacts [(kept_assertEntry (w.sub rfl rfl) h2), h2])
    exact (kept_condition (w.sub rfl rfl) h4)

theorem kept_billetsLow {W : Span} {s0 : State} {x0} (w : Span.le
    ⟨0x80000000000000000000000000000000000000000000000000000880008000000000000000000000000000000000000000000000000000000000000000000000000000000000000000000000000, 1581056⟩ W) (hx0 : Kept W s0 x0) :
    Kept W s0 (State.billetsLow x0) := by
  delta State.billetsLow
  extract_lets v1
  exact (kept_ite (kept_condition (w.sub rfl rfl) hx0) (kept_ite (kept_setRecord (w.sub rfl rfl) (w.fld rfl) hx0)
    hx0))

theorem kept_startInsertion {W : Span} {s0 : State} {x0 x1 x2 x3 x4} (w : Span.le
    ⟨0x1f0300800000000000000000000000000000, 16400⟩ W) (hx0 : Kept W s0 x0) :
    Kept W s0 (State.startInsertion x0 x1 x2 x3 x4) := by
  delta State.startInsertion
  extract_lets v1 v2 v4
  have h3 : Kept W s0 v2 := by
    unfold v2
    clear_value v1
    split
    exacts [(kept_assertCause (w.sub rfl rfl) hx0), hx0]
  exact (Kept.setSvc h3 (w.part rfl))

theorem kept_nextInsertion {W : Span} {s0 : State} {x0} (w : Span.le ⟨0x1f0300800000000000000000000000000000, 16400⟩
    W) (hx0 : Kept W s0 x0) :
    Kept W s0 (State.nextInsertion x0) := by
  delta State.nextInsertion
  split
  exacts [hx0, (by split; exacts [hx0, (kept_startInsertion (w.sub rfl rfl) (Kept.setSvc hx0 (w.part rfl)))])]

theorem kept_requestInsertion {W : Span} {s0 : State} {x0 x1 x2 x3 x4} (w : Span.le
    ⟨0x1f0300800000000000000000000000000000, 16400⟩ W) (hx0 : Kept W s0 x0) :
    Kept W s0 (State.requestInsertion x0 x1 x2 x3 x4) := by
  delta State.requestInsertion
  exact (kept_nextInsertion (w.sub rfl rfl) (Kept.setSvc hx0 (w.part rfl)))

theorem kept_careFor {W : Span} {s0 : State} {x0 x1 x2} (w : Span.le
    ⟨0x200800000000000000000000000000000000000000000000000000008800080000000000000000000000000000000000000000000000000000000000001f0300800000000000000000000000000000, 1597456⟩ W) (hx0 : Kept W s0 x0) :
    Kept W s0 (State.careFor x0 x1 x2) := by
  delta State.careFor
  extract_lets v1 v2 v3 v5
  have h4 : Kept W s0 v3 := (kept_ite (kept_retireRegion (w.sub rfl rfl) hx0) hx0)
  exact (kept_ite hx0 (kept_billetsLow (w.sub rfl rfl) (kept_ite h4 (kept_requestInsertion (w.sub rfl rfl) h4))))

theorem kept_careForNew {W : Span} {s0 : State} {x0 x1} (w : Span.le
    ⟨0x200800000000000000000000000000000000000000000000000000008800080000000000000000000000000000000000000000000000000000000000001f0300800000000000000000000000000000, 1597456⟩ W) (hx0 : Kept W s0 x0) :
    Kept W s0 (State.careForNew x0 x1) := by
  delta State.careForNew
  exact (kept_ite hx0 (kept_foldl (fun _ _ h1 => (kept_careFor (w.sub rfl rfl) h1)) hx0))

theorem kept_mapBillet {W : Span} {s0 : State} {x0 x1 x2 x3} (w : Span.le ⟨0xc00000000, 8200⟩ W) (hx2 : Kept W s0 x2)
    :
    Kept W s0 (State.mapBillet x0 x1 x2 x3) := by
  delta State.mapBillet
  extract_lets v1 v2 v5 v7 v8
  have h4 : Kept W s0 v2 := (kept_foldl (fun _ _ h3 => (kept_ite (kept_setRecord (w.sub rfl rfl) (w.fld rfl)
    (kept_setRecord (w.sub rfl rfl) (w.fld rfl) h3)) h3)) hx2)
  have h6 : Kept W s0 v5 := (kept_setRecord (w.sub rfl rfl) (w.fld rfl) (kept_setRecord (w.sub rfl rfl) (w.fld rfl)
    h4))
  exact (Kept.setFab h6 (w.part rfl) (fun i9 => (FabOk.set (((h6).fabOk i9)).instr (((h6).fabOk i9)).route
    (((h6).fabOk i9)).egress (((h6).fabOk i9)).inject (((h6).fabOk i9)).dict (((h6).fabOk i9)).mem (((h6).fabOk
    i9)).banks)))

theorem kept_endInsertion {W : Span} {s0 : State} {x0 x1 x2} (w : Span.le ⟨0x1f0300800000000000000000000000000000,
    1327120⟩ W) (hx0 : Kept W s0 x0) :
    Kept W s0 (State.endInsertion x0 x1 x2) := by
  delta State.endInsertion
  extract_lets v1 v2 v4 v6
  have h3 : Kept W s0 v2 := (Kept.setSvc hx0 (w.part rfl))
  have h5 : Kept W s0 v4 := (by unfold v4; split; exacts [(kept_releaseCause (w.sub rfl rfl) h3), h3])
  have h7 : Kept W s0 v6 := (by unfold v6; split; exacts [(kept_done (w.sub rfl rfl) h5), h5])
  exact (kept_nextInsertion (w.sub rfl rfl) h7)

theorem kept_copyComplete {W : Span} {s0 : State} {x0 x1} (w : Span.le
    ⟨0x240980000000000000000000000000000000000000000000000000008800080000000000000000000000000000000000000000000000000000000000001f0300800000000000000000000c00000000, 1859608⟩ W) (hx0 : Kept W s0 x0) :
    Kept W s0 (State.copyComplete x0 x1) := by
  delta State.copyComplete
  split
  · exact hx0
  · extract_lets v1 v2 v3 v4 v7 v8 v11 v13 v14 v16
    have h6 : Kept W s0 v4 := (kept_foldl (fun _ _ h5 => (kept_markFailed (w.sub rfl rfl) h5)) hx0)
    have h10 : Kept W s0 v8 := (kept_countBillets (w.sub rfl rfl) (kept_foldl (fun _ _ h9 => (kept_mapBillet (w.sub
      rfl rfl) h9)) h6))
    have h12 : Kept W s0 v11 := (kept_ite h10 (kept_mEvent (w.sub rfl rfl) (kept_bump (w.fld rfl) h10)))
    have h15 : Kept W s0 v14 := (kept_billetsLow (w.sub rfl rfl) (kept_ite (kept_retireRegion (w.sub rfl rfl) h12)
      h12))
    exact (kept_ite hx0 (kept_ite (Kept.setSvc h15 (w.part rfl)) (kept_endInsertion (w.sub rfl rfl) h15)))

theorem kept_billetInsertion {W : Span} {s0 : State} {x0 x1 x2 x3} (w : Span.le
    ⟨0x1f0300800000000000000000000000000000, 16400⟩ W) (hx0 : Kept W s0 x0) :
    Kept W s0 (State.billetInsertion x0 x1 x2 x3) := by
  delta State.billetInsertion
  exact (kept_ite (kept_nextInsertion (w.sub rfl rfl) hx0) (kept_requestInsertion (w.sub rfl rfl) hx0))

theorem kept_execBilletInsertion {W : Span} {s0 : State} {x0 x1 x2 x3} (w : Span.le
    ⟨0x1f0300800000000000000000000000000000, 16400⟩ W) (hx3 : Kept W s0 x3) :
    KeptOut W s0 (execBilletInsertion x0 x1 x2 x3) := by
  delta execBilletInsertion
  exact (KeptOut.of (kept_billetInsertion (w.sub rfl rfl) hx3))

theorem kept_execBilletCopyComplete {W : Span} {s0 : State} {x0 x1} (w : Span.le
    ⟨0x240980000000000000000000000000000000000000000000000000008800080000000000000000000000000000000000000000000000000000000000001f0300800000000000000000000c00000000, 1859608⟩ W) (hx1 : Kept W s0 x1) :
    KeptOut W s0 (execBilletCopyComplete x0 x1) := by
  delta execBilletCopyComplete
  exact (KeptOut.of (kept_copyComplete (w.sub rfl rfl) hx1))

end Sys2Proof.Machine
end

