-- ==== Sys2Proof/Laws/KeptSettings.lean ====
section
/-! SUPPORT. What the operations of Machine/Settings.lean keep (see Laws/Kept.lean). -/

namespace Sys2Proof.Machine

theorem kept_copyLost {W : Span} {s0 : State} {x0} (w : Span.le ⟨0x0, 8192⟩ W) (hx0 : Kept W s0 x0) :
    Kept W s0 (State.copyLost x0) := by
  delta State.copyLost
  exact (Kept.setSys hx0 (w.part rfl) Sys.factoryBad_mk)

theorem kept_saveImage {W : Span} {s0 : State} {x0} (w : Span.le
    ⟨0xc000000000000000000000000000000000000000000000000000000000000000000000000000000000000000000000000000000000000000000000000000000000000000000000000000000, 8192⟩ W) (hx0 : Kept W s0 x0) :
    Kept W s0 (State.saveImage x0) := by
  delta State.saveImage
  extract_lets v1 v2 v3
  exact (kept_setReg (w.fld rfl) (kept_setReg (w.fld rfl) (Kept.setSys hx0 (w.part rfl) Sys.factoryBad_mk)))

theorem kept_setEntry {W : Span} {s0 : State} {x0 x1 x2 x3 x4} (w : Span.le ⟨0x0, 8192⟩ W) (hx0 : Kept W s0 x0) :
    Kept W s0 (State.setEntry x0 x1 x2 x3 x4) := by
  delta State.setEntry
  exact (Kept.setSys hx0 (w.part rfl) Sys.factoryBad_mk)

theorem kept_applyField {W : Span} {s0 : State} {x0 x1 x2 x3} (w : Span.le ⟨0x0, 8192⟩ W) (hx0 : Kept W s0 x0) :
    KeptOpt W s0 (State.applyField x0 x1 x2 x3) := by
  delta State.applyField
  split
  · exact trivial
  · extract_lets v1 v2 v3
    exact (ite_of (P := KeptOpt W s0) trivial (KeptOpt.of (kept_foldl (fun _ _ h4 => (kept_setEntry (w.sub rfl rfl)
      h4)) hx0)))

theorem kept_applyRecord {W : Span} {s0 : State} {x0 x1 x2} (w : Span.le ⟨0x0, 2105344⟩ W) (hx0 : Kept W s0 x0) :
    KeptOpt W s0 (State.applyRecord x0 x1 x2) := by
  delta State.applyRecord
  refine ite_of (P := KeptOpt W s0) ?_ ?_
  · exact (ite_of (P := KeptOpt W s0) (kept_applyField (w.sub rfl rfl) hx0) trivial)
  · refine ite_of (P := KeptOpt W s0) ?_ ?_
    · refine ite_of (P := KeptOpt W s0) ?_ ?_
      · exact (KeptOpt.of (Kept.setHost hx0 (fun i1 => (by
            extract_lets v2
            have h3 : HostOk v2 := ((hx0).hostOk i1)
            exact (HostOk.set (h3).mem)))
          (.inr rfl) (.inr ⟨rfl, rfl, rfl, rfl, rfl⟩) (.inr ⟨rfl, rfl⟩) (.inr ⟨rfl, rfl, rfl, rfl, rfl⟩) (.inl
            (w.part rfl)) (.inr rfl)))
      · exact trivial
    · refine ite_of (P := KeptOpt W s0) ?_ ?_
      · refine ite_of (P := KeptOpt W s0) ?_ ?_
        · exact (KeptOpt.of (Kept.setHost hx0 (fun i4 => (by
              extract_lets v5
              have h6 : HostOk v5 := ((hx0).hostOk i4)
              exact (HostOk.set (h6).mem)))
            (.inr rfl) (.inr ⟨rfl, rfl, rfl, rfl, rfl⟩) (.inr ⟨rfl, rfl⟩) (.inr ⟨rfl, rfl, rfl, rfl, rfl⟩) (.inl
              (w.part rfl)) (.inr rfl)))
        · exact trivial
      · exact (ite_of (P := KeptOpt W s0) (ite_of (P := KeptOpt W s0) (KeptOpt.of (kept_foldl (fun _ _ h7 =>
          (kept_setEntry (w.sub rfl rfl) h7)) hx0)) trivial) trivial)

theorem kept_applyRecords {W : Span} {s0 : State} {l s n} (w : Span.le ⟨0x0, 2105344⟩ W) (h : Kept W s0 s) :
    Kept1 W s0 (applyRecords l s n) := by
  induction l generalizing s n with
  | nil => exact h
  | cons e l ih =>
    unfold applyRecords
    have hr : KeptOpt W s0 (s.applyRecord e.1 e.2) := kept_applyRecord (w.sub rfl rfl) h
    split
    · next e1 => rw [e1] at hr; exact ih hr
    · exact ih h

theorem kept_settingsEvent {W : Span} {s0 : State} {x0 x1} (w : Span.le
    ⟨0x880008000000000000000000000000000000000000000000000000000000000000000000000000000000000000000000000000,
    524288⟩ W) (hx0 : Kept W s0 x0) :
    Kept W s0 (State.settingsEvent x0 x1) := by
  delta State.settingsEvent
  exact (kept_mEvent (w.sub rfl rfl) hx0)

theorem kept_fillSettings {W : Span} {s0 : State} {x0} (w : Span.le
    ⟨0xe000000000000000000000000000000000000000000000000880008000000000000000000000000000000000000000000000000000000000000000000000000000000000000000000000000, 3678208⟩ W) (hx0 : Kept W s0 x0) :
    Kept W s0 (State.fillSettings x0) := by
  delta State.fillSettings
  extract_lets v1 v2 v3 v6 v7
  have h5 : Kept W s0 v3 := (Kept.many hx0 (fun i4 => (hx0).regsOk i4) (.inr rfl) (fun i4 => ((hx0).fabOk i4)) (fun
    i4 => ((hx0).dramOk i4)) (fun i4 => (HostOk.set (((hx0).hostOk i4)).mem)) Sys.factoryBad_mk (.inr rfl) (.inr rfl)
    (.inr rfl) (.inr rfl) (.inr rfl) (.inr rfl) (.inr rfl) (.inr rfl) (.inr rfl) (.inr rfl) (.inr rfl) (.inr rfl)
    (.inr rfl) (.inl (w.part rfl)) (.inr rfl) (.inr rfl) (.inr rfl) (.inr rfl) (.inr ⟨rfl, rfl, rfl, rfl, rfl⟩) (.inr
    ⟨rfl, rfl⟩) (.inr ⟨rfl, rfl, rfl, rfl, rfl⟩) (.inl (w.part rfl)))
  have h8 : Kept W s0 v7 := (kept_setReg (w.fld rfl) (kept_setReg (w.fld rfl) h5))
  split
  · exact (kept_auditAction (w.sub rfl rfl) (kept_settingsEvent (w.sub rfl rfl) h8))
  · extract_lets v9 v11
    have h10 : Kept1 W s0 v9 := (kept_applyRecords (w.sub rfl rfl) h5)
    have h12 : Kept W s0 v11 := (kept_setReg (w.fld rfl) (kept_setReg (w.fld rfl) (kept_setReg (w.fld rfl) (Kept1.st
      h10))))
    exact (kept_ite h12 (kept_settingsEvent (w.sub rfl rfl) h12))

end Sys2Proof.Machine
end

