-- ==== Sys2Proof/Laws/KeptLoad.lean ====
section
/-! SUPPORT. What the operations of Machine/Load.lean keep (see Laws/Kept.lean). -/

namespace Sys2Proof.Machine

theorem kept_setKey {W : Span} {s0 : State} {x0 x1 x2 x3} (w : Span.le
    ⟨0xc000000000000000000000000000000000000000000000000000000000000000000000000000000000000000000000000000000000000000000000000000000000000000000000000000000, 3153920⟩ W) (hx0 : Kept W s0 x0) :
    Kept W s0 (State.setKey x0 x1 x2 x3) := by
  delta State.setKey
  extract_lets v1 v2 v3
  have h5 : Kept W s0 v3 := (kept_saveImage (w.sub rfl rfl) (Kept.setHost hx0 (fun i4 => (HostOk.set (((hx0).hostOk
    i4)).mem)) (.inr rfl) (.inr ⟨rfl, rfl, rfl, rfl, rfl⟩) (.inr ⟨rfl, rfl⟩) (.inr ⟨rfl, rfl, rfl, rfl, rfl⟩) (.inl
    (w.part rfl)) (.inr rfl)))
  exact (kept_audit (w.sub rfl rfl) h5)

theorem kept_cmdImageKeySet {W : Span} {s0 : State} {x0 x1 x2 x3 x4} (w : Span.le
    ⟨0xc000000000000000000000000000000000000000000000000000000000000000000000000000000000000000000000000000000000000000000000000000000000000000000000000000000, 3153920⟩ W) (hx4 : Kept W s0 x4) :
    Kept1 W s0 (cmdImageKeySet x0 x1 x2 x3 x4) := by
  delta cmdImageKeySet
  exact (kept_refuseIf hx4 (fun _ h1 => (ite_of (P := Kept1 W s0) (kept_says (kept_copyLost (w.sub rfl rfl) h1))
    (kept_oks (kept_setKey (w.sub rfl rfl) h1)))))

theorem kept_execImageKeySet {W : Span} {s0 : State} {x0 x1 x2 x3 x4} (w : Span.le
    ⟨0xc000000000000000000000000000000000000000000000000000000000000000000000000000000000000000000000000000000000000000000000000000000000000000000000000000000, 3416064⟩ W) (hx4 : Kept W s0 x4) :
    KeptOut W s0 (execImageKeySet x0 x1 x2 x3 x4) := by
  delta execImageKeySet
  exact (KeptOut.of (kept_runCmd (w.sub rfl rfl) (fun _ h1 => (kept_cmdImageKeySet (w.sub rfl rfl) h1)) hx4))

theorem kept_cmdImageKeyClear {W : Span} {s0 : State} {x0 x1 x2 x3} (w : Span.le
    ⟨0xc000000000000000000000000000000000000000000000000000000000000000000000000000000000000000000000000000000000000000000000000000000000000000000000000000000, 3153920⟩ W) (hx3 : Kept W s0 x3) :
    Kept1 W s0 (cmdImageKeyClear x0 x1 x2 x3) := by
  delta cmdImageKeyClear
  exact (kept_refuseIf hx3 (fun _ h1 => (ite_of (P := Kept1 W s0) (kept_says (kept_copyLost (w.sub rfl rfl) h1))
    (kept_oks (kept_setKey (w.sub rfl rfl) h1)))))

theorem kept_execImageKeyClear {W : Span} {s0 : State} {x0 x1 x2 x3} (w : Span.le
    ⟨0xc000000000000000000000000000000000000000000000000000000000000000000000000000000000000000000000000000000000000000000000000000000000000000000000000000000, 3416064⟩ W) (hx3 : Kept W s0 x3) :
    KeptOut W s0 (execImageKeyClear x0 x1 x2 x3) := by
  delta execImageKeyClear
  exact (KeptOut.of (kept_runCmd (w.sub rfl rfl) (fun _ h1 => (kept_cmdImageKeyClear (w.sub rfl rfl) h1)) hx3))

theorem kept_loadRegs {W : Span} {s0 : State} {x0 x1 x2} (w : Span.le
    ⟨0xffe0000000000000000000000000000000000000000000000, 0⟩ W) (hx0 : Kept W s0 x0) :
    Kept W s0 (State.loadRegs x0 x1 x2) := by
  delta State.loadRegs
  extract_lets v1 v3
  have h2 : Kept W s0 v1 := (kept_setReg (w.fld rfl) (kept_setReg (w.fld rfl) (kept_setReg (w.fld rfl) (kept_setReg
    (w.fld rfl) (kept_setReg (w.fld rfl) (kept_setReg (w.fld rfl) (kept_setReg (w.fld rfl) (kept_setReg (w.fld rfl)
    hx0))))))))
  have h5 : Kept W s0 v3 := (kept_foldl (fun _ _ h4 => (kept_setReg (w.fld rfl) h4)) h2)
  exact (kept_setReg (w.fld rfl) (kept_setReg (w.fld rfl) h5))

theorem kept_loadDequeue {W : Span} {s0 : State} {x0} (w : Span.le
    ⟨0x20000000000000000000000000000000000000000000000, 0⟩ W) (hx0 : Kept W s0 x0) :
    Kept W s0 (State.loadDequeue x0) := by
  delta State.loadDequeue
  exact (kept_ite hx0 (by extract_lets v1 v2; exact (by split; exacts [(kept_setReg (w.fld rfl) hx0), hx0])))

theorem kept_execLoadDequeue {W : Span} {s0 : State} {x0} (w : Span.le
    ⟨0x20000000000000000000000000000000000000000000000, 0⟩ W) (hx0 : Kept W s0 x0) :
    KeptOut W s0 (execLoadDequeue x0) := by
  delta execLoadDequeue
  exact (KeptOut.of (kept_loadDequeue (w.sub rfl rfl) hx0))

theorem kept_dropFlights {W : Span} {s0 : State} {x0 x1} (w : Span.le
    ⟨0x5800000000200000040000000000000000000000000000000f0200120000000000000000000000000000, 65721⟩ W) (hx0 : Kept W
    s0 x0) :
    Kept W s0 (State.dropFlights x0 x1) := by
  delta State.dropFlights
  extract_lets v1 v2 v3 v4 v5
  have h7 : Kept W s0 v5 := (Kept.many hx0 (fun i6 => (hx0).regsOk i6) (.inr rfl) (fun i6 => (FabOk.set (((hx0).fabOk
    i6)).instr (((hx0).fabOk i6)).route (((hx0).fabOk i6)).egress (((hx0).fabOk i6)).inject (((hx0).fabOk i6)).dict
    (((hx0).fabOk i6)).mem (((hx0).fabOk i6)).banks)) (fun i6 => (DramOk.set (((hx0).dramOk i6)).mem)) (fun i6 =>
    ((hx0).hostOk i6)) rfl (.inr rfl) (.inr rfl) (.inr rfl) (.inl (w.part rfl)) (.inr rfl) (.inl (w.part rfl)) (.inr
    rfl) (.inr rfl) (.inr rfl) (.inr rfl) (.inr rfl) (.inr rfl) (.inr rfl) (.inr rfl) (.inr rfl) (.inr rfl) (.inl
    (w.part rfl)) (.inr rfl) (.inr (HostIf.sameCommands.refl _)) (.inr (HostIf.sameQueues.refl _)) (.inr
    (HostIf.sameLog.refl _)) (.inr (HostIf.sameKeys.refl _)))
  exact (kept_dropReqs (w.sub rfl rfl) h7)

theorem kept_discardImage {W : Span} {s0 : State} {x0 x1} (w : Span.le
    ⟨0x880008000000000000580000180c2000000400a0000000000000000000000000000f0200120000000000000000000000000000,
    590009⟩ W) (hx0 : Kept W s0 x0) :
    Kept W s0 (State.discardImage x0 x1) := by
  delta State.discardImage
  exact (kept_capAbort (w.sub rfl rfl) (kept_modPart (w.sub rfl rfl) (kept_dropFlights (w.sub rfl rfl) hx0)))

theorem kept_loadOpen {W : Span} {s0 : State} {x0 x1 x2} (w : Span.le
    ⟨0x880008000000000000580000180c2000000400a0000000000000000000000000000f0204320000000000000000000000000000,
    592057⟩ W) (hx0 : Kept W s0 x0) :
    Kept W s0 (State.loadOpen x0 x1 x2) := by
  delta State.loadOpen
  extract_lets v1 v3
  have h2 : Kept W s0 v1 := (kept_discardImage (w.sub rfl rfl) hx0)
  have h4 : Kept W s0 v3 := (kept_ite (kept_enterMode (w.sub rfl rfl) h2) h2)
  exact (kept_modPart (w.sub rfl rfl) (kept_setHolds (w.sub rfl rfl) h4))

theorem kept_releaseAllocs {W : Span} {s0 : State} {x0 x1} (w : Span.le ⟨0x80000000000000000000000000000, 16⟩ W) (hx0
    : Kept W s0 x0) :
    Kept W s0 (State.releaseAllocs x0 x1) := by
  delta State.releaseAllocs
  exact (kept_foldl (fun _ _ h1 => (kept_setReg (w.fld rfl) h1)) (kept_modPart (w.sub rfl rfl) hx0))

theorem kept_loadEnd {W : Span} {s0 : State} {x0 x1 x2 x3 x4} (w : Span.le
    ⟨0xc038000000000000000080000000000000000000000000000, 1310768⟩ W) (hx0 : Kept W s0 x0) :
    Kept W s0 (State.loadEnd x0 x1 x2 x3 x4) := by
  delta State.loadEnd
  split
  · exact hx0
  · extract_lets v1 v2 v3 v5 v7
    have h4 : Kept W s0 v3 := (kept_setReg (w.fld rfl) (kept_setReg (w.fld rfl) (kept_setReg (w.fld rfl) (kept_setReg
      (w.fld rfl) (kept_setReg (w.fld rfl) hx0)))))
    have h6 : Kept W s0 v5 := (kept_dramForget (w.sub rfl rfl) (kept_answer (w.sub rfl rfl) h4))
    have h8 : Kept W s0 v7 := (kept_modPart (w.sub rfl rfl) h6)
    exact (kept_ite (kept_releaseAllocs (w.sub rfl rfl) h8) h8)

theorem kept_loadFail {W : Span} {s0 : State} {x0 x1 x2} (w : Span.le
    ⟨0x880008000000000000580000180c2000000400a00000000000000c0380000000000f02043a0000000000000000000000000000,
    1902777⟩ W) (hx0 : Kept W s0 x0) :
    Kept W s0 (State.loadFail x0 x1 x2) := by
  delta State.loadFail
  extract_lets v1
  have h2 : Kept W s0 v1 := (by unfold v1; split; exacts [(kept_ite (kept_loadOpen (w.sub rfl rfl) hx0) hx0), hx0])
  exact (kept_loadEnd (w.sub rfl rfl) h2)

theorem kept_loadDma {W : Span} {s0 : State} {x0 x1 x2} (w : Span.le
    ⟨0x880008200000000000580000180c2000000400a00000000000000c0380000000000f02043a0000000000000000000000000000,
    1902777⟩ W) (hx0 : Kept W s0 x0) :
    Kept W s0 (State.loadDma x0 x1 x2) := by
  delta State.loadDma
  exact (kept_loadFail (w.sub rfl rfl) (kept_setReg (w.fld rfl) hx0))

theorem kept_toStage {W : Span} {s0 : State} {x0 x1 x2} (w : Span.le
    ⟨0x20000000000000000000000000000000000000000000000, 0⟩ W) (hx0 : Kept W s0 x0) :
    Kept W s0 (State.toStage x0 x1 x2) := by
  delta State.toStage
  exact (kept_setReg (w.fld rfl) hx0)

theorem kept_cmdPartLoad {W : Span} {s0 : State} {x0 x1 x2 x3 x4 x5 x6} (w : Span.le
    ⟨0xffe0000000000000000000000000000000000000000000000, 16400⟩ W) (hx6 : Kept W s0 x6) :
    Kept1 W s0 (cmdPartLoad x0 x1 x2 x3 x4 x5 x6) := by
  delta cmdPartLoad
  extract_lets v1
  exact (kept_refuseIf hx6 (fun _ h2 => (by
      extract_lets v3 v4 v5
      have h6 : Kept W s0 v5 := (kept_loadRegs (w.sub rfl rfl) (kept_modPart (w.sub rfl rfl) h2))
      exact (kept_waits (kept_ite h6 (kept_outageReload (w.sub rfl rfl) h6))))))

theorem kept_execPartLoad {W : Span} {s0 : State} {x0 x1 x2 x3 x4 x5 x6} (w : Span.le
    ⟨0xffe0000000000000000000000000000000000000000000000, 1327120⟩ W) (hx6 : Kept W s0 x6) :
    KeptOut W s0 (execPartLoad x0 x1 x2 x3 x4 x5 x6) := by
  delta execPartLoad
  exact (KeptOut.of (kept_runCmd (w.sub rfl rfl) (fun _ h1 => (kept_cmdPartLoad (w.sub rfl rfl) h1)) hx6))

theorem kept_loadHeader {W : Span} {s0 : State} {x0 x1 x2} (w : Span.le
    ⟨0x880008228000000000580000180c2000000400a00000000000000f8380000000000f02043a0000000000000000000000000000,
    1902777⟩ W) (hx0 : Kept W s0 x0) :
    Kept W s0 (State.loadHeader x0 x1 x2) := by
  delta State.loadHeader
  split
  · exact hx0
  · extract_lets v1 v3 v4 v5 v8 v10 v11 v13
    have h2 : Kept W s0 v1 := (kept_dmaUse (w.sub rfl rfl) hx0)
    have h7 : Kept W s0 v5 := (kept_foldl (fun _ _ h6 => (kept_setReg (w.fld rfl) h6)) (kept_setReg (w.fld rfl) h2))
    have h9 : Kept W s0 v8 := (kept_modPart (w.sub rfl rfl) h7)
    have h12 : Kept W s0 v11 := (kept_modPart (w.sub rfl rfl) h9)
    refine kept_ite ?_ ?_
    · exact (kept_loadDma (w.sub rfl rfl) h2)
    · split
      · exact (kept_loadFail (w.sub rfl rfl) h9)
      · refine kept_ite ?_ ?_
        · exact (kept_loadDma (w.sub rfl rfl) h9)
        · refine kept_ite ?_ ?_
          · exact (kept_loadFail (w.sub rfl rfl) h12)
          · split
            · exact (kept_loadFail (w.sub rfl rfl) h12)
            · extract_lets v14
              have h15 : Kept W s0 v14 := (kept_setReg (w.fld rfl) h12)
              refine kept_ite ?_ ?_
              · exact (kept_loadDma (w.sub rfl rfl) h15)
              · exact (by split; exacts [(kept_loadFail (w.sub rfl rfl) h15), (kept_toStage (w.sub rfl rfl) h15)])

theorem kept_execLoadHeader {W : Span} {s0 : State} {x0 x1 x2} (w : Span.le
    ⟨0x880008228000000000580000180c2000000400a00000000000000f8380000000000f02043a0000000000000000000000000000,
    1902777⟩ W) (hx2 : Kept W s0 x2) :
    KeptOut W s0 (execLoadHeader x0 x1 x2) := by
  delta execLoadHeader
  exact (KeptOut.of (kept_loadHeader (w.sub rfl rfl) hx2))

theorem kept_loadStop {W : Span} {s0 : State} {x0 x1 x2 x3} (w : Span.le
    ⟨0x880008200000000000580000180c2000000400a00000000000000c0380000000000f02043a0000000000000000000000000000,
    1902777⟩ W) (hx0 : Kept W s0 x0) :
    Kept W s0 (State.loadStop x0 x1 x2 x3) := by
  delta State.loadStop
  exact (kept_ite (kept_loadDma (w.sub rfl rfl) hx0) (kept_loadFail (w.sub rfl rfl) hx0))

theorem kept_loadPlan {W : Span} {s0 : State} {x0 x1 x2} (w : Span.le
    ⟨0x880008228000000000580000180c2000000400a00000000000000c7380000000000f02043a0000000000000000000000000000,
    1902777⟩ W) (hx0 : Kept W s0 x0) :
    Kept W s0 (State.loadPlan x0 x1 x2) := by
  delta State.loadPlan
  split
  · exact hx0
  · extract_lets v1 v3 v4 v5 v6
    have h2 : Kept W s0 v1 := (kept_dmaUse (w.sub rfl rfl) hx0)
    refine kept_ite ?_ ?_
    · exact (kept_loadFail (w.sub rfl rfl) h2)
    · split
      · exact (kept_loadStop (w.sub rfl rfl) h2)
      · split
        · exact (kept_loadFail (w.sub rfl rfl) h2)
        · extract_lets v7 v9
          have h8 : Kept W s0 v7 := (kept_setReg (w.fld rfl) (kept_setReg (w.fld rfl) (kept_setReg (w.fld rfl) h2)))
          split
          · exact (kept_loadStop (w.sub rfl rfl) h8)
          · split
            · exact (kept_loadFail (w.sub rfl rfl) h8)
            · split
              · exact (kept_loadStop (w.sub rfl rfl) h8)
              · exact (kept_toStage (w.sub rfl rfl) (kept_modPart (w.sub rfl rfl) h8))

theorem kept_execLoadPlan {W : Span} {s0 : State} {x0 x1 x2} (w : Span.le
    ⟨0x880008228000000000580000180c2000000400a00000000000000c7380000000000f02043a0000000000000000000000000000,
    1902777⟩ W) (hx2 : Kept W s0 x2) :
    KeptOut W s0 (execLoadPlan x0 x1 x2) := by
  delta execLoadPlan
  exact (KeptOut.of (kept_loadPlan (w.sub rfl rfl) hx2))

theorem kept_writeMasked {W : Span} {s0 : State} {x0 x1 x2 x3} (w : Span.le
    ⟨0xffffffffffffffffffffffffffffffffffffffffffffffffffffffffffffffffffffffffffffffffffffffffffffffffffffffffffffffffffffffffffffffffffffffffffffffffffffffffffffffffffffffffffffffffffffffffffffffffffffffffffffffffffffffffffffffffffffffffffffffffffffffffffffffff, 524475⟩ W) (hx0 : Kept W s0 x0) :
    Kept W s0 (State.writeMasked x0 x1 x2 x3) := by
  delta State.writeMasked
  exact (kept_foldl (fun _ _ h1 => (by
      extract_lets v2 v3 v4 v5
      refine kept_ite ?_ ?_
      · exact h1
      · split
        · extract_lets v6 v8
          have h7 : Kept W s0 v6 := (kept_setReg (w.all rfl) h1)
          have h9 : Kept W s0 v8 := (Kept.setHeld h7 (w.part rfl))
          exact (kept_ite (kept_acqEnabled (w.sub rfl rfl) h9) h9)
        · exact h1))
    hx0)

theorem kept_applyRecs {W : Span} {s0 : State} {p l m} (w : Span.le ⟨0xffffffffffffffffffffffffffffffffffffffffffffffffffffffffffffffffffffffffffffffffffffffffffffffffffffffffffffffffffffffffffffffffffffffffffffffffffffffffffffffffffffffffffffffffffffffffffffffffffffffffffffffffffffffffffffffffffffffffffffffffffffffffffffffff, 524475⟩ W) :
    ∀ {rs : List Rec} {s}, Kept W s0 s → Kept W s0 (State.applyRecs p l m rs s)
  | [], _, h => h
  | [x], s, h => by
    unfold State.applyRecs
    simp only
    exact kept_ite h (kept_applyRecs w (rs := []) (kept_writeMasked (w.sub rfl rfl) h))
  | x :: y :: rest, s, h => by
    unfold State.applyRecs
    simp only
    exact kept_ite (kept_applyRecs w (rs := rest) (kept_writeMasked (w.sub rfl rfl) (kept_writeMasked (w.sub rfl rfl) h)))
      (kept_applyRecs w (rs := y :: rest) (kept_writeMasked (w.sub rfl rfl) h))

theorem kept_writeBinding {W : Span} {s0 : State} {x0 x1 x2 x3 x4 x5 x6} (w : Span.le ⟨0x7fe0000000000000000000000,
    0⟩ W) (hx0 : Kept W s0 x0) :
    Kept W s0 (State.writeBinding x0 x1 x2 x3 x4 x5 x6) := by
  delta State.writeBinding
  extract_lets v1 v2 v3 v4 v5
  exact (kept_setReg64 (w.fld rfl) (w.fld rfl) (kept_setReg (w.fld rfl) (kept_setReg (w.fld rfl) (kept_setReg (w.fld
    rfl) (kept_setReg (w.fld rfl) (kept_setReg (w.fld rfl) (kept_setReg (w.fld rfl) (kept_setReg (w.fld rfl)
    (kept_setReg (w.fld rfl) hx0)))))))))

theorem kept_setupRegs {W : Span} {s0 : State} {x0 x1 x2 x3} (w : Span.le
    ⟨0xffffffffffffffffffffffffffffffffffffffffffffffffffffffffffffffffffffffffffffffffffffffffffffffffffffffffffffffffffffffffffffffffffffffffffffffffffffffffffffffffffffffffffffffffffffffffffffffffffffffffffffffffffffffffffffffffffffffffffffffffffffffffffffffff, 524475⟩ W) (hx0 : Kept W s0 x0) :
    Kept W s0 (State.setupRegs x0 x1 x2 x3) := by
  delta State.setupRegs
  extract_lets v1 v2 v4 v7
  have h3 : Kept W s0 v2 := (kept_setReg (w.fld rfl) (kept_setReg (w.fld rfl) (kept_setReg (w.fld rfl) (kept_setReg
    (w.fld rfl) (kept_setReg (w.fld rfl) (kept_setReg (w.fld rfl) (kept_setReg (w.fld rfl) (kept_setFlag (w.fld rfl)
    (kept_setReg (w.fld rfl) (kept_setReg (w.fld rfl) hx0))))))))))
  have h6 : Kept W s0 v4 := (kept_foldl (fun _ _ h5 => (kept_setReg (w.fld rfl) h5)) h3)
  have h10 : Kept W s0 v7 := (kept_foldl (fun _ _ h8 => (kept_foldl (fun _ _ h9 => (kept_setReg (w.fld rfl) h9)) h8))
    h6)
  exact (kept_applyRecs (w.sub rfl rfl) h10)

theorem kept_trial {W : Span} {s0 : State} {x0 x1 x2 x3} (w : Span.le
    ⟨0xffffffffffffffffffffffffffffffffffffffffffffffffffffffffffffffffffffffffffffffffffffffffffffffffffffffffffffffffffffffffffffffffffffffffffffffffffffffffffffffffffffffffffffffffffffffffffffffffffffffffffffffffffffffffffffffffffffffffffffffffffffffffffffffff, 524475⟩ W) (hx0 : Kept W s0 x0) :
    Kept W s0 (State.trial x0 x1 x2 x3) := by
  delta State.trial
  extract_lets v1
  have h2 : Kept W s0 v1 := (kept_setupRegs (w.sub rfl rfl) (kept_modPart (w.sub rfl rfl) hx0))
  exact (kept_foldl (fun _ _ h3 => (by
      extract_lets v4
      exact (kept_foldl (fun _ _ h5 => (kept_writeBinding (w.sub rfl rfl) h5)) h3)))
    h2)

theorem kept_loadCheck {W : Span} {s0 : State} {x0 x1 x2} (w : Span.le
    ⟨0x880008228000000000580000180c2000000400a00000000000000c0380000000000f02043a0000000000000000000000000000,
    1902777⟩ W) (hx0 : Kept W s0 x0) :
    Kept W s0 (State.loadCheck x0 x1 x2) := by
  delta State.loadCheck
  split
  · exact hx0
  · extract_lets v1 v3
    have h2 : Kept W s0 v1 := (kept_dmaUse (w.sub rfl rfl) hx0)
    refine kept_ite ?_ ?_
    · exact (kept_loadDma (w.sub rfl rfl) h2)
    · split
      · exact (kept_loadFail (w.sub rfl rfl) h2)
      · exact (kept_ite (kept_loadEnd (w.sub rfl rfl) h2) (kept_toStage (w.sub rfl rfl) (kept_modPart (w.sub rfl rfl)
          h2)))

theorem kept_execLoadCheck {W : Span} {s0 : State} {x0 x1 x2} (w : Span.le
    ⟨0x880008228000000000580000180c2000000400a00000000000000c0380000000000f02043a0000000000000000000000000000,
    1902777⟩ W) (hx2 : Kept W s0 x2) :
    KeptOut W s0 (execLoadCheck x0 x1 x2) := by
  delta execLoadCheck
  exact (KeptOut.of (kept_loadCheck (w.sub rfl rfl) hx2))

theorem kept_zeroRange {W : Span} {s0 : State} {x0 x1 x2 x3} (w : Span.le ⟨0x0, 65568⟩ W) (hx0 : Kept W s0 x0) :
    Kept W s0 (State.zeroRange x0 x1 x2 x3) := by
  delta State.zeroRange
  exact (kept_modDram (w.sub rfl rfl) hx0 (fun _ h1 => (DramOk.set (TabOk.keep (h1).mem))))

theorem kept_loadWakes {W : Span} {s0 : State} {x0 x1} (w : Span.le
    ⟨0x20000004000000000000000000000000000000000000000000000000000000000000000000, 161⟩ W) (hx0 : Kept W s0 x0) :
    Kept W s0 (State.loadWakes x0 x1) := by
  delta State.loadWakes
  exact (kept_foldl (fun _ _ h1 => (kept_wakeRanks (w.sub rfl rfl) (kept_wakeRanks (w.sub rfl rfl) h1))) hx0)

theorem kept_loadPrepare {W : Span} {s0 : State} {x0 x1} (w : Span.le
    ⟨0x880008000000000000580000180c2000000400a0000000000000000200000000000f02043a0000000000000000000000000000,
    592057⟩ W) (hx0 : Kept W s0 x0) :
    Kept W s0 (State.loadPrepare x0 x1) := by
  delta State.loadPrepare
  split
  · exact hx0
  · extract_lets v1 v3 v6
    have h2 : Kept W s0 v1 := (kept_loadOpen (w.sub rfl rfl) hx0)
    have h5 : Kept W s0 v3 := (kept_foldl (fun _ _ h4 => (kept_setReg (w.fld rfl) h4)) (kept_loadWakes (w.sub rfl
      rfl) h2))
    have h8 : Kept W s0 v6 := (kept_foldl (fun _ _ h7 => (kept_zeroRange (w.sub rfl rfl) h7)) h5)
    split
    · exact (kept_ite (kept_jobWait (w.sub rfl rfl) h2) h2)
    · exact (kept_toStage (w.sub rfl rfl) (Kept.setFab h8 (w.part rfl) (fun i9 => (foldl_of (P := FabOk) (fun _ _ h10
        => (fabOk_clearBanks h10)) ((h8).fabOk i9)))))

theorem kept_execLoadPrepare {W : Span} {s0 : State} {x0 x1} (w : Span.le
    ⟨0x880008000000000000580000180c2000000400a0000000000000000200000000000f02043a0000000000000000000000000000,
    592057⟩ W) (hx1 : Kept W s0 x1) :
    KeptOut W s0 (execLoadPrepare x0 x1) := by
  delta execLoadPrepare
  exact (KeptOut.of (kept_loadPrepare (w.sub rfl rfl) hx1))

theorem kept_clearCompare {W : Span} {s0 s : State} {p : Nat} (w : Span.le ⟨0x80074000000000000000000000000000000000000000, 2⟩ W) (h : Kept W s0 s) :
    Kept W s0 (State.clearCompare s p) := by
  delta State.clearCompare
  refine kept_setReg (w.fld rfl) (kept_setReg (w.fld rfl) (kept_setReg (w.fld rfl) (kept_setReg (w.fld rfl)
    (kept_dropRegs_in (w.part rfl) (fun f i hf => ?_) h))))
  have hp : W.fld .partCmpPincnt = true := w.fld rfl
  refine decide_eq_false fun hc => ?_
  rw [Fld.ctorIdx_inj hc.1, hp] at hf
  cases hf

theorem kept_writeRuns {W : Span} {s0 : State} {x0 x1 x2} (w : Span.le
    ⟨0x180400000000180000000000000000000000000000000000000000000000000000000000000000, 65584⟩ W) (hx0 : Kept W s0 x0)
    :
    Kept W s0 (State.writeRuns x0 x1 x2) := by
  delta State.writeRuns
  exact (kept_foldl (fun _ _ h1 => (kept_foldl (fun _ _ h2 => (kept_dramPutRun (w.sub rfl rfl) h2)) h1)) hx0)

theorem kept_loadSetup {W : Span} {s0 : State} {x0 x1 x2} (w : Span.le
    ⟨0xffffffffffffffffffffffffffffffffffffffffffffffffffffffffffffffffffffffffffffffffffffffffffffffffffffffffffffffffffffffffffffffffffffffffffffffffffffffffffffffffffffffffffffffffffffffffffffffffffffffffffffffffffffffffffffffffffffffffffffffffffffffffffffffff, 1902779⟩ W) (hx0 : Kept W s0 x0) :
    Kept W s0 (State.loadSetup x0 x1 x2) := by
  delta State.loadSetup
  split
  · exact hx0
  · extract_lets v1 v3 v4 v5
    have h2 : Kept W s0 v1 := (kept_dmaUse (w.sub rfl rfl) hx0)
    have h6 : Kept W s0 v5 := (kept_modPart (w.sub rfl rfl) (kept_clearCompare (w.sub rfl rfl) (kept_setupRegs (w.sub
      rfl rfl) (kept_loadWakes (w.sub rfl rfl) h2))))
    refine kept_ite ?_ ?_
    · exact (kept_loadDma (w.sub rfl rfl) h2)
    · split
      · exact (kept_loadFail (w.sub rfl rfl) h2)
      · split
        · exact (kept_ite (kept_jobWait (w.sub rfl rfl) h2) h2)
        · exact (kept_toStage (w.sub rfl rfl) (kept_writeRuns (w.sub rfl rfl) (kept_setReg64 (w.fld rfl) (w.fld rfl)
            h6)))

theorem kept_execLoadSetup {W : Span} {s0 : State} {x0 x1 x2} (w : Span.le
    ⟨0xffffffffffffffffffffffffffffffffffffffffffffffffffffffffffffffffffffffffffffffffffffffffffffffffffffffffffffffffffffffffffffffffffffffffffffffffffffffffffffffffffffffffffffffffffffffffffffffffffffffffffffffffffffffffffffffffffffffffffffffffffffffffffffffff, 1902779⟩ W) (hx2 : Kept W s0 x2) :
    KeptOut W s0 (execLoadSetup x0 x1 x2) := by
  delta execLoadSetup
  exact (KeptOut.of (kept_loadSetup (w.sub rfl rfl) hx2))

theorem fabOk_writeHearth {x0 x1 x2 x3 x4} (hx0 : FabOk x0) : FabOk (Fab.writeHearth x0 x1 x2 x3 x4) := by
  delta Fab.writeHearth
  extract_lets v1 v2 v3 v4
  exact (FabOk.set (foldl_of (P := TabOk 0) (fun _ _ h5 => (foldl_of (P := TabOk 0) (fun _ _ h6 => (TabOk.put h6))
    h5)) (TabOk.keep (hx0).instr)) (foldl_of (P := TabOk 0) (fun _ _ h7 => (foldl_of (P := TabOk 0) (fun _ _ h8 =>
    (TabOk.put h8)) h7)) (TabOk.keep (hx0).route)) (foldl_of (P := TabOk 0) (fun _ _ h9 => (foldl_of (P := TabOk 0)
    (fun _ _ h10 => (TabOk.put h10)) h9)) (TabOk.keep (hx0).egress)) (foldl_of (P := TabOk 0) (fun _ _ h11 =>
    (foldl_of (P := TabOk 0) (fun _ _ h12 => (TabOk.put h12)) h11)) (TabOk.keep (hx0).inject)) (foldl_of (P := TabOk
    0) (fun _ _ h13 => (TabOk.put h13)) (TabOk.keep (hx0).dict)) (foldl_of (P := TabOk false) (fun _ _ h14 =>
    (foldl_of (P := TabOk false) (fun _ _ h15 => (TabOk.put h15)) h14)) (TabOk.keep (hx0).mem)) (foldl_of (P := TabOk
    0) (fun _ _ h16 => (TabOk.putRun h16)) (hx0).banks))

theorem kept_loadReady {W : Span} {s0 : State} {x0 x1} (w : Span.le
    ⟨0x30000000000000000000000000000000000000000000000000000000088000800000000000000000000000000000000000000000000000c0380000000001f0304a80000000000000000078000000000, 1853488⟩ W) (hx0 : Kept W s0 x0) :
    Kept W s0 (State.loadReady x0 x1) := by
  delta State.loadReady
  extract_lets v1 v3 v5
  have h2 : Kept W s0 v1 := (kept_modPart (w.sub rfl rfl) hx0)
  have h4 : Kept W s0 v3 := (kept_setReg (w.fld rfl) (kept_setReg (w.fld rfl) (kept_setReg64 (w.fld rfl) (w.fld rfl)
    h2)))
  have h6 : Kept W s0 v5 := (kept_outageEnd (w.sub rfl rfl) (kept_enterMode (w.sub rfl rfl) (kept_pinsChange (w.sub
    rfl rfl) (kept_clkPreset (w.sub rfl rfl) h4))))
  exact (kept_nextInsertion (w.sub rfl rfl) (kept_loadEnd (w.sub rfl rfl) h6))

theorem kept_hearthVerify {W : Span} {s0 : State} {x0 x1 x2 x3} (w : Span.le
    ⟨0x300000000000000000000000000000000000000000000000000000000880008228000000000580000180c2000000400a00000000000000c0b80000000001f0304ba0007fe0000000000078000000000, 1919161⟩ W) (hx0 : Kept W s0 x0) :
    Kept W s0 (State.hearthVerify x0 x1 x2 x3) := by
  delta State.hearthVerify
  split
  · exact hx0
  · extract_lets v1 v3
    have h2 : Kept W s0 v1 := (kept_dmaUse (w.sub rfl rfl) hx0)
    split
    · exact h2
    · refine kept_ite ?_ ?_
      · exact (kept_loadDma (w.sub rfl rfl) h2)
      · refine kept_ite ?_ ?_
        · exact (kept_loadFail (w.sub rfl rfl) h2)
        · extract_lets v4 v8
          have h7 : Kept W s0 v4 := (kept_foldl (fun _ _ h5 => (kept_writeBinding (w.sub rfl rfl) h5)) (Kept.setFab
            h2 (w.part rfl) (fun i6 => (fabOk_writeHearth ((h2).fabOk i6)))))
          have h9 : Kept W s0 v8 := (kept_modPart (w.sub rfl rfl) (kept_setReg (w.fld rfl) h7))
          exact (kept_ite (kept_loadFail (w.sub rfl rfl) h7) (kept_ite (kept_loadReady (w.sub rfl rfl) h9) h9))

theorem kept_execHearthVerify {W : Span} {s0 : State} {x0 x1 x2 x3} (w : Span.le
    ⟨0x300000000000000000000000000000000000000000000000000000000880008228000000000580000180c2000000400a00000000000000c0b80000000001f0304ba0007fe0000000000078000000000, 1919161⟩ W) (hx3 : Kept W s0 x3) :
    KeptOut W s0 (execHearthVerify x0 x1 x2 x3) := by
  delta execHearthVerify
  exact (KeptOut.of (kept_hearthVerify (w.sub rfl rfl) hx3))

theorem kept_frozenTimeout {W : Span} {s0 : State} {x0 x1 x2} (w : Span.le
    ⟨0x880008000000000000580000180c2000000400a00000000000000c0380000000000f02043a0000000000000000000000000000,
    1903033⟩ W) (hx0 : Kept W s0 x0) :
    Kept W s0 (State.frozenTimeout x0 x1 x2) := by
  delta State.frozenTimeout
  split
  · exact hx0
  · refine kept_ite ?_ ?_
    · exact hx0
    · split
      · exact (kept_replyTo (w.sub rfl rfl) (kept_modDramRest (w.part rfl) (fun _ => Dram.mem_mk) hx0))
      · split
        · exact (kept_loadFail (w.sub rfl rfl) hx0)
        · exact (kept_dramForget (w.sub rfl rfl) (kept_done (w.sub rfl rfl) hx0))

theorem kept_execDramFrozenTimeout {W : Span} {s0 : State} {x0 x1 x2} (w : Span.le
    ⟨0x880008000000000000580000180c2000000400a00000000000000c0380000000000f02043a0000000000000000000000000000,
    1903033⟩ W) (hx2 : Kept W s0 x2) :
    KeptOut W s0 (execDramFrozenTimeout x0 x1 x2) := by
  delta execDramFrozenTimeout
  exact (KeptOut.of (kept_frozenTimeout (w.sub rfl rfl) hx2))

end Sys2Proof.Machine
end

