-- ==== Sys2Proof/Laws/KeptTrace.lean ====
section
/-! SUPPORT. What the operations of Machine/Trace.lean keep (see Laws/Kept.lean). -/

namespace Sys2Proof.Machine

theorem kept_stopCount {W : Span} {s0 : State} {x0 x1} (w : Span.le
    ⟨0x10000000000000000000000000000000000000000000000000000000000000000000000000, 0⟩ W) (hx1 : Kept W s0 x1) :
    Kept W s0 (State.stopCount x0 x1) := by
  delta State.stopCount
  exact (kept_ite (kept_setReg (w.fld rfl) hx1) hx1)

theorem kept_funnelTake {W : Span} {s0 : State} {x0} (w : Span.le
    ⟨0x10000000000000000000000000000000000000000000000000000000000000000000000000, 128⟩ W) (hx0 : Kept W s0 x0) :
    Kept W s0 (State.funnelTake x0) := by
  delta State.funnelTake
  split
  · exact hx0
  · split
    · exact hx0
    · extract_lets v1 v3 v4
      have h2 : Kept W s0 v1 := (kept_modSrc (w.sub rfl rfl) hx0)
      exact (kept_stopCount (w.sub rfl rfl) (Kept.setTrace h2 (w.part rfl)))

theorem kept_funnelFill {W : Span} {s0 : State} {b n s} (w : Span.le ⟨0x10000000000000000000000000000000000000000000000000000000000000000000000000, 128⟩ W) (h : Kept W s0 s) :
    Kept W s0 (State.funnelFill b n s) := by
  induction n generalizing s with
  | zero => exact h
  | succ n ih =>
    unfold State.funnelFill
    refine kept_ite h ?_
    split
    · exact h
    · exact ih (kept_funnelTake (w.sub rfl rfl) h)

theorem kept_sinkWrite {W : Span} {s0 : State} {x0} (w : Span.le
    ⟨0x580000000020200004000000000000000000000000000000000000000000000000000000000000000000, 524457⟩ W) (hx0 : Kept W
    s0 x0) :
    Kept W s0 (State.sinkWrite x0) := by
  delta State.sinkWrite
  split
  · exact hx0
  · extract_lets v1 v2 v3 v4 v5 v6 v8
    have h7 : Kept2 W s0 v6 := (kept_freshId (w.sub rfl rfl) hx0)
    have h9 : Kept2 W s0 v8 := (kept_submit (w.sub rfl rfl) (Kept2.st h7))
    exact (kept_ite (kept_ite (kept_qAppend (w.sub rfl rfl) (Kept.setTrace hx0 (w.part rfl))) hx0) (kept_ite
      (Kept.setTrace hx0 (w.part rfl)) (kept_ite hx0 (kept_ite (kept_setReg (w.fld rfl) (Kept.setTrace (Kept2.st h9)
      (w.part rfl))) (Kept2.st h9)))))

theorem kept_stallsEnd {W : Span} {s0 : State} {x0} (w : Span.le
    ⟨0x40000000000000000000000000000000000000000000000000000000000000000000000000, 128⟩ W) (hx0 : Kept W s0 x0) :
    Kept W s0 (State.stallsEnd x0) := by
  delta State.stallsEnd
  exact (kept_foldl (fun _ _ h1 => (kept_stallOver (w.sub rfl rfl) h1)) hx0)

theorem kept_traceStallEnd {W : Span} {s0 : State} {x0 x1} (w : Span.le
    ⟨0x40000000000000000000000000000000000000000000000000000000000000000000000000, 128⟩ W) (hx0 : Kept W s0 x0) :
    Kept W s0 (State.traceStallEnd x0 x1) := by
  delta State.traceStallEnd
  exact (kept_ite (kept_stallEnd (w.sub rfl rfl) hx0) hx0)

theorem kept_execTraceStallEnd {W : Span} {s0 : State} {x0 x1} (w : Span.le
    ⟨0x40000000000000000000000000000000000000000000000000000000000000000000000000, 128⟩ W) (hx1 : Kept W s0 x1) :
    KeptOut W s0 (execTraceStallEnd x0 x1) := by
  delta execTraceStallEnd
  exact (KeptOut.of (kept_traceStallEnd (w.sub rfl rfl) hx1))

theorem kept_traceStallLimit {W : Span} {s0 : State} {x0 x1} (w : Span.le
    ⟨0x40000002000000000000000000000000000000000000000000000000000000000000000000, 128⟩ W) (hx0 : Kept W s0 x0) :
    Kept W s0 (State.traceStallLimit x0 x1) := by
  delta State.traceStallLimit
  exact (kept_ite (kept_setReg (w.fld rfl) (kept_modSrc (w.sub rfl rfl) (kept_stallEnd (w.sub rfl rfl) hx0))) hx0)

theorem kept_execTraceStallLimit {W : Span} {s0 : State} {x0 x1} (w : Span.le
    ⟨0x40000002000000000000000000000000000000000000000000000000000000000000000000, 128⟩ W) (hx1 : Kept W s0 x1) :
    KeptOut W s0 (execTraceStallLimit x0 x1) := by
  delta execTraceStallLimit
  exact (KeptOut.of (kept_traceStallLimit (w.sub rfl rfl) hx1))

theorem kept_traceRecovery {W : Span} {s0 : State} {x0 x1} (w : Span.le
    ⟨0x20000004000000000000000000000000000000000000000000000000000000000000000000, 129⟩ W) (hx0 : Kept W s0 x0) :
    Kept W s0 (State.traceRecovery x0 x1) := by
  delta State.traceRecovery
  exact (kept_ite (kept_recoverSrc (w.sub rfl rfl) hx0) hx0)

theorem kept_execTraceOverflowRecovery {W : Span} {s0 : State} {x0 x1} (w : Span.le
    ⟨0x20000004000000000000000000000000000000000000000000000000000000000000000000, 129⟩ W) (hx1 : Kept W s0 x1) :
    KeptOut W s0 (execTraceOverflowRecovery x0 x1) := by
  delta execTraceOverflowRecovery
  exact (KeptOut.of (kept_traceRecovery (w.sub rfl rfl) hx1))

theorem kept_execTracePacketEmit {W : Span} {s0 : State} {x0 x1 x2} (w : Span.le
    ⟨0x800000000000000020000004000000000000000000000000000000000000000000000000000000000000000000, 129⟩ W) (hx2 :
    Kept W s0 x2) :
    KeptOut W s0 (execTracePacketEmit x0 x1 x2) := by
  delta execTracePacketEmit
  exact (KeptOut.of (kept_traceItem (w.sub rfl rfl) (by
      split
      exacts [(kept_ite (kept_bump (w.fld rfl) hx2) hx2), hx2])))

theorem kept_srcStart {W : Span} {s0 : State} {x0 x1} (w : Span.le ⟨0x0, 129⟩ W) (hx0 : Kept W s0 x0) :
    Kept W s0 (State.srcStart x0 x1) := by
  delta State.srcStart
  extract_lets v1
  have h2 : Kept W s0 v1 := (kept_modSrc (w.sub rfl rfl) hx0)
  exact (kept_ite (kept_autoSync (w.sub rfl rfl) h2) h2)

theorem kept_traceUp {W : Span} {s0 : State} {x0 x1} (w : Span.le ⟨0x0, 129⟩ W) (hx0 : Kept W s0 x0) :
    Kept W s0 (State.traceUp x0 x1) := by
  delta State.traceUp
  exact (kept_ite (kept_foldl (fun _ _ h1 => (kept_ite (kept_srcStart (w.sub rfl rfl) h1) h1)) hx0) hx0)

theorem kept_setSrcEn {W : Span} {s0 : State} {x0 x1 x2} (w : Span.le
    ⟨0x30000000000000000000000000000000000000000000000000000000000000000000, 129⟩ W) (hx0 : Kept W s0 x0) :
    Kept W s0 (State.setSrcEn x0 x1 x2) := by
  delta State.setSrcEn
  extract_lets v1 v2 v3 v4 v5
  have h6 : Kept W s0 v5 := (kept_setReg (fld_ite (w.fld rfl) (w.fld rfl)) hx0)
  exact (kept_ite (kept_foldl (fun _ _ h7 => (kept_srcStart (w.sub rfl rfl) h7)) h6) h6)

theorem kept_traceStart {W : Span} {s0 : State} {x0} (w : Span.le
    ⟨0x8800000000000000000000000000000000000000000000000000000000000000000, 129⟩ W) (hx0 : Kept W s0 x0) :
    Kept W s0 (State.traceStart x0) := by
  delta State.traceStart
  extract_lets v1 v2 v3
  have h4 : Kept W s0 v3 := (kept_setReg (w.fld rfl) (kept_setReg (w.fld rfl) (Kept.setTrace hx0 (w.part rfl))))
  exact (kept_foldl (fun _ _ h5 => (kept_srcStart (w.sub rfl rfl) h5)) h4)

theorem kept_wrTraceEnable {W : Span} {s0 : State} {x0 x1} (w : Span.le
    ⟨0x9800000000000000000000000000000000000000000000000000000000000000000, 1048705⟩ W) (hx0 : Kept W s0 x0) :
    Kept W s0 (State.wrTraceEnable x0 x1) := by
  delta State.wrTraceEnable
  exact (kept_ite (kept_auditRefuse (w.sub rfl rfl) hx0) (kept_ite hx0 (kept_ite (kept_auditRefuse (w.sub rfl rfl)
    (kept_setReg (w.fld rfl) hx0)) (kept_auditDiff (w.sub rfl rfl) (kept_traceStart (w.sub rfl rfl) hx0)))))

theorem kept_execTraceEnable {W : Span} {s0 : State} {x0 x1} (w : Span.le
    ⟨0x9800000000000000000000000000000000000000000000000000000000000000000, 1048705⟩ W) (hx1 : Kept W s0 x1) :
    KeptOut W s0 (execTraceEnable x0 x1) := by
  delta execTraceEnable
  exact (KeptOut.of (kept_ite hx1 (kept_wrTraceEnable (w.sub rfl rfl) hx1)))

theorem kept_traceClose {W : Span} {s0 : State} {x0} (w : Span.le
    ⟨0x8000000000000000000000000000000000000000000000000000000000000000000, 128⟩ W) (hx0 : Kept W s0 x0) :
    Kept W s0 (State.traceClose x0) := by
  delta State.traceClose
  refine kept_ite ?_ ?_
  · extract_lets v1
    exact (kept_ite (kept_setReg (w.fld rfl) (Kept.setTrace hx0 (w.part rfl))) (Kept.setTrace hx0 (w.part rfl)))
  · exact hx0

theorem kept_traceStop {W : Span} {s0 : State} {x0} (w : Span.le
    ⟨0x40000008800000000000000000000000000000000000000000000000000000000000000000, 128⟩ W) (hx0 : Kept W s0 x0) :
    Kept W s0 (State.traceStop x0) := by
  delta State.traceStop
  extract_lets v1 v3
  have h2 : Kept W s0 v1 := (kept_stallsEnd (w.sub rfl rfl) (kept_setReg (w.fld rfl) hx0))
  exact (kept_traceClose (w.sub rfl rfl) (Kept.setTrace h2 (w.part rfl)))

theorem kept_wrTraceDisable {W : Span} {s0 : State} {x0 x1} (w : Span.le
    ⟨0x40000008800000000000000000000000000000000000000000000000000000000000000000, 1048704⟩ W) (hx0 : Kept W s0 x0) :
    Kept W s0 (State.wrTraceDisable x0 x1) := by
  delta State.wrTraceDisable
  exact (kept_ite (kept_auditRefuse (w.sub rfl rfl) hx0) (kept_ite hx0 (kept_auditDiff (w.sub rfl rfl)
    (kept_traceStop (w.sub rfl rfl) hx0))))

theorem kept_execTraceDisable {W : Span} {s0 : State} {x0 x1} (w : Span.le
    ⟨0x40000008800000000000000000000000000000000000000000000000000000000000000000, 1048704⟩ W) (hx1 : Kept W s0 x1) :
    KeptOut W s0 (execTraceDisable x0 x1) := by
  delta execTraceDisable
  exact (KeptOut.of (kept_ite hx1 (kept_wrTraceDisable (w.sub rfl rfl) hx1)))

theorem kept_periodicSync {W : Span} {s0 : State} {x0} (w : Span.le ⟨0x0, 128⟩ W) (hx0 : Kept W s0 x0) :
    Kept W s0 (State.periodicSync x0) := by
  delta State.periodicSync
  extract_lets v1 v2 v3
  have h4 : Kept W s0 v3 := (Kept.setTrace hx0 (w.part rfl))
  exact (kept_ite hx0 (kept_ite (kept_foldl (fun _ _ h5 => (kept_modSrc (w.sub rfl rfl) h5)) h4) h4))

theorem kept_funnel {W : Span} {s0 : State} {x0} (w : Span.le
    ⟨0x58000000003020000c000000000000000000000000000000000000000000000000000000000000000000, 524457⟩ W) (hx0 : Kept W
    s0 x0) :
    Kept W s0 (State.funnel x0) := by
  delta State.funnel
  extract_lets v1
  have h2 : Kept W s0 v1 := (kept_ite hx0 (kept_funnelFill (w.sub rfl rfl) hx0))
  exact (kept_traceClose (w.sub rfl rfl) (kept_sinkWrite (w.sub rfl rfl) (kept_periodicSync (w.sub rfl rfl)
    (kept_traceClose (w.sub rfl rfl) h2))))

theorem kept_execFunnelBlockWrite {W : Span} {s0 : State} {x0} (w : Span.le
    ⟨0x58000000003020000c000000000000000000000000000000000000000000000000000000000000000000, 524457⟩ W) (hx0 : Kept W
    s0 x0) :
    KeptOut W s0 (execFunnelBlockWrite x0) := by
  delta execFunnelBlockWrite
  exact (KeptOut.of (kept_funnel (w.sub rfl rfl) hx0))

theorem kept_funnelPacket {W : Span} {s0 : State} {x0 x1 x2} (w : Span.le ⟨0x0, 128⟩ W) (hx0 : Kept W s0 x0) :
    Kept W s0 (State.funnelPacket x0 x1 x2) := by
  delta State.funnelPacket
  exact (by extract_lets v1; exact (Kept.setTrace hx0 (w.part rfl)))

theorem kept_triggered {W : Span} {s0 : State} {x0 x1 x2} (w : Span.le
    ⟨0x310000008000000000000000000000000000000000000000000000000000000000000000000, 128⟩ W) (hx0 : Kept W s0 x0) :
    Kept W s0 (State.triggered x0 x1 x2) := by
  delta State.triggered
  extract_lets v1
  exact (kept_setReg (w.fld rfl) (kept_setReg (w.fld rfl) (kept_setReg64 (w.fld rfl) (w.fld rfl) (kept_funnelPacket
    (w.sub rfl rfl) hx0))))

theorem kept_traceStopped {W : Span} {s0 : State} {x0 x1} (w : Span.le
    ⟨0x50000008000000000000000000000000000000000000000000000000000000000000000000, 128⟩ W) (hx0 : Kept W s0 x0) :
    Kept W s0 (State.traceStopped x0 x1) := by
  delta State.traceStopped
  extract_lets v1 v3
  have h2 : Kept W s0 v1 := (kept_funnelPacket (w.sub rfl rfl) hx0)
  have h4 : Kept W s0 v3 := (kept_setReg (w.fld rfl) (kept_setReg (w.fld rfl) (Kept.setTrace h2 (w.part rfl))))
  exact (kept_foldl (fun _ _ h5 => (kept_modSrc (w.sub rfl rfl) h5)) (kept_stallsEnd (w.sub rfl rfl) h4))

theorem kept_trigger {W : Span} {s0 : State} {x0 x1 x2} (w : Span.le
    ⟨0x390000008000000000000000000000000000000000000000000000000000000000000000000, 128⟩ W) (hx0 : Kept W s0 x0) :
    Kept W s0 (State.trigger x0 x1 x2) := by
  delta State.trigger
  exact (kept_ite hx0 (kept_ite (kept_triggered (w.sub rfl rfl) hx0) (kept_ite hx0 (kept_bump (w.fld rfl) hx0))))

theorem kept_traceTrigger {W : Span} {s0 : State} {x0 x1 x2} (w : Span.le
    ⟨0x390000008000000000000000000000000000000000000000000000000000000000000000000, 128⟩ W) (hx0 : Kept W s0 x0) :
    Kept W s0 (State.traceTrigger x0 x1 x2) := by
  delta State.traceTrigger
  exact (kept_ite (kept_trigger (w.sub rfl rfl) (Kept.setTrace hx0 (w.part rfl))) hx0)

theorem kept_execTraceTrigger {W : Span} {s0 : State} {x0 x1 x2} (w : Span.le
    ⟨0x390000008000000000000000000000000000000000000000000000000000000000000000000, 128⟩ W) (hx2 : Kept W s0 x2) :
    KeptOut W s0 (execTraceTrigger x0 x1 x2) := by
  delta execTraceTrigger
  exact (KeptOut.of (kept_traceTrigger (w.sub rfl rfl) hx2))

theorem kept_wrStopNow {W : Span} {s0 : State} {x0 x1} (w : Span.le
    ⟨0x3d0000008000000000000000000000000000000000000000000000000000000000000000000, 1048704⟩ W) (hx0 : Kept W s0 x0) :
    Kept W s0 (State.wrStopNow x0 x1) := by
  delta State.wrStopNow
  refine kept_ite ?_ ?_
  · exact (kept_auditRefuse (w.sub rfl rfl) hx0)
  · extract_lets v1
    have h2 : Kept W s0 v1 := (kept_ite (kept_traceStopped (w.sub rfl rfl) (kept_triggered (w.sub rfl rfl) hx0))
      (kept_trigger (w.sub rfl rfl) hx0))
    exact (kept_auditAct (w.sub rfl rfl) h2)

theorem kept_execStopNow {W : Span} {s0 : State} {x0 x1} (w : Span.le
    ⟨0x3d0000008000000000000000000000000000000000000000000000000000000000000000000, 1048704⟩ W) (hx1 : Kept W s0 x1) :
    KeptOut W s0 (execStopNow x0 x1) := by
  delta execStopNow
  exact (KeptOut.of (kept_ite hx1 (kept_wrStopNow (w.sub rfl rfl) hx1)))

theorem kept_stopDelay {W : Span} {s0 : State} {x0} (w : Span.le
    ⟨0x50000008000000000000000000000000000000000000000000000000000000000000000000, 128⟩ W) (hx0 : Kept W s0 x0) :
    Kept W s0 (State.stopDelay x0) := by
  delta State.stopDelay
  exact (kept_ite (kept_traceStopped (w.sub rfl rfl) hx0) hx0)

theorem kept_execStopDelayReached {W : Span} {s0 : State} {x0} (w : Span.le
    ⟨0x50000008000000000000000000000000000000000000000000000000000000000000000000, 128⟩ W) (hx0 : Kept W s0 x0) :
    KeptOut W s0 (execStopDelayReached x0) := by
  delta execStopDelayReached
  exact (KeptOut.of (kept_stopDelay (w.sub rfl rfl) hx0))

theorem kept_cpSleep {W : Span} {s0 : State} {x0 x1 x2 x3 x4} (w : Span.le
    ⟨0x20000004000000000000000000000000000000000000000000000000000000000000000000, 129⟩ W) (hx0 : Kept W s0 x0) :
    Kept W s0 (State.cpSleep x0 x1 x2 x3 x4) := by
  delta State.cpSleep
  refine kept_ite ?_ ?_
  · exact hx0
  · extract_lets v1 v3
    have h2 : Kept W s0 v1 := (kept_ite (kept_traceItem (w.sub rfl rfl) hx0) hx0)
    have h4 : Kept W s0 v3 := (kept_ite (kept_push (w.sub rfl rfl) (kept_ite (kept_recoverSrc (w.sub rfl rfl) h2)
      h2)) h2)
    exact (kept_ite h2 (kept_modSrc (w.sub rfl rfl) h4))

theorem kept_execCpSleep {W : Span} {s0 : State} {x0 x1 x2 x3 x4} (w : Span.le
    ⟨0x20000004000000000000000000000000000000000000000000000000000000000000000000, 129⟩ W) (hx4 : Kept W s0 x4) :
    KeptOut W s0 (execCpSleep x0 x1 x2 x3 x4) := by
  delta execCpSleep
  exact (KeptOut.of (kept_ite hx4 (kept_cpSleep (w.sub rfl rfl) hx4)))

theorem kept_cpWake {W : Span} {s0 : State} {x0 x1 x2} (w : Span.le ⟨0x0, 128⟩ W) (hx0 : Kept W s0 x0) :
    Kept W s0 (State.cpWake x0 x1 x2) := by
  delta State.cpWake
  refine kept_ite ?_ ?_
  · exact hx0
  · extract_lets v1
    have h2 : Kept W s0 v1 := (kept_modSrc (w.sub rfl rfl) hx0)
    exact (kept_ite (kept_pushSync (w.sub rfl rfl) h2) h2)

theorem kept_execCpWake {W : Span} {s0 : State} {x0 x1 x2} (w : Span.le ⟨0x0, 128⟩ W) (hx2 : Kept W s0 x2) :
    KeptOut W s0 (execCpWake x0 x1 x2) := by
  delta execCpWake
  exact (KeptOut.of (kept_cpWake (w.sub rfl rfl) hx2))

theorem kept_traceBufFree {W : Span} {s0 : State} {x0} (w : Span.le
    ⟨0x20000000000000000000000000000000000000000000000000000000000000000000000, 0⟩ W) (hx0 : Kept W s0 x0) :
    Kept W s0 (State.traceBufFree x0) := by
  delta State.traceBufFree
  exact (kept_setReg (w.fld rfl) hx0)

theorem kept_cmdTraceBufAlloc {W : Span} {s0 : State} {x0 x1 x2 x3} (w : Span.le
    ⟨0x7f0000000000000000000000000000000000000000000000000000000000000000000000, 0⟩ W) (hx3 : Kept W s0 x3) :
    Kept1 W s0 (cmdTraceBufAlloc x0 x1 x2 x3) := by
  delta cmdTraceBufAlloc
  exact (kept_refuseIf hx3 (fun _ h1 => (by
      extract_lets v2
      have h3 : Kept W s0 v2 := (kept_traceBufFree (w.sub rfl rfl) h1)
      split
      · exact (kept_says h3)
      · exact (kept_oks (kept_setReg (w.fld (f := .traceBufWr) rfl) (kept_setReg (w.fld (f := .traceBufRd) rfl)
          (kept_setReg (w.fld (f := .traceBufValid) rfl) (kept_setReg (w.fld (f := .traceBufAnvil) rfl) (kept_setReg
          (w.fld (f := .traceBufSizeLog2) rfl) (kept_setReg (w.fld (f := .traceBufBaseHi) rfl) (kept_setReg (w.fld (f
          := .traceBufBaseLo) rfl) h3)))))))))))

theorem kept_execTraceBufAlloc {W : Span} {s0 : State} {x0 x1 x2 x3} (w : Span.le
    ⟨0x7f0000000000000000000000000000000000000000000000000000000000000000000000, 1310720⟩ W) (hx3 : Kept W s0 x3) :
    KeptOut W s0 (execTraceBufAlloc x0 x1 x2 x3) := by
  delta execTraceBufAlloc
  exact (KeptOut.of (kept_runCmd (w.sub rfl rfl) (fun _ h1 => (kept_cmdTraceBufAlloc (w.sub rfl rfl) h1)) hx3))

theorem kept_cmdTraceBufFree {W : Span} {s0 : State} {x0 x1} (w : Span.le
    ⟨0x20000000000000000000000000000000000000000000000000000000000000000000000, 0⟩ W) (hx1 : Kept W s0 x1) :
    Kept1 W s0 (cmdTraceBufFree x0 x1) := by
  delta cmdTraceBufFree
  exact (kept_refuseIf hx1 (fun _ h1 => (kept_oks (kept_traceBufFree (w.sub rfl rfl) h1))))

theorem kept_execTraceBufFree {W : Span} {s0 : State} {x0 x1} (w : Span.le
    ⟨0x20000000000000000000000000000000000000000000000000000000000000000000000, 1310720⟩ W) (hx1 : Kept W s0 x1) :
    KeptOut W s0 (execTraceBufFree x0 x1) := by
  delta execTraceBufFree
  exact (KeptOut.of (kept_runCmd (w.sub rfl rfl) (fun _ h1 => (kept_cmdTraceBufFree (w.sub rfl rfl) h1)) hx1))

end Sys2Proof.Machine
end

