-- ==== Sys2Proof/Laws/KeptNocPkt.lean ====
section
/-! SUPPORT. What the operations of Machine/NocPkt.lean keep (see Laws/Kept.lean). -/

namespace Sys2Proof.Machine

theorem kept_modNoc {W : Span} {s0 : State} {x0 x1} (w : Span.le ⟨0x0, 256⟩ W) (hx0 : Kept W s0 x0) :
    Kept W s0 (State.modNoc x0 x1) := by
  delta State.modNoc
  exact (Kept.setNoc hx0 (w.part rfl))

theorem kept_nocEvent {W : Span} {s0 : State} {x0 x1 x2 x3 x4} (w : Span.le
    ⟨0x20000004000000000000000000000000000000000000000000000000000000000000000000, 129⟩ W) (hx0 : Kept W s0 x0) :
    Kept W s0 (State.nocEvent x0 x1 x2 x3 x4) := by
  delta State.nocEvent
  exact (kept_traceItem (w.sub rfl rfl) hx0)

theorem kept_nocFault {W : Span} {s0 : State} {x0 x1 x2 x3 x4 x5} (w : Span.le
    ⟨0x100000000000000020000004000000000000000000000000000000000000000000000000000000000000000000, 129⟩ W) (f3 :
    W.fld x3 = true) (hx0 : Kept W s0 x0) :
    Kept W s0 (State.nocFault x0 x1 x2 x3 x4 x5) := by
  delta State.nocFault
  extract_lets v1
  have h2 : Kept W s0 v1 := (kept_nocEvent (w.sub rfl rfl) (kept_setReg f3 hx0))
  exact (kept_ite (kept_bump (w.fld rfl) h2) h2)

theorem kept_checkFlits {W : Span} {s0 : State} {x0 x1 x2 x3 x4} (w : Span.le
    ⟨0x188000000000000020000004000000000000000000000000000000000000000000000000000000000000000000, 129⟩ W) (hx0 :
    Kept W s0 x0) :
    Kept1 W s0 (State.checkFlits x0 x1 x2 x3 x4) := by
  delta State.checkFlits
  extract_lets v1 v2
  have h3 : Kept W s0 v2 := (kept_bump (w.fld rfl) hx0)
  exact (ite_of (P := Kept1 W s0) (Kept1.of (kept_nocFault (w.sub rfl rfl) (w.fld rfl) h3)) (Kept1.of h3))

theorem kept_setRoute {W : Span} {s0 : State} {x0 x1 x2 x3 x4 x5} (w : Span.le
    ⟨0x30000000000000000000000000000000000000000000000000000000000000000000000000000000000000000000, 0⟩ W) (hx0 :
    Kept W s0 x0) :
    Kept W s0 (State.setRoute x0 x1 x2 x3 x4 x5) := by
  delta State.setRoute
  exact (by extract_lets v1; exact (kept_ite hx0 (kept_setReg (by unfold routeFld; split <;> exact w.fld rfl) hx0)))

theorem kept_setLinkUp {W : Span} {s0 : State} {x0 x1 x2 x3} (w : Span.le
    ⟨0xc000000000000000000000000000000000000000000000000000000000000000000000000000000000000000000, 256⟩ W) (hx0 :
    Kept W s0 x0) :
    Kept W s0 (State.setLinkUp x0 x1 x2 x3) := by
  delta State.setLinkUp
  exact (kept_ite (kept_setFlag (w.fld rfl) (kept_modNoc (w.sub rfl rfl) hx0)) (kept_setReg (w.fld rfl) hx0))

theorem kept_nocAnswer {W : Span} {s0 : State} {x0 x1 x2 x3} (w : Span.le ⟨0x0, 256⟩ W) (hx0 : Kept W s0 x0) :
    Kept W s0 (State.nocAnswer x0 x1 x2 x3) := by
  delta State.nocAnswer
  exact (kept_modNoc (w.sub rfl rfl) hx0)

theorem kept_nocEnter {W : Span} {s0 : State} {x0 x1 x2 x3 x4 x5} (w : Span.le
    ⟨0x1f8000000000000020000004000000000000000000000000000000000000000000000000000000000000000000, 385⟩ W) (hx0 :
    Kept W s0 x0) :
    Kept W s0 (State.nocEnter x0 x1 x2 x3 x4 x5) := by
  delta State.nocEnter
  extract_lets v1 v2 v4 v5 v7
  have h3 : Kept1 W s0 v2 := (kept_checkFlits (w.sub rfl rfl) hx0)
  have h6 : Kept W s0 v5 := (kept_nocFault (w.sub rfl rfl) (w.fld rfl) (Kept1.st h3))
  have h8 : Kept W s0 v7 := (kept_bump (w.fld rfl) (Kept1.st h3))
  refine kept_ite ?_ ?_
  · exact (kept_nocFault (w.sub rfl rfl) (w.fld rfl) hx0)
  · refine kept_ite ?_ ?_
    · exact (kept_nocFault (w.sub rfl rfl) (w.fld rfl) (Kept1.st h3))
    · split
      · exact (kept_modNoc (w.sub rfl rfl) (Kept1.st h3))
      · exact (kept_ite (kept_nocAnswer (w.sub rfl rfl) h6) h6)
      · exact (kept_ite (kept_nocAnswer (w.sub rfl rfl) h8) h8)

theorem kept_setTag {W : Span} {s0 : State} {x0 x1 x2 x3} (w : Span.le
    ⟨0x380000000000020000004000000000000000000000000000000000000000000000000000000000000000000, 385⟩ W) (hx0 : Kept W
    s0 x0) :
    Kept W s0 (State.setTag x0 x1 x2 x3) := by
  delta State.setTag
  extract_lets v1 v3 v4
  have h2 : Kept W s0 v1 := (kept_modNoc (w.sub rfl rfl) hx0)
  have h5 : Kept W s0 v4 := (kept_setReg (w.fld rfl) (kept_setReg (w.fld rfl) h2))
  exact (kept_ite h2 (kept_ite (kept_nocEvent (w.sub rfl rfl) (kept_bump (w.fld rfl) h5)) h5))

theorem kept_nocResult {W : Span} {s0 : State} {x0 x1 x2 x3 x4} (w : Span.le ⟨0x0, 256⟩ W) (hx0 : Kept W s0 x0) :
    Kept W s0 (State.nocResult x0 x1 x2 x3 x4) := by
  delta State.nocResult
  exact (kept_modNoc (w.sub rfl rfl) hx0)

theorem kept_intoBridge {W : Span} {s0 : State} {x0 x1 x2 x3} (w : Span.le ⟨0x0, 256⟩ W) (hx0 : Kept W s0 x0) :
    KeptOpt W s0 (State.intoBridge x0 x1 x2 x3) := by
  delta State.intoBridge
  exact (ite_of (P := KeptOpt W s0) (KeptOpt.of (kept_ite (kept_nocAnswer (w.sub rfl rfl) hx0) hx0)) (ite_of (P :=
    KeptOpt W s0) trivial (KeptOpt.of (kept_modNoc (w.sub rfl rfl) hx0))))

theorem kept_nocInject {W : Span} {s0 : State} {x0 x1 x2} (w : Span.le
    ⟨0x1f8000000000000020000004000000000000000000000000000000000000000000000000000000000000000000, 385⟩ W) (hx0 :
    Kept W s0 x0) :
    KeptOpt W s0 (State.nocInject x0 x1 x2) := by
  delta State.nocInject
  extract_lets v1
  split
  · exact (ite_of (P := KeptOpt W s0) (kept_intoBridge (w.sub rfl rfl) hx0) (ite_of (P := KeptOpt W s0) (KeptOpt.of
      (kept_nocEnter (w.sub rfl rfl) hx0)) trivial))
  · exact (ite_of (P := KeptOpt W s0) (kept_intoBridge (w.sub rfl rfl) hx0) (ite_of (P := KeptOpt W s0)
      (kept_intoBridge (w.sub rfl rfl) hx0) (ite_of (P := KeptOpt W s0) (KeptOpt.of (kept_nocEnter (w.sub rfl rfl)
      hx0)) trivial)))

theorem kept_nocTry {W : Span} {s0 : State} {s q} (w : Span.le ⟨0x1f8380000000000020000004000000000000000000000000000000000000000000000000000000000000000000, 385⟩ W) (h : Kept W s0 s) :
    KeptOpt W s0 (State.nocTry s q) := by
  delta State.nocTry
  refine ite_of (P := KeptOpt W s0) (ite_of (P := KeptOpt W s0) trivial ?_) (kept_nocInject (w.sub rfl rfl) h)
  cases s.freeTag q with
  | none => exact trivial
  | some t =>
    have h1 : KeptOpt W s0 (s.nocInject (s.packetOf q t) none) := kept_nocInject (w.sub rfl rfl) h
    rw [Option.bind_some]
    revert h1
    cases s.nocInject (s.packetOf q t) none with
    | none => exact fun _ => trivial
    | some s1 => exact fun h1 => KeptOpt.of (kept_setTag (w.sub rfl rfl) h1)

theorem kept_nocPump {W : Span} {s0 : State} {s} (w : Span.le ⟨0x1f8380000000000020000004000000000000000000000000000000000000000000000000000000000000000000, 385⟩ W) (h : Kept W s0 s) :
    Kept W s0 (State.nocPump s) := by
  delta State.nocPump
  extract_lets x
  have hx : Kept1 W s0 x := by
    refine foldl_of (P := Kept1 W s0) (fun y q hy => ?_) (Kept1.of h)
    refine ite_of (P := Kept1 W s0) (Kept1.of hy.st) ?_
    have ht : KeptOpt W s0 (y.1.nocTry q) := kept_nocTry (w.sub rfl rfl) hy.st
    split
    · next e => rw [e] at ht; exact Kept1.of ht
    · exact Kept1.of hy.st
  exact kept_ite h (kept_modNoc (w.sub rfl rfl) hx.st)

theorem kept_cplTimeout {W : Span} {s0 : State} {x0 x1 x2} (w : Span.le
    ⟨0x40000304380000000000020000004000000000000000000000000000000000000000000000000000000000000000000, 385⟩ W) (hx0
    : Kept W s0 x0) :
    Kept W s0 (State.cplTimeout x0 x1 x2) := by
  delta State.cplTimeout
  split
  · exact hx0
  · refine kept_ite ?_ ?_
    · exact hx0
    · extract_lets v1
      have h2 : Kept W s0 v1 := (kept_nocResult (w.sub rfl rfl) (kept_setTag (w.sub rfl rfl) hx0))
      exact (kept_ite (kept_nocFault (w.sub rfl rfl) (w.fld rfl) (kept_bump (w.fld rfl) h2)) (kept_ite (kept_setReg
        (w.fld rfl) h2) h2))

theorem kept_execNocCplTimeout {W : Span} {s0 : State} {x0 x1 x2} (w : Span.le
    ⟨0x40000304380000000000020000004000000000000000000000000000000000000000000000000000000000000000000, 385⟩ W) (hx2
    : Kept W s0 x2) :
    KeptOut W s0 (execNocCplTimeout x0 x1 x2) := by
  delta execNocCplTimeout
  exact (KeptOut.of (kept_cplTimeout (w.sub rfl rfl) hx2))

theorem kept_execTagRelease {W : Span} {s0 : State} {x0 x1 x2} (w : Span.le
    ⟨0x1f8380000000000020000004000000000000000000000000000000000000000000000000000000000000000000, 385⟩ W) (hx2 :
    Kept W s0 x2) :
    KeptOut W s0 (execTagRelease x0 x1 x2) := by
  delta execTagRelease
  exact (KeptOut.of (by
      split
      exacts [hx2, (kept_ite (kept_nocPump (w.sub rfl rfl) (kept_setTag (w.sub rfl rfl) hx2)) hx2)]))

end Sys2Proof.Machine
end

