-- ==== Sys2Proof/Laws/KeptNoc.lean ====
section
/-! SUPPORT. What the operations of Machine/Noc.lean keep (see Laws/Kept.lean). -/

namespace Sys2Proof.Machine

theorem kept_setNocAll {W : Span} {s0 : State} {x0 x1 x2} (f1 : W.fld x1 = true) (hx0 : Kept W s0 x0) :
    Kept W s0 (State.setNocAll x0 x1 x2) := by
  delta State.setNocAll
  exact (kept_foldl (fun _ _ h1 => (kept_setReg f1 h1)) hx0)

theorem kept_writeShadow {W : Span} {s0 : State} {x0 x1} (w : Span.le
    ⟨0x30000000000000000000000000000000000000000000000000000000000000000000000000000000000000000000, 0⟩ W) (hx0 :
    Kept W s0 x0) :
    Kept W s0 (State.writeShadow x0 x1) := by
  delta State.writeShadow
  extract_lets v1
  have h4 : Kept W s0 v1 := (kept_foldl (fun _ _ h2 => (kept_foldl (fun _ _ h3 => (kept_setReg (by
      unfold routeFld
      split <;> exact w.fld rfl)
    h3)) h2)) hx0)
  exact (kept_foldl (fun _ _ h5 => (by extract_lets v6; exact (kept_ite (kept_setRoute (w.sub rfl rfl) h5) h5))) h4)

theorem kept_routeBegin {W : Span} {s0 : State} {x0 x1} (w : Span.le
    ⟨0x30000002000000000000000000000000000000000000000000000000000000000000000000000000000000000000, 256⟩ W) (hx0 :
    Kept W s0 x0) :
    Kept W s0 (State.routeBegin x0 x1) := by
  delta State.routeBegin
  extract_lets v1
  have h2 : Kept W s0 v1 := (kept_writeShadow (w.sub rfl rfl) hx0)
  exact (kept_ite (kept_modNoc (w.sub rfl rfl) (kept_setNocAll (w.fld rfl) h2)) hx0)

theorem kept_routeStart {W : Span} {s0 : State} {x0 x1 x2} (w : Span.le
    ⟨0x30000002000000000000000000000000000000000000000000000000000000000000000000000000000000000000, 256⟩ W) (hx0 :
    Kept W s0 x0) :
    Kept W s0 (State.routeStart x0 x1 x2) := by
  delta State.routeStart
  exact (kept_ite (kept_routeBegin (w.sub rfl rfl) hx0) (kept_modNoc (w.sub rfl rfl) hx0))

theorem kept_execRouteChangeStart {W : Span} {s0 : State} {x0 x1 x2} (w : Span.le
    ⟨0x30000002000000000000000000000000000000000000000000000000000000000000000000000000000000000000, 256⟩ W) (hx2 :
    Kept W s0 x2) :
    KeptOut W s0 (execRouteChangeStart x0 x1 x2) := by
  delta execRouteChangeStart
  exact (KeptOut.of (kept_routeStart (w.sub rfl rfl) hx2))

theorem kept_shadowValid {W : Span} {s0 : State} {x0} (w : Span.le
    ⟨0x2000000000000000000000000000000000000000000000000000000000000000000000000000000000000, 256⟩ W) (hx0 : Kept W
    s0 x0) :
    Kept W s0 (State.shadowValid x0) := by
  delta State.shadowValid
  exact (kept_ite (kept_modNoc (w.sub rfl rfl) (kept_setNocAll (w.fld rfl) hx0)) hx0)

theorem kept_execShadowValid {W : Span} {s0 : State} {x0} (w : Span.le
    ⟨0x2000000000000000000000000000000000000000000000000000000000000000000000000000000000000, 256⟩ W) (hx0 : Kept W
    s0 x0) :
    KeptOut W s0 (execShadowValid x0) := by
  delta execShadowValid
  exact (KeptOut.of (kept_shadowValid (w.sub rfl rfl) hx0))

theorem kept_epochSwitch {W : Span} {s0 : State} {x0} (w : Span.le
    ⟨0xc000000000020000004000000000000000000000000000000000000000000000000000000000000000000, 385⟩ W) (hx0 : Kept W
    s0 x0) :
    Kept W s0 (State.epochSwitch x0) := by
  delta State.epochSwitch
  refine kept_ite ?_ ?_
  · extract_lets v1
    exact (kept_modNoc (w.sub rfl rfl) (kept_foldl (fun _ _ h2 => (kept_nocEvent (w.sub rfl rfl) (kept_setReg (w.fld
      rfl) (kept_setReg (w.fld rfl) h2)))) hx0))
  · exact hx0

theorem kept_execEpochSwitch {W : Span} {s0 : State} {x0} (w : Span.le
    ⟨0xc000000000020000004000000000000000000000000000000000000000000000000000000000000000000, 385⟩ W) (hx0 : Kept W
    s0 x0) :
    KeptOut W s0 (execEpochSwitch x0) := by
  delta execEpochSwitch
  exact (KeptOut.of (kept_epochSwitch (w.sub rfl rfl) hx0))

theorem kept_routeNext {W : Span} {s0 : State} {x0} (w : Span.le
    ⟨0x30000002000000000000000000000000000000000000000000000000000000000000000000000000000000000000, 256⟩ W) (hx0 :
    Kept W s0 x0) :
    Kept W s0 (State.routeNext x0) := by
  delta State.routeNext
  exact (by split; exacts [hx0, (kept_routeBegin (w.sub rfl rfl) (kept_modNoc (w.sub rfl rfl) hx0))])

theorem kept_anvilJoins {W : Span} {s0 : State} {x0 x1} (w : Span.le ⟨0x0, 256⟩ W) (hx0 : Kept W s0 x0) :
    Kept W s0 (State.anvilJoins x0 x1) := by
  delta State.anvilJoins
  exact (kept_ite (kept_modNoc (w.sub rfl rfl) hx0) hx0)

theorem kept_epochRetired {W : Span} {s0 : State} {x0} (w : Span.le
    ⟨0x301f8386000000000020000004000000000000000000000000000000000000000000000000000000000000000000, 385⟩ W) (hx0 :
    Kept W s0 x0) :
    Kept W s0 (State.epochRetired x0) := by
  delta State.epochRetired
  refine kept_ite ?_ ?_
  · extract_lets v1
    have h2 : Kept W s0 v1 := (kept_modNoc (w.sub rfl rfl) (kept_setNocAll (w.fld rfl) (kept_setNocAll (w.fld rfl)
      hx0)))
    exact (kept_nocPump (w.sub rfl rfl) (kept_routeNext (w.sub rfl rfl) (kept_foldl (fun _ _ h3 => (kept_anvilJoins
      (w.sub rfl rfl) h3)) h2)))
  · exact hx0

theorem kept_execEpochRetired {W : Span} {s0 : State} {x0} (w : Span.le
    ⟨0x301f8386000000000020000004000000000000000000000000000000000000000000000000000000000000000000, 385⟩ W) (hx0 :
    Kept W s0 x0) :
    KeptOut W s0 (execEpochRetired x0) := by
  delta execEpochRetired
  exact (KeptOut.of (kept_epochRetired (w.sub rfl rfl) hx0))

theorem kept_epochTimeout {W : Span} {s0 : State} {x0} (w : Span.le
    ⟨0x880008000000000400000000000000000000000000000000000000000000000000000000000000000000000000000000000000,
    524544⟩ W) (hx0 : Kept W s0 x0) :
    Kept W s0 (State.epochTimeout x0) := by
  delta State.epochTimeout
  exact (kept_ite (kept_modNoc (w.sub rfl rfl) (kept_mError (w.sub rfl rfl) (kept_setNocAll (w.fld rfl) hx0))) hx0)

theorem kept_execEpochFenceTimeout {W : Span} {s0 : State} {x0} (w : Span.le
    ⟨0x880008000000000400000000000000000000000000000000000000000000000000000000000000000000000000000000000000,
    524544⟩ W) (hx0 : Kept W s0 x0) :
    KeptOut W s0 (execEpochFenceTimeout x0) := by
  delta execEpochFenceTimeout
  exact (KeptOut.of (kept_epochTimeout (w.sub rfl rfl) hx0))

theorem kept_epochBusy {W : Span} {s0 : State} {x0 x1} (w : Span.le ⟨0x0, 1310976⟩ W) (hx0 : Kept W s0 x0) :
    Kept W s0 (State.epochBusy x0 x1) := by
  delta State.epochBusy
  exact (kept_ite (kept_done (w.sub rfl rfl) (kept_modNoc (w.sub rfl rfl) hx0)) hx0)

theorem kept_execNocEpochBusy {W : Span} {s0 : State} {x0 x1} (w : Span.le ⟨0x0, 1310976⟩ W) (hx1 : Kept W s0 x1) :
    KeptOut W s0 (execNocEpochBusy x0 x1) := by
  delta execNocEpochBusy
  exact (KeptOut.of (kept_epochBusy (w.sub rfl rfl) hx1))

theorem fabOk_clearRegion {x0 x1} (hx0 : FabOk x0) : FabOk (Fab.clearRegion x0 x1) := by
  delta Fab.clearRegion
  extract_lets v1
  exact (FabOk.set (TabOk.keep (hx0).instr) (TabOk.keep (hx0).route) (TabOk.keep (hx0).egress) (TabOk.keep
    (hx0).inject) (TabOk.keep (hx0).dict) (TabOk.keep (hx0).mem) (TabOk.keep (hx0).banks))

theorem kept_setFence {W : Span} {s0 : State} {x0 x1 x2 x3} (w : Span.le
    ⟨0x3000000000000000000000000000000000000000000000000000000000000000000000000000000000000000000, 0⟩ W) (hx0 : Kept
    W s0 x0) :
    Kept W s0 (State.setFence x0 x1 x2 x3) := by
  delta State.setFence
  exact (kept_setReg (w.fld rfl) (kept_setReg (w.fld rfl) hx0))

theorem kept_regionUp {W : Span} {s0 : State} {x0 x1} (w : Span.le
    ⟨0xfe0000000000000000000000000000000000000000000000000008800080000031f8380000000000020000004000000000000000000000000000000000000000ffffe0001fc0000000ffff80300, 1581451⟩ W) (hx0 : Kept W s0 x0) :
    Kept W s0 (State.regionUp x0 x1) := by
  delta State.regionUp
  extract_lets v1
  have h4 : Kept W s0 v1 := (kept_foldl (fun _ _ h2 => (kept_startBlock (startBlock_in (w.sub rfl rfl)) h2))
    (Kept.setFab hx0 (w.part rfl) (fun i3 => (fabOk_clearRegion ((hx0).fabOk i3)))))
  exact (kept_nocPump (w.sub rfl rfl) (kept_modNoc (w.sub rfl rfl) (kept_setFence (w.sub rfl rfl) (kept_billetsLow
    (w.sub rfl rfl) (kept_setRegionOn (w.sub rfl rfl) h4)))))

theorem kept_regionDown {W : Span} {s0 : State} {x0 x1} (w : Span.le
    ⟨0x80000000000000000000000000000000000000000000000000000880008000000000000000000000000000000000000000000000000000000000000000000000000000000000000000000000300, 1581320⟩ W) (hx0 : Kept W s0 x0) :
    Kept W s0 (State.regionDown x0 x1) := by
  delta State.regionDown
  exact (kept_modNoc (w.sub rfl rfl) (kept_billetsLow (w.sub rfl rfl) (kept_setRegionOn (w.sub rfl rfl) (Kept.setFab
    hx0 (w.part rfl) (fun i1 => (fabOk_clearRegion ((hx0).fabOk i1)))))))

theorem kept_fenceRegion {W : Span} {s0 : State} {x0 x1 x2} (w : Span.le
    ⟨0x80000000000000000000000000000000000000000000000000000880008000003000000000000000000000000000000000000000000000000000000000000000000000000000000000000000300, 1581320⟩ W) (hx0 : Kept W s0 x0) :
    Kept W s0 (State.fenceRegion x0 x1 x2) := by
  delta State.fenceRegion
  extract_lets v1
  have h2 : Kept W s0 v1 := (kept_ite (kept_modNoc (w.sub rfl rfl) hx0) hx0)
  exact (kept_ite (kept_ite (kept_regionDown (w.sub rfl rfl) h2) hx0) (kept_ite h2 (kept_modNoc (w.sub rfl rfl)
    (kept_setFence (w.sub rfl rfl) h2))))

theorem kept_execFenceRequest {W : Span} {s0 : State} {x0 x1} (w : Span.le
    ⟨0x80000000000000000000000000000000000000000000000000000880008000003000000000000000000000000000000000000000000000000000000000000000000000000000000000000000300, 1581320⟩ W) (hx1 : Kept W s0 x1) :
    KeptOut W s0 (execFenceRequest x0 x1) := by
  delta execFenceRequest
  exact (KeptOut.of (kept_ite (kept_fenceRegion (w.sub rfl rfl) hx1) hx1))

theorem kept_fenceDone {W : Span} {s0 : State} {x0 x1 x2} (w : Span.le ⟨0x0, 1327104⟩ W) (hx0 : Kept W s0 x0) :
    Kept W s0 (State.fenceDone x0 x1 x2) := by
  delta State.fenceDone
  exact (by extract_lets v1 v2 v3; exact (kept_doneAll (w.sub rfl rfl) (Kept.setSvc hx0 (w.part rfl))))

theorem kept_regionFenced {W : Span} {s0 : State} {x0 x1} (w : Span.le
    ⟨0x80000000000000000000000000000000000000000000000000000880008000003000000000000000020000004000000000000000000000000000000000000000000000000000000000000000300, 1859977⟩ W) (hx0 : Kept W s0 x0) :
    Kept W s0 (State.regionFenced x0 x1) := by
  delta State.regionFenced
  refine kept_ite ?_ ?_
  · extract_lets v1
    have h2 : Kept W s0 v1 := (kept_nocEvent (w.sub rfl rfl) (kept_setFence (w.sub rfl rfl) hx0))
    exact (kept_fenceDone (w.sub rfl rfl) (kept_ite (kept_regionDown (w.sub rfl rfl) h2) h2))
  · exact hx0

theorem kept_execRegionFenced {W : Span} {s0 : State} {x0 x1} (w : Span.le
    ⟨0x80000000000000000000000000000000000000000000000000000880008000003000000000000000020000004000000000000000000000000000000000000000000000000000000000000000300, 1859977⟩ W) (hx1 : Kept W s0 x1) :
    KeptOut W s0 (execRegionFenced x0 x1) := by
  delta execRegionFenced
  exact (KeptOut.of (kept_regionFenced (w.sub rfl rfl) hx1))

theorem kept_drainTimeout {W : Span} {s0 : State} {x0 x1} (w : Span.le
    ⟨0x880008000000000800000000000000000000000000000000000000000000000000000000000000000000000000000000000000,
    1851648⟩ W) (hx0 : Kept W s0 x0) :
    Kept W s0 (State.drainTimeout x0 x1) := by
  delta State.drainTimeout
  exact (kept_ite (kept_fenceDone (w.sub rfl rfl) (kept_modNoc (w.sub rfl rfl) (kept_mError (w.sub rfl rfl)
    (kept_setReg (w.fld rfl) hx0)))) hx0)

theorem kept_execNocDrainTimeout {W : Span} {s0 : State} {x0 x1} (w : Span.le
    ⟨0x880008000000000800000000000000000000000000000000000000000000000000000000000000000000000000000000000000,
    1851648⟩ W) (hx1 : Kept W s0 x1) :
    KeptOut W s0 (execNocDrainTimeout x0 x1) := by
  delta execNocDrainTimeout
  exact (KeptOut.of (kept_drainTimeout (w.sub rfl rfl) hx1))

theorem kept_loseChannel {W : Span} {s0 : State} {x0 x1 x2 x3} (w : Span.le
    ⟨0x100000000000000000000000000000000000000000000000000000000000000000000000000000000000000000, 256⟩ W) (hx0 :
    Kept W s0 x0) :
    Kept W s0 (State.loseChannel x0 x1 x2 x3) := by
  delta State.loseChannel
  exact (kept_foldl (fun _ _ h1 => (by
      extract_lets v2
      have h3 : Kept W s0 v2 := (kept_bump (w.fld rfl) h1)
      exact (kept_ite (kept_nocAnswer (w.sub rfl rfl) h3) h3)))
    hx0)

theorem kept_channelEnd {W : Span} {s0 : State} {x0 x1 x2 x3} (w : Span.le
    ⟨0x100000000000000000000000000000000000000000000000000000000000000000000000000000000000000000, 256⟩ W) (hx0 :
    Kept W s0 x0) :
    Kept W s0 (State.channelEnd x0 x1 x2 x3) := by
  delta State.channelEnd
  exact (by extract_lets v1 v2 v3 v4; exact (kept_loseChannel (w.sub rfl rfl) (kept_modNoc (w.sub rfl rfl) hx0)))

theorem kept_channelDown {W : Span} {s0 : State} {x0 x1 x2} (w : Span.le
    ⟨0xc101000000000000020000004000000000000000000000000000000000000000000000000000000000000000000, 385⟩ W) (hx0 :
    Kept W s0 x0) :
    Kept W s0 (State.channelDown x0 x1 x2) := by
  delta State.channelDown
  extract_lets v1 v3 v4
  have h2 : Kept W s0 v1 := (kept_nocFault (w.sub rfl rfl) (w.fld rfl) (kept_setLinkUp (w.sub rfl rfl) hx0))
  have h5 : Kept W s0 v4 := (kept_nocFault (w.sub rfl rfl) (w.fld rfl) (kept_setLinkUp (w.sub rfl rfl) h2))
  exact (kept_ite (kept_channelEnd (w.sub rfl rfl) h2) (kept_channelEnd (w.sub rfl rfl) (kept_channelEnd (w.sub rfl
    rfl) h5)))

theorem kept_flitReplay {W : Span} {s0 : State} {x0 x1 x2} (w : Span.le
    ⟨0xc101000000000000020000004000000000000000000000000000000000000000000000000000000000000000000, 385⟩ W) (hx0 :
    Kept W s0 x0) :
    Kept W s0 (State.flitReplay x0 x1 x2) := by
  delta State.flitReplay
  refine kept_ite ?_ ?_
  · exact hx0
  · extract_lets v1
    exact (kept_ite (kept_channelDown (w.sub rfl rfl) hx0) (kept_modNoc (w.sub rfl rfl) hx0))

theorem kept_execLinkFlitReplay {W : Span} {s0 : State} {x0 x1 x2} (w : Span.le
    ⟨0xc101000000000000020000004000000000000000000000000000000000000000000000000000000000000000000, 385⟩ W) (hx2 :
    Kept W s0 x2) :
    KeptOut W s0 (execLinkFlitReplay x0 x1 x2) := by
  delta execLinkFlitReplay
  exact (KeptOut.of (kept_flitReplay (w.sub rfl rfl) hx2))

theorem dramOk_restart {x0 x1} (hx0 : DramOk x0) : DramOk (Dram.restart x0 x1) := by
  delta Dram.restart
  exact (by extract_lets v1; exact (DramOk.set (TabOk.keep (hx0).mem)))

theorem kept_linksFollow {W : Span} {s0 : State} {x0 x1} (w : Span.le
    ⟨0xc000000000000000000000000000000000000000000000000000000000000000000000000000000000000000000, 256⟩ W) (hx0 :
    Kept W s0 x0) :
    Kept W s0 (State.linksFollow x0 x1) := by
  delta State.linksFollow
  extract_lets v1
  have h4 : Kept W s0 v1 := (kept_foldl (fun _ _ h2 => (kept_ite (by
      extract_lets v3
      exact (kept_setLinkUp (w.sub rfl rfl) (kept_setLinkUp (w.sub rfl rfl) h2)))
    h2)) hx0)
  exact (kept_ite (kept_setFlag (w.fld rfl) h4) h4)

theorem kept_anvilBlocks {W : Span} {s0 : State} {x0 x1} (w : Span.le
    ⟨0x3ffffffffffffffffc00000000000000000000000000000000000000000000000000000000000003f80000000000, 2⟩ W) (hx0 :
    Kept W s0 x0) :
    Kept W s0 (State.anvilBlocks x0 x1) := by
  delta State.anvilBlocks
  exact (kept_foldl (fun _ _ h1 => (kept_startBlock (startBlock_in (w.sub rfl rfl)) h1)) (kept_startBlock
    (startBlock_in (w.sub rfl rfl)) (kept_startBlock (startBlock_in (w.sub rfl rfl)) hx0)))

theorem kept_anvilUp {W : Span} {s0 : State} {x0 x1} (w : Span.le
    ⟨0x7ffffffffe00088000800003ffffffffffffffffc20000004000000000000000000000000000000000000000000000000000003f80000000000, 632243⟩ W) (hx0 : Kept W s0 x0) :
    Kept W s0 (State.anvilUp x0 x1) := by
  delta State.anvilUp
  refine kept_ite ?_ ?_
  · exact hx0
  · extract_lets v1 v3 v4 v7 v9
    have h2 : Kept W s0 v1 := (kept_lanesReset (w.sub rfl rfl) (kept_anvilBlocks (w.sub rfl rfl) hx0))
    have h6 : Kept W s0 v4 := (Kept.many h2 (fun i5 => (h2).regsOk i5) (.inr rfl) (fun i5 => ((h2).fabOk i5)) (fun i5
      => (dramOk_restart ((h2).dramOk i5))) (fun i5 => ((h2).hostOk i5)) Sys.factoryBad_mk (.inr rfl) (.inr rfl)
      (.inr rfl) (.inr rfl) (.inr rfl) (.inl (w.part rfl)) (.inr rfl) (.inr rfl) (.inr rfl) (.inr rfl) (.inr rfl)
      (.inr rfl) (.inr rfl) (.inl (w.part rfl)) (.inr rfl) (.inr rfl) (.inl (w.part rfl)) (.inr rfl) (.inr
      (HostIf.sameCommands.refl _)) (.inr (HostIf.sameQueues.refl _)) (.inr (HostIf.sameLog.refl _)) (.inr
      (HostIf.sameKeys.refl _)))
    have h8 : Kept W s0 v7 := (kept_traceUp (w.sub rfl rfl) (kept_lanesUp (w.sub rfl rfl) (kept_linksFollow (w.sub
      rfl rfl) h6)))
    have h10 : Kept W s0 v9 := (kept_anvilJoins (w.sub rfl rfl) (kept_modNoc (w.sub rfl rfl) h8))
    exact (kept_ite (kept_routeStart (w.sub rfl rfl) h10) (kept_nocPump (w.sub rfl rfl) h10))

theorem kept_anvilDown {W : Span} {s0 : State} {x0 x1} (w : Span.le
    ⟨0x80000000000000000000000000000000000000007ffffffffe00088000800003ffffffffffffffffc00000000000000000000000000000000000000000000000000000000000003f80000000300, 1648042⟩ W) (hx0 : Kept W s0 x0) :
    Kept W s0 (State.anvilDown x0 x1) := by
  delta State.anvilDown
  refine kept_ite ?_ ?_
  · exact hx0
  · extract_lets v1 v4 v5 v6 v7
    have h3 : Kept W s0 v1 := (kept_foldl (fun _ _ h2 => (kept_ite (kept_regionDown (w.sub rfl rfl) h2) h2)) hx0)
    have h9 : Kept W s0 v7 := (Kept.many h3 (fun i8 => (h3).regsOk i8) (.inr rfl) (fun i8 => ((h3).fabOk i8)) (fun i8
      => (dramOk_restart ((h3).dramOk i8))) (fun i8 => ((h3).hostOk i8)) Sys.factoryBad_mk (.inr rfl) (.inr rfl)
      (.inr rfl) (.inr rfl) (.inr rfl) (.inl (w.part rfl)) (.inr rfl) (.inl (w.part rfl)) (.inl (w.part rfl)) (.inr
      rfl) (.inr rfl) (.inr rfl) (.inr rfl) (.inl (w.part rfl)) (.inr rfl) (.inr rfl) (.inl (w.part rfl)) (.inr rfl)
      (.inr (HostIf.sameCommands.refl _)) (.inr (HostIf.sameQueues.refl _)) (.inr (HostIf.sameLog.refl _)) (.inr
      (HostIf.sameKeys.refl _)))
    exact (kept_linksFollow (w.sub rfl rfl) (kept_lanesReset (w.sub rfl rfl) (kept_anvilBlocks (w.sub rfl rfl) h9)))

theorem kept_anvilDomainOff {W : Span} {s0 : State} {x0 x1} (w : Span.le
    ⟨0x80000000000000000000000000000000000000007ffffffffe00088000800003ffffffffffffffffc00000000000000000000000000000000000000000000000000000000000003f80000000300, 1648042⟩ W) (hx0 : Kept W s0 x0) :
    Kept W s0 (State.anvilDomainOff x0 x1) := by
  delta State.anvilDomainOff
  exact (kept_ite (kept_ite (kept_anvilDown (w.sub rfl rfl) hx0) (kept_modNoc (w.sub rfl rfl) hx0)) hx0)

theorem kept_execAnvilDomainOff {W : Span} {s0 : State} {x0 x1} (w : Span.le
    ⟨0x80000000000000000000000000000000000000007ffffffffe00088000800003ffffffffffffffffc00000000000000000000000000000000000000000000000000000000000003f80000000300, 1648042⟩ W) (hx1 : Kept W s0 x1) :
    KeptOut W s0 (execAnvilDomainOff x0 x1) := by
  delta execAnvilDomainOff
  exact (KeptOut.of (kept_anvilDomainOff (w.sub rfl rfl) hx1))

end Sys2Proof.Machine
end

