-- ==== Sys2Proof/Laws/KeptModes.lean ====
section
/-! SUPPORT. What the operations of Machine/Modes.lean keep (see Laws/Kept.lean). -/

namespace Sys2Proof.Machine

theorem kept_releaseBy {W : Span} {s0 : State} {x0 x1} (w : Span.le ⟨0xf0300800000000000000000000000000000, 16400⟩ W)
    (hx0 : Kept W s0 x0) :
    Kept W s0 (State.releaseBy x0 x1) := by
  delta State.releaseBy
  exact (kept_releaseHeld (w.sub rfl rfl) (kept_ite (kept_outageRecover (w.sub rfl rfl) hx0) hx0))

theorem kept_dropStale {W : Span} {s0 : State} {x0 x1} (w : Span.le ⟨0x0, 16⟩ W) (hx0 : Kept W s0 x0) :
    Kept W s0 (State.dropStale x0 x1) := by
  delta State.dropStale
  exact (kept_modPart (w.sub rfl rfl) hx0)

theorem kept_autoWake {W : Span} {s0 : State} {x0 x1} (w : Span.le
    ⟨0x8000010000880008000000000000000000000000000000000000000000000000000000000000000000000000000000000000000000000000, 557056⟩ W) (hx0 : Kept W s0 x0) :
    Kept W s0 (State.autoWake x0 x1) := by
  delta State.autoWake
  exact (kept_foldl (fun _ _ h1 => (kept_bankExit (w.sub rfl rfl) h1)) hx0)

theorem kept_markBaseline {W : Span} {s0 : State} {x0 x1} (w : Span.le
    ⟨0x8000000000000000000000000000000000000000000000000000000000000000000000000000000000000000000000000000000000000000000000, 0⟩ W) (hx0 : Kept W s0 x0) :
    Kept W s0 (State.markBaseline x0 x1) := by
  delta State.markBaseline
  exact (by split; exacts [(kept_setReg (w.fld rfl) hx0), hx0])

theorem kept_domainUp {W : Span} {s0 : State} {x0 x1} (w : Span.le
    ⟨0xfe000000000000000000000000000000000000007ffffffffe00088000800003ffffffffffffffffc20000004000000000000000000000000000000000000000ffffe0001fc0003f80ffff80300, 1680827⟩ W) (hx0 : Kept W s0 x0) :
    Kept W s0 (State.domainUp x0 x1) := by
  delta State.domainUp
  refine kept_ite ?_ ?_
  · exact hx0
  · extract_lets v1 v2
    have h3 : Kept W s0 v2 := (Kept.setSys hx0 (w.part rfl) Sys.factoryBad_mk)
    exact (kept_regionUp (w.sub rfl rfl) (kept_anvilUp (w.sub rfl rfl) h3))

theorem kept_createPart {W : Span} {s0 : State} {x0 x1 x2 x3} (w : Span.le
    ⟨0xf000000000000000000000000000000000000000000000000000000000000000000000000000000000000000000001fffffffffffffffffff80fffffffffffffffff00001fffe03fffc07f00007fc00, 16402⟩ W) (hx0 : Kept W s0 x0) :
    Kept W s0 (State.createPart x0 x1 x2 x3) := by
  delta State.createPart
  extract_lets v1 v3 v4 v6 v8
  have h2 : Kept W s0 v1 := (kept_startBlock (startBlock_in (w.sub rfl rfl)) (kept_startBlock (startBlock_in (w.sub
    rfl rfl)) (kept_startBlock (startBlock_in (w.sub rfl rfl)) hx0)))
  have h5 : Kept W s0 v4 := (kept_setOutage (w.sub rfl rfl) (kept_modPart (w.sub rfl rfl) (kept_setReg64 (w.fld rfl)
    (w.fld rfl) (kept_setReg (w.fld rfl) (kept_setReg (w.fld rfl) h2)))))
  have h7 : Kept W s0 v6 := (kept_setReg (w.fld rfl) (kept_setReg (w.fld rfl) (kept_setReg (w.fld rfl) (kept_setReg
    (w.fld rfl) h5))))
  have h9 : Kept W s0 v8 := (kept_setReg (w.fld rfl) h7)
  exact (kept_setReg (w.fld rfl) (kept_setReg (w.fld rfl) h9))

theorem kept_cmdPartCreate {W : Span} {s0 : State} {x0 x1 x2 x3 x4} (w : Span.le
    ⟨0xf000fe000000000000000000000000000000000000007ffffffffe00088410800003ffffffffffffffffc200000041fffffffffffffffffff80ffffffffffffffffffffffffffffffffffffffffff00, 1699259⟩ W) (hx4 : Kept W s0 x4) :
    Kept1 W s0 (cmdPartCreate x0 x1 x2 x3 x4) := by
  delta cmdPartCreate
  extract_lets v1
  exact (kept_refuseIf hx4 (fun _ h2 => (by
      extract_lets v3 v6 v8
      have h5 : Kept W s0 v3 := (kept_foldl (fun _ _ h4 => (kept_domainUp (w.sub rfl rfl) h4)) h2)
      have h7 : Kept W s0 v6 := (kept_createPart (w.sub rfl rfl) h5)
      have h10 : Kept W s0 v8 := (kept_foldl (fun _ _ h9 => (kept_queueDown (w.sub rfl rfl) h9)) h7)
      exact (kept_oks (kept_setHolds (w.sub rfl rfl) h10)))))

theorem kept_execPartCreate {W : Span} {s0 : State} {x0 x1 x2 x3 x4} (w : Span.le
    ⟨0xf000fe000000000000000000000000000000000000007ffffffffe00088410800003ffffffffffffffffc200000041fffffffffffffffffff80ffffffffffffffffffffffffffffffffffffffffff00, 1961403⟩ W) (hx4 : Kept W s0 x4) :
    KeptOut W s0 (execPartCreate x0 x1 x2 x3 x4) := by
  delta execPartCreate
  exact (KeptOut.of (kept_runCmd (w.sub rfl rfl) (fun _ h1 => (kept_cmdPartCreate (w.sub rfl rfl) h1)) hx4))

theorem kept_dmaFlush {W : Span} {s0 : State} {x0 x1} (w : Span.le
    ⟨0x8800080000000000000000000000000000000400000000000000000000000000001f0300800bf8000000000000000000000000,
    1982744⟩ W) (hx0 : Kept W s0 x0) :
    Kept W s0 (State.dmaFlush x0 x1) := by
  delta State.dmaFlush
  exact (kept_foldl (fun _ _ h1 => (by
      extract_lets v2
      have h3 : Kept1 W s0 v2 := (kept_dmaRest (w.sub rfl rfl) h1)
      exact (kept_dmaDone (w.sub rfl rfl) (Kept1.st h3))))
    hx0)

theorem kept_destroyNow {W : Span} {s0 : State} {x0 x1 x2} (w : Span.le
    ⟨0x80000000000000000000e000000000000000001f8000000000000884108000003000000580000180c2000000404a00000000000000c0380000000001f0301da0bf8000000000000000000000300, 2059705⟩ W) (hx0 : Kept W s0 x0) :
    Kept W s0 (State.destroyNow x0 x1 x2) := by
  delta State.destroyNow
  extract_lets v1 v2 v4 v7 v10 v12 v15 v16
  have h3 : Kept W s0 v2 := (kept_discardImage (w.sub rfl rfl) (kept_dropQuench (w.sub rfl rfl) (kept_dmaFlush (w.sub
    rfl rfl) (kept_loadEnd (w.sub rfl rfl) hx0))))
  have h6 : Kept W s0 v4 := (kept_foldl (fun _ _ h5 => (kept_unbind (w.sub rfl rfl) h5)) h3)
  have h9 : Kept W s0 v7 := (kept_pinsDestroy (w.sub rfl rfl) (kept_foldl (fun _ _ h8 => (kept_queueDown (w.sub rfl
    rfl) h8)) h6))
  have h11 : Kept W s0 v10 := (kept_setOutage (w.sub rfl rfl) (kept_modPart (w.sub rfl rfl) (kept_setReg (w.fld rfl)
    h9)))
  have h14 : Kept W s0 v12 := (kept_foldl (fun _ _ h13 => (kept_ite (kept_fenceRegion (w.sub rfl rfl) h13) h13)) h11)
  exact (kept_ite (kept_doneAll (w.sub rfl rfl) h14) (Kept.setSvc h14 (w.part rfl)))

theorem kept_cmdPartDestroy {W : Span} {s0 : State} {x0 x1 x2} (w : Span.le
    ⟨0x80000000000000000000e000000000000000001f8000000000000884108000003000000580000180c2000000404a00000000000000c0380000000001f0301da0bf8000000000000000000000300, 2059705⟩ W) (hx2 : Kept W s0 x2) :
    Kept1 W s0 (cmdPartDestroy x0 x1 x2) := by
  delta cmdPartDestroy
  exact (kept_refuseIf hx2 (fun _ h1 => (ite_of (P := Kept1 W s0) (kept_waits (kept_modPart (w.sub rfl rfl) h1))
    (ite_of (P := Kept1 W s0) (kept_waits h1) (kept_waits (kept_destroyNow (w.sub rfl rfl) h1))))))

theorem kept_execPartDestroy {W : Span} {s0 : State} {x0 x1 x2} (w : Span.le
    ⟨0x80000000000000000000e000000000000000001f8000000000000884108000003000000580000180c2000000404a00000000000000c0380000000001f0301da0bf8000000000000000000000300, 2059705⟩ W) (hx2 : Kept W s0 x2) :
    KeptOut W s0 (execPartDestroy x0 x1 x2) := by
  delta execPartDestroy
  exact (KeptOut.of (kept_runCmd (w.sub rfl rfl) (fun _ h1 => (kept_cmdPartDestroy (w.sub rfl rfl) h1)) hx2))

theorem kept_cmdPartBind {W : Span} {s0 : State} {x0 x1 x2 x3} (w : Span.le
    ⟨0x4100000000000000000000000000000000000000000000000000000000000000000008000000000000000000000000000000, 524288⟩
    W) (hx3 : Kept W s0 x3) :
    Kept1 W s0 (cmdPartBind x0 x1 x2 x3) := by
  delta cmdPartBind
  exact (kept_refuseIf hx3 (fun _ h1 => (by
      extract_lets v2
      have h3 : Kept W s0 v2 := (kept_setReg (w.fld rfl) h1)
      exact (kept_oks (kept_foldl (fun _ _ h4 => (kept_queueDown (w.sub rfl rfl) h4)) h3)))))

theorem kept_execPartBind {W : Span} {s0 : State} {x0 x1 x2 x3} (w : Span.le
    ⟨0x4100000000000000000000000000000000000000000000000000000000000000000008000000000000000000000000000000, 1835008⟩
    W) (hx3 : Kept W s0 x3) :
    KeptOut W s0 (execPartBind x0 x1 x2 x3) := by
  delta execPartBind
  exact (KeptOut.of (kept_runCmd (w.sub rfl rfl) (fun _ h1 => (kept_cmdPartBind (w.sub rfl rfl) h1)) hx3))

theorem kept_startHeld {W : Span} {s0 : State} {x0 x1} (w : Span.le ⟨0x1f0300800000000000000000000000000000, 16400⟩
    W) (hx0 : Kept W s0 x0) :
    Kept W s0 (State.startHeld x0 x1) := by
  delta State.startHeld
  exact (kept_startCheck (w.sub rfl rfl) (kept_modPart (w.sub rfl rfl) (kept_dropStale (w.sub rfl rfl) hx0)))

theorem kept_runNow {W : Span} {s0 : State} {x0 x1 x2 x3} (w : Span.le
    ⟨0x80000080000100008800080000000000000000000000000000000000000000000000000000000000001f03c4a00000000000000000000000000000, 573456⟩ W) (hx0 : Kept W s0 x0) :
    Kept W s0 (State.runNow x0 x1 x2 x3) := by
  delta State.runNow
  extract_lets v1 v3
  have h2 : Kept W s0 v1 := (kept_setReg64 (w.fld rfl) (w.fld rfl) (kept_releaseBy (w.sub rfl rfl) hx0))
  have h4 : Kept W s0 v3 := (kept_ite (kept_clkPreset (w.sub rfl rfl) h2) h2)
  exact (kept_startHeld (w.sub rfl rfl) (kept_enterMode (w.sub rfl rfl) (kept_markBaseline (w.sub rfl rfl)
    (kept_autoWake (w.sub rfl rfl) h4))))

theorem kept_cmdPartRun {W : Span} {s0 : State} {x0 x1 x2 x3 x4 x5} (w : Span.le
    ⟨0x80000080000100008800080000000000000000000000000000000000000000000000000000000000001f03c4a00000000000000000000000000000, 573456⟩ W) (hx5 : Kept W s0 x5) :
    Kept1 W s0 (cmdPartRun x0 x1 x2 x3 x4 x5) := by
  delta cmdPartRun
  exact (kept_refuseIf hx5 (fun _ h1 => (ite_of (P := Kept1 W s0) (kept_waits h1) (kept_oks (kept_runNow (w.sub rfl
    rfl) h1)))))

theorem kept_execPartRun {W : Span} {s0 : State} {x0 x1 x2 x3 x4 x5} (w : Span.le
    ⟨0x80000080000100008800080000000000000000000000000000000000000000000000000000000000001f03c4a00000000000000000000000000000, 1884176⟩ W) (hx5 : Kept W s0 x5) :
    KeptOut W s0 (execPartRun x0 x1 x2 x3 x4 x5) := by
  delta execPartRun
  exact (KeptOut.of (kept_runCmd (w.sub rfl rfl) (fun _ h1 => (kept_cmdPartRun (w.sub rfl rfl) h1)) hx5))

theorem kept_enterReady {W : Span} {s0 : State} {x0 x1 x2 x3} (w : Span.le
    ⟨0x300000000000000000000000000000000000000004400000000000000880008000000000000000000000000000000000000000000000000000008000000000004200000000000000000000000000000, 541712⟩ W) (hx0 : Kept W s0 x0) :
    Kept W s0 (State.enterReady x0 x1 x2 x3) := by
  delta State.enterReady
  extract_lets v1
  have h2 : Kept W s0 v1 := (kept_modPart (w.sub rfl rfl) hx0)
  exact (kept_outageEnd (w.sub rfl rfl) (kept_enterMode (w.sub rfl rfl) (kept_ite (kept_flush (w.sub rfl rfl) h2)
    h2)))

theorem kept_cmdPartStop {W : Span} {s0 : State} {x0 x1 x2 x3 x4} (w : Span.le
    ⟨0x3000000000000000000000000000000000000000044000000000000008800080000000000000000000000000000000000000000000000000000080000000f0304a00000000000000000000000000000, 541712⟩ W) (hx4 : Kept W s0 x4) :
    Kept1 W s0 (cmdPartStop x0 x1 x2 x3 x4) := by
  delta cmdPartStop
  exact (kept_refuseIf hx4 (fun _ h1 => (by
      extract_lets v2
      exact (ite_of (P := Kept1 W s0) (kept_waits (kept_dueNow (w.sub rfl rfl) (kept_modPart (w.sub rfl rfl)
        (kept_releaseBy (w.sub rfl rfl) h1)))) (ite_of (P := Kept1 W s0) (kept_waits (kept_dueNow (w.sub rfl rfl)
        (kept_modPart (w.sub rfl rfl) (kept_releaseBy (w.sub rfl rfl) h1)))) (kept_oks (kept_enterReady (w.sub rfl
        rfl) (kept_releaseBy (w.sub rfl rfl) h1))))))))

theorem kept_execPartStop {W : Span} {s0 : State} {x0 x1 x2 x3 x4} (w : Span.le
    ⟨0x3000000000000000000000000000000000000000044000000000000008800080000000000000000000000000000000000000000000000000000080000000f0304a00000000000000000000000000000, 1852432⟩ W) (hx4 : Kept W s0 x4) :
    KeptOut W s0 (execPartStop x0 x1 x2 x3 x4) := by
  delta execPartStop
  exact (KeptOut.of (kept_runCmd (w.sub rfl rfl) (fun _ h1 => (kept_cmdPartStop (w.sub rfl rfl) h1)) hx4))

theorem kept_cmdPartHalt {W : Span} {s0 : State} {x0 x1 x2 x3 x4} (w : Span.le
    ⟨0x8800080000000000000000000000000000000000000000000000000000000000000f0306a00000000000000000000000000000,
    1851408⟩ W) (hx4 : Kept W s0 x4) :
    Kept1 W s0 (cmdPartHalt x0 x1 x2 x3 x4) := by
  delta cmdPartHalt
  extract_lets v1
  exact (kept_refuseIf hx4 (fun _ h2 => (ite_of (P := Kept1 W s0) (by
      extract_lets v3
      have h4 : Kept W s0 v3 := (kept_modPart (w.sub rfl rfl) h2)
      exact (kept_waits (kept_ite (kept_haltHere (w.sub rfl rfl) h4) h4)))
    (kept_waits (kept_dueNow (w.sub rfl rfl) (kept_modPart (w.sub rfl rfl) (kept_releaseBy (w.sub rfl rfl) h2)))))))

theorem kept_execPartHalt {W : Span} {s0 : State} {x0 x1 x2 x3 x4} (w : Span.le
    ⟨0x8800080000000000000000000000000000000000000000000000000000000000000f0306a00000000000000000000000000000,
    1851408⟩ W) (hx4 : Kept W s0 x4) :
    KeptOut W s0 (execPartHalt x0 x1 x2 x3 x4) := by
  delta execPartHalt
  exact (KeptOut.of (kept_runCmd (w.sub rfl rfl) (fun _ h1 => (kept_cmdPartHalt (w.sub rfl rfl) h1)) hx4))

theorem kept_resumeInspect {W : Span} {s0 : State} {x0 x1} (w : Span.le
    ⟨0x8800080000000000000000000000000000000000000000000000000000000000001f0306a00000000000000000000000000000,
    540688⟩ W) (hx0 : Kept W s0 x0) :
    Kept W s0 (State.resumeInspect x0 x1) := by
  delta State.resumeInspect
  extract_lets v1 v2
  have h3 : Kept W s0 v2 := (kept_enterMode (w.sub rfl rfl) (kept_setReg (w.fld rfl) (kept_releaseBy (w.sub rfl rfl)
    hx0)))
  exact (kept_ite (kept_startHeld (w.sub rfl rfl) h3) (kept_ite (kept_dueNow (w.sub rfl rfl) (kept_startCheck (w.sub
    rfl rfl) h3)) h3))

theorem kept_cmdPartResume {W : Span} {s0 : State} {x0 x1 x2 x3} (w : Span.le
    ⟨0x8800080000000000000000000000000000000000000000000000000000000000001f0306a00000000000000000000000000000,
    540688⟩ W) (hx3 : Kept W s0 x3) :
    Kept1 W s0 (cmdPartResume x0 x1 x2 x3) := by
  delta cmdPartResume
  exact (kept_refuseIf hx3 (fun _ h1 => (ite_of (P := Kept1 W s0) (kept_oks (kept_releaseBy (w.sub rfl rfl) h1))
    (ite_of (P := Kept1 W s0) (kept_waits h1) (kept_oks (kept_resumeInspect (w.sub rfl rfl) h1))))))

theorem kept_execPartResume {W : Span} {s0 : State} {x0 x1 x2 x3} (w : Span.le
    ⟨0x8800080000000000000000000000000000000000000000000000000000000000001f0306a00000000000000000000000000000,
    1851408⟩ W) (hx3 : Kept W s0 x3) :
    KeptOut W s0 (execPartResume x0 x1 x2 x3) := by
  delta execPartResume
  exact (KeptOut.of (kept_runCmd (w.sub rfl rfl) (fun _ h1 => (kept_cmdPartResume (w.sub rfl rfl) h1)) hx3))

theorem kept_commitPart {W : Span} {s0 s : State} {p : Nat} {late} (w : Span.le ⟨0x8800000000000000005800000000200000041fffffffffffffffffff80fffffffffffffffff00001fffe03fffc07f00007fc00, 532667⟩ W) (h : Kept W s0 s) :
    Kept W s0 (State.commitPart s p late) := by
  delta State.commitPart
  refine kept_acqEnabled (w.sub rfl rfl) (kept_commit_in (w.sub rfl rfl) (fun k hk => ?_) h)
  simp only [Bool.and_eq_true, Bool.or_eq_true, decide_eq_true_eq] at hk
  rcases hk.1.2 with (hb | hb) | hb
  · exact fldOf_in (w.sub rfl rfl) hb (by decide)
  · exact fldOf_in (w.sub rfl rfl) hb (by decide)
  · exact fldOf_in (w.sub rfl rfl) hb (by decide)

theorem kept_unloadNow {W : Span} {s0 : State} {x0 x1} (w : Span.le
    ⟨0xfe000000000000000000e000000000000000001ffffffffffe00088410800003ffffffffffffffffc200000041fffffffffffffffffff80ffffffffffffffffffffffffffffffffffffffffff00, 2092475⟩ W) (hx0 : Kept W s0 x0) :
    Kept W s0 (State.unloadNow x0 x1) := by
  delta State.unloadNow
  extract_lets v1 v2 v4 v6 v8 v10 v12
  have h3 : Kept W s0 v2 := (kept_loadEnd (w.sub rfl rfl) hx0)
  have h5 : Kept W s0 v4 := (kept_doneAll (w.sub rfl rfl) (kept_doneAll (w.sub rfl rfl) h3))
  have h7 : Kept W s0 v6 := (kept_setReg (w.fld rfl) (kept_setReg (w.fld rfl) (kept_discardImage (w.sub rfl rfl)
    (kept_dropQuench (w.sub rfl rfl) (kept_dmaFlush (w.sub rfl rfl) h5)))))
  have h9 : Kept W s0 v8 := (kept_pinsChange (w.sub rfl rfl) (kept_modPart (w.sub rfl rfl) h7))
  have h11 : Kept W s0 v10 := (kept_outageRecover (w.sub rfl rfl) (kept_enterMode (w.sub rfl rfl) (kept_commitPart
    (w.sub rfl rfl) h9)))
  have h14 : Kept W s0 v12 := (kept_foldl (fun _ _ h13 => (kept_domainUp (w.sub rfl rfl) h13)) h11)
  exact (kept_ite h14 (kept_destroyNow (w.sub rfl rfl) h14))

theorem kept_cmdPartUnload {W : Span} {s0 : State} {x0 x1 x2} (w : Span.le
    ⟨0xfe000000000000000000e000000000000000001ffffffffffe00088410800003ffffffffffffffffc200000041fffffffffffffffffff80ffffffffffffffffffffffffffffffffffffffffff00, 2092475⟩ W) (hx2 : Kept W s0 x2) :
    Kept1 W s0 (cmdPartUnload x0 x1 x2) := by
  delta cmdPartUnload
  exact (kept_refuseIf hx2 (fun _ h1 => (ite_of (P := Kept1 W s0) (kept_waits h1) (kept_oks (kept_unloadNow (w.sub
    rfl rfl) h1)))))

theorem kept_execPartUnload {W : Span} {s0 : State} {x0 x1 x2} (w : Span.le
    ⟨0xfe000000000000000000e000000000000000001ffffffffffe00088410800003ffffffffffffffffc200000041fffffffffffffffffff80ffffffffffffffffffffffffffffffffffffffffff00, 2092475⟩ W) (hx2 : Kept W s0 x2) :
    KeptOut W s0 (execPartUnload x0 x1 x2) := by
  delta execPartUnload
  exact (KeptOut.of (kept_runCmd (w.sub rfl rfl) (fun _ h1 => (kept_cmdPartUnload (w.sub rfl rfl) h1)) hx2))

end Sys2Proof.Machine
end

