-- ==== Sys2Proof/Laws/KeptCycle.lean ====
section
/-! SUPPORT. What the operations of Machine/Cycle.lean keep (see Laws/Kept.lean). -/

namespace Sys2Proof.Machine

theorem kept_strikes {W : Span} {s0 : State} {x0 x1 x2} (w : Span.le ⟨0x1000000000000, 8⟩ W) (hx0 : Kept W s0 x0) :
    Kept W s0 (State.strikes x0 x1 x2) := by
  delta State.strikes
  extract_lets v1 v2
  have h5 : Kept W s0 v2 := (Kept.setFab hx0 (w.part rfl) (fun i3 => (foldl_of (P := FabOk) (fun _ _ h4 =>
    (fabOk_strike h4)) ((hx0).fabOk i3))))
  exact (kept_foldl (fun _ _ h6 => (kept_bump (w.fld rfl) h6)) h5)

theorem kept_deadLinks {W : Span} {s0 : State} {x0 x1} (w : Span.le ⟨0x0, 8⟩ W) (hx0 : Kept W s0 x0) :
    Kept W s0 (State.deadLinks x0 x1) := by
  delta State.deadLinks
  extract_lets v1 v2
  exact (kept_ite hx0 (Kept.setFab hx0 (w.part rfl) (fun i3 => (FabOk.set (((hx0).fabOk i3)).instr (((hx0).fabOk
    i3)).route (((hx0).fabOk i3)).egress (((hx0).fabOk i3)).inject (((hx0).fabOk i3)).dict (((hx0).fabOk i3)).mem
    (((hx0).fabOk i3)).banks))))

theorem kept_startCycle {W : Span} {s0 : State} {x0 x1} (w : Span.le
    ⟨0x8800000000000000005800000000200000041fffffffffffffffffff80fffffffffffffffff00001fffe03fffc07f00007fc00,
    532667⟩ W) (hx0 : Kept W s0 x0) :
    Kept W s0 (State.startCycle x0 x1) := by
  delta State.startCycle
  extract_lets v1 v3 v4 v5
  have h2 : Kept W s0 v1 := (kept_ite (kept_modPart (w.sub rfl rfl) (kept_trigRequests (w.sub rfl rfl)
    (kept_commitPart (w.sub rfl rfl) hx0))) hx0)
  have h6 : Kept W s0 v5 := (kept_modPart (w.sub rfl rfl) h2)
  exact (kept_capCycleStart (w.sub rfl rfl) (kept_acqCycleStart (w.sub rfl rfl) (kept_takeVectors (w.sub rfl rfl)
    h6)))

theorem kept_deliver {W : Span} {s0 : State} {x0 x1 x2 x3} (w : Span.le ⟨0x0, 16⟩ W) (hx2 : Kept W s0 x2) :
    Kept W s0 (State.deliver x0 x1 x2 x3) := by
  delta State.deliver
  extract_lets v1 v2 v4
  have h3 : Kept W s0 v2 := by
    unfold v2
    split
    · exact (kept_modPart (w.sub rfl rfl) hx2)
    · exact (kept_ite (kept_modPart (w.sub rfl rfl) hx2) hx2)
    · exact (kept_modPart (w.sub rfl rfl) hx2)
    · exact hx2
  exact (kept_ite (kept_modPart (w.sub rfl rfl) h3) h3)

theorem kept_freePin {W : Span} {s0 : State} {x0 x1 x2} (w : Span.le ⟨0x0, 17⟩ W) (hx1 : Kept W s0 x1) :
    Kept W s0 (State.freePin x0 x1 x2) := by
  delta State.freePin
  extract_lets v1
  have h2 : Kept2 W s0 v1 := (kept_takeBit (w.sub rfl rfl) hx1)
  exact (kept_modPart (w.sub rfl rfl) (Kept2.st h2))

theorem kept_noteCorrs {W : Span} {s0 : State} {x0 x1 x2 x3} (w : Span.le
    ⟨0x18000000000000000000000000000000000000000000000000000000000000000000000000000000000000000000000000000000000000000000000000000000000000000000000000000000000, 24576⟩ W) (hx0 : Kept W s0 x0) :
    Kept W s0 (State.noteCorrs x0 x1 x2 x3) := by
  delta State.noteCorrs
  extract_lets v1 v2
  have h4 : Kept W s0 v2 := (kept_foldl (fun _ _ h3 => (kept_noteCorr (w.sub rfl rfl) h3)) hx0)
  exact (kept_foldl (fun _ _ h5 => (kept_noteCorr (w.sub rfl rfl) h5)) h4)

theorem kept_advance {W : Span} {s0 : State} {x0 x1 x2} (w : Span.le ⟨0x18000000000, 0⟩ W) (hx0 : Kept W s0 x0) :
    Kept W s0 (State.advance x0 x1 x2) := by
  delta State.advance
  exact (kept_ite (kept_setReg (w.fld rfl) (kept_setReg (w.fld rfl) hx0)) (kept_setReg (w.fld rfl) hx0))

theorem kept_runStep {W : Span} {s0 : State} {x0 x1} (w : Span.le
    ⟨0x3200980000000000000000000000000000000000000000000000000008800080000000000005800000000200000041fffffffffffffffffff80fffffffffffffffffff801fffffffffc07f3ff87fc00, 2025915⟩ W) (hx0 : Kept W s0 x0) :
    Kept W s0 (State.runStep x0 x1) := by
  delta State.runStep
  extract_lets v1 v2 v4 v5 v6 v7 v8 v11 v15 v18 v20 v22
  have h3 : Kept W s0 v2 := (kept_deadLinks (w.sub rfl rfl) (kept_ite (kept_startCycle (w.sub rfl rfl) hx0) hx0))
  have h10 : Kept1 W s0 v8 := (kept_ports (w.sub rfl rfl) (Kept.setFab h3 (w.part rfl) (fun i9 => ((fsOk_fabStep
    (ite_of (P := FabOk) (fabOk_deliverDram (fabOk_deliverSp ((h3).fabOk i9))) (fabOk_deliverSp ((h3).fabOk
    i9))))).fab)))
  have h14 : Kept W s0 v11 := (kept_foldl (fun _ _ h12 => (kept_freePin (w.sub rfl rfl) h12)) (kept_foldl (fun _ _
    h13 => (kept_deliver (w.sub rfl rfl) h13)) (Kept1.st h10)))
  have h17 : Kept W s0 v15 := (kept_fabDoubles (w.sub rfl rfl) (kept_foldl (fun _ _ h16 => (kept_fabFault (w.sub rfl
    rfl) h16)) (kept_noteCorrs (w.sub rfl rfl) (kept_fabCorr (w.sub rfl rfl) h14))))
  have h19 : Kept W s0 v18 := (kept_checkHorizon (w.sub rfl rfl) (kept_idleBanks (w.sub rfl rfl) (kept_careForNew
    (w.sub rfl rfl) (kept_fabFence (w.sub rfl rfl) h17))))
  have h21 : Kept W s0 v20 := (kept_dueNow (w.sub rfl rfl) (kept_ite (kept_startCheck (w.sub rfl rfl) h19) h19))
  have h23 : Kept W s0 v22 := (kept_outageEnd (w.sub rfl rfl) (kept_ite (kept_compareCycle (w.sub rfl rfl) h21) h21))
  exact (kept_advance (w.sub rfl rfl) h23)

theorem kept_execStep {W : Span} {s0 : State} {x0 x1 x2} (w : Span.le
    ⟨0x3200980000000000000000000000000000000000000000000000000008800080000000000005800000000200000041fffffffffffffffffff80fffffffffffffffffff801fffffffffd07f3ff87fc00, 2025915⟩ W) (hx2 : Kept W s0 x2) :
    KeptOut W s0 (execStep x0 x1 x2) := by
  delta execStep
  exact (KeptOut.of (kept_ite (kept_runStep (w.sub rfl rfl) (kept_strikes (w.sub rfl rfl) hx2)) hx2))

theorem fabOk_commitUser {x0 x1} (hx0 : FabOk x0) : FabOk (Fab.commitUser x0 x1) := by
  delta Fab.commitUser
  extract_lets v1
  exact (FabOk.set (hx0).instr (hx0).route (hx0).egress (hx0).inject (hx0).dict (foldl_of (P := TabOk false) (fun _ _
    h2 => (TabOk.put h2)) (hx0).mem) (hx0).banks)

theorem kept_sidebandUpdate {W : Span} {s0 : State} {x0 x1} (w : Span.le ⟨0x0, 32784⟩ W) (hx0 : Kept W s0 x0) :
    Kept W s0 (State.sidebandUpdate x0 x1) := by
  delta State.sidebandUpdate
  exact (by extract_lets v1; exact (kept_ite hx0 (kept_emit (w.sub rfl rfl) (kept_modPart (w.sub rfl rfl) hx0))))

theorem kept_updateSpecials {W : Span} {s0 : State} {x0 x1} (w : Span.le
    ⟨0xd87c0000000000000000000000000000000000000000000000000, 34960⟩ W) (hx0 : Kept W s0 x0) :
    Kept1 W s0 (State.updateSpecials x0 x1) := by
  delta State.updateSpecials
  extract_lets v1 v3
  have h2 : Kept W s0 v1 := (kept_modPart (w.sub rfl rfl) hx0)
  have h4 : Kept W s0 v3 := (kept_sidebandUpdate (w.sub rfl rfl) (kept_compareBoundary (w.sub rfl rfl)
    (kept_clkAdvance (w.sub rfl rfl) h2)))
  exact (kept_trigBoundary (w.sub rfl rfl) h4)

theorem kept_haltBoundary {W : Span} {s0 : State} {x0 x1} (w : Span.le
    ⟨0x88000800000000000000000000000000000000000000000000000000000000000000000000000000000000000000000007f800,
    524288⟩ W) (hx0 : Kept W s0 x0) :
    Kept W s0 (State.haltBoundary x0 x1) := by
  delta State.haltBoundary
  extract_lets v1 v2 v3
  have h4 : Kept W s0 v3 := (kept_bump (w.fld rfl) hx0)
  clear_value v1
  split
  · exact hx0
  · refine kept_ite ?_ ?_
    · exact hx0
    · extract_lets v5
      have h6 : Kept W s0 v5 := (kept_ite h4 (kept_setReg64 (w.fld rfl) (w.fld rfl) (kept_setReg (w.fld rfl)
        (kept_setReg (w.fld rfl) (kept_setReg (w.fld rfl) (kept_setReg (w.fld rfl) (kept_setReg (w.fld rfl) h4)))))))
      exact (kept_ite (kept_pEvent (w.sub rfl rfl) h6) h6)

theorem kept_changeMode {W : Span} {s0 : State} {x0 x1 x2} (w : Span.le
    ⟨0x300000000000000000000000000000000000000004400000000000000880008000000000000000000000000000000000000000000000000000008000000000006200000000000000000000000000000, 1852432⟩ W) (hx0 : Kept W s0 x0) :
    Kept W s0 (State.changeMode x0 x1 x2) := by
  delta State.changeMode
  refine kept_ite ?_ ?_
  · exact hx0
  · extract_lets v1 v2 v3 v4 v5 v7
    have h6 : Kept W s0 v5 := (kept_modPart (w.sub rfl rfl) (kept_setReg (w.fld rfl) hx0))
    have h8 : Kept W s0 v7 := (kept_ite (kept_enterMode (w.sub rfl rfl) h6) (kept_enterReady (w.sub rfl rfl) h6))
    exact (kept_doneAll (w.sub rfl rfl) (kept_doneAll (w.sub rfl rfl) h8))

theorem kept_nextCycle {W : Span} {s0 : State} {x0 x1} (w : Span.le ⟨0xc0000000000000000000078000000000, 16⟩ W) (hx0
    : Kept W s0 x0) :
    Kept W s0 (State.nextCycle x0 x1) := by
  delta State.nextCycle
  extract_lets v1 v2
  have h3 : Kept W s0 v2 := (kept_setReg (w.fld rfl) (kept_setReg (w.fld rfl) (kept_setReg64 (w.fld rfl) (w.fld rfl)
    hx0)))
  exact (kept_modPart (w.sub rfl rfl) (kept_setReg64 (w.fld rfl) (w.fld rfl) h3))

theorem kept_boundaryActions {W : Span} {s0 : State} {x0 x1} (w : Span.le
    ⟨0x700000000000000008800080000000000005800000000200000041fffffffffffffffffff80fffffffffffffffff00001fffe03fffc07f00007fc00, 568507⟩ W) (hx0 : Kept W s0 x0) :
    Kept1 W s0 (State.boundaryActions x0 x1) := by
  delta State.boundaryActions
  extract_lets v1 v2 v5 v7
  have h4 : Kept1 W s0 v2 := (kept_updateSpecials (w.sub rfl rfl) (Kept.setFab hx0 (w.part rfl) (fun i3 =>
    (fabOk_commitUser ((hx0).fabOk i3)))))
  have h6 : Kept W s0 v5 := (kept_capBoundary (w.sub rfl rfl) (kept_acqBoundary (w.sub rfl rfl) (kept_haltBoundary
    (w.sub rfl rfl) (Kept1.st h4))))
  have h8 : Kept W s0 v7 := (kept_commitPart (w.sub rfl rfl) h6)
  exact (Kept1.of (kept_outVectors (w.sub rfl rfl) h8))

theorem kept_destroyReady {W : Span} {s0 : State} {x0 x1} (w : Span.le
    ⟨0x80000000000000000000e000000000000000001f8000000000000884108000003000000580000180c2000000404a00000000000000c0380000000001f0301da0bf8000000000000000000000300, 2059705⟩ W) (hx0 : Kept W s0 x0) :
    Kept W s0 (State.destroyReady x0 x1) := by
  delta State.destroyReady
  exact (by extract_lets v1; exact (kept_ite (kept_destroyNow (w.sub rfl rfl) hx0) hx0))

theorem kept_boundary {W : Span} {s0 : State} {x0 x1} (w : Span.le
    ⟨0x300080000000000000000000e000000000000000745f8000000000000884108000003000000580000180c200000041fffffffffffffffffff80fffffffffffffffffbf801fffe03fffc07f00007ff00, 2092475⟩ W) (hx0 : Kept W s0 x0) :
    Kept W s0 (State.boundary x0 x1) := by
  delta State.boundary
  extract_lets v1 v3 v4
  have h2 : Kept1 W s0 v1 := (kept_boundaryActions (w.sub rfl rfl) hx0)
  have h5 : Kept W s0 v4 := (kept_changeMode (w.sub rfl rfl) (kept_nextCycle (w.sub rfl rfl) (Kept1.st h2)))
  exact (kept_dmaSettle (w.sub rfl rfl) (kept_destroyReady (w.sub rfl rfl) (kept_ite (kept_assertEntry (w.sub rfl
    rfl) h5) h5)))

theorem kept_execCycleBoundary {W : Span} {s0 : State} {x0 x1} (w : Span.le
    ⟨0x300080000000000000000000e000000000000000745f8000000000000884108000003000000580000180c200000041fffffffffffffffffff80fffffffffffffffffbf801fffe03fffc07f00007ff00, 2092475⟩ W) (hx1 : Kept W s0 x1) :
    KeptOut W s0 (execCycleBoundary x0 x1) := by
  delta execCycleBoundary
  exact (KeptOut.of (kept_ite (kept_boundary (w.sub rfl rfl) hx1) hx1))

end Sys2Proof.Machine
end

