-- ==== Sys2Proof/Laws/KeptRespond.lean ====
section
/-! SUPPORT. What the operations of Machine/Respond.lean keep (see Laws/Kept.lean). -/

namespace Sys2Proof.Machine

theorem kept_modBox {W : Span} {s0 : State} {x0 x1 x2 x3} (w : Span.le ⟨0x0, 64⟩ W) (hx0 : Kept W s0 x0) :
    Kept W s0 (State.modBox x0 x1 x2 x3) := by
  delta State.modBox
  exact (Kept.setHost hx0 (fun i1 => (by
      extract_lets v2
      have h3 : HostOk v2 := ((hx0).hostOk i1)
      exact (HostOk.set (h3).mem)))
    (.inl (w.part rfl)) (.inr ⟨rfl, rfl, rfl, rfl, rfl⟩) (.inr ⟨rfl, rfl⟩) (.inr ⟨rfl, rfl, rfl, rfl, rfl⟩) (.inr
      ⟨rfl, rfl⟩) (.inr rfl))

theorem kept_queueRespond {W : Span} {s0 : State} {x0 x1 x2} (w : Span.le ⟨0x0, 524288⟩ W) (hx0 : Kept W s0 x0) :
    Kept W s0 (State.queueRespond x0 x1 x2) := by
  delta State.queueRespond
  extract_lets v1 v2
  have h3 : Kept W s0 v2 := (kept_rescan (w.sub rfl rfl) (kept_modQueue (w.sub rfl rfl) hx0))
  exact (kept_ite (kept_qAppend (w.sub rfl rfl) h3) h3)

theorem kept_respond {W : Span} {s0 : State} {x0 x1} (w : Span.le
    ⟨0x200000000000000000000000000000000000000000000000000000000000000000000000000000000000000000000, 819264⟩ W) (hx0
    : Kept W s0 x0) :
    Kept W s0 (State.respond x0 x1) := by
  delta State.respond
  split
  · exact hx0
  · extract_lets v1 v2 v3 v4 v7 v8
    have h6 : Kept W s0 v4 := (Kept.setHost hx0 (fun i5 => (HostOk.set (((hx0).hostOk i5)).mem)) (.inr rfl) (.inl
      (w.part rfl)) (.inr ⟨rfl, rfl⟩) (.inr ⟨rfl, rfl, rfl, rfl, rfl⟩) (.inr ⟨rfl, rfl⟩) (.inr rfl))
    split
    · refine kept_ite ?_ ?_
      · exact (kept_queueRespond (w.sub rfl rfl) h6)
      · refine kept_ite ?_ ?_
        · exact h6
        · refine kept_ite ?_ ?_
          · exact (kept_setReg (w.fld rfl) h6)
          · extract_lets v9
            have h10 : Kept W s0 v9 := (kept_setReg (w.fld rfl) (kept_modBox (w.sub rfl rfl) h6))
            exact (by split; exacts [(kept_emit (w.sub rfl rfl) h10), h10])
    · extract_lets v11
      exact (kept_ite h6 (kept_emit (w.sub rfl rfl) (Kept.setHost h6 (fun i12 => (HostOk.set (((h6).hostOk
        i12)).mem)) (.inr rfl) (.inl (w.part rfl)) (.inr ⟨rfl, rfl⟩) (.inr ⟨rfl, rfl, rfl, rfl, rfl⟩) (.inr ⟨rfl,
        rfl⟩) (.inr rfl))))
    · exact (kept_ite h6 (kept_emit (w.sub rfl rfl) (Kept.setHost h6 (fun i13 => (HostOk.set (((h6).hostOk
        i13)).mem)) (.inr rfl) (.inl (w.part rfl)) (.inr ⟨rfl, rfl⟩) (.inr ⟨rfl, rfl, rfl, rfl, rfl⟩) (.inr ⟨rfl,
        rfl⟩) (.inr rfl))))
    · exact h6

theorem kept_stewardRestart {W : Span} {s0 : State} {x0} (w : Span.le
    ⟨0x880008000200000000580000180c2000000400a00000000000000c0380000000000f02043a0000000000000000000000000000,
    1935609⟩ W) (hx0 : Kept W s0 x0) :
    Kept W s0 (State.stewardRestart x0) := by
  delta State.stewardRestart
  extract_lets v1 v4
  have h3 : Kept W s0 v1 := (kept_foldl (fun _ _ h2 => (kept_loadFail (w.sub rfl rfl) h2)) hx0)
  have h6 : Kept W s0 v4 := (kept_foldl (fun _ _ h5 => (kept_done (w.sub rfl rfl) h5)) h3)
  exact (kept_foldl (fun _ _ h7 => (kept_respond (w.sub rfl rfl) h7)) h6)

end Sys2Proof.Machine
end

