-- ==== Sys2Proof/Laws/KeptStartup.lean ====
section
/-! SUPPORT. What the operations of Machine/Startup.lean keep (see Laws/Kept.lean). -/

namespace Sys2Proof.Machine

theorem kept_modEvent {W : Span} {s0 : State} {x0} (w : Span.le
    ⟨0x880008000000000000000000000000000000000000000000000000000000000000000000000000000000000000000000000000,
    524288⟩ W) (hx0 : Kept W s0 x0) :
    Kept W s0 (State.modEvent x0) := by
  delta State.modEvent
  exact (kept_mEvent (w.sub rfl rfl) hx0)

theorem kept_enterStandby {W : Span} {s0 : State} {x0} (w : Span.le
    ⟨0x800000000010000000000000000000000000000000000000880008000000000000000000000000000000000000000000000000000000000000000000000000000000000000000000000000, 526336⟩ W) (hx0 : Kept W s0 x0) :
    Kept W s0 (State.enterStandby x0) := by
  delta State.enterStandby
  extract_lets v1
  have h2 : Kept W s0 v1 := (kept_setReg (w.fld rfl) hx0)
  exact (kept_modEvent (w.sub rfl rfl) (kept_ite (kept_latchPads (w.sub rfl rfl) h2) h2))

theorem kept_wake {W : Span} {s0 : State} {x0} (w : Span.le
    ⟨0x800000000010000000000000000000000000000000000000000000000000000000000000000000000000000000000000000000000000000000000000000000000000000000000000000000, 2048⟩ W) (hx0 : Kept W s0 x0) :
    Kept W s0 (State.wake x0) := by
  delta State.wake
  exact (kept_setReg (w.fld rfl) (kept_ite (kept_releasePads (w.sub rfl rfl) hx0) hx0))

theorem kept_powerCycle {W : Span} {s0 : State} {s last} (w : Span.le ⟨0xffffffffffffffffffffffffffffffffffffffffffffffffffffffffffffffffffffffffffffffffffffffffffffffffffffffffffffffffffffffffffffffffffffffffffffffffffffffffffffffffffffffffffffffffffffffffffffffffffffffffffffffffffffffffffffffffffffffffffffffffffffffffffffffff, 4030462⟩ W) (h : Kept W s0 s) :
    Kept W s0 (State.powerCycle s last) := by
  delta State.powerCycle
  extract_lets _ _ _ _ _ _ _ v1
  have h1 : Kept W s0 v1 := h.many (fun _ => TabOk.nil) (.inl fun _ => w.all rfl) (fun _ => FabOk.init)
    (fun _ => DramOk.set TabOk.nil) (fun i => HostOk.set (h.tidy i).host) Sys.factoryBad_mk
    (.inr rfl) (.inl (w.part rfl)) (.inl (w.part rfl)) (.inl (w.part rfl)) (.inl (w.part rfl)) (.inl (w.part rfl))
    (.inl (w.part rfl)) (.inl (w.part rfl)) (.inl (w.part rfl)) (.inl (w.part rfl)) (.inl (w.part rfl))
    (.inl (w.part rfl)) (.inl (w.part rfl)) (.inl (w.part rfl)) (.inl (w.part rfl)) (.inr rfl)
    (.inl (w.part rfl)) (.inr HostIf.mem_mk) (.inl (w.part rfl)) (.inl (w.part rfl)) (.inl (w.part rfl)) (.inl (w.part rfl))
  exact kept_setReg (w.all rfl) (kept_setReg (w.all rfl) (kept_setReg (w.all rfl) (kept_setReg (w.all rfl)
    (kept_setReg (w.all rfl) h1))))

theorem kept_powerOff {W : Span} {s0 : State} {x0 x1} (w : Span.le
    ⟨0xffffffffffffffffffffffffffffffffffffffffffffffffffffffffffffffffffffffffffffffffffffffffffffffffffffffffffffffffffffffffffffffffffffffffffffffffffffffffffffffffffffffffffffffffffffffffffffffffffffffffffffffffffffffffffffffffffffffffffffffffffffffffffffffff, 4030462⟩ W) (hx0 : Kept W s0 x0) :
    Kept W s0 (State.powerOff x0 x1) := by
  delta State.powerOff
  extract_lets v1 v3
  have h2 : Kept W s0 v1 := (kept_powerCycle (w.sub rfl rfl) hx0)
  exact (Kept.setSys h2 (w.part rfl) Sys.factoryBad_mk)

theorem kept_fwFlags {W : Span} {s0 : State} {x0} (w : Span.le
    ⟨0xc60000000000000000000000000000000000000000000000000000000000000000000000000000000000000000000000000000000000000000000000000000000000000000000000000000000, 0⟩ W) (hx0 : Kept W s0 x0) :
    Kept W s0 (State.fwFlags x0) := by
  delta State.fwFlags
  extract_lets v1
  exact (kept_setReg (w.fld rfl) (kept_setReg (w.fld rfl) (kept_setFlag (w.fld rfl) (kept_setFlag (w.fld rfl) hx0))))

theorem kept_fwEvent {W : Span} {s0 : State} {x0 x1} (w : Span.le
    ⟨0x880008000000000000000000000000000000000000000000000000000000000000000000000000000000000000000000000000,
    524288⟩ W) (hx0 : Kept W s0 x0) :
    Kept W s0 (State.fwEvent x0 x1) := by
  delta State.fwEvent
  exact (kept_mEvent (w.sub rfl rfl) hx0)

theorem kept_bootSettings {W : Span} {s0 : State} {x0} (w : Span.le
    ⟨0xffffffffffffffffffffffffffffffffffffffffffffffffffffffffffffffffffffffffffffffffffffffffffffffffffffffffffffffffffffffffffffffffffffffffffffffffffffffffffffffffffffffffffffffffffffffffffffffffffffffffffffffffffffffffffffffffffffffffffffffffffffffffffffffff, 3680768⟩ W) (hx0 : Kept W s0 x0) :
    Kept W s0 (State.bootSettings x0) := by
  delta State.bootSettings
  extract_lets v1
  have h2 : Kept W s0 v1 := (kept_applySettings (w.sub rfl rfl) (kept_fillSettings (w.sub rfl rfl) hx0))
  exact (kept_servoSource (w.sub rfl rfl) (kept_keepPads (w.sub rfl rfl) (kept_setReg (w.fld rfl) h2)))

theorem kept_bootWith {W : Span} {s0 : State} {x0 x1 x2} (w : Span.le
    ⟨0xffffffffffffffffffffffffffffffffffffffffffffffffffffffffffffffffffffffffffffffffffffffffffffffffffffffffffffffffffffffffffffffffffffffffffffffffffffffffffffffffffffffffffffffffffffffffffffffffffffffffffffffffffffffffffffffffffffffffffffffffffffffffffffffff, 3697168⟩ W) (hx0 : Kept W s0 x0) :
    Kept W s0 (State.bootWith x0 x1 x2) := by
  delta State.bootWith
  extract_lets v1 v2 v4 v6 v7 v9
  have h3 : Kept W s0 v2 := (kept_ite hx0 (kept_setRecord (w.sub rfl rfl) (w.fld rfl) hx0))
  have h5 : Kept W s0 v4 := (kept_setReg (w.fld rfl) (kept_setRecord (w.sub rfl rfl) (w.fld rfl) h3))
  have h8 : Kept W s0 v7 := (Kept.setSys h5 (w.part rfl) Sys.factoryBad_mk)
  have h10 : Kept W s0 v9 := (kept_setFlag (w.fld rfl) (kept_fwFlags (w.sub rfl rfl) (kept_bootSettings (w.sub rfl
    rfl) (kept_setReg (w.fld rfl) h8))))
  exact (kept_ite (kept_moduleFault (w.sub rfl rfl) h10) h10)

theorem kept_firmwareBoot {W : Span} {s0 : State} {x0 x1} (w : Span.le
    ⟨0xffffffffffffffffffffffffffffffffffffffffffffffffffffffffffffffffffffffffffffffffffffffffffffffffffffffffffffffffffffffffffffffffffffffffffffffffffffffffffffffffffffffffffffffffffffffffffffffffffffffffffffffffffffffffffffffffffffffffffffffffffffffffffffffff, 3697168⟩ W) (hx0 : Kept W s0 x0) :
    Kept W s0 (State.firmwareBoot x0 x1) := by
  delta State.firmwareBoot
  split
  · exact (kept_bootWith (w.sub rfl rfl) hx0)
  · extract_lets v1 v3
    have h2 : Kept W s0 v1 := (kept_fwFlags (w.sub rfl rfl) hx0)
    exact (Kept.setSys h2 (w.part rfl) Sys.factoryBad_mk)

theorem kept_execFirmwareBoot {W : Span} {s0 : State} {x0} (w : Span.le
    ⟨0xffffffffffffffffffffffffffffffffffffffffffffffffffffffffffffffffffffffffffffffffffffffffffffffffffffffffffffffffffffffffffffffffffffffffffffffffffffffffffffffffffffffffffffffffffffffffffffffffffffffffffffffffffffffffffffffffffffffffffffffffffffffffffffffff, 3697168⟩ W) (hx0 : Kept W s0 x0) :
    KeptOut W s0 (execFirmwareBoot x0) := by
  delta execFirmwareBoot
  exact (KeptOut.of (kept_ite (kept_firmwareBoot (w.sub rfl rfl) hx0) hx0))

theorem kept_stewardMoved {W : Span} {s0 : State} {x0} (w : Span.le
    ⟨0x380000000000000000000000000000000000000000000000000000880008000000000000000000000000000000000000000000000000000000000000000000000000000000000000000000000000, 1581056⟩ W) (hx0 : Kept W s0 x0) :
    Kept W s0 (State.stewardMoved x0) := by
  delta State.stewardMoved
  exact (kept_mEvent (w.sub rfl rfl) (kept_condition (w.sub rfl rfl) (kept_setRecord (w.sub rfl rfl) (w.fld rfl)
    (kept_setReg (w.fld rfl) hx0))))

theorem kept_execStewardBootTimeout {W : Span} {s0 : State} {x0} (w : Span.le
    ⟨0xffffffffffffffffffffffffffffffffffffffffffffffffffffffffffffffffffffffffffffffffffffffffffffffffffffffffffffffffffffffffffffffffffffffffffffffffffffffffffffffffffffffffffffffffffffffffffffffffffffffffffffffffffffffffffffffffffffffffffffffffffffffffffffffff, 3697168⟩ W) (hx0 : Kept W s0 x0) :
    KeptOut W s0 (execStewardBootTimeout x0) := by
  delta execStewardBootTimeout
  exact (KeptOut.of (kept_ite (kept_ite (kept_stewardMoved (w.sub rfl rfl) (kept_firmwareBoot (w.sub rfl rfl) hx0))
    (kept_firmwareBoot (w.sub rfl rfl) hx0)) hx0))

theorem kept_autoStart {W : Span} {s0 : State} {x0} (w : Span.le
    ⟨0x800000000010000000000000000000000000000000000000000000000000000000000000000000000000000000000000000000000000000000000000000000000000000000000000000000, 2048⟩ W) (hx0 : Kept W s0 x0) :
    Kept W s0 (State.autoStart x0) := by
  delta State.autoStart
  exact (kept_ite (kept_wake (w.sub rfl rfl) hx0) hx0)

theorem kept_bootComplete {W : Span} {s0 : State} {x0} (w : Span.le
    ⟨0x800000000010000000000000000000000000000000000000880008000000000000000000000000000000000000000000000000000000000000000000000000000000000000000000000000, 1583104⟩ W) (hx0 : Kept W s0 x0) :
    Kept W s0 (State.bootComplete x0) := by
  delta State.bootComplete
  refine kept_ite ?_ ?_
  · extract_lets v1 v3
    have h2 : Kept W s0 v1 := (kept_audit (w.sub rfl rfl) (kept_enterStandby (w.sub rfl rfl) hx0))
    exact (kept_autoStart (w.sub rfl rfl) (Kept.setSys h2 (w.part rfl) Sys.factoryBad_mk))
  · exact hx0

theorem kept_execBootComplete {W : Span} {s0 : State} {x0} (w : Span.le
    ⟨0x800000000010000000000000000000000000000000000000880008000000000000000000000000000000000000000000000000000000000000000000000000000000000000000000000000, 1583104⟩ W) (hx0 : Kept W s0 x0) :
    KeptOut W s0 (execBootComplete x0) := by
  delta execBootComplete
  exact (KeptOut.of (kept_bootComplete (w.sub rfl rfl) hx0))

theorem kept_wakingComplete {W : Span} {s0 : State} {x0} (w : Span.le
    ⟨0x800000000000000000000000000000000007ffffffffe00088000800003ffffffffffffffffc20000004000000000000000000000000000000000000000000000000000003f80000000000, 1942963⟩ W) (hx0 : Kept W s0 x0) :
    Kept W s0 (State.wakingComplete x0) := by
  delta State.wakingComplete
  refine kept_ite ?_ ?_
  · extract_lets v1 v4 v6
    have h3 : Kept W s0 v1 := (kept_foldl (fun _ _ h2 => (kept_ite h2 (kept_anvilUp (w.sub rfl rfl) (Kept.setSys h2
      (w.part rfl) Sys.factoryBad_mk)))) hx0)
    have h5 : Kept W s0 v4 := (kept_modEvent (w.sub rfl rfl) (kept_setReg (w.fld rfl) h3))
    exact (kept_doneAll (w.sub rfl rfl) (Kept.setSys h5 (w.part rfl) Sys.factoryBad_mk))
  · exact hx0

theorem kept_execWakingComplete {W : Span} {s0 : State} {x0} (w : Span.le
    ⟨0x800000000000000000000000000000000007ffffffffe00088000800003ffffffffffffffffc20000004000000000000000000000000000000000000000000000000000003f80000000000, 1942963⟩ W) (hx0 : Kept W s0 x0) :
    KeptOut W s0 (execWakingComplete x0) := by
  delta execWakingComplete
  exact (KeptOut.of (kept_wakingComplete (w.sub rfl rfl) hx0))

theorem kept_sleepingComplete {W : Span} {s0 : State} {x0} (w : Span.le
    ⟨0x800000000010000000000000000000000000000000000000880008000000000000000000000000000000000000000000000000000000000000000000000000000000000000000000000000, 1845248⟩ W) (hx0 : Kept W s0 x0) :
    Kept W s0 (State.sleepingComplete x0) := by
  delta State.sleepingComplete
  refine kept_ite ?_ ?_
  · extract_lets v1 v3
    have h2 : Kept W s0 v1 := (kept_enterStandby (w.sub rfl rfl) hx0)
    exact (kept_doneAll (w.sub rfl rfl) (Kept.setSys h2 (w.part rfl) Sys.factoryBad_mk))
  · exact hx0

theorem kept_execSleepingComplete {W : Span} {s0 : State} {x0} (w : Span.le
    ⟨0x800000000010000000000000000000000000000000000000880008000000000000000000000000000000000000000000000000000000000000000000000000000000000000000000000000, 1845248⟩ W) (hx0 : Kept W s0 x0) :
    KeptOut W s0 (execSleepingComplete x0) := by
  delta execSleepingComplete
  exact (KeptOut.of (kept_sleepingComplete (w.sub rfl rfl) hx0))

theorem kept_sleep {W : Span} {s0 : State} {x0 x1} (w : Span.le
    ⟨0x80000800000000000000000000000000000000000000000000000880008000003000000000000000000020000000000000000000000000000000000000000000000000000000000000000000300, 1581320⟩ W) (hx0 : Kept W s0 x0) :
    Kept W s0 (State.sleep x0 x1) := by
  delta State.sleep
  extract_lets v1 v3 v6
  have h2 : Kept W s0 v1 := (kept_setReg (w.fld rfl) (kept_traceBufFree (w.sub rfl rfl) (kept_persistAudit (w.sub rfl
    rfl) hx0)))
  have h5 : Kept W s0 v3 := (kept_foldl (fun _ _ h4 => (kept_ite (kept_fenceRegion (w.sub rfl rfl) h4) (kept_setFence
    (w.sub rfl rfl) h4))) h2)
  exact (Kept.setSys h5 (w.part rfl) Sys.factoryBad_mk)

theorem kept_cmdModPower {W : Span} {s0 : State} {x0 x1 x2} (w : Span.le
    ⟨0x80000800000000010000000000000000000000000000000000000880008000003000000000000000000020000000000000000000000000000000000000000000000000000000000000000000300, 1583368⟩ W) (hx2 : Kept W s0 x2) :
    Kept1 W s0 (cmdModPower x0 x1 x2) := by
  delta cmdModPower
  extract_lets v1 v2
  exact (kept_refuseIf hx2 (fun _ h3 => (ite_of (P := Kept1 W s0) (kept_waits (kept_sleep (w.sub rfl rfl) h3))
    (ite_of (P := Kept1 W s0) (kept_oks h3) (by
      extract_lets v4 v6
      have h5 : Kept W s0 v4 := (kept_wake (w.sub rfl rfl) h3)
      exact (kept_waits (Kept.setSys h5 (w.part rfl) Sys.factoryBad_mk)))))))

theorem kept_execModPower {W : Span} {s0 : State} {x0 x1 x2} (w : Span.le
    ⟨0x80000800000000010000000000000000000000000000000000000880008000003000000000000000000020000000000000000000000000000000000000000000000000000000000000000000300, 1845512⟩ W) (hx2 : Kept W s0 x2) :
    KeptOut W s0 (execModPower x0 x1 x2) := by
  delta execModPower
  exact (KeptOut.of (kept_runCmd (w.sub rfl rfl) (fun _ h1 => (kept_cmdModPower (w.sub rfl rfl) h1)) hx2))

theorem kept_answerNow {W : Span} {s0 : State} {x0 x1 x2} (w : Span.le
    ⟨0x200000000000000000000000000000000000000000000000000000000000000000000000000000000000000000000, 1867840⟩ W)
    (hx0 : Kept W s0 x0) :
    Kept W s0 (State.answerNow x0 x1 x2) := by
  delta State.answerNow
  extract_lets v1
  have h2 : Kept W s0 v1 := (kept_done (w.sub rfl rfl) hx0)
  exact (by split; exacts [(kept_respond (w.sub rfl rfl) h2), h2])

theorem kept_unthrottle {W : Span} {s0 : State} {x0} (w : Span.le ⟨0xf0200000000000000000000000000000000, 16⟩ W) (hx0
    : Kept W s0 x0) :
    Kept W s0 (State.unthrottle x0) := by
  delta State.unthrottle
  exact (kept_foldl (fun _ _ h1 => (kept_ite h1 (kept_releaseCause (w.sub rfl rfl) h1))) hx0)

theorem kept_mgmtRegs {W : Span} {s0 : State} {x0} (w : Span.le
    ⟨0xffffffffffffffffffffffffffffffffffffffffffffffffffffffffffffffffffffffffffffffffffffffffffffffffffffffffffffffffffffffffffffffffffffffffffffffffffffffffffffffffffffffffffffffffffffffffffffffffffffffffffffffffffffffffffffffffffffffffffffffffffffffffffffffff, 2⟩ W) (hx0 : Kept W s0 x0) :
    Kept W s0 (State.mgmtRegs x0) := by
  delta State.mgmtRegs
  extract_lets v1 v2 v4
  have h3 : Kept W s0 v2 := (kept_applySettings (w.sub rfl rfl) (kept_dropRegs (w.sub rfl rfl) hx0))
  have h5 : Kept W s0 v4 := (kept_setReg (w.fld rfl) (kept_setReg (w.fld rfl) (kept_setReg (w.fld rfl) (kept_setReg
    (w.fld rfl) (kept_setReg (w.fld rfl) h3)))))
  exact (kept_setReg (w.fld rfl) h5)

theorem kept_mgmtReset {W : Span} {s0 : State} {x0} (w : Span.le
    ⟨0xffffffffffffffffffffffffffffffffffffffffffffffffffffffffffffffffffffffffffffffffffffffffffffffffffffffffffffffffffffffffffffffffffffffffffffffffffffffffffffffffffffffffffffffffffffffffffffffffffffffffffffffffffffffffffffffffffffffffffffffffffffffffffffffff, 792722⟩ W) (hx0 : Kept W s0 x0) :
    Kept W s0 (State.mgmtReset x0) := by
  delta State.mgmtReset
  extract_lets v1 v3 v4 v5 v6 v7
  have h2 : Kept W s0 v1 := (kept_mgmtRegs (w.sub rfl rfl) (kept_latchPads (w.sub rfl rfl) hx0))
  have h9 : Kept W s0 v7 := (Kept.many h2 (fun i8 => (h2).regsOk i8) (.inr rfl) (fun i8 => ((h2).fabOk i8)) (fun i8
    => ((h2).dramOk i8)) (fun i8 => (HostOk.set (((h2).hostOk i8)).mem)) rfl (.inr rfl) (.inr rfl) (.inr rfl) (.inr
    rfl) (.inr rfl) (.inr rfl) (.inr rfl) (.inl (w.part rfl)) (.inr rfl) (.inr rfl) (.inr rfl) (.inl (w.part rfl))
    (.inl (w.part rfl)) (.inr rfl) (.inr rfl) (.inr rfl) (.inr rfl) (.inr rfl) (.inl (w.part rfl)) (.inl (w.part
    rfl)) (.inr ⟨rfl, rfl, rfl, rfl, rfl⟩) (.inr ⟨rfl, rfl⟩))
  exact (kept_unthrottle (w.sub rfl rfl) (kept_releasePads (w.sub rfl rfl) h9))

theorem kept_cmdModReset {W : Span} {s0 : State} {x0 x1 x2 x3} (w : Span.le
    ⟨0xffffffffffffffffffffffffffffffffffffffffffffffffffffffffffffffffffffffffffffffffffffffffffffffffffffffffffffffffffffffffffffffffffffffffffffffffffffffffffffffffffffffffffffffffffffffffffffffffffffffffffffffffffffffffffffffffffffffffffffffffffffffffffffffff, 4063230⟩ W) (hx3 : Kept W s0 x3) :
    Kept1 W s0 (cmdModReset x0 x1 x2 x3) := by
  delta cmdModReset
  exact (kept_refuseIf hx3 (fun _ h1 => (ite_of (P := Kept1 W s0) (kept_waits (kept_powerCycle (w.sub rfl rfl)
    (kept_persistAudit (w.sub rfl rfl) (kept_answerNow (w.sub rfl rfl) h1)))) (kept_oks (kept_mgmtReset (w.sub rfl
    rfl) h1)))))

theorem kept_execModReset {W : Span} {s0 : State} {x0 x1 x2 x3} (w : Span.le
    ⟨0xffffffffffffffffffffffffffffffffffffffffffffffffffffffffffffffffffffffffffffffffffffffffffffffffffffffffffffffffffffffffffffffffffffffffffffffffffffffffffffffffffffffffffffffffffffffffffffffffffffffffffffffffffffffffffffffffffffffffffffffffffffffffffffffff, 4063230⟩ W) (hx3 : Kept W s0 x3) :
    KeptOut W s0 (execModReset x0 x1 x2 x3) := by
  delta execModReset
  exact (KeptOut.of (kept_runCmd (w.sub rfl rfl) (fun _ h1 => (kept_cmdModReset (w.sub rfl rfl) h1)) hx3))

theorem kept_cmdSettingsSave {W : Span} {s0 : State} {x0 x1 x2} (w : Span.le
    ⟨0xc000000000000000000000000000000000000000000000000000000000000000000000000000000000000000000000000000000000000000000000000000000000000000000000000000000, 8192⟩ W) (hx2 : Kept W s0 x2) :
    Kept1 W s0 (cmdSettingsSave x0 x1 x2) := by
  delta cmdSettingsSave
  exact (kept_refuseIf hx2 (fun _ h1 => (ite_of (P := Kept1 W s0) (kept_says (kept_copyLost (w.sub rfl rfl) h1))
    (kept_oks (kept_saveImage (w.sub rfl rfl) h1)))))

theorem kept_execSettingsSave {W : Span} {s0 : State} {x0 x1 x2} (w : Span.le
    ⟨0xc000000000000000000000000000000000000000000000000000000000000000000000000000000000000000000000000000000000000000000000000000000000000000000000000000000, 1318912⟩ W) (hx2 : Kept W s0 x2) :
    KeptOut W s0 (execSettingsSave x0 x1 x2) := by
  delta execSettingsSave
  exact (KeptOut.of (kept_runCmd (w.sub rfl rfl) (fun _ h1 => (kept_cmdSettingsSave (w.sub rfl rfl) h1)) hx2))

theorem kept_eraseSettings {W : Span} {s0 : State} {x0} (w : Span.le ⟨0x0, 2105344⟩ W) (hx0 : Kept W s0 x0) :
    Kept W s0 (State.eraseSettings x0) := by
  delta State.eraseSettings
  exact (Kept.many hx0 (fun i1 => (hx0).regsOk i1) (.inr rfl) (fun i1 => ((hx0).fabOk i1)) (fun i1 => ((hx0).dramOk
    i1)) (fun i1 => (by
      extract_lets v2
      have h3 : HostOk v2 := ((hx0).hostOk i1)
      exact (HostOk.set (h3).mem)))
    Sys.factoryBad_mk (.inr rfl) (.inr rfl) (.inr rfl) (.inr rfl) (.inr rfl) (.inr rfl) (.inr rfl) (.inr rfl) (.inr
      rfl) (.inr rfl) (.inr rfl) (.inr rfl) (.inr rfl) (.inl (w.part rfl)) (.inr rfl) (.inr rfl) (.inr rfl) (.inr
      rfl) (.inr ⟨rfl, rfl, rfl, rfl, rfl⟩) (.inr ⟨rfl, rfl⟩) (.inr ⟨rfl, rfl, rfl, rfl, rfl⟩) (.inl (w.part rfl)))

theorem kept_cmdSettingsErase {W : Span} {s0 : State} {x0 x1 x2} (w : Span.le
    ⟨0xc000000000000000000000000000000000000000000000000000000000000000000000000000000000000000000000000000000000000000000000000000000000000000000000000000000, 2105344⟩ W) (hx2 : Kept W s0 x2) :
    Kept1 W s0 (cmdSettingsErase x0 x1 x2) := by
  delta cmdSettingsErase
  exact (kept_refuseIf hx2 (fun _ h1 => (ite_of (P := Kept1 W s0) (kept_says (kept_copyLost (w.sub rfl rfl) h1))
    (kept_oks (kept_saveImage (w.sub rfl rfl) (kept_eraseSettings (w.sub rfl rfl) h1))))))

theorem kept_execSettingsErase {W : Span} {s0 : State} {x0 x1 x2} (w : Span.le
    ⟨0xc000000000000000000000000000000000000000000000000000000000000000000000000000000000000000000000000000000000000000000000000000000000000000000000000000000, 3416064⟩ W) (hx2 : Kept W s0 x2) :
    KeptOut W s0 (execSettingsErase x0 x1 x2) := by
  delta execSettingsErase
  exact (KeptOut.of (kept_runCmd (w.sub rfl rfl) (fun _ h1 => (kept_cmdSettingsErase (w.sub rfl rfl) h1)) hx2))

theorem kept_cmdSettingsRead {W : Span} {s0 : State} {x0 x1 x2 x3 x4} (w : Span.le ⟨0x0, 131073⟩ W) (hx4 : Kept W s0
    x4) :
    Kept1 W s0 (cmdSettingsRead x0 x1 x2 x3 x4) := by
  delta cmdSettingsRead
  extract_lets v1 v2
  exact (kept_refuseIf hx4 (fun _ h3 => (by
      extract_lets v4 v5
      have h6 : Kept W s0 v5 := (Kept.setFree h3 (w.part rfl))
      exact (ite_of (P := Kept1 W s0) (Kept1.of h6) (kept_oks (kept_toHost (w.sub rfl rfl) h6))))))

theorem kept_execSettingsRead {W : Span} {s0 : State} {x0 x1 x2 x3 x4} (w : Span.le ⟨0x0, 1441793⟩ W) (hx4 : Kept W
    s0 x4) :
    KeptOut W s0 (execSettingsRead x0 x1 x2 x3 x4) := by
  delta execSettingsRead
  exact (KeptOut.of (kept_runCmd (w.sub rfl rfl) (fun _ h1 => (kept_cmdSettingsRead (w.sub rfl rfl) h1)) hx4))

theorem kept_writeSlot {W : Span} {s0 : State} {x0 x1 x2 x3} (w : Span.le ⟨0x0, 8193⟩ W) (hx0 : Kept W s0 x0) :
    Kept W s0 (State.writeSlot x0 x1 x2 x3) := by
  delta State.writeSlot
  extract_lets v1 v2 v3
  exact (Kept.many hx0 (fun i4 => (hx0).regsOk i4) (.inr rfl) (fun i4 => ((hx0).fabOk i4)) (fun i4 => ((hx0).dramOk
    i4)) (fun i4 => ((hx0).hostOk i4)) Sys.factoryBad_mk (.inl (w.part rfl)) (.inr rfl) (.inr rfl) (.inr rfl) (.inr
    rfl) (.inr rfl) (.inr rfl) (.inr rfl) (.inr rfl) (.inr rfl) (.inr rfl) (.inr rfl) (.inr rfl) (.inl (w.part rfl))
    (.inr rfl) (.inr rfl) (.inr rfl) (.inr rfl) (.inr (HostIf.sameCommands.refl _)) (.inr (HostIf.sameQueues.refl _))
    (.inr (HostIf.sameLog.refl _)) (.inr (HostIf.sameKeys.refl _)))

theorem kept_cmdFwStage {W : Span} {s0 : State} {x0 x1 x2 x3 x4 x5 x6 x7 x8 x9} (w : Span.le
    ⟨0xc60000000000000000000000000000000000000000000000000000000028000000000000000000000000000000000000000000000000000000000000000000000000000000000000000000000, 8193⟩ W) (hx9 : Kept W s0 x9) :
    Kept1 W s0 (cmdFwStage x0 x1 x2 x3 x4 x5 x6 x7 x8 x9) := by
  delta cmdFwStage
  extract_lets v1 v2
  exact (kept_refuseIf hx9 (fun _ h3 => (by
      extract_lets v4 v5 v7 v8 v11 v13
      have h6 : Kept W s0 v5 := (kept_ite h3 (kept_dmaUse (w.sub rfl rfl) h3))
      have h10 : Kept W s0 v8 := (kept_ite (kept_writeSlot (w.sub rfl rfl) h6) (Kept.many h6 (fun i9 => (h6).regsOk
        i9) (.inr rfl) (fun i9 => ((h6).fabOk i9)) (fun i9 => ((h6).dramOk i9)) (fun i9 => ((h6).hostOk i9))
        Sys.factoryBad_mk (.inl (w.part rfl)) (.inr rfl) (.inr rfl) (.inr rfl) (.inr rfl) (.inr rfl) (.inr rfl) (.inr
        rfl) (.inr rfl) (.inr rfl) (.inr rfl) (.inr rfl) (.inr rfl) (.inl (w.part rfl)) (.inr rfl) (.inr rfl) (.inr
        rfl) (.inr rfl) (.inr (HostIf.sameCommands.refl _)) (.inr (HostIf.sameQueues.refl _)) (.inr
        (HostIf.sameLog.refl _)) (.inr (HostIf.sameKeys.refl _))))
      have h12 : Kept W s0 v11 := (kept_fwFlags (w.sub rfl rfl) h10)
      exact (ite_of (P := Kept1 W s0) (kept_says (kept_fwFlags (w.sub rfl rfl) (Kept.setSys h10 (w.part rfl)
        Sys.factoryBad_mk))) (ite_of (P := Kept1 W s0) (kept_says h12) (kept_oks h12))))))

theorem kept_execFwStage {W : Span} {s0 : State} {x0 x1 x2 x3 x4 x5 x6 x7 x8 x9} (w : Span.le
    ⟨0xc60000000000000000000000000000000000000000000000000000000028000000000000000000000000000000000000000000000000000000000000000000000000000000000000000000000, 1318913⟩ W) (hx9 : Kept W s0 x9) :
    KeptOut W s0 (execFwStage x0 x1 x2 x3 x4 x5 x6 x7 x8 x9) := by
  delta execFwStage
  exact (KeptOut.of (kept_runCmd (w.sub rfl rfl) (fun _ h1 => (kept_cmdFwStage (w.sub rfl rfl) h1)) hx9))

theorem kept_restartCps {W : Span} {s0 : State} {x0 x1 x2} (w : Span.le
    ⟨0x200000000000000000000000000000000000000000000000000880008000200000000580000180c6000000400a00000000000000c0380000000000f02043a0000000000000000000000000000, 1943801⟩ W) (hx0 : Kept W s0 x0) :
    Kept W s0 (State.restartCps x0 x1 x2) := by
  delta State.restartCps
  extract_lets v1 v3 v4
  have h2 : Kept W s0 v1 := (kept_setReg (w.fld rfl) (kept_stewardRestart (w.sub rfl rfl) hx0))
  have h5 : Kept W s0 v4 := (Kept.setSys h2 (w.part rfl) Sys.factoryBad_mk)
  exact (kept_foldl (fun _ _ h6 => (kept_traceRestart (w.sub rfl rfl) h6)) h5)

theorem kept_cmdFwActivate {W : Span} {s0 : State} {x0 x1 x2} (w : Span.le
    ⟨0x300000000000000000000000000000000000000000000000000880008000200000000580000180c6000000400a00000000000000c0380000000000f02043a0000000000000000000000000000, 1943801⟩ W) (hx2 : Kept W s0 x2) :
    Kept1 W s0 (cmdFwActivate x0 x1 x2) := by
  delta cmdFwActivate
  exact (kept_refuseIf hx2 (fun _ h1 => (by
      extract_lets v2 v4 v5
      have h3 : Kept W s0 v2 := (kept_setRecord (w.sub rfl rfl) (w.fld rfl) h1)
      have h6 : Kept W s0 v5 := (kept_answerNow (w.sub rfl rfl) (kept_persistAudit (w.sub rfl rfl) (Kept.setSys h3
        (w.part rfl) Sys.factoryBad_mk)))
      exact (kept_waits (kept_restartCps (w.sub rfl rfl) h6)))))

theorem kept_execFwActivate {W : Span} {s0 : State} {x0 x1 x2} (w : Span.le
    ⟨0x300000000000000000000000000000000000000000000000000880008000200000000580000180c6000000400a00000000000000c0380000000000f02043a0000000000000000000000000000, 1943801⟩ W) (hx2 : Kept W s0 x2) :
    KeptOut W s0 (execFwActivate x0 x1 x2) := by
  delta execFwActivate
  exact (KeptOut.of (kept_runCmd (w.sub rfl rfl) (fun _ h1 => (kept_cmdFwActivate (w.sub rfl rfl) h1)) hx2))

theorem kept_stewardReady {W : Span} {s0 : State} {x0} (w : Span.le
    ⟨0x8000000000000000000008800080000000000000000000000000000000000000000000000000000000000001f0300800000000000000000000000000000, 1860112⟩ W) (hx0 : Kept W s0 x0) :
    Kept W s0 (State.stewardReady x0) := by
  delta State.stewardReady
  refine kept_ite ?_ ?_
  · exact hx0
  · extract_lets v1 v2 v3 v5 v7
    have h4 : Kept W s0 v3 := (Kept.setSys hx0 (w.part rfl) Sys.factoryBad_mk)
    have h6 : Kept W s0 v5 := (kept_ite (kept_fwEvent (w.sub rfl rfl) h4) h4)
    have h8 : Kept W s0 v7 := (kept_ite (kept_servoTo (w.sub rfl rfl) h6) h6)
    exact (by split; exacts [(kept_ite (kept_endInsertion (w.sub rfl rfl) h8) h8), h8])

theorem kept_execStewardReady {W : Span} {s0 : State} {x0} (w : Span.le
    ⟨0x8000000000000000000008800080000000000000000000000000000000000000000000000000000000000001f0300800000000000000000000000000000, 1860112⟩ W) (hx0 : Kept W s0 x0) :
    KeptOut W s0 (execStewardReady x0) := by
  delta execStewardReady
  exact (KeptOut.of (kept_stewardReady (w.sub rfl rfl) hx0))

theorem kept_activationTimeout {W : Span} {s0 : State} {x0} (w : Span.le
    ⟨0x300000000000000000000000000000000000000000000000000880008000200000000580000180c6000000400a00000000000000c0380000000000f02043a0000000000000000000000000000, 1943801⟩ W) (hx0 : Kept W s0 x0) :
    Kept W s0 (State.activationTimeout x0) := by
  delta State.activationTimeout
  exact (kept_ite (kept_fwEvent (w.sub rfl rfl) (kept_setRecord (w.sub rfl rfl) (w.fld rfl) (kept_restartCps (w.sub
    rfl rfl) hx0))) hx0)

theorem kept_execActivationTimeout {W : Span} {s0 : State} {x0} (w : Span.le
    ⟨0x300000000000000000000000000000000000000000000000000880008000200000000580000180c6000000400a00000000000000c0380000000000f02043a0000000000000000000000000000, 1943801⟩ W) (hx0 : Kept W s0 x0) :
    KeptOut W s0 (execActivationTimeout x0) := by
  delta execActivationTimeout
  exact (KeptOut.of (kept_activationTimeout (w.sub rfl rfl) hx0))

theorem kept_cmdFwConfirm {W : Span} {s0 : State} {x0 x1 x2} (w : Span.le
    ⟨0x1de0000000000000000000000000000000000000000000000000000000000000000000000000000000000000000000000000000000000000000000000000000000000000000000000000000000, 8192⟩ W) (hx2 : Kept W s0 x2) :
    Kept1 W s0 (cmdFwConfirm x0 x1 x2) := by
  delta cmdFwConfirm
  exact (kept_refuseIf hx2 (fun _ h1 => (by
      extract_lets v2 v3
      exact (kept_oks (kept_fwFlags (w.sub rfl rfl) (kept_setRecord (w.sub rfl rfl) (w.fld rfl) (kept_setRecord
        (w.sub rfl rfl) (w.fld rfl) (kept_setRecord (w.sub rfl rfl) (w.fld rfl) h1))))))))

theorem kept_execFwConfirm {W : Span} {s0 : State} {x0 x1 x2} (w : Span.le
    ⟨0x1de0000000000000000000000000000000000000000000000000000000000000000000000000000000000000000000000000000000000000000000000000000000000000000000000000000000, 1318912⟩ W) (hx2 : Kept W s0 x2) :
    KeptOut W s0 (execFwConfirm x0 x1 x2) := by
  delta execFwConfirm
  exact (KeptOut.of (kept_runCmd (w.sub rfl rfl) (fun _ h1 => (kept_cmdFwConfirm (w.sub rfl rfl) h1)) hx2))

end Sys2Proof.Machine
end

