-- ==== Sys2Proof/Laws/KeptPower.lean ====
section
/-! SUPPORT. What the operations of Machine/Power.lean keep (see Laws/Kept.lean). -/

namespace Sys2Proof.Machine

theorem kept_powerEvent {W : Span} {s0 : State} {x0 x1 x2} (w : Span.le
    ⟨0x20000004000000000000000000000000000000000000000000000000000000000000000000, 129⟩ W) (hx0 : Kept W s0 x0) :
    Kept W s0 (State.powerEvent x0 x1 x2) := by
  delta State.powerEvent
  exact (kept_traceItem (w.sub rfl rfl) hx0)

theorem kept_setLimit {W : Span} {s0 : State} {x0 x1} (w : Span.le
    ⟨0x20000004000000000000000000000000000000000000000000000000000000000000000020, 129⟩ W) (hx0 : Kept W s0 x0) :
    Kept W s0 (State.setLimit x0 x1) := by
  delta State.setLimit
  exact (kept_ite hx0 (kept_powerEvent (w.sub rfl rfl) (kept_setReg (w.fld rfl) hx0)))

theorem kept_limitFollow {W : Span} {s0 : State} {x0} (w : Span.le
    ⟨0x20000004000000000000000000000000000000000000000000000000000000000000000020, 129⟩ W) (hx0 : Kept W s0 x0) :
    Kept W s0 (State.limitFollow x0) := by
  delta State.limitFollow
  exact (kept_ite (kept_setLimit (w.sub rfl rfl) hx0) hx0)

theorem kept_modPwr {W : Span} {s0 : State} {x0 x1} (w : Span.le ⟨0x0, 4096⟩ W) (hx0 : Kept W s0 x0) :
    Kept W s0 (State.modPwr x0 x1) := by
  delta State.modPwr
  exact (Kept.setPwr hx0 (w.part rfl))

theorem kept_throttleAll {W : Span} {s0 : State} {x0} (w : Span.le ⟨0x1f0300800000000000000000000000000000, 16400⟩ W)
    (hx0 : Kept W s0 x0) :
    Kept W s0 (State.throttleAll x0) := by
  delta State.throttleAll
  exact (kept_foldl (fun _ _ h1 => (kept_assertEntry (w.sub rfl rfl) h1)) hx0)

theorem kept_wrClkset {W : Span} {s0 : State} {x0 x1 x2} (w : Span.le
    ⟨0x200000040000000000000000000000000000000000000000000000000000000000000000a0, 1056897⟩ W) (hx0 : Kept W s0 x0) :
    Kept W s0 (State.wrClkset x0 x1 x2) := by
  delta State.wrClkset
  extract_lets v1
  exact (kept_ite (kept_auditRefuse (w.sub rfl rfl) hx0) (kept_ite (kept_auditRefuse (w.sub rfl rfl) hx0)
    (kept_limitFollow (w.sub rfl rfl) (kept_auditDiff (w.sub rfl rfl) (kept_setSetting (w.sub rfl rfl) (w.fld rfl)
    hx0)))))

theorem kept_execClksetWrite {W : Span} {s0 : State} {x0 x1 x2} (w : Span.le
    ⟨0x200000040000000000000000000000000000000000000000000000000000000000000000a0, 1056897⟩ W) (hx2 : Kept W s0 x2) :
    KeptOut W s0 (execClksetWrite x0 x1 x2) := by
  delta execClksetWrite
  exact (KeptOut.of (kept_ite hx2 (kept_wrClkset (w.sub rfl rfl) hx2)))

theorem kept_clockChange {W : Span} {s0 : State} {x0} (w : Span.le ⟨0x1f0300800000000000000000000000000000, 20496⟩ W)
    (hx0 : Kept W s0 x0) :
    Kept W s0 (State.clockChange x0) := by
  delta State.clockChange
  extract_lets v1 v2
  exact (kept_ite hx0 (kept_modPwr (w.sub rfl rfl) (kept_throttleAll (w.sub rfl rfl) hx0)))

theorem kept_execClockChange {W : Span} {s0 : State} {x0} (w : Span.le ⟨0x1f0300800000000000000000000000000000,
    20496⟩ W) (hx0 : Kept W s0 x0) :
    KeptOut W s0 (execClockChange x0) := by
  delta execClockChange
  exact (KeptOut.of (kept_clockChange (w.sub rfl rfl) hx0))

theorem kept_clockRelease {W : Span} {s0 : State} {x0} (w : Span.le
    ⟨0x200000040000000000000000000000000000000f0200000000000000000000000000000060, 4241⟩ W) (hx0 : Kept W s0 x0) :
    Kept W s0 (State.clockRelease x0) := by
  delta State.clockRelease
  split
  · exact hx0
  · extract_lets v1
    have h2 : Kept W s0 v1 := (kept_setLimit (w.sub rfl rfl) (kept_powerEvent (w.sub rfl rfl) (kept_setReg (w.fld
      rfl) hx0)))
    exact (kept_limitFollow (w.sub rfl rfl) (kept_unthrottle (w.sub rfl rfl) (kept_modPwr (w.sub rfl rfl) h2)))

theorem kept_execClockChangeRelease {W : Span} {s0 : State} {x0} (w : Span.le
    ⟨0x200000040000000000000000000000000000000f0200000000000000000000000000000060, 4241⟩ W) (hx0 : Kept W s0 x0) :
    KeptOut W s0 (execClockChangeRelease x0) := by
  delta execClockChangeRelease
  exact (KeptOut.of (kept_clockRelease (w.sub rfl rfl) hx0))

theorem kept_dutyCount {W : Span} {s0 : State} {x0 x1 x2} (w : Span.le
    ⟨0x20002000000000000000000000000000000000000000000000000000000000000000000000000000000000000000000000000000000000000000000000000000000000000000000000, 4096⟩ W) (hx0 : Kept W s0 x0) :
    Kept W s0 (State.dutyCount x0 x1 x2) := by
  delta State.dutyCount
  extract_lets v1 v2 v3
  exact (kept_setFlag (w.fld rfl) (kept_setReg (w.fld rfl) (kept_modPwr (w.sub rfl rfl) hx0)))

theorem kept_powerSample {W : Span} {s0 : State} {x0 x1 x2} (w : Span.le
    ⟨0x208020000000000000000000000000000000000000000000000000000000000000000000200000040000000000000000000000000000001f0300800000000000000000000000000000, 20625⟩ W) (hx0 : Kept W s0 x0) :
    Kept W s0 (State.powerSample x0 x1 x2) := by
  delta State.powerSample
  refine kept_ite ?_ ?_
  · exact hx0
  · extract_lets v1 v3 v4 v5
    have h2 : Kept W s0 v1 := (kept_setReg (w.fld rfl) hx0)
    have h7 : Kept W s0 v5 := (kept_foldl (fun _ _ h6 => (kept_powerEvent (w.sub rfl rfl) (kept_assertEntry (w.sub
      rfl rfl) h6))) h2)
    exact (kept_dutyCount (w.sub rfl rfl) (kept_modPwr (w.sub rfl rfl) h7))

theorem kept_execInputPowerSample {W : Span} {s0 : State} {x0 x1 x2} (w : Span.le
    ⟨0x208020000000000000000000000000000000000000000000000000000000000000000000200000040000000000000000000000000000001f0300800000000000000000000000000000, 20625⟩ W) (hx2 : Kept W s0 x2) :
    KeptOut W s0 (execInputPowerSample x0 x1 x2) := by
  delta execInputPowerSample
  exact (KeptOut.of (kept_powerSample (w.sub rfl rfl) hx2))

theorem kept_burstEnd {W : Span} {s0 : State} {x0} (w : Span.le
    ⟨0x200000040000000000000000000000000000000f0200000000000000000000000000000000, 4241⟩ W) (hx0 : Kept W s0 x0) :
    Kept W s0 (State.burstEnd x0) := by
  delta State.burstEnd
  extract_lets v1 v2
  have h4 : Kept W s0 v2 := (kept_foldl (fun _ _ h3 => (kept_powerEvent (w.sub rfl rfl) h3)) hx0)
  exact (kept_unthrottle (w.sub rfl rfl) (kept_modPwr (w.sub rfl rfl) h4))

theorem kept_execDutyBurstEnd {W : Span} {s0 : State} {x0} (w : Span.le
    ⟨0x200000040000000000000000000000000000000f0200000000000000000000000000000000, 4241⟩ W) (hx0 : Kept W s0 x0) :
    KeptOut W s0 (execDutyBurstEnd x0) := by
  delta execDutyBurstEnd
  exact (KeptOut.of (kept_burstEnd (w.sub rfl rfl) hx0))

theorem kept_setCeil {W : Span} {s0 : State} {x0 x1 x2} (w : Span.le
    ⟨0x10000000000000000000000000000000000000000000000000000000000000000000000020000004000000000000000000000000000000000000000000000000000000000000000020, 4225⟩ W) (hx0 : Kept W s0 x0) :
    Kept W s0 (State.setCeil x0 x1 x2) := by
  delta State.setCeil
  exact (kept_limitFollow (w.sub rfl rfl) (kept_setReg (w.fld rfl) (kept_modPwr (w.sub rfl rfl) hx0)))

theorem kept_thermalUpdate {W : Span} {s0 : State} {x0 x1 x2 x3} (w : Span.le
    ⟨0x610000000000000000000000000000000000000000000000000000000000000000000000020000004000000000000000000000000000000000000000000000000000000000000000020, 4225⟩ W) (hx0 : Kept W s0 x0) :
    Kept W s0 (State.thermalUpdate x0 x1 x2 x3) := by
  delta State.thermalUpdate
  refine kept_ite ?_ ?_
  · exact hx0
  · extract_lets v1 v3
    have h2 : Kept W s0 v1 := (kept_setReg (w.fld rfl) (kept_setReg (w.fld rfl) hx0))
    exact (kept_ite h2 (kept_ite (kept_setCeil (w.sub rfl rfl) h2) (kept_ite (kept_setCeil (w.sub rfl rfl) h2) h2)))

theorem kept_execThermalCeilingUpdate {W : Span} {s0 : State} {x0 x1 x2 x3} (w : Span.le
    ⟨0x610000000000000000000000000000000000000000000000000000000000000000000000020000004000000000000000000000000000000000000000000000000000000000000000020, 4225⟩ W) (hx3 : Kept W s0 x3) :
    KeptOut W s0 (execThermalCeilingUpdate x0 x1 x2 x3) := by
  delta execThermalCeilingUpdate
  exact (KeptOut.of (kept_thermalUpdate (w.sub rfl rfl) hx3))

theorem kept_powerUpdate {W : Span} {s0 : State} {x0 x1 x2} (w : Span.le
    ⟨0x10000000000000000000000000000000000000000000000000000000000000000000000020000004000000000000000000000000000000000000000000000000000000000000000020, 4225⟩ W) (hx0 : Kept W s0 x0) :
    Kept W s0 (State.powerUpdate x0 x1 x2) := by
  delta State.powerUpdate
  extract_lets v1 v2
  exact (kept_ite hx0 (kept_ite (kept_setCeil (w.sub rfl rfl) hx0) (kept_ite (kept_setCeil (w.sub rfl rfl) hx0) hx0)))

theorem kept_execPowerCeilingUpdate {W : Span} {s0 : State} {x0 x1 x2} (w : Span.le
    ⟨0x10000000000000000000000000000000000000000000000000000000000000000000000020000004000000000000000000000000000000000000000000000000000000000000000020, 4225⟩ W) (hx2 : Kept W s0 x2) :
    KeptOut W s0 (execPowerCeilingUpdate x0 x1 x2) := by
  delta execPowerCeilingUpdate
  exact (KeptOut.of (kept_powerUpdate (w.sub rfl rfl) hx2))

theorem kept_inputEvent {W : Span} {s0 : State} {x0 x1} (w : Span.le
    ⟨0x880008000000000000000000000000000000000000000000000000000000000000000000000000000000000000000000000000,
    524288⟩ W) (hx0 : Kept W s0 x0) :
    Kept W s0 (State.inputEvent x0 x1) := by
  delta State.inputEvent
  exact (kept_mEvent (w.sub rfl rfl) hx0)

theorem kept_inputBack {W : Span} {s0 : State} {x0} (w : Span.le
    ⟨0x4000000000000000000000000000000000000000000000000000000000000000000000000000000000000000000000000000000000000000000000000000f0200000000000000000000000000000000, 4112⟩ W) (hx0 : Kept W s0 x0) :
    Kept W s0 (State.inputBack x0) := by
  delta State.inputBack
  split
  · exact hx0
  · extract_lets v1
    have h3 : Kept W s0 v1 := (kept_foldl (fun _ _ h2 => (kept_bump (w.fld rfl) h2)) hx0)
    exact (kept_unthrottle (w.sub rfl rfl) (kept_modPwr (w.sub rfl rfl) h3))

theorem kept_inletIn {W : Span} {s0 : State} {x0 x1 x2} (w : Span.le
    ⟨0xffffffffffffffffffffffffffffffffffffffffffffffffffffffffffffffffffffffffffffffffffffffffffffffffffffffffffffffffffffffffffffffffffffffffffffffffffffffffffffffffffffffffffffffffffffffffffffffffffffffffffffffffffffffffffffffffffffffffffffffffffffffffffffffff, 4030463⟩ W) (hx0 : Kept W s0 x0) :
    Kept W s0 (State.inletIn x0 x1 x2) := by
  delta State.inletIn
  refine kept_ite ?_ ?_
  · exact hx0
  · extract_lets v1 v2 v4
    have h3 : Kept W s0 v2 := (kept_setReg (by unfold feedFld; split <;> exact w.fld rfl) hx0)
    have h5 : Kept2 W s0 v4 := (kept_takeBit (w.sub rfl rfl) h3)
    exact (kept_ite (kept_ite (kept_ite h3 (kept_ite (kept_powerCycle (w.sub rfl rfl) (Kept2.st h5)) (Kept2.st h5)))
      (kept_powerCycle (w.sub rfl rfl) h3)) (kept_inputEvent (w.sub rfl rfl) (kept_inputBack (w.sub rfl rfl) h3)))

theorem kept_execInletEntersService {W : Span} {s0 : State} {x0 x1 x2} (w : Span.le
    ⟨0xffffffffffffffffffffffffffffffffffffffffffffffffffffffffffffffffffffffffffffffffffffffffffffffffffffffffffffffffffffffffffffffffffffffffffffffffffffffffffffffffffffffffffffffffffffffffffffffffffffffffffffffffffffffffffffffffffffffffffffffffffffffffffffffff, 4030463⟩ W) (hx2 : Kept W s0 x2) :
    KeptOut W s0 (execInletEntersService x0 x1 x2) := by
  delta execInletEntersService
  exact (KeptOut.of (kept_inletIn (w.sub rfl rfl) hx2))

theorem kept_inletOut {W : Span} {s0 : State} {x0 x1 x2} (w : Span.le
    ⟨0x8000060000000000000000000000000000000000000000880008000000000000000000000000000000000000000000000000000000000000000000000000000000000000000000000000, 528384⟩ W) (hx0 : Kept W s0 x0) :
    Kept W s0 (State.inletOut x0 x1 x2) := by
  delta State.inletOut
  refine kept_ite ?_ ?_
  · exact hx0
  · extract_lets v1 v3
    have h2 : Kept W s0 v1 := (kept_setReg (by unfold feedFld; split <;> exact w.fld rfl) hx0)
    have h4 : Kept W s0 v3 := (kept_inputEvent (w.sub rfl rfl) h2)
    exact (kept_ite h2 (kept_ite h4 (kept_modPwr (w.sub rfl rfl) (kept_bump (w.fld rfl) h4))))

theorem kept_execInletLeavesService {W : Span} {s0 : State} {x0 x1 x2} (w : Span.le
    ⟨0x8000060000000000000000000000000000000000000000880008000000000000000000000000000000000000000000000000000000000000000000000000000000000000000000000000, 528384⟩ W) (hx2 : Kept W s0 x2) :
    KeptOut W s0 (execInletLeavesService x0 x1 x2) := by
  delta execInletLeavesService
  exact (KeptOut.of (kept_inletOut (w.sub rfl rfl) hx2))

theorem kept_execShareFault {W : Span} {s0 : State} {x0} (w : Span.le
    ⟨0x8000000000000000000000000000000000000000880008000000000000000000000000000000000000000000000000000000000000000000000000000000000000000000000000, 524288⟩ W) (hx0 : Kept W s0 x0) :
    KeptOut W s0 (execShareFault x0) := by
  delta execShareFault
  exact (KeptOut.of (kept_ite (kept_mError (w.sub rfl rfl) (kept_setReg (w.fld rfl) hx0)) hx0))

theorem kept_lowLine {W : Span} {s0 : State} {x0} (w : Span.le
    ⟨0x10010000000000000000000000000000000000000000880008000000000000000000000020000004000000000000000000000000000000000000000000000000000000000000000020, 528513⟩ W) (hx0 : Kept W s0 x0) :
    Kept W s0 (State.lowLine x0) := by
  delta State.lowLine
  refine kept_ite ?_ ?_
  · exact hx0
  · extract_lets v1 v2
    have h3 : Kept W s0 v2 := (kept_modPwr (w.sub rfl rfl) (kept_inputEvent (w.sub rfl rfl) (kept_setReg (w.fld rfl)
      hx0)))
    exact (kept_setCeil (w.sub rfl rfl) h3)

theorem kept_execLowLineEntry {W : Span} {s0 : State} {x0} (w : Span.le
    ⟨0x10010000000000000000000000000000000000000000880008000000000000000000000020000004000000000000000000000000000000000000000000000000000000000000000020, 528513⟩ W) (hx0 : Kept W s0 x0) :
    KeptOut W s0 (execLowLineEntry x0) := by
  delta execLowLineEntry
  exact (KeptOut.of (kept_lowLine (w.sub rfl rfl) hx0))

theorem kept_highLine {W : Span} {s0 : State} {x0} (w : Span.le
    ⟨0x10010000000000000000000000000000000000000000880008000000000000000000000020000004000000000000000000000000000000000000000000000000000000000000000020, 528513⟩ W) (hx0 : Kept W s0 x0) :
    Kept W s0 (State.highLine x0) := by
  delta State.highLine
  refine kept_ite ?_ ?_
  · exact hx0
  · extract_lets v1
    have h2 : Kept W s0 v1 := (kept_modPwr (w.sub rfl rfl) (kept_inputEvent (w.sub rfl rfl) (kept_setReg (w.fld rfl)
      hx0)))
    exact (kept_setCeil (w.sub rfl rfl) h2)

theorem kept_execHighLineReturn {W : Span} {s0 : State} {x0} (w : Span.le
    ⟨0x10010000000000000000000000000000000000000000880008000000000000000000000020000004000000000000000000000000000000000000000000000000000000000000000020, 528513⟩ W) (hx0 : Kept W s0 x0) :
    KeptOut W s0 (execHighLineReturn x0) := by
  delta execHighLineReturn
  exact (KeptOut.of (kept_highLine (w.sub rfl rfl) hx0))

theorem kept_dropout {W : Span} {s0 : State} {x0} (w : Span.le
    ⟨0x40000000000000000000000000000000000000008800080000000000000000000000000000000000000000000000000000000000001f0300800000000000000000000000000000, 544784⟩ W) (hx0 : Kept W s0 x0) :
    Kept W s0 (State.dropout x0) := by
  delta State.dropout
  exact (kept_ite hx0 (kept_inputEvent (w.sub rfl rfl) (kept_modPwr (w.sub rfl rfl) (kept_setReg (w.fld rfl)
    (kept_throttleAll (w.sub rfl rfl) hx0)))))

theorem kept_execDropoutFreeze {W : Span} {s0 : State} {x0} (w : Span.le
    ⟨0x40000000000000000000000000000000000000008800080000000000000000000000000000000000000000000000000000000000001f0300800000000000000000000000000000, 544784⟩ W) (hx0 : Kept W s0 x0) :
    KeptOut W s0 (execDropoutFreeze x0) := by
  delta execDropoutFreeze
  exact (KeptOut.of (kept_dropout (w.sub rfl rfl) hx0))

theorem kept_persistSome {W : Span} {s0 : State} {x0} (w : Span.le ⟨0x0, 1056768⟩ W) (hx0 : Kept W s0 x0) :
    Kept W s0 (State.persistSome x0) := by
  delta State.persistSome
  extract_lets v1 v2 v3 v4 v5
  exact (Kept.many hx0 (fun i6 => (hx0).regsOk i6) (.inr rfl) (fun i6 => ((hx0).fabOk i6)) (fun i6 => ((hx0).dramOk
    i6)) (fun i6 => (HostOk.set (((hx0).hostOk i6)).mem)) Sys.factoryBad_mk (.inr rfl) (.inr rfl) (.inr rfl) (.inr
    rfl) (.inr rfl) (.inr rfl) (.inr rfl) (.inr rfl) (.inr rfl) (.inr rfl) (.inr rfl) (.inr rfl) (.inr rfl) (.inl
    (w.part rfl)) (.inr rfl) (.inr rfl) (.inr rfl) (.inr rfl) (.inr ⟨rfl, rfl, rfl, rfl, rfl⟩) (.inr ⟨rfl, rfl⟩)
    (.inl (w.part rfl)) (.inr ⟨rfl, rfl⟩))

theorem kept_powerLoss {W : Span} {s0 : State} {x0} (w : Span.le
    ⟨0xffffffffffffffffffffffffffffffffffffffffffffffffffffffffffffffffffffffffffffffffffffffffffffffffffffffffffffffffffffffffffffffffffffffffffffffffffffffffffffffffffffffffffffffffffffffffffffffffffffffffffffffffffffffffffffffffffffffffffffffffffffffffffffffff, 4030462⟩ W) (hx0 : Kept W s0 x0) :
    Kept W s0 (State.powerLoss x0) := by
  delta State.powerLoss
  exact (kept_ite hx0 (kept_powerOff (w.sub rfl rfl) (kept_persistSome (w.sub rfl rfl) (kept_inputEvent (w.sub rfl
    rfl) hx0))))

theorem kept_execPowerLossShutdown {W : Span} {s0 : State} {x0} (w : Span.le
    ⟨0xffffffffffffffffffffffffffffffffffffffffffffffffffffffffffffffffffffffffffffffffffffffffffffffffffffffffffffffffffffffffffffffffffffffffffffffffffffffffffffffffffffffffffffffffffffffffffffffffffffffffffffffffffffffffffffffffffffffffffffffffffffffffffffffff, 4030462⟩ W) (hx0 : Kept W s0 x0) :
    KeptOut W s0 (execPowerLossShutdown x0) := by
  delta execPowerLossShutdown
  exact (KeptOut.of (kept_powerLoss (w.sub rfl rfl) hx0))

theorem kept_recordRail {W : Span} {s0 : State} {x0 x1 x2} (w : Span.le
    ⟨0x7800000000000000000000000000000000000000000000880008000000000000000000000020000004000000000000000000000000000000000000000000000000000000000000000000, 524417⟩ W) (hx0 : Kept W s0 x0) :
    Kept W s0 (State.recordRail x0 x1 x2) := by
  delta State.recordRail
  extract_lets v1
  have h2 : Kept W s0 v1 := (kept_ite hx0 (kept_setReg (w.fld rfl) (kept_setReg (w.fld rfl) (kept_setReg (w.fld rfl)
    hx0))))
  exact (kept_mEvent (w.sub rfl rfl) (kept_powerEvent (w.sub rfl rfl) (kept_bump (w.fld rfl) h2)))

theorem kept_fenceTags {W : Span} {s0 : State} {x0 x1} (w : Span.le
    ⟨0x380000000000020000004000000000000000000000000000000000000000000000000000000000000000000, 385⟩ W) (hx0 : Kept W
    s0 x0) :
    Kept W s0 (State.fenceTags x0 x1) := by
  delta State.fenceTags
  extract_lets v1
  exact (kept_foldl (fun _ _ h2 => (by
      split
      exacts [h2, (kept_nocResult (w.sub rfl rfl) (kept_setTag (w.sub rfl rfl) h2))]))
    hx0)

theorem kept_quenchLost {W : Span} {s0 : State} {x0 x1} (w : Span.le ⟨0x1f0300800000000000000000000000000000, 16400⟩
    W) (hx0 : Kept W s0 x0) :
    Kept W s0 (State.quenchLost x0 x1) := by
  delta State.quenchLost
  exact (kept_foldl (fun _ _ h1 => (kept_assertEntry (w.sub rfl rfl) h1)) hx0)

theorem kept_failover {W : Span} {s0 : State} {x0} (w : Span.le
    ⟨0x380000000000000000000000000000000000000000000000000000880008000200000000580000180c6000000400a00000000000000c0380000000001f0304ba0000000000000000000000000000, 1960185⟩ W) (hx0 : Kept W s0 x0) :
    Kept W s0 (State.failover x0) := by
  delta State.failover
  refine kept_ite ?_ ?_
  · exact (kept_moduleFault (w.sub rfl rfl) hx0)
  · extract_lets v1 v2 v4
    have h3 : Kept W s0 v2 := (kept_stewardMoved (w.sub rfl rfl) (kept_stewardRestart (w.sub rfl rfl) hx0))
    exact (kept_traceRestart (w.sub rfl rfl) (Kept.setSys h3 (w.part rfl) Sys.factoryBad_mk))

theorem kept_loseAnvil {W : Span} {s0 : State} {x0 x1} (w : Span.le
    ⟨0x80000000000000000000000000000000000000007ffffffffe00088000800003ffffffffffffffffc200000040000000000000000000000000000001f0300800000000000000003f80000000300, 1664443⟩ W) (hx0 : Kept W s0 x0) :
    Kept W s0 (State.loseAnvil x0 x1) := by
  delta State.loseAnvil
  extract_lets v1 v3
  have h2 : Kept W s0 v1 := (kept_fenceTags (w.sub rfl rfl) (kept_quenchLost (w.sub rfl rfl) hx0))
  have h5 : Kept W s0 v3 := (kept_foldl (fun _ _ h4 => (kept_ite (kept_channelDown (w.sub rfl rfl) h4) h4)) h2)
  exact (kept_anvilDown (w.sub rfl rfl) h5)

theorem kept_railFault {W : Span} {s0 : State} {x0 x1 x2} (w : Span.le
    ⟨0xffffffffffffffffffffffffffffffffffffffffffffffffffffffffffffffffffffffffffffffffffffffffffffffffffffffffffffffffffffffffffffffffffffffffffffffffffffffffffffffffffffffffffffffffffffffffffffffffffffffffffffffffffffffffffffffffffffffffffffffffffffffffffffffff, 4063231⟩ W) (hx0 : Kept W s0 x0) :
    Kept W s0 (State.railFault x0 x1 x2) := by
  delta State.railFault
  refine kept_ite ?_ ?_
  · exact hx0
  · extract_lets v1 v3 v4 v6
    have h2 : Kept W s0 v1 := (kept_recordRail (w.sub rfl rfl) hx0)
    have h5 : Kept W s0 v4 := (kept_ite (kept_modPwr (w.sub rfl rfl) (kept_fenceTags (w.sub rfl rfl) (kept_quenchLost
      (w.sub rfl rfl) h2))) (kept_fenceTags (w.sub rfl rfl) (kept_quenchLost (w.sub rfl rfl) h2)))
    have h7 : Kept W s0 v6 := (kept_powerOff (w.sub rfl rfl) (kept_moduleFault (w.sub rfl rfl) h2))
    refine kept_ite ?_ ?_
    · exact (kept_ite (kept_regionDown (w.sub rfl rfl) h5) h5)
    · split
      · extract_lets v8 v10 v11 v12
        have h9 : Kept W s0 v8 := (kept_ite (kept_modPwr (w.sub rfl rfl) (kept_loseAnvil (w.sub rfl rfl) h2))
          (kept_loseAnvil (w.sub rfl rfl) h2))
        have h14 : Kept W s0 v12 := (Kept.many h9 (fun i13 => (h9).regsOk i13) (.inr rfl) (fun i13 => ((h9).fabOk
          i13)) (fun i13 => ((h9).dramOk i13)) (fun i13 => ((h9).hostOk i13)) Sys.factoryBad_mk (.inr rfl) (.inr rfl)
          (.inr rfl) (.inr rfl) (.inr rfl) (.inr rfl) (.inr rfl) (.inl (w.part rfl)) (.inr rfl) (.inr rfl) (.inr rfl)
          (.inr rfl) (.inr rfl) (.inl (w.part rfl)) (.inr rfl) (.inr rfl) (.inr rfl) (.inr rfl) (.inr
          (HostIf.sameCommands.refl _)) (.inr (HostIf.sameQueues.refl _)) (.inr (HostIf.sameLog.refl _)) (.inr
          (HostIf.sameKeys.refl _)))
        exact (kept_ite h9 (kept_ite (kept_failover (w.sub rfl rfl) h14) h14))
      · exact (kept_ite (kept_modPwr (w.sub rfl rfl) h2) (kept_ite (kept_mError (w.sub rfl rfl) (kept_setReg (w.fld
          rfl) (kept_modPwr (w.sub rfl rfl) h2))) (kept_modPwr (w.sub rfl rfl) h7)))

theorem kept_execRailFault {W : Span} {s0 : State} {x0 x1 x2} (w : Span.le
    ⟨0xffffffffffffffffffffffffffffffffffffffffffffffffffffffffffffffffffffffffffffffffffffffffffffffffffffffffffffffffffffffffffffffffffffffffffffffffffffffffffffffffffffffffffffffffffffffffffffffffffffffffffffffffffffffffffffffffffffffffffffffffffffffffffffffff, 4063231⟩ W) (hx2 : Kept W s0 x2) :
    KeptOut W s0 (execRailFault x0 x1 x2) := by
  delta execRailFault
  exact (KeptOut.of (kept_railFault (w.sub rfl rfl) hx2))

theorem kept_thermalTrip {W : Span} {s0 : State} {x0 x1} (w : Span.le
    ⟨0xffffffffffffffffffffffffffffffffffffffffffffffffffffffffffffffffffffffffffffffffffffffffffffffffffffffffffffffffffffffffffffffffffffffffffffffffffffffffffffffffffffffffffffffffffffffffffffffffffffffffffffffffffffffffffffffffffffffffffffffffffffffffffffffff, 4063231⟩ W) (hx0 : Kept W s0 x0) :
    Kept W s0 (State.thermalTrip x0 x1) := by
  delta State.thermalTrip
  extract_lets v1
  exact (kept_ite hx0 (kept_mError (w.sub rfl rfl) (kept_setReg (w.fld rfl) (kept_foldl (fun _ _ h2 =>
    (kept_railFault (w.sub rfl rfl) h2)) hx0))))

theorem kept_execThermalTrip {W : Span} {s0 : State} {x0 x1} (w : Span.le
    ⟨0xffffffffffffffffffffffffffffffffffffffffffffffffffffffffffffffffffffffffffffffffffffffffffffffffffffffffffffffffffffffffffffffffffffffffffffffffffffffffffffffffffffffffffffffffffffffffffffffffffffffffffffffffffffffffffffffffffffffffffffffffffffffffffffffff, 4063231⟩ W) (hx1 : Kept W s0 x1) :
    KeptOut W s0 (execThermalTrip x0 x1) := by
  delta execThermalTrip
  exact (KeptOut.of (kept_thermalTrip (w.sub rfl rfl) hx1))

theorem kept_coolBit {W : Span} {s0 : State} {x0 x1 x2} (w : Span.le
    ⟨0x880008000000000000000000000000000000000000000000000000000000000000000000000000000000000000000000000000,
    524288⟩ W) (f0 : W.fld x0 = true) (hx2 : Kept W s0 x2) :
    Kept W s0 (State.coolBit x0 x1 x2) := by
  delta State.coolBit
  refine kept_ite ?_ ?_
  · exact hx2
  · extract_lets v1
    have h2 : Kept W s0 v1 := (kept_setFlag f0 hx2)
    exact (kept_mError (w.sub rfl rfl) (kept_mEvent (w.sub rfl rfl) h2))

theorem kept_coolant {W : Span} {s0 : State} {x0 x1 x2 x3} (w : Span.le
    ⟨0x1c0001800000000000000000000000000000000000000880008000000000000000000000000000000000000000000000000000000000000000000000000000000000000000000000000, 524288⟩ W) (hx0 : Kept W s0 x0) :
    Kept W s0 (State.coolant x0 x1 x2 x3) := by
  delta State.coolant
  refine kept_ite ?_ ?_
  · exact hx0
  · extract_lets v1
    have h2 : Kept W s0 v1 := (kept_setReg (w.fld rfl) (kept_setReg (w.fld rfl) (kept_setReg (w.fld rfl) hx0)))
    exact (kept_coolBit (w.sub rfl rfl) (w.fld rfl) (kept_coolBit (w.sub rfl rfl) (w.fld rfl) h2))

theorem kept_execCoolantSample {W : Span} {s0 : State} {x0 x1 x2 x3} (w : Span.le
    ⟨0x1c0001800000000000000000000000000000000000000880008000000000000000000000000000000000000000000000000000000000000000000000000000000000000000000000000, 524288⟩ W) (hx3 : Kept W s0 x3) :
    KeptOut W s0 (execCoolantSample x0 x1 x2 x3) := by
  delta execCoolantSample
  exact (KeptOut.of (kept_coolant (w.sub rfl rfl) hx3))

theorem kept_execAuxCurrentLimit {W : Span} {s0 : State} {x0} (w : Span.le
    ⟨0x200000000000000000000000000000000000000880008000000000000000000000000000000000000000000000000000000000000000000000000000000000000000000000000, 528384⟩ W) (hx0 : Kept W s0 x0) :
    KeptOut W s0 (execAuxCurrentLimit x0) := by
  delta execAuxCurrentLimit
  exact (KeptOut.of (kept_ite (kept_mError (w.sub rfl rfl) (kept_setReg (w.fld rfl) (kept_modPwr (w.sub rfl rfl)
    hx0))) hx0))

theorem kept_wrAuxEn {W : Span} {s0 : State} {x0 x1 x2} (w : Span.le
    ⟨0x8000000000000000000000000000000000000000000000000000000000000000000000000000000000000000000000000000000000000000000000000000000000000000000000000, 1060864⟩ W) (hx0 : Kept W s0 x0) :
    Kept W s0 (State.wrAuxEn x0 x1 x2) := by
  delta State.wrAuxEn
  refine kept_ite ?_ ?_
  · exact (kept_auditRefuse (w.sub rfl rfl) hx0)
  · extract_lets v1
    have h2 : Kept W s0 v1 := (kept_auditDiff (w.sub rfl rfl) (kept_setSetting (w.sub rfl rfl) (w.fld rfl) hx0))
    exact (kept_ite (kept_modPwr (w.sub rfl rfl) h2) h2)

theorem kept_execAuxEnable {W : Span} {s0 : State} {x0 x1 x2} (w : Span.le
    ⟨0x8000000000000000000000000000000000000000000000000000000000000000000000000000000000000000000000000000000000000000000000000000000000000000000000000, 1060864⟩ W) (hx2 : Kept W s0 x2) :
    KeptOut W s0 (execAuxEnable x0 x1 x2) := by
  delta execAuxEnable
  exact (KeptOut.of (kept_ite hx2 (kept_wrAuxEn (w.sub rfl rfl) hx2)))

end Sys2Proof.Machine
end

