-- ==== Sys2Proof/Laws/KeptService.lean ====
section
/-! SUPPORT. What the operations of Machine/Service.lean keep (see Laws/Kept.lean). -/

namespace Sys2Proof.Machine

theorem kept_hearthMargins {W : Span} {s0 : State} {x0 x1} (w : Span.le
    ⟨0x66000000000000000000000000000000000000000000000000000000000000000000000000000000000000000000000000000000000000000000000000000000000000000000000000000000000, 0⟩ W) (hx0 : Kept W s0 x0) :
    Kept W s0 (State.hearthMargins x0 x1) := by
  delta State.hearthMargins
  extract_lets v1 v2
  have h5 : Kept W s0 v2 := (kept_foldl (fun _ _ h3 => (by
      extract_lets v4
      exact (kept_setReg (w.fld rfl) (kept_setReg (w.fld rfl) h3))))
    hx0)
  exact (kept_setReg (w.fld rfl) (kept_setFlag (w.fld rfl) h5))

theorem kept_allMargins {W : Span} {s0 : State} {x0} (w : Span.le
    ⟨0x80066000000000000000000000000000000000000000000000000000000000000000000000000000000000000000000000000000000000000000000000000000000000000000000000000000000000, 0⟩ W) (hx0 : Kept W s0 x0) :
    Kept W s0 (State.allMargins x0) := by
  delta State.allMargins
  exact (kept_foldl (fun _ _ h1 => (by
      extract_lets v2
      have h4 : Kept W s0 v2 := (kept_foldl (fun _ _ h3 => (kept_hearthMargins (w.sub rfl rfl) h3)) h1)
      exact (kept_setReg (w.fld rfl) h4)))
    hx0)

theorem kept_temperAction {W : Span} {s0 : State} {x0 x1 x2 x3} (w : Span.le
    ⟨0x880008000000000000000000000000000000000000000000000000000000000000000000000000000000000000000000000000,
    1572864⟩ W) (hx0 : Kept W s0 x0) :
    Kept W s0 (State.temperAction x0 x1 x2 x3) := by
  delta State.temperAction
  exact (kept_auditAction (w.sub rfl rfl) (kept_mEvent (w.sub rfl rfl) hx0))

theorem kept_replanEnd {W : Span} {s0 : State} {x0 x1 x2} (w : Span.le ⟨0x0, 1327104⟩ W) (hx0 : Kept W s0 x0) :
    Kept W s0 (State.replanEnd x0 x1 x2) := by
  delta State.replanEnd
  extract_lets v1 v2
  have h3 : Kept W s0 v2 := (Kept.setSvc hx0 (w.part rfl))
  exact (by split; exacts [(kept_done (w.sub rfl rfl) h3), h3])

theorem kept_replanGo {W : Span} {s0 : State} {x0 x1} (w : Span.le
    ⟨0x408800000000000000000000000000000000000000000000000000008800080000000000000000000000200000040000000000000000000000000000001f0300800000000000000000000000000020, 1859729⟩ W) (hx0 : Kept W s0 x0) :
    Kept W s0 (State.replanGo x0 x1) := by
  delta State.replanGo
  extract_lets v1 v2 v3 v4 v5
  have h7 : Kept W s0 v5 := (kept_foldl (fun _ _ h6 => (kept_temperAction (w.sub rfl rfl) h6)) hx0)
  clear_value v1
  split
  · exact (kept_replanEnd (w.sub rfl rfl) hx0)
  · split
    · exact (kept_replanEnd (w.sub rfl rfl) (kept_mError (w.sub rfl rfl) (kept_condition (w.sub rfl rfl) h7)))
    · refine kept_ite ?_ ?_
      · extract_lets v8
        exact (Kept.setSvc (kept_temperAction (w.sub rfl rfl) (kept_setRecord (w.sub rfl rfl) (w.fld rfl) hx0))
          (w.part rfl))
      · split
        · exact (Kept.setSvc (kept_temperAction (w.sub rfl rfl) (kept_billetsLow (w.sub rfl rfl)
            (kept_requestInsertion (w.sub rfl rfl) hx0))) (w.part rfl))
        · exact (Kept.setSvc (kept_temperAction (w.sub rfl rfl) (kept_limitFollow (w.sub rfl rfl) (kept_setRecord
            (w.sub rfl rfl) (w.fld rfl) hx0))) (w.part rfl))

theorem kept_readTaps {W : Span} {s0 : State} {x0 x1} (w : Span.le
    ⟨0xa00e60000000000000000000000000000000000000000000000000008800080000000000000000000000000000000000000000000000000000000000001f0300800000000000000000000000000000, 1597456⟩ W) (hx0 : Kept W s0 x0) :
    Kept W s0 (State.readTaps x0 x1) := by
  delta State.readTaps
  extract_lets v1 v2 v3 v5
  have h4 : Kept W s0 v3 := (Kept.setSvc hx0 (w.part rfl))
  exact (kept_foldl (fun _ _ h6 => (kept_retireRegion (w.sub rfl rfl) h6)) (kept_allMargins (w.sub rfl rfl) h4))

theorem kept_temperSample {W : Span} {s0 : State} {x0 x1} (w : Span.le
    ⟨0xe28e60000000000000000000000000000000000000000000000000008800080000000000000000000000200000040000000000000000000000000000001f0300800000000000000000000000000020, 1859729⟩ W) (hx0 : Kept W s0 x0) :
    Kept W s0 (State.temperSample x0 x1) := by
  delta State.temperSample
  refine kept_ite ?_ ?_
  · exact hx0
  · extract_lets v1
    have h2 : Kept W s0 v1 := (kept_readTaps (w.sub rfl rfl) (kept_bump (w.fld rfl) hx0))
    exact (by split; exacts [(kept_replanGo (w.sub rfl rfl) h2), h2])

theorem kept_execTemperSample {W : Span} {s0 : State} {x0 x1} (w : Span.le
    ⟨0xe28e60000000000000000000000000000000000000000000000000008800080000000000000000000000200000040000000000000000000000000000001f0300800000000000000000000000000020, 1859729⟩ W) (hx1 : Kept W s0 x1) :
    KeptOut W s0 (execTemperSample x0 x1) := by
  delta execTemperSample
  exact (KeptOut.of (kept_temperSample (w.sub rfl rfl) hx1))

theorem kept_temperResample {W : Span} {s0 : State} {x0 x1} (w : Span.le
    ⟨0xe08e60000000000000000000000000000000000000000000000000008800080000000000000000000000200000040000000000000000000000000000001f0300800000000000000000000000000020, 1859729⟩ W) (hx0 : Kept W s0 x0) :
    Kept W s0 (State.temperResample x0 x1) := by
  delta State.temperResample
  exact (by split; exacts [hx0, (kept_ite hx0 (kept_replanGo (w.sub rfl rfl) (kept_readTaps (w.sub rfl rfl) hx0)))])

theorem kept_execTemperResample {W : Span} {s0 : State} {x0 x1} (w : Span.le
    ⟨0xe08e60000000000000000000000000000000000000000000000000008800080000000000000000000000200000040000000000000000000000000000001f0300800000000000000000000000000020, 1859729⟩ W) (hx1 : Kept W s0 x1) :
    KeptOut W s0 (execTemperResample x0 x1) := by
  delta execTemperResample
  exact (KeptOut.of (kept_temperResample (w.sub rfl rfl) hx1))

theorem kept_cmdTemperReplan {W : Span} {s0 : State} {x0 x1} (w : Span.le
    ⟨0x40800000000000000000000000000000000000000000000000000000000000000000000000000000000020000004000000000000000000000000000000000000000000000000000000000000000020, 24705⟩ W) (hx1 : Kept W s0 x1) :
    Kept1 W s0 (cmdTemperReplan x0 x1) := by
  delta cmdTemperReplan
  exact (kept_refuseIf hx1 (fun _ h1 => (by
      extract_lets v2 v5 v7
      have h4 : Kept W s0 v2 := (kept_foldl (fun _ _ h3 => (kept_setRecord (w.sub rfl rfl) (w.fld rfl) h3)) h1)
      have h6 : Kept W s0 v5 := (kept_limitFollow (w.sub rfl rfl) (kept_setRecord (w.sub rfl rfl) (w.fld rfl) h4))
      exact (kept_waits (Kept.setSvc h6 (w.part rfl))))))

theorem kept_execTemperReplan {W : Span} {s0 : State} {x0 x1} (w : Span.le
    ⟨0x40800000000000000000000000000000000000000000000000000000000000000000000000000000000020000004000000000000000000000000000000000000000000000000000000000000000020, 1335425⟩ W) (hx1 : Kept W s0 x1) :
    KeptOut W s0 (execTemperReplan x0 x1) := by
  delta execTemperReplan
  exact (KeptOut.of (kept_runCmd (w.sub rfl rfl) (fun _ h1 => (kept_cmdTemperReplan (w.sub rfl rfl) h1)) hx1))

theorem fabOk_rewriteUnused {x0 x1 x2} (hx0 : FabOk x0) : FabOk (Fab.rewriteUnused x0 x1 x2) := by
  delta Fab.rewriteUnused
  extract_lets v1
  have h2 : FabOk v1 := (FabOk.set (hx0).instr (hx0).route (hx0).egress (hx0).inject (hx0).dict (hx0).mem (hx0).banks)
  split
  · exact (FabOk.set (TabOk.put (h2).instr) (h2).route (h2).egress (h2).inject (h2).dict (h2).mem (h2).banks)
  · exact (FabOk.set (h2).instr (TabOk.put (h2).route) (h2).egress (h2).inject (h2).dict (h2).mem (h2).banks)
  · exact (FabOk.set (h2).instr (h2).route (TabOk.put (h2).egress) (h2).inject (h2).dict (h2).mem (h2).banks)
  · exact (FabOk.set (h2).instr (h2).route (h2).egress (TabOk.put (h2).inject) (h2).dict (h2).mem (h2).banks)
  · exact hx0
  · exact hx0
  · exact hx0

theorem kept_scrubCount {W : Span} {s0 : State} {x0 x1 x2} (w : Span.le ⟨0x1200000000220000000, 0⟩ W) (hx0 : Kept W
    s0 x0) :
    Kept W s0 (State.scrubCount x0 x1 x2) := by
  delta State.scrubCount
  extract_lets v1
  exact (kept_ite (kept_setReg (w.fld rfl) (kept_bump (w.fld rfl) hx0)) (kept_setReg (w.fld rfl) (kept_bump (w.fld
    rfl) hx0)))

theorem kept_storeScrub {W : Span} {s0 : State} {x0 x1 x2} (w : Span.le
    ⟨0x200980000000000000000000000000000000000000000000000000008800080000000000000000000000000000000000000000000000000000000000001f0300800000000001200000000220000000, 1597464⟩ W) (hx0 : Kept W s0 x0) :
    Kept W s0 (State.storeScrub x0 x1 x2) := by
  delta State.storeScrub
  extract_lets v1 v2 v3 v4 v5 v7 v8
  have h6 : Kept W s0 v5 := (kept_scrubCount (w.sub rfl rfl) hx0)
  have h10 : Kept W s0 v8 := (Kept.setFab h6 (w.part rfl) (fun i9 => (FabOk.set (((hx0).fabOk i9)).instr
    (((hx0).fabOk i9)).route (((hx0).fabOk i9)).egress (((hx0).fabOk i9)).inject (((hx0).fabOk i9)).dict
    (((hx0).fabOk i9)).mem (((hx0).fabOk i9)).banks)))
  split
  · exact hx0
  · refine kept_ite ?_ ?_
    · exact hx0
    · refine kept_ite ?_ ?_
      · exact (kept_careFor (w.sub rfl rfl) (kept_ite (kept_noteCorr (w.sub rfl rfl) h10) h10))
      · extract_lets v11
        have h13 : Kept W s0 v11 := (kept_ite (Kept.setFab hx0 (w.part rfl) (fun i12 => (fabOk_rewriteUnused
          ((hx0).fabOk i12)))) hx0)
        exact (kept_careFor (w.sub rfl rfl) (kept_ite (kept_noteUncorr (w.sub rfl rfl) h13) h13))

theorem kept_execStoreScrub {W : Span} {s0 : State} {x0 x1 x2} (w : Span.le
    ⟨0x200980000000000000000000000000000000000000000000000000008800080000000000000000000000000000000000000000000000000000000000001f0300800000000001200000000220000000, 1597464⟩ W) (hx2 : Kept W s0 x2) :
    KeptOut W s0 (execStoreScrub x0 x1 x2) := by
  delta execStoreScrub
  exact (KeptOut.of (kept_storeScrub (w.sub rfl rfl) hx2))

theorem kept_heartbeat {W : Span} {s0 : State} {x0 x1} (w : Span.le
    ⟨0x780000000000000000000000000000000000000000000000000000880008000200000000580000180c6000000400a00000000000000c0380000000001f0304ba0000000000000000000000000000, 1960185⟩ W) (hx0 : Kept W s0 x0) :
    Kept W s0 (State.heartbeat x0 x1) := by
  delta State.heartbeat
  refine kept_ite ?_ ?_
  · exact hx0
  · refine kept_ite ?_ ?_
    · exact (kept_failover (w.sub rfl rfl) hx0)
    · extract_lets v1 v2 v3
      have h4 : Kept W s0 v3 := (Kept.setSvc hx0 (w.part rfl))
      exact (kept_ite (kept_condition (w.sub rfl rfl) (kept_setReg (w.fld rfl) h4)) (kept_traceRestart (w.sub rfl
        rfl) h4))

theorem kept_execHeartbeatTimeout {W : Span} {s0 : State} {x0 x1} (w : Span.le
    ⟨0x780000000000000000000000000000000000000000000000000000880008000200000000580000180c6000000400a00000000000000c0380000000001f0304ba0000000000000000000000000000, 1960185⟩ W) (hx1 : Kept W s0 x1) :
    KeptOut W s0 (execHeartbeatTimeout x0 x1) := by
  delta execHeartbeatTimeout
  exact (KeptOut.of (kept_heartbeat (w.sub rfl rfl) hx1))

theorem kept_linkOut {W : Span} {s0 : State} {x0 x1 x2} (w : Span.le
    ⟨0x10080000000000000000000000000000000000000000000000000000880008000000000000000000000000000000000000000000000000000000000000000000000000000000000000000000000000, 1581056⟩ W) (hx0 : Kept W s0 x0) :
    Kept W s0 (State.linkOut x0 x1 x2) := by
  delta State.linkOut
  exact (kept_condition (w.sub rfl rfl) (kept_setRecord (w.sub rfl rfl) (w.fld rfl) hx0))

theorem kept_zeroWord {W : Span} {s0 : State} {x0 x1 x2} (w : Span.le ⟨0x0, 8⟩ W) (hx0 : Kept W s0 x0) :
    Kept W s0 (State.zeroWord x0 x1 x2) := by
  delta State.zeroWord
  exact (Kept.setFab hx0 (w.part rfl) (fun i1 => (by
      extract_lets v2
      have h3 : FabOk v2 := ((hx0).fabOk i1)
      exact (FabOk.set (h3).instr (h3).route (h3).egress (h3).inject (h3).dict (h3).mem (h3).banks))))

theorem kept_linkWord {W : Span} {s0 : State} {x0 x1 x2} (w : Span.le
    ⟨0x100800000000000000000000000000000000000000000000000000008800080000000000000000000000000000000000000000000000000000000000001f0300800000000000000002000000000000, 1597464⟩ W) (hx0 : Kept W s0 x0) :
    Kept W s0 (State.linkWord x0 x1 x2) := by
  delta State.linkWord
  refine kept_ite ?_ ?_
  · exact hx0
  · extract_lets v1 v2 v4 v7 v8 v9
    have h3 : Kept W s0 v2 := (kept_setReg (w.fld rfl) (kept_zeroWord (w.sub rfl rfl) hx0))
    have h6 : Kept W s0 v4 := (kept_foldl (fun _ _ h5 => (kept_assertEntry (w.sub rfl rfl) (kept_pError (w.sub rfl
      rfl) h5))) h3)
    have h10 : Kept W s0 v9 := (Kept.setSvc h6 (w.part rfl))
    exact (kept_ite (kept_linkOut (w.sub rfl rfl) h10) h10)

theorem kept_execLinkUncorrectableWord {W : Span} {s0 : State} {x0 x1 x2} (w : Span.le
    ⟨0x100800000000000000000000000000000000000000000000000000008800080000000000000000000000000000000000000000000000000000000000001f0300800000000000000002000000000000, 1597464⟩ W) (hx2 : Kept W s0 x2) :
    KeptOut W s0 (execLinkUncorrectableWord x0 x1 x2) := by
  delta execLinkUncorrectableWord
  exact (KeptOut.of (kept_linkWord (w.sub rfl rfl) hx2))

theorem kept_execLinkRetrain {W : Span} {s0 : State} {x0 x1 x2 x3} (w : Span.le
    ⟨0x10080000000000000000000000000000000000000000000000000000880008000000000000000000000000000000000000000000000000000000000000000000000000000000000000000000000000, 1581056⟩ W) (hx3 : Kept W s0 x3) :
    KeptOut W s0 (execLinkRetrain x0 x1 x2 x3) := by
  delta execLinkRetrain
  exact (KeptOut.of (kept_ite (kept_linkOut (w.sub rfl rfl) hx3) hx3))

theorem kept_execMgmtLinkLoss {W : Span} {s0 : State} {x0} (w : Span.le
    ⟨0x8800080000000000000000000000000000000000000000000000000000000000001f0300800000000000000000000000000000,
    1597456⟩ W) (hx0 : Kept W s0 x0) :
    KeptOut W s0 (execMgmtLinkLoss x0) := by
  delta execMgmtLinkLoss
  exact (KeptOut.of (kept_ite hx0 (kept_moduleFault (w.sub rfl rfl) hx0)))

theorem kept_maintEnter {W : Span} {s0 : State} {x0 x1} (w : Span.le
    ⟨0x200fe000000000000000000000000000000000000007ffffffffe00088000800003ffffffffffffffffc20000004000000000000000000000000000000000000000ffffe0001fc0003f80ffff80300, 1680827⟩ W) (hx0 : Kept W s0 x0) :
    Kept W s0 (State.maintEnter x0 x1) := by
  delta State.maintEnter
  exact (kept_setReg (w.fld rfl) (kept_domainUp (w.sub rfl rfl) hx0))

theorem kept_maintLeave {W : Span} {s0 : State} {x0 x1} (w : Span.le
    ⟨0x20080000000000000000000000000000000000000000000000000000880008000003000000000000000000000000000000000000000000000000000000000000000000000000000000000000000300, 1581320⟩ W) (hx0 : Kept W s0 x0) :
    Kept W s0 (State.maintLeave x0 x1) := by
  delta State.maintLeave
  exact (kept_ite (kept_setReg (w.fld rfl) (kept_ite (kept_fenceRegion (w.sub rfl rfl) hx0) hx0)) hx0)

theorem kept_maintRegions {W : Span} {s0 : State} {x0 x1 x2 x3} (w : Span.le
    ⟨0x200fe000000000000000000000000000000000000007ffffffffe00088000800003ffffffffffffffffc20000004000000000000000000000000000000000000000ffffe0001fc0003f80ffff80300, 1697211⟩ W) (hx3 : Kept W s0 x3) :
    Kept1 W s0 (maintRegions x0 x1 x2 x3) := by
  delta maintRegions
  exact (kept_refuseIf hx3 (fun _ h1 => (ite_of (P := Kept1 W s0) (kept_oks (kept_foldl (fun _ _ h2 =>
    (kept_maintEnter (w.sub rfl rfl) h2)) h1)) (by
      extract_lets v3 v6 v7
      have h5 : Kept W s0 v3 := (kept_foldl (fun _ _ h4 => (kept_maintLeave (w.sub rfl rfl) h4)) h1)
      exact (ite_of (P := Kept1 W s0) (kept_oks h5) (kept_waits (Kept.setSvc h5 (w.part rfl))))))))

theorem kept_cmdSvcMaint {W : Span} {s0 : State} {x0 x1 x2 x3 x4} (w : Span.le
    ⟨0x200fe000800000000000000000000000000000000007ffffffffe00088000800003ffffffffffffffffc20000004000000000000000000000000000000000000000ffffe0001fc0003f80ffff80300, 1697211⟩ W) (hx4 : Kept W s0 x4) :
    Kept1 W s0 (cmdSvcMaint x0 x1 x2 x3 x4) := by
  delta cmdSvcMaint
  exact (kept_refuseIf hx4 (fun _ h1 => (ite_of (P := Kept1 W s0) (kept_maintRegions (w.sub rfl rfl) h1)
    (kept_refuseIf h1 (fun _ h2 => (kept_oks (kept_setReg (w.fld rfl) h2)))))))

theorem kept_execSvcMaint {W : Span} {s0 : State} {x0 x1 x2 x3 x4} (w : Span.le
    ⟨0x200fe000800000000000000000000000000000000007ffffffffe00088000800003ffffffffffffffffc20000004000000000000000000000000000000000000000ffffe0001fc0003f80ffff80300, 1959355⟩ W) (hx4 : Kept W s0 x4) :
    KeptOut W s0 (execSvcMaint x0 x1 x2 x3 x4) := by
  delta execSvcMaint
  exact (KeptOut.of (kept_runCmd (w.sub rfl rfl) (fun _ h1 => (kept_cmdSvcMaint (w.sub rfl rfl) h1)) hx4))

theorem kept_selfTestFind {W : Span} {s0 : State} {x0 x1} (w : Span.le
    ⟨0x200980000000000000000000000000000000000000000000000000008800080000000000000000000000000000000000000000000000000000000000001f0300800000000000000000000000000000, 1597456⟩ W) (hx0 : Kept W s0 x0) :
    Kept W s0 (State.selfTestFind x0 x1) := by
  delta State.selfTestFind
  split
  · exact (kept_ite (kept_careFor (w.sub rfl rfl) (kept_markFailed (w.sub rfl rfl) hx0)) hx0)
  · exact (kept_retireRegion (w.sub rfl rfl) hx0)

theorem kept_cmdSvcSelftest {W : Span} {s0 : State} {x0 x1 x2 x3} (w : Span.le
    ⟨0x200980000000000000000000000000000000000000000000000000008800080000000000000000000000000000000000000000000000000000000000001f0300800000000000000000000000000000, 1597464⟩ W) (hx3 : Kept W s0 x3) :
    Kept1 W s0 (cmdSvcSelftest x0 x1 x2 x3) := by
  delta cmdSvcSelftest
  extract_lets v1
  exact (kept_refuseIf hx3 (fun _ h2 => (by
      extract_lets v3 v6
      have h5 : Kept W s0 v3 := (kept_foldl (fun _ _ h4 => (kept_selfTestFind (w.sub rfl rfl) h4)) h2)
      have h9 : Kept W s0 v6 := (kept_foldl (fun _ _ h7 => (Kept.setFab h7 (w.part rfl) (fun i8 => (fabOk_clearBanks
        ((h7).fabOk i8))))) h5)
      exact (ite_of (P := Kept1 W s0) (kept_says h9) (kept_oks h9)))))

theorem kept_execSvcSelftest {W : Span} {s0 : State} {x0 x1 x2 x3} (w : Span.le
    ⟨0x200980000000000000000000000000000000000000000000000000008800080000000000000000000000000000000000000000000000000000000000001f0300800000000000000000000000000000, 1859608⟩ W) (hx3 : Kept W s0 x3) :
    KeptOut W s0 (execSvcSelftest x0 x1 x2 x3) := by
  delta execSvcSelftest
  exact (KeptOut.of (kept_runCmd (w.sub rfl rfl) (fun _ h1 => (kept_cmdSvcSelftest (w.sub rfl rfl) h1)) hx3))

theorem kept_cmdBilletInsert {W : Span} {s0 : State} {x0 x1 x2 x3 x4} (w : Span.le
    ⟨0x980000000000000000000000000000000000000000000000000008800080000000000000000000000000000000000000000000000000000000000001f0300800000000000000000000000000000, 1597456⟩ W) (hx4 : Kept W s0 x4) :
    Kept1 W s0 (cmdBilletInsert x0 x1 x2 x3 x4) := by
  delta cmdBilletInsert
  exact (kept_refuseIf hx4 (fun _ h1 => (by
      extract_lets v2
      have h3 : Kept W s0 v2 := (kept_markFailed (w.sub rfl rfl) h1)
      exact (kept_waits (kept_billetsLow (w.sub rfl rfl) (kept_requestInsertion (w.sub rfl rfl) h3))))))

theorem kept_execBilletInsert {W : Span} {s0 : State} {x0 x1 x2 x3 x4} (w : Span.le
    ⟨0x980000000000000000000000000000000000000000000000000008800080000000000000000000000000000000000000000000000000000000000001f0300800000000000000000000000000000, 1859600⟩ W) (hx4 : Kept W s0 x4) :
    KeptOut W s0 (execBilletInsert x0 x1 x2 x3 x4) := by
  delta execBilletInsert
  exact (KeptOut.of (kept_runCmd (w.sub rfl rfl) (fun _ h1 => (kept_cmdBilletInsert (w.sub rfl rfl) h1)) hx4))

end Sys2Proof.Machine
end

