-- ==== Sys2Proof/Laws/KeptAccess.lean ====
section
/-! SUPPORT. What the operations of Machine/Access.lean keep (see Laws/Kept.lean). -/

namespace Sys2Proof.Machine

theorem kept_readField {W : Span} {s0 : State} {x0 x1 x2 x3} (w : Span.le
    ⟨0x7000000000000000000000000000000000000000000000000000000000000000000000000000000000000000000000000000000000000000, 1⟩ W) (hx0 : Kept W s0 x0) :
    Kept2 W s0 (State.readField x0 x1 x2 x3) := by
  delta State.readField
  refine ite_of (P := Kept2 W s0) ?_ ?_
  · exact (Kept2.of hx0)
  · refine ite_of (P := Kept2 W s0) ?_ ?_
    · exact (Kept2.of (Kept2.st (kept_takeNat (w.sub rfl rfl) hx0)))
    · refine ite_of (P := Kept2 W s0) ?_ ?_
      · extract_lets v1
        have h2 : Kept W s0 v1 := (kept_prbsAdvance (w.sub rfl rfl) hx0)
        exact (Kept2.of h2)
      · exact (Kept2.of hx0)

theorem kept_takeField {W : Span} {s0 : State} {x0 x1 x2} (w : Span.le
    ⟨0xffffffffffffffffffffffffffffffffffffffffffffffffffffffffffffffffffffffffffffffffffffffffffffffffffffffffffffffffffffffffffffffffffffffffffffffffffffffffffffffffffffffffffffffffffffffffffffffffffffffffffffffffffffffffffffffffffffffffffffffffffffffffffffffff, 5⟩ W) (hx0 : Kept W s0 x0) :
    Kept2 W s0 (State.takeField x0 x1 x2) := by
  delta State.takeField
  extract_lets v1 v2 v3 v5 v7 v9
  have h4 : Kept W s0 v3 := (Kept.setLatches hx0 (w.part rfl))
  have h6 : Kept2 W s0 v5 := (kept_readField (w.sub rfl rfl) hx0)
  have h8 : Kept W s0 v7 := (Kept2.st h6)
  have h11 : Kept W s0 v9 := by
    unfold v9
    split
    exacts [(by extract_lets v10; exact (Kept.setLatches h8 (w.part rfl))), (Kept2.st h6)]
  exact (by split; exacts [(Kept2.of h4), (Kept2.of (kept_ite (kept_setReg (w.all rfl) h11) h11))])

theorem kept_misaligned {W : Span} {s0 : State} {x0 x1} (w : Span.le
    ⟨0x80000000000000000000000000000000000000000000000000000000000000000000000000000000000000000000000, 0⟩ W) (hx0 :
    Kept W s0 x0) :
    Kept W s0 (State.misaligned x0 x1) := by
  delta State.misaligned
  exact (by split; exacts [(kept_setReg (w.fld rfl) hx0), hx0])

theorem kept_readWord {W : Span} {s0 : State} {x0 x1 x2} (w : Span.le
    ⟨0xffffffffffffffffffffffffffffffffffffffffffffffffffffffffffffffffffffffffffffffffffffffffffffffffffffffffffffffffffffffffffffffffffffffffffffffffffffffffffffffffffffffffffffffffffffffffffffffffffffffffffffffffffffffffffffffffffffffffffffffffffffffffffffffff, 5⟩ W) (hx0 : Kept W s0 x0) :
    Kept2 W s0 (State.readWord x0 x1 x2) := by
  delta State.readWord
  refine ite_of (P := Kept2 W s0) ?_ ?_
  · exact (Kept2.of hx0)
  · refine ite_of (P := Kept2 W s0) ?_ ?_
    · exact (Kept2.of (kept_misaligned (w.sub rfl rfl) hx0))
    · split
      · exact (Kept2.of hx0)
      · refine ite_of (P := Kept2 W s0) ?_ ?_
        · exact (foldl_of (P := Kept2 W s0) (fun _ _ h1 => (by
              extract_lets v2
              have h3 : Kept2 W s0 v2 := (kept_takeField (w.sub rfl rfl) (Kept2.st h1))
              exact (Kept2.of (Kept2.st h3))))
            (Kept2.of hx0))
        · exact (Kept2.of hx0)

theorem kept_takeClass {W : Span} {s0 : State} {x0 x1 x2 x3 x4 x5 x6 x7} (w : Span.le ⟨0x0, 1056786⟩ W) (f3 : W.fld
    x3 = true) (hx0 : Kept W s0 x0) :
    Kept W s0 (State.takeClass x0 x1 x2 x3 x4 x5 x6 x7) := by
  delta State.takeClass
  split
  · exact (kept_ite (kept_setHost (w.sub rfl rfl) f3 hx0) (kept_auditRefuse (w.sub rfl rfl) hx0))
  · exact (kept_ite (kept_hold (w.sub rfl rfl) hx0) (kept_ite (kept_setHost (w.sub rfl rfl) f3 hx0) (kept_ite
      (kept_modPart (w.sub rfl rfl) (kept_hold (w.sub rfl rfl) hx0)) (kept_hold (w.sub rfl rfl) hx0))))
  · exact (kept_setHost (w.sub rfl rfl) f3 hx0)

theorem kept_guarded {W : Span} {s0 : State} {x0 x1 x2 x3 x4 x5 x6 x7 x8 x9} (w : Span.le ⟨0x0, 1056786⟩ W) (f3 :
    W.fld x3 = true) (hx0 : Kept W s0 x0) :
    Kept W s0 (State.guarded x0 x1 x2 x3 x4 x5 x6 x7 x8 x9) := by
  delta State.guarded
  exact (kept_ite (kept_takeClass (w.sub rfl rfl) f3 hx0) (kept_auditRefuse (w.sub rfl rfl) hx0))

theorem kept_wrIncrFrac {W : Span} {s0 : State} {x0 x1 x2} (w : Span.le
    ⟨0x1000000000000000000000000000000000000000000000000000000000000000000000000000000000000000000000000000000000000000000000000, 1048576⟩ W) (hx0 : Kept W s0 x0) :
    Kept W s0 (State.wrIncrFrac x0 x1 x2) := by
  delta State.wrIncrFrac
  exact (kept_ite (kept_auditRefuse (w.sub rfl rfl) hx0) (kept_setReg (w.fld rfl) hx0))

theorem kept_wrRateFrac {W : Span} {s0 : State} {x0 x1 x2 x3} (w : Span.le
    ⟨0x800000000000000000000000000000000000000000000000000000000000000000000000000000000000000000000000000000000000000000000000000000000, 1048576⟩ W) (hx0 : Kept W s0 x0) :
    Kept W s0 (State.wrRateFrac x0 x1 x2 x3) := by
  delta State.wrRateFrac
  exact (kept_ite (kept_setReg (w.fld rfl) hx0) (kept_auditRefuse (w.sub rfl rfl) hx0))

theorem kept_wrPrbs {W : Span} {s0 : State} {x0 x1 x2 x3} (w : Span.le
    ⟨0x7100000000000000000000000000000000000000000000000000000000000000000000000000000000000000000000000000000000000000, 8193⟩ W) (f1 : W.fld x1 = true) (hx0 : Kept W s0 x0) :
    Kept W s0 (State.wrPrbs x0 x1 x2 x3) := by
  delta State.wrPrbs
  extract_lets v1
  have h2 : Kept W s0 v1 := (kept_setHost (w.sub rfl rfl) f1 hx0)
  exact (kept_ite (kept_prbsCount (w.sub rfl rfl) h2) h2)

theorem kept_wrTask {W : Span} {s0 : State} {x0 x1 x2 x3} (w : Span.le
    ⟨0x1f100000000000000000000000000000000000000000000000000000000000000000000000000000000000000000000000000000,
    524288⟩ W) (hx0 : Kept W s0 x0) :
    Kept W s0 (State.wrTask x0 x1 x2 x3) := by
  delta State.wrTask
  extract_lets v1 v2 v4 v5
  have h3 : Kept W s0 v2 := (kept_setReg (w.fld rfl) (kept_setReg (w.fld rfl) (kept_setReg (w.fld rfl) (kept_setReg
    (w.fld rfl) (kept_setReg (w.fld rfl) hx0)))))
  have h7 : Kept W s0 v5 := (Kept.setHost h3 (fun i6 => (HostOk.set (((h3).hostOk i6)).mem)) (.inr rfl) (.inr ⟨rfl,
    rfl, rfl, rfl, rfl⟩) (.inl (w.part rfl)) (.inr ⟨rfl, rfl, rfl, rfl, rfl⟩) (.inr ⟨rfl, rfl⟩) (.inr rfl))
  exact (kept_ite (kept_rescan (w.sub rfl rfl) (kept_ite h3 h7)) (kept_setReg (w.fld rfl) hx0))

theorem kept_enableQueue {W : Span} {s0 : State} {x0 x1 x2} (w : Span.le
    ⟨0x104000000000000000000000000000000000000000000000000000000000000000000000000000000000000000000000000000,
    524288⟩ W) (hx0 : Kept W s0 x0) :
    Kept W s0 (State.enableQueue x0 x1 x2) := by
  delta State.enableQueue
  extract_lets v1 v2
  exact (kept_ite (kept_rescan (w.sub rfl rfl) (kept_setReg (w.fld rfl) hx0)) (kept_ite hx0 (kept_ite (kept_setReg
    (w.fld rfl) hx0) (kept_rescan (w.sub rfl rfl) (kept_setReg (w.fld rfl) hx0)))))

theorem kept_writeAct {W : Span} {s0 : State} {x0 x1 x2 x3 x4 x5 x6} (w : Span.le
    ⟨0x301c68801400000000000000600004100408800080000000000000000000003d00000080000000000000000000000000000001f0300800000000000000000000000000000, 1625744⟩ W) (hx0 : Kept W s0 x0) :
    Kept W s0 (State.writeAct x0 x1 x2 x3 x4 x5 x6) := by
  delta State.writeAct
  split
  · exact (kept_ite (kept_abort (w.sub rfl rfl) hx0) hx0)
  · exact (kept_ite (kept_trigCtl (w.sub rfl rfl) hx0) hx0)
  · exact (kept_ite (kept_trigCtl (w.sub rfl rfl) hx0) hx0)
  · exact (kept_ite (kept_wrStopNow (w.sub rfl rfl) hx0) hx0)
  · exact (kept_ite (kept_wrRetrain (w.sub rfl rfl) hx0) hx0)
  · exact (kept_ite (kept_injGo (w.sub rfl rfl) hx0) hx0)
  · exact (kept_ite (kept_capArm (w.sub rfl rfl) hx0) hx0)
  · exact (kept_wrAdj (w.sub rfl rfl) hx0)
  · exact (kept_ite (kept_launchArm (w.sub rfl rfl) hx0) hx0)
  · exact (kept_ite (kept_launchDisarm (w.sub rfl rfl) hx0) hx0)
  · exact (kept_gpioSet (w.sub rfl rfl) hx0)
  · exact (kept_gpioSet (w.sub rfl rfl) hx0)
  · exact (kept_gpioClr (w.sub rfl rfl) hx0)
  · exact (kept_gpioClr (w.sub rfl rfl) hx0)
  · exact (kept_gpioTgl (w.sub rfl rfl) hx0)
  · exact (kept_gpioTgl (w.sub rfl rfl) hx0)
  · exact (kept_rescan (w.sub rfl rfl) (kept_setReg (w.fld rfl) hx0))
  · exact hx0

theorem kept_writePin {W : Span} {s0 : State} {x0 x1 x2 x3 x4 x5 x6} (w : Span.le
    ⟨0xc032600000000000000000000000000000000000000000000000000000000000000000000000000000000000000000000000000000000000000000000000000000000000000, 1058834⟩ W) (f3 : W.fld x3 = true) (hx1 : Kept W s0 x1) :
    Kept W s0 (State.writePin x0 x1 x2 x3 x4 x5 x6) := by
  delta State.writePin
  split
  · exact (kept_wrPinOwner (w.sub rfl rfl) hx1)
  · exact (kept_ite hx1 (kept_wrPinFunc (w.sub rfl rfl) hx1))
  · exact (kept_ite (kept_setHost (w.sub rfl rfl) f3 hx1) (kept_auditRefuse (w.sub rfl rfl) hx1))
  · exact (kept_ite (kept_setHost (w.sub rfl rfl) f3 hx1) (kept_auditRefuse (w.sub rfl rfl) hx1))
  · exact (kept_gpioWrite (w.sub rfl rfl) hx1)
  · exact (kept_gpioWrite (w.sub rfl rfl) hx1)
  · exact (kept_wrBankVsel (w.sub rfl rfl) hx1)
  · exact (kept_ite (kept_takeClass (w.sub rfl rfl) f3 hx1) (kept_auditRefuse (w.sub rfl rfl) hx1))

theorem kept_writeTime {W : Span} {s0 : State} {x0 x1 x2 x3 x4 x5} (w : Span.le
    ⟨0x1800000803000000000000000000880008000000000000000000000000000000000000000000000000000000000000000000000000000000000000000000000000, 1581568⟩ W) (f2 : W.fld x2 = true) (hx0 : Kept W s0 x0) :
    Kept W s0 (State.writeTime x0 x1 x2 x3 x4 x5) := by
  delta State.writeTime
  split
  · exact (kept_wrRateFrac (w.sub rfl rfl) hx0)
  · exact (kept_wrRate (w.sub rfl rfl) hx0)
  · exact (kept_wrIncrFrac (w.sub rfl rfl) hx0)
  · exact (kept_wrIncr (w.sub rfl rfl) hx0)
  · exact (kept_servoSource (w.sub rfl rfl) (kept_setHost (w.sub rfl rfl) f2 hx0))
  · exact (kept_ite hx0 (kept_setReg f2 hx0))
  · exact (kept_ite hx0 (kept_setReg f2 hx0))
  · exact (kept_ite hx0 (kept_setReg f2 hx0))
  · exact (kept_ite hx0 (kept_setReg f2 hx0))
  · exact (kept_ite hx0 (kept_setReg f2 hx0))
  · exact (kept_ite hx0 (kept_setReg f2 hx0))
  · exact (kept_ite hx0 (kept_setReg f2 hx0))
  · exact (kept_ite hx0 (kept_setReg f2 hx0))
  · exact (kept_ite hx0 (kept_setReg f2 hx0))
  · exact (kept_setHost (w.sub rfl rfl) f2 hx0)

theorem kept_writePart {W : Span} {s0 : State} {x0 x1 x2 x3 x4 x5 x6} (w : Span.le
    ⟨0x880000000000000000580000000020000004000019010000000000000000000000000000000000000000000000000000000000,
    1581243⟩ W) (f2 : W.fld x2 = true) (hx0 : Kept W s0 x0) :
    Kept W s0 (State.writePart x0 x1 x2 x3 x4 x5 x6) := by
  delta State.writePart
  split
  · exact (kept_guarded (w.sub rfl rfl) f2 hx0)
  · exact (kept_guarded (w.sub rfl rfl) f2 hx0)
  · exact (kept_guarded (w.sub rfl rfl) f2 hx0)
  · exact (kept_guarded (w.sub rfl rfl) f2 hx0)
  · exact (kept_guarded (w.sub rfl rfl) f2 hx0)
  · exact (kept_guarded (w.sub rfl rfl) f2 hx0)
  · exact (kept_guarded (w.sub rfl rfl) f2 hx0)
  · exact (kept_guarded (w.sub rfl rfl) f2 hx0)
  · exact (kept_guarded (w.sub rfl rfl) f2 hx0)
  · exact (kept_guarded (w.sub rfl rfl) f2 hx0)
  · exact (kept_acqEnabled (w.sub rfl rfl) (kept_guarded (w.sub rfl rfl) f2 hx0))
  · exact (kept_guarded (w.sub rfl rfl) f2 hx0)
  · exact (kept_guarded (w.sub rfl rfl) f2 hx0)
  · exact (kept_guarded (w.sub rfl rfl) f2 hx0)
  · exact (kept_takeClass (w.sub rfl rfl) f2 hx0)

theorem kept_writeOther {W : Span} {s0 : State} {x0 x1 x2 x3 x4 x5 x6 x7} (w : Span.le
    ⟨0x800000000000000000000000000000006710005000098400800000000000000000000006000003d8000000000000000000000000000000000000000000000000000000000000000a0, 1619091⟩ W) (f3 : W.fld x3 = true) (hx0 : Kept W s0 x0) :
    Kept W s0 (State.writeOther x0 x1 x2 x3 x4 x5 x6 x7) := by
  delta State.writeOther
  split
  · exact (kept_ite (kept_wrTraceEnable (w.sub rfl rfl) hx0) (kept_wrTraceDisable (w.sub rfl rfl) hx0))
  · exact (kept_setSrcEn (w.sub rfl rfl) hx0)
  · exact (kept_setSrcEn (w.sub rfl rfl) hx0)
  · exact (kept_ite hx0 (kept_wrLaneEnable (w.sub rfl rfl) hx0))
  · exact (kept_wrPrbs (w.sub rfl rfl) f3 hx0)
  · exact (kept_wrPrbs (w.sub rfl rfl) f3 hx0)
  · exact (kept_wrClkset (w.sub rfl rfl) hx0)
  · exact (kept_wrAuxEn (w.sub rfl rfl) hx0)
  · exact (kept_enableQueue (w.sub rfl rfl) hx0)
  · exact (kept_rescan (w.sub rfl rfl) (kept_setReg f3 hx0))
  · exact (kept_takeClass (w.sub rfl rfl) f3 hx0)

theorem kept_writeRw {W : Span} {s0 : State} {x0 x1 x2 x3 x4 x5 x6 x7 x8} (w : Span.le
    ⟨0xffffffffffffffffffffffffffffffffffffffffffffffffffffffffffffffffffffffffffffffffffffffffffffffffffffffffffffffffffffffffffffffffffffffffffffffffffffffffffffffffffffffffffffffffffffffffffffffffffffffffffffffffffffffffffffffffffffffffffffffffffffffffffffffff, 1621691⟩ W) (hx1 : Kept W s0 x1) :
    Kept W s0 (State.writeRw x0 x1 x2 x3 x4 x5 x6 x7 x8) := by
  delta State.writeRw
  split
  · exact (kept_ite (kept_auditRefuse (w.sub rfl rfl) hx1) (kept_ite (kept_auditRefuse (w.sub rfl rfl) hx1) hx1))
  · split
    · exact (kept_writePin (w.sub rfl rfl) (w.all rfl) hx1)
    · exact (kept_writeTime (w.sub rfl rfl) (w.all rfl) hx1)
    · exact (kept_writePart (w.sub rfl rfl) (w.all rfl) hx1)
    · exact (kept_writePart (w.sub rfl rfl) (w.all rfl) hx1)
    · exact (kept_writePart (w.sub rfl rfl) (w.all rfl) hx1)
    · exact (kept_writeOther (w.sub rfl rfl) (w.all rfl) hx1)

theorem kept_writeClear {W : Span} {s0 : State} {x0 x1 x2 x3 x4 x5} (w : Span.le
    ⟨0xffffffffffffffffffffffffffffffffffffffffffffffffffffffffffffffffffffffffffffffffffffffffffffffffffffffffffffffffffffffffffffffffffffffffffffffffffffffffffffffffffffffffffffffffffffffffffffffffffffffffffffffffffffffffffffffffffffffffffffffffffffffffffffffff, 1625744⟩ W) (hx0 : Kept W s0 x0) :
    Kept W s0 (State.writeClear x0 x1 x2 x3 x4 x5) := by
  delta State.writeClear
  refine kept_ite ?_ ?_
  · exact (kept_ite (kept_shortClear (w.sub rfl rfl) hx0) hx0)
  · exact (kept_ite (kept_writeAct (w.sub rfl rfl) hx0) (by extract_lets v1; exact (kept_setReg (w.all rfl) hx0)))

theorem kept_writeOne {W : Span} {s0 : State} {x0 x1 x2 x3 x4 x5} (w : Span.le
    ⟨0xffffffffffffffffffffffffffffffffffffffffffffffffffffffffffffffffffffffffffffffffffffffffffffffffffffffffffffffffffffffffffffffffffffffffffffffffffffffffffffffffffffffffffffffffffffffffffffffffffffffffffffffffffffffffffffffffffffffffffffffffffffffffffffffff, 1638075⟩ W) (hx4 : Kept W s0 x4) :
    Kept W s0 (State.writeOne x0 x1 x2 x3 x4 x5) := by
  delta State.writeOne
  extract_lets v1 v2
  refine kept_ite ?_ ?_
  · exact hx4
  · split
    · exact hx4
    · exact hx4
    · exact (kept_writeClear (w.sub rfl rfl) hx4)
    · exact (kept_writeAct (w.sub rfl rfl) hx4)
    · exact (kept_writeAct (w.sub rfl rfl) hx4)
    · exact (kept_ite (kept_auditRefuse (w.sub rfl rfl) hx4) (kept_writeRw (w.sub rfl rfl) hx4))

theorem kept_mergeAudit {W : Span} {s0 : State} {x0 x1 x2 x3} (w : Span.le ⟨0x0, 1048576⟩ W) (hx1 : Kept W s0 x1) :
    Kept W s0 (State.mergeAudit x0 x1 x2 x3) := by
  delta State.mergeAudit
  extract_lets v1 v2 v3
  have h5 : Kept W s0 v3 := (Kept.setHost hx1 (fun i4 => (HostOk.set (((hx1).hostOk i4)).mem)) (.inr rfl) (.inr ⟨rfl,
    rfl, rfl, rfl, rfl⟩) (.inr ⟨rfl, rfl⟩) (.inl (w.part rfl)) (.inr ⟨rfl, rfl⟩) (.inr rfl))
  exact (kept_ite hx1 (kept_foldl (fun _ _ h6 => (kept_audit (w.sub rfl rfl) h6)) h5))

theorem kept_writeFields {W : Span} {s0 : State} {x0 x1 x2 x3 x4} (w : Span.le
    ⟨0xffffffffffffffffffffffffffffffffffffffffffffffffffffffffffffffffffffffffffffffffffffffffffffffffffffffffffffffffffffffffffffffffffffffffffffffffffffffffffffffffffffffffffffffffffffffffffffffffffffffffffffffffffffffffffffffffffffffffffffffffffffffffffffffff, 1638075⟩ W) (hx0 : Kept W s0 x0) :
    Kept W s0 (State.writeFields x0 x1 x2 x3 x4) := by
  delta State.writeFields
  extract_lets v1 v2
  exact (kept_ite (kept_wrTask (w.sub rfl rfl) hx0) (kept_ite (kept_auditRefuse (w.sub rfl rfl) hx0) (kept_foldl (fun
    _ _ h3 => (kept_writeOne (w.sub rfl rfl) h3)) hx0)))

theorem kept_writeWord {W : Span} {s0 : State} {x0 x1 x2 x3} (w : Span.le
    ⟨0xffffffffffffffffffffffffffffffffffffffffffffffffffffffffffffffffffffffffffffffffffffffffffffffffffffffffffffffffffffffffffffffffffffffffffffffffffffffffffffffffffffffffffffffffffffffffffffffffffffffffffffffffffffffffffffffffffffffffffffffffffffffffffffffff, 1638075⟩ W) (hx0 : Kept W s0 x0) :
    Kept W s0 (State.writeWord x0 x1 x2 x3) := by
  delta State.writeWord
  refine kept_ite ?_ ?_
  · exact hx0
  · refine kept_ite ?_ ?_
    · exact (kept_misaligned (w.sub rfl rfl) hx0)
    · split
      · exact hx0
      · extract_lets v1 v2 v4 v6 v7 v8 v9
        have h3 : Kept W s0 v2 := (by unfold v2; split; exacts [(kept_ite (kept_bump (w.fld rfl) hx0) hx0), hx0])
        have h5 : Kept W s0 v4 := (kept_writeFields (w.sub rfl rfl) hx0)
        have h10 : Kept W s0 v9 := (kept_ite (kept_auditWrite (w.sub rfl rfl) h5) h5)
        exact (kept_ite hx0 (kept_ite hx0 (kept_ite (kept_auditWrite (w.sub rfl rfl) h3) (kept_mergeAudit (w.sub rfl
          rfl) h10))))

theorem kept_execQueueEnable {W : Span} {s0 : State} {x0 x1 x2 x3} (w : Span.le
    ⟨0xffffffffffffffffffffffffffffffffffffffffffffffffffffffffffffffffffffffffffffffffffffffffffffffffffffffffffffffffffffffffffffffffffffffffffffffffffffffffffffffffffffffffffffffffffffffffffffffffffffffffffffffffffffffffffffffffffffffffffffffffffffffffffffffff, 1638075⟩ W) (hx3 : Kept W s0 x3) :
    KeptOut W s0 (execQueueEnable x0 x1 x2 x3) := by
  delta execQueueEnable
  exact (KeptOut.of (kept_writeWord (w.sub rfl rfl) hx3))

theorem kept_execTaskSoftFlagSet {W : Span} {s0 : State} {x0 x1 x2 x3} (w : Span.le
    ⟨0xffffffffffffffffffffffffffffffffffffffffffffffffffffffffffffffffffffffffffffffffffffffffffffffffffffffffffffffffffffffffffffffffffffffffffffffffffffffffffffffffffffffffffffffffffffffffffffffffffffffffffffffffffffffffffffffffffffffffffffffffffffffffffffffff, 1638075⟩ W) (hx3 : Kept W s0 x3) :
    KeptOut W s0 (execTaskSoftFlagSet x0 x1 x2 x3) := by
  delta execTaskSoftFlagSet
  exact (KeptOut.of (kept_writeWord (w.sub rfl rfl) hx3))

theorem kept_readWords {W : Span} {s0 : State} {s o a n} (w : Span.le ⟨0xffffffffffffffffffffffffffffffffffffffffffffffffffffffffffffffffffffffffffffffffffffffffffffffffffffffffffffffffffffffffffffffffffffffffffffffffffffffffffffffffffffffffffffffffffffffffffffffffffffffffffffffffffffffffffffffffffffffffffffffffffffffffffffffff, 5⟩ W) (h : Kept W s0 s) :
    Kept2 W s0 (State.readWords s o a n) := by
  induction n generalizing s a with
  | zero => exact h
  | succ n ih => exact ih (kept_readWord (w.sub rfl rfl) h)

theorem kept_cmdRegRead {W : Span} {s0 : State} {x0 x1 x2 x3} (w : Span.le
    ⟨0xffffffffffffffffffffffffffffffffffffffffffffffffffffffffffffffffffffffffffffffffffffffffffffffffffffffffffffffffffffffffffffffffffffffffffffffffffffffffffffffffffffffffffffffffffffffffffffffffffffffffffffffffffffffffffffffffffffffffffffffffffffffffffffffff, 5⟩ W) (hx3 : Kept W s0 x3) :
    Kept1 W s0 (cmdRegRead x0 x1 x2 x3) := by
  delta cmdRegRead
  exact (kept_refuseIf hx3 (fun _ h1 => (by
      extract_lets v2
      have h3 : Kept2 W s0 v2 := (kept_readWords (w.sub rfl rfl) h1)
      exact (Kept1.of (Kept2.st h3)))))

theorem kept_execRegRead {W : Span} {s0 : State} {x0 x1 x2 x3} (w : Span.le
    ⟨0xffffffffffffffffffffffffffffffffffffffffffffffffffffffffffffffffffffffffffffffffffffffffffffffffffffffffffffffffffffffffffffffffffffffffffffffffffffffffffffffffffffffffffffffffffffffffffffffffffffffffffffffffffffffffffffffffffffffffffffffffffffffffffffffff, 1310725⟩ W) (hx3 : Kept W s0 x3) :
    KeptOut W s0 (execRegRead x0 x1 x2 x3) := by
  delta execRegRead
  exact (KeptOut.of (kept_runCmd (w.sub rfl rfl) (fun _ h1 => (kept_cmdRegRead (w.sub rfl rfl) h1)) hx3))

theorem kept_writeWords {W : Span} {s0 : State} {s o a vs} (w : Span.le ⟨0xffffffffffffffffffffffffffffffffffffffffffffffffffffffffffffffffffffffffffffffffffffffffffffffffffffffffffffffffffffffffffffffffffffffffffffffffffffffffffffffffffffffffffffffffffffffffffffffffffffffffffffffffffffffffffffffffffffffffffffffffffffffffffffffff, 1638075⟩ W) (h : Kept W s0 s) :
    Kept W s0 (State.writeWords s o a vs) := by
  induction vs generalizing s a with
  | nil => exact h
  | cons v vs ih => exact ih (kept_writeWord (w.sub rfl rfl) h)

theorem kept_cmdRegWrite {W : Span} {s0 : State} {x0 x1 x2 x3 x4} (w : Span.le
    ⟨0xffffffffffffffffffffffffffffffffffffffffffffffffffffffffffffffffffffffffffffffffffffffffffffffffffffffffffffffffffffffffffffffffffffffffffffffffffffffffffffffffffffffffffffffffffffffffffffffffffffffffffffffffffffffffffffffffffffffffffffffffffffffffffffffff, 1638075⟩ W) (hx4 : Kept W s0 x4) :
    Kept1 W s0 (cmdRegWrite x0 x1 x2 x3 x4) := by
  delta cmdRegWrite
  exact (kept_refuseIf hx4 (fun _ h1 => (kept_oks (kept_writeWords (w.sub rfl rfl) h1))))

theorem kept_execRegWrite {W : Span} {s0 : State} {x0 x1 x2 x3 x4} (w : Span.le
    ⟨0xffffffffffffffffffffffffffffffffffffffffffffffffffffffffffffffffffffffffffffffffffffffffffffffffffffffffffffffffffffffffffffffffffffffffffffffffffffffffffffffffffffffffffffffffffffffffffffffffffffffffffffffffffffffffffffffffffffffffffffffffffffffffffffffff, 1900219⟩ W) (hx4 : Kept W s0 x4) :
    KeptOut W s0 (execRegWrite x0 x1 x2 x3 x4) := by
  delta execRegWrite
  exact (KeptOut.of (kept_runCmd (w.sub rfl rfl) (fun _ h1 => (kept_cmdRegWrite (w.sub rfl rfl) h1)) hx4))

end Sys2Proof.Machine
end

