-- ==== Sys2Proof/Laws/KeptQueues.lean ====
section
/-! SUPPORT. What the operations of Machine/Queues.lean keep (see Laws/Kept.lean). -/

namespace Sys2Proof.Machine

theorem kept_queueError {W : Span} {s0 : State} {x0 x1 x2 x3} (w : Span.le
    ⟨0x880008000000000000000000000000000000000000000000000000000000000000000000000000000000000000000000000000,
    524288⟩ W) (hx0 : Kept W s0 x0) :
    Kept W s0 (State.queueError x0 x1 x2 x3) := by
  delta State.queueError
  exact (kept_ite (kept_pError (w.sub rfl rfl) hx0) (kept_mError (w.sub rfl rfl) hx0))

theorem kept_rescanWith {W : Span} {s0 : State} {x0 x1} (w : Span.le ⟨0x0, 524288⟩ W) (hx0 : Kept W s0 x0) :
    Kept W s0 (State.rescanWith x0 x1) := by
  delta State.rescanWith
  exact (kept_foldl (fun _ _ h1 => (kept_rescan (w.sub rfl rfl) h1)) (kept_rescan (w.sub rfl rfl) hx0))

theorem kept_doorbell {W : Span} {s0 : State} {x0 x1 x2 x3} (w : Span.le
    ⟨0xa98009000000000000000000000000000000000000000000000000000000000000000000000000000000000000000000000000,
    1572864⟩ W) (hx0 : Kept W s0 x0) :
    Kept W s0 (State.doorbell x0 x1 x2 x3) := by
  delta State.doorbell
  extract_lets v1 v2
  have h3 : Kept W s0 v2 := (by unfold v2; split; exacts [(kept_bump (w.fld rfl) hx0), hx0])
  exact (kept_ite hx0 (kept_ite (kept_auditRefuse (w.sub rfl rfl) h3) (kept_ite (kept_rescanWith (w.sub rfl rfl)
    (kept_setReg (fld_ite (w.fld rfl) (w.fld rfl)) hx0)) (kept_queueError (w.sub rfl rfl) (kept_setReg (w.fld rfl)
    hx0)))))

theorem kept_execQueueDoorbell {W : Span} {s0 : State} {x0 x1 x2 x3} (w : Span.le
    ⟨0xa98009000000000000000000000000000000000000000000000000000000000000000000000000000000000000000000000000,
    1572864⟩ W) (hx3 : Kept W s0 x3) :
    KeptOut W s0 (execQueueDoorbell x0 x1 x2 x3) := by
  delta execQueueDoorbell
  exact (KeptOut.of (kept_doorbell (w.sub rfl rfl) hx3))

theorem kept_queueSignal {W : Span} {s0 : State} {x0 x1} (w : Span.le ⟨0x0, 557056⟩ W) (hx0 : Kept W s0 x0) :
    Kept W s0 (State.queueSignal x0 x1) := by
  delta State.queueSignal
  exact (by split; exacts [hx0, (kept_emit (w.sub rfl rfl) (kept_modQueue (w.sub rfl rfl) hx0))])

theorem kept_entriesMoved {W : Span} {s0 : State} {x0 x1 x2} (w : Span.le ⟨0x0, 557056⟩ W) (hx0 : Kept W s0 x0) :
    Kept W s0 (State.entriesMoved x0 x1 x2) := by
  delta State.entriesMoved
  extract_lets v1
  have h2 : Kept W s0 v1 := (kept_modQueue (w.sub rfl rfl) hx0)
  exact (kept_ite (kept_queueSignal (w.sub rfl rfl) h2) h2)

theorem kept_execInterruptCoalesceTimeout {W : Span} {s0 : State} {x0 x1} (w : Span.le ⟨0x0, 557056⟩ W) (hx1 : Kept W
    s0 x1) :
    KeptOut W s0 (execInterruptCoalesceTimeout x0 x1) := by
  delta execInterruptCoalesceTimeout
  exact (KeptOut.of (kept_ite (kept_queueSignal (w.sub rfl rfl) hx1) hx1))

theorem kept_schedEvent {W : Span} {s0 : State} {x0 x1 x2 x3} (w : Span.le
    ⟨0x20000004000000000000000000000000000000000000000000000000000000000000000000, 129⟩ W) (hx0 : Kept W s0 x0) :
    Kept W s0 (State.schedEvent x0 x1 x2 x3) := by
  delta State.schedEvent
  exact (kept_traceItem (w.sub rfl rfl) hx0)

theorem kept_takeStimulus {W : Span} {s0 : State} {x0 x1 x2} (w : Span.le
    ⟨0x8b40080000000000000000000000000000000000000000000000000000000000000f0200000000000000000000000000000000,
    525328⟩ W) (hx0 : Kept W s0 x0) :
    Kept1 W s0 (State.takeStimulus x0 x1 x2) := by
  delta State.takeStimulus
  extract_lets v1 v2 v3 v4 v5 v7 v8
  have h6 : Kept W s0 v5 := (kept_fifoFrom (w.sub rfl rfl) hx0)
  have h9 : Kept W s0 v8 := (kept_setFifo (w.sub rfl rfl) h6)
  exact (ite_of (P := Kept1 W s0) (Kept1.of (kept_rescan (w.sub rfl rfl) (kept_queueError (w.sub rfl rfl)
    (kept_setReg (w.fld rfl) (kept_setReg (w.fld rfl) hx0))))) (Kept1.of (kept_arrived (w.sub rfl rfl) (kept_setReg
    (w.fld rfl) h9))))

theorem kept_moveStimulus {W : Span} {s0 : State} {q es s} (w : Span.le ⟨0x8b40080000000000000000000000000000000000000000000000000000000000000f0200000000000000000000000000000000, 525328⟩ W) (h : Kept W s0 s) :
    Kept1 W s0 (State.moveStimulus q es s) := by
  induction es generalizing s with
  | nil => exact h
  | cons e es ih =>
    unfold State.moveStimulus
    simp only
    exact ite_of (P := Kept1 W s0) h
      (ite_of (P := Kept1 W s0) (ih (kept_takeStimulus (w.sub rfl rfl) h)) (kept_takeStimulus (w.sub rfl rfl) h))

theorem kept_moveCommand {W : Span} {s0 : State} {x0 x1 x2} (w : Span.le
    ⟨0x10000000000000000000000000000000000000000000000000000000000000000000000000000000000000000000000000000, 786432⟩
    W) (hx0 : Kept W s0 x0) :
    Kept1 W s0 (State.moveCommand x0 x1 x2) := by
  delta State.moveCommand
  split
  · exact (Kept1.of hx0)
  · split
    · exact (Kept1.of hx0)
    · refine ite_of (P := Kept1 W s0) ?_ ?_
      · exact (Kept1.of hx0)
      · extract_lets v1 v2 v4
        have h3 : Kept W s0 v2 := (kept_setReg (w.fld rfl) (kept_modQueue (w.sub rfl rfl) hx0))
        exact (Kept1.of (Kept.setHost h3 (fun i5 => (HostOk.set (((h3).hostOk i5)).mem)) (.inr rfl) (.inl (w.part
          rfl)) (.inr ⟨rfl, rfl⟩) (.inr ⟨rfl, rfl, rfl, rfl, rfl⟩) (.inr ⟨rfl, rfl⟩) (.inr rfl)))

theorem kept_moveOut {W : Span} {s0 : State} {q n s} (w : Span.le ⟨0x8000000000000000000000000000000000000000000000000000000000000000000000000000000000000000000000000000, 655360⟩ W) (h : Kept W s0 s) :
    Kept1 W s0 (State.moveOut q n s) := by
  induction n generalizing s with
  | zero => exact h
  | succ n ih =>
    unfold State.moveOut
    split
    · exact ite_of (P := Kept1 W s0) h
        (ih (kept_setReg (w.fld rfl) (kept_modQueue (w.sub rfl rfl) (kept_hostWrite (w.sub rfl rfl) h))))
    · exact h

theorem kept_moveEntries {W : Span} {s0 : State} {x0 x1 x2} (w : Span.le
    ⟨0x8bc0080000000000000000000000000000000000000000000000000000000000000f0200000000000000000000000000000000,
    918544⟩ W) (hx0 : Kept W s0 x0) :
    Kept1 W s0 (State.moveEntries x0 x1 x2) := by
  delta State.moveEntries
  extract_lets v1
  exact (ite_of (P := Kept1 W s0) (kept_moveStimulus (w.sub rfl rfl) hx0) (ite_of (P := Kept1 W s0) (kept_moveCommand
    (w.sub rfl rfl) hx0) (kept_moveOut (w.sub rfl rfl) hx0)))

theorem kept_writeBack {W : Span} {s0 : State} {x0 x1} (w : Span.le ⟨0x0, 131072⟩ W) (hx0 : Kept W s0 x0) :
    Kept W s0 (State.writeBack x0 x1) := by
  delta State.writeBack
  exact (by split; exacts [hx0, (kept_hostWrite (w.sub rfl rfl) hx0)])

theorem kept_dispatchEnd {W : Span} {s0 : State} {x0 x1} (w : Span.le ⟨0x0, 524288⟩ W) (hx0 : Kept W s0 x0) :
    Kept W s0 (State.dispatchEnd x0 x1) := by
  delta State.dispatchEnd
  exact (kept_foldl (fun _ _ h1 => (kept_rescan (w.sub rfl rfl) (kept_modQueue (w.sub rfl rfl) h1))) (kept_rescanWith
    (w.sub rfl rfl) hx0))

theorem kept_dispatchStart {W : Span} {s0 : State} {x0 x1 x2} (w : Span.le
    ⟨0x1040000000028000000000000000000020000004000000000000000000000000000000000000000000000000000000000000000000,
    524417⟩ W) (hx0 : Kept W s0 x0) :
    Kept W s0 (State.dispatchStart x0 x1 x2) := by
  delta State.dispatchStart
  extract_lets v1 v2 v4 v6 v7
  have h3 : Kept W s0 v2 := (kept_ite (kept_dmaUse (w.sub rfl rfl) hx0) hx0)
  have h5 : Kept W s0 v4 := (kept_bump (w.fld rfl) (kept_setReg (w.fld rfl) h3))
  have h9 : Kept W s0 v7 := (Kept.setHost h5 (fun i8 => (HostOk.set (((h5).hostOk i8)).mem)) (.inr rfl) (.inr ⟨rfl,
    rfl, rfl, rfl, rfl⟩) (.inl (w.part rfl)) (.inr ⟨rfl, rfl, rfl, rfl, rfl⟩) (.inr ⟨rfl, rfl⟩) (.inr rfl))
  exact (kept_schedEvent (w.sub rfl rfl) (kept_modQueue (w.sub rfl rfl) h9))

theorem kept_batchEnd {W : Span} {s0 : State} {x0 x1} (w : Span.le ⟨0x0, 688128⟩ W) (hx1 : Kept1 W s0 x1) :
    Kept W s0 (State.batchEnd x0 x1) := by
  delta State.batchEnd
  exact (kept_ite (Kept1.st hx1) (kept_entriesMoved (w.sub rfl rfl) (kept_writeBack (w.sub rfl rfl) (Kept1.st hx1))))

theorem kept_fullEvent {W : Span} {s0 : State} {x0 x1 x2} (w : Span.le
    ⟨0x20000004000000000000000000000000000000000000000000000000000000000000000000, 129⟩ W) (hx0 : Kept W s0 x0) :
    Kept W s0 (State.fullEvent x0 x1 x2) := by
  delta State.fullEvent
  exact (kept_ite (kept_schedEvent (w.sub rfl rfl) hx0) hx0)

theorem kept_chainEvent {W : Span} {s0 : State} {x0 x1 x2} (w : Span.le
    ⟨0x20000004000000000000000000000000000000000000000000000000000000000000000000, 129⟩ W) (hx0 : Kept W s0 x0) :
    Kept W s0 (State.chainEvent x0 x1 x2) := by
  delta State.chainEvent
  exact (kept_ite (kept_schedEvent (w.sub rfl rfl) hx0) hx0)

theorem kept_dispatch {W : Span} {s0 : State} {x0 x1 x2 x3} (w : Span.le
    ⟨0x10408bc0080280000000000000000000200000040000000000000000000000000000000f0200000000000000000000000000000000,
    951441⟩ W) (hx0 : Kept W s0 x0) :
    Kept W s0 (State.dispatch x0 x1 x2 x3) := by
  delta State.dispatch
  exact (kept_chainEvent (w.sub rfl rfl) (kept_dispatchEnd (w.sub rfl rfl) (kept_schedEvent (w.sub rfl rfl)
    (kept_fullEvent (w.sub rfl rfl) (kept_batchEnd (w.sub rfl rfl) (kept_moveEntries (w.sub rfl rfl)
    (kept_dispatchStart (w.sub rfl rfl) hx0)))))))

theorem kept_rescanAll {W : Span} {s0 : State} {x0} (w : Span.le ⟨0x0, 524288⟩ W) (hx0 : Kept W s0 x0) :
    Kept W s0 (State.rescanAll x0) := by
  delta State.rescanAll
  exact (kept_foldl (fun _ _ h1 => (kept_rescan (w.sub rfl rfl) h1)) hx0)

theorem kept_execTaskDispatch {W : Span} {s0 : State} {x0 x1 x2} (w : Span.le
    ⟨0x10408bc0080280000000000000000000200000040000000000000000000000000000000f0200000000000000000000000000000000,
    951441⟩ W) (hx2 : Kept W s0 x2) :
    KeptOut W s0 (execTaskDispatch x0 x1 x2) := by
  delta execTaskDispatch
  exact (KeptOut.of (kept_ite hx2 (by
      extract_lets v1
      have h2 : Kept W s0 v1 := (kept_rescanAll (w.sub rfl rfl) hx2)
      exact (by split; exacts [h2, (kept_dispatch (w.sub rfl rfl) h2)]))))

theorem kept_cmdQueueAssign {W : Span} {s0 : State} {x0 x1 x2 x3 x4} (w : Span.le
    ⟨0x4130000000000000000000000000000000000000000000000000000000000000000000000000000000000000000000000000, 524288⟩
    W) (hx4 : Kept W s0 x4) :
    Kept1 W s0 (cmdQueueAssign x0 x1 x2 x3 x4) := by
  delta cmdQueueAssign
  exact (kept_refuseIf hx4 (fun _ h1 => (kept_oks (kept_setReg (w.fld rfl) (kept_setReg (w.fld rfl) (kept_queueDown
    (w.sub rfl rfl) h1))))))

theorem kept_execQueueAssign {W : Span} {s0 : State} {x0 x1 x2 x3 x4} (w : Span.le
    ⟨0x4130000000000000000000000000000000000000000000000000000000000000000000000000000000000000000000000000, 1835008⟩
    W) (hx4 : Kept W s0 x4) :
    KeptOut W s0 (execQueueAssign x0 x1 x2 x3 x4) := by
  delta execQueueAssign
  exact (KeptOut.of (kept_runCmd (w.sub rfl rfl) (fun _ h1 => (kept_cmdQueueAssign (w.sub rfl rfl) h1)) hx4))

theorem kept_setupQueue {W : Span} {s0 : State} {x0 x1 x2 x3 x4 x5 x6 x7} (w : Span.le
    ⟨0x107f3fbfc0000000000000000000000000000000000000000000000000000000000000000000000000000000000000000000000000,
    524288⟩ W) (hx0 : Kept W s0 x0) :
    Kept W s0 (State.setupQueue x0 x1 x2 x3 x4 x5 x6 x7) := by
  delta State.setupQueue
  extract_lets v1 v3 v5 v6 v8
  have h2 : Kept W s0 v1 := (kept_setReg (w.fld rfl) (kept_setReg (w.fld rfl) (kept_setReg (w.fld rfl) hx0)))
  have h4 : Kept W s0 v3 := (kept_setReg (w.fld rfl) (kept_setReg64 (w.fld rfl) (w.fld rfl) (kept_setReg64 (w.fld
    rfl) (w.fld rfl) h2)))
  have h7 : Kept W s0 v6 := (kept_setReg (w.fld rfl) (kept_setReg (w.fld rfl) (kept_setReg (w.fld rfl) (kept_setReg
    (w.fld rfl) (kept_setReg (w.fld rfl) (kept_setReg (w.fld rfl) (kept_setReg (w.fld rfl) (kept_setReg (w.fld rfl)
    (kept_setReg (w.fld rfl) (kept_setReg (w.fld rfl) (kept_setReg (w.fld rfl) (kept_setReg (w.fld rfl) (kept_setReg
    (w.fld rfl) (kept_setReg (w.fld rfl) (kept_setReg (w.fld rfl) h4)))))))))))))))
  exact (kept_rescan (w.sub rfl rfl) (kept_modQueue (w.sub rfl rfl) h7))

theorem kept_cmdQueueSetup {W : Span} {s0 : State} {x0 x1 x2 x3 x4 x5 x6 x7 x8} (w : Span.le
    ⟨0x107f3fbfc0000000000000000000000000000000000000000000000000000000000000000000000000000000000000000000000000,
    524288⟩ W) (hx8 : Kept W s0 x8) :
    Kept1 W s0 (cmdQueueSetup x0 x1 x2 x3 x4 x5 x6 x7 x8) := by
  delta cmdQueueSetup
  exact (kept_refuseIf hx8 (fun _ h1 => (kept_oks (kept_setupQueue (w.sub rfl rfl) h1))))

theorem kept_execQueueSetup {W : Span} {s0 : State} {x0 x1 x2 x3 x4 x5 x6 x7 x8} (w : Span.le
    ⟨0x107f3fbfc0000000000000000000000000000000000000000000000000000000000000000000000000000000000000000000000000,
    1835008⟩ W) (hx8 : Kept W s0 x8) :
    KeptOut W s0 (execQueueSetup x0 x1 x2 x3 x4 x5 x6 x7 x8) := by
  delta execQueueSetup
  exact (KeptOut.of (kept_runCmd (w.sub rfl rfl) (fun _ h1 => (kept_cmdQueueSetup (w.sub rfl rfl) h1)) hx8))

end Sys2Proof.Machine
end

