-- ==== Sys2Proof/Laws/KeptNocServe.lean ====
section
/-! SUPPORT. What the operations of Machine/NocServe.lean keep (see Laws/Kept.lean). -/

namespace Sys2Proof.Machine

theorem kept_answers {W : Span} {s0 : State} {x0 x1 x2} (hx0 : Kept W s0 x0) :
    Kept1 W s0 (State.answers x0 x1 x2) := by
  delta State.answers
  exact (Kept1.of hx0)

theorem kept_serveAgent {W : Span} {s0 : State} {x0 x1} (w : Span.le
    ⟨0x8800080000000000000000000000000000000400000000000000000000000000001f0300800bf8000000000000000000000000,
    1982745⟩ W) (hx0 : Kept W s0 x0) :
    Kept1 W s0 (State.serveAgent x0 x1) := by
  delta State.serveAgent
  extract_lets v1 v2
  split
  · exact (kept_answers hx0)
  · extract_lets v3 v4
    exact (ite_of (P := Kept1 W s0) (kept_answers hx0) (ite_of (P := Kept1 W s0) (kept_answers hx0) (ite_of (P :=
      Kept1 W s0) (kept_answers hx0) (ite_of (P := Kept1 W s0) (Kept1.of (kept_dmaBusy (w.sub rfl rfl) hx0))
      (Kept1.of (kept_dmaStart (w.sub rfl rfl) hx0))))))

theorem kept_serveDram {W : Span} {s0 : State} {x0 x1} (w : Span.le
    ⟨0x580000000020000004000000000000000000000000000000000000000000000000000000000000000000, 169⟩ W) (hx0 : Kept W s0
    x0) :
    Kept1 W s0 (State.serveDram x0 x1) := by
  delta State.serveDram
  extract_lets v1
  exact (ite_of (P := Kept1 W s0) (kept_answers hx0) (ite_of (P := Kept1 W s0) (kept_answers hx0) (Kept1.of
    (kept_jobStart (w.sub rfl rfl) hx0))))

theorem kept_serveRegs {W : Span} {s0 : State} {x0 x1} (w : Span.le
    ⟨0xffffffffffffffffffffffffffffffffffffffffffffffffffffffffffffffffffffffffffffffffffffffffffffffffffffffffffffffffffffffffffffffffffffffffffffffffffffffffffffffffffffffffffffffffffffffffffffffffffffffffffffffffffffffffffffffffffffffffffffffffffffffffffffffff, 1638079⟩ W) (hx0 : Kept W s0 x0) :
    Kept1 W s0 (State.serveRegs x0 x1) := by
  delta State.serveRegs
  extract_lets v1 v2 v3 v4 v6
  have h5 : Kept2 W s0 v4 := (kept_readWords (w.sub rfl rfl) hx0)
  exact (ite_of (P := Kept1 W s0) (kept_answers hx0) (ite_of (P := Kept1 W s0) (kept_answers hx0) (ite_of (P := Kept1
    W s0) (kept_answers (Kept2.st h5)) (kept_answers (kept_foldl (fun _ _ h7 => (kept_ite (kept_writeWord (w.sub rfl
    rfl) h7) h7)) hx0)))))

theorem kept_serveCp {W : Span} {s0 : State} {x0 x1} (w : Span.le ⟨0x0, 1⟩ W) (hx0 : Kept W s0 x0) :
    Kept1 W s0 (State.serveCp x0 x1) := by
  delta State.serveCp
  extract_lets v1
  have h2 : Kept2 W s0 v1 := (kept_takeBit (w.sub rfl rfl) hx0)
  exact (ite_of (P := Kept1 W s0) (kept_answers hx0) (ite_of (P := Kept1 W s0) (kept_answers (Kept2.st h2))
    (kept_answers (Kept2.st h2))))

theorem kept_serveRequest {W : Span} {s0 : State} {x0 x1} (w : Span.le
    ⟨0xffffffffffffffffffffffffffffffffffffffffffffffffffffffffffffffffffffffffffffffffffffffffffffffffffffffffffffffffffffffffffffffffffffffffffffffffffffffffffffffffffffffffffffffffffffffffffffffffffffffffffffffffffffffffffffffffffffffffffffffffffffffffffffffff, 2031551⟩ W) (hx0 : Kept W s0 x0) :
    Kept1 W s0 (State.serveRequest x0 x1) := by
  delta State.serveRequest
  extract_lets v1
  exact (ite_of (P := Kept1 W s0) (kept_answers hx0) (ite_of (P := Kept1 W s0) (kept_serveRegs (w.sub rfl rfl) hx0)
    (ite_of (P := Kept1 W s0) (kept_serveAgent (w.sub rfl rfl) hx0) (ite_of (P := Kept1 W s0) (kept_serveCp (w.sub
    rfl rfl) hx0) (ite_of (P := Kept1 W s0) (kept_answers hx0) (ite_of (P := Kept1 W s0) (kept_serveCp (w.sub rfl
    rfl) hx0) (ite_of (P := Kept1 W s0) (kept_serveDram (w.sub rfl rfl) hx0) (kept_serveRegs (w.sub rfl rfl)
    hx0))))))))

theorem kept_takeCompletion {W : Span} {s0 : State} {x0 x1} (w : Span.le
    ⟨0x402380000000000020000004000000000000000000000000000000000000000000000000000000000000000000, 385⟩ W) (hx0 :
    Kept W s0 x0) :
    Kept W s0 (State.takeCompletion x0 x1) := by
  delta State.takeCompletion
  extract_lets v1 v2
  have h3 : Kept W s0 v2 := (kept_ite (kept_setReg (w.fld rfl) (kept_bump (w.fld rfl) hx0)) hx0)
  exact (by split; exacts [(kept_ite (kept_nocResult (w.sub rfl rfl) (kept_setTag (w.sub rfl rfl) hx0)) h3), h3])

theorem kept_nocDeliver {W : Span} {s0 : State} {x0 x1} (w : Span.le
    ⟨0xffffffffffffffffffffffffffffffffffffffffffffffffffffffffffffffffffffffffffffffffffffffffffffffffffffffffffffffffffffffffffffffffffffffffffffffffffffffffffffffffffffffffffffffffffffffffffffffffffffffffffffffffffffffffffffffffffffffffffffffffffffffffffffffff, 2031551⟩ W) (hx0 : Kept W s0 x0) :
    Kept W s0 (State.nocDeliver x0 x1) := by
  delta State.nocDeliver
  refine kept_ite ?_ ?_
  · exact (kept_takeCompletion (w.sub rfl rfl) hx0)
  · refine kept_ite ?_ ?_
    · exact (kept_modNoc (w.sub rfl rfl) hx0)
    · extract_lets v1
      have h2 : Kept1 W s0 v1 := (kept_serveRequest (w.sub rfl rfl) hx0)
      exact (by split; exacts [(kept_replyTo (w.sub rfl rfl) (Kept1.st h2)), (Kept1.st h2)])

theorem kept_nocPass {W : Span} {s0 : State} {x0 x1 x2 x3 x4 x5} (w : Span.le
    ⟨0xffffffffffffffffffffffffffffffffffffffffffffffffffffffffffffffffffffffffffffffffffffffffffffffffffffffffffffffffffffffffffffffffffffffffffffffffffffffffffffffffffffffffffffffffffffffffffffffffffffffffffffffffffffffffffffffffffffffffffffffffffffffffffffffff, 2031551⟩ W) (hx0 : Kept W s0 x0) :
    Kept W s0 (State.nocPass x0 x1 x2 x3 x4 x5) := by
  delta State.nocPass
  refine kept_ite ?_ ?_
  · exact hx0
  · split
    · exact hx0
    · split
      · exact hx0
      · refine kept_ite ?_ ?_
        · exact hx0
        · extract_lets v1 v3
          have h2 : Kept W s0 v1 := (kept_modNoc (w.sub rfl rfl) hx0)
          refine kept_ite ?_ ?_
          · exact (kept_nocEnter (w.sub rfl rfl) h2)
          · refine kept_ite ?_ ?_
            · exact (kept_nocDeliver (w.sub rfl rfl) h2)
            · refine kept_ite ?_ ?_
              · exact (by split; exacts [(kept_modNoc (w.sub rfl rfl) h2), h2])
              · exact (kept_modNoc (w.sub rfl rfl) h2)

theorem kept_nocLand {W : Span} {s0 : State} {x0 x1 x2 x3} (w : Span.le
    ⟨0xffffffffffffffffffffffffffffffffffffffffffffffffffffffffffffffffffffffffffffffffffffffffffffffffffffffffffffffffffffffffffffffffffffffffffffffffffffffffffffffffffffffffffffffffffffffffffffffffffffffffffffffffffffffffffffffffffffffffffffffffffffffffffffffff, 2031551⟩ W) (hx0 : Kept W s0 x0) :
    Kept W s0 (State.nocLand x0 x1 x2 x3) := by
  delta State.nocLand
  split
  · exact hx0
  · refine kept_ite ?_ ?_
    · exact hx0
    · extract_lets v1
      have h2 : Kept W s0 v1 := (kept_modNoc (w.sub rfl rfl) hx0)
      exact (kept_ite (kept_nocEnter (w.sub rfl rfl) h2) (kept_ite (kept_nocDeliver (w.sub rfl rfl) h2) (kept_ite
        (kept_nocDeliver (w.sub rfl rfl) h2) (kept_ite (kept_ite (kept_nocAnswer (w.sub rfl rfl) h2) h2) (kept_ite
        (kept_nocEnter (w.sub rfl rfl) h2) hx0)))))

theorem kept_nocMove {W : Span} {s0 : State} {x0 x1 x2} (w : Span.le
    ⟨0xffffffffffffffffffffffffffffffffffffffffffffffffffffffffffffffffffffffffffffffffffffffffffffffffffffffffffffffffffffffffffffffffffffffffffffffffffffffffffffffffffffffffffffffffffffffffffffffffffffffffffffffffffffffffffffffffffffffffffffffffffffffffffffffff, 2031551⟩ W) (hx0 : Kept W s0 x0) :
    Kept W s0 (State.nocMove x0 x1 x2) := by
  delta State.nocMove
  split
  · exact hx0
  · exact (kept_nocPump (w.sub rfl rfl) (kept_nocPass (w.sub rfl rfl) hx0))
  · exact (kept_nocPump (w.sub rfl rfl) (kept_nocLand (w.sub rfl rfl) hx0))

theorem kept_nocRequest {W : Span} {s0 : State} {x0 x1} (w : Span.le
    ⟨0xffffffffffffffffffffffffffffffffffffffffffffffffffffffffffffffffffffffffffffffffffffffffffffffffffffffffffffffffffffffffffffffffffffffffffffffffffffffffffffffffffffffffffffffffffffffffffffffffffffffffffffffffffffffffffffffffffffffffffffffffffffffffffffffff, 2031551⟩ W) (hx0 : Kept W s0 x0) :
    Kept W s0 (State.nocRequest x0 x1) := by
  delta State.nocRequest
  refine kept_ite ?_ ?_
  · exact hx0
  · split
    · exact (kept_ite hx0 (kept_nocPump (w.sub rfl rfl) (kept_modNoc (w.sub rfl rfl) hx0)))
    · exact (kept_nocMove (w.sub rfl rfl) hx0)

theorem kept_execNocRequest {W : Span} {s0 : State} {x0 x1} (w : Span.le
    ⟨0xffffffffffffffffffffffffffffffffffffffffffffffffffffffffffffffffffffffffffffffffffffffffffffffffffffffffffffffffffffffffffffffffffffffffffffffffffffffffffffffffffffffffffffffffffffffffffffffffffffffffffffffffffffffffffffffffffffffffffffffffffffffffffffffff, 2031551⟩ W) (hx1 : Kept W s0 x1) :
    KeptOut W s0 (execNocRequest x0 x1) := by
  delta execNocRequest
  exact (KeptOut.of (kept_nocRequest (w.sub rfl rfl) hx1))

theorem kept_sendReply {W : Span} {s0 : State} {s q} (w : Span.le ⟨0x5fa380000000000020000004000000000000000000000000000000000000000000000000000000000000000000, 385⟩ W) (h : Kept W s0 s) :
    Kept W s0 (State.sendReply s q) := by
  delta State.sendReply
  split
  · exact h
  · next x _ =>
    extract_lets v0 k
    have h0 : Kept W s0 v0 := kept_modNoc (w.sub rfl rfl) h
    have h1 : Kept W s0 ((v0.nocInject k x.place).getD s) := by
      have h2 : KeptOpt W s0 (v0.nocInject k x.place) := kept_nocInject (w.sub rfl rfl) h0
      revert h2
      cases v0.nocInject k x.place with
      | none => exact fun _ => h
      | some s1 => exact fun h2 => h2
    split
    · exact kept_takeCompletion (w.sub rfl rfl) h0
    · exact kept_ite h h1

theorem kept_nocCompletion {W : Span} {s0 : State} {x0 x1} (w : Span.le
    ⟨0xffffffffffffffffffffffffffffffffffffffffffffffffffffffffffffffffffffffffffffffffffffffffffffffffffffffffffffffffffffffffffffffffffffffffffffffffffffffffffffffffffffffffffffffffffffffffffffffffffffffffffffffffffffffffffffffffffffffffffffffffffffffffffffffff, 2031551⟩ W) (hx0 : Kept W s0 x0) :
    Kept W s0 (State.nocCompletion x0 x1) := by
  delta State.nocCompletion
  refine kept_ite ?_ ?_
  · exact hx0
  · split
    exacts [(kept_nocPump (w.sub rfl rfl) (kept_sendReply (w.sub rfl rfl) hx0)), (kept_nocMove (w.sub rfl rfl) hx0)]

theorem kept_execNocCompletion {W : Span} {s0 : State} {x0 x1} (w : Span.le
    ⟨0xffffffffffffffffffffffffffffffffffffffffffffffffffffffffffffffffffffffffffffffffffffffffffffffffffffffffffffffffffffffffffffffffffffffffffffffffffffffffffffffffffffffffffffffffffffffffffffffffffffffffffffffffffffffffffffffffffffffffffffffffffffffffffffffff, 2031551⟩ W) (hx1 : Kept W s0 x1) :
    KeptOut W s0 (execNocCompletion x0 x1) := by
  delta execNocCompletion
  exact (KeptOut.of (kept_nocCompletion (w.sub rfl rfl) hx1))

end Sys2Proof.Machine
end

