-- ==== Sys2Proof/Laws/KeptRecords.lean ====
section
/-! SUPPORT. What the operations of Machine/Records.lean keep (see Laws/Kept.lean). -/

namespace Sys2Proof.Machine

/-- The command of a form keeps what every operation keeps. -/
def FormOk (W : Span) (f : Form) : Prop := ∀ s0 s, Kept W s0 s → Kept1 W s0 (f.run s)

/-- The same of a form that may be absent. -/
def OFormOk (W : Span) (o : Option Form) : Prop := ∀ f, o = some f → FormOk W f

section
variable {W : Span}
theorem oformOk_none : OFormOk W none := fun _ h => by cases h
theorem oformOk_some {f : Form} (h : FormOk W f) : OFormOk W (some f) := fun _ e => by cases e; exact h
theorem oformOk_map {o : Option Form} {g : Form → Form} (hg : ∀ f, FormOk W f → FormOk W (g f)) (h : OFormOk W o) :
    OFormOk W (o.map g) := by
  cases o with
  | none => exact oformOk_none
  | some f => exact oformOk_some (hg f (h f rfl))
theorem ofrm_of {α : Type} {P : α → Prop} {o : Option Form} {a : α} {b : Form → α} :
    OFormOk W o → P a → (∀ f, FormOk W f → P (b f)) → P (match o with | none => a | some f => b f) := by
  intro h ha hb
  cases o with
  | none => exact ha
  | some f => exact hb f (h f rfl)
end

theorem kept_cmdHostIdentify {W : Span} {s0 : State} {x0 x1 x2} (w : Span.le
    ⟨0x4000000000000000000000000000000000000000000000000000000000000000000000000000000000000000000000, 0⟩ W) (hx2 :
    Kept W s0 x2) :
    Kept1 W s0 (cmdHostIdentify x0 x1 x2) := by
  delta cmdHostIdentify
  exact (by split; exacts [(kept_oks (kept_foldl (fun _ _ h1 => (kept_setReg (w.fld rfl) h1)) hx2)), (kept_says hx2)])

theorem kept_execHostIdentify {W : Span} {s0 : State} {x0 x1 x2} (w : Span.le
    ⟨0x4000000000000000000000000000000000000000000000000000000000000000000000000000000000000000000000, 1310720⟩ W)
    (hx2 : Kept W s0 x2) :
    KeptOut W s0 (execHostIdentify x0 x1 x2) := by
  delta execHostIdentify
  exact (KeptOut.of (kept_runCmd (w.sub rfl rfl) (fun _ h1 => (kept_cmdHostIdentify (w.sub rfl rfl) h1)) hx2))

theorem kept_cmdAuditRead {W : Span} {s0 : State} {x0 x1 x2 x3 x4} (w : Span.le ⟨0x0, 131072⟩ W) (hx4 : Kept W s0 x4)
    :
    Kept1 W s0 (cmdAuditRead x0 x1 x2 x3 x4) := by
  delta cmdAuditRead
  extract_lets v1 v2 v3 v4 v5
  exact (kept_refuseIf hx4 (fun _ h6 => (by
      split
      exacts [(Kept1.of (kept_hostWrite (w.sub rfl rfl) h6)), (Kept1.of h6)])))

theorem kept_execAuditRead {W : Span} {s0 : State} {x0 x1 x2 x3 x4} (w : Span.le ⟨0x0, 1441792⟩ W) (hx4 : Kept W s0
    x4) :
    KeptOut W s0 (execAuditRead x0 x1 x2 x3 x4) := by
  delta execAuditRead
  exact (KeptOut.of (kept_runCmd (w.sub rfl rfl) (fun _ h1 => (kept_cmdAuditRead (w.sub rfl rfl) h1)) hx4))

theorem kept_cmdOwnerCertSet {W : Span} {s0 : State} {x0 x1 x2 x3 x4} (w : Span.le
    ⟨0xc000000000000000000000000000000000000000000000000000000000000000000000000000000000000000000000000000000000000000000000000000000000000000000000000000000, 2105344⟩ W) (hx4 : Kept W s0 x4) :
    Kept1 W s0 (cmdOwnerCertSet x0 x1 x2 x3 x4) := by
  delta cmdOwnerCertSet
  exact (kept_refuseIf hx4 (fun _ h1 => (by
      extract_lets v2 v3
      exact (ite_of (P := Kept1 W s0) (kept_says (kept_copyLost (w.sub rfl rfl) h1)) (kept_oks (kept_saveImage (w.sub
        rfl rfl) (Kept.setHost h1 (fun i4 => (HostOk.set (((h1).hostOk i4)).mem)) (.inr rfl) (.inr ⟨rfl, rfl, rfl,
        rfl, rfl⟩) (.inr ⟨rfl, rfl⟩) (.inr ⟨rfl, rfl, rfl, rfl, rfl⟩) (.inl (w.part rfl)) (.inr rfl))))))))

theorem kept_execOwnerCertSet {W : Span} {s0 : State} {x0 x1 x2 x3 x4} (w : Span.le
    ⟨0xc000000000000000000000000000000000000000000000000000000000000000000000000000000000000000000000000000000000000000000000000000000000000000000000000000000, 3416064⟩ W) (hx4 : Kept W s0 x4) :
    KeptOut W s0 (execOwnerCertSet x0 x1 x2 x3 x4) := by
  delta execOwnerCertSet
  exact (KeptOut.of (kept_runCmd (w.sub rfl rfl) (fun _ h1 => (kept_cmdOwnerCertSet (w.sub rfl rfl) h1)) hx4))

theorem kept_cmdRoleGrant {W : Span} {s0 : State} {x0 x1 x2 x3 x4} (w : Span.le
    ⟨0xc000000000000000000000000000000000000000000000000000000000400000000000000000000000000000000000000000000000000000000000000000000000000000000000000000000, 8192⟩ W) (hx4 : Kept W s0 x4) :
    Kept1 W s0 (cmdRoleGrant x0 x1 x2 x3 x4) := by
  delta cmdRoleGrant
  exact (kept_refuseIf hx4 (fun _ h1 => (ite_of (P := Kept1 W s0) (kept_says (kept_copyLost (w.sub rfl rfl) h1))
    (kept_oks (kept_saveImage (w.sub rfl rfl) (kept_setSetting (w.sub rfl rfl) (w.fld rfl) h1))))))

theorem kept_execRoleGrant {W : Span} {s0 : State} {x0 x1 x2 x3 x4} (w : Span.le
    ⟨0xc000000000000000000000000000000000000000000000000000000000400000000000000000000000000000000000000000000000000000000000000000000000000000000000000000000, 1318912⟩ W) (hx4 : Kept W s0 x4) :
    KeptOut W s0 (execRoleGrant x0 x1 x2 x3 x4) := by
  delta execRoleGrant
  exact (KeptOut.of (kept_runCmd (w.sub rfl rfl) (fun _ h1 => (kept_cmdRoleGrant (w.sub rfl rfl) h1)) hx4))

theorem kept_execAuditPersist {W : Span} {s0 : State} {x0} (w : Span.le ⟨0x0, 1048576⟩ W) (hx0 : Kept W s0 x0) :
    KeptOut W s0 (execAuditPersist x0) := by
  delta execAuditPersist
  exact (KeptOut.of (kept_ite hx0 (kept_persistAudit (w.sub rfl rfl) hx0)))

theorem oformOk_formInts {W : Span} {x0 x1 x2 f} (h : ∀ {s0 : State} v s, Kept W s0 s → Kept1 W s0 (f v s)) :
    OFormOk W (formInts x0 x1 x2 f) :=
  oformOk_some fun _ _ hs => h _ _ hs

theorem oformOk_formTail {W : Span} {x0 x1 x2 f} (h : ∀ {s0 : State} v d s, Kept W s0 s → Kept1 W s0 (f v d s)) :
    OFormOk W (formTail x0 x1 x2 f) :=
  oformOk_some fun _ _ hs => h _ _ _ hs

theorem oformOk_form05 {W : Span} {x0 x1 x2} (w : Span.le
    ⟨0xf000fe000000000000000000e0000000000000000c5ffffffffffe00088410800003ffffffffffffffffc200000041fffffffffffffffffff80ffffffffffffffffffffffffffffffffffffffffff00, 2092475⟩ W) :
    OFormOk W (form05 x0 x1 x2) := by
  delta form05
  extract_lets v1
  exact (ite_of (P := OFormOk W) (oformOk_formInts (fun _ _ h2 => (kept_cmdPartCreate (w.sub rfl rfl) h2))) (ite_of
    (P := OFormOk W) (oformOk_formInts (fun _ _ h3 => (kept_cmdPartDestroy (w.sub rfl rfl) h3))) (ite_of (P :=
    OFormOk W) (oformOk_formInts (fun _ _ h4 => (kept_cmdPartBind (w.sub rfl rfl) h4))) (ite_of (P := OFormOk W)
    (oformOk_formInts (fun _ _ h5 => (kept_cmdPartRun (w.sub rfl rfl) h5))) (ite_of (P := OFormOk W)
    (oformOk_formInts (fun _ _ h6 => (kept_cmdPartStop (w.sub rfl rfl) h6))) (ite_of (P := OFormOk W)
    (oformOk_formInts (fun _ _ h7 => (kept_cmdPartHalt (w.sub rfl rfl) h7))) (ite_of (P := OFormOk W)
    (oformOk_formInts (fun _ _ h8 => (kept_cmdPartResume (w.sub rfl rfl) h8))) (ite_of (P := OFormOk W)
    (oformOk_formInts (fun _ _ h9 => (kept_cmdPartUnload (w.sub rfl rfl) h9))) oformOk_none))))))))

theorem oformOk_form06 {W : Span} {x0 x1 x2} (w : Span.le
    ⟨0xc00000000000000000000000000000000000000000000000000000000000000000000000000000000000000000000000000000ffe0000000000000000000000000000000000000000000000, 3170321⟩ W) :
    OFormOk W (form06 x0 x1 x2) := by
  delta form06
  extract_lets v1
  exact (ite_of (P := OFormOk W) (oformOk_formInts (fun _ _ h2 => (kept_cmdPartLoad (w.sub rfl rfl) h2))) (ite_of (P
    := OFormOk W) (oformOk_formTail (fun _ _ _ h3 => (kept_cmdImageKeySet (w.sub rfl rfl) (Kept2.st (kept_takeBit
    (w.sub rfl rfl) h3))))) (ite_of (P := OFormOk W) (oformOk_formInts (fun _ _ h4 => (kept_cmdImageKeyClear (w.sub
    rfl rfl) (Kept2.st (kept_takeBit (w.sub rfl rfl) h4))))) oformOk_none)))

theorem oformOk_form07 {W : Span} {x0 x1 x2} (w : Span.le
    ⟨0x880008028000000000580000180c200000041fa0000000000000000000000000001f0300800bf8000000000000000000000000,
    1982905⟩ W) :
    OFormOk W (form07 x0 x1 x2) := by
  delta form07
  extract_lets v1
  exact (ite_of (P := OFormOk W) (oformOk_formInts (fun _ _ h2 => (kept_cmdCaptureRequest (w.sub rfl rfl) h2)))
    (ite_of (P := OFormOk W) (oformOk_formInts (fun _ _ h3 => (kept_cmdCaptureRelease (w.sub rfl rfl) h3))) (ite_of
    (P := OFormOk W) (oformOk_formInts (fun _ _ h4 => (kept_cmdCaptureDramRead (w.sub rfl rfl) h4))) (ite_of (P :=
    OFormOk W) (oformOk_formInts (fun _ _ h5 => (kept_cmdStateRead (w.sub rfl rfl) h5))) (ite_of (P := OFormOk W)
    (oformOk_formInts (fun _ _ h6 => (kept_cmdStateDeposit (w.sub rfl rfl) (Kept.setFree h6 (w.part rfl)))))
    oformOk_none)))))

theorem oformOk_form08 {W : Span} {x0 x1 x2} (w : Span.le
    ⟨0x7f0000000000000000000000000000000000000000000000000000000000000000000000, 0⟩ W) :
    OFormOk W (form08 x0 x1 x2) := by
  delta form08
  extract_lets v1
  exact (ite_of (P := OFormOk W) (oformOk_formInts (fun _ _ h2 => (kept_cmdTraceBufAlloc (w.sub rfl rfl) h2)))
    (ite_of (P := OFormOk W) (oformOk_formInts (fun _ _ h3 => (kept_cmdTraceBufFree (w.sub rfl rfl) h3)))
    oformOk_none))

theorem oformOk_form09 {W : Span} {x0 x1 x2} (w : Span.le
    ⟨0x80000000000000000000000000000000000000000000000000000880008000000000000580c001c7c200000041800000000000000000000002140001f0300930000000000000000000000000000, 1663417⟩ W) :
    OFormOk W (form09 x0 x1 x2) := by
  delta form09
  extract_lets v1
  exact (ite_of (P := OFormOk W) (oformOk_formInts (fun _ _ h2 => (kept_cmdDdrThaw (w.sub rfl rfl) (Kept2.st
    (kept_takeBit (w.sub rfl rfl) h2))))) (ite_of (P := OFormOk W) (oformOk_formInts (fun _ _ h3 =>
    (kept_cmdDdrRetirePage (w.sub rfl rfl) h3))) (ite_of (P := OFormOk W) (oformOk_formInts (fun _ _ h4 =>
    (kept_cmdDdrMarkSet (w.sub rfl rfl) h4))) oformOk_none)))

theorem oformOk_form0B {W : Span} {x0 x1 x2 x3} (w : Span.le
    ⟨0xffffffffffffffffffffffffffffffffffffffffffffffffffffffffffffffffffffffffffffffffffffffffffffffffffffffffffffffffffffffffffffffffffffffffffffffffffffffffffffffffffffffffffffffffffffffffffffffffffffffffffffffffffffffffffffffffffffffffffffffffffffffffffffffff, 3866303⟩ W) :
    OFormOk W (form0B x0 x1 x2 x3) := by
  delta form0B
  extract_lets v1
  exact (ite_of (P := OFormOk W) (oformOk_formTail (fun _ _ _ h2 => (kept_cmdHostIdentify (w.sub rfl rfl) h2)))
    (ite_of (P := OFormOk W) (oformOk_map (fun _ h3 => (fun _ _ h4 => (h3 _ _ h4))) (oformOk_formInts (fun _ _ h5 =>
    (kept_cmdQueueAssign (w.sub rfl rfl) h5)))) (ite_of (P := OFormOk W) (oformOk_map (fun _ h6 => (fun _ _ h7 => (h6
    _ _ h7))) (oformOk_formInts (fun _ _ h8 => (kept_cmdQueueSetup (w.sub rfl rfl) h8)))) (ite_of (P := OFormOk W)
    (oformOk_formInts (fun _ _ h9 => (kept_cmdAuditRead (w.sub rfl rfl) h9))) (ite_of (P := OFormOk W)
    (oformOk_formTail (fun _ _ _ h10 => (kept_cmdOwnerCertSet (w.sub rfl rfl) (Kept2.st (kept_takeBit (w.sub rfl rfl)
    h10))))) (ite_of (P := OFormOk W) (oformOk_formInts (fun _ _ h11 => (kept_cmdRoleGrant (w.sub rfl rfl) (Kept2.st
    (kept_takeBit (w.sub rfl rfl) h11))))) (ite_of (P := OFormOk W) (oformOk_formInts (fun _ _ h12 =>
    (kept_cmdRegRead (w.sub rfl rfl) h12))) (ite_of (P := OFormOk W) (oformOk_formInts (fun _ _ h13 =>
    (kept_cmdRegWrite (w.sub rfl rfl) h13))) oformOk_none))))))))

theorem oformOk_form0C {W : Span} {x0 x1 x2} (w : Span.le
    ⟨0x80000000000000000000000000000000000007df806f100410000880008000000000000000000000000000000000000000000000000000000000000000000000000000000000000000000000000, 1614865⟩ W) :
    OFormOk W (form0C x0 x1 x2) := by
  delta form0C
  extract_lets v1
  exact (ite_of (P := OFormOk W) (oformOk_formInts (fun _ _ h2 => (kept_cmdWlStreamBind (w.sub rfl rfl) h2))) (ite_of
    (P := OFormOk W) (oformOk_formInts (fun _ _ h3 => (kept_cmdWlStreamUnbind (w.sub rfl rfl) h3))) (ite_of (P :=
    OFormOk W) (oformOk_formInts (fun _ _ h4 => (kept_cmdWlLaneCtl (w.sub rfl rfl) h4))) (ite_of (P := OFormOk W)
    (oformOk_formInts (fun _ _ h5 => (kept_cmdWlBank (w.sub rfl rfl) h5))) oformOk_none))))

theorem oformOk_form0E {W : Span} {x0 x1 x2} (w : Span.le ⟨0x0, 34817⟩ W) : OFormOk W (form0E x0 x1 x2) := by
  delta form0E
  extract_lets v1
  exact (ite_of (P := OFormOk W) (oformOk_formInts (fun _ _ h2 => (kept_cmdSpUartCfg (w.sub rfl rfl) h2))) (ite_of (P
    := OFormOk W) (oformOk_formTail (fun _ _ _ h3 => (kept_cmdSpUartSend (w.sub rfl rfl) h3))) (ite_of (P := OFormOk
    W) (oformOk_formInts (fun _ _ h4 => (kept_cmdSpUartRecv (w.sub rfl rfl) h4))) (ite_of (P := OFormOk W)
    (oformOk_formTail (fun _ _ _ h5 => (kept_cmdSpI2cXfer (w.sub rfl rfl) h5))) (ite_of (P := OFormOk W)
    (oformOk_formTail (fun _ _ _ h6 => (kept_cmdSpSpiXfer (w.sub rfl rfl) h6))) oformOk_none)))))

theorem oformOk_form10 {W : Span} {x0 x1 x2} (w : Span.le
    ⟨0xffffffffffffffffffffffffffffffffffffffffffffffffffffffffffffffffffffffffffffffffffffffffffffffffffffffffffffffffffffffffffffffffffffffffffffffffffffffffffffffffffffffffffffffffffffffffffffffffffffffffffffffffffffffffffffffffffffffffffffffffffffffffffffffff, 4194303⟩ W) :
    OFormOk W (form10 x0 x1 x2) := by
  delta form10
  extract_lets v1
  exact (ite_of (P := OFormOk W) (oformOk_formInts (fun _ _ h2 => (kept_cmdModPower (w.sub rfl rfl) h2))) (ite_of (P
    := OFormOk W) (oformOk_formInts (fun _ _ h3 => (kept_cmdModReset (w.sub rfl rfl) h3))) (ite_of (P := OFormOk W)
    (oformOk_formInts (fun _ _ h4 => (kept_cmdSettingsSave (w.sub rfl rfl) (Kept2.st (kept_takeBit (w.sub rfl rfl)
    h4))))) (ite_of (P := OFormOk W) (oformOk_formInts (fun _ _ h5 => (kept_cmdSettingsErase (w.sub rfl rfl)
    (Kept2.st (kept_takeBit (w.sub rfl rfl) h5))))) (ite_of (P := OFormOk W) (oformOk_formInts (fun _ _ h6 =>
    (kept_cmdSettingsRead (w.sub rfl rfl) h6))) (ite_of (P := OFormOk W) (oformOk_formTail (fun _ _ _ h7 =>
    (kept_cmdFwStage (w.sub rfl rfl) (Kept2.st (kept_takeBit (w.sub rfl rfl) h7))))) (ite_of (P := OFormOk W)
    (oformOk_formInts (fun _ _ h8 => (kept_cmdFwActivate (w.sub rfl rfl) (Kept2.st (kept_takeBit (w.sub rfl rfl)
    h8))))) (ite_of (P := OFormOk W) (oformOk_formInts (fun _ _ h9 => (kept_cmdFwConfirm (w.sub rfl rfl) (Kept2.st
    (kept_takeBit (w.sub rfl rfl) h9))))) oformOk_none))))))))

theorem oformOk_form11 {W : Span} {x0 x1 x2} (w : Span.le
    ⟨0x608fe000800000000000000000000000000000000007ffffffffe00088000800003ffffffffffffffffc200000040000000000000000000000000000001f0300800ffffe0001fc0003f80ffff80320, 1697211⟩ W) :
    OFormOk W (form11 x0 x1 x2) := by
  delta form11
  extract_lets v1
  exact (ite_of (P := OFormOk W) (oformOk_formInts (fun _ _ h2 => (kept_cmdSvcMaint (w.sub rfl rfl) h2))) (ite_of (P
    := OFormOk W) (oformOk_formInts (fun _ _ h3 => (kept_cmdSvcSelftest (w.sub rfl rfl) (Kept.setFree h3 (w.part
    rfl))))) (ite_of (P := OFormOk W) (oformOk_formInts (fun _ _ h4 => (kept_cmdTemperReplan (w.sub rfl rfl) h4)))
    (ite_of (P := OFormOk W) (oformOk_formInts (fun _ _ h5 => (kept_cmdBilletInsert (w.sub rfl rfl) h5)))
    oformOk_none))))

theorem oformOk_formOf {W : Span} {x0 x1 x2 x3} (w : Span.le
    ⟨0xffffffffffffffffffffffffffffffffffffffffffffffffffffffffffffffffffffffffffffffffffffffffffffffffffffffffffffffffffffffffffffffffffffffffffffffffffffffffffffffffffffffffffffffffffffffffffffffffffffffffffffffffffffffffffffffffffffffffffffffffffffffffffffffff, 4194303⟩ W) :
    OFormOk W (State.formOf x0 x1 x2 x3) := by
  delta State.formOf
  extract_lets v1
  exact (ite_of (P := OFormOk W) (oformOk_form05 (w.sub rfl rfl)) (ite_of (P := OFormOk W) (oformOk_form06 (w.sub rfl
    rfl)) (ite_of (P := OFormOk W) (oformOk_form07 (w.sub rfl rfl)) (ite_of (P := OFormOk W) (oformOk_form08 (w.sub
    rfl rfl)) (ite_of (P := OFormOk W) (oformOk_form09 (w.sub rfl rfl)) (ite_of (P := OFormOk W) (oformOk_form0B
    (w.sub rfl rfl)) (ite_of (P := OFormOk W) (oformOk_form0C (w.sub rfl rfl)) (ite_of (P := OFormOk W)
    (oformOk_formInts (fun _ _ h2 => (kept_cmdTimeStep (w.sub rfl rfl) h2))) (ite_of (P := OFormOk W) (oformOk_form0E
    (w.sub rfl rfl)) (ite_of (P := OFormOk W) (oformOk_form10 (w.sub rfl rfl)) (ite_of (P := OFormOk W)
    (oformOk_form11 (w.sub rfl rfl)) oformOk_none)))))))))))

theorem kept_effect {W : Span} {s0 : State} {x0 x1 x2 x3} (w : Span.le
    ⟨0xffffffffffffffffffffffffffffffffffffffffffffffffffffffffffffffffffffffffffffffffffffffffffffffffffffffffffffffffffffffffffffffffffffffffffffffffffffffffffffffffffffffffffffffffffffffffffffffffffffffffffffffffffffffffffffffffffffffffffffffffffffffffffffffff, 4194303⟩ W) (hx0 : Kept W s0 x0) :
    Kept1 W s0 (State.effect x0 x1 x2 x3) := by
  delta State.effect
  exact (ite_of (P := Kept1 W s0) (kept_says hx0) (ofrm_of (P := Kept1 W s0) (oformOk_formOf (w.sub rfl rfl))
    (kept_says hx0) (fun _ h1 => (h1 _ _ hx0))))

theorem kept_startRecord {W : Span} {s0 : State} {x0 x1 x2 x3} (w : Span.le
    ⟨0xffffffffffffffffffffffffffffffffffffffffffffffffffffffffffffffffffffffffffffffffffffffffffffffffffffffffffffffffffffffffffffffffffffffffffffffffffffffffffffffffffffffffffffffffffffffffffffffffffffffffffffffffffffffffffffffffffffffffffffffffffffffffffffffff, 4194303⟩ W) (hx0 : Kept W s0 x0) :
    Kept1 W s0 (State.startRecord x0 x1 x2 x3) := by
  delta State.startRecord
  extract_lets v1 v2 v3 v5
  have h4 : OFormOk W v3 := (oformOk_formOf (w.sub rfl rfl))
  have h6 : Kept W s0 v5 := (kept_begin (w.sub rfl rfl) hx0)
  exact (ite_of (P := Kept1 W s0) (kept_says h6) (ofrm_of (P := Kept1 W s0) h4 (kept_says h6) (fun _ h7 => (ite_of (P
    := Kept1 W s0) (h7 _ _ h6) (kept_says h6)))))

end Sys2Proof.Machine
end

