-- ==== Sys2Proof/Laws/KeptHostIf.lean ====
section
/-! SUPPORT. What the operations of Machine/HostIf.lean keep (see Laws/Kept.lean). -/

namespace Sys2Proof.Machine

theorem kept_post {W : Span} {s0 : State} {x0 x1 x2} (w : Span.le ⟨0x0, 262144⟩ W) (hx0 : Kept W s0 x0) :
    Kept W s0 (State.post x0 x1 x2) := by
  delta State.post
  exact (Kept.setHost hx0 (fun i1 => (by
      extract_lets v2
      have h3 : HostOk v2 := ((hx0).hostOk i1)
      exact (HostOk.set (h3).mem)))
    (.inr rfl) (.inl (w.part rfl)) (.inr ⟨rfl, rfl⟩) (.inr ⟨rfl, rfl, rfl, rfl, rfl⟩) (.inr ⟨rfl, rfl⟩) (.inr rfl))

theorem kept_mboxProto {W : Span} {s0 : State} {x0 x1 x2} (w : Span.le
    ⟨0x100000000000000000000000000000000000000000000000000000000000000000000000000000000000000000000, 0⟩ W) (hx0 :
    Kept W s0 x0) :
    Kept W s0 (State.mboxProto x0 x1 x2) := by
  delta State.mboxProto
  exact (kept_setReg (w.fld rfl) hx0)

theorem kept_mboxRequest {W : Span} {s0 : State} {x0 x1 x2 x3} (w : Span.le
    ⟨0x100000000000000000000000000000000000000000000000000000000000000000000000000000000000000000000, 64⟩ W) (hx0 :
    Kept W s0 x0) :
    Kept W s0 (State.mboxRequest x0 x1 x2 x3) := by
  delta State.mboxRequest
  exact (kept_ite (kept_modBox (w.sub rfl rfl) hx0) (kept_mboxProto (w.sub rfl rfl) hx0))

theorem kept_mboxGo {W : Span} {s0 : State} {x0 x1 x2} (w : Span.le
    ⟨0x300000000000000000000000000000000000000000000000000000000000000000000000000000000000000000000, 262144⟩ W) (hx0
    : Kept W s0 x0) :
    Kept W s0 (State.mboxGo x0 x1 x2) := by
  delta State.mboxGo
  refine kept_ite ?_ ?_
  · exact (by extract_lets v1; exact (kept_post (w.sub rfl rfl) (kept_setReg (w.fld rfl) hx0)))
  · exact (kept_mboxProto (w.sub rfl rfl) hx0)

theorem kept_mboxAck {W : Span} {s0 : State} {x0 x1 x2} (w : Span.le
    ⟨0x300000000000000000000000000000000000000000000000000000000000000000000000000000000000000000000, 0⟩ W) (hx0 :
    Kept W s0 x0) :
    Kept W s0 (State.mboxAck x0 x1 x2) := by
  delta State.mboxAck
  exact (kept_ite (kept_setReg (w.fld rfl) hx0) (kept_mboxProto (w.sub rfl rfl) hx0))

theorem kept_execMboxGo {W : Span} {s0 : State} {x0 x1 x2 x3} (w : Span.le
    ⟨0x300000000000000000000000000000000000000000000000000000000000000000000000000000000000000000000, 262208⟩ W) (hx3
    : Kept W s0 x3) :
    KeptOut W s0 (execMboxGo x0 x1 x2 x3) := by
  delta execMboxGo
  exact (KeptOut.of (kept_ite (kept_mboxGo (w.sub rfl rfl) (kept_mboxRequest (w.sub rfl rfl) hx3)) hx3))

theorem kept_execMboxAck {W : Span} {s0 : State} {x0 x1 x2} (w : Span.le
    ⟨0x300000000000000000000000000000000000000000000000000000000000000000000000000000000000000000000, 0⟩ W) (hx2 :
    Kept W s0 x2) :
    KeptOut W s0 (execMboxAck x0 x1 x2) := by
  delta execMboxAck
  exact (KeptOut.of (kept_ite (kept_mboxAck (w.sub rfl rfl) hx2) hx2))

theorem kept_sessionOpen {W : Span} {s0 : State} {x0 x1} (w : Span.le ⟨0x0, 1310724⟩ W) (hx0 : Kept W s0 x0) :
    Kept W s0 (State.sessionOpen x0 x1) := by
  delta State.sessionOpen
  refine kept_ite ?_ ?_
  · split
    · extract_lets v1 v3
      have h2 : Kept W s0 v1 := (kept_dropLatches (w.sub rfl rfl) hx0)
      exact (Kept.setHost h2 (fun i4 => (HostOk.set (((h2).hostOk i4)).mem)) (.inr rfl) (.inl (w.part rfl)) (.inr
        ⟨rfl, rfl⟩) (.inr ⟨rfl, rfl, rfl, rfl, rfl⟩) (.inr ⟨rfl, rfl⟩) (.inr rfl))
    · exact hx0
  · exact (kept_audit (w.sub rfl rfl) hx0)

theorem kept_execMgmtSessionOpen {W : Span} {s0 : State} {x0 x1} (w : Span.le ⟨0x0, 1310724⟩ W) (hx1 : Kept W s0 x1) :
    KeptOut W s0 (execMgmtSessionOpen x0 x1) := by
  delta execMgmtSessionOpen
  exact (KeptOut.of (kept_ite hx1 (kept_sessionOpen (w.sub rfl rfl) hx1)))

theorem kept_sessionClose {W : Span} {s0 : State} {x0 x1} (w : Span.le ⟨0x0, 262148⟩ W) (hx0 : Kept W s0 x0) :
    Kept W s0 (State.sessionClose x0 x1) := by
  delta State.sessionClose
  split
  · exact hx0
  · extract_lets v1 v2 v4
    have h3 : Kept W s0 v2 := (kept_dropLatches (w.sub rfl rfl) hx0)
    exact (Kept.setHost h3 (fun i5 => (HostOk.set (((h3).hostOk i5)).mem)) (.inr rfl) (.inl (w.part rfl)) (.inr ⟨rfl,
      rfl⟩) (.inr ⟨rfl, rfl, rfl, rfl, rfl⟩) (.inr ⟨rfl, rfl⟩) (.inr rfl))

theorem kept_execMgmtSessionClose {W : Span} {s0 : State} {x0 x1} (w : Span.le ⟨0x0, 262148⟩ W) (hx1 : Kept W s0 x1) :
    KeptOut W s0 (execMgmtSessionClose x0 x1) := by
  delta execMgmtSessionClose
  exact (KeptOut.of (kept_sessionClose (w.sub rfl rfl) hx1))

theorem kept_mgmtMessage {W : Span} {s0 : State} {x0 x1 x2} (w : Span.le ⟨0x0, 262144⟩ W) (hx0 : Kept W s0 x0) :
    Kept W s0 (State.mgmtMessage x0 x1 x2) := by
  delta State.mgmtMessage
  split
  · exact hx0
  · refine kept_ite ?_ ?_
    · exact hx0
    · extract_lets v1 v2
      exact (kept_post (w.sub rfl rfl) (Kept.setHost hx0 (fun i3 => (HostOk.set (((hx0).hostOk i3)).mem)) (.inr rfl)
        (.inl (w.part rfl)) (.inr ⟨rfl, rfl⟩) (.inr ⟨rfl, rfl, rfl, rfl, rfl⟩) (.inr ⟨rfl, rfl⟩) (.inr rfl)))

theorem kept_execMgmtMessage {W : Span} {s0 : State} {x0 x1 x2} (w : Span.le ⟨0x0, 262144⟩ W) (hx2 : Kept W s0 x2) :
    KeptOut W s0 (execMgmtMessage x0 x1 x2) := by
  delta execMgmtMessage
  exact (KeptOut.of (kept_ite hx2 (kept_mgmtMessage (w.sub rfl rfl) hx2)))

theorem kept_uartFrame {W : Span} {s0 : State} {x0 x1 x2} (w : Span.le ⟨0x0, 262144⟩ W) (hx0 : Kept W s0 x0) :
    Kept W s0 (State.uartFrame x0 x1 x2) := by
  delta State.uartFrame
  refine kept_ite ?_ ?_
  · exact (kept_post (w.sub rfl rfl) (Kept.setHost hx0 (fun i1 => (by
        extract_lets v2
        have h3 : HostOk v2 := ((hx0).hostOk i1)
        exact (HostOk.set (h3).mem)))
      (.inr rfl) (.inl (w.part rfl)) (.inr ⟨rfl, rfl⟩) (.inr ⟨rfl, rfl, rfl, rfl, rfl⟩) (.inr ⟨rfl, rfl⟩) (.inr rfl)))
  · exact hx0

theorem kept_execUartFrame {W : Span} {s0 : State} {x0 x1 x2} (w : Span.le ⟨0x0, 262144⟩ W) (hx2 : Kept W s0 x2) :
    KeptOut W s0 (execUartFrame x0 x1 x2) := by
  delta execUartFrame
  exact (KeptOut.of (kept_ite hx2 (kept_uartFrame (w.sub rfl rfl) hx2)))

theorem kept_respondTo {W : Span} {s0 : State} {x0 x1} (w : Span.le
    ⟨0x200000000000000000000000000000000000000000000000000000000000000000000000000000000000000000000, 819264⟩ W) (hx0
    : Kept W s0 x0) :
    Kept W s0 (State.respondTo x0 x1) := by
  delta State.respondTo
  exact (by split; exacts [(kept_respond (w.sub rfl rfl) hx0), hx0])

theorem kept_settle {W : Span} {s0 : State} {x0 x1} (w : Span.le
    ⟨0x200000000000000000000000000000000000000000000000000000000000000000000000000000000000000000000, 1867840⟩ W)
    (hx1 : Kept1 W s0 x1) :
    Kept W s0 (State.settle x0 x1) := by
  delta State.settle
  split
  · exact (kept_respondTo (w.sub rfl rfl) (Kept1.st hx1))
  · exact (kept_respondTo (w.sub rfl rfl) (kept_answer (w.sub rfl rfl) (Kept1.st hx1)))

theorem kept_unpost {W : Span} {s0 : State} {x0 x1} (w : Span.le
    ⟨0x200000000000000000000000000000000000000000000000000000000000000000000000000000000000000000000, 262144⟩ W) (hx0
    : Kept W s0 x0) :
    Kept W s0 (State.unpost x0 x1) := by
  delta State.unpost
  extract_lets v1 v2
  have h4 : Kept W s0 v2 := (Kept.setHost hx0 (fun i3 => (HostOk.set (((hx0).hostOk i3)).mem)) (.inr rfl) (.inl
    (w.part rfl)) (.inr ⟨rfl, rfl⟩) (.inr ⟨rfl, rfl, rfl, rfl, rfl⟩) (.inr ⟨rfl, rfl⟩) (.inr rfl))
  exact (by split; exacts [(kept_ite (kept_setReg (w.fld rfl) h4) h4), h4])

theorem kept_commandStart {W : Span} {s0 : State} {x0} (w : Span.le
    ⟨0xffffffffffffffffffffffffffffffffffffffffffffffffffffffffffffffffffffffffffffffffffffffffffffffffffffffffffffffffffffffffffffffffffffffffffffffffffffffffffffffffffffffffffffffffffffffffffffffffffffffffffffffffffffffffffffffffffffffffffffffffffffffffffffffff, 4194303⟩ W) (hx0 : Kept W s0 x0) :
    Kept W s0 (State.commandStart x0) := by
  delta State.commandStart
  split
  exacts [hx0, (kept_settle (w.sub rfl rfl) (kept_startRecord (w.sub rfl rfl) (kept_unpost (w.sub rfl rfl) hx0)))]

theorem kept_execCommandStart {W : Span} {s0 : State} {x0} (w : Span.le
    ⟨0xffffffffffffffffffffffffffffffffffffffffffffffffffffffffffffffffffffffffffffffffffffffffffffffffffffffffffffffffffffffffffffffffffffffffffffffffffffffffffffffffffffffffffffffffffffffffffffffffffffffffffffffffffffffffffffffffffffffffffffffffffffffffffffffff, 4194303⟩ W) (hx0 : Kept W s0 x0) :
    KeptOut W s0 (execCommandStart x0) := by
  delta execCommandStart
  exact (KeptOut.of (kept_commandStart (w.sub rfl rfl) hx0))

theorem kept_commandCompletion {W : Span} {s0 : State} {x0 x1} (w : Span.le
    ⟨0xffffffffffffffffffffffffffffffffffffffffffffffffffffffffffffffffffffffffffffffffffffffffffffffffffffffffffffffffffffffffffffffffffffffffffffffffffffffffffffffffffffffffffffffffffffffffffffffffffffffffffffffffffffffffffffffffffffffffffffffffffffffffffffffff, 4194303⟩ W) (hx0 : Kept W s0 x0) :
    Kept W s0 (State.commandCompletion x0 x1) := by
  delta State.commandCompletion
  split
  · exact hx0
  · refine kept_ite ?_ ?_
    · exact (kept_respond (w.sub rfl rfl) hx0)
    · split
      · exact (kept_ite (kept_respondTo (w.sub rfl rfl) (kept_dmaSettle (w.sub rfl rfl) hx0)) hx0)
      · exact (kept_ite hx0 (kept_settle (w.sub rfl rfl) (kept_effect (w.sub rfl rfl) hx0)))

theorem kept_execCommandCompletion {W : Span} {s0 : State} {x0 x1} (w : Span.le
    ⟨0xffffffffffffffffffffffffffffffffffffffffffffffffffffffffffffffffffffffffffffffffffffffffffffffffffffffffffffffffffffffffffffffffffffffffffffffffffffffffffffffffffffffffffffffffffffffffffffffffffffffffffffffffffffffffffffffffffffffffffffffffffffffffffffffff, 4194303⟩ W) (hx1 : Kept W s0 x1) :
    KeptOut W s0 (execCommandCompletion x0 x1) := by
  delta execCommandCompletion
  exact (KeptOut.of (kept_ite hx1 (kept_commandCompletion (w.sub rfl rfl) hx1)))

theorem kept_queueDmaFail {W : Span} {s0 : State} {x0 x1} (w : Span.le
    ⟨0x44000200000000000000000000000000000000000000000000000000000000000000000000000000000000000000000000000, 524288⟩
    W) (hx0 : Kept W s0 x0) :
    Kept W s0 (State.queueDmaFail x0 x1) := by
  delta State.queueDmaFail
  refine kept_ite ?_ ?_
  · extract_lets v1
    have h2 : Kept W s0 v1 := (kept_rescan (w.sub rfl rfl) (kept_setReg (w.fld rfl) (kept_setReg (w.fld rfl) hx0)))
    exact (by split; exacts [(kept_setReg (w.fld rfl) h2), h2])
  · exact hx0

theorem kept_dmaErrOf {W : Span} {s0 : State} {x0 x1} (w : Span.le
    ⟨0x200000000000000000000000000000000000000000000000000000000000000000000000000000000000000000000000, 0⟩ W) (hx0 :
    Kept W s0 x0) :
    Kept W s0 (State.dmaErrOf x0 x1) := by
  delta State.dmaErrOf
  exact (by split; exacts [(kept_setReg (w.fld rfl) hx0), hx0])

theorem kept_commandDmaFail {W : Span} {s0 : State} {x0 x1} (w : Span.le
    ⟨0xffffffffffffffffffffffffffffffffffffffffffffffffffffffffffffffffffffffffffffffffffffffffffffffffffffffffffffffffffffffffffffffffffffffffffffffffffffffffffffffffffffffffffffffffffffffffffffffffffffffffffffffffffffffffffffffffffffffffffffffffffffffffffffffff, 4194303⟩ W) (hx0 : Kept W s0 x0) :
    Kept W s0 (State.commandDmaFail x0 x1) := by
  delta State.commandDmaFail
  split
  · exact (by split; exacts [(kept_loadDma (w.sub rfl rfl) hx0), hx0])
  · refine kept_ite ?_ ?_
    · exact (kept_dmaErrOf (w.sub rfl rfl) (kept_dramForget (w.sub rfl rfl) (kept_done (w.sub rfl rfl) hx0)))
    · split
      · exact hx0
      · refine kept_ite ?_ ?_
        · extract_lets v1 v3 v4
          have h2 : Kept W s0 v1 := (kept_unpost (w.sub rfl rfl) hx0)
          have h5 : Kept1 W s0 v4 := (kept_startRecord (w.sub rfl rfl) h2)
          split
          · exact (kept_ite (kept_respondTo (w.sub rfl rfl) (kept_dmaErrOf (w.sub rfl rfl) (kept_done (w.sub rfl rfl)
              (kept_begin (w.sub rfl rfl) h2)))) (kept_settle (w.sub rfl rfl) h5))
          · exact (kept_settle (w.sub rfl rfl) h5)
        · exact hx0

theorem kept_linkEvent {W : Span} {s0 : State} {x0 x1} (w : Span.le ⟨0x0, 32768⟩ W) (hx0 : Kept W s0 x0) :
    Kept W s0 (State.linkEvent x0 x1) := by
  delta State.linkEvent
  exact (kept_emit (w.sub rfl rfl) hx0)

theorem kept_ecrcError {W : Span} {s0 : State} {x0 x1} (w : Span.le
    ⟨0x100000000000000000000000000000000000000000000000000000000000000000000000000000000000000000000000, 32768⟩ W)
    (hx0 : Kept W s0 x0) :
    Kept W s0 (State.ecrcError x0 x1) := by
  delta State.ecrcError
  exact (by split; exacts [(kept_linkEvent (w.sub rfl rfl) (kept_setReg (w.fld rfl) hx0)), hx0])

theorem kept_execHostDmaFailure {W : Span} {s0 : State} {x0 x1 x2 x3} (w : Span.le
    ⟨0xffffffffffffffffffffffffffffffffffffffffffffffffffffffffffffffffffffffffffffffffffffffffffffffffffffffffffffffffffffffffffffffffffffffffffffffffffffffffffffffffffffffffffffffffffffffffffffffffffffffffffffffffffffffffffffffffffffffffffffffffffffffffffffffff, 4194303⟩ W) (hx3 : Kept W s0 x3) :
    KeptOut W s0 (execHostDmaFailure x0 x1 x2 x3) := by
  delta execHostDmaFailure
  exact (KeptOut.of (kept_ite hx3 (by
      split
      · exact (kept_queueDmaFail (w.sub rfl rfl) (kept_ite (kept_ecrcError (w.sub rfl rfl) hx3) hx3))
      · exact (kept_commandDmaFail (w.sub rfl rfl) (kept_ite (kept_ecrcError (w.sub rfl rfl) hx3) hx3)))))

theorem kept_portReset {W : Span} {s0 : State} {x0 x1} (w : Span.le
    ⟨0x4100000200000000000000000000000000000000000000000000000000000000000000000000000000000000000000000000, 786432⟩
    W) (hx0 : Kept W s0 x0) :
    Kept W s0 (State.portReset x0 x1) := by
  delta State.portReset
  extract_lets v1 v4 v5 v6
  have h3 : Kept W s0 v1 := (kept_foldl (fun _ _ h2 => (kept_queueDown (w.sub rfl rfl) h2)) hx0)
  have h8 : Kept W s0 v6 := (Kept.setHost h3 (fun i7 => (HostOk.set (((h3).hostOk i7)).mem)) (.inr rfl) (.inl (w.part
    rfl)) (.inr ⟨rfl, rfl⟩) (.inr ⟨rfl, rfl, rfl, rfl, rfl⟩) (.inr ⟨rfl, rfl⟩) (.inr rfl))
  exact (kept_foldl (fun _ _ h9 => (kept_ite (kept_setReg (w.fld rfl) h9) (kept_modQueue (w.sub rfl rfl) h9))) h8)

theorem kept_linkFields {W : Span} {s0 : State} {x0 x1 x2 x3 x4} (w : Span.le
    ⟨0x3800000000000000000000000000000000000000000000000000000000000000000000000000000000000000000000, 0⟩ W) (hx0 :
    Kept W s0 x0) :
    Kept W s0 (State.linkFields x0 x1 x2 x3 x4) := by
  delta State.linkFields
  exact (kept_setReg (w.fld rfl) (kept_setReg (w.fld rfl) (kept_setReg (w.fld rfl) hx0)))

theorem kept_execHostPortReset {W : Span} {s0 : State} {x0 x1 x2} (w : Span.le
    ⟨0x4100c03a00000000000000000000000000000000000000000000000000000000000000000000000000000000000000000000, 819200⟩
    W) (hx2 : Kept W s0 x2) :
    KeptOut W s0 (execHostPortReset x0 x1 x2) := by
  delta execHostPortReset
  exact (KeptOut.of (kept_ite hx2 (by
      split
      · exact (kept_linkEvent (w.sub rfl rfl) (kept_linkFields (w.sub rfl rfl) (kept_setReg (w.fld rfl)
          (kept_portReset (w.sub rfl rfl) hx2))))
      · exact (kept_setReg (w.fld rfl) (kept_portReset (w.sub rfl rfl) hx2)))))

theorem kept_execHostLinkUp {W : Span} {s0 : State} {x0 x1 x2 x3} (w : Span.le
    ⟨0x3800000000000000000000000000000000000000000000000000000000000000000000000000000000000000000000, 32768⟩ W) (hx3
    : Kept W s0 x3) :
    KeptOut W s0 (execHostLinkUp x0 x1 x2 x3) := by
  delta execHostLinkUp
  exact (KeptOut.of (kept_ite hx3 (kept_linkEvent (w.sub rfl rfl) (kept_linkFields (w.sub rfl rfl) hx3))))

theorem kept_writeBar2 {W : Span} {s0 : State} {x0 x1 x2 x3} (w : Span.le
    ⟨0xa980090003000000000000000000000000000000000000000000000000000000001f0300800000000000000000000000000000,
    1851472⟩ W) (hx0 : Kept W s0 x0) :
    Kept W s0 (State.writeBar2 x0 x1 x2 x3) := by
  delta State.writeBar2
  extract_lets v1 v2 v3 v4
  have h5 : Kept W s0 v4 := (kept_ite (kept_mboxAck (w.sub rfl rfl) hx0) hx0)
  exact (kept_ite (kept_ite (kept_mboxRequest (w.sub rfl rfl) hx0) (kept_ite (kept_ite (kept_ite (kept_mboxGo (w.sub
    rfl rfl) h5) (kept_mboxProto (w.sub rfl rfl) h5)) h5) (kept_ite (kept_setReg (w.fld rfl) hx0) hx0))) (kept_ite
    (kept_ite (kept_abort (w.sub rfl rfl) hx0) hx0) (kept_ite (kept_doorbell (w.sub rfl rfl) hx0) hx0)))

theorem kept_writeAt {W : Span} {s0 : State} {x0 x1 x2 x3} (w : Span.le
    ⟨0xffffffffffffffffffffffffffffffffffffffffffffffffffffffffffffffffffffffffffffffffffffffffffffffffffffffffffffffffffffffffffffffffffffffffffffffffffffffffffffffffffffffffffffffffffffffffffffffffffffffffffffffffffffffffffffffffffffffffffffffffffffffffffffffff, 1900283⟩ W) (hx0 : Kept W s0 x0) :
    Kept W s0 (State.writeAt x0 x1 x2 x3) := by
  delta State.writeAt
  refine kept_ite ?_ ?_
  · exact (kept_writeWord (w.sub rfl rfl) hx0)
  · exact (by split; exacts [(kept_ite hx0 (kept_writeBar2 (w.sub rfl rfl) hx0)), hx0])

theorem kept_registerWrite {W : Span} {s0 : State} {x0 x1 x2 x3 x4} (w : Span.le
    ⟨0xffffffffffffffffffffffffffffffffffffffffffffffffffffffffffffffffffffffffffffffffffffffffffffffffffffffffffffffffffffffffffffffffffffffffffffffffffffffffffffffffffffffffffffffffffffffffffffffffffffffffffffffffffffffffffffffffffffffffffffffffffffffffffffffff, 1900283⟩ W) (hx0 : Kept W s0 x0) :
    Kept W s0 (State.registerWrite x0 x1 x2 x3 x4) := by
  delta State.registerWrite
  refine kept_ite ?_ ?_
  · exact hx0
  · refine kept_ite ?_ ?_
    · exact (kept_misaligned (w.sub rfl rfl) hx0)
    · extract_lets v1
      have h2 : Kept W s0 v1 := (kept_writeAt (w.sub rfl rfl) hx0)
      exact (kept_ite (kept_writeAt (w.sub rfl rfl) h2) h2)

theorem kept_execRegisterWrite {W : Span} {s0 : State} {x0 x1 x2 x3 x4} (w : Span.le
    ⟨0xffffffffffffffffffffffffffffffffffffffffffffffffffffffffffffffffffffffffffffffffffffffffffffffffffffffffffffffffffffffffffffffffffffffffffffffffffffffffffffffffffffffffffffffffffffffffffffffffffffffffffffffffffffffffffffffffffffffffffffffffffffffffffffffff, 1900283⟩ W) (hx4 : Kept W s0 x4) :
    KeptOut W s0 (execRegisterWrite x0 x1 x2 x3 x4) := by
  delta execRegisterWrite
  exact (KeptOut.of (kept_registerWrite (w.sub rfl rfl) hx4))

theorem kept_readAt {W : Span} {s0 : State} {x0 x1 x2} (w : Span.le
    ⟨0xffffffffffffffffffffffffffffffffffffffffffffffffffffffffffffffffffffffffffffffffffffffffffffffffffffffffffffffffffffffffffffffffffffffffffffffffffffffffffffffffffffffffffffffffffffffffffffffffffffffffffffffffffffffffffffffffffffffffffffffffffffffffffffffff, 5⟩ W) (hx0 : Kept W s0 x0) :
    Kept2 W s0 (State.readAt x0 x1 x2) := by
  delta State.readAt
  refine ite_of (P := Kept2 W s0) ?_ ?_
  · exact (kept_readWord (w.sub rfl rfl) hx0)
  · exact (by split; exacts [(Kept2.of hx0), (Kept2.of hx0)])

theorem kept_registerRead {W : Span} {s0 : State} {x0 x1 x2 x3} (w : Span.le
    ⟨0xffffffffffffffffffffffffffffffffffffffffffffffffffffffffffffffffffffffffffffffffffffffffffffffffffffffffffffffffffffffffffffffffffffffffffffffffffffffffffffffffffffffffffffffffffffffffffffffffffffffffffffffffffffffffffffffffffffffffffffffffffffffffffffffff, 32773⟩ W) (hx0 : Kept W s0 x0) :
    Kept W s0 (State.registerRead x0 x1 x2 x3) := by
  delta State.registerRead
  refine kept_ite ?_ ?_
  · exact hx0
  · refine kept_ite ?_ ?_
    · exact (kept_emit (w.sub rfl rfl) (kept_misaligned (w.sub rfl rfl) hx0))
    · extract_lets v1 v3
      have h2 : Kept2 W s0 v1 := (kept_readAt (w.sub rfl rfl) hx0)
      have h4 : Kept2 W s0 v3 := (kept_readAt (w.sub rfl rfl) (Kept2.st h2))
      exact (kept_ite (kept_emit (w.sub rfl rfl) (Kept2.st h4)) (kept_emit (w.sub rfl rfl) (Kept2.st h2)))

theorem kept_execRcFieldRead {W : Span} {s0 : State} {x0 x1 x2 x3} (w : Span.le
    ⟨0xffffffffffffffffffffffffffffffffffffffffffffffffffffffffffffffffffffffffffffffffffffffffffffffffffffffffffffffffffffffffffffffffffffffffffffffffffffffffffffffffffffffffffffffffffffffffffffffffffffffffffffffffffffffffffffffffffffffffffffffffffffffffffffffff, 32773⟩ W) (hx3 : Kept W s0 x3) :
    KeptOut W s0 (execRcFieldRead x0 x1 x2 x3) := by
  delta execRcFieldRead
  exact (KeptOut.of (kept_registerRead (w.sub rfl rfl) hx3))

theorem kept_execLoWordRead {W : Span} {s0 : State} {x0 x1 x2 x3} (w : Span.le
    ⟨0xffffffffffffffffffffffffffffffffffffffffffffffffffffffffffffffffffffffffffffffffffffffffffffffffffffffffffffffffffffffffffffffffffffffffffffffffffffffffffffffffffffffffffffffffffffffffffffffffffffffffffffffffffffffffffffffffffffffffffffffffffffffffffffffff, 32773⟩ W) (hx3 : Kept W s0 x3) :
    KeptOut W s0 (execLoWordRead x0 x1 x2 x3) := by
  delta execLoWordRead
  exact (KeptOut.of (kept_registerRead (w.sub rfl rfl) hx3))

end Sys2Proof.Machine
end

