-- ==== Sys2Proof/Laws/NocPkt.lean ====
section
/-! SUPPORT. The header flit of a packet: what a sealed header holds, that its check agrees, and that a route depends on the
destination and the epoch alone. -/

namespace Sys2Proof.Machine

/-- A CRC of `w` bits is a number of `w` bits. -/
theorem crcOf_lt (w poly start : Nat) (bs : List Bool) (hp : poly < 2 ^ w) : crcOf w poly start bs < 2 ^ w := by
  unfold crcOf
  have h0 : start % 2 ^ w < 2 ^ w := Nat.mod_lt _ (Nat.two_pow_pos w)
  generalize start % 2 ^ w = c at h0 ⊢
  induction bs generalizing c with
  | nil => exact h0
  | cons b bs ih =>
    refine ih _ ?_
    have h1 : c * 2 % 2 ^ w < 2 ^ w := Nat.mod_lt _ (Nat.two_pow_pos w)
    dsimp only
    split
    · exact Nat.xor_lt_two_pow h1 hp
    · exact h1

/-- The header check is a number of 16 bits. -/
theorem headerCrc_lt (body : Nat) : headerCrc body < 2 ^ 16 := crcOf_lt 16 0x1021 _ _ (by decide)

/-- A sealed header as a number. -/
theorem sealed_toNat (body : Nat) : (sealed body).toNat = body % 2 ^ 240 + headerCrc (body % 2 ^ 240) * 2 ^ 240 := by
  have h1 : body % 2 ^ 240 < 2 ^ 240 := Nat.mod_lt _ (Nat.two_pow_pos _)
  have h2 := headerCrc_lt (body % 2 ^ 240)
  unfold sealed
  rw [BitVec.toNat_ofNat, Nat.mod_eq_of_lt]
  omega

/-- A sealed header holds the fields of the body it was made from. -/
theorem sealed_field (body : Nat) (d : Bytes) (hi lo : Nat) (h : hi < 240) (hl : lo ≤ hi) :
    (⟨sealed body, d⟩ : NocPkt).field hi lo = bits body hi lo := by
  have hp : (2 : Nat) ^ 240 = 2 ^ lo * (2 ^ (hi + 1 - lo) * 2 ^ (239 - hi)) := by
    rw [← Nat.pow_add, ← Nat.pow_add]; congr 1; omega
  have cut : ∀ x y : Nat, (x % 2 ^ 240 + y * 2 ^ 240) / 2 ^ lo % 2 ^ (hi + 1 - lo) = x / 2 ^ lo % 2 ^ (hi + 1 - lo) := by
    intro x y
    have hP : 0 < 2 ^ lo := Nat.two_pow_pos lo
    rw [hp]
    generalize 2 ^ lo = P at hP ⊢
    generalize 2 ^ (hi + 1 - lo) = Q
    generalize 2 ^ (239 - hi) = R
    rw [show y * (P * (Q * R)) = P * (y * (Q * R)) by rw [Nat.mul_left_comm], Nat.add_mul_div_left _ _ hP,
      Nat.mod_mul_right_div_self, show y * (Q * R) = Q * (y * R) by rw [Nat.mul_left_comm], Nat.add_mul_mod_self_left,
      Nat.mod_mul_right_mod]
  simp only [NocPkt.field, bits, sealed_toNat, cut]

/-- The check field of a sealed header. -/
theorem sealed_check (body : Nat) (d : Bytes) : (⟨sealed body, d⟩ : NocPkt).field 255 240 = headerCrc (body % 2 ^ 240) := by
  have h1 : body % 2 ^ 240 < 2 ^ 240 := Nat.mod_lt _ (Nat.two_pow_pos _)
  have h2 := headerCrc_lt (body % 2 ^ 240)
  simp only [NocPkt.field, bits, sealed_toNat]
  rw [Nat.add_mul_div_right _ _ (Nat.two_pow_pos 240), Nat.div_eq_of_lt h1]
  omega

/-- A sealed header is right exactly if its type and its destination are known (R281, R293). -/
theorem sealed_headerBad (body : Nat) (d : Bytes) :
    (⟨sealed body, d⟩ : NocPkt).headerBad =
      (decide (bits body 10 7 = 0 ∨ 4 < bits body 10 7) || !dstKnown (bits body 18 11)) := by
  have h : (sealed body).toNat % 2 ^ 240 = body % 2 ^ 240 := by rw [sealed_toNat]; omega
  simp only [NocPkt.headerBad, sealed_check, h, NocPkt.type, NocPkt.dst, sealed_field body d 10 7 (by decide) (by decide),
    sealed_field body d 18 11 (by decide) (by decide)]
  simp

/-- The way a router chooses depends on the epoch and the destination of a packet alone (R277, R287). -/
theorem nextHop_congr (s : State) (a r : Nat) (k k' : NocPkt) (he : k.epoch = k'.epoch) (hd : k.dst = k'.dst) :
    s.nextHop a r k = s.nextHop a r k' := by
  simp only [State.nextHop, he, hd]

end Sys2Proof.Machine
end

