-- ==== Sys2Proof/Laws/State.lean ====
section
/-! SUPPORT. One lemma for each part of the state under each update of it, so that no proof unfolds a record update; and what a
register, a partition's record and a queue's record read as after each update. -/

namespace Sys2Proof.Machine

variable (s : State)

/-- A register reads the same in states with the same registers, grade, stepping and module part. -/
theorem State.reg_of {t : State} (h : t.regs = s.regs) (hg : t.grade = s.grade) (hs : t.stepping = s.stepping)
    (hy : t.sys = s.sys) (f : Fld) (i j : Nat) : t.reg f i j = s.reg f i j := by
  have : t.rst f i j = s.rst f i j := by simp only [State.rst, hg, hs, hy]
  rw [State.reg, State.reg, h, this]

/-! ## `setReg` -/

@[simp] theorem State.pending_setReg (f : Fld) (i j v : Nat) : (s.setReg f i j v).pending = s.pending := rfl
@[simp] theorem State.grade_setReg (f : Fld) (i j v : Nat) : (s.setReg f i j v).grade = s.grade := rfl
@[simp] theorem State.stepping_setReg (f : Fld) (i j v : Nat) : (s.setReg f i j v).stepping = s.stepping := rfl
@[simp] theorem State.free_setReg (f : Fld) (i j v : Nat) : (s.setReg f i j v).free = s.free := rfl
@[simp] theorem State.held_setReg (f : Fld) (i j v : Nat) : (s.setReg f i j v).held = s.held := rfl
@[simp] theorem State.latches_setReg (f : Fld) (i j v : Nat) : (s.setReg f i j v).latches = s.latches := rfl
@[simp] theorem State.fab_setReg (f : Fld) (i j v : Nat) : (s.setReg f i j v).fab = s.fab := rfl
@[simp] theorem State.parts_setReg (f : Fld) (i j v : Nat) : (s.setReg f i j v).parts = s.parts := rfl
@[simp] theorem State.dram_setReg (f : Fld) (i j v : Nat) : (s.setReg f i j v).dram = s.dram := rfl
@[simp] theorem State.host_setReg (f : Fld) (i j v : Nat) : (s.setReg f i j v).host = s.host := rfl
@[simp] theorem State.trace_setReg (f : Fld) (i j v : Nat) : (s.setReg f i j v).trace = s.trace := rfl
@[simp] theorem State.noc_setReg (f : Fld) (i j v : Nat) : (s.setReg f i j v).noc = s.noc := rfl
@[simp] theorem State.time_setReg (f : Fld) (i j v : Nat) : (s.setReg f i j v).time = s.time := rfl
@[simp] theorem State.wl_setReg (f : Fld) (i j v : Nat) : (s.setReg f i j v).wl = s.wl := rfl
@[simp] theorem State.pins_setReg (f : Fld) (i j v : Nat) : (s.setReg f i j v).pins = s.pins := rfl
@[simp] theorem State.pwr_setReg (f : Fld) (i j v : Nat) : (s.setReg f i j v).pwr = s.pwr := rfl
@[simp] theorem State.sys_setReg (f : Fld) (i j v : Nat) : (s.setReg f i j v).sys = s.sys := rfl
@[simp] theorem State.svc_setReg (f : Fld) (i j v : Nat) : (s.setReg f i j v).svc = s.svc := rfl
@[simp] theorem State.out_setReg (f : Fld) (i j v : Nat) : (s.setReg f i j v).out = s.out := rfl

/-! ## `setFlag` -/

@[simp] theorem State.pending_setFlag (f : Fld) (i j : Nat) (b : Bool) : (s.setFlag f i j b).pending = s.pending := rfl
@[simp] theorem State.grade_setFlag (f : Fld) (i j : Nat) (b : Bool) : (s.setFlag f i j b).grade = s.grade := rfl
@[simp] theorem State.stepping_setFlag (f : Fld) (i j : Nat) (b : Bool) : (s.setFlag f i j b).stepping = s.stepping := rfl
@[simp] theorem State.free_setFlag (f : Fld) (i j : Nat) (b : Bool) : (s.setFlag f i j b).free = s.free := rfl
@[simp] theorem State.held_setFlag (f : Fld) (i j : Nat) (b : Bool) : (s.setFlag f i j b).held = s.held := rfl
@[simp] theorem State.latches_setFlag (f : Fld) (i j : Nat) (b : Bool) : (s.setFlag f i j b).latches = s.latches := rfl
@[simp] theorem State.fab_setFlag (f : Fld) (i j : Nat) (b : Bool) : (s.setFlag f i j b).fab = s.fab := rfl
@[simp] theorem State.parts_setFlag (f : Fld) (i j : Nat) (b : Bool) : (s.setFlag f i j b).parts = s.parts := rfl
@[simp] theorem State.dram_setFlag (f : Fld) (i j : Nat) (b : Bool) : (s.setFlag f i j b).dram = s.dram := rfl
@[simp] theorem State.host_setFlag (f : Fld) (i j : Nat) (b : Bool) : (s.setFlag f i j b).host = s.host := rfl
@[simp] theorem State.trace_setFlag (f : Fld) (i j : Nat) (b : Bool) : (s.setFlag f i j b).trace = s.trace := rfl
@[simp] theorem State.noc_setFlag (f : Fld) (i j : Nat) (b : Bool) : (s.setFlag f i j b).noc = s.noc := rfl
@[simp] theorem State.time_setFlag (f : Fld) (i j : Nat) (b : Bool) : (s.setFlag f i j b).time = s.time := rfl
@[simp] theorem State.wl_setFlag (f : Fld) (i j : Nat) (b : Bool) : (s.setFlag f i j b).wl = s.wl := rfl
@[simp] theorem State.pins_setFlag (f : Fld) (i j : Nat) (b : Bool) : (s.setFlag f i j b).pins = s.pins := rfl
@[simp] theorem State.pwr_setFlag (f : Fld) (i j : Nat) (b : Bool) : (s.setFlag f i j b).pwr = s.pwr := rfl
@[simp] theorem State.sys_setFlag (f : Fld) (i j : Nat) (b : Bool) : (s.setFlag f i j b).sys = s.sys := rfl
@[simp] theorem State.svc_setFlag (f : Fld) (i j : Nat) (b : Bool) : (s.setFlag f i j b).svc = s.svc := rfl
@[simp] theorem State.out_setFlag (f : Fld) (i j : Nat) (b : Bool) : (s.setFlag f i j b).out = s.out := rfl

/-! ## `setReg64` -/

@[simp] theorem State.pending_setReg64 (lo hi : Fld) (i j v : Nat) : (s.setReg64 lo hi i j v).pending = s.pending := rfl
@[simp] theorem State.grade_setReg64 (lo hi : Fld) (i j v : Nat) : (s.setReg64 lo hi i j v).grade = s.grade := rfl
@[simp] theorem State.stepping_setReg64 (lo hi : Fld) (i j v : Nat) : (s.setReg64 lo hi i j v).stepping = s.stepping := rfl
@[simp] theorem State.free_setReg64 (lo hi : Fld) (i j v : Nat) : (s.setReg64 lo hi i j v).free = s.free := rfl
@[simp] theorem State.held_setReg64 (lo hi : Fld) (i j v : Nat) : (s.setReg64 lo hi i j v).held = s.held := rfl
@[simp] theorem State.latches_setReg64 (lo hi : Fld) (i j v : Nat) : (s.setReg64 lo hi i j v).latches = s.latches := rfl
@[simp] theorem State.fab_setReg64 (lo hi : Fld) (i j v : Nat) : (s.setReg64 lo hi i j v).fab = s.fab := rfl
@[simp] theorem State.parts_setReg64 (lo hi : Fld) (i j v : Nat) : (s.setReg64 lo hi i j v).parts = s.parts := rfl
@[simp] theorem State.dram_setReg64 (lo hi : Fld) (i j v : Nat) : (s.setReg64 lo hi i j v).dram = s.dram := rfl
@[simp] theorem State.host_setReg64 (lo hi : Fld) (i j v : Nat) : (s.setReg64 lo hi i j v).host = s.host := rfl
@[simp] theorem State.trace_setReg64 (lo hi : Fld) (i j v : Nat) : (s.setReg64 lo hi i j v).trace = s.trace := rfl
@[simp] theorem State.noc_setReg64 (lo hi : Fld) (i j v : Nat) : (s.setReg64 lo hi i j v).noc = s.noc := rfl
@[simp] theorem State.time_setReg64 (lo hi : Fld) (i j v : Nat) : (s.setReg64 lo hi i j v).time = s.time := rfl
@[simp] theorem State.wl_setReg64 (lo hi : Fld) (i j v : Nat) : (s.setReg64 lo hi i j v).wl = s.wl := rfl
@[simp] theorem State.pins_setReg64 (lo hi : Fld) (i j v : Nat) : (s.setReg64 lo hi i j v).pins = s.pins := rfl
@[simp] theorem State.pwr_setReg64 (lo hi : Fld) (i j v : Nat) : (s.setReg64 lo hi i j v).pwr = s.pwr := rfl
@[simp] theorem State.sys_setReg64 (lo hi : Fld) (i j v : Nat) : (s.setReg64 lo hi i j v).sys = s.sys := rfl
@[simp] theorem State.svc_setReg64 (lo hi : Fld) (i j v : Nat) : (s.setReg64 lo hi i j v).svc = s.svc := rfl
@[simp] theorem State.out_setReg64 (lo hi : Fld) (i j v : Nat) : (s.setReg64 lo hi i j v).out = s.out := rfl

/-! ## `bump` -/

@[simp] theorem State.pending_bump (f : Fld) (i j n : Nat) : (s.bump f i j n).pending = s.pending := rfl
@[simp] theorem State.grade_bump (f : Fld) (i j n : Nat) : (s.bump f i j n).grade = s.grade := rfl
@[simp] theorem State.stepping_bump (f : Fld) (i j n : Nat) : (s.bump f i j n).stepping = s.stepping := rfl
@[simp] theorem State.free_bump (f : Fld) (i j n : Nat) : (s.bump f i j n).free = s.free := rfl
@[simp] theorem State.held_bump (f : Fld) (i j n : Nat) : (s.bump f i j n).held = s.held := rfl
@[simp] theorem State.latches_bump (f : Fld) (i j n : Nat) : (s.bump f i j n).latches = s.latches := rfl
@[simp] theorem State.fab_bump (f : Fld) (i j n : Nat) : (s.bump f i j n).fab = s.fab := rfl
@[simp] theorem State.parts_bump (f : Fld) (i j n : Nat) : (s.bump f i j n).parts = s.parts := rfl
@[simp] theorem State.dram_bump (f : Fld) (i j n : Nat) : (s.bump f i j n).dram = s.dram := rfl
@[simp] theorem State.host_bump (f : Fld) (i j n : Nat) : (s.bump f i j n).host = s.host := rfl
@[simp] theorem State.trace_bump (f : Fld) (i j n : Nat) : (s.bump f i j n).trace = s.trace := rfl
@[simp] theorem State.noc_bump (f : Fld) (i j n : Nat) : (s.bump f i j n).noc = s.noc := rfl
@[simp] theorem State.time_bump (f : Fld) (i j n : Nat) : (s.bump f i j n).time = s.time := rfl
@[simp] theorem State.wl_bump (f : Fld) (i j n : Nat) : (s.bump f i j n).wl = s.wl := rfl
@[simp] theorem State.pins_bump (f : Fld) (i j n : Nat) : (s.bump f i j n).pins = s.pins := rfl
@[simp] theorem State.pwr_bump (f : Fld) (i j n : Nat) : (s.bump f i j n).pwr = s.pwr := rfl
@[simp] theorem State.sys_bump (f : Fld) (i j n : Nat) : (s.bump f i j n).sys = s.sys := rfl
@[simp] theorem State.svc_bump (f : Fld) (i j n : Nat) : (s.bump f i j n).svc = s.svc := rfl
@[simp] theorem State.out_bump (f : Fld) (i j n : Nat) : (s.bump f i j n).out = s.out := rfl

/-! ## `setRecord` -/

@[simp] theorem State.pending_setRecord (f : Fld) (i j v : Nat) : (s.setRecord f i j v).pending = s.pending := rfl
@[simp] theorem State.grade_setRecord (f : Fld) (i j v : Nat) : (s.setRecord f i j v).grade = s.grade := rfl
@[simp] theorem State.stepping_setRecord (f : Fld) (i j v : Nat) : (s.setRecord f i j v).stepping = s.stepping := rfl
@[simp] theorem State.free_setRecord (f : Fld) (i j v : Nat) : (s.setRecord f i j v).free = s.free := rfl
@[simp] theorem State.held_setRecord (f : Fld) (i j v : Nat) : (s.setRecord f i j v).held = s.held := rfl
@[simp] theorem State.latches_setRecord (f : Fld) (i j v : Nat) : (s.setRecord f i j v).latches = s.latches := rfl
@[simp] theorem State.fab_setRecord (f : Fld) (i j v : Nat) : (s.setRecord f i j v).fab = s.fab := rfl
@[simp] theorem State.parts_setRecord (f : Fld) (i j v : Nat) : (s.setRecord f i j v).parts = s.parts := rfl
@[simp] theorem State.dram_setRecord (f : Fld) (i j v : Nat) : (s.setRecord f i j v).dram = s.dram := rfl
@[simp] theorem State.host_setRecord (f : Fld) (i j v : Nat) : (s.setRecord f i j v).host = s.host := rfl
@[simp] theorem State.trace_setRecord (f : Fld) (i j v : Nat) : (s.setRecord f i j v).trace = s.trace := rfl
@[simp] theorem State.noc_setRecord (f : Fld) (i j v : Nat) : (s.setRecord f i j v).noc = s.noc := rfl
@[simp] theorem State.time_setRecord (f : Fld) (i j v : Nat) : (s.setRecord f i j v).time = s.time := rfl
@[simp] theorem State.wl_setRecord (f : Fld) (i j v : Nat) : (s.setRecord f i j v).wl = s.wl := rfl
@[simp] theorem State.pins_setRecord (f : Fld) (i j v : Nat) : (s.setRecord f i j v).pins = s.pins := rfl
@[simp] theorem State.pwr_setRecord (f : Fld) (i j v : Nat) : (s.setRecord f i j v).pwr = s.pwr := rfl
@[simp] theorem State.svc_setRecord (f : Fld) (i j v : Nat) : (s.setRecord f i j v).svc = s.svc := rfl
@[simp] theorem State.out_setRecord (f : Fld) (i j v : Nat) : (s.setRecord f i j v).out = s.out := rfl

/-! ## `setSetting` -/

@[simp] theorem State.pending_setSetting (f : Fld) (i j v : Nat) : (s.setSetting f i j v).pending = s.pending := rfl
@[simp] theorem State.grade_setSetting (f : Fld) (i j v : Nat) : (s.setSetting f i j v).grade = s.grade := rfl
@[simp] theorem State.stepping_setSetting (f : Fld) (i j v : Nat) : (s.setSetting f i j v).stepping = s.stepping := rfl
@[simp] theorem State.free_setSetting (f : Fld) (i j v : Nat) : (s.setSetting f i j v).free = s.free := rfl
@[simp] theorem State.held_setSetting (f : Fld) (i j v : Nat) : (s.setSetting f i j v).held = s.held := rfl
@[simp] theorem State.latches_setSetting (f : Fld) (i j v : Nat) : (s.setSetting f i j v).latches = s.latches := rfl
@[simp] theorem State.fab_setSetting (f : Fld) (i j v : Nat) : (s.setSetting f i j v).fab = s.fab := rfl
@[simp] theorem State.parts_setSetting (f : Fld) (i j v : Nat) : (s.setSetting f i j v).parts = s.parts := rfl
@[simp] theorem State.dram_setSetting (f : Fld) (i j v : Nat) : (s.setSetting f i j v).dram = s.dram := rfl
@[simp] theorem State.host_setSetting (f : Fld) (i j v : Nat) : (s.setSetting f i j v).host = s.host := rfl
@[simp] theorem State.trace_setSetting (f : Fld) (i j v : Nat) : (s.setSetting f i j v).trace = s.trace := rfl
@[simp] theorem State.noc_setSetting (f : Fld) (i j v : Nat) : (s.setSetting f i j v).noc = s.noc := rfl
@[simp] theorem State.time_setSetting (f : Fld) (i j v : Nat) : (s.setSetting f i j v).time = s.time := rfl
@[simp] theorem State.wl_setSetting (f : Fld) (i j v : Nat) : (s.setSetting f i j v).wl = s.wl := rfl
@[simp] theorem State.pins_setSetting (f : Fld) (i j v : Nat) : (s.setSetting f i j v).pins = s.pins := rfl
@[simp] theorem State.pwr_setSetting (f : Fld) (i j v : Nat) : (s.setSetting f i j v).pwr = s.pwr := rfl
@[simp] theorem State.svc_setSetting (f : Fld) (i j v : Nat) : (s.setSetting f i j v).svc = s.svc := rfl
@[simp] theorem State.out_setSetting (f : Fld) (i j v : Nat) : (s.setSetting f i j v).out = s.out := rfl

/-! ## `hold` -/

@[simp] theorem State.pending_hold (f : Fld) (i j v : Nat) : (s.hold f i j v).pending = s.pending := rfl
@[simp] theorem State.grade_hold (f : Fld) (i j v : Nat) : (s.hold f i j v).grade = s.grade := rfl
@[simp] theorem State.stepping_hold (f : Fld) (i j v : Nat) : (s.hold f i j v).stepping = s.stepping := rfl
@[simp] theorem State.free_hold (f : Fld) (i j v : Nat) : (s.hold f i j v).free = s.free := rfl
@[simp] theorem State.regs_hold (f : Fld) (i j v : Nat) : (s.hold f i j v).regs = s.regs := rfl
@[simp] theorem State.latches_hold (f : Fld) (i j v : Nat) : (s.hold f i j v).latches = s.latches := rfl
@[simp] theorem State.fab_hold (f : Fld) (i j v : Nat) : (s.hold f i j v).fab = s.fab := rfl
@[simp] theorem State.parts_hold (f : Fld) (i j v : Nat) : (s.hold f i j v).parts = s.parts := rfl
@[simp] theorem State.dram_hold (f : Fld) (i j v : Nat) : (s.hold f i j v).dram = s.dram := rfl
@[simp] theorem State.host_hold (f : Fld) (i j v : Nat) : (s.hold f i j v).host = s.host := rfl
@[simp] theorem State.trace_hold (f : Fld) (i j v : Nat) : (s.hold f i j v).trace = s.trace := rfl
@[simp] theorem State.noc_hold (f : Fld) (i j v : Nat) : (s.hold f i j v).noc = s.noc := rfl
@[simp] theorem State.time_hold (f : Fld) (i j v : Nat) : (s.hold f i j v).time = s.time := rfl
@[simp] theorem State.wl_hold (f : Fld) (i j v : Nat) : (s.hold f i j v).wl = s.wl := rfl
@[simp] theorem State.pins_hold (f : Fld) (i j v : Nat) : (s.hold f i j v).pins = s.pins := rfl
@[simp] theorem State.pwr_hold (f : Fld) (i j v : Nat) : (s.hold f i j v).pwr = s.pwr := rfl
@[simp] theorem State.sys_hold (f : Fld) (i j v : Nat) : (s.hold f i j v).sys = s.sys := rfl
@[simp] theorem State.svc_hold (f : Fld) (i j v : Nat) : (s.hold f i j v).svc = s.svc := rfl
@[simp] theorem State.out_hold (f : Fld) (i j v : Nat) : (s.hold f i j v).out = s.out := rfl
@[simp] theorem State.reg_hold (f : Fld) (i j v : Nat) (g' : Fld) (i' j' : Nat) : (s.hold f i j v).reg g' i' j' = s.reg g' i' j' := rfl

/-! ## `modPart` -/

@[simp] theorem State.pending_modPart (p : Nat) (g : Part → Part) : (s.modPart p g).pending = s.pending := rfl
@[simp] theorem State.grade_modPart (p : Nat) (g : Part → Part) : (s.modPart p g).grade = s.grade := rfl
@[simp] theorem State.stepping_modPart (p : Nat) (g : Part → Part) : (s.modPart p g).stepping = s.stepping := rfl
@[simp] theorem State.free_modPart (p : Nat) (g : Part → Part) : (s.modPart p g).free = s.free := rfl
@[simp] theorem State.regs_modPart (p : Nat) (g : Part → Part) : (s.modPart p g).regs = s.regs := rfl
@[simp] theorem State.held_modPart (p : Nat) (g : Part → Part) : (s.modPart p g).held = s.held := rfl
@[simp] theorem State.latches_modPart (p : Nat) (g : Part → Part) : (s.modPart p g).latches = s.latches := rfl
@[simp] theorem State.fab_modPart (p : Nat) (g : Part → Part) : (s.modPart p g).fab = s.fab := rfl
@[simp] theorem State.dram_modPart (p : Nat) (g : Part → Part) : (s.modPart p g).dram = s.dram := rfl
@[simp] theorem State.host_modPart (p : Nat) (g : Part → Part) : (s.modPart p g).host = s.host := rfl
@[simp] theorem State.trace_modPart (p : Nat) (g : Part → Part) : (s.modPart p g).trace = s.trace := rfl
@[simp] theorem State.noc_modPart (p : Nat) (g : Part → Part) : (s.modPart p g).noc = s.noc := rfl
@[simp] theorem State.time_modPart (p : Nat) (g : Part → Part) : (s.modPart p g).time = s.time := rfl
@[simp] theorem State.wl_modPart (p : Nat) (g : Part → Part) : (s.modPart p g).wl = s.wl := rfl
@[simp] theorem State.pins_modPart (p : Nat) (g : Part → Part) : (s.modPart p g).pins = s.pins := rfl
@[simp] theorem State.pwr_modPart (p : Nat) (g : Part → Part) : (s.modPart p g).pwr = s.pwr := rfl
@[simp] theorem State.sys_modPart (p : Nat) (g : Part → Part) : (s.modPart p g).sys = s.sys := rfl
@[simp] theorem State.svc_modPart (p : Nat) (g : Part → Part) : (s.modPart p g).svc = s.svc := rfl
@[simp] theorem State.out_modPart (p : Nat) (g : Part → Part) : (s.modPart p g).out = s.out := rfl
@[simp] theorem State.reg_modPart (p : Nat) (g : Part → Part) (g' : Fld) (i' j' : Nat) : (s.modPart p g).reg g' i' j' = s.reg g' i' j' := rfl

/-! ## `modQueue` -/

@[simp] theorem State.pending_modQueue (q : Nat) (g : Queue → Queue) : (s.modQueue q g).pending = s.pending := rfl
@[simp] theorem State.grade_modQueue (q : Nat) (g : Queue → Queue) : (s.modQueue q g).grade = s.grade := rfl
@[simp] theorem State.stepping_modQueue (q : Nat) (g : Queue → Queue) : (s.modQueue q g).stepping = s.stepping := rfl
@[simp] theorem State.free_modQueue (q : Nat) (g : Queue → Queue) : (s.modQueue q g).free = s.free := rfl
@[simp] theorem State.regs_modQueue (q : Nat) (g : Queue → Queue) : (s.modQueue q g).regs = s.regs := rfl
@[simp] theorem State.held_modQueue (q : Nat) (g : Queue → Queue) : (s.modQueue q g).held = s.held := rfl
@[simp] theorem State.latches_modQueue (q : Nat) (g : Queue → Queue) : (s.modQueue q g).latches = s.latches := rfl
@[simp] theorem State.fab_modQueue (q : Nat) (g : Queue → Queue) : (s.modQueue q g).fab = s.fab := rfl
@[simp] theorem State.parts_modQueue (q : Nat) (g : Queue → Queue) : (s.modQueue q g).parts = s.parts := rfl
@[simp] theorem State.dram_modQueue (q : Nat) (g : Queue → Queue) : (s.modQueue q g).dram = s.dram := rfl
@[simp] theorem State.trace_modQueue (q : Nat) (g : Queue → Queue) : (s.modQueue q g).trace = s.trace := rfl
@[simp] theorem State.noc_modQueue (q : Nat) (g : Queue → Queue) : (s.modQueue q g).noc = s.noc := rfl
@[simp] theorem State.time_modQueue (q : Nat) (g : Queue → Queue) : (s.modQueue q g).time = s.time := rfl
@[simp] theorem State.wl_modQueue (q : Nat) (g : Queue → Queue) : (s.modQueue q g).wl = s.wl := rfl
@[simp] theorem State.pins_modQueue (q : Nat) (g : Queue → Queue) : (s.modQueue q g).pins = s.pins := rfl
@[simp] theorem State.pwr_modQueue (q : Nat) (g : Queue → Queue) : (s.modQueue q g).pwr = s.pwr := rfl
@[simp] theorem State.sys_modQueue (q : Nat) (g : Queue → Queue) : (s.modQueue q g).sys = s.sys := rfl
@[simp] theorem State.svc_modQueue (q : Nat) (g : Queue → Queue) : (s.modQueue q g).svc = s.svc := rfl
@[simp] theorem State.out_modQueue (q : Nat) (g : Queue → Queue) : (s.modQueue q g).out = s.out := rfl
@[simp] theorem State.reg_modQueue (q : Nat) (g : Queue → Queue) (g' : Fld) (i' j' : Nat) : (s.modQueue q g).reg g' i' j' = s.reg g' i' j' := rfl

/-! ## `modBox` -/

@[simp] theorem State.pending_modBox (n m : Nat) (g : Mailbox → Mailbox) : (s.modBox n m g).pending = s.pending := rfl
@[simp] theorem State.grade_modBox (n m : Nat) (g : Mailbox → Mailbox) : (s.modBox n m g).grade = s.grade := rfl
@[simp] theorem State.stepping_modBox (n m : Nat) (g : Mailbox → Mailbox) : (s.modBox n m g).stepping = s.stepping := rfl
@[simp] theorem State.free_modBox (n m : Nat) (g : Mailbox → Mailbox) : (s.modBox n m g).free = s.free := rfl
@[simp] theorem State.regs_modBox (n m : Nat) (g : Mailbox → Mailbox) : (s.modBox n m g).regs = s.regs := rfl
@[simp] theorem State.held_modBox (n m : Nat) (g : Mailbox → Mailbox) : (s.modBox n m g).held = s.held := rfl
@[simp] theorem State.latches_modBox (n m : Nat) (g : Mailbox → Mailbox) : (s.modBox n m g).latches = s.latches := rfl
@[simp] theorem State.fab_modBox (n m : Nat) (g : Mailbox → Mailbox) : (s.modBox n m g).fab = s.fab := rfl
@[simp] theorem State.parts_modBox (n m : Nat) (g : Mailbox → Mailbox) : (s.modBox n m g).parts = s.parts := rfl
@[simp] theorem State.dram_modBox (n m : Nat) (g : Mailbox → Mailbox) : (s.modBox n m g).dram = s.dram := rfl
@[simp] theorem State.trace_modBox (n m : Nat) (g : Mailbox → Mailbox) : (s.modBox n m g).trace = s.trace := rfl
@[simp] theorem State.noc_modBox (n m : Nat) (g : Mailbox → Mailbox) : (s.modBox n m g).noc = s.noc := rfl
@[simp] theorem State.time_modBox (n m : Nat) (g : Mailbox → Mailbox) : (s.modBox n m g).time = s.time := rfl
@[simp] theorem State.wl_modBox (n m : Nat) (g : Mailbox → Mailbox) : (s.modBox n m g).wl = s.wl := rfl
@[simp] theorem State.pins_modBox (n m : Nat) (g : Mailbox → Mailbox) : (s.modBox n m g).pins = s.pins := rfl
@[simp] theorem State.pwr_modBox (n m : Nat) (g : Mailbox → Mailbox) : (s.modBox n m g).pwr = s.pwr := rfl
@[simp] theorem State.sys_modBox (n m : Nat) (g : Mailbox → Mailbox) : (s.modBox n m g).sys = s.sys := rfl
@[simp] theorem State.svc_modBox (n m : Nat) (g : Mailbox → Mailbox) : (s.modBox n m g).svc = s.svc := rfl
@[simp] theorem State.out_modBox (n m : Nat) (g : Mailbox → Mailbox) : (s.modBox n m g).out = s.out := rfl
@[simp] theorem State.reg_modBox (n m : Nat) (g : Mailbox → Mailbox) (g' : Fld) (i' j' : Nat) : (s.modBox n m g).reg g' i' j' = s.reg g' i' j' := rfl

/-! ## `hostWrite` -/

@[simp] theorem State.pending_hostWrite (port addr : Nat) (bs : Bytes) : (s.hostWrite port addr bs).pending = s.pending := rfl
@[simp] theorem State.grade_hostWrite (port addr : Nat) (bs : Bytes) : (s.hostWrite port addr bs).grade = s.grade := rfl
@[simp] theorem State.stepping_hostWrite (port addr : Nat) (bs : Bytes) : (s.hostWrite port addr bs).stepping = s.stepping := rfl
@[simp] theorem State.free_hostWrite (port addr : Nat) (bs : Bytes) : (s.hostWrite port addr bs).free = s.free := rfl
@[simp] theorem State.regs_hostWrite (port addr : Nat) (bs : Bytes) : (s.hostWrite port addr bs).regs = s.regs := rfl
@[simp] theorem State.held_hostWrite (port addr : Nat) (bs : Bytes) : (s.hostWrite port addr bs).held = s.held := rfl
@[simp] theorem State.latches_hostWrite (port addr : Nat) (bs : Bytes) : (s.hostWrite port addr bs).latches = s.latches := rfl
@[simp] theorem State.fab_hostWrite (port addr : Nat) (bs : Bytes) : (s.hostWrite port addr bs).fab = s.fab := rfl
@[simp] theorem State.parts_hostWrite (port addr : Nat) (bs : Bytes) : (s.hostWrite port addr bs).parts = s.parts := rfl
@[simp] theorem State.dram_hostWrite (port addr : Nat) (bs : Bytes) : (s.hostWrite port addr bs).dram = s.dram := rfl
@[simp] theorem State.trace_hostWrite (port addr : Nat) (bs : Bytes) : (s.hostWrite port addr bs).trace = s.trace := rfl
@[simp] theorem State.noc_hostWrite (port addr : Nat) (bs : Bytes) : (s.hostWrite port addr bs).noc = s.noc := rfl
@[simp] theorem State.time_hostWrite (port addr : Nat) (bs : Bytes) : (s.hostWrite port addr bs).time = s.time := rfl
@[simp] theorem State.wl_hostWrite (port addr : Nat) (bs : Bytes) : (s.hostWrite port addr bs).wl = s.wl := rfl
@[simp] theorem State.pins_hostWrite (port addr : Nat) (bs : Bytes) : (s.hostWrite port addr bs).pins = s.pins := rfl
@[simp] theorem State.pwr_hostWrite (port addr : Nat) (bs : Bytes) : (s.hostWrite port addr bs).pwr = s.pwr := rfl
@[simp] theorem State.sys_hostWrite (port addr : Nat) (bs : Bytes) : (s.hostWrite port addr bs).sys = s.sys := rfl
@[simp] theorem State.svc_hostWrite (port addr : Nat) (bs : Bytes) : (s.hostWrite port addr bs).svc = s.svc := rfl
@[simp] theorem State.out_hostWrite (port addr : Nat) (bs : Bytes) : (s.hostWrite port addr bs).out = s.out := rfl
@[simp] theorem State.reg_hostWrite (port addr : Nat) (bs : Bytes) (g' : Fld) (i' j' : Nat) : (s.hostWrite port addr bs).reg g' i' j' = s.reg g' i' j' := rfl

/-! ## `emit` -/

@[simp] theorem State.pending_emit (o : Out) : (s.emit o).pending = s.pending := rfl
@[simp] theorem State.grade_emit (o : Out) : (s.emit o).grade = s.grade := rfl
@[simp] theorem State.stepping_emit (o : Out) : (s.emit o).stepping = s.stepping := rfl
@[simp] theorem State.free_emit (o : Out) : (s.emit o).free = s.free := rfl
@[simp] theorem State.regs_emit (o : Out) : (s.emit o).regs = s.regs := rfl
@[simp] theorem State.held_emit (o : Out) : (s.emit o).held = s.held := rfl
@[simp] theorem State.latches_emit (o : Out) : (s.emit o).latches = s.latches := rfl
@[simp] theorem State.fab_emit (o : Out) : (s.emit o).fab = s.fab := rfl
@[simp] theorem State.parts_emit (o : Out) : (s.emit o).parts = s.parts := rfl
@[simp] theorem State.dram_emit (o : Out) : (s.emit o).dram = s.dram := rfl
@[simp] theorem State.host_emit (o : Out) : (s.emit o).host = s.host := rfl
@[simp] theorem State.trace_emit (o : Out) : (s.emit o).trace = s.trace := rfl
@[simp] theorem State.noc_emit (o : Out) : (s.emit o).noc = s.noc := rfl
@[simp] theorem State.time_emit (o : Out) : (s.emit o).time = s.time := rfl
@[simp] theorem State.wl_emit (o : Out) : (s.emit o).wl = s.wl := rfl
@[simp] theorem State.pins_emit (o : Out) : (s.emit o).pins = s.pins := rfl
@[simp] theorem State.pwr_emit (o : Out) : (s.emit o).pwr = s.pwr := rfl
@[simp] theorem State.sys_emit (o : Out) : (s.emit o).sys = s.sys := rfl
@[simp] theorem State.svc_emit (o : Out) : (s.emit o).svc = s.svc := rfl
@[simp] theorem State.reg_emit (o : Out) (g' : Fld) (i' j' : Nat) : (s.emit o).reg g' i' j' = s.reg g' i' j' := rfl

/-! ## `audit` -/

@[simp] theorem State.pending_audit (e : AuditEntry) : (s.audit e).pending = s.pending := by unfold State.audit; rfl
@[simp] theorem State.grade_audit (e : AuditEntry) : (s.audit e).grade = s.grade := by unfold State.audit; rfl
@[simp] theorem State.stepping_audit (e : AuditEntry) : (s.audit e).stepping = s.stepping := by unfold State.audit; rfl
@[simp] theorem State.free_audit (e : AuditEntry) : (s.audit e).free = s.free := by unfold State.audit; rfl
@[simp] theorem State.regs_audit (e : AuditEntry) : (s.audit e).regs = s.regs := by unfold State.audit; rfl
@[simp] theorem State.held_audit (e : AuditEntry) : (s.audit e).held = s.held := by unfold State.audit; rfl
@[simp] theorem State.latches_audit (e : AuditEntry) : (s.audit e).latches = s.latches := by unfold State.audit; rfl
@[simp] theorem State.fab_audit (e : AuditEntry) : (s.audit e).fab = s.fab := by unfold State.audit; rfl
@[simp] theorem State.parts_audit (e : AuditEntry) : (s.audit e).parts = s.parts := by unfold State.audit; rfl
@[simp] theorem State.dram_audit (e : AuditEntry) : (s.audit e).dram = s.dram := by unfold State.audit; rfl
@[simp] theorem State.trace_audit (e : AuditEntry) : (s.audit e).trace = s.trace := by unfold State.audit; rfl
@[simp] theorem State.noc_audit (e : AuditEntry) : (s.audit e).noc = s.noc := by unfold State.audit; rfl
@[simp] theorem State.time_audit (e : AuditEntry) : (s.audit e).time = s.time := by unfold State.audit; rfl
@[simp] theorem State.wl_audit (e : AuditEntry) : (s.audit e).wl = s.wl := by unfold State.audit; rfl
@[simp] theorem State.pins_audit (e : AuditEntry) : (s.audit e).pins = s.pins := by unfold State.audit; rfl
@[simp] theorem State.pwr_audit (e : AuditEntry) : (s.audit e).pwr = s.pwr := by unfold State.audit; rfl
@[simp] theorem State.sys_audit (e : AuditEntry) : (s.audit e).sys = s.sys := by unfold State.audit; rfl
@[simp] theorem State.svc_audit (e : AuditEntry) : (s.audit e).svc = s.svc := by unfold State.audit; rfl
@[simp] theorem State.out_audit (e : AuditEntry) : (s.audit e).out = s.out := by unfold State.audit; rfl
@[simp] theorem State.reg_audit (e : AuditEntry) (g' : Fld) (i' j' : Nat) : (s.audit e).reg g' i' j' = s.reg g' i' j' := s.reg_of (by simp) (by simp) (by simp) (by simp) g' i' j'

/-! ## `modDram` -/

@[simp] theorem State.pending_modDram (f : Dram → Dram) : (s.modDram f).pending = s.pending := rfl
@[simp] theorem State.grade_modDram (f : Dram → Dram) : (s.modDram f).grade = s.grade := rfl
@[simp] theorem State.stepping_modDram (f : Dram → Dram) : (s.modDram f).stepping = s.stepping := rfl
@[simp] theorem State.free_modDram (f : Dram → Dram) : (s.modDram f).free = s.free := rfl
@[simp] theorem State.regs_modDram (f : Dram → Dram) : (s.modDram f).regs = s.regs := rfl
@[simp] theorem State.held_modDram (f : Dram → Dram) : (s.modDram f).held = s.held := rfl
@[simp] theorem State.latches_modDram (f : Dram → Dram) : (s.modDram f).latches = s.latches := rfl
@[simp] theorem State.fab_modDram (f : Dram → Dram) : (s.modDram f).fab = s.fab := rfl
@[simp] theorem State.parts_modDram (f : Dram → Dram) : (s.modDram f).parts = s.parts := rfl
@[simp] theorem State.dram_modDram (f : Dram → Dram) : (s.modDram f).dram = f s.dram := rfl
@[simp] theorem State.host_modDram (f : Dram → Dram) : (s.modDram f).host = s.host := rfl
@[simp] theorem State.trace_modDram (f : Dram → Dram) : (s.modDram f).trace = s.trace := rfl
@[simp] theorem State.noc_modDram (f : Dram → Dram) : (s.modDram f).noc = s.noc := rfl
@[simp] theorem State.time_modDram (f : Dram → Dram) : (s.modDram f).time = s.time := rfl
@[simp] theorem State.wl_modDram (f : Dram → Dram) : (s.modDram f).wl = s.wl := rfl
@[simp] theorem State.pins_modDram (f : Dram → Dram) : (s.modDram f).pins = s.pins := rfl
@[simp] theorem State.pwr_modDram (f : Dram → Dram) : (s.modDram f).pwr = s.pwr := rfl
@[simp] theorem State.sys_modDram (f : Dram → Dram) : (s.modDram f).sys = s.sys := rfl
@[simp] theorem State.svc_modDram (f : Dram → Dram) : (s.modDram f).svc = s.svc := rfl
@[simp] theorem State.out_modDram (f : Dram → Dram) : (s.modDram f).out = s.out := rfl

/-! ## `modNoc` -/

@[simp] theorem State.pending_modNoc (f : Noc → Noc) : (s.modNoc f).pending = s.pending := rfl
@[simp] theorem State.grade_modNoc (f : Noc → Noc) : (s.modNoc f).grade = s.grade := rfl
@[simp] theorem State.stepping_modNoc (f : Noc → Noc) : (s.modNoc f).stepping = s.stepping := rfl
@[simp] theorem State.free_modNoc (f : Noc → Noc) : (s.modNoc f).free = s.free := rfl
@[simp] theorem State.regs_modNoc (f : Noc → Noc) : (s.modNoc f).regs = s.regs := rfl
@[simp] theorem State.held_modNoc (f : Noc → Noc) : (s.modNoc f).held = s.held := rfl
@[simp] theorem State.latches_modNoc (f : Noc → Noc) : (s.modNoc f).latches = s.latches := rfl
@[simp] theorem State.fab_modNoc (f : Noc → Noc) : (s.modNoc f).fab = s.fab := rfl
@[simp] theorem State.parts_modNoc (f : Noc → Noc) : (s.modNoc f).parts = s.parts := rfl
@[simp] theorem State.dram_modNoc (f : Noc → Noc) : (s.modNoc f).dram = s.dram := rfl
@[simp] theorem State.host_modNoc (f : Noc → Noc) : (s.modNoc f).host = s.host := rfl
@[simp] theorem State.trace_modNoc (f : Noc → Noc) : (s.modNoc f).trace = s.trace := rfl
@[simp] theorem State.noc_modNoc (f : Noc → Noc) : (s.modNoc f).noc = f s.noc := rfl
@[simp] theorem State.time_modNoc (f : Noc → Noc) : (s.modNoc f).time = s.time := rfl
@[simp] theorem State.wl_modNoc (f : Noc → Noc) : (s.modNoc f).wl = s.wl := rfl
@[simp] theorem State.pins_modNoc (f : Noc → Noc) : (s.modNoc f).pins = s.pins := rfl
@[simp] theorem State.pwr_modNoc (f : Noc → Noc) : (s.modNoc f).pwr = s.pwr := rfl
@[simp] theorem State.sys_modNoc (f : Noc → Noc) : (s.modNoc f).sys = s.sys := rfl
@[simp] theorem State.svc_modNoc (f : Noc → Noc) : (s.modNoc f).svc = s.svc := rfl
@[simp] theorem State.out_modNoc (f : Noc → Noc) : (s.modNoc f).out = s.out := rfl

/-! ## `modPwr` -/

@[simp] theorem State.pending_modPwr (f : Power → Power) : (s.modPwr f).pending = s.pending := rfl
@[simp] theorem State.grade_modPwr (f : Power → Power) : (s.modPwr f).grade = s.grade := rfl
@[simp] theorem State.stepping_modPwr (f : Power → Power) : (s.modPwr f).stepping = s.stepping := rfl
@[simp] theorem State.free_modPwr (f : Power → Power) : (s.modPwr f).free = s.free := rfl
@[simp] theorem State.regs_modPwr (f : Power → Power) : (s.modPwr f).regs = s.regs := rfl
@[simp] theorem State.held_modPwr (f : Power → Power) : (s.modPwr f).held = s.held := rfl
@[simp] theorem State.latches_modPwr (f : Power → Power) : (s.modPwr f).latches = s.latches := rfl
@[simp] theorem State.fab_modPwr (f : Power → Power) : (s.modPwr f).fab = s.fab := rfl
@[simp] theorem State.parts_modPwr (f : Power → Power) : (s.modPwr f).parts = s.parts := rfl
@[simp] theorem State.dram_modPwr (f : Power → Power) : (s.modPwr f).dram = s.dram := rfl
@[simp] theorem State.host_modPwr (f : Power → Power) : (s.modPwr f).host = s.host := rfl
@[simp] theorem State.trace_modPwr (f : Power → Power) : (s.modPwr f).trace = s.trace := rfl
@[simp] theorem State.noc_modPwr (f : Power → Power) : (s.modPwr f).noc = s.noc := rfl
@[simp] theorem State.time_modPwr (f : Power → Power) : (s.modPwr f).time = s.time := rfl
@[simp] theorem State.wl_modPwr (f : Power → Power) : (s.modPwr f).wl = s.wl := rfl
@[simp] theorem State.pins_modPwr (f : Power → Power) : (s.modPwr f).pins = s.pins := rfl
@[simp] theorem State.pwr_modPwr (f : Power → Power) : (s.modPwr f).pwr = f s.pwr := rfl
@[simp] theorem State.sys_modPwr (f : Power → Power) : (s.modPwr f).sys = s.sys := rfl
@[simp] theorem State.svc_modPwr (f : Power → Power) : (s.modPwr f).svc = s.svc := rfl
@[simp] theorem State.out_modPwr (f : Power → Power) : (s.modPwr f).out = s.out := rfl

/-! ## Registers -/

/-- What a field reads as at power-up does not depend on the registers. -/
@[simp] theorem State.rst_setReg (f g : Fld) (i j v i' j' : Nat) : (s.setReg f i j v).rst g i' j' = s.rst g i' j' := rfl

theorem Fld.key_ne {f g : Fld} {i j i' j' : Nat} (h : f ≠ g ∨ i ≠ i' ∨ j ≠ j') : f.key i j ≠ g.key i' j' := by
  intro e
  simp only [Fld.key, List.cons.injEq, and_true] at e
  have hf : f = g := by
    have := congrArg Fld.ofNat e.1
    simpa [Fld.ofNat_ctorIdx] using this
  rcases h with h | h | h
  · exact h hf
  · exact h e.2.1
  · exact h e.2.2

/-- A field that is set reads as the value, truncated to its width. -/
@[simp] theorem State.reg_setReg_self (f : Fld) (i j v : Nat) : (s.setReg f i j v).reg f i j = v % 2 ^ f.width := by
  simp only [State.reg, State.setReg]
  rw [Tab.get_put_self]
  split
  · next h => exact h.symm
  · rfl

/-- Every other field, or another instance, reads as before. -/
theorem State.reg_setReg_other {f g : Fld} {i j i' j' : Nat} (v : Nat) (h : f ≠ g ∨ i ≠ i' ∨ j ≠ j') :
    (s.setReg f i j v).reg g i' j' = s.reg g i' j' := by
  simp only [State.reg, State.setReg]
  rw [Tab.get_put_other (Fld.key_ne h)]
  rfl

theorem State.reg_setReg (f g : Fld) (i j v i' j' : Nat) :
    (s.setReg f i j v).reg g i' j' = if f = g ∧ i = i' ∧ j = j' then v % 2 ^ f.width else s.reg g i' j' := by
  by_cases h : f = g ∧ i = i' ∧ j = j'
  · obtain ⟨rfl, rfl, rfl⟩ := h; simp
  · rw [if_neg h, State.reg_setReg_other]
    by_contra c; push Not at c; exact h c

/-- A field of another kind reads as before. -/
@[simp] theorem State.reg_setReg_fld {f g : Fld} (h : f ≠ g) (i j v i' j' : Nat) :
    (s.setReg f i j v).reg g i' j' = s.reg g i' j' := s.reg_setReg_other v (.inl h)

@[simp] theorem State.reg_setFlag_self (f : Fld) (i j : Nat) (b : Bool) :
    (s.setFlag f i j b).reg f i j = b2n b % 2 ^ f.width := s.reg_setReg_self f i j _

@[simp] theorem State.reg_setFlag_fld {f g : Fld} (h : f ≠ g) (i j : Nat) (b : Bool) (i' j' : Nat) :
    (s.setFlag f i j b).reg g i' j' = s.reg g i' j' := s.reg_setReg_fld h i j _ i' j'

@[simp] theorem State.reg_bump_self (f : Fld) (i j n : Nat) :
    (s.bump f i j n).reg f i j = min (2 ^ f.width - 1) (s.reg f i j + n) := by
  rw [State.bump, State.reg_setReg_self, Nat.mod_eq_of_lt]
  have := Nat.two_pow_pos f.width
  omega

@[simp] theorem State.reg_bump_fld {f g : Fld} (h : f ≠ g) (i j n i' j' : Nat) :
    (s.bump f i j n).reg g i' j' = s.reg g i' j' := s.reg_setReg_fld h i j _ i' j'

/-! ## Partitions, queues and mailboxes -/

@[simp] theorem State.part_modPart_self (p : Nat) (g : Part → Part) : (s.modPart p g).part p = g (s.part p) := by
  simp only [State.part, State.modPart, Tab.get_put_self]

theorem State.part_modPart_other {p q : Nat} (g : Part → Part) (h : q ≠ p) : (s.modPart p g).part q = s.part q := by
  simp only [State.part, State.modPart]
  exact Tab.get_put_other (by simpa using Ne.symm h)

@[simp] theorem State.queue_modQueue_self (q : Nat) (g : Queue → Queue) : (s.modQueue q g).queue q = g (s.queue q) := by
  simp only [State.queue, State.modQueue, Tab.get_put_self]

theorem State.queue_modQueue_other {p q : Nat} (g : Queue → Queue) (h : q ≠ p) : (s.modQueue p g).queue q = s.queue q := by
  simp only [State.queue, State.modQueue]
  exact Tab.get_put_other (by simpa using Ne.symm h)

@[simp] theorem State.box_modBox_self (n m : Nat) (g : Mailbox → Mailbox) : (s.modBox n m g).box n m = g (s.box n m) := by
  simp only [State.box, State.modBox, Tab.get_put_self]

/-! ## Host memory -/

/-- The bytes the module writes to host memory read back as written. -/
theorem State.getRun_hostWrite (port addr : Nat) (bs : Bytes) :
    Tab.getRun none (s.hostWrite port addr bs).host.mem [port] addr bs.length = bs.map some := by
  have h := Tab.getRun_putRun (d := (none : Option Byte)) (pre := [port]) (vs := bs.map some) (i := addr) (t := s.host.mem)
  simpa [State.hostWrite] using h

end Sys2Proof.Machine
end

