-- ==== Sys2Proof/Laws/Ops.lean ====
section
/-! SUPPORT. What running a mailbox command does (`runCmd`, `refuseIf`, `State.begin`, `State.answer`), said once: a fresh command
has its effect on the state in which it is BUSY, and then its answer; nothing but the host interface changes by that. -/

namespace Sys2Proof.Machine

variable (s : State)

@[simp] theorem State.pending_begin (r : CmdRef) (c : Nat) (ps : Bytes) (p : Nat) (n : Option Nat) (h : Bytes) :
    (s.begin r c ps p n h).pending = s.pending := by
  unfold State.begin; split <;> rfl
@[simp] theorem State.grade_begin (r : CmdRef) (c : Nat) (ps : Bytes) (p : Nat) (n : Option Nat) (h : Bytes) :
    (s.begin r c ps p n h).grade = s.grade := by
  unfold State.begin; split <;> rfl
@[simp] theorem State.stepping_begin (r : CmdRef) (c : Nat) (ps : Bytes) (p : Nat) (n : Option Nat) (h : Bytes) :
    (s.begin r c ps p n h).stepping = s.stepping := by
  unfold State.begin; split <;> rfl
@[simp] theorem State.free_begin (r : CmdRef) (c : Nat) (ps : Bytes) (p : Nat) (n : Option Nat) (h : Bytes) :
    (s.begin r c ps p n h).free = s.free := by
  unfold State.begin; split <;> rfl
@[simp] theorem State.regs_begin (r : CmdRef) (c : Nat) (ps : Bytes) (p : Nat) (n : Option Nat) (h : Bytes) :
    (s.begin r c ps p n h).regs = s.regs := by
  unfold State.begin; split <;> rfl
@[simp] theorem State.held_begin (r : CmdRef) (c : Nat) (ps : Bytes) (p : Nat) (n : Option Nat) (h : Bytes) :
    (s.begin r c ps p n h).held = s.held := by
  unfold State.begin; split <;> rfl
@[simp] theorem State.latches_begin (r : CmdRef) (c : Nat) (ps : Bytes) (p : Nat) (n : Option Nat) (h : Bytes) :
    (s.begin r c ps p n h).latches = s.latches := by
  unfold State.begin; split <;> rfl
@[simp] theorem State.fab_begin (r : CmdRef) (c : Nat) (ps : Bytes) (p : Nat) (n : Option Nat) (h : Bytes) :
    (s.begin r c ps p n h).fab = s.fab := by
  unfold State.begin; split <;> rfl
@[simp] theorem State.parts_begin (r : CmdRef) (c : Nat) (ps : Bytes) (p : Nat) (n : Option Nat) (h : Bytes) :
    (s.begin r c ps p n h).parts = s.parts := by
  unfold State.begin; split <;> rfl
@[simp] theorem State.dram_begin (r : CmdRef) (c : Nat) (ps : Bytes) (p : Nat) (n : Option Nat) (h : Bytes) :
    (s.begin r c ps p n h).dram = s.dram := by
  unfold State.begin; split <;> rfl
@[simp] theorem State.trace_begin (r : CmdRef) (c : Nat) (ps : Bytes) (p : Nat) (n : Option Nat) (h : Bytes) :
    (s.begin r c ps p n h).trace = s.trace := by
  unfold State.begin; split <;> rfl
@[simp] theorem State.noc_begin (r : CmdRef) (c : Nat) (ps : Bytes) (p : Nat) (n : Option Nat) (h : Bytes) :
    (s.begin r c ps p n h).noc = s.noc := by
  unfold State.begin; split <;> rfl
@[simp] theorem State.time_begin (r : CmdRef) (c : Nat) (ps : Bytes) (p : Nat) (n : Option Nat) (h : Bytes) :
    (s.begin r c ps p n h).time = s.time := by
  unfold State.begin; split <;> rfl
@[simp] theorem State.wl_begin (r : CmdRef) (c : Nat) (ps : Bytes) (p : Nat) (n : Option Nat) (h : Bytes) :
    (s.begin r c ps p n h).wl = s.wl := by
  unfold State.begin; split <;> rfl
@[simp] theorem State.pins_begin (r : CmdRef) (c : Nat) (ps : Bytes) (p : Nat) (n : Option Nat) (h : Bytes) :
    (s.begin r c ps p n h).pins = s.pins := by
  unfold State.begin; split <;> rfl
@[simp] theorem State.pwr_begin (r : CmdRef) (c : Nat) (ps : Bytes) (p : Nat) (n : Option Nat) (h : Bytes) :
    (s.begin r c ps p n h).pwr = s.pwr := by
  unfold State.begin; split <;> rfl
@[simp] theorem State.sys_begin (r : CmdRef) (c : Nat) (ps : Bytes) (p : Nat) (n : Option Nat) (h : Bytes) :
    (s.begin r c ps p n h).sys = s.sys := by
  unfold State.begin; split <;> rfl
@[simp] theorem State.svc_begin (r : CmdRef) (c : Nat) (ps : Bytes) (p : Nat) (n : Option Nat) (h : Bytes) :
    (s.begin r c ps p n h).svc = s.svc := by
  unfold State.begin; split <;> rfl
@[simp] theorem State.out_begin (r : CmdRef) (c : Nat) (ps : Bytes) (p : Nat) (n : Option Nat) (h : Bytes) :
    (s.begin r c ps p n h).out = s.out := by
  unfold State.begin; split <;> rfl

@[simp] theorem State.reg_begin (r : CmdRef) (c : Nat) (ps : Bytes) (p : Nat) (n : Option Nat) (h : Bytes) (f : Fld) (i j : Nat) :
    (s.begin r c ps p n h).reg f i j = s.reg f i j := by
  unfold State.begin; split <;> rfl

/-- An answered command leaves everything but the host interface as it was. -/
theorem State.answer_keeps (r : CmdRef) (a : Answer) : ∃ h, s.answer r a = { s with host := h } := by
  rw [State.answer]
  split
  · exact ⟨s.host, rfl⟩
  · split
    · exact ⟨s.host, rfl⟩
    · dsimp only
      split <;> split <;> refine ⟨_, State.mk.injEq .. |>.mpr ⟨?_, ?_, ?_, ?_, ?_, ?_, ?_, ?_, ?_, ?_, rfl, ?_, ?_, ?_, ?_, ?_, ?_, ?_, ?_, ?_⟩⟩ <;>
        simp [State.persistAudit]

@[simp] theorem State.pending_answer (r : CmdRef) (a : Answer) : (s.answer r a).pending = s.pending := by
  obtain ⟨h, e⟩ := s.answer_keeps r a; rw [e]
@[simp] theorem State.grade_answer (r : CmdRef) (a : Answer) : (s.answer r a).grade = s.grade := by
  obtain ⟨h, e⟩ := s.answer_keeps r a; rw [e]
@[simp] theorem State.stepping_answer (r : CmdRef) (a : Answer) : (s.answer r a).stepping = s.stepping := by
  obtain ⟨h, e⟩ := s.answer_keeps r a; rw [e]
@[simp] theorem State.free_answer (r : CmdRef) (a : Answer) : (s.answer r a).free = s.free := by
  obtain ⟨h, e⟩ := s.answer_keeps r a; rw [e]
@[simp] theorem State.regs_answer (r : CmdRef) (a : Answer) : (s.answer r a).regs = s.regs := by
  obtain ⟨h, e⟩ := s.answer_keeps r a; rw [e]
@[simp] theorem State.held_answer (r : CmdRef) (a : Answer) : (s.answer r a).held = s.held := by
  obtain ⟨h, e⟩ := s.answer_keeps r a; rw [e]
@[simp] theorem State.latches_answer (r : CmdRef) (a : Answer) : (s.answer r a).latches = s.latches := by
  obtain ⟨h, e⟩ := s.answer_keeps r a; rw [e]
@[simp] theorem State.fab_answer (r : CmdRef) (a : Answer) : (s.answer r a).fab = s.fab := by
  obtain ⟨h, e⟩ := s.answer_keeps r a; rw [e]
@[simp] theorem State.parts_answer (r : CmdRef) (a : Answer) : (s.answer r a).parts = s.parts := by
  obtain ⟨h, e⟩ := s.answer_keeps r a; rw [e]
@[simp] theorem State.dram_answer (r : CmdRef) (a : Answer) : (s.answer r a).dram = s.dram := by
  obtain ⟨h, e⟩ := s.answer_keeps r a; rw [e]
@[simp] theorem State.trace_answer (r : CmdRef) (a : Answer) : (s.answer r a).trace = s.trace := by
  obtain ⟨h, e⟩ := s.answer_keeps r a; rw [e]
@[simp] theorem State.noc_answer (r : CmdRef) (a : Answer) : (s.answer r a).noc = s.noc := by
  obtain ⟨h, e⟩ := s.answer_keeps r a; rw [e]
@[simp] theorem State.time_answer (r : CmdRef) (a : Answer) : (s.answer r a).time = s.time := by
  obtain ⟨h, e⟩ := s.answer_keeps r a; rw [e]
@[simp] theorem State.wl_answer (r : CmdRef) (a : Answer) : (s.answer r a).wl = s.wl := by
  obtain ⟨h, e⟩ := s.answer_keeps r a; rw [e]
@[simp] theorem State.pins_answer (r : CmdRef) (a : Answer) : (s.answer r a).pins = s.pins := by
  obtain ⟨h, e⟩ := s.answer_keeps r a; rw [e]
@[simp] theorem State.pwr_answer (r : CmdRef) (a : Answer) : (s.answer r a).pwr = s.pwr := by
  obtain ⟨h, e⟩ := s.answer_keeps r a; rw [e]
@[simp] theorem State.sys_answer (r : CmdRef) (a : Answer) : (s.answer r a).sys = s.sys := by
  obtain ⟨h, e⟩ := s.answer_keeps r a; rw [e]
@[simp] theorem State.svc_answer (r : CmdRef) (a : Answer) : (s.answer r a).svc = s.svc := by
  obtain ⟨h, e⟩ := s.answer_keeps r a; rw [e]
@[simp] theorem State.out_answer (r : CmdRef) (a : Answer) : (s.answer r a).out = s.out := by
  obtain ⟨h, e⟩ := s.answer_keeps r a; rw [e]

@[simp] theorem State.reg_answer (r : CmdRef) (a : Answer) (f : Fld) (i j : Nat) : (s.answer r a).reg f i j = s.reg f i j :=
  s.reg_of (by simp) (by simp) (by simp) (by simp) f i j

@[simp] theorem State.reg_done (r : CmdRef) (st : Status) (f : Fld) (i j : Nat) : (s.done r st).reg f i j = s.reg f i j :=
  s.reg_answer r _ f i j

/-! ## A fresh command -/

theorem State.fresh_off {r : CmdRef} (h : s.fresh r = true) : s.sys.off = false := by
  simp [State.fresh] at h; exact h.1.1.1

theorem State.fresh_recovery {r : CmdRef} (h : s.fresh r = true) : s.sys.recovery = false := by
  simp [State.fresh] at h; exact h.1.1.2

theorem State.fresh_busy {r : CmdRef} (h : s.fresh r = true) : s.busyOf r = none := by
  simp [State.fresh] at h; exact h.1.2

theorem State.fresh_awaits {r : CmdRef} (h : s.fresh r = true) : s.awaits r = false := by
  simp [State.fresh] at h; exact h.2

/-- A fresh command that begins is BUSY without an answer. -/
theorem State.busyOf_begin {r : CmdRef} (h : s.busyOf r = none) (c : Nat) (ps : Bytes) (p : Nat) (n : Option Nat) (i : Bytes) :
    (s.begin r c ps p n i).busyOf r = some ⟨r, c, ps, n, p, s.role r.org, i, none⟩ := by
  have h' : s.host.busy.find? (fun b => b.ref = r) = none := h
  simp [State.begin, State.busyOf, List.find?_append, h']

/-- What a fresh command does: its effect on the state in which it is BUSY, then its answer if it has one. -/
theorem runCmd_fresh {r : CmdRef} {c : Nat} {ps : Bytes} {p : Nat} {f : State → CmdRes} (h : s.fresh r = true) :
    runCmd r c ps p f s =
      match (f (s.begin r c ps p none (s.hostIdOf r.org))).2 with
      | none => (f (s.begin r c ps p none (s.hostIdOf r.org))).1
      | some a => (f (s.begin r c ps p none (s.hostIdOf r.org))).1.answer r a := by
  have h1 := s.fresh_off h
  have h2 := s.fresh_busy h
  have h3 := s.fresh_awaits h
  have h4 := s.fresh_recovery h
  simp [runCmd, State.recoveryRefuses, *] <;> rfl

/-- No condition broken: the command goes on. -/
theorem refuseIf_ok {cs : List (Bool × Status)} {k : State → CmdRes} (h : ∀ c ∈ cs, c.1 = false) : refuseIf cs s k = k s := by
  rw [refuseIf, List.find?_eq_none.2 (fun c hc => by simp [h c hc])]

/-- The first condition is broken: the command is refused with its status, and changes nothing. -/
theorem refuseIf_head {c : Bool × Status} {cs : List (Bool × Status)} {k : State → CmdRes} (h : c.1 = true) :
    refuseIf (c :: cs) s k = s.says c.2 := by
  rw [refuseIf, List.find?_cons_of_pos h]

/-- The first condition holds: the next ones decide. -/
theorem refuseIf_tail {c : Bool × Status} {cs : List (Bool × Status)} {k : State → CmdRes} (h : c.1 = false) :
    refuseIf (c :: cs) s k = refuseIf cs s k := by
  rw [refuseIf, refuseIf, List.find?_cons_of_neg (by simp [h])]

/-- The status of a command that is answered for the first time. -/
theorem State.statusOf_answer {r : CmdRef} {b : Busy} (a : Answer) (h : s.busyOf r = some b) (hb : b.ans = none) :
    (s.answer r a).statusOf r = some a.status := by
  have hr : b.ref = r := by simpa using List.find?_some h
  have key : ∀ l : List Busy, l.find? (fun x => x.ref = r) = some b →
      (l.map (fun x => if x.ref = r then { x with ans := some a } else x)).find? (fun x => x.ref = r) =
        some { b with ans := some a } := by
    intro l
    induction l with
    | nil => intro e; cases e
    | cons x l ih =>
      intro e
      by_cases hx : x.ref = r
      · rw [List.find?_cons_of_pos (by simpa using hx)] at e
        cases e
        simp [hx]
      · rw [List.find?_cons_of_neg (by simpa using hx)] at e
        simp [hx, ih e]
  have hs : ∀ t : State, t.host.busy = s.host.busy →
      ({ t with host := { t.host with busy := t.host.busy.map (fun x => if x.ref = r then { x with ans := some a } else x) } } : State).statusOf r
        = some a.status := by
    intro t ht
    simp only [State.statusOf, State.busyOf, ht]
    rw [key _ h]
    rfl
  rw [State.answer]
  simp only [h, hb]
  apply hs
  split <;> split <;> simp [State.persistAudit, State.audit]

end Sys2Proof.Machine
end

