-- ==== Sys2Proof/WellFormed.lean ====
section
/-! DEFINITION. Well-formed commands: every operand fits the field that carries it. A value that fits its field and
names nothing the module has (a partition 40, a mailbox command for anvil 9) is well formed: the command's own rule
says what happens (R444). -/

namespace Sys2Proof

/-- An origin names a port, a session or a processor that exists (R9, R18, R303). -/
def Origin.fits : Origin → Bool
  | .host n => decide (n < 4)
  | .mgmt k => decide (k < 4)
  | .uart => true
  | .cp c => decide (c < 9)

/-- The identity of a command: its origin, one of 16 mailboxes or 4,096 + q for an entry of command queue q, a 32-bit SEQ
(R305, R308, R312). -/
def CmdRef.fits (r : CmdRef) : Bool := r.org.fits && decide (r.slot < 16 ∨ (4096 ≤ r.slot ∧ r.slot < 8192)) && decide (r.seq < 2 ^ 32)

/-- The index of a stored word names a word of its store (R43, R55, R88, R105, R121). -/
def Store.keyFits : Store → List Nat → Bool
  | .instr, [a, h, b, t] => decide (a < 8) && decide (h < 128) && decide (b < 1024) && decide (t < 1024)
  | .route, [a, h, b, t] => decide (a < 8) && decide (h < 128) && decide (b < 1024) && decide (t < 1024)
  | .egress, [a, h, t, e] => decide (a < 8) && decide (h < 128) && decide (t < 1024) && decide (e < 256)
  | .inject, [a, h, t, k] => decide (a < 8) && decide (h < 128) && decide (t < 1024) && decide (k < 16)
  | .dict, [a, h, k] => decide (a < 8) && decide (h < 128) && decide (k < 256)
  | .bank, [a, h, b, w] => decide (a < 8) && decide (h < 128) && decide (b < 2) && decide (w < 16384)
  | .link, [a, l] => decide (a < 8) && decide (l < 3)
  | _, _ => false

/-- A packet to send has the widths of R281: at most 64 bytes, of a source, a destination and a tag that the header can
name. -/
def NocReq.fits (q : NocReq) : Bool :=
  decide (q.type < 16) && decide (q.src < 256) && decide (q.dst < 256) && decide (q.hearth < 8) && decide (q.tag < 1024) &&
    decide (q.addr < 2 ^ 64) && decide (q.be < 2 ^ 64) && decide (q.len ≤ 64) && decide (q.data.length ≤ 64)

/-- An error strikes a bit of the header flit, or one of the 72 bits of one of the eight 64-bit groups of two data flits. -/
def NocFlaw.fits (w : NocFlaw) : Bool :=
  w.header.all (fun n => decide (n < 256)) && w.flits.all (fun e => decide (e.1 < 8) && decide (e.2 < 72))

/-- An event of the network names a router and a port code of R276, or a channel of a link port. -/
def NocEvent.fits : NocEvent → Bool
  | .send q => q.fits
  | .pass a r out flaw => decide (a < 8) && decide (r < 16) && decide (out < 7) && flaw.fits
  | .arrive a port => decide (a < 8) && decide (port < 5)

/-- A DMA access is for a command, or for a request that a header can name. -/
def DmaFor.fits : DmaFor → Bool
  | .cmd r => r.fits
  | .noc src dst tag => decide (src < 256) && decide (dst < 256) && decide (tag < 1024)

/-- Symbols in error of a burst name one of the 80 symbols of the codeword and a byte added to it (R256). -/
def symbolsFit (bad : List (Nat × Nat)) : Bool := bad.all (fun e => decide (e.1 < 80) && decide (e.2 < 256))

/-- A read of a page names one of its 64 bursts of 64 bytes (R254). -/
def BurstRead.fits (b : BurstRead) : Bool := decide (b.burst < 64) && symbolsFit b.bad && symbolsFit b.second

/-- A block of a lane: a sync header of two bits and eight bytes (R332). -/
def WlBlock.fits (b : WlBlock) : Bool := decide (b.sync < 4) && decide (b.bytes.length = 8)

/-- A PTP message comes from a clock identity of 64 bits in a domain of 8 bits (R363). -/
def PtpMsg.fits (m : PtpMsg) : Bool := decide (m.domain < 256) && decide (m.source < 2 ^ 64)

/-- A frame carries a 16-bit LSEQ and 56 header bytes (R335). -/
def WlFrame.fits (f : WlFrame) : Bool :=
  decide (f.lseq < 2 ^ 16) && decide (f.header.length = 56) && decide (f.payload.length ≤ 4096) && decide (f.crc < 2 ^ 32)

/-- The fields of a CAP block have the widths of R348. -/
def CapFields.fits (c : CapFields) : Bool :=
  decide (c.lane < 256) && decide (c.rate < 4) && decide (c.nlanes < 16) && decide (c.bundle < 256) && decide (c.ident < 2 ^ 32)

/-- What a trace source reports fits the fields of its packet (R237, R239). -/
def TraceItem.fits : TraceItem → Bool
  | .branch icount target => decide (icount < 2 ^ 32) && decide (target < 2 ^ 64)
  | .exception vector target => decide (vector < 2 ^ 8) && decide (target < 2 ^ 64)
  | .data _ size addr => decide (size < 2 ^ 7) && decide (addr < 2 ^ 64)
  | .noc router code value => decide (router < 2 ^ 8) && decide (code < 2 ^ 8) && decide (value < 2 ^ 32)
  | .dram code rank bank addr => decide (code < 2 ^ 8) && decide (rank < 2) && decide (bank < 32) && addr.all (fun x => decide (x < 2 ^ 64))
  | .sched code queue engine prio => decide (code < 2 ^ 8) && decide (queue < 2 ^ 16) && decide (engine < 2 ^ 8) && decide (prio < 2 ^ 8)
  | .power code value => decide (code < 2 ^ 8) && decide (value < 2 ^ 32)

/-- A reading names a tap that exists (R421). -/
def TapReading.fits (t : TapReading) : Bool :=
  decide (t.anvil < 8) && decide (t.hearth < 128) && decide (t.monitor < 5) && decide (t.tap < 8)

/-- Every operand of a command fits its field. -/
def Instr.wellFormed : Instr → Bool
  | .step p ups => decide (p < 32) && ups.all (fun u => u.store.keyFits u.key)
  | .dmaBankTimeout who => who.fits
  | .dramReadReturn a _ => decide (a < 8)
  | .cycleBoundary p => decide (p < 32)
  | .freezeLands p => decide (p < 32)
  | .partitionResume p => decide (p < 32)
  | .hostAbort o p => o.fits && decide (p < 32)
  | .timerExpired p j => decide (p < 32) && decide (j < 8)
  | .timeReached p => decide (p < 32)
  | .trigCtlArm o p => o.fits && decide (p < 32)
  | .trigCtlDisarm o p => o.fits && decide (p < 32)
  | .captureDrainComplete p => decide (p < 32)
  | .acqSegmentOpen p => decide (p < 32)
  | .partCreate r p regions port => r.fits && decide (p < 2 ^ 8) && decide (regions < 2 ^ 64) && decide (port < 2 ^ 8)
  | .partDestroy r p => r.fits && decide (p < 2 ^ 8)
  | .partBind r p port => r.fits && decide (p < 2 ^ 8) && decide (port < 2 ^ 8)
  | .partRun r p mode ackFault cycles => r.fits && decide (p < 2 ^ 8) && decide (mode < 2 ^ 8) && decide (ackFault < 2 ^ 8) && decide (cycles < 2 ^ 64)
  | .partStop r p flush ackFault => r.fits && decide (p < 2 ^ 8) && decide (flush < 2 ^ 8) && decide (ackFault < 2 ^ 8)
  | .partHalt r p now ackFault => r.fits && decide (p < 2 ^ 8) && decide (now < 2 ^ 8) && decide (ackFault < 2 ^ 8)
  | .partResume r p ackFault => r.fits && decide (p < 2 ^ 8) && decide (ackFault < 2 ^ 8)
  | .partUnload r p => r.fits && decide (p < 2 ^ 8)
  | .partLoad r p srcPort addr length flags => r.fits && decide (p < 2 ^ 8) && decide (srcPort < 2 ^ 8) && decide (addr < 2 ^ 64) && decide (length < 2 ^ 64) && decide (flags < 2 ^ 8)
  | .loadDequeue => true
  | .loadHeader p _ => decide (p < 2 ^ 8)
  | .loadPlan p _ => decide (p < 2 ^ 8)
  | .loadCheck p _ => decide (p < 2 ^ 8)
  | .loadPrepare p => decide (p < 2 ^ 8)
  | .loadSetup p _ => decide (p < 2 ^ 8)
  | .hearthVerify p _ _ => decide (p < 2 ^ 8)
  | .imageKeySet r slot key _ => r.fits && decide (slot < 2 ^ 8) && decide (key.length = 97)
  | .imageKeyClear r slot _ => r.fits && decide (slot < 2 ^ 8)
  | .captureRequest r p at_ cycle edge flags => r.fits && decide (p < 2 ^ 8) && decide (at_ < 2 ^ 8) && decide (cycle < 2 ^ 64) && decide (edge < 2 ^ 8) && decide (flags < 2 ^ 32)
  | .captureRelease r p => r.fits && decide (p < 2 ^ 8)
  | .captureDramRead r p anvil offset length addr => r.fits && decide (p < 2 ^ 8) && decide (anvil < 2 ^ 8) && decide (offset < 2 ^ 64) && decide (length < 2 ^ 64) && decide (addr < 2 ^ 64)
  | .stateRead r p kind anvil hearth first count addr => r.fits && decide (p < 2 ^ 8) && decide (kind < 2 ^ 8) && decide (anvil < 2 ^ 8) && decide (hearth < 2 ^ 8) && decide (first < 2 ^ 64) && decide (count < 2 ^ 64) && decide (addr < 2 ^ 64)
  | .stateDeposit r p kind anvil hearth first count addr flags data => r.fits && decide (p < 2 ^ 8) && decide (kind < 2 ^ 8) && decide (anvil < 2 ^ 8) && decide (hearth < 2 ^ 8) && decide (first < 2 ^ 64) && decide (count < 2 ^ 64) && decide (addr < 2 ^ 64) && decide (flags < 2 ^ 8) && decide (data.length ≤ 4294967296)
  | .tracePacketEmit src item => decide (src < 64) && item.fits
  | .traceStallEnd c => decide (c < 9)
  | .traceStallLimit c => decide (c < 9)
  | .traceOverflowRecovery src => decide (src < 64)
  | .funnelBlockWrite => true
  | .traceEnable o => o.fits
  | .traceDisable o => o.fits
  | .traceTrigger kind k => decide (kind < 4) && decide (k < 32)
  | .stopNow o => o.fits
  | .stopDelayReached => true
  | .cpSleep c level icount target => decide (c < 9) && decide (1 ≤ level) && decide (level < 4) && decide (icount < 2 ^ 32) && decide (target < 2 ^ 64)
  | .cpWake c addr => decide (c < 9) && decide (addr < 2 ^ 64)
  | .traceBufAlloc r anvil sizeLog2 => r.fits && decide (anvil < 2 ^ 8) && decide (sizeLog2 < 2 ^ 8)
  | .traceBufFree r => r.fits
  | .dramRequestServe a _ bad second crc => decide (a < 8) && symbolsFit bad && symbolsFit second && decide (crc ≤ 4)
  | .phyTrainingLoss a sub => decide (a < 8) && decide (sub < 2)
  | .deviceDiagnosis a sub rank failing => decide (a < 8) && decide (sub < 2) && decide (rank < 2) && decide (failing < 2 ^ 5)
  | .markRediagnosis a sub rank failing => decide (a < 8) && decide (sub < 2) && decide (rank < 2) && decide (failing < 2 ^ 5)
  | .pageRetirement a page reads => decide (a < 8) && decide (page < 2 ^ 23) && reads.all BurstRead.fits
  | .migrationStep a reads => decide (a < 8) && reads.all BurstRead.fits
  | .patrolScrub a sub => decide (a < 8) && decide (sub < 2)
  | .agePromotion a _ => decide (a < 8)
  | .sameBankRefresh a sub bank_ => decide (a < 8) && decide (sub < 2) && decide (bank_ < 32)
  | .allBankRefresh a sub => decide (a < 8) && decide (sub < 2)
  | .refreshEnd a sub => decide (a < 8) && decide (sub < 2)
  | .rankPowerDown a sub rank => decide (a < 8) && decide (sub < 2) && decide (rank < 2)
  | .dramFrozenTimeout a _ => decide (a < 8)
  | .stewardThaw a _ => decide (a < 8)
  | .ddrThaw r a action _ => r.fits && decide (a < 2 ^ 8) && decide (action < 2 ^ 8)
  | .ddrRetirePage r a addr => r.fits && decide (a < 2 ^ 8) && decide (addr < 2 ^ 64)
  | .ddrMarkSet r a sub rank device => r.fits && decide (a < 2 ^ 8) && decide (sub < 2 ^ 8) && decide (rank < 2 ^ 8) && decide (device < 2 ^ 8)
  | .nocRequest e => e.fits
  | .nocCompletion e => e.fits
  | .nocCplTimeout a tag => decide (a < 9) && decide (tag < 1024)
  | .tagRelease a tag => decide (a < 9) && decide (tag < 1024)
  | .linkFlitReplay a port => decide (a < 8) && decide (port < 4)
  | .routeChangeStart ref table => (match ref with | some r => r.fits | none => true) && table.all (fun e => decide (e.2 < 8))
  | .shadowValid => true
  | .epochSwitch => true
  | .epochRetired => true
  | .epochFenceTimeout => true
  | .nocEpochBusy r => r.fits
  | .fenceRequest region => decide (region < 64)
  | .regionFenced region => decide (region < 64)
  | .nocDrainTimeout region => decide (region < 64)
  | .anvilDomainOff a => decide (a < 8)
  | .registerWrite o addr size _ => o.fits && decide (addr < 2 ^ 31 + 2 ^ 18) && decide (size < 4096)
  | .rcFieldRead o addr size => o.fits && decide (addr < 2 ^ 31 + 2 ^ 18) && decide (size < 4096)
  | .loWordRead o addr size => o.fits && decide (addr < 2 ^ 31 + 2 ^ 18) && decide (size < 4096)
  | .hostPortReset n _ => decide (n < 4)
  | .hostDmaFailure _ r _ => r.fits
  | .mboxGo n m record => decide (n < 4) && decide (m < 16) && decide (record.length ≤ 2048)
  | .mboxAck n m => decide (n < 4) && decide (m < 16)
  | .commandStart => true
  | .mgmtSessionOpen fingerprint => decide (fingerprint.length = 48)
  | .mgmtSessionClose k => decide (k < 4)
  | .mgmtMessage k record => decide (k < 4) && decide (record.length ≤ 2048)
  | .uartFrame record crc => decide (record.length ≤ 2048) && decide (crc < 2 ^ 32)
  | .queueDoorbell o q index => o.fits && decide (q < 4096) && decide (index < 2 ^ 32)
  | .queueEnable o q value => o.fits && decide (q < 4096) && decide (value < 2)
  | .taskSoftFlagSet o q flags => o.fits && decide (q < 4096) && decide (flags < 2 ^ 16)
  | .taskDispatch engine _ => (decide (engine < 9) || (decide (16 ≤ engine) && decide (engine < 32)))
  | .interruptCoalesceTimeout q => decide (q < 4096)
  | .hostIdentify r ident => r.fits && decide (ident.length = 16)
  | .queueAssign r q part port => r.fits && decide (q < 2 ^ 16) && decide (part < 2 ^ 8) && decide (port < 2 ^ 8)
  | .queueSetup r q type sizeLog2 entryLog2 base wb pair => r.fits && decide (q < 2 ^ 16) && decide (type < 2 ^ 8) && decide (sizeLog2 < 2 ^ 8) && decide (entryLog2 < 2 ^ 8) && decide (base < 2 ^ 64) && decide (wb < 2 ^ 64) && decide (pair < 2 ^ 16)
  | .auditRead r first count addr => r.fits && decide (first < 2 ^ 64) && decide (count < 2 ^ 16) && decide (addr < 2 ^ 64)
  | .ownerCertSet r slot fingerprint _ => r.fits && decide (slot < 2 ^ 8) && decide (fingerprint.length = 48)
  | .roleGrant r port grant _ => r.fits && decide (port < 2 ^ 8) && decide (grant < 2 ^ 8)
  | .regRead r addr count => r.fits && decide (addr < 2 ^ 32) && decide (count < 2 ^ 16)
  | .regWrite r addr count words => r.fits && decide (addr < 2 ^ 32) && decide (count < 2 ^ 8) && words.all (fun v => decide (v < 2 ^ 32))
  | .auditPersist => true
  | .laneEnable o l => o.fits && decide (l < 68)
  | .laneDisable o l => o.fits && decide (l < 68)
  | .retrain o l => o.fits && decide (l < 68)
  | .terminationDetect l => decide (l < 68)
  | .cdrLock l => decide (l < 68)
  | .blockLock l => decide (l < 68)
  | .tsDetected l _ => decide (l < 68)
  | .trainTimeout l => decide (l < 68)
  | .lockLoss l => decide (l < 68)
  | .cap l c => decide (l < 68) && c.fits
  | .frame l f => decide (l < 68) && f.fits
  | .ack l lane lseq _ => decide (l < 68) && decide (lane < 8) && decide (lseq < 2 ^ 16)
  | .replayTimeout l => decide (l < 68)
  | .credit b stream gen limit => decide (b < 8) && decide (stream < 32) && decide (gen < 2) && decide (limit < 2 ^ 32)
  | .mark b stream count => decide (b < 8) && decide (stream < 32) && decide (count < 2 ^ 16)
  | .stop b stream number _ => decide (b < 8) && decide (stream < 32) && decide (number < 2 ^ 16)
  | .spare l lane k _ _ _ _ => decide (l < 68) && decide (lane < 8) && decide (k < 4)
  | .bank b _ _ => decide (b < 8)
  | .dsk b _ => decide (b < 8)
  | .dskSend b => decide (b < 8)
  | .frameTransmit stream => decide (stream < 32)
  | .creditSend stream => decide (stream < 32)
  | .creditStall stream => decide (stream < 32)
  | .statusBlockSend p => decide (p < 32)
  | .crcErrorLimit l => decide (l < 68)
  | .spareRequestRepeat l => decide (l < 68)
  | .bankExitSignal b => decide (b < 8)
  | .injGo o l => o.fits && decide (l < 68)
  | .wlStreamBind r stream part bundles inEn outEn => r.fits && decide (stream < 2 ^ 8) && decide (part < 2 ^ 8) && decide (bundles < 2 ^ 8) && decide (inEn < 2 ^ 8) && decide (outEn < 2 ^ 8)
  | .wlStreamUnbind r stream => r.fits && decide (stream < 2 ^ 8)
  | .wlLaneCtl r lane action => r.fits && decide (lane < 2 ^ 8) && decide (action < 2 ^ 8)
  | .wlBank r bundle enter => r.fits && decide (bundle < 2 ^ 8) && decide (enter < 2 ^ 8)
  | .timeIncrWrite o incrNs => o.fits && decide (incrNs < 2 ^ 8)
  | .refRateWrite o k rateNs => o.fits && decide (k < 4) && decide (rateNs < 2 ^ 8)
  | .refAdj o k adj => o.fits && decide (k < 4) && decide (adj < 2 ^ 32)
  | .counterMismatch => true
  | .ptpMessage m => m.fits
  | .delayReqSend => true
  | .ptpSourceLoss => true
  | .ppsEdge => true
  | .ppsLoss => true
  | .ppsOut => true
  | .freqSourceLoss => true
  | .pllRelock => true
  | .timeCapArm o src => o.fits && decide (src < 2 ^ 8)
  | .launchArm o k => o.fits && decide (k < 16)
  | .launchDisarm o k => o.fits && decide (k < 16)
  | .launch k => decide (k < 16)
  | .timeStep r mode value => r.fits && decide (mode < 2 ^ 8) && decide (value < 2 ^ 64)
  | .triggerInputEdge k => decide (k < 16)
  | .pinFuncSwitch o n func => o.fits && decide (n < 48) && decide (func < 2 ^ 8)
  | .pinOwnerWrite o n owner => o.fits && decide (n < 48) && decide (owner < 2 ^ 6)
  | .bankVselWrite o b vsel => o.fits && decide (b < 4) && decide (vsel < 4)
  | .bankRampDone b => decide (b < 4)
  | .gpioSet o _ mask => o.fits && decide (mask < 2 ^ 32)
  | .gpioClr o _ mask => o.fits && decide (mask < 2 ^ 32)
  | .gpioTgl o _ mask => o.fits && decide (mask < 2 ^ 32)
  | .pinShort n => decide (n < 48)
  | .shortClear o n => o.fits && decide (n < 48)
  | .strapClose => true
  | .strapOpen => true
  | .uartRxByte u byte _ => decide (u < 2) && decide (byte < 2 ^ 8)
  | .spUartCfg r u baud format => r.fits && decide (u < 2 ^ 8) && decide (baud < 2 ^ 32) && decide (format < 2 ^ 8)
  | .spUartSend r u len data => r.fits && decide (u < 2 ^ 8) && decide (len < 2 ^ 16) && decide (data.length ≤ 1024)
  | .spUartRecv r u max => r.fits && decide (u < 2 ^ 8) && decide (max < 2 ^ 16)
  | .spI2cXfer r bus speed addr wlen rlen data => r.fits && decide (bus < 2 ^ 8) && decide (speed < 2 ^ 8) && decide (addr < 2 ^ 64) && decide (wlen < 2 ^ 16) && decide (rlen < 2 ^ 16) && decide (data.length ≤ 256)
  | .spSpiXfer r cs mode div len data => r.fits && decide (cs < 2 ^ 8) && decide (mode < 2 ^ 8) && decide (div < 2 ^ 8) && decide (len < 2 ^ 16) && decide (data.length ≤ 1024)
  | .clksetWrite o value => o.fits && decide (value < 2 ^ 16)
  | .inputPowerSample totalW _ => decide (totalW < 2 ^ 16)
  | .dutyBurstEnd => true
  | .thermalCeilingUpdate anvil tj _ => decide (anvil < 8) && decide (tj < 2 ^ 8)
  | .powerCeilingUpdate meanW _ => decide (meanW < 2 ^ 16)
  | .clockChange => true
  | .clockChangeRelease => true
  | .inletEntersService i volts => decide (i < 2) && decide (volts < 2 ^ 16)
  | .inletLeavesService i volts => decide (i < 2) && decide (volts < 2 ^ 16)
  | .shareFault => true
  | .lowLineEntry => true
  | .highLineReturn => true
  | .dropoutFreeze => true
  | .powerLossShutdown => true
  | .railFault rail kind => decide (rail < 2 ^ 7) && decide (1 ≤ kind) && decide (kind ≤ 6)
  | .thermalTrip anvil => anvil.all (fun a => decide (a < 8))
  | .coolantSample inDc outDc flowCl => decide (inDc < 2 ^ 16) && decide (outDc < 2 ^ 16) && decide (flowCl < 2 ^ 16)
  | .auxCurrentLimit => true
  | .auxEnable o en => o.fits && decide (en < 2)
  | .firmwareBoot => true
  | .stewardBootTimeout => true
  | .bootComplete => true
  | .wakingComplete => true
  | .sleepingComplete => true
  | .modPower r enter => r.fits && decide (enter < 2 ^ 8)
  | .modReset r scope force => r.fits && decide (scope < 2 ^ 8) && decide (force < 2 ^ 8)
  | .settingsSave r _ => r.fits
  | .settingsErase r _ => r.fits
  | .settingsRead r offset length addr => r.fits && decide (offset < 2 ^ 64) && decide (length < 2 ^ 64) && decide (addr < 2 ^ 64)
  | .fwStage r mode srcPort addr length offset final data _ => r.fits && decide (mode < 2 ^ 8) && decide (srcPort < 2 ^ 8) && decide (addr < 2 ^ 64) && decide (length < 2 ^ 64) && decide (offset < 2 ^ 64) && decide (final < 2 ^ 8) && decide (data.length ≤ 1024)
  | .fwActivate r _ => r.fits
  | .stewardReady => true
  | .activationTimeout => true
  | .fwConfirm r _ => r.fits
  | .temperSample taps => taps.all TapReading.fits
  | .billetInsertion anvil hearth lbps => decide (anvil < 8) && decide (hearth < 128) && lbps.all (fun b => decide (b < 1024))
  | .billetCopyComplete failed => failed.all (fun k => decide (k < 32))
  | .storeScrub st key => st.keyFits key
  | .heartbeatTimeout c => decide (c < 9)
  | .linkUncorrectableWord a port => decide (a < 8) && decide (port < 3)
  | .mgmtLinkLoss => true
  | .svcMaint r scope enter regions => r.fits && decide (scope < 2 ^ 8) && decide (enter < 2 ^ 8) && decide (regions < 2 ^ 64)
  | .svcSelftest r regions _ => r.fits && decide (regions < 2 ^ 64)
  | .temperReplan r => r.fits
  | .billetInsert r anvil hearth lbp => r.fits && decide (anvil < 2 ^ 8) && decide (hearth < 2 ^ 8) && decide (lbp < 2 ^ 16)
  | .blockDiscard l b => decide (l < 68) && b.fits
  | .prbsCheckerLock l => decide (l < 68)
  | .prbsLockLoss l => decide (l < 68)
  | .continuousErrorInjection l => decide (l < 68)
  | .timeTick => true
  | .temperResample taps => taps.all TapReading.fits
  | .linkRetrain a port _ => decide (a < 8) && decide (port < 3)
  | .commandCompletion r => r.fits
  | .hostLinkUp n width speed => decide (n < 4) && decide (width < 2 ^ 5) && decide (speed < 2 ^ 4)

end Sys2Proof
end

