-- ==== Sys2Proof/Tests/Slice0.lean ====
section
/-! SUPPORT. Tests of the model: the checks of well-formed commands, check values of the standard functions, and values that meet the hypotheses of each statement. -/

open Sys2Proof Sys2Proof.Machine

section

set_option Elab.async false

/-- A message of no bytes. -/
def req0 : NocReq := ⟨4, 0, 0, 0, 0, 0, 0, 0, .dma, []⟩

/-- A frame of zeros. -/
def frame0 : WlFrame := ⟨0, false, true, 0, zeros 56, [], 0⟩

/-! ## Well-formed commands: the largest operands of each command are accepted, and one operand out of its range is refused -/

theorem test_wf_accepts_fabric_memories_and_run_control :
    (([.step 31 [],
      .dmaBankTimeout (.cmd ⟨.uart, 0, 0⟩),
      .dramReadReturn 7 0,
      .cycleBoundary 31,
      .freezeLands 31,
      .partitionResume 31,
      .hostAbort .uart 31,
      .timerExpired 31 7,
      .timeReached 31,
      .trigCtlArm .uart 31,
      .trigCtlDisarm .uart 31,
      .captureDrainComplete 31,
      .acqSegmentOpen 31,
      .partCreate ⟨.uart, 0, 0⟩ (2 ^ 8 - 1) (2 ^ 64 - 1) (2 ^ 8 - 1),
      .partDestroy ⟨.uart, 0, 0⟩ (2 ^ 8 - 1),
      .partBind ⟨.uart, 0, 0⟩ (2 ^ 8 - 1) (2 ^ 8 - 1),
      .partRun ⟨.uart, 0, 0⟩ (2 ^ 8 - 1) (2 ^ 8 - 1) (2 ^ 8 - 1) (2 ^ 64 - 1),
      .partStop ⟨.uart, 0, 0⟩ (2 ^ 8 - 1) (2 ^ 8 - 1) (2 ^ 8 - 1),
      .partHalt ⟨.uart, 0, 0⟩ (2 ^ 8 - 1) (2 ^ 8 - 1) (2 ^ 8 - 1),
      .partResume ⟨.uart, 0, 0⟩ (2 ^ 8 - 1) (2 ^ 8 - 1),
      .partUnload ⟨.uart, 0, 0⟩ (2 ^ 8 - 1)] : List Instr).all fun c => c.wellFormed) = true := by
  decide +kernel

theorem test_wf_refuses_fabric_memories_and_run_control_1 :
    (([.step 32 [],
      .step 0 [⟨.dict, [0, 0, 256], false⟩],
      .dmaBankTimeout (.noc 256 0 0),
      .dramReadReturn 8 0,
      .cycleBoundary 32,
      .freezeLands 32,
      .partitionResume 32,
      .hostAbort (.host 4) 0,
      .hostAbort .uart 32,
      .timerExpired 32 0,
      .timerExpired 0 8,
      .timeReached 32,
      .trigCtlArm (.host 4) 0,
      .trigCtlArm .uart 32,
      .trigCtlDisarm (.host 4) 0,
      .trigCtlDisarm .uart 32,
      .captureDrainComplete 32,
      .acqSegmentOpen 32,
      .partCreate ⟨.mgmt 4, 0, 0⟩ 0 0 0,
      .partCreate ⟨.uart, 0, 0⟩ (2 ^ 8) 0 0,
      .partCreate ⟨.uart, 0, 0⟩ 0 (2 ^ 64) 0,
      .partCreate ⟨.uart, 0, 0⟩ 0 0 (2 ^ 8),
      .partDestroy ⟨.mgmt 4, 0, 0⟩ 0,
      .partDestroy ⟨.uart, 0, 0⟩ (2 ^ 8)] : List Instr).all fun c => !c.wellFormed) = true := by
  decide +kernel

theorem test_wf_refuses_fabric_memories_and_run_control_2 :
    (([.partBind ⟨.mgmt 4, 0, 0⟩ 0 0,
      .partBind ⟨.uart, 0, 0⟩ (2 ^ 8) 0,
      .partBind ⟨.uart, 0, 0⟩ 0 (2 ^ 8),
      .partRun ⟨.mgmt 4, 0, 0⟩ 0 0 0 0,
      .partRun ⟨.uart, 0, 0⟩ (2 ^ 8) 0 0 0,
      .partRun ⟨.uart, 0, 0⟩ 0 (2 ^ 8) 0 0,
      .partRun ⟨.uart, 0, 0⟩ 0 0 (2 ^ 8) 0,
      .partRun ⟨.uart, 0, 0⟩ 0 0 0 (2 ^ 64),
      .partStop ⟨.mgmt 4, 0, 0⟩ 0 0 0,
      .partStop ⟨.uart, 0, 0⟩ (2 ^ 8) 0 0,
      .partStop ⟨.uart, 0, 0⟩ 0 (2 ^ 8) 0,
      .partStop ⟨.uart, 0, 0⟩ 0 0 (2 ^ 8),
      .partHalt ⟨.mgmt 4, 0, 0⟩ 0 0 0,
      .partHalt ⟨.uart, 0, 0⟩ (2 ^ 8) 0 0,
      .partHalt ⟨.uart, 0, 0⟩ 0 (2 ^ 8) 0,
      .partHalt ⟨.uart, 0, 0⟩ 0 0 (2 ^ 8),
      .partResume ⟨.mgmt 4, 0, 0⟩ 0 0,
      .partResume ⟨.uart, 0, 0⟩ (2 ^ 8) 0,
      .partResume ⟨.uart, 0, 0⟩ 0 (2 ^ 8),
      .partUnload ⟨.mgmt 4, 0, 0⟩ 0,
      .partUnload ⟨.uart, 0, 0⟩ (2 ^ 8)] : List Instr).all fun c => !c.wellFormed) = true := by
  decide +kernel

theorem test_wf_accepts_image_loading :
    (([.partLoad ⟨.uart, 0, 0⟩ (2 ^ 8 - 1) (2 ^ 8 - 1) (2 ^ 64 - 1) (2 ^ 64 - 1) (2 ^ 8 - 1),
      .loadDequeue,
      .loadHeader (2 ^ 8 - 1) [],
      .loadPlan (2 ^ 8 - 1) [],
      .loadCheck (2 ^ 8 - 1) [],
      .loadPrepare (2 ^ 8 - 1),
      .loadSetup (2 ^ 8 - 1) [],
      .hearthVerify (2 ^ 8 - 1) [] 0,
      .imageKeySet ⟨.uart, 0, 0⟩ (2 ^ 8 - 1) (zeros 97) false,
      .imageKeyClear ⟨.uart, 0, 0⟩ (2 ^ 8 - 1) false] : List Instr).all fun c => c.wellFormed) = true := by
  decide +kernel

theorem test_wf_refuses_image_loading :
    (([.partLoad ⟨.mgmt 4, 0, 0⟩ 0 0 0 0 0,
      .partLoad ⟨.uart, 0, 0⟩ (2 ^ 8) 0 0 0 0,
      .partLoad ⟨.uart, 0, 0⟩ 0 (2 ^ 8) 0 0 0,
      .partLoad ⟨.uart, 0, 0⟩ 0 0 (2 ^ 64) 0 0,
      .partLoad ⟨.uart, 0, 0⟩ 0 0 0 (2 ^ 64) 0,
      .partLoad ⟨.uart, 0, 0⟩ 0 0 0 0 (2 ^ 8),
      .loadHeader (2 ^ 8) [],
      .loadPlan (2 ^ 8) [],
      .loadCheck (2 ^ 8) [],
      .loadPrepare (2 ^ 8),
      .loadSetup (2 ^ 8) [],
      .hearthVerify (2 ^ 8) [] 0,
      .imageKeySet ⟨.mgmt 4, 0, 0⟩ 0 (zeros 97) false,
      .imageKeySet ⟨.uart, 0, 0⟩ (2 ^ 8) (zeros 97) false,
      .imageKeySet ⟨.uart, 0, 0⟩ 0 (zeros 98) false,
      .imageKeyClear ⟨.mgmt 4, 0, 0⟩ 0 false,
      .imageKeyClear ⟨.uart, 0, 0⟩ (2 ^ 8) false] : List Instr).all fun c => !c.wellFormed) = true := by
  decide +kernel

theorem test_wf_accepts_capture_readback_and_deposit :
    (([.captureRequest ⟨.uart, 0, 0⟩ (2 ^ 8 - 1) (2 ^ 8 - 1) (2 ^ 64 - 1) (2 ^ 8 - 1) (2 ^ 32 - 1),
      .captureRelease ⟨.uart, 0, 0⟩ (2 ^ 8 - 1),
      .captureDramRead ⟨.uart, 0, 0⟩ (2 ^ 8 - 1) (2 ^ 8 - 1) (2 ^ 64 - 1) (2 ^ 64 - 1) (2 ^ 64 - 1),
      .stateRead ⟨.uart, 0, 0⟩ (2 ^ 8 - 1) (2 ^ 8 - 1) (2 ^ 8 - 1) (2 ^ 8 - 1) (2 ^ 64 - 1) (2 ^ 64 - 1) (2 ^ 64 - 1),
      .stateDeposit ⟨.uart, 0, 0⟩ (2 ^ 8 - 1) (2 ^ 8 - 1) (2 ^ 8 - 1) (2 ^ 8 - 1) (2 ^ 64 - 1) (2 ^ 64 - 1) (2 ^ 64 - 1) (2 ^ 8 - 1) []] : List Instr).all fun c => c.wellFormed) = true := by
  decide +kernel

theorem test_wf_refuses_capture_readback_and_deposit_1 :
    (([.captureRequest ⟨.mgmt 4, 0, 0⟩ 0 0 0 0 0,
      .captureRequest ⟨.uart, 0, 0⟩ (2 ^ 8) 0 0 0 0,
      .captureRequest ⟨.uart, 0, 0⟩ 0 (2 ^ 8) 0 0 0,
      .captureRequest ⟨.uart, 0, 0⟩ 0 0 (2 ^ 64) 0 0,
      .captureRequest ⟨.uart, 0, 0⟩ 0 0 0 (2 ^ 8) 0,
      .captureRequest ⟨.uart, 0, 0⟩ 0 0 0 0 (2 ^ 32),
      .captureRelease ⟨.mgmt 4, 0, 0⟩ 0,
      .captureRelease ⟨.uart, 0, 0⟩ (2 ^ 8),
      .captureDramRead ⟨.mgmt 4, 0, 0⟩ 0 0 0 0 0,
      .captureDramRead ⟨.uart, 0, 0⟩ (2 ^ 8) 0 0 0 0,
      .captureDramRead ⟨.uart, 0, 0⟩ 0 (2 ^ 8) 0 0 0,
      .captureDramRead ⟨.uart, 0, 0⟩ 0 0 (2 ^ 64) 0 0,
      .captureDramRead ⟨.uart, 0, 0⟩ 0 0 0 (2 ^ 64) 0,
      .captureDramRead ⟨.uart, 0, 0⟩ 0 0 0 0 (2 ^ 64),
      .stateRead ⟨.mgmt 4, 0, 0⟩ 0 0 0 0 0 0 0,
      .stateRead ⟨.uart, 0, 0⟩ (2 ^ 8) 0 0 0 0 0 0,
      .stateRead ⟨.uart, 0, 0⟩ 0 (2 ^ 8) 0 0 0 0 0,
      .stateRead ⟨.uart, 0, 0⟩ 0 0 (2 ^ 8) 0 0 0 0,
      .stateRead ⟨.uart, 0, 0⟩ 0 0 0 (2 ^ 8) 0 0 0,
      .stateRead ⟨.uart, 0, 0⟩ 0 0 0 0 (2 ^ 64) 0 0,
      .stateRead ⟨.uart, 0, 0⟩ 0 0 0 0 0 (2 ^ 64) 0,
      .stateRead ⟨.uart, 0, 0⟩ 0 0 0 0 0 0 (2 ^ 64),
      .stateDeposit ⟨.mgmt 4, 0, 0⟩ 0 0 0 0 0 0 0 0 [],
      .stateDeposit ⟨.uart, 0, 0⟩ (2 ^ 8) 0 0 0 0 0 0 0 []] : List Instr).all fun c => !c.wellFormed) = true := by
  decide +kernel

theorem test_wf_refuses_capture_readback_and_deposit_2 :
    (([.stateDeposit ⟨.uart, 0, 0⟩ 0 (2 ^ 8) 0 0 0 0 0 0 [],
      .stateDeposit ⟨.uart, 0, 0⟩ 0 0 (2 ^ 8) 0 0 0 0 0 [],
      .stateDeposit ⟨.uart, 0, 0⟩ 0 0 0 (2 ^ 8) 0 0 0 0 [],
      .stateDeposit ⟨.uart, 0, 0⟩ 0 0 0 0 (2 ^ 64) 0 0 0 [],
      .stateDeposit ⟨.uart, 0, 0⟩ 0 0 0 0 0 (2 ^ 64) 0 0 [],
      .stateDeposit ⟨.uart, 0, 0⟩ 0 0 0 0 0 0 (2 ^ 64) 0 [],
      .stateDeposit ⟨.uart, 0, 0⟩ 0 0 0 0 0 0 0 (2 ^ 8) []] : List Instr).all fun c => !c.wellFormed) = true := by
  decide +kernel

theorem test_wf_accepts_trace :
    (([.tracePacketEmit 63 (.power 0 0),
      .traceStallEnd 8,
      .traceStallLimit 8,
      .traceOverflowRecovery 63,
      .funnelBlockWrite,
      .traceEnable .uart,
      .traceDisable .uart,
      .traceTrigger 3 31,
      .stopNow .uart,
      .stopDelayReached,
      .cpSleep 8 3 (2 ^ 32 - 1) (2 ^ 64 - 1),
      .cpWake 8 (2 ^ 64 - 1),
      .traceBufAlloc ⟨.uart, 0, 0⟩ (2 ^ 8 - 1) (2 ^ 8 - 1),
      .traceBufFree ⟨.uart, 0, 0⟩] : List Instr).all fun c => c.wellFormed) = true := by
  decide +kernel

theorem test_wf_refuses_trace :
    (([.tracePacketEmit 64 (.power 0 0),
      .tracePacketEmit 0 (.power 256 0),
      .traceStallEnd 9,
      .traceStallLimit 9,
      .traceOverflowRecovery 64,
      .traceEnable (.host 4),
      .traceDisable (.host 4),
      .traceTrigger 4 0,
      .traceTrigger 0 32,
      .stopNow (.host 4),
      .cpSleep 9 0 0 0,
      .cpSleep 0 0 0 0,
      .cpSleep 0 4 0 0,
      .cpSleep 0 0 (2 ^ 32) 0,
      .cpSleep 0 0 0 (2 ^ 64),
      .cpWake 9 0,
      .cpWake 0 (2 ^ 64),
      .traceBufAlloc ⟨.mgmt 4, 0, 0⟩ 0 0,
      .traceBufAlloc ⟨.uart, 0, 0⟩ (2 ^ 8) 0,
      .traceBufAlloc ⟨.uart, 0, 0⟩ 0 (2 ^ 8),
      .traceBufFree ⟨.mgmt 4, 0, 0⟩] : List Instr).all fun c => !c.wellFormed) = true := by
  decide +kernel

theorem test_wf_accepts_DRAM :
    (([.dramRequestServe 7 0 [] [] 4,
      .phyTrainingLoss 7 1,
      .deviceDiagnosis 7 1 1 (2 ^ 5 - 1),
      .markRediagnosis 7 1 1 (2 ^ 5 - 1),
      .pageRetirement 7 (2 ^ 23 - 1) [],
      .migrationStep 7 [],
      .patrolScrub 7 1,
      .agePromotion 7 0,
      .sameBankRefresh 7 1 31,
      .allBankRefresh 7 1,
      .refreshEnd 7 1,
      .rankPowerDown 7 1 1,
      .dramFrozenTimeout 7 0,
      .stewardThaw 7 false,
      .ddrThaw ⟨.uart, 0, 0⟩ (2 ^ 8 - 1) (2 ^ 8 - 1) false,
      .ddrRetirePage ⟨.uart, 0, 0⟩ (2 ^ 8 - 1) (2 ^ 64 - 1),
      .ddrMarkSet ⟨.uart, 0, 0⟩ (2 ^ 8 - 1) (2 ^ 8 - 1) (2 ^ 8 - 1) (2 ^ 8 - 1)] : List Instr).all fun c => c.wellFormed) = true := by
  decide +kernel

theorem test_wf_refuses_DRAM_1 :
    (([.dramRequestServe 8 0 [] [] 0,
      .dramRequestServe 0 0 [(80, 0)] [] 0,
      .dramRequestServe 0 0 [] [(80, 0)] 0,
      .dramRequestServe 0 0 [] [] (4 + 1),
      .phyTrainingLoss 8 0,
      .phyTrainingLoss 0 2,
      .deviceDiagnosis 8 0 0 0,
      .deviceDiagnosis 0 2 0 0,
      .deviceDiagnosis 0 0 2 0,
      .deviceDiagnosis 0 0 0 (2 ^ 5),
      .markRediagnosis 8 0 0 0,
      .markRediagnosis 0 2 0 0,
      .markRediagnosis 0 0 2 0,
      .markRediagnosis 0 0 0 (2 ^ 5),
      .pageRetirement 8 0 [],
      .pageRetirement 0 (2 ^ 23) [],
      .pageRetirement 0 0 [⟨64, [], []⟩],
      .migrationStep 8 [],
      .migrationStep 0 [⟨0, [(80, 0)], []⟩],
      .patrolScrub 8 0,
      .patrolScrub 0 2,
      .agePromotion 8 0,
      .sameBankRefresh 8 0 0,
      .sameBankRefresh 0 2 0] : List Instr).all fun c => !c.wellFormed) = true := by
  decide +kernel

theorem test_wf_refuses_DRAM_2 :
    (([.sameBankRefresh 0 0 32,
      .allBankRefresh 8 0,
      .allBankRefresh 0 2,
      .refreshEnd 8 0,
      .refreshEnd 0 2,
      .rankPowerDown 8 0 0,
      .rankPowerDown 0 2 0,
      .rankPowerDown 0 0 2,
      .dramFrozenTimeout 8 0,
      .stewardThaw 8 false,
      .ddrThaw ⟨.mgmt 4, 0, 0⟩ 0 0 false,
      .ddrThaw ⟨.uart, 0, 0⟩ (2 ^ 8) 0 false,
      .ddrThaw ⟨.uart, 0, 0⟩ 0 (2 ^ 8) false,
      .ddrRetirePage ⟨.mgmt 4, 0, 0⟩ 0 0,
      .ddrRetirePage ⟨.uart, 0, 0⟩ (2 ^ 8) 0,
      .ddrRetirePage ⟨.uart, 0, 0⟩ 0 (2 ^ 64),
      .ddrMarkSet ⟨.mgmt 4, 0, 0⟩ 0 0 0 0,
      .ddrMarkSet ⟨.uart, 0, 0⟩ (2 ^ 8) 0 0 0,
      .ddrMarkSet ⟨.uart, 0, 0⟩ 0 (2 ^ 8) 0 0,
      .ddrMarkSet ⟨.uart, 0, 0⟩ 0 0 (2 ^ 8) 0,
      .ddrMarkSet ⟨.uart, 0, 0⟩ 0 0 0 (2 ^ 8)] : List Instr).all fun c => !c.wellFormed) = true := by
  decide +kernel

theorem test_wf_accepts_packet_network :
    (([.nocRequest (.send req0),
      .nocCompletion (.send req0),
      .nocCplTimeout 8 1023,
      .tagRelease 8 1023,
      .linkFlitReplay 7 3,
      .routeChangeStart none [],
      .shadowValid,
      .epochSwitch,
      .epochRetired,
      .epochFenceTimeout,
      .nocEpochBusy ⟨.uart, 0, 0⟩,
      .fenceRequest 63,
      .regionFenced 63,
      .nocDrainTimeout 63,
      .anvilDomainOff 7] : List Instr).all fun c => c.wellFormed) = true := by
  decide +kernel

theorem test_wf_refuses_packet_network :
    (([.nocRequest (.arrive 8 0),
      .nocCompletion (.arrive 8 0),
      .nocCplTimeout 9 0,
      .nocCplTimeout 0 1024,
      .tagRelease 9 0,
      .tagRelease 0 1024,
      .linkFlitReplay 8 0,
      .linkFlitReplay 0 4,
      .routeChangeStart ((some ⟨.mgmt 4, 0, 0⟩)) [],
      .routeChangeStart none [([0, 0, 0], 8)],
      .nocEpochBusy ⟨.mgmt 4, 0, 0⟩,
      .fenceRequest 64,
      .regionFenced 64,
      .nocDrainTimeout 64,
      .anvilDomainOff 8] : List Instr).all fun c => !c.wellFormed) = true := by
  decide +kernel

theorem test_wf_accepts_registers_and_host_interface_1 :
    (([.registerWrite .uart (2 ^ 31 + 2 ^ 18 - 1) 4095 0,
      .rcFieldRead .uart (2 ^ 31 + 2 ^ 18 - 1) 4095,
      .loWordRead .uart (2 ^ 31 + 2 ^ 18 - 1) 4095,
      .hostPortReset 3 .flr,
      .hostDmaFailure none ⟨.uart, 0, 0⟩ false,
      .mboxGo 3 15 [],
      .mboxAck 3 15,
      .commandStart,
      .mgmtSessionOpen (zeros 48),
      .mgmtSessionClose 3,
      .mgmtMessage 3 [],
      .uartFrame [] (2 ^ 32 - 1),
      .queueDoorbell .uart 4095 (2 ^ 32 - 1),
      .queueEnable .uart 4095 1,
      .taskSoftFlagSet .uart 4095 (2 ^ 16 - 1),
      .taskDispatch 31 [],
      .interruptCoalesceTimeout 4095,
      .hostIdentify ⟨.uart, 0, 0⟩ (zeros 16),
      .queueAssign ⟨.uart, 0, 0⟩ (2 ^ 16 - 1) (2 ^ 8 - 1) (2 ^ 8 - 1),
      .queueSetup ⟨.uart, 0, 0⟩ (2 ^ 16 - 1) (2 ^ 8 - 1) (2 ^ 8 - 1) (2 ^ 8 - 1) (2 ^ 64 - 1) (2 ^ 64 - 1) (2 ^ 16 - 1),
      .auditRead ⟨.uart, 0, 0⟩ (2 ^ 64 - 1) (2 ^ 16 - 1) (2 ^ 64 - 1),
      .ownerCertSet ⟨.uart, 0, 0⟩ (2 ^ 8 - 1) (zeros 48) false,
      .roleGrant ⟨.uart, 0, 0⟩ (2 ^ 8 - 1) (2 ^ 8 - 1) false,
      .regRead ⟨.uart, 0, 0⟩ (2 ^ 32 - 1) (2 ^ 16 - 1)] : List Instr).all fun c => c.wellFormed) = true := by
  decide +kernel

theorem test_wf_accepts_registers_and_host_interface_2 :
    (([.regWrite ⟨.uart, 0, 0⟩ (2 ^ 32 - 1) (2 ^ 8 - 1) [],
      .auditPersist] : List Instr).all fun c => c.wellFormed) = true := by
  decide +kernel

theorem test_wf_refuses_registers_and_host_interface_1 :
    (([.registerWrite (.host 4) 0 0 0,
      .registerWrite .uart (2 ^ 31 + 2 ^ 18) 0 0,
      .registerWrite .uart 0 4096 0,
      .rcFieldRead (.host 4) 0 0,
      .rcFieldRead .uart (2 ^ 31 + 2 ^ 18) 0,
      .rcFieldRead .uart 0 4096,
      .loWordRead (.host 4) 0 0,
      .loWordRead .uart (2 ^ 31 + 2 ^ 18) 0,
      .loWordRead .uart 0 4096,
      .hostPortReset 4 .flr,
      .hostDmaFailure none ⟨.mgmt 4, 0, 0⟩ false,
      .mboxGo 4 0 [],
      .mboxGo 0 16 [],
      .mboxGo 0 0 (zeros 2049),
      .mboxAck 4 0,
      .mboxAck 0 16,
      .mgmtSessionOpen (zeros 49),
      .mgmtSessionClose 4,
      .mgmtMessage 4 [],
      .mgmtMessage 0 (zeros 2049),
      .uartFrame (zeros 2049) 0,
      .uartFrame [] (2 ^ 32),
      .queueDoorbell (.host 4) 0 0,
      .queueDoorbell .uart 4096 0] : List Instr).all fun c => !c.wellFormed) = true := by
  decide +kernel

theorem test_wf_refuses_registers_and_host_interface_2 :
    (([.queueDoorbell .uart 0 (2 ^ 32),
      .queueEnable (.host 4) 0 0,
      .queueEnable .uart 4096 0,
      .queueEnable .uart 0 2,
      .taskSoftFlagSet (.host 4) 0 0,
      .taskSoftFlagSet .uart 4096 0,
      .taskSoftFlagSet .uart 0 (2 ^ 16),
      .taskDispatch 9 [],
      .taskDispatch 32 [],
      .interruptCoalesceTimeout 4096,
      .hostIdentify ⟨.mgmt 4, 0, 0⟩ (zeros 16),
      .hostIdentify ⟨.uart, 0, 0⟩ (zeros 17),
      .queueAssign ⟨.mgmt 4, 0, 0⟩ 0 0 0,
      .queueAssign ⟨.uart, 0, 0⟩ (2 ^ 16) 0 0,
      .queueAssign ⟨.uart, 0, 0⟩ 0 (2 ^ 8) 0,
      .queueAssign ⟨.uart, 0, 0⟩ 0 0 (2 ^ 8),
      .queueSetup ⟨.mgmt 4, 0, 0⟩ 0 0 0 0 0 0 0,
      .queueSetup ⟨.uart, 0, 0⟩ (2 ^ 16) 0 0 0 0 0 0,
      .queueSetup ⟨.uart, 0, 0⟩ 0 (2 ^ 8) 0 0 0 0 0,
      .queueSetup ⟨.uart, 0, 0⟩ 0 0 (2 ^ 8) 0 0 0 0,
      .queueSetup ⟨.uart, 0, 0⟩ 0 0 0 (2 ^ 8) 0 0 0,
      .queueSetup ⟨.uart, 0, 0⟩ 0 0 0 0 (2 ^ 64) 0 0,
      .queueSetup ⟨.uart, 0, 0⟩ 0 0 0 0 0 (2 ^ 64) 0,
      .queueSetup ⟨.uart, 0, 0⟩ 0 0 0 0 0 0 (2 ^ 16)] : List Instr).all fun c => !c.wellFormed) = true := by
  decide +kernel

theorem test_wf_refuses_registers_and_host_interface_3 :
    (([.auditRead ⟨.mgmt 4, 0, 0⟩ 0 0 0,
      .auditRead ⟨.uart, 0, 0⟩ (2 ^ 64) 0 0,
      .auditRead ⟨.uart, 0, 0⟩ 0 (2 ^ 16) 0,
      .auditRead ⟨.uart, 0, 0⟩ 0 0 (2 ^ 64),
      .ownerCertSet ⟨.mgmt 4, 0, 0⟩ 0 (zeros 48) false,
      .ownerCertSet ⟨.uart, 0, 0⟩ (2 ^ 8) (zeros 48) false,
      .ownerCertSet ⟨.uart, 0, 0⟩ 0 (zeros 49) false,
      .roleGrant ⟨.mgmt 4, 0, 0⟩ 0 0 false,
      .roleGrant ⟨.uart, 0, 0⟩ (2 ^ 8) 0 false,
      .roleGrant ⟨.uart, 0, 0⟩ 0 (2 ^ 8) false,
      .regRead ⟨.mgmt 4, 0, 0⟩ 0 0,
      .regRead ⟨.uart, 0, 0⟩ (2 ^ 32) 0,
      .regRead ⟨.uart, 0, 0⟩ 0 (2 ^ 16),
      .regWrite ⟨.mgmt 4, 0, 0⟩ 0 0 [],
      .regWrite ⟨.uart, 0, 0⟩ (2 ^ 32) 0 [],
      .regWrite ⟨.uart, 0, 0⟩ 0 (2 ^ 8) [],
      .regWrite ⟨.uart, 0, 0⟩ 0 0 [2 ^ 32]] : List Instr).all fun c => !c.wellFormed) = true := by
  decide +kernel

theorem test_wf_accepts_Waltline_1 :
    (([.laneEnable .uart 67,
      .laneDisable .uart 67,
      .retrain .uart 67,
      .terminationDetect 67,
      .cdrLock 67,
      .blockLock 67,
      .tsDetected 67 false,
      .trainTimeout 67,
      .lockLoss 67,
      .cap 67 ⟨false, 0, 0, 0, 0, 0⟩,
      .frame 67 frame0,
      .ack 67 7 (2 ^ 16 - 1) false,
      .replayTimeout 67,
      .credit 7 31 1 (2 ^ 32 - 1),
      .mark 7 31 (2 ^ 16 - 1),
      .stop 7 31 (2 ^ 16 - 1) 0,
      .spare 67 7 3 false false false false,
      .bank 7 false false,
      .dsk 7 [],
      .dskSend 7,
      .frameTransmit 31,
      .creditSend 31,
      .creditStall 31,
      .statusBlockSend 31] : List Instr).all fun c => c.wellFormed) = true := by
  decide +kernel

theorem test_wf_accepts_Waltline_2 :
    (([.crcErrorLimit 67,
      .spareRequestRepeat 67,
      .bankExitSignal 7,
      .injGo .uart 67,
      .wlStreamBind ⟨.uart, 0, 0⟩ (2 ^ 8 - 1) (2 ^ 8 - 1) (2 ^ 8 - 1) (2 ^ 8 - 1) (2 ^ 8 - 1),
      .wlStreamUnbind ⟨.uart, 0, 0⟩ (2 ^ 8 - 1),
      .wlLaneCtl ⟨.uart, 0, 0⟩ (2 ^ 8 - 1) (2 ^ 8 - 1),
      .wlBank ⟨.uart, 0, 0⟩ (2 ^ 8 - 1) (2 ^ 8 - 1)] : List Instr).all fun c => c.wellFormed) = true := by
  decide +kernel

theorem test_wf_refuses_Waltline_1 :
    (([.laneEnable (.host 4) 0,
      .laneEnable .uart 68,
      .laneDisable (.host 4) 0,
      .laneDisable .uart 68,
      .retrain (.host 4) 0,
      .retrain .uart 68,
      .terminationDetect 68,
      .cdrLock 68,
      .blockLock 68,
      .tsDetected 68 false,
      .trainTimeout 68,
      .lockLoss 68,
      .cap 68 ⟨false, 0, 0, 0, 0, 0⟩,
      .cap 0 ⟨false, 256, 0, 0, 0, 0⟩,
      .frame 68 frame0,
      .frame 0 ({ frame0 with lseq := 2 ^ 16 }),
      .ack 68 0 0 false,
      .ack 0 8 0 false,
      .ack 0 0 (2 ^ 16) false,
      .replayTimeout 68,
      .credit 8 0 0 0,
      .credit 0 32 0 0,
      .credit 0 0 2 0,
      .credit 0 0 0 (2 ^ 32)] : List Instr).all fun c => !c.wellFormed) = true := by
  decide +kernel

theorem test_wf_refuses_Waltline_2 :
    (([.mark 8 0 0,
      .mark 0 32 0,
      .mark 0 0 (2 ^ 16),
      .stop 8 0 0 0,
      .stop 0 32 0 0,
      .stop 0 0 (2 ^ 16) 0,
      .spare 68 0 0 false false false false,
      .spare 0 8 0 false false false false,
      .spare 0 0 4 false false false false,
      .bank 8 false false,
      .dsk 8 [],
      .dskSend 8,
      .frameTransmit 32,
      .creditSend 32,
      .creditStall 32,
      .statusBlockSend 32,
      .crcErrorLimit 68,
      .spareRequestRepeat 68,
      .bankExitSignal 8,
      .injGo (.host 4) 0,
      .injGo .uart 68,
      .wlStreamBind ⟨.mgmt 4, 0, 0⟩ 0 0 0 0 0,
      .wlStreamBind ⟨.uart, 0, 0⟩ (2 ^ 8) 0 0 0 0,
      .wlStreamBind ⟨.uart, 0, 0⟩ 0 (2 ^ 8) 0 0 0] : List Instr).all fun c => !c.wellFormed) = true := by
  decide +kernel

theorem test_wf_refuses_Waltline_3 :
    (([.wlStreamBind ⟨.uart, 0, 0⟩ 0 0 (2 ^ 8) 0 0,
      .wlStreamBind ⟨.uart, 0, 0⟩ 0 0 0 (2 ^ 8) 0,
      .wlStreamBind ⟨.uart, 0, 0⟩ 0 0 0 0 (2 ^ 8),
      .wlStreamUnbind ⟨.mgmt 4, 0, 0⟩ 0,
      .wlStreamUnbind ⟨.uart, 0, 0⟩ (2 ^ 8),
      .wlLaneCtl ⟨.mgmt 4, 0, 0⟩ 0 0,
      .wlLaneCtl ⟨.uart, 0, 0⟩ (2 ^ 8) 0,
      .wlLaneCtl ⟨.uart, 0, 0⟩ 0 (2 ^ 8),
      .wlBank ⟨.mgmt 4, 0, 0⟩ 0 0,
      .wlBank ⟨.uart, 0, 0⟩ (2 ^ 8) 0,
      .wlBank ⟨.uart, 0, 0⟩ 0 (2 ^ 8)] : List Instr).all fun c => !c.wellFormed) = true := by
  decide +kernel

theorem test_wf_accepts_time :
    (([.timeIncrWrite .uart (2 ^ 8 - 1),
      .refRateWrite .uart 3 (2 ^ 8 - 1),
      .refAdj .uart 3 (2 ^ 32 - 1),
      .counterMismatch,
      .ptpMessage ⟨0, false, 0, .announce 0 0 false⟩,
      .delayReqSend,
      .ptpSourceLoss,
      .ppsEdge,
      .ppsLoss,
      .ppsOut,
      .freqSourceLoss,
      .pllRelock,
      .timeCapArm .uart (2 ^ 8 - 1),
      .launchArm .uart 15,
      .launchDisarm .uart 15,
      .launch 15,
      .timeStep ⟨.uart, 0, 0⟩ (2 ^ 8 - 1) (2 ^ 64 - 1)] : List Instr).all fun c => c.wellFormed) = true := by
  decide +kernel

theorem test_wf_refuses_time :
    (([.timeIncrWrite (.host 4) 0,
      .timeIncrWrite .uart (2 ^ 8),
      .refRateWrite (.host 4) 0 0,
      .refRateWrite .uart 4 0,
      .refRateWrite .uart 0 (2 ^ 8),
      .refAdj (.host 4) 0 0,
      .refAdj .uart 4 0,
      .refAdj .uart 0 (2 ^ 32),
      .ptpMessage ⟨256, false, 0, .announce 0 0 false⟩,
      .timeCapArm (.host 4) 0,
      .timeCapArm .uart (2 ^ 8),
      .launchArm (.host 4) 0,
      .launchArm .uart 16,
      .launchDisarm (.host 4) 0,
      .launchDisarm .uart 16,
      .launch 16,
      .timeStep ⟨.mgmt 4, 0, 0⟩ 0 0,
      .timeStep ⟨.uart, 0, 0⟩ (2 ^ 8) 0,
      .timeStep ⟨.uart, 0, 0⟩ 0 (2 ^ 64)] : List Instr).all fun c => !c.wellFormed) = true := by
  decide +kernel

theorem test_wf_accepts_side_pins :
    (([.triggerInputEdge 15,
      .pinFuncSwitch .uart 47 (2 ^ 8 - 1),
      .pinOwnerWrite .uart 47 (2 ^ 6 - 1),
      .bankVselWrite .uart 3 3,
      .bankRampDone 3,
      .gpioSet .uart false (2 ^ 32 - 1),
      .gpioClr .uart false (2 ^ 32 - 1),
      .gpioTgl .uart false (2 ^ 32 - 1),
      .pinShort 47,
      .shortClear .uart 47,
      .strapClose,
      .strapOpen,
      .uartRxByte 1 (2 ^ 8 - 1) false,
      .spUartCfg ⟨.uart, 0, 0⟩ (2 ^ 8 - 1) (2 ^ 32 - 1) (2 ^ 8 - 1),
      .spUartSend ⟨.uart, 0, 0⟩ (2 ^ 8 - 1) (2 ^ 16 - 1) [],
      .spUartRecv ⟨.uart, 0, 0⟩ (2 ^ 8 - 1) (2 ^ 16 - 1),
      .spI2cXfer ⟨.uart, 0, 0⟩ (2 ^ 8 - 1) (2 ^ 8 - 1) (2 ^ 64 - 1) (2 ^ 16 - 1) (2 ^ 16 - 1) [],
      .spSpiXfer ⟨.uart, 0, 0⟩ (2 ^ 8 - 1) (2 ^ 8 - 1) (2 ^ 8 - 1) (2 ^ 16 - 1) []] : List Instr).all fun c => c.wellFormed) = true := by
  decide +kernel

theorem test_wf_refuses_side_pins_1 :
    (([.triggerInputEdge 16,
      .pinFuncSwitch (.host 4) 0 0,
      .pinFuncSwitch .uart 48 0,
      .pinFuncSwitch .uart 0 (2 ^ 8),
      .pinOwnerWrite (.host 4) 0 0,
      .pinOwnerWrite .uart 48 0,
      .pinOwnerWrite .uart 0 (2 ^ 6),
      .bankVselWrite (.host 4) 0 0,
      .bankVselWrite .uart 4 0,
      .bankVselWrite .uart 0 4,
      .bankRampDone 4,
      .gpioSet (.host 4) false 0,
      .gpioSet .uart false (2 ^ 32),
      .gpioClr (.host 4) false 0,
      .gpioClr .uart false (2 ^ 32),
      .gpioTgl (.host 4) false 0,
      .gpioTgl .uart false (2 ^ 32),
      .pinShort 48,
      .shortClear (.host 4) 0,
      .shortClear .uart 48,
      .uartRxByte 2 0 false,
      .uartRxByte 0 (2 ^ 8) false,
      .spUartCfg ⟨.mgmt 4, 0, 0⟩ 0 0 0,
      .spUartCfg ⟨.uart, 0, 0⟩ (2 ^ 8) 0 0] : List Instr).all fun c => !c.wellFormed) = true := by
  decide +kernel

theorem test_wf_refuses_side_pins_2 :
    (([.spUartCfg ⟨.uart, 0, 0⟩ 0 (2 ^ 32) 0,
      .spUartCfg ⟨.uart, 0, 0⟩ 0 0 (2 ^ 8),
      .spUartSend ⟨.mgmt 4, 0, 0⟩ 0 0 [],
      .spUartSend ⟨.uart, 0, 0⟩ (2 ^ 8) 0 [],
      .spUartSend ⟨.uart, 0, 0⟩ 0 (2 ^ 16) [],
      .spUartSend ⟨.uart, 0, 0⟩ 0 0 (zeros 1025),
      .spUartRecv ⟨.mgmt 4, 0, 0⟩ 0 0,
      .spUartRecv ⟨.uart, 0, 0⟩ (2 ^ 8) 0,
      .spUartRecv ⟨.uart, 0, 0⟩ 0 (2 ^ 16),
      .spI2cXfer ⟨.mgmt 4, 0, 0⟩ 0 0 0 0 0 [],
      .spI2cXfer ⟨.uart, 0, 0⟩ (2 ^ 8) 0 0 0 0 [],
      .spI2cXfer ⟨.uart, 0, 0⟩ 0 (2 ^ 8) 0 0 0 [],
      .spI2cXfer ⟨.uart, 0, 0⟩ 0 0 (2 ^ 64) 0 0 [],
      .spI2cXfer ⟨.uart, 0, 0⟩ 0 0 0 (2 ^ 16) 0 [],
      .spI2cXfer ⟨.uart, 0, 0⟩ 0 0 0 0 (2 ^ 16) [],
      .spI2cXfer ⟨.uart, 0, 0⟩ 0 0 0 0 0 (zeros 257),
      .spSpiXfer ⟨.mgmt 4, 0, 0⟩ 0 0 0 0 [],
      .spSpiXfer ⟨.uart, 0, 0⟩ (2 ^ 8) 0 0 0 [],
      .spSpiXfer ⟨.uart, 0, 0⟩ 0 (2 ^ 8) 0 0 [],
      .spSpiXfer ⟨.uart, 0, 0⟩ 0 0 (2 ^ 8) 0 [],
      .spSpiXfer ⟨.uart, 0, 0⟩ 0 0 0 (2 ^ 16) [],
      .spSpiXfer ⟨.uart, 0, 0⟩ 0 0 0 0 (zeros 1025)] : List Instr).all fun c => !c.wellFormed) = true := by
  decide +kernel

theorem test_wf_accepts_power :
    (([.clksetWrite .uart (2 ^ 16 - 1),
      .inputPowerSample (2 ^ 16 - 1) [],
      .dutyBurstEnd,
      .thermalCeilingUpdate 7 (2 ^ 8 - 1) false,
      .powerCeilingUpdate (2 ^ 16 - 1) false,
      .clockChange,
      .clockChangeRelease,
      .inletEntersService 1 (2 ^ 16 - 1),
      .inletLeavesService 1 (2 ^ 16 - 1),
      .shareFault,
      .lowLineEntry,
      .highLineReturn,
      .dropoutFreeze,
      .powerLossShutdown,
      .railFault (2 ^ 7 - 1) 6,
      .thermalTrip none,
      .coolantSample (2 ^ 16 - 1) (2 ^ 16 - 1) (2 ^ 16 - 1),
      .auxCurrentLimit,
      .auxEnable .uart 1] : List Instr).all fun c => c.wellFormed) = true := by
  decide +kernel

theorem test_wf_refuses_power :
    (([.clksetWrite (.host 4) 0,
      .clksetWrite .uart (2 ^ 16),
      .inputPowerSample (2 ^ 16) [],
      .thermalCeilingUpdate 8 0 false,
      .thermalCeilingUpdate 0 (2 ^ 8) false,
      .powerCeilingUpdate (2 ^ 16) false,
      .inletEntersService 2 0,
      .inletEntersService 0 (2 ^ 16),
      .inletLeavesService 2 0,
      .inletLeavesService 0 (2 ^ 16),
      .railFault (2 ^ 7) 0,
      .railFault 0 0,
      .railFault 0 (6 + 1),
      .thermalTrip ((some 8)),
      .coolantSample (2 ^ 16) 0 0,
      .coolantSample 0 (2 ^ 16) 0,
      .coolantSample 0 0 (2 ^ 16),
      .auxEnable (.host 4) 0,
      .auxEnable .uart 2] : List Instr).all fun c => !c.wellFormed) = true := by
  decide +kernel

theorem test_wf_accepts_start_up_settings_and_firmware :
    (([.firmwareBoot,
      .stewardBootTimeout,
      .bootComplete,
      .wakingComplete,
      .sleepingComplete,
      .modPower ⟨.uart, 0, 0⟩ (2 ^ 8 - 1),
      .modReset ⟨.uart, 0, 0⟩ (2 ^ 8 - 1) (2 ^ 8 - 1),
      .settingsSave ⟨.uart, 0, 0⟩ false,
      .settingsErase ⟨.uart, 0, 0⟩ false,
      .settingsRead ⟨.uart, 0, 0⟩ (2 ^ 64 - 1) (2 ^ 64 - 1) (2 ^ 64 - 1),
      .fwStage ⟨.uart, 0, 0⟩ (2 ^ 8 - 1) (2 ^ 8 - 1) (2 ^ 64 - 1) (2 ^ 64 - 1) (2 ^ 64 - 1) (2 ^ 8 - 1) [] false,
      .fwActivate ⟨.uart, 0, 0⟩ false,
      .stewardReady,
      .activationTimeout,
      .fwConfirm ⟨.uart, 0, 0⟩ false] : List Instr).all fun c => c.wellFormed) = true := by
  decide +kernel

theorem test_wf_refuses_start_up_settings_and_firmware :
    (([.modPower ⟨.mgmt 4, 0, 0⟩ 0,
      .modPower ⟨.uart, 0, 0⟩ (2 ^ 8),
      .modReset ⟨.mgmt 4, 0, 0⟩ 0 0,
      .modReset ⟨.uart, 0, 0⟩ (2 ^ 8) 0,
      .modReset ⟨.uart, 0, 0⟩ 0 (2 ^ 8),
      .settingsSave ⟨.mgmt 4, 0, 0⟩ false,
      .settingsErase ⟨.mgmt 4, 0, 0⟩ false,
      .settingsRead ⟨.mgmt 4, 0, 0⟩ 0 0 0,
      .settingsRead ⟨.uart, 0, 0⟩ (2 ^ 64) 0 0,
      .settingsRead ⟨.uart, 0, 0⟩ 0 (2 ^ 64) 0,
      .settingsRead ⟨.uart, 0, 0⟩ 0 0 (2 ^ 64),
      .fwStage ⟨.mgmt 4, 0, 0⟩ 0 0 0 0 0 0 [] false,
      .fwStage ⟨.uart, 0, 0⟩ (2 ^ 8) 0 0 0 0 0 [] false,
      .fwStage ⟨.uart, 0, 0⟩ 0 (2 ^ 8) 0 0 0 0 [] false,
      .fwStage ⟨.uart, 0, 0⟩ 0 0 (2 ^ 64) 0 0 0 [] false,
      .fwStage ⟨.uart, 0, 0⟩ 0 0 0 (2 ^ 64) 0 0 [] false,
      .fwStage ⟨.uart, 0, 0⟩ 0 0 0 0 (2 ^ 64) 0 [] false,
      .fwStage ⟨.uart, 0, 0⟩ 0 0 0 0 0 (2 ^ 8) [] false,
      .fwStage ⟨.uart, 0, 0⟩ 0 0 0 0 0 0 (zeros 1025) false,
      .fwActivate ⟨.mgmt 4, 0, 0⟩ false,
      .fwConfirm ⟨.mgmt 4, 0, 0⟩ false] : List Instr).all fun c => !c.wellFormed) = true := by
  decide +kernel

theorem test_wf_accepts_service_life :
    (([.temperSample [],
      .billetInsertion 7 127 [],
      .billetCopyComplete [],
      .storeScrub .dict [0, 0, 0],
      .heartbeatTimeout 8,
      .linkUncorrectableWord 7 2,
      .mgmtLinkLoss,
      .svcMaint ⟨.uart, 0, 0⟩ (2 ^ 8 - 1) (2 ^ 8 - 1) (2 ^ 64 - 1),
      .svcSelftest ⟨.uart, 0, 0⟩ (2 ^ 64 - 1) [],
      .temperReplan ⟨.uart, 0, 0⟩,
      .billetInsert ⟨.uart, 0, 0⟩ (2 ^ 8 - 1) (2 ^ 8 - 1) (2 ^ 16 - 1)] : List Instr).all fun c => c.wellFormed) = true := by
  decide +kernel

theorem test_wf_refuses_service_life :
    (([.temperSample [⟨0, 0, 5, 0, 0, 0⟩],
      .billetInsertion 8 0 [],
      .billetInsertion 0 128 [],
      .billetInsertion 0 0 [1024],
      .billetCopyComplete [32],
      .storeScrub .dict [0, 128, 0],
      .heartbeatTimeout 9,
      .linkUncorrectableWord 8 0,
      .linkUncorrectableWord 0 3,
      .svcMaint ⟨.mgmt 4, 0, 0⟩ 0 0 0,
      .svcMaint ⟨.uart, 0, 0⟩ (2 ^ 8) 0 0,
      .svcMaint ⟨.uart, 0, 0⟩ 0 (2 ^ 8) 0,
      .svcMaint ⟨.uart, 0, 0⟩ 0 0 (2 ^ 64),
      .svcSelftest ⟨.mgmt 4, 0, 0⟩ 0 [],
      .svcSelftest ⟨.uart, 0, 0⟩ (2 ^ 64) [],
      .temperReplan ⟨.mgmt 4, 0, 0⟩,
      .billetInsert ⟨.mgmt 4, 0, 0⟩ 0 0 0,
      .billetInsert ⟨.uart, 0, 0⟩ (2 ^ 8) 0 0,
      .billetInsert ⟨.uart, 0, 0⟩ 0 (2 ^ 8) 0,
      .billetInsert ⟨.uart, 0, 0⟩ 0 0 (2 ^ 16)] : List Instr).all fun c => !c.wellFormed) = true := by
  decide +kernel

theorem test_wf_accepts_the_rows_added_at_the_end_of_the_table :
    (([.blockDiscard 67 ⟨0, zeros 8, false⟩,
      .prbsCheckerLock 67,
      .prbsLockLoss 67,
      .continuousErrorInjection 67,
      .timeTick,
      .temperResample [],
      .linkRetrain 7 2 false,
      .commandCompletion ⟨.uart, 0, 0⟩,
      .hostLinkUp 3 (2 ^ 5 - 1) (2 ^ 4 - 1)] : List Instr).all fun c => c.wellFormed) = true := by
  decide +kernel

theorem test_wf_refuses_the_rows_added_at_the_end_of_the_table :
    (([.blockDiscard 68 ⟨0, zeros 8, false⟩,
      .blockDiscard 0 ⟨4, zeros 8, false⟩,
      .prbsCheckerLock 68,
      .prbsLockLoss 68,
      .continuousErrorInjection 68,
      .temperResample [⟨8, 0, 0, 0, 0, 0⟩],
      .linkRetrain 8 0 false,
      .linkRetrain 0 3 false,
      .commandCompletion ⟨.mgmt 4, 0, 0⟩,
      .hostLinkUp 4 0 0,
      .hostLinkUp 0 (2 ^ 5) 0,
      .hostLinkUp 0 0 (2 ^ 4)] : List Instr).all fun c => !c.wellFormed) = true := by
  decide +kernel

theorem test_wf_refuses_long_data (d : Bytes) (h : 4294967296 < d.length) :
    (Instr.stateDeposit ⟨.uart, 0, 0⟩ 0 0 0 0 0 0 0 0 d).wellFormed = false := by
  simp [Instr.wellFormed, h]

/-- Each check of an identity and of a key refuses (R9, R305, R308). -/
theorem test_wf_refuses_parts :
    (!CmdRef.fits ⟨.uart, 16, 0⟩ && !CmdRef.fits ⟨.uart, 8192, 0⟩ && !CmdRef.fits ⟨.uart, 0, 2 ^ 32⟩ && !CmdRef.fits ⟨.cp 9, 0, 0⟩ &&
      !CmdRef.fits ⟨.host 4, 0, 0⟩ && Store.keyFits .instr [7, 127, 1023, 1023] && !Store.keyFits .instr [7, 127, 1023, 1024] &&
      !Store.keyFits .route [7, 127, 1024, 0] && !Store.keyFits .egress [0, 0, 0, 256] && !Store.keyFits .inject [0, 0, 0, 16] &&
      !Store.keyFits .bank [0, 0, 2, 0] && !Store.keyFits .bank [0, 0, 0] && !({ frame0 with header := zeros 55 } : WlFrame).fits &&
      !({ frame0 with crc := 2 ^ 32 } : WlFrame).fits && !({ frame0 with lseq := 2 ^ 16 } : WlFrame).fits &&
      !CapFields.fits ⟨false, 0, 4, 0, 0, 0⟩ && !CapFields.fits ⟨false, 0, 0, 16, 0, 0⟩ && !TapReading.fits ⟨0, 0, 0, 8, 0, 0⟩) = true := by
  decide +kernel

/-- Each check of a packet, of an event of the network, of a burst, of a block and of a message refuses (R254, R256, R276, R281, R332,
R363). -/
theorem test_wf_refuses_network_parts :
    (!({ req0 with type := 16 } : NocReq).fits && !({ req0 with src := 256 } : NocReq).fits && !({ req0 with dst := 256 } : NocReq).fits &&
      !({ req0 with hearth := 8 } : NocReq).fits && !({ req0 with tag := 1024 } : NocReq).fits && !({ req0 with addr := 2 ^ 64 } : NocReq).fits &&
      !({ req0 with be := 2 ^ 64 } : NocReq).fits && !({ req0 with len := 65 } : NocReq).fits && !({ req0 with data := zeros 65 } : NocReq).fits &&
      !NocFlaw.fits ⟨[256], []⟩ && !NocFlaw.fits ⟨[], [(8, 0)]⟩ && !NocFlaw.fits ⟨[], [(0, 72)]⟩ && !NocEvent.fits (.pass 8 0 0 ⟨[], []⟩) &&
      !NocEvent.fits (.pass 0 16 0 ⟨[], []⟩) && !NocEvent.fits (.pass 0 0 7 ⟨[], []⟩) && !NocEvent.fits (.arrive 0 5) &&
      !DmaFor.fits (.cmd ⟨.mgmt 4, 0, 0⟩) && !DmaFor.fits (.noc 0 256 0) && !DmaFor.fits (.noc 0 0 1024)) = true := by
  decide +kernel

theorem test_wf_refuses_burst_and_block_parts :
    (!symbolsFit [(0, 256)] && !BurstRead.fits ⟨0, [], [(80, 1)]⟩ && !BurstRead.fits ⟨64, [], []⟩ && !WlBlock.fits ⟨4, zeros 8, false⟩ &&
      !WlBlock.fits ⟨0, zeros 7, false⟩ && !PtpMsg.fits ⟨256, false, 0, .announce 0 0 false⟩ && !PtpMsg.fits ⟨0, false, 2 ^ 64, .announce 0 0 false⟩ &&
      !TraceItem.fits (.branch (2 ^ 32) 0) && !TraceItem.fits (.exception 256 0) && !TraceItem.fits (.data false 128 0) &&
      !TraceItem.fits (.noc 256 0 0) && !TraceItem.fits (.dram 0 2 0 none) && !TraceItem.fits (.dram 0 0 32 none) &&
      !TraceItem.fits (.sched 0 65536 0 0) && !TraceItem.fits (.power 0 (2 ^ 32))) = true := by
  decide +kernel

/-! ## Check values of the standard functions -/

/-- The nine digits over which check values of a CRC are given. -/
def digits : Bytes := (List.range 9).map fun k => BitVec.ofNat 8 (0x31 + k)

/-- The example "abc" of FIPS 180-4. -/
theorem test_sha384_abc : sha384 [0x61, 0x62, 0x63] =
    toBE 48 0xcb00753f45a35e8bb5a03d699ac65007272c32ab0eded1631a8b605a43ff5bed8086072ba1e7cc2358baeca134c825a7 := by
  decide +kernel

theorem test_crc32_digits : crc32 digits = 0xCBF43926 := by decide +kernel

theorem test_crc8_digits : crc8 digits = 0xF4 := by decide +kernel

theorem test_crc16_digits : crcOf 16 0x1021 0xFFFF (bitsMsb digits) = 0x29B1 := by decide +kernel

/-- Eight symbols in error are corrected (R256, R258). -/
theorem test_rs_corrects_eight :
    (rsDecode (addAt (rsWord (zeros 60 ++ [1, 2, 3, 4])) [0, 7, 19, 20, 41, 63, 77, 79] [1, 2, 3, 4, 5, 6, 7, 8])).map
      (fun x => (rsData x.1, x.2)) = some (zeros 60 ++ [1, 2, 3, 4], 8) := by
  decide +kernel

/-! ## States to start from -/

/-- A state with some registers at the values given. -/
def put (s : State) (l : List (Fld × Nat × Nat × Nat)) : State := l.foldl (fun s e => s.setReg e.1 e.2.1 e.2.2.1 e.2.2.2) s

/-- A command of host port 0, the owner. -/
def cmd0 : CmdRef := ⟨.host 0, 0, 7⟩

/-- The module in SERVICE: host port 0 is an owner, and region 0 is on. -/
def sOn : State := { put State.reset [(.modStateMode, 0, 0, Mod.service), (.hostRoleGrant, 0, 0, 1), (.modRgnOnLo, 0, 0, 1)] with
  sys := { Sys.init with steward := true, anvilOn := [([0], true)] } }

/-- Partition 0 holds region 0, in a mode. -/
def sPart (mode : Nat) : State := put sOn [(.partRunExists, 0, 0, 1), (.partRgnLo, 0, 0, 1), (.partRunMode, 0, 0, mode), (.partOwnHost, 0, 0, 0)]

/-- The state with what partition 0 holds beside its registers. -/
def withPart (s : State) (x : Part) : State := { s with parts := Tab.put Part.init s.parts [0] x }

/-- A lane in a state, with a logical lane. -/
def onLane (s : State) (l st logical : Nat) : State := put s [(.wlTrainState, l, 0, st), (.wlTrainLogical, l, 0, logical)]

/-- A lane of the module in a state, with a logical lane. -/
def sLane (l st logical : Nat) : State := onLane sOn l st logical

/-- A frame with the sequence number `n`. -/
def tx (n : Nat) : TxFrame := ⟨n, zeros 32, [], 0, 0⟩

/-- Logical lane `i` of bundle 0 with a retry buffer. -/
def retries (i : Nat) (fs : List TxFrame) : Wl := { Wl.init with logs := [([0, i], { LogLane.init with retry := fs })] }

/-- Stream 3 is bound to partition 0 over bundle 0, in both directions. -/
def sBound (mode : Nat) : State := put (sPart mode) [(.wlStreamBindValid, 3, 0, 1), (.wlStreamBindBundles, 3, 0, 1), (.wlStreamBindInEn, 3, 0, 1),
  (.wlStreamBindOutEn, 3, 0, 1), (.wlStreamInLimit, 3, 0, 512), (.wlStreamOutLimit, 3, 0, 512), (.partCmpSrcStream, 0, 0, 3)]

/-- A spare request of bundle 0 for logical lane 2 is under way over the spare lane, which is up. -/
def sSpare (r : Option (Nat × Bool)) (logical : Nat) : State := { onLane (onLane (onLane sOn 64 6 logical) 2 6 2) 3 6 3 with
  wl := { Wl.init with
    lanes := [([64], { Lane.init with cap := some ⟨true, 15, 2, 8, 0, 9⟩ })]
    bundles := [([0], { Bundle.init with partner := some (9, 0), spare := r })] } }

/-! ## Images -/

/-- Its key. -/
def imgFullKey : Bytes := toLE 97 0x89d681e6209b1d68a1b1f15fddbaa2c7b813775429b666757202c889f294593d119378fe432f144126ac4ffc5b084caa642e29ba1d70a2f308e011bfd0bd68fa87f5356c0cf2dc5c65e9f8492e422769dba558d9275fd0a7506e65f64c7c1b9c04

/-- An image with a region map alone, signed with the key beside it. -/
def imgSmall : Bytes := toLE 472 0x85b200c387ffd72064daf9bb3a0cb5ee16c96daafd0d7ec7d5efb2bc736ec4770c2b9dd661acbcb40c1c45e1f05ca83585b200c387ffd72064daf9bb3a0cb5ee16c96daafd0d7ec7d5efb2bc736ec4770c2b9dd661acbcb40c1c45e1f05ca8350440441c00efa8f200000000000000007c0aae60eb15f324f8136122b124c6a3ceec0fe981656845ea5993b5e4948e68ab3b2861c9410d840d88ad57b4f7d61d000000000000000000000000000000000000000041d912ff00000000000000020000000000000160000000000000000100000000000000000000000000000000000000000000000000000000000000000000000000000000000000000000000000000000000000000000000000000000000000000000000000000000000000000000000000000000000000000000000000000000000000000000000000000000000000000000000000000000000000000000000000000000000000000000000000000000000000000000000000000000000000000000000000000000000000000000000000000000000000000000000000000000000000040000000000000100000000000000000100000000000001d800000000000000000708ffffffff030600000000000001b000080200474d495a

/-- The load of an image with `n` sections, after its first stage. -/
def loadOf (img : Bytes) (n next : Nat) : Load :=
  ⟨cmd0, 0, 0, img.length, false, 0, slice img 0 256, slice img 256 (96 * n), slice img (img.length - 112) 112, 0, 0, 0, 0, 0, [], [], [], next, []⟩

/-- Partition 0 in a stage of a load. -/
def sLoad (mode stage : Nat) (l : Load) : State :=
  withPart (put (sPart mode) [(.partLoadStage, 0, 0, stage)]) { Part.init with load := some l }

/-- An image with a region map alone, whose signature is zeros. -/
def imgPlain : Bytes :=
  toLE 4 0x474D495A ++ [0, 2, 8, 0, 0xB0, 1, 64, 0] ++ zeros 4 ++ toLE 8 0x0708FFFFFFFF0306 ++ zeros 8 ++ toLE 8 472 ++ toLE 8 1 ++
  toLE 8 256 ++ toLE 8 0x400 ++ zeros 8 ++ zeros 184 ++
  toLE 8 1 ++ toLE 8 0x160 ++ toLE 8 2 ++ toLE 8 0x41D912FF ++ zeros 16 ++
  toLE 48 0x7c0aae60eb15f324f8136122b124c6a3ceec0fe981656845ea5993b5e4948e68ab3b2861c9410d840d88ad57b4f7d61d ++
  zeros 8 ++ zeros 112

/-- The load of that image, read again from the host at each stage. -/
def loadPlain : Load := ⟨cmd0, 0, 0, 472, false, 0, [], [], [], 0, 0, 0, 0, 0, [], [], [], 0, []⟩

/-- A row of a section table. -/
def sectRow (type scope off len : Nat) : Bytes := toLE 2 type ++ toLE 2 scope ++ zeros 4 ++ toLE 8 off ++ toLE 8 len ++ zeros 72

/-- An image with a region map and the section of hearth 0, whose bytes and digests are zeros. -/
def imgHearth : Bytes :=
  toLE 4 0x474D495A ++ [0, 2, 8, 0, 0xB0, 1, 64, 0] ++ zeros 4 ++ toLE 8 0x0708FFFFFFFF0306 ++ zeros 8 ++ toLE 8 2464 ++ toLE 8 2 ++
  toLE 8 256 ++ toLE 8 0x400 ++ zeros 8 ++ zeros 184 ++ sectRow 1 0 448 2 ++ sectRow 16 0 456 1896 ++ zeros 2016

/-- Its load. -/
def loadHearth : Load := { loadPlain with length := 2464 }

/-- The command of `cmd0` has begun and waits. -/
def busy0 (code : Nat) : HostIf := { HostIf.init with busy := [⟨cmd0, code, [], none, 0, 2, [], none⟩] }

/-- An access of class 2 of `cmd0` under way: one part of it is left. -/
def job0 : DJob := ⟨3, .cmd cmd0, 0, 0, 8, [⟨0, 0, 8, none⟩], zeros 8, 1, false⟩

/-- One that has been served, with 4,096 bytes. -/
def jobDone (n : Nat) : DJob := ⟨3, .cmd cmd0, 0, 0, n, [], List.replicate n 7, 0, false⟩

/-- Partition 0 in INSPECT with 64 KiB of DRAM on anvil 0. -/
def sAlloc : State := withPart (sPart 4) { Part.init with allocs := [(0, 0x200000, 0x10000)] }

/-- The same with a capture that holds a snapshot. -/
def sSnap : State := withPart (put (sPart 4) [(.partCapStatusState, 0, 0, 3)])
  { Part.init with allocs := [(0, 0x200000, 0x10000)], cap := { Capture.init with snapshot := true } }

/-- Partition 0 in a mode, with a capture area of the largest size. -/
def sCap (mode : Nat) : State := withPart (put (sPart mode) [(.partCapSizeMib, 0, 0, 1024), (.partCapBaseLo, 0, 0, 2), (.partAcqRingSizeLog2, 0, 0, 16),
  (.partAcqBaseLo, 0, 0, 0x6000)]) { Part.init with allocs := [(0, 0x200000, 0x50000000)] }

/-- A DRAM request of class 0 in the queue of anvil 0: a read of 8 bytes for emulation access 5. -/
def reqRead : DReq := ⟨9, 0, 0, 0x10008, 8, false, [], .port 5, false, true⟩

/-- A write of 4 bytes. -/
def reqWrite : DReq := ⟨9, 0, 0, 0x10008, 4, true, [some 1, none, some 3, some 4], .port 5, false, true⟩

/-- A write of a whole burst. -/
def reqWhole : DReq := ⟨9, 1, 0, 0x10000, 64, true, List.replicate 64 (some 1), .fmap 0, false, true⟩

/-- A read for an access of class 2. -/
def reqJob : DReq := ⟨9, 2, 0, 0x10008, 8, false, [], .job 3 0, false, true⟩

/-- A job that waits for it. -/
def jobOf : DJob := ⟨3, .cmd cmd0, 0, 0, 8, [], zeros 8, 1, false⟩

/-- Anvil 0 with DRAM of its own. -/
def sDram (d : Dram) : State := { sOn with dram := d }

/-- A DMA access whose bank has been busy for too long. -/
def dma0 : DmaJob := ⟨.cmd cmd0, 0, 0, 0, 0, 8, 0, [], 4096, false, none, 4096⟩

/-- Symbols in error in every device. -/
def badMany : List (Nat × Nat) := (List.range 10).map fun k => (k, 1 + k)

/-- A command whose one DRAM access has been served. -/
theorem accessed_done (s : State) (r : CmdRef) (n : Nat) (bs : Bytes) (h : s.dram.jobs = [⟨3, .cmd r, 0, 0, n, [], bs, 0, false⟩]) :
    s.accessed r bs false = true := by
  simp [State.accessed, h]

/-- A packet on its way, without its header check. -/
def pk (type src dst tag addr len : Nat) : NocPkt := ⟨BitVec.ofNat 256 (headerBody type src dst tag 0 addr 0 len 0 1 0), []⟩

/-- A message of router 0 of anvil 0 to its router 2, whose header is right. -/
def pkMsg : NocPkt := ⟨sealed (headerBody 4 0 2 0 0 0 0 0 0 1 0), []⟩

/-- The module with one packet in an input buffer of a router. -/
def sPkt (a r inp v : Nat) (k : NocPkt) : State := { put sOn [(.nocTagFullCount, 0, 0, 7)] with noc := { Noc.init with bufs := [([a, r, inp, v], [⟨k, 5⟩])] } }

/-- Router 0 of anvil 0 sends to router 1. -/
def reqMsg : NocReq := ⟨4, 0, 1, 0, 0, 0, 0, 0, .dma, [1, 2, 3]⟩

/-- Hearth agent 0 of anvil 0 reads 8 bytes of the DRAM. -/
def reqNoc : NocReq := ⟨1, 0, 0x11, 0, 1023, 4096, 0, 8, .dma, []⟩

/-- The tag of such a request. -/
def tag0 (dead : Bool) : NocTag := ⟨0, 0x11, 0, some 0, 1, 8, dead⟩

/-- The module with that tag. -/
def sTag (dead : Bool) : State := { sOn with noc := { Noc.init with tags := [([0, 1023], some (tag0 dead))] } }

/-- The network in a phase of a route change. -/
def sPhase (n : Nat) : State := { sOn with noc := { Noc.init with phase := n } }

/-- The request record of MOD_RESET-like code 0x0FFF, which names no command, in slot 2 of mailbox 0. -/
def recUnknown : Bytes := toLE 2 0x0FFF ++ toLE 2 0 ++ toLE 4 7 ++ zeros 24

/-- Queue 5 belongs to partition 0: a completion or event queue with entries. -/
def sQueue (type : Nat) : State := put (sPart 2) [(.queueCfgType, 5, 0, type), (.queueCfgPart, 5, 0, 0), (.queueCtlEnable, 5, 0, 1), (.queueCfgSizeLog2, 5, 0, 6)]

/-- The module in a mode of its own. -/
def sMode (m : Nat) : State := put sOn [(.modStateMode, 0, 0, m)]

/-- The module with a local service origin. -/
def uart0 : CmdRef := ⟨.uart, 0, 7⟩

/-- A settings copy that is in use. -/
def sCopy : State := { put sOn [(.modBootSettingsSrc, 0, 0, 1)] with sys := { sOn.sys with copies := [([0], List.replicate 100 9)] } }

/-- The module with the inlet A in service. -/
def sFeed : State := put sOn [(.pwrStatusFeedA, 0, 0, 1)]

/-- A module that has not booted. -/
def sBoot : State := State.reset

/-- The state after a command. -/
def nx (c : Instr) (s : State) : State := match exec c s with | .next t => t | _ => s

/-- The state after a step. -/
def stp (s : State) : State := match step s with | .next t => t | _ => s

/-! ## Values that meet the hypotheses of each statement -/

theorem witness_ExecutionEventsComplete_1 : ∃ (p : ℕ) (ups : List Upset) (s : State), s.stepDue p = true ∧ s.sSteps p ≤ 1024 ∧ s.unheld .partCtlSSteps p = true :=
  ⟨0, [], put (sPart 2) [(.partCtlSSteps, 0, 0, 1024), (.partSchedStep, 0, 0, 1023)], by decide +kernel⟩

theorem witness_ExecutionEventsComplete_2 : ∃ (p : ℕ) (s : State), s.boundaryDue p = true ∧ s.unheld .partSchedCycleLo p = true ∧ s.unheld .partSchedCycleHi p = true ∧ s.unheld .partRunLeftLo p = true ∧ s.unheld .partRunLeftHi p = true ∧ s.unheld .partRunMode p = true :=
  ⟨0, put (sPart 2) [(.partCtlSSteps, 0, 0, 64), (.partSchedEnd, 0, 0, 1)], by decide +kernel⟩

theorem witness_ExecutionEventsComplete_3 : ∃ (p : ℕ) (s : State), s.executing p = true ∧ s.landings p ≠ [] :=
  ⟨0, withPart (sPart 2) { Part.init with entering := [⟨0xA, 0, 0, false⟩] }, by decide +kernel⟩

theorem witness_ExecutionEventsComplete_4 : ∃ (p : ℕ) (s : State), s.executing p = true ∧ s.frozen p = true ∧ s.holdMask p = 0 ∧ s.latchedMask p = 0 ∧ (s.part p).haltNow = [] :=
  ⟨0, put (sPart 2) [(.partRunQuenched, 0, 0, 1)], by decide +kernel⟩

theorem witness_ExecutionEventsComplete_5 : ∃ (o : Origin) (p : ℕ) (s : State), s.executing p = true ∧ s.mayPart o p = true :=
  ⟨.host 0, 0, sPart 3, by decide +kernel⟩

theorem witness_PartitionCommandsComplete_1 : ∃ (r : CmdRef) (p : ℕ) (regions : ℕ) (port : ℕ) (s : State), s.fresh r = true ∧ s.isOwner r.org = true ∧ p < 32 ∧ port < 4 ∧ s.portPresent port = true ∧ s.pExists p = false ∧ setBitsOf 64 regions ≠ [] ∧ ((∀ x ∈ setBitsOf 64 regions, x < s.grade.regions)) ∧ (setBitsOf 64 regions).any s.regionBusy = false ∧ s.modQuiet = false ∧ (setBitsOf 64 regions).any s.domainFailed = false :=
  ⟨cmd0, 31, 2 ^ 63 + 1, 0, sOn, by decide +kernel⟩

theorem witness_PartitionCommandsComplete_2 : ∃ (r : CmdRef) (p : ℕ) (port : ℕ) (s : State), s.admits r p = true ∧ s.isOwner r.org = true ∧ port < 4 ∧ s.portPresent port = true ∧ s.loadStage p = 0 ∧ s.partQuiet p = true :=
  ⟨cmd0, 0, 0, sPart 1, by decide +kernel⟩

theorem witness_PartitionCommandsComplete_3 : ∃ (r : CmdRef) (p : ℕ) (s : State), s.admits r p = true ∧ s.isOwner r.org = true ∧ s.running p = false ∧ s.finishes p = false ∧ s.insertingIn p = false :=
  ⟨cmd0, 0, sPart 4, by decide +kernel⟩

theorem witness_PartitionCommandsComplete_4 : ∃ (r : CmdRef) (p : ℕ) (mode : ℕ) (ack : ℕ) (cycles : ℕ) (s : State), s.admits r p = true ∧ mode < 2 ∧ ack < 2 ∧ s.loadStage p = 0 ∧ s.mode p = Mode.ready ∧ s.modMode ≠ Mod.maintenance ∧ (s.regions p).all s.regionOn = true ∧ s.sourceBad p mode = false ∧ ((s.faultHeld p = true → ack = 1)) ∧ s.insertingIn p = false :=
  ⟨cmd0, 0, 0, 1, 5, put (sPart 1) [(.partQuenchLatched, 0, 0, 0x1000)], by decide +kernel⟩

theorem witness_PartitionCommandsComplete_5 : ∃ (r : CmdRef) (p : ℕ) (flush : ℕ) (ack : ℕ) (s : State), s.admits r p = true ∧ flush < 2 ∧ ack < 2 ∧ s.loadStage p = 0 ∧ (s.regions p).all s.regionOn = true ∧ ((s.faultHeld p = true → ack = 1)) ∧ s.running p = true :=
  ⟨cmd0, 0, 1, 0, sPart 2, by decide +kernel⟩

theorem witness_PartitionCommandsComplete_6 : ∃ (r : CmdRef) (p : ℕ) (flush : ℕ) (ack : ℕ) (s : State), s.admits r p = true ∧ flush < 2 ∧ ack < 2 ∧ s.loadStage p = 0 ∧ (s.regions p).all s.regionOn = true ∧ ((s.faultHeld p = true → ack = 1)) ∧ s.mode p = Mode.inspect ∧ s.finishes p = false ∧ s.flag .partRunMidcycle p 0 = false :=
  ⟨cmd0, 0, 0, 0, sPart 4, by decide +kernel⟩

theorem witness_PartitionCommandsComplete_7 : ∃ (r : CmdRef) (p : ℕ) (now : ℕ) (ack : ℕ) (s : State), s.admits r p = true ∧ now < 2 ∧ ack < 2 ∧ s.loadStage p = 0 ∧ (s.regions p).all s.regionOn = true ∧ s.latchedMask p = 0 ∧ s.running p = true :=
  ⟨cmd0, 0, 0, 0, sPart 3, by decide +kernel⟩

theorem witness_PartitionCommandsComplete_8 : ∃ (r : CmdRef) (p : ℕ) (ack : ℕ) (s : State), s.admits r p = true ∧ ack < 2 ∧ s.loadStage p = 0 ∧ (s.regions p).all s.regionOn = true ∧ s.latchedMask p ≠ 0 ∧ s.running p = true ∧ s.frozen p = true :=
  ⟨cmd0, 0, 0, put (sPart 2) [(.partQuenchLatched, 0, 0, 2), (.partRunQuenched, 0, 0, 1)], by decide +kernel⟩

theorem witness_PartitionCommandsComplete_9 : ∃ (r : CmdRef) (p : ℕ) (ack : ℕ) (s : State), s.admits r p = true ∧ ack < 2 ∧ s.loadStage p = 0 ∧ (s.regions p).all s.regionOn = true ∧ ((s.faultHeld p = true → ack = 1)) ∧ s.running p = true :=
  ⟨cmd0, 0, 1, put (sPart 2) [(.partQuenchLatched, 0, 0, 2)], by decide +kernel⟩

theorem witness_PartitionCommandsComplete_10 : ∃ (r : CmdRef) (p : ℕ) (ack : ℕ) (s : State), s.admits r p = true ∧ ack < 2 ∧ s.loadStage p = 0 ∧ (s.regions p).all s.regionOn = true ∧ ((s.faultHeld p = true → ack = 1)) ∧ s.mode p = Mode.inspect ∧ s.finishes p = false ∧ s.insertingIn p = false ∧ (s.part p).leftMode < 8 :=
  ⟨cmd0, 0, 0, withPart (sPart 4) { Part.init with leftMode := 3 }, by decide +kernel⟩

theorem witness_PartitionCommandsComplete_11 : ∃ (r : CmdRef) (p : ℕ) (s : State), s.admits r p = true ∧ s.insertingIn p = false ∧ (s.part p).destroys = [] :=
  ⟨cmd0, 0, sPart 4, by decide +kernel⟩

theorem witness_LoadCommandsComplete_1 : ∃ (r : CmdRef) (slot : ℕ) (key : Bytes) (s : State), s.fresh r = true ∧ s.isOwner r.org = true ∧ slot < 8 ∧ key.length = 97 ∧ key.getD 0 0 = 4 ∧ onCurve (pointOf key) = true :=
  ⟨cmd0, 7, imgFullKey, sOn, by decide +kernel⟩

theorem witness_LoadCommandsComplete_2 : ∃ (r : CmdRef) (slot : ℕ) (s : State), s.fresh r = true ∧ s.isOwner r.org = true ∧ slot < 8 :=
  ⟨cmd0, 7, sOn, by decide +kernel⟩

theorem witness_LoadCommandsComplete_3 : ∃ (p : ℕ) (s : State), s.loadsBusy < 4 ∧ p < 32 ∧ s.loadStage p = 7 ∧ ((∀ q, q < 32 → q ≠ p → s.loadStage q = 7 → (s.part p).load.elim 0 Load.order < (s.part q).load.elim 0 Load.order)) :=
  ⟨0, sLoad 1 7 (loadOf imgSmall 1 0), by decide +kernel⟩

theorem witness_LoadCommandsComplete_4 : ∃ (r : CmdRef) (p : ℕ) (srcPort : ℕ) (addr : ℕ) (length : ℕ) (flags : ℕ) (s : State), s.admits r p = true ∧ flags < 2 ∧ srcPort < 4 ∧ s.portPresent srcPort = true ∧ ((s.isOwner r.org = true ∨ r.org = .host srcPort)) ∧ s.loadStage p = 0 ∧ ((bit flags 0 = true ∨ s.mode p = Mode.loading ∨ s.mode p = Mode.ready)) :=
  ⟨cmd0, 0, 0, 4096, 5000, 0, sPart 0, by decide +kernel⟩

theorem witness_LoadCommandsComplete_5 : ∃ (p : ℕ) (img : Bytes) (s : State) (l : Load), s.loadIn p 1 = some l ∧ imgHas img.toArray 0 256 = true ∧ s.headerFail p l.length img.toArray = none ∧ imgHas img.toArray (imgTable img.toArray) (96 * imgCount img.toArray) = true ∧ imgHas img.toArray (imgTrailer img.toArray) 112 = true ∧ imgZero img.toArray (imgTrailer img.toArray + 104) 8 = true ∧ ((∀ e, sectOf img.toArray ST.regionMap 0 = some e → imgTrailer img.toArray < e.off + e.len ∨ imgHas img.toArray e.off e.len = true)) :=
  ⟨0, imgPlain, sLoad 1 1 loadPlain, loadPlain, by refine ⟨?_, ?_, ?_, ?_, ?_, ?_, ?_⟩ <;> first | decide +kernel | (intro e h; exact Or.inr (by cases h; decide +kernel))⟩

theorem witness_LoadCommandsComplete_6 : ∃ (p : ℕ) (img : Bytes) (s : State) (l : Load) (t0 : Transform) (allocs : List (ℕ × ℕ × ℕ)), s.loadIn p 2 = some l ∧ (s.regions p).all s.regionOn = true ∧ (imgSects (l.view img)).all (fun e => sectHas img e || decide (e.type = ST.probes)) = true ∧ s.mapBad (l.view img) = false ∧ s.transform p (l.view img) = some t0 ∧ orFail (s.latencyFail t0 (l.view img))
      ((dramSects (l.view img)).findSome? fun e => if dramHeadBad (l.view img) e then some (⟨.imageFormat, e.idx, 0⟩ : LFail) else none)
      = none ∧ s.planAllocs p t0 (l.view img) (dramSects (l.view img)) = .ok allocs ∧ ((∀ e ∈ dramSects (l.view img), s.slotsTaken p (t0.anvil e.scope) + imgLe (l.view img) (e.off + 8) 2 ≤ 256)) ∧ s.queueFail p (l.view img) = none ∧ s.pinFail p (l.view img) = none ∧ s.linkOutFail t0 (l.view img) = none :=
  ⟨0, imgPlain, sLoad 1 2 loadPlain, loadPlain, ⟨0, 0, 0⟩, [], by decide +kernel⟩

theorem witness_LoadCommandsComplete_7a : ∃ (p : ℕ) (img : Bytes) (s : State) (l : Load), s.loadIn p 3 = some l ∧ (imgSects (l.view img)).all (sectHas img) = true ∧ s.checkFail p l (l.view img) = none :=
  ⟨0, imgPlain, sLoad 1 3 loadPlain, loadPlain, by decide +kernel⟩

theorem witness_LoadCommandsComplete_7b : ∃ (p : ℕ) (img : Bytes) (s : State) (l : Load), s.loadIn p 3 = some l ∧ (imgSects (l.view img)).all (sectHas img) = true ∧ s.checkFail p l (l.view img) = none :=
  ⟨0, imgPlain, sLoad 3 3 { loadPlain with checkOnly := true }, { loadPlain with checkOnly := true }, by decide +kernel⟩

theorem witness_LoadCommandsComplete_8 : ∃ (p : ℕ) (s : State) (l : Load), s.loadIn p 4 = some l ∧ (s.loadOpen p l).loadFrozen l = none :=
  ⟨0, sLoad 1 4 (loadOf imgSmall 1 0), loadOf imgSmall 1 0, by decide +kernel⟩

theorem witness_LoadCommandsComplete_9 : ∃ (p : ℕ) (img : Bytes) (s : State) (l : Load), s.loadIn p 5 = some l ∧ ((imgSects (l.view img)).filter fun e => decide (e.type ≠ ST.hearth)).all (sectHas img) = true ∧ s.loadFrozen l = none :=
  ⟨0, imgPlain, sLoad 0 5 loadPlain, loadPlain, by decide +kernel⟩

theorem witness_LoadCommandsComplete_10 : ∃ (p : ℕ) (img : Bytes) (n : ℕ) (s : State) (l : Load) (a : ℕ) (h : ℕ) (e : Sect), s.loadIn p 6 = some l ∧ (hearthOrder s p l.transform (l.view img))[l.next]? = some (a, h, e) ∧ sectHas img e = true :=
  ⟨0, imgHearth, 2, sLoad 0 6 loadHearth, loadHearth, 0, 0, ⟨1, 16, 0, 456, 1896, 0⟩, by decide +kernel⟩

theorem witness_LoadCommandsComplete_11 : ∃ (a : ℕ) (id : ℕ) (s : State) (j : DJob) (r : CmdRef) (b : Busy), (s.dram.jobs.find? (fun j => decide (j.id = id ∧ j.anvil = a)) = some j) ∧ j.who = .cmd r ∧ s.flag .ddrStatusFrozen a 0 = true ∧ j.left ≠ 0 ∧ s.busyOf r = some b ∧ b.ans = none ∧ ((∀ p, p < 32 → (s.part p).load.any (fun l => decide (l.ref = r)) = false)) :=
  ⟨0, 3, { put sOn [(.ddrStatusFrozen, 0, 0, 1)] with dram := { Dram.init with jobs := [job0] }, host := busy0 0x702 }, job0, cmd0, ⟨cmd0, 0x702, [], none, 0, 2, [], none⟩, by decide +kernel⟩

theorem witness_ObservationCommandsComplete_1 : ∃ (p : ℕ) (j : ℕ) (s : State), s.pExists p = true ∧ j < 4 ∧ s.tmrExpired p j = true :=
  ⟨0, 3, withPart (put (sPart 2) [(.partTrigTmrRunning, 0, 3, 1)]) { Part.init with deadline := [([3], some 0)] }, by decide +kernel⟩

theorem witness_ObservationCommandsComplete_3 : ∃ (o : Origin) (p : ℕ) (s : State), s.pExists p = true ∧ s.mayPart o p = true :=
  ⟨.host 0, 0, sPart 2, by decide +kernel⟩

theorem witness_ObservationCommandsComplete_4 : ∃ (o : Origin) (p : ℕ) (s : State), s.pExists p = true ∧ s.mayPart o p = true :=
  ⟨.host 0, 0, sPart 2, by decide +kernel⟩

theorem witness_ObservationCommandsComplete_5 : ∃ (p : ℕ) (s : State), s.flag .partAcqCtlEnable p 0 = true ∧ (s.part p).acq.isOpen = false ∧ s.segFree p = true :=
  ⟨0, put (sPart 2) [(.partAcqCtlEnable, 0, 0, 1), (.partAcqStatusWait, 0, 0, 1)], by decide +kernel⟩

theorem witness_ObservationCommandsComplete_6a : ∃ (r : CmdRef) (p : ℕ) (at_ : ℕ) (cycle : ℕ) (edge : ℕ) (flags : ℕ) (s : State), s.admits r p = true ∧ at_ < 3 ∧ edge < 64 ∧ flags < 4 ∧ s.mode p ≠ Mode.loading ∧ s.capReady p = true ∧ s.capRefusal p flags = none ∧ ((at_ = 1 → s.cycle p < cycle + 1 ∨ (cycle + 1 = s.cycle p ∧ (s.part p).started = false))) :=
  ⟨cmd0, 0, 0, 0, 63, 0, sCap 1, by decide +kernel⟩

theorem witness_ObservationCommandsComplete_6b : ∃ (r : CmdRef) (p : ℕ) (at_ : ℕ) (cycle : ℕ) (edge : ℕ) (flags : ℕ) (s : State), s.admits r p = true ∧ at_ < 3 ∧ edge < 64 ∧ flags < 4 ∧ s.mode p ≠ Mode.loading ∧ s.capReady p = true ∧ s.capRefusal p flags = none ∧ ((at_ = 1 → s.cycle p < cycle + 1 ∨ (cycle + 1 = s.cycle p ∧ (s.part p).started = false))) :=
  ⟨cmd0, 0, 1, 2 ^ 64 - 1, 0, 2, sCap 2, by decide +kernel⟩

theorem witness_ObservationCommandsComplete_6c : ∃ (r : CmdRef) (p : ℕ) (at_ : ℕ) (cycle : ℕ) (edge : ℕ) (flags : ℕ) (s : State), s.admits r p = true ∧ at_ < 3 ∧ edge < 64 ∧ flags < 4 ∧ s.mode p ≠ Mode.loading ∧ s.capReady p = true ∧ s.capRefusal p flags = none ∧ ((at_ = 1 → s.cycle p < cycle + 1 ∨ (cycle + 1 = s.cycle p ∧ (s.part p).started = false))) :=
  ⟨cmd0, 0, 2, 0, 63, 3, sCap 3, by decide +kernel⟩

theorem witness_ObservationCommandsComplete_7 : ∃ (r : CmdRef) (p : ℕ) (s : State), s.admits r p = true ∧ s.reg .partCapStatusState p 0 ≠ 2 ∧ s.reg .partCapStatusState p 0 < 4 :=
  ⟨cmd0, 0, sSnap, by decide +kernel⟩

theorem witness_ObservationCommandsComplete_8 : ∃ (p : ℕ) (s : State), s.reg .partCapStatusState p 0 = 2 ∧ s.flag .ddrStatusFrozen (s.homeAnvil p) 0 = false ∧ ((s.executing p = false ∨ s.frozen p = true ∨ (s.part p).cap.allTaken (s.hearths p) = true)) :=
  ⟨0, put (sPart 4) [(.partCapStatusState, 0, 0, 2)], by decide +kernel⟩

theorem witness_ObservationCommandsComplete_9 : ∃ (r : CmdRef) (p : ℕ) (anvil : ℕ) (offset : ℕ) (length : ℕ) (addr : ℕ) (s : State) (b : ℕ) (n : ℕ), s.admits r p = true ∧ anvil < s.grade.anvils ∧ s.role r.org ≠ Role.local_ ∧ offset % 4096 = 0 ∧ length % 4096 = 0 ∧ length ≠ 0 ∧ s.reg .partCapStatusState p 0 = 3 ∧ (s.part p).cap.snapshot = true ∧ s.allocOn p anvil = some (b, n) ∧ offset + length ≤ n ∧ s.noAccess r = true ∧ ((List.range (length / 4096)).all fun k => !Tab.get false (s.part p).cap.gone [anvil, (b + offset) / 4096 + k]) = true :=
  ⟨cmd0, 0, 0, 4096, 8192, 4096, sSnap, 0x200000, 0x10000, by decide +kernel⟩

theorem witness_ObservationCommandsComplete_10 : ∃ (r : CmdRef) (p : ℕ) (anvil : ℕ) (offset : ℕ) (length : ℕ) (addr : ℕ) (bs : Bytes) (s : State) (b : ℕ) (n : ℕ), s.admitsOn r p = true ∧ anvil < s.grade.anvils ∧ s.role r.org ≠ Role.local_ ∧ offset % 4096 = 0 ∧ length % 4096 = 0 ∧ s.reg .partCapStatusState p 0 = 3 ∧ (s.part p).cap.snapshot = true ∧ s.allocOn p anvil = some (b, n) ∧ offset + length ≤ n ∧ s.accessed r bs false = true ∧ ((List.range (length / 4096)).all fun k => !Tab.get false (s.part p).cap.gone [anvil, (b + offset) / 4096 + k]) = true :=
  ⟨cmd0, 0, 0, 0, 4096, 4096, List.replicate 4096 7, { sSnap with dram := { Dram.init with jobs := [jobDone 4096] }, host := busy0 0x0703 }, 0x200000, 0x10000, ⟨by decide +kernel, by decide +kernel, by decide +kernel, by decide, by decide, by decide +kernel, by decide +kernel, by decide +kernel, by decide, accessed_done _ _ 4096 _ rfl, by decide +kernel⟩⟩

theorem witness_ObservationCommandsComplete_11a : ∃ (r : CmdRef) (p : ℕ) (kind : ℕ) (anvil : ℕ) (hearth : ℕ) (first : ℕ) (count : ℕ) (addr : ℕ) (s : State), s.admits r p = true ∧ anvil < s.grade.anvils ∧ hearth < 128 ∧ kind ≤ 3 ∧ s.role r.org ≠ Role.local_ ∧ s.inPart p anvil hearth = true ∧ first < 1024 ∧ first + count ≤ 1024 ∧ s.stopped p = true :=
  ⟨cmd0, 0, 3, 0, 0, 1023, 1, 4096, sPart 4, by decide +kernel⟩

theorem witness_ObservationCommandsComplete_11b : ∃ (r : CmdRef) (p : ℕ) (kind : ℕ) (anvil : ℕ) (hearth : ℕ) (first : ℕ) (count : ℕ) (addr : ℕ) (s : State), s.admits r p = true ∧ anvil < s.grade.anvils ∧ hearth < 128 ∧ kind ≤ 3 ∧ s.role r.org ≠ Role.local_ ∧ s.inPart p anvil hearth = true ∧ first < 1024 ∧ first + count ≤ 1024 ∧ s.stopped p = true :=
  ⟨cmd0, 0, 0, 0, 0, 0, 2, 4096, sPart 1, by decide +kernel⟩

theorem witness_ObservationCommandsComplete_12 : ∃ (r : CmdRef) (p : ℕ) (kind : ℕ) (anvil : ℕ) (hearth : ℕ) (first : ℕ) (count : ℕ) (addr : ℕ) (s : State), s.admits r p = true ∧ anvil < s.grade.anvils ∧ hearth < 128 ∧ (kind = 4 ∨ kind = 5) ∧ s.role r.org ≠ Role.local_ ∧ s.inPart p anvil hearth = true ∧ first + count ≤ 131072 ∧ s.bankIdle anvil hearth = true ∧ ((s.fab.dma.any fun x => decide (x.anvil = anvil ∧ x.hearth = hearth ∧ x.bank = kind - 4)) = false) ∧ (s.fab.dmaRead anvil hearth (kind - 4) first count).2 = false :=
  ⟨cmd0, 0, 5, 0, 0, 131071, 1, 4096, sPart 4, by decide +kernel⟩

theorem witness_ObservationCommandsComplete_13 : ∃ (r : CmdRef) (p : ℕ) (anvil : ℕ) (hearth : ℕ) (first : ℕ) (count : ℕ) (addr : ℕ) (s : State) (b : ℕ) (n : ℕ), s.admits r p = true ∧ anvil < s.grade.anvils ∧ hearth < 128 ∧ s.role r.org ≠ Role.local_ ∧ first % 8 = 0 ∧ s.allocOn p anvil = some (b, n) ∧ first + count ≤ n ∧ count ≠ 0 ∧ s.stopped p = true ∧ s.noAccess r = true :=
  ⟨cmd0, 0, 0, 0, 8, 100, 4096, sAlloc, 0x200000, 0x10000, by decide +kernel⟩

theorem witness_ObservationCommandsComplete_14 : ∃ (r : CmdRef) (p : ℕ) (anvil : ℕ) (hearth : ℕ) (first : ℕ) (count : ℕ) (addr : ℕ) (bs : Bytes) (s : State) (b : ℕ) (n : ℕ), s.admitsOn r p = true ∧ anvil < s.grade.anvils ∧ hearth < 128 ∧ s.role r.org ≠ Role.local_ ∧ first % 8 = 0 ∧ s.allocOn p anvil = some (b, n) ∧ first + count ≤ n ∧ s.stopped p = true ∧ s.accessed r bs false = true :=
  ⟨cmd0, 0, 0, 127, 8, 16, 4096, List.replicate 16 7, { sAlloc with dram := { Dram.init with jobs := [jobDone 16] }, host := busy0 0x0705 }, 0x200000, 0x10000, by decide +kernel⟩

theorem witness_ObservationCommandsComplete_15 : ∃ (r : CmdRef) (p : ℕ) (anvil : ℕ) (hearth : ℕ) (first : ℕ) (count : ℕ) (addr : ℕ) (flags : ℕ) (data : Bytes) (s : State), s.admits r p = true ∧ anvil < s.grade.anvils ∧ hearth < 128 ∧ s.role r.org ≠ Role.local_ ∧ s.inPart p anvil hearth = true ∧ first < 1024 ∧ first + count ≤ 1024 ∧ flags < 2 ∧ s.mode p = Mode.inspect :=
  ⟨cmd0, 0, 0, 0, 1023, 1, 0, 1, List.replicate 32 0xA5, sPart 4, by decide +kernel⟩

theorem witness_ObservationCommandsComplete_16 : ∃ (r : CmdRef) (p : ℕ) (kind : ℕ) (anvil : ℕ) (hearth : ℕ) (first : ℕ) (count : ℕ) (addr : ℕ) (flags : ℕ) (data : Bytes) (s : State), s.admits r p = true ∧ anvil < s.grade.anvils ∧ hearth < 128 ∧ (kind = 4 ∨ kind = 5) ∧ s.role r.org ≠ Role.local_ ∧ s.inPart p anvil hearth = true ∧ first + count ≤ 131072 ∧ flags < 2 ∧ s.mode p = Mode.inspect ∧ s.bankIdle anvil hearth = true ∧ ((s.fab.dma.any fun x => decide (x.anvil = anvil ∧ x.hearth = hearth ∧ x.bank = kind - 4)) = false) :=
  ⟨cmd0, 0, 4, 0, 0, 131070, 2, 0, 0, [1, 2], sPart 4, by decide +kernel⟩

theorem witness_ObservationCommandsComplete_17 : ∃ (r : CmdRef) (p : ℕ) (anvil : ℕ) (hearth : ℕ) (first : ℕ) (count : ℕ) (addr : ℕ) (flags : ℕ) (data : Bytes) (s : State) (b : ℕ) (n : ℕ), s.admits r p = true ∧ anvil < s.grade.anvils ∧ hearth < 128 ∧ s.role r.org ≠ Role.local_ ∧ first % 8 = 0 ∧ s.allocOn p anvil = some (b, n) ∧ first + count ≤ n ∧ count ≠ 0 ∧ flags < 2 ∧ s.mode p = Mode.inspect ∧ s.noAccess r = true :=
  ⟨cmd0, 0, 0, 0, 8, 100, 0, 0, List.replicate 100 3, sAlloc, 0x200000, 0x10000, by decide +kernel⟩

theorem witness_ObservationCommandsComplete_18 : ∃ (r : CmdRef) (p : ℕ) (anvil : ℕ) (hearth : ℕ) (first : ℕ) (count : ℕ) (addr : ℕ) (flags : ℕ) (data : Bytes) (bs : Bytes) (s : State) (b : ℕ) (n : ℕ), s.admitsOn r p = true ∧ anvil < s.grade.anvils ∧ hearth < 128 ∧ s.role r.org ≠ Role.local_ ∧ first % 8 = 0 ∧ s.allocOn p anvil = some (b, n) ∧ first + count ≤ n ∧ flags < 2 ∧ s.mode p = Mode.inspect ∧ s.accessed r bs false = true :=
  ⟨cmd0, 0, 0, 0, 8, 16, 0, 0, List.replicate 16 3, List.replicate 16 7, { sAlloc with dram := { Dram.init with jobs := [jobDone 16] }, host := busy0 0x0704 }, 0x200000, 0x10000, by decide +kernel⟩

theorem witness_DramEventsComplete_1 : ∃ (r : CmdRef) (s : State) (d : DmaJob) (b : Busy), d ∈ s.fab.dma ∧ d.who = .cmd r ∧ dmaLimit ≤ d.busy ∧ s.busyOf r = some b ∧ b.ans = none :=
  ⟨cmd0, { sOn with fab := { Fab.init with dma := [dma0] }, host := busy0 0x0705 }, dma0, ⟨cmd0, 0x0705, [], none, 0, 2, [], none⟩, by decide +kernel⟩

theorem witness_DramEventsComplete_2 : ∃ (src : ℕ) (dst : ℕ) (tag : ℕ) (s : State) (d : DmaJob), d ∈ s.fab.dma ∧ d.who = .noc src dst tag ∧ dmaLimit ≤ d.busy :=
  ⟨0x10, 0, 5, { sOn with fab := { Fab.init with dma := [{ dma0 with who := .noc 0x10 0 5 }] } }, { dma0 with who := .noc 0x10 0 5 }, by decide +kernel⟩

theorem witness_DramEventsComplete_3 : ∃ (a : ℕ) (id : ℕ) (s : State), Tab.get 0 s.dram.back [a, id] ≠ 0 :=
  ⟨0, 5, sDram { Dram.init with back := [([0, 5], 7)] }, by decide +kernel⟩

theorem witness_DramEventsComplete_4 : ∃ (a : ℕ) (sub : ℕ) (s : State), Tab.get 0 s.dram.refresh [a, sub] ≠ 0 :=
  ⟨0, 1, sDram { Dram.init with refresh := [([0, 1], 255)] }, by decide +kernel⟩

theorem witness_DramEventsComplete_5 : ∃ (a : ℕ) (page : ℕ) (reads : List BurstRead) (s : State), (Tab.get [] s.dram.waiting [a]).contains page = true :=
  ⟨0, 7, [], sDram { Dram.init with waiting := [([0], [7])] }, by decide +kernel⟩

theorem witness_DramEventsComplete_6a : ∃ (a : ℕ) (reads : List BurstRead) (s : State) (r : ℕ), s.flag .ddrStatusFrozen a 0 = false ∧ s.migratingRank a = some r :=
  ⟨0, [], sDram { Dram.init with migrate := [([0], 1)] }, 0, by decide +kernel⟩

theorem witness_DramEventsComplete_6b : ∃ (a : ℕ) (reads : List BurstRead) (s : State) (r : ℕ), s.flag .ddrStatusFrozen a 0 = false ∧ s.migratingRank a = some r :=
  ⟨0, [], { sAlloc with dram := { Dram.init with migrate := [([0], 1)] } }, 0, by decide +kernel⟩

theorem witness_DramEventsComplete_7 : ∃ (a : ℕ) (id : ℕ) (bad : List (ℕ × ℕ)) (second : List (ℕ × ℕ)) (crc : ℕ) (s : State) (r : DReq) (j : ℕ) (bs : Bytes), s.servable a id r ∧ r.write = false ∧ r.src = .port j ∧ r.addr % 64 + r.len ≤ 64 ∧ Tab.get false s.dram.poison [a, s.reqLin a r / 64] = false ∧ s.delivered a r bad second = some bs :=
  ⟨0, 9, [], [], 0, sDram { Dram.init with reqs := [([0], [reqRead])], mem := [([0, 0x10008], 7)] }, reqRead, 5, zeros 8 ++ [7] ++ zeros 55, by refine ⟨?_, ?_, ?_, ?_, ?_, ?_⟩ <;> first | decide +kernel | (unfold State.servable; decide +kernel)⟩

theorem witness_DramEventsComplete_8 : ∃ (a : ℕ) (id : ℕ) (bad : List (ℕ × ℕ)) (second : List (ℕ × ℕ)) (crc : ℕ) (s : State) (r : DReq) (j : ℕ) (x : ℕ) (q : DJob) (bs : Bytes), s.servable a id r ∧ r.write = false ∧ r.src = .job j x ∧ r.addr % 64 + r.len ≤ 64 ∧ s.dram.jobs.find? (fun y => decide (y.id = j)) = some q ∧ ((∃ c, q.who = .cmd c)) ∧ x + r.len ≤ q.got.length ∧ Tab.get false s.dram.poison [a, s.reqLin a r / 64] = false ∧ s.delivered a r bad second = some bs :=
  ⟨0, 9, [], [], 0, sDram { Dram.init with reqs := [([0], [reqJob])], mem := [([0, 0x10008], 7)], jobs := [jobOf] }, reqJob, 3, 0, jobOf, zeros 8 ++ [7] ++ zeros 55, by refine ⟨?_, ?_, ?_, ?_, ?_, ?_, ?_, ?_, ?_⟩ <;> first | decide +kernel | exact ⟨_, rfl⟩ | (unfold State.servable; decide +kernel)⟩

theorem witness_DramEventsComplete_9a : ∃ (a : ℕ) (id : ℕ) (bad : List (ℕ × ℕ)) (second : List (ℕ × ℕ)) (crc : ℕ) (s : State) (r : DReq) (bs : Bytes), s.servable a id r ∧ r.write = true ∧ r.src ≠ .scrub ∧ r.addr % 64 + r.len ≤ 64 ∧ r.data.length = r.len ∧ s.copyFree a r = true ∧ crc ≤ 3 ∧ ((r.whole = true ∨ (Tab.get false s.dram.poison [a, s.reqLin a r / 64] = false ∧ s.delivered a r bad second = some bs))) :=
  ⟨0, 9, [], [], 3, sDram { Dram.init with reqs := [([0], [reqWrite])], mem := [([0, 0x10009], 7)] }, reqWrite, zeros 9 ++ [7] ++ zeros 54, by refine ⟨?_, ?_, ?_, ?_, ?_, ?_, ?_, ?_⟩ <;> first | decide +kernel | (unfold State.servable; decide +kernel)⟩

theorem witness_DramEventsComplete_9b : ∃ (a : ℕ) (id : ℕ) (bad : List (ℕ × ℕ)) (second : List (ℕ × ℕ)) (crc : ℕ) (s : State) (r : DReq) (bs : Bytes), s.servable a id r ∧ r.write = true ∧ r.src ≠ .scrub ∧ r.addr % 64 + r.len ≤ 64 ∧ r.data.length = r.len ∧ s.copyFree a r = true ∧ crc ≤ 3 ∧ ((r.whole = true ∨ (Tab.get false s.dram.poison [a, s.reqLin a r / 64] = false ∧ s.delivered a r bad second = some bs))) :=
  ⟨0, 9, [], [], 3, sDram { Dram.init with reqs := [([0], [reqWhole])], poison := [([0, 0x400], true)] }, reqWhole, [], by refine ⟨?_, ?_, ?_, ?_, ?_, ?_, ?_, ?_⟩ <;> first | decide +kernel | (unfold State.servable; decide +kernel)⟩

theorem witness_DramEventsComplete_10 : ∃ (a : ℕ) (id : ℕ) (bad : List (ℕ × ℕ)) (second : List (ℕ × ℕ)) (crc : ℕ) (s : State) (r : DReq), s.servable a id r ∧ r.whole = true ∧ r.src ≠ .scrub ∧ (s.cowSick a r.addr).isNone = true ∧ 3 < crc :=
  ⟨0, 9, [], [], 4, sDram { Dram.init with reqs := [([0], [reqWhole])] }, reqWhole, by refine ⟨?_, ?_, ?_, ?_, ?_⟩ <;> first | decide +kernel | (unfold State.servable; decide +kernel)⟩

theorem witness_DramEventsComplete_11 : ∃ (a : ℕ) (id : ℕ) (bad : List (ℕ × ℕ)) (second : List (ℕ × ℕ)) (crc : ℕ) (s : State) (r : DReq), s.servable a id r ∧ r.write = false ∧ r.src ≠ .scrub ∧ Tab.get false s.dram.poison [a, s.reqLin a r / 64] = true :=
  ⟨0, 9, [], [], 0, sDram { Dram.init with reqs := [([0], [reqRead])], poison := [([0, 0x400], true)] }, reqRead, by refine ⟨?_, ?_, ?_, ?_⟩ <;> first | decide +kernel | (unfold State.servable; decide +kernel)⟩

theorem witness_DramEventsComplete_12 : ∃ (a : ℕ) (id : ℕ) (bad : List (ℕ × ℕ)) (second : List (ℕ × ℕ)) (crc : ℕ) (s : State) (r : DReq), s.servable a id r ∧ r.write = false ∧ Tab.get false s.dram.poison [a, s.reqLin a r / 64] = false ∧ s.delivered a r bad second = none :=
  ⟨0, 9, badMany, badMany, 0, sDram { Dram.init with reqs := [([0], [reqRead])] }, reqRead, by refine ⟨?_, ?_, ?_, ?_⟩ <;> first | decide +kernel | (unfold State.servable; decide +kernel)⟩

theorem witness_DramEventsComplete_13 : ∃ (a : ℕ) (sub : ℕ) (s : State), s.subOn a sub = true ∧ s.flag .ddrStatusFrozen a 0 = false :=
  ⟨0, 1, sOn, by decide +kernel⟩

theorem witness_DramEventsComplete_14 : ∃ (a : ℕ) (sub : ℕ) (rank : ℕ) (failing : ℕ) (s : State), Tab.get none s.dram.diag [a, sub, rank] ≠ none ∧ s.flag .ddrStatusFrozen a 0 = false ∧ s.markOf a sub rank = none ∧ popcount 5 failing = 1 :=
  ⟨0, 1, 1, 16, sDram { Dram.init with diag := [([0, 1, 1], some ⟨1, 0, 5, []⟩)] }, by decide +kernel⟩

theorem witness_DramEventsComplete_15 : ∃ (a : ℕ) (sub : ℕ) (rank : ℕ) (failing : ℕ) (s : State) (d : ℕ), s.markOf a sub rank = some d ∧ s.flag .ddrStatusFrozen a 0 = false ∧ setBit failing d false % 32 ≠ 0 :=
  ⟨0, 1, 1, 3, put sOn [(.ddrMarkValid, 0, 3, 1), (.ddrMarkDevice, 0, 3, 0)], 0, by decide +kernel⟩

theorem witness_DramEventsComplete_16 : ∃ (a : ℕ) (sub : ℕ) (s : State), s.subOn a sub = true ∧ s.flag .ddrStatusFrozen a 0 = false ∧ slotFree (s.slotHolders a sub) 3 = true :=
  ⟨0, 1, sDram { Dram.init with patrol := [([0, 1], 2 ^ 28 - 1)] }, by decide +kernel⟩

theorem witness_DramEventsComplete_17 : ∃ (a : ℕ) (id : ℕ) (s : State) (r : DReq), (s.reqs a).find? (fun r => r.id = id) = some r ∧ r.cls ≠ 0 ∧ r.promoted = false ∧ s.reg .ddrCfgAgeNs a 0 ≠ 0 :=
  ⟨0, 9, sDram { Dram.init with reqs := [([0], [reqWhole])] }, reqWhole, by decide +kernel⟩

theorem witness_DramEventsComplete_18 : ∃ (a : ℕ) (sub : ℕ) (bank : ℕ) (s : State), s.subOn a sub = true ∧ Tab.get 0 s.dram.refresh [a, sub] = 0 ∧ ((s.reqs a).any (fun r => decide (r.cls = 0 ∧ s.reqSub a r = sub ∧ bits (s.reqLin a r) 17 16 = bank % 4)) = false) :=
  ⟨0, 0, 3, sOn, by decide +kernel⟩

theorem witness_DramEventsComplete_19 : ∃ (a : ℕ) (sub : ℕ) (s : State), s.subOn a sub = true ∧ Tab.get 0 s.dram.refresh [a, sub] = 0 :=
  ⟨0, 1, sOn, by decide +kernel⟩

theorem witness_DramEventsComplete_20 : ∃ (a : ℕ) (sub : ℕ) (rank : ℕ) (s : State), s.subOn a sub = true ∧ rank < 2 ∧ s.reg .ddrCfgPdNs a 0 ≠ 0 ∧ Tab.get false s.dram.pdown [a, sub, rank] = false ∧ Tab.get 0 s.dram.refresh [a, sub] = 0 ∧ ((s.reqs a).any (fun r => decide (linSub (s.reqLin a r) = sub ∧ linRank (s.reqLin a r) = rank)) = false) :=
  ⟨0, 1, 1, sOn, by decide +kernel⟩

theorem witness_DramEventsComplete_21 : ∃ (a : ℕ) (ok : Bool) (s : State) (z : DFreeze), Tab.get none s.dram.frozen [a] = some z ∧ s.sys.stewardDown = false ∧ ((z.kind = 1 ∨ (z.kind = 2 ∧ ok = true))) :=
  ⟨0, false, { put sOn [(.ddrStatusFrozen, 0, 0, 1)] with dram := { Dram.init with frozen := [([0], some ⟨1, none, 0x400, 0, 0, 0, none⟩)] } }, ⟨1, none, 0x400, 0, 0, 0, none⟩, by decide +kernel⟩

theorem witness_DramCommandsComplete_1a : ∃ (r : CmdRef) (a : ℕ) (action : ℕ) (ok : Bool) (s : State) (z : DFreeze), s.fresh r = true ∧ s.isOwnerOrLocal r.org = true ∧ a < s.grade.anvils ∧ action < 3 ∧ s.flag .ddrStatusFrozen a 0 = true ∧ Tab.get none s.dram.frozen [a] = some z ∧ (s.cpOut a).1 = false ∧ ((action = 2 → s.reg .ddrFrzKind a 0 ≠ 3 ∧ ok = true)) :=
  ⟨cmd0, 0, 1, false, { put sOn [(.ddrStatusFrozen, 0, 0, 1), (.ddrFrzKind, 0, 0, 1)] with dram := { Dram.init with frozen := [([0], some ⟨1, none, 0x400, 0, 0, 0, none⟩)] } }, ⟨1, none, 0x400, 0, 0, 0, none⟩, by decide +kernel⟩

theorem witness_DramCommandsComplete_1b : ∃ (r : CmdRef) (a : ℕ) (action : ℕ) (ok : Bool) (s : State) (z : DFreeze), s.fresh r = true ∧ s.isOwnerOrLocal r.org = true ∧ a < s.grade.anvils ∧ action < 3 ∧ s.flag .ddrStatusFrozen a 0 = true ∧ Tab.get none s.dram.frozen [a] = some z ∧ (s.cpOut a).1 = false ∧ ((action = 2 → s.reg .ddrFrzKind a 0 ≠ 3 ∧ ok = true)) :=
  ⟨cmd0, 0, 2, true, { put sOn [(.ddrStatusFrozen, 0, 0, 1), (.ddrFrzKind, 0, 0, 2)] with dram := { Dram.init with frozen := [([0], some ⟨2, none, 0x400, 0, 0, 0, none⟩)] } }, ⟨2, none, 0x400, 0, 0, 0, none⟩, by decide +kernel⟩

theorem witness_DramCommandsComplete_2a : ∃ (r : CmdRef) (a : ℕ) (addr : ℕ) (s : State), s.fresh r = true ∧ s.isOwnerOrLocal r.org = true ∧ a < s.grade.anvils ∧ addr < Config.dramUsable ∧ (s.cpOut a).1 = false ∧ ((Tab.get false s.dram.retired [a, addr / 4096] = true ∨ ∃ dst, s.dram.freePage a none = some dst ∧ s.copyReady a (s.dram.lin a (addr / 4096 * 4096) / 4096) dst = true)) :=
  ⟨cmd0, 0, 0x7000, sOn, by decide +kernel⟩

theorem witness_DramCommandsComplete_2b : ∃ (r : CmdRef) (a : ℕ) (addr : ℕ) (s : State), s.fresh r = true ∧ s.isOwnerOrLocal r.org = true ∧ a < s.grade.anvils ∧ addr < Config.dramUsable ∧ (s.cpOut a).1 = false ∧ ((Tab.get false s.dram.retired [a, addr / 4096] = true ∨ ∃ dst, s.dram.freePage a none = some dst ∧ s.copyReady a (s.dram.lin a (addr / 4096 * 4096) / 4096) dst = true)) :=
  ⟨cmd0, 0, 0x7000, sDram { Dram.init with retired := [([0, 7], true)] }, by decide +kernel⟩

theorem witness_DramCommandsComplete_3 : ∃ (r : CmdRef) (a : ℕ) (sub : ℕ) (rank : ℕ) (device : ℕ) (s : State), s.fresh r = true ∧ s.isOwnerOrLocal r.org = true ∧ a < s.grade.anvils ∧ sub < 2 ∧ rank < 2 ∧ device < 5 ∧ (s.cpOut a).1 = false ∧ s.markOf a sub rank = none :=
  ⟨cmd0, 0, 1, 1, 4, sOn, by decide +kernel⟩

theorem witness_SidePinCommandsComplete_1 : ∃ (o : Origin) (n : ℕ) (func : ℕ) (s : State), s.sys.off = false ∧ s.mayPin o n = true ∧ s.pinFuncOk n func = true :=
  ⟨.host 0, 47, 2, sOn, by decide +kernel⟩

theorem witness_SidePinCommandsComplete_2 : ∃ (o : Origin) (n : ℕ) (owner : ℕ) (s : State), s.sys.off = false ∧ s.isOwnerOrLocal o = true ∧ (owner < 32 ∨ owner = 0x3F) ∧ ((s.modQuiet = true ∨ (s.ownerQuiet (s.reg .spPinOwner 0 n) = true ∧ s.ownerQuiet owner = true))) :=
  ⟨.host 0, 47, 31, sOn, by decide +kernel⟩

theorem witness_SidePinCommandsComplete_3 : ∃ (o : Origin) (b : ℕ) (vsel : ℕ) (s : State), s.sys.off = false ∧ s.isOwnerOrLocal o = true ∧ vsel < 3 ∧ ((s.modQuiet = true ∨ (bankPins b).all (fun n => s.ownerQuiet (s.reg .spPinOwner 0 n)) = true)) :=
  ⟨.host 0, 3, 2, sOn, by decide +kernel⟩

theorem witness_SidePinCommandsComplete_4 : ∃ (b : ℕ) (s : State), s.flag .spBankRamping 0 b = true :=
  ⟨3, put sOn [(.spBankRamping, 0, 3, 1)], by decide +kernel⟩

theorem witness_SidePinCommandsComplete_5 : ∃ (o : Origin) (mask : ℕ) (s : State), s.sys.off = false :=
  ⟨.host 0, 0xFFFFFFFF, sOn, by decide +kernel⟩

theorem witness_SidePinCommandsComplete_6 : ∃ (n : ℕ) (s : State), (s.pinDrives n).isSome = true ∧ s.flag .spPinShort 0 n = false :=
  ⟨5, put sOn [(.spPinFunc, 0, 5, 2)], by decide +kernel⟩

theorem witness_SidePinCommandsComplete_7 : ∃ (o : Origin) (n : ℕ) (s : State), s.sys.off = false ∧ s.mayPin o n = true :=
  ⟨.host 0, 5, sOn, by decide +kernel⟩

theorem witness_SidePinCommandsComplete_10 : ∃ (u : ℕ) (byte : ℕ) (bad : Bool) (s : State), s.sys.off = false ∧ s.uartTaken u = false ∧ s.pins.stopped = false ∧ (s.inputPin (0x39 + 2 * u)).isSome = true :=
  ⟨0, 0x5A, false, put sOn [(.spPinFunc, 0, 5, 0x39)], by decide +kernel⟩

theorem witness_SidePinCommandsComplete_11 : ∃ (r : CmdRef) (u : ℕ) (baud : ℕ) (format : ℕ) (s : State), s.fresh r = true ∧ s.isOwnerOrLocal r.org = true ∧ u < 2 ∧ 300 ≤ baud ∧ baud ≤ 3000000 ∧ format < 16 ∧ format % 4 ≠ 3 ∧ s.uartTaken u = false :=
  ⟨cmd0, 1, 3000000, 14, sOn, by decide +kernel⟩

theorem witness_SidePinCommandsComplete_12 : ∃ (r : CmdRef) (u : ℕ) (len : ℕ) (data : Bytes) (s : State), s.fresh r = true ∧ s.isOwnerOrLocal r.org = true ∧ u < 2 ∧ 0 < len ∧ len ≤ 1024 ∧ len ≤ data.length ∧ s.uartTaken u = false :=
  ⟨cmd0, 1, 2, [1, 2], sOn, by decide +kernel⟩

theorem witness_SidePinCommandsComplete_13 : ∃ (r : CmdRef) (u : ℕ) (max : ℕ) (s : State), s.fresh r = true ∧ s.isOwnerOrLocal r.org = true ∧ u < 2 ∧ 0 < max ∧ max ≤ 1024 ∧ s.uartTaken u = false :=
  ⟨cmd0, 0, 1024, { sOn with pins := { Pins.init with uartRx := [([0], [1, 2, 3])] } }, by decide +kernel⟩

theorem witness_SidePinCommandsComplete_14 : ∃ (r : CmdRef) (bus : ℕ) (speed : ℕ) (addr : ℕ) (wlen : ℕ) (rlen : ℕ) (data : Bytes) (s : State), s.fresh r = true ∧ s.isOwnerOrLocal r.org = true ∧ bus < 2 ∧ speed < 3 ∧ addr < 128 ∧ wlen ≤ 256 ∧ rlen ≤ 256 ∧ wlen ≤ data.length :=
  ⟨cmd0, 1, 2, 127, 2, 256, [1, 2], sOn, by decide +kernel⟩

theorem witness_SidePinCommandsComplete_15 : ∃ (r : CmdRef) (cs : ℕ) (mode : ℕ) (div : ℕ) (len : ℕ) (data : Bytes) (s : State), s.fresh r = true ∧ s.isOwnerOrLocal r.org = true ∧ cs < 4 ∧ mode < 4 ∧ 2 ≤ div ∧ div ≤ 255 ∧ 0 < len ∧ len ≤ 1024 ∧ len ≤ data.length :=
  ⟨cmd0, 3, 3, 255, 2, [1, 2], sOn, by decide +kernel⟩

theorem witness_TimeEventsComplete_1 : ∃ (k : ℕ) (s : State), s.flag .timeLaunchArmed 0 k = true ∧ s.launchDue k ≤ s.clock :=
  ⟨3, put sOn [(.timeLaunchArmed, 0, 3, 1)], by decide +kernel⟩

theorem witness_TimeEventsComplete_2 : ∃ (s : State), s.sys.off = false ∧ s.time.stepDue = false :=
  ⟨sOn, by decide +kernel⟩

theorem witness_TimeEventsComplete_3 : ∃ (m : PtpMsg) (utc : ℕ) (rank : ℕ) (arb : Bool) (s : State), s.sys.off = false ∧ s.usesPtp = true ∧ m.domain = s.reg .timePtpCfgDomain 0 0 ∧ m.l2 = s.flag .timePtpCfgL2 0 0 ∧ m.body = .announce utc rank arb ∧ s.time.foreign = [] :=
  ⟨⟨0, false, 7, .announce 37 5 false⟩, 37, 5, false, put sOn [(.timeCfgPhaseSrc, 0, 0, 1)], by decide +kernel⟩

theorem witness_TimeEventsComplete_4 : ∃ (m : PtpMsg) (seq : ℕ) (receive : ℤ) (corr : ℤ) (x : ℤ) (stamp : ℕ) (s : State), s.sys.off = false ∧ s.usesPtp = true ∧ m.domain = s.reg .timePtpCfgDomain 0 0 ∧ m.l2 = s.flag .timePtpCfgL2 0 0 ∧ s.time.master = some m.source ∧ m.body = .delayResp seq receive corr x ∧ s.time.delayReq = some (seq, stamp) :=
  ⟨⟨0, false, 7, .delayResp 1 900 (-3) 0⟩, 1, 900, -3, 0, 100, { put sOn [(.timeCfgPhaseSrc, 0, 0, 1)] with time := { TimeBase.init with master := some 7, delayReq := some (1, 100) } }, by decide +kernel⟩

theorem witness_TimeEventsComplete_5 : ∃ (s : State), s.sys.off = false ∧ s.delayDue = true :=
  ⟨{ put sOn [(.timeCfgPhaseSrc, 0, 0, 1)] with time := { TimeBase.init with master := some 7 } }, by decide +kernel⟩

theorem witness_TimeEventsComplete_6 : ∃ (s : State) (m : ℕ), s.usesPtp = true ∧ s.time.master = some m ∧ s.time.foreign.all (fun x => decide (x.id = m)) = true :=
  ⟨{ put sOn [(.timeCfgPhaseSrc, 0, 0, 1), (.timeStatusServo, 0, 0, 2)] with time := { TimeBase.init with master := some 7, foreign := [⟨7, 0, 0, false⟩] } }, 7, by decide +kernel⟩

theorem witness_TimeEventsComplete_7 : ∃ (s : State), (s.inputPin 0x30).isSome = true ∧ s.pins.stopped = false ∧ ((∀ u, s.time.ppsLast = some u → u + 999900000 ≤ s.now ∧ s.now ≤ u + 1000100000)) :=
  ⟨put sOn [(.spPinFunc, 0, 5, 0x30)], by decide +kernel⟩

theorem witness_TimeEventsComplete_8 : ∃ (s : State), s.sys.off = false ∧ ((∀ u, s.time.ppsLast = some u → u + 2000000000 ≤ s.now)) :=
  ⟨sOn, by decide +kernel⟩

theorem witness_TimeEventsComplete_9 : ∃ (s : State), s.time.ppsOutAt < s.clock / 1000000000 :=
  ⟨{ sOn with time := { TimeBase.init with ctr := [([0], 2000000000 * 2 ^ 32)] } }, by decide +kernel⟩

theorem witness_TimeEventsComplete_10 : ∃ (s : State), s.flag .timeCfgFreqSrc 0 0 = true ∧ s.time.freqHeld = false :=
  ⟨put sOn [(.timeCfgFreqSrc, 0, 0, 1)], by decide +kernel⟩

theorem witness_TimeEventsComplete_12 : ∃ (s : State), s.sys.off = false ∧ 2 ≤ ((List.range s.grade.anvils).filter fun a => !Tab.get false s.sys.islandOff [a]).length :=
  ⟨sOn, by decide +kernel⟩

theorem witness_TimeEventsComplete_13 : ∃ (k : ℕ) (s : State), (s.inputPin (0x10 + k)).isSome = true ∧ s.pins.stopped = false :=
  ⟨3, put sOn [(.spPinFunc, 0, 5, 0x13)], by decide +kernel⟩

theorem witness_TimeCommandsComplete_1a : ∃ (o : Origin) (k : ℕ) (s : State), s.sys.off = false ∧ s.isOwnerOrLocal o = true :=
  ⟨.host 0, 3, sOn, by decide +kernel⟩

theorem witness_TimeCommandsComplete_1b : ∃ (o : Origin) (k : ℕ) (s : State), s.sys.off = false ∧ s.isOwnerOrLocal o = true :=
  ⟨.host 0, 3, put sOn [(.timeLaunchTLo, 0, 3, 1000000), (.timeLaunchPeriod, 0, 3, 5000)], by decide +kernel⟩

theorem witness_TimeCommandsComplete_2 : ∃ (o : Origin) (k : ℕ) (s : State), s.sys.off = false ∧ s.isOwnerOrLocal o = true :=
  ⟨.host 0, 3, put sOn [(.timeLaunchArmed, 0, 3, 1)], by decide +kernel⟩

theorem witness_TimeCommandsComplete_3 : ∃ (r : CmdRef) (mode : ℕ) (value : ℕ) (s : State), s.fresh r = true ∧ s.isOwnerOrLocal r.org = true ∧ mode < 2 ∧ s.reg .timeCfgPhaseSrc 0 0 = 0 ∧ s.tracing = false ∧ ((0 ≤ (if mode = 0 then signed 64 value * 2 ^ 32 else (value : Int) * 2 ^ 32 - (s.ctr 0 : Int)) ∨ s.partitions = [])) :=
  ⟨cmd0, 0, 2 ^ 64 - 1, put sOn [(.timeCfgPhaseSrc, 0, 0, 0)], by refine ⟨?_, ?_, ?_, ?_, ?_, ?_⟩ <;> decide +kernel⟩

theorem witness_TimeCommandsComplete_4 : ∃ (o : Origin) (v : ℕ) (s : State), s.sys.off = false ∧ s.isOwnerOrLocal o = true ∧ s.flag .timeCfgFollow 0 0 = false :=
  ⟨.host 0, 3, put sOn [(.timeCfgFollow, 0, 0, 0)], by decide +kernel⟩

theorem witness_TimeCommandsComplete_5a : ∃ (o : Origin) (k : ℕ) (v : ℕ) (s : State), s.sys.off = false ∧ s.mayRef o k = true :=
  ⟨.host 0, 2, 3, sOn, by decide +kernel⟩

theorem witness_TimeCommandsComplete_5b : ∃ (o : Origin) (k : ℕ) (v : ℕ) (s : State), s.sys.off = false ∧ s.mayRef o k = true :=
  ⟨.cp 8, 0, 3, sOn, by decide +kernel⟩

theorem witness_TimeCommandsComplete_6a : ∃ (o : Origin) (k : ℕ) (v : ℕ) (s : State), s.sys.off = false ∧ s.mayRef o k = true :=
  ⟨.host 0, 2, 2 ^ 32 - 1, sOn, by decide +kernel⟩

theorem witness_TimeCommandsComplete_6b : ∃ (o : Origin) (k : ℕ) (v : ℕ) (s : State), s.sys.off = false ∧ s.mayRef o k = true :=
  ⟨.cp 0, 1, 2 ^ 32 - 1, sOn, by decide +kernel⟩

theorem witness_TimeCommandsComplete_7 : ∃ (o : Origin) (src : ℕ) (s : State), s.sys.off = false ∧ s.isOwnerOrLocal o = true :=
  ⟨.host 0, 5, sOn, by decide +kernel⟩

theorem witness_BilletEventsComplete_1 : ∃ (a : ℕ) (h : ℕ) (lbps : List ℕ) (s : State), a < s.grade.anvils ∧ h < 128 ∧ lbps ≠ [] ∧ lbps.length ≤ 32 ∧ ((∀ b ∈ lbps, b < 1024)) ∧ lbps.length + s.billetsAsked a h ≤ (s.freeBillets a h).length ∧ ((∀ b ∈ lbps, s.insertionKnown a h b = false)) :=
  ⟨0, 5, [1, 1023], sOn, by decide +kernel⟩

theorem witness_BilletEventsComplete_2 : ∃ (i : Insertion) (s : State), s.svc.insertion = some i ∧ i.lbps ≠ [] ∧ i.lbps.Nodup ∧ ((∀ b ∈ i.lbps, b < 1024)) ∧ ((∀ p, i.part = some p → s.executing p = false ∨ s.frozen p = true)) ∧ i.lbps.length ≤ (s.freeBillets i.anvil i.hearth).length ∧ s.sys.stewardDown = false :=
  ⟨⟨0, 5, [1, 1023], none, none⟩, { sOn with svc := { Svc.init with insertion := some ⟨0, 5, [1, 1023], none, none⟩ } }, by decide +kernel⟩

theorem witness_LaneBringUpCompletes_1a : ∃ (o : Origin) (l : ℕ) (s : State), s.laneOn l = true ∧ s.isOwnerOrLocal o = true :=
  ⟨.host 0, 0, sLane 0 LaneSt.disabled 0, by decide +kernel⟩

theorem witness_LaneBringUpCompletes_1b : ∃ (o : Origin) (l : ℕ) (s : State), s.laneOn l = true ∧ s.isOwnerOrLocal o = true :=
  ⟨.host 0, 64, sLane 64 LaneSt.active 15, by decide +kernel⟩

theorem witness_LaneBringUpCompletes_1c : ∃ (o : Origin) (l : ℕ) (s : State), s.laneOn l = true ∧ s.isOwnerOrLocal o = true :=
  ⟨.host 0, 7, sLane 7 LaneSt.prbs 7, by decide +kernel⟩

theorem witness_LaneBringUpCompletes_2 : ∃ (l : ℕ) (s : State), s.laneOn l = true ∧ s.laneSt l = LaneSt.detect :=
  ⟨64, sLane 64 LaneSt.detect 15, by decide +kernel⟩

theorem witness_LaneBringUpCompletes_3 : ∃ (l : ℕ) (s : State), s.laneOn l = true ∧ s.laneSt l = LaneSt.train :=
  ⟨7, sLane 7 LaneSt.train 7, by decide +kernel⟩

theorem witness_LaneBringUpCompletes_4 : ∃ (l : ℕ) (s : State), s.laneOn l = true ∧ s.laneSt l = LaneSt.bitlock :=
  ⟨0, sLane 0 LaneSt.bitlock 0, by decide +kernel⟩

theorem witness_LaneBringUpCompletes_5 : ∃ (l : ℕ) (complement : Bool) (s : State), s.laneOn l = true ∧ s.laneSt l = LaneSt.blocklock :=
  ⟨0, true, sLane 0 LaneSt.blocklock 0, by decide +kernel⟩

theorem witness_LaneBringUpCompletes_6a : ∃ (l : ℕ) (s : State), s.laneOn l = true ∧ LaneSt.train ≤ s.laneSt l ∧ s.laneSt l ≤ LaneSt.capex :=
  ⟨0, sLane 0 LaneSt.capex 0, by decide +kernel⟩

theorem witness_LaneBringUpCompletes_6b : ∃ (l : ℕ) (s : State), s.laneOn l = true ∧ LaneSt.train ≤ s.laneSt l ∧ s.laneSt l ≤ LaneSt.capex :=
  ⟨0, { sLane 0 LaneSt.train 0 with wl := { Wl.init with lanes := [([0], { Lane.init with fails := 2, lost := true })] } }, by decide +kernel⟩

theorem witness_LaneBringUpCompletes_7 : ∃ (l : ℕ) (s : State), s.laneOn l = true ∧ s.laneSt l = LaneSt.active :=
  ⟨64, sLane 64 LaneSt.active 15, by decide +kernel⟩

theorem witness_LaneBringUpCompletes_8a : ∃ (l : ℕ) (c : CapFields) (s : State), s.laneOn l = true ∧ s.laneSt l = LaneSt.capex :=
  ⟨0, ⟨true, 0, 2, 8, 0, 9⟩, sLane 0 LaneSt.capex 0, by decide +kernel⟩

theorem witness_LaneBringUpCompletes_8b : ∃ (l : ℕ) (c : CapFields) (s : State), s.laneOn l = true ∧ s.laneSt l = LaneSt.capex :=
  ⟨0, ⟨true, 0, sOn.reg .wlBundleCfgRate 0 0, 8, 0, 9⟩, { sLane 0 LaneSt.capex 0 with wl := { Wl.init with lanes := [([0], { Lane.init with cap := some ⟨true, 0, sOn.reg .wlBundleCfgRate 0 0, 8, 0, 9⟩, capRun := 7, seenRun := 7, ownSeen := true, capSent := 7 })] } }, by decide +kernel⟩

theorem witness_LaneTrafficCompletes_1 : ∃ (l : ℕ) (f : WlFrame) (s : State), s.laneOn l = true ∧ s.laneSt l = LaneSt.active ∧ s.logical l < 8 :=
  ⟨0, ⟨0, false, true, 0, zeros 32, [], crc32 (zeros 32)⟩, sLane 0 LaneSt.active 0, by decide +kernel⟩

theorem witness_LaneTrafficCompletes_2 : ∃ (l : ℕ) (i : ℕ) (lseq : ℕ) (s : State) (f : TxFrame) (fs : List TxFrame), s.laneOn l = true ∧ s.laneSt l = LaneSt.active ∧ i < 8 ∧ (s.log (s.bundleOf l) i).retry = f :: fs ∧ ((∀ j, j < 8 → (s.log (s.bundleOf l) j).moving = false)) ∧ (lseq + 256 - f.lseq) % 256 < fs.length + 1 :=
  ⟨0, 2, 255, { onLane (sLane 0 LaneSt.active 0) 2 LaneSt.active 2 with wl := retries 2 [tx 254, tx 255, tx 0] }, tx 254, [tx 255, tx 0], by decide +kernel⟩

theorem witness_LaneTrafficCompletes_3 : ∃ (l : ℕ) (s : State), s.replayDue l = true ∧ ((∀ f ∈ (s.log (s.bundleOf l) (s.logical l)).retry, f.replays ≠ 3)) :=
  ⟨2, { sLane 2 LaneSt.active 2 with wl := retries 2 [tx 254, tx 255], time := { TimeBase.init with run := 2 ^ 60 } }, by decide +kernel⟩

theorem witness_LaneTrafficCompletes_4 : ∃ (b : ℕ) (k : ℕ) (gen : ℕ) (limit : ℕ) (s : State), s.onPrimary b k = true ∧ gen = s.reg .wlStreamOutGen k 0 :=
  ⟨0, 3, 0, 2 ^ 32 - 1, sBound 2, by decide +kernel⟩

theorem witness_LaneTrafficCompletes_5 : ∃ (b : ℕ) (k : ℕ) (count : ℕ) (s : State), s.onPrimary b k = true :=
  ⟨0, 3, 4096, sBound 2, by decide +kernel⟩

theorem witness_LaneTrafficCompletes_6 : ∃ (b : ℕ) (k : ℕ) (number : ℕ) (copies : ℕ) (s : State), s.onPrimary b k = true ∧ popcount 8 (s.reg .wlBundleAligned b 0) / 2 + 1 ≤ copies ∧ (s.stream k).lastStop ≠ some (number % 2 ^ 16) :=
  ⟨0, 3, 65535, 1, sBound 2, by decide +kernel⟩

theorem witness_LaneTrafficCompletes_7 : ∃ (b : ℕ) (arrivals : List (ℕ × ℕ)) (s : State) (x : ℕ × ℕ) (xs : List (ℕ × ℕ)), arrivals.filter (fun e => (s.activeLanes b).contains e.1) = x :: xs :=
  ⟨0, [(0, 100), (1, 130), (9, 500)], onLane (sLane 0 LaneSt.active 0) 1 LaneSt.active 1, (0, 100), [(1, 130)], by decide +kernel⟩

theorem witness_LaneTrafficCompletes_8 : ∃ (b : ℕ) (s : State), s.activeLanes b ≠ [] :=
  ⟨0, onLane (sLane 0 LaneSt.active 0) 1 LaneSt.active 1, by decide +kernel⟩

theorem witness_LaneTrafficCompletes_9 : ∃ (k : ℕ) (s : State) (x : ℕ × ℕ × Bytes) (e : ℕ × ℕ × ℕ), s.flag .wlStreamBindValid k 0 = true ∧ s.flag .wlStreamBindOutEn k 0 = true ∧ s.credited k = true ∧ (s.stream k).outBuf.head? = some x ∧ s.bestSender (s.reg .wlStreamBindBundles k 0) = some e :=
  ⟨3, { onLane (sBound 2) 0 LaneSt.active 0 with wl := { Wl.init with streams := [([3], { Stream.init with outBuf := [(7, 0, zeros 64)] })] } }, (7, 0, zeros 64), (0, 0, 0), by decide +kernel⟩

theorem witness_LaneTrafficCompletes_10 : ∃ (k : ℕ) (s : State), s.onPrimary (s.reg .wlStreamBindPrimary k 0) k = true ∧ s.activeLanes (s.reg .wlStreamBindPrimary k 0) ≠ [] :=
  ⟨3, onLane (sBound 2) 0 LaneSt.active 0, by decide +kernel⟩

theorem witness_LaneTrafficCompletes_11 : ∃ (k : ℕ) (s : State) (t0 : ℕ), (s.stream k).stallSince = some t0 ∧ t0 + 1000 ≤ s.now ∧ (s.stream k).stallSeen = false :=
  ⟨3, { sBound 2 with wl := { Wl.init with streams := [([3], { Stream.init with stallSince := some 0 })] }, time := { TimeBase.init with run := 2 ^ 43 } }, 0, by decide +kernel⟩

theorem witness_LaneTrafficCompletes_12a : ∃ (p : ℕ) (s : State) (k : ℕ), s.partStream p = some k ∧ s.activeLanes (s.reg .wlStreamBindPrimary k 0) ≠ [] ∧ (s.mode p = Mode.lockstep ∨ s.holdOf p ≠ (s.part p).hold) :=
  ⟨0, onLane (sBound 3) 0 LaneSt.active 0, 3, by decide +kernel⟩

theorem witness_LaneTrafficCompletes_12b : ∃ (p : ℕ) (s : State) (k : ℕ), s.partStream p = some k ∧ s.activeLanes (s.reg .wlStreamBindPrimary k 0) ≠ [] ∧ (s.mode p = Mode.lockstep ∨ s.holdOf p ≠ (s.part p).hold) :=
  ⟨0, withPart (onLane (sBound 2) 0 LaneSt.active 0) { Part.init with hold := false }, 3, by decide +kernel⟩

theorem witness_LaneTrafficCompletes_13 : ∃ (l : ℕ) (s : State), s.laneOn l = true ∧ s.laneSt l = LaneSt.active ∧ s.reg .wlBundleErrLimit (s.bundleOf l) 0 <
      ((s.lane l).crcTimes.filter (fun t => decide (s.now < t + 1000000000))).length :=
  ⟨0, { sLane 0 LaneSt.active 0 with wl := { Wl.init with lanes := [([0], { Lane.init with crcTimes := List.replicate 300 0 })] } }, by decide +kernel⟩

theorem witness_LaneTrafficCompletes_14 : ∃ (l : ℕ) (b : ℕ) (i : ℕ) (s : State), s.spareBundle l = some b ∧ s.laneOn l = true ∧ s.laneSt l = LaneSt.active ∧ b < 8 ∧ i < 8 ∧ (s.bundle b).spare = some (i, false) :=
  ⟨3, 0, 2, sSpare (some (2, false)) 15, by decide +kernel⟩

theorem witness_LaneTrafficCompletes_15 : ∃ (l : ℕ) (b : ℕ) (i : ℕ) (s : State), s.spareBundle l = some b ∧ s.laneOn l = true ∧ s.laneSt l = LaneSt.active ∧ b < 8 ∧ i < 8 ∧ s.spareMine b = none ∧ s.reg .wlBundleSpareFor b 0 ≠ i ∧ s.laneSt (spareOf b) = LaneSt.active ∧ s.logical (spareOf b) = 15 ∧ s.spareMatches b = true :=
  ⟨3, 0, 2, sSpare none 15, by decide +kernel⟩

theorem witness_LaneTrafficCompletes_16 : ∃ (l : ℕ) (b : ℕ) (i : ℕ) (ret : Bool) (s : State), s.spareBundle l = some b ∧ (s.bundle b).spare = some (i, ret) :=
  ⟨3, 0, 2, true, sSpare (some (2, true)) 2, by decide +kernel⟩

theorem witness_LaneTrafficCompletes_17a : ∃ (b : ℕ) (s : State), s.activeLanes b ≠ [] :=
  ⟨0, sLane 0 LaneSt.active 0, by decide +kernel⟩

theorem witness_LaneTrafficCompletes_17b : ∃ (b : ℕ) (s : State), s.activeLanes b ≠ [] :=
  ⟨0, { sLane 0 LaneSt.active 0 with wl := { Wl.init with bundles := [([0], { Bundle.init with bankReq := true })] } }, by decide +kernel⟩

theorem witness_LaneTrafficCompletes_18 : ∃ (b : ℕ) (s : State), s.flag .wlBundleBanked b 0 = true :=
  ⟨0, put (sLane 0 LaneSt.banked 0) [(.wlBundleBanked, 0, 0, 1)], by decide +kernel⟩

theorem witness_LaneTrafficCompletes_19 : ∃ (l : ℕ) (x : WlBlock) (s : State), WlBlock.bad x = true ∧ s.laneOn l = true ∧ LaneSt.blocklock ≤ s.laneSt l ∧ s.laneSt l ≤ LaneSt.active :=
  ⟨0, ⟨0, zeros 8, false⟩, sLane 0 LaneSt.capex 0, by decide +kernel⟩

theorem witness_LaneTrafficCompletes_20a : ∃ (o : Origin) (l : ℕ) (s : State), s.laneOn l = true ∧ s.isOwnerOrLocal o = true ∧ s.injects l = true :=
  ⟨.host 0, 0, put (sLane 0 LaneSt.active 0) [(.wlPrbsInjMode, 0, 0, 1)], by decide +kernel⟩

theorem witness_LaneTrafficCompletes_20b : ∃ (o : Origin) (l : ℕ) (s : State), s.laneOn l = true ∧ s.isOwnerOrLocal o = true ∧ s.injects l = true :=
  ⟨.host 0, 64, put (sLane 64 LaneSt.prbs 15) [(.wlPrbsInjMode, 64, 0, 2), (.wlPrbsInjBurst, 64, 0, 7)], by decide +kernel⟩

theorem witness_LaneTrafficCompletes_21 : ∃ (l : ℕ) (s : State), s.injects l = true ∧ s.reg .wlPrbsInjMode l 0 = 3 :=
  ⟨0, put (sLane 0 LaneSt.active 0) [(.wlPrbsInjMode, 0, 0, 3)], by decide +kernel⟩

theorem witness_LaneTrafficCompletes_22 : ∃ (l : ℕ) (s : State), s.laneOn l = true ∧ s.laneSt l = LaneSt.prbs ∧ s.flag .wlPrbsChkEn l 0 = true ∧ s.reg .wlPrbsMode l 0 ≠ 0 :=
  ⟨0, put (sLane 0 LaneSt.prbs 0) [(.wlPrbsChkEn, 0, 0, 1), (.wlPrbsMode, 0, 0, 2)], by decide +kernel⟩

theorem witness_LaneTrafficCompletes_23 : ∃ (l : ℕ) (s : State), s.flag .wlPrbsLock l 0 = true :=
  ⟨0, put (sLane 0 LaneSt.prbs 0) [(.wlPrbsLock, 0, 0, 1)], by decide +kernel⟩

theorem witness_LaneCommandsComplete_1a : ∃ (r : CmdRef) (k : ℕ) (p : ℕ) (bundles : ℕ) (inEn : ℕ) (outEn : ℕ) (s : State), s.fresh r = true ∧ s.isOwner r.org = true ∧ s.pExists p = true ∧ k < 32 ∧ bit bundles (s.homeAnvil p) = true ∧ bundles < 2 ^ s.grade.anvils ∧ inEn < 2 ∧ outEn < 2 ∧ (s.mode p = Mode.loading ∨ s.mode p = Mode.ready) ∧ s.flag .wlStreamBindValid k 0 = false ∧ s.routeClash (bindingLinks bundles (s.homeAnvil p) (decide (inEn = 1)) (decide (outEn = 1))) = false :=
  ⟨cmd0, 31, 0, 1, 1, 1, sPart 0, by decide +kernel⟩

theorem witness_LaneCommandsComplete_1b : ∃ (r : CmdRef) (k : ℕ) (p : ℕ) (bundles : ℕ) (inEn : ℕ) (outEn : ℕ) (s : State), s.fresh r = true ∧ s.isOwner r.org = true ∧ s.pExists p = true ∧ k < 32 ∧ bit bundles (s.homeAnvil p) = true ∧ bundles < 2 ^ s.grade.anvils ∧ inEn < 2 ∧ outEn < 2 ∧ (s.mode p = Mode.loading ∨ s.mode p = Mode.ready) ∧ s.flag .wlStreamBindValid k 0 = false ∧ s.routeClash (bindingLinks bundles (s.homeAnvil p) (decide (inEn = 1)) (decide (outEn = 1))) = false :=
  ⟨cmd0, 31, 0, 3, 1, 0, sPart 1, by decide +kernel⟩

theorem witness_LaneCommandsComplete_2 : ∃ (r : CmdRef) (k : ℕ) (s : State), s.fresh r = true ∧ s.isOwner r.org = true ∧ k < 32 ∧ ((s.flag .wlStreamBindValid k 0 = true → s.mode (s.reg .wlStreamBindPart k 0) = Mode.loading ∨ s.mode (s.reg .wlStreamBindPart k 0) = Mode.ready)) :=
  ⟨cmd0, 3, sBound 1, by decide +kernel⟩

theorem witness_LaneCommandsComplete_3a : ∃ (r : CmdRef) (l : ℕ) (s : State), s.fresh r = true ∧ s.isOwnerOrLocal r.org = true ∧ s.laneOn l = true :=
  ⟨cmd0, 0, sLane 0 LaneSt.active 0, by decide +kernel⟩

theorem witness_LaneCommandsComplete_3b : ∃ (r : CmdRef) (l : ℕ) (s : State), s.fresh r = true ∧ s.isOwnerOrLocal r.org = true ∧ s.laneOn l = true :=
  ⟨cmd0, 64, sLane 64 LaneSt.disabled 15, by decide +kernel⟩

theorem witness_LaneCommandsComplete_3c : ∃ (r : CmdRef) (l : ℕ) (s : State), s.fresh r = true ∧ s.isOwnerOrLocal r.org = true ∧ s.laneOn l = true :=
  ⟨cmd0, 0, sLane 0 LaneSt.prbs 0, by decide +kernel⟩

theorem witness_LaneCommandsComplete_3d : ∃ (r : CmdRef) (l : ℕ) (s : State), s.fresh r = true ∧ s.isOwnerOrLocal r.org = true ∧ s.laneOn l = true :=
  ⟨cmd0, 2, sSpare none 15, by decide +kernel⟩

theorem witness_LaneCommandsComplete_3e : ∃ (r : CmdRef) (l : ℕ) (s : State), s.fresh r = true ∧ s.isOwnerOrLocal r.org = true ∧ s.laneOn l = true :=
  ⟨cmd0, 2, put (onLane (sSpare none 2) 2 LaneSt.active 15) [(.wlBundleSpareFor, 0, 0, 2)], by decide +kernel⟩

theorem witness_LaneCommandsComplete_4 : ∃ (r : CmdRef) (b : ℕ) (s : State), s.fresh r = true ∧ s.isOwnerOrLocal r.org = true ∧ b < s.grade.anvils :=
  ⟨cmd0, 0, sLane 0 LaneSt.active 0, by decide +kernel⟩

theorem witness_TraceRowsComplete_1 : ∃ (x : ℕ) (i : TraceItem) (s : State) (type : ℕ) (payload : Bytes) (la : ℕ) (lb : ℕ), s.srcRuns x = true ∧ s.itemPacket x i = some (type, payload, la, lb) ∧ (s.src x).dropped = 0 ∧ (s.src x).sync = none ∧ s.pushLen x type payload ≤ (s.src x).free x :=
  ⟨3, .branch 65535 0x1000, put sOn [(.traceStatusState, 0, 0, 1), (.traceCtlEnable, 0, 0, 1), (.traceSrcEnLo, 0, 0, 0x1FF)], TP.branch, toLE 2 65535 ++ difference 0x1000 0, 0x1000, 0, by decide +kernel⟩

theorem witness_TraceRowsComplete_2 : ∃ (c : ℕ) (s : State), c ≤ 8 ∧ (s.src c).stalledSince.isSome = true ∧ 2 * (s.src c).used ≤ srcSize c :=
  ⟨3, { put sOn [(.traceStatusState, 0, 0, 1), (.traceCtlEnable, 0, 0, 1), (.traceSrcEnLo, 0, 0, 0x1FF)] with trace := { Trace.init with srcs := [([3], { TraceSrc.init with stalledSince := some 0 })] } }, by decide +kernel⟩

theorem witness_TraceRowsComplete_3 : ∃ (c : ℕ) (s : State), c ≤ 8 ∧ (s.src c).stalledSince.isSome = true ∧ 1000 * s.reg .traceStallLimitUs 0 0 ≤ s.stalledNs c :=
  ⟨8, { put { sOn with time := { TimeBase.init with run := 2 ^ 60 } } [(.traceStatusState, 0, 0, 1), (.traceCtlEnable, 0, 0, 1), (.traceSrcEnLo, 0, 0, 0x1FF)] with trace := { Trace.init with srcs := [([8], { TraceSrc.init with stalledSince := some 0 })] } }, by decide +kernel⟩

theorem witness_TraceRowsComplete_4 : ∃ (x : ℕ) (s : State), s.srcRuns x = true ∧ 0 < (s.src x).dropped ∧ 64 ≤ (s.src x).free x :=
  ⟨0, { put sOn [(.traceStatusState, 0, 0, 1), (.traceCtlEnable, 0, 0, 1), (.traceSrcEnLo, 0, 0, 0x1FF)] with trace := { Trace.init with srcs := [([0], { TraceSrc.init with dropped := 9 })] } }, by decide +kernel⟩

theorem witness_TraceRowsComplete_5 : ∃ (s : State) (b : Bytes) (rest : List Bytes), s.trace.closing = false ∧ s.trace.out = b :: rest ∧ s.trace.sinkKind = 1 ∧ s.qEnabled s.trace.sinkQueue = true ∧ s.qFill s.trace.sinkQueue + (s.queue s.trace.sinkQueue).hold.length < s.qSize s.trace.sinkQueue :=
  ⟨{ put (put sOn [(.traceStatusState, 0, 0, 1), (.traceCtlEnable, 0, 0, 1), (.traceSrcEnLo, 0, 0, 0x1FF)]) [(.queueCfgType, 4, 0, 4), (.queueCtlEnable, 4, 0, 1), (.queueCfgSizeLog2, 4, 0, 6)] with trace := { Trace.init with out := [zeros 64, zeros 64], sinkKind := 1, sinkQueue := 4 } }, zeros 64, [zeros 64], by decide +kernel⟩

theorem witness_TraceRowsComplete_6 : ∃ (o : Origin) (s : State), s.sys.off = false ∧ s.isOwnerOrLocal o = true ∧ s.flag .traceCtlEnable 0 0 = false ∧ s.sinkInvalid = false :=
  ⟨.host 0, put sOn [(.traceBufValid, 0, 0, 1)], by decide +kernel⟩

theorem witness_TraceRowsComplete_7 : ∃ (o : Origin) (s : State), s.sys.off = false ∧ s.isOwnerOrLocal o = true ∧ s.flag .traceCtlEnable 0 0 = true :=
  ⟨.host 0, put sOn [(.traceStatusState, 0, 0, 1), (.traceCtlEnable, 0, 0, 1), (.traceSrcEnLo, 0, 0, 0x1FF)], by decide +kernel⟩

theorem witness_TraceRowsComplete_8 : ∃ (kind : ℕ) (k : ℕ) (s : State), s.trace.signals.contains (kind, k) = true ∧ s.trace.closing = false ∧ s.traceState = 1 :=
  ⟨1, 3, { put sOn [(.traceStatusState, 0, 0, 1), (.traceCtlEnable, 0, 0, 1), (.traceSrcEnLo, 0, 0, 0x1FF)] with trace := { Trace.init with signals := [(0, 1), (1, 3)] } }, by decide +kernel⟩

theorem witness_TraceRowsComplete_9 : ∃ (o : Origin) (s : State), s.sys.off = false ∧ s.isOwnerOrLocal o = true ∧ s.trace.closing = false ∧ s.traceState = 1 :=
  ⟨.host 0, put sOn [(.traceStatusState, 0, 0, 1), (.traceCtlEnable, 0, 0, 1), (.traceSrcEnLo, 0, 0, 0x1FF)], by decide +kernel⟩

theorem witness_TraceRowsComplete_10 : ∃ (s : State), s.trace.closing = false ∧ s.traceState = 2 ∧ s.reg .traceStopLeft 0 0 = 0 :=
  ⟨put sOn [(.traceStatusState, 0, 0, 2), (.traceCtlEnable, 0, 0, 1), (.traceSrcEnLo, 0, 0, 0x1FF)], by decide +kernel⟩

theorem witness_TraceRowsComplete_11 : ∃ (c : ℕ) (level : ℕ) (icount : ℕ) (target : ℕ) (s : State), s.sys.off = false ∧ c ≤ 8 ∧ 1 ≤ level ∧ level ≤ 3 ∧ (s.src c).asleep = false ∧ (s.src c).stalledSince = none ∧ ((s.traceItem c (.branch icount target)).src c).stalledSince = none :=
  ⟨3, 1, 7, 0x40, put sOn [(.traceStatusState, 0, 0, 1), (.traceCtlEnable, 0, 0, 1), (.traceSrcEnLo, 0, 0, 0x1FF)], by decide +kernel⟩

theorem witness_TraceRowsComplete_12 : ∃ (c : ℕ) (addr : ℕ) (s : State), s.sys.off = false ∧ c ≤ 8 ∧ (s.src c).asleep = true :=
  ⟨3, 0x40, { put sOn [(.traceStatusState, 0, 0, 1), (.traceCtlEnable, 0, 0, 1), (.traceSrcEnLo, 0, 0, 0x1FF)] with trace := { Trace.init with srcs := [([3], { TraceSrc.init with asleep := true })] } }, by decide +kernel⟩

theorem witness_TraceRowsComplete_13 : ∃ (r : CmdRef) (a : ℕ) (sizeLog2 : ℕ) (s : State) (b : ℕ), s.fresh r = true ∧ s.isOwnerOrLocal r.org = true ∧ a < s.grade.anvils ∧ 16 ≤ sizeLog2 ∧ sizeLog2 ≤ 30 ∧ s.traceBusyNow = false ∧ lowestFree (s.traceBufFree.traceBusy a) (2 ^ sizeLog2) = some b :=
  ⟨cmd0, 0, 16, sOn, 0, by decide +kernel⟩

theorem witness_TraceRowsComplete_14 : ∃ (r : CmdRef) (s : State), s.fresh r = true ∧ s.isOwnerOrLocal r.org = true ∧ s.traceBusyNow = false :=
  ⟨cmd0, put sOn [(.traceBufValid, 0, 0, 1)], by decide +kernel⟩

/-- A router takes a sealed packet that has a route. -/
theorem routes_sealed (s : State) (a r body : Nat) (d : Bytes) (raw : NocPkt) (o : Nat)
    (hb : decide (bits body 10 7 = 0 ∨ 4 < bits body 10 7) = false) (hk : dstKnown (bits body 18 11) = true)
    (he : raw.epoch = bits body 1 1) (hd : raw.dst = bits body 18 11) (hv : s.epochValid a raw.epoch = true)
    (ho : s.nextHop a r raw = .out o) : s.routes a r ⟨sealed body, d⟩ := by
  have e : (⟨sealed body, d⟩ : NocPkt).epoch = raw.epoch := by
    rw [he]; exact sealed_field body d 1 1 (by decide) (by decide)
  have f : (⟨sealed body, d⟩ : NocPkt).dst = raw.dst := by
    rw [hd]; exact sealed_field body d 18 11 (by decide) (by decide)
  refine ⟨?_, by rw [e]; exact hv, o, ?_⟩
  · rw [sealed_headerBad, hb, hk]; rfl
  · rw [nextHop_congr s a r _ raw e f]; exact ho

theorem msg_body : sOn.packetOf reqMsg 0 = ⟨sealed (headerBody 4 0 1 0 0 0 0 0 1 1 0), toLE 32 0x030201⟩ := by
  have h1 : sOn.epochOf reqMsg.src = 0 := by decide +kernel
  unfold State.packetOf
  rw [h1]
  congr 1

theorem witness_NetworkRowsComplete_1 : ∃ (q : NocReq) (s : State), s.sys.off = false ∧ q.type = 4 ∧ s.sourceOn q.src q.dst = true ∧
    s.noc.held = [] ∧ (s.packetOf q 0).src = q.src ∧ s.entersAt (s.packetOf q 0) := by
  refine ⟨reqMsg, sOn, rfl, rfl, by decide +kernel, rfl, ?_, ?_⟩
  · rw [msg_body]; exact sealed_field _ _ 26 19 (by decide) (by decide)
  · rw [msg_body]
    have hs : (⟨sealed (headerBody 4 0 1 0 0 0 0 0 1 1 0), toLE 32 0x030201⟩ : NocPkt).src = 0 := sealed_field _ _ 26 19 (by decide) (by decide)
    unfold State.entersAt
    rw [hs]
    exact ⟨by decide, by decide, by decide +kernel, routes_sealed _ _ _ _ _ (pk 4 0 1 0 0 0) 2 (by decide +kernel) (by decide +kernel)
      (by decide +kernel) (by decide +kernel) (by decide +kernel) (by decide +kernel)⟩

/-- The module with region 0 open to the network. -/
def sOpen : State := put sOn [(.nocFenceFenced, 0, 0, 0)]

theorem noc_body : sOpen.packetOf reqNoc 1023 = ⟨sealed (headerBody 1 0 0x11 1023 0 4096 0 8 0 1 0), []⟩ := by
  have h1 : sOpen.epochOf reqNoc.src = 0 := by decide +kernel
  unfold State.packetOf
  rw [h1]
  congr 1

theorem witness_NetworkRowsComplete_2 : ∃ (q : NocReq) (s : State) (tag : Nat), s.sys.off = false ∧ (q.type = 1 ∨ q.type = 2) ∧
    s.sourceOn q.src q.dst = true ∧ s.noc.held = [] ∧ s.sourceHolds q = false ∧ s.freeTag q = some tag ∧
    (s.packetOf q tag).src = q.src ∧ s.entersAt (s.packetOf q tag) := by
  refine ⟨reqNoc, sOpen, 1023, rfl, Or.inl rfl, by decide +kernel, rfl, by decide +kernel, by decide +kernel, ?_, ?_⟩
  · rw [noc_body]; exact sealed_field _ _ 26 19 (by decide) (by decide)
  · rw [noc_body]
    have hs : (⟨sealed (headerBody 1 0 0x11 1023 0 4096 0 8 0 1 0), []⟩ : NocPkt).src = 0 := sealed_field _ _ 26 19 (by decide) (by decide)
    unfold State.entersAt
    rw [hs]
    exact ⟨by decide, by decide, by decide +kernel, routes_sealed _ _ _ _ _ (pk 1 0 0x11 0 0 0) 2 (by decide +kernel) (by decide +kernel)
      (by decide +kernel) (by decide +kernel) (by decide +kernel) (by decide +kernel)⟩

theorem msg_dst : pkMsg.dst = 2 := sealed_field _ _ 18 11 (by decide) (by decide)
theorem msg_epoch : pkMsg.epoch = 0 := sealed_field _ _ 1 1 (by decide) (by decide)
theorem msg_prio : pkMsg.prio = 1 := sealed_field _ _ 4 3 (by decide) (by decide)
theorem msg_vc : pkMsg.vc = 0 := sealed_field _ _ 2 2 (by decide) (by decide)

/-- Whatever packet waits alone in an input buffer, the other buffers offer none. -/
theorem pick_one (k : NocPkt) (n : Nat) (h : (sPkt 0 0 4 0 k).nocRank 0 0 2 4 0 = some n) : (sPkt 0 0 4 0 k).nocPick 0 0 2 = some (4, 0) := by
  have z : ∀ inp v, (inp, v) ≠ (4, 0) → (sPkt 0 0 4 0 k).nocRank 0 0 2 inp v = none := by
    intro inp v hne
    have e : Tab.get [] (sPkt 0 0 4 0 k).noc.bufs [0, 0, inp, v] = [] := by
      show Tab.get [] [([0, 0, 4, 0], [(⟨k, 5⟩ : NocTrav)])] [0, 0, inp, v] = []
      have hk : ([0, 0, 4, 0] : Key) ≠ [0, 0, inp, v] := by
        intro h; injection h with _ h; injection h with _ h; injection h with h1 h; injection h with h2 _
        exact hne (by rw [h1, h2])
      simp only [Tab.get, Tab.find?, if_neg hk, Option.getD_none]
    unfold State.nocRank; rw [e]; rfl
  have l : (List.range 7).flatMap (fun inp => [(inp, 0), (inp, 1)]) =
    [(0, 0), (0, 1), (1, 0), (1, 1), (2, 0), (2, 1), (3, 0), (3, 1), (4, 0), (4, 1), (5, 0), (5, 1), (6, 0), (6, 1)] := by decide
  unfold State.nocPick
  rw [l]
  simp [h, z]


theorem msg_rank : (sPkt 0 0 4 0 pkMsg).nocRank 0 0 2 4 0 = some (14 + 28 + (3 - 1) * 7 + 4) := by
  have hn : (sPkt 0 0 4 0 pkMsg).nextHop 0 0 pkMsg = .out 2 := by
    rw [nextHop_congr _ 0 0 pkMsg (pk 4 0 2 0 0 0) (by rw [msg_epoch]; decide +kernel) (by rw [msg_dst]; decide +kernel)]
    decide +kernel
  have hr : (sPkt 0 0 4 0 pkMsg).roomFor 0 0 4 2 0 = true := by decide +kernel
  have hb : (Tab.get [] (sPkt 0 0 4 0 pkMsg).noc.bufs [0, 0, 4, 0]).head? = some ⟨pkMsg, 5⟩ := rfl
  have hs : ¬ 5 + 1000 * (sPkt 0 0 4 0 pkMsg).reg .nocCfgStarveUs 0 0 ≤ (sPkt 0 0 4 0 pkMsg).now := by decide +kernel
  have ht : Tab.get 0 (sPkt 0 0 4 0 pkMsg).noc.turn [0, 0, 2] = 0 := rfl
  simp only [State.nocRank, hb, hn, hr, if_neg hs, ht, msg_prio]
  rfl

theorem witness_NetworkRowsComplete_3 : ∃ (a r out inp since : Nat) (k : NocPkt) (s : State), s.sys.off = false ∧
    s.nextPacket a r out inp 0 since k ∧ out < 4 ∧ k.vc = 0 ∧ s.noc.held = [] ∧ s.routes a (hopTo out r) k :=
  ⟨0, 0, 2, 4, 5, pkMsg, sPkt 0 0 4 0 pkMsg, by decide +kernel, ⟨by decide +kernel, pick_one _ _ msg_rank, rfl⟩, by decide, msg_vc, rfl,
    routes_sealed _ _ _ _ _ (pk 4 0 2 0 0 0) 2 (by decide +kernel) (by decide +kernel) (by decide +kernel) (by decide +kernel)
      (by decide +kernel) (by decide +kernel)⟩

theorem witness_NetworkRowsComplete_4 : ∃ (a : ℕ) (r : ℕ) (inp : ℕ) (since : ℕ) (k : NocPkt) (s : State), s.sys.off = false ∧ s.nextPacket a r 4 inp 0 since k ∧ k.type = 4 :=
  ⟨0, 1, 3, 5, pk 4 0 1 0 0 0, sPkt 0 1 3 0 (pk 4 0 1 0 0 0), by refine ⟨?_, ?_, ?_⟩ <;> first | decide +kernel | (unfold State.nextPacket; decide +kernel)⟩

theorem witness_NetworkRowsComplete_5 : ∃ (a : ℕ) (r : ℕ) (inp : ℕ) (since : ℕ) (k : NocPkt) (s : State), s.sys.off = false ∧ s.nextPacket a r 4 inp 0 since k ∧ k.type = 1 ∧ k.dst ≠ 0xFF ∧ k.dst % 32 = 0x11 ∧ Tab.get false s.noc.closed [k.dst / 32] = false ∧ 0 < k.len ∧ k.len ≤ 64 ∧ k.addr + k.len ≤ Config.dramUsable ∧ s.noc.held = [] ∧ s.idFree = true :=
  ⟨0, 5, 3, 5, pk 1 0 0x11 7 4096 8, sPkt 0 5 3 0 (pk 1 0 0x11 7 4096 8), by refine ⟨?_, ?_, ?_, ?_, ?_, ?_, ?_, ?_, ?_, ?_, ?_⟩ <;> first | decide +kernel | (unfold State.nextPacket; decide +kernel)⟩

theorem witness_NetworkRowsComplete_6 : ∃ (a : ℕ) (r : ℕ) (inp : ℕ) (since : ℕ) (k : NocPkt) (s : State), s.sys.off = false ∧ s.nextPacket a r 4 inp 0 since k ∧ k.type = 1 ∧ k.dst ≠ 0xFF ∧ k.dst % 32 = 0x12 ∧ k.dst / 32 < 8 ∧ Tab.get false s.noc.closed [k.dst / 32] = false ∧ s.anvilOn (k.dst / 32) = true ∧ k.len = 4 ∧ k.addr = Fld.addr .nocTagFullCount (k.dst / 32) 0 ∧ s.noc.held = [] :=
  ⟨0, 0, 3, 5, pk 1 1 0x12 7 (Fld.addr .nocTagFullCount 0 0) 4, sPkt 0 0 3 0 (pk 1 1 0x12 7 (Fld.addr .nocTagFullCount 0 0) 4), by refine ⟨?_, ?_, ?_, ?_, ?_, ?_, ?_, ?_, ?_, ?_, ?_⟩ <;> first | decide +kernel | (unfold State.nextPacket; decide +kernel)⟩

/-- A reply of the DRAM controller waits. -/
def reply0 : NocReply := ⟨0x11, 0, 7, 0, [1, 2], none⟩
def sReply : State := { sOn with noc := { Noc.init with replies := [reply0] } }

theorem reply_body : sReply.replyPacket reply0 = ⟨sealed (headerBody 3 0x11 0 7 0 0 0 0 1 0 0), toLE 32 0x0201⟩ := by
  have h1 : sReply.epochOf reply0.src = 0 := by decide +kernel
  unfold State.replyPacket
  rw [show reply0.place = none from rfl]
  dsimp only
  rw [h1]
  congr 1

theorem witness_NetworkRowsComplete_7 : ∃ (q : NocReq) (s : State) (x : NocReply), s.sys.off = false ∧
    s.noc.replies.find? (fun y => decide (y.src = q.src ∧ y.dst = q.dst ∧ y.tag = q.tag)) = some x ∧ x.place = none ∧
    s.sourceOn x.src x.dst = true ∧ (s.replyPacket x).src = x.src ∧ s.entersAt (s.replyPacket x) := by
  refine ⟨⟨3, 0x11, 0, 0, 7, 0, 0, 0, .dma, []⟩, sReply, reply0, rfl, by decide +kernel, rfl, by decide +kernel, ?_, ?_⟩
  · rw [reply_body]; exact sealed_field _ _ 26 19 (by decide) (by decide)
  · rw [reply_body]
    have hs : (⟨sealed (headerBody 3 0x11 0 7 0 0 0 0 1 0 0), toLE 32 0x0201⟩ : NocPkt).src = 0x11 := sealed_field _ _ 26 19 (by decide) (by decide)
    unfold State.entersAt
    rw [hs]
    exact ⟨by decide, by decide, by decide +kernel, routes_sealed _ _ _ _ _ (pk 3 0x11 0 0 0 0) 3 (by decide +kernel) (by decide +kernel)
      (by decide +kernel) (by decide +kernel) (by decide +kernel) (by decide +kernel)⟩

theorem witness_NetworkRowsComplete_8 : ∃ (a : ℕ) (r : ℕ) (inp : ℕ) (since : ℕ) (k : NocPkt) (s : State) (x : NocTag), s.sys.off = false ∧ s.nextPacket a r 4 inp 1 since k ∧ k.type = 3 ∧ s.nocTag (tagOwner k.dst) k.tag = some x ∧ x.dead = false ∧ x.src = k.dst ∧ x.dst = k.src ∧ s.noc.held = [] :=
  ⟨0, 0, 3, 5, pk 3 0x11 0 1023 0 0, { sPkt 0 0 3 1 (pk 3 0x11 0 1023 0 0) with noc := { (sPkt 0 0 3 1 (pk 3 0x11 0 1023 0 0)).noc with tags := [([0, 1023], some (tag0 false))] } }, tag0 false, by refine ⟨?_, ?_, ?_, ?_, ?_, ?_, ?_, ?_⟩ <;> first | decide +kernel | (unfold State.nextPacket; decide +kernel)⟩

theorem witness_NetworkRowsComplete_9 : ∃ (a : ℕ) (tag : ℕ) (s : State) (x : NocTag), s.nocTag a tag = some x ∧ x.dead = false :=
  ⟨0, 1023, sTag false, tag0 false, by decide +kernel⟩

theorem witness_NetworkRowsComplete_10 : ∃ (a : ℕ) (tag : ℕ) (s : State) (x : NocTag), s.nocTag a tag = some x ∧ x.dead = true ∧ s.noc.held = [] :=
  ⟨0, 1023, sTag true, tag0 true, by decide +kernel⟩

theorem witness_NetworkRowsComplete_11a : ∃ (a : ℕ) (l : ℕ) (s : State), s.linkUp a l = true :=
  ⟨0, 1, put sOn [(.nocLinkUp, 0, 0, 7)], by decide +kernel⟩

theorem witness_NetworkRowsComplete_11b : ∃ (a : ℕ) (l : ℕ) (s : State), s.linkUp a l = true :=
  ⟨1, 3, { sOn with noc := { Noc.init with replays := [([1, 3], 4)] } }, by decide +kernel⟩

theorem witness_NetworkRowsComplete_12 : ∃ (r : Option CmdRef) (table : List (List ℕ × ℕ)) (s : State), s.noc.phase = 0 ∧ s.noc.queued = [] ∧ s.anvilsOn ≠ [] ∧ tableAccepted ((s.writeShadow table).routeEntry (s.epoch + 1)) (s.writeShadow table).anvilsOn = true :=
  ⟨none, [], sOn, by decide +kernel⟩

theorem witness_NetworkRowsComplete_13 : ∃ (r : CmdRef) (table : List (List ℕ × ℕ)) (s : State), s.noc.phase ≠ 0 ∧ (s.busyOf r).isSome = true :=
  ⟨cmd0, [([0, 0, 1], 3)], { sPhase 2 with host := busy0 0x1002 }, by decide +kernel⟩

theorem witness_NetworkRowsComplete_14 : ∃ (s : State), s.noc.phase = 1 :=
  ⟨sPhase 1, by decide +kernel⟩

theorem witness_NetworkRowsComplete_15 : ∃ (s : State), s.noc.phase = 2 :=
  ⟨sPhase 2, by decide +kernel⟩

theorem witness_NetworkRowsComplete_16 : ∃ (s : State), s.noc.phase = 3 ∧ s.epochUsed ((s.epoch + 1) % 2) = false :=
  ⟨sPhase 3, by decide +kernel⟩

theorem witness_NetworkRowsComplete_17 : ∃ (s : State), s.noc.phase = 3 ∧ s.noc.late = false :=
  ⟨sPhase 3, by decide +kernel⟩

theorem witness_NetworkRowsComplete_18 : ∃ (r : CmdRef) (s : State) (b : Busy), s.noc.waiting.contains r = true ∧ s.busyOf r = some b ∧ b.ans = none :=
  ⟨cmd0, { sOn with noc := { Noc.init with phase := 2, waiting := [cmd0] }, host := busy0 0x1002 }, ⟨cmd0, 0x1002, [], none, 0, 2, [], none⟩, by decide +kernel⟩

theorem witness_NetworkRowsComplete_19 : ∃ (r : ℕ) (s : State), r < s.grade.regions ∧ s.regionOn r = true ∧ s.fenced r = false :=
  ⟨0, put sOn [(.nocFenceFenced, 0, 0, 0xFE)], by decide +kernel⟩

theorem witness_NetworkRowsComplete_20 : ∃ (r : ℕ) (s : State), s.draining r = true ∧ s.noc.tags.any (fun e => e.2.any fun x => !x.dead && decide (x.region = some r)) = false ∧ s.anyPacket (fun k => decide (k.region = some r)) = false :=
  ⟨63, put sOn [(.nocFenceDraining, 7, 0, 128)], by decide +kernel⟩

theorem witness_NetworkRowsComplete_21 : ∃ (r : ℕ) (s : State), s.draining r = true ∧ Tab.get false s.noc.drainLate [r] = false :=
  ⟨63, put sOn [(.nocFenceDraining, 7, 0, 128)], by decide +kernel⟩

theorem witness_NetworkRowsComplete_22a : ∃ (a : ℕ) (s : State), s.modMode = Mod.sleeping ∧ s.anvilOn a = true ∧ s.noc.phase = 0 ∧ s.routedAround a = true ∧ ((∀ g, g < 8 → s.fenced (8 * a + g) = true ∧ s.regionOn (8 * a + g) = false)) :=
  ⟨0, put sOn [(.modStateMode, 0, 0, Mod.sleeping), (.nocFenceFenced, 0, 0, 255), (.modRgnOnLo, 0, 0, 0)], by decide +kernel⟩

theorem witness_NetworkRowsComplete_22b : ∃ (a : ℕ) (s : State), s.modMode = Mod.sleeping ∧ s.anvilOn a = true ∧ s.noc.phase = 0 ∧ s.routedAround a = true ∧ ((∀ g, g < 8 → s.fenced (8 * a + g) = true ∧ s.regionOn (8 * a + g) = false)) :=
  ⟨0, { put sOn [(.modStateMode, 0, 0, Mod.sleeping), (.nocFenceFenced, 0, 0, 255), (.modRgnOnLo, 0, 0, 0)] with noc := { Noc.init with tags := [([0, 1023], some (tag0 false))] } }, by decide +kernel⟩

theorem witness_HostInterfaceCompletes_1 : ∃ (n : ℕ) (m : ℕ) (record : Bytes) (s : State), s.mboxHere n m = true ∧ s.mbState n m = 0 :=
  ⟨0, 15, recUnknown, sOn, by decide +kernel⟩

theorem witness_HostInterfaceCompletes_2 : ∃ (n : ℕ) (m : ℕ) (s : State), s.mboxHere n m = true ∧ s.mbState n m = 3 :=
  ⟨0, 15, put sOn [(.mboxStateState, mbInst 0 15, 0, 3)], by decide +kernel⟩

theorem witness_HostInterfaceCompletes_3 : ∃ (f : Bytes) (s : State) (k : ℕ), s.sys.off = false ∧ s.enrolled f = true ∧ (List.range 4).find? (fun k => (s.session k).isNone) = some k :=
  ⟨[1, 2], { sOn with host := { HostIf.init with certs := [([1], [1, 2])] } }, 0, by decide +kernel⟩

theorem witness_HostInterfaceCompletes_4 : ∃ (k : ℕ) (s : State) (x : Session), s.session k = some x :=
  ⟨3, { sOn with host := { HostIf.init with sessions := [([3], some ⟨[1, 2], 1⟩)], posted := [⟨⟨.mgmt 3, 0, 9⟩, recUnknown, []⟩] } }, ⟨[1, 2], 1⟩, by decide +kernel⟩

theorem witness_HostInterfaceCompletes_5 : ∃ (k : ℕ) (record : Bytes) (s : State) (x : Session), s.sys.off = false ∧ s.session k = some x ∧ x.outstanding < 16 :=
  ⟨3, recUnknown, { sOn with host := { HostIf.init with sessions := [([3], some ⟨[1, 2], 15⟩)] } }, ⟨[1, 2], 15⟩, by decide +kernel⟩

theorem witness_HostInterfaceCompletes_6 : ∃ (record : Bytes) (s : State), s.sys.off = false ∧ s.flag .spCfgStrap 0 0 = true ∧ s.host.uartBusy = false :=
  ⟨recUnknown, put sOn [(.spCfgStrap, 0, 0, 1)], by decide +kernel⟩

theorem witness_HostInterfaceCompletes_7 : ∃ (s : State) (x : Posted), s.nextPosted = some x :=
  ⟨{ put sOn [(.mboxStateState, mbInst 0 2, 0, 1)] with host := { HostIf.init with boxes := [([0, 2], { Mailbox.init with req := recUnknown })] , posted := [⟨⟨.host 0, 2, 7⟩, recUnknown, []⟩] } }, ⟨⟨.host 0, 2, 7⟩, recUnknown, []⟩, by decide +kernel⟩

theorem witness_HostInterfaceCompletes_8 : ∃ (r : CmdRef) (s : State) (b : Busy) (a : Answer), s.sys.off = false ∧ s.busyOf r = some b ∧ b.ans = some a :=
  ⟨⟨.host 0, 2, 7⟩, { put sOn [(.mboxStateState, mbInst 0 2, 0, 2)] with host := { HostIf.init with boxes := [([0, 2], { Mailbox.init with req := recUnknown })] , busy := [⟨⟨.host 0, 2, 7⟩, 0x0FFF, [], none, 0, 2, [], some ⟨.ok, 0, []⟩⟩] } }, ⟨⟨.host 0, 2, 7⟩, 0x0FFF, [], none, 0, 2, [], some ⟨.ok, 0, []⟩⟩, ⟨.ok, 0, []⟩, by decide +kernel⟩

theorem witness_HostInterfaceCompletes_9 : ∃ (q : ℕ) (r : CmdRef) (ecrc : Bool) (s : State), s.sys.off = false ∧ s.qIn q = true ∧ s.qEnabled q = true :=
  ⟨5, cmd0, true, put (sPart 2) [(.queueCfgType, 5, 0, QT.stimulus), (.queueCtlEnable, 5, 0, 1)], by decide +kernel⟩

theorem witness_HostInterfaceCompletes_10 : ∃ (r : CmdRef) (ecrc : Bool) (s : State) (b : Busy), s.sys.off = false ∧ s.busyOf r = some b ∧ b.ans = none ∧ ((∀ p l, s.pExists p = true → (s.part p).load = some l → l.ref ≠ r)) :=
  ⟨cmd0, false, { sOn with host := busy0 0x702 }, ⟨cmd0, 0x702, [], none, 0, 2, [], none⟩, ⟨by decide +kernel, by decide +kernel, rfl, fun p l _ h => nomatch (show (none : Option Load) = some l from h)⟩⟩

theorem witness_HostInterfaceCompletes_11a : ∃ (n : ℕ) (cause : PortReset) (s : State), s.sys.off = false ∧ s.portPresent n = true :=
  ⟨0, .linkDown, { sOn with host := { HostIf.init with posted := [⟨⟨.host 0, 2, 7⟩, recUnknown, []⟩] } }, by decide +kernel⟩

theorem witness_HostInterfaceCompletes_11b : ∃ (n : ℕ) (cause : PortReset) (s : State), s.sys.off = false ∧ s.portPresent n = true :=
  ⟨0, .flr, sOn, by decide +kernel⟩

theorem witness_HostInterfaceCompletes_12 : ∃ (n : ℕ) (width : ℕ) (speed : ℕ) (s : State), s.sys.off = false ∧ s.portPresent n = true :=
  ⟨0, 16, 5, sOn, by decide +kernel⟩

theorem witness_HostInterfaceCompletes_13 : ∃ (o : Origin) (addr : ℕ) (s : State) (w : WordAt), s.sys.off = false ∧ addr % 4 = 0 ∧ addr < bar2Base ∧ decodeAddr addr = some w ∧ s.present w = true :=
  ⟨.host 0, Fld.addr .nocTagFullCount 0 0, put sOn [(.nocTagFullCount, 0, 0, 7)], (decodeAddr (Fld.addr .nocTagFullCount 0 0)).getD ⟨.mod, 0, 0⟩, by decide +kernel⟩

theorem witness_HostInterfaceCompletes_14 : ∃ (o : Origin) (addr : ℕ) (s : State) (w : WordAt) (w' : WordAt), s.sys.off = false ∧ addr % 8 = 0 ∧ addr < bar2Base ∧ decodeAddr addr = some w ∧ s.present w = true ∧ decodeAddr (addr + 4) = some w' ∧ s.present w' = true :=
  ⟨.host 0, Fld.addr .nocTagFullCount 0 0 / 8 * 8, put sOn [(.nocTagFullCount, 0, 0, 7)], (decodeAddr (Fld.addr .nocTagFullCount 0 0 / 8 * 8)).getD ⟨.mod, 0, 0⟩, (decodeAddr (Fld.addr .nocTagFullCount 0 0 / 8 * 8 + 4)).getD ⟨.mod, 0, 0⟩, by decide +kernel⟩

theorem witness_HostInterfaceCompletes_15 : ∃ (o : Origin) (addr : ℕ) (s : State) (w : WordAt) (e : FieldInfo × ℕ × ℕ) (hi : Fld), s.sys.off = false ∧ addr % 4 = 0 ∧ addr < bar2Base ∧ decodeAddr addr = some w ∧ s.present w = true ∧ w.fields = [e] ∧ (e.1.fld, hi) ∈ latchPairs :=
  ⟨.host 0, Fld.addr .partSchedCycleLo 0 0, put (sPart 2) [(.partSchedCycleLo, 0, 0, 5), (.partSchedCycleHi, 0, 0, 6)], (decodeAddr (Fld.addr .partSchedCycleLo 0 0)).getD ⟨.mod, 0, 0⟩, (((decodeAddr (Fld.addr .partSchedCycleLo 0 0)).getD ⟨.mod, 0, 0⟩).fields.headD (Fld.modIdGrade.info, 0, 0)), .partSchedCycleHi, by decide +kernel⟩

theorem witness_HostInterfaceCompletes_16 : ∃ (o : Origin) (p : ℕ) (s : State), s.sys.off = false ∧ p < 32 ∧ s.pExists p = true :=
  ⟨.host 0, 0, put (sPart 2) [(.partSchedCycleLo, 0, 0, 5), (.partSchedCycleHi, 0, 0, 6)], by decide +kernel⟩

theorem witness_HostInterfaceCompletes_17 : ∃ (o : Origin) (v : BitVec 64) (s : State), s.sys.off = false ∧ s.isOwnerOrLocal o = true :=
  ⟨.host 0, BitVec.ofNat 64 (2 ^ 32 + 5), sOn, by decide +kernel⟩

theorem witness_HostInterfaceCompletes_18 : ∃ (o : Origin) (v : BitVec 64) (s : State), s.sys.off = false ∧ s.isOwnerOrLocal o = true :=
  ⟨.host 0, BitVec.ofNat 64 (2 ^ 33 + 5), sOn, by decide +kernel⟩

theorem witness_HostInterfaceCompletes_19 : ∃ (n : ℕ) (m : ℕ) (v : BitVec 64) (s : State), s.sys.off = false ∧ s.mboxHere n m = true ∧ s.mbState n m = 0 ∧ v.toNat % 4 = 1 :=
  ⟨0, 15, BitVec.ofNat 64 1, sOn, by decide +kernel⟩

theorem witness_QueueAndRecordRowsComplete_1a : ∃ (o : Origin) (q : ℕ) (i : ℕ) (s : State), s.sys.off = false ∧ q < 4096 ∧ (s.qPort q).isSome = true ∧ s.mayQueue o q = true ∧ s.qEnabled q = true ∧ s.indexValid q (i % 2 ^ 32) = true :=
  ⟨.host 0, 5, 64, sQueue 3, by decide +kernel⟩

theorem witness_QueueAndRecordRowsComplete_1b : ∃ (o : Origin) (q : ℕ) (i : ℕ) (s : State), s.sys.off = false ∧ q < 4096 ∧ (s.qPort q).isSome = true ∧ s.mayQueue o q = true ∧ s.qEnabled q = true ∧ s.indexValid q (i % 2 ^ 32) = true :=
  ⟨.host 0, 5, 3, put (sQueue 7) [(.queuePidx, 5, 0, 3)], by decide +kernel⟩

theorem witness_QueueAndRecordRowsComplete_2 : ∃ (o : Origin) (q : ℕ) (s : State), s.sys.off = false ∧ q < 4096 ∧ (s.qPort q).isSome = true ∧ s.mayQueue o q = true :=
  ⟨.host 0, 4095, put (sPart 2) [(.queueCfgPart, 4095, 0, 0), (.queueCfgType, 4095, 0, 3)], by decide +kernel⟩

theorem witness_QueueAndRecordRowsComplete_3 : ∃ (o : Origin) (q : ℕ) (flags : ℕ) (s : State), s.sys.off = false ∧ q < 4096 ∧ (s.qPort q).isSome = true ∧ s.mayQueue o q = true ∧ flags < 2 ^ 16 ∧ s.reg .taskFlagsSoft q 0 < 2 ^ 16 :=
  ⟨.host 0, 5, 2 ^ 16 - 1, sQueue 3, by decide +kernel⟩

theorem witness_QueueAndRecordRowsComplete_4 : ∃ (engine : ℕ) (entries : List Bytes) (s : State) (q : ℕ), s.sys.off = false ∧ s.rescanAll.nextTask engine = some q :=
  ⟨16, [], put (sQueue 7) [(.taskMask, 5, 0, 1)], 5, by decide +kernel⟩

theorem witness_QueueAndRecordRowsComplete_5 : ∃ (q : ℕ) (s : State) (n : ℕ), s.sys.off = false ∧ s.flag .queueIntEn q 0 = true ∧ 0 < (s.queue q).unsignalled ∧ s.qPort q = some n :=
  ⟨5, { put (sQueue 7) [(.queueIntEn, 5, 0, 1), (.queueIntVector, 5, 0, 9)] with host := { HostIf.init with queues := [([5], { Queue.init with unsignalled := 1 })] } }, 0, by decide +kernel⟩

theorem witness_QueueAndRecordRowsComplete_6 : ∃ (r : CmdRef) (ident : Bytes) (s : State) (n : ℕ), s.fresh r = true ∧ r.org = .host n :=
  ⟨cmd0, toLE 16 12345, sOn, 0, by decide +kernel⟩

theorem witness_QueueAndRecordRowsComplete_7a : ∃ (r : CmdRef) (q : ℕ) (part : ℕ) (port : ℕ) (s : State), s.fresh r = true ∧ s.isOwner r.org = true ∧ q < 4096 ∧ ((part = 0xFF ∧ s.portPresent port = true) ∨ s.pExists part = true) ∧ s.qEnabled q = false :=
  ⟨cmd0, 4095, 0xFF, 0, sOn, by decide +kernel⟩

theorem witness_QueueAndRecordRowsComplete_7b : ∃ (r : CmdRef) (q : ℕ) (part : ℕ) (port : ℕ) (s : State), s.fresh r = true ∧ s.isOwner r.org = true ∧ q < 4096 ∧ ((part = 0xFF ∧ s.portPresent port = true) ∨ s.pExists part = true) ∧ s.qEnabled q = false :=
  ⟨cmd0, 5, 0, 0, sPart 1, by decide +kernel⟩

theorem witness_QueueAndRecordRowsComplete_8a : ∃ (r : CmdRef) (q : ℕ) (type : ℕ) (sizeLog2 : ℕ) (entryLog2 : ℕ) (base : ℕ) (wb : ℕ) (pair : ℕ) (s : State), s.fresh r = true ∧ q < 4096 ∧ pair < 4096 ∧ (s.qPort q).isSome = true ∧ s.mayQueue r.org q = true ∧ s.typeOk q type = true ∧ 4 ≤ sizeLog2 ∧ sizeLog2 ≤ 16 ∧ entryOk type entryLog2 = true ∧ base % 64 = 0 ∧ base % 2 ^ entryLog2 = 0 ∧ wb % 8 = 0 ∧ s.qEnabled q = false ∧ ((type = QT.command → s.pairOk q pair entryLog2 = true)) ∧ ((type = QT.capture → 8 + s.reg .partAcqRecBytes (s.qScope q) 0 ≤ 2 ^ entryLog2)) :=
  ⟨cmd0, 5, 7, 16, 5, 64, 8, 0, put (sQueue 0) [(.queueCtlEnable, 5, 0, 0)], by decide +kernel⟩

theorem witness_QueueAndRecordRowsComplete_8b : ∃ (r : CmdRef) (q : ℕ) (type : ℕ) (sizeLog2 : ℕ) (entryLog2 : ℕ) (base : ℕ) (wb : ℕ) (pair : ℕ) (s : State), s.fresh r = true ∧ q < 4096 ∧ pair < 4096 ∧ (s.qPort q).isSome = true ∧ s.mayQueue r.org q = true ∧ s.typeOk q type = true ∧ 4 ≤ sizeLog2 ∧ sizeLog2 ≤ 16 ∧ entryOk type entryLog2 = true ∧ base % 64 = 0 ∧ base % 2 ^ entryLog2 = 0 ∧ wb % 8 = 0 ∧ s.qEnabled q = false ∧ ((type = QT.command → s.pairOk q pair entryLog2 = true)) ∧ ((type = QT.capture → 8 + s.reg .partAcqRecBytes (s.qScope q) 0 ≤ 2 ^ entryLog2)) :=
  ⟨cmd0, 5, 1, 4, 6, 64, 8, 6, put (sQueue 0) [(.queueCtlEnable, 5, 0, 0), (.queueCfgType, 6, 0, 2), (.queueCfgPart, 6, 0, 0), (.queueCfgEntryLog2, 6, 0, 6)], by decide +kernel⟩

theorem witness_QueueAndRecordRowsComplete_9 : ∃ (r : CmdRef) (first : ℕ) (count : ℕ) (addr : ℕ) (s : State) (n : ℕ), s.fresh r = true ∧ r.org = .host n ∧ 1 ≤ count ∧ count ≤ 4096 :=
  ⟨cmd0, 0, 4096, 4096, { sOn with host := { HostIf.init with log := [⟨5, 0, 2, 0, 0, 1, 0, 0xFFFF, 0x10, 0xFF, zeros 16, 1, 2⟩], logSeq := 1 } }, 0, by decide +kernel⟩

theorem witness_QueueAndRecordRowsComplete_10a : ∃ (r : CmdRef) (slot : ℕ) (fingerprint : Bytes) (s : State), s.fresh r = true ∧ s.role r.org = Role.local_ ∧ slot < 2 :=
  ⟨uart0, 1, zeros 48, sOn, by decide +kernel⟩

theorem witness_QueueAndRecordRowsComplete_10b : ∃ (r : CmdRef) (slot : ℕ) (fingerprint : Bytes) (s : State), s.fresh r = true ∧ s.role r.org = Role.local_ ∧ slot < 2 :=
  ⟨uart0, 0, toLE 48 99, sOn, by decide +kernel⟩

theorem witness_QueueAndRecordRowsComplete_11 : ∃ (r : CmdRef) (slot : ℕ) (fingerprint : Bytes) (s : State), s.fresh r = true ∧ s.role r.org = Role.local_ ∧ slot < 2 :=
  ⟨uart0, 1, toLE 48 99, sOn, by decide +kernel⟩

theorem witness_QueueAndRecordRowsComplete_12 : ∃ (r : CmdRef) (port : ℕ) (grant : ℕ) (s : State), s.fresh r = true ∧ s.isOwnerOrLocal r.org = true ∧ s.portPresent port = true ∧ grant < 2 ∧ (¬(r.org = .host port ∧ grant = 0)) :=
  ⟨uart0, 0, 1, sOn, by decide +kernel⟩

theorem witness_QueueAndRecordRowsComplete_13 : ∃ (s : State), s.sys.off = false :=
  ⟨{ sOn with host := { HostIf.init with logSeq := 4 } }, by decide +kernel⟩

theorem witness_QueueAndRecordRowsComplete_14 : ∃ (r : CmdRef) (addr : ℕ) (count : ℕ) (s : State), s.fresh r = true ∧ addr % 4 = 0 ∧ 1 ≤ count ∧ count ≤ 256 :=
  ⟨cmd0, Fld.addr .modIdGrade 0 0 / 4 * 4, 256, sOn, by decide +kernel⟩

theorem witness_QueueAndRecordRowsComplete_15 : ∃ (r : CmdRef) (addr : ℕ) (count : ℕ) (words : List ℕ) (s : State), s.fresh r = true ∧ addr % 4 = 0 ∧ words.length = count ∧ 1 ≤ count ∧ count ≤ 252 :=
  ⟨cmd0, Fld.addr .traceStopDelay 0 0, 1, [77], sOn, by decide +kernel⟩

theorem witness_PowerRowsComplete_1a : ∃ (o : Origin) (v : ℕ) (s : State), s.sys.off = false ∧ s.isOwnerOrLocal o = true ∧ (s.partitions.any s.executing = false ∨ s.modQuiet = true) ∧ v < 2 ^ 16 :=
  ⟨.host 0, 1837, sOn, by decide +kernel⟩

theorem witness_PowerRowsComplete_1b : ∃ (o : Origin) (v : ℕ) (s : State), s.sys.off = false ∧ s.isOwnerOrLocal o = true ∧ (s.partitions.any s.executing = false ∨ s.modQuiet = true) ∧ v < 2 ^ 16 :=
  ⟨.host 0, 1837, put (sPart 2) [(.modStateMode, 0, 0, Mod.maintenance)], by decide +kernel⟩

theorem witness_PowerRowsComplete_2 : ∃ (totalW : ℕ) (partW : List (ℕ × ℕ)) (s : State), s.sys.off = false :=
  ⟨70000, [], sOn, by decide +kernel⟩

theorem witness_PowerRowsComplete_4 : ∃ (anvil : ℕ) (tj : ℕ) (cool : Bool) (s : State), s.sys.off = false :=
  ⟨0, 90, true, sOn, by decide +kernel⟩

theorem witness_PowerRowsComplete_5 : ∃ (meanW : ℕ) (idle : Bool) (s : State), s.sys.off = false ∧ s.sys.stewardDown = false ∧ 100000 < s.reg .pwrDutyPpm 0 0 :=
  ⟨900, false, put sOn [(.pwrDutyPpm, 0, 0, 100001)], by decide +kernel⟩

theorem witness_PowerRowsComplete_6 : ∃ (s : State), s.sys.off = false ∧ s.sys.activating = none ∧ s.pwr.change = none ∧ ((∀ x, s.pwr.lastRelease = some x → x + 100000 ≤ s.now)) ∧ s.ceiling.1 ≠ s.reg .modClkStepMhz 0 0 :=
  ⟨put sOn [(.modClkStepMhz, 0, 0, 1000)], by decide +kernel⟩

theorem witness_PowerRowsComplete_7 : ∃ (s : State) (c : ClockChange), s.pwr.change = some c :=
  ⟨{ sOn with pwr := { Power.init with change := some ⟨900, 2⟩ } }, ⟨900, 2⟩, by decide +kernel⟩

theorem witness_PowerRowsComplete_8 : ∃ (i : ℕ) (volts : ℕ) (s : State), i < 2 ∧ inRange volts = true ∧ s.feed i = false ∧ s.sys.off = false :=
  ⟨1, 265, sFeed, by decide +kernel⟩

theorem witness_PowerRowsComplete_9a : ∃ (i : ℕ) (volts : ℕ) (s : State), i < 2 ∧ inRange volts = false ∧ s.feed i = true :=
  ⟨0, 84, sFeed, by decide +kernel⟩

theorem witness_PowerRowsComplete_9b : ∃ (i : ℕ) (volts : ℕ) (s : State), i < 2 ∧ inRange volts = false ∧ s.feed i = true :=
  ⟨0, 266, put sFeed [(.pwrStatusFeedB, 0, 0, 1)], by decide +kernel⟩

theorem witness_PowerRowsComplete_10 : ∃ (s : State), s.feed 0 = true ∧ s.feed 1 = true ∧ s.sys.off = false :=
  ⟨put sFeed [(.pwrStatusFeedB, 0, 0, 1)], by decide +kernel⟩

theorem witness_PowerRowsComplete_11 : ∃ (s : State), s.sys.off = false ∧ s.flag .pwrStatusLowLine 0 0 = false ∧ (s.feed 0 = true ∨ s.feed 1 = true) :=
  ⟨sFeed, by decide +kernel⟩

theorem witness_PowerRowsComplete_12 : ∃ (s : State), s.sys.off = false ∧ s.flag .pwrStatusLowLine 0 0 = true ∧ (s.feed 0 = true ∨ s.feed 1 = true) :=
  ⟨{ put sFeed [(.pwrStatusLowLine, 0, 0, 1)] with pwr := { Power.init with powerCeil := 1200, beforeLow := some 1500 } }, by decide +kernel⟩

theorem witness_PowerRowsComplete_13 : ∃ (s : State) (x : ℕ), s.pwr.interruption = some x ∧ x + 15000000 ≤ s.now ∧ s.pwr.dropoutHeld = false :=
  ⟨{ sOn with pwr := { Power.init with interruption := some 5 }, time := { TimeBase.init with run := 2 ^ 60 } }, 5, by decide +kernel⟩

theorem witness_PowerRowsComplete_14 : ∃ (s : State) (x : ℕ), s.pwr.interruption = some x ∧ x + 50000000 ≤ s.now ∧ s.sys.off = false :=
  ⟨{ sOn with pwr := { Power.init with interruption := some 5 }, time := { TimeBase.init with run := 2 ^ 60 } }, 5, by decide +kernel⟩

theorem witness_PowerRowsComplete_15 : ∃ (rail : ℕ) (kind : ℕ) (s : State), s.sys.off = false ∧ rail < s.grade.regions ∧ 1 ≤ kind ∧ kind ≤ 6 ∧ s.reg .modRgnOnLo 0 0 < 2 ^ 32 :=
  ⟨0, 6, sOn, by decide +kernel⟩

theorem witness_PowerRowsComplete_16 : ∃ (a : ℕ) (s : State), s.sys.off = false ∧ a < s.grade.anvils :=
  ⟨0, sOn, by decide +kernel⟩

theorem witness_PowerRowsComplete_17 : ∃ (inDc : ℕ) (outDc : ℕ) (flowCl : ℕ) (s : State), s.sys.off = false :=
  ⟨1024, 5, 5000, sOn, by decide +kernel⟩

theorem witness_PowerRowsComplete_18 : ∃ (s : State), s.auxOn = true :=
  ⟨put sOn [(.pwrAuxEn, 0, 0, 1)], by decide +kernel⟩

theorem witness_PowerRowsComplete_19 : ∃ (o : Origin) (en : ℕ) (s : State), s.sys.off = false ∧ s.isOwnerOrLocal o = true :=
  ⟨.host 0, 1, sOn, by decide +kernel⟩

theorem witness_StartUpRowsComplete_1 : ∃ (s : State), s.booting = true :=
  ⟨sBoot, by decide +kernel⟩

theorem witness_StartUpRowsComplete_2 : ∃ (s : State), s.booting = true :=
  ⟨sBoot, by decide +kernel⟩

theorem witness_StartUpRowsComplete_3a : ∃ (s : State), s.sys.off = false ∧ s.modMode = Mod.boot ∧ s.sys.steward = true :=
  ⟨{ sBoot with sys := { Sys.init with steward := true } }, by decide +kernel⟩

theorem witness_StartUpRowsComplete_3b : ∃ (s : State), s.sys.off = false ∧ s.modMode = Mod.boot ∧ s.sys.steward = true :=
  ⟨{ put sBoot [(.modBootAutoWake, 0, 0, 1)] with sys := { Sys.init with steward := true } }, by decide +kernel⟩

theorem witness_StartUpRowsComplete_4 : ∃ (s : State), s.modMode = Mod.waking :=
  ⟨sMode Mod.waking, by decide +kernel⟩

theorem witness_StartUpRowsComplete_5 : ∃ (s : State), s.modMode = Mod.sleeping ∧ s.anvilsOn = [] :=
  ⟨{ sMode Mod.sleeping with sys := { Sys.init with steward := true } }, by decide +kernel⟩

theorem witness_StartUpRowsComplete_6a : ∃ (r : CmdRef) (s : State), s.fresh r = true ∧ s.isOwnerOrLocal r.org = true ∧ s.sys.factoryBad = false :=
  ⟨cmd0, sOn, by decide +kernel⟩

theorem witness_StartUpRowsComplete_6b : ∃ (r : CmdRef) (s : State), s.fresh r = true ∧ s.isOwnerOrLocal r.org = true ∧ s.sys.factoryBad = false :=
  ⟨cmd0, sMode Mod.standby, by decide +kernel⟩

theorem witness_StartUpRowsComplete_7a : ∃ (r : CmdRef) (force : ℕ) (s : State), s.fresh r = true ∧ s.isOwnerOrLocal r.org = true ∧ force < 2 ∧ (s.partitions = [] ∨ force = 1) :=
  ⟨cmd0, 0, sOn, by decide +kernel⟩

theorem witness_StartUpRowsComplete_7b : ∃ (r : CmdRef) (force : ℕ) (s : State), s.fresh r = true ∧ s.isOwnerOrLocal r.org = true ∧ force < 2 ∧ (s.partitions = [] ∨ force = 1) :=
  ⟨cmd0, 1, sPart 2, by decide +kernel⟩

theorem witness_StartUpRowsComplete_8 : ∃ (r : CmdRef) (s : State), s.fresh r = true ∧ s.isOwnerOrLocal r.org = true :=
  ⟨cmd0, sOn, by decide +kernel⟩

theorem witness_StartUpRowsComplete_9 : ∃ (r : CmdRef) (offset : ℕ) (length : ℕ) (s : State), s.fresh r = true ∧ s.isOwnerOrLocal r.org = true ∧ 0 < length ∧ length ≤ 1984 ∧ offset + length ≤ 524288 ∧ s.reg .modBootSettingsSrc 0 0 ≠ 0 ∧ offset + length ≤ (Tab.get [] s.sys.copies [s.reg .modBootSettingsSrc 0 0 - 1]).length :=
  ⟨cmd0, 36, 64, sCopy, by decide +kernel⟩

theorem witness_StartUpRowsComplete_10 : ∃ (r : CmdRef) (srcPort : ℕ) (addr : ℕ) (length : ℕ) (offset : ℕ) (data : Bytes) (s : State), s.fresh r = true ∧ s.isOwnerOrLocal r.org = true ∧ s.flag .modFwTrial 0 0 = false ∧ 0 < length :=
  ⟨cmd0, 0, 4096, 3, 1000, [1, 2, 3], sOn, by decide +kernel⟩

theorem witness_StartUpRowsComplete_11 : ∃ (r : CmdRef) (s : State), s.fresh r = true ∧ s.isOwnerOrLocal r.org = true ∧ s.activationBlocked = false :=
  ⟨cmd0, sOn, by decide +kernel⟩

theorem witness_StartUpRowsComplete_12 : ∃ (s : State), s.sys.stewardDown = true :=
  ⟨{ sOn with sys := { sOn.sys with stewardDown := true, activating := some false } }, by decide +kernel⟩

theorem witness_StartUpRowsComplete_13 : ∃ (s : State), s.sys.stewardDown = true ∧ s.sys.activating = some false :=
  ⟨{ sOn with sys := { sOn.sys with stewardDown := true, activating := some false, trialFrom := 1 } }, by decide +kernel⟩

theorem witness_StartUpRowsComplete_14 : ∃ (r : CmdRef) (s : State), s.fresh r = true ∧ s.isOwnerOrLocal r.org = true ∧ s.flag .modFwTrial 0 0 = true :=
  ⟨cmd0, put sOn [(.modFwTrial, 0, 0, 1)], by decide +kernel⟩

theorem witness_ServiceRowsComplete_1 : ∃ (taps : List TapReading) (s : State), s.temperWaits = false :=
  ⟨[⟨0, 5, 1, 2, 1700, 1650⟩], sOn, by decide +kernel⟩

theorem witness_ServiceRowsComplete_2 : ∃ (taps : List TapReading) (s : State) (ref : Option CmdRef), s.svc.replan = some ref ∧ s.temperWaits = false ∧ (s.readTaps taps).powered.filter (s.readTaps taps).belowGuard = [] :=
  ⟨[], { put sOn [(.modRgnOnLo, 0, 0, 0)] with svc := { Svc.init with replan := some none } }, none, by decide +kernel⟩

theorem witness_ServiceRowsComplete_3 : ∃ (st : Store) (k : Key) (s : State) (p : ℕ), s.hearthPart (k.getD 0 0) (k.getD 1 0) = some p ∧ st ≠ .bank ∧ st ≠ .link ∧ flawOf s.fab st k = 1 ∧ s.regionOn (regionOf (k.getD 0 0) (k.getD 1 0)) = true :=
  ⟨.dict, [0, 3, 7], { sPart 2 with fab := { Fab.init with flaws := [([Store.dict.ctorIdx, 0, 3, 7], 1)] } }, 0, by decide +kernel⟩

theorem witness_ServiceRowsComplete_4a : ∃ (c : ℕ) (s : State), s.sys.off = false ∧ c < s.grade.anvils ∧ s.sys.stewardDown = false ∧ bit (s.reg .svcCpout 0 0) c = false :=
  ⟨3, sOn, by decide +kernel⟩

theorem witness_ServiceRowsComplete_4b : ∃ (c : ℕ) (s : State), s.sys.off = false ∧ c < s.grade.anvils ∧ s.sys.stewardDown = false ∧ bit (s.reg .svcCpout 0 0) c = false :=
  ⟨0, sOn, by refine ⟨?_, ?_, ?_, ?_⟩ <;> decide +kernel⟩

theorem witness_ServiceRowsComplete_5a : ∃ (a : ℕ) (l : ℕ) (s : State), Grade.hasLink s.grade a l = true ∧ s.anvilOn a = true ∧ bit (s.reg .svcLinkOut 0 0) (3 * a + l) = false :=
  ⟨0, 1, sOn, by decide +kernel⟩

theorem witness_ServiceRowsComplete_5b : ∃ (a : ℕ) (l : ℕ) (s : State), Grade.hasLink s.grade a l = true ∧ s.anvilOn a = true ∧ bit (s.reg .svcLinkOut 0 0) (3 * a + l) = false :=
  ⟨0, 1, { sOn with svc := { Svc.init with linkErrs := [([0, 1], [1, 2])] } }, by decide +kernel⟩

theorem witness_ServiceRowsComplete_6 : ∃ (s : State), s.sys.off = false ∧ s.sys.moduleFault = false :=
  ⟨sOn, by decide +kernel⟩

theorem witness_ServiceRowsComplete_7a : ∃ (r : CmdRef) (regions : ℕ) (s : State), s.fresh r = true ∧ s.isOwnerOrLocal r.org = true :=
  ⟨cmd0, 1, sOn, by decide +kernel⟩

theorem witness_ServiceRowsComplete_7b : ∃ (r : CmdRef) (regions : ℕ) (s : State), s.fresh r = true ∧ s.isOwnerOrLocal r.org = true :=
  ⟨cmd0, 1, sMode Mod.maintenance, by decide +kernel⟩

theorem witness_ServiceRowsComplete_8 : ∃ (r : CmdRef) (regions : ℕ) (s : State), s.fresh r = true ∧ s.isOwnerOrLocal r.org = true ∧ setBitsOf 64 regions ≠ [] ∧ ((∀ x ∈ setBitsOf 64 regions, x < s.grade.regions ∧ s.regionState x = 1 ∧ s.regionOn x = true)) :=
  ⟨cmd0, 1, put sOn [(.svcRegionState, 0, 0, 1)], by decide +kernel⟩

theorem witness_ServiceRowsComplete_9 : ∃ (r : CmdRef) (s : State), s.fresh r = true ∧ s.isOwnerOrLocal r.org = true ∧ s.modMode = Mod.maintenance ∧ s.svc.insertion = none ∧ s.svc.queued = [] ∧ s.svc.replan = none :=
  ⟨cmd0, sMode Mod.maintenance, by decide +kernel⟩

theorem witness_ServiceRowsComplete_10 : ∃ (r : CmdRef) (a : ℕ) (h : ℕ) (lbp : ℕ) (s : State), s.fresh r = true ∧ s.isOwnerOrLocal r.org = true ∧ a < s.grade.anvils ∧ h < 128 ∧ lbp < 1024 ∧ s.svc.insertion = none ∧ s.svc.queued = [] ∧ s.svc.replan = none ∧ s.freeBillets a h ≠ [] ∧ s.deferred a h = false ∧ bit (s.reg .svcCpout 0 0) a = false :=
  ⟨cmd0, 0, 127, 1023, sOn, by decide +kernel⟩

theorem witness_NetworkFrames_1a : ∃ (e : NocEvent) (s : State), ∀ k, s.delivers e = some k → k.noRegister :=
  ⟨.pass 0 5 4 ⟨[], []⟩, sPkt 0 5 3 0 (pk 1 0 0x11 7 4096 8), fun k hk => by
    rw [show State.delivers _ _ = some (pk 1 0 0x11 7 4096 8) by decide +kernel] at hk
    cases hk; unfold NocPkt.noRegister; decide +kernel⟩

theorem witness_NetworkFrames_1b : ∃ (e : NocEvent) (s : State), ∀ k, s.delivers e = some k → k.noRegister :=
  ⟨.send reqNoc, sOpen, fun _ h => nomatch h⟩

theorem witness_NetworkFrames_1c : ∃ (e : NocEvent) (s : State), ∀ k, s.delivers e = some k → k.noRegister :=
  ⟨.pass 0 1 4 ⟨[], []⟩, sPkt 0 1 3 0 (pk 2 0 1 0 0 0), fun k hk => by
    rw [show State.delivers _ _ = some (pk 2 0 1 0 0 0) by decide +kernel] at hk
    cases hk; unfold NocPkt.noRegister; decide +kernel⟩

theorem witness_NetworkFrames_2a : ∃ (e : NocEvent) (s : State), ∀ k, s.delivers e = some k → k.noRegister :=
  ⟨.pass 0 0 4 ⟨[], []⟩, { sPkt 0 0 3 1 (pk 3 0x11 0 1023 0 0) with noc := { (sPkt 0 0 3 1 (pk 3 0x11 0 1023 0 0)).noc with tags := [([0, 1023], some (tag0 false))] } }, fun k hk => by
    rw [show State.delivers _ _ = some (pk 3 0x11 0 1023 0 0) by decide +kernel] at hk
    cases hk; unfold NocPkt.noRegister; decide +kernel⟩

theorem witness_HostInterfaceFrames_14 : ∃ (o : Origin) (q : ℕ) (value : ℕ) (s : State), q < 4096 :=
  ⟨.host 0, 5, 1, sQueue 7, by decide +kernel⟩

theorem witness_HostInterfaceFrames_15 : ∃ (o : Origin) (q : ℕ) (flags : ℕ) (s : State), q < 4096 :=
  ⟨.host 0, 5, 3, sQueue 7, by decide +kernel⟩

theorem witness_PowerFrames_8 : ∃ (i : ℕ) (volts : ℕ) (s : State), s.sys.off = false :=
  ⟨1, 265, sFeed, by decide +kernel⟩

theorem witness_PowerFrames_15 : ∃ (rail : ℕ) (kind : ℕ) (s : State), rail < 0x40 :=
  ⟨0, 6, sOn, by decide +kernel⟩

theorem witness_EmptyQueueIdles_1 : ∃ (s : State), s.pending = [] :=
  ⟨State.reset, rfl⟩

theorem witness_CommandsKeepQueueAndGrade_1 : ∃ (c : Instr) (s : State) (t : State), exec c s = .next t :=
  ⟨.timeTick, sOn, nx .timeTick sOn, rfl⟩

theorem witness_ResetRegisters_1 : ∃ (f : Fld) (i : ℕ) (j : ℕ), f ∉ [Fld.modIdGrade, .modIdStepping, .modIdAnvilMask, .modSerialLo, .modSerialHi, .hearthIdAnvil, .hearthIdHearth, .linkIdPeer, .linkIdPort, .linkLatBase, .modLatLinkBase, .modLatHzLead, .nocRouteSet0, .queueCfgPart, .wlTrainLogical, .timeAdjEthRx, .timeAdjEthTx, .timeAdjPps, .timeAdjWlRx, .timeAdjWlTx, .timeAdjTrig] :=
  ⟨.modStateMode, 0, 0, by decide +kernel⟩

theorem witness_ResetRegisters_5 : ∃ (a : ℕ) (l : ℕ), l < 3 :=
  ⟨7, 2, by decide +kernel⟩

theorem witness_ResetRegisters_6 : ∃ (a : ℕ) (h : ℕ), h < 128 :=
  ⟨7, 127, by decide +kernel⟩

theorem witness_ResetRegisters_7 : ∃ (l : ℕ), l < 64 :=
  ⟨63, by decide +kernel⟩

theorem witness_StepKeepsTidy_1 : ∃ (s : State) (t : State), Tidy s ∧ step s = .next t :=
  ⟨{ State.reset with pending := [.timeTick] }, stp { State.reset with pending := [.timeTick] }, ⟨⟨by show Tab.wf _ _ = true; decide +kernel, ⟨by show Tab.wf _ _ = true; decide +kernel, by show Tab.wf _ _ = true; decide +kernel, by show Tab.wf _ _ = true; decide +kernel, by show Tab.wf _ _ = true; decide +kernel, by show Tab.wf _ _ = true; decide +kernel, by show Tab.wf _ _ = true; decide +kernel, by show Tab.wf _ _ = true; decide +kernel⟩, by show Tab.wf _ _ = true; decide +kernel, by show Tab.wf _ _ = true; decide +kernel⟩, rfl⟩⟩

theorem witness_OneLaneOnly_1 : ∃ (c : Instr) (l : ℕ) (s : State), (∃ o, c = .laneEnable o l) ∨ (∃ o, c = .laneDisable o l) ∨ (∃ o, c = .retrain o l) ∨ c = .terminationDetect l ∨ c = .cdrLock l ∨ c = .blockLock l ∨ (∃ x, c = .tsDetected l x) ∨ c = .trainTimeout l ∨ c = .lockLoss l ∨ (∃ x, c = .cap l x) ∨ c = .replayTimeout l ∨ c = .crcErrorLimit l ∨ (∃ x, c = .blockDiscard l x) ∨ c = .prbsCheckerLock l ∨ c = .prbsLockLoss l :=
  ⟨.laneEnable (.host 0) 0, 0, sLane 0 LaneSt.disabled 0, Or.inl ⟨_, rfl⟩⟩

theorem witness_PartitionsDoNotInterfere_1 : ∃ (c : Instr) (p : ℕ) (s : State), c = .freezeLands p ∨ c = .partitionResume p ∨ (∃ o, c = .hostAbort o p) ∨ (∃ j, c = .timerExpired p j) ∨ c = .timeReached p ∨ (∃ o, c = .trigCtlArm o p) ∨ (∃ o, c = .trigCtlDisarm o p) ∨ c = .captureDrainComplete p ∨ c = .acqSegmentOpen p ∨ (∃ r m port, c = .partCreate r p m port) ∨ (∃ r, c = .partDestroy r p) ∨ (∃ r port, c = .partBind r p port) ∨ (∃ r m a n, c = .partRun r p m a n) ∨ (∃ r f a, c = .partStop r p f a) ∨ (∃ r n a, c = .partHalt r p n a) ∨ (∃ r a, c = .partResume r p a) ∨ (∃ r, c = .partUnload r p) ∨ (∃ r x a n f, c = .partLoad r p x a n f) ∨ (∃ img, c = .loadHeader p img) ∨ (∃ img, c = .loadPlan p img) ∨ (∃ img, c = .loadCheck p img) ∨ c = .loadPrepare p ∨ (∃ r a n e f, c = .captureRequest r p a n e f) ∨ (∃ r, c = .captureRelease r p) :=
  ⟨.freezeLands 0, 0, sPart 2, Or.inl rfl⟩

theorem witness_HostMemoryWindows_1 : ∃ (r : CmdRef) (p : ℕ) (kind : ℕ) (anvil : ℕ) (hearth : ℕ) (first : ℕ) (count : ℕ) (addr : ℕ) (s : State) (t : State) (port : ℕ) (b : ℕ), exec (.stateRead r p kind anvil hearth first count addr) s = .next t ∧ (¬(r.org = .host port ∧ addr ≤ b ∧
      b < addr + count * (if kind = 0 then 32 else if kind = 1 then 128 else if kind = 2 ∨ kind = 3 then 64 else 1))) :=
  ⟨cmd0, 0, 3, 0, 0, 1023, 1, 4096, sPart 4, nx (.stateRead (cmd0) (0) (3) (0) (0) (1023) (1) (4096)) (sPart 4), 0, 4095, by refine ⟨?_, ?_⟩ <;> first | decide +kernel | rfl⟩

theorem witness_HostMemoryWindows_2 : ∃ (r : CmdRef) (p : ℕ) (anvil : ℕ) (offset : ℕ) (length : ℕ) (addr : ℕ) (s : State) (t : State) (port : ℕ) (b : ℕ), exec (.captureDramRead r p anvil offset length addr) s = .next t ∧ (¬(r.org = .host port ∧ addr ≤ b ∧ b < addr + length)) :=
  ⟨cmd0, 0, 0, 0, 4096, 4096, { sSnap with dram := { Dram.init with jobs := [jobDone 4096] }, host := busy0 0x0703 }, nx (.captureDramRead (cmd0) (0) (0) (0) (4096) (4096)) ({ sSnap with dram := { Dram.init with jobs := [jobDone 4096] }, host := busy0 0x0703 }), 0, 8192, by refine ⟨?_, ?_⟩ <;> first | decide +kernel | rfl⟩

theorem witness_HostMemoryWindows_3 : ∃ (r : CmdRef) (first : ℕ) (count : ℕ) (addr : ℕ) (s : State) (t : State) (port : ℕ) (b : ℕ), exec (.auditRead r first count addr) s = .next t ∧ (¬(r.org = .host port ∧ addr ≤ b ∧ b < addr + 64 * count)) :=
  ⟨cmd0, 0, 4096, 4096, { sOn with host := { HostIf.init with log := [⟨5, 0, 2, 0, 0, 1, 0, 0xFFFF, 0x10, 0xFF, zeros 16, 1, 2⟩], logSeq := 1 } }, nx (.auditRead (cmd0) (0) (4096) (4096)) ({ sOn with host := { HostIf.init with log := [⟨5, 0, 2, 0, 0, 1, 0, 0xFFFF, 0x10, 0xFF, zeros 16, 1, 2⟩], logSeq := 1 } }), 1, 4096, by refine ⟨?_, ?_⟩ <;> first | decide +kernel | rfl⟩

theorem witness_HostMemoryWindows_4 : ∃ (r : CmdRef) (offset : ℕ) (length : ℕ) (addr : ℕ) (s : State) (t : State) (port : ℕ) (b : ℕ), exec (.settingsRead r offset length addr) s = .next t ∧ (¬(r.org = .host port ∧ addr ≠ 0 ∧ addr ≤ b ∧ b < addr + length)) :=
  ⟨cmd0, 36, 64, 4096, sCopy, nx (.settingsRead (cmd0) (36) (64) (4096)) (sCopy), 0, 4160, by refine ⟨?_, ?_⟩ <;> first | decide +kernel | rfl⟩

theorem witness_DepositAndServeWindows_1 : ∃ (r : CmdRef) (p : ℕ) (kind : ℕ) (anvil : ℕ) (hearth : ℕ) (first : ℕ) (count : ℕ) (addr : ℕ) (flags : ℕ) (data : Bytes) (s : State) (t : State), exec (.stateDeposit r p kind anvil hearth first count addr flags data) s = .next t :=
  ⟨cmd0, 0, 4, 0, 0, 131070, 2, 0, 0, [1, 2], sPart 4, nx (.stateDeposit (cmd0) (0) (4) (0) (0) (131070) (2) (0) (0) ([1, 2])) (sPart 4), by first | decide +kernel | rfl⟩

theorem witness_DepositAndServeWindows_2a : ∃ (a : ℕ) (id : ℕ) (bad : List (ℕ × ℕ)) (second : List (ℕ × ℕ)) (crc : ℕ) (s : State) (t : State) (a' : ℕ) (l : ℕ), exec (.dramRequestServe a id bad second crc) s = .next t ∧ (l / 4096 < 0x7C0000 ∨ Tab.get false s.dram.used [a', l / 4096] = true) ∧ ((∀ x, (s.reqs a).find? (fun x => decide (x.id = id)) = some x → x.write = true ∨ x.src = .scrub → a' = a → s.reqLin a x / 64 = l / 64 → x.src ≠ .scrub ∧ Tab.get false s.dram.rankOut [a, linRank (s.reqLin a x)] = false ∧ s.delivered a x bad second = some (s.burstOf a x) ∧ ∀ k, k < x.len → (x.data.getD k none).isSome = true → s.dram.lin a (x.addr + k) ≠ l)) :=
  ⟨0, 9, [], [], 3, sDram { Dram.init with reqs := [([0], [reqWrite])], mem := [([0, 0x10009], 7)] }, nx (.dramRequestServe (0) (9) ([]) ([]) (3)) (sDram { Dram.init with reqs := [([0], [reqWrite])], mem := [([0, 0x10009], 7)] }), 0, 0x10009, by refine ⟨?_, ?_, ?_⟩ <;> first | decide +kernel | rfl⟩

theorem witness_DepositAndServeWindows_2b : ∃ (a : ℕ) (id : ℕ) (bad : List (ℕ × ℕ)) (second : List (ℕ × ℕ)) (crc : ℕ) (s : State) (t : State) (a' : ℕ) (l : ℕ), exec (.dramRequestServe a id bad second crc) s = .next t ∧ (l / 4096 < 0x7C0000 ∨ Tab.get false s.dram.used [a', l / 4096] = true) ∧ ((∀ x, (s.reqs a).find? (fun x => decide (x.id = id)) = some x → x.write = true ∨ x.src = .scrub → a' = a → s.reqLin a x / 64 = l / 64 → x.src ≠ .scrub ∧ Tab.get false s.dram.rankOut [a, linRank (s.reqLin a x)] = false ∧ s.delivered a x bad second = some (s.burstOf a x) ∧ ∀ k, k < x.len → (x.data.getD k none).isSome = true → s.dram.lin a (x.addr + k) ≠ l)) :=
  ⟨0, 9, [], [], 0, sDram { Dram.init with reqs := [([0], [reqRead])], mem := [([0, 0x10009], 7)] }, nx (.dramRequestServe (0) (9) ([]) ([]) (0)) (sDram { Dram.init with reqs := [([0], [reqRead])], mem := [([0, 0x10009], 7)] }), 0, 0x10008, by refine ⟨?_, ?_, ?_⟩ <;> first | decide +kernel | rfl⟩

theorem witness_DepositAndServeWindows_3 : ∃ (a : ℕ) (page : ℕ) (reads : List BurstRead) (s : State) (t : State) (a' : ℕ) (l : ℕ), exec (.pageRetirement a page reads) s = .next t ∧ (a' ≠ a ∨ s.dram.freePage a none ≠ some (l / 4096)) :=
  ⟨0, 7, [], sDram { Dram.init with waiting := [([0], [7])] }, nx (.pageRetirement (0) (7) ([])) (sDram { Dram.init with waiting := [([0], [7])] }), 0, 0x7008, by refine ⟨?_, ?_⟩ <;> first | decide +kernel | rfl⟩

theorem witness_DepositAndServeWindows_4 : ∃ (a : ℕ) (reads : List BurstRead) (s : State) (t : State) (a' : ℕ) (l : ℕ), exec (.migrationStep a reads) s = .next t ∧ (a' ≠ a ∨ (∀ r, s.migratingRank a = some r → s.dram.freePage a (some (1 - r)) ≠ some (l / 4096))) :=
  ⟨0, [], { sAlloc with dram := { Dram.init with migrate := [([0], 1)] } }, nx (.migrationStep (0) ([])) ({ sAlloc with dram := { Dram.init with migrate := [([0], 1)] } }), 0, 0x200000, by refine ⟨?_, ?_⟩ <;> first | decide +kernel | rfl⟩

theorem witness_QuenchLatency_1 : ∃ (r : CmdRef) (p : ℕ) (regions : ℕ) (port : ℕ) (s : State), s.fresh r = true ∧ s.isOwner r.org = true ∧ p < 32 ∧ port < 4 ∧ s.portPresent port = true ∧ s.pExists p = false ∧ setBitsOf 64 regions ≠ [] ∧ ((∀ x ∈ setBitsOf 64 regions, x < s.grade.regions)) ∧ (setBitsOf 64 regions).any s.regionBusy = false ∧ s.modQuiet = false ∧ (setBitsOf 64 regions).any s.domainFailed = false :=
  ⟨cmd0, 31, 2 ^ 63 + 1, 0, sOn, by decide +kernel⟩

theorem witness_BoundaryFieldsCommitTogether_1 : ∃ (s : State) (ws : List (Fld × ℕ × ℕ × ℕ)) (p : Key → Bool) (f : Fld) (i : ℕ) (j : ℕ), s.held = [] :=
  ⟨put sOn [(.partHaltMode, 0, 0, 3)], [(.partHaltMode, 0, 0, 5), (.partHaltMode, 1, 0, 1), (.partHaltMode, 0, 0, 2 ^ 40)], (fun k => decide (k.getD 1 0 = 0) : Key → Bool), .partHaltMode, 0, 0, by decide +kernel⟩

theorem witness_OnlyExecutingPartitionsQuench_1 : ∃ (s : State) (p : ℕ) (c : ℕ) (e : ℕ × ℕ), s.executing p = false ∧ Cause.isFault c = false :=
  ⟨sPart 1, 0, 2, (3, 4), by decide +kernel⟩

theorem witness_OnlyExecutingPartitionsQuench_2 : ∃ (s : State) (p : ℕ) (c : ℕ) (e : ℕ × ℕ), s.executing p = false ∧ Cause.isFault c = true :=
  ⟨sPart 4, 0, Cause.bank, (3, 4), by decide +kernel⟩

theorem witness_OnlyExecutingPartitionsQuench_3 : ∃ (r : CmdRef) (p : ℕ) (mode : ℕ) (ack : ℕ) (cycles : ℕ) (s : State), s.admits r p = true ∧ s.role r.org ≠ Role.local_ ∧ mode < 2 ∧ ack = 0 ∧ s.loadStage p = 0 ∧ s.mode p = Mode.ready ∧ s.modMode ≠ Mod.maintenance ∧ (s.regions p).all s.regionOn = true ∧ s.sourceBad p mode = false ∧ s.faultHeld p = true :=
  ⟨cmd0, 0, 1, 0, 5, put (sPart 1) [(.partQuenchLatched, 0, 0, 2 ^ Cause.bank), (.partCmpSrcStim, 0, 0, 2), (.wlStreamBindValid, 0, 0, 1), (.wlStreamBindInEn, 0, 0, 1)], by decide +kernel⟩

theorem witness_OnlyExecutingPartitionsQuench_4 : ∃ (r : CmdRef) (p : ℕ) (ack : ℕ) (s : State), s.admits r p = true ∧ s.role r.org ≠ Role.local_ ∧ ack = 0 ∧ s.loadStage p = 0 ∧ s.mode p = Mode.inspect ∧ s.finishes p = false ∧ (s.regions p).all s.regionOn = true ∧ s.faultHeld p = true :=
  ⟨cmd0, 0, 0, put (sPart 4) [(.partQuenchLatched, 0, 0, 2 ^ Cause.bank)], by decide +kernel⟩

theorem witness_AssertedAgainExtendsNothing_1 : ∃ (s : State) (p : ℕ) (c : ℕ) (e : ℕ × ℕ), s.executing p = true ∧ bit (s.activeMask p) c = true :=
  ⟨put (sPart 2) [(.partQuenchActive, 0, 0, 2 ^ 9)], 0, 9, (3, 4), by decide +kernel⟩

theorem witness_AssertedAgainExtendsNothing_2 : ∃ (s : State) (p : ℕ) (c : ℕ) (c' : ℕ) (e : ℕ × ℕ) (latch : Bool) (t : State), s.executing p = true ∧ s.frozen p = true ∧ 1 ≤ c' ∧ c' ≤ 0xC ∧ exec (.partitionResume p) ((s.releaseCause p c).assertAt p c' e latch false) = .next t :=
  ⟨put (sPart 2) [(.partRunQuenched, 0, 0, 1), (.partQuenchActive, 0, 0, 4)], 0, 2, 0xC, (0, 4), false, nx (.partitionResume (0)) (((put (sPart 2) [(.partRunQuenched, 0, 0, 1), (.partQuenchActive, 0, 0, 4)]).releaseCause (0) (2)).assertAt (0) (0xC) ((0, 4)) (false) false), by refine ⟨?_, ?_, ?_, ?_, ?_⟩ <;> first | decide +kernel | rfl⟩

theorem witness_AssertedAgainExtendsNothing_3 : ∃ (s : State) (p : ℕ) (c : ℕ) (c' : ℕ) (e : ℕ × ℕ) (t : State), s.executing p = true ∧ s.frozen p = true ∧ 1 ≤ c' ∧ c' ≤ 0xC ∧ s.reached p ⟨c', e.1, e.2, true⟩ = true ∧ ((∀ x ∈ (s.part p).entering, s.reached p x = true)) ∧ exec (.partitionResume p) ((s.releaseCause p c).assertCause p c' e) = .next t :=
  ⟨put (sPart 2) [(.partRunQuenched, 0, 0, 1), (.partQuenchActive, 0, 0, 4)], 0, 2, 7, (0, 0), nx (.partitionResume (0)) (((put (sPart 2) [(.partRunQuenched, 0, 0, 1), (.partQuenchActive, 0, 0, 4)]).releaseCause (0) (2)).assertCause (0) (7) ((0, 0))), by refine ⟨?_, ?_, ?_, ?_, ?_, ?_, ?_⟩ <;> first | decide +kernel | rfl⟩

theorem witness_AssertedAgainExtendsNothing_5 : ∃ (s : State) (p : ℕ) (t : State), s.executing p = true ∧ s.landings p ≠ [] ∧ (s.part p).haltNow = [] ∧ exec (.freezeLands p) s = .next t :=
  ⟨withPart (sPart 2) { Part.init with entering := [⟨0xA, 0, 0, false⟩] }, 0, nx (.freezeLands (0)) (withPart (sPart 2) { Part.init with entering := [⟨0xA, 0, 0, false⟩] }), by refine ⟨?_, ?_, ?_, ?_⟩ <;> first | decide +kernel | rfl⟩

theorem witness_AssertedAgainExtendsNothing_6 : ∃ (s : State) (p : ℕ) (t : State), (s.part p).haltNow = [] ∧ exec (.partitionResume p) s = .next t :=
  ⟨put (sPart 2) [(.partRunQuenched, 0, 0, 1)], 0, nx (.partitionResume (0)) (put (sPart 2) [(.partRunQuenched, 0, 0, 1)]), by refine ⟨?_, ?_⟩ <;> first | decide +kernel | rfl⟩

theorem witness_OneModeChangeWins_1 : ∃ (s : State) (p : ℕ) (t : State), s.boundaryDue p = true ∧ s.haltIf p = true ∧ exec (.cycleBoundary p) s = .next t :=
  ⟨withPart (put (sPart 2) [(.partSchedEnd, 0, 0, 1), (.partHaltMode, 0, 0, 1)]) { Part.init with haltReqs := [⟨3, 0, 0, 7⟩] }, 0, nx (.cycleBoundary (0)) (withPart (put (sPart 2) [(.partSchedEnd, 0, 0, 1), (.partHaltMode, 0, 0, 1)]) { Part.init with haltReqs := [⟨3, 0, 0, 7⟩] }), by refine ⟨?_, ?_, ?_⟩ <;> first | decide +kernel | rfl⟩

theorem witness_OneModeChangeWins_2 : ∃ (s : State) (p : ℕ) (w : ℕ) (r : CmdRef), 1 ≤ w ∧ w ≤ 5 :=
  ⟨{ withPart (sPart 2) { Part.init with halts := [cmd0], stops := [(⟨.host 0, 1, 8⟩, false)] } with host := { HostIf.init with busy := [⟨cmd0, 0x107, [], none, 0, 2, [], none⟩, ⟨⟨.host 0, 1, 8⟩, 0x106, [], none, 0, 2, [], none⟩] } }, 0, 4, cmd0, by decide +kernel⟩

theorem witness_LowestDriverWins_1 : ∃ (ds : List Drive) (d : Drive), d ∈ ds ∧ ((∀ x ∈ ds, (x.a, x.h, x.c) = (d.a, d.h, d.c) → x ≠ d → d.driver < x.driver)) :=
  ⟨[⟨0, 3, 1, 4, true⟩, ⟨0, 3, 1, 2, false⟩, ⟨0, 3, 2, 1, true⟩], ⟨0, 3, 1, 2, false⟩, by decide +kernel⟩

theorem witness_LowestDriverWins_2 : ∃ (ds : List Drive) (a : ℕ) (h : ℕ) (c : ℕ), (∀ x ∈ ds, (x.a, x.h, x.c) ≠ (a, h, c)) :=
  ⟨[⟨0, 3, 1, 4, true⟩], 0, 3, 2, by decide +kernel⟩

theorem witness_RegisterReads_1 : ∃ (s : State) (o : Origin) (f : Fld) (i : ℕ) (j : ℕ), f.info.acc = .wo :=
  ⟨sPart 1, .host 0, .partAbortGo, 0, 0, by decide +kernel⟩

theorem witness_RegisterReads_2a : ∃ (s : State) (o : Origin) (f : Fld) (i : ℕ) (j : ℕ), f.info.acc = .rc :=
  ⟨put sOn [(.nocTagFullCount, 0, 0, 7)], .host 0, .nocTagFullCount, 0, 0, by decide +kernel⟩

theorem witness_RegisterReads_2b : ∃ (s : State) (o : Origin) (f : Fld) (i : ℕ) (j : ℕ), f.info.acc = .rc :=
  ⟨put (sLane 0 7 0) [(.wlPrbsLock, 0, 0, 1), (.wlPrbsErrCount, 0, 0, 7)], .host 0, .wlPrbsErrCount, 0, 0, by decide +kernel⟩

theorem witness_RegisterReads_3 : ∃ (s : State) (o : Origin) (f : Fld) (i : ℕ) (j : ℕ) (g : Fld) (k : ℕ) (l : ℕ), f.info.acc ≠ .rc ∧ ((prbsFlds.contains g = false ∨ prbsFlds.contains f = false ∨ s.flag .wlPrbsLock i 0 = false)) :=
  ⟨sPart 1, .host 0, .partSchedStep, 0, 0, .partSchedStep, 0, 0, by decide +kernel⟩

theorem witness_RegisterReads_4a : ∃ (s : State) (o : Origin) (p : Fld × Fld) (i : ℕ) (j : ℕ), p ∈ latchPairs :=
  ⟨sPart 1, .host 0, (.partSchedCycleLo, .partSchedCycleHi), 0, 0, by decide +kernel⟩

theorem witness_RegisterReads_5a : ∃ (s : State) (o : Origin) (p : Fld × Fld) (i : ℕ) (j : ℕ), p ∈ latchPairs :=
  ⟨sPart 1, .host 0, (.partSchedCycleLo, .partSchedCycleHi), 0, 0, by decide +kernel⟩

theorem witness_RegisterReads_6 : ∃ (s : State) (o : Origin) (f : Fld) (i : ℕ) (j : ℕ), (∀ p ∈ latchPairs, p.1 ≠ f ∧ p.2 ≠ f) :=
  ⟨sPart 1, .host 0, .partSchedStep, 0, 0, by decide +kernel⟩

theorem witness_RegisterReads_7 : ∃ (o : Origin) (o' : Origin) (x : ℕ) (y : ℕ), latchKey o x = latchKey o' y :=
  ⟨.host 3, .host 3, 8, 8, by decide +kernel⟩

theorem witness_RefusedRegisterWrites_1a : ∃ (o : Origin) (addr : ℕ) (v : BitVec 64) (s : State) (w : WordAt), s.sys.off = false ∧ addr % 4 = 0 ∧ addr < bar2Base ∧ decodeAddr addr = some w ∧ s.present w = true ∧ w.fields ≠ [] ∧ ((w.blk = .queue → (s.qPort w.inst).isSome = true)) ∧ s.mayWrite o w = false :=
  ⟨.host 1, Fld.addr .traceStopDelay 0 0, BitVec.ofNat 64 5, sOn, (decodeAddr (Fld.addr .traceStopDelay 0 0)).getD ⟨.mod, 0, 0⟩, by decide +kernel⟩

theorem witness_RefusedRegisterWrites_1b : ∃ (o : Origin) (addr : ℕ) (v : BitVec 64) (s : State) (w : WordAt), s.sys.off = false ∧ addr % 4 = 0 ∧ addr < bar2Base ∧ decodeAddr addr = some w ∧ s.present w = true ∧ w.fields ≠ [] ∧ ((w.blk = .queue → (s.qPort w.inst).isSome = true)) ∧ s.mayWrite o w = false :=
  ⟨.host 1, Fld.addr .partHaltMode 0 0, BitVec.ofNat 64 5, sPart 1, (decodeAddr (Fld.addr .partHaltMode 0 0)).getD ⟨.mod, 0, 0⟩, by decide +kernel⟩

theorem witness_RefusedRegisterWrites_2 : ∃ (s : State) (o : Origin) (w : WordAt), w.blk = .part ∨ w.blk = .cmp :=
  ⟨sPart 1, .host 0, (decodeAddr (Fld.addr .partHaltMode 0 0)).getD ⟨.mod, 0, 0⟩, by decide +kernel⟩

theorem witness_RefusedRegisterWrites_3 : ∃ (s : State) (o : Origin) (part : ℕ) (f : Fld) (i : ℕ) (j : ℕ) (n : ℕ) (v : ℕ), f.info.cls = .static ∧ s.staticOk f i j = false :=
  ⟨sPart 2, .host 0, 0, .partCmpSrcStim, 0, 0, 1, 1, by decide +kernel⟩

theorem witness_RefusedRegisterWrites_4 : ∃ (s : State) (o : Origin) (part : ℕ) (f : Fld) (i : ℕ) (j : ℕ) (n : ℕ) (v : ℕ), f.info.cls = .static ∧ s.staticOk f i j = true ∧ n < 2 ^ f.width :=
  ⟨sPart 1, .host 0, 0, .partCmpSrcStim, 0, 0, 1, 1, by decide +kernel⟩

theorem witness_RefusedRegisterWrites_5 : ∃ (s : State) (f : Fld) (i : ℕ) (j : ℕ), f.info.blk = .part ∨ f.info.blk = .cmp ∨ f.info.blk = .obs :=
  ⟨sPart 1, .partCmpSrcStim, 0, 0, by decide +kernel⟩

theorem witness_RefusedRegisterWrites_6 : ∃ (o : Origin) (addr : ℕ) (v : BitVec 64) (s : State) (w : WordAt), addr % 4 = 0 ∧ addr < bar2Base ∧ decodeAddr addr = some w ∧ s.present w = false :=
  ⟨.host 0, Fld.addr .partHaltMode 31 0, BitVec.ofNat 64 5, sOn, (decodeAddr (Fld.addr .partHaltMode 31 0)).getD ⟨.mod, 0, 0⟩, by decide +kernel⟩

theorem witness_RefusedRegisterWrites_7 : ∃ (o : Origin) (addr : ℕ) (v : BitVec 64) (s : State) (w : WordAt) (w' : WordAt), addr % 8 = 0 ∧ addr < bar2Base ∧ decodeAddr addr = some w ∧ s.present w = false ∧ decodeAddr (addr + 4) = some w' ∧ s.present w' = false :=
  ⟨.host 0, Fld.addr .partHaltMode 31 0, BitVec.ofNat 64 5, sOn, (decodeAddr (Fld.addr .partHaltMode 31 0)).getD ⟨.mod, 0, 0⟩, (decodeAddr (Fld.addr .partHaltMode 31 0 + 4)).getD ⟨.mod, 0, 0⟩, by decide +kernel⟩

theorem witness_RefusedRegisterWrites_8 : ∃ (o : Origin) (addr : ℕ) (size : ℕ) (v : BitVec 64) (s : State), s.sys.off = false ∧ accessOk addr size = false :=
  ⟨.host 0, 8, 2, BitVec.ofNat 64 5, sOn, by decide +kernel⟩

theorem witness_ForeignPartitionCommandsRefused_1 : ∃ (c : Instr) (r : CmdRef) (p : ℕ) (s : State), s.fresh r = true ∧ s.role r.org ≠ Role.local_ ∧ ((∃ m a n, c = .partRun r p m a n) ∨ (∃ f a, c = .partStop r p f a) ∨ (∃ n a, c = .partHalt r p n a) ∨ (∃ a, c = .partResume r p a) ∨ c = .partUnload r p ∨ (∃ a n e f, f < 4 ∧ c = .captureRequest r p a n e f) ∨ c = .captureRelease r p ∨ (∃ k a h x n d, a < s.grade.anvils ∧ h < 128 ∧ (k ≤ 3 → x < 1024) ∧ c = .stateRead r p k a h x n d) ∨ (∃ a o n d, a < s.grade.anvils ∧ c = .captureDramRead r p a o n d) ∨ (∃ k a h x n d f b, a < s.grade.anvils ∧ h < 128 ∧ f < 2 ∧ (k = 0 → x < 1024) ∧ c = .stateDeposit r p k a h x n d f b)) :=
  ⟨.partStop ⟨.host 1, 0, 7⟩ 0 0 0, ⟨.host 1, 0, 7⟩, 0, put (sPart 2) [(.hostBifurcCurrent, 0, 0, 2)], ⟨by decide +kernel, by decide +kernel, Or.inr (Or.inl ⟨_, _, rfl⟩)⟩⟩

theorem witness_AuditEntries_1a : ∃ (s : State) (r : CmdRef) (a : Answer) (b : Busy), s.busyOf r = some b ∧ b.ans = none :=
  ⟨{ sOn with host := busy0 0x702 }, cmd0, ⟨.ok, 0, []⟩, ⟨cmd0, 0x702, [], none, 0, 2, [], none⟩, by decide +kernel⟩

theorem witness_AuditEntries_1b : ∃ (s : State) (r : CmdRef) (a : Answer) (b : Busy), s.busyOf r = some b ∧ b.ans = none :=
  ⟨{ sOn with host := busy0 0x101 }, cmd0, ⟨.ok, 0, []⟩, ⟨cmd0, 0x101, [], none, 0, 2, [], none⟩, by decide +kernel⟩

theorem witness_AuditEntries_2 : ∃ (e : AuditEntry), e.hostId.length = 16 :=
  ⟨⟨5, 0, 2, 0, 0, 1, 0, 0xFFFF, 0x10, 0xFF, zeros 16, 1, 2⟩, by decide +kernel⟩

theorem witness_RequestRecordRoundTrip_1a : ∃ (kvs : List (PKind × ℕ)), (∀ e ∈ kvs, PKind.holds e.1 e.2 = true) :=
  ⟨[(.int 4, 7), (.int 8, 9), (.str 48, 5)], by decide +kernel⟩

theorem witness_SettingsImageRoundTrip_1 : ∃ (s : State) (gen : ℕ), ((∀ e ∈ s.host.keys, e.2.length = 97)) ∧ ((∀ e ∈ s.host.certs, e.2.length = 48)) ∧ (s.buildImage gen).length ≤ 524288 :=
  ⟨{ sOn with host := { HostIf.init with keys := [([3], zeros 97)], certs := [([1], zeros 48)] }, sys := { sOn.sys with settings := [([Fld.traceStopDelay.ctorIdx, 0, 0], some 5)] } }, 5, by decide +kernel⟩

theorem witness_FieldAddresses_1 : ∃ (f : Fld) (i : ℕ) (j : ℕ), f.exists i j = true :=
  ⟨.partSchedCycleHi, 31, 0, by decide +kernel⟩

theorem witness_EventsWaitOrAreCounted_1a : ∃ (s : State) (p : ℕ) (kind : ℕ) (status : ℕ) (detail : ℕ) (q : ℕ), s.queuesOf p QT.event = [q] :=
  ⟨put (sQueue 7) [(.queueDropCount, 5, 0, 1)], 0, 3, 4, 5, 5, by decide +kernel⟩

theorem witness_EventsWaitOrAreCounted_1b : ∃ (s : State) (p : ℕ) (kind : ℕ) (status : ℕ) (detail : ℕ) (q : ℕ), s.queuesOf p QT.event = [q] :=
  ⟨{ sQueue 7 with host := { HostIf.init with queues := [([5], { Queue.init with hold := List.replicate 128 [] })] } }, 0, 3, 4, 5, 5, by decide +kernel⟩

theorem witness_EventsWaitOrAreCounted_2 : ∃ (s : State) (p : ℕ) (kind : ℕ) (status : ℕ) (detail : ℕ), s.queuesOf p QT.event = [] :=
  ⟨sPart 2, 0, 3, 4, 5, by decide +kernel⟩

theorem witness_MailboxProtocol_1 : ∃ (n : ℕ) (m : ℕ) (rc : Bytes) (s : State), s.mboxHere n m = true ∧ s.mbState n m = 0 :=
  ⟨0, 15, recUnknown, sOn, by decide +kernel⟩

theorem witness_MailboxProtocol_2a : ∃ (n : ℕ) (m : ℕ) (rc : Bytes) (s : State), s.mboxHere n m = true ∧ s.mbState n m ≠ 0 :=
  ⟨0, 15, recUnknown, put sOn [(.mboxStateState, mbInst 0 15, 0, 3)], by decide +kernel⟩

theorem witness_MailboxProtocol_2b : ∃ (n : ℕ) (m : ℕ) (rc : Bytes) (s : State), s.mboxHere n m = true ∧ s.mbState n m ≠ 0 :=
  ⟨0, 0, recUnknown, put sOn [(.mboxStateState, mbInst 0 0, 0, 1)], by decide +kernel⟩

theorem witness_MailboxProtocol_3 : ∃ (n : ℕ) (m : ℕ) (s : State), s.mboxHere n m = true ∧ s.mbState n m = 3 :=
  ⟨0, 15, put sOn [(.mboxStateState, mbInst 0 15, 0, 3)], by decide +kernel⟩

theorem witness_MailboxProtocol_4 : ∃ (n : ℕ) (m : ℕ) (s : State), s.mboxHere n m = true ∧ s.mbState n m ≠ 3 :=
  ⟨0, 15, put sOn [(.mboxStateState, mbInst 0 15, 0, 2)], by decide +kernel⟩

theorem witness_MailboxProtocol_5 : ∃ (n : ℕ) (m : ℕ) (rc : Bytes) (s : State), s.mboxHere n m = false :=
  ⟨0, 16, recUnknown, sOn, by decide +kernel⟩

theorem witness_CountersAdvanceTogether_2 : ∃ (s : State), s.sys.off = false ∧ s.time.stepDue = false :=
  ⟨sOn, by decide +kernel⟩

theorem witness_CountersAdvanceTogether_3 : ∃ (s : State), s.flag .timeCfgFollow 0 0 = false :=
  ⟨put sOn [(.timeCfgFollow, 0, 0, 0)], by decide +kernel⟩

theorem witness_CountersAdvanceTogether_4 : ∃ (s : State) (t : State) (a : ℕ) (b : ℕ), exec .timeTick s = .next t ∧ ((∀ a, a < s.grade.anvils → ∀ b, b < s.grade.anvils → s.ctr a = s.ctr b)) ∧ a < s.grade.anvils ∧ b < s.grade.anvils :=
  ⟨sOn, nx .timeTick (sOn), 0, 7, by refine ⟨?_, ?_, ?_, ?_⟩ <;> first | decide +kernel | rfl⟩

end
end

section
/-! PROOFS. The registers: their table rows and addresses, what they read after reset, boundary fields, and reads (00_scope.md, R9 to
R15, R443). -/

namespace Sys2Proof.Machine

/-! ## Fields and their table rows -/

/-- The row of a field names the field. -/
@[simp] theorem Fld.info_fld (f : Fld) : f.info.fld = f :=
  Fld.ctorIdx_inj (fldOf_all f.ctorIdx f.ctorIdx_lt)

/-- The field of a field's number is the field. -/
@[simp] theorem fldOf_ctorIdx (f : Fld) : fldOf f.ctorIdx = f := f.info_fld

theorem Fld.info_mem (f : Fld) : f.info ∈ regTable := by
  have h : f.ctorIdx < regTable.length := by rw [regTable_length]; exact f.ctorIdx_lt
  rw [Fld.info, List.getD_eq_getElem _ _ h]
  exact List.getElem_mem h

/-! ## Registers after reset (R12) -/

/-- With nothing stored, a register reads its start-up value. -/
theorem State.reg_reset (f : Fld) (i j : Nat) : State.reset.reg f i j = State.reset.rst f i j := rfl

/-- Settles O36: nothing is stored at power-up, so every register reads its start-up value, which is the Reset column unless the
field names an identity or a record. -/
theorem resetRegisters : Obligations.ResetRegisters := by
  refine ⟨fun f i j hf => ?_, rfl, rfl, fun q => rfl, fun a l hl => ?_, fun a h hh => ?_, fun l hl => ?_, rfl, by decide +kernel, ?_⟩
  · rw [State.reg_reset]
    apply State.rst.eq_22 <;> rintro rfl <;> simp at hf
  · have hd : (3 * a + l) / 3 = a := by omega
    have hm : (3 * a + l) % 3 = l := by omega
    exact ⟨by simp only [State.reg_reset, State.rst, hd, hm], hm⟩
  · exact ⟨show (128 * a + h) / 128 = a by omega, show (128 * a + h) % 128 = h by omega⟩
  · exact if_pos hl
  · decide +kernel

/-! ## Pending values of boundary fields (R15) -/

section
variable {α : Type}

theorem Tab.mem_erase {k : Key} {e : Key × α} : ∀ {t : Tab α}, e ∈ Tab.erase t k → e ∈ t
  | (k', v) :: t, h => by
    rw [Tab.erase] at h
    split at h
    · exact List.mem_cons_of_mem _ (Tab.mem_erase h)
    · rcases List.mem_cons.1 h with rfl | h
      · exact List.mem_cons_self ..
      · exact List.mem_cons_of_mem _ (Tab.mem_erase h)

theorem Tab.mem_insert {k : Key} {v : α} {e : Key × α} : ∀ {t : Tab α}, e ∈ Tab.insert t k v → e = (k, v) ∨ e ∈ t
  | [], h => by simpa [Tab.insert] using h
  | (k', v') :: t, h => by
    rw [Tab.insert] at h
    split at h
    · simpa using h
    · rcases List.mem_cons.1 h with rfl | h
      · simp
      · rcases Tab.mem_insert h with h | h <;> simp [h]

/-- An entry of a table in which a key has been set is the new one, or one of before. -/
theorem Tab.mem_put [DecidableEq α] {d : α} {t : Tab α} {k : Key} {v : α} {e : Key × α} (h : e ∈ Tab.put d t k v) :
    e = (k, v) ∨ e ∈ t := by
  rw [Tab.put] at h
  split at h
  · exact .inr (Tab.mem_erase h)
  · exact (Tab.mem_insert h).imp_right Tab.mem_erase

/-- The entries whose key meets a test, as the list that the test filters. -/
theorem Tab.filter_eq_keep (p : Key → Bool) : ∀ t : Tab α, t.filter (fun e => p e.1) = Tab.keep p t
  | [] => rfl
  | (k, v) :: t => by rw [List.filter_cons, Tab.keep, Tab.filter_eq_keep p t]

/-- A key that the test does not keep is not listed. -/
theorem Tab.find?_keep_out {p : Key → Bool} {k : Key} (hk : p k = false) : ∀ {t : Tab α}, Tab.find? (Tab.keep p t) k = none
  | [] => rfl
  | (k', v) :: t => by
    rw [Tab.keep]
    split
    · next h =>
      have : k' ≠ k := by rintro rfl; simp [h] at hk
      rw [Tab.find?, if_neg this, Tab.find?_keep_out hk]
    · exact Tab.find?_keep_out hk

end

theorem Fld.key_eq_iff {f g : Fld} {i j i' j' : Nat} : f.key i j = g.key i' j' ↔ f = g ∧ i = i' ∧ j = j' :=
  ⟨Fld.key_inj, by rintro ⟨rfl, rfl, rfl⟩; rfl⟩

theorem State.reg_setHost (s : State) (f g : Fld) (i j v i' j' : Nat) :
    (s.setHost f i j v).reg g i' j' = if f = g ∧ i = i' ∧ j = j' then v % 2 ^ f.width else s.reg g i' j' := by
  rw [State.setHost]
  split
  · exact s.reg_setReg f g i j v i' j'
  · exact s.reg_setReg f g i j v i' j'

@[simp] theorem State.held_setHost (s : State) (f : Fld) (i j v : Nat) : (s.setHost f i j v).held = s.held := by
  rw [State.setHost]; split <;> rfl

theorem State.held_hold (s : State) (f : Fld) (i j v : Nat) :
    (s.hold f i j v).held = Tab.put none s.held (f.key i j) (some v) := rfl

/-- What waits for a key after a value has been held: that value at the field's own key. -/
theorem State.get_held_hold (s : State) (f : Fld) (i j v : Nat) (k : Key) :
    Tab.get none (s.hold f i j v).held k = if f.key i j = k then some v else Tab.get none s.held k := by
  rw [State.held_hold, Tab.get_put]

/-- What waits to be committed is a canonical table of values under the keys of fields. -/
structure HeldOk (s : State) : Prop where
  canonical : TabOk none s.held
  keys : ∀ e ∈ s.held, ∃ (f : Fld) (i j : Nat), e.1 = f.key i j

theorem HeldOk.of_nil {s : State} (h : s.held = []) : HeldOk s := by
  constructor <;> simp [h, TabOk.nil]

theorem HeldOk.hold {s : State} (h : HeldOk s) (f : Fld) (i j v : Nat) : HeldOk (s.hold f i j v) := by
  constructor <;> rw [State.held_hold]
  · exact h.canonical.put
  intro e he
  rcases Tab.mem_put he with rfl | he
  · exact ⟨f, i, j, rfl⟩
  · exact h.keys e he

/-- One pending value commits. -/
def State.commitEntry (s : State) (e : Key × Option Nat) : State :=
  match e.2 with
  | none => s
  | some v => s.setHost (fldOf (e.1.getD 0 0)) (e.1.getD 1 0) (e.1.getD 2 0) v

theorem State.commit_eq (s : State) (p : Key → Bool) :
    s.commit p = { (Tab.keep p s.held).foldl State.commitEntry s with
      held := Tab.keep (fun k => !p k) ((Tab.keep p s.held).foldl State.commitEntry s).held } := by
  rw [← Tab.filter_eq_keep]; rfl

@[simp] theorem State.held_commitEntry (s : State) (e : Key × Option Nat) : (s.commitEntry e).held = s.held := by
  rw [State.commitEntry]; split <;> simp

@[simp] theorem State.held_foldl_commitEntry (l : Tab (Option Nat)) (s : State) : (l.foldl State.commitEntry s).held = s.held := by
  induction l generalizing s with
  | nil => rfl
  | cons e l ih => simp [ih]

/-- A committed entry sets its own field and no other. -/
theorem State.reg_commitEntry (s : State) (g : Fld) (a b : Nat) (v : Option Nat) (f : Fld) (i j : Nat) :
    (s.commitEntry (g.key a b, v)).reg f i j =
      if g.key a b = f.key i j then (v.map (· % 2 ^ f.width)).getD (s.reg f i j) else s.reg f i j := by
  cases v with
  | none => simp [State.commitEntry]
  | some v =>
    have hset : s.commitEntry (g.key a b, some v) = s.setHost g a b v := by
      simp [State.commitEntry, Fld.key]
    rw [hset, State.reg_setHost]
    simp only [Fld.key_eq_iff]
    split
    · next h => obtain ⟨rfl, -, -⟩ := h; rfl
    · rfl

/-- The entries of a canonical table commit together: each field takes its own entry, and every other one stays. -/
theorem State.reg_foldl_commitEntry (f : Fld) (i j : Nat) : ∀ {l : Tab (Option Nat)} {lo : Option Key} (s : State),
    Tab.wfFrom none lo l = true → (∀ e ∈ l, ∃ (g : Fld) (a b : Nat), e.1 = g.key a b) →
    (l.foldl State.commitEntry s).reg f i j = ((Tab.get none l (f.key i j)).map (· % 2 ^ f.width)).getD (s.reg f i j)
  | [], _, _, _, _ => rfl
  | (k, v) :: l, _, s, hwf, hk => by
    obtain ⟨-, -, hl⟩ := Tab.wfFrom_cons.1 hwf
    obtain ⟨g, a, b, rfl⟩ := hk _ (List.mem_cons_self ..)
    have ih := State.reg_foldl_commitEntry f i j (s.commitEntry (g.key a b, v)) hl fun e he => hk e (List.mem_cons_of_mem _ he)
    rw [List.foldl_cons, ih, State.reg_commitEntry]
    by_cases h : g.key a b = f.key i j
    · rw [if_pos h, ← h, Tab.get_head hwf, Tab.get_below hl (Key.lt_irrefl _)]; rfl
    · rw [if_neg h, Tab.get_tail h]

/-- A field whose pending value is due takes it; one that is not due stays (R15). -/
theorem State.reg_commit {s : State} (h : HeldOk s) (p : Key → Bool) (f : Fld) (i j : Nat) :
    (s.commit p).reg f i j =
      if p (f.key i j) then ((Tab.get none s.held (f.key i j)).map (· % 2 ^ f.width)).getD (s.reg f i j) else s.reg f i j := by
  have hk : ∀ e ∈ Tab.keep p s.held, ∃ (g : Fld) (a b : Nat), e.1 = g.key a b := by
    rw [← Tab.filter_eq_keep]
    exact fun e he => h.keys e (List.mem_filter.1 he).1
  have hr := State.reg_foldl_commitEntry f i j s h.canonical.keep hk
  rw [State.commit_eq]
  refine Eq.trans hr ?_
  split
  · next hp => rw [Tab.get_keep hp]
  · next hp => rw [Tab.get, Tab.find?_keep_out (by simpa using hp)]; rfl

/-- What is not due goes on waiting (R15). -/
theorem State.get_held_commit (s : State) (p : Key → Bool) (k : Key) :
    Tab.get none (s.commit p).held k = if p k then none else Tab.get none s.held k := by
  rw [State.commit_eq]
  simp only [State.held_foldl_commitEntry]
  split
  · next hp => rw [Tab.get, Tab.find?_keep_out (by simp [hp])]; rfl
  · next hp => exact Tab.get_keep (by simpa using hp)

/-- Writes of boundary fields, one after another, each of them held: field, block number, index and value. -/
def State.holdAll (s : State) (ws : List (Fld × Nat × Nat × Nat)) : State :=
  ws.foldl (fun s w => s.hold w.1 w.2.1 w.2.2.1 w.2.2.2) s

/-- The last write of a field in a list of writes. -/
def lastWrite (ws : List (Fld × Nat × Nat × Nat)) (f : Fld) (i j : Nat) : Option (Fld × Nat × Nat × Nat) :=
  (ws.filter fun w => decide (w.1 = f ∧ w.2.1 = i ∧ w.2.2.1 = j)).getLast?

theorem lastWrite_concat (ws : List (Fld × Nat × Nat × Nat)) (w : Fld × Nat × Nat × Nat) (f : Fld) (i j : Nat) :
    lastWrite (ws ++ [w]) f i j = if w.1.key w.2.1 w.2.2.1 = f.key i j then some w else lastWrite ws f i j := by
  simp only [lastWrite, List.filter_append, Fld.key_eq_iff]
  split
  · next h => simp [h]
  · next h => simp [h]

/-- Held writes leave the values in effect; what waits for a field is the value of its last write. -/
theorem State.holdAll_spec (s : State) (hs : s.held = []) (ws : List (Fld × Nat × Nat × Nat)) :
    HeldOk (s.holdAll ws) ∧ ∀ f i j, (s.holdAll ws).reg f i j = s.reg f i j ∧
      Tab.get none (s.holdAll ws).held (f.key i j) = (lastWrite ws f i j).map fun w => w.2.2.2 := by
  induction ws using List.reverseRecOn with
  | nil => exact ⟨.of_nil hs, fun f i j => ⟨rfl, by simp [State.holdAll, hs, lastWrite]⟩⟩
  | append_singleton ws w ih =>
    obtain ⟨hok, hval⟩ := ih
    have hlast : s.holdAll (ws ++ [w]) = (s.holdAll ws).hold w.1 w.2.1 w.2.2.1 w.2.2.2 := by simp [State.holdAll]
    rw [hlast]
    refine ⟨hok.hold .., fun f i j => ⟨(hval f i j).1, ?_⟩⟩
    rw [State.get_held_hold, lastWrite_concat, (hval f i j).2]
    split <;> rfl

/-- Settles O45: a held write leaves the registers; the table of pending values has one entry for each field, that of its last
write; a commit folds the entries that are due into their own registers. -/
theorem boundaryFieldsCommitTogether : Obligations.BoundaryFieldsCommitTogether := by
  intro s ws p f i j hs t
  extract_lets last
  obtain ⟨hok, hval⟩ : HeldOk t ∧ _ := s.holdAll_spec hs ws
  have hreg : t.reg f i j = s.reg f i j := (hval f i j).1
  have hheld : Tab.get none t.held (f.key i j) = last.map fun w => w.2.2.2 := (hval f i j).2
  clear_value t last
  refine ⟨hreg, fun w hw => ⟨?_, ?_⟩, fun hw => ⟨?_, ?_⟩⟩
  · simp [State.pendingOr, hheld, hw]
  · split
    · next hp => simp [State.reg_commit hok, hp, hheld, hw]
    · next hp => simp [State.reg_commit hok, State.pendingOr, State.get_held_commit, hp, hheld, hw, hreg]
  · simp [State.reg_commit hok, hheld, hw, hreg]
  · simp [State.reg_commit hok, State.pendingOr, State.get_held_commit, hheld, hw, hreg]

/-! ## Addresses of fields (R9, R10, R301) -/

/-- The bytes that one block of a kind takes, from its base address on (the base-address tables of the chapters). -/
def Blk.span : Blk → Nat
  | .mod => 0x80000
  | .trace => 0x10000
  | .time => 0x10000
  | .sp => 0x10000
  | .pwr => 0x10000
  | .svc => 0x40000
  | .hostif => 0xF00000
  | .queue => 0x40
  | .cmp => 0x40000
  | .link => 0x100
  | .wlLane => 0x100
  | .wlBundle => 0x100
  | .wlStream => 0x100
  | .part | .obs | .ddr | .noc | .hearth => 0x10000
  | .mbox => 0

/-- A word of a block is what its address names. -/
theorem decodeAddr_blockBase {b : Blk} {i off : Nat} (hi : i < b.instances) (ho : off < b.span) (h4 : off % 4 = 0) :
    decodeAddr (blockBase b i + off) = some ⟨b, i, off⟩ := by
  have hy : (blockBase b i + off) / 4 * 4 = blockBase b i + off := by
    have : blockBase b i % 4 = 0 := by cases b <;> simp only [blockBase] <;> omega
    omega
  generalize hb : blockBase b i + off = y at hy
  simp only [decodeAddr, hy]
  clear hy h4
  cases b <;> simp only [Blk.instances, Blk.span, blockBase] at hb hi ho
  case mbox => omega
  all_goals
    simp (disch := omega) only [↓if_neg]
    simp (disch := omega) only [↓if_pos]
    simp only [Option.some.injEq, WordAt.mk.injEq, true_and]
    omega

/-- The offset of the copy `j1`, `j2` of a field in its block. -/
def FieldInfo.offset (x : FieldInfo) (j1 j2 : Nat) : Nat := x.base + (x.stride1 * j1 + x.stride2 * j2)

/-- The copies of a field are words of its block, and no two of them are one: each count is at least 1, copies that are more than one
have a stride, and a group of copies ends before the next begins. -/
def FieldInfo.laidOut (x : FieldInfo) : Bool :=
  decide (x.base % 4 = 0 ∧ x.stride1 % 4 = 0 ∧ x.stride2 % 4 = 0 ∧ 0 < x.count1 ∧ 0 < x.count2 ∧
    (x.stride1 = 0 → x.count1 = 1) ∧ (x.stride2 = 0 → x.count2 = 1) ∧
    (x.count1 = 1 ∨ x.stride2 * (x.count2 - 1) < x.stride1) ∧
    (x.blk = .mbox ∨ x.offset (x.count1 - 1) (x.count2 - 1) < x.blk.span))

theorem FieldInfo.laidOut_of_mem {x : FieldInfo} (h : x ∈ regTable) : x.laidOut = true := by
  have all : regTable.all FieldInfo.laidOut = true := by decide +kernel
  exact List.all_eq_true.1 all x h

/-- A row of the table is the row of its field. -/
theorem FieldInfo.info_of_mem {x : FieldInfo} (h : x ∈ regTable) : x.fld.info = x := by
  obtain ⟨n, hn, rfl⟩ := List.getElem_of_mem h
  have hf : (fldOf n).ctorIdx = n := fldOf_all n (by rwa [regTable_length] at hn)
  rw [fldOf, List.getD_eq_getElem _ _ hn] at hf
  rw [Fld.info, hf, List.getD_eq_getElem _ _ hn]

/-- The copy, of `count` copies at a stride, that `r` bytes lead to. -/
def copyAt (r stride count : Nat) : Nat := if stride = 0 then 0 else min (r / stride) (count - 1)

theorem copyAt_mul_le (r stride count : Nat) : copyAt r stride count * stride ≤ r := by
  rw [copyAt]
  split
  · simp
  · exact (Nat.mul_le_mul_right _ (min_le_left _ _)).trans (Nat.div_mul_le_self _ _)

theorem copyAt_lt {r stride count : Nat} (h : 0 < count) : copyAt r stride count < count := by
  rw [copyAt]
  split <;> omega

/-- The start of a copy, and what lies before the next, lead to the copy. -/
theorem copyAt_mul_add {stride count j rest : Nat} (hj : j < count) (h0 : stride = 0 → count = 1) (h : count = 1 ∨ rest < stride) :
    copyAt (stride * j + rest) stride count = j := by
  rw [copyAt]
  by_cases hc : count = 1
  · simp [hc]; omega
  · have hs : stride ≠ 0 := fun c => hc (h0 c)
    rw [if_neg hs, Nat.mul_add_div (by omega), Nat.div_eq_of_lt (by omega)]
    omega

theorem FieldInfo.at?_eq (x : FieldInfo) (off : Nat) :
    x.at? off =
      if off < x.base then Option.none
      else if off - x.base - copyAt (off - x.base) x.stride1 x.count1 * x.stride1 =
          copyAt (off - x.base - copyAt (off - x.base) x.stride1 x.count1 * x.stride1) x.stride2 x.count2 * x.stride2 then
        some (copyAt (off - x.base) x.stride1 x.count1,
          copyAt (off - x.base - copyAt (off - x.base) x.stride1 x.count1 * x.stride1) x.stride2 x.count2)
      else Option.none := rfl

/-- A copy of a field lies at its offset. -/
theorem FieldInfo.at?_offset {x : FieldInfo} (h : x.laidOut = true) {j1 j2 : Nat} (h1 : j1 < x.count1) (h2 : j2 < x.count2) :
    x.at? (x.offset j1 j2) = some (j1, j2) := by
  obtain ⟨-, -, -, -, -, hs1, hs2, hgap, -⟩ := of_decide_eq_true h
  have hj2 : x.stride2 * j2 ≤ x.stride2 * (x.count2 - 1) := Nat.mul_le_mul_left _ (by omega)
  have hr : x.offset j1 j2 - x.base = x.stride1 * j1 + x.stride2 * j2 := by rw [FieldInfo.offset]; omega
  have hb : ¬ x.offset j1 j2 < x.base := by rw [FieldInfo.offset]; omega
  have e1 : copyAt (x.stride1 * j1 + x.stride2 * j2) x.stride1 x.count1 = j1 := copyAt_mul_add h1 hs1 (by omega)
  have hrem : x.stride1 * j1 + x.stride2 * j2 - j1 * x.stride1 = x.stride2 * j2 := by rw [Nat.mul_comm j1]; omega
  have e2 : copyAt (x.stride2 * j2) x.stride2 x.count2 = j2 := copyAt_mul_add (rest := 0) h2 hs2 (by omega)
  rw [FieldInfo.at?_eq, if_neg hb, hr, e1, hrem, e2, if_pos (Nat.mul_comm ..)]

/-- A field that lies at an offset has a copy there. -/
theorem FieldInfo.offset_of_at? {x : FieldInfo} (h : x.laidOut = true) {off j1 j2 : Nat} (ha : x.at? off = some (j1, j2)) :
    x.offset j1 j2 = off ∧ j2 < x.count2 := by
  obtain ⟨-, -, -, -, hc2, -⟩ := of_decide_eq_true h
  rw [FieldInfo.at?_eq] at ha
  split at ha
  · cases ha
  next hb =>
  split at ha
  · next hrem =>
    obtain ⟨rfl, rfl⟩ := Prod.mk.inj (Option.some.inj ha)
    have hle := copyAt_mul_le (off - x.base) x.stride1 x.count1
    refine ⟨?_, copyAt_lt hc2⟩
    rw [FieldInfo.offset, Nat.mul_comm x.stride1, Nat.mul_comm x.stride2]
    omega
  · cases ha

/-- The address of a field of the host block that each host port has (R305). -/
theorem Fld.addr_port {f : Fld} (h : f.info.blk = .hostif ∧ 1 < f.info.count1) (i j : Nat) :
    f.addr i j = blockBase .hostif 0 + f.info.offset i j := by
  simp only [Fld.addr, FieldInfo.offset, h, and_self, if_true]; omega

/-- The address of any other field: the base address of its block, and the offset of its copy. -/
theorem Fld.addr_copy {f : Fld} (h : ¬(f.info.blk = .hostif ∧ 1 < f.info.count1)) (i j : Nat) :
    f.addr i j = blockBase f.info.blk i + f.info.offset (j / f.info.count2) (j % f.info.count2) := by
  have hi : blockBase f.info.blk (if f.info.blk = .hostif then 0 else i) = blockBase f.info.blk i := by
    split
    · next hb => rw [hb]; rfl
    · rfl
  simp only [Fld.addr, FieldInfo.offset, h, if_false, hi]; omega

/-- The fields of a word are those with a copy at its offset. -/
theorem WordAt.mem_fields {w : WordAt} {e : FieldInfo × Nat × Nat} :
    e ∈ w.fields ↔ e.1 ∈ regTable ∧ e.1.blk = w.blk ∧ ∃ j1 j2, e.1.at? w.off = some (j1, j2) ∧
      e.2 = if w.blk = .hostif ∧ 1 < e.1.count1 then (j1, j2) else (w.inst, j1 * e.1.count2 + j2) := by
  obtain ⟨x, i, j⟩ := e
  simp only [WordAt.fields, List.mem_filterMap]
  constructor
  · rintro ⟨y, hy, he⟩
    split at he
    · next hb =>
      split at he
      · next j1 j2 ha =>
        split at he
        · next hc => cases he; exact ⟨hy, hb, i, j, ha, (if_pos hc).symm⟩
        · next hc => cases he; exact ⟨hy, hb, j1, j2, ha, (if_neg hc).symm⟩
      · cases he
    · cases he
  · rintro ⟨hx, hb, j1, j2, ha, he⟩
    refine ⟨x, hx, ?_⟩
    rw [if_pos hb, ha]
    dsimp only at he ⊢
    split at he <;> simp_all

/-- A field of a word has the word's address. -/
theorem WordAt.addr_of_mem_fields {w : WordAt} {e : FieldInfo × Nat × Nat} (h : e ∈ w.fields) :
    Fld.addr e.1.fld e.2.1 e.2.2 = blockBase w.blk w.inst + w.off := by
  obtain ⟨hx, hb, j1, j2, ha, he⟩ := WordAt.mem_fields.1 h
  have hinfo := FieldInfo.info_of_mem hx
  obtain ⟨hoff, hj2⟩ := FieldInfo.offset_of_at? (FieldInfo.laidOut_of_mem hx) ha
  rw [he]
  split
  · next hc =>
    rw [Fld.addr_port (by rw [hinfo, hb]; exact hc), hinfo, hoff, hc.1]; rfl
  · next hc =>
    have hd : (j1 * e.1.count2 + j2) / e.1.count2 = j1 := by
      rw [Nat.mul_comm, Nat.mul_add_div (by omega), Nat.div_eq_of_lt hj2, Nat.add_zero]
    have hm : (j1 * e.1.count2 + j2) % e.1.count2 = j2 := by
      rw [Nat.mul_comm, Nat.mul_add_mod, Nat.mod_eq_of_lt hj2]
    rw [Fld.addr_copy (by rw [hinfo, hb]; exact hc), hinfo, hd, hm, hoff, hb]

/-- Every copy of a field lies within its block, on a word boundary. -/
theorem FieldInfo.offset_within {x : FieldInfo} (h : x.laidOut = true) (hb : x.blk ≠ .mbox) {j1 j2 : Nat} (h1 : j1 < x.count1)
    (h2 : j2 < x.count2) : x.offset j1 j2 < x.blk.span ∧ x.offset j1 j2 % 4 = 0 := by
  obtain ⟨hbase, hs1, hs2, -, -, -, -, -, hend⟩ := of_decide_eq_true h
  have m1 : x.stride1 * j1 ≤ x.stride1 * (x.count1 - 1) := Nat.mul_le_mul_left _ (by omega)
  have m2 : x.stride2 * j2 ≤ x.stride2 * (x.count2 - 1) := Nat.mul_le_mul_left _ (by omega)
  have d1 : x.stride1 * j1 % 4 = 0 := by rw [Nat.mul_mod, hs1]; simp
  have d2 : x.stride2 * j2 % 4 = 0 := by rw [Nat.mul_mod, hs2]; simp
  simp only [FieldInfo.offset] at hend ⊢
  exact ⟨by rcases hend with c | c; exacts [absurd c hb, by omega], by omega⟩

/-- The word of a field: its address decodes to its block, and the field is one of the word's. -/
theorem Fld.exists_word {f : Fld} {i j : Nat} (h : f.exists i j = true) :
    ∃ w, decodeAddr (f.addr i j) = some w ∧ w.blk = f.info.blk ∧ (f.info, i, j) ∈ w.fields := by
  have hmem := f.info_mem
  have hlaid := FieldInfo.laidOut_of_mem hmem
  simp only [Fld.exists] at h
  split at h
  · cases h
  next hmb =>
  split at h
  · next hc =>
    obtain ⟨h1, h2⟩ : i < f.info.count1 ∧ j < f.info.count2 := by simpa using h
    obtain ⟨hlt, h4⟩ := FieldInfo.offset_within hlaid hmb h1 h2
    rw [hc.1] at hlt
    refine ⟨⟨.hostif, 0, f.info.offset i j⟩, ?_, hc.1.symm, ?_⟩
    · rw [Fld.addr_port hc, decodeAddr_blockBase (by decide) hlt h4]
    · exact WordAt.mem_fields.2 ⟨hmem, hc.1, i, j, FieldInfo.at?_offset hlaid h1 h2, (if_pos ⟨rfl, hc.2⟩).symm⟩
  · next hc =>
    obtain ⟨hi, hj⟩ : i < f.info.blk.instances ∧ j < f.info.count1 * f.info.count2 := by simpa using h
    have hc2 : 0 < f.info.count2 := Nat.pos_of_ne_zero fun c => by simp [c] at hj
    have h1 : j / f.info.count2 < f.info.count1 := Nat.div_lt_of_lt_mul (by rwa [Nat.mul_comm])
    have h2 : j % f.info.count2 < f.info.count2 := Nat.mod_lt _ hc2
    obtain ⟨hlt, h4⟩ := FieldInfo.offset_within hlaid hmb h1 h2
    refine ⟨⟨f.info.blk, i, f.info.offset (j / f.info.count2) (j % f.info.count2)⟩, ?_, rfl, ?_⟩
    · rw [Fld.addr_copy hc, decodeAddr_blockBase hi hlt h4]
    · refine WordAt.mem_fields.2 ⟨hmem, rfl, _, _, FieldInfo.at?_offset hlaid h1 h2, ?_⟩
      rw [if_neg hc, Nat.div_add_mod']

/-- Settles O56: the copy of a field lies at its offset in its block, which its address decodes to, and what lies at that offset of
the word has that address. -/
theorem fieldAddresses : Obligations.FieldAddresses := by
  intro f i j h
  obtain ⟨w, hw, hb, hm⟩ := Fld.exists_word h
  have haddr : f.addr i j = blockBase w.blk w.inst + w.off := by simpa using WordAt.addr_of_mem_fields hm
  exact ⟨w, hw, haddr.symm, hb, hm, fun e he => (WordAt.addr_of_mem_fields he).trans haddr.symm⟩

/-! ## Reads of a field (R10, R443) -/

section
variable (s : State) (o : Origin) (f : Fld) (i j : Nat)

/-- A read of a field changes the counts of a PRBS checker alone, and takes free values. -/
theorem State.touches_readField (x : FieldInfo) : Touches (among prbsFlds) [.free] s (s.readField x i j).2 :=
  (Kept2.st (kept_readField ⟨by decide +kernel, by decide +kernel⟩ Kept.refl) :
    Kept ⟨fldBits prbsFlds, pieceBits [.free]⟩ s (s.readField x i j).2).touches_among

@[simp] theorem State.latches_readField (x : FieldInfo) : (s.readField x i j).2.latches = s.latches :=
  (s.touches_readField i j x).2 .latches (by decide)

/-- Outside a locked PRBS checker a read brings no counts up to date. -/
theorem State.not_prbsRead (h : prbsFlds.contains f = false ∨ s.flag .wlPrbsLock i 0 = false) :
    ¬((f.info.fld = .wlPrbsErrCount ∨ f.info.fld = .wlPrbsBitsLo ∨ f.info.fld = .wlPrbsBitsHi) ∧ s.flag .wlPrbsLock i 0 = true) := by
  rw [Fld.info_fld]
  rintro ⟨hf, hl⟩
  rcases h with h | h
  · rcases hf with rfl | rfl | rfl <;> cases h
  · rw [h] at hl; cases hl

/-- The read counts on only in a locked PRBS checker; any other leaves every register. -/
theorem State.reg_readField {g : Fld} {k l : Nat}
    (h : prbsFlds.contains g = false ∨ prbsFlds.contains f = false ∨ s.flag .wlPrbsLock i 0 = false) :
    (s.readField f.info i j).2.reg g k l = s.reg g k l := by
  rcases h with h | h
  · exact (s.touches_readField i j f.info).1 g k l h
  · rw [State.readField, if_neg (s.not_prbsRead f i h)]
    split
    · rfl
    · split <;> rfl

/-- A field that does not measure, outside a locked PRBS checker, is read without effect. -/
theorem State.readField_state (hm : f.measured = false) (h : prbsFlds.contains f = false ∨ s.flag .wlPrbsLock i 0 = false) :
    (s.readField f.info i j).2 = s := by
  rw [State.readField, if_neg (s.not_prbsRead f i h)]
  split
  · rfl
  · rw [Fld.info_fld, hm, if_neg fun c => Bool.false_ne_true c.1]

theorem State.readField_wo (h : f.info.acc = .wo) : s.readField f.info i j = (0, s) := by
  rw [State.readField, if_pos (.inr h)]

/-- The HI word that an origin has latched for a field, if the field is a HI word (R443). -/
def State.latched : Option Nat :=
  (latchPairs.find? fun p => decide (p.2 = f)).bind fun _ => Tab.get none s.latches (latchKey o (f.addr i j))

/-- The latching of the HI word by a read of a field, if the field is a LO word (R443). -/
def State.latchHi : State :=
  match latchPairs.find? fun p => decide (p.1 = f) with
  | some p => { s with latches := Tab.put none s.latches (latchKey o (p.2.addr i j)) (some (s.view p.2 i j)) }
  | none => s

/-- A HI word that has been latched: the read returns the stored value and spends the latch. -/
theorem State.takeField_of_latched {v : Nat} (h : s.latched o f i j = some v) :
    s.takeField o (f.info, i, j) = (v, { s with latches := Tab.put none s.latches (latchKey o (f.addr i j)) none }) := by
  simp only [State.latched] at h
  simp only [State.takeField, Fld.info_fld, h]

/-- Any other read: the field's value; a LO word then latches its HI word, and an RC field is cleared. -/
theorem State.takeField_of_live (h : s.latched o f i j = none) :
    s.takeField o (f.info, i, j) = ((s.readField f.info i j).1,
      if f.info.acc = .rc then ((s.readField f.info i j).2.latchHi o f i j).setReg f i j 0
      else (s.readField f.info i j).2.latchHi o f i j) := by
  simp only [State.latched] at h
  simp only [State.takeField, Fld.info_fld, h] <;> rfl

theorem State.latched_of_not_hi (h : ∀ p ∈ latchPairs, p.2 ≠ f) : s.latched o f i j = none := by
  rw [State.latched, List.find?_eq_none.2 fun p hp => by simpa using h p hp]; rfl

@[simp] theorem State.reg_latchHi (g : Fld) (k l : Nat) : (s.latchHi o f i j).reg g k l = s.reg g k l := by
  rw [State.latchHi]; split <;> rfl

theorem State.latchHi_of_not_lo (h : ∀ p ∈ latchPairs, p.1 ≠ f) : s.latchHi o f i j = s := by
  rw [State.latchHi, List.find?_eq_none.2 fun p hp => by simpa using h p hp]

end

/-- An RC field is no word of a pair. -/
theorem latchPairs_not_rc {p : Fld × Fld} (h : p ∈ latchPairs) : p.1.info.acc ≠ .rc ∧ p.2.info.acc ≠ .rc := by
  revert p; decide +kernel

/-- A WO field is no HI word. -/
theorem latchPairs_not_wo {p : Fld × Fld} (h : p ∈ latchPairs) : p.2.info.acc ≠ .wo := by
  revert p; decide +kernel

/-- A LO word is none of the HI words, and the LO word of one pair alone; a HI word, of one pair alone, is no LO word. -/
theorem latchPairs_find {p : Fld × Fld} (h : p ∈ latchPairs) :
    latchPairs.find? (fun q => decide (q.1 = p.1)) = some p ∧ latchPairs.find? (fun q => decide (q.2 = p.1)) = none ∧
    latchPairs.find? (fun q => decide (q.2 = p.2)) = some p ∧ latchPairs.find? (fun q => decide (q.1 = p.2)) = none ∧
    p.1.measured = false := by
  revert p; decide +kernel

/-- The latches are no part of the account of stretch (R160). -/
theorem reg_acct_latches (s : State) (l : Tab (Option Nat)) (i : Nat) (f : Fld) (k j : Nat) :
    (State.acct { s with latches := l } i).reg f k j = (s.acct i).reg f k j := by
  have hf : ({ s with latches := l } : State).frozen i = s.frozen i := rfl
  rw [State.acct, State.acct, hf]
  split <;> rfl

/-- The latches are no part of what a HI word reads as. -/
theorem view_latches (s : State) (l : Tab (Option Nat)) {p : Fld × Fld} (h : p ∈ latchPairs) (i j : Nat) :
    ({ s with latches := l } : State).view p.2 i j = s.view p.2 i j := by
  simp only [latchPairs, List.mem_cons, List.not_mem_nil, or_false] at h
  rcases h with rfl | rfl | rfl | rfl | rfl | rfl | rfl | rfl | rfl | rfl | rfl | rfl
  case inr.inr.inr.inl => exact reg_acct_latches ..
  case inr.inr.inr.inr.inl => exact reg_acct_latches ..
  all_goals rfl

theorem originKey_inj {o o' : Origin} (h : originKey o = originKey o') : o = o' := by
  cases o <;> cases o' <;> simp_all [originKey]

theorem latchKey_inj {o o' : Origin} {x y : Nat} (h : latchKey o x = latchKey o' y) : o = o' ∧ x = y := by
  obtain ⟨ho, hx⟩ := List.append_inj' h rfl
  exact ⟨originKey_inj ho, by simpa using hx⟩

section
variable (s : State) (o : Origin) {p : Fld × Fld} (hp : p ∈ latchPairs) (i j : Nat)
include hp

/-- A read of a LO word latches its HI word as it then reads (R443). -/
theorem State.takeField_lo :
    (s.takeField o (p.1.info, i, j)).2 = { (s.readField p.1.info i j).2 with
      latches := Tab.put none s.latches (latchKey o (p.2.addr i j)) (some ((s.readField p.1.info i j).2.view p.2 i j)) } := by
  obtain ⟨hlo, hnohi, -⟩ := latchPairs_find hp
  rw [State.takeField_of_live _ _ _ _ _ (by rw [State.latched, hnohi]; rfl), if_neg (latchPairs_not_rc hp).1]
  simp only [State.latchHi, hlo, State.latches_readField]

/-- A read of a HI word returns what is latched, else the live word, and leaves no latch (R443). -/
theorem State.takeField_hi :
    (s.takeField o (p.2.info, i, j)).1 =
      (Tab.get none s.latches (latchKey o (p.2.addr i j))).getD (s.readField p.2.info i j).1 ∧
    ∀ k, Tab.get none (s.takeField o (p.2.info, i, j)).2.latches k =
      if latchKey o (p.2.addr i j) = k then none else Tab.get none s.latches k := by
  obtain ⟨-, -, hhi, hnolo, -⟩ := latchPairs_find hp
  have hl : s.latched o p.2 i j = Tab.get none s.latches (latchKey o (p.2.addr i j)) := by rw [State.latched, hhi]; rfl
  cases hv : Tab.get none s.latches (latchKey o (p.2.addr i j)) with
  | some v =>
    rw [State.takeField_of_latched s o p.2 i j (hl.trans hv)]
    exact ⟨rfl, fun k => by simp only [Tab.get_put]⟩
  | none =>
    rw [State.takeField_of_live s o p.2 i j (hl.trans hv), if_neg (latchPairs_not_rc hp).2]
    simp only [State.latchHi, hnolo, State.latches_readField]
    refine ⟨rfl, fun k => ?_⟩
    split
    · next hk => rw [← hk, hv]
    · rfl

end

/-- Settles O50: a read is the spending of a latch, or the read of the live field with the latching of the HI word and the clearing of
an RC field; the pairs are told apart by their words. -/
theorem registerReads : Obligations.RegisterReads := by
  have notHi : ∀ f : Fld, f.info.acc = .wo ∨ f.info.acc = .rc → ∀ p ∈ latchPairs, p.2 ≠ f := by
    rintro f hf p hp rfl
    rcases hf with hf | hf
    exacts [latchPairs_not_wo hp hf, (latchPairs_not_rc hp).2 hf]
  refine ⟨fun s o f i j hf => ?_, fun s o f i j hf => ?_, fun s o f i j g k l hf hg => ?_, fun s o p i j hp => ?_,
    fun s o p i j hp => ?_, fun s o f i j hf => ?_, fun o o' x y h => latchKey_inj h⟩
  · rw [s.takeField_of_live o f i j (s.latched_of_not_hi o f i j (notHi f (.inl hf))), s.readField_wo f i j hf]
  · rw [s.takeField_of_live o f i j (s.latched_of_not_hi o f i j (notHi f (.inr hf))), if_pos hf]
    refine ⟨rfl, by simp, fun g k l hne hg => ?_⟩
    rw [State.reg_setReg_other, State.reg_latchHi, s.reg_readField f i j hg]
    simp only [ne_eq, Prod.mk.injEq] at hne
    tauto
  · cases hl : s.latched o f i j with
    | some v => rw [s.takeField_of_latched o f i j hl]; rfl
    | none => rw [s.takeField_of_live o f i j hl, if_neg hf, State.reg_latchHi, s.reg_readField f i j hg]
  · obtain ⟨-, -, -, -, hm⟩ := latchPairs_find hp
    rw [s.takeField_lo o hp i j]
    refine ⟨?_, fun h => ?_, fun k hk => by dsimp only; exact Tab.get_put_other hk.symm⟩
    · simp only [Tab.get_put_self]; exact congrArg some (view_latches _ _ hp i j).symm
    · rw [view_latches _ _ hp, s.readField_state p.1 i j hm h]
  · obtain ⟨hval, hlat⟩ := s.takeField_hi o hp i j
    exact ⟨hval, by rw [hlat, if_pos rfl], fun k hk => by rw [hlat, if_neg hk.symm]⟩
  · have hlive := s.latched_of_not_hi o f i j fun p hp => (hf p hp).2
    rw [s.takeField_of_live o f i j hlive, State.latchHi_of_not_lo _ _ _ _ _ fun p hp => (hf p hp).1]
    split <;> simp

end Sys2Proof.Machine
end

section
/-! PROOFS. Register writes over the host interface (R10, R301): a REGISTER_WRITE answers with the state of the write, and a bit of
TRACE.SRC_EN that names no source stays 0. -/

namespace Sys2Proof.Machine

/-- What a REGISTER_WRITE answers with is the state of the register write. -/
theorem answers_registerWrite {o : Origin} {addr size : Nat} {v : BitVec 64} {s : State} {P : State → Prop} :
    Answers (.registerWrite o addr size v) s P ↔ P (s.registerWrite o addr size v.toNat) :=
  ⟨fun ⟨_, ht, hP⟩ => Host.Outcome.next.inj ht ▸ hP, fun hP => ⟨_, rfl, hP⟩⟩

/-- Source 9 is none that a grade has (R233): its bit of TRACE.SRC_EN ignores a write (R252). -/
theorem traceSrcEn_write_absent :
    (State.reset.registerWrite .uart (Fld.addr .traceSrcEnLo 0 0) 8 (0x200#64).toNat).reg .traceSrcEnLo 0 0 = 0 := by
  decide +kernel

/-- Refutes O16: local service writes the bit of trace source 9, which no grade has, to TRACE.SRC_EN of the module at power-up. The bit
ignores the write (R252), so the field reads 0, where the statement has it take every bit of the value written. -/
theorem not_hostInterfaceCompletes : ¬ Obligations.HostInterfaceCompletes := by
  rintro ⟨-, -, -, -, -, -, -, -, -, -, -, -, -, -, -, -, -, hsrc, -⟩
  obtain ⟨hlo, -⟩ := answers_registerWrite.1 (hsrc .uart 0x200#64 State.reset (by decide +kernel) (by decide +kernel))
  rw [traceSrcEn_write_absent] at hlo
  exact absurd hlo (by decide)

end Sys2Proof.Machine
end

section
/-! PROOFS. The rows of power and cooling (15_power_and_energy.md, R27, R161, R388 to R404): what the operations they share leave of
the registers, the power block and the module part, then each row, then the statement that they complete. -/

-- The checks of register spans run one after another: run at once, each holds a thread with a stack of its own.
set_option Elab.async false

namespace Sys2Proof.Machine

/-! ## Registers that are set -/

theorem Fld.width_pos (f : Fld) : 0 < f.width := by
  simpa using Fld.all_of (P := fun f => decide (0 < f.width)) (by decide +kernel) f

section
variable (s : State)

/-- A field that is set to a value of its width reads as the value. -/
theorem State.reg_setReg_of_lt {f : Fld} {v : Nat} (h : v < 2 ^ f.width) (i j : Nat) : (s.setReg f i j v).reg f i j = v := by
  rw [State.reg_setReg_self, Nat.mod_eq_of_lt h]

@[simp] theorem State.flag_setReg_one (f : Fld) (i j : Nat) : (s.setReg f i j 1).flag f i j = true := by
  rw [State.flag, s.reg_setReg_of_lt (Nat.one_lt_two_pow f.width_pos.ne')]; rfl

@[simp] theorem State.flag_setReg_zero (f : Fld) (i j : Nat) : (s.setReg f i j 0).flag f i j = false := by
  rw [State.flag, s.reg_setReg_of_lt (Nat.two_pow_pos _)]; rfl

@[simp] theorem State.flag_setFlag_self (f : Fld) (i j : Nat) (b : Bool) : (s.setFlag f i j b).flag f i j = b := by
  cases b
  exacts [s.flag_setReg_zero f i j, s.flag_setReg_one f i j]

/-- A flag reads the same where its field does. -/
theorem State.flag_congr {t : State} {f : Fld} {i j : Nat} (h : t.reg f i j = s.reg f i j) : t.flag f i j = s.flag f i j := by
  rw [State.flag, State.flag, h]

@[simp] theorem State.reg_modPwr (g : Power → Power) (f : Fld) (i j : Nat) : (s.modPwr g).reg f i j = s.reg f i j := rfl

@[simp] theorem State.reg_setSetting_self (f : Fld) (i j v : Nat) : (s.setSetting f i j v).reg f i j = v % 2 ^ f.width :=
  s.reg_setReg_self f i j v

/-! ## What the shared operations leave -/

/-- A frame of listed registers: any other reads as before. -/
theorem Touches.reg {fs : List Fld} {ks : List Piece} {s t : State} (h : Touches (among fs) ks s t) {f : Fld} (hf : f ∉ fs)
    (i j : Nat) : t.reg f i j = s.reg f i j := h.1 f i j (by simpa [among] using hf)

theorem State.touches_mEvent (k st d : Nat) : Touches (among eventFlds) [.queues] s (s.mEvent k st d) :=
  Kept.touches_among (kept_mEvent ⟨by decide +kernel, by decide +kernel⟩ .refl)

@[simp] theorem State.reg_mEvent {f : Fld} (hf : f ∉ eventFlds) (k st d i j : Nat) : (s.mEvent k st d).reg f i j = s.reg f i j :=
  (s.touches_mEvent k st d).reg hf i j

@[simp] theorem State.pwr_mEvent (k st d : Nat) : (s.mEvent k st d).pwr = s.pwr := (s.touches_mEvent k st d).2 .pwr (by decide)

@[simp] theorem State.sys_mEvent (k st d : Nat) : (s.mEvent k st d).sys = s.sys := (s.touches_mEvent k st d).2 .sys (by decide)

/-- An error event leaves a flag that has been set. -/
theorem State.flag_setReg_mError {f : Fld} (hf : f ∉ eventFlds) (st : Status) (addr : Nat) :
    ((s.setReg f 0 0 1).mError st addr).flag f 0 0 = true :=
  (State.flag_congr _ (State.reg_mEvent _ hf _ _ _ 0 0)).trans (s.flag_setReg_one f 0 0)

@[simp] theorem State.reg_powerEvent {f : Fld} (hf : f ∉ dropFlds) (c v i j : Nat) : (s.powerEvent c v).reg f i j = s.reg f i j :=
  (Kept.touches_among (kept_powerEvent ⟨by decide +kernel, by decide +kernel⟩ .refl) :
    Touches (among dropFlds) [.free, .trace] s (s.powerEvent c v)).reg hf i j

@[simp] theorem State.reg_setLimit {f : Fld} (hf : f ∉ .modClkLimit :: dropFlds) (c i j : Nat) :
    (s.setLimit c).reg f i j = s.reg f i j :=
  (Kept.touches_among (kept_setLimit ⟨by decide +kernel, by decide +kernel⟩ .refl) :
    Touches (among (.modClkLimit :: dropFlds)) [.free, .trace] s (s.setLimit c)).reg hf i j

theorem State.touches_limitFollow : Touches (among (.modClkLimit :: dropFlds)) [.free, .trace] s s.limitFollow :=
  Kept.touches_among (kept_limitFollow ⟨by decide +kernel, by decide +kernel⟩ .refl)

@[simp] theorem State.reg_limitFollow {f : Fld} (hf : f ∉ .modClkLimit :: dropFlds) (i j : Nat) :
    s.limitFollow.reg f i j = s.reg f i j := s.touches_limitFollow.reg hf i j

@[simp] theorem State.pwr_limitFollow : s.limitFollow.pwr = s.pwr := s.touches_limitFollow.2 .pwr (by decide)

@[simp] theorem State.reg_assertEntry {f : Fld} (hf : f ∉ quenchFlds) (p c i j : Nat) :
    (s.assertEntry p c).reg f i j = s.reg f i j :=
  (Kept.touches_among (kept_assertEntry ⟨by decide +kernel, by decide +kernel⟩ .refl) :
    Touches (among quenchFlds) [.parts, .svc] s (s.assertEntry p c)).reg hf i j

theorem State.touches_unthrottle : Touches (among releaseFlds) [.parts] s s.unthrottle :=
  Kept.touches_among (kept_unthrottle ⟨by decide +kernel, by decide +kernel⟩ .refl)

@[simp] theorem State.reg_unthrottle {f : Fld} (hf : f ∉ releaseFlds) (i j : Nat) : s.unthrottle.reg f i j = s.reg f i j :=
  s.touches_unthrottle.reg hf i j

@[simp] theorem State.pwr_unthrottle : s.unthrottle.pwr = s.pwr := s.touches_unthrottle.2 .pwr (by decide)

/-- The audit log shows a register write; every register is as the write left it. -/
@[simp] theorem State.reg_auditDiff (o : Origin) (part : Nat) (f g : Fld) (i j k l : Nat) (t : State) :
    (State.auditDiff o part f i j s t).reg g k l = t.reg g k l :=
  (kept_auditDiff (W := ⟨0, pieceBits [.log]⟩) ⟨by decide, by decide⟩ .refl).reg (Nat.zero_testBit _) k l

@[simp] theorem State.reg_quenchLost {f : Fld} (hf : f ∉ quenchFlds) (hit : Nat → Bool) (i j : Nat) :
    (s.quenchLost hit).reg f i j = s.reg f i j :=
  (Kept.touches_among (kept_quenchLost ⟨by decide +kernel, by decide +kernel⟩ .refl) :
    Touches (among quenchFlds) [.parts, .svc] s (s.quenchLost hit)).reg hf i j

/-- The registers of requests that lost endpoints had started. -/
def tagFlds : List Fld := .nocTagInuse :: .nocTagPeak :: .nocTagFullCount :: dropFlds

@[simp] theorem State.reg_fenceTags {f : Fld} (hf : f ∉ tagFlds) (lost : NocTag → Bool) (i j : Nat) :
    (s.fenceTags lost).reg f i j = s.reg f i j :=
  (Kept.touches_among (kept_fenceTags ⟨by decide +kernel, by decide +kernel⟩ .refl) :
    Touches (among tagFlds) [.free, .trace, .noc] s (s.fenceTags lost)).reg hf i j

@[simp] theorem State.reg_billetsLow {f : Fld} (hf : f ∉ .svcCond :: eventFlds) (i j : Nat) : s.billetsLow.reg f i j = s.reg f i j :=
  (Kept.touches_among (kept_billetsLow ⟨by decide +kernel, by decide +kernel⟩ .refl) :
    Touches (among (.svcCond :: eventFlds)) [.sys, .queues, .log] s s.billetsLow).reg hf i j

@[simp] theorem State.reg_regionDown {f : Fld} (hf : f ∉ .modRgnOnLo :: .modRgnOnHi :: .svcCond :: eventFlds) (r i j : Nat) :
    (s.regionDown r).reg f i j = s.reg f i j :=
  (Kept.touches_among (kept_regionDown ⟨by decide +kernel, by decide +kernel⟩ .refl) :
    Touches (among (.modRgnOnLo :: .modRgnOnHi :: .svcCond :: eventFlds)) [.fab, .noc, .sys, .queues, .log] s
      (s.regionDown r)).reg hf i j

/-! ## Ceilings and the clock (R27, R400 to R403) -/

/-- What CLKSET makes of a value (R27). -/
theorem State.clkset_take (v : Nat) :
    (s.fieldTake .modClksetStepMhzMax 0 v).getD 0 = if 1800 < v then 1800 else if v < 800 then 800 else v / 25 * 25 := rfl

theorem State.clkset_take_lt (v : Nat) : (s.fieldTake .modClksetStepMhzMax 0 v).getD 0 < 2 ^ Fld.modClksetStepMhzMax.width := by
  have hw : Fld.modClksetStepMhzMax.width = 16 := by decide +kernel
  rw [s.clkset_take, hw]
  split_ifs <;> omega

theorem State.reg_wrClkset {o : Origin} {v : Nat} (ho : s.isOwnerOrLocal o = true)
    (hq : s.partitions.any s.executing = false ∨ s.modQuiet = true) (hv : v < 2 ^ 16) :
    (s.wrClkset o v).reg .modClksetStepMhzMax 0 0 = if 1800 < v then 1800 else if v < 800 then 800 else v / 25 * 25 := by
  have hst : ¬(s.partitions.any s.executing = true ∧ (!s.modQuiet) = true) := by
    rcases hq with h | h <;> simp [h]
  rw [State.wrClkset, if_neg (by simp [ho]), if_neg hst, (Nat.mod_eq_of_lt hv : v % 65536 = v), State.reg_limitFollow _ (by decide),
    State.reg_auditDiff, State.reg_setSetting_self, Nat.mod_eq_of_lt (s.clkset_take_lt v), s.clkset_take]

@[simp] theorem State.pwr_setCeil (thermal power : Nat) :
    (s.setCeil thermal power).pwr = { s.pwr with thermal := thermal, powerCeil := power } := by
  simp [State.setCeil]

@[simp] theorem State.reg_setCeil {f : Fld} (hf : f ∉ .pwrBellowsCeilMhz :: .modClkLimit :: dropFlds) (thermal power i j : Nat) :
    (s.setCeil thermal power).reg f i j = s.reg f i j := by
  rw [List.mem_cons, not_or] at hf
  rw [State.setCeil, State.reg_limitFollow _ hf.2, State.reg_setReg_fld _ (Ne.symm hf.1), State.reg_modPwr]

/-- The sample shows the hottest junction whatever becomes of the ceiling. -/
theorem State.reg_thermalUpdate (anvil tj : Nat) (cool : Bool) (hoff : s.sys.off = false) :
    (s.thermalUpdate anvil tj cool).reg .pwrTjMaxC 0 0 = min 255 tj := by
  have hw : min 255 tj < 2 ^ Fld.pwrTjMaxC.width := (Nat.min_le_left _ _).trans_lt (by decide +kernel)
  rw [State.thermalUpdate, if_neg (by simp [hoff])]
  split_ifs <;> simp (disch := decide) only [State.reg_setCeil, State.reg_setReg_of_lt _ hw]

/-- Above the target the thermal ceiling steps down, and after a cool second it steps up. -/
theorem State.thermal_thermalUpdate (anvil tj : Nat) (cool : Bool) (hoff : s.sys.off = false) (hst : s.sys.stewardDown = false) :
    (s.reg .pwrCfgTjTargetC 0 0 < tj → (s.thermalUpdate anvil tj cool).pwr.thermal = max 800 (s.pwr.thermal - 25)) ∧
      (cool = true → tj + 5 ≤ s.reg .pwrCfgTjTargetC 0 0 →
        (s.thermalUpdate anvil tj cool).pwr.thermal = min 1800 (s.pwr.thermal + 25)) := by
  rw [State.thermalUpdate, if_neg (by simp [hoff]), if_neg (by simp [hst])]
  refine ⟨fun hot => ?_, fun hc hcool => ?_⟩
  · rw [if_pos hot, State.pwr_setCeil]
  · rw [if_neg (by omega), if_pos ⟨hc, hcool⟩, State.pwr_setCeil]

theorem State.powerCeil_powerUpdate (meanW : Nat) (idle : Bool) (hoff : s.sys.off = false) (hst : s.sys.stewardDown = false)
    (hd : 100000 < s.reg .pwrDutyPpm 0 0) : (s.powerUpdate meanW idle).pwr.powerCeil = max 800 (s.pwr.powerCeil - 25) := by
  rw [State.powerUpdate, if_neg (by simp [hoff, hst]), if_pos hd, State.pwr_setCeil]

theorem State.change_clockChange (hoff : s.sys.off = false) (hact : s.sys.activating = none) (hch : s.pwr.change = none)
    (hap : ∀ x, s.pwr.lastRelease = some x → x + 100000 ≤ s.now) (hne : s.ceiling.1 ≠ s.reg .modClkStepMhz 0 0) :
    s.clockChange.pwr.change = some ⟨s.ceiling.1, s.ceiling.2⟩ := by
  rw [State.clockChange]
  cases hl : s.pwr.lastRelease with
  | none => rw [if_neg (by simp [hoff, hact, hch, hne]), State.pwr_modPwr]
  | some x => rw [if_neg (by simp [hoff, hact, hch, hne, hap x hl]), State.pwr_modPwr]

theorem State.clockRelease_of_change {c : ClockChange} (h : s.pwr.change = some c) :
    s.clockRelease.reg .modClkStepMhz 0 0 = c.target % 2 ^ 16 ∧ s.clockRelease.pwr.change = none := by
  have hw : Fld.modClkStepMhz.width = 16 := by decide +kernel
  simp (disch := decide) [State.clockRelease, h, hw]

/-! ## The duty throttle (R401) -/

theorem State.reg_dutyCount {f : Fld} (hp : f ≠ .pwrDutyPpm) (hd : f ≠ .pwrStatusDuty) (n m i j : Nat) :
    (s.dutyCount n m).reg f i j = s.reg f i j := by
  rw [State.dutyCount, State.reg_setFlag_fld _ hd.symm, State.reg_setReg_fld _ hp.symm, State.reg_modPwr]

theorem State.burst_dutyCount (n m : Nat) : (s.dutyCount n m).pwr.burst = s.pwr.burst := rfl

theorem State.reg_powerSample (totalW : Nat) (partW : List (Nat × Nat)) (hoff : s.sys.off = false) :
    (s.powerSample totalW partW).reg .pwrInTotalW 0 0 = min 0xFFFF totalW := by
  have hw : min 0xFFFF totalW < 2 ^ Fld.pwrInTotalW.width := (Nat.min_le_left _ _).trans_lt (by decide +kernel)
  rw [State.powerSample, if_neg (by simp [hoff]), State.reg_dutyCount _ (by decide) (by decide), State.reg_modPwr]
  exact foldl_of (P := fun t : State => t.reg .pwrInTotalW 0 0 = min 0xFFFF totalW)
    (fun t p ht => by rwa [State.reg_powerEvent _ (by decide), State.reg_assertEntry _ (by decide)]) (s.reg_setReg_of_lt hw 0 0)

/-- Within the limit no burst starts. -/
theorem State.burst_powerSample (totalW : Nat) (partW : List (Nat × Nat)) (hoff : s.sys.off = false) (h : totalW ≤ s.limitW) :
    (s.powerSample totalW partW).pwr.burst = s.pwr.burst := by
  rw [State.powerSample, if_neg (by simp [hoff]), State.burst_dutyCount, if_neg (fun c => absurd c.1 h.not_gt)]
  exact List.append_nil _

theorem State.burst_burstEnd : s.burstEnd.pwr.burst = [] := by
  simp [State.burstEnd]

/-! ## Inlets and the line (R388 to R390) -/

/-- The field of a feed is none that an event, a release or the count of an interruption writes. -/
theorem feedFld_notMem (i : Nat) : feedFld i ∉ eventFlds ∧ feedFld i ∉ releaseFlds ∧ feedFld i ≠ .pwrInDropoutCount ∧
    feedFld i ≠ .svcAvailExtMs := by
  unfold feedFld
  split <;> decide

/-- The two feeds have fields of their own. -/
theorem feedFld_ne_other {i : Nat} (hi : i < 2) : feedFld i ≠ feedFld (1 - i) := by
  obtain rfl | rfl : i = 0 ∨ i = 1 := by omega
  all_goals decide

@[simp] theorem State.reg_inputEvent {f : Fld} (hf : f ∉ eventFlds) (st : Status) (i j : Nat) :
    (s.inputEvent st).reg f i j = s.reg f i j := s.reg_mEvent hf _ _ _ i j

@[simp] theorem State.pwr_inputEvent (st : Status) : (s.inputEvent st).pwr = s.pwr := s.pwr_mEvent _ _ _

/-- The return of the input counts an outage and lets the partitions go; any other register is as it was. -/
theorem State.reg_inputBack {f : Fld} (hr : f ∉ releaseFlds) (he : f ≠ .svcAvailExtMs) (i j : Nat) :
    s.inputBack.reg f i j = s.reg f i j := by
  rw [State.inputBack]
  split
  · rfl
  · rw [State.reg_unthrottle _ hr, State.reg_modPwr]
    exact foldl_of (P := fun t : State => t.reg f i j = s.reg f i j)
      (fun t p ht => by rwa [State.reg_bump_fld _ he.symm]) rfl

theorem State.interruption_inputBack : s.inputBack.pwr.interruption = none := by
  rw [State.inputBack]
  split
  · assumption
  · rw [State.pwr_unthrottle, State.pwr_modPwr]

@[simp] theorem State.feed_inputEvent (st : Status) (i : Nat) : (s.inputEvent st).feed i = s.feed i :=
  s.flag_congr (s.reg_inputEvent (feedFld_notMem i).1 st 0 0)

@[simp] theorem State.feed_inputBack (i : Nat) : s.inputBack.feed i = s.feed i :=
  s.flag_congr (s.reg_inputBack (feedFld_notMem i).2.1 (feedFld_notMem i).2.2.2 0 0)

@[simp] theorem State.feed_bump_dropoutCount (n i : Nat) : (s.bump .pwrInDropoutCount 0 0 n).feed i = s.feed i :=
  s.flag_congr (s.reg_bump_fld (feedFld_notMem i).2.2.1.symm 0 0 n 0 0)

@[simp] theorem State.feed_modPwr (g : Power → Power) (i : Nat) : (s.modPwr g).feed i = s.feed i := rfl

@[simp] theorem State.feed_setReg_one (i : Nat) : (s.setReg (feedFld i) 0 0 1).feed i = true := s.flag_setReg_one _ 0 0

@[simp] theorem State.feed_setReg_zero (i : Nat) : (s.setReg (feedFld i) 0 0 0).feed i = false := s.flag_setReg_zero _ 0 0

/-- A feed is as it was when the other one is set. -/
theorem State.feed_setReg_other {i : Nat} (hi : i < 2) (v : Nat) : (s.setReg (feedFld i) 0 0 v).feed (1 - i) = s.feed (1 - i) :=
  s.flag_congr (s.reg_setReg_fld (feedFld_ne_other hi) 0 0 v 0 0)

/-- An inlet that comes into service at a module that is on ends an interruption. -/
theorem State.inletIn_on {i volts : Nat} (hi : i < 2) (hv : inRange volts = true) (hf : s.feed i = false)
    (hoff : s.sys.off = false) : (s.inletIn i volts).feed i = true ∧ (s.inletIn i volts).pwr.interruption = none := by
  rw [State.inletIn, if_neg (by simp [hi, hv, hf]), if_neg (by simp [hoff]), State.pwr_inputEvent]
  exact ⟨by simp, State.interruption_inputBack _⟩

theorem State.feed_inletOut {i volts : Nat} (hi : i < 2) (hv : inRange volts = false) (hf : s.feed i = true) :
    (s.inletOut i volts).feed i = false := by
  rw [State.inletOut, if_neg (by simp [hi, hv, hf])]
  dsimp only
  split_ifs <;> simp

/-- When the last inlet leaves, the interruption begins. -/
theorem State.interruption_inletOut {i volts : Nat} (hi : i < 2) (hv : inRange volts = false) (hf : s.feed i = true)
    (hoff : s.sys.off = false) (ho : s.feed (1 - i) = false) : (s.inletOut i volts).pwr.interruption = some s.now := by
  have hself := s.feed_setReg_zero i
  have hother := (s.feed_setReg_other hi 0).trans ho
  have hnone : (s.setReg (feedFld i) 0 0 0).feed 0 = false ∧ (s.setReg (feedFld i) 0 0 0).feed 1 = false := by
    obtain rfl | rfl : i = 0 ∨ i = 1 := by omega
    exacts [⟨hself, hother⟩, ⟨hother, hself⟩]
  rw [State.inletOut, if_neg (by simp [hi, hv, hf]), if_neg (by simp [hoff]), if_neg (by simp [hnone]), State.pwr_modPwr]

theorem State.lowLine_entered (hoff : s.sys.off = false) (hl : s.flag .pwrStatusLowLine 0 0 = false)
    (hf : s.feed 0 = true ∨ s.feed 1 = true) :
    s.lowLine.flag .pwrStatusLowLine 0 0 = true ∧ s.lowLine.pwr.powerCeil = min s.pwr.powerCeil (s.reg .pwrCfgLowMhz 0 0) := by
  rw [State.lowLine, if_neg (by rcases hf with h | h <;> simp [hoff, hl, h]), State.pwr_setCeil]
  refine ⟨(State.flag_congr _ ?_).trans (s.flag_setReg_one .pwrStatusLowLine 0 0), rfl⟩
  simp (disch := decide) only [State.reg_setCeil, State.reg_modPwr, State.reg_inputEvent]

theorem State.highLine_returned (hoff : s.sys.off = false) (hl : s.flag .pwrStatusLowLine 0 0 = true)
    (hf : s.feed 0 = true ∨ s.feed 1 = true) :
    s.highLine.flag .pwrStatusLowLine 0 0 = false ∧ s.highLine.pwr.powerCeil = s.pwr.beforeLow.getD s.pwr.powerCeil := by
  rw [State.highLine, if_neg (by rcases hf with h | h <;> simp [hoff, hl, h]), State.pwr_setCeil]
  refine ⟨(State.flag_congr _ ?_).trans (s.flag_setReg_zero .pwrStatusLowLine 0 0), rfl⟩
  simp (disch := decide) only [State.reg_setCeil, State.reg_modPwr, State.reg_inputEvent]

theorem State.inputGone_of {x ns : Nat} (h : s.pwr.interruption = some x) (ht : x + ns ≤ s.now) : s.inputGone ns = true := by
  simp [State.inputGone, h, ht]

theorem State.dropout_held (h : s.inputGone 15000000 = true) (hd : s.pwr.dropoutHeld = false) :
    s.dropout.flag .pwrStatusDropout 0 0 = true ∧ s.dropout.pwr.dropoutHeld = true := by
  rw [State.dropout, if_neg (by simp [h, hd]), State.pwr_inputEvent, State.pwr_modPwr]
  exact ⟨(State.flag_congr _ ((State.reg_inputEvent _ (by decide) _ 0 0).trans (State.reg_modPwr _ _ _ 0 0))).trans
    (State.flag_setReg_one _ _ 0 0), rfl⟩

/-- A module that is powered off holds what its next power-up will report. -/
theorem State.lastReset_powerOff {last : Nat} (h : last < 16) : (s.powerOff last).reg .modStateLastReset 0 0 = last := by
  have hw : last < 2 ^ Fld.modStateLastReset.width := h.trans_le (by decide +kernel)
  have hreg : (s.powerOff last).reg .modStateLastReset 0 0 = (s.powerCycle last).reg .modStateLastReset 0 0 :=
    reg_congr rfl rfl rfl rfl
  rw [hreg]
  simp (disch := decide) only [State.powerCycle, State.reg_setReg_fld, State.reg_setReg_of_lt _ hw]

theorem State.powerLoss_off (h : s.inputGone 50000000 = true) (hoff : s.sys.off = false) :
    s.powerLoss.sys.off = true ∧ s.powerLoss.reg .modStateLastReset 0 0 = if s.sys.moduleFault then 3 else 2 := by
  rw [State.powerLoss, if_neg (by simp [h, hoff])]
  exact ⟨rfl, State.lastReset_powerOff _ (by split <;> decide)⟩

/-! ## Power domains (R28) -/

theorem bit_eq_testBit (w n : Nat) : bit w n = w.testBit n := (Nat.testBit_eq_decide_div_mod_eq).symm

/-- A bit that is cleared is 0. -/
theorem testBit_setBit_false (w n : Nat) : (setBit w n false).testBit n = false := by
  rw [setBit, if_neg Bool.false_ne_true]
  split
  · next h =>
    simp only [bit, decide_eq_true_eq] at h
    have hd : (w - 2 ^ n * 1) / 2 ^ n = w / 2 ^ n - 1 := Nat.sub_mul_div _ _ _
    rw [Nat.mul_one] at hd
    rw [Nat.testBit_eq_decide_div_mod_eq, hd]
    exact decide_eq_false (by omega)
  · next h => rwa [Bool.not_eq_true, bit_eq_testBit] at h

/-- The domains of regions 0 to 31 stand in the low word, those of the others in the high word. -/
theorem State.regionOn_eq (h : s.reg .modRgnOnLo 0 0 < 2 ^ 32) (r : Nat) :
    s.regionOn r = if r < 32 then (s.reg .modRgnOnLo 0 0).testBit r else (s.reg .modRgnOnHi 0 0).testBit (r - 32) := by
  rw [State.regionOn, bit_eq_testBit, Nat.add_comm, Nat.testBit_two_pow_mul_add _ h]

theorem State.regionOn_setRegionOn_off (h : s.reg .modRgnOnLo 0 0 < 2 ^ 32) (r : Nat) :
    (s.setRegionOn r false).regionOn r = false := by
  have hlo : Fld.modRgnOnLo.width = 32 := by decide +kernel
  have hhi : Fld.modRgnOnHi.width = 32 := by decide +kernel
  rw [State.setRegionOn]
  split
  · next hr32 =>
    rw [State.regionOn_eq _ (by rw [State.reg_setReg_self, hlo]; exact Nat.mod_lt _ (by decide)), if_pos hr32,
      State.reg_setReg_self, Nat.testBit_mod_two_pow, testBit_setBit_false, Bool.and_false]
  · next hr32 =>
    rw [State.regionOn_eq _ (by rwa [State.reg_setReg_fld _ (by decide)]), if_neg hr32,
      State.reg_setReg_self, Nat.testBit_mod_two_pow, testBit_setBit_false, Bool.and_false]

/-- A region reads as on where the two words of MOD.RGN_ON read the same. -/
theorem State.regionOn_congr {t : State} (h : ∀ f ∈ [Fld.modRgnOnLo, Fld.modRgnOnHi], t.reg f 0 0 = s.reg f 0 0) (r : Nat) :
    t.regionOn r = s.regionOn r := by
  rw [State.regionOn, State.regionOn, h _ (by simp), h _ (by simp)]

theorem State.regionOn_regionDown (h : s.reg .modRgnOnLo 0 0 < 2 ^ 32) (r : Nat) :
    (s.regionDown r).regionOn r = false := by
  rw [State.regionDown]
  refine (State.regionOn_congr (State.setRegionOn { s with fab := s.fab.clearRegion r } r false) (fun f hf => ?_) r).trans
    (State.regionOn_setRegionOn_off { s with fab := s.fab.clearRegion r } h r)
  exact State.reg_billetsLow _ (by revert f; decide) 0 0

/-- Switching an anvil's blocks and lanes to their start, and its links down, leaves the module part. -/
theorem State.sys_anvilBlocks_lanes_links (a : Nat) : (((s.anvilBlocks a).lanesReset a).linksFollow a).sys = s.sys :=
  have hk : Kept ⟨everyFld, pieceBits [.held, .noc, .wl]⟩ s (((s.anvilBlocks a).lanesReset a).linksFollow a) :=
    kept_linksFollow ⟨by decide +kernel, by decide +kernel⟩ (kept_lanesReset ⟨by decide +kernel, by decide +kernel⟩
      (kept_anvilBlocks ⟨by decide +kernel, by decide +kernel⟩ .refl))
  hk.rest .sys (by decide)

theorem State.anvilOn_anvilDown (a : Nat) : (s.anvilDown a).anvilOn a = false := by
  rw [State.anvilDown]
  split
  · next h => simpa using h
  · rw [State.anvilOn, State.sys_anvilBlocks_lanes_links]
    dsimp only
    exact Tab.get_put_self

/-! ## Rail faults and trips (R395 to R397, R400) -/

theorem Grade.anvils_le (g : Grade) : g.anvils ≤ 8 := by cases g <;> decide

theorem State.flag_recordRail (rail kind : Nat) : (s.recordRail rail kind).flag .pwrRailFirstValid 0 0 = true := by
  have hset : (if s.flag .pwrRailFirstValid 0 0 then s
      else ((s.setReg .pwrRailFirstValid 0 0 1).setReg .pwrRailFirstKind 0 0 kind).setReg .pwrRailFirstRail 0 0 rail).flag
      .pwrRailFirstValid 0 0 = true := by
    split
    · assumption
    · rw [State.flag, State.reg_setReg_fld _ (by decide), State.reg_setReg_fld _ (by decide)]
      exact s.flag_setReg_one _ 0 0
  refine (State.flag_congr _ ?_).trans hset
  simp (disch := decide) only [State.recordRail, State.reg_mEvent, State.reg_powerEvent, State.reg_bump_fld]

/-- The fields that the record of a rail fault writes. -/
def railFlds : List Fld :=
  .pwrRailFirstValid :: .pwrRailFirstKind :: .pwrRailFirstRail :: .pwrRailFaultCount :: dropFlds ++ eventFlds

theorem State.reg_recordRail {f : Fld} (hf : f ∉ railFlds) (rail kind i j : Nat) : (s.recordRail rail kind).reg f i j = s.reg f i j :=
  (Kept.touches_among (kept_recordRail ⟨by decide +kernel, by decide +kernel⟩ .refl) :
    Touches (among railFlds) [.free, .trace, .queues] s (s.recordRail rail kind)).reg hf i j

/-- A fault of a region's rail: the fault is recorded, partitions and requests that it hits end, and the region switches off. -/
theorem State.railFault_region {rail kind : Nat} (hoff : s.sys.off = false) (hr : rail < s.grade.regions) (hk : 1 ≤ kind)
    (hk' : kind ≤ 6) : ∃ u : State,
      (∀ f, f ∉ quenchFlds → f ∉ tagFlds → ∀ i j, u.reg f i j = (s.recordRail rail kind).reg f i j) ∧
      s.railFault rail kind = if u.regionOn rail then u.regionDown rail else u := by
  have h40 : rail < 0x40 := by
    have := Grade.anvils_le s.grade
    rw [Grade.regions] at hr
    omega
  have hhas : s.hasRail rail = true := by rw [State.hasRail, if_pos h40]; exact decide_eq_true hr
  rw [State.railFault, if_neg (by simp [hoff, hhas]; omega)]
  simp only [if_pos h40]
  refine ⟨_, fun f hq ht i j => ?_, rfl⟩
  split
  · rw [State.reg_modPwr, State.reg_fenceTags _ ht, State.reg_quenchLost _ hq]
  · rw [State.reg_fenceTags _ ht, State.reg_quenchLost _ hq]

theorem State.railFault_region_off {rail kind : Nat} (hoff : s.sys.off = false) (hr : rail < s.grade.regions) (hk : 1 ≤ kind)
    (hk' : kind ≤ 6) (hlo : s.reg .modRgnOnLo 0 0 < 2 ^ 32) :
    (s.railFault rail kind).regionOn rail = false ∧ (s.railFault rail kind).flag .pwrRailFirstValid 0 0 = true := by
  obtain ⟨u, hu, hrail⟩ := s.railFault_region hoff hr hk hk'
  have hulo : u.reg .modRgnOnLo 0 0 < 2 ^ 32 := by
    rwa [hu _ (by decide) (by decide), s.reg_recordRail (by decide)]
  have hvalid : u.flag .pwrRailFirstValid 0 0 = true :=
    (State.flag_congr _ (hu _ (by decide) (by decide) 0 0)).trans (s.flag_recordRail rail kind)
  rw [hrail]
  split
  · exact ⟨u.regionOn_regionDown hulo rail, (u.flag_congr (u.reg_regionDown (by decide) rail 0 0)).trans hvalid⟩
  · next h => exact ⟨by simpa using h, hvalid⟩

/-- A fault of the VANV rail of an anvil, found at any time but at power-up: the anvil is lost. -/
theorem State.railFault_anvil {a : Nat} (hoff : s.sys.off = false) (ha : a < s.grade.anvils) :
    s.railFault (0x40 + a) 6 = (s.recordRail (0x40 + a) 6).loseAnvil a := by
  have h8 : a < 8 := ha.trans_le (Grade.anvils_le s.grade)
  have hrail : railAnvil (0x40 + a) = some (a, false) := by
    rw [railAnvil, if_pos (by omega), show (0x40 + a) % 8 = a by omega]
    simp [show ¬ 0x48 ≤ 0x40 + a by omega, show ¬ 0x70 ≤ 0x40 + a by omega]
  have hhas : s.hasRail (0x40 + a) = true := by
    rw [State.hasRail, if_neg (by omega), hrail]
    exact decide_eq_true ha
  rw [State.railFault, if_neg (by simp [hoff, hhas])]
  simp only [hrail, if_neg (show ¬ 0x40 + a < 0x40 by omega)]
  rfl

theorem State.thermalTrip_anvil {a : Nat} (hoff : s.sys.off = false) (ha : a < s.grade.anvils) :
    (s.thermalTrip (some a)).flag .pwrStatusTrip 0 0 = true ∧ (s.thermalTrip (some a)).anvilOn a = false := by
  rw [State.thermalTrip]
  simp only [List.filter_cons, ha, decide_true, if_true, List.filter_nil, List.foldl_cons, List.foldl_nil, hoff,
    s.railFault_anvil hoff ha, Bool.false_eq_true, false_or, List.cons_ne_nil, if_false]
  refine ⟨State.flag_setReg_mError _ (by decide) _ _, ?_⟩
  rw [State.anvilOn, State.mError, State.sys_mEvent, State.sys_setReg, State.loseAnvil]
  exact State.anvilOn_anvilDown _ a

/-! ## Coolant and the auxiliary output (R398, R399) -/

theorem State.flag_coolBit_self {f : Fld} (hf : f ∉ eventFlds) (b : Bool) : (s.coolBit f b).flag f 0 0 = b := by
  rw [State.coolBit]
  split
  · assumption
  · rw [State.mError]
    exact (State.flag_congr _ ((State.reg_mEvent _ hf _ _ _ 0 0).trans (State.reg_mEvent _ hf _ _ _ 0 0))).trans
      (s.flag_setFlag_self f 0 0 b)

theorem State.reg_coolBit {f g : Fld} (hg : g ∉ f :: eventFlds) (b : Bool) (i j : Nat) :
    (s.coolBit f b).reg g i j = s.reg g i j := by
  rw [List.mem_cons, not_or] at hg
  rw [State.coolBit]
  split
  · rfl
  · rw [State.mError, State.reg_mEvent _ hg.2, State.reg_mEvent _ hg.2, State.reg_setFlag_fld _ (Ne.symm hg.1)]

theorem State.coolant_sampled (inDc outDc flowCl : Nat) (hoff : s.sys.off = false) :
    let t := s.coolant inDc outDc flowCl
    t.reg .pwrCoolInDc 0 0 = min 1023 inDc ∧ t.reg .pwrCoolOutDc 0 0 = min 1023 outDc ∧
      t.reg .pwrCoolFlowCl 0 0 = min 4095 flowCl ∧ t.flag .pwrStatusCoolTemp 0 0 = decide (inDc < 150 ∨ 450 < inDc) ∧
      t.flag .pwrStatusCoolFlow 0 0 = decide (flowCl < 200) := by
  have hin : min 1023 inDc < 2 ^ Fld.pwrCoolInDc.width := (Nat.min_le_left _ _).trans_lt (by decide +kernel)
  have hout : min 1023 outDc < 2 ^ Fld.pwrCoolOutDc.width := (Nat.min_le_left _ _).trans_lt (by decide +kernel)
  have hflow : min 4095 flowCl < 2 ^ Fld.pwrCoolFlowCl.width := (Nat.min_le_left _ _).trans_lt (by decide +kernel)
  rw [State.coolant, if_neg (by simp [hoff])]
  refine ⟨?_, ?_, ?_, (State.flag_congr _ (State.reg_coolBit _ (by decide) _ 0 0)).trans
    (State.flag_coolBit_self _ (by decide) _), State.flag_coolBit_self _ (by decide) _⟩
  · simp (disch := decide) only [State.reg_coolBit, State.reg_setReg_fld, State.reg_setReg_of_lt _ hin]
  · simp (disch := decide) only [State.reg_coolBit, State.reg_setReg_fld, State.reg_setReg_of_lt _ hout]
  · simp (disch := decide) only [State.reg_coolBit, State.reg_setReg_of_lt _ hflow]

theorem State.wrAuxEn_taken {o : Origin} (en : Nat) (ho : s.isOwnerOrLocal o = true) :
    (s.wrAuxEn o en).reg .pwrAuxEn 0 0 = en % 2 ∧ (en % 2 = 0 → (s.wrAuxEn o en).pwr.auxLatched = false) := by
  have hw : Fld.pwrAuxEn.width = 1 := by decide +kernel
  rw [State.wrAuxEn, if_neg (by simp [ho])]
  refine ⟨?_, fun h => by rw [if_pos h, State.pwr_modPwr]⟩
  split <;> simp [hw]

theorem State.auxOn_latched (h : s.pwr.auxLatched = true) : s.auxOn = false := by
  rw [State.auxOn, h, Bool.not_true, Bool.and_false, Bool.false_and]

end

/-! ## The rows complete -/

/-- A row whose event is due answers the state of the event. -/
theorem answers_of_eq {c : Instr} {s t u : State} {P : State → Prop} (h : exec c s = .next t) (e : t = u) (hP : P u) :
    Answers c s P :=
  ⟨u, e ▸ h, hP⟩

/-- Settles O18: each row, through the lemma that says what its operation leaves. -/
theorem powerRowsComplete : Obligations.PowerRowsComplete :=
  ⟨fun _ _ s hoff ho hq hv => answers_of_eq rfl (if_neg (by simp [hoff])) (s.reg_wrClkset ho hq hv),
    fun totalW partW s hoff => ⟨_, rfl, s.reg_powerSample totalW partW hoff, s.burst_powerSample totalW partW hoff⟩,
    fun s => ⟨_, rfl, s.burst_burstEnd⟩,
    fun anvil tj cool s hoff => ⟨_, rfl, s.reg_thermalUpdate anvil tj cool hoff, s.thermal_thermalUpdate anvil tj cool hoff⟩,
    fun meanW idle s hoff hst hd => ⟨_, rfl, s.powerCeil_powerUpdate meanW idle hoff hst hd⟩,
    fun s hoff hact hch hap hne => ⟨_, rfl, s.change_clockChange hoff hact hch hap hne⟩,
    fun s _ hc => ⟨_, rfl, s.clockRelease_of_change hc⟩,
    fun _ _ s hi hv hf hoff => ⟨_, rfl, s.inletIn_on hi hv hf hoff⟩,
    fun _ _ s hi hv hf => ⟨_, rfl, s.feed_inletOut hi hv hf, s.interruption_inletOut hi hv hf⟩,
    fun s h0 h1 hoff => answers_of_eq rfl (if_pos (by simp [h0, h1, hoff])) (s.flag_setReg_mError (by decide) _ _),
    fun s hoff hl hf => ⟨_, rfl, s.lowLine_entered hoff hl hf⟩,
    fun s hoff hl hf => ⟨_, rfl, s.highLine_returned hoff hl hf⟩,
    fun s _ hx ht hd => ⟨_, rfl, s.dropout_held (s.inputGone_of hx ht) hd⟩,
    fun s _ hx ht hoff => ⟨_, rfl, s.powerLoss_off (s.inputGone_of hx ht) hoff⟩,
    fun _ _ s hoff hr hk hk' hlo => ⟨_, rfl, s.railFault_region_off hoff hr hk hk' hlo⟩,
    fun _ s hoff ha => ⟨_, rfl, s.thermalTrip_anvil hoff ha⟩,
    fun inDc outDc flowCl s hoff => ⟨_, rfl, s.coolant_sampled inDc outDc flowCl hoff⟩,
    fun s hon => answers_of_eq rfl (if_pos hon) ⟨State.flag_setReg_mError _ (by decide) _ _,
      State.auxOn_latched _ (by rw [State.mError, State.pwr_mEvent]; rfl)⟩,
    fun _ en s hoff ho => answers_of_eq rfl (if_neg (by simp [hoff])) (s.wrAuxEn_taken en ho)⟩

end Sys2Proof.Machine
end

section
/-! PROOFS. The instruction words of the Boolean processors (02_boolean_processor.md, R52 to R69): one equation of `evalWord` for each
family, then what the families do. -/

namespace Sys2Proof.Machine

/-! ## Bit fields of bit fields -/

theorem testBit_bits (w hi lo n : Nat) : (bits w hi lo).testBit n = (decide (n < hi + 1 - lo) && w.testBit (lo + n)) := by
  rw [bits, Nat.testBit_mod_two_pow, Nat.testBit_div_two_pow, Nat.add_comm n lo]

/-- A bit of a bit field is a bit of the word. -/
theorem bit_bits {hi lo n : Nat} (h : n < hi + 1 - lo) (w : Nat) : bit (bits w hi lo) n = bit w (lo + n) := by
  simp [bit_eq_testBit, testBit_bits, h]

/-- A bit field of a bit field is a bit field of the word. -/
theorem bits_bits {hi lo hi' lo' : Nat} (h : lo + hi' ≤ hi) (w : Nat) :
    bits (bits w hi lo) hi' lo' = bits w (lo + hi') (lo + lo') := by
  refine Nat.eq_of_testBit_eq fun n => ?_
  simp only [testBit_bits, ← Nat.add_assoc]
  have hw : n < lo + hi' + 1 - (lo + lo') ↔ n < hi' + 1 - lo' := by omega
  by_cases hn : n < hi' + 1 - lo'
  · have hin : lo' + n < hi + 1 - lo := by omega
    simp [hw, hn, hin]
  · simp [hw, hn]

/-! ## The lookup index (R56) -/

section
variable (v : Nat → Bool)

theorem lutIndex_zero : lutIndex v 0 = 0 := rfl

theorem lutIndex_succ (n : Nat) : lutIndex v (n + 1) = b2n (v 0) + 2 * lutIndex (fun i => v (i + 1)) n := by
  simp only [lutIndex, List.range_succ_eq_map, List.map_cons, List.map_map, bitsToNat]
  rfl

theorem lutIndex_four : lutIndex v 4 = b2n (v 0) + 2 * b2n (v 1) + 4 * b2n (v 2) + 8 * b2n (v 3) := by
  simp only [lutIndex_succ, lutIndex_zero, Nat.reduceAdd]
  omega

theorem lutIndex_five :
    lutIndex v 5 = b2n (v 0) + 2 * b2n (v 1) + 4 * b2n (v 2) + 8 * b2n (v 3) + 16 * b2n (v 4) := by
  simp only [lutIndex_succ v, lutIndex_four, Nat.reduceAdd]
  omega

theorem lutIndex_six :
    lutIndex v 6 = b2n (v 0) + 2 * b2n (v 1) + 4 * b2n (v 2) + 8 * b2n (v 3) + 16 * b2n (v 4) + 32 * b2n (v 5) := by
  simp only [lutIndex_succ v, lutIndex_five, Nat.reduceAdd]
  omega

end

/-! ## User-state writes (R59, R60, R81) -/

theorem userFx_of_mem {f : Nat} (h : 1536 ≤ f ∧ f < 1792) (direct : Bool) :
    userFx direct f = (if direct then .user (f - 1536) else .shadow (f - 1536), 0) := by
  rw [userFx, if_pos h]
  cases direct <;> rfl

theorem userFx_of_not_mem {f : Nat} (h : f < 1536 ∨ 1792 ≤ f) (direct : Bool) : userFx direct f = (.none, 6) := by
  rw [userFx, if_neg (by omega)]

/-! ## One equation for each family -/

section
variable {w : Nat} (v : Nat → Bool) (dict word : Nat → Nat)

theorem evalWord_nop (h : bits w 79 74 = 0) : evalWord w v dict word = ⟨false, false, false, .none, 0, none⟩ := by
  rw [evalWord, if_pos h]

/-- The reserved operations (R53, R81). -/
theorem evalWord_reserved (h : (1 ≤ bits w 79 74 ∧ bits w 79 74 ≤ 0xF) ∨ (0x14 ≤ bits w 79 74 ∧ bits w 79 74 ≤ 0x17) ∨
    (0x34 ≤ bits w 79 74 ∧ bits w 79 74 ≤ 0x37)) :
    evalWord w v dict word = ⟨false, false, false, .none, 4, none⟩ := by
  simp (disch := omega) only [evalWord, if_neg]

theorem evalWord_lut6 (h : 0x10 ≤ bits w 79 74) (h' : bits w 79 74 ≤ 0x13) :
    evalWord w v dict word = ⟨bit (dict (bits w 73 66)) (lutIndex v 6), bit (bits w 79 74) 0, bit (bits w 79 74) 1, .none, 0,
      some (bits w 73 66)⟩ := by
  simp (disch := omega) only [evalWord, if_pos, if_neg]

/-- A LUT of five operands whose result is written to user state. -/
theorem evalWord_lut5 (h : 0x18 ≤ bits w 79 74) (h' : bits w 79 74 ≤ 0x1F) :
    evalWord w v dict word = ⟨bit (dict (bits w 73 66)) (32 * b2n (bit (bits w 79 74) 2) + lutIndex v 5), bit (bits w 79 74) 0,
      bit (bits w 79 74) 1, (userFx true (bits w 10 0)).1, (userFx true (bits w 10 0)).2, some (bits w 73 66)⟩ := by
  simp (disch := omega) only [evalWord, if_pos, if_neg]

/-- A LUT of four operands whose result is written to user state, or to its commit shadow, where operand 4 is 1. -/
theorem evalWord_lut4 (h : 0x20 ≤ bits w 79 74) (h' : bits w 79 74 ≤ 0x2F) :
    evalWord w v dict word = ⟨bit (dict (bits w 73 66)) (16 * bits (bits w 79 74) 2 1 + lutIndex v 4), bit (bits w 79 74) 0, false,
      (if v 4 then userFx (decide (0x28 ≤ bits w 79 74)) (bits w 10 0) else (.none, 0)).1,
      (if v 4 then userFx (decide (0x28 ≤ bits w 79 74)) (bits w 10 0) else (.none, 0)).2, some (bits w 73 66)⟩ := by
  simp (disch := omega) only [evalWord, if_pos, if_neg]

theorem evalWord_mux (h : 0x30 ≤ bits w 79 74) (h' : bits w 79 74 ≤ 0x33) :
    evalWord w v dict word = ⟨xor (xor (v (b2n (v 4) + 2 * b2n (v 5))) (bit (bits w 73 66) (4 + (b2n (v 4) + 2 * b2n (v 5)))))
      (bit (bits w 73 66) 3), bit (bits w 79 74) 0, bit (bits w 79 74) 1, .none, 0, none⟩ := by
  simp (disch := omega) only [evalWord, if_pos, if_neg]

/-- The loads and the issue of a memory port. -/
theorem evalWord_port (h : bits w 79 74 = 0x38 ∨ bits w 79 74 = 0x39) :
    evalWord w v dict word = ⟨false, false, false,
      if bits (bits w 73 66) 3 0 < 15 then
        .load (decide (bits w 79 74 = 0x39)) (bits (bits w 73 66) 7 4) (bits (bits w 73 66) 3 0) (lutIndex v 6)
      else if bits w 79 74 = 0x38 ∧ v 0 then .issue (bits (bits w 73 66) 7 4) (v 1) else .none, 0, none⟩ := by
  have hn : ¬ bits w 79 74 = 0 := by omega
  simp (disch := omega) only [evalWord, if_pos, if_neg]

theorem evalWord_read (h : bits w 79 74 = 0x3A ∨ bits w 79 74 = 0x3B) :
    evalWord w v dict word =
      ⟨bit (word (bits (bits w 73 66) 7 4)) (bits w 60 55), bit (bits w 79 74) 0, false, .none, 0, none⟩ := by
  simp (disch := omega) only [evalWord, if_pos, if_neg]

theorem evalWord_probe (h : bits w 79 74 = 0x3C) : evalWord w v dict word = ⟨v 0, false, true, .none, 0, none⟩ := by
  simp (disch := omega) only [evalWord, if_pos, if_neg]

theorem evalWord_tprobe (h : bits w 79 74 = 0x3D) :
    evalWord w v dict word = ⟨v 0, false, false, .tprobe (bits w 73 66), 0, none⟩ := by
  simp (disch := omega) only [evalWord, if_pos, if_neg]

theorem evalWord_out (h : bits w 79 74 = 0x3E) :
    evalWord w v dict word = ⟨v 0, false, false, .out (bits w 54 41), 0, none⟩ := by
  simp (disch := omega) only [evalWord, if_pos, if_neg]

theorem evalWord_haltIf (h : bits w 79 74 = 0x3F) :
    evalWord w v dict word = ⟨bit (dict (bits w 73 66)) (lutIndex v 6), false, false,
      if bit (dict (bits w 73 66)) (lutIndex v 6) then .halt else .none, 0, some (bits w 73 66)⟩ := by
  simp (disch := omega) only [evalWord, if_pos, if_neg]

end

/-! ## What the families do -/

/-- Settles O57: each family, through its equation. -/
theorem instructionFamilies : Obligations.InstructionFamilies := by
  intro w v dict word op idx f x idx4
  refine ⟨evalWord_nop v dict word, evalWord_reserved v dict word, fun h h' => ?lut6, fun h h' => ?lut5, fun h h' => ?lut4,
    fun h h' => ?mux, fun h => ?port, fun h => ?read, fun h => ?probe, fun h => ?tprobe, fun h => ?out, fun h => ?haltIf⟩
  case lut6 =>
    have hx := evalWord_lut6 v dict word h h'
    rw [lutIndex_six] at hx
    exact ⟨congrArg BpOut.r hx, congrArg BpOut.drive hx, congrArg BpOut.probe hx, congrArg BpOut.fx hx⟩
  case lut5 =>
    have hx := evalWord_lut5 v dict word h h'
    rw [lutIndex_five, ← Nat.add_assoc] at hx
    refine ⟨congrArg BpOut.r hx, congrArg BpOut.drive hx, congrArg BpOut.probe hx, fun hl hu => ?_, fun ho => ?_⟩
    · rw [userFx_of_mem ⟨hl, hu⟩] at hx
      exact congrArg BpOut.fx hx
    · rw [userFx_of_not_mem ho] at hx
      exact ⟨congrArg BpOut.fx hx, congrArg BpOut.err hx⟩
  case lut4 =>
    have hx := evalWord_lut4 v dict word h h'
    rw [lutIndex_four] at hx
    refine ⟨congrArg BpOut.r hx, congrArg BpOut.drive hx, congrArg BpOut.probe hx, fun h4 => ?_, fun h4 hl hu => ?_⟩
    · rw [if_neg (by simp [h4])] at hx
      exact ⟨congrArg BpOut.fx hx, congrArg BpOut.err hx⟩
    · rw [if_pos h4, userFx_of_mem ⟨hl, hu⟩] at hx
      refine (congrArg BpOut.fx hx).trans ?_
      by_cases hd : op < 0x28
      · simp [hd, op]
      · simp [hd, op]
  case mux =>
    have hx := evalWord_mux v dict word h h'
    have hk : b2n (v 4) + 2 * b2n (v 5) < 4 := by
      cases v 4 <;> cases v 5 <;> decide
    rw [bit_bits (by omega), bit_bits (by omega), ← Nat.add_assoc] at hx
    exact ⟨congrArg BpOut.r hx, congrArg BpOut.drive hx, congrArg BpOut.probe hx⟩
  case port =>
    have hx := evalWord_port v dict word h
    have hport : bits (bits w 73 66) 7 4 = bits w 73 70 := bits_bits (by omega) w
    have hgroup : bits (bits w 73 66) 3 0 = bits w 69 66 := bits_bits (by omega) w
    rw [hport, hgroup, lutIndex_six] at hx
    refine ⟨congrArg BpOut.r hx, congrArg BpOut.drive hx, fun hg => ?_, fun hg h8 => ?_⟩
    · rw [if_pos hg] at hx
      exact congrArg BpOut.fx hx
    · rw [if_neg (by omega)] at hx
      refine (congrArg BpOut.fx hx).trans ?_
      simp [show bits w 79 74 = 0x38 from h8]
  case read =>
    have hx := evalWord_read v dict word h
    rw [bits_bits (by omega)] at hx
    exact ⟨congrArg BpOut.r hx, congrArg BpOut.drive hx⟩
  case probe =>
    have hx := evalWord_probe v dict word h
    exact ⟨congrArg BpOut.r hx, congrArg BpOut.probe hx, congrArg BpOut.drive hx⟩
  case tprobe =>
    have hx := evalWord_tprobe v dict word h
    exact ⟨congrArg BpOut.r hx, congrArg BpOut.fx hx⟩
  case out =>
    have hx := evalWord_out v dict word h
    exact ⟨congrArg BpOut.r hx, congrArg BpOut.fx hx⟩
  case haltIf =>
    have hx := evalWord_haltIf v dict word h
    rw [lutIndex_six] at hx
    refine ⟨congrArg BpOut.r hx, ?_, congrArg BpOut.drive hx⟩
    rw [show x = _ from hx]
    split <;> simp [*]

end Sys2Proof.Machine
end

section
/-! PROOFS. The step of a partition that starts from a held boundary (R15, R40, R87, R153): the pending values that commit before it. -/

namespace Sys2Proof.Machine

/-- What a STEP that is due answers with is the state of the executed step. -/
theorem answers_step {p : Nat} {ups : List Upset} {s : State} {P : State → Prop} (h : s.stepDue p = true) :
    Answers (.step p ups) s P ↔ P ((s.strikes p ups).runStep p) := by
  have he : exec (.step p ups) s = .next ((s.strikes p ups).runStep p) := congrArg Host.Outcome.next (if_pos h)
  exact ⟨fun ⟨_, ht, hP⟩ => Host.Outcome.next.inj (he.symm.trans ht) ▸ hP, fun hP => ⟨_, he, hP⟩⟩

/-- Partition 0 in FREE-RUN, about to execute step 0 of cycle 0 from a held boundary, with the pending value 1 for its CYCLE_LO. -/
def heldCycle : State :=
  ((((State.reset.setReg .partRunExists 0 0 1).setReg .partRunMode 0 0 Mode.freeRun).setReg .partCtlSSteps 0 0 64).modPart 0
    fun x => { x with heldStart := true }).hold .partSchedCycleLo 0 0 1

theorem heldCycle_due : heldCycle.stepDue 0 = true ∧ heldCycle.sSteps 0 ≤ 1024 ∧ heldCycle.unheld .partCtlSSteps 0 = true := by
  decide +kernel

/-- The pending value commits before step 0, so the step that is executed belongs to cycle 1 (R15, R153). -/
theorem heldCycle_cycle : heldCycle.cycle 0 = 0 ∧ ((heldCycle.strikes 0 []).runStep 0).cycle 0 = 1 := by
  decide +kernel

/-- Refutes O1: a partition starts a cycle from a held boundary while a pending value waits for its CYCLE_LO. The value commits before
step 0, so the STEP that executes step 0 changes the cycle, which the first clause says it keeps. That clause leaves out what the clause
on CYCLE_BOUNDARY demands, that CYCLE_LO and CYCLE_HI have no pending value; no register write gives these read-only fields one. -/
theorem not_executionEventsComplete : ¬ Obligations.ExecutionEventsComplete := by
  rintro ⟨hstep, -⟩
  obtain ⟨hdue, hs, hu⟩ := heldCycle_due
  obtain ⟨h0, h1⟩ := heldCycle_cycle
  obtain ⟨-, hcycle, -⟩ := (answers_step hdue).1 (hstep 0 [] heldCycle hdue hs hu)
  rw [h0, h1] at hcycle
  exact absurd hcycle (by decide)

end Sys2Proof.Machine
end

section
/-! PROOFS. The routing wires of a step (03_schedule_and_routing.md, R101): what the drivers of a wire come to. -/

namespace Sys2Proof.Machine

/-- The drivers of one wire among the drives of a step, in their order. -/
def driversOf (ds : List Drive) (a h c : Nat) : List Drive := ds.filter fun x => decide ((x.a, x.h, x.c) = (a, h, c))

theorem mem_driversOf {ds : List Drive} {a h c : Nat} {x : Drive} :
    x ∈ driversOf ds a h c ↔ x ∈ ds ∧ (x.a, x.h, x.c) = (a, h, c) := by
  simp [driversOf]

/-- A wire gathers its own drivers, and no drive of another wire. -/
theorem get_wiresOf (ds : List Drive) (a h c : Nat) :
    Tab.get Wire.init (wiresOf ds) [a, h, c] = (driversOf ds a h c).foldl Wire.add Wire.init := by
  induction ds using List.reverseRecOn with
  | nil => rfl
  | append_singleton ds d ih =>
    have hlast : wiresOf (ds ++ [d]) = Tab.put Wire.init (wiresOf ds) [d.a, d.h, d.c]
        (Wire.add (Tab.get Wire.init (wiresOf ds) [d.a, d.h, d.c]) d) := by simp [wiresOf]
    have hsplit : driversOf (ds ++ [d]) a h c = driversOf ds a h c ++ driversOf [d] a h c := List.filter_append ..
    rw [hlast, Tab.get_put, hsplit, List.foldl_append, ← ih]
    by_cases hd : (d.a, d.h, d.c) = (a, h, c)
    · obtain ⟨rfl, rfl, rfl⟩ : d.a = a ∧ d.h = h ∧ d.c = c := by simpa using hd
      simp [driversOf]
    · have hk : [d.a, d.h, d.c] ≠ [a, h, c] := by simpa using hd
      have hnone : driversOf [d] a h c = [] := List.filter_eq_nil_iff.2 (by simpa using hd)
      rw [if_neg hk, hnone, List.foldl_nil]

/-- What the drivers `l` of one wire come to (R101). -/
structure Wire.Of (l : List Drive) (w : Wire) : Prop where
  count : w.count = l.length
  lowest : ∀ x ∈ l, w.winner ≤ x.driver
  carried : l ≠ [] → ∃ x ∈ l, w.winner = x.driver ∧ w.value = x.value
  loser : ∀ x ∈ l, w.winner < x.driver → 2 ≤ w.count ∧ w.loser ≤ x.driver

theorem Wire.Of.nil : Wire.Of [] Wire.init := by
  constructor <;> simp [Wire.init]

/-- One more driver: alone it carries the wire; below the winner it takes its place; otherwise it loses. -/
theorem Wire.Of.add {l : List Drive} {w : Wire} (h : Wire.Of l w) (d : Drive) : Wire.Of (l ++ [d]) (w.add d) := by
  obtain ⟨hcount, hlow, hcar, hlos⟩ := h
  have hmem : ∀ x, x ∈ l ++ [d] ↔ x ∈ l ∨ x = d := by simp
  rw [Wire.add]
  by_cases h0 : w.count = 0
  · obtain rfl : l = [] := List.length_eq_zero_iff.1 (hcount ▸ h0)
    rw [if_pos h0]
    constructor <;> simp
  rw [if_neg h0]
  split
  · next hlt =>
    refine ⟨by simp [hcount], fun x hx => ?_, fun _ => ⟨d, by simp, rfl, rfl⟩, fun x hx hw => ?_⟩
    · rcases (hmem x).1 hx with hx | rfl
      · exact hlt.le.trans (hlow x hx)
      · exact le_rfl
    · rcases (hmem x).1 hx with hx | rfl
      · exact ⟨show 2 ≤ w.count + 1 by omega, hlow x hx⟩
      · exact absurd hw (lt_irrefl _)
  · next hge =>
    refine ⟨by simp [hcount], fun x hx => ?_, fun _ => ?_, fun x hx hw => ⟨show 2 ≤ w.count + 1 by omega, ?_⟩⟩
    · rcases (hmem x).1 hx with hx | rfl
      · exact hlow x hx
      · exact not_lt.1 hge
    · obtain ⟨x, hx, hxw⟩ := hcar fun e => h0 (by simp [hcount, e])
      exact ⟨x, (hmem x).2 (.inl hx), hxw⟩
    · show (if w.count = 1 then d.driver else min w.loser d.driver) ≤ x.driver
      rcases (hmem x).1 hx with hx | rfl
      · obtain ⟨hc, hl⟩ := hlos x hx hw
        rw [if_neg (by omega)]
        exact (min_le_left _ _).trans hl
      · split <;> simp

theorem Wire.of_foldl (l : List Drive) : Wire.Of l (l.foldl Wire.add Wire.init) := by
  induction l using List.reverseRecOn with
  | nil => exact .nil
  | append_singleton l d ih => simpa using ih.add d

/-- Settles O49: a wire is the fold of its own drivers, in which the lowest driver seen so far wins and every other one loses. -/
theorem lowestDriverWins : Obligations.LowestDriverWins := by
  refine ⟨fun ds d hd hlow => ?_, fun ds a h c hno => ?_⟩
  · obtain ⟨hcount, hle, hcar, hlos⟩ := get_wiresOf ds d.a d.h d.c ▸ Wire.of_foldl (driversOf ds d.a d.h d.c)
    have hdm : d ∈ driversOf ds d.a d.h d.c := mem_driversOf.2 ⟨hd, rfl⟩
    obtain ⟨e, he, hwin, hval⟩ := hcar (List.ne_nil_of_mem hdm)
    have hed : e = d := by
      by_contra hne
      obtain ⟨hmem, hwire⟩ := mem_driversOf.1 he
      exact absurd (hlow e hmem hwire hne) (not_lt.2 (hwin ▸ hle d hdm))
    subst hed
    exact ⟨hval, hwin, hcount, fun x hx hwire hne _ =>
      (hlos x (mem_driversOf.2 ⟨hx, hwire⟩) (hwin ▸ hlow x hx hwire hne)).symm⟩
  · have hnil : driversOf ds a h c = [] := List.filter_eq_nil_iff.2 fun x hx => by simpa using hno x hx
    rw [get_wiresOf, hnil]
    rfl

end Sys2Proof.Machine
end

section
/-! PROOFS. The rows of service life (17_service_life.md, R97, R422 to R439): what their operations leave alone, how a command that
starts is answered, then each row, then the statement that they complete. -/

-- The checks of register spans run one after another: run at once, each holds a thread with a stack of its own.
set_option Elab.async false

namespace Sys2Proof.Machine

/-! ## Everything but some registers and parts -/

/-- Every register but those of a list, and every part of the state but those of a list. -/
def Span.without (fs : List Fld) (ks : List Piece) : Span := ⟨everyFld ^^^ fldBits fs, (2 ^ 22 - 1) ^^^ pieceBits ks⟩

theorem fldBits_of_mem {f : Fld} : ∀ {l : List Fld}, f ∈ l → (fldBits l).testBit f.ctorIdx = true
  | g :: l, h => by
    rw [fldBits, Nat.testBit_lor, Bool.or_eq_true, Nat.testBit_two_pow]
    rcases List.mem_cons.1 h with rfl | h
    · exact .inl (decide_eq_true rfl)
    · exact .inr (fldBits_of_mem h)

theorem pieceBits_of_mem {k : Piece} : ∀ {l : List Piece}, k ∈ l → (pieceBits l).testBit k.ctorIdx = true
  | g :: l, h => by
    rw [pieceBits, Nat.testBit_lor, Bool.or_eq_true, Nat.testBit_two_pow]
    rcases List.mem_cons.1 h with rfl | h
    · exact .inl (decide_eq_true rfl)
    · exact .inr (pieceBits_of_mem h)

theorem Piece.ctorIdx_lt (k : Piece) : k.ctorIdx < 22 := by cases k <;> decide

section
variable {fs : List Fld} {ks : List Piece} {s t : State}

/-- An operation that writes none of the listed registers leaves them. -/
theorem Kept.reg_without (h : Kept (.without fs ks) s t) {f : Fld} (hf : f ∈ fs) (i j : Nat) : t.reg f i j = s.reg f i j := by
  refine h.reg ?_ i j
  rw [Span.fld, Span.without, Nat.testBit_xor, fldBits_of_mem hf, everyFld_eq, Nat.testBit_two_pow_sub_one,
    decide_eq_true f.ctorIdx_lt1024, Bool.xor_self]

/-- An operation that changes none of the listed parts leaves them. -/
theorem Kept.part_without (h : Kept (.without fs ks) s t) {k : Piece} (hk : k ∈ ks) : k.same s t := by
  refine h.rest k ?_
  rw [Span.part, Span.without, Nat.testBit_xor, pieceBits_of_mem hk, Nat.testBit_two_pow_sub_one, decide_eq_true k.ctorIdx_lt,
    Bool.xor_self]

end

/-! ## Bits that are set -/

theorem testBit_add_two_pow : ∀ {n w : Nat}, w.testBit n = false → ∀ m, (w + 2 ^ n).testBit m = (decide (m = n) || w.testBit m)
  | 0, w, h, 0 => by simp at h ⊢; omega
  | 0, w, h, m + 1 => by
    have hd : (w + 1) / 2 = w / 2 := by simp at h; omega
    simp [Nat.testBit_succ, hd]
  | n + 1, w, _, 0 => by simp [Nat.pow_succ, Nat.add_mod]
  | n + 1, w, h, m + 1 => by
    have hd : (w + 2 ^ (n + 1)) / 2 = w / 2 + 2 ^ n := by omega
    simp only [Nat.testBit_succ] at h ⊢
    rw [hd, testBit_add_two_pow h m]
    simp

theorem testBit_setBit_true (w n m : Nat) : (setBit w n true).testBit m = (decide (m = n) || w.testBit m) := by
  rw [setBit, if_pos rfl, bit_eq_testBit]
  split
  · next h =>
    by_cases e : m = n
    · subst e; simp [h]
    · simp [e]
  · next h => exact testBit_add_two_pow (by simpa using h) m

/-! ## Folds that serve every element of a list -/

/-- What holds of an element once it has been served, and is not undone by serving another, holds of every element of the list. -/
theorem foldl_of_mem {α β : Type} {P : β → α → Prop} {f : α → β → α} (hself : ∀ a x, P x (f a x))
    (hkeep : ∀ a x y, P y a → P y (f a x)) : ∀ {l : List β} {a : α} {x : β}, x ∈ l → P x (l.foldl f a)
  | y :: l, a, x, h => by
    rcases List.mem_cons.1 h with rfl | h
    · exact foldl_of (P := P x) (fun b z hb => hkeep b z x hb) (l := l) (hself a x)
    · exact foldl_of_mem hself hkeep (l := l) h

/-! ## Commands that start -/

section
variable {c : Instr} {r : CmdRef} {code p : Nat} {ps : Bytes} {f : State → CmdRes} {s : State} {P : State → Prop}

theorem State.begin_keeps (s : State) (r : CmdRef) (c : Nat) (ps : Bytes) (p : Nat) (n : Option Nat) (i : Bytes) :
    ∃ h, s.begin r c ps p n i = { s with host := h } := by
  rw [State.begin]
  split
  exacts [⟨s.host, rfl⟩, ⟨_, rfl⟩]

/-- A fresh command whose effect, on the state with any host interface, ends it with OK: it completes. -/
theorem completes_of_oks (hf : s.fresh r = true) (he : exec c s = .next (runCmd r code ps p f s))
    (H : ∀ h : HostIf, ∃ u : State, f { s with host := h } = u.oks ∧ u.host.busy = h.busy ∧ P (u.done r .ok)) :
    Completes c r s P := by
  obtain ⟨h, hb⟩ := s.begin_keeps r code ps p none (s.hostIdOf r.org)
  obtain ⟨u, hu, hbusy, hP⟩ := H h
  have hr := s.busyOf_begin (s.fresh_busy hf) code ps p none (s.hostIdOf r.org)
  rw [hb, State.busyOf, ← hbusy] at hr
  refine ⟨u.done r .ok, ?_, u.statusOf_answer _ hr rfl, hP⟩
  rw [he, runCmd_fresh _ hf, hb, hu]
  rfl

/-- A fresh command whose effect, on the state with any host interface, leaves it waiting: the row answers with that effect. -/
theorem answers_of_waits (hf : s.fresh r = true) (he : exec c s = .next (runCmd r code ps p f s))
    (H : ∀ h : HostIf, ∃ u : State, f { s with host := h } = u.waits ∧ P u) : Answers c s P := by
  obtain ⟨h, hb⟩ := s.begin_keeps r code ps p none (s.hostIdOf r.org)
  obtain ⟨u, hu, hP⟩ := H h
  refine ⟨u, ?_, hP⟩
  rw [he, runCmd_fresh _ hf, hb, hu]
  rfl

end

section
variable (s : State)

@[simp] theorem State.reg_setRecord_self (f : Fld) (i j v : Nat) : (s.setRecord f i j v).reg f i j = v % 2 ^ f.width :=
  s.reg_setReg_self f i j v

theorem State.reg_setRecord (f g : Fld) (i j v i' j' : Nat) :
    (s.setRecord f i j v).reg g i' j' = if f = g ∧ i = i' ∧ j = j' then v % 2 ^ f.width else s.reg g i' j' :=
  s.reg_setReg f g i j v i' j'

/-! ## Margins and the re-plan (R422, R424) -/

theorem State.reg_temperSample (taps : List TapReading) (h : s.temperWaits = false) :
    (s.temperSample taps).reg .svcTemperSamples 0 0 =
      min (2 ^ Fld.svcTemperSamples.width - 1) (s.reg .svcTemperSamples 0 0 + 1) := by
  have hread : Kept (.without [.svcTemperSamples] []) (s.bump .svcTemperSamples 0 0 1)
      ((s.bump .svcTemperSamples 0 0 1).readTaps taps) :=
    kept_readTaps ⟨by decide +kernel, by decide +kernel⟩ .refl
  rw [State.temperSample, if_neg (by simp [h]), ← s.reg_bump_self]
  refine Kept.reg_without (ks := []) ?_ (List.mem_singleton_self _) 0 0
  dsimp only
  split
  exacts [kept_replanGo ⟨by decide +kernel, by decide +kernel⟩ hread, hread]

theorem State.replan_replanEnd (ref : Option CmdRef) (st : Status) : (s.replanEnd ref st).svc.replan = none := by
  cases ref with
  | none => rfl
  | some r => exact congrArg Svc.replan (State.svc_answer _ r _)

/-- With no region below the guard the re-plan ends. -/
theorem State.replanGo_of_above (ref : Option CmdRef) (h : s.powered.filter s.belowGuard = []) :
    s.replanGo ref = s.replanEnd ref .ok := by
  simp only [State.replanGo, h]

theorem State.replan_temperResample {taps : List TapReading} {ref : Option CmdRef} (hr : s.svc.replan = some ref)
    (hw : s.temperWaits = false) (hg : (s.readTaps taps).powered.filter (s.readTaps taps).belowGuard = []) :
    (s.temperResample taps).svc.replan = none := by
  simp only [State.temperResample, hr]
  rw [if_neg (by simp [hw]), State.replanGo_of_above _ ref hg, State.replan_replanEnd]

/-- Every region of a list whose VCORE has been set to 700 mV has it when all are set. -/
theorem State.vcore_setRecord_fold {l : List Nat} {n : Nat} (h : n ∈ l) :
    (l.foldl (fun s n => s.setRecord .svcRegionVcoreMv 0 n 700) s).reg .svcRegionVcoreMv 0 n = 700 := by
  have hw : 700 % 2 ^ Fld.svcRegionVcoreMv.width = 700 := by decide +kernel
  exact foldl_of_mem (P := fun n (t : State) => t.reg .svcRegionVcoreMv 0 n = 700)
    (fun t n => by rw [State.reg_setRecord_self, hw])
    (fun t n k ht => by rw [State.reg_setRecord, hw, ht, ite_self]) h

theorem State.cmdTemperReplan_waits {r : CmdRef} (ho : s.isOwnerOrLocal r.org = true) (hm : s.modMode = Mod.maintenance)
    (hi : s.svc.insertion = none) (hq : s.svc.queued = []) (hr : s.svc.replan = none) :
    ∃ u : State, cmdTemperReplan r s = u.waits ∧ u.svc.replan = some (some r) ∧ u.reg .svcTemperCeilMhz 0 0 = 1800 ∧
      ∀ n ∈ s.powered, u.reg .svcRegionVcoreMv 0 n = 700 := by
  have hw : 1800 % 2 ^ Fld.svcTemperCeilMhz.width = 1800 := by decide +kernel
  rw [cmdTemperReplan, refuseIf_ok _ (by simp [State.ownerOrLocal, ho, hm, hi, hq, hr])]
  refine ⟨_, rfl, rfl, (State.reg_limitFollow _ (by decide) 0 0).trans ?_, fun n hn =>
    (State.reg_limitFollow _ (by decide) 0 n).trans ?_⟩
  · rw [State.reg_setRecord_self, hw]
  · rw [State.reg_setRecord, if_neg (by simp)]
    exact s.vcore_setRecord_fold hn

/-! ## Store scrub (R431) -/

/-- A single-bit error that the scrubber finds is gone. -/
theorem State.flawOf_storeScrub {st : Store} {k : Key} {p : Nat} (hp : s.hearthPart (k.getD 0 0) (k.getD 1 0) = some p)
    (hb : st ≠ .bank) (hl : st ≠ .link) (h1 : flawOf s.fab st k = 1) (hon : s.regionOn (regionOf (k.getD 0 0) (k.getD 1 0)) = true) :
    flawOf (s.storeScrub st k).fab st k = 0 := by
  have hk : Kept (.without [] [.fab])
      { s.scrubCount st k with fab := { s.fab with flaws := Tab.put 0 s.fab.flaws (st.ctorIdx :: k) 0 } } (s.storeScrub st k) := by
    simp only [State.storeScrub, hp]
    rw [if_neg (by simp only [hb, hl, h1, hon]; decide), if_pos h1]
    exact kept_careFor ⟨by decide +kernel, by decide +kernel⟩
      (kept_ite (kept_noteCorr ⟨by decide +kernel, by decide +kernel⟩ .refl) .refl)
  have hfab : (s.storeScrub st k).fab = { s.fab with flaws := Tab.put 0 s.fab.flaws (st.ctorIdx :: k) 0 } :=
    hk.part_without (k := .fab) (List.mem_singleton_self _)
  rw [flawOf, hfab]
  dsimp only
  exact Tab.get_put_self

/-! ## Heartbeats (R432, R436) -/

theorem State.kept_traceRestart_frame (c : Nat) : Kept (.without [.svcStewardAnvil] [.sys, .svc]) s (s.traceRestart c) :=
  kept_traceRestart ⟨by decide +kernel, by decide +kernel⟩ .refl

/-- A steward that fails elsewhere than on anvil 1 moves there, and restarts. -/
theorem State.failover_moved (h : s.steward ≠ 1) : s.failover.steward = 1 ∧ s.failover.sys.stewardDown = true := by
  have hw : 1 % 2 ^ Fld.svcStewardAnvil.width = 1 := by decide +kernel
  have hk : Kept (.without [.svcStewardAnvil] []) (s.stewardRestart.setReg .svcStewardAnvil 0 0 1) s.stewardRestart.stewardMoved :=
    kept_mEvent ⟨by decide +kernel, by decide +kernel⟩ (kept_condition ⟨by decide +kernel, by decide +kernel⟩
      (kept_setRecord ⟨by decide +kernel, by decide +kernel⟩ (by decide +kernel) .refl))
  rw [State.failover, if_neg h]
  refine ⟨?_, congrArg Sys.stewardDown (Kept.part_without (State.kept_traceRestart_frame _ s.steward) (k := .sys) (by simp))⟩
  refine ((State.kept_traceRestart_frame _ s.steward).reg_without (List.mem_singleton_self _) 0 0).trans
    (Eq.trans ?_ (hk.reg_without (List.mem_singleton_self _) 0 0 |>.trans ?_))
  · exact reg_congr rfl rfl rfl rfl
  · rw [State.reg_setReg_self, hw]

theorem State.heartbeat_of_steward {c : Nat} (hoff : s.sys.off = false) (hc : c < s.grade.anvils) (hd : s.sys.stewardDown = false)
    (hout : bit (s.reg .svcCpout 0 0) c = false) (hs : s.sys.steward = true ∧ s.steward = c) : s.heartbeat c = s.failover := by
  rw [State.heartbeat, if_neg (by simp [hoff, hc, hd, hout]), if_pos hs]

/-- The losses of a CP within the last 10 minutes, that of now included (R432). -/
def State.recentLosses (c : Nat) : List Nat :=
  (Tab.get [] s.svc.restarts [c]).filter (fun x => decide (s.now < x + 600000000000)) ++ [s.now]

/-- The loss of another CP is noted, beside those of the last 10 minutes. -/
theorem State.restarts_heartbeat {c : Nat} (hoff : s.sys.off = false) (hc : c < s.grade.anvils) (hd : s.sys.stewardDown = false)
    (hout : bit (s.reg .svcCpout 0 0) c = false) (hs : ¬(s.sys.steward = true ∧ s.steward = c)) :
    Tab.get [] (s.heartbeat c).svc.restarts [c] = s.recentLosses c := by
  have hk : Kept (.without [] [.svc])
      { s with svc := { s.svc with restarts := Tab.put [] s.svc.restarts [c] (s.recentLosses c) } } (s.heartbeat c) := by
    rw [State.heartbeat, if_neg (by simp [hoff, hc, hd, hout]), if_neg hs]
    exact kept_ite (kept_condition ⟨by decide +kernel, by decide +kernel⟩ (kept_setReg (by decide +kernel) .refl))
      (kept_traceRestart ⟨by decide +kernel, by decide +kernel⟩ .refl)
  have hsvc : (s.heartbeat c).svc = { s.svc with restarts := Tab.put [] s.svc.restarts [c] (s.recentLosses c) } :=
    hk.part_without (k := .svc) (List.mem_singleton_self _)
  rw [hsvc]
  exact Tab.get_put_self

/-! ## Links (R97, R432) -/

/-- The record of an uncorrectable word stands, whatever the partitions that route over the link and the link itself come to. -/
theorem State.flag_linkWord {a l : Nat} (hl : Grade.hasLink s.grade a l = true) (hon : s.anvilOn a = true)
    (hout : bit (s.reg .svcLinkOut 0 0) (3 * a + l) = false) : (s.linkWord a l).flag .linkErrUncorr (3 * a + l) 0 = true := by
  have hk : Kept (.without [.linkErrUncorr] []) ((s.zeroWord a l).setReg .linkErrUncorr (3 * a + l) 0 1) (s.linkWord a l) := by
    rw [State.linkWord, if_neg (by simp [hl, hon, hout])]
    refine kept_ite (kept_linkOut ⟨by decide +kernel, by decide +kernel⟩ ?_) ?_
    all_goals exact Kept.setSvc (kept_foldl (fun _ _ ht => kept_assertEntry ⟨by decide +kernel, by decide +kernel⟩
      (kept_pError ⟨by decide +kernel, by decide +kernel⟩ ht)) .refl) (by decide +kernel)
  exact (State.flag_congr _ (hk.reg_without (List.mem_singleton_self _) _ _)).trans (State.flag_setReg_one _ _ _ _)

theorem State.reg_linkOut (a l : Nat) : (s.linkOut a l).reg .svcLinkOut 0 0 =
    setBit (setBit (s.reg .svcLinkOut 0 0) (3 * a + l) true) (3 * linkPeer a l + linkFacing l) true % 2 ^ 24 := by
  have hw : Fld.svcLinkOut.width = 24 := by decide +kernel
  rw [State.linkOut, ← hw, ← State.reg_setRecord_self]
  exact Kept.reg_without (kept_condition ⟨by decide +kernel, by decide +kernel⟩ .refl : Kept (.without [.svcLinkOut] []) _ _)
    (List.mem_singleton_self _) 0 0

/-- The ports of a populated link and of its peer have numbers of a module of eight anvils (R93). -/
theorem Grade.hasLink_lt {g : Grade} {a l : Nat} (h : Grade.hasLink g a l = true) :
    3 * a + l < 24 ∧ 3 * linkPeer a l + linkFacing l < 24 := by
  have hg := Grade.anvils_le g
  simp only [Grade.hasLink, Bool.and_eq_true, Bool.or_eq_true, decide_eq_true_eq] at h
  have hl : l < 3 := by omega
  refine ⟨by omega, ?_⟩
  rw [linkPeer, linkFacing, anvilRow, anvilCol]
  split_ifs <;> omega

/-- A link that fails is out of service at both its ports. -/
theorem State.bit_linkOut {a l : Nat} (h : Grade.hasLink s.grade a l = true) :
    bit ((s.linkOut a l).reg .svcLinkOut 0 0) (3 * a + l) = true ∧
      bit ((s.linkOut a l).reg .svcLinkOut 0 0) (3 * linkPeer a l + linkFacing l) = true := by
  obtain ⟨hport, hpeer⟩ := Grade.hasLink_lt h
  simp only [s.reg_linkOut, bit_eq_testBit, Nat.testBit_mod_two_pow, testBit_setBit_true, hport, hpeer, decide_true, Bool.true_or,
    Bool.or_true, Bool.and_self, and_self]

theorem State.linkRetrain_failed {a l : Nat} (hl : Grade.hasLink s.grade a l = true) (hon : s.anvilOn a = true)
    (hout : bit (s.reg .svcLinkOut 0 0) (3 * a + l) = false) (herr : Tab.get [] s.svc.linkErrs [a, l] ≠ []) :
    exec (.linkRetrain a l false) s = .next (s.linkOut a l) :=
  congrArg Host.Outcome.next (if_pos ⟨hl, hon, herr, rfl, by simp [hout]⟩)

/-! ## Maintenance (R433, R434) -/

theorem State.cmdSvcMaint_module {r : CmdRef} {enter : Nat} (regions : Nat) (ho : s.isOwnerOrLocal r.org = true) (he : enter < 2)
    (hm : s.modMode = if enter = 1 then Mod.service else Mod.maintenance)
    (hx : enter = 1 → s.partitions.any s.executing = false) :
    cmdSvcMaint r 1 enter regions s =
      (s.setReg .modStateMode 0 0 (if enter = 1 then Mod.maintenance else Mod.service)).oks := by
  rw [cmdSvcMaint, refuseIf_ok _ (by simp [State.ownerOrLocal, ho, he]), if_neg (by decide), refuseIf_ok]
  intro c hc
  simp only [List.mem_cons, List.not_mem_nil, or_false] at hc
  rcases hc with rfl | rfl
  · simp [hm]
  · by_cases e : enter = 1 <;> simp [e, hx]

theorem State.modMode_setReg {m : Nat} (h : m < 8) : (s.setReg .modStateMode 0 0 m).modMode = m :=
  s.reg_setReg_of_lt (h.trans_le (by decide +kernel)) 0 0

theorem State.cmdSvcMaint_regions {r : CmdRef} {regions : Nat} (ho : s.isOwnerOrLocal r.org = true) (hne : setBitsOf 64 regions ≠ [])
    (hsb : s.modStandby = false) (hx : ∀ x ∈ setBitsOf 64 regions, x < s.grade.regions ∧ s.regionState x ≠ 2 ∧
      s.regionPart x = none ∧ s.draining x = false ∧ s.domainFailed x = false) :
    cmdSvcMaint r 0 1 regions s = ((setBitsOf 64 regions).foldl State.maintEnter s).oks := by
  have hin : (setBitsOf 64 regions).any (fun x => decide (s.grade.regions ≤ x)) = false :=
    List.any_eq_false.2 fun x hm => by simp [hx x hm]
  have hlive : (setBitsOf 64 regions).any (fun x => decide (s.regionState x = 2)) = false :=
    List.any_eq_false.2 fun x hm => by simp [hx x hm]
  have hidle : (setBitsOf 64 regions).any (fun x => (s.regionPart x).isSome || s.draining x) = false :=
    List.any_eq_false.2 fun x hm => by simp [hx x hm]
  have hgood : (setBitsOf 64 regions).any s.domainFailed = false :=
    List.any_eq_false.2 fun x hm => by simp [hx x hm]
  rw [cmdSvcMaint, refuseIf_ok _ (by simp only [hin]; simp [State.ownerOrLocal, ho]), if_pos rfl, maintRegions,
    refuseIf_ok _ (by simp only [State.maintChecks, hin, hlive, hidle, hgood]; simp [hne, hsb]), if_pos rfl]

theorem State.kept_maintEnter_fold (rs : List Nat) : Kept (.without [] [.commands]) s (rs.foldl State.maintEnter s) :=
  kept_foldl (fun _ _ h => kept_maintEnter ⟨by decide +kernel, by decide +kernel⟩ h) .refl

theorem State.reg_domainUp_svcRegionState (r k : Nat) : (s.domainUp r).reg .svcRegionState 0 k = s.reg .svcRegionState 0 k :=
  Kept.reg_without (kept_domainUp ⟨by decide +kernel, by decide +kernel⟩ .refl : Kept (.without [.svcRegionState] []) s (s.domainUp r))
    (List.mem_singleton_self _) 0 k

/-- Every region that enters MAINTENANCE is there when all have entered. -/
theorem State.regionState_maintEnter_fold {rs : List Nat} {x : Nat} (h : x ∈ rs) :
    (rs.foldl State.maintEnter s).regionState x = 1 := by
  have hw : 1 % 2 ^ Fld.svcRegionState.width = 1 := by decide +kernel
  refine foldl_of_mem (P := fun x (t : State) => t.regionState x = 1) (fun t x => ?_) (fun t x y ht => ?_) h
  · rw [State.regionState, State.maintEnter, State.reg_setReg_self, hw]
  · rw [State.regionState, State.maintEnter, State.reg_setReg, hw, State.reg_domainUp_svcRegionState]
    split
    exacts [rfl, ht]

/-! ## The self-test (R434) -/

/-- Banks that are cleared one hearth after another are a change of the fabric alone. -/
theorem State.foldl_clearBanks (l : List (Nat × Nat)) :
    l.foldl (fun s ah => { s with fab := s.fab.clearBanks ah.1 ah.2 }) s =
      { s with fab := l.foldl (fun g ah => g.clearBanks ah.1 ah.2) s.fab } := by
  induction l generalizing s with
  | nil => rfl
  | cons ah l ih => exact ih _

/-- Every word of a hearth whose banks have been cleared reads 0. -/
theorem Fab.banks_clearBanks_fold {l : List (Nat × Nat)} {ah : Nat × Nat} (g : Fab) (h : ah ∈ l) (b addr : Nat) :
    Tab.get 0 (l.foldl (fun g ah => g.clearBanks ah.1 ah.2) g).banks [ah.1, ah.2, b, addr] = 0 := by
  refine foldl_of_mem (P := fun (ah : Nat × Nat) (g : Fab) => Tab.get 0 g.banks [ah.1, ah.2, b, addr] = 0) (fun g ah => ?_)
    (fun g ah bh hg => ?_) h
  · rw [Fab.clearBanks, Tab.get, Tab.find?_keep_out (by simp)]; rfl
  · rw [Fab.clearBanks]
    cases hk : !decide (bh.1 = ah.1 ∧ bh.2 = ah.2) with
    | true => exact (Tab.get_keep hk).trans hg
    | false => rw [Tab.get, Tab.find?_keep_out hk]; rfl

theorem State.cmdSvcSelftest_clean {r : CmdRef} {regions : Nat} (ho : s.isOwnerOrLocal r.org = true)
    (hne : setBitsOf 64 regions ≠ [])
    (hx : ∀ x ∈ setBitsOf 64 regions, x < s.grade.regions ∧ s.regionState x = 1 ∧ s.regionOn x = true) :
    cmdSvcSelftest r regions [] s = ({ s with fab :=
      ((setBitsOf 64 regions).flatMap hearthsOf).foldl (fun g ah => g.clearBanks ah.1 ah.2) s.fab } : State).oks := by
  have hin : (setBitsOf 64 regions).any (fun x => decide (s.grade.regions ≤ x)) = false :=
    List.any_eq_false.2 fun x hm => by simp [hx x hm]
  have hlive : (setBitsOf 64 regions).any (fun x => decide (s.regionState x = 2)) = false :=
    List.any_eq_false.2 fun x hm => by simp [hx x hm]
  have hmaint : (setBitsOf 64 regions).any (fun x => decide (s.regionState x ≠ 1) || !s.regionOn x) = false :=
    List.any_eq_false.2 fun x hm => by simp [hx x hm]
  rw [cmdSvcSelftest, refuseIf_ok _ (by simp only [State.maintChecks, hin, hlive, hmaint]; simp [State.ownerOrLocal, ho, hne])]
  simp only [List.filter_nil, List.foldl_nil, State.foldl_clearBanks]
  exact if_neg (Bool.eq_false_iff.1 hlive)

/-! ## Billets (R439) -/

/-- The partition of a hearth is read from the partitions that exist and their regions. -/
theorem State.hearthPart_congr {t : State} (h : ∀ f ∈ [Fld.partRunExists, .partRgnLo, .partRgnHi], ∀ p, t.reg f p 0 = s.reg f p 0)
    (a k : Nat) : t.hearthPart a k = s.hearthPart a k := by
  simp only [State.hearthPart, State.regionPart, State.pExists, State.flag, State.rgnMask, State.reg64, h .partRunExists (by simp),
    h .partRgnLo (by simp), h .partRgnHi (by simp)]

theorem State.executing_congr {t : State} (h : ∀ f ∈ [Fld.partRunExists, .partRunMode], ∀ p, t.reg f p 0 = s.reg f p 0)
    (hp : t.parts = s.parts) : t.executing = s.executing := by
  funext p
  have he : t.pExists p = s.pExists p := by rw [State.pExists, State.pExists, s.flag_congr (h .partRunExists (by simp) p)]
  have hm : t.mode p = s.mode p := h .partRunMode (by simp) p
  have hpart : t.part p = s.part p := by rw [State.part, State.part, hp]
  rw [State.executing, State.executing, State.running, State.running, he, hm, hpart]

/-- With none under way, the only insertion that waits starts, unless it is deferred. -/
theorem State.insertion_nextInsertion {a h : Nat} {lbps : List Nat} {ref : Option CmdRef} (hi : s.svc.insertion = none)
    (hq : s.svc.queued = [(a, h, lbps, ref)]) (hd : s.deferred a h = false) :
    s.nextInsertion.svc.insertion = some ⟨a, h, lbps, ref, (s.hearthPart a h).filter s.executing⟩ := by
  have hnext : s.svc.queued.find? (fun q => !s.deferred q.1 q.2.1) = some (a, h, lbps, ref) := by simp [hq, hd]
  simp only [State.nextInsertion, hi, hnext]
  rfl

/-- With none under way and none waiting, an insertion that is not deferred starts at once. -/
theorem State.insertion_requestInsertion {a h : Nat} (lbps : List Nat) (ref : Option CmdRef) (hi : s.svc.insertion = none)
    (hq : s.svc.queued = []) (hd : s.deferred a h = false) :
    (s.requestInsertion a h lbps ref).svc.insertion = some ⟨a, h, lbps, ref, (s.hearthPart a h).filter s.executing⟩ :=
  State.insertion_nextInsertion { s with svc := { s.svc with queued := s.svc.queued ++ [(a, h, lbps, ref)] } } hi
    (congrArg (· ++ [(a, h, lbps, ref)]) hq) hd

theorem State.markFailed_leaves (a h n : Nat) :
    Kept (.without [.partRunExists, .partRgnLo, .partRgnHi, .partRunMode] [.parts]) s (s.markFailed a h n) :=
  kept_markFailed ⟨by decide +kernel, by decide +kernel⟩ .refl

theorem State.insertions_markFailed (a h n : Nat) :
    (s.markFailed a h n).svc.insertion = s.svc.insertion ∧ (s.markFailed a h n).svc.queued = s.svc.queued := by
  rw [State.markFailed]
  split
  exacts [⟨rfl, rfl⟩, ⟨rfl, rfl⟩]

theorem State.cmdBilletInsert_waits {r : CmdRef} {a h lbp : Nat} (ho : s.isOwnerOrLocal r.org = true) (ha : a < s.grade.anvils)
    (hh : h < 128) (hb : lbp < 1024) (hi : s.svc.insertion = none) (hq : s.svc.queued = []) (hr : s.svc.replan = none)
    (hfree : s.freeBillets a h ≠ []) (hd : s.deferred a h = false) (hcp : bit (s.reg .svcCpout 0 0) a = false) :
    ∃ u : State, cmdBilletInsert r a h lbp s = u.waits ∧
      u.svc.insertion = some ⟨a, h, [lbp], some r, (s.hearthPart a h).filter s.executing⟩ := by
  rw [cmdBilletInsert, refuseIf_ok _ (by simp [State.ownerOrLocal, State.cpOut, *])]
  refine ⟨_, rfl, ?_⟩
  obtain ⟨hmi, hmq⟩ := s.insertions_markFailed a h (s.physOf a h lbp)
  have hk := s.markFailed_leaves a h (s.physOf a h lbp)
  have hp := s.hearthPart_congr (t := s.markFailed a h (s.physOf a h lbp))
    (fun f hf p => hk.reg_without (by simp at hf ⊢; tauto) p 0) a h
  have hx := s.executing_congr (t := s.markFailed a h (s.physOf a h lbp))
    (fun f hf p => hk.reg_without (by simp at hf ⊢; tauto) p 0) (hk.part_without (k := .parts) (by simp))
  have hd' : (s.markFailed a h (s.physOf a h lbp)).deferred a h = false := by
    have hm : ∀ p, (s.markFailed a h (s.physOf a h lbp)).mode p = s.mode p := fun p => hk.reg_without (by simp) p 0
    rw [State.deferred, hp]
    simp only [hm]
    exact hd
  refine (congrArg Svc.insertion (Kept.part_without (fs := []) (ks := [.svc]) (k := .svc)
    (kept_billetsLow ⟨by decide +kernel, by decide +kernel⟩ .refl) (List.mem_singleton_self _))).trans ?_
  rw [State.insertion_requestInsertion _ _ _ (hmi.trans hi) (hmq.trans hq) hd', hp, hx]

end

/-! ## The rows complete -/

/-- Settles O20: each row, through the lemma that says what its operation leaves. -/
theorem serviceRowsComplete : Obligations.ServiceRowsComplete := by
  refine ⟨fun taps s hw => ⟨_, rfl, s.reg_temperSample taps hw⟩,
    fun taps s ref hr hw hg => ⟨_, rfl, s.replan_temperResample hr hw hg⟩,
    fun st k s p hp hb hl h1 hon => ⟨_, rfl, s.flawOf_storeScrub hp hb hl h1 hon⟩,
    fun c s hoff hc hd hout => ⟨_, rfl, ?_⟩,
    fun a l s hl hon hout => ⟨⟨_, rfl, s.flag_linkWord hl hon hout⟩,
      fun herr => ⟨_, s.linkRetrain_failed hl hon hout herr, s.bit_linkOut hl⟩⟩,
    fun s hoff hf => answers_of_eq rfl (if_neg (by simp [hoff, hf])) rfl,
    fun r regions s hf ho => ⟨fun hm hx => ?_, fun hm => ?_, fun hne hsb hx => ?_⟩,
    fun r regions s hf ho hne hx => ?_,
    fun r s hf ho hm hi hq hr => answers_of_waits hf rfl fun h =>
      State.cmdTemperReplan_waits { s with host := h } ho hm hi hq hr,
    fun r a h lbp s hf ho ha hh hb hi hq hr hfree hd hcp => answers_of_waits hf rfl fun x =>
      State.cmdBilletInsert_waits { s with host := x } ho ha hh hb hi hq hr hfree hd hcp⟩
  · split
    · next hs => rw [s.heartbeat_of_steward hoff hc hd hout hs]; exact fun h1 => s.failover_moved (hs.2 ▸ h1)
    · next hs => exact s.restarts_heartbeat hoff hc hd hout hs
  · exact completes_of_oks hf rfl fun h => ⟨_, State.cmdSvcMaint_module { s with host := h } regions ho (by decide) hm fun _ => hx,
      rfl, (State.reg_done ..).trans (State.modMode_setReg _ (by decide))⟩
  · exact completes_of_oks hf rfl fun h => ⟨_, State.cmdSvcMaint_module { s with host := h } regions ho (by decide) hm (by simp),
      rfl, (State.reg_done ..).trans (State.modMode_setReg _ (by decide))⟩
  · refine completes_of_oks hf rfl fun h => ⟨_, State.cmdSvcMaint_regions { s with host := h } ho hne hsb hx, ?_, fun x hm =>
      (State.reg_done ..).trans (State.regionState_maintEnter_fold _ hm)⟩
    obtain ⟨-, hbusy, -⟩ := (State.kept_maintEnter_fold { s with host := h } (setBitsOf 64 regions)).part_without
      (k := .commands) (List.mem_singleton_self _)
    exact hbusy
  · refine completes_of_oks hf rfl fun h => ⟨_, State.cmdSvcSelftest_clean { s with host := h } ho hne hx, rfl,
      fun x hm ah hah b addr => ?_⟩
    rw [State.done, State.fab_answer]
    exact Fab.banks_clearBanks_fold _ (List.mem_flatMap.2 ⟨x, hm, hah⟩) b addr

end Sys2Proof.Machine
end

section
/-! PROOFS. A request of a DRAM controller is served (09_dram.md, R258, R266), and what a read in the range of the audit log delivers
(R327). -/

namespace Sys2Proof.Machine

/-- What DRAM_REQUEST_SERVE answers with is the state that `State.serve` gives. -/
theorem answers_dramRequestServe {a id : Nat} {bad second : List (Nat × Nat)} {crc : Nat} {s : State} {P : State → Prop} :
    Answers (.dramRequestServe a id bad second crc) s P ↔ P (s.serve a id bad second crc) :=
  ⟨fun ⟨_, ht, hP⟩ => Host.Outcome.next.inj ht ▸ hP, fun hP => ⟨_, rfl, hP⟩⟩

/-- A memory port's read of eight bytes in the range of the audit log: bytes 16 to 23 of its first entry (R326, R327). -/
def logRead : DReq := ⟨9, 0, 0, Config.auditBase + 16, 8, false, [], .port 5, false, true⟩

/-- Anvil 0 is on, the log holds one entry of the module itself, and `logRead` waits at the controller; the DRAM itself holds zeros. -/
def logReadWaits : State :=
  ({ State.reset with
      sys := { Sys.init with anvilOn := [([0], true)] }
      dram := { Dram.init with reqs := [([0], [logRead])] } }).auditAction .ok 0xFFFF 0

theorem logReadWaits_servable : logReadWaits.servable 0 9 logRead := by
  unfold State.servable
  decide +kernel

/-- The decoder delivers the burst as it stands in the memory: zeros. -/
theorem logReadWaits_delivered :
    Tab.get false logReadWaits.dram.poison [0, logReadWaits.reqLin 0 logRead / 64] = false ∧
      logReadWaits.delivered 0 logRead [] [] = some (zeros 64) := by
  decide +kernel

/-- The port gets the bytes of the log's entry instead: ROLE 4, PORT 0x30, KIND 2 and partition 0xFFFF (R326). -/
theorem logReadWaits_back :
    Tab.get 0 (logReadWaits.serve 0 9 [] [] 0).dram.back [0, 5] = 1 + leVal [4, 0x30, 0, 0, 2, 0, 0xFF, 0xFF] := by
  decide +kernel

/-- Refutes O5: a memory port reads in the range of the audit log on anvil 0. Such a read has the bytes of the log, not those of the
memory under it (R327, log entry 159), while the clause on a memory port's read says that the word is what the decoder delivers of the
memory. The clause sets no bound on the address of the request; R327 keeps the range out of every allocation. -/
theorem not_dramEventsComplete : ¬ Obligations.DramEventsComplete := by
  rintro ⟨-, -, -, -, -, -, hread, -⟩
  obtain ⟨hpoison, hburst⟩ := logReadWaits_delivered
  have hzero := answers_dramRequestServe.1
    (hread 0 9 [] [] 0 logReadWaits logRead 5 (zeros 64) logReadWaits_servable rfl rfl (by decide) hpoison hburst)
  rw [logReadWaits_back] at hzero
  exact absurd hzero (by decide +kernel)

end Sys2Proof.Machine
end

section
/-! PROOFS. A quench whose landing point lies ahead (05_run_control_and_compare.md, R155, R159). -/

namespace Sys2Proof.Machine

/-- Partition 0 in FREE-RUN, frozen by the duty throttle (cause 0x5). An uncorrectable error (cause 0xB) is active and latched beside it;
its own landing point, after the boundary of cycle 0, still lies ahead (R81, R155). -/
def landingAhead : State :=
  (((((State.reset.setReg .partRunExists 0 0 1).setReg .partRunMode 0 0 Mode.freeRun).setReg .partRunQuenched 0 0 1).setReg
    .partQuenchActive 0 0 (2 ^ Cause.throttle + 2 ^ Cause.uncorr)).setLatched 0 (2 ^ Cause.uncorr)).modPart 0
    fun x => { x with entering := [⟨Cause.uncorr, 1, 0, true⟩] }

theorem landingAhead_frozen : landingAhead.executing 0 = true ∧ landingAhead.frozen 0 = true := by
  decide +kernel

/-- The throttle releases, and the uncorrectable error asserts again in the same step, at entry + Q_LAT this time: that extends nothing,
so the error's freeze still lies ahead, nothing else holds the partition, and it resumes. -/
theorem landingAhead_resumes :
    (((landingAhead.releaseCause 0 Cause.throttle).assertAt 0 Cause.uncorr (0, 0) true false).resume 0).frozen 0 = false := by
  decide +kernel

/-- Refutes O47: a partition is frozen by the throttle while an uncorrectable error, whose landing point lies ahead, is active. The
throttle releases and the error asserts again in one step, and PARTITION_RESUME resumes the partition. The second clause says that it
stays frozen; it leaves out what the third demands, that every landing point on its way has been reached (log entry 169). -/
theorem not_assertedAgainExtendsNothing : ¬ Obligations.AssertedAgainExtendsNothing := by
  rintro ⟨-, hagain, -⟩
  obtain ⟨hx, hf⟩ := landingAhead_frozen
  have hstays := hagain landingAhead 0 Cause.throttle Cause.uncorr (0, 0) true _ hx hf (by decide) (by decide) rfl
  rw [landingAhead_resumes] at hstays
  exact absurd hstays (by decide)

end Sys2Proof.Machine
end

section
/-! PROOFS. Commands that name a partition (05_run_control_and_compare.md, R146, R147, R157, R444): which of them pass the conditions of
R444, and what a command that is refused leaves. -/

-- The checks of register spans run one after another: run at once, each holds a thread with a stack of its own.
set_option Elab.async false

namespace Sys2Proof.Machine

/-! ## The conditions of R444 -/

section
variable {s : State} {o : Origin} {r : CmdRef} {p : Nat} {k : State → CmdRes}

/-- The first conditions hold: the ones after them decide. -/
theorem refuseIf_append {cs ds : List (Bool × Status)} (h : ∀ c ∈ cs, c.1 = false) :
    refuseIf (cs ++ ds) s k = refuseIf ds s k := by
  induction cs with
  | nil => rfl
  | cons c cs ih =>
    rw [List.cons_append, refuseIf_tail _ (h c (List.mem_cons_self ..)), ih fun x hx => h x (List.mem_cons_of_mem _ hx)]

theorem State.lt_of_pExists (h : s.pExists p = true) : p < 32 := by
  rw [State.pExists, Bool.and_eq_true] at h
  exact of_decide_eq_true h.1

/-- The owner, or the tenant port, of a partition that exists may name it. -/
theorem State.partChecks_pass (hx : s.pExists p = true) (hm : s.mayPart o p = true) : ∀ c ∈ s.partChecks o p, c.1 = false := by
  have := State.lt_of_pExists hx
  simp [State.partChecks, hx, hm, this]

/-- Another origin may not (R146). -/
theorem refuseIf_foreign {cs : List (Bool × Status)} (hx : s.pExists p = true) (hm : s.mayPart o p = false) :
    refuseIf (s.partChecks o p ++ cs) s k = s.says .notOwner := by
  have := State.lt_of_pExists hx
  rw [State.partChecks, List.cons_append, refuseIf_tail _ (by simpa using this), List.cons_append, refuseIf_tail _ (by simp [hx]),
    List.cons_append, refuseIf_head _ (by simp [hm])]

/-- A partition that does not exist cannot be named (R147). -/
theorem refuseIf_absent {cs : List (Bool × Status)} (hx : s.pExists p = false) :
    refuseIf (s.partChecks o p ++ cs) s k = s.says .notPresent := by
  rw [State.partChecks, List.cons_append]
  by_cases h : p < 32
  · rw [refuseIf_tail _ (by simpa using h), List.cons_append, refuseIf_head _ (by simp [hx])]
  · rw [refuseIf_head _ (by simpa using h)]

/-- Local service is no tenant of a partition (R302). -/
theorem State.role_of_mayPart (h : s.mayPart o p = true) : s.role o ≠ Role.local_ := by
  intro hl
  cases o with
  | uart => simp [State.mayPart, State.isOwner, State.isTenantOf, hl, Role.local_, Role.owner] at h
  | host n => rw [State.role] at hl; split at hl <;> simp [Role.owner, Role.tenant, Role.local_] at hl
  | mgmt n => simp [State.role, Role.owner, Role.local_] at hl
  | cp n => simp [State.role, Role.module, Role.local_] at hl

theorem State.admits_iff : s.admits r p = true ↔ s.fresh r = true ∧ s.pExists p = true ∧ s.mayPart r.org p = true := by
  simp [State.admits, and_assoc]

end

/-! ## What a refused command leaves -/

section
variable {c : Instr} {r : CmdRef} {code p : Nat} {ps : Bytes} {f : State → CmdRes} {s : State} {st : Status}

/-- The command answers with the status, and changes nothing but itself and the audit log. -/
def Refuses (c : Instr) (r : CmdRef) (s : State) (st : Status) : Prop :=
  Answers c s fun t => t.statusOf r = some st ∧ Touches (fun _ => false) [.commands, .log] s t

/-- A fresh command whose effect, on the state with any host interface, is to say a status: it is refused with it. -/
theorem refuses_of_says (hf : s.fresh r = true) (he : exec c s = .next (runCmd r code ps p f s))
    (H : ∀ h : HostIf, f { s with host := h } = State.says { s with host := h } st) : Refuses c r s st := by
  obtain ⟨h, hb⟩ := s.begin_keeps r code ps p none (s.hostIdOf r.org)
  have hr := s.busyOf_begin (s.fresh_busy hf) code ps p none (s.hostIdOf r.org)
  have hk : Kept ⟨0, pieceBits [.commands, .log]⟩ s ((s.begin r code ps p none (s.hostIdOf r.org)).answer r ⟨st, 0, []⟩) :=
    kept_answer ⟨by decide, by decide⟩ (kept_begin ⟨by decide, by decide⟩ .refl)
  refine ⟨_, ?_, State.statusOf_answer _ ⟨st, 0, []⟩ hr rfl, hk.touches (fun f _ => Nat.zero_testBit _) fun k => pieceBits_among⟩
  rw [he, runCmd_fresh _ hf, hb, H]
  rfl

end

/-! ## Commands from a foreign origin, or on a partition that does not exist (R146, R147) -/

section
variable {c : Instr} {r : CmdRef} {code p : Nat} {ps : Bytes} {f : State → CmdRes} {s : State}

/-- The command checks, in the order of R444, some conditions that hold, then that its origin may name the partition, then others. -/
def ChecksPart (f : State → CmdRes) (r : CmdRef) (p : Nat) (s : State) : Prop :=
  ∃ pre post k, f s = refuseIf (pre ++ (s.partChecks r.org p ++ post)) s k ∧ ∀ x ∈ pre, x.1 = false

theorem ChecksPart.foreign (h : ChecksPart f r p s) (hx : s.pExists p = true) (hm : s.mayPart r.org p = false) :
    f s = s.says .notOwner := by
  obtain ⟨pre, post, k, hf, hpre⟩ := h
  rw [hf, refuseIf_append hpre, refuseIf_foreign hx hm]

theorem ChecksPart.absent (h : ChecksPart f r p s) (hx : s.pExists p = false) : f s = s.says .notPresent := by
  obtain ⟨pre, post, k, hf, hpre⟩ := h
  rw [hf, refuseIf_append hpre, refuseIf_absent hx]

/-- A fresh command that makes these checks is refused from a foreign origin, and on a partition that does not exist. -/
theorem refuses_of_checksPart (hf : s.fresh r = true) (he : exec c s = .next (runCmd r code ps p f s))
    (H : ∀ h : HostIf, ChecksPart f r p { s with host := h }) :
    (s.pExists p = true → s.mayPart r.org p = false → Refuses c r s .notOwner) ∧
      (s.pExists p = false → Refuses c r s .notPresent) :=
  ⟨fun hx hm => refuses_of_says hf he fun h => (H h).foreign hx hm, fun hx => refuses_of_says hf he fun h => (H h).absent hx⟩

end

section
variable {r : CmdRef} {p : Nat} {s : State} (hl : s.role r.org ≠ Role.local_)
include hl

theorem noLocal_pass : ∀ x ∈ [s.noLocal r.org], x.1 = false := by simp [State.noLocal, hl]

theorem checksPart_partRun (mode ack cycles : Nat) : ChecksPart (cmdPartRun r p mode ack cycles) r p s :=
  ⟨_, _, _, by rw [cmdPartRun, List.append_assoc], noLocal_pass hl⟩

theorem checksPart_partStop (flush ack : Nat) : ChecksPart (cmdPartStop r p flush ack) r p s :=
  ⟨_, _, _, by rw [cmdPartStop, List.append_assoc], noLocal_pass hl⟩

theorem checksPart_partHalt (now ack : Nat) : ChecksPart (cmdPartHalt r p now ack) r p s :=
  ⟨_, _, _, by rw [cmdPartHalt, List.append_assoc], noLocal_pass hl⟩

theorem checksPart_partResume (ack : Nat) : ChecksPart (cmdPartResume r p ack) r p s :=
  ⟨_, _, _, by rw [cmdPartResume, List.append_assoc], noLocal_pass hl⟩

theorem checksPart_partUnload : ChecksPart (cmdPartUnload r p) r p s :=
  ⟨_, [], _, by rw [cmdPartUnload, List.append_nil], noLocal_pass hl⟩

theorem checksPart_captureRequest {at_ cycle edge flags : Nat} (hflags : flags < 4) :
    ChecksPart (cmdCaptureRequest r p at_ cycle edge flags) r p s :=
  ⟨_, _, _, by rw [cmdCaptureRequest, List.append_assoc], by simp [State.noLocal, hl, hflags]⟩

theorem checksPart_captureRelease : ChecksPart (cmdCaptureRelease r p) r p s :=
  ⟨_, _, _, by rw [cmdCaptureRelease, List.append_assoc], noLocal_pass hl⟩

theorem checksPart_captureDramRead {anvil offset length addr : Nat} (ha : anvil < s.grade.anvils) :
    ChecksPart (cmdCaptureDramRead r p anvil offset length addr) r p s :=
  ⟨_, _, _, by rw [cmdCaptureDramRead, List.append_assoc], by simp [State.noLocal, hl, State.noAnvil, ha]⟩

theorem checksPart_stateRead {kind anvil hearth first count addr : Nat} (ha : anvil < s.grade.anvils) (hh : hearth < 128)
    (hfirst : kind ≤ 3 → first < 1024) : ChecksPart (cmdStateRead r p kind anvil hearth first count addr) r p s :=
  ⟨_, _, _, by simp only [cmdStateRead, List.append_assoc]; rfl, by
    simpa [State.noLocal, hl, State.noAnvil, ha, noHearth, hh] using hfirst⟩

theorem checksPart_stateDeposit {kind anvil hearth first count addr flags : Nat} {data : Bytes} (ha : anvil < s.grade.anvils)
    (hh : hearth < 128) (hflags : flags < 2) (hfirst : kind = 0 → first < 1024) :
    ChecksPart (cmdStateDeposit r p kind anvil hearth first count addr flags data) r p s :=
  ⟨_, _, _, by simp only [cmdStateDeposit, List.append_assoc]; rfl, by
    simpa [State.noLocal, hl, State.noAnvil, ha, noHearth, hh, hflags] using hfirst⟩

end

/-- Settles O52: each of these commands makes the two checks on its partition before it does anything, so it is refused by them. -/
theorem foreignPartitionCommandsRefused : Obligations.ForeignPartitionCommandsRefused := by
  intro c r p s hf hl hc
  have hl' (i : HostIf) : State.role { s with host := i } r.org ≠ Role.local_ := hl
  rcases hc with ⟨m, a, n, rfl⟩ | ⟨f, a, rfl⟩ | ⟨n, a, rfl⟩ | ⟨a, rfl⟩ | rfl | ⟨a, n, e, f, hflags, rfl⟩ | rfl |
    ⟨k, a, h, x, n, d, ha, hh, hx, rfl⟩ | ⟨a, o, n, d, ha, rfl⟩ | ⟨k, a, h, x, n, d, f, b, ha, hh, hflags, hx, rfl⟩
  · exact refuses_of_checksPart hf rfl fun i => checksPart_partRun (hl' i) ..
  · exact refuses_of_checksPart hf rfl fun i => checksPart_partStop (hl' i) ..
  · exact refuses_of_checksPart hf rfl fun i => checksPart_partHalt (hl' i) ..
  · exact refuses_of_checksPart hf rfl fun i => checksPart_partResume (hl' i) ..
  · exact refuses_of_checksPart hf rfl fun i => checksPart_partUnload (hl' i)
  · exact refuses_of_checksPart hf rfl fun i => checksPart_captureRequest (hl' i) hflags
  · exact refuses_of_checksPart hf rfl fun i => checksPart_captureRelease (hl' i)
  · exact refuses_of_checksPart hf rfl fun i => checksPart_stateRead (hl' i) ha hh hx
  · exact refuses_of_checksPart hf rfl fun i => checksPart_captureDramRead (hl' i) ha
  · exact refuses_of_checksPart hf rfl fun i => checksPart_stateDeposit (hl' i) ha hh hflags hx

/-! ## Causes and partitions that execute no steps (R156, R157) -/

/-- A fault cause is a held cause, of one of the thirteen numbers (R156). -/
theorem Cause.held_of_isFault {c : Nat} (h : Cause.isFault c = true) : Cause.held c = true ∧ c < Fld.partQuenchLatched.width := by
  have hw : Fld.partQuenchLatched.width = 16 := by decide +kernel
  simp only [Cause.isFault, decide_eq_true_eq] at h
  rcases h with rfl | rfl | rfl <;> simp [Cause.held, hw]

section
variable (s : State) (p c : Nat)

theorem State.executing_of_kept {t : State} (h : Kept (.without [.partRunExists, .partRunMode] [.parts]) s t) :
    t.executing p = s.executing p :=
  congrFun (s.executing_congr (fun _ hf i => h.reg_without hf i 0) (h.part_without (List.mem_singleton_self _))) p

@[simp] theorem State.executing_bump_events (n : Nat) : (s.bump .partQuenchEvents p c n).executing p = s.executing p :=
  s.executing_of_kept p (kept_bump (by decide +kernel) .refl)

theorem State.faultHeld_of_bit {p c : Nat} (hc : Cause.isFault c = true) (h : bit (s.latchedMask p) c = true) :
    s.faultHeld p = true := by
  simp only [Cause.isFault, decide_eq_true_eq] at hc
  rcases hc with rfl | rfl | rfl <;> simp [State.faultHeld, Cause.doubleDrive, Cause.bank, Cause.uncorr, h]

theorem State.latchedMask_setLatched (m : Nat) : (s.setLatched p m).latchedMask p = m % 2 ^ Fld.partQuenchLatched.width :=
  (State.reg_setReg_fld _ (by decide) ..).trans (s.reg_setReg_self ..)

/-- A latched cause is latched. -/
theorem State.bit_setLatched {m : Nat} (hc : c < Fld.partQuenchLatched.width) :
    bit ((s.setLatched p (setBit m c true)).latchedMask p) c = true := by
  rw [State.latchedMask_setLatched, bit_eq_testBit, Nat.testBit_mod_two_pow, testBit_setBit_true]
  simp [hc]

@[simp] theorem State.latchedMask_outageStart : (s.outageStart p).latchedMask p = s.latchedMask p := by
  rw [State.outageStart]
  split <;> rfl

/-- A fault cause that arises on a partition that executes no steps is latched, and its outage begins. -/
theorem State.assertAt_idle {at_ : Nat × Nat} {fixed : Bool} (hx : s.executing p = false) (hc : Cause.isFault c = true) :
    ∃ (u : State) (m : Nat), s.assertAt p c at_ true fixed = (u.setLatched p (setBit m c true)).outageStart p := by
  refine ⟨(s.bump .partQuenchEvents p c 1).setActive p (setBit ((s.bump .partQuenchEvents p c 1).activeMask p) c true),
    (s.bump .partQuenchEvents p c 1).latchedMask p, ?_⟩
  rw [State.assertAt]
  simp only [State.executing_bump_events, hx, hc]
  rfl

/-- A cause that asserts writes no register but those of the quench. -/
theorem State.kept_assertCause_frame (at_ : Nat × Nat) :
    Kept (.without [.partRunQuenched, .partRunMode, .partRunExists] []) s (s.assertCause p c at_) :=
  kept_assertCause ⟨by decide +kernel, by decide +kernel⟩ .refl

/-- An assertion counts one event of its cause, and what follows leaves the counts. -/
theorem State.events_assertAt (at_ : Nat × Nat) (latch fixed : Bool) : (s.assertAt p c at_ latch fixed).reg .partQuenchEvents p c =
    min (2 ^ Fld.partQuenchEvents.width - 1) (s.reg .partQuenchEvents p c + 1) := by
  rw [← s.reg_bump_self .partQuenchEvents p c 1]
  refine Kept.reg_without (fs := [.partQuenchEvents]) (ks := []) ?_ (List.mem_singleton_self _) p c
  delta State.assertAt
  extract_lets b u
  have hu : Kept (.without [.partQuenchEvents] []) b u := kept_ite (kept_setLatched ⟨by decide +kernel, by decide +kernel⟩ .refl) .refl
  exact kept_ite
    (kept_ite hu (kept_modPart ⟨by decide +kernel, by decide +kernel⟩ (kept_setActive ⟨by decide +kernel, by decide +kernel⟩ hu)))
    (kept_ite (kept_outageStart ⟨by decide +kernel, by decide +kernel⟩ (kept_setLatched ⟨by decide +kernel, by decide +kernel⟩
      (kept_setActive ⟨by decide +kernel, by decide +kernel⟩ .refl))) .refl)

/-- A cause that is no fault changes nothing but its count on a partition that executes no steps (R157). -/
theorem State.assertCause_idle (at_ : Nat × Nat) (hx : s.executing p = false) (hc : Cause.isFault c = false) :
    s.assertCause p c at_ = s.bump .partQuenchEvents p c 1 := by
  simp [State.assertCause, State.assertAt, hx, hc]

/-- A fault cause is latched on a partition that executes no steps (R157). -/
theorem State.bit_latched_assertCause_idle (at_ : Nat × Nat) (hx : s.executing p = false) (hc : Cause.isFault c = true) :
    bit ((s.assertCause p c at_).latchedMask p) c = true := by
  obtain ⟨hheld, hw⟩ := Cause.held_of_isFault hc
  obtain ⟨u, m, hu⟩ := s.assertAt_idle p c (at_ := at_) (fixed := decide (c ≠ Cause.billet)) hx hc
  rw [State.assertCause, hheld, hu, State.latchedMask_outageStart]
  exact u.bit_setLatched p c hw

end

/-! ## Faults that need ACK_FAULT (R157) -/

section
variable {s : State} {p : Nat}

theorem State.railHeld_pass (hon : (s.regions p).all s.regionOn = true) : (s.railHeld p).1 = false :=
  List.any_eq_false.2 fun x hmem => by simp [List.all_eq_true.1 hon x hmem]

theorem State.needsAck_pass {ack : Nat} (h : s.faultHeld p = true → ack = 1) : (s.needsAck p ack).1 = false := by
  cases hf : s.faultHeld p <;> simp [State.needsAck, hf, h]

/-- Without ACK_FAULT a latched fault refuses the command, where the other conditions hold. -/
theorem refuseIf_needsAck {cs : List (Bool × Status)} {k : State → CmdRes} (h : ∀ c ∈ cs, c.1 = false)
    (hfault : s.faultHeld p = true) : refuseIf (cs ++ [s.needsAck p 0]) s k = s.says .quenchFaultHeld := by
  rw [refuseIf_append h, refuseIf_head _ (by simp [State.needsAck, hfault]), State.needsAck]

end

section
variable {s : State} {r : CmdRef} {p : Nat} (hx : s.pExists p = true) (hm : s.mayPart r.org p = true)
include hx hm

/-- Where the origin may name the partition, the later conditions decide. -/
theorem refuseIf_admitted {cs : List (Bool × Status)} {k : State → CmdRes} :
    refuseIf ([s.noLocal r.org] ++ s.partChecks r.org p ++ cs) s k = refuseIf cs s k := by
  rw [List.append_assoc, refuseIf_append (noLocal_pass (State.role_of_mayPart hm)), refuseIf_append (State.partChecks_pass hx hm)]

theorem cmdPartRun_faultHeld {mode : Nat} (cycles : Nat) (hmode : mode < 2) (hload : s.loadStage p = 0)
    (hready : s.mode p = Mode.ready) (hmod : s.modMode ≠ Mod.maintenance) (hon : (s.regions p).all s.regionOn = true)
    (hsrc : s.sourceBad p mode = false) (hfault : s.faultHeld p = true) :
    cmdPartRun r p mode 0 cycles s = s.says .quenchFaultHeld := by
  rw [cmdPartRun, refuseIf_admitted hx hm]
  exact refuseIf_needsAck (cs := [_, _, _, _, _, _])
    (by simp [State.loadBusyBit, State.railHeld_pass hon, hmode, hload, hready, hmod, hsrc]) hfault

theorem cmdPartResume_faultHeld (hload : s.loadStage p = 0) (hinspect : s.mode p = Mode.inspect) (hfin : s.finishes p = false)
    (hon : (s.regions p).all s.regionOn = true) (hfault : s.faultHeld p = true) :
    cmdPartResume r p 0 s = s.says .quenchFaultHeld := by
  rw [cmdPartResume, refuseIf_admitted hx hm]
  exact refuseIf_needsAck (cs := [_, _, _, _]) (by simp [State.loadBusyBit, State.railHeld_pass hon, hload, hinspect, hfin]) hfault

end

/-- Settles O46: on a partition that executes no steps an assertion counts, and only a fault goes on to latch; a latched fault is the
first condition that PART_RUN and PART_RESUME without ACK_FAULT break. -/
theorem onlyExecutingPartitionsQuench : Obligations.OnlyExecutingPartitionsQuench := by
  refine ⟨fun s p c e hx hc => s.assertCause_idle p c e hx hc, fun s p c e hx hc => ?_,
    fun r p mode ack cycles s ha _ hmode hack hload hready hmod hon hsrc hfault => ?_,
    fun r p ack s ha _ hack hload hinspect hfin hon hfault => ?_⟩
  · have hbit := s.bit_latched_assertCause_idle p c e hx hc
    have hk := s.kept_assertCause_frame p c e
    exact ⟨hbit, State.faultHeld_of_bit _ hc hbit, State.flag_congr _ (hk.reg_without (by simp) p 0), hk.reg_without (by simp) p 0,
      s.events_assertAt ..⟩
  · obtain ⟨hf, hx, hm⟩ := State.admits_iff.1 ha
    subst hack
    exact refuses_of_says hf rfl fun h =>
      cmdPartRun_faultHeld (s := { s with host := h }) hx hm cycles hmode hload hready hmod hon hsrc hfault
  · obtain ⟨hf, hx, hm⟩ := State.admits_iff.1 ha
    subst hack
    exact refuses_of_says hf rfl fun h =>
      cmdPartResume_faultHeld (s := { s with host := h }) hx hm hload hinspect hfin hon hfault

end Sys2Proof.Machine
end

section
/-! PROOFS. Register writes that are refused, and static fields (00_scope.md, R3, R13, R14, R146; 11_host_interface.md, R299, R302,
R311). -/

-- The checks of register spans run one after another: run at once, each holds a thread with a stack of its own.
set_option Elab.async false

namespace Sys2Proof.Machine

section
variable (s : State)

/-! ## The newest entry of the audit log (R325 to R327) -/

theorem State.auditRing_pos : 0 < s.auditRing := by
  rw [State.auditRing]
  split <;> decide

/-- The log keeps the entry that has just been made, whatever it drops. -/
theorem State.getLast?_log_audit (e : AuditEntry) :
    (s.audit e).host.log.getLast? = some { e with time := s.refNs 1, seq := s.host.logSeq } := by
  have := s.auditRing_pos
  simp only [State.audit]
  rw [List.getLast?_drop, if_neg (by simp; omega), List.getLast?_append]
  rfl

theorem State.getLast?_log_auditWrite (o : Origin) (st : Status) (part addr old new : Nat) :
    ∃ e, (s.auditWrite o st part addr old new).host.log.getLast? = some e ∧ e.status = st.num ∧ e.kind = 0 ∧ e.field = addr ∧
      e.part = part ∧ e.role = s.role o ∧ e.flags = if st = .ok then 0 else 4 :=
  ⟨_, s.getLast?_log_audit _, rfl, rfl, rfl, rfl, rfl, rfl⟩

theorem State.touches_auditWrite (o : Origin) (st : Status) (part addr old new : Nat) :
    Touches (among []) [.log] s (s.auditWrite o st part addr old new) :=
  Kept.touches_among (kept_auditWrite ⟨by decide, by decide⟩ .refl)

/-! ## A word that is not present, or that the role does not permit (R3, R146, R302, R311) -/

section
variable {o : Origin} {addr : Nat} {w : WordAt} (v : Nat)

/-- A write of four aligned bytes below BAR2 is the write of one word. -/
theorem State.registerWrite_word (hoff : s.sys.off = false) (ha : addr % 4 = 0) (hb : addr < bar2Base) :
    s.registerWrite o addr 4 v = s.writeWord o addr (v % 2 ^ 32) := by
  simp [State.registerWrite, hoff, accessOk, ha, State.writeAt, hb]

theorem State.registerWrite_off (hoff : s.sys.off = true) (size : Nat) : s.registerWrite o addr size v = s := by
  simp [State.registerWrite, hoff]

theorem State.writeWord_absent (ha : addr % 4 = 0) (hw : decodeAddr addr = some w) (hp : s.present w = false) :
    s.writeWord o addr v = s := by
  simp [State.writeWord, ha, hw, hp]

/-- What a foreign write counts: nothing, but for a write of a host port to a queue of another port (R311). -/
def State.countForeign (s : State) (o : Origin) (w : WordAt) : State :=
  match o with
  | .host n => if w.blk = Blk.queue then s.bump .hostErrForeignCount n 0 1 else s
  | _ => s

theorem State.writeWord_foreign (hoff : s.sys.off = false) (ha : addr % 4 = 0) (hw : decodeAddr addr = some w)
    (hp : s.present w = true) (hf : w.fields ≠ []) (hq : w.blk = .queue → (s.qPort w.inst).isSome = true)
    (hm : s.mayWrite o w = false) :
    s.writeWord o addr v = (s.countForeign o w).auditWrite o .notOwner (s.wordPart w) w.addr (s.wordWritten w) v := by
  have hlive : ¬(w.blk = .queue ∧ (s.qPort w.inst).isNone = true) := fun ⟨hb, hn⟩ => by
    rw [Option.isNone_iff_eq_none] at hn
    simp [hn] at hq
    exact hq hb
  simp only [State.writeWord, hoff, hw]
  rw [if_neg (by decide), if_neg (by simp [ha]), if_neg (by simp [hp, hf]), if_neg hlive, if_pos (by simp [hm])]
  rfl

theorem State.touches_countForeign (o : Origin) (w : WordAt) : Touches (among [.hostErrForeignCount]) [.log] s (s.countForeign o w) := by
  refine Kept.touches_among ?_
  cases o with
  | host n => exact kept_ite (kept_bump (by decide +kernel) .refl) .refl
  | _ => exact .refl

theorem State.countForeign_of_ne (o : Origin) (h : w.blk ≠ .queue) : s.countForeign o w = s := by
  cases o with
  | host n => exact if_neg h
  | _ => rfl

/-- The count changes no right. -/
theorem State.role_countForeign (o o' : Origin) (w : WordAt) : (s.countForeign o w).role o' = s.role o' := by
  cases o' with
  | host n =>
    have h := (s.touches_countForeign o w).reg (f := .hostRoleGrant) (by decide) n 0
    rw [State.role, State.role, State.flag, State.flag, h]
  | _ => rfl

end

/-! ## Static fields (R13, R14) -/

section
variable {o : Origin} {part : Nat} {f : Fld} {i j : Nat} (n v : Nat)

theorem State.takeClass_refused (hc : f.info.cls = .static) (hs : s.staticOk f i j = false) :
    s.takeClass o part f i j n v = s.auditRefuse o .fieldClassViolation part f i j v := by
  simp [State.takeClass, hc, hs]

theorem State.takeClass_static (hc : f.info.cls = .static) (hs : s.staticOk f i j = true) :
    s.takeClass o part f i j n v = s.setHost f i j n := by
  simp [State.takeClass, hc, hs]

/-- R14 for a field of a partition's blocks. -/
theorem State.staticOk_part (h : f.info.blk = .part ∨ f.info.blk = .cmp ∨ f.info.blk = .obs) :
    s.staticOk f i j = s.partQuiet i := by
  rcases h with h | h | h <;> simp [State.staticOk, h]

theorem State.partQuiet_iff {p : Nat} :
    s.partQuiet p = true ↔ (s.pExists p = true → s.mode p = Mode.ready ∨ s.mode p = Mode.loading) := by
  cases hx : s.pExists p <;> simp [State.partQuiet, hx]

end

/-! ## Accesses of another size or alignment (R299) -/

theorem State.touches_misaligned (o : Origin) : Touches (among [.hostErrStatusAccess]) [] s (s.misaligned o) := by
  refine Kept.touches_among ?_
  cases o with
  | host n => exact kept_setReg (by decide +kernel) .refl
  | _ => exact .refl

theorem State.registerWrite_misaligned {addr size : Nat} (o : Origin) (v : Nat) (hoff : s.sys.off = false)
    (ha : accessOk addr size = false) : s.registerWrite o addr size v = s.misaligned o := by
  simp [State.registerWrite, hoff, ha]

end

/-- Settles O51: a write that the role does not permit counts and is logged, one to an absent word does nothing, and a static field takes
its value by the class of the field. -/
theorem refusedRegisterWrites : Obligations.RefusedRegisterWrites := by
  refine ⟨fun o addr v s w hoff ha hb hw hp hf hq hm => ?_, fun s o w hw => ?_, fun s o part f i j n v hc hs => ?_,
    fun s o part f i j n v hc hs hn => ?_, fun s f i j hb => ?_, fun o addr v s w ha hb hw hp => ?_,
    fun o addr v s w w' ha hb hw hp hw' hp' => ?_, fun o addr size v s hoff ha => ?_⟩
  · rw [answers_registerWrite, s.registerWrite_word _ hoff ha hb, s.writeWord_foreign _ hoff ha hw hp hf hq hm]
    obtain ⟨e, hlast, hst, hkind, hfield, -, hrole, hflags⟩ := (s.countForeign o w).getLast?_log_auditWrite o .notOwner (s.wordPart w)
      w.addr (s.wordWritten w) (v.toNat % 2 ^ 32)
    have ht := (s.countForeign o w).touches_auditWrite o .notOwner (s.wordPart w) w.addr (s.wordWritten w) (v.toNat % 2 ^ 32)
    refine ⟨(s.touches_countForeign o w).trans ⟨fun f i j _ => ht.reg (List.not_mem_nil) i j, ht.2⟩, fun hne n => ?_,
      e, hlast, hst, hkind, hfield, hrole.trans (s.role_countForeign o o w), by rw [hflags]; decide⟩
    rw [ht.reg List.not_mem_nil, s.countForeign_of_ne o hne]
  · have hmay : s.mayWrite o w = s.mayPart o w.inst := by rcases hw with h | h <;> simp [State.mayWrite, h]
    rw [hmay, State.mayPart, Bool.or_eq_true]
  · rw [s.takeClass_refused n v hc hs, State.auditRefuse]
    obtain ⟨e, hlast, hst, -, -, hpart, -⟩ := s.getLast?_log_auditWrite o .fieldClassViolation part (wordOf f i j).addr
      (s.wordWritten (wordOf f i j)) v
    exact ⟨s.touches_auditWrite .., e, hlast, hst, hpart⟩
  · rw [s.takeClass_static n v hc hs, State.reg_setHost, if_pos ⟨rfl, rfl, rfl⟩, Nat.mod_eq_of_lt hn]
  · rw [s.staticOk_part hb, s.partQuiet_iff]
  · refine congrArg Host.Outcome.next ?_
    by_cases hoff : s.sys.off
    · exact s.registerWrite_off _ hoff _
    · rw [s.registerWrite_word _ (by simpa using hoff) ha hb, s.writeWord_absent _ ha hw hp]
  · refine congrArg Host.Outcome.next ?_
    have hb' : addr + 4 < bar2Base := by unfold bar2Base at hb ⊢; omega
    by_cases hoff : s.sys.off
    · exact s.registerWrite_off _ hoff _
    · simp [State.registerWrite, hoff, accessOk, ha, State.writeAt, hb, hb', s.writeWord_absent _ (by omega : addr % 4 = 0) hw hp,
        s.writeWord_absent _ (by omega : (addr + 4) % 4 = 0) hw' hp']
  · rw [answers_registerWrite, s.registerWrite_misaligned o _ hoff ha]
    exact ⟨s.touches_misaligned o, fun n ho => ho ▸ s.flag_setReg_one ..⟩

end Sys2Proof.Machine
end

section
/-! PROOFS. The change of a partition's mode at a boundary (05_run_control_and_compare.md, R149, R150): what answers to several commands
come to, the commands that wait for a mode change, and the change that wins. -/

-- The checks of register spans run one after another: run at once, each holds a thread with a stack of its own.
set_option Elab.async false

namespace Sys2Proof.Machine

/-! ## Answers to several commands (R307) -/

section
variable (s : State)

/-- The table of commands under way once one of them has its answer. -/
theorem State.busy_answer {r : CmdRef} {a : Answer} {b : Busy} (h : s.busyOf r = some b) (hb : b.ans = none) :
    (s.answer r a).host.busy = s.host.busy.map fun x => if x.ref = r then { x with ans := some a } else x := by
  rw [State.answer]
  simp only [h, hb]
  rw [if_neg (by simp)]
  split <;> split <;> simp [State.persistAudit, State.audit]

theorem State.answer_of_answered {r : CmdRef} {a : Answer} (h : ∀ b, s.busyOf r = some b → b.ans ≠ none) : s.answer r a = s := by
  rw [State.answer]
  split
  · rfl
  · next b hb => exact if_pos (Option.isSome_iff_ne_none.2 (h b hb))

/-- An answer leaves every other command. -/
theorem State.busyOf_answer_other {r x : CmdRef} (a : Answer) (h : x ≠ r) : (s.answer r a).busyOf x = s.busyOf x := by
  by_cases hb : ∃ b, s.busyOf r = some b ∧ b.ans = none
  · obtain ⟨b, hr, hb⟩ := hb
    have hsame (c : Busy) : decide ((if c.ref = r then { c with ans := some a } else c).ref = x) = decide (c.ref = x) := by
      split <;> rfl
    rw [State.busyOf, State.busyOf, s.busy_answer hr hb, List.find?_map]
    simp only [Function.comp_def, hsame]
    cases hf : s.host.busy.find? (fun c => decide (c.ref = x)) with
    | none => rfl
    | some c =>
      have hc : c.ref = x := by simpa using List.find?_some hf
      simp [hc, h]
  · rw [s.answer_of_answered fun b hr hn => hb ⟨b, hr, hn⟩]

theorem State.busyOf_doneAll_other {x : CmdRef} {st : Status} {rs : List CmdRef} (h : x ∉ rs) :
    (s.doneAll rs st).busyOf x = s.busyOf x :=
  List.foldlRecOn (motive := fun t : State => t.busyOf x = s.busyOf x) rs _ rfl fun t ht r hr =>
    (t.busyOf_answer_other _ (by rintro rfl; exact h hr)).trans ht

/-- A command that has been answered keeps its status. -/
theorem State.statusOf_answer_answered {r : CmdRef} {st : Status} (x : CmdRef) (a : Answer) (h : s.statusOf r = some st) :
    (s.answer x a).statusOf r = some st := by
  by_cases hx : r = x
  · subst hx
    rw [s.answer_of_answered fun b hb hn => by simp [State.statusOf, hb, hn] at h, h]
  · rw [State.statusOf, s.busyOf_answer_other a hx]
    exact h

theorem State.statusOf_doneAll_answered {r : CmdRef} {st : Status} (h : s.statusOf r = some st) (rs : List CmdRef) (st' : Status) :
    (s.doneAll rs st').statusOf r = some st :=
  foldl_of (P := fun t : State => t.statusOf r = some st) (fun t x ht => t.statusOf_answer_answered x _ ht) h

/-- Every command of a list that is BUSY is answered with the status of the list. -/
theorem State.statusOf_doneAll {r : CmdRef} {b : Busy} {rs : List CmdRef} (st : Status) (hr : r ∈ rs) (h : s.busyOf r = some b)
    (hb : b.ans = none) : (s.doneAll rs st).statusOf r = some st := by
  induction rs generalizing s with
  | nil => cases hr
  | cons x xs ih =>
    by_cases hx : r = x
    · subst hx
      exact State.statusOf_doneAll_answered _ (s.statusOf_answer _ h hb) xs st
    · exact ih (s.done x st) ((List.mem_cons.1 hr).resolve_left hx) ((s.busyOf_answer_other _ hx).trans h)

theorem State.kept_doneAll_frame (rs : List CmdRef) (st : Status) : Kept ⟨0, pieceBits [.commands, .log]⟩ s (s.doneAll rs st) :=
  kept_doneAll ⟨by decide, by decide⟩ .refl

@[simp] theorem State.parts_doneAll (rs : List CmdRef) (st : Status) : (s.doneAll rs st).parts = s.parts :=
  (s.kept_doneAll_frame rs st).rest .parts (by decide)

@[simp] theorem State.reg_doneAll (rs : List CmdRef) (st : Status) (f : Fld) (i j : Nat) :
    (s.doneAll rs st).reg f i j = s.reg f i j :=
  (s.kept_doneAll_frame rs st).reg (Nat.zero_testBit _) i j

/-! ## The commands that wait for a mode change -/

/-- The PART_STOPs, the PART_HALTs, and the PART_HALTs with NOW = 1, that wait in a partition. -/
def State.requests (p : Nat) : List (CmdRef × Bool) × List CmdRef × List CmdRef :=
  ((s.part p).stops, (s.part p).halts, (s.part p).haltNow)

theorem State.requests_of_parts {t : State} (p : Nat) (h : t.parts = s.parts) : t.requests p = s.requests p := by
  rw [State.requests, State.requests, State.part, State.part, h]

/-- A change of a partition's record that leaves the waiting commands. -/
theorem State.requests_modPart {p : Nat} {g : Part → Part}
    (h : ∀ x, (g x).stops = x.stops ∧ (g x).halts = x.halts ∧ (g x).haltNow = x.haltNow) :
    (s.modPart p g).requests p = s.requests p := by
  obtain ⟨hs, hh, hn⟩ := h (s.part p)
  simp only [State.requests, State.part_modPart_self, hs, hh, hn]

@[simp] theorem State.requests_setReg (f : Fld) (i j v p : Nat) : (s.setReg f i j v).requests p = s.requests p := rfl

@[simp] theorem State.requests_modStream (k : Nat) (g : Stream → Stream) (p : Nat) :
    (s.modStream k g).requests p = s.requests p := rfl

@[simp] theorem State.requests_enterMode (p m reason : Nat) : (s.enterMode p m reason).requests p = s.requests p :=
  s.requests_of_parts p (Kept.part_without (fs := []) (ks := [.parts]) (k := .parts)
    (kept_enterMode ⟨by decide +kernel, by decide +kernel⟩ .refl) (List.mem_singleton_self _))

@[simp] theorem State.requests_outageEnd (p : Nat) : (s.outageEnd p).requests p = s.requests p :=
  s.requests_of_parts p (Kept.part_without (fs := []) (ks := [.parts]) (k := .parts)
    (kept_outageEnd ⟨by decide +kernel, by decide +kernel⟩ .refl) (List.mem_singleton_self _))

@[simp] theorem State.requests_setFifo (p : Nat) (stim : Bool) (x : Fifo) : (s.setFifo p stim x).requests p = s.requests p :=
  s.requests_modPart fun _ => by cases stim <;> exact ⟨rfl, rfl, rfl⟩

@[simp] theorem State.requests_fifoFrom (p : Nat) (stim : Bool) (src : Option Nat) :
    (s.fifoFrom p stim src).requests p = s.requests p := by
  delta State.fifoFrom
  extract_lets f u
  have hu : u.requests p = s.requests p := by
    unfold u
    split <;> rfl
  split
  · rfl
  · rw [State.requests_setFifo, hu]

@[simp] theorem State.requests_flush (p : Nat) : (s.flush p).requests p = s.requests p := by
  have hfree : (s.fifosFree p).requests p = s.requests p := by simp [State.fifosFree]
  delta State.flush
  extract_lets u
  have hu : u.requests p = s.requests p := by
    refine (State.requests_setReg ..).trans ((State.requests_modPart _ ?_).trans hfree)
    exact fun _ => ⟨rfl, rfl, rfl⟩
  clear_value u
  split
  · split
    · rw [State.requests_modStream, State.requests_setReg, State.requests_setReg, hu]
    · exact hu
  · exact hu

end

/-! ## The mode that a change enters (R152) -/

section
variable (s : State) (p : Nat)

theorem State.mode_enterMode {m reason : Nat} (h : m < 8) : (s.enterMode p m reason).mode p = m := by
  have hk : Kept (.without [.partRunMode] []) (s.setReg .partRunMode p 0 m) (s.enterMode p m reason) :=
    kept_pEvent ⟨by decide +kernel, by decide +kernel⟩ (kept_setReg (by decide +kernel) .refl)
  exact (hk.reg_without (List.mem_singleton_self _) p 0).trans (s.reg_setReg_of_lt (h.trans_le (by decide +kernel)) p 0)

theorem State.reason_enterMode {m reason : Nat} (h : reason < 8) : (s.enterMode p m reason).reg .partRunReason p 0 = reason := by
  have hk : Kept (.without [.partRunReason] []) ((s.setReg .partRunMode p 0 m).setReg .partRunReason p 0 reason)
      (s.enterMode p m reason) := kept_pEvent ⟨by decide +kernel, by decide +kernel⟩ .refl
  exact (hk.reg_without (List.mem_singleton_self _) p 0).trans (State.reg_setReg_of_lt _ (h.trans_le (by decide +kernel)) p 0)

theorem State.mode_enterReady (reason : Nat) (flush : Bool) : (s.enterReady p reason flush).mode p = Mode.ready := by
  rw [State.enterReady]
  refine Eq.trans (Kept.reg_without (fs := [.partRunMode]) (ks := [])
    (kept_outageEnd ⟨by decide +kernel, by decide +kernel⟩ .refl) (List.mem_singleton_self _) p 0) (State.mode_enterMode _ p (by decide))

@[simp] theorem State.requests_enterReady (reason : Nat) (flush : Bool) : (s.enterReady p reason flush).requests p = s.requests p := by
  have hfail : (s.modPart p fun x => { x with failSticky := false }).requests p = s.requests p :=
    s.requests_modPart fun _ => ⟨rfl, rfl, rfl⟩
  cases flush <;> simp [State.enterReady, hfail]

end

/-! ## The change that wins (R149, R150) -/

theorem mem_take_one {α : Type} {l : List α} {x : α} : x ∈ l.take 1 ↔ l.head? = some x := by
  cases l <;> simp [eq_comm]

/-- An operation that leaves the commands leaves the table of those under way. -/
theorem Kept.busy {s t : State} (h : Kept (.without [] [.commands]) s t) : t.host.busy = s.host.busy := by
  obtain ⟨-, hbusy, -⟩ := h.part_without (k := .commands) (List.mem_singleton_self _)
  exact hbusy

section
variable (s : State) (p w : Nat)

/-- The command whose mode change wins: the oldest PART_HALT, or the oldest PART_STOP (log entry 14). -/
def State.wonBy : List CmdRef :=
  if w = 3 then (s.part p).halts.take 1 else if w = 4 then ((s.part p).stops.take 1).map Prod.fst else []

/-- The commands that wait for a mode change of the partition. -/
def State.waiting (s : State) (p : Nat) : List CmdRef :=
  (s.part p).halts ++ (s.part p).stops.map Prod.fst ++ (s.part p).haltNow

theorem State.mem_wonBy {r : CmdRef} : r ∈ s.wonBy p w ↔
    (w = 3 ∧ (s.part p).halts.head? = some r) ∨ (w = 4 ∧ ((s.part p).stops.map Prod.fst).head? = some r) := by
  rw [State.wonBy]
  split_ifs with h3 h4
  · simp [h3, mem_take_one]
  · rw [List.map_take, mem_take_one]
    simp [h4]
  · simp [h3, h4]

/-- A mode change empties the waiting commands, enters its mode, and then answers them: the one that wins with OK, the others with
MODE_SUPERSEDED. -/
theorem State.changeMode_eq (hw : w ≠ 0) :
    ∃ u : State, s.changeMode p w =
        (u.doneAll (s.wonBy p w) .ok).doneAll ((s.waiting p).filter fun r => !(s.wonBy p w).contains r) .modeSuperseded ∧
      u.requests p = ([], [], []) ∧ u.host.busy = s.host.busy ∧ u.mode p = (if w ≤ 3 then Mode.inspect else Mode.ready) ∧
      (w = 1 → u.reg .partRunReason p 0 = 4) := by
  rw [State.changeMode, if_neg hw]
  extract_lets x won lost left s1 s2
  have hreq : s1.requests p = ([], [], []) := by
    rw [State.requests, State.part_modPart_self]
  have hbusy : s1.host.busy = s.host.busy := rfl
  refine ⟨s2, rfl, ?_⟩
  unfold s2
  clear_value s1
  split
  · have hk : Kept (.without [] [.commands]) s1 (s1.enterMode p Mode.inspect (if w = 1 then 4 else if w = 2 then 5 else 1)) :=
      kept_enterMode ⟨by decide +kernel, by decide +kernel⟩ .refl
    refine ⟨(s1.requests_enterMode ..).trans hreq, hk.busy.trans hbusy, s1.mode_enterMode p (by decide), fun h => ?_⟩
    rw [if_pos h]
    exact s1.reason_enterMode p (by decide)
  · next h3 =>
    have hk : Kept (.without [] [.commands]) s1 (s1.enterReady p (if w = 5 then 3 else 1)
        (decide (w = 4) && (x.stops.map (·.2)).headD false)) :=
      kept_enterReady ⟨by decide +kernel, by decide +kernel⟩ .refl
    exact ⟨(s1.requests_enterReady ..).trans hreq, hk.busy.trans hbusy, s1.mode_enterReady .., fun h => absurd (h ▸ by decide) h3⟩

theorem State.mode_changeMode (hw : w ≠ 0) : (s.changeMode p w).mode p = if w ≤ 3 then Mode.inspect else Mode.ready := by
  obtain ⟨u, hu, -, -, hmode, -⟩ := s.changeMode_eq p w hw
  rw [hu, State.mode, State.reg_doneAll, State.reg_doneAll]
  exact hmode

theorem State.requests_changeMode (hw : w ≠ 0) : (s.changeMode p w).requests p = ([], [], []) := by
  obtain ⟨u, hu, hreq, -⟩ := s.changeMode_eq p w hw
  rw [hu, ← hreq]
  exact u.requests_of_parts p (by simp)

theorem State.reason_changeMode_haltIf : (s.changeMode p 1).reg .partRunReason p 0 = 4 := by
  obtain ⟨u, hu, -, -, -, hreason⟩ := s.changeMode_eq p 1 (by decide)
  rw [hu, State.reg_doneAll, State.reg_doneAll, hreason rfl]

/-- Every command that waits is answered: the one that wins with OK, any other with MODE_SUPERSEDED. -/
theorem State.statusOf_changeMode {r : CmdRef} {b : Busy} (hw : w ≠ 0) (hr : r ∈ s.waiting p) (h : s.busyOf r = some b)
    (hb : b.ans = none) : (s.changeMode p w).statusOf r = some (if r ∈ s.wonBy p w then Status.ok else Status.modeSuperseded) := by
  obtain ⟨u, hu, -, hbusy, -⟩ := s.changeMode_eq p w hw
  have hur : u.busyOf r = some b := by rw [State.busyOf, hbusy]; exact h
  rw [hu]
  split_ifs with hwon
  · exact State.statusOf_doneAll_answered _ (u.statusOf_doneAll .ok hwon hur hb) _ _
  · exact State.statusOf_doneAll _ _ (List.mem_filter.2 ⟨hr, by simpa using hwon⟩) ((u.busyOf_doneAll_other hwon).trans hur) hb

/-- Where HALT-IF requests a halt, its mode change is the one that the boundary carries out, before what else the boundary does. -/
theorem State.boundary_of_haltIf (h : s.haltIf p = true) : ∃ u t : State, s.boundary p = (t.destroyReady p).dmaSettle ∧
    Kept (.without [.partRunMode, .partRunReason] []) (u.changeMode p 1) t := by
  refine ⟨(s.boundaryActions p).1.nextCycle p, _, rfl, ?_⟩
  rw [show modeWinner (s.haltIf p) _ _ _ _ = 1 from if_pos h]
  exact kept_ite (kept_assertEntry ⟨by decide +kernel, by decide +kernel⟩ .refl) .refl

/-- A boundary that halts by HALT-IF ends in INSPECT with reason 4: what follows the mode change leaves both. -/
theorem State.boundary_haltIf (h : s.haltIf p = true) :
    (s.boundary p).mode p = Mode.inspect ∧ (s.boundary p).reg .partRunReason p 0 = 4 := by
  obtain ⟨u, t, hb, hk⟩ := s.boundary_of_haltIf p h
  have hmode : t.mode p = Mode.inspect := (hk.reg_without (by simp) p 0).trans (u.mode_changeMode p 1 (by decide))
  have hreason : t.reg .partRunReason p 0 = 4 := (hk.reg_without (by simp) p 0).trans (u.reason_changeMode_haltIf p)
  have hd : t.destroyReady p = t := if_neg (by simp [hmode, Mode.inspect, Mode.ready])
  have hs : Kept (.without [.partRunMode, .partRunReason] []) t t.dmaSettle :=
    kept_dmaSettle ⟨by decide +kernel, by decide +kernel⟩ .refl
  rw [hb, hd]
  exact ⟨(hs.reg_without (by simp) p 0).trans hmode, (hs.reg_without (by simp) p 0).trans hreason⟩

end

/-- Settles O48: a mode change empties the waiting commands before it answers them, and HALT-IF comes first among the changes. -/
theorem oneModeChangeWins : Obligations.OneModeChangeWins := by
  refine ⟨fun s p t hd hh ht => ?_, fun s p w r h1 h5 => ?_⟩
  · have he : exec (.cycleBoundary p) s = .next (s.boundary p) := congrArg Host.Outcome.next (if_pos hd)
    obtain rfl := Host.Outcome.next.inj (he.symm.trans ht)
    exact s.boundary_haltIf p hh
  · intro rs _ hbusy hr
    have hw : w ≠ 0 := by omega
    obtain ⟨b, hb, hans⟩ := hbusy r hr
    have hreq := s.requests_changeMode p w hw
    simp only [State.requests, Prod.mk.injEq] at hreq
    obtain ⟨hstops, hhalts, hnow⟩ := hreq
    refine ⟨hhalts, hstops, hnow, s.mode_changeMode p w hw, ?_⟩
    rw [s.statusOf_changeMode p w hw hr hb hans]
    simp only [State.mem_wonBy]

end Sys2Proof.Machine
end

section
/-! PROOFS. PART_CREATE (05_run_control_and_compare.md, R145, R154): the registers of a partition that is created, and its quench
latency. -/

-- The checks of register spans run one after another: run at once, each holds a thread with a stack of its own.
set_option Elab.async false

namespace Sys2Proof.Machine

/-! ## Masks of 64 bits -/

theorem mem_setBitsOf {n w k : Nat} : k ∈ setBitsOf n w ↔ k < n ∧ w.testBit k = true := by
  simp [setBitsOf, bit_eq_testBit]

theorem setBitsOf_mod (n w : Nat) : setBitsOf n (w % 2 ^ n) = setBitsOf n w := by
  refine List.filter_congr fun k hk => ?_
  rw [bit_eq_testBit, bit_eq_testBit, Nat.testBit_mod_two_pow, decide_eq_true (List.mem_range.1 hk), Bool.true_and]

/-- A pair of words that is set reads as the value, modulo 2^64. -/
theorem State.reg64_setReg64 (s : State) {lo hi : Fld} (hne : hi ≠ lo) (hlo : lo.width = 32) (hhi : hi.width = 32) (i j v : Nat) :
    (s.setReg64 lo hi i j v).reg64 lo hi i j = v % 2 ^ 64 := by
  rw [State.reg64, State.setReg64, State.reg_setReg_fld _ hne, State.reg_setReg_self, State.reg_setReg_self, hlo, hhi]
  omega

/-! ## The quench latency (R154) -/

theorem relayHops_self (a : Nat) : relayHops a a = 0 := by
  rw [relayHops, if_pos rfl]
  omega

theorem relayHops_le (a b : Nat) : relayHops a b ≤ 4 := by
  rw [relayHops]
  split <;> omega

/-- The anvils of a TZ-4H are one ring. -/
theorem relayHops_le_of_lt {a b : Nat} (ha : a < 4) (hb : b < 4) : relayHops a b ≤ 3 := by
  have : anvilRow a = anvilRow b := by rw [anvilRow, anvilRow]; omega
  rw [relayHops, if_pos this]
  omega

/-- The relay hops between every two anvils of a list. -/
def hopsOf (as : List Nat) : List Nat := as.flatMap fun a => as.map (relayHops a)

theorem mem_hopsOf {as : List Nat} {h : Nat} : h ∈ hopsOf as ↔ ∃ a ∈ as, ∃ b ∈ as, relayHops a b = h := by
  simp [hopsOf]

theorem qLatOf_eq_foldl (lBase : Nat) (as : List Nat) : qLatOf lBase as = 6 + lBase * (hopsOf as).foldl max 0 := by
  simp only [qLatOf, hopsOf, List.foldl_flatMap, List.foldl_map]
  rfl

/-- The latency of some anvils is 6 + L_BASE × H, H the largest number of hops between two of them. -/
theorem qLatOf_spec (lBase : Nat) {as : List Nat} (has : as ≠ []) :
    ∃ h, qLatOf lBase as = 6 + lBase * h ∧ (∃ a ∈ as, ∃ b ∈ as, relayHops a b = h) ∧ ∀ a ∈ as, ∀ b ∈ as, relayHops a b ≤ h := by
  obtain ⟨a, ha⟩ := List.exists_mem_of_ne_nil as has
  have hne : hopsOf as ≠ [] := List.ne_nil_of_mem (mem_hopsOf.2 ⟨a, ha, a, ha, rfl⟩)
  refine ⟨(hopsOf as).max hne, ?_, mem_hopsOf.1 (List.max_mem hne), fun a ha b hb => ?_⟩
  · rw [qLatOf_eq_foldl, List.foldl_max_eq_max hne, Nat.zero_max]
  · exact List.le_max_of_mem (mem_hopsOf.2 ⟨a, ha, b, hb, rfl⟩)

theorem Stepping.lBase_le (st : Stepping) : st.lBase ≤ 8 := by
  cases st <;> decide

theorem State.mem_anvilsOf (s : State) {p a : Nat} : a ∈ s.anvilsOf p ↔ ∃ x ∈ s.regions p, x / 8 = a := by
  have hlt : ∀ x ∈ s.regions p, x / 8 < 8 := fun x hx => by
    have := (mem_setBitsOf.1 hx).1
    omega
  simp only [State.anvilsOf, List.mem_filter, List.mem_range, List.any_eq_true, decide_eq_true_eq]
  exact ⟨fun h => h.2, fun ⟨x, hx, he⟩ => ⟨he ▸ hlt x hx, x, hx, he⟩⟩

/-! ## A partition that is created (R145) -/

/-- The registers that name a partition, its regions and its tenant port. -/
def ownFlds : List Fld := [.partRunExists, .partOwnHost, .partRgnLo, .partRgnHi]

/-- The anvils of a partition are those of its region mask. -/
theorem Kept.anvilsOf {fs : List Fld} {ks : List Piece} {u t : State} (h : Kept (.without fs ks) u t) (hlo : .partRgnLo ∈ fs)
    (hhi : .partRgnHi ∈ fs) (p : Nat) : t.rgnMask p = u.rgnMask p ∧ t.anvilsOf p = u.anvilsOf p := by
  have hm : t.rgnMask p = u.rgnMask p := by
    rw [State.rgnMask, State.rgnMask, State.reg64, State.reg64, h.reg_without hlo, h.reg_without hhi]
  exact ⟨hm, by simp only [State.anvilsOf, State.regions, hm]⟩

/-- The partition exists, has its port and its regions, and the quench latency of their anvils. -/
structure Created (t : State) (p regions port lBase : Nat) : Prop where
  live : t.flag .partRunExists p 0 = true
  mask : t.rgnMask p = regions % 2 ^ 64
  owner : t.reg .partOwnHost p 0 = port
  latency : t.reg .partQuenchQLat p 0 = qLatOf lBase (t.anvilsOf p) % 2 ^ Fld.partQuenchQLat.width

theorem Created.of_kept {u t : State} {p regions port lBase : Nat} (h : Created u p regions port lBase)
    (hk : Kept (.without (.partQuenchQLat :: ownFlds) []) u t) : Created t p regions port lBase := by
  obtain ⟨hm, ha⟩ := hk.anvilsOf (by decide) (by decide) p
  exact ⟨(State.flag_congr _ (hk.reg_without (by decide) p 0)).trans h.live, hm.trans h.mask,
    (hk.reg_without (by decide) p 0).trans h.owner, by rw [hk.reg_without (by decide), ha, h.latency]⟩

section
variable (s : State) (p regions port : Nat)

/-- What PART_CREATE writes first: the partition exists, and has its port and its regions. -/
def State.ownPart (s : State) (p regions port : Nat) : State :=
  ((s.setReg .partRunExists p 0 1).setReg .partOwnHost p 0 port).setReg64 .partRgnLo .partRgnHi p 0 regions

theorem State.rgnMask_ownPart : (s.ownPart p regions port).rgnMask p = regions % 2 ^ 64 :=
  State.reg64_setReg64 _ (by decide) (by decide +kernel) (by decide +kernel) p 0 regions

theorem State.exists_ownPart : (s.ownPart p regions port).flag .partRunExists p 0 = true := by
  have h : (s.ownPart p regions port).reg .partRunExists p 0 = (s.setReg .partRunExists p 0 1).reg .partRunExists p 0 := by
    simp (disch := decide) only [State.ownPart, State.setReg64, State.reg_setReg_fld]
  exact (State.flag_congr _ h).trans (s.flag_setReg_one ..)

theorem State.host_ownPart (h : port < 4) : (s.ownPart p regions port).reg .partOwnHost p 0 = port := by
  have hw : 4 ≤ 2 ^ Fld.partOwnHost.width := by decide +kernel
  simp (disch := decide) only [State.ownPart, State.setReg64, State.reg_setReg_fld]
  exact State.reg_setReg_of_lt _ (h.trans_le hw) p 0

/-- What PART_CREATE makes of the registers: those of the partition's owner as written first, and the quench latency of its anvils. -/
theorem State.createPart_spec : ∃ u v : State, Kept (.without ownFlds []) (u.ownPart p regions port) v ∧
    Kept (.without (.partQuenchQLat :: ownFlds) []) (v.setReg .partQuenchQLat p 0 (qLatOf s.stepping.lBase (v.anvilsOf p)))
      (s.createPart p regions port) := by
  delta State.createPart
  extract_lets s0 o s1 s2 s3
  have h3 : Kept (.without (.partQuenchQLat :: ownFlds) []) s3 ((s3.setReg .partCapNeedUs p 0 (s3.capNeed p false)).setReg
      .partCapNeedSp p 0 (s3.capNeed p true)) := kept_setReg (by decide +kernel) (kept_setReg (by decide +kernel) .refl)
  refine ⟨s0, s2, ?_, h3⟩
  have h1 : Kept (.without ownFlds []) (s0.ownPart p regions port) s1 :=
    kept_setOutage ⟨by decide +kernel, by decide +kernel⟩ (kept_modPart ⟨by decide +kernel, by decide +kernel⟩ .refl)
  exact kept_setReg (by decide +kernel) (kept_setReg (by decide +kernel) (kept_setReg (by decide +kernel)
    (kept_setReg (by decide +kernel) h1)))

theorem State.created_createPart (hport : port < 4) : Created (s.createPart p regions port) p regions port s.stepping.lBase := by
  obtain ⟨u, v, huv, hvt⟩ := s.createPart_spec p regions port
  have hset : Kept (.without ownFlds []) v (v.setReg .partQuenchQLat p 0 (qLatOf s.stepping.lBase (v.anvilsOf p))) :=
    kept_setReg (by decide +kernel) .refl
  obtain ⟨hmask, -⟩ := huv.anvilsOf (by decide) (by decide) p
  obtain ⟨hmask', hanvils⟩ := hset.anvilsOf (by decide) (by decide) p
  have hreg : ∀ f ∈ ownFlds, (v.setReg .partQuenchQLat p 0 (qLatOf s.stepping.lBase (v.anvilsOf p))).reg f p 0 =
      (u.ownPart p regions port).reg f p 0 := fun f hf => (hset.reg_without hf p 0).trans (huv.reg_without hf p 0)
  exact Created.of_kept ⟨(State.flag_congr _ (hreg _ (by decide))).trans (u.exists_ownPart ..),
    hmask'.trans (hmask.trans (u.rgnMask_ownPart ..)), (hreg _ (by decide)).trans (u.host_ownPart _ _ _ hport),
    by rw [State.reg_setReg_self, hanvils]⟩ hvt

/-- PART_CREATE switches the regions on, makes the partition, takes its queues down and drops its pin holds. -/
def State.created (s : State) (p regions port : Nat) : State :=
  let s2 := ((setBitsOf 64 regions).foldl State.domainUp s).createPart p regions port
  ((s2.queuesAssigned p).foldl State.queueDown s2).setHolds p []

theorem cmdPartCreate_oks {r : CmdRef} (ho : s.isOwner r.org = true) (hp : p < 32) (hport : port < 4)
    (hpresent : s.portPresent port = true) (hx : s.pExists p = false) (hne : setBitsOf 64 regions ≠ [])
    (hin : ∀ x ∈ setBitsOf 64 regions, x < s.grade.regions) (hbusy : (setBitsOf 64 regions).any s.regionBusy = false)
    (hq : s.modQuiet = false) (hd : (setBitsOf 64 regions).any s.domainFailed = false) :
    cmdPartCreate r p regions port s = (s.created p regions port).oks := by
  have hin' : (setBitsOf 64 regions).any (fun x => decide (s.grade.regions ≤ x)) = false :=
    List.any_eq_false.2 fun x hm => by simp [hin x hm]
  rw [cmdPartCreate, refuseIf_ok _ (by simp only [hin', hbusy, hd]; simp [State.ownerOnly, ho, hp, hport, hpresent, hx, hne, hq])]
  rfl

theorem State.busy_created : (s.created p regions port).host.busy = s.host.busy :=
  Kept.busy (kept_setHolds ⟨by decide +kernel, by decide +kernel⟩ (kept_foldl
    (fun _ _ h => kept_queueDown ⟨by decide +kernel, by decide +kernel⟩ h) (kept_createPart ⟨by decide +kernel, by decide +kernel⟩
      (kept_foldl (fun _ _ h => kept_domainUp ⟨by decide +kernel, by decide +kernel⟩ h) .refl))))

theorem State.created_created (hport : port < 4) : Created (s.created p regions port) p regions port s.stepping.lBase := by
  have hup : Kept (.without [] []) s ((setBitsOf 64 regions).foldl State.domainUp s) :=
    kept_foldl (fun _ _ h => kept_domainUp ⟨by decide +kernel, by decide +kernel⟩ h) .refl
  have hnew := State.created_createPart ((setBitsOf 64 regions).foldl State.domainUp s) p regions port hport
  rw [hup.stepping] at hnew
  exact hnew.of_kept (kept_setHolds ⟨by decide +kernel, by decide +kernel⟩ (kept_foldl
    (fun _ _ h => kept_queueDown ⟨by decide +kernel, by decide +kernel⟩ h) .refl))

end

/-- PART_CREATE completes, and leaves a partition that has been created. -/
theorem completes_partCreate {r : CmdRef} {p regions port : Nat} {s : State} (hf : s.fresh r = true) (ho : s.isOwner r.org = true)
    (hp : p < 32) (hport : port < 4) (hpresent : s.portPresent port = true) (hx : s.pExists p = false)
    (hne : setBitsOf 64 regions ≠ []) (hin : ∀ x ∈ setBitsOf 64 regions, x < s.grade.regions)
    (hbusy : (setBitsOf 64 regions).any s.regionBusy = false) (hq : s.modQuiet = false)
    (hd : (setBitsOf 64 regions).any s.domainFailed = false) :
    Completes (.partCreate r p regions port) r s fun t => Created t p regions port s.stepping.lBase :=
  completes_of_oks hf rfl fun h =>
    have hnew := State.created_created { s with host := h } p regions port hport
    ⟨_, cmdPartCreate_oks { s with host := h } p regions port ho hp hport hpresent hx hne hin hbusy hq hd,
      State.busy_created .., hnew.of_kept (kept_done ⟨by decide +kernel, by decide +kernel⟩ .refl)⟩

/-- Settles O44: the quench latency of a new partition is that of its anvils, of which R20 bounds the hops. -/
theorem quenchLatency : Obligations.QuenchLatency := by
  intro r p regions port s hf ho hp hport hpresent hx hne hin hbusy hq hd
  obtain ⟨t, ht, hok, hnew⟩ := completes_partCreate hf ho hp hport hpresent hx hne hin hbusy hq hd
  refine ⟨t, ht, hok, ?_⟩
  have hmem : ∀ a, a ∈ t.anvilsOf p ↔ ∃ x ∈ setBitsOf 64 regions, x / 8 = a := fun a => by
    rw [State.mem_anvilsOf, State.regions, hnew.mask, setBitsOf_mod]
  obtain ⟨x, hxm⟩ := List.exists_mem_of_ne_nil _ hne
  obtain ⟨h, hlat, ⟨a, ha, b, hb, hab⟩, hmax⟩ := qLatOf_spec s.stepping.lBase (List.ne_nil_of_mem ((hmem _).2 ⟨x, hxm, rfl⟩))
  obtain ⟨y, hy, rfl⟩ := (hmem a).1 ha
  obtain ⟨z, hz, rfl⟩ := (hmem b).1 hb
  have hle : h ≤ 4 := hab ▸ relayHops_le ..
  have hq : t.reg .partQuenchQLat p 0 = 6 + s.stepping.lBase * h := by
    have hw : Fld.partQuenchQLat.width = 6 := by decide +kernel
    have hmul : s.stepping.lBase * h ≤ 8 * 4 := Nat.mul_le_mul (Stepping.lBase_le _) hle
    rw [hnew.latency, hlat, hw, Nat.mod_eq_of_lt (by omega)]
  refine ⟨h, hq, fun x hx y hy => hmax _ ((hmem _).2 ⟨x, hx, rfl⟩) _ ((hmem _).2 ⟨y, hy, rfl⟩), ⟨y, hy, z, hz, hab⟩,
    fun hall => ?_, hle, fun hg => ?_, ?_⟩
  · rw [← hab, hall y hy z hz, relayHops_self]
  · have hlt : ∀ x ∈ setBitsOf 64 regions, x / 8 < 4 := fun x hx => by
      have := hin x hx
      rw [hg] at this
      simp only [Grade.regions, Grade.anvils] at this
      omega
    exact hab ▸ relayHops_le_of_lt (hlt y hy) (hlt z hz)
  · rw [hq]
    cases s.stepping with
    | a0 => exact (show 6 + 8 * h ≤ 38 by omega)
    | b0 => exact (show 6 + 6 * h ≤ 30 by omega)

end Sys2Proof.Machine
end

section
/-! PROOFS. The PART_ commands (05_run_control_and_compare.md, R145, R148, R149, R157, R158): what the release of latched causes leaves,
then each command, then the statement that they complete. -/

-- The checks of register spans run one after another: run at once, each holds a thread with a stack of its own.
set_option Elab.async false

namespace Sys2Proof.Machine

/-! ## The release of causes (R157, R158) -/

section
variable (s : State) (p : Nat)

@[simp] theorem State.requests_acct : (s.acct p).requests p = s.requests p := by
  delta State.acct
  extract_lets t x d c s1 s2
  split
  · refine (State.requests_modPart _ ?_).trans rfl
    exact fun _ => ⟨rfl, rfl, rfl⟩
  · rfl

@[simp] theorem State.requests_reAcct : (s.reAcct p).requests p = s.requests p := by
  rw [State.reAcct]
  split
  · refine State.requests_modPart _ ?_
    exact fun _ => ⟨rfl, rfl, rfl⟩
  · rfl

@[simp] theorem State.requests_setActive (m : Nat) : (s.setActive p m).requests p = s.requests p := by
  rw [State.setActive, State.requests_reAcct, State.requests_setReg, State.requests_acct]

@[simp] theorem State.requests_setLatched (m : Nat) : (s.setLatched p m).requests p = s.requests p := rfl

@[simp] theorem State.requests_releaseCause (c : Nat) : (s.releaseCause p c).requests p = s.requests p := by
  rw [State.releaseCause]
  split
  · exact s.requests_setActive ..
  · rfl

@[simp] theorem State.requests_withdraw (c : Nat) : (s.withdraw p c).requests p = s.requests p := by
  refine (State.requests_modPart _ ?_).trans (s.requests_releaseCause p c)
  exact fun _ => ⟨rfl, rfl, rfl⟩

@[simp] theorem State.requests_dueNow : (s.dueNow p).requests p = s.requests p := by
  rw [State.dueNow]
  split
  · exact s.requests_withdraw ..
  · rfl

@[simp] theorem State.requests_releaseHeld : (s.releaseHeld p).requests p = s.requests p := by
  delta State.releaseHeld
  extract_lets l keep
  split
  · rfl
  · rw [State.requests_setLatched, State.requests_setActive]

theorem State.requests_outageRecover (unload : Bool) : (s.outageRecover p unload).requests p = s.requests p :=
  s.requests_of_parts p (Kept.part_without (fs := []) (ks := [.parts]) (k := .parts)
    (kept_outageRecover ⟨by decide +kernel, by decide +kernel⟩ .refl) (List.mem_singleton_self _))

/-- The commands that wait are as they were when latched causes have been released. -/
@[simp] theorem State.requests_releaseBy : (s.releaseBy p).requests p = s.requests p := by
  rw [State.releaseBy, State.requests_releaseHeld]
  split
  · exact s.requests_outageRecover ..
  · rfl

/-- No cause stays latched (R158). -/
theorem State.latchedMask_releaseHeld : (s.releaseHeld p).latchedMask p = 0 := by
  delta State.releaseHeld
  extract_lets l keep
  split
  · assumption
  · rw [State.latchedMask_setLatched, Nat.zero_mod]

theorem State.kept_releaseBy_frame : Kept (.without [.partRunMode, .partRunExists] [.commands]) s (s.releaseBy p) :=
  kept_releaseBy ⟨by decide +kernel, by decide +kernel⟩ .refl

end

/-! ## What the commands do -/

section
variable (s : State) (p : Nat)

/-- A mode that is entered stays where what follows leaves the field. -/
theorem State.mode_enterMode_of_kept {u t : State} {m reason : Nat} (hm : m < 8)
    (h : Kept (.without [.partRunMode] []) (u.enterMode p m reason) t) : t.mode p = m :=
  (h.reg_without (List.mem_singleton_self _) p 0).trans (u.mode_enterMode p hm)

/-- PART_RUN enters its mode, with its count of cycles (R148). -/
theorem State.runNow_spec {mode : Nat} (cycles : Nat) (hm : mode < 2) :
    (s.runNow p mode cycles).mode p = Mode.freeRun + mode ∧
      (s.runNow p mode cycles).reg64 .partRunLeftLo .partRunLeftHi p 0 = cycles % 2 ^ 64 := by
  delta State.runNow
  extract_lets s1 s2
  have hleft : Kept (.without [.partRunLeftLo, .partRunLeftHi] []) s1
      (((((s2.autoWake p).markBaseline p).enterMode p (Mode.freeRun + mode) 1).startHeld p)) :=
    kept_startHeld ⟨by decide +kernel, by decide +kernel⟩ (kept_enterMode ⟨by decide +kernel, by decide +kernel⟩
      (kept_markBaseline ⟨by decide +kernel, by decide +kernel⟩ (kept_autoWake ⟨by decide +kernel, by decide +kernel⟩
        (kept_ite (kept_clkPreset ⟨by decide +kernel, by decide +kernel⟩ .refl) .refl))))
  refine ⟨State.mode_enterMode_of_kept p (by unfold Mode.freeRun; omega)
    (kept_startHeld ⟨by decide +kernel, by decide +kernel⟩ .refl), ?_⟩
  rw [State.reg64, hleft.reg_without (by decide), hleft.reg_without (by decide)]
  exact State.reg64_setReg64 _ (by decide) (by decide +kernel) (by decide +kernel) p 0 cycles

theorem State.busy_runNow (mode cycles : Nat) : (s.runNow p mode cycles).host.busy = s.host.busy := by
  refine Kept.busy ?_
  delta State.runNow
  extract_lets s1 s2
  have h1 : Kept (.without [] [.commands]) s s1 := kept_setReg64 (by decide +kernel) (by decide +kernel)
    (kept_releaseBy ⟨by decide +kernel, by decide +kernel⟩ .refl)
  exact kept_startHeld ⟨by decide +kernel, by decide +kernel⟩ (kept_enterMode ⟨by decide +kernel, by decide +kernel⟩
    (kept_markBaseline ⟨by decide +kernel, by decide +kernel⟩ (kept_autoWake ⟨by decide +kernel, by decide +kernel⟩
      (kept_ite (kept_clkPreset ⟨by decide +kernel, by decide +kernel⟩ h1) h1))))

/-- PART_RESUME returns from INSPECT to the mode that was left (R149). -/
theorem State.mode_resumeInspect (h : (s.part p).leftMode < 8) : (s.resumeInspect p).mode p = (s.part p).leftMode := by
  delta State.resumeInspect
  extract_lets mid s1
  refine State.mode_enterMode_of_kept p h (kept_ite (kept_startHeld ⟨by decide +kernel, by decide +kernel⟩ .refl) (kept_ite ?_ .refl))
  exact kept_dueNow ⟨by decide +kernel, by decide +kernel⟩ (kept_startCheck ⟨by decide +kernel, by decide +kernel⟩ .refl)

theorem State.busy_resumeInspect : (s.resumeInspect p).host.busy = s.host.busy :=
  Kept.busy (kept_resumeInspect ⟨by decide +kernel, by decide +kernel⟩ .refl)

theorem State.busy_enterReady (reason : Nat) (flush : Bool) : (s.enterReady p reason flush).host.busy = s.host.busy :=
  Kept.busy (kept_enterReady ⟨by decide +kernel, by decide +kernel⟩ .refl)

/-- A PART_HALT with NOW = 1 acts where a held quench has frozen the partition (R149). -/
theorem State.haltHere_of_latched (hn : (s.part p).haltNow ≠ []) (hr : s.running p = true) (hl : s.latchedMask p ≠ 0) :
    (s.haltHere p).mode p = Mode.inspect ∧ (s.haltHere p).flag .partRunMidcycle p 0 = true ∧
      ((s.haltHere p).part p).leftMode = s.mode p := by
  have he : s.haltHere p = (((s.setReg .partRunMidcycle p 0 1).modPart p fun y => { y with leftMode := s.mode p, haltNow := [] }).enterMode
      p Mode.inspect 1).doneAll (s.part p).haltNow .ok := by
    rw [State.haltHere, if_neg (by simp [hn, hr]), if_neg hl]
  rw [he]
  generalize hu : (s.setReg .partRunMidcycle p 0 1).modPart p (fun y => { y with leftMode := s.mode p, haltNow := [] }) = u
  have hk : Kept (.without [.partRunMidcycle] [.parts]) u ((u.enterMode p Mode.inspect 1).doneAll (s.part p).haltNow .ok) :=
    kept_doneAll ⟨by decide +kernel, by decide +kernel⟩ (kept_enterMode ⟨by decide +kernel, by decide +kernel⟩ .refl)
  have hmid : u.flag .partRunMidcycle p 0 = true := by
    rw [← hu, State.flag, State.reg_modPart]
    exact s.flag_setReg_one ..
  refine ⟨State.mode_enterMode_of_kept p (by decide) (kept_doneAll ⟨by decide +kernel, by decide +kernel⟩ .refl),
    (State.flag_congr _ (hk.reg_without (List.mem_singleton_self _) p 0)).trans hmid, ?_⟩
  have hparts : ((u.enterMode p Mode.inspect 1).doneAll (s.part p).haltNow .ok).part p = u.part p :=
    congrArg (Tab.get Part.init · [p]) (hk.part_without (k := .parts) (List.mem_singleton_self _))
  rw [hparts, ← hu, State.part_modPart_self]

/-- A partition that is destroyed exists no more (R148). -/
theorem State.pExists_destroyNow (rs : List CmdRef) : (s.destroyNow p rs).pExists p = false := by
  have hk : ∃ u : State, Kept (.without [.partRunExists] []) (u.setReg .partRunExists p 0 0) (s.destroyNow p rs) := by
    delta State.destroyNow
    extract_lets regions s1 s2 s3 s4 s5 mask
    have h5 : Kept (.without [.partRunExists] []) (s3.setReg .partRunExists p 0 0) s5 :=
      kept_foldl (fun _ _ h => kept_ite (kept_fenceRegion ⟨by decide +kernel, by decide +kernel⟩ h) h)
        (kept_setOutage ⟨by decide +kernel, by decide +kernel⟩ (kept_modPart ⟨by decide +kernel, by decide +kernel⟩ .refl))
    exact ⟨s3, kept_ite (kept_doneAll ⟨by decide +kernel, by decide +kernel⟩ h5) (Kept.setSvc h5 (by decide +kernel))⟩
  obtain ⟨u, hu⟩ := hk
  have hflag : (s.destroyNow p rs).flag .partRunExists p 0 = false :=
    (State.flag_congr _ (hu.reg_without (List.mem_singleton_self _) p 0)).trans (u.flag_setReg_zero ..)
  rw [State.pExists, hflag, Bool.and_false]

/-- PART_UNLOAD ends in LOADING, with reason 6 (R149). -/
theorem State.unloadNow_spec (h : (s.part p).destroys = []) :
    (s.unloadNow p).mode p = Mode.loading ∧ (s.unloadNow p).reg .partRunReason p 0 = 6 := by
  have hk : ∃ u : State, Kept (.without [.partRunMode, .partRunReason] []) (u.enterMode p Mode.loading 6) (s.unloadNow p) := by
    delta State.unloadNow
    extract_lets x s1 s2 s3 s4 s5 s6
    rw [if_pos h]
    exact ⟨_, kept_foldl (fun _ _ h => kept_domainUp ⟨by decide +kernel, by decide +kernel⟩ h)
      (kept_outageRecover ⟨by decide +kernel, by decide +kernel⟩ .refl)⟩
  obtain ⟨u, hu⟩ := hk
  exact ⟨(hu.reg_without (by decide) p 0).trans (u.mode_enterMode p (by decide)),
    (hu.reg_without (by decide) p 0).trans (u.reason_enterMode p (by decide))⟩

end

/-! ## Commands whose conditions hold (R148, R444) -/

section
variable {s : State} {r : CmdRef} {p : Nat} (hx : s.pExists p = true) (hm : s.mayPart r.org p = true)
include hx hm

theorem cmdPartBind_oks {port : Nat} (ho : s.isOwner r.org = true) (hport : port < 4) (hpresent : s.portPresent port = true)
    (hload : s.loadStage p = 0) (hq : s.partQuiet p = true) : cmdPartBind r p port s =
      ((((s.setReg .partOwnHost p 0 port).queuesAssigned p).foldl State.queueDown (s.setReg .partOwnHost p 0 port))).oks := by
  have hp := State.lt_of_pExists hx
  rw [cmdPartBind, List.append_assoc, refuseIf_append (by simp [State.ownerOnly, ho, hp, hport, hpresent]),
    refuseIf_append (State.partChecks_pass hx hm), refuseIf_ok _ (by simp [State.loadBusyBit, hload, hq])]

theorem cmdPartDestroy_waits (ho : s.isOwner r.org = true) (hr : s.running p = false) (hfin : s.finishes p = false)
    (hins : s.insertingIn p = false) : cmdPartDestroy r p s = (s.destroyNow p [r]).waits := by
  rw [cmdPartDestroy, List.append_assoc, refuseIf_append (by simp [State.ownerOnly, ho]),
    refuseIf_append (State.partChecks_pass hx hm), refuseIf_ok _ (by simp [hr]), hfin, hins]
  rfl

theorem cmdPartUnload_oks (hins : s.insertingIn p = false) : cmdPartUnload r p s = (s.unloadNow p).oks := by
  have h := refuseIf_admitted hx hm (cs := []) (k := fun s => if s.insertingIn p then s.waits else (s.unloadNow p).oks)
  rw [List.append_nil] at h
  rw [cmdPartUnload, h, refuseIf_ok _ (by simp), hins]
  rfl

variable {ack : Nat} (hload : s.loadStage p = 0) (hon : (s.regions p).all s.regionOn = true)
include hload hon

theorem cmdPartHalt_atOnce (hack : ack < 2) (hl : s.latchedMask p ≠ 0) (hr : s.running p = true) (hfz : s.frozen p = true) :
    cmdPartHalt r p 1 ack s = ((s.modPart p fun x => { x with haltNow := x.haltNow ++ [r] }).haltHere p).waits := by
  simp only [cmdPartHalt]
  rw [refuseIf_admitted hx hm, refuseIf_ok _ (by simp [State.loadBusyBit, State.railHeld_pass hon, hack, hload, hr, hl]),
    if_pos (by simp [hl]), if_pos hfz]

theorem cmdPartHalt_waits {now : Nat} (hnow : now < 2) (hack : ack < 2) (hl : s.latchedMask p = 0) (hr : s.running p = true) :
    cmdPartHalt r p now ack s = (((s.releaseBy p).modPart p fun x => { x with halts := x.halts ++ [r] }).dueNow p).waits := by
  have hfault : s.faultHeld p = false := by simp [State.faultHeld, hl, bit]
  have hneeds : (s.needsAck p ack).1 = false := State.needsAck_pass (by simp [hfault])
  simp only [cmdPartHalt]
  rw [refuseIf_admitted hx hm, refuseIf_ok _ (by simp [State.loadBusyBit, State.railHeld_pass hon, hneeds, hnow, hack, hload, hr, hl]),
    if_neg (by simp [hl])]

variable (hack : s.faultHeld p = true → ack = 1)
include hack

theorem cmdPartRun_oks {mode : Nat} (cycles : Nat) (hmode : mode < 2) (ha : ack < 2) (hready : s.mode p = Mode.ready)
    (hmod : s.modMode ≠ Mod.maintenance) (hsrc : s.sourceBad p mode = false) (hins : s.insertingIn p = false) :
    cmdPartRun r p mode ack cycles s = (s.runNow p mode cycles).oks := by
  rw [cmdPartRun, refuseIf_admitted hx hm, refuseIf_ok _ (by
    simp [State.loadBusyBit, State.railHeld_pass hon, State.needsAck_pass hack, hmode, ha, hload, hready, hmod, hsrc]), hins]
  rfl

theorem cmdPartStop_waits {flush : Nat} (hflush : flush < 2) (ha : ack < 2) (hr : s.running p = true) :
    cmdPartStop r p flush ack s =
      (((s.releaseBy p).modPart p fun x => { x with stops := x.stops ++ [(r, decide (flush = 1))] }).dueNow p).waits := by
  rw [cmdPartStop, refuseIf_admitted hx hm, refuseIf_ok _ (by
    simp [State.loadBusyBit, State.railHeld_pass hon, State.needsAck_pass hack, hflush, ha, hload, hr])]
  exact if_pos hr

theorem cmdPartStop_oks {flush : Nat} (hflush : flush < 2) (ha : ack < 2) (hinspect : s.mode p = Mode.inspect)
    (hfin : s.finishes p = false) (hmid : s.flag .partRunMidcycle p 0 = false) :
    cmdPartStop r p flush ack s = ((s.releaseBy p).enterReady p 1 (decide (flush = 1))).oks := by
  have hr : s.running p = false := by simp [State.running, hinspect, Mode.inspect, Mode.freeRun, Mode.lockstep]
  rw [cmdPartStop, refuseIf_admitted hx hm, refuseIf_ok _ (by
    simp [State.loadBusyBit, State.railHeld_pass hon, State.needsAck_pass hack, hflush, ha, hload, hinspect, hfin])]
  simp only [hr, hmid]
  rfl

theorem cmdPartResume_running (ha : ack < 2) (hr : s.running p = true) : cmdPartResume r p ack s = (s.releaseBy p).oks := by
  rw [cmdPartResume, refuseIf_admitted hx hm, refuseIf_ok _ (by
    simp [State.loadBusyBit, State.railHeld_pass hon, State.needsAck_pass hack, ha, hload, hr])]
  exact if_pos hr

theorem cmdPartResume_inspect (ha : ack < 2) (hinspect : s.mode p = Mode.inspect) (hfin : s.finishes p = false)
    (hins : s.insertingIn p = false) : cmdPartResume r p ack s = (s.resumeInspect p).oks := by
  have hr : s.running p = false := by simp [State.running, hinspect, Mode.inspect, Mode.freeRun, Mode.lockstep]
  rw [cmdPartResume, refuseIf_admitted hx hm, refuseIf_ok _ (by
    simp [State.loadBusyBit, State.railHeld_pass hon, State.needsAck_pass hack, ha, hload, hinspect, hfin])]
  simp only [hr, hins]
  rfl

end

/-- The queues of a partition that are taken down leave its tenant port, and the commands. -/
theorem State.kept_queuesDown (s : State) (qs : List Nat) :
    Kept (.without [.partOwnHost] [.commands]) s (qs.foldl State.queueDown s) :=
  kept_foldl (fun _ _ h => kept_queueDown ⟨by decide +kernel, by decide +kernel⟩ h) .refl

/-! ## A mode change that is asked for (R149) -/

section
variable (s : State) (p : Nat)

theorem State.stops_request (e : CmdRef × Bool) :
    ((((s.releaseBy p).modPart p fun x => { x with stops := x.stops ++ [e] }).dueNow p).part p).stops = (s.part p).stops ++ [e] := by
  have hdue := congrArg Prod.fst (((s.releaseBy p).modPart p fun x => { x with stops := x.stops ++ [e] }).requests_dueNow p)
  have hrelease : ((s.releaseBy p).part p).stops = (s.part p).stops := congrArg Prod.fst (s.requests_releaseBy p)
  refine hdue.trans ?_
  simp only [State.requests, State.part_modPart_self, hrelease]

theorem State.halts_request (r : CmdRef) :
    ((((s.releaseBy p).modPart p fun x => { x with halts := x.halts ++ [r] }).dueNow p).part p).halts = (s.part p).halts ++ [r] := by
  have hdue := congrArg (·.2.1) (((s.releaseBy p).modPart p fun x => { x with halts := x.halts ++ [r] }).requests_dueNow p)
  have hrelease : ((s.releaseBy p).part p).halts = (s.part p).halts := congrArg (·.2.1) (s.requests_releaseBy p)
  refine hdue.trans ?_
  simp only [State.requests, State.part_modPart_self, hrelease]

end

/-! ## The commands complete -/

/-- A fresh command whose effect, on the state with any host interface, ends with OK: the row answers with that effect and the answer. -/
theorem answers_of_oks {c : Instr} {r : CmdRef} {code p : Nat} {ps : Bytes} {f : State → CmdRes} {s : State} {P : State → Prop}
    (hf : s.fresh r = true) (he : exec c s = .next (runCmd r code ps p f s))
    (H : ∀ h : HostIf, ∃ u : State, f { s with host := h } = u.oks ∧ P (u.done r .ok)) : Answers c s P := by
  obtain ⟨h, hb⟩ := s.begin_keeps r code ps p none (s.hostIdOf r.org)
  obtain ⟨u, hu, hP⟩ := H h
  refine ⟨u.done r .ok, ?_, hP⟩
  rw [he, runCmd_fresh _ hf, hb, hu]
  rfl

/-- Settles O2: each command passes its conditions and then leaves what its operation leaves. -/
theorem partitionCommandsComplete : Obligations.PartitionCommandsComplete := by
  refine ⟨fun r p regions port s hf ho hp hport hpresent hx hne hin hbusy hq hd => ?_,
    fun r p port s ha ho hport hpresent hload hq => ?_, fun r p s ha ho hr hfin hins => ?_,
    fun r p mode ack cycles s ha hmode hack hload hready hmod hon hsrc hneeds hins => ?_,
    fun r p flush ack s ha hflush hack hload hon hneeds hr => ?_,
    fun r p flush ack s ha hflush hack hload hon hneeds hinspect hfin hmid => ?_,
    fun r p now ack s ha hnow hack hload hon hl hr => ?_, fun r p ack s ha hack hload hon hl hr hfz => ?_,
    fun r p ack s ha hack hload hon hneeds hr => ?_,
    fun r p ack s ha hack hload hon hneeds hinspect hfin hins hleft => ?_, fun r p s ha hins hd => ?_⟩
  · obtain ⟨t, ht, hok, hnew⟩ := completes_partCreate hf ho hp hport hpresent hx hne hin hbusy hq hd
    exact ⟨t, ht, hok, by simp [State.pExists, hp, hnew.live], hnew.mask, hnew.owner⟩
  all_goals obtain ⟨hf, hx, hm⟩ := State.admits_iff.1 ha
  · have hw : port < 2 ^ Fld.partOwnHost.width := hport.trans_le (by decide +kernel)
    refine completes_of_oks hf rfl fun h => ⟨_, cmdPartBind_oks (s := { s with host := h }) hx hm ho hport hpresent hload hq, ?_, ?_⟩
    · obtain ⟨-, hbusy, -⟩ := (State.kept_queuesDown _ _).part_without (k := .commands) (List.mem_singleton_self _)
      exact hbusy
    · refine (State.reg_done ..).trans (((State.kept_queuesDown _ _).reg_without (List.mem_singleton_self _) p 0).trans ?_)
      exact State.reg_setReg_of_lt _ hw p 0
  · exact answers_of_waits hf rfl fun h =>
      ⟨_, cmdPartDestroy_waits (s := { s with host := h }) hx hm ho hr hfin hins, State.pExists_destroyNow ..⟩
  · refine completes_of_oks hf rfl fun h => ⟨_, cmdPartRun_oks (s := { s with host := h }) hx hm hload hon hneeds cycles hmode hack hready
      hmod hsrc hins, State.busy_runNow .., ?_⟩
    obtain ⟨hrun, hleft⟩ := State.runNow_spec { s with host := h } p cycles hmode
    exact ⟨(State.reg_done ..).trans hrun, by simpa only [State.reg64, State.reg_done] using hleft⟩
  · refine answers_of_waits hf rfl fun h =>
      ⟨_, cmdPartStop_waits (s := { s with host := h }) hx hm hload hon hneeds hflush hack hr, State.stops_request ..⟩
  · refine completes_of_oks hf rfl fun h => ⟨_, cmdPartStop_oks (s := { s with host := h }) hx hm hload hon hneeds hflush hack hinspect
      hfin hmid, (State.busy_enterReady ..).trans (Kept.busy (kept_releaseBy ⟨by decide +kernel, by decide +kernel⟩ .refl)), ?_⟩
    exact (State.reg_done ..).trans (State.mode_enterReady ..)
  · refine answers_of_waits hf rfl fun h =>
      ⟨_, cmdPartHalt_waits (s := { s with host := h }) hx hm hload hon hnow hack hl hr, State.halts_request ..⟩
  · refine answers_of_waits hf rfl fun h => ⟨_, cmdPartHalt_atOnce (s := { s with host := h }) hx hm hload hon hack hl hr hfz, ?_⟩
    exact State.haltHere_of_latched _ p (by simp) hr hl
  · refine completes_of_oks hf rfl fun h => ⟨_, cmdPartResume_running (s := { s with host := h }) hx hm hload hon hneeds hack hr,
      Kept.busy (kept_releaseBy ⟨by decide +kernel, by decide +kernel⟩ .refl), ?_⟩
    exact ⟨(State.reg_done ..).trans (State.latchedMask_releaseHeld ..), (State.reg_done ..).trans
      ((State.kept_releaseBy_frame ..).reg_without (by decide) p 0)⟩
  · refine completes_of_oks hf rfl fun h => ⟨_, cmdPartResume_inspect (s := { s with host := h }) hx hm hload hon hneeds hack hinspect hfin
      hins, State.busy_resumeInspect .., ?_⟩
    exact (State.reg_done ..).trans (State.mode_resumeInspect { s with host := h } p hleft)
  · refine answers_of_oks hf rfl fun h => ⟨_, cmdPartUnload_oks (s := { s with host := h }) hx hm hins, ?_⟩
    obtain ⟨hmode, hreason⟩ := State.unloadNow_spec { s with host := h } p hd
    exact ⟨(State.reg_done ..).trans hmode, (State.reg_done ..).trans hreason⟩

end Sys2Proof.Machine
end

section
/-! PROOFS. A load of one partition and the request bound of another (04_emulated_memory.md, R141, R142; 06_compiler_contract.md, R206;
09_dram.md, R268). -/

namespace Sys2Proof.Machine

/-- The load of partition 0, past its check: an image with no allocation, slot, record or pin. -/
def bareLoad : Load :=
  ⟨⟨.host 0, 0, 0⟩, 0, 0, 0, false, 0, [], [], [], 0, 0, 0, 0, 0, [], [], [], 0, []⟩

/-- A read of partition 0 that was under way on anvil 0 when the partition stopped. -/
def leftRead (k : Nat) : EmuReq := ⟨0, 0, 0, k % 64, false, 128 * k, 8, [], false, k, 64⟩

/-- The request of that read in the controller: it holds a slot of subchannel 0. -/
def leftReq (k : Nat) : DReq := ⟨k, 0, 0, 128 * k, 8, false, [], .port k, false, true⟩

/-- Partition 1 has one slot on anvil 0. Its write number 100 holds it, and waits in the controller for a slot of the subchannel; its
write number 101 waits in the port's hold. -/
def slotWrite (id : Nat) (held : Bool) : EmuReq := ⟨1, 0, 1, 0, true, 0x10000, 8, zeros 8, held, id, 64⟩

/-- Partition 0 is READY, with 60 reads of its last run in the controller of anvil 0 and the stage of its load at 0x4; partition 1 is
in FREE-RUN, quenched by its request bound (cause 0x3). -/
def slotQuenchedBeside : State :=
  let s := { State.reset with
    fab := { Fab.init with emu := (List.range 60).map leftRead ++ [slotWrite 100 false, slotWrite 101 true] }
    dram := { Dram.init with reqs :=
      [([0], (List.range 60).map leftReq ++ [(⟨200, 0, 1, 0x10000, 8, true, (zeros 8).map some, .port 100, false, false⟩ : DReq)])] } }
  (((((((((s.setReg .partRunExists 0 0 1).setReg .partRgnLo 0 0 1).setReg .partRunMode 0 0 Mode.ready).setReg .partLoadStage 0 0 4).setReg
    .partRunExists 1 0 1).setReg .partRgnLo 1 0 2).setReg .partRunMode 1 0 Mode.freeRun).setReg .partRunQuenched 1 0 1).setReg
    .partQuenchActive 1 0 (2 ^ Cause.slots)).setReg .partMemSlotsAllot 1 0 1 |>.modPart 0 fun x => { x with load := some bareLoad }

theorem slotQuenchedBeside_active : slotQuenchedBeside.reg .partQuenchActive 1 0 = 2 ^ Cause.slots := by
  decide +kernel

/-- The reads of partition 0 leave the controller, the write of partition 1 takes a slot of the subchannel and completes, the write in
the hold takes the slot of its partition, and the request bound releases. -/
theorem slotQuenchedBeside_released : (slotQuenchedBeside.loadPrepare 0).reg .partQuenchActive 1 0 = 0 := by
  decide +kernel

/-- Refutes O41: LOAD_PREPARE of partition 0 discards the reads of its last run (R206). Those held slots of a DRAM controller that the
partitions of an anvil share (R268), so a write of partition 1 goes on there, and the quench of partition 1 by its own request bound
releases (R142): its PART.QUENCH.ACTIVE changes. -/
theorem not_partitionsDoNotInterfere : ¬ Obligations.PartitionsDoNotInterfere := by
  unfold Obligations.PartitionsDoNotInterfere
  intro h
  have hconfined : Confined (.loadPrepare 0) slotQuenchedBeside
      fun f i _ => !([Blk.part, .cmp, .obs].contains f.info.blk) || decide (i = 0) :=
    h (.loadPrepare 0) 0 slotQuenchedBeside (by simp)
  have hkeeps := hconfined (slotQuenchedBeside.loadPrepare 0) rfl .partQuenchActive 1 0 (by decide)
  rw [slotQuenchedBeside_released, slotQuenchedBeside_active] at hkeeps
  exact absurd hkeeps (by decide)

end Sys2Proof.Machine
end

section
/-! PROOFS. What a partition holds of its load (06_compiler_contract.md, R201, R202, R206): which operations leave it. -/

-- The checks of register spans run one after another: run at once, each holds a thread with a stack of its own.
set_option Elab.async false

namespace Sys2Proof.Machine

/-! ## Every partition keeps its load and its allocations -/

/-- Every partition has the load under way and the DRAM allocations that it had. -/
structure SameLoads (s t : State) : Prop where
  load : ∀ q, (t.part q).load = (s.part q).load
  allocs : ∀ q, (t.part q).allocs = (s.part q).allocs

section
variable {s t u : State}

theorem SameLoads.refl : SameLoads s s := ⟨fun _ => rfl, fun _ => rfl⟩

theorem SameLoads.trans (h : SameLoads s t) (h' : SameLoads t u) : SameLoads s u :=
  ⟨fun q => (h'.load q).trans (h.load q), fun q => (h'.allocs q).trans (h.allocs q)⟩

theorem SameLoads.of_parts (h : t.parts = s.parts) : SameLoads s t :=
  ⟨fun q => by simp only [State.part, h], fun q => by simp only [State.part, h]⟩

theorem SameLoads.of_kept (h : Kept (.without [] [.parts]) s t) : SameLoads s t :=
  .of_parts (h.part_without (k := .parts) (List.mem_singleton_self _))

/-- A change of one partition's record that leaves its load and its allocations. -/
theorem SameLoads.modPart {g : Part → Part} (s : State) (p : Nat) (hg : ∀ x, (g x).load = x.load ∧ (g x).allocs = x.allocs) :
    SameLoads s (s.modPart p g) := by
  have hq : ∀ q, ((s.modPart p g).part q).load = (s.part q).load ∧ ((s.modPart p g).part q).allocs = (s.part q).allocs := fun q => by
    by_cases h : q = p
    · subst h
      rw [State.part_modPart_self]
      exact hg _
    · rw [State.part_modPart_other _ _ h]
      exact ⟨rfl, rfl⟩
  exact ⟨fun q => (hq q).1, fun q => (hq q).2⟩

theorem SameLoads.foldl {β : Type} {f : State → β → State} (hf : ∀ a x, SameLoads a (f a x)) (l : List β) :
    SameLoads s (l.foldl f s) :=
  foldl_of (P := SameLoads s) (fun a x h => h.trans (hf a x)) .refl

end

/-! ## The release of a cause (R158) -/

section
variable (s : State) (p : Nat)

theorem State.sameLoads_acct : SameLoads s (s.acct p) := by
  delta State.acct
  extract_lets t x d c s1 s2
  split
  · have h2 : SameLoads s s2 := .of_parts rfl
    refine h2.trans (.modPart s2 p ?_)
    exact fun _ => ⟨rfl, rfl⟩
  · exact .refl

theorem State.sameLoads_reAcct : SameLoads s (s.reAcct p) := by
  rw [State.reAcct]
  split
  · refine .modPart s p ?_
    exact fun _ => ⟨rfl, rfl⟩
  · exact .refl

theorem State.sameLoads_releaseCause (c : Nat) : SameLoads s (s.releaseCause p c) := by
  rw [State.releaseCause]
  split
  · have hset : SameLoads s ((s.acct p).setReg .partQuenchActive p 0 (setBit (s.activeMask p) c false)) :=
      (s.sameLoads_acct p).trans (.of_parts rfl)
    exact hset.trans (State.sameLoads_reAcct _ p)
  · exact .refl

theorem State.sameLoads_releaseFreeze (a : Nat) : SameLoads s (s.releaseFreeze p a) := by
  delta State.releaseFreeze
  extract_lets s1
  have h1 : SameLoads s s1 := by
    refine .modPart s p ?_
    exact fun _ => ⟨rfl, rfl⟩
  split
  · exact h1.trans (State.sameLoads_releaseCause ..)
  · exact h1

theorem State.sameLoads_memRelease : SameLoads s (s.memRelease p) := by
  have hstep : ∀ (u : State) (c : Nat) (b : Prop) [Decidable b], SameLoads u (if b then u.releaseCause p c else u) :=
    fun u c b _ => by
      split
      · exact u.sameLoads_releaseCause p c
      · exact .refl
  delta State.memRelease
  extract_lets mine s1 refreshing s2 s3
  have h3 : SameLoads s s3 := ((hstep s _ _).trans (hstep s1 _ _)).trans (hstep s2 _ _)
  refine h3.trans (.foldl (fun u a => ?_) _)
  split
  · exact u.sameLoads_releaseFreeze p a
  · exact .refl

/-! ## Requests that leave a DRAM controller (R206, R268) -/

theorem sameLoads_takeSlots : ∀ (n p a : Nat) (s : State), SameLoads s (State.takeSlots n p a s)
  | 0, _, _, _ => .refl
  | n + 1, p, a, s => by
    rw [State.takeSlots]
    split
    · exact .refl
    · split
      · exact SameLoads.trans (.of_kept (kept_submitPort ⟨by decide +kernel, by decide +kernel⟩
          (kept_noteSlots ⟨by decide +kernel, by decide +kernel⟩ (kept_setEmu ⟨by decide +kernel, by decide +kernel⟩ .refl))))
          (sameLoads_takeSlots n p a _)
      · exact .refl

theorem State.sameLoads_slotTaken (r : DReq) (a : Nat) : SameLoads s (s.slotTaken r a) := by
  unfold State.slotTaken
  split
  · next id _ _ =>
    have h1 : SameLoads s (s.setEmu (s.fab.emu.filter fun y => decide (y.id ≠ id))) := .of_parts rfl
    exact (h1.trans (sameLoads_takeSlots ..)).trans (State.sameLoads_memRelease ..)
  · exact .refl

theorem State.sameLoads_giveSlots (a : Nat) : SameLoads s (s.giveSlots a) := by
  rw [State.giveSlots]
  refine .foldl (fun u id => ?_) _
  split
  · next r _ =>
    split
    · exact SameLoads.trans (.of_kept (kept_notePeak ⟨by decide +kernel, by decide +kernel⟩
        (kept_setReqs ⟨by decide +kernel, by decide +kernel⟩ .refl))) (State.sameLoads_slotTaken _ r a)
    · exact .refl
  · exact .refl

theorem State.sameLoads_dropReqs (keep : DReq → Bool) : SameLoads s (s.dropReqs keep) := by
  delta State.dropReqs
  extract_lets gone s1
  split
  · exact .refl
  · have h1 : SameLoads s s1 := .of_parts rfl
    exact h1.trans (.foldl (fun u a => u.sameLoads_giveSlots a) _)

theorem State.sameLoads_dropFlights : SameLoads s (s.dropFlights p) := by
  delta State.dropFlights
  extract_lets ids fab f dram s1
  have h1 : SameLoads s s1 := .of_parts rfl
  exact h1.trans (State.sameLoads_dropReqs ..)

/-! ## The image that goes (R203, R216) -/

theorem State.sameLoads_capFree : SameLoads s (s.capFree p) := by
  delta State.capFree
  extract_lets c s1
  have h1 : SameLoads s s1 := by
    refine .foldl (fun u e => ?_) _
    refine .of_kept (kept_reserveFreed ⟨by decide +kernel, by decide +kernel⟩
      (kept_setReg (by decide +kernel) (kept_setReg (by decide +kernel) (kept_modDramRest (by decide +kernel) ?_ .refl))))
    exact fun _ => rfl
  refine h1.trans (.modPart s1 p ?_)
  exact fun _ => ⟨rfl, rfl⟩

theorem State.sameLoads_capAbort : SameLoads s (s.capAbort p) := by
  delta State.capAbort
  extract_lets s1
  split
  · exact .refl
  · have h1 : SameLoads s s1 := (s.sameLoads_capFree p).trans (.of_parts rfl)
    have h2 : SameLoads s1 (s1.modCap p fun _ => Capture.init) := by
      refine .modPart s1 p ?_
      exact fun _ => ⟨rfl, rfl⟩
    exact (h1.trans h2).trans (.of_kept (kept_pEvent ⟨by decide +kernel, by decide +kernel⟩ .refl))

theorem State.sameLoads_discardImage : SameLoads s (s.discardImage p) := by
  rw [State.discardImage]
  refine ((s.sameLoads_dropFlights p).trans (.modPart _ p ?_)).trans (State.sameLoads_capAbort _ p)
  exact fun _ => ⟨rfl, rfl⟩

theorem State.sameLoads_enterMode (m reason : Nat) : SameLoads s (s.enterMode p m reason) :=
  .of_kept (kept_enterMode ⟨by decide +kernel, by decide +kernel⟩ .refl)

/-- The first actions of PREPARE leave the loads; they change the allocations of the partition. -/
theorem State.load_loadOpen (l : Load) (q : Nat) : ((s.loadOpen p l).part q).load = (s.part q).load := by
  delta State.loadOpen
  extract_lets s1 s2
  have h2 : SameLoads s s2 := by
    refine (s.sameLoads_discardImage p).trans ?_
    unfold s2
    split
    · exact State.sameLoads_enterMode ..
    · exact .refl
  have h3 : SameLoads s (s2.setHolds p l.holds) :=
    h2.trans (.of_kept (kept_setHolds ⟨by decide +kernel, by decide +kernel⟩ .refl))
  rw [← h3.load q]
  by_cases h : q = p
  · subst h
    rw [State.part_modPart_self]
  · rw [State.part_modPart_other _ _ h]

end

end Sys2Proof.Machine
end

section
/-! PROOFS. What the checks of an image look at (06_compiler_contract.md, R204): which operations leave it, and that two states that
agree in it find the same. -/

-- The checks of register spans run one after another: run at once, each holds a thread with a stack of its own.
set_option Elab.async false

namespace Sys2Proof.Machine

/-! ## The registers that bind the memory ports -/

section
variable {α : Type} {d : α} {k : Key} {v : α} {e : Key × α}

theorem Tab.mem_erase_iff {t : Tab α} : e ∈ Tab.erase t k ↔ e.1 ≠ k ∧ e ∈ t := by
  induction t with
  | nil => simp [Tab.erase]
  | cons x t ih =>
    rw [Tab.erase]
    split
    · next h =>
      have hx : e.1 ≠ k → e ≠ x := fun hk he => hk (he ▸ h)
      rw [ih, List.mem_cons]
      exact ⟨fun ⟨hk, ht⟩ => ⟨hk, .inr ht⟩, fun ⟨hk, ht⟩ => ⟨hk, ht.resolve_left (hx hk)⟩⟩
    · next h =>
      have hx : e = x → e.1 ≠ k := fun he => he ▸ h
      rw [List.mem_cons, ih, List.mem_cons, and_or_left, and_iff_right_of_imp hx]

theorem Tab.mem_insert_iff {t : Tab α} : e ∈ Tab.insert t k v ↔ e = (k, v) ∨ e ∈ t := by
  induction t with
  | nil => simp [Tab.insert]
  | cons x t ih =>
    rw [Tab.insert]
    split
    · exact List.mem_cons
    · rw [List.mem_cons, ih, List.mem_cons, or_left_comm]

theorem Tab.mem_put_iff [DecidableEq α] {t : Tab α} : e ∈ Tab.put d t k v ↔ (v ≠ d ∧ e = (k, v)) ∨ (e.1 ≠ k ∧ e ∈ t) := by
  rw [Tab.put]
  split
  · next h => simp [h, Tab.mem_erase_iff]
  · next h => simp [h, Tab.mem_insert_iff, Tab.mem_erase_iff]

end

/-- The registers that name the targets of memory ports have the same entries. -/
structure SameTargets (s t : State) : Prop where
  mem : ∀ e : Key × Option Nat, e.1.getD 0 0 = Fld.hearthPortcfgTarget.ctorIdx → (e ∈ t.regs ↔ e ∈ s.regs)

section
variable {s t u : State}

theorem SameTargets.refl : SameTargets s s := ⟨fun _ _ => Iff.rfl⟩

theorem SameTargets.symm (h : SameTargets s t) : SameTargets t s := ⟨fun e he => (h.mem e he).symm⟩

theorem SameTargets.trans (h : SameTargets s t) (h' : SameTargets t u) : SameTargets s u :=
  ⟨fun e he => (h'.mem e he).trans (h.mem e he)⟩

theorem SameTargets.of_regs (h : t.regs = s.regs) : SameTargets s t := ⟨fun _ _ => by rw [h]⟩

/-- A write of another register leaves them. -/
theorem SameTargets.setReg {f : Fld} (hf : f ≠ .hearthPortcfgTarget) (s : State) (i j v : Nat) : SameTargets s (s.setReg f i j v) := by
  refine ⟨fun e he => ?_⟩
  have hk : e.1 ≠ f.key i j := fun h => hf (Fld.ctorIdx_inj (by rw [← he, h]; rfl))
  have hv : ∀ x, e ≠ (f.key i j, x) := fun x h => hk (congrArg Prod.fst h)
  rw [State.setReg, Tab.mem_put_iff]
  simp [hk, hv]

theorem SameTargets.bump {f : Fld} (hf : f ≠ .hearthPortcfgTarget) (s : State) (i j n : Nat) : SameTargets s (s.bump f i j n) :=
  .setReg hf s i j _

theorem SameTargets.foldl {β : Type} {f : State → β → State} (hf : ∀ a x, SameTargets a (f a x)) (l : List β) :
    SameTargets s (l.foldl f s) :=
  foldl_of (P := SameTargets s) (fun a x h => h.trans (hf a x)) .refl

end

/-! ## A record of the acquisition unit (R225, R226) -/

section
variable (s : State)

theorem State.regs_modSrc (x : Nat) (g : TraceSrc → TraceSrc) : (s.modSrc x g).regs = s.regs := rfl

theorem State.regs_push (x type : Nat) (payload : Bytes) : (s.push x type payload).regs = s.regs := by
  rw [State.push]
  split <;> rfl

theorem State.regs_pushSync (x reason addr : Nat) : (s.pushSync x reason addr).regs = s.regs :=
  (State.regs_modSrc ..).trans (State.regs_push ..)

theorem State.regs_autoSync (x reason : Nat) : (s.autoSync x reason).regs = s.regs := by
  rw [State.autoSync]
  split <;> exact State.regs_pushSync ..

theorem State.sameTargets_recoverSrc (x : Nat) : SameTargets s (s.recoverSrc x) := by
  delta State.recoverSrc
  extract_lets u n v
  have hu : u.regs = s.regs := by
    unfold u
    split
    · exact State.regs_autoSync ..
    · rfl
  have hv : SameTargets s v := .of_regs ((State.regs_modSrc ..).trans ((State.regs_push ..).trans hu))
  clear_value v
  have hw := (hv.trans (.bump (f := .traceDropCount) (by decide) v 0 0 n)).trans
    (.setReg (f := .traceStatusOverflow) (by decide) _ 0 0 1)
  exact hw.trans (.of_regs (State.regs_autoSync ..))

theorem State.sameTargets_traceOne (x : Nat) (i : TraceItem) : SameTargets s (s.traceOne x i) := by
  delta State.traceOne
  split
  · exact .refl
  · split
    · exact .refl
    · extract_lets drop s1 s2
      have h1 : SameTargets s s1 := by
        unfold s1
        split
        · exact s.sameTargets_recoverSrc x
        · exact .refl
      have h2 : SameTargets s s2 := by
        unfold s2
        split
        · exact h1.trans (.of_regs (State.regs_autoSync ..))
        · exact h1
      split
      · exact h1.trans (.of_regs (State.regs_modSrc ..))
      · split
        · exact h2
        · split
          · exact h2.trans (.of_regs ((State.regs_modSrc ..).trans (State.regs_push ..)))
          · split <;> exact h2.trans (.of_regs (State.regs_modSrc ..))

theorem State.sameTargets_dramEvent (a sub code rank bank : Nat) (addr : Option Nat) :
    SameTargets s (s.dramEvent a sub code rank bank addr) := s.sameTargets_traceOne _ _

theorem State.sameTargets_noteFull (a l : Nat) (src : DSrc) : SameTargets s (s.noteFull a l src) := by
  delta State.noteFull
  extract_lets k
  split
  · exact .refl
  · exact (SameTargets.trans (.of_regs (State.regs_modDram ..)) (.bump (f := .ddrSlotFullCount) (by decide) ..)).trans
      (State.sameTargets_dramEvent ..)

theorem State.sameTargets_enterInOrder (a : Nat) (r : DReq) : SameTargets s (s.enterInOrder a r) := by
  delta State.enterInOrder
  extract_lets l same k
  split
  · exact (SameTargets.trans (.of_regs (State.regs_modDram ..)) (.bump (f := .ddrOrdInorder) (by decide) ..)).trans
      (State.sameTargets_dramEvent ..)
  · exact .refl

theorem State.sameTargets_submit (a : Nat) (r : DReq) : SameTargets s (s.submit a r).2 := by
  delta State.submit
  extract_lets l ok s0 s1
  have h0 : SameTargets s s0 := by
    unfold s0
    split
    · exact .refl
    · exact State.sameTargets_noteFull ..
  have h1 : SameTargets s s1 := (h0.trans (.of_regs (State.regs_modDram ..))).trans (State.sameTargets_enterInOrder ..)
  split
  · exact .refl
  · split
    · exact h0
    · exact (h1.trans (.of_regs (State.regs_modDram ..))).trans (.setReg (f := .ddrSlotPeak) (by decide) ..)

theorem State.sameTargets_qOfferAll (scope type : Nat) (r : Bytes) : SameTargets s (s.qOfferAll scope type r) := by
  have hrescan : ∀ (u : State) (q : Nat), (u.rescan q).regs = u.regs := fun u q => by
    delta State.rescan
    extract_lets l
    split
    · split <;> rfl
    · rfl
  refine .foldl (fun u q => ?_) _
  rw [State.qOffer]
  split
  · exact SameTargets.trans (.bump (f := .queueDropCount) (by decide) u ..) (.setReg (f := .queueStatusDrop) (by decide) ..)
  · exact .of_regs (hrescan ..)

end

theorem sameTargets_pushAcq (p : Nat) : ∀ (n : Nat) (s : State), SameTargets s (State.pushAcq n p s)
  | 0, s => .refl
  | n + 1, s => by
    have hid : SameTargets s s.freshId.2 := .of_regs rfl
    have hsub : ∀ a r, SameTargets s (s.freshId.2.submit a r).2 := fun a r => hid.trans (State.sameTargets_submit ..)
    cases hb : (s.part p).acq.buf with
    | nil =>
      simp only [State.pushAcq, hb]
      exact .refl
    | cons e rest =>
      unfold State.pushAcq
      simp only [hb]
      split
      · exact ((hsub ..).trans (.of_regs (State.regs_modPart ..))).trans (sameTargets_pushAcq p n _)
      · exact hsub ..

theorem State.sameTargets_acqWrite (s : State) (p addr kind : Nat) (bs : Bytes) : SameTargets s (s.acqWrite p addr kind bs) := by
  delta State.acqWrite
  extract_lets s1 s2
  have h2 : SameTargets s s2 := SameTargets.trans (.of_regs (State.regs_modPart ..)) (State.sameTargets_qOfferAll s1 ..)
  exact h2.trans (sameTargets_pushAcq ..)

/-! ## States that agree in what the checks look at -/

/-- Registers that no check of an image looks at: they count DMA tags, requests, events and segments, or say what the load did. -/
def uncheckedFlds : List Fld :=
  [.hostDmaTagPeak, .hostDmaTagFullCount, .partAcqSegWr, .partAcqStatusWait, .partAcqStatusPost, .traceStatusOverflow, .traceDropCount,
   .ddrSlotPeak, .ddrSlotFullCount, .ddrOrdInorder, .queueStatusDrop, .queueDropCount, .partLoadRelocRowSwap, .partLoadRelocColShift,
   .partLoadRelocRowShift, .partLoadSteppingC, .partLoadImageId]

/-- The states agree in what the checks of an image look at. -/
structure SameChecks (s t : State) : Prop where
  grade : t.grade = s.grade
  stepping : t.stepping = s.stepping
  factory : t.sys.factoryBad = s.sys.factoryBad
  reg : ∀ f, f ∉ uncheckedFlds → ∀ i j, t.reg f i j = s.reg f i j
  targets : SameTargets s t
  allocs : ∀ q, (t.part q).allocs = (s.part q).allocs

section
variable {s t u : State}

theorem SameChecks.refl : SameChecks s s := ⟨rfl, rfl, rfl, fun _ _ _ _ => rfl, .refl, fun _ => rfl⟩

theorem SameChecks.symm (h : SameChecks s t) : SameChecks t s :=
  ⟨h.grade.symm, h.stepping.symm, h.factory.symm, fun f hf i j => (h.reg f hf i j).symm, h.targets.symm, fun q => (h.allocs q).symm⟩

theorem SameChecks.trans (h : SameChecks s t) (h' : SameChecks t u) : SameChecks s u :=
  ⟨h'.grade.trans h.grade, h'.stepping.trans h.stepping, h'.factory.trans h.factory,
    fun f hf i j => (h'.reg f hf i j).trans (h.reg f hf i j), h.targets.trans h'.targets, fun q => (h'.allocs q).trans (h.allocs q)⟩

/-- An operation that writes no other registers than those. -/
theorem SameChecks.of_kept (h : Kept ⟨fldBits uncheckedFlds, 2 ^ 22 - 1⟩ s t) (htargets : SameTargets s t) (hloads : SameLoads s t) :
    SameChecks s t :=
  ⟨h.grade, h.stepping, h.factory, fun _ hf => h.reg (Bool.eq_false_iff.2 fun hb => hf (fldBits_mem hb)), htargets, hloads.allocs⟩

/-! ## Writes of both states -/

theorem SameChecks.setReg (h : SameChecks s t) (f : Fld) (i j v : Nat) : SameChecks (s.setReg f i j v) (t.setReg f i j v) := by
  have hrst : t.rst f i j = s.rst f i j := by simp only [State.rst, h.grade, h.stepping, h.factory]
  refine ⟨h.grade, h.stepping, h.factory, fun g hg i' j' => ?_, ⟨fun e he => ?_⟩, h.allocs⟩
  · simp only [State.reg_setReg, h.reg g hg]
  · simp only [State.setReg, Tab.mem_put_iff, hrst, h.targets.mem e he]

theorem SameChecks.setReg64 (h : SameChecks s t) (lo hi : Fld) (i j v : Nat) :
    SameChecks (s.setReg64 lo hi i j v) (t.setReg64 lo hi i j v) := (h.setReg lo ..).setReg hi ..

theorem SameChecks.foldl {β : Type} {f g : State → β → State} {l : List β} (h : SameChecks s t)
    (hf : ∀ x ∈ l, ∀ a b, SameChecks a b → SameChecks (f a x) (g b x)) : SameChecks (l.foldl f s) (l.foldl g t) :=
  List.foldl_rel h hf

theorem SameChecks.flag (h : SameChecks s t) {f : Fld} (hf : f ∉ uncheckedFlds) (i j : Nat) : t.flag f i j = s.flag f i j := by
  rw [State.flag, State.flag, h.reg f hf]

theorem SameChecks.regions (h : SameChecks s t) (p : Nat) : t.regions p = s.regions p := by
  simp (disch := decide) only [State.regions, State.rgnMask, State.reg64, h.reg]

end

/-- A change of one partition's record that leaves its allocations. -/
theorem State.sameChecks_modPart {g : Part → Part} (s : State) (p : Nat) (hg : ∀ x, (g x).allocs = x.allocs) :
    SameChecks s (s.modPart p g) := by
  refine ⟨rfl, rfl, rfl, fun _ _ _ _ => rfl, .of_regs rfl, fun q => ?_⟩
  by_cases hq : q = p
  · subst hq
    rw [State.part_modPart_self, hg]
  · rw [State.part_modPart_other _ _ hq]

/-! ## The acquisition unit as ENABLE takes its value (R226) -/

section
variable (s : State) (p : Nat)

theorem sameLoads_pushAcq : ∀ (n : Nat) (s : State), SameLoads s (State.pushAcq n p s)
  | 0, s => .refl
  | n + 1, s => by
    have hsub : ∀ a r, SameLoads s (s.freshId.2.submit a r).2 := fun a r => .of_kept (Kept2.st (kept_submit
      ⟨by decide +kernel, by decide +kernel⟩ (Kept2.st (kept_freshId ⟨by decide +kernel, by decide +kernel⟩ .refl))))
    cases hb : (s.part p).acq.buf with
    | nil =>
      simp only [State.pushAcq, hb]
      exact .refl
    | cons e rest =>
      unfold State.pushAcq
      simp only [hb]
      split
      · refine ((hsub ..).trans (.modPart _ p ?_)).trans (sameLoads_pushAcq n _)
        exact fun _ => ⟨rfl, rfl⟩
      · exact hsub ..

theorem State.sameLoads_modAcq (g : Acq → Acq) : SameLoads s (s.modAcq p g) := by
  refine .modPart s p ?_
  exact fun _ => ⟨rfl, rfl⟩

theorem State.sameLoads_acqWrite (addr kind : Nat) (bs : Bytes) : SameLoads s (s.acqWrite p addr kind bs) := by
  delta State.acqWrite
  extract_lets s1 s2
  have h2 : SameLoads s s2 := (s.sameLoads_modAcq ..).trans
    (.of_kept (kept_qOfferAll ⟨by decide +kernel, by decide +kernel⟩ .refl))
  exact h2.trans (sameLoads_pushAcq ..)

theorem State.sameChecks_modAcq (g : Acq → Acq) : SameChecks s (s.modAcq p g) := by
  refine s.sameChecks_modPart p ?_
  exact fun _ => rfl

theorem State.sameChecks_acqWrite (addr kind : Nat) (bs : Bytes) : SameChecks s (s.acqWrite p addr kind bs) :=
  .of_kept (kept_acqWrite ⟨by decide +kernel, by decide +kernel⟩ .refl) (s.sameTargets_acqWrite ..) (s.sameLoads_acqWrite ..)

theorem State.sameChecks_unchecked {f : Fld} (hf : f ∈ uncheckedFlds) (i j v : Nat) : SameChecks s (s.setReg f i j v) :=
  .of_kept (kept_setReg (fldBits_of_mem hf) .refl) (.setReg (by rintro rfl; exact absurd hf (by decide)) s i j v) (.of_parts rfl)

theorem State.sameChecks_takeNat : SameChecks s s.takeNat.2 := ⟨rfl, rfl, rfl, fun _ _ _ _ => rfl, .of_regs rfl, fun _ => rfl⟩

theorem State.sameChecks_acqOpen : SameChecks s (s.acqOpen p) := by
  rw [State.acqOpen]
  split
  · exact (s.sameChecks_modAcq ..).trans (State.sameChecks_unchecked _ (by decide) ..)
  · exact s.sameChecks_unchecked (by decide) ..

theorem State.sameChecks_acqClose : SameChecks s (s.acqClose p true) := by
  delta State.acqClose
  extract_lets f a s1 s2 s3
  have h1 : SameChecks s s1 := s.sameChecks_takeNat.trans (State.sameChecks_acqWrite ..)
  have h2 : SameChecks s s2 := (h1.trans (s1.sameChecks_unchecked (f := .partAcqSegWr) (by decide) p 0 _)).trans
    (State.sameChecks_unchecked _ (f := .partAcqStatusPost) (by decide) p 0 0)
  rw [if_pos rfl]
  exact h2.trans (State.sameChecks_modAcq ..)

theorem State.sameChecks_acqEnabled (old : Bool) : SameChecks s (s.acqEnabled p old) := by
  delta State.acqEnabled
  extract_lets new s1
  split
  · exact (s.sameChecks_modAcq ..).trans (State.sameChecks_acqOpen ..)
  · split
    · have h1 : SameChecks s s1 := by
        unfold s1
        split
        · exact s.sameChecks_acqClose p
        · exact .refl
      exact h1.trans (State.sameChecks_unchecked _ (by decide) ..)
    · exact .refl

end

/-! ## The records (R190, R200) -/

/-- A record may write none of the registers that no check looks at. -/
theorem recMay_checked {x : FieldInfo} (hx : x ∈ regTable) (h : recMay x = true) : x.fld ∉ uncheckedFlds := by
  have hall : regTable.all (fun x => !recMay x || !uncheckedFlds.contains x.fld) = true := by decide +kernel
  simpa [h] using List.all_eq_true.1 hall x hx

section
variable {s t : State} (h : SameChecks s t)
include h

theorem SameChecks.fieldTake (f : Fld) (i v : Nat) : t.fieldTake f i v = s.fieldTake f i v := by
  simp only [State.fieldTake, h.reg .partCmpLatWMax (by decide)]

theorem SameChecks.writeMasked (w : WordAt) (value mask : Nat) : SameChecks (s.writeMasked w value mask) (t.writeMasked w value mask) := by
  refine h.foldl fun e he a b hab => ?_
  dsimp only
  split
  · exact hab
  · next hmay =>
    obtain ⟨-, hmay⟩ := not_or.1 hmay
    rw [hab.reg _ (recMay_checked (WordAt.mem_fields.1 he).1 (by simpa using hmay)), hab.fieldTake, hab.flag (by decide)]
    split
    · next v _ =>
      have hset : SameChecks
          { a.setReg e.1.fld e.2.1 e.2.2 v with held := Tab.put none a.held (e.1.fld.key e.2.1 e.2.2) none }
          { b.setReg e.1.fld e.2.1 e.2.2 v with held := Tab.put none b.held (e.1.fld.key e.2.1 e.2.2) none } :=
        have hs := hab.setReg e.1.fld e.2.1 e.2.2 v
        ⟨hs.grade, hs.stepping, hs.factory, hs.reg, ⟨hs.targets.mem⟩, hs.allocs⟩
      split
      · exact ((State.sameChecks_acqEnabled ..).symm.trans hset).trans (State.sameChecks_acqEnabled ..)
      · exact hset
    · exact hab

theorem SameChecks.queuesAssigned (p : Nat) : t.queuesAssigned p = s.queuesAssigned p := by
  have hscope : t.qScope = s.qScope := funext fun q => h.reg .queueCfgPart (by decide) q 0
  rw [State.queuesAssigned, State.queuesAssigned, hscope]

end

theorem sameChecks_applyRecs (p : Nat) (l : Load) (m : Img) : ∀ (rs : List Rec) {s t : State}, SameChecks s t →
    SameChecks (State.applyRecs p l m rs s) (State.applyRecs p l m rs t)
  | [], _, _, h => h
  | [x], s, t, h => by
    simp only [State.applyRecs, h.queuesAssigned, h.stepping]
    split
    · exact h
    · exact h.writeMasked ..
  | x :: y :: rest, s, t, h => by
    rw [State.applyRecs, State.applyRecs, h.queuesAssigned, h.stepping]
    split
    · exact sameChecks_applyRecs p l m rest ((h.writeMasked ..).writeMasked ..)
    · exact sameChecks_applyRecs p l m (y :: rest) (h.writeMasked ..)

section
variable {s t : State} (h : SameChecks s t)
include h

theorem SameChecks.writeBinding (l : Load) (m : Img) (e : Sect) (a hh j : Nat) :
    SameChecks (s.writeBinding l m e a hh j) (t.writeBinding l m e a hh j) := by
  unfold State.writeBinding
  exact ((((((((h.setReg ..).setReg ..).setReg ..).setReg ..).setReg ..).setReg ..).setReg ..).setReg ..).setReg64 ..

theorem SameChecks.setupRegs (p : Nat) (l : Load) (m : Img) : SameChecks (s.setupRegs p l m) (t.setupRegs p l m) := by
  unfold State.setupRegs
  rw [h.regions]
  extract_lets n s1 s2 s3 t1 t2 t3
  have h1 : SameChecks s1 t1 := (((((((((h.setReg .partCtlSSteps p 0 _).setReg .partSchedSImg p 0 _).setReg .partSchedSExt p 0 _).setReg
    .partMemHzStep p 0 _).setReg .partCmpLatDCmp p 0 _).setReg .partCmpLatWMax p 0 _).setReg .partCmpDimNIn p 0 _).setReg
    .partCmpDimNOut p 0 _).setReg .partAcqNProbe p 0 n).setReg .partAcqRecBytes p 0 _
  have h2 : SameChecks s2 t2 := h1.foldl fun a _ _ _ h => h.setReg ..
  have h3 : SameChecks s3 t3 := h2.foldl fun r _ _ _ h => h.foldl fun k _ _ _ h => h.setReg ..
  exact sameChecks_applyRecs p l m _ h3

theorem SameChecks.trial (p : Nat) (l : Load) (m : Img) : SameChecks (s.trial p l m) (t.trial p l m) := by
  have halloc : SameChecks (s.modPart p fun x => { x with allocs := l.allocs }) (t.modPart p fun x => { x with allocs := l.allocs }) := by
    refine ⟨h.grade, h.stepping, h.factory, h.reg, ⟨h.targets.mem⟩, fun q => ?_⟩
    by_cases hq : q = p
    · subst hq
      simp only [State.part_modPart_self]
    · simp only [State.part_modPart_other _ _ hq, h.allocs]
  exact (halloc.setupRegs p l m).foldl fun e _ _ _ h => h.foldl fun j _ _ _ h => h.writeBinding ..

/-! ## The checks -/

theorem SameChecks.inPart (p a hh : Nat) : t.inPart p a hh = s.inPart p a hh := by
  simp (disch := decide) only [State.inPart, State.rgnMask, State.reg64, h.reg]

theorem SameChecks.homeAnvil (p : Nat) : t.homeAnvil p = s.homeAnvil p := by
  rw [State.homeAnvil, State.homeAnvil, State.home, State.home, h.regions]

theorem SameChecks.inAlloc (p a base size : Nat) : t.inAlloc p a base size = s.inAlloc p a base size := by
  rw [State.inAlloc, State.inAlloc, State.allocOn, State.allocOn, h.allocs]

theorem SameChecks.mem_dramPorts (p a : Nat) (x : Nat × Nat) : x ∈ t.dramPorts p a ↔ x ∈ s.dramPorts p a := by
  have himp : ∀ {u v : State}, SameChecks u v → x ∈ u.dramPorts p a → x ∈ v.dramPorts p a := fun {u v} huv hx => by
    obtain ⟨e, he, hex⟩ := List.mem_filterMap.1 hx
    refine List.mem_filterMap.2 ⟨e, ?_, ?_⟩
    · refine (huv.targets.mem e ?_).2 he
      by_contra hne
      rw [if_neg fun hc => hne hc.1] at hex
      exact absurd hex (by simp)
    · simpa only [huv.inPart] using hex
  exact ⟨himp h.symm, himp h⟩

theorem SameChecks.meetsWindow (p a base size : Nat) : t.meetsWindow p a base size = s.meetsWindow p a base size := by
  refine Bool.eq_iff_iff.2 ?_
  simp (disch := decide) only [State.meetsWindow, State.dramWindows, List.any_map, List.any_eq_true, h.mem_dramPorts, Function.comp,
    State.portDramBase, State.reg64, h.reg]

theorem SameChecks.areaOk (p : Nat) (area other : Nat × Nat) : t.areaOk p area other = s.areaOk p area other := by
  simp only [State.areaOk, h.homeAnvil, h.inAlloc, h.meetsWindow]

theorem SameChecks.acqRing (p : Nat) : t.acqRing p = s.acqRing p := by
  simp (disch := decide) only [State.acqRing, h.reg]

theorem SameChecks.capArea (p : Nat) : t.capArea p = s.capArea p := by
  simp (disch := decide) only [State.capArea, h.reg]

theorem SameChecks.fmapOk (p : Nat) : t.fmapOk p = s.fmapOk p := by
  simp (disch := decide) only [State.fmapOk, State.fmapRing, h.homeAnvil, h.inAlloc, h.reg]

theorem SameChecks.acqOk (p : Nat) : t.acqOk p = s.acqOk p := by
  rw [State.acqOk, State.acqOk, h.areaOk, h.acqRing, h.capArea]

theorem SameChecks.capOk (p : Nat) : t.capOk p = s.capOk p := by
  rw [State.capOk, State.capOk, h.areaOk, h.acqRing, h.capArea]

theorem SameChecks.acqMayEnable (p : Nat) : t.acqMayEnable p = s.acqMayEnable p := by
  have hslots : t.segSlots p = s.segSlots p := by
    simp (disch := decide) only [State.segSlots, State.segSize, h.reg]
  rw [State.acqMayEnable, State.acqMayEnable, h.acqOk, hslots]

theorem SameChecks.ringFail (p : Nat) (l : Load) (m : Img) (idx : Nat) : t.ringFail p l m idx = s.ringFail p l m idx := by
  have hz := h.trial p l m
  unfold State.ringFail
  simp only [hz.flag (f := .partCmpEnFmap) (by decide), hz.flag (f := .partAcqCtlEnable) (by decide), hz.fmapOk, hz.acqOk,
    hz.acqMayEnable, hz.capOk]

theorem SameChecks.recBad (p : Nat) (tr : Transform) (m : Img) (x : Rec) (next : Option Rec) :
    t.recBad p tr m x next = s.recBad p tr m x next := by
  unfold State.recBad
  rw [h.grade]

theorem SameChecks.checkFail (p : Nat) (l : Load) (m : Img) : t.checkFail p l m = s.checkFail p l m := by
  have hsect : t.sectFail p l m = s.sectFail p l m := funext fun e => by
    simp only [State.sectFail, h.grade, h.recBad, h.ringFail]
  have hin : t.inPart p = s.inPart p := funext fun a => funext fun hh => h.inPart p a hh
  rw [State.checkFail, State.checkFail, hsect, h.grade, hin]

end

/-! ## Checks of the header and of the plan -/

section
variable {s t : State} (h : SameChecks s t)
include h

theorem SameChecks.headerFail (p n : Nat) (m : Img) : t.headerFail p n m = s.headerFail p n m := by
  simp only [State.headerFail, h.grade, h.regions]

theorem SameChecks.regionOn : t.regionOn = s.regionOn := funext fun r => by
  simp (disch := decide) only [State.regionOn, h.reg]

theorem SameChecks.mapBad (m : Img) : t.mapBad m = s.mapBad m := by
  rw [State.mapBad, State.mapBad, h.grade]

theorem SameChecks.transform (p : Nat) (m : Img) : t.transform p m = s.transform p m := by
  have hmask : t.rgnMask p = s.rgnMask p := by
    simp (disch := decide) only [State.rgnMask, State.reg64, h.reg]
  have hhome : t.home p = s.home p := by
    rw [State.home, State.home, h.regions]
  have hfits : t.fits p (regionMap m) = s.fits p (regionMap m) := funext fun tr => by
    rw [State.fits, State.fits, hhome, hmask, h.regions]
  rw [State.transform, State.transform, h.grade, hfits]

theorem SameChecks.latencyFail (tr : Transform) (m : Img) : t.latencyFail tr m = s.latencyFail tr m := by
  unfold State.latencyFail
  rw [h.stepping]

theorem SameChecks.queueFail (p : Nat) (m : Img) : t.queueFail p m = s.queueFail p m := by
  rw [State.queueFail, State.queueFail, h.queuesAssigned]

theorem SameChecks.pinFail (p : Nat) (m : Img) : t.pinFail p m = s.pinFail p m := by
  unfold State.pinFail
  simp (disch := decide) only [h.reg]

theorem SameChecks.linkOutFail (tr : Transform) (m : Img) : t.linkOutFail tr m = s.linkOutFail tr m := by
  unfold State.linkOutFail
  simp (disch := decide) only [h.grade, h.reg]

theorem SameChecks.partitions : t.partitions = s.partitions := by
  have hx : t.pExists = s.pExists := funext fun q => by
    rw [State.pExists, State.pExists, h.flag (by decide)]
  rw [State.partitions, State.partitions, hx]

/-! What a plan avoids (R201) lies in the allocations and the loads of the other partitions. -/

variable (hparts : t.parts = s.parts)
include hparts

theorem SameChecks.planBusy (p a : Nat) : t.planBusy p a = s.planBusy p a := by
  have hpart : t.part = s.part := funext fun q => by rw [State.part, State.part, hparts]
  unfold State.planBusy
  simp (disch := decide) only [h.partitions, hpart, h.flag, h.reg]

theorem SameChecks.slotsTaken (p a : Nat) : t.slotsTaken p a = s.slotsTaken p a := by
  have hpart : t.part = s.part := funext fun q => by rw [State.part, State.part, hparts]
  unfold State.slotsTaken
  simp (disch := decide) only [h.partitions, hpart, h.reg]

theorem SameChecks.planAllocs (p : Nat) (tr : Transform) (m : Img) (es : List Sect) : t.planAllocs p tr m es = s.planAllocs p tr m es := by
  induction es with
  | nil => rfl
  | cons e es ih => simp only [State.planAllocs, h.planBusy hparts, ih]

end

end Sys2Proof.Machine
end

section
/-! PROOFS. The loading of an image (06_compiler_contract.md, R194, R202 to R206; 09_dram.md, R271; 16_startup_and_settings.md,
R409): the fetch, the end of a load, the commands, then each stage, then the statement that they complete. -/

-- The checks of register spans run one after another: run at once, each holds a thread with a stack of its own.
set_option Elab.async false

namespace Sys2Proof.Machine

/-! ## The fetch from host memory (R202) -/

section
variable (s : State) (port : Nat)

theorem State.kept_dmaUse_frame : Kept ⟨fldBits [.hostDmaTagPeak, .hostDmaTagFullCount], pieceBits [.free]⟩ s (s.dmaUse port) :=
  kept_dmaUse ⟨by decide +kernel, by decide +kernel⟩ .refl

@[simp] theorem State.parts_dmaUse : (s.dmaUse port).parts = s.parts := (s.kept_dmaUse_frame port).rest .parts (by decide +kernel)

@[simp] theorem State.keys_dmaUse : (s.dmaUse port).host.keys = s.host.keys :=
  ((s.kept_dmaUse_frame port).rest .keys (by decide +kernel)).2

@[simp] theorem State.dram_dmaUse : (s.dmaUse port).dram = s.dram := (s.kept_dmaUse_frame port).rest .dram (by decide +kernel)

theorem State.sameChecks_dmaUse : SameChecks s (s.dmaUse port) := by
  refine .of_kept (kept_dmaUse ⟨by decide +kernel, by decide +kernel⟩ .refl) ?_ (.of_parts (s.parts_dmaUse port))
  delta State.dmaUse
  split
  · exact .refl
  · extract_lets f n s1
    have hf : SameTargets s f.2 := .of_regs rfl
    have h1 : SameTargets s s1 := hf.trans (.setReg (f := .hostDmaTagPeak) (by decide) f.2 ..)
    split
    · exact h1.trans (.bump (by decide) ..)
    · exact h1

end

/-! ## The end of a load (R203, R208) -/

/-- The load of a partition has ended: its status, the stage it ended in, and FAIL_DETAIL. -/
structure LoadEnded (t : State) (p : Nat) (st : Status) (stage detail : Nat) : Prop where
  ended : t.loadStage p = 0
  status : t.reg .partLoadStatus p 0 = st.num
  endStage : t.reg .partLoadEndStage p 0 = stage
  detail : t.reg .partLoadFailDetail p 0 = detail

/-- The registers that say how a load ended. -/
def endFlds : List Fld := [.partLoadStage, .partLoadStatus, .partLoadEndStage, .partLoadFailDetail]

theorem LoadEnded.of_kept {u t : State} {p stage detail : Nat} {st : Status} (h : LoadEnded u p st stage detail)
    (hk : Kept (.without endFlds []) u t) : LoadEnded t p st stage detail :=
  ⟨(hk.reg_without (by decide) p 0).trans h.ended, (hk.reg_without (by decide) p 0).trans h.status,
    (hk.reg_without (by decide) p 0).trans h.endStage, (hk.reg_without (by decide) p 0).trans h.detail⟩

theorem Status.num_lt (st : Status) : st.num < 2 ^ Fld.partLoadStatus.width := by
  have hw : Fld.partLoadStatus.width = 16 := by decide +kernel
  rw [hw]
  cases st <;> decide

section
variable {s : State} {p stage : Nat} {l : Load}

theorem State.loadEnded_loadEnd {detail : Nat} {st : Status} (sect : Nat) (hl : (s.part p).load = some l) (hs : s.loadStage p = stage)
    (hstage : stage < 8) (hd : detail < 2 ^ 32) :
    LoadEnded (s.loadEnd p st sect detail) p st stage (if st = .ok then 0 else detail) := by
  delta State.loadEnd
  split
  · next hnone => cases hl.symm.trans hnone
  extract_lets n f s1 s2 s3
  have h1 : LoadEnded s1 p st stage (if st = .ok then 0 else detail) := by
    have hf : f.2 = if st = .ok then 0 else detail := by
      unfold f
      split <;> rfl
    have hw : Fld.partLoadFailDetail.width = 32 ∧ 8 ≤ 2 ^ Fld.partLoadEndStage.width := by decide +kernel
    have hlt : f.2 < 2 ^ Fld.partLoadFailDetail.width := by
      rw [hf, hw.1]
      split <;> omega
    refine ⟨?_, ?_, ?_, ?_⟩
    · simp [s1, State.loadStage]
    · simp [s1, Nat.mod_eq_of_lt st.num_lt]
    · simp [s1, n, hs, Nat.mod_eq_of_lt (hstage.trans_le hw.2)]
    · rw [← hf, ← Nat.mod_eq_of_lt hlt]
      exact State.reg_setReg_self ..
  have h3 : LoadEnded s3 p st stage (if st = .ok then 0 else detail) :=
    h1.of_kept (kept_modPart ⟨by decide +kernel, by decide +kernel⟩ (kept_dramForget ⟨by decide +kernel, by decide +kernel⟩
      (kept_answer ⟨by decide +kernel, by decide +kernel⟩ .refl)))
  split
  · exact h3.of_kept (kept_releaseAllocs ⟨by decide +kernel, by decide +kernel⟩ .refl)
  · exact h3

/-- A load that fails ends with the status and the detail of its failure, in the stage in which it was (R208). -/
theorem State.loadEnded_loadFail {st : Status} {sect detail : Nat} (hl : (s.part p).load = some l) (hs : s.loadStage p = stage)
    (hstage : stage < 8) (hst : st ≠ .ok) (hd : detail < 2 ^ 32) :
    LoadEnded (s.loadFail p ⟨st, sect, detail⟩) p st stage detail := by
  delta State.loadFail
  extract_lets s1
  have h1 : (s1.part p).load = some l ∧ s1.loadStage p = stage := by
    unfold s1
    simp only [hl]
    split
    · have hk : Kept (.without [.partLoadStage] []) s (s.loadOpen p l) :=
        kept_loadOpen ⟨by decide +kernel, by decide +kernel⟩ .refl
      exact ⟨(s.load_loadOpen ..).trans hl, (hk.reg_without (List.mem_singleton_self _) p 0).trans hs⟩
    · exact ⟨hl, hs⟩
  have hend := State.loadEnded_loadEnd (st := st) sect h1.1 h1.2 hstage hd
  rwa [if_neg hst] at hend

end

/-! ## Key slots (R194, R409) -/

section
variable {s : State} {r : CmdRef} {slot : Nat} {key : Bytes}

/-- A fresh command whose effect, on the state with any host interface that holds its keys, is a status: the row answers with it. -/
theorem answers_of_says {c : Instr} {code p : Nat} {ps : Bytes} {f : State → CmdRes} {P : State → Prop} {st : Status}
    (hf : s.fresh r = true) (he : exec c s = .next (runCmd r code ps p f s))
    (H : ∀ h : HostIf, h.keys = s.host.keys →
      ∃ u : State, f { s with host := h } = u.says st ∧ u.host.busy = h.busy ∧ P (u.done r st)) :
    Answers c s fun t => t.statusOf r = some st ∧ P t := by
  obtain ⟨h, hb⟩ := s.begin_keeps r code ps p none (s.hostIdOf r.org)
  have hk : Kept (.without [] [.keys]) s (s.begin r code ps p none (s.hostIdOf r.org)) :=
    kept_begin ⟨by decide +kernel, by decide +kernel⟩ .refl
  obtain ⟨-, hkeys⟩ := hk.part_without (k := .keys) (List.mem_singleton_self _)
  rw [hb] at hkeys
  obtain ⟨u, hu, hbusy, hP⟩ := H h hkeys
  have hr := s.busyOf_begin (s.fresh_busy hf) code ps p none (s.hostIdOf r.org)
  rw [hb, State.busyOf, ← hbusy] at hr
  refine ⟨u.done r st, ?_, u.statusOf_answer _ hr rfl, hP⟩
  rw [he, runCmd_fresh _ hf, hb, hu]
  rfl

/-- The checks of IMAGE_KEY_SET let a P-384 point through. -/
theorem cmdImageKeySet_pass (flashBad : Bool) (ho : s.isOwner r.org = true) (hslot : slot < 8) (hlen : key.length = 97)
    (hform : key.getD 0 0 = 4) (hcurve : onCurve (pointOf key) = true) :
    cmdImageKeySet r slot key flashBad s = if flashBad then s.copyLost.says .flashError else (s.setKey r slot key).oks :=
  refuseIf_ok _ (by simp only [hlen, hform, hcurve]; simp [State.ownerOnly, ho, hslot])

theorem cmdImageKeyClear_pass (flashBad : Bool) (ho : s.isOwner r.org = true) (hslot : slot < 8) :
    cmdImageKeyClear r slot flashBad s = if flashBad then s.copyLost.says .flashError else (s.setKey r slot []).oks :=
  refuseIf_ok _ (by simp [State.ownerOnly, ho, hslot])

theorem State.busy_setKey (s : State) (r : CmdRef) (slot : Nat) (key : Bytes) : (s.setKey r slot key).host.busy = s.host.busy :=
  Kept.busy (kept_setKey ⟨by decide +kernel, by decide +kernel⟩ .refl)

/-- What a command ends with leaves the key slots. -/
theorem State.keys_done (s : State) (r : CmdRef) (st : Status) : (s.done r st).host.keys = s.host.keys :=
  (Kept.part_without (fs := []) (ks := [.keys]) (k := .keys) (kept_done ⟨by decide +kernel, by decide +kernel⟩ .refl)
    (List.mem_singleton_self _)).2

theorem State.key_setKey (s : State) (r : CmdRef) (slot : Nat) (key : Bytes) :
    Tab.get [] (s.setKey r slot key).host.keys [slot] = key := by
  delta State.setKey
  extract_lets id host s1
  have hk : Kept (.without [] [.keys]) { s with host := { s.host with keys := Tab.put [] s.host.keys [slot] key } } (s1.audit
      ⟨0, 0, s.role r.org, portByteOf r.org, Status.ok.num, 2, 1, 0xFFFF, 0x0601 + b2n (decide (key = [])), 0,
        s.hostIdOf r.org, slot, id⟩) :=
    kept_audit ⟨by decide +kernel, by decide +kernel⟩ (kept_saveImage ⟨by decide +kernel, by decide +kernel⟩ .refl)
  obtain ⟨-, hkeys⟩ := hk.part_without (k := .keys) (List.mem_singleton_self _)
  rw [hkeys]
  exact Tab.get_put_self ..

/-- A key command writes its slot; where the copy in flash is lost, no slot changes. -/
theorem answers_keyCommand {c : Bool → Instr} {code : Nat} {ps : Bytes} {f : Bool → State → CmdRes} (hf : s.fresh r = true)
    (he : ∀ bad, exec (c bad) s = .next (runCmd r code ps 0xFFFF (f bad) s))
    (hpass : ∀ bad h, f bad { s with host := h } =
      if bad then State.says (State.copyLost { s with host := h }) .flashError else (State.setKey { s with host := h } r slot key).oks) :
    Completes (c false) r s (fun t => Tab.get [] t.host.keys [slot] = key) ∧
      Answers (c true) s fun t => t.statusOf r = some .flashError ∧ t.host.keys = s.host.keys :=
  ⟨completes_of_oks hf (he false) fun h => ⟨_, hpass false h, State.busy_setKey .., by rw [State.keys_done, State.key_setKey]⟩,
    answers_of_says hf (he true) fun h hkeys => ⟨_, hpass true h, rfl, (State.keys_done ..).trans hkeys⟩⟩

end

/-! ## Loads that start (R202, R203) -/

section
variable {s : State} {p : Nat}

/-- The oldest waiting load leaves the waiting line. -/
theorem State.loadStage_loadDequeue (hbusy : s.loadsBusy < 4) (hp : p < 32) (hwaits : s.loadStage p = 7)
    (hold : ∀ q, q < 32 → q ≠ p → s.loadStage q = 7 → (s.part p).load.elim 0 Load.order < (s.part q).load.elim 0 Load.order) :
    s.loadDequeue.loadStage p = 1 := by
  delta State.loadDequeue
  rw [if_neg (by omega)]
  extract_lets w age
  have hmem : ∀ q, q ∈ w ↔ q < 32 ∧ s.loadStage q = 7 := fun q => by simp [w]
  have hfind : w.find? (fun q => w.all fun x => decide (age q ≤ age x)) = some p := by
    cases hw : w.find? (fun q => w.all fun x => decide (age q ≤ age x)) with
    | none =>
      refine absurd (List.find?_eq_none.1 hw p ((hmem p).2 ⟨hp, hwaits⟩)) (not_not.2 (List.all_eq_true.2 fun q hq => ?_))
      obtain ⟨hq32, hq7⟩ := (hmem q).1 hq
      by_cases hqp : q = p
      · simp [hqp]
      · exact decide_eq_true (hold q hq32 hqp hq7).le
    | some q =>
      obtain ⟨hq32, hq7⟩ := (hmem q).1 (List.mem_of_find?_eq_some hw)
      have hall := List.all_eq_true.1 (List.find?_some (p := fun q => w.all fun x => decide (age q ≤ age x)) hw) p
        ((hmem p).2 ⟨hp, hwaits⟩)
      by_contra hne
      have hqp : q ≠ p := fun h => hne (congrArg some h)
      exact absurd (of_decide_eq_true hall) (not_le.2 (hold q hq32 hqp hq7))
  rw [hfind]
  exact s.reg_setReg_of_lt (by decide +kernel) p 0

/-- PART_LOAD leaves a load of the partition in stage 0x1, or in the waiting line while four loads are in progress. -/
theorem cmdPartLoad_waits {r : CmdRef} {srcPort addr length flags : Nat} (hx : s.pExists p = true) (hm : s.mayPart r.org p = true)
    (hflags : flags < 2) (hpresent : s.portPresent srcPort = true) (ho : s.isOwner r.org = true ∨ r.org = .host srcPort)
    (hidle : s.loadStage p = 0) (hmode : bit flags 0 = true ∨ s.mode p = Mode.loading ∨ s.mode p = Mode.ready) :
    ∃ u : State, cmdPartLoad r p srcPort addr length flags s = u.waits ∧ u.loadStage p = (if 4 ≤ s.loadsBusy then 7 else 1) ∧
      (u.part p).load.any (fun l => l.ref = r ∧ l.addr = addr ∧ l.length = length) = true := by
  have hchecks : ∀ c ∈ (decide (2 ≤ flags), Status.cmdFormat) :: s.noLocal r.org :: (!s.portPresent srcPort, .notPresent) ::
      s.partChecks r.org p ++ [(!s.isOwner r.org && r.org != .host srcPort, .notOwner)] ++
      [(decide (s.loadStage p ≠ 0), .loadBusy),
       (!bit flags 0 && !(decide (s.mode p = Mode.loading) || decide (s.mode p = Mode.ready)), .modeInvalid)], c.1 = false := by
    have howner : s.isOwner r.org = false → r.org = .host srcPort := fun h => ho.resolve_left (by simp [h])
    have hloads : bit flags 0 = false → s.mode p ≠ Mode.loading → s.mode p = Mode.ready :=
      fun h => (hmode.resolve_left (by simp [h])).resolve_left
    simpa [State.partChecks, hx, hm, State.lt_of_pExists hx, hflags, hpresent, hidle, State.noLocal, State.role_of_mayPart hm] using
      ⟨howner, hloads⟩
  delta cmdPartLoad
  extract_lets only
  rw [refuseIf_ok _ hchecks]
  extract_lets orders l s1
  have hs1 : s1.loadStage p = (if 4 ≤ s.loadsBusy then 7 else 1) := by
    refine State.reg_setReg_of_lt _ ?_ p 0
    have hw : Fld.partLoadStage.width = 4 := by decide +kernel
    rw [hw]
    split <;> decide
  have hl : (s1.part p).load = some l := by
    have hk : SameLoads (s.modPart p fun x => { x with load := some l }) s1 :=
      .of_kept (kept_loadRegs ⟨by decide +kernel, by decide +kernel⟩ .refl)
    rw [hk.load, State.part_modPart_self]
  have hu : Kept (.without [.partLoadStage] [.parts]) s1 (if only = true then s1 else s1.outageReload p) :=
    kept_ite .refl (kept_outageReload ⟨by decide +kernel, by decide +kernel⟩ .refl)
  refine ⟨_, rfl, (hu.reg_without (List.mem_singleton_self _) p 0).trans hs1, ?_⟩
  have hparts := hu.part_without (k := .parts) (List.mem_singleton_self _)
  rw [State.part, hparts, ← State.part, hl]
  simp [l]

end

/-! ## The 10 ms limit of an access (R271) -/

theorem State.statusOf_frozenTimeout {s : State} {a id : Nat} {j : DJob} {r : CmdRef} {b : Busy}
    (hj : s.dram.jobs.find? (fun j => decide (j.id = id ∧ j.anvil = a)) = some j) (hr : j.who = .cmd r)
    (hfrozen : s.flag .ddrStatusFrozen a 0 = true) (hleft : j.left ≠ 0) (hb : s.busyOf r = some b) (hans : b.ans = none)
    (hload : ∀ p, p < 32 → (s.part p).load.any (fun l => decide (l.ref = r)) = false) :
    (s.frozenTimeout a id).statusOf r = some .dramFrozen := by
  have hnone : (List.range 32).find? (fun p => (s.part p).load.any fun l => decide (l.ref = r)) = none :=
    List.find?_eq_none.2 fun p hp => by simp [hload p (List.mem_range.1 hp)]
  simp only [State.frozenTimeout, hj, hfrozen, hr, hnone]
  simp only [Bool.not_true, Bool.false_eq_true, hleft, or_self, if_false]
  exact s.statusOf_answer _ hb hans

theorem State.loadIn_iff {s : State} {p n : Nat} {l : Load} :
    s.loadIn p n = some l ↔ s.pExists p = true ∧ s.loadStage p = n ∧ (s.part p).load = some l := by
  rw [State.loadIn]
  split
  · next h => simp [h]
  · next h => exact ⟨fun hn => absurd hn (by simp), fun ⟨hx, hs, _⟩ => absurd ⟨hx, hs⟩ h⟩

theorem State.imageKey_congr {s t : State} (h : t.host.keys = s.host.keys) (m : Img) : t.imageKey m = s.imageKey m := by
  rw [State.imageKey, State.imageKey, h]

theorem State.imageKey_lt {s : State} {m : Img} {k : Nat} (h : s.imageKey m = some k) : k < 8 := by
  delta State.imageKey at h
  extract_lets t digest at h
  exact List.mem_range.1 (List.mem_of_find?_eq_some h)

theorem stepFail_pass {b : Bool} {f : Option LFail} {rest : List (Bool × Option LFail)} (hb : b = true) (hf : f = none)
    (hrest : stepFail rest = none) : stepFail ((b, f) :: rest) = none := by
  simp [stepFail, hb, hf, orFail, hrest]

theorem orFail_eq_none {a b : Option LFail} : orFail a b = none ↔ a = none ∧ b = none := by
  cases a <;> simp [orFail]

/-- Where whole sections could be fetched, so could their first bytes. -/
theorem headsHas_of_sectHas {img : Bytes} {m : Img} {type : Nat} (h : ∀ e ∈ imgSects m, e.type = type → sectHas img e = true)
    (n : Nat) : headsHas img m type n = true := by
  refine List.all_eq_true.2 fun e he => ?_
  by_cases ht : e.type = type
  · have hlen : e.off + e.len ≤ img.length := of_decide_eq_true (h e he ht)
    have hmin : e.off + min n e.len ≤ img.length := by omega
    simp [hmin]
  · simp [ht]

/-! ## Stage 0x1 HEADER (R204, steps 1 to 3) -/

section
variable {s : State} {p : Nat} {img : Bytes} {l : Load}

/-- The end of the header stage, once the image has been read and its signature checked: no key slot, or the one that verifies it. -/
def State.afterSignature (s : State) (p : Nat) (m : Img) : Option Nat → State
  | none => s.loadFail p (lFail .imageSignature)
  | some k =>
    let t := s.setReg .partLoadKeySlot p 0 k
    match tableFail m with
    | some f => t.loadFail p f
    | none => t.toStage p 2

/-- A header stage whose fetches and header checks find nothing wrong comes to the signature. -/
theorem State.loadHeader_eq (hin : s.loadIn p 1 = some l) (hhead : imgHas img.toArray 0 256 = true)
    (hfail : s.headerFail p l.length img.toArray = none)
    (htable : imgHas img.toArray (imgTable img.toArray) (96 * imgCount img.toArray) = true)
    (htrailer : imgHas img.toArray (imgTrailer img.toArray) 112 = true)
    (hzero : imgZero img.toArray (imgTrailer img.toArray + 104) 8 = true)
    (hmap : ∀ e, sectOf img.toArray ST.regionMap 0 = some e →
      imgTrailer img.toArray < e.off + e.len ∨ imgHas img.toArray e.off e.len = true) :
    ∃ u : State, u.loadStage p = 1 ∧ (∃ x, (u.part p).load = some x) ∧
      s.loadHeader p img = u.afterSignature p img.toArray (s.imageKey img.toArray) := by
  obtain ⟨-, hstage, -⟩ := State.loadIn_iff.1 hin
  generalize ht : s.loadHeader p img = t
  delta State.loadHeader at ht
  split at ht
  · next hnone => cases hin.symm.trans hnone
  next l' hin' =>
  obtain rfl : l = l' := Option.some.inj (hin.symm.trans hin')
  extract_lets u m id s1 s2 n s3 gone at ht
  have h2 : SameChecks s s2 := by
    have h1 : SameChecks s s1 := ((s.sameChecks_dmaUse l.srcPort).trans
      (u.sameChecks_unchecked (f := .partLoadSteppingC) (by decide) p 0 _)).trans
      (foldl_of (P := SameChecks _) (fun a j h => h.trans (a.sameChecks_unchecked (f := .partLoadImageId) (by decide) p j _)) .refl)
    refine h1.trans (s1.sameChecks_modPart p ?_)
    exact fun _ => rfl
  have h3 : Kept (.without [.partLoadStage] [.keys]) s s3 :=
    kept_modPart ⟨by decide +kernel, by decide +kernel⟩ (kept_modPart ⟨by decide +kernel, by decide +kernel⟩
      (kept_foldl (fun _ _ h => kept_setReg (by decide +kernel) h) (kept_setReg (by decide +kernel)
        (kept_dmaUse ⟨by decide +kernel, by decide +kernel⟩ .refl))))
  have hkeys : s3.host.keys = s.host.keys := (h3.part_without (k := .keys) (List.mem_singleton_self _)).2
  have hgone : gone = false := by
    unfold gone
    split
    · next e he =>
      rcases hmap e he with hlt | hhas
      · simp [m, hlt]
      · simp [m, hhas]
    · rfl
  rw [if_neg (by simp [m, hhead]), h2.headerFail, hfail] at ht
  simp only at ht
  rw [if_neg (by simp [m, n, htable, htrailer]), if_neg (by simp [m, hzero]), State.imageKey_congr hkeys] at ht
  have hload3 : ∃ x, (s3.part p).load = some x := ⟨_, by rw [State.part_modPart_self]⟩
  clear_value s3 gone
  refine ⟨s3, (h3.reg_without (List.mem_singleton_self _) p 0).trans hstage, hload3, ?_⟩
  subst hgone
  rw [← ht]
  cases s.imageKey img.toArray with
  | none => rfl
  | some k => rfl

end

section
variable {s : State} {p : Nat} {img : Bytes} {l : Load}

/-- A verified image leaves its key slot in KEY_SLOT, and goes on to the plan if its section table is sound. -/
theorem State.afterSignature_signed {m : Img} {k : Nat} (hk : k < 8) :
    (s.afterSignature p m (some k)).reg .partLoadKeySlot p 0 = k ∧
      (tableFail m = none → (s.afterSignature p m (some k)).loadStage p = 2) := by
  have hw : Fld.partLoadKeySlot.width = 3 ∧ Fld.partLoadStage.width = 4 := by decide +kernel
  have hset : (s.setReg .partLoadKeySlot p 0 k).reg .partLoadKeySlot p 0 = k := State.reg_setReg_of_lt _ (by rw [hw.1]; exact hk) p 0
  delta State.afterSignature
  simp only
  split
  · next f hf =>
    refine ⟨Eq.trans ?_ hset, fun hn => absurd (hn.symm.trans hf) (by simp)⟩
    exact Kept.reg_without (fs := [.partLoadKeySlot]) (ks := []) (kept_loadFail ⟨by decide +kernel, by decide +kernel⟩ .refl)
      (List.mem_singleton_self _) p 0
  · refine ⟨Eq.trans ?_ hset, fun _ => State.reg_setReg_of_lt _ (by rw [hw.2]; decide) p 0⟩
    exact Kept.reg_without (fs := [.partLoadKeySlot]) (ks := []) (kept_setReg (by decide +kernel) .refl) (List.mem_singleton_self _) p 0

theorem State.loadEnded_afterSignature {m : Img} (hstage : s.loadStage p = 1) (hl : (s.part p).load = some l) :
    LoadEnded (s.afterSignature p m none) p .imageSignature 1 0 :=
  State.loadEnded_loadFail (sect := noSect) hl hstage (by decide) (by decide) (by decide)

theorem State.loadStage_toStage (s : State) (p : Nat) {n : Nat} (hn : n < 16) : (s.toStage p n).loadStage p = n :=
  State.reg_setReg_of_lt _ (hn.trans_le (by decide +kernel)) p 0

/-! ## Stage 0x2 PLAN (R204, steps 4 to 8) -/

/-- A plan that finds nothing wrong reserves its allocations and goes on to the check. -/
theorem State.loadPlan_spec {tr : Transform} {allocs : List (Nat × Nat × Nat)} (hin : s.loadIn p 2 = some l)
    (hon : (s.regions p).all s.regionOn = true)
    (hsects : (imgSects (l.view img)).all (fun e => sectHas img e || decide (e.type = ST.probes)) = true)
    (hmap : s.mapBad (l.view img) = false) (htr : s.transform p (l.view img) = some tr)
    (hlat : orFail (s.latencyFail tr (l.view img)) ((dramSects (l.view img)).findSome? fun e =>
      if dramHeadBad (l.view img) e then some (⟨.imageFormat, e.idx, 0⟩ : LFail) else none) = none)
    (hallocs : s.planAllocs p tr (l.view img) (dramSects (l.view img)) = .ok allocs)
    (hslots : ∀ e ∈ dramSects (l.view img), s.slotsTaken p (tr.anvil e.scope) + imgLe (l.view img) (e.off + 8) 2 ≤ 256)
    (hqueues : s.queueFail p (l.view img) = none) (hpins : s.pinFail p (l.view img) = none)
    (hlinks : s.linkOutFail tr (l.view img) = none) :
    (s.loadPlan p img).loadStage p = 3 ∧ ((s.loadPlan p img).part p).load.any (fun x => x.allocs = allocs) = true := by
  obtain ⟨hlat, hheads⟩ := orFail_eq_none.1 hlat
  have hhas : ∀ type n, type ≠ ST.probes → headsHas img (l.view img) type n = true := fun type n ht =>
    headsHas_of_sectHas (fun e he hte => by simpa [hte, ht] using List.all_eq_true.1 hsects e he) n
  generalize ht : s.loadPlan p img = t
  delta State.loadPlan at ht
  split at ht
  · next hnone => cases hin.symm.trans hnone
  next l' hin' =>
  obtain rfl : l = l' := Option.some.inj (hin.symm.trans hin')
  extract_lets u m whole map heads at ht
  have hu : SameChecks s u := s.sameChecks_dmaUse l.srcPort
  have hmapNone : stepFail [(whole ST.regionMap, map)] = none :=
    stepFail_pass (hhas _ _ (by decide)) (by simp [map, hu.mapBad, m, hmap]) rfl
  have hoff : ¬((u.regions p).any (fun r => !u.regionOn r) = true) := by
    simpa [hu.regions, hu.regionOn] using hon
  rw [if_neg hoff] at ht
  split at ht
  · next f hf => cases hmapNone.symm.trans hf
  have hutr : u.transform p m = some tr := (hu.transform ..).trans htr
  split at ht
  · next hf => cases hutr.symm.trans hf
  next tr' htr' =>
  obtain rfl : tr = tr' := Option.some.inj (hutr.symm.trans htr')
  extract_lets s1 slots at ht
  have h1 : SameChecks s s1 := ((hu.trans (u.sameChecks_unchecked (f := .partLoadRelocRowSwap) (by decide) p 0 _)).trans
    (State.sameChecks_unchecked _ (f := .partLoadRelocColShift) (by decide) p 0 _)).trans
    (State.sameChecks_unchecked _ (f := .partLoadRelocRowShift) (by decide) p 0 _)
  have hparts : s1.parts = s.parts := s.parts_dmaUse l.srcPort
  have hstep : stepFail [(whole ST.regs && headsHas img m ST.hearth (hxPortEnd m), s1.latencyFail tr m),
      (headsHas img m ST.dram 16, heads)] = none :=
    stepFail_pass (by simp [whole, m, hhas ST.regs _ (by decide), hhas ST.hearth _ (by decide)]) ((h1.latencyFail ..).trans hlat)
      (stepFail_pass (hhas _ _ (by decide)) hheads rfl)
  split at ht
  · next f hf => cases hstep.symm.trans hf
  have hplan : s1.planAllocs p tr m (dramSects m) = .ok allocs := (h1.planAllocs hparts ..).trans hallocs
  split at ht
  · next f hf => cases hplan.symm.trans hf
  next allocs' hallocs' =>
  obtain rfl : allocs = allocs' := Except.ok.inj (hplan.symm.trans hallocs')
  have hslotsNone : slots = none := List.findSome?_eq_none_iff.2 fun e he => if_neg (by
    rw [h1.slotsTaken hparts]
    exact not_lt.2 (hslots e he))
  have hlast : stepFail [(true, slots), (headsHas img m ST.queues 4, s1.queueFail p m), (whole ST.pins, s1.pinFail p m),
      (decide (s1.reg .svcLinkOut 0 0 = 0) || whole ST.hearth, s1.linkOutFail tr m)] = none :=
    stepFail_pass rfl hslotsNone (stepFail_pass (hhas _ _ (by decide)) ((h1.queueFail ..).trans hqueues)
      (stepFail_pass (hhas _ _ (by decide)) ((h1.pinFail ..).trans hpins)
        (stepFail_pass (by simp [whole, m, hhas ST.hearth _ (by decide)]) ((h1.linkOutFail ..).trans hlinks) rfl)))
  split at ht
  · next f hf => cases hlast.symm.trans hf
  subst ht
  refine ⟨State.loadStage_toStage _ p (by decide), ?_⟩
  rw [State.toStage, State.part, State.parts_setReg, ← State.part, State.part_modPart_self]
  simp

/-! ## Stage 0x3 CHECK (R204, steps 9 and 10) -/

/-- A check that finds nothing wrong ends a check-only load with OK, and goes on to PREPARE otherwise. -/
theorem State.loadCheck_spec (hin : s.loadIn p 3 = some l) (hsects : (imgSects (l.view img)).all (sectHas img) = true)
    (hcheck : s.checkFail p l (l.view img) = none) :
    if l.checkOnly then LoadEnded (s.loadCheck p img) p .ok 3 0 else (s.loadCheck p img).loadStage p = 4 := by
  obtain ⟨-, hstage, hload⟩ := State.loadIn_iff.1 hin
  generalize ht : s.loadCheck p img = t
  delta State.loadCheck at ht
  split at ht
  · next hnone => cases hin.symm.trans hnone
  next l' hin' =>
  obtain rfl : l = l' := Option.some.inj (hin.symm.trans hin')
  extract_lets u m at ht
  have hu : SameChecks s u := s.sameChecks_dmaUse l.srcPort
  have hcheckU : u.checkFail p l m = none := (hu.checkFail ..).trans hcheck
  rw [if_neg (by simpa [m] using hsects)] at ht
  split at ht
  · next f hf => cases hcheckU.symm.trans hf
  subst ht
  have huload : (u.part p).load = some l := by
    rw [State.part, State.parts_dmaUse]
    exact hload
  split
  · exact State.loadEnded_loadEnd (st := .ok) 0 huload ((hu.reg _ (by decide) p 0).trans hstage) (by decide) (by decide)
  · exact State.loadStage_toStage _ p (by decide)

end

section
variable {s : State} {p : Nat} {img : Bytes} {l : Load}

/-! ## Stage 0x4 PREPARE (R203) -/

theorem State.mode_loadOpen (hready : s.mode p = Mode.ready) (l : Load) : (s.loadOpen p l).mode p = Mode.loading := by
  have hdiscard : (s.discardImage p).mode p = s.mode p :=
    Kept.reg_without (fs := [.partRunMode]) (ks := []) (kept_discardImage ⟨by decide +kernel, by decide +kernel⟩ .refl)
      (List.mem_singleton_self _) p 0
  delta State.loadOpen
  extract_lets s1 s2
  have h2 : s2 = s1.enterMode p Mode.loading 1 := if_pos (hdiscard.trans hready)
  rw [h2]
  exact State.mode_enterMode_of_kept (u := s1) (reason := 1) p (by decide)
    (kept_modPart ⟨by decide +kernel, by decide +kernel⟩ (kept_setHolds ⟨by decide +kernel, by decide +kernel⟩ .refl))

/-- Where no controller that the load needs holds it up, PREPARE goes on to SETUP, with the partition in LOADING. -/
theorem State.loadPrepare_spec (hin : s.loadIn p 4 = some l) (hfrozen : (s.loadOpen p l).loadFrozen l = none) :
    (s.loadPrepare p).loadStage p = 5 ∧ (s.mode p = Mode.ready → (s.loadPrepare p).mode p = Mode.loading) := by
  generalize ht : s.loadPrepare p = t
  delta State.loadPrepare at ht
  split at ht
  · next hnone => cases hin.symm.trans hnone
  next l' hin' =>
  obtain rfl : l = l' := Option.some.inj (hin.symm.trans hin')
  extract_lets s3 s4 s5 at ht
  split at ht
  · next a ha => cases hfrozen.symm.trans ha
  subst ht
  refine ⟨State.loadStage_toStage _ p (by decide), fun hready => ?_⟩
  have h5 : Kept (.without [.partRunMode] []) s3 s5 :=
    kept_foldl (fun _ _ h => kept_zeroRange ⟨by decide +kernel, by decide +kernel⟩ h)
      (kept_foldl (fun _ _ h => kept_setReg (by decide +kernel) h) (kept_loadWakes ⟨by decide +kernel, by decide +kernel⟩ .refl))
  have hmode : s5.mode p = Mode.loading := (h5.reg_without (List.mem_singleton_self _) p 0).trans (State.mode_loadOpen hready l)
  exact (State.reg_setReg_fld _ (by decide) p 0 5 p 0).trans hmode

/-! ## Stage 0x5 SETUP (R203) -/

theorem State.loadFrozen_dmaUse (s : State) (port : Nat) (l : Load) : (s.dmaUse port).loadFrozen l = s.loadFrozen l := by
  simp (disch := decide) only [State.loadFrozen, State.streamHeld, State.reqs, State.dram_dmaUse, (s.sameChecks_dmaUse port).flag]

/-- SETUP ends with IMAGE_DIGEST at a section whose digest differs; where no controller holds it up it goes on to HEARTHS, at cycle 0. -/
theorem State.loadSetup_spec (hin : s.loadIn p 5 = some l)
    (hsects : ((imgSects (l.view img)).filter fun e => decide (e.type ≠ ST.hearth)).all (sectHas img) = true)
    (hfrozen : s.loadFrozen l = none) :
    if ((imgSects (l.view img)).filter fun e => decide (e.type ≠ ST.hearth)).all (digestOk (l.view img)) then
      (s.loadSetup p img).loadStage p = 6 ∧ (s.loadSetup p img).cycle p = 0
    else LoadEnded (s.loadSetup p img) p .imageDigest 5 0 := by
  obtain ⟨-, hstage, hload⟩ := State.loadIn_iff.1 hin
  generalize ht : s.loadSetup p img = t
  delta State.loadSetup at ht
  split at ht
  · next hnone => cases hin.symm.trans hnone
  next l' hin' =>
  obtain rfl : l = l' := Option.some.inj (hin.symm.trans hin')
  extract_lets u m others s1 at ht
  rw [if_neg (by simpa [others, m, or_iff_not_imp_left] using hsects)] at ht
  split at ht
  · next e he =>
    subst ht
    have hbad : ¬others.all (digestOk m) = true := fun hall =>
      absurd (List.find?_some he) (by simp [List.all_eq_true.1 hall e (List.mem_of_find?_eq_some he)])
    rw [if_neg hbad]
    refine State.loadEnded_loadFail (l := l) ?_ (((s.sameChecks_dmaUse l.srcPort).reg _ (by decide) p 0).trans hstage) (by decide)
      (by decide) (by decide)
    rw [State.part, State.parts_dmaUse]
    exact hload
  · next hnone =>
    have hgood : others.all (digestOk m) = true := by simpa using hnone
    rw [if_pos hgood]
    split at ht
    · next a ha => cases ((s.loadFrozen_dmaUse l.srcPort l).trans hfrozen).symm.trans ha
    subst ht
    refine ⟨State.loadStage_toStage _ p (by decide), ?_⟩
    have hk : Kept (.without [.partSchedCycleLo, .partSchedCycleHi] []) (s1.setReg64 .partSchedCycleLo .partSchedCycleHi p 0 0)
        (((s1.setReg64 .partSchedCycleLo .partSchedCycleHi p 0 0).writeRuns l m).toStage p 6) :=
      kept_toStage ⟨by decide +kernel, by decide +kernel⟩ (kept_writeRuns ⟨by decide +kernel, by decide +kernel⟩ .refl)
    rw [State.cycle, State.reg64, hk.reg_without (by decide), hk.reg_without (by decide)]
    exact State.reg64_setReg64 _ (by decide) (by decide +kernel) (by decide +kernel) p 0 0

/-! ## Stage 0x6 HEARTHS (R205) -/

theorem State.sameLoads_clkPreset (s : State) (p : Nat) : SameLoads s (s.clkPreset p) := by
  delta State.clkPreset
  extract_lets cnt dl mux cur nxt rst
  refine .modPart s p ?_
  exact fun _ => ⟨rfl, rfl⟩

/-- The last hearth brings the partition to READY at cycle 0, and ends the load with OK (R149, R203). -/
theorem State.loadReady_spec (hstage : s.loadStage p = 6) (hl : (s.part p).load = some l) :
    (s.loadReady p).mode p = Mode.ready ∧ (s.loadReady p).cycle p = 0 ∧ LoadEnded (s.loadReady p) p .ok 6 0 := by
  delta State.loadReady
  extract_lets s1 s2 s3
  have hend3 : Kept (.without [.partRunMode, .partSchedCycleLo, .partSchedCycleHi] []) s3 (s3.loadEnd p .ok 0 0).nextInsertion :=
    kept_nextInsertion ⟨by decide +kernel, by decide +kernel⟩ (kept_loadEnd ⟨by decide +kernel, by decide +kernel⟩ .refl)
  refine ⟨?_, ?_, ?_⟩
  · refine (hend3.reg_without (by decide) p 0).trans ?_
    exact State.mode_enterMode_of_kept (u := (s2.clkPreset p).pinsChange p) (reason := 2) p (by decide)
      (kept_outageEnd ⟨by decide +kernel, by decide +kernel⟩ .refl)
  · have h3 : Kept (.without [.partSchedCycleLo, .partSchedCycleHi] []) (s1.setReg64 .partSchedCycleLo .partSchedCycleHi p 0 0) s3 :=
      kept_outageEnd ⟨by decide +kernel, by decide +kernel⟩ (kept_enterMode ⟨by decide +kernel, by decide +kernel⟩
        (kept_pinsChange ⟨by decide +kernel, by decide +kernel⟩ (kept_clkPreset ⟨by decide +kernel, by decide +kernel⟩
          (kept_setReg (by decide +kernel) (kept_setReg (by decide +kernel) .refl)))))
    rw [State.cycle, State.reg64, hend3.reg_without (by decide), hend3.reg_without (by decide), h3.reg_without (by decide),
      h3.reg_without (by decide)]
    exact State.reg64_setReg64 _ (by decide) (by decide +kernel) (by decide +kernel) p 0 0
  · have hk : Kept (.without [.partLoadStage] []) s s3 :=
      kept_outageEnd ⟨by decide +kernel, by decide +kernel⟩ (kept_enterMode ⟨by decide +kernel, by decide +kernel⟩
        (kept_pinsChange ⟨by decide +kernel, by decide +kernel⟩ (kept_clkPreset ⟨by decide +kernel, by decide +kernel⟩
          (kept_setReg (by decide +kernel) (kept_setReg (by decide +kernel) (kept_setReg64 (by decide +kernel) (by decide +kernel)
            (kept_modPart ⟨by decide +kernel, by decide +kernel⟩ .refl)))))))
    have hloads : SameLoads s s3 := by
      have h1 : SameLoads s s1 := by
        refine .modPart s p ?_
        exact fun _ => ⟨rfl, rfl⟩
      have h2 : SameLoads s s2 := h1.trans (.of_parts rfl)
      exact (h2.trans (s2.sameLoads_clkPreset p)).trans (.of_kept (kept_outageEnd ⟨by decide +kernel, by decide +kernel⟩
        (kept_enterMode ⟨by decide +kernel, by decide +kernel⟩ (kept_pinsChange ⟨by decide +kernel, by decide +kernel⟩ .refl))))
    have hend := State.loadEnded_loadEnd (st := .ok) (detail := 0) 0 ((hloads.load p).trans hl)
      ((hk.reg_without (List.mem_singleton_self _) p 0).trans hstage) (by decide) (by decide)
    exact hend.of_kept (kept_nextInsertion ⟨by decide +kernel, by decide +kernel⟩ .refl)

/-- A hearth that a load writes is one of the module. -/
theorem hearthOrder_lt {tr : Transform} {m : Img} {n a h : Nat} {e : Sect} (he : (hearthOrder s p tr m)[n]? = some (a, h, e)) :
    a < 8 ∧ h < 128 := by
  obtain ⟨ah, hah, hx⟩ := List.mem_filterMap.1 (List.mem_of_getElem? he)
  obtain ⟨r, hr, hrh⟩ := List.mem_flatMap.1 hah
  obtain ⟨c, hc, rfl⟩ := List.mem_map.1 hrh
  obtain ⟨k, -, hk⟩ := Option.bind_eq_some_iff.1 hx
  obtain ⟨e', -, he'⟩ := Option.map_eq_some_iff.1 hk
  have hr64 := (mem_setBitsOf.1 hr).1
  have hc16 := List.mem_range.1 hc
  simp only [Prod.mk.injEq] at he'
  omega

/-- A hearth that reads back as its section says takes the load one hearth on; a digest that differs and a hearth that reads back
wrong end it (R204, R205). -/
theorem State.hearthVerify_spec {a h : Nat} {e : Sect} (n : Nat) (hin : s.loadIn p 6 = some l)
    (he : (hearthOrder s p l.transform (l.view img))[l.next]? = some (a, h, e)) (hhas : sectHas img e = true) :
    if digestOk (l.view img) e = false then LoadEnded (s.hearthVerify p img n) p .imageDigest 6 0
    else if 3 ≤ n ∨ crc32 (imgBytes (l.view img) e.off e.len) ≠ e.crc then
      LoadEnded (s.hearthVerify p img n) p .loadVerify 6 (2 ^ 28 * a + 2 ^ 20 * h)
    else if l.next + 1 = 16 * (s.regions p).length then
      (s.hearthVerify p img n).mode p = Mode.ready ∧ (s.hearthVerify p img n).cycle p = 0 ∧ LoadEnded (s.hearthVerify p img n) p .ok 6 0
    else l.next < 1024 → (s.hearthVerify p img n).loadStage p = 6 ∧ (s.hearthVerify p img n).reg .partLoadDone p 0 = l.next + 1 := by
  obtain ⟨-, hstage, hload⟩ := State.loadIn_iff.1 hin
  generalize ht : s.hearthVerify p img n = t
  delta State.hearthVerify at ht
  split at ht
  · next hnone => cases hin.symm.trans hnone
  next l' hin' =>
  obtain rfl : l = l' := Option.some.inj (hin.symm.trans hin')
  extract_lets u m at ht
  have hu : SameChecks s u := s.sameChecks_dmaUse l.srcPort
  have hustage : u.loadStage p = 6 := (hu.reg _ (by decide) p 0).trans hstage
  have huload : (u.part p).load = some l := by
    rw [State.part, State.parts_dmaUse]
    exact hload
  have hue : (hearthOrder u p l.transform m)[l.next]? = some (a, h, e) := by
    rw [hearthOrder, State.hearths, hu.regions]
    exact he
  split at ht
  · next hf => cases hue.symm.trans hf
  next a' h' e' hue' =>
  obtain ⟨rfl, rfl, rfl⟩ : a = a' ∧ h = h' ∧ e = e' := by simpa using hue.symm.trans hue'
  rw [if_neg (by simp [hhas])] at ht
  extract_lets s1 s2 at ht
  have h1 : Kept (.without [.partLoadStage] [.parts]) { u with fab := u.fab.writeHearth m e a h } s1 :=
    kept_foldl (fun _ _ hk => kept_writeBinding ⟨by decide +kernel, by decide +kernel⟩ hk) .refl
  have h1stage : s1.loadStage p = 6 := (h1.reg_without (List.mem_singleton_self _) p 0).trans hustage
  have h1load : (s1.part p).load = some l := by
    rw [State.part, h1.part_without (k := .parts) (List.mem_singleton_self _)]
    exact huload
  clear_value s1
  obtain ⟨ha, hh⟩ := hearthOrder_lt he
  cases hd : digestOk (l.view img) e with
  | false =>
    rw [if_pos (by simp [m, hd])] at ht
    subst ht
    exact State.loadEnded_loadFail huload hustage (by decide) (by decide) (by decide)
  | true =>
    rw [if_neg (by simp [m, hd])] at ht
    rw [if_neg (by decide)]
    split
    · next hbad =>
      rw [if_pos hbad] at ht
      subst ht
      exact State.loadEnded_loadFail h1load h1stage (by decide) (by decide) (by omega)
    · next hgood =>
      rw [if_neg hgood, hu.regions] at ht
      have h2stage : s2.loadStage p = 6 :=
        (s1.reg_setReg_fld (f := .partLoadDone) (g := .partLoadStage) (by decide) p 0 (l.next + 1) p 0).trans h1stage
      split
      · next hlast =>
        rw [if_pos hlast] at ht
        subst ht
        exact State.loadReady_spec h2stage (by rw [State.part_modPart_self])
      · next hmore =>
        rw [if_neg hmore] at ht
        subst ht
        have hw : Fld.partLoadDone.width = 11 := by decide +kernel
        exact fun hnext => ⟨h2stage, s1.reg_setReg_of_lt (by rw [hw]; omega) p 0⟩

end

/-- Both outcomes of a case distinction weakened. -/
theorem ite_imp_of {c A A' B B' : Prop} [Decidable c] (h : if c then A else B) (ha : A → A') (hb : B → B') : if c then A' else B' := by
  split at h
  · next hc => exact (if_pos hc).symm ▸ ha h
  · next hc => exact (if_neg hc).symm ▸ hb h

/-- Settles O3: the key commands write their slot or lose the copy; PART_LOAD and LOAD_DEQUEUE start loads; each stage, of which the
fetch leaves what its checks look at, goes on or ends the load as its lemma says. -/
theorem loadCommandsComplete : Obligations.LoadCommandsComplete := by
  refine ⟨fun r slot key s hf ho hslot hlen hform hcurve => ?key, fun r slot s hf ho hslot => ?clear,
    fun p s hbusy hp hwaits hold => ⟨_, rfl, State.loadStage_loadDequeue hbusy hp hwaits hold⟩,
    fun r p srcPort addr length flags s ha hflags _ hpresent ho hidle hmode => ?load,
    fun p img s l hin hhead hfail htable htrailer hzero hmap => ⟨_, rfl, ?header⟩,
    fun p img s l tr allocs hin hon hsects hmap htr hlat hallocs hslots hqueues hpins hlinks =>
      ⟨_, rfl, State.loadPlan_spec hin hon hsects hmap htr hlat hallocs hslots hqueues hpins hlinks⟩,
    fun p img s l hin hsects hcheck => ⟨_, rfl, ite_imp_of (State.loadCheck_spec hin hsects hcheck)
      (fun h => ⟨h.ended, h.status, h.endStage⟩) id⟩,
    fun p s l hin hfrozen => ⟨_, rfl, State.loadPrepare_spec hin hfrozen⟩,
    fun p img s l hin hsects hfrozen => ⟨_, rfl, ite_imp_of (State.loadSetup_spec hin hsects hfrozen) id
      fun h => ⟨h.ended, h.status, h.endStage⟩⟩,
    fun p img n s l a h e hin he hhas => ⟨_, rfl, ?hearth⟩,
    fun a id s j r b hj hr hfrozen hleft hb hans hload =>
      ⟨_, rfl, State.statusOf_frozenTimeout hj hr hfrozen hleft hb hans hload⟩⟩
  case key =>
    exact answers_keyCommand hf (fun _ => rfl) fun bad h =>
      cmdImageKeySet_pass (s := { s with host := h }) bad ho hslot hlen hform hcurve
  case clear =>
    exact answers_keyCommand hf (fun _ => rfl) fun bad h => cmdImageKeyClear_pass (s := { s with host := h }) bad ho hslot
  case load =>
    obtain ⟨hf, hx, hm⟩ := State.admits_iff.1 ha
    exact answers_of_waits hf rfl fun h =>
      cmdPartLoad_waits (s := { s with host := h }) hx hm hflags hpresent ho hidle hmode
  case header =>
    obtain ⟨u, hstage, ⟨x, hx⟩, hu⟩ := State.loadHeader_eq hin hhead hfail htable htrailer hzero hmap
    rw [hu]
    refine ⟨fun k hk => ?_, fun hnone => ?_⟩
    · rw [hk]
      exact State.afterSignature_signed (State.imageKey_lt hk)
    · rw [hnone]
      obtain ⟨hended, hstatus, hend, -⟩ := State.loadEnded_afterSignature (m := img.toArray) hstage hx
      exact ⟨hended, hstatus, hend⟩
  case hearth =>
    refine ite_imp_of (State.hearthVerify_spec n hin he hhas) (fun h => ⟨h.ended, h.status⟩) fun hgood =>
      ite_imp_of hgood (fun h => ⟨h.ended, h.status, h.detail⟩) fun hread => ite_imp_of hread ?_ id
    exact fun ⟨hmode, hcycle, hend⟩ => ⟨hmode, hcycle, hend.ended, hend.status, hend.endStage⟩

end Sys2Proof.Machine
end

section
/-! PROOFS. The end of a capture's drain (07_observation.md, R216), which waits while the DRAM controller of the home anvil cannot take
the stream. -/

namespace Sys2Proof.Machine

section
variable {s : State} {p : Nat}

/-- What CAPTURE_DRAIN_COMPLETE answers with is the state that `State.capDrain` gives. -/
theorem answers_captureDrainComplete {P : State → Prop} : Answers (.captureDrainComplete p) s P ↔ P (s.capDrain p) :=
  ⟨fun ⟨_, ht, hP⟩ => Host.Outcome.next.inj ht ▸ hP, fun hP => ⟨_, rfl, hP⟩⟩

/-- A refresh of a subchannel holds every stream to its anvil. -/
theorem State.streamHeld_of_refresh {a sub n base size : Nat} (h : ([a, sub], n) ∈ s.dram.refresh) :
    s.streamHeld a base size = true := by
  have hany : s.dram.refresh.any (fun e => decide (e.1.getD 0 0 = a)) = true := List.any_eq_true.2 ⟨_, h, by simp⟩
  simp only [State.streamHeld, hany, Bool.or_true, Bool.true_or]

/-- While the stream of a capture is held, its drain does not end. -/
theorem State.capDrain_of_streamHeld (h : s.streamHeld (s.homeAnvil p) (s.capArea p).1 (s.capArea p).2 = true) :
    s.capDrain p = s :=
  if_pos (.inr (.inl h))

end

/-- Partition 0 is READY with its capture DRAINING; on its home anvil, which is on, SAME_BANK_REFRESH has begun the refresh of bank 0 of
subchannel 0. -/
def drainInRefresh : State :=
  (((({ State.reset with sys := { Sys.init with anvilOn := [([0], true)] } }.setReg .partRunExists 0 0 1).setReg .partRgnLo 0 0 1).setReg
    .partRunMode 0 0 Mode.ready).setReg .partCapStatusState 0 0 2).sameBank 0 0 0

/-- The capture is DRAINING, the controller is not frozen, and the partition executes no steps. -/
theorem drainInRefresh_draining :
    drainInRefresh.reg .partCapStatusState 0 0 = 2 ∧ drainInRefresh.flag .ddrStatusFrozen (drainInRefresh.homeAnvil 0) 0 = false ∧
      drainInRefresh.executing 0 = false := by
  decide +kernel

theorem drainInRefresh_refresh : ([drainInRefresh.homeAnvil 0, 0], 1) ∈ drainInRefresh.dram.refresh := by
  decide +kernel

/-- Refutes O4: a capture of a READY partition drains while the controller of the home anvil refreshes a bank. The model lets the
stream to the capture area run while the controller serves everything (log entry 187), so the event is not due and the capture stays
DRAINING, where the clause on CAPTURE_DRAIN_COMPLETE has it COMPLETE. The clause asks that the controller be not frozen, and leaves out
the refreshes, the diagnoses and the requests for the area that hold the stream too. -/
theorem not_observationCommandsComplete : ¬ Obligations.ObservationCommandsComplete := by
  rintro ⟨-, -, -, -, -, -, -, hdrain, -⟩
  obtain ⟨hstate, hfrozen, hexec⟩ := drainInRefresh_draining
  have hcomplete := answers_captureDrainComplete.1 (hdrain 0 drainInRefresh hstate hfrozen (.inl hexec))
  rw [State.capDrain_of_streamHeld (State.streamHeld_of_refresh drainInRefresh_refresh), hstate] at hcomplete
  exact absurd hcomplete (by decide)

end Sys2Proof.Machine
end

section
/-! PROOFS. The retirement of a page whose rank holds a mark (09_dram.md, R258, R261, R263): what the reads of its copy deliver. -/

namespace Sys2Proof.Machine

/-- Page 7 of anvil 0 is due to be retired. Its rank, 0, has device 4 of subchannel 0 marked, and the DRAM holds zeros. -/
def markedPageDue : State :=
  ({ State.reset with
      sys := { Sys.init with anvilOn := [([0], true)] }
      dram := { Dram.init with waiting := [([0], [7])] } }.setReg .ddrMarkValid 0 0 1).setReg .ddrMarkDevice 0 0 4

/-- The read of the page's first burst, with an error in symbol 0, which device 0 carries. -/
def unmarkedError : BurstRead := ⟨0, [(0, 1)], []⟩

theorem markedPageDue_freePage : markedPageDue.dram.freePage 0 none = some 0x7C0000 := by
  decide +kernel

/-- The first byte of the page is 0 before the retirement. With device 4's symbols as erasures no redundancy is left for device 0 (R261):
the error is delivered in the data, and afterwards it stands in the page that was left. -/
theorem markedPageDue_firstByte :
    markedPageDue.dramByte 0 0x7000 = 0 ∧ (markedPageDue.pageRetirement 0 7 [unmarkedError]).dramByte 0 0x7000 = 1 := by
  decide +kernel

/-- Refutes O43: a page of a marked rank retires, and the read of its first burst meets an error in a device that is not the marked one.
The decoder takes it for data (R261), and the copy goes on with the burst as delivered, which the model puts in the place it has read:
a byte of the old page changes, where the clause on PAGE_RETIREMENT says that the page is written nowhere but in its new place. -/
theorem not_depositAndServeWindows : ¬ Obligations.DepositAndServeWindows := by
  rintro ⟨-, -, hretire, -⟩
  obtain ⟨hbefore, hafter⟩ := markedPageDue_firstByte
  have hnew : markedPageDue.dram.freePage 0 none ≠ some (0x7000 / 4096) := by
    rw [markedPageDue_freePage]
    decide
  have hkeeps := hretire 0 7 [unmarkedError] markedPageDue _ 0 0x7000 rfl (.inr hnew)
  rw [hbefore, hafter] at hkeeps
  exact absurd hkeeps (by decide)

end Sys2Proof.Machine
end

section
/-! PROOFS. The packets that a trace source makes (08_trace.md, R235, R237, R242): a FIFO keeps what it holds while its source reports,
and a run of more than 65,535 instructions of a CP makes more than one BRANCH. -/

namespace Sys2Proof.Machine

/-! ## Bytes of a packet (R235, R242) -/

@[simp] theorem length_toLE (n v : Nat) : (toLE n v).length = n := by
  induction n generalizing v with
  | zero => rfl
  | succ n ih => rw [toLE, List.length_cons, ih]

/-- A difference takes at most 8 bytes (R242). -/
theorem length_difference_le (new old : Nat) : (difference new old).length ≤ 8 := by
  rw [difference, length_toLE]
  cases h : ((List.range 8).map (· + 1)).find? _ with
  | none => exact le_rfl
  | some n =>
    obtain ⟨m, hm, rfl⟩ := List.mem_map.1 (List.mem_of_find?_eq_some h)
    exact List.mem_range.1 hm

/-- The ICOUNT of a BRANCH packet, which follows the header of 4 bytes (R235, R237). -/
def branchIcount (b : Bytes) : Nat := le b 4 2

theorem branchIcount_packet (src delta icount : Nat) (target : Bytes) :
    branchIcount (packet src TP.branch delta (toLE 2 icount ++ target)) = leVal (toLE 2 icount) := by
  rw [branchIcount, packet, le, List.drop_left' (length_toLE ..), List.take_left' (length_toLE ..)]

/-! ## What a source reports joins its FIFO (R237, R246) -/

section
variable (s : State) (x : Nat)

@[simp] theorem State.src_modSrc_self (f : TraceSrc → TraceSrc) : (s.modSrc x f).src x = f (s.src x) :=
  Tab.get_put_self

@[simp] theorem State.src_setReg (f : Fld) (i j v : Nat) : (s.setReg f i j v).src x = s.src x := rfl

@[simp] theorem State.src_bump (f : Fld) (i j n : Nat) : (s.bump f i j n).src x = s.src x := rfl

@[simp] theorem State.src_takeNat : s.takeNat.2.src x = s.src x := rfl

@[simp] theorem State.time_takeNat : s.takeNat.2.time = s.time := rfl

theorem State.fifo_push_prefix (type : Nat) (payload : Bytes) : (s.src x).fifo <+: ((s.push x type payload).src x).fifo := by
  rw [State.push]
  split
  · rw [State.src_modSrc_self]
  · rw [State.src_modSrc_self]
    exact List.prefix_append ..

theorem State.fifo_pushSync_prefix (reason addr : Nat) :
    (s.src x).fifo <+: ((s.pushSync x reason addr).src x).fifo := by
  rw [State.pushSync, State.src_modSrc_self]
  exact s.fifo_push_prefix x ..

theorem State.fifo_autoSync_prefix (reason : Nat) : (s.src x).fifo <+: ((s.autoSync x reason).src x).fifo := by
  rw [State.autoSync]
  split
  · exact s.takeNat.2.fifo_pushSync_prefix x ..
  · exact s.fifo_pushSync_prefix x ..

theorem State.fifo_recoverSrc_prefix : (s.src x).fifo <+: ((s.recoverSrc x).src x).fifo := by
  delta State.recoverSrc
  extract_lets s1 n s2
  have h1 : (s.src x).fifo <+: (s1.src x).fifo := by
    unfold s1
    split
    exacts [s.fifo_autoSync_prefix x 4, List.prefix_rfl]
  have h2 : (s1.src x).fifo <+: (s2.src x).fifo := by
    rw [State.src_modSrc_self]
    exact s1.fifo_push_prefix x ..
  have h3 := State.fifo_autoSync_prefix ((s2.bump .traceDropCount 0 0 n).setReg .traceStatusOverflow 0 0 1) x 2
  rw [State.src_setReg, State.src_bump] at h3
  exact (h1.trans h2).trans h3

/-- A source that reports an item keeps every packet that its FIFO holds. -/
theorem State.fifo_traceOne_prefix (i : TraceItem) : (s.src x).fifo <+: ((s.traceOne x i).src x).fifo := by
  delta State.traceOne
  split
  · exact List.prefix_rfl
  split
  · exact List.prefix_rfl
  extract_lets drop s1 s2
  have h1 : (s.src x).fifo <+: (s1.src x).fifo := by
    unfold s1
    split
    exacts [s.fifo_recoverSrc_prefix x, List.prefix_rfl]
  have h2 : (s.src x).fifo <+: (s2.src x).fifo := by
    unfold s2
    split
    · exact h1.trans (s1.fifo_autoSync_prefix x _)
    · exact h1
  split
  · rwa [State.src_modSrc_self]
  split
  · exact h2
  next type payload la lb _ =>
  split_ifs
  · rw [State.src_modSrc_self]
    exact h2.trans (s2.fifo_push_prefix x type payload)
  · rwa [State.src_modSrc_self]
  · rwa [State.src_modSrc_self]

variable {s x}

theorem State.fifo_push {type : Nat} {payload : Bytes} (h : (s.src x).used + s.pushLen x type payload ≤ srcSize x) :
    ((s.push x type payload).src x).fifo =
      (s.src x).fifo ++ stamped x type (s.time.ticks - (s.src x).lastTick) payload := by
  rw [State.push, if_neg (Nat.not_lt.2 h), State.src_modSrc_self]

/-- The packets of one item that its source emits and that fits join the FIFO. -/
theorem State.fifo_traceOne {i : TraceItem} {type la lb : Nat} {payload : Bytes} (hruns : s.srcRuns x = true)
    (hitem : s.itemPacket x i = some (type, payload, la, lb)) (hdropped : (s.src x).dropped = 0) (hsync : (s.src x).sync = none)
    (hfree : s.pushLen x type payload ≤ (s.src x).free x) (hused : (s.src x).used ≤ srcSize x) :
    ((s.traceOne x i).src x).fifo = (s.src x).fifo ++ stamped x type (s.time.ticks - (s.src x).lastTick) payload := by
  have hpush : (s.src x).used + s.pushLen x type payload ≤ srcSize x := by
    rw [TraceSrc.free] at hfree
    omega
  have hone : s.traceOne x i =
      (s.push x type payload).modSrc x (fun t => { t with lastA := la % 2 ^ 64, lastB := lb % 2 ^ 64 }) := by
    simp [State.traceOne, hruns, hitem, hdropped, hsync, hfree]
  rw [hone, State.src_modSrc_self, State.fifo_push hpush]

/-- A packet that needs no LONG_DELTA takes a header and its payload. -/
theorem State.pushLen_of_le {type : Nat} {payload : Bytes} (h : s.time.ticks - (s.src x).lastTick ≤ 0x7FFF) :
    s.pushLen x type payload = 4 + payload.length := by
  rw [State.pushLen, stamped, if_pos h, List.foldl_cons, List.foldl_nil, packet, List.length_append, length_toLE, Nat.zero_add]

/-- A BRANCH fits a FIFO that is empty. -/
theorem State.branch_fits {c : Nat} (icount target : Nat) (hc : c ≤ 8) (hfifo : (s.src c).fifo = [])
    (hticks : s.time.ticks - (s.src c).lastTick ≤ 0x7FFF) :
    s.pushLen c TP.branch (toLE 2 icount ++ difference target (s.src c).lastA) ≤ (s.src c).free c := by
  have hlen := length_difference_le target (s.src c).lastA
  have hfree : (s.src c).free c = 1984 := by simp [TraceSrc.free, TraceSrc.used, hfifo, srcSize, hc]
  rw [State.pushLen_of_le hticks, List.length_append, length_toLE, hfree]
  omega

theorem State.itemPacket_branch {c : Nat} (icount target : Nat) (hc : c ≤ 8) :
    s.itemPacket c (.branch icount target) =
      some (TP.branch, toLE 2 icount ++ difference target (s.src c).lastA, target, (s.src c).lastB) := by
  simp [State.itemPacket, hc]

/-- A BRANCH after 65,536 instructions comes after the one that the CP emits as its ICOUNT would pass 65,535 (R237). -/
theorem State.traceItem_branch_passing (target : Nat) :
    s.traceItem x (.branch 65536 target) =
      (s.takeNat.2.traceOne x (.branch 65535 (s.takeNat.1 % 2 ^ 64))).traceOne x (.branch 1 target) := rfl

/-- The first packet of a run of 65,536 instructions is a BRANCH of 65,535. -/
theorem State.first_icount_of_passing {c : Nat} (target : Nat) (hc : c ≤ 8) (hruns : s.srcRuns c = true)
    (hdropped : (s.src c).dropped = 0) (hsync : (s.src c).sync = none) (hfifo : (s.src c).fifo = [])
    (hticks : s.time.ticks - (s.src c).lastTick ≤ 0x7FFF) :
    [65535] <+: ((s.traceItem c (.branch 65536 target)).src c).fifo.map branchIcount := by
  rw [State.traceItem_branch_passing]
  refine .trans ?_ ((State.fifo_traceOne_prefix _ c _).map branchIcount)
  have hused : (s.src c).used ≤ srcSize c := by simp [TraceSrc.used, hfifo]
  rw [State.fifo_traceOne (s := s.takeNat.2) hruns (State.itemPacket_branch _ _ hc) hdropped hsync (State.branch_fits _ _ hc hfifo hticks)
    hused, State.src_takeNat, State.time_takeNat, hfifo, stamped, if_pos hticks, List.nil_append, List.map_singleton, branchIcount_packet]
  decide

end

/-! ## A run of 65,536 instructions -/

/-- What TRACE_PACKET_EMIT of a BRANCH answers with is the state that `State.traceItem` gives. -/
theorem answers_tracePacketEmit_branch {x icount target : Nat} {s : State} {P : State → Prop} :
    Answers (.tracePacketEmit x (.branch icount target)) s P ↔ P (s.traceItem x (.branch icount target)) :=
  ⟨fun ⟨_, ht, hP⟩ => Host.Outcome.next.inj ht ▸ hP, fun hP => ⟨_, rfl, hP⟩⟩

/-- Trace runs, and the steward's CP, whose source is 8, is traced. -/
def cpTraced : State :=
  ((State.reset.setReg .traceStatusState 0 0 1).setReg .traceCtlEnable 0 0 1).setReg .traceSrcEnLo 0 0 0x100

theorem cpTraced_srcRuns : cpTraced.srcRuns 8 = true := by
  decide +kernel

theorem cpTraced_src : cpTraced.src 8 = TraceSrc.init := rfl

theorem cpTraced_ticks : cpTraced.time.ticks = 0 := rfl

/-- Refutes O14: the steward's CP branches after 65,536 instructions. As its ICOUNT would pass 65,535 it emits a BRANCH of its own (R237),
so a BRANCH of 65,535 instructions joins the FIFO first, where the clause on TRACE_PACKET_EMIT has the one packet of `State.itemPacket`,
whose ICOUNT is the count modulo 2^16. The clause does not ask that the count of a BRANCH be at most 65,535. -/
theorem not_traceRowsComplete : ¬ Obligations.TraceRowsComplete := by
  rintro ⟨hemit, -⟩
  have hticks : cpTraced.time.ticks - (cpTraced.src 8).lastTick ≤ 0x7FFF := by simp [cpTraced_ticks]
  have hclause := answers_tracePacketEmit_branch.1 (hemit 8 (.branch 65536 0) cpTraced _ _ _ _ cpTraced_srcRuns
    (State.itemPacket_branch _ _ le_rfl) rfl rfl (State.branch_fits _ _ le_rfl rfl hticks))
  have hfirst := State.first_icount_of_passing 0 le_rfl cpTraced_srcRuns rfl rfl rfl hticks
  rw [hclause, stamped, if_pos hticks, cpTraced_src, TraceSrc.init, List.nil_append, List.map_singleton, branchIcount_packet] at hfirst
  exact absurd hfirst (by decide)

end Sys2Proof.Machine
end

section
/-! PROOFS. The DRAM commands (09_dram.md, R261, R263, R272, R273): what a thaw, the retirement of a page and a mark leave, and that
DDR_THAW, DDR_RETIRE_PAGE and DDR_MARK_SET pass their conditions. -/

namespace Sys2Proof.Machine

/-! ## What the operations leave -/

section
variable (s : State) (a : Nat)

/-- FROZEN stays clear once a thaw has cleared it: what the freeze held back cannot freeze the controller again (R272). -/
theorem State.flag_frozen_thawEnd : (s.thawEnd a).flag .ddrStatusFrozen a 0 = false := by
  have hk : Kept (.without [.ddrStatusFrozen] []) (s.setReg .ddrStatusFrozen a 0 0) (s.thawEnd a) := by
    delta State.thawEnd
    extract_lets s1 z s3 back wait s4
    have h3 : Kept (.without [.ddrStatusFrozen] []) (s.setReg .ddrStatusFrozen a 0 0) s3 :=
      kept_dramEvent ⟨by decide +kernel, by decide +kernel⟩ (kept_auditAction ⟨by decide +kernel, by decide +kernel⟩
        (kept_modDramRest (by decide +kernel) (fun _ => rfl) .refl))
    have h4 : Kept (.without [.ddrStatusFrozen] []) (s.setReg .ddrStatusFrozen a 0 0) s4 :=
      kept_pushAll ⟨by decide +kernel, by decide +kernel⟩
        (kept_foldl (fun _ _ h => kept_submitPort ⟨by decide +kernel, by decide +kernel⟩ h) h3)
    exact kept_foldl (fun _ _ h => kept_memRelease ⟨by decide +kernel, by decide +kernel⟩
      (kept_takeSlots ⟨by decide +kernel, by decide +kernel⟩ h)) h4
  exact (State.flag_congr _ (hk.reg_without (List.mem_singleton_self _) a 0)).trans (s.flag_setReg_zero ..)

variable {s a}

/-- A thaw of a frozen controller ends with the controller serving again, unless it is a retraining that fails (R272). -/
theorem State.thaw_eq_thawEnd {action : Nat} {ok : Bool} {z : DFreeze} (hz : Tab.get none s.dram.frozen [a] = some z)
    (hok : action = 2 → ok = true) : ∃ u : State, s.thaw a action ok = u.thawEnd a := by
  simp only [State.thaw, hz]
  rw [if_neg (by simpa using hok)]
  split_ifs <;> exact ⟨_, rfl⟩

theorem State.busy_thaw (action : Nat) (ok : Bool) : (s.thaw a action ok).host.busy = s.host.busy :=
  Kept.busy (kept_thaw ⟨by decide +kernel, by decide +kernel⟩ .refl)

theorem State.kept_outagesRecover (ps : List Nat) :
    Kept (.without [] [.commands, .dram]) s (ps.foldl (fun s p => s.outageRecover p false) s) :=
  kept_foldl (fun _ _ h => kept_outageRecover ⟨by decide +kernel, by decide +kernel⟩ h) .refl

theorem State.busy_retire (page : Nat) (rank : Option Nat) (copy : Bool) : (s.retire a page rank copy).host.busy = s.host.busy :=
  Kept.busy (kept_retire ⟨by decide +kernel, by decide +kernel⟩ .refl)

/-- A page for which a reserve page is free is retired (R263). -/
theorem State.retired_retire {page dst : Nat} {rank : Option Nat} (copy : Bool) (h : s.dram.freePage a rank = some dst) :
    Tab.get false (s.retire a page rank copy).dram.retired [a, page] = true := by
  simp only [State.retire, h, State.auditAction, State.noteReserve, State.dram_audit, State.dram_setFlag, State.dram_setReg,
    State.dram_setRecord, State.dram_modDram]
  exact Tab.get_put_self

variable {sub rank device : Nat}

theorem State.busy_setMark : (s.setMark a sub rank device).host.busy = s.host.busy :=
  Kept.busy (kept_setMark ⟨by decide +kernel, by decide +kernel⟩ .refl)

/-- The device that a mark names is the one marked in its rank (R261). -/
theorem State.markOf_setMark (hdevice : device < 5) : (s.setMark a sub rank device).markOf a sub rank = some device := by
  have hk : Kept (.without [.ddrMarkValid, .ddrMarkDevice] [])
      ((s.setRecord .ddrMarkValid a (2 * sub + rank) 1).setRecord .ddrMarkDevice a (2 * sub + rank) device)
      (s.setMark a sub rank device) := by
    delta State.setMark
    extract_lets s1 s2
    exact kept_setFlag (by decide +kernel) (kept_modDramRest (by decide +kernel) (fun _ => rfl)
      (kept_dramEvent ⟨by decide +kernel, by decide +kernel⟩ (kept_condition ⟨by decide +kernel, by decide +kernel⟩
        (kept_auditAction ⟨by decide +kernel, by decide +kernel⟩
          (kept_setRecord ⟨by decide +kernel, by decide +kernel⟩ (by decide +kernel) .refl)))))
  have hvalid : (s.setMark a sub rank device).flag .ddrMarkValid a (2 * sub + rank) = true := by
    refine (State.flag_congr _ ((hk.reg_without (by decide) ..).trans ?_)).trans (s.flag_setReg_one ..)
    rw [State.reg_setRecord, if_neg (by simp)]
    rfl
  have hname : (s.setMark a sub rank device).reg .ddrMarkDevice a (2 * sub + rank) = device := by
    rw [hk.reg_without (by decide), State.reg_setRecord_self]
    exact Nat.mod_eq_of_lt (hdevice.trans_le (by decide +kernel))
  rw [State.markOf, if_pos hvalid, hname]

theorem State.markOf_done (s : State) (r : CmdRef) (st : Status) (a sub rank : Nat) :
    (s.done r st).markOf a sub rank = s.markOf a sub rank := by
  rw [State.markOf, State.markOf, State.flag_congr _ (s.reg_done ..), State.reg_done]

end

/-! ## Commands whose conditions hold (R273, R444) -/

section
variable {s : State} {r : CmdRef} {a : Nat} (ho : s.isOwnerOrLocal r.org = true) (ha : a < s.grade.anvils)
  (hcp : (s.cpOut a).1 = false)
include ho ha hcp

/-- The partitions that a freeze holds recover, then the controller thaws (R272, R437). -/
theorem cmdDdrThaw_oks {action : Nat} {ok : Bool} {z : DFreeze} (haction : action < 3)
    (hfrozen : s.flag .ddrStatusFrozen a 0 = true) (hz : Tab.get none s.dram.frozen [a] = some z)
    (hok : action = 2 → s.reg .ddrFrzKind a 0 ≠ 3 ∧ ok = true) :
    ∃ u : State, cmdDdrThaw r a action ok s = u.oks ∧ u.host.busy = s.host.busy ∧ u.flag .ddrStatusFrozen a 0 = false := by
  rw [cmdDdrThaw, refuseIf_ok _ (by
    simpa [State.ownerOrLocal, State.noAnvil, ho, ha, haction, hfrozen, hcp] using fun h => (hok h).1)]
  extract_lets s1 s2
  have hkept : Kept (.without [] [.commands, .dram]) s s1 := State.kept_outagesRecover _
  have hdram : s1.dram.frozen = s.dram.frozen := congrArg Dram.frozen (hkept.part_without (k := .dram) (by decide))
  have hserves : s2.flag .ddrStatusFrozen a 0 = false := by
    obtain ⟨u, hu⟩ := State.thaw_eq_thawEnd (s := s1) (hdram ▸ hz) fun h => (hok h).2
    rw [show s2 = u.thawEnd a from hu, State.flag_frozen_thawEnd]
  refine ⟨s2, by simp [hserves], (State.busy_thaw ..).trans ?_, hserves⟩
  obtain ⟨-, hbusy, -⟩ := hkept.part_without (k := .commands) (by decide)
  exact hbusy

/-- A page that is retired already, or can be copied into a free reserve page, is retired (R263). -/
theorem cmdDdrRetirePage_oks {addr : Nat} (haddr : addr < Config.dramUsable)
    (hpage : Tab.get false s.dram.retired [a, addr / 4096] = true ∨
      ∃ dst, s.dram.freePage a none = some dst ∧ s.copyReady a (s.dram.lin a (addr / 4096 * 4096) / 4096) dst = true) :
    ∃ u : State, cmdDdrRetirePage r a addr s = u.oks ∧ u.host.busy = s.host.busy ∧
      Tab.get false u.dram.retired [a, addr / 4096] = true := by
  rw [cmdDdrRetirePage, refuseIf_ok _ (by simp [State.ownerOrLocal, State.noAnvil, ho, ha, haddr, hcp])]
  by_cases hretired : Tab.get false s.dram.retired [a, addr / 4096] = true
  · exact ⟨s, if_pos hretired, rfl, hretired⟩
  · obtain ⟨dst, hfree, hready⟩ := hpage.resolve_left hretired
    refine ⟨s.retire a (addr / 4096) none true, ?_, State.busy_retire .., State.retired_retire true hfree⟩
    simp [hretired, hfree, hready]

theorem cmdDdrMarkSet_oks {sub rank device : Nat} (hsub : sub < 2) (hrank : rank < 2) (hdevice : device < 5)
    (hmark : s.markOf a sub rank = none) : cmdDdrMarkSet r a sub rank device s = (s.setMark a sub rank device).oks := by
  rw [cmdDdrMarkSet, refuseIf_ok _ (by simp [State.ownerOrLocal, State.noAnvil, ho, ha, hsub, hrank, hdevice, hmark, hcp])]

end

/-! ## The commands complete -/

/-- Settles O6: each command passes its conditions, and its answer changes nothing of what its operation leaves. -/
theorem dramCommandsComplete : Obligations.DramCommandsComplete := by
  refine ⟨fun r a action ok s z hf ho ha haction hfrozen hz hcp hok => ?_, fun r a addr s hf ho ha haddr hcp hpage => ?_,
    fun r a sub rank device s hf ho ha hsub hrank hdevice hcp hmark => ?_⟩
  · refine completes_of_oks hf rfl fun h => ?_
    obtain ⟨u, hu, hbusy, hserves⟩ := cmdDdrThaw_oks (s := { s with host := h }) ho ha hcp haction hfrozen hz hok
    exact ⟨u, hu, hbusy, (State.flag_congr _ (u.reg_done ..)).trans hserves⟩
  · refine completes_of_oks hf rfl fun h => ?_
    obtain ⟨u, hu, hbusy, hretired⟩ := cmdDdrRetirePage_oks (s := { s with host := h }) ho ha hcp haddr hpage
    refine ⟨u, hu, hbusy, ?_⟩
    rwa [State.done, State.dram_answer]
  · refine completes_of_oks hf rfl fun h => ⟨_, cmdDdrMarkSet_oks (s := { s with host := h }) ho ha hcp hsub hrank hdevice hmark,
      State.busy_setMark, ?_⟩
    exact (State.markOf_done ..).trans (State.markOf_setMark hdevice)

end Sys2Proof.Machine
end

section
/-! PROOFS. Completions that are sent, and requests for a management link (10_noc.md, R279, R281, R282, R292): the fields of a header that
a source forms, a packet that a router takes, a completion that leaves its endpoint, and a request whose link is down. -/

namespace Sys2Proof.Machine

/-! ## Headers that a source forms (R281) -/

section
variable (type src dst tag cpl addr be len dflits prio epoch : Nat)

theorem bits_headerBody_src : bits (headerBody type src dst tag cpl addr be len dflits prio epoch) 26 19 = src % 256 := by
  simp only [bits, headerBody, b2n]
  split <;> omega

theorem bits_headerBody_dst : bits (headerBody type src dst tag cpl addr be len dflits prio epoch) 18 11 = dst % 256 := by
  simp only [bits, headerBody, b2n]
  split <;> omega

theorem bits_headerBody_type : bits (headerBody type src dst tag cpl addr be len dflits prio epoch) 10 7 = type % 16 := by
  simp only [bits, headerBody, b2n]
  split <;> omega

theorem bits_headerBody_epoch : bits (headerBody type src dst tag cpl addr be len dflits prio epoch) 1 1 = epoch % 2 := by
  simp only [bits, headerBody, b2n]
  split <;> omega

end

section
variable (s : State)

theorem State.src_packetOf (q : NocReq) (tag : Nat) : (s.packetOf q tag).src = q.src % 256 :=
  (sealed_field _ _ 26 19 (by decide) (by decide)).trans (bits_headerBody_src ..)

theorem State.dst_packetOf (q : NocReq) (tag : Nat) : (s.packetOf q tag).dst = q.dst % 256 :=
  (sealed_field _ _ 18 11 (by decide) (by decide)).trans (bits_headerBody_dst ..)

theorem State.type_packetOf (q : NocReq) (tag : Nat) : (s.packetOf q tag).type = q.type % 16 :=
  (sealed_field _ _ 10 7 (by decide) (by decide)).trans (bits_headerBody_type ..)

theorem State.src_replyPacket (x : NocReply) : (s.replyPacket x).src = x.src % 256 :=
  (sealed_field _ _ 26 19 (by decide) (by decide)).trans (bits_headerBody_src ..)

theorem State.dst_replyPacket (x : NocReply) : (s.replyPacket x).dst = x.dst % 256 :=
  (sealed_field _ _ 18 11 (by decide) (by decide)).trans (bits_headerBody_dst ..)

/-- A completion of an endpoint carries the epoch of that endpoint (R288). -/
theorem State.epoch_replyPacket {x : NocReply} (hplace : x.place = none) : (s.replyPacket x).epoch = s.epochOf x.src % 2 := by
  rw [State.replyPacket, hplace]
  exact (sealed_field _ _ 1 1 (by decide) (by decide)).trans (bits_headerBody_epoch ..)

/-- The header of a completion is right if its destination is known. -/
theorem State.headerBad_replyPacket (x : NocReply) : (s.replyPacket x).headerBad = !dstKnown (x.dst % 256) := by
  rw [State.replyPacket, sealed_headerBad, bits_headerBody_type, bits_headerBody_dst]
  simp

end

/-! ## A packet that a router takes (R287, R288, R293) -/

section
variable {s : State} {a r : Nat} {k : NocPkt}

/-- A packet without errors passes the check of its data flits as it is, and adds nothing to the count of corrections. -/
theorem State.checkFlits_of_no_flaw : s.checkFlits a r k ⟨[], []⟩ = (s.bump .nocErrCorrCount a 0 0, k) := by
  simp [State.checkFlits, groupErrors, oddOnes]

theorem State.epochValid_bump_corrCount (n e : Nat) : (s.bump .nocErrCorrCount a 0 n).epochValid a e = s.epochValid a e := by
  simp [State.epochValid, State.flag]

theorem State.nextHop_bump_corrCount (n : Nat) : (s.bump .nocErrCorrCount a 0 n).nextHop a r k = s.nextHop a r k := by
  have hroute : Fld.nocErrCorrCount ≠ routeFld k.epoch := by
    unfold routeFld
    split <;> decide
  simp [State.nextHop, State.routeEntry, State.linkUp, hroute]

/-- A packet that a router takes joins its input buffer. -/
theorem State.nocEnter_of_routes (inp : Nat) (h : s.routes a r k) :
    s.nocEnter a r inp k ⟨[], []⟩ = (s.bump .nocErrCorrCount a 0 0).modNoc (fun n =>
      { n with bufs := Tab.modify [] n.bufs [a, r, inp, k.vc] (· ++ [⟨k, s.now⟩]) }) := by
  obtain ⟨hheader, hepoch, out, hhop⟩ := h
  have hflip : k.flipHeader [] = k := rfl
  simp only [State.nocEnter, hflip, hheader, State.checkFlits_of_no_flaw, State.epochValid_bump_corrCount, hepoch,
    State.nextHop_bump_corrCount, hhop]
  rfl

/-- A packet that its source has room for joins the buffer of its router, and nothing else of the network changes. -/
theorem State.nocInject_of_entersAt (h : s.entersAt k) :
    ∃ t, s.nocInject k none = some t ∧ ∃ bufs, t.noc = { s.noc with bufs := bufs } := by
  obtain ⟨hsrc, hbridged, hroom, hroutes⟩ := h
  have hinject : s.nocInject k none = some (s.nocEnter (k.src / 32) (endpointRouter (k.src % 32)) 4 k ⟨[], []⟩) := by
    simp only [State.nocInject, if_neg hsrc, hbridged]
    exact if_pos hroom
  rw [hinject, State.nocEnter_of_routes 4 hroutes]
  exact ⟨_, rfl, _, rfl⟩

/-- Whether a packet has room at its source does not depend on the completions that wait. -/
theorem State.entersAt_modNoc_replies {f : List NocReply → List NocReply} (h : s.entersAt k) :
    (s.modNoc (fun n => { n with replies := f n.replies })).entersAt k := h

/-- A completion that its endpoint sends leaves the completions that wait, and joins the buffer of its router (R282). -/
theorem State.noc_sendReply {q : NocReq} {x : NocReply}
    (hfind : s.noc.replies.find? (fun y => decide (y.src = q.src ∧ y.dst = q.dst ∧ y.tag = q.tag)) = some x)
    (hplace : x.place = none) (hon : s.sourceOn x.src x.dst = true) (henters : s.entersAt (s.replyPacket x)) :
    ∃ bufs, (s.sendReply q).noc = { s.noc with replies := s.noc.replies.erase x, bufs := bufs } := by
  obtain ⟨t, ht, bufs, hnoc⟩ := State.nocInject_of_entersAt (State.entersAt_modNoc_replies (f := (·.erase x)) henters)
  have hsend : s.sendReply q = t := by
    rw [State.sendReply, hfind]
    simp [hplace, hon, ht]
  exact ⟨bufs, hsend ▸ hnoc⟩

end

/-! ## A request for a management link that is down (R279, R292) -/

section
variable {s : State} {q : NocReq}

/-- A READ of the management controller for the CP of anvil 0, whose management link is down, takes its tag and is answered. -/
theorem State.nocTry_of_linkDown {tag : Nat} (htype : q.type = 1) (hsrc : q.src = 0xFF) (hdst : q.dst = 0x10)
    (hholds : s.sourceHolds q = false) (htag : s.freeTag q = some tag) (hdown : s.linkUp 0 3 = false) :
    ∃ x : NocReply, ∃ t, s.nocTry q = some ((s.modNoc (fun n => { n with replies := n.replies ++ [x] })).setTag 255 tag (some t)) := by
  have hasks : (s.packetOf q tag).asks = true := by simp [NocPkt.asks, s.type_packetOf, htype]
  have hinject : s.nocInject (s.packetOf q tag) none = some (s.nocAnswer (s.packetOf q tag) 4 (8, 0)) := by
    simp [State.nocInject, State.intoBridge, s.src_packetOf, s.dst_packetOf, hsrc, hdst, bridged, hdown, hasks]
  simp only [State.nocTry, htype, hholds, htag, hsrc]
  rw [Option.bind_some, hinject]
  exact ⟨_, _, rfl⟩

/-- A tag of the management controller is counted in no register. -/
theorem State.setTag_of_management (tag : Nat) (t : Option NocTag) :
    s.setTag 255 tag t = s.modNoc (fun n => { n with tags := Tab.put none n.tags [255, tag] t }) := rfl

/-- What the one request held comes to as sources send what they hold. -/
theorem State.nocPump_of_nocTry {t : State} (hheld : s.noc.held = [q]) (htry : s.nocTry q = some t) :
    s.nocPump = t.modNoc (fun n => { n with held := [] }) := by
  simp [State.nocPump, hheld, htry]

end

/-! ## A completion is sent while a request is held for a link that is down -/

/-- What NOC_COMPLETION answers with is the state that `State.nocCompletion` gives. -/
theorem answers_nocCompletion {e : NocEvent} {s : State} {P : State → Prop} :
    Answers (.nocCompletion e) s P ↔ P (s.nocCompletion e) :=
  ⟨fun ⟨_, ht, hP⟩ => Host.Outcome.next.inj ht ▸ hP, fun hP => ⟨_, rfl, hP⟩⟩

/-- Once a completion is sent, sources send what they hold. -/
theorem State.nocCompletion_send {s : State} {q : NocReq} (hon : s.sys.off = false) :
    s.nocCompletion (.send q) = (s.sendReply q).nocPump := by
  simp [State.nocCompletion, hon]

/-- The monitor of anvil 0 has served a request of hearth agent 0. -/
def monitorReply : NocReply := ⟨0x12, 0, 7, 0, [], none⟩

/-- The operand that names `monitorReply` as the completion to send. -/
def sendMonitorReply : NocReq := ⟨3, 0x12, 0, 0, 7, 0, 0, 0, .dma, []⟩

/-- A READ of the memory of anvil 0's CP by the management controller, which takes the management link (R279). -/
def bridgeRead : NocReq := ⟨1, 0xFF, 0x10, 0, 0, 0, 0, 8, .dma, []⟩

/-- The completion of the monitor waits to be sent, and the READ is held; the management link of anvil 0 has gone down. -/
def readHeldForDeadLink : State :=
  { State.reset with
    sys := { Sys.init with anvilOn := [([0], true)] }
    noc := { Noc.init with mgmtDown := [([0], true)], held := [bridgeRead], replies := [monitorReply] } }

theorem monitorReply_erased : readHeldForDeadLink.noc.replies.erase monitorReply = [] := by
  decide

theorem monitorReply_src : (readHeldForDeadLink.replyPacket monitorReply).src = 0x12 := State.src_replyPacket ..

theorem monitorReply_entersAt : readHeldForDeadLink.entersAt (readHeldForDeadLink.replyPacket monitorReply) := by
  have hdst : (readHeldForDeadLink.replyPacket monitorReply).dst = 0 := State.dst_replyPacket ..
  have hepoch : (readHeldForDeadLink.replyPacket monitorReply).epoch = 0 := by
    rw [State.epoch_replyPacket _ rfl]
    decide +kernel
  rw [State.entersAt, monitorReply_src]
  refine ⟨by decide, by decide, by decide, ?_, ?_, 4, ?_⟩
  · rw [State.headerBad_replyPacket]
    decide
  · rw [hepoch]
    decide +kernel
  · rw [nextHop_congr _ _ _ _ ⟨0, []⟩ hepoch hdst]
    decide +kernel

/-- As the completion is sent, the READ held is answered: its own completion now waits in the place of the one sent. -/
theorem replies_readHeldForDeadLink :
    ∃ x, (readHeldForDeadLink.nocCompletion (.send sendMonitorReply)).noc.replies = [x] := by
  obtain ⟨bufs, hnoc⟩ := State.noc_sendReply (s := readHeldForDeadLink) (q := sendMonitorReply) (x := monitorReply) rfl rfl
    (by decide +kernel) monitorReply_entersAt
  rw [State.nocCompletion_send rfl]
  generalize readHeldForDeadLink.sendReply sendMonitorReply = u at hnoc ⊢
  have hdown : u.linkUp 0 3 = false := by
    rw [State.linkUp, hnoc]
    rfl
  have hholds : u.sourceHolds bridgeRead = false := by
    rw [State.sourceHolds, hnoc]
    rfl
  have htag : u.freeTag bridgeRead = some 0 := by
    have hfree : u.nocTag 255 0 = none := by
      rw [State.nocTag, hnoc]
      rfl
    exact if_pos (decide_eq_true hfree)
  have hreplies : u.noc.replies = [] := by
    rw [hnoc]
    exact monitorReply_erased
  obtain ⟨x, t, htry⟩ := State.nocTry_of_linkDown rfl rfl rfl hholds htag hdown
  rw [State.nocPump_of_nocTry (by rw [hnoc]; rfl) htry]
  refine ⟨x, ?_⟩
  rw [State.noc_modNoc, State.setTag_of_management, State.noc_modNoc, State.noc_modNoc, hreplies]
  rfl

/-- Refutes O15: the monitor of anvil 0 sends its completion while a READ of the management controller is held for a management link that
has gone down. NOC_COMPLETION then lets the sources send what they hold, and the READ completes with CPL 0x4 (R292), so a completion
of its own waits to be sent, where the clause on NOC_COMPLETION has the completions that wait be those from before without the one
sent. The clause does not ask that nothing be held. -/
theorem not_networkRowsComplete : ¬ Obligations.NetworkRowsComplete := by
  rintro ⟨-, -, -, -, -, -, hsend, -⟩
  obtain ⟨hreplies, -⟩ := answers_nocCompletion.1 (hsend sendMonitorReply readHeldForDeadLink monitorReply rfl rfl rfl
    (by decide +kernel) monitorReply_src monitorReply_entersAt)
  obtain ⟨x, hx⟩ := replies_readHeldForDeadLink
  rw [hx, monitorReply_erased] at hreplies
  exact List.cons_ne_nil _ _ hreplies

end Sys2Proof.Machine
end

section
/-! PROOFS. Frames of the rows (95_what_each_step_holds.md): from the span of what a command keeps (Laws/Kept*.lean) to the registers and
the parts of the state that a statement lists. -/

-- The checks of register spans run one after another: run at once, each holds a thread with a stack of its own.
set_option Elab.async false

namespace Sys2Proof.Machine

/-! ## From a span to a frame -/

theorem Span.le.refl (W : Span) : W.le W := ⟨Nat.or_self _, Nat.or_self _⟩

theorem testBit_false_of_and {a b n : Nat} (h : a &&& b = a) (hb : b.testBit n = false) : a.testBit n = false := by
  rw [← h, Nat.testBit_and, hb, Bool.and_false]

/-- The fields whose table rows pass a test, as bits. -/
def rowBits (q : FieldInfo → Bool) : List FieldInfo → Nat
  | [] => 0
  | x :: l => bif q x then 2 ^ x.fld.ctorIdx ||| rowBits q l else rowBits q l

theorem rowBits_mem {q : FieldInfo → Bool} {f : Fld} : ∀ {l : List FieldInfo}, l ⊆ regTable →
    (rowBits q l).testBit f.ctorIdx = true → q f.info = true
  | [], _, h => by simp [rowBits] at h
  | x :: l, hl, h => by
    have ih := rowBits_mem (q := q) (f := f) (l := l) fun _ e => hl (List.mem_cons_of_mem _ e)
    rw [rowBits] at h
    cases hq : q x with
    | false => exact ih (by simpa [hq] using h)
    | true =>
      rw [hq, cond_true, Nat.testBit_lor, Bool.or_eq_true, Nat.testBit_two_pow] at h
      rcases h with h | h
      · rw [← Fld.ctorIdx_inj (of_decide_eq_true h), FieldInfo.info_of_mem (hl List.mem_cons_self), hq]
      · exact ih h

section
variable {c : Instr} {s : State} {W : Span} {ks : List Piece}

/-- A command whose span lies in a frame's registers and parts has that frame. -/
theorem frame_of_kept {p : Fld → Bool} (h : KeptOut W s (exec c s)) (hf : ∀ f, p f = false → W.fld f = false)
    (hk : W.parts &&& pieceBits ks = W.parts) : Frame c s p ks := by
  intro t ht
  rw [ht] at h
  exact Kept.touches h hf fun k e => testBit_false_of_and hk (pieceBits_among e)

/-- The frame of the registers of a list. -/
theorem frame_among {fs : List Fld} (h : KeptOut W s (exec c s))
    (hf : W.flds &&& fldBits fs = W.flds := by decide +kernel)
    (hk : W.parts &&& pieceBits ks = W.parts := by decide +kernel) : Frame c s (among fs) ks :=
  frame_of_kept h (fun _ e => testBit_false_of_and hf (fldBits_among e)) hk

/-- The frame of the registers whose table rows pass a test, and those of a list. -/
theorem frame_rows {q : FieldInfo → Bool} {fs : List Fld} (h : KeptOut W s (exec c s))
    (hf : W.flds &&& (rowBits q regTable ||| fldBits fs) = W.flds := by decide +kernel)
    (hk : W.parts &&& pieceBits ks = W.parts := by decide +kernel) :
    Frame c s (fun f => q f.info || fs.contains f) ks := by
  refine frame_of_kept h (fun f e => testBit_false_of_and hf ?_) hk
  obtain ⟨hq, hl⟩ := Bool.or_eq_false_iff.1 e
  have hrow : (rowBits q regTable).testBit f.ctorIdx = false := by
    by_contra hr
    exact Bool.false_ne_true (hq.symm.trans (rowBits_mem (List.Subset.refl _) (by simpa using hr)))
  rw [Nat.testBit_lor, hrow, fldBits_among hl, Bool.or_self]

/-- The frame of the registers of some blocks, and those of a list. -/
theorem frame_blocks {bs : List Blk} {fs : List Fld} (h : KeptOut W s (exec c s))
    (hf : W.flds &&& (rowBits (fun x => bs.contains x.blk) regTable ||| fldBits fs) = W.flds := by decide +kernel)
    (hk : W.parts &&& pieceBits ks = W.parts := by decide +kernel) : Frame c s (blocks bs fs) ks :=
  frame_rows (q := fun x => bs.contains x.blk) h hf hk

/-- The frame of a command that may write any register. -/
theorem frame_every (h : KeptOut W s (exec c s)) (hk : W.parts &&& pieceBits ks = W.parts := by decide +kernel) :
    Frame c s (fun _ => true) ks :=
  frame_of_kept h (fun _ e => Bool.noConfusion e) hk

end

/-! ## Every command answers, and what it leaves lies in a span -/

/-- A command answers a next state from every state, and that state is kept but for the span of its row. -/
theorem exec_next_kept (c : Instr) (s : State) : ∃ W t, exec c s = .next t ∧ Kept W s t :=
  match c with
  | .step .. => ⟨_, _, rfl, kept_execStep (.refl _) .refl⟩
  | .dmaBankTimeout .. => ⟨_, _, rfl, kept_execDmaBankTimeout (.refl _) .refl⟩
  | .dramReadReturn .. => ⟨_, _, rfl, kept_execDramReadReturn (.refl _) .refl⟩
  | .cycleBoundary .. => ⟨_, _, rfl, kept_execCycleBoundary (.refl _) .refl⟩
  | .freezeLands .. => ⟨_, _, rfl, kept_execFreezeLands (.refl _) .refl⟩
  | .partitionResume .. => ⟨_, _, rfl, kept_execPartitionResume (.refl _) .refl⟩
  | .hostAbort .. => ⟨_, _, rfl, kept_execHostAbort (.refl _) .refl⟩
  | .timerExpired .. => ⟨_, _, rfl, kept_execTimerExpired (.refl _) .refl⟩
  | .timeReached p => ⟨⟨0, 0⟩, _, rfl, kept_execTimeReached (x0 := p) .refl⟩
  | .trigCtlArm .. => ⟨_, _, rfl, kept_execTrigCtlArm (.refl _) .refl⟩
  | .trigCtlDisarm .. => ⟨_, _, rfl, kept_execTrigCtlDisarm (.refl _) .refl⟩
  | .captureDrainComplete .. => ⟨_, _, rfl, kept_execCaptureDrainComplete (.refl _) .refl⟩
  | .acqSegmentOpen .. => ⟨_, _, rfl, kept_execAcqSegmentOpen (.refl _) .refl⟩
  | .partCreate .. => ⟨_, _, rfl, kept_execPartCreate (.refl _) .refl⟩
  | .partDestroy .. => ⟨_, _, rfl, kept_execPartDestroy (.refl _) .refl⟩
  | .partBind .. => ⟨_, _, rfl, kept_execPartBind (.refl _) .refl⟩
  | .partRun .. => ⟨_, _, rfl, kept_execPartRun (.refl _) .refl⟩
  | .partStop .. => ⟨_, _, rfl, kept_execPartStop (.refl _) .refl⟩
  | .partHalt .. => ⟨_, _, rfl, kept_execPartHalt (.refl _) .refl⟩
  | .partResume .. => ⟨_, _, rfl, kept_execPartResume (.refl _) .refl⟩
  | .partUnload .. => ⟨_, _, rfl, kept_execPartUnload (.refl _) .refl⟩
  | .partLoad .. => ⟨_, _, rfl, kept_execPartLoad (.refl _) .refl⟩
  | .loadDequeue => ⟨_, _, rfl, kept_execLoadDequeue (.refl _) .refl⟩
  | .loadHeader .. => ⟨_, _, rfl, kept_execLoadHeader (.refl _) .refl⟩
  | .loadPlan .. => ⟨_, _, rfl, kept_execLoadPlan (.refl _) .refl⟩
  | .loadCheck .. => ⟨_, _, rfl, kept_execLoadCheck (.refl _) .refl⟩
  | .loadPrepare .. => ⟨_, _, rfl, kept_execLoadPrepare (.refl _) .refl⟩
  | .loadSetup .. => ⟨_, _, rfl, kept_execLoadSetup (.refl _) .refl⟩
  | .hearthVerify .. => ⟨_, _, rfl, kept_execHearthVerify (.refl _) .refl⟩
  | .imageKeySet .. => ⟨_, _, rfl, kept_execImageKeySet (.refl _) .refl⟩
  | .imageKeyClear .. => ⟨_, _, rfl, kept_execImageKeyClear (.refl _) .refl⟩
  | .captureRequest .. => ⟨_, _, rfl, kept_execCaptureRequest (.refl _) .refl⟩
  | .captureRelease .. => ⟨_, _, rfl, kept_execCaptureRelease (.refl _) .refl⟩
  | .captureDramRead .. => ⟨_, _, rfl, kept_execCaptureDramRead (.refl _) .refl⟩
  | .stateRead .. => ⟨_, _, rfl, kept_execStateRead (.refl _) .refl⟩
  | .stateDeposit .. => ⟨_, _, rfl, kept_execStateDeposit (.refl _) .refl⟩
  | .tracePacketEmit .. => ⟨_, _, rfl, kept_execTracePacketEmit (.refl _) .refl⟩
  | .traceStallEnd .. => ⟨_, _, rfl, kept_execTraceStallEnd (.refl _) .refl⟩
  | .traceStallLimit .. => ⟨_, _, rfl, kept_execTraceStallLimit (.refl _) .refl⟩
  | .traceOverflowRecovery .. => ⟨_, _, rfl, kept_execTraceOverflowRecovery (.refl _) .refl⟩
  | .funnelBlockWrite => ⟨_, _, rfl, kept_execFunnelBlockWrite (.refl _) .refl⟩
  | .traceEnable .. => ⟨_, _, rfl, kept_execTraceEnable (.refl _) .refl⟩
  | .traceDisable .. => ⟨_, _, rfl, kept_execTraceDisable (.refl _) .refl⟩
  | .traceTrigger .. => ⟨_, _, rfl, kept_execTraceTrigger (.refl _) .refl⟩
  | .stopNow .. => ⟨_, _, rfl, kept_execStopNow (.refl _) .refl⟩
  | .stopDelayReached => ⟨_, _, rfl, kept_execStopDelayReached (.refl _) .refl⟩
  | .cpSleep .. => ⟨_, _, rfl, kept_execCpSleep (.refl _) .refl⟩
  | .cpWake .. => ⟨_, _, rfl, kept_execCpWake (.refl _) .refl⟩
  | .traceBufAlloc .. => ⟨_, _, rfl, kept_execTraceBufAlloc (.refl _) .refl⟩
  | .traceBufFree .. => ⟨_, _, rfl, kept_execTraceBufFree (.refl _) .refl⟩
  | .dramRequestServe .. => ⟨_, _, rfl, kept_execDramRequestServe (.refl _) .refl⟩
  | .phyTrainingLoss .. => ⟨_, _, rfl, kept_execPhyTrainingLoss (.refl _) .refl⟩
  | .deviceDiagnosis .. => ⟨_, _, rfl, kept_execDeviceDiagnosis (.refl _) .refl⟩
  | .markRediagnosis .. => ⟨_, _, rfl, kept_execMarkRediagnosis (.refl _) .refl⟩
  | .pageRetirement .. => ⟨_, _, rfl, kept_execPageRetirement (.refl _) .refl⟩
  | .migrationStep .. => ⟨_, _, rfl, kept_execMigrationStep (.refl _) .refl⟩
  | .patrolScrub .. => ⟨_, _, rfl, kept_execPatrolScrub (.refl _) .refl⟩
  | .agePromotion .. => ⟨_, _, rfl, kept_execAgePromotion (.refl _) .refl⟩
  | .sameBankRefresh .. => ⟨_, _, rfl, kept_execSameBankRefresh (.refl _) .refl⟩
  | .allBankRefresh .. => ⟨_, _, rfl, kept_execAllBankRefresh (.refl _) .refl⟩
  | .refreshEnd .. => ⟨_, _, rfl, kept_execRefreshEnd (.refl _) .refl⟩
  | .rankPowerDown .. => ⟨_, _, rfl, kept_execRankPowerDown (.refl _) .refl⟩
  | .dramFrozenTimeout .. => ⟨_, _, rfl, kept_execDramFrozenTimeout (.refl _) .refl⟩
  | .stewardThaw .. => ⟨_, _, rfl, kept_execStewardThaw (.refl _) .refl⟩
  | .ddrThaw .. => ⟨_, _, rfl, kept_execDdrThaw (.refl _) .refl⟩
  | .ddrRetirePage .. => ⟨_, _, rfl, kept_execDdrRetirePage (.refl _) .refl⟩
  | .ddrMarkSet .. => ⟨_, _, rfl, kept_execDdrMarkSet (.refl _) .refl⟩
  | .nocRequest .. => ⟨_, _, rfl, kept_execNocRequest (.refl _) .refl⟩
  | .nocCompletion .. => ⟨_, _, rfl, kept_execNocCompletion (.refl _) .refl⟩
  | .nocCplTimeout .. => ⟨_, _, rfl, kept_execNocCplTimeout (.refl _) .refl⟩
  | .tagRelease .. => ⟨_, _, rfl, kept_execTagRelease (.refl _) .refl⟩
  | .linkFlitReplay .. => ⟨_, _, rfl, kept_execLinkFlitReplay (.refl _) .refl⟩
  | .routeChangeStart .. => ⟨_, _, rfl, kept_execRouteChangeStart (.refl _) .refl⟩
  | .shadowValid => ⟨_, _, rfl, kept_execShadowValid (.refl _) .refl⟩
  | .epochSwitch => ⟨_, _, rfl, kept_execEpochSwitch (.refl _) .refl⟩
  | .epochRetired => ⟨_, _, rfl, kept_execEpochRetired (.refl _) .refl⟩
  | .epochFenceTimeout => ⟨_, _, rfl, kept_execEpochFenceTimeout (.refl _) .refl⟩
  | .nocEpochBusy .. => ⟨_, _, rfl, kept_execNocEpochBusy (.refl _) .refl⟩
  | .fenceRequest .. => ⟨_, _, rfl, kept_execFenceRequest (.refl _) .refl⟩
  | .regionFenced .. => ⟨_, _, rfl, kept_execRegionFenced (.refl _) .refl⟩
  | .nocDrainTimeout .. => ⟨_, _, rfl, kept_execNocDrainTimeout (.refl _) .refl⟩
  | .anvilDomainOff .. => ⟨_, _, rfl, kept_execAnvilDomainOff (.refl _) .refl⟩
  | .registerWrite .. => ⟨_, _, rfl, kept_execRegisterWrite (.refl _) .refl⟩
  | .rcFieldRead .. => ⟨_, _, rfl, kept_execRcFieldRead (.refl _) .refl⟩
  | .loWordRead .. => ⟨_, _, rfl, kept_execLoWordRead (.refl _) .refl⟩
  | .hostPortReset .. => ⟨_, _, rfl, kept_execHostPortReset (.refl _) .refl⟩
  | .hostDmaFailure .. => ⟨_, _, rfl, kept_execHostDmaFailure (.refl _) .refl⟩
  | .mboxGo .. => ⟨_, _, rfl, kept_execMboxGo (.refl _) .refl⟩
  | .mboxAck .. => ⟨_, _, rfl, kept_execMboxAck (.refl _) .refl⟩
  | .commandStart => ⟨_, _, rfl, kept_execCommandStart (.refl _) .refl⟩
  | .mgmtSessionOpen .. => ⟨_, _, rfl, kept_execMgmtSessionOpen (.refl _) .refl⟩
  | .mgmtSessionClose .. => ⟨_, _, rfl, kept_execMgmtSessionClose (.refl _) .refl⟩
  | .mgmtMessage .. => ⟨_, _, rfl, kept_execMgmtMessage (.refl _) .refl⟩
  | .uartFrame .. => ⟨_, _, rfl, kept_execUartFrame (.refl _) .refl⟩
  | .queueDoorbell .. => ⟨_, _, rfl, kept_execQueueDoorbell (.refl _) .refl⟩
  | .queueEnable .. => ⟨_, _, rfl, kept_execQueueEnable (.refl _) .refl⟩
  | .taskSoftFlagSet .. => ⟨_, _, rfl, kept_execTaskSoftFlagSet (.refl _) .refl⟩
  | .taskDispatch .. => ⟨_, _, rfl, kept_execTaskDispatch (.refl _) .refl⟩
  | .interruptCoalesceTimeout .. => ⟨_, _, rfl, kept_execInterruptCoalesceTimeout (.refl _) .refl⟩
  | .hostIdentify .. => ⟨_, _, rfl, kept_execHostIdentify (.refl _) .refl⟩
  | .queueAssign .. => ⟨_, _, rfl, kept_execQueueAssign (.refl _) .refl⟩
  | .queueSetup .. => ⟨_, _, rfl, kept_execQueueSetup (.refl _) .refl⟩
  | .auditRead .. => ⟨_, _, rfl, kept_execAuditRead (.refl _) .refl⟩
  | .ownerCertSet .. => ⟨_, _, rfl, kept_execOwnerCertSet (.refl _) .refl⟩
  | .roleGrant .. => ⟨_, _, rfl, kept_execRoleGrant (.refl _) .refl⟩
  | .regRead .. => ⟨_, _, rfl, kept_execRegRead (.refl _) .refl⟩
  | .regWrite .. => ⟨_, _, rfl, kept_execRegWrite (.refl _) .refl⟩
  | .auditPersist => ⟨_, _, rfl, kept_execAuditPersist (.refl _) .refl⟩
  | .laneEnable .. => ⟨_, _, rfl, kept_execLaneEnable (.refl _) .refl⟩
  | .laneDisable .. => ⟨_, _, rfl, kept_execLaneDisable (.refl _) .refl⟩
  | .retrain .. => ⟨_, _, rfl, kept_execRetrain (.refl _) .refl⟩
  | .terminationDetect .. => ⟨_, _, rfl, kept_execTerminationDetect (.refl _) .refl⟩
  | .cdrLock .. => ⟨_, _, rfl, kept_execCdrLock (.refl _) .refl⟩
  | .blockLock .. => ⟨_, _, rfl, kept_execBlockLock (.refl _) .refl⟩
  | .tsDetected .. => ⟨_, _, rfl, kept_execTsDetected (.refl _) .refl⟩
  | .trainTimeout .. => ⟨_, _, rfl, kept_execTrainTimeout (.refl _) .refl⟩
  | .lockLoss .. => ⟨_, _, rfl, kept_execLockLoss (.refl _) .refl⟩
  | .cap .. => ⟨_, _, rfl, kept_execCap (.refl _) .refl⟩
  | .frame .. => ⟨_, _, rfl, kept_execFrame (.refl _) .refl⟩
  | .ack .. => ⟨_, _, rfl, kept_execAck (.refl _) .refl⟩
  | .replayTimeout .. => ⟨_, _, rfl, kept_execReplayTimeout (.refl _) .refl⟩
  | .credit .. => ⟨_, _, rfl, kept_execCredit (.refl _) .refl⟩
  | .mark .. => ⟨_, _, rfl, kept_execMark (.refl _) .refl⟩
  | .stop .. => ⟨_, _, rfl, kept_execStop (.refl _) .refl⟩
  | .spare .. => ⟨_, _, rfl, kept_execSpare (.refl _) .refl⟩
  | .bank .. => ⟨_, _, rfl, kept_execBank (.refl _) .refl⟩
  | .dsk .. => ⟨_, _, rfl, kept_execDsk (.refl _) .refl⟩
  | .dskSend .. => ⟨_, _, rfl, kept_execDskSend (.refl _) .refl⟩
  | .frameTransmit .. => ⟨_, _, rfl, kept_execFrameTransmit (.refl _) .refl⟩
  | .creditSend .. => ⟨_, _, rfl, kept_execCreditSend (.refl _) .refl⟩
  | .creditStall .. => ⟨_, _, rfl, kept_execCreditStall (.refl _) .refl⟩
  | .statusBlockSend .. => ⟨_, _, rfl, kept_execStatusBlockSend (.refl _) .refl⟩
  | .crcErrorLimit .. => ⟨_, _, rfl, kept_execCrcErrorLimit (.refl _) .refl⟩
  | .spareRequestRepeat .. => ⟨_, _, rfl, kept_execSpareRequestRepeat (.refl _) .refl⟩
  | .bankExitSignal .. => ⟨_, _, rfl, kept_execBankExitSignal (.refl _) .refl⟩
  | .injGo .. => ⟨_, _, rfl, kept_execInjGo (.refl _) .refl⟩
  | .wlStreamBind .. => ⟨_, _, rfl, kept_execWlStreamBind (.refl _) .refl⟩
  | .wlStreamUnbind .. => ⟨_, _, rfl, kept_execWlStreamUnbind (.refl _) .refl⟩
  | .wlLaneCtl .. => ⟨_, _, rfl, kept_execWlLaneCtl (.refl _) .refl⟩
  | .wlBank .. => ⟨_, _, rfl, kept_execWlBank (.refl _) .refl⟩
  | .timeIncrWrite .. => ⟨_, _, rfl, kept_execTimeIncrWrite (.refl _) .refl⟩
  | .refRateWrite .. => ⟨_, _, rfl, kept_execRefRateWrite (.refl _) .refl⟩
  | .refAdj .. => ⟨_, _, rfl, kept_execRefAdj (.refl _) .refl⟩
  | .counterMismatch => ⟨_, _, rfl, kept_execCounterMismatch (.refl _) .refl⟩
  | .ptpMessage .. => ⟨_, _, rfl, kept_execPtpMessage (.refl _) .refl⟩
  | .delayReqSend => ⟨_, _, rfl, kept_execDelayReqSend (.refl _) .refl⟩
  | .ptpSourceLoss => ⟨_, _, rfl, kept_execPtpSourceLoss (.refl _) .refl⟩
  | .ppsEdge => ⟨_, _, rfl, kept_execPpsEdge (.refl _) .refl⟩
  | .ppsLoss => ⟨_, _, rfl, kept_execPpsLoss (.refl _) .refl⟩
  | .ppsOut => ⟨_, _, rfl, kept_execPpsOut (.refl _) .refl⟩
  | .freqSourceLoss => ⟨_, _, rfl, kept_execFreqSourceLoss (.refl _) .refl⟩
  | .pllRelock => ⟨_, _, rfl, kept_execPllRelock (.refl _) .refl⟩
  | .timeCapArm .. => ⟨_, _, rfl, kept_execTimeCapArm (.refl _) .refl⟩
  | .launchArm .. => ⟨_, _, rfl, kept_execLaunchArm (.refl _) .refl⟩
  | .launchDisarm .. => ⟨_, _, rfl, kept_execLaunchDisarm (.refl _) .refl⟩
  | .launch .. => ⟨_, _, rfl, kept_execLaunch (.refl _) .refl⟩
  | .timeStep .. => ⟨_, _, rfl, kept_execTimeStep (.refl _) .refl⟩
  | .triggerInputEdge .. => ⟨_, _, rfl, kept_execTriggerInputEdge (.refl _) .refl⟩
  | .pinFuncSwitch .. => ⟨_, _, rfl, kept_execPinFuncSwitch (.refl _) .refl⟩
  | .pinOwnerWrite .. => ⟨_, _, rfl, kept_execPinOwnerWrite (.refl _) .refl⟩
  | .bankVselWrite .. => ⟨_, _, rfl, kept_execBankVselWrite (.refl _) .refl⟩
  | .bankRampDone .. => ⟨_, _, rfl, kept_execBankRampDone (.refl _) .refl⟩
  | .gpioSet .. => ⟨_, _, rfl, kept_execGpioSet (.refl _) .refl⟩
  | .gpioClr .. => ⟨_, _, rfl, kept_execGpioClr (.refl _) .refl⟩
  | .gpioTgl .. => ⟨_, _, rfl, kept_execGpioTgl (.refl _) .refl⟩
  | .pinShort .. => ⟨_, _, rfl, kept_execPinShort (.refl _) .refl⟩
  | .shortClear .. => ⟨_, _, rfl, kept_execShortClear (.refl _) .refl⟩
  | .strapClose => ⟨_, _, rfl, kept_execStrapClose (.refl _) .refl⟩
  | .strapOpen => ⟨_, _, rfl, kept_execStrapOpen (.refl _) .refl⟩
  | .uartRxByte .. => ⟨_, _, rfl, kept_execUartRxByte (.refl _) .refl⟩
  | .spUartCfg .. => ⟨_, _, rfl, kept_execSpUartCfg (.refl _) .refl⟩
  | .spUartSend .. => ⟨_, _, rfl, kept_execSpUartSend (.refl _) .refl⟩
  | .spUartRecv .. => ⟨_, _, rfl, kept_execSpUartRecv (.refl _) .refl⟩
  | .spI2cXfer .. => ⟨_, _, rfl, kept_execSpI2cXfer (.refl _) .refl⟩
  | .spSpiXfer .. => ⟨_, _, rfl, kept_execSpSpiXfer (.refl _) .refl⟩
  | .clksetWrite .. => ⟨_, _, rfl, kept_execClksetWrite (.refl _) .refl⟩
  | .inputPowerSample .. => ⟨_, _, rfl, kept_execInputPowerSample (.refl _) .refl⟩
  | .dutyBurstEnd => ⟨_, _, rfl, kept_execDutyBurstEnd (.refl _) .refl⟩
  | .thermalCeilingUpdate .. => ⟨_, _, rfl, kept_execThermalCeilingUpdate (.refl _) .refl⟩
  | .powerCeilingUpdate .. => ⟨_, _, rfl, kept_execPowerCeilingUpdate (.refl _) .refl⟩
  | .clockChange => ⟨_, _, rfl, kept_execClockChange (.refl _) .refl⟩
  | .clockChangeRelease => ⟨_, _, rfl, kept_execClockChangeRelease (.refl _) .refl⟩
  | .inletEntersService .. => ⟨_, _, rfl, kept_execInletEntersService (.refl _) .refl⟩
  | .inletLeavesService .. => ⟨_, _, rfl, kept_execInletLeavesService (.refl _) .refl⟩
  | .shareFault => ⟨_, _, rfl, kept_execShareFault (.refl _) .refl⟩
  | .lowLineEntry => ⟨_, _, rfl, kept_execLowLineEntry (.refl _) .refl⟩
  | .highLineReturn => ⟨_, _, rfl, kept_execHighLineReturn (.refl _) .refl⟩
  | .dropoutFreeze => ⟨_, _, rfl, kept_execDropoutFreeze (.refl _) .refl⟩
  | .powerLossShutdown => ⟨_, _, rfl, kept_execPowerLossShutdown (.refl _) .refl⟩
  | .railFault .. => ⟨_, _, rfl, kept_execRailFault (.refl _) .refl⟩
  | .thermalTrip .. => ⟨_, _, rfl, kept_execThermalTrip (.refl _) .refl⟩
  | .coolantSample .. => ⟨_, _, rfl, kept_execCoolantSample (.refl _) .refl⟩
  | .auxCurrentLimit => ⟨_, _, rfl, kept_execAuxCurrentLimit (.refl _) .refl⟩
  | .auxEnable .. => ⟨_, _, rfl, kept_execAuxEnable (.refl _) .refl⟩
  | .firmwareBoot => ⟨_, _, rfl, kept_execFirmwareBoot (.refl _) .refl⟩
  | .stewardBootTimeout => ⟨_, _, rfl, kept_execStewardBootTimeout (.refl _) .refl⟩
  | .bootComplete => ⟨_, _, rfl, kept_execBootComplete (.refl _) .refl⟩
  | .wakingComplete => ⟨_, _, rfl, kept_execWakingComplete (.refl _) .refl⟩
  | .sleepingComplete => ⟨_, _, rfl, kept_execSleepingComplete (.refl _) .refl⟩
  | .modPower .. => ⟨_, _, rfl, kept_execModPower (.refl _) .refl⟩
  | .modReset .. => ⟨_, _, rfl, kept_execModReset (.refl _) .refl⟩
  | .settingsSave .. => ⟨_, _, rfl, kept_execSettingsSave (.refl _) .refl⟩
  | .settingsErase .. => ⟨_, _, rfl, kept_execSettingsErase (.refl _) .refl⟩
  | .settingsRead .. => ⟨_, _, rfl, kept_execSettingsRead (.refl _) .refl⟩
  | .fwStage .. => ⟨_, _, rfl, kept_execFwStage (.refl _) .refl⟩
  | .fwActivate .. => ⟨_, _, rfl, kept_execFwActivate (.refl _) .refl⟩
  | .stewardReady => ⟨_, _, rfl, kept_execStewardReady (.refl _) .refl⟩
  | .activationTimeout => ⟨_, _, rfl, kept_execActivationTimeout (.refl _) .refl⟩
  | .fwConfirm .. => ⟨_, _, rfl, kept_execFwConfirm (.refl _) .refl⟩
  | .temperSample .. => ⟨_, _, rfl, kept_execTemperSample (.refl _) .refl⟩
  | .billetInsertion .. => ⟨_, _, rfl, kept_execBilletInsertion (.refl _) .refl⟩
  | .billetCopyComplete .. => ⟨_, _, rfl, kept_execBilletCopyComplete (.refl _) .refl⟩
  | .storeScrub .. => ⟨_, _, rfl, kept_execStoreScrub (.refl _) .refl⟩
  | .heartbeatTimeout .. => ⟨_, _, rfl, kept_execHeartbeatTimeout (.refl _) .refl⟩
  | .linkUncorrectableWord .. => ⟨_, _, rfl, kept_execLinkUncorrectableWord (.refl _) .refl⟩
  | .mgmtLinkLoss => ⟨_, _, rfl, kept_execMgmtLinkLoss (.refl _) .refl⟩
  | .svcMaint .. => ⟨_, _, rfl, kept_execSvcMaint (.refl _) .refl⟩
  | .svcSelftest .. => ⟨_, _, rfl, kept_execSvcSelftest (.refl _) .refl⟩
  | .temperReplan .. => ⟨_, _, rfl, kept_execTemperReplan (.refl _) .refl⟩
  | .billetInsert .. => ⟨_, _, rfl, kept_execBilletInsert (.refl _) .refl⟩
  | .blockDiscard .. => ⟨_, _, rfl, kept_execBlockDiscard (.refl _) .refl⟩
  | .prbsCheckerLock .. => ⟨_, _, rfl, kept_execPrbsCheckerLock (.refl _) .refl⟩
  | .prbsLockLoss .. => ⟨_, _, rfl, kept_execPrbsLockLoss (.refl _) .refl⟩
  | .continuousErrorInjection .. => ⟨_, _, rfl, kept_execContinuousErrorInjection (.refl _) .refl⟩
  | .timeTick => ⟨_, _, rfl, kept_execTimeTick (.refl _) .refl⟩
  | .temperResample .. => ⟨_, _, rfl, kept_execTemperResample (.refl _) .refl⟩
  | .linkRetrain .. => ⟨_, _, rfl, kept_execLinkRetrain (.refl _) .refl⟩
  | .commandCompletion .. => ⟨_, _, rfl, kept_execCommandCompletion (.refl _) .refl⟩
  | .hostLinkUp .. => ⟨_, _, rfl, kept_execHostLinkUp (.refl _) .refl⟩

/-- Settles O34: each row's meaning is a next state. -/
theorem everyCommandAnswers : Obligations.EveryCommandAnswers := fun c s =>
  let ⟨_, t, ht, _⟩ := exec_next_kept c s
  ⟨t, ht⟩

/-- The state that a command answers with is kept but for a span. -/
theorem kept_of_exec {c : Instr} {s t : State} (h : exec c s = .next t) : ∃ W, Kept W s t := by
  obtain ⟨W, u, hu, hk⟩ := exec_next_kept c s
  obtain rfl : u = t := Host.Outcome.next.inj (hu.symm.trans h)
  exact ⟨W, hk⟩

/-- Settles O35: what a command keeps has the queue, the grade and the stepping among it. -/
theorem commandsKeepQueueAndGrade : Obligations.CommandsKeepQueueAndGrade := fun _ _ _ h =>
  let ⟨_, hk⟩ := kept_of_exec h
  ⟨hk.queue, hk.grade, hk.stepping⟩

/-- Settles O32: a step is the meaning of the front command. -/
theorem stepRunsFrontCommand : Obligations.StepRunsFrontCommand := fun _ _ _ => rfl

/-- Settles O33: with no command waiting, a step answers the state it has. -/
theorem emptyQueueIdles : Obligations.EmptyQueueIdles := fun s h => by rw [step, h]

/-! ## The stores stay canonical -/

/-- Settles O37: every store is empty after reset. -/
theorem resetIsTidy : Obligations.ResetIsTidy :=
  ⟨TabOk.nil, ⟨TabOk.nil, TabOk.nil, TabOk.nil, TabOk.nil, TabOk.nil, TabOk.nil, TabOk.nil⟩, TabOk.nil, TabOk.nil⟩

/-- The queue of commands is no store. -/
theorem Tidy.setPending {s : State} (h : Tidy s) (cs : List Instr) : Tidy { s with pending := cs } :=
  ⟨h.regs, h.fab, h.dram, h.host⟩

/-- Settles O38: a step is idle or runs one command, and each command keeps the stores canonical. -/
theorem stepKeepsTidy : Obligations.StepKeepsTidy := by
  intro s t hs h
  cases hq : s.pending with
  | nil =>
    rw [emptyQueueIdles s hq] at h
    exact Host.Outcome.next.inj h ▸ hs
  | cons c cs =>
    rw [step, hq] at h
    obtain ⟨_, hk⟩ := kept_of_exec h
    exact hk.tidy (hs.setPending cs)

/-! ## Reads: the RC fields of the words read, and the counts of the PRBS checkers (R10, R350) -/

theorem rowBits_of_mem {q : FieldInfo → Bool} {x : FieldInfo} : ∀ {l : List FieldInfo}, x ∈ l → q x = true →
    (rowBits q l).testBit x.fld.ctorIdx = true
  | y :: l, h, hq => by
    rw [rowBits]
    rcases List.mem_cons.1 h with rfl | h
    · rw [hq, cond_true, Nat.testBit_lor, Nat.testBit_two_pow_self, Bool.true_or]
    · cases q y with
      | false => exact rowBits_of_mem h hq
      | true => rw [cond_true, Nat.testBit_lor, rowBits_of_mem h hq, Bool.or_true]

/-- The registers whose table rows pass a test, those of a list, and the parts of a list. -/
def rowSpan (q : FieldInfo → Bool) (fs : List Fld) (ks : List Piece) : Span := ⟨rowBits q regTable ||| fldBits fs, pieceBits ks⟩

theorem rowSpan_fld {q : FieldInfo → Bool} {fs : List Fld} {ks : List Piece} {x : FieldInfo} (hx : x ∈ regTable) (h : q x = true) :
    (rowSpan q fs ks).fld x.fld = true := by
  rw [Span.fld, rowSpan, Nat.testBit_lor, rowBits_of_mem hx h, Bool.true_or]

theorem rowSpan_fld_false {q : FieldInfo → Bool} {fs : List Fld} {ks : List Piece} {f : Fld} (h : (rowSpan q fs ks).fld f = false) :
    q f.info = false := by
  by_contra hq
  rw [← f.info_fld, rowSpan_fld f.info_mem (by simpa using hq)] at h
  cases h

/-- What reads may change: RC fields, those of a list, and the parts of a list. -/
abbrev readSpan : List Fld → List Piece → Span := rowSpan fun x => decide (x.acc = .rc)

section
variable {fs : List Fld} {ks : List Piece} {s0 s : State}

theorem readSpan_rc {x : FieldInfo} (hx : x ∈ regTable) (h : x.acc = .rc) : (readSpan fs ks).fld x.fld = true :=
  rowSpan_fld hx (decide_eq_true h)

theorem kept_takeField_rc {o : Origin} {e : FieldInfo × Nat × Nat} (w : Span.le ⟨fldBits prbsFlds, pieceBits [.free, .latches]⟩ (readSpan fs ks))
    (he : e.1 ∈ regTable) (h : Kept (readSpan fs ks) s0 s) : Kept2 (readSpan fs ks) s0 (s.takeField o e) := by
  have hlatch : (readSpan fs ks).part .latches = true := w.part (by decide +kernel)
  have hread : Kept (readSpan fs ks) s0 (s.readField e.1 e.2.1 e.2.2).2 :=
    (kept_readField (w.sub (by decide +kernel) (by decide +kernel)) h).st
  simp only [State.takeField]
  split
  · exact Kept2.of (Kept.setLatches h hlatch)
  · refine Kept2.of ?_
    split
    · next hrc =>
      refine kept_setReg (readSpan_rc he hrc) ?_
      split
      · exact Kept.setLatches hread hlatch
      · exact hread
    · split
      · exact Kept.setLatches hread hlatch
      · exact hread

theorem kept_readWord_rc {o : Origin} {addr : Nat} (w : Span.le ⟨fldBits prbsFlds, pieceBits [.free, .latches]⟩ (readSpan fs ks))
    (ha : addr % 4 = 0 ∨ (readSpan fs ks).fld .hostErrStatusAccess = true) (h : Kept (readSpan fs ks) s0 s) :
    Kept2 (readSpan fs ks) s0 (s.readWord o addr) := by
  simp only [State.readWord]
  split
  · exact Kept2.of h
  · split
    · next hne =>
      refine Kept2.of ?_
      cases o with
      | host n => exact kept_setReg (ha.resolve_left hne) h
      | _ => exact h
    · split
      · exact Kept2.of h
      · split
        · exact List.foldlRecOn (motive := Kept2 (readSpan fs ks) s0) _ _ (Kept2.of h) fun _ hx e he =>
            Kept2.of (kept_takeField_rc w (WordAt.mem_fields.1 he).1 hx.st).st
        · exact Kept2.of h

theorem kept_readWords_rc {o : Origin} {addr n : Nat} (w : Span.le ⟨fldBits prbsFlds, pieceBits [.free, .latches]⟩ (readSpan fs ks))
    (ha : addr % 4 = 0) (h : Kept (readSpan fs ks) s0 s) : Kept2 (readSpan fs ks) s0 (s.readWords o addr n) := by
  induction n generalizing s addr with
  | zero => exact h
  | succ n ih => exact ih (by omega) (kept_readWord_rc w (.inl ha) h).st

theorem kept_readAt_rc {o : Origin} {addr : Nat} (w : Span.le ⟨fldBits prbsFlds, pieceBits [.free, .latches]⟩ (readSpan fs ks))
    (ha : (readSpan fs ks).fld .hostErrStatusAccess = true) (h : Kept (readSpan fs ks) s0 s) :
    Kept2 (readSpan fs ks) s0 (s.readAt o addr) := by
  simp only [State.readAt]
  split
  · exact kept_readWord_rc w (.inr ha) h
  · cases o <;> exact Kept2.of h

end

/-- What a register read may change (R10, R299). -/
abbrev hostReadSpan : Span := readSpan (.hostErrStatusAccess :: prbsFlds) [.free, .latches, .out]

theorem kept_registerRead_rc {s : State} (o : Origin) (addr size : Nat) : Kept hostReadSpan s (s.registerRead o addr size) := by
  have w : Span.le ⟨fldBits prbsFlds, pieceBits [.free, .latches]⟩ hostReadSpan := ⟨by decide +kernel, by decide +kernel⟩
  have wout : Span.le ⟨0, pieceBits [.out]⟩ hostReadSpan := ⟨by decide +kernel, by decide +kernel⟩
  have ha : hostReadSpan.fld .hostErrStatusAccess = true := by decide +kernel
  have hone : Kept hostReadSpan s (s.readAt o addr).2 := (kept_readAt_rc w ha .refl).st
  simp only [State.registerRead]
  split
  · exact .refl
  · split
    · refine kept_emit (wout.sub (by decide +kernel) (by decide +kernel)) ?_
      cases o with
      | host n => exact kept_setReg ha .refl
      | _ => exact .refl
    · split
      · exact kept_emit (wout.sub (by decide +kernel) (by decide +kernel)) (kept_readAt_rc w ha hone).st
      · exact kept_emit (wout.sub (by decide +kernel) (by decide +kernel)) hone

/-- What a REG_READ may change (R321). -/
abbrev regReadSpan : Span := readSpan prbsFlds [.free, .latches, .commands, .log]

theorem kept_execRegRead_rc {s : State} (r : CmdRef) (addr count : Nat) : KeptOut regReadSpan s (execRegRead r addr count s) := by
  have w : Span.le ⟨fldBits prbsFlds, pieceBits [.free, .latches]⟩ regReadSpan := ⟨by decide +kernel, by decide +kernel⟩
  refine KeptOut.of (kept_runCmd ⟨by decide +kernel, by decide +kernel⟩ (fun u hu => ?_) .refl)
  rw [cmdRegRead]
  by_cases ha : addr % 4 = 0
  · exact kept_refuseIf hu fun v hv => Kept1.of (kept_readWords_rc w ha hv).st
  · rw [refuseIf_head _ (decide_eq_true ha)]
    exact kept_says hu

/-! ## Writes of QUEUE.CTL and TASK.FLAGS (R318, R322) -/

/-- The table rows that lie at an offset of a block, with the copies that lie there. -/
def rowsAt (b : Blk) (off : Nat) : List (FieldInfo × Nat × Nat) :=
  regTable.filterMap fun x => if x.blk = b then (x.at? off).map fun j => (x, j.1, j.2) else none

theorem WordAt.fields_eq_rowsAt (w : WordAt) : w.fields = (rowsAt w.blk w.off).map fun e =>
    if w.blk = .hostif ∧ 1 < e.1.count1 then e else (e.1, w.inst, e.2.1 * e.1.count2 + e.2.2) := by
  rw [WordAt.fields, rowsAt, List.map_filterMap]
  refine List.filterMap_congr fun x _ => ?_
  split
  · rcases x.at? w.off with _ | ⟨j1, j2⟩
    · rfl
    · dsimp only [Option.map_some]
      split <;> rfl
  · rfl

theorem WordAt.fields_queueCtl (q : Nat) : (⟨.queue, q, 0x18⟩ : WordAt).fields = [(Fld.info .queueCtlEnable, q, 0)] := by
  have h : rowsAt .queue 0x18 = [(Fld.info .queueCtlEnable, 0, 0)] := by decide +kernel
  rw [WordAt.fields_eq_rowsAt, h]
  simp

theorem WordAt.fields_taskFlags (q : Nat) :
    (⟨.queue, q, 0x34⟩ : WordAt).fields = [(Fld.info .taskFlagsSoft, q, 0), (Fld.info .taskFlagsHw, q, 0)] := by
  have h : rowsAt .queue 0x34 = [(Fld.info .taskFlagsSoft, 0, 0), (Fld.info .taskFlagsHw, 0, 0)] := by decide +kernel
  rw [WordAt.fields_eq_rowsAt, h]
  simp

theorem Fld.addr_queueCtl (q : Nat) : Fld.addr .queueCtlEnable q 0 = blockBase .queue q + 0x18 :=
  Fld.addr_copy (by decide +kernel) q 0

theorem Fld.addr_taskFlags (q : Nat) : Fld.addr .taskFlagsSoft q 0 = blockBase .queue q + 0x34 :=
  Fld.addr_copy (by decide +kernel) q 0

theorem Fld.addr_queue_aligned (q : Nat) : Fld.addr .queueCtlEnable q 0 % 4 = 0 ∧ Fld.addr .taskFlagsSoft q 0 % 4 = 0 := by
  rw [Fld.addr_queueCtl, Fld.addr_taskFlags, blockBase]
  omega

theorem decodeAddr_queueCtl {q : Nat} (h : q < 4096) : decodeAddr (Fld.addr .queueCtlEnable q 0) = some ⟨.queue, q, 0x18⟩ := by
  rw [Fld.addr_queueCtl, decodeAddr_blockBase h (by decide) (by decide)]

theorem decodeAddr_taskFlags {q : Nat} (h : q < 4096) : decodeAddr (Fld.addr .taskFlagsSoft q 0) = some ⟨.queue, q, 0x34⟩ := by
  rw [Fld.addr_taskFlags, decodeAddr_blockBase h (by decide) (by decide)]

section
variable {s : State} {o : Origin} {part v q : Nat}

/-- A write of the word of QUEUE.CTL is a write of ENABLE. -/
theorem State.writeFields_queueCtl : s.writeFields o part ⟨.queue, q, 0x18⟩ v = s.enableQueue q (v % 2) := by
  have hinfo : Fld.info .queueCtlEnable = ⟨.queueCtlEnable, .queue, 0x18, 0, 1, 0, 1, 0, 0, .rw, .live, 0x0, false⟩ := by decide +kernel
  have hone : State.writeOne s o part v s (Fld.info .queueCtlEnable, q, 0) = s.enableQueue q (v % 2) := by
    simp [State.writeOne, hinfo, State.fieldAbsent, State.loaderWrites, State.loadOf, State.writeRw, State.fieldTake, State.writeOther]
  have hact : actOrder [(Fld.info .queueCtlEnable, q, 0)] = [(Fld.info .queueCtlEnable, q, 0)] := by simp [actOrder, hinfo]
  rw [State.writeFields, WordAt.fields_queueCtl, if_neg (by simp), if_neg (by simp), hact]
  exact hone

/-- A write of the word of TASK.FLAGS sets soft flags: HW is read-only. -/
theorem State.writeFields_taskFlags : s.writeFields o part ⟨.queue, q, 0x34⟩ v =
    (s.setReg .taskFlagsSoft q 0 (Nat.lor (s.reg .taskFlagsSoft q 0) (v / 2 ^ 16 % 2 ^ 16))).rescan q := by
  have hsoft : Fld.info .taskFlagsSoft = ⟨.taskFlagsSoft, .queue, 0x34, 0, 1, 0, 1, 31, 16, .w1s, .live, 0x0, false⟩ := by decide +kernel
  have hhw : Fld.info .taskFlagsHw = ⟨.taskFlagsHw, .queue, 0x34, 0, 1, 0, 1, 15, 0, .ro, .none, 0x0, false⟩ := by decide +kernel
  have hone : ∀ t, State.writeOne s o part v t (Fld.info .taskFlagsHw, q, 0) = t := fun t => by
    simp [State.writeOne, hhw]
  have htwo : State.writeOne s o part v s (Fld.info .taskFlagsSoft, q, 0) =
      (s.setReg .taskFlagsSoft q 0 (Nat.lor (s.reg .taskFlagsSoft q 0) (v / 2 ^ 16 % 2 ^ 16))).rescan q := by
    simp [State.writeOne, hsoft, State.fieldAbsent, State.writeAct]
  have hact : actOrder [(Fld.info .taskFlagsSoft, q, 0), (Fld.info .taskFlagsHw, q, 0)] =
      [(Fld.info .taskFlagsHw, q, 0), (Fld.info .taskFlagsSoft, q, 0)] := by simp [actOrder, hsoft, hhw]
  rw [State.writeFields, WordAt.fields_taskFlags, if_neg (by simp), if_neg (by simp), hact, List.foldl_cons, hone, List.foldl_cons, htwo]
  rfl

end

section
variable {s : State} {o : Origin} {addr v : Nat} {w : WordAt}

/-- A permitted write of a word leaves what the write of its fields leaves, but for the audit log (R325). -/
theorem State.kept_writeWord_permitted (hoff : s.sys.off = false) (ha : addr % 4 = 0) (hw : decodeAddr addr = some w)
    (hp : s.present w = true) (hf : w.fields ≠ []) (hq : w.blk = .queue → (s.qPort w.inst).isSome = true) (hm : s.mayWrite o w = true) :
    Kept ⟨0, pieceBits [.log]⟩ (s.writeFields o (s.wordPart w) w v) (s.writeWord o addr v) := by
  have hlive : ¬(w.blk = .queue ∧ (s.qPort w.inst).isNone = true) := fun ⟨hb, hn⟩ => by
    rw [Option.isNone_iff_eq_none.1 hn] at hq
    exact Bool.noConfusion (hq hb)
  simp only [State.writeWord, hoff, hw]
  rw [if_neg (by decide), if_neg (by simp [ha]), if_neg (by simp [hp, hf]), if_neg hlive, if_neg (by simp [hm])]
  exact kept_mergeAudit ⟨by decide, by decide⟩ (kept_ite (kept_auditWrite ⟨by decide, by decide⟩ .refl) .refl)

/-- Whatever a write of a word comes to, it stays in a span that holds what the write of its fields does, and the record of a write
that is refused. -/
theorem kept_writeWord_of {W : Span} (hw : decodeAddr addr = some w) (ha : addr % 4 = 0)
    (wlog : Span.le ⟨fldBits [.hostErrForeignCount], pieceBits [.log]⟩ W) (hfields : ∀ part, Kept W s (s.writeFields o part w v)) :
    Kept W s (s.writeWord o addr v) := by
  have hlog : Span.le ⟨0, pieceBits [.log]⟩ W := wlog.sub (by decide +kernel) (by decide +kernel)
  simp only [State.writeWord, hw]
  refine kept_ite .refl ?_
  rw [if_neg (by simp [ha])]
  refine kept_ite .refl (kept_ite .refl (kept_ite (kept_auditWrite hlog ?_)
    (kept_mergeAudit hlog (kept_ite (kept_auditWrite hlog (hfields _)) (hfields _)))))
  cases o with
  | host n => exact kept_ite (kept_bump (wlog.fld (by decide +kernel)) .refl) .refl
  | _ => exact .refl

end

/-- What a write of QUEUE.CTL may change. -/
def queueCtlSpan : Span := ⟨fldBits [.queueCtlEnable, .queueStatusSetupErr, .hostErrForeignCount], pieceBits [.queues, .log]⟩

theorem kept_execQueueEnable_word {s : State} {q : Nat} (o : Origin) (v : Nat) (hq : q < 4096) :
    KeptOut queueCtlSpan s (execQueueEnable o q v s) :=
  KeptOut.of (kept_writeWord_of (decodeAddr_queueCtl hq) (Fld.addr_queue_aligned q).1 ⟨by decide +kernel, by decide +kernel⟩ fun _ =>
    State.writeFields_queueCtl ▸ kept_enableQueue ⟨by decide +kernel, by decide +kernel⟩ .refl)

/-- What a write of TASK.FLAGS may change. -/
def taskFlagsSpan : Span := ⟨fldBits [.taskFlagsSoft, .hostErrForeignCount], pieceBits [.queues, .log]⟩

theorem kept_execTaskSoftFlagSet_word {s : State} {q : Nat} (o : Origin) (flags : Nat) (hq : q < 4096) :
    KeptOut taskFlagsSpan s (execTaskSoftFlagSet o q flags s) :=
  KeptOut.of (kept_writeWord_of (decodeAddr_taskFlags hq) (Fld.addr_queue_aligned q).2 ⟨by decide +kernel, by decide +kernel⟩ fun _ =>
    State.writeFields_taskFlags ▸ kept_rescan ⟨by decide +kernel, by decide +kernel⟩ (kept_setReg (by decide +kernel) .refl))

/-! ## Boot and the management reset: the blocks whose settings are applied (R407, R410, R417) -/

section
variable {q : Blk → Bool} {fs : List Fld} {ks : List Piece} {s0 s : State}

theorem kept_applySettings_blocks (h : Kept (rowSpan (fun x => q x.blk) fs ks) s0 s) :
    Kept (rowSpan (fun x => q x.blk) fs ks) s0 (s.applySettings fun f _ => q (blkOf f)) :=
  kept_applySettings_in (fun _ _ hf => rowSpan_fld_false (q := fun x => q x.blk) hf) h

theorem kept_dropRegs_blocks (hw : (rowSpan (fun x => q x.blk) fs ks).part .held = true) (h : Kept (rowSpan (fun x => q x.blk) fs ks) s0 s) :
    Kept (rowSpan (fun x => q x.blk) fs ks) s0 (s.dropRegs fun f _ => q (blkOf f)) :=
  kept_dropRegs_in hw (fun _ _ hf => rowSpan_fld_false (q := fun x => q x.blk) hf) h

end

/-- What the boot ROM and the steward's start may change. -/
def bootSpan : Span :=
  rowSpan (fun x => Blk.management x.blk) quenchFlds [.parts, .time, .pins, .sys, .svc, .queues, .log, .keys]

section
variable {s0 s : State}

theorem kept_bootSettings_management (h : Kept bootSpan s0 s) : Kept bootSpan s0 s.bootSettings := by
  have hfilled : Kept bootSpan s0 s.fillSettings := kept_fillSettings ⟨by decide +kernel, by decide +kernel⟩ h
  exact kept_servoSource ⟨by decide +kernel, by decide +kernel⟩ (kept_keepPads ⟨by decide +kernel, by decide +kernel⟩
    (kept_setReg (by decide +kernel) (kept_applySettings_blocks hfilled)))

theorem kept_bootWith_management (h : Kept bootSpan s0 s) (slot anvil : Nat) : Kept bootSpan s0 (s.bootWith slot anvil) := by
  have w : Span.le ⟨fldBits [.modFwFallbacks, .modFwTrial, .modFwActive, .svcStewardAnvil, .modStateFactoryBad], pieceBits [.sys]⟩ bootSpan :=
    ⟨by decide +kernel, by decide +kernel⟩
  have hrecord : Span.le ⟨0, 8192⟩ bootSpan := w.sub (by decide +kernel) (by decide +kernel)
  delta State.bootWith
  extract_lets n s1 s2 sys s3 s4
  have h1 : Kept bootSpan s0 s1 := kept_ite h (kept_setRecord hrecord (w.fld (by decide +kernel)) h)
  have h2 : Kept bootSpan s0 s2 := kept_setReg (w.fld (by decide +kernel)) (kept_setRecord hrecord (w.fld (by decide +kernel)) h1)
  have h3 : Kept bootSpan s0 s3 := Kept.setSys h2 (w.part (by decide +kernel)) Sys.factoryBad_mk
  have h4 : Kept bootSpan s0 s4 := kept_setFlag (w.fld (by decide +kernel)) (kept_fwFlags ⟨by decide +kernel, by decide +kernel⟩
    (kept_bootSettings_management (kept_setReg (w.fld (by decide +kernel)) h3)))
  exact kept_ite (kept_moduleFault ⟨by decide +kernel, by decide +kernel⟩ h4) h4

theorem kept_firmwareBoot_management (h : Kept bootSpan s0 s) (anvil : Nat) : Kept bootSpan s0 (s.firmwareBoot anvil) := by
  rw [State.firmwareBoot]
  split
  · exact kept_bootWith_management h _ anvil
  · exact Kept.setSys (kept_fwFlags ⟨by decide +kernel, by decide +kernel⟩ h) (by decide +kernel) rfl

theorem kept_execFirmwareBoot_management : KeptOut bootSpan s (execFirmwareBoot s) :=
  KeptOut.of (kept_ite (kept_firmwareBoot_management .refl 0) .refl)

theorem kept_execStewardBootTimeout_management : KeptOut bootSpan s (execStewardBootTimeout s) :=
  have hboot := kept_firmwareBoot_management (s := s) .refl 1
  KeptOut.of (kept_ite (kept_ite (kept_stewardMoved ⟨by decide +kernel, by decide +kernel⟩ hboot) hboot) .refl)

end

/-- What the management reset may change (R417). -/
def mgmtResetSpan : Span :=
  rowSpan (fun x => Blk.resetByMgmt x.blk) releaseFlds [.held, .parts, .trace, .pins, .pwr, .commands, .queues, .log]

section
variable {s0 s : State}

theorem kept_mgmtRegs_blocks (h : Kept mgmtResetSpan s0 s) : Kept mgmtResetSpan s0 s.mgmtRegs := by
  have w : Span.le ⟨fldBits [.pwrStatusFeedA, .pwrStatusFeedB, .pwrStatusLowLine, .spCfgStrap, .spCfgLatched, .hostBifurcCurrent],
      pieceBits [.held]⟩ mgmtResetSpan := ⟨by decide +kernel, by decide +kernel⟩
  have happlied := kept_applySettings_blocks (q := Blk.resetByMgmt) (kept_dropRegs_blocks (w.part (by decide +kernel)) h)
  exact kept_setReg (w.fld (by decide +kernel)) (kept_setReg (w.fld (by decide +kernel)) (kept_setReg (w.fld (by decide +kernel))
    (kept_setReg (w.fld (by decide +kernel)) (kept_setReg (w.fld (by decide +kernel)) (kept_setReg (w.fld (by decide +kernel)) happlied)))))

theorem kept_mgmtReset_blocks (h : Kept mgmtResetSpan s0 s) : Kept mgmtResetSpan s0 s.mgmtReset := by
  have w : Span.le ⟨0, pieceBits [.held, .parts, .trace, .pins, .pwr, .commands, .queues, .log]⟩ mgmtResetSpan :=
    ⟨by decide +kernel, by decide +kernel⟩
  have hregs : Kept mgmtResetSpan s0 (s.latchPads false).mgmtRegs :=
    kept_mgmtRegs_blocks (kept_latchPads ⟨by decide +kernel, by decide +kernel⟩ h)
  delta State.mgmtReset
  extract_lets s1 gone pwr pins host s2
  have h2 : Kept mgmtResetSpan s0 s2 := Kept.many hregs (fun i => hregs.regsOk i) (.inr rfl) (fun i => hregs.fabOk i) (fun i => hregs.dramOk i)
    (fun i => HostOk.set (hregs.hostOk i).mem) rfl (.inr rfl) (.inr rfl) (.inr rfl) (.inr rfl) (.inr rfl) (.inr rfl) (.inr rfl)
    (.inl (w.part (by decide +kernel))) (.inr rfl) (.inr rfl) (.inr rfl) (.inl (w.part (by decide +kernel)))
    (.inl (w.part (by decide +kernel))) (.inr rfl) (.inr rfl) (.inr rfl) (.inr rfl) (.inr rfl) (.inl (w.part (by decide +kernel)))
    (.inl (w.part (by decide +kernel))) (.inr ⟨rfl, rfl, rfl, rfl, rfl⟩) (.inr ⟨rfl, rfl⟩)
  exact kept_unthrottle ⟨by decide +kernel, by decide +kernel⟩ (kept_releasePads ⟨by decide +kernel, by decide +kernel⟩ h2)

theorem kept_execModReset_management (r : CmdRef) (force : Nat) : KeptOut mgmtResetSpan s (execModReset r 1 force s) :=
  KeptOut.of (kept_runCmd ⟨by decide +kernel, by decide +kernel⟩
    (fun _ hu => kept_refuseIf hu fun _ hv => kept_oks (kept_mgmtReset_blocks hv)) .refl)

end

/-! ## Inlets and rails (R388, R393) -/

section
variable {s : State}

/-- What an inlet of a module that is on may change. -/
def inletSpan : Span :=
  ⟨fldBits (releaseFlds.append (eventFlds.append [.pwrStatusFeedA, .pwrStatusFeedB, .svcAvailExtMs])), pieceBits [.parts, .pwr, .queues]⟩

theorem kept_execInletEntersService_on (i volts : Nat) (hon : s.sys.off = false) :
    KeptOut inletSpan s (execInletEntersService i volts s) := by
  have hfeed : inletSpan.fld (feedFld i) = true := by
    rw [feedFld]
    split <;> decide +kernel
  refine KeptOut.of ?_
  simp only [State.inletIn, hon]
  exact kept_ite .refl (kept_inputEvent ⟨by decide +kernel, by decide +kernel⟩
    (kept_inputBack ⟨by decide +kernel, by decide +kernel⟩ (kept_setReg hfeed .refl)))

/-- What a fault of a region's rail may change. -/
def railSpan : Span :=
  ⟨fldBits (quenchFlds.append (eventFlds.append (dropFlds.append [.modRgnOnLo, .modRgnOnHi, .nocTagInuse, .nocTagPeak, .nocTagFullCount,
    .pwrRailFirstValid, .pwrRailFirstKind, .pwrRailFirstRail, .pwrRailFaultCount, .svcCond]))),
    pieceBits [.free, .fab, .parts, .trace, .noc, .sys, .svc, .queues, .log, .pwr]⟩

theorem kept_execRailFault_region {rail : Nat} (kind : Nat) (hr : rail < 0x40) : KeptOut railSpan s (execRailFault rail kind s) := by
  refine KeptOut.of (kept_ite .refl ?_)
  extract_lets s1 mark lost off
  have h1 : Kept railSpan s s1 := kept_recordRail ⟨by decide +kernel, by decide +kernel⟩ .refl
  have hfenced (p t) : Kept railSpan s ((s1.quenchLost p).fenceTags t) :=
    kept_fenceTags ⟨by decide +kernel, by decide +kernel⟩ (kept_quenchLost ⟨by decide +kernel, by decide +kernel⟩ h1)
  have hmark (k u) (hu : Kept railSpan s u) : Kept railSpan s (mark k u) :=
    kept_ite (kept_modPwr ⟨by decide +kernel, by decide +kernel⟩ hu) hu
  have hlost : Kept railSpan s lost := hmark _ _ (hfenced _ _)
  rw [if_pos hr]
  exact kept_ite (kept_regionDown ⟨by decide +kernel, by decide +kernel⟩ hlost) hlost

end

/-! ## The packet network without register accesses (R277, R282) -/

/-- The registers that packets may change on their way and at their endpoints, but for register accesses. -/
def packetFlds : List Fld :=
  quenchFlds.append (eventFlds.append (dropFlds.append [.hearthBankStatusConflict, .hearthBankStatusUncorr, .hearthBankStatusCorr,
    .hearthBankLocStep, .hearthBankLocPortX, .hearthBankLocPortY, .hearthBankLocWord, .hearthBankCorrCount, .partCapSpLost, .ddrSlotPeak,
    .ddrSlotFullCount, .ddrOrdInorder, .nocTagInuse, .nocTagPeak, .nocTagFullCount, .nocErrStatusLate, .nocErrStatusPoison,
    .nocErrStatusUnroutable, .nocErrStatusEpoch, .nocErrStatusHeader, .nocErrCorrCount, .nocErrDiscardCount, .nocErrLateCount]))

/-- What packets may change but for register accesses. -/
def packetSpan : Span :=
  ⟨fldBits packetFlds, pieceBits [.free, .fab, .parts, .dram, .trace, .noc, .svc, .hostMem, .commands, .queues, .log]⟩

section
variable {s0 s : State} {k : NocPkt}

/-- A request that asks for no register access is served by a hearth agent, a CP or a DRAM controller. -/
theorem kept_serveRequest_noRegister (hend : k.dst ≠ 0xFF ∧ k.dst % 32 < 0x12) (h : Kept packetSpan s0 s) :
    Kept1 packetSpan s0 (s.serveRequest k) := by
  obtain ⟨hdst, hlow⟩ := hend
  have hcp : Kept1 packetSpan s0 (s.serveCp k) := kept_serveCp ⟨by decide +kernel, by decide +kernel⟩ h
  simp only [State.serveRequest]
  refine ite_of (P := Kept1 packetSpan s0) (kept_answers h) ?_
  rw [if_neg hdst]
  by_cases hagent : k.dst % 32 < 16
  · rw [if_pos hagent]
    exact kept_serveAgent ⟨by decide +kernel, by decide +kernel⟩ h
  rw [if_neg hagent]
  refine ite_of (P := Kept1 packetSpan s0) hcp (ite_of (P := Kept1 packetSpan s0) (kept_answers h) ?_)
  by_cases h10 : k.dst % 32 = 0x10
  · rw [if_pos h10]
    exact hcp
  · rw [if_neg h10, if_pos (by omega)]
    exact kept_serveDram ⟨by decide +kernel, by decide +kernel⟩ h

theorem kept_nocDeliver_noRegister (hk : k.noRegister) (h : Kept packetSpan s0 s) : Kept packetSpan s0 (s.nocDeliver k) := by
  rw [State.nocDeliver]
  by_cases hcpl : k.type = 3
  · rw [if_pos hcpl]
    exact kept_takeCompletion ⟨by decide +kernel, by decide +kernel⟩ h
  by_cases hmsg : k.type = 4
  · rw [if_neg hcpl, if_pos hmsg]
    exact kept_modNoc ⟨by decide +kernel, by decide +kernel⟩ h
  rw [if_neg hcpl, if_neg hmsg]
  have hserved := kept_serveRequest_noRegister ((hk.resolve_left hcpl).resolve_left hmsg) h
  dsimp only
  split
  · exact kept_replyTo ⟨by decide +kernel, by decide +kernel⟩ hserved.st
  · exact hserved.st

theorem kept_nocPass_noRegister {v a r out : Nat} {flaw : NocFlaw} (hk : ∀ k, s.delivers (.pass a r out flaw) = some k → k.noRegister) :
    Kept packetSpan s (s.nocPass v a r out flaw) := by
  rw [State.nocPass]
  refine kept_ite .refl ?_
  split
  · exact .refl
  next inp v1 hpick =>
  split
  · exact .refl
  next t rest hbuf =>
  refine kept_ite .refl ?_
  extract_lets s1 chan
  have h1 : Kept packetSpan s s1 := kept_modNoc ⟨by decide +kernel, by decide +kernel⟩ .refl
  have hchan (l) : Kept packetSpan s (chan l) := kept_modNoc ⟨by decide +kernel, by decide +kernel⟩ h1
  refine kept_ite (kept_nocEnter ⟨by decide +kernel, by decide +kernel⟩ h1) ?_
  split
  · next hout =>
    refine kept_nocDeliver_noRegister (hk t.pkt ?_) h1
    rw [State.delivers, if_pos hout, hpick, Option.bind_some, hbuf]
    rfl
  · refine kept_ite ?_ (hchan _)
    split
    · exact hchan _
    · exact h1

theorem kept_nocLand_noRegister {v a l : Nat} (hk : ∀ k, s.delivers (.arrive a l) = some k → k.noRegister) :
    Kept packetSpan s (s.nocLand v a l) := by
  rw [State.nocLand]
  split
  · exact .refl
  next k rest hchan =>
  refine kept_ite .refl ?_
  extract_lets s1
  have h1 : Kept packetSpan s s1 := kept_modNoc ⟨by decide +kernel, by decide +kernel⟩ .refl
  have hdeliver (hl : 3 ≤ l) : Kept packetSpan s (s1.nocDeliver k) := by
    refine kept_nocDeliver_noRegister (hk k ?_) h1
    rw [State.delivers, if_pos hl, hchan]
    rfl
  by_cases hl : l < 3
  · rw [if_pos hl]
    exact kept_nocEnter ⟨by decide +kernel, by decide +kernel⟩ h1
  rw [if_neg hl]
  have hto := hdeliver (by omega)
  exact kept_ite hto (kept_ite hto (kept_ite (kept_ite (kept_nocAnswer ⟨by decide +kernel, by decide +kernel⟩ h1) h1)
    (kept_ite (kept_nocEnter ⟨by decide +kernel, by decide +kernel⟩ h1) .refl)))

theorem kept_nocMove_noRegister {v : Nat} {e : NocEvent} (hk : ∀ k, s.delivers e = some k → k.noRegister) :
    Kept packetSpan s (s.nocMove v e) := by
  cases e with
  | send q => exact .refl
  | pass a r out flaw => exact kept_nocPump ⟨by decide +kernel, by decide +kernel⟩ (kept_nocPass_noRegister hk)
  | arrive a l => exact kept_nocPump ⟨by decide +kernel, by decide +kernel⟩ (kept_nocLand_noRegister hk)

theorem kept_execNocRequest_noRegister {e : NocEvent} (hk : ∀ k, s.delivers e = some k → k.noRegister) :
    KeptOut packetSpan s (execNocRequest e s) := by
  refine KeptOut.of (kept_ite .refl ?_)
  cases e with
  | send q => exact kept_ite .refl (kept_nocPump ⟨by decide +kernel, by decide +kernel⟩ (kept_modNoc ⟨by decide +kernel, by decide +kernel⟩ .refl))
  | pass a r out flaw => exact kept_nocMove_noRegister hk
  | arrive a l => exact kept_nocMove_noRegister hk

theorem kept_execNocCompletion_noRegister {e : NocEvent} (hk : ∀ k, s.delivers e = some k → k.noRegister) :
    KeptOut packetSpan s (execNocCompletion e s) := by
  refine KeptOut.of (kept_ite .refl ?_)
  cases e with
  | send q => exact kept_nocPump ⟨by decide +kernel, by decide +kernel⟩ (kept_sendReply ⟨by decide +kernel, by decide +kernel⟩ .refl)
  | pass a r out flaw => exact kept_nocMove_noRegister hk
  | arrive a l => exact kept_nocMove_noRegister hk

end

/-! ## DMA failures of a queue (R322) -/

/-- What a DMA failure of a queue may change. -/
def queueFailSpan : Span :=
  ⟨fldBits [.hostErrStatusEcrc, .hostErrStatusDma, .queueCtlEnable, .queueStatusDmaErr], pieceBits [.out, .queues]⟩

theorem kept_execHostDmaFailure_queue {s : State} {q : Nat} {r : CmdRef} {ecrc : Bool} :
    KeptOut queueFailSpan s (execHostDmaFailure (some q) r ecrc s) :=
  KeptOut.of (kept_ite .refl (kept_queueDmaFail ⟨by decide +kernel, by decide +kernel⟩
    (kept_ite (kept_ecrcError ⟨by decide +kernel, by decide +kernel⟩ .refl) .refl)))

/-! ## The frames of the rows, block by block -/

/-- Settles O21: the rows of execution and run control. -/
theorem executionFrames : Obligations.ExecutionFrames :=
  ⟨fun _ _ _ => frame_blocks (kept_execStep (.refl _) .refl),
    fun _ _ => frame_blocks (kept_execCycleBoundary (.refl _) .refl),
    fun _ _ => frame_among (kept_execFreezeLands (.refl _) .refl),
    fun _ _ => frame_among (kept_execPartitionResume (.refl _) .refl),
    fun _ _ _ => frame_among (kept_execHostAbort (.refl _) .refl),
    fun _ _ => frame_among (kept_execDmaBankTimeout (.refl _) .refl),
    fun _ _ _ => frame_among (kept_execDramReadReturn (.refl _) .refl),
    fun _ _ _ _ _ => frame_blocks (kept_execPartCreate (.refl _) .refl),
    fun _ _ _ => frame_blocks (kept_execPartDestroy (.refl _) .refl),
    fun _ _ _ _ => frame_among (kept_execPartBind (.refl _) .refl),
    fun _ _ _ _ _ _ => frame_among (kept_execPartRun (.refl _) .refl),
    fun _ _ _ _ _ => frame_among (kept_execPartStop (.refl _) .refl),
    fun _ _ _ _ _ => frame_among (kept_execPartHalt (.refl _) .refl),
    fun _ _ _ _ => frame_among (kept_execPartResume (.refl _) .refl),
    fun _ _ _ => frame_blocks (kept_execPartUnload (.refl _) .refl)⟩

/-- Settles O22: the rows of loading and observation. -/
theorem loadAndObservationFrames : Obligations.LoadAndObservationFrames :=
  ⟨fun _ _ _ _ _ _ _ => frame_among (kept_execPartLoad (.refl _) .refl),
    fun _ => frame_among (kept_execLoadDequeue (.refl _) .refl),
    fun _ _ _ => frame_among (kept_execLoadHeader (.refl _) .refl),
    fun _ _ _ => frame_among (kept_execLoadPlan (.refl _) .refl),
    fun _ _ _ => frame_among (kept_execLoadCheck (.refl _) .refl),
    fun _ _ => frame_among (kept_execLoadPrepare (.refl _) .refl),
    fun _ _ _ => frame_every (kept_execLoadSetup (.refl _) .refl),
    fun _ _ _ _ => frame_blocks (kept_execHearthVerify (.refl _) .refl),
    fun _ _ _ _ _ => frame_among (kept_execImageKeySet (.refl _) .refl),
    fun _ _ _ _ => frame_among (kept_execImageKeyClear (.refl _) .refl),
    fun _ _ _ => frame_among (kept_execTimerExpired (.refl _) .refl),
    fun p _ => frame_among (kept_execTimeReached (x0 := p) (W := ⟨0, 0⟩) .refl),
    fun _ _ _ => frame_among (kept_execTrigCtlArm (.refl _) .refl),
    fun _ _ _ => frame_among (kept_execTrigCtlDisarm (.refl _) .refl),
    fun _ _ => frame_among (kept_execCaptureDrainComplete (.refl _) .refl),
    fun _ _ => frame_among (kept_execAcqSegmentOpen (.refl _) .refl),
    fun _ _ _ _ _ _ _ => frame_among (kept_execCaptureRequest (.refl _) .refl),
    fun _ _ _ => frame_among (kept_execCaptureRelease (.refl _) .refl),
    fun _ _ _ _ _ _ _ => frame_among (kept_execCaptureDramRead (.refl _) .refl),
    fun _ _ _ _ _ _ _ _ _ => frame_among (kept_execStateRead (.refl _) .refl),
    fun _ _ _ _ _ _ _ _ _ _ _ => frame_among (kept_execStateDeposit (.refl _) .refl)⟩

/-- Settles O23: the rows of trace. -/
theorem traceFrames : Obligations.TraceFrames :=
  ⟨fun _ _ _ => frame_among (kept_execTracePacketEmit (.refl _) .refl),
    fun _ _ => frame_among (kept_execTraceStallEnd (.refl _) .refl),
    fun _ _ => frame_among (kept_execTraceStallLimit (.refl _) .refl),
    fun _ _ => frame_among (kept_execTraceOverflowRecovery (.refl _) .refl),
    fun _ => frame_among (kept_execFunnelBlockWrite (.refl _) .refl),
    fun _ _ => frame_among (kept_execTraceEnable (.refl _) .refl),
    fun _ _ => frame_among (kept_execTraceDisable (.refl _) .refl),
    fun _ _ _ => frame_among (kept_execTraceTrigger (.refl _) .refl),
    fun _ _ => frame_among (kept_execStopNow (.refl _) .refl),
    fun _ => frame_among (kept_execStopDelayReached (.refl _) .refl),
    fun _ _ _ _ _ => frame_among (kept_execCpSleep (.refl _) .refl),
    fun _ _ _ => frame_among (kept_execCpWake (.refl _) .refl),
    fun _ _ _ _ => frame_among (kept_execTraceBufAlloc (.refl _) .refl),
    fun _ _ => frame_among (kept_execTraceBufFree (.refl _) .refl)⟩

/-- Settles O24: the rows of the module DRAM. -/
theorem dramFrames : Obligations.DramFrames :=
  ⟨fun _ _ _ _ _ _ => frame_blocks (kept_execDramRequestServe (.refl _) .refl),
    fun _ _ _ => frame_among (kept_execPhyTrainingLoss (.refl _) .refl),
    fun _ _ _ _ _ => frame_blocks (kept_execDeviceDiagnosis (.refl _) .refl),
    fun _ _ _ _ _ => frame_among (kept_execMarkRediagnosis (.refl _) .refl),
    fun _ _ _ _ => frame_among (kept_execPageRetirement (.refl _) .refl),
    fun _ _ _ => frame_among (kept_execMigrationStep (.refl _) .refl),
    fun _ _ _ => frame_among (kept_execPatrolScrub (.refl _) .refl),
    fun _ _ _ => frame_among (kept_execAgePromotion (.refl _) .refl),
    fun _ _ _ _ => frame_among (kept_execSameBankRefresh (.refl _) .refl),
    fun _ _ _ => frame_blocks (kept_execAllBankRefresh (.refl _) .refl),
    fun _ _ _ => frame_among (kept_execRefreshEnd (.refl _) .refl),
    fun _ _ _ _ => frame_among (kept_execRankPowerDown (.refl _) .refl),
    fun _ _ _ => frame_among (kept_execDramFrozenTimeout (.refl _) .refl),
    fun _ _ _ => frame_among (kept_execStewardThaw (.refl _) .refl),
    fun _ _ _ _ _ => frame_among (kept_execDdrThaw (.refl _) .refl),
    fun _ _ _ _ => frame_among (kept_execDdrRetirePage (.refl _) .refl),
    fun _ _ _ _ _ _ => frame_among (kept_execDdrMarkSet (.refl _) .refl)⟩

/-- Settles O25: the rows of the packet network;
a packet that asks for no register access has the span of the agents, the CP and the controllers. -/
theorem networkFrames : Obligations.NetworkFrames :=
  ⟨fun _ _ hk => frame_among (kept_execNocRequest_noRegister hk),
    fun _ _ hk => frame_among (kept_execNocCompletion_noRegister hk),
    fun _ _ _ => frame_among (kept_execNocCplTimeout (.refl _) .refl),
    fun _ _ _ => frame_among (kept_execTagRelease (.refl _) .refl),
    fun _ _ _ => frame_among (kept_execLinkFlitReplay (.refl _) .refl),
    fun _ _ _ => frame_among (kept_execRouteChangeStart (.refl _) .refl),
    fun _ => frame_among (kept_execShadowValid (.refl _) .refl),
    fun _ => frame_among (kept_execEpochSwitch (.refl _) .refl),
    fun _ => frame_among (kept_execEpochRetired (.refl _) .refl),
    fun _ => frame_among (kept_execEpochFenceTimeout (.refl _) .refl),
    fun _ _ => frame_among (kept_execNocEpochBusy (.refl _) .refl),
    fun _ _ => frame_among (kept_execFenceRequest (.refl _) .refl),
    fun _ _ => frame_among (kept_execRegionFenced (.refl _) .refl),
    fun _ _ => frame_among (kept_execNocDrainTimeout (.refl _) .refl),
    fun _ _ => frame_blocks (kept_execAnvilDomainOff (.refl _) .refl)⟩

/-- Settles O26: the rows of the host interface; a read changes RC fields by their rows in the register table, and the
words of a doorbell write one field each. -/
theorem hostInterfaceFrames : Obligations.HostInterfaceFrames :=
  ⟨fun o addr size _ => frame_rows (q := fun x => decide (x.acc = .rc)) (KeptOut.of (kept_registerRead_rc o addr size)),
    fun o addr size _ => frame_rows (q := fun x => decide (x.acc = .rc)) (KeptOut.of (kept_registerRead_rc o addr size)),
    fun r addr count _ => frame_rows (q := fun x => decide (x.acc = .rc)) (kept_execRegRead_rc r addr count),
    fun _ _ _ => frame_among (kept_execHostPortReset (.refl _) .refl),
    fun _ _ _ _ => frame_among (kept_execHostLinkUp (.refl _) .refl),
    fun _ r _ _ => frame_among (kept_execHostDmaFailure_queue (r := r)),
    fun _ _ _ _ => frame_among (kept_execMboxGo (.refl _) .refl),
    fun _ _ _ => frame_among (kept_execMboxAck (.refl _) .refl),
    fun _ _ => frame_among (kept_execMgmtSessionOpen (.refl _) .refl),
    fun _ _ => frame_among (kept_execMgmtSessionClose (.refl _) .refl),
    fun _ _ _ => frame_among (kept_execMgmtMessage (.refl _) .refl),
    fun _ _ _ => frame_among (kept_execUartFrame (.refl _) .refl),
    fun _ _ _ _ => frame_among (kept_execQueueDoorbell (.refl _) .refl),
    fun o _ value _ hq => frame_among (kept_execQueueEnable_word o value hq),
    fun o _ flags _ hq => frame_among (kept_execTaskSoftFlagSet_word o flags hq),
    fun _ _ _ => frame_among (kept_execTaskDispatch (.refl _) .refl),
    fun _ _ => frame_among (kept_execInterruptCoalesceTimeout (.refl _) .refl),
    fun _ _ _ => frame_among (kept_execHostIdentify (.refl _) .refl),
    fun _ _ _ _ _ => frame_among (kept_execQueueAssign (.refl _) .refl),
    fun _ _ _ _ _ _ _ _ _ => frame_among (kept_execQueueSetup (.refl _) .refl),
    fun _ _ _ _ _ => frame_among (kept_execAuditRead (.refl _) .refl),
    fun _ _ _ _ _ => frame_among (kept_execOwnerCertSet (.refl _) .refl),
    fun _ _ _ _ _ => frame_among (kept_execRoleGrant (.refl _) .refl),
    fun _ => frame_among (kept_execAuditPersist (.refl _) .refl)⟩

/-- Settles O27: the rows of Waltline. -/
theorem laneFrames : Obligations.LaneFrames :=
  ⟨fun _ _ _ => frame_among (kept_execLaneEnable (.refl _) .refl),
    fun _ _ _ => frame_among (kept_execLaneDisable (.refl _) .refl),
    fun _ _ _ => frame_among (kept_execRetrain (.refl _) .refl),
    fun _ _ => frame_among (kept_execTerminationDetect (.refl _) .refl),
    fun _ _ => frame_among (kept_execCdrLock (.refl _) .refl),
    fun _ _ => frame_among (kept_execBlockLock (.refl _) .refl),
    fun _ _ _ => frame_among (kept_execTsDetected (.refl _) .refl),
    fun _ _ => frame_among (kept_execTrainTimeout (.refl _) .refl),
    fun _ _ => frame_among (kept_execLockLoss (.refl _) .refl),
    fun _ _ _ => frame_among (kept_execCap (.refl _) .refl),
    fun _ _ _ => frame_among (kept_execFrame (.refl _) .refl),
    fun _ _ _ _ _ => frame_among (kept_execAck (.refl _) .refl),
    fun _ _ => frame_among (kept_execReplayTimeout (.refl _) .refl),
    fun _ _ _ _ _ => frame_among (kept_execCredit (.refl _) .refl),
    fun _ _ _ _ => frame_among (kept_execMark (.refl _) .refl),
    fun _ _ _ _ _ => frame_among (kept_execStop (.refl _) .refl),
    fun _ _ _ _ _ _ _ _ => frame_among (kept_execSpare (.refl _) .refl),
    fun _ _ _ _ => frame_among (kept_execBank (.refl _) .refl),
    fun _ _ _ => frame_among (kept_execDsk (.refl _) .refl),
    fun _ _ => frame_among (kept_execDskSend (.refl _) .refl),
    fun _ _ => frame_among (kept_execFrameTransmit (.refl _) .refl),
    fun _ _ => frame_among (kept_execCreditSend (.refl _) .refl),
    fun _ _ => frame_among (kept_execCreditStall (.refl _) .refl),
    fun _ _ => frame_among (kept_execStatusBlockSend (.refl _) .refl),
    fun _ _ => frame_among (kept_execCrcErrorLimit (.refl _) .refl),
    fun _ _ => frame_among (kept_execSpareRequestRepeat (.refl _) .refl),
    fun _ _ => frame_among (kept_execBankExitSignal (.refl _) .refl),
    fun _ _ _ => frame_among (kept_execInjGo (.refl _) .refl),
    fun _ _ _ => frame_among (kept_execBlockDiscard (.refl _) .refl),
    fun _ _ => frame_among (kept_execPrbsCheckerLock (.refl _) .refl),
    fun _ _ => frame_among (kept_execPrbsLockLoss (.refl _) .refl),
    fun _ _ => frame_among (kept_execContinuousErrorInjection (.refl _) .refl),
    fun _ _ _ _ _ _ _ => frame_among (kept_execWlStreamBind (.refl _) .refl),
    fun _ _ _ => frame_among (kept_execWlStreamUnbind (.refl _) .refl),
    fun _ _ _ _ => frame_among (kept_execWlLaneCtl (.refl _) .refl),
    fun _ _ _ _ => frame_among (kept_execWlBank (.refl _) .refl)⟩

/-- Settles O28: the rows of the time base and of the side pins. -/
theorem timeAndPinFrames : Obligations.TimeAndPinFrames :=
  ⟨fun _ _ _ => frame_among (kept_execTimeIncrWrite (.refl _) .refl),
    fun _ _ _ _ => frame_among (kept_execRefRateWrite (.refl _) .refl),
    fun _ _ _ _ => frame_among (kept_execRefAdj (.refl _) .refl),
    fun _ => frame_among (kept_execCounterMismatch (.refl _) .refl),
    fun _ _ => frame_among (kept_execPtpMessage (.refl _) .refl),
    fun _ => frame_among (kept_execDelayReqSend (.refl _) .refl),
    fun _ => frame_among (kept_execPtpSourceLoss (.refl _) .refl),
    fun _ => frame_among (kept_execPpsEdge (.refl _) .refl),
    fun _ => frame_among (kept_execPpsLoss (.refl _) .refl),
    fun _ => frame_among (kept_execPpsOut (.refl _) .refl),
    fun _ => frame_among (kept_execFreqSourceLoss (.refl _) .refl),
    fun _ => frame_among (kept_execPllRelock (.refl _) .refl),
    fun _ _ _ => frame_among (kept_execTimeCapArm (.refl _) .refl),
    fun _ _ _ => frame_among (kept_execLaunchArm (.refl _) .refl),
    fun _ _ _ => frame_among (kept_execLaunchDisarm (.refl _) .refl),
    fun _ _ => frame_among (kept_execLaunch (.refl _) .refl),
    fun _ _ _ _ => frame_among (kept_execTimeStep (.refl _) .refl),
    fun _ => frame_among (kept_execTimeTick (.refl _) .refl),
    fun _ _ => frame_among (kept_execTriggerInputEdge (.refl _) .refl),
    fun _ _ _ _ => frame_among (kept_execPinFuncSwitch (.refl _) .refl),
    fun _ _ _ _ => frame_among (kept_execPinOwnerWrite (.refl _) .refl),
    fun _ _ _ _ => frame_among (kept_execBankVselWrite (.refl _) .refl),
    fun _ _ => frame_among (kept_execBankRampDone (.refl _) .refl),
    fun _ _ _ _ => frame_among (kept_execGpioSet (.refl _) .refl),
    fun _ _ _ _ => frame_among (kept_execGpioClr (.refl _) .refl),
    fun _ _ _ _ => frame_among (kept_execGpioTgl (.refl _) .refl),
    fun _ _ => frame_among (kept_execPinShort (.refl _) .refl),
    fun _ _ _ => frame_among (kept_execShortClear (.refl _) .refl),
    fun _ => frame_among (kept_execStrapClose (.refl _) .refl),
    fun _ => frame_among (kept_execStrapOpen (.refl _) .refl),
    fun _ _ _ _ => frame_among (kept_execUartRxByte (.refl _) .refl),
    fun _ _ _ _ _ => frame_among (kept_execSpUartCfg (.refl _) .refl),
    fun _ _ _ _ _ => frame_among (kept_execSpUartSend (.refl _) .refl),
    fun _ _ _ _ => frame_among (kept_execSpUartRecv (.refl _) .refl),
    fun _ _ _ _ _ _ _ _ => frame_among (kept_execSpI2cXfer (.refl _) .refl),
    fun _ _ _ _ _ _ _ => frame_among (kept_execSpSpiXfer (.refl _) .refl)⟩

/-- Settles O29: the rows of power and cooling; an inlet finds the module on, a rail of a region names its fault. -/
theorem powerFrames : Obligations.PowerFrames :=
  ⟨fun _ _ _ => frame_among (kept_execClksetWrite (.refl _) .refl),
    fun _ _ _ => frame_among (kept_execInputPowerSample (.refl _) .refl),
    fun _ => frame_among (kept_execDutyBurstEnd (.refl _) .refl),
    fun _ _ _ _ => frame_among (kept_execThermalCeilingUpdate (.refl _) .refl),
    fun _ _ _ => frame_among (kept_execPowerCeilingUpdate (.refl _) .refl),
    fun _ => frame_among (kept_execClockChange (.refl _) .refl),
    fun _ => frame_among (kept_execClockChangeRelease (.refl _) .refl),
    fun i volts _ hon => frame_among (kept_execInletEntersService_on i volts hon),
    fun _ _ _ => frame_among (kept_execInletLeavesService (.refl _) .refl),
    fun _ => frame_among (kept_execShareFault (.refl _) .refl),
    fun _ => frame_among (kept_execLowLineEntry (.refl _) .refl),
    fun _ => frame_among (kept_execHighLineReturn (.refl _) .refl),
    fun _ => frame_among (kept_execDropoutFreeze (.refl _) .refl),
    fun _ => frame_every (kept_execPowerLossShutdown (.refl _) .refl),
    fun _ kind _ hr => frame_among (kept_execRailFault_region kind hr),
    fun _ _ => frame_every (kept_execThermalTrip (.refl _) .refl),
    fun _ _ _ _ => frame_among (kept_execCoolantSample (.refl _) .refl),
    fun _ => frame_among (kept_execAuxCurrentLimit (.refl _) .refl),
    fun _ _ _ => frame_among (kept_execAuxEnable (.refl _) .refl)⟩

/-- Settles O30: the rows of start-up; boots and the management reset write whole blocks, by their rows in the register table. -/
theorem startUpFrames : Obligations.StartUpFrames :=
  ⟨fun _ => frame_rows (q := fun x => Blk.management x.blk) kept_execFirmwareBoot_management,
    fun _ => frame_rows (q := fun x => Blk.management x.blk) kept_execStewardBootTimeout_management,
    fun _ => frame_among (kept_execBootComplete (.refl _) .refl),
    fun _ => frame_blocks (kept_execWakingComplete (.refl _) .refl),
    fun _ => frame_among (kept_execSleepingComplete (.refl _) .refl),
    fun _ _ _ => frame_among (kept_execModPower (.refl _) .refl),
    fun r force _ => frame_rows (q := fun x => Blk.resetByMgmt x.blk) (kept_execModReset_management r force),
    fun _ _ _ => frame_among (kept_execSettingsSave (.refl _) .refl),
    fun _ _ _ => frame_among (kept_execSettingsErase (.refl _) .refl),
    fun _ _ _ _ _ => frame_among (kept_execSettingsRead (.refl _) .refl),
    fun _ _ _ _ _ _ _ _ _ _ => frame_among (kept_execFwStage (.refl _) .refl),
    fun _ _ _ => frame_among (kept_execFwActivate (.refl _) .refl),
    fun _ => frame_among (kept_execStewardReady (.refl _) .refl),
    fun _ => frame_among (kept_execActivationTimeout (.refl _) .refl),
    fun _ _ _ => frame_among (kept_execFwConfirm (.refl _) .refl)⟩

/-- Settles O31: the rows of service life. -/
theorem serviceFrames : Obligations.ServiceFrames :=
  ⟨fun _ _ => frame_among (kept_execTemperSample (.refl _) .refl),
    fun _ _ => frame_among (kept_execTemperResample (.refl _) .refl),
    fun _ _ _ _ => frame_among (kept_execBilletInsertion (.refl _) .refl),
    fun _ _ => frame_among (kept_execBilletCopyComplete (.refl _) .refl),
    fun _ _ _ => frame_among (kept_execStoreScrub (.refl _) .refl),
    fun _ _ => frame_among (kept_execHeartbeatTimeout (.refl _) .refl),
    fun _ _ _ => frame_among (kept_execLinkUncorrectableWord (.refl _) .refl),
    fun _ _ _ _ => frame_among (kept_execLinkRetrain (.refl _) .refl),
    fun _ => frame_among (kept_execMgmtLinkLoss (.refl _) .refl),
    fun _ _ _ _ _ => frame_blocks (kept_execSvcMaint (.refl _) .refl),
    fun _ _ _ _ => frame_among (kept_execSvcSelftest (.refl _) .refl),
    fun _ _ => frame_among (kept_execTemperReplan (.refl _) .refl),
    fun _ _ _ _ _ => frame_among (kept_execBilletInsert (.refl _) .refl)⟩

end Sys2Proof.Machine
end

section
/-! PROOFS. Strings of bytes: request records (R308, R309), settings images (R411, R414), audit entries (R326); the counters of the time base
(R358 to R360), mailboxes (R306), events (R316, R317), and the bytes that commands bring to the host. -/

set_option Elab.async false

namespace Sys2Proof.Machine

/-! ## Little-endian strings (R184, R308) -/

/-- A little-endian string of `n` bytes holds a number modulo 256^n. -/
theorem leVal_toLE (n v : Nat) : leVal (toLE n v) = v % 256 ^ n := by
  induction n generalizing v with
  | zero => simp [toLE, leVal, Nat.mod_one]
  | succ n ih =>
    have hbyte : (BitVec.ofNat 8 v).toNat = v % 256 := rfl
    rw [toLE, leVal, ih, hbyte, pow_succ', Nat.mod_mul]

/-- A number at the head of a string. -/
theorem le_toLE_append (n v : Nat) (ys : Bytes) : le (toLE n v ++ ys) 0 n = v % 256 ^ n := by
  rw [le, List.drop_zero, List.take_append_of_le_length (by simp), List.take_of_length_le (by simp), leVal_toLE]

theorem le_toLE (n v : Nat) : le (toLE n v) 0 n = v % 256 ^ n := by
  simpa using le_toLE_append n v []

/-- A number behind the first part of a string. -/
theorem le_append_right {xs ys : Bytes} {off n : Nat} (h : xs.length ≤ off) : le (xs ++ ys) off n = le ys (off - xs.length) n := by
  rw [le, le, List.drop_append, List.drop_of_length_le h, List.nil_append]

theorem slice_append_right {xs ys : Bytes} {off n : Nat} (h : xs.length ≤ off) :
    slice (xs ++ ys) off n = slice ys (off - xs.length) n := by
  rw [slice, slice, List.drop_append, List.drop_of_length_le h, List.nil_append, List.length_append]
  congr 3
  omega

theorem slice_append_left (xs ys : Bytes) : slice (xs ++ ys) 0 xs.length = xs := by
  simp [slice]

@[simp] theorem length_slice (bs : Bytes) (off n : Nat) : (slice bs off n).length = n := by
  simp only [slice, List.length_append, List.length_take, List.length_drop, List.length_replicate]
  omega

@[simp] theorem length_zeros (n : Nat) : (zeros n).length = n := List.length_replicate

/-! ## Request records (R308, R309) -/

/-- The bytes that a parameter takes. -/
def PKind.bytes : PKind → Nat
  | .int n => n
  | .str n => n

theorem layoutFrom_cons (off : Nat) (k : PKind) (ks : List PKind) :
    layoutFrom off (k :: ks) = ((k.place off).1, k.bytes) :: layoutFrom (k.place off).2 ks := by
  cases k <;> rfl

theorem PKind.place_snd (k : PKind) (off : Nat) : (k.place off).2 = (k.place off).1 + k.bytes := by
  cases k <;> rfl

/-- A parameter lies at or behind the first free offset: an integer at the next multiple of its size. -/
theorem PKind.le_place {k : PKind} {v : Nat} (h : k.holds v = true) (off : Nat) : off ≤ (k.place off).1 := by
  cases k with
  | str n => exact Nat.le_refl off
  | int n =>
    obtain ⟨hn, -⟩ := of_decide_eq_true h
    have := Nat.div_add_mod (off + n - 1) n
    have := Nat.mod_lt (off + n - 1) hn
    rw [Nat.mul_comm] at *
    simp only [PKind.place]
    omega

theorem PKind.lt_of_holds {k : PKind} {v : Nat} (h : k.holds v = true) : v < 256 ^ k.bytes := by
  cases k with
  | str n => exact of_decide_eq_true h
  | int n => exact (of_decide_eq_true h).2

/-- The bytes of one parameter: its gap and its value. -/
theorem formParams_cons (off : Nat) (k : PKind) (v : Nat) (kvs : List (PKind × Nat)) :
    formParams off ((k, v) :: kvs) = zeros ((k.place off).1 - off) ++ toLE k.bytes v ++ formParams (k.place off).2 kvs := by
  rw [formParams, PKind.place_snd, Nat.add_sub_cancel_left]

/-- Every value fits its parameter. -/
def Fits (kvs : List (PKind × Nat)) : Prop := ∀ e ∈ kvs, PKind.holds e.1 e.2 = true

/-- The string up to the end of a parameter has the length of that end. -/
theorem length_prefix {pre : Bytes} {off v : Nat} {k : PKind} (hpre : pre.length = off) (hk : k.holds v = true) :
    (pre ++ zeros ((k.place off).1 - off) ++ toLE k.bytes v).length = (k.place off).2 := by
  have := k.le_place hk off
  simp only [List.length_append, length_zeros, length_toLE, hpre, PKind.place_snd]
  omega

theorem length_formParams {kvs : List (PKind × Nat)} (h : Fits kvs) (off : Nat) :
    off + (formParams off kvs).length = (layoutEnd off (kvs.map Prod.fst) + 7) / 8 * 8 := by
  induction kvs generalizing off with
  | nil =>
    simp only [formParams, length_zeros, List.map_nil, layoutEnd]
    omega
  | cons e kvs ih =>
    obtain ⟨k, v⟩ := e
    have hle := k.le_place (h (k, v) List.mem_cons_self) off
    have hrest := ih (fun e he => h e (List.mem_cons_of_mem _ he)) (k.place off).2
    rw [List.map_cons, layoutEnd, ← hrest, formParams_cons, PKind.place_snd]
    simp only [List.length_append, length_zeros, length_toLE]
    omega

/-- Behind any string, the parameters formed at its end are read back. -/
theorem le_formParams {kvs : List (PKind × Nat)} (h : Fits kvs) {pre : Bytes} {off : Nat} (hpre : pre.length = off) :
    (layoutFrom off (kvs.map Prod.fst)).map (fun e => le (pre ++ formParams off kvs) e.1 e.2) = kvs.map Prod.snd := by
  induction kvs generalizing off pre with
  | nil => rfl
  | cons e kvs ih =>
    obtain ⟨k, v⟩ := e
    have hk : k.holds v = true := h (k, v) List.mem_cons_self
    have hlen := length_prefix hpre hk
    have hgap : (pre ++ zeros ((k.place off).1 - off)).length = (k.place off).1 := by
      have := k.le_place hk off
      simp only [List.length_append, length_zeros, hpre]
      omega
    rw [List.map_cons, List.map_cons, layoutFrom_cons, List.map_cons, formParams_cons, List.append_assoc (zeros _), ← List.append_assoc pre]
    congr 1
    · rw [le_append_right hgap.le, hgap, Nat.sub_self, le_toLE_append, Nat.mod_eq_of_lt (k.lt_of_holds hk)]
    · rw [← List.append_assoc]
      exact ih (fun e he => h e (List.mem_cons_of_mem _ he)) hlen

/-- Behind any string, a byte of the parameters formed at its end lies in a parameter or is 0. -/
theorem formParams_gap {kvs : List (PKind × Nat)} (h : Fits kvs) {pre : Bytes} {off : Nat} (hpre : pre.length = off) (i : Nat)
    (hi : off ≤ i) (hgap : ∀ e ∈ layoutFrom off (kvs.map Prod.fst), ¬(e.1 ≤ i ∧ i < e.1 + e.2)) :
    (pre ++ formParams off kvs).getD i 0 = 0 := by
  induction kvs generalizing off pre with
  | nil =>
    rw [List.getD_append_right _ _ _ _ (by omega), formParams, zeros, List.getD_eq_getElem?_getD, List.getElem?_replicate]
    split <;> rfl
  | cons e kvs ih =>
    obtain ⟨k, v⟩ := e
    have hk : k.holds v = true := h (k, v) List.mem_cons_self
    have hlen := length_prefix hpre hk
    rw [List.map_cons, layoutFrom_cons] at hgap
    have hout := hgap _ List.mem_cons_self
    simp only [← PKind.place_snd] at hout
    rw [formParams_cons]
    by_cases hlt : i < (k.place off).1
    · rw [List.append_assoc, List.getD_append_right _ _ _ _ (by omega), List.getD_append _ _ _ _ (by simp; omega), zeros,
        List.getD_eq_getElem?_getD, List.getElem?_replicate]
      split <;> rfl
    · rw [← List.append_assoc, ← List.append_assoc]
      exact ih (fun e he => h e (List.mem_cons_of_mem _ he)) hlen (by omega) fun e he => hgap e (List.mem_cons_of_mem _ he)

theorem gapsClear_formParams {kvs : List (PKind × Nat)} (h : Fits kvs) : gapsClear (kvs.map Prod.fst) (formParams 0 kvs) = true := by
  rw [gapsClear, List.all_eq_true]
  intro i _
  rw [Bool.or_eq_true, List.any_eq_true, decide_eq_true_eq]
  by_cases hin : ∃ e ∈ layoutFrom 0 (kvs.map Prod.fst), e.1 ≤ i ∧ i < e.1 + e.2
  · obtain ⟨e, he, hbytes⟩ := hin
    exact .inl ⟨e, he, decide_eq_true hbytes⟩
  · exact .inr (formParams_gap h (pre := []) rfl i (Nat.zero_le i) fun e he hbytes => hin ⟨e, he, hbytes⟩)

/-- Settles O54: along the parameters, behind any string that ends at the first free offset. -/
theorem requestRecordRoundTrip : Obligations.RequestRecordRoundTrip := by
  intro kvs hfits
  refine ⟨by simpa [plenOf] using length_formParams hfits 0, le_formParams hfits (pre := []) rfl, gapsClear_formParams hfits, ?_⟩
  intro code seq flags vector hcode hlen hseq hflags hvector
  simp only [headOf, paramsOf, List.append_assoc]
  have hplen : le (toLE 2 code ++ (toLE 2 (formParams 0 kvs).length ++ (toLE 4 seq ++ (toLE 2 flags ++ (toLE 2 vector ++
      (toLE 4 0 ++ formParams 0 kvs)))))) 2 2 = (formParams 0 kvs).length := by
    rw [le_append_right (by simp), length_toLE, le_toLE_append, Nat.mod_eq_of_lt (by simpa using hlen)]
  constructor
  · rw [hplen]
    congr 1 <;> simp (disch := simp) only [le_append_right, length_toLE, Nat.reduceSub, le_toLE_append] <;> omega
  · rw [hplen]
    simp (disch := simp) only [slice_append_right, length_toLE, Nat.reduceSub]
    simpa using slice_append_left (formParams 0 kvs) []

/-! ## Settings images (R411, R414) -/

theorem crcBit_lt {c : Nat} (h : c < 2 ^ 32) : crcBit c < 2 ^ 32 := by
  have hhalf : c / 2 < 2 ^ 32 := by omega
  rw [crcBit]
  split
  · exact Nat.xor_lt_two_pow hhalf (by decide)
  · exact hhalf

theorem crcByte_lt {c : Nat} (b : Byte) (h : c < 2 ^ 32) : crcByte c b < 2 ^ 32 :=
  have hbyte : b.toNat < 2 ^ 32 := b.isLt.trans (by decide)
  crcBit_lt (crcBit_lt (crcBit_lt (crcBit_lt (crcBit_lt (crcBit_lt (crcBit_lt (crcBit_lt (Nat.xor_lt_two_pow h hbyte))))))))

/-- A CRC-32 fits its 4 bytes. -/
theorem crc32_lt (bs : Bytes) : crc32 bs < 2 ^ 32 := by
  refine Nat.xor_lt_two_pow ?_ (by decide)
  refine List.foldlRecOn (motive := fun c => c < 2 ^ 32) bs crcByte (by decide) fun c hc b _ => crcByte_lt b hc

/-- A record that an image can hold: its type and its length fit 16 bits, and the length is a multiple of 4. -/
def ImgFits (r : Nat × Bytes) : Prop := r.1 < 2 ^ 16 ∧ r.2.length < 2 ^ 16 ∧ r.2.length % 4 = 0

theorem length_imgRecord (type : Nat) (body : Bytes) : (imgRecord type body).length = 4 + body.length := by
  simp [imgRecord]
  omega

/-- The records of a string of records. -/
theorem imageParse_records {rs : List (Nat × Bytes)} (h : ∀ r ∈ rs, ImgFits r) :
    imageParse rs.length (rs.map fun r => imgRecord r.1 r.2).flatten = some rs := by
  induction rs with
  | nil => rfl
  | cons r rs ih =>
    obtain ⟨htype, hlen, hmul⟩ := h r List.mem_cons_self
    have ihrest := ih fun x hx => h x (List.mem_cons_of_mem _ hx)
    simp only [List.map_cons, List.flatten_cons, List.length_cons]
    generalize hrest : (rs.map fun r => imgRecord r.1 r.2).flatten = rest at ihrest ⊢
    have hle : le (imgRecord r.1 r.2 ++ rest) 2 2 = r.2.length := by
      simp (disch := simp) only [imgRecord, List.append_assoc, le_append_right, length_toLE, le_toLE_append, Nat.sub_self]
      omega
    have htyp : le (imgRecord r.1 r.2 ++ rest) 0 2 = r.1 := by
      simp only [imgRecord, List.append_assoc, le_toLE_append]
      omega
    have hbody : slice (imgRecord r.1 r.2 ++ rest) 4 r.2.length = r.2 := by
      simp (disch := simp) only [imgRecord, List.append_assoc, slice_append_right, length_toLE, Nat.reduceSub]
      exact slice_append_left _ _
    have hdrop : (imgRecord r.1 r.2 ++ rest).drop (4 + r.2.length) = rest := by
      rw [← length_imgRecord r.1 r.2, List.drop_left]
    have hall : (imgRecord r.1 r.2 ++ rest).length = 4 + r.2.length + rest.length := by
      rw [List.length_append, length_imgRecord]
    rw [imageParse, hle, if_neg (by omega), hdrop, ihrest, htyp, hbody]
    rfl

/-- The body of a settings entry's record: address, mask and value. -/
def fieldBody (k : Key) (v : Nat) : Bytes :=
  toLE 4 (Fld.addr (fldOf (k.getD 0 0)) (k.getD 1 0) (k.getD 2 0) / 4 * 4) ++ toLE 4 (fldOf (k.getD 0 0)).info.mask ++
    toLE 4 (v * 2 ^ (fldOf (k.getD 0 0)).info.lo)

/-- The records of the settings table before they are coded: type and body. -/
def State.imageEntries (s : State) : List (Nat × Bytes) :=
  (s.sys.settings.filter (fun e => decide (e.1.getD 0 0 ≠ Fld.hostRoleGrant.ctorIdx))).filterMap
    (fun e => e.2.map fun v => (1, fieldBody e.1 v)) ++
  s.host.keys.map (fun e => (2, toLE 1 (e.1.getD 0 0) ++ zeros 3 ++ e.2 ++ zeros 3)) ++
  s.host.certs.map (fun e => (3, toLE 1 (e.1.getD 0 0) ++ zeros 3 ++ e.2)) ++ [(4, toLE 4 s.grants)]

theorem State.imageRecords_eq (s : State) : s.imageRecords = s.imageEntries.map fun r => imgRecord r.1 r.2 := by
  simp only [State.imageRecords, State.imageEntries, List.map_append, List.map_map, List.map_filterMap, Option.map_map]
  rfl

theorem State.imageEntries_fit {s : State} (hkeys : ∀ e ∈ s.host.keys, e.2.length = 97) (hcerts : ∀ e ∈ s.host.certs, e.2.length = 48) :
    ∀ r ∈ s.imageEntries, ImgFits r := by
  intro r hr
  simp only [State.imageEntries, List.mem_append, List.mem_filterMap, List.mem_map, List.mem_singleton, Option.map_eq_some_iff] at hr
  rcases hr with ((⟨e, -, v, -, rfl⟩ | ⟨e, he, rfl⟩) | ⟨e, he, rfl⟩) | rfl
  · simp [ImgFits, fieldBody]
  · simp [ImgFits, hkeys e he]
  · simp [ImgFits, hcerts e he]
  · simp [ImgFits]

/-- An image has at least as many bytes of records as records. -/
theorem length_le_flatten_records (rs : List (Nat × Bytes)) : rs.length ≤ (rs.map fun r => imgRecord r.1 r.2).flatten.length := by
  induction rs with
  | nil => exact Nat.le_refl 0
  | cons r rs ih =>
    simp only [List.map_cons, List.flatten_cons, List.length_append, length_imgRecord, List.length_cons]
    omega

/-- The first 20 bytes of an image: MAGIC, FORMAT, GENERATION, LENGTH and COUNT. -/
def imageHead (gen : Nat) (rs : List Bytes) : Bytes :=
  toLE 4 0x47544553 ++ toLE 2 0x0100 ++ zeros 2 ++ toLE 4 gen ++ toLE 4 (64 + rs.flatten.length) ++ toLE 4 rs.length

/-- The fields of an image's head, whatever follows. -/
theorem le_imageHead_append (gen : Nat) (rs : List Bytes) (ys : Bytes) :
    (imageHead gen rs).length = 20 ∧ le (imageHead gen rs ++ ys) 0 4 = 0x47544553 ∧ le (imageHead gen rs ++ ys) 4 2 = 0x0100 ∧
      le (imageHead gen rs ++ ys) 8 4 = gen % 2 ^ 32 ∧ le (imageHead gen rs ++ ys) 12 4 = (64 + rs.flatten.length) % 2 ^ 32 ∧
      le (imageHead gen rs ++ ys) 16 4 = rs.length % 2 ^ 32 := by
  refine ⟨by simp [imageHead], ?_, ?_, ?_, ?_, ?_⟩ <;>
    simp (disch := simp) only [imageHead, List.append_assoc, le_append_right, length_toLE, length_zeros, Nat.reduceSub, le_toLE_append,
      Nat.reducePow, Nat.reduceMod]

/-- An image is its head, its CRC and the rest. -/
theorem State.buildImage_eq (s : State) (gen : Nat) :
    s.buildImage gen = imageHead gen s.imageRecords ++
      (toLE 4 (crc32 (imageHead gen s.imageRecords ++ (zeros 40 ++ s.imageRecords.flatten))) ++ (zeros 40 ++ s.imageRecords.flatten)) := by
  simp only [State.buildImage, imageHead, List.append_assoc]

/-- Settles O55: the head is read back, the CRC is that of the bytes around it, and the records are parsed one by one. -/
theorem settingsImageRoundTrip : Obligations.SettingsImageRoundTrip := by
  intro s gen hkeys hcerts hfit
  have hparse := imageParse_records (State.imageEntries_fit hkeys hcerts)
  have hcount := length_le_flatten_records s.imageEntries
  rw [← List.length_map (as := s.imageEntries) (fun r => imgRecord r.1 r.2), ← State.imageRecords_eq] at hparse hcount
  refine ⟨s.imageEntries, ?_, (State.imageRecords_eq s).symm, ?_⟩
  · rw [State.buildImage_eq] at hfit ⊢
    generalize hcrc : crc32 (imageHead gen s.imageRecords ++ (zeros 40 ++ s.imageRecords.flatten)) = crc at hfit ⊢
    generalize hrest : toLE 4 crc ++ (zeros 40 ++ s.imageRecords.flatten) = rest at hfit ⊢
    obtain ⟨hhead, hmagic, hformat, -, hlen, hcnt⟩ := le_imageHead_append gen s.imageRecords rest
    have hrestLen : rest.length = 44 + s.imageRecords.flatten.length := by
      simp only [← hrest, List.length_append, length_toLE, length_zeros]
      omega
    rw [List.length_append, hhead, hrestLen] at hfit
    rw [Nat.mod_eq_of_lt (by omega)] at hlen hcnt
    have hall : (imageHead gen s.imageRecords ++ rest).length = 64 + s.imageRecords.flatten.length := by
      rw [List.length_append, hhead, hrestLen]
      omega
    have hcrcField : le (imageHead gen s.imageRecords ++ rest) 20 4 = crc := by
      rw [le_append_right hhead.le, hhead, ← hrest, le_toLE_append, Nat.mod_eq_of_lt (hcrc ▸ crc32_lt _)]
    have htake : (imageHead gen s.imageRecords ++ rest).take 20 = imageHead gen s.imageRecords := by
      rw [← hhead, List.take_left]
    have hdrop : (imageHead gen s.imageRecords ++ rest).drop 24 = zeros 40 ++ s.imageRecords.flatten := by
      rw [← hrest, ← List.append_assoc, List.drop_left' (by simp [hhead])]
    have hrecords : (imageHead gen s.imageRecords ++ rest).drop 64 = s.imageRecords.flatten := by
      rw [← hrest, ← List.append_assoc, ← List.append_assoc, List.drop_left' (by simp [hhead])]
    simp only [copyRecords, hmagic, hformat, hlen, hcnt, hall, hcrcField, List.take_of_length_le hall.le, htake, hdrop, hcrc, hrecords]
    exact (if_pos ⟨trivial, trivial, by omega, by omega, Nat.le_refl _, trivial⟩).trans hparse
  · rw [State.buildImage_eq]
    exact (le_imageHead_append _ _ _).2.2.2.1

/-! ## Audit entries (R325, R326) -/

section
variable {s : State} {r : CmdRef} {b : Busy}

/-- Persisting the log writes the flash alone. -/
theorem State.persistAudit_eq (s : State) :
    ∃ flash n, s.persistAudit = { s with host := { s.host with flashLog := flash, persisted := n } } :=
  ⟨_, _, rfl⟩

theorem State.log_persistAudit (s : State) :
    s.persistAudit.host.log = s.host.log ∧ s.persistAudit.host.logSeq = s.host.logSeq := by
  obtain ⟨flash, n, h⟩ := s.persistAudit_eq
  rw [h]
  exact ⟨rfl, rfl⟩

/-- The audit entry of a command and its answer; TIME and SEQ are the log's. -/
def State.answerEntry (s : State) (r : CmdRef) (b : Busy) (a : Answer) : AuditEntry :=
  ⟨0, 0, b.role, portByteOf r.org, a.status.num, 1,
    b2n (persistent b.code && decide (a.status = .ok)) + 2 * b2n (decide (b.code ≠ 0x0600)) + 4 * b2n (decide (a.status ≠ .ok)),
    b.part, b.code, 0, b.hostId, (s.auditWords b).1, (s.auditWords b).2⟩

/-- The log after the first answer of a command that enters no audit entry. -/
theorem State.log_answer_unaudited (a : Answer) (hr : s.busyOf r = some b) (hans : b.ans = none) (hcode : unaudited b.code = true) :
    (s.answer r a).host.log = s.host.log := by
  simp only [State.answer, hr, hans, hcode, Option.isSome_none, Bool.false_eq_true, if_false, if_true]
  split
  · exact s.log_persistAudit.1
  · rfl

/-- The log after the first answer of any other command. -/
theorem State.log_answer_audited (a : Answer) (hr : s.busyOf r = some b) (hans : b.ans = none) (hcode : unaudited b.code = false) :
    (s.answer r a).host.log = (s.audit (s.answerEntry r b a)).host.log ∧ (s.answer r a).host.logSeq = s.host.logSeq + 1 := by
  simp only [State.answer, hr, hans, hcode, Option.isSome_none, Bool.false_eq_true, if_false]
  split
  · exact State.log_persistAudit _
  · exact ⟨rfl, rfl⟩

/-- Bit 2 of three flags. -/
theorem bit_two_flags (x y z : Bool) : bit (b2n x + 2 * b2n y + 4 * b2n z) 2 = z := by
  revert x y z
  decide

/-- Bit 2 of the flags of an entry says that the command failed. -/
theorem State.answerEntry_failed (a : Answer) : bit (s.answerEntry r b a).flags 2 = true ↔ a.status ≠ .ok := by
  rw [State.answerEntry, bit_two_flags, decide_eq_true_iff]

end

/-- A field of an entry at its offset. -/
theorem AuditEntry.le_bytes (e : AuditEntry) (h : e.hostId.length = 16) :
    e.bytes.length = 64 ∧ le e.bytes 0 8 = e.time % 2 ^ 64 ∧ le e.bytes 8 8 = e.seq % 2 ^ 64 ∧
    le e.bytes 16 1 = e.role % 256 ∧ le e.bytes 17 1 = e.port % 256 ∧ le e.bytes 18 2 = e.status % 2 ^ 16 ∧
    le e.bytes 20 1 = e.kind % 256 ∧ le e.bytes 21 1 = e.flags % 256 ∧ le e.bytes 22 2 = e.part % 2 ^ 16 ∧
    le e.bytes 24 4 = e.field % 2 ^ 32 ∧ le e.bytes 28 4 = e.mask % 2 ^ 32 ∧ slice e.bytes 32 16 = e.hostId ∧
    le e.bytes 48 8 = e.old % 2 ^ 64 ∧ le e.bytes 56 8 = e.new % 2 ^ 64 := by
  have hid : slice e.hostId 0 16 = e.hostId := by simpa [h] using slice_append_left e.hostId []
  simp only [AuditEntry.bytes, hid, List.append_assoc]
  refine ⟨by simp [h], ?_, ?_, ?_, ?_, ?_, ?_, ?_, ?_, ?_, ?_, ?_, ?_, ?_⟩
  case refine_11 =>
    simp (disch := simp) only [slice_append_right, length_toLE, Nat.reduceSub]
    rw [← h]
    exact slice_append_left _ _
  all_goals
    simp (disch := simp [h]) only [le_append_right, length_toLE, h, Nat.reduceSub, le_toLE_append, le_toLE, Nat.reducePow]

/-- Settles O53: the answer's entry is the last of the log, and its bytes are read back field by field. -/
theorem auditEntries : Obligations.AuditEntries := by
  refine ⟨fun s r a b hr hans => ⟨s.statusOf_answer a hr hans, s.log_answer_unaudited a hr hans, fun hcode => ?_⟩,
    fun e he => e.le_bytes he⟩
  obtain ⟨hlog, hseq⟩ := s.log_answer_audited a hr hans hcode
  exact ⟨hseq, _, (congrArg List.getLast? hlog).trans (s.getLast?_log_audit _), rfl, rfl, rfl, rfl, rfl, rfl, rfl, rfl, rfl, State.answerEntry_failed (s := s) (r := r) a⟩

/-! ## The time base (R358 to R360) -/

/-- A table with a new value for each of a list of keys. -/
theorem Tab.get_foldl_put {α : Type} [DecidableEq α] {d : α} (g : Nat → α) (b : Nat) (l : List Nat) (t : Tab α) :
    Tab.get d (l.foldl (fun c a => Tab.put d c [a] (g a)) t) [b] = if b ∈ l then g b else Tab.get d t [b] := by
  induction l generalizing t with
  | nil => simp
  | cons a l ih =>
    rw [List.foldl_cons, ih, Tab.get_put]
    by_cases hb : b ∈ l
    · rw [if_pos hb, if_pos (List.mem_cons_of_mem _ hb)]
    · by_cases hab : b = a
      · subst hab
        simp [hb]
      · simp [hb, hab, Ne.symm hab]

theorem le_clampIncr (v : Nat) : 0x3330941C8 ≤ clampIncr Config.incrSlack v ∧ clampIncr Config.incrSlack v ≤ 0x3335D249E := by
  simp only [clampIncr, Config.incrNominal, Config.incrSlack]
  omega

/-- The increment of the next tick is a clamped one. -/
theorem State.nextIncr_clamped (s : State) : ∃ v, s.nextIncr = clampIncr Config.incrSlack v := by
  rw [State.nextIncr]
  split
  · exact ⟨_, rfl⟩
  · exact ⟨_, rfl⟩

/-- The state of a tick before a boot step that waits. -/
def State.ticked (s : State) : State :=
  { s with
    time := { s.time with
      ctr := (List.range s.grade.anvils).foldl (fun c a => Tab.put 0 c [a] (Tab.get 0 s.time.ctr [a] + s.nextIncr)) s.time.ctr
      ticks := s.time.ticks + 1
      run := s.time.run + s.nextIncr
      eff := s.nextIncr }
    pins := s.pins.tick }

theorem State.tick_on {s : State} (h : s.sys.off = false) : s.tick = if s.time.stepDue then s.ticked.bootStep else s.ticked := by
  rw [State.tick, h]
  rfl

theorem State.ctr_ticked {s : State} {a : Nat} (ha : a < s.grade.anvils) : s.ticked.ctr a = s.ctr a + s.nextIncr := by
  simp only [State.ctr, State.ticked, Tab.get_foldl_put, List.mem_range, if_pos ha]

theorem State.ctr_addCounters {s : State} (d : Int) {a : Nat} (ha : a < s.grade.anvils) :
    (s.addCounters d).ctr a = unsigned 96 ((s.ctr a : Int) + d) := by
  simp only [State.addCounters, State.ctr, Tab.get_foldl_put, List.mem_range, if_pos ha]

/-- What a step of the counters does beside them: its event, and the late launches. -/
def State.stepActs (s : State) (d : Int) : State :=
  if 0 < d then (List.range 16).foldl (fun s k => s.launchLate k) (s.mEvent 0x12 0 (unsigned 64 (d / 2 ^ 32)))
  else s.mEvent 0x12 0 (unsigned 64 (d / 2 ^ 32))

theorem State.stepCounters_eq (s : State) (d : Int) : ∃ n, s.stepCounters d =
    State.stepActs { s.addCounters d with time := { (s.addCounters d).time with ppsOutAt := n } } d :=
  ⟨_, rfl⟩

/-- Events and late launches leave the time base. -/
theorem State.time_stepActs (s : State) (d : Int) : (s.stepActs d).time = s.time := by
  have hevent : Kept (.without [] [.time]) s (s.mEvent 0x12 0 (unsigned 64 (d / 2 ^ 32))) :=
    kept_mEvent ⟨by decide +kernel, by decide +kernel⟩ .refl
  have hacts : Kept (.without [] [.time]) s (s.stepActs d) :=
    kept_ite (kept_foldl (fun _ _ h => kept_launchLate ⟨by decide +kernel, by decide +kernel⟩ h) hevent) hevent
  exact hacts.part_without (k := .time) (List.mem_singleton_self _)

/-- The counters after a step. -/
theorem State.ctr_stepCounters (s : State) (d : Int) (a : Nat) : (s.stepCounters d).ctr a = (s.addCounters d).ctr a := by
  obtain ⟨n, hn⟩ := s.stepCounters_eq d
  rw [hn, State.ctr, State.time_stepActs]
  rfl

/-- Populated counters hold one value. -/
def State.together (s : State) : Prop := ∀ a, a < s.grade.anvils → ∀ b, b < s.grade.anvils → s.ctr a = s.ctr b

theorem State.together_ticked {s : State} (h : s.together) : s.ticked.together := by
  intro a ha b hb
  have htick : ∀ x, x < s.grade.anvils → s.ticked.ctr x = s.ctr x + s.nextIncr := fun x hx => State.ctr_ticked hx
  rw [htick a ha, htick b hb, h a ha b hb]

/-- The state of a boot step that is not deferred: the counters step by some amount. -/
theorem State.bootStep_cases (s : State) :
    s.bootStep = { s with time := { s.time with stepDue := true } } ∨
    ∃ d, s.bootStep = (({ s with time := { s.time with stepDue := false } }.stepCounters d).setReg .timeStatusSet 0 0 1).auditAction .ok
      0xFFFF (Fld.addr .timeStatusSet 0 0) := by
  rw [State.bootStep]
  split
  · exact .inl rfl
  · exact .inr ⟨_, rfl⟩

theorem State.ctr_auditAction (s : State) (st : Status) (p addr a : Nat) : (s.auditAction st p addr).ctr a = s.ctr a := rfl

theorem State.ctr_setReg (s : State) (f : Fld) (i j v a : Nat) : (s.setReg f i j v).ctr a = s.ctr a := rfl

theorem State.together_bootStep {s : State} (h : s.together) :
    ∀ a, a < s.grade.anvils → ∀ b, b < s.grade.anvils → s.bootStep.ctr a = s.bootStep.ctr b := by
  rcases s.bootStep_cases with hd | ⟨d, hd⟩
  · rw [hd]
    exact h
  · have hstep : ∀ x, x < s.grade.anvils → s.bootStep.ctr x = unsigned 96 ((s.ctr x : Int) + d) := by
      intro x hx
      rw [hd, State.ctr_auditAction, State.ctr_setReg, State.ctr_stepCounters]
      exact State.ctr_addCounters (s := { s with time := { s.time with stepDue := false } }) d hx
    intro a ha b hb
    rw [hstep a ha, hstep b hb, h a ha b hb]

/-- Settles O60: the counters take one increment, and a boot step moves all by one amount. -/
theorem countersAdvanceTogether : Obligations.CountersAdvanceTogether := by
  refine ⟨fun s => ?_, fun s hon hdue => ?_, fun s hf => ?_, fun s t ht hsame a b ha hb => ?_⟩
  · obtain ⟨v, hv⟩ := s.nextIncr_clamped
    exact hv ▸ le_clampIncr v
  · refine ⟨s.tick, rfl, ?_⟩
    rw [State.tick_on hon, hdue, if_neg Bool.false_ne_true]
    exact ⟨rfl, rfl, fun a ha => State.ctr_ticked ha⟩
  · simp [State.nextIncr, hf, clampIncr, Config.incrNominal, Config.incrSlack]
  · obtain rfl : s.tick = t := Host.Outcome.next.inj ht
    by_cases hoff : s.sys.off
    · rw [State.tick, if_pos hoff]
      exact hsame a ha b hb
    · rw [State.tick_on (by simpa using hoff)]
      split
      · exact State.together_bootStep (State.together_ticked hsame) a ha b hb
      · exact State.together_ticked hsame a ha b hb

/-! ## Mailboxes (R306) -/

section
variable {s : State} {n m : Nat}

/-- A write that R306 discards sets PROTO alone. -/
theorem State.mboxProto_state (s : State) (n m : Nat) :
    (s.mboxProto n m).mbState n m = s.mbState n m ∧ (s.mboxProto n m).flag .mboxStateProto (mbInst n m) 0 = true ∧
      (s.mboxProto n m).host = s.host :=
  ⟨s.reg_setReg_fld (by decide) .., s.flag_setReg_one .., rfl⟩

theorem State.mboxGo_busy (h : s.mbState n m ≠ 0) : s.mboxGo n m = s.mboxProto n m := if_neg h

theorem State.mbState_setReg {v : Nat} (hv : v < 2 ^ Fld.mboxStateState.width) :
    (s.setReg .mboxStateState (mbInst n m) 0 v).mbState n m = v :=
  s.reg_setReg_of_lt hv ..

/-- A request posted waits behind the others, with the identity of its host. -/
theorem State.posted_post (s : State) (r : CmdRef) (rc : Bytes) :
    (s.post r rc).host.posted = s.host.posted ++ [⟨r, rc, s.hostIdOf r.org⟩] := rfl

theorem State.hostIdOf_modBox (f : Mailbox → Mailbox) (o : Origin) : (s.modBox n m f).hostIdOf o = s.hostIdOf o := by
  cases o <;> rfl

theorem State.hostIdOf_mbState (i v : Nat) (o : Origin) : (s.setReg .mboxStateState i 0 v).hostIdOf o = s.hostIdOf o := by
  cases o with
  | host n => simp [State.hostIdOf]
  | mgmt k => rfl
  | uart => rfl
  | cp a => rfl

theorem State.mbState_modBox (f : Mailbox → Mailbox) : (s.modBox n m f).mbState n m = s.mbState n m := rfl

/-- GO from IDLE, with its record, posts the record. -/
theorem State.mboxGo_idle (h : s.mbState n m = 0) (rc : Bytes) :
    (s.mboxRequest n m fun _ => rc).mboxGo n m =
      ((s.modBox n m fun x => { x with req := rc }).setReg .mboxStateState (mbInst n m) 0 1).post ⟨.host n, m, le rc 4 4⟩ rc := by
  rw [State.mboxRequest, if_pos (.inl h), State.mboxGo, if_pos (State.mbState_modBox _ |>.trans h), State.box_modBox_self]

/-- GO outside IDLE is discarded; the record is written in DONE alone. -/
theorem State.mboxGo_discarded (h : s.mbState n m ≠ 0) (rc : Bytes) :
    (s.mboxRequest n m fun _ => rc).mboxGo n m =
      (if s.mbState n m = 3 then s.modBox n m fun x => { x with req := rc } else s.mboxProto n m).mboxProto n m := by
  by_cases h3 : s.mbState n m = 3
  · rw [State.mboxRequest, if_pos (.inr h3), if_pos h3, State.mboxGo_busy (State.mbState_modBox _ |>.trans_ne h)]
  · rw [State.mboxRequest, if_neg (not_or.2 ⟨h, h3⟩), if_neg h3, State.mboxGo_busy ((s.mboxProto_state n m).1.trans_ne h)]

end

/-- Settles O59: by the state of the mailbox. -/
theorem mailboxProtocol : Obligations.MailboxProtocol := by
  refine ⟨fun n m rc s hhere h0 => ?_, fun n m rc s hhere h0 => ?_, fun n m s hhere h3 => ?_, fun n m s hhere h3 => ?_,
    fun n m rc s hhere => ⟨congrArg Host.Outcome.next (if_neg (by simp [hhere])), congrArg Host.Outcome.next (if_neg (by simp [hhere]))⟩⟩
  · refine ⟨_, congrArg Host.Outcome.next (if_pos hhere), ?_⟩
    rw [State.mboxGo_idle h0]
    exact ⟨State.mbState_setReg (s := s.modBox n m fun x => { x with req := rc }) (v := 1) (by decide), by
      rw [State.posted_post, State.hostIdOf_mbState, State.hostIdOf_modBox]
      rfl⟩
  · refine ⟨_, congrArg Host.Outcome.next (if_pos hhere), ?_⟩
    rw [State.mboxGo_discarded h0]
    by_cases h3 : s.mbState n m = 3
    · rw [if_pos h3]
      obtain ⟨hstate, hproto, hhost⟩ := (s.modBox n m fun x => { x with req := rc }).mboxProto_state n m
      exact ⟨hstate, hproto, (congrArg HostIf.posted hhost).trans rfl, fun h => absurd h3 h,
        fun _ => (congrArg (fun x : HostIf => Tab.get Mailbox.init x.boxes [n, m]) hhost).trans (s.box_modBox_self n m _)⟩
    · rw [if_neg h3]
      obtain ⟨hstate, hproto, hhost⟩ := (s.mboxProto n m).mboxProto_state n m
      exact ⟨hstate.trans (s.mboxProto_state n m).1, hproto, congrArg HostIf.posted hhost,
        fun _ => congrArg (fun x : HostIf => Tab.get Mailbox.init x.boxes [n, m]) hhost, fun h => absurd h h3⟩
  · refine ⟨_, congrArg Host.Outcome.next (if_pos hhere), ?_⟩
    rw [State.mboxAck, if_pos h3]
    exact ⟨State.mbState_setReg (by decide), rfl⟩
  · refine ⟨_, congrArg Host.Outcome.next (if_pos hhere), ?_⟩
    rw [State.mboxAck, if_neg h3]
    exact s.mboxProto_state n m

/-! ## Events of a partition (R316, R317) -/

section
variable {s : State} {q : Nat}

theorem State.queue_rescan (s : State) (q p : Nat) : (s.rescan q).queue p = s.queue p := by
  rw [State.rescan]
  extract_lets l
  split
  · split <;> rfl
  · rfl

theorem State.queue_setReg (s : State) (f : Fld) (i j v p : Nat) : (s.setReg f i j v).queue p = s.queue p := rfl

theorem State.queue_bump (s : State) (f : Fld) (i j n p : Nat) : (s.bump f i j n).queue p = s.queue p := State.queue_setReg ..

theorem State.reg_rescan (s : State) (q : Nat) (f : Fld) (i j : Nat) : (s.rescan q).reg f i j = s.reg f i j :=
  (kept_rescan (W := ⟨0, _⟩) ⟨rfl, Nat.or_self _⟩ .refl).reg (Nat.zero_testBit _) i j

/-- An event that finds room waits behind those that wait, and marks that some were dropped no longer. -/
theorem State.eventTo_room {kind part status cycle time detail : Nat} (h : (s.queue q).hold.length < s.qSize q - s.qFill q + 64) :
    ((State.eventTo kind part status cycle time detail s q).queue q).hold =
      (s.queue q).hold ++ [eventBytes kind part (b2n (s.queue q).dropMark) status cycle time detail] ∧
    ((State.eventTo kind part status cycle time detail s q).queue q).dropMark = false ∧
    (State.eventTo kind part status cycle time detail s q).reg .queueDropCount q 0 = s.reg .queueDropCount q 0 := by
  simp only [State.eventTo, if_pos h, State.queue_rescan, State.queue_modQueue_self, State.reg_rescan, State.reg_modQueue, and_self]

/-- An event that finds no room is dropped and counted. -/
theorem State.eventTo_full {kind part status cycle time detail : Nat} (h : ¬(s.queue q).hold.length < s.qSize q - s.qFill q + 64) :
    ((State.eventTo kind part status cycle time detail s q).queue q).hold = (s.queue q).hold ∧
    ((State.eventTo kind part status cycle time detail s q).queue q).dropMark = true ∧
    (State.eventTo kind part status cycle time detail s q).flag .queueStatusDrop q 0 = true ∧
    (State.eventTo kind part status cycle time detail s q).reg .queueDropCount q 0 =
      min (2 ^ Fld.queueDropCount.width - 1) (s.reg .queueDropCount q 0 + 1) := by
  have hflag := (s.bump .queueDropCount q 0 1).flag_setReg_one .queueStatusDrop q 0
  simp only [State.flag] at hflag
  simp only [State.eventTo, if_neg h, State.queue_modQueue_self, State.flag, State.reg_modQueue, hflag, State.queue_setReg,
    State.queue_bump, true_and]
  simp

end

/-- An event of a partition, without the name of its queues. -/
theorem State.pEvent_eq (s : State) (p kind status detail : Nat) :
    s.pEvent p kind status detail =
      if s.queuesOf p QT.event = [] then s.bump .hostEvtUndelivered 0 0 1
      else (s.queuesOf p QT.event).foldl (State.eventTo kind p status (s.cycle p) (s.ctrNs (s.homeAnvil p)) detail) s := rfl

/-- A partition with one event queue gives it its events. -/
theorem State.pEvent_one {s : State} {p q : Nat} (kind status detail : Nat) (hq : s.queuesOf p QT.event = [q]) :
    s.pEvent p kind status detail = State.eventTo kind p status (s.cycle p) (s.ctrNs (s.homeAnvil p)) detail s q := by
  rw [State.pEvent_eq, hq, if_neg (List.cons_ne_nil _ _), List.foldl_cons, List.foldl_nil]

/-- The event of a partition without an event queue is counted. -/
theorem State.pEvent_none {s : State} {p : Nat} (kind status detail : Nat) (hq : s.queuesOf p QT.event = []) :
    s.pEvent p kind status detail = s.bump .hostEvtUndelivered 0 0 1 := by
  rw [State.pEvent_eq, if_pos hq]

theorem length_eventBytes (kind part flags status cycle time detail : Nat) :
    (eventBytes kind part flags status cycle time detail).length = 32 := by
  simp [eventBytes]

/-- Settles O58: the event goes to the one queue, or to none. -/
theorem eventsWaitOrAreCounted : Obligations.EventsWaitOrAreCounted := by
  refine ⟨fun s p kind status detail q hq => ?_, fun s p kind status detail hq => ?_, length_eventBytes⟩
  · simp only [State.pEvent_one kind status detail hq]
    split
    · next h => exact State.eventTo_room h
    · next h => exact State.eventTo_full h
  · rw [State.pEvent_none kind status detail hq, State.reg_bump_self]

/-! ## Stores to host memory (R217, R218, R325, R418) -/

/-- From `s` to `t` no byte of host memory changes but those that `P` admits: of a port, at a bus address. -/
def HostWritesIn (P : Nat → Nat → Prop) (s t : State) : Prop := ∀ port b, ¬P port b → t.hostByte port b = s.hostByte port b

/-- The bytes of a run at the port that issued a command. -/
def hostRun (r : CmdRef) (addr n : Nat) (port b : Nat) : Prop := r.org = .host port ∧ addr ≤ b ∧ b < addr + n

section
variable {P : Nat → Nat → Prop} {s t u : State} {r : CmdRef}

theorem HostWritesIn.trans (h : HostWritesIn P s t) (h' : HostWritesIn P t u) : HostWritesIn P s u :=
  fun port b hb => (h' port b hb).trans (h port b hb)

theorem HostWritesIn.mono {Q : Nat → Nat → Prop} (hPQ : ∀ port b, P port b → Q port b) (h : HostWritesIn P s t) : HostWritesIn Q s t :=
  fun port b hb => h port b (mt (hPQ port b) hb)

/-- An operation that keeps the host memory. -/
theorem HostWritesIn.of_kept (h : Kept (.without [] [.hostMem]) s t) : HostWritesIn P s t := fun port b _ =>
  congrArg (fun m => Tab.get none m [port, b]) (show t.host.mem = s.host.mem from h.part_without (List.mem_singleton_self _))

theorem HostWritesIn.refl : HostWritesIn P s s := fun _ _ _ => rfl

/-- Bytes for the origin of a command. -/
theorem State.hostWritesIn_toHost (s : State) (r : CmdRef) (addr : Nat) (bs : Bytes) :
    HostWritesIn (hostRun r addr bs.length) s (s.toHost r addr bs) := by
  intro port b hb
  rw [State.toHost]
  split
  · next n hn =>
    refine Tab.get_putRun_other fun j hj hlt he => hb ?_
    rw [List.length_map] at hlt
    obtain ⟨rfl, rfl⟩ : n = port ∧ j = b := by simpa using he
    exact ⟨hn, hj, hlt⟩
  · rfl

/-- A command stores what its effect stores. -/
theorem HostWritesIn.runCmd {code p : Nat} {ps : Bytes} {f : State → CmdRes} (h : ∀ u, HostWritesIn P u (f u).1) :
    HostWritesIn P s (runCmd r code ps p f s) := by
  rw [Machine.runCmd]
  split
  · exact .refl
  · extract_lets s1 x
    have hbegin : HostWritesIn P s s1 := .of_kept (kept_begin ⟨by decide +kernel, by decide +kernel⟩ .refl)
    have hx : HostWritesIn P s x.1 := by
      simp only [x]
      split
      · exact hbegin
      · exact hbegin.trans (h s1)
    split
    · exact hx
    · exact hx.trans (.of_kept (kept_answer ⟨by decide +kernel, by decide +kernel⟩ .refl))

theorem HostWritesIn.refuseIf {cs : List (Bool × Status)} {k : State → CmdRes} (h : HostWritesIn P s (k s).1) :
    HostWritesIn P s (refuseIf cs s k).1 := by
  rw [Machine.refuseIf]
  split
  · exact .refl
  · exact h

/-! ### The lengths of what is brought -/

theorem length_flatMap_const {α β : Type} {f : α → List β} {n : Nat} (h : ∀ a, (f a).length = n) (l : List α) :
    (l.flatMap f).length = l.length * n := by
  rw [List.length_flatMap, List.map_congr_left fun a _ => h a, List.map_const', List.sum_replicate, smul_eq_mul]

theorem Tab.length_getRun {α : Type} {d : α} {t : Tab α} {pre : Key} (n i : Nat) : (Tab.getRun d t pre i n).length = n := by
  induction n generalizing i with
  | zero => rfl
  | succ n ih => rw [Tab.getRun, List.length_cons, ih]

/-- The bytes of a logical BP in the format of a KIND (R218). -/
theorem Fab.length_lbpBytes (f : Fab) (a h kind b : Nat) (hkind : kind ≤ 3) :
    (f.lbpBytes a h kind b).length =
      if kind = 0 then 32 else if kind = 1 then 128 else if kind = 2 ∨ kind = 3 then 64 else 1 := by
  have hpack (n : Nat) (t : Tab Bool) (k : Key) (i : Nat) : (packBits (Tab.getRun false t k i n)).length = (n + 7) / 8 := by
    rw [packBits, length_toLE, Tab.length_getRun]
  rw [Fab.lbpBytes]
  split
  · exact hpack ..
  split
  · exact hpack ..
  split
  · next h2 => rw [if_pos (.inl h2), hpack]
  · next h2 => rw [if_pos (.inr (by omega)), List.length_append, hpack, hpack]

theorem State.length_flashSlice (s : State) (bs : Bytes) (off n : Nat) : (s.flashSlice bs off n).length = n := by
  rw [State.flashSlice, List.length_map, List.length_range]

theorem AuditEntry.length_bytes (e : AuditEntry) : e.bytes.length = 64 := by
  simp [AuditEntry.bytes]

/-- The bytes of an access of class 2 are no more than it asks for. -/
theorem State.length_dramAccess {a part size : Nat} {todo : List DPiece} {d : Bytes × Bool}
    (h : (s.dramAccess r a part size todo).2 = some d) : d.1.length ≤ size := by
  rw [State.dramAccess] at h
  split at h
  · split at h
    · obtain rfl := Option.some.inj h
      exact List.length_take_le ..
    · cases h
  · split at h
    · obtain rfl := Option.some.inj h
      exact (length_zeros size).le
    · cases h

theorem State.hostWritesIn_dramAccess (a part size : Nat) (todo : List DPiece) :
    HostWritesIn P s (s.dramAccess r a part size todo).1 :=
  .of_kept (kept_dramAccess ⟨by decide +kernel, by decide +kernel⟩ .refl)

/-! ### The commands -/

/-- Bytes of an access of class 2 that go to the host lie in its window. -/
theorem State.hostWritesIn_access {a part size addr : Nat} {todo : List DPiece} {d : Bytes × Bool}
    (h : (s.dramAccess r a part size todo).2 = some d) :
    HostWritesIn (hostRun r addr size) s ((s.dramAccess r a part size todo).1.toHost r addr d.1) :=
  (s.hostWritesIn_dramAccess a part size todo).trans (((s.dramAccess r a part size todo).1.hostWritesIn_toHost r addr d.1).mono
    fun _ _ ⟨ho, hl, hr⟩ => ⟨ho, hl, hr.trans_le (Nat.add_le_add_left (State.length_dramAccess h) _)⟩)

theorem State.length_dmaRest (d : DmaJob) (hput : d.put = none) (hdone : d.done = 0) (hgot : d.got = []) :
    (s.dmaRest d).2.got.length = d.count ∧ (s.dmaRest d).2.who = d.who ∧ (s.dmaRest d).2.put = none ∧ (s.dmaRest d).2.addr = d.addr := by
  rw [State.dmaRest, State.dmaBytes, hput]
  simp [hgot, hdone, Fab.dmaRead]

/-- A DMA access that is done waits no longer. -/
def State.dropDma (s : State) (who : DmaFor) : State :=
  { s with fab := { s.fab with dma := s.fab.dma.filter (fun x => decide (x.who ≠ who)) } }

/-- A DMA read for a command that is done: its bytes go to the host, and the command ends. -/
theorem State.hostWritesIn_dmaDone (s : State) {d : DmaJob} (hwho : d.who = .cmd r) (hput : d.put = none) :
    HostWritesIn (hostRun r d.addr d.got.length) s (s.dmaDone d) := by
  have hdone : s.dmaDone d = ((s.dropDma d.who).toHost r d.addr d.got).done r (if d.bad then .uncorrectable else .ok) := by
    rw [State.dmaDone, hwho, hput]
    rfl
  rw [hdone]
  exact ((s.dropDma d.who).hostWritesIn_toHost r d.addr d.got).trans (.of_kept (kept_done ⟨by decide +kernel, by decide +kernel⟩ .refl))

/-- A DMA read of a bank that starts for a command stores, if it is done at once, its bytes. -/
theorem State.hostWritesIn_dmaStart {d : DmaJob} (hwho : d.who = .cmd r) (hput : d.put = none) (hdone : d.done = 0) (hgot : d.got = []) :
    HostWritesIn (hostRun r d.addr d.count) s (s.dmaStart d) := by
  obtain ⟨hlen, hw, hp, haddr⟩ := s.length_dmaRest d hput hdone hgot
  have hrest : HostWritesIn (hostRun r d.addr d.count) s (s.dmaRest d).1 :=
    .of_kept (kept_dmaRest ⟨by decide +kernel, by decide +kernel⟩ .refl)
  rw [State.dmaStart]
  split
  · exact .refl
  split
  · extract_lets x
    have hdone := x.1.hostWritesIn_dmaDone (hw.trans hwho) hp
    rw [hlen, haddr] at hdone
    exact hrest.trans hdone
  · exact fun _ _ _ => rfl

end

/-- The bytes that a unit of a KIND takes (R218). -/
def unitBytes (kind : Nat) : Nat := if kind = 0 then 32 else if kind = 1 then 128 else if kind = 2 ∨ kind = 3 then 64 else 1

theorem hostWritesIn_stateRead (r : CmdRef) (p kind anvil hearth first count addr : Nat) (u : State) :
    HostWritesIn (hostRun r addr (count * unitBytes kind)) u (cmdStateRead r p kind anvil hearth first count addr u).1 := by
  refine .refuseIf ?_
  split
  · next hkind =>
    have hbytes := u.hostWritesIn_toHost r addr ((List.range count).flatMap (fun k => u.fab.lbpBytes anvil hearth kind (first + k)))
    rwa [length_flatMap_const fun k => u.fab.length_lbpBytes anvil hearth kind (first + k) hkind, List.length_range] at hbytes
  have hone : count * unitBytes kind = count := by
    rw [unitBytes, if_neg (by omega), if_neg (by omega), if_neg (by omega), Nat.mul_one]
  rw [hone]
  split
  · extract_lets x
    split
    · exact u.hostWritesIn_dramAccess _ _ _ _
    · next d hd => exact State.hostWritesIn_access hd
  split
  · exact .refl
  · exact State.hostWritesIn_dmaStart (d := ⟨.cmd r, anvil, hearth, kind - 4, first, count, 0, [], addr, false, none, 0⟩) rfl rfl rfl rfl

theorem hostWritesIn_captureDramRead (r : CmdRef) (p anvil offset length addr : Nat) (u : State) :
    HostWritesIn (hostRun r addr length) u (cmdCaptureDramRead r p anvil offset length addr u).1 := by
  refine .refuseIf ?_
  extract_lets base pages x
  split
  · exact u.hostWritesIn_dramAccess _ _ _ _
  · next d hd => exact State.hostWritesIn_access hd

theorem hostWritesIn_auditRead (r : CmdRef) (first count addr : Nat) (u : State) :
    HostWritesIn (hostRun r addr (64 * count)) u (cmdAuditRead r first count addr u).1 := by
  refine .refuseIf ?_
  generalize hbs : ((u.auditHeld.filter (fun e => decide (first ≤ e.seq) && u.auditVisible r.org e)).take count).flatMap
    AuditEntry.bytes = bs
  have hlen : bs.length ≤ 64 * count := by
    rw [← hbs]
    rw [length_flatMap_const AuditEntry.length_bytes, Nat.mul_comm]
    exact Nat.mul_le_mul_left 64 (List.length_take_le ..)
  split
  · next n hn =>
    have hbytes := u.hostWritesIn_toHost r addr bs
    rw [State.toHost, hn] at hbytes
    exact hbytes.mono fun _ _ ⟨ho, hl, hr⟩ => ⟨ho, hl, hr.trans_le (Nat.add_le_add_left hlen _)⟩
  · exact .refl

theorem hostWritesIn_settingsRead (r : CmdRef) (offset length addr : Nat) (u : State) :
    HostWritesIn (fun port b => addr ≠ 0 ∧ hostRun r addr length port b) u (cmdSettingsRead r offset length addr u).1 := by
  refine .refuseIf ?_
  extract_lets bs s1
  split
  · exact fun _ _ _ => rfl
  · next haddr =>
    have hbytes := s1.hostWritesIn_toHost r addr bs
    rw [u.length_flashSlice] at hbytes
    exact fun port b hb => hbytes port b fun hrun => hb ⟨haddr, hrun⟩

/-- The bytes that a command leaves in host memory are those its row's effect leaves. -/
theorem hostByte_of_exec {c : Instr} {r : CmdRef} {code p : Nat} {ps : Bytes} {f : State → CmdRes} {s t : State}
    {P : Nat → Nat → Prop} (he : exec c s = .next (runCmd r code ps p f s)) (h : ∀ u, HostWritesIn P u (f u).1)
    (ht : exec c s = .next t) {port b : Nat} (hb : ¬P port b) : t.hostByte port b = s.hostByte port b := by
  obtain rfl : runCmd r code ps p f s = t := Host.Outcome.next.inj (he.symm.trans ht)
  exact HostWritesIn.runCmd h port b hb

/-- Settles O42: each row's effect stores a run of bytes no longer than its window. -/
theorem hostMemoryWindows : Obligations.HostMemoryWindows :=
  ⟨fun r p kind anvil hearth first count addr _ _ _ _ ht hb => hostByte_of_exec rfl
      (hostWritesIn_stateRead r p kind anvil hearth first count addr) ht hb,
    fun r p anvil offset length addr _ _ _ _ ht hb => hostByte_of_exec rfl
      (hostWritesIn_captureDramRead r p anvil offset length addr) ht hb,
    fun r first count addr _ _ _ _ ht hb => hostByte_of_exec rfl (hostWritesIn_auditRead r first count addr) ht hb,
    fun r offset length addr _ _ _ _ ht hb => hostByte_of_exec rfl (hostWritesIn_settingsRead r offset length addr) ht
      fun ⟨h0, horg, hrun⟩ => hb ⟨horg, h0, hrun⟩⟩

end Sys2Proof.Machine
end

section
/-! PROOFS. Commands on one instance of a block, and events of one lane: the registers of the other instances. -/

set_option Elab.async false

namespace Sys2Proof.Machine

/-! ## Registers that an operation leaves, instance by instance -/

/-- From `s` to `t` no register changes but those instances that `q` admits. -/
structure RegsWithin (q : Fld → Nat → Nat → Bool) (s t : State) : Prop where
  reg : ∀ f i j, q f i j = false → t.reg f i j = s.reg f i j

section
variable {q : Fld → Nat → Nat → Bool} {s t u : State}

theorem RegsWithin.refl : RegsWithin q s s := ⟨fun _ _ _ _ => rfl⟩

theorem RegsWithin.trans (h : RegsWithin q s t) (h' : RegsWithin q t u) : RegsWithin q s u :=
  ⟨fun f i j e => (h'.reg f i j e).trans (h.reg f i j e)⟩

theorem RegsWithin.ite {c : Prop} [Decidable c] (ht : RegsWithin q s t) (hu : RegsWithin q s u) :
    RegsWithin q s (if c then t else u) := by
  split
  · exact ht
  · exact hu

/-- An operation whose span has none of the fields that `q` bars in some instance. -/
theorem RegsWithin.keep {fs : List Fld} (hq : ∀ f i j, q f i j = false → f ∈ fs) (h : RegsWithin q s t)
    (hk : Kept (.without fs []) t u) : RegsWithin q s u :=
  h.trans ⟨fun f i j e => hk.reg_without (hq f i j e) i j⟩

/-- A state whose registers are those of another. -/
theorem RegsWithin.same (h : RegsWithin q s t) (hr : ∀ f i j, u.reg f i j = t.reg f i j) : RegsWithin q s u :=
  h.trans ⟨fun f i j _ => hr f i j⟩

theorem RegsWithin.setReg {f : Fld} {i j : Nat} (h : RegsWithin q s t) (hq : q f i j = true) (v : Nat) :
    RegsWithin q s (t.setReg f i j v) := h.trans ⟨fun g i' j' e =>
  t.reg_setReg_other v (by
    by_contra hne
    obtain ⟨rfl, rfl, rfl⟩ : f = g ∧ i = i' ∧ j = j' := by tauto
    exact Bool.false_ne_true (e.symm.trans hq))⟩

theorem RegsWithin.setHost {f : Fld} {i j : Nat} (h : RegsWithin q s t) (hq : q f i j = true) (v : Nat) :
    RegsWithin q s (t.setHost f i j v) := h.trans ⟨fun g i' j' e => by
  rw [State.reg_setHost, if_neg]
  rintro ⟨rfl, rfl, rfl⟩
  exact Bool.false_ne_true (e.symm.trans hq)⟩

theorem RegsWithin.foldl {β : Type} {op : State → β → State} {l : List β} (hop : ∀ u x, x ∈ l → RegsWithin q s u → RegsWithin q s (op u x))
    (h : RegsWithin q s t) : RegsWithin q s (l.foldl op t) := by
  induction l generalizing t with
  | nil => exact h
  | cons x l ih => exact ih (fun u y hy => hop u y (List.mem_cons_of_mem _ hy)) (hop t x List.mem_cons_self h)

theorem RegsWithin.modLane (h : RegsWithin q s t) (l : Nat) (f : Lane → Lane) : RegsWithin q s (t.modLane l f) :=
  h.same fun _ _ _ => rfl

theorem RegsWithin.modLog (h : RegsWithin q s t) (b i : Nat) (f : LogLane → LogLane) : RegsWithin q s (t.modLog b i f) :=
  h.same fun _ _ _ => rfl

theorem RegsWithin.modBundle (h : RegsWithin q s t) (b : Nat) (f : Bundle → Bundle) : RegsWithin q s (t.modBundle b f) :=
  h.same fun _ _ _ => rfl

/-- A command whose next state is known has its registers confined there. -/
theorem RegsWithin.confined {c : Instr} (he : exec c s = .next t) (h : RegsWithin q s t) : Confined c s q := by
  intro u hu
  obtain rfl : t = u := Host.Outcome.next.inj (he.symm.trans hu)
  exact h.reg

end

/-! ## One lane (R347 to R350) -/

/-- The registers of the lanes. -/
def laneFlds : List Fld := (regTable.filter fun x => decide (x.blk = .wlLane)).map FieldInfo.fld

/-- Every register but those of other lanes. -/
def laneOrElse (l : Nat) (f : Fld) (i _ : Nat) : Bool := decide (f.info.blk ≠ .wlLane ∨ i = l)

theorem mem_laneFlds {l : Nat} (f : Fld) (i j : Nat) (h : laneOrElse l f i j = false) : f ∈ laneFlds := by
  refine List.mem_map.2 ⟨f.info, List.mem_filter.2 ⟨f.info_mem, ?_⟩, f.info_fld⟩
  by_contra hne
  simp [laneOrElse] at h hne
  exact hne h.1

section
variable {l : Nat} {s t : State}

theorem RegsWithin.keepLanes {u : State} (h : RegsWithin (laneOrElse l) s t) (hk : Kept (.without laneFlds []) t u) :
    RegsWithin (laneOrElse l) s u := h.keep mem_laneFlds hk

/-- A register of the lane itself is written. -/
theorem RegsWithin.laneReg (h : RegsWithin (laneOrElse l) s t) (f : Fld) (j v : Nat) : RegsWithin (laneOrElse l) s (t.setReg f l j v) :=
  h.setReg (decide_eq_true (.inr rfl)) v

theorem RegsWithin.laneTo (h : RegsWithin (laneOrElse l) s t) (st code : Nat) : RegsWithin (laneOrElse l) s (t.laneTo l st code) := by
  delta State.laneTo State.toLane
  extract_lets s0 s1
  have h0 : RegsWithin (laneOrElse l) s s0 := h.laneReg _ _ _
  have h1 : RegsWithin (laneOrElse l) s s1 := .ite (h0.keepLanes (kept_blockOut ⟨by decide +kernel, by decide +kernel⟩ .refl)) h0
  exact .foldl (fun _ _ _ hu => hu.keepLanes (kept_updateBundle ⟨by decide +kernel, by decide +kernel⟩ .refl))
    (.ite (h1.keepLanes (kept_mEvent ⟨by decide +kernel, by decide +kernel⟩ .refl)) h1)

theorem RegsWithin.laneDetect (h : RegsWithin (laneOrElse l) s t) : RegsWithin (laneOrElse l) s (t.laneDetect l) :=
  (h.modLane _ _).laneTo _ _

theorem RegsWithin.laneFault (h : RegsWithin (laneOrElse l) s t) (forced : Bool) : RegsWithin (laneOrElse l) s (t.laneFault l forced).1 := by
  delta State.laneFault
  extract_lets b i
  split
  · exact h
  split
  · exact h
  split
  · exact (h.modBundle _ _).keepLanes (kept_spareAsk ⟨by decide +kernel, by decide +kernel⟩ .refl)
  · delta State.laneFails
    extract_lets code s1
    have h1 : RegsWithin (laneOrElse l) s s1 := (h.laneTo _ _).keepLanes (kept_condition ⟨by decide +kernel, by decide +kernel⟩
      (kept_mError ⟨by decide +kernel, by decide +kernel⟩ .refl))
    exact (h1.modLog _ _ _).keepLanes (kept_moveFrames ⟨by decide +kernel, by decide +kernel⟩ .refl)

theorem RegsWithin.replay (h : RegsWithin (laneOrElse l) s t) (b i : Nat) : RegsWithin (laneOrElse l) s (t.replay b i l) := by
  delta State.replay
  extract_lets fs s1 s2
  have h1 : RegsWithin (laneOrElse l) s s1 :=
    .foldl (fun _ _ _ hu => hu.keepLanes (kept_frameSent ⟨by decide +kernel, by decide +kernel⟩ .refl)) h
  have h2 : RegsWithin (laneOrElse l) s s2 := ((h1.modLog _ _ _).laneReg _ _ _).keepLanes
    (kept_strEventOn ⟨by decide +kernel, by decide +kernel⟩ .refl)
  exact .ite h (.ite (((h2.laneReg _ _ _).keepLanes (kept_mError ⟨by decide +kernel, by decide +kernel⟩ .refl)).laneFault _) h2)

theorem RegsWithin.retrain (h : RegsWithin (laneOrElse l) s t) : RegsWithin (laneOrElse l) s (t.retrain l) := by
  delta State.retrain
  extract_lets lost s1
  have h1 : RegsWithin (laneOrElse l) s s1 := .ite (h.laneReg _ _ _) h
  exact (RegsWithin.laneDetect h1).modLane _ _

theorem RegsWithin.laneStep (h : RegsWithin (laneOrElse l) s t) (src dst : Nat) : RegsWithin (laneOrElse l) s (t.laneStep l src dst) :=
  .ite (h.laneTo _ _) h

theorem RegsWithin.trainTimeout (h : RegsWithin (laneOrElse l) s t) : RegsWithin (laneOrElse l) s (t.trainTimeout l) := by
  delta State.trainTimeout
  extract_lets st x s1 s2
  have h1 : RegsWithin (laneOrElse l) s s1 := ((h.modLane _ _).laneReg _ _ _).laneTo _ _
  have h2 : RegsWithin (laneOrElse l) s s2 := h1.keepLanes (kept_mError ⟨by decide +kernel, by decide +kernel⟩ .refl)
  exact .ite h (.ite ((h.modLane _ _).laneTo _ _) (.ite (h2.laneFault _) h2))

theorem RegsWithin.carryAgain (h : RegsWithin (laneOrElse l) s t) (b i : Nat) : RegsWithin (laneOrElse l) s (t.carryAgain b i l) :=
  ((h.modLog _ _ _).replay b i).keepLanes (kept_moveWaiting ⟨by decide +kernel, by decide +kernel⟩ .refl)

theorem RegsWithin.capComplete (h : RegsWithin (laneOrElse l) s t) (c : CapFields) : RegsWithin (laneOrElse l) s (t.capComplete l c) := by
  delta State.capComplete
  extract_lets s1 b i s2 s3
  have h1 : RegsWithin (laneOrElse l) s s1 := (h.laneReg .wlTrainPartner 0 c.lane).modLane _ _
  have hidle {u : State} (hu : RegsWithin (laneOrElse l) s u) :
      RegsWithin (laneOrElse l) s (((u.setReg .wlTrainLogical l 0 15).laneTo l LaneSt.active 0).idleOut l) :=
    ((hu.laneReg _ _ _).laneTo _ _).keepLanes (kept_idleOut ⟨by decide +kernel, by decide +kernel⟩ .refl)
  have h2 : RegsWithin (laneOrElse l) s s2 := .ite h1
    (((h1.modBundle _ _).setReg (decide_eq_true (.inl (by decide +kernel))) _).setReg
      (decide_eq_true (.inl (by decide +kernel))) _)
  have h3 : RegsWithin (laneOrElse l) s s3 :=
    ((h2.laneReg .wlTrainLogical 0 i).modLog _ _ _).laneTo _ _
  exact .ite (.ite ((h1.laneTo _ _).carryAgain _ _) (hidle h1)) (.ite (hidle h2) (h3.carryAgain _ _))

theorem RegsWithin.capBlock (h : RegsWithin (laneOrElse l) s t) (c : CapFields) : RegsWithin (laneOrElse l) s (t.capBlock l c) := by
  delta State.capBlock
  extract_lets x same run seen sent s1
  have h1 : RegsWithin (laneOrElse l) s s1 := RegsWithin.keepLanes (h.modLane _ _)
    (kept_capOut ⟨by decide +kernel, by decide +kernel⟩ .refl)
  exact .ite h (.ite (((h.laneReg _ _ _).laneTo _ _).keepLanes (kept_mError ⟨by decide +kernel, by decide +kernel⟩ .refl))
    (.ite (h1.capComplete c) h1))

theorem RegsWithin.wrLaneEnable (h : RegsWithin (laneOrElse l) s t) (o : Origin) (on : Bool) :
    RegsWithin (laneOrElse l) s (t.wrLaneEnable o l on) := by
  delta State.wrLaneEnable
  extract_lets s1
  have h1 : RegsWithin (laneOrElse l) s s1 := (h.setHost (decide_eq_true (.inr rfl)) _).keepLanes
    (kept_auditDiff ⟨by decide +kernel, by decide +kernel⟩ .refl)
  exact .ite h (.ite (h.keepLanes (kept_wlDenied ⟨by decide +kernel, by decide +kernel⟩ .refl))
    (.ite (.ite (RegsWithin.laneDetect h1) h1) (h1.laneTo _ _)))

theorem RegsWithin.wrRetrain (h : RegsWithin (laneOrElse l) s t) (o : Origin) : RegsWithin (laneOrElse l) s (t.wrRetrain o l) :=
  .ite h (.ite (h.keepLanes (kept_wlDenied ⟨by decide +kernel, by decide +kernel⟩ .refl)) (.ite h h.retrain))

theorem RegsWithin.prbsCount (h : RegsWithin (laneOrElse l) s t) (n : Nat) : RegsWithin (laneOrElse l) s (t.prbsCount l n) := by
  delta State.prbsCount State.prbsAdvance
  extract_lets a b errs bs
  have hb : RegsWithin (laneOrElse l) s b.2 := h.same fun _ _ _ => rfl
  exact (((hb.laneReg _ _ _).laneReg _ _ _).laneReg _ _ _).laneReg _ _ _

end

/-- Settles O40: each row's effect writes registers of its own lane, and of no lane. -/
theorem oneLaneOnly : Obligations.OneLaneOnly := by
  intro c l s hc
  have h : RegsWithin (laneOrElse l) s s := .refl
  rcases hc with ⟨o, rfl⟩ | ⟨o, rfl⟩ | ⟨o, rfl⟩ | rfl | rfl | rfl | ⟨x, rfl⟩ | rfl | rfl | ⟨x, rfl⟩ | rfl | rfl | ⟨x, rfl⟩ | rfl | rfl
  · exact (h.wrLaneEnable o true).confined rfl
  · exact (h.wrLaneEnable o false).confined rfl
  · exact (h.wrRetrain o).confined rfl
  · exact (h.laneStep _ _).confined rfl
  · exact (h.laneStep _ _).confined rfl
  · exact (h.laneStep _ _).confined rfl
  · refine RegsWithin.confined rfl (.ite ?_ h)
    exact (((h.laneReg .wlTrainPolarity 0 (b2n x)).modLane _ _).laneTo _ _).keepLanes
      (kept_capOut ⟨by decide +kernel, by decide +kernel⟩ .refl)
  · exact h.trainTimeout.confined rfl
  · exact RegsWithin.confined rfl (.ite (((h.laneReg .wlLaneErrLockLoss 0 _).modLane _ _).laneTo _ _) h)
  · exact (h.capBlock x).confined rfl
  · exact RegsWithin.confined rfl (.ite (h.replay _ _) h)
  · exact RegsWithin.confined rfl (.ite ((h.modLane _ _).laneFault _) h)
  · exact RegsWithin.confined rfl (.ite (h.laneReg _ _ _) h)
  · exact RegsWithin.confined rfl (.ite (h.laneReg _ _ _) h)
  · exact RegsWithin.confined rfl (.ite (h.prbsCount _) h)

/-! ## One instance of a block -/

section
variable {q : Fld → Nat → Nat → Bool} {s t u : State}

/-- An operation whose span bars every field that `q` bars in some instance. -/
theorem RegsWithin.within {W : Span} (h : RegsWithin q s t) (hk : Kept W t u) (hW : ∀ f i j, q f i j = false → W.fld f = false) :
    RegsWithin q s u := h.trans ⟨fun f i j e => hk.reg (hW f i j e) i j⟩

/-- An operation that writes no register. -/
theorem RegsWithin.noReg {ps : Nat} (h : RegsWithin q s t) (hk : Kept ⟨0, ps⟩ t u) : RegsWithin q s u :=
  h.within hk fun f _ _ _ => Nat.zero_testBit f.ctorIdx

theorem RegsWithin.setReg64 {lo hi : Fld} {i j : Nat} (h : RegsWithin q s t) (hlo : q lo i j = true) (hhi : q hi i j = true) (v : Nat) :
    RegsWithin q s (t.setReg64 lo hi i j v) := (h.setReg hlo _).setReg hhi _

theorem RegsWithin.setSetting {f : Fld} {i j : Nat} (h : RegsWithin q s t) (hq : q f i j = true) (v : Nat) :
    RegsWithin q s (t.setSetting f i j v) := (h.setReg hq v).same fun _ _ _ => rfl

theorem RegsWithin.saveImage (h : RegsWithin q s t) (hs : q .modBootSettingsSrc 0 0 = true) (hg : q .modBootGeneration 0 0 = true) :
    RegsWithin q s t.saveImage := by
  delta State.saveImage
  extract_lets k gen
  exact ((h.same (u := { t with sys := { t.sys with copies := Tab.put [] t.sys.copies [k] (t.buildImage gen) } })
    fun _ _ _ => rfl).setReg hs _).setReg hg _

theorem RegsWithin.refuseIf {cs : List (Bool × Status)} {k : State → CmdRes} (h : RegsWithin q s (k s).1) :
    RegsWithin q s (refuseIf cs s k).1 := by
  rw [Machine.refuseIf]
  split
  · exact .refl
  · exact h

/-- A command writes the registers that its effect writes. -/
theorem RegsWithin.runCmd {r : CmdRef} {code p : Nat} {ps : Bytes} {f : State → CmdRes} (h : ∀ u, RegsWithin q u (f u).1) :
    RegsWithin q s (runCmd r code ps p f s) := by
  delta Machine.runCmd
  refine .ite .refl ?_
  extract_lets s1 x
  have h1 : RegsWithin q s s1 := ⟨fun f i j _ => s.reg_begin ..⟩
  have hx : RegsWithin q s x.1 := by
    simp only [x]
    split
    · exact h1
    · exact h1.trans (h s1)
  split
  · exact hx
  · exact hx.same fun f i j => x.1.reg_answer ..

/-! ### Launchers (R361, R367, R368) -/

/-- Every register but those of other launchers and references. -/
def launcherOrElse (k : Nat) (f : Fld) (_ j : Nat) : Bool := decide (f.info.blk ≠ .time ∨ j = k)

/-- The registers of the time base. -/
def timeFlds : List Fld := (regTable.filter fun x => decide (x.blk = .time)).map FieldInfo.fld

theorem mem_timeFlds {k : Nat} (f : Fld) (i j : Nat) (h : launcherOrElse k f i j = false) : f ∈ timeFlds := by
  refine List.mem_map.2 ⟨f.info, List.mem_filter.2 ⟨f.info_mem, ?_⟩, f.info_fld⟩
  by_contra hne
  simp [launcherOrElse] at h hne
  exact hne h.1

theorem RegsWithin.launchReg {k : Nat} (h : RegsWithin (launcherOrElse k) s t) (f : Fld) (v : Nat) :
    RegsWithin (launcherOrElse k) s (t.setReg f 0 k v) := h.setReg (decide_eq_true (.inr rfl)) v

theorem RegsWithin.launchAct {k : Nat} (h : RegsWithin (launcherOrElse k) s t) : RegsWithin (launcherOrElse k) s (t.launchAct k) := by
  delta State.launchAct
  extract_lets kind sel n
  have hlast {u : State} (hu : RegsWithin (launcherOrElse k) s u) (v : Nat) :
      RegsWithin (launcherOrElse k) s (u.setReg64 .timeLaunchLastLo .timeLaunchLastHi 0 k v) := (hu.launchReg _ _).launchReg _ _
  refine .ite (hlast (h.noReg (kept_trigPulse ⟨rfl, Nat.or_self _⟩ .refl)) _) (.ite (.ite (h.launchReg _ _) (hlast ?_ _)) h)
  exact (h.setReg (decide_eq_true (.inl (by decide +kernel))) _).noReg (kept_rescan ⟨rfl, Nat.or_self _⟩ .refl)

theorem RegsWithin.launchEnd {k : Nat} (h : RegsWithin (launcherOrElse k) s t) : RegsWithin (launcherOrElse k) s (t.launchEnd k) := by
  delta State.launchEnd
  extract_lets n
  exact .ite ((h.launchReg _ _).keep mem_timeFlds (kept_mEvent ⟨by decide +kernel, by decide +kernel⟩ .refl)) h

theorem RegsWithin.launchLate {k : Nat} (h : RegsWithin (launcherOrElse k) s t) : RegsWithin (launcherOrElse k) s (t.launchLate k) :=
  .ite (((h.launchAct.launchReg _ _).launchReg _ _).launchEnd) h

theorem RegsWithin.launchArm {k : Nat} (h : RegsWithin (launcherOrElse k) s t) (o : Origin) :
    RegsWithin (launcherOrElse k) s (t.launchArm o k) :=
  .ite (h.noReg (kept_auditRefuse ⟨rfl, Nat.or_self _⟩ .refl)) (.ite (h.launchReg _ _) (((h.launchReg _ _).launchReg _ _).launchLate))

/-! ### Streams (R340, R342, R353) -/

theorem RegsWithin.modStream (h : RegsWithin q s t) (k : Nat) (f : Stream → Stream) : RegsWithin q s (t.modStream k f) :=
  h.same fun _ _ _ => rfl

theorem RegsWithin.stallUpdate {k : Nat} (h : RegsWithin q s t) (hq : q .wlStreamStallNs k 0 = true) :
    RegsWithin q s (t.stallUpdate k) := by
  delta State.stallUpdate
  extract_lets x wait
  split
  · exact .ite (h.modStream _ _) h
  · exact .ite h ((RegsWithin.ite (h.setReg hq _) h).modStream _ _)

theorem RegsWithin.frameOut {k : Nat} (h : RegsWithin q s t) (hseq : q .wlStreamOutSseq k 0 = true) (hstall : q .wlStreamStallNs k 0 = true) :
    RegsWithin q s (t.frameOut k) := by
  delta State.frameOut
  extract_lets x
  refine .ite h ?_
  split
  · extract_lets header s1 s2
    have h1 : RegsWithin q s s1 := h.noReg (kept_sendOn ⟨rfl, Nat.or_self _⟩ .refl)
    exact ((h1.setReg hseq _).modStream _ _).stallUpdate hstall
  · exact h

theorem RegsWithin.unbind {k : Nat} (h : RegsWithin q s t) (hq : ∀ f, q f k 0 = true) : RegsWithin q s (t.unbind k) := by
  delta State.unbind
  extract_lets p s1
  have h1 : RegsWithin q s s1 :=
    .foldl (fun _ _ _ hu => .ite (hu.noReg (kept_fifoFrom ⟨rfl, Nat.or_self _⟩ .refl)) hu) h
  exact (RegsWithin.foldl (fun _ f _ hu => hu.setReg (hq f) _) h1).modStream _ _

/-! ### Queues (R311, R322) -/

theorem RegsWithin.rescan (h : RegsWithin q s t) (n : Nat) : RegsWithin q s (t.rescan n) :=
  h.noReg (kept_rescan ⟨rfl, Nat.or_self _⟩ .refl)

theorem RegsWithin.queueDown {n : Nat} (h : RegsWithin q s t) (hq : ∀ f, q f n 0 = true) : RegsWithin q s (t.queueDown n) :=
  (((h.setReg (hq _) _).setReg (hq _) _).noReg (kept_modQueue ⟨rfl, Nat.or_self _⟩ .refl)).rescan n

theorem RegsWithin.modQueue (h : RegsWithin q s t) (n : Nat) (f : Queue → Queue) : RegsWithin q s (t.modQueue n f) :=
  h.same fun _ _ _ => rfl

theorem RegsWithin.setupQueue {n : Nat} (h : RegsWithin q s t) (hq : ∀ f, q f n 0 = true)
    (type sizeLog2 entryLog2 base wb pair : Nat) : RegsWithin q s (t.setupQueue n type sizeLog2 entryLog2 base wb pair) := by
  delta State.setupQueue
  extract_lets s1 s2 clear s3
  have h1 : RegsWithin q s s1 := ((h.setReg (hq _) _).setReg (hq _) _).setReg (hq _) _
  have h2 : RegsWithin q s s2 := ((h1.setReg64 (hq _) (hq _) _).setReg64 (hq _) (hq _) _).setReg (hq _) _
  have h3 : RegsWithin q s s3 := .foldl (fun _ f _ hu => hu.setReg (hq f) _) h2
  exact (h3.modQueue n _).rescan n

/-! ### Pins and their banks (R372 to R381) -/

theorem RegsWithin.auditRefuse (h : RegsWithin q s t) (o : Origin) (st : Status) (p : Nat) (f : Fld) (i j v : Nat) :
    RegsWithin q s (t.auditRefuse o st p f i j v) := h.noReg (kept_auditRefuse ⟨rfl, Nat.or_self _⟩ .refl)

theorem RegsWithin.auditDiff (h : RegsWithin q s u) (o : Origin) (p : Nat) (f : Fld) (i j : Nat) :
    RegsWithin q s (State.auditDiff o p f i j t u) := h.noReg (kept_auditDiff ⟨rfl, Nat.or_self _⟩ .refl)

theorem RegsWithin.wrPinFunc {n : Nat} (h : RegsWithin q s t) (hf : q .spPinFunc 0 n = true) (hs : q .spPinShort 0 n = true) (o : Origin)
    (func : Nat) : RegsWithin q s (t.wrPinFunc o n func) :=
  .ite (h.auditRefuse ..) (.ite (h.auditRefuse ..)
    ((((h.noReg (kept_keepPad ⟨rfl, Nat.or_self _⟩ .refl)).setSetting hf _).setReg hs _).auditDiff ..))

theorem RegsWithin.setPins {p : Pins} (h : RegsWithin q s t) : RegsWithin q s { t with pins := p } := h.same fun _ _ _ => rfl

theorem RegsWithin.wrPinOwner {n : Nat} (h : RegsWithin q s t) (ho : q .spPinOwner 0 n = true) (hf : q .spPinFunc 0 n = true) (o : Origin)
    (owner : Nat) : RegsWithin q s (t.wrPinOwner o n owner) := by
  delta State.wrPinOwner
  extract_lets s1 pins s2
  have h1 : RegsWithin q s s1 := ((h.noReg (kept_keepPad ⟨rfl, Nat.or_self _⟩ .refl)).setSetting ho _).setSetting hf _
  have h2 : RegsWithin q s s2 := h1.setPins
  exact .ite (h.auditRefuse ..) (.ite h (.ite (h.auditRefuse ..) (h2.auditDiff ..)))

theorem RegsWithin.wrBankVsel {b : Nat} (h : RegsWithin q s t) (hv : q .spBankVsel 0 b = true) (hr : q .spBankRamping 0 b = true)
    (o : Origin) (vsel : Nat) : RegsWithin q s (t.wrBankVsel o b vsel) :=
  .ite (h.auditRefuse ..) (.ite h (.ite (h.auditRefuse ..) (.ite h (((h.setSetting hv _).setReg hr _).auditDiff ..))))

theorem RegsWithin.wrRate {k : Nat} (h : RegsWithin q s t) (hf : q .timeRefRateFrac 0 k = true) (hn : q .timeRefRateNs 0 k = true)
    (o : Origin) (v : Nat) : RegsWithin q s (t.wrRate o k v) := by
  delta State.wrRate
  extract_lets s1
  have h1 : RegsWithin q s s1 := h.noReg (kept_setRate ⟨rfl, Nat.or_self _⟩ .refl)
  have h2 : RegsWithin q s (s1.setReg64 .timeRefRateFrac .timeRefRateNs 0 k (s1.rate k)) := h1.setReg64 hf hn _
  exact .ite (h.auditRefuse ..) (h2.auditDiff ..)

/-! ### Mailboxes (R306) -/

theorem RegsWithin.mboxGo {n m : Nat} (h : RegsWithin q s t) (hst : q .mboxStateState (mbInst n m) 0 = true)
    (hp : q .mboxStateProto (mbInst n m) 0 = true) (rc : Bytes) :
    RegsWithin q s ((t.mboxRequest n m fun _ => rc).mboxGo n m) := by
  have h1 : RegsWithin q s (t.mboxRequest n m fun _ => rc) := .ite (h.same fun _ _ _ => rfl) (h.setReg hp _)
  delta State.mboxGo
  extract_lets x
  exact .ite ((h1.setReg hst 1).same fun _ _ _ => rfl) (h1.setReg hp _)

end

/-- Settles O39: each row's effect writes registers of its own instance. -/
theorem oneInstanceOnly : Obligations.OneInstanceOnly := by
  refine ⟨fun p j s => ?_, fun o k s => ?_, fun o k s => ?_, fun o k r s => ?_, fun o n func s => ?_, fun o n owner s => ?_,
    fun n s => ?_, fun o n s => ?_, fun o b vsel s => ?_, fun b s => ?_, fun n byte bad s => ?_, fun r n part port s => ?_,
    fun r n type sl el base wb pair s => ?_, fun r ident s => ?_, fun r port grant bad s => ?_, fun n width speed s => ?_,
    fun n m record s => ?_, fun b k gen limit s => ?_, fun k s => ?_, fun k s => ?_, fun r k s => ?_⟩
  · exact RegsWithin.confined rfl (.ite (RegsWithin.refl.setReg (by simp) _) .refl)
  · exact RegsWithin.confined rfl (.ite .refl (.ite (RegsWithin.refl.setReg (by simp) _) (RegsWithin.refl.auditRefuse ..)))
  · exact RegsWithin.confined rfl (.ite .refl (RegsWithin.launchArm .refl o))
  · exact RegsWithin.confined rfl (.ite .refl (RegsWithin.refl.wrRate (by simp) (by simp) o r))
  · exact RegsWithin.confined rfl (.ite .refl (RegsWithin.refl.wrPinFunc (by simp) (by simp) o func))
  · exact RegsWithin.confined rfl (.ite .refl (RegsWithin.refl.wrPinOwner (by simp) (by simp) o owner))
  · have hshort : RegsWithin (fun f _ j => eventFlds.contains f || decide (f = .spPinShort ∧ j = n)) s (s.setReg .spPinShort 0 n 1) :=
      RegsWithin.refl.setReg (by simp) _
    refine RegsWithin.confined rfl (.ite (hshort.within (W := ⟨fldBits eventFlds, pieceBits [.queues]⟩)
      (kept_mError ⟨by decide +kernel, by decide +kernel⟩ .refl) fun f i j e => ?_) .refl)
    exact fldBits_among (Bool.or_eq_false_iff.1 e).1
  · exact RegsWithin.confined rfl (.ite .refl (.ite (RegsWithin.refl.setReg (by simp) _) (RegsWithin.refl.auditRefuse ..)))
  · exact RegsWithin.confined rfl (.ite .refl (RegsWithin.refl.wrBankVsel (by simp) (by simp) o vsel))
  · exact RegsWithin.confined rfl (.ite ((RegsWithin.refl.noReg (kept_keepPads ⟨rfl, Nat.or_self _⟩ .refl)).setReg (by simp) _) .refl)
  · exact RegsWithin.confined rfl (.ite .refl (.ite .refl (.ite (RegsWithin.refl.setReg (by simp) _) ⟨fun _ _ _ _ => rfl⟩)))
  · refine RegsWithin.confined rfl (.runCmd fun u => .refuseIf ?_)
    have hdown : RegsWithin (fun _ i _ => decide (i = n)) u (u.queueDown n) := RegsWithin.refl.queueDown fun _ => decide_eq_true rfl
    exact (hdown.setReg (decide_eq_true rfl) _).setReg (decide_eq_true rfl) _
  · refine RegsWithin.confined rfl (.runCmd fun u => .refuseIf ?_)
    have hset : RegsWithin (fun _ i _ => decide (i = n)) u (u.setupQueue n type sl el base wb pair) :=
      RegsWithin.refl.setupQueue (fun _ => decide_eq_true rfl) ..
    simp only [State.oks]
    exact hset
  · refine RegsWithin.confined rfl (.runCmd fun u => ?_)
    rw [cmdHostIdentify]
    split
    · next n hn => exact .foldl (fun _ _ _ hu => hu.setReg (by simp [hn]) _) .refl
    · exact .refl
  · refine RegsWithin.confined rfl (.runCmd fun u => .refuseIf ?_)
    split
    · exact ⟨fun _ _ _ _ => rfl⟩
    · exact (RegsWithin.refl.setSetting (by simp) _).saveImage (by simp) (by simp)
  · exact RegsWithin.confined rfl (.ite .refl ((((RegsWithin.refl.setReg (by simp) _).setReg (by simp) _).setReg (by simp) _).same
      fun _ _ _ => rfl))
  · exact RegsWithin.confined rfl (.ite (RegsWithin.refl.mboxGo (by simp) (by simp) record) .refl)
  · exact RegsWithin.confined rfl (.ite ((RegsWithin.refl.setReg (by simp) _).stallUpdate (by simp)) .refl)
  · exact (RegsWithin.refl.frameOut (by simp) (by simp)).confined rfl
  · exact RegsWithin.confined rfl (.ite ((RegsWithin.refl.setReg (by simp) _).noReg (kept_blockAll ⟨rfl, Nat.or_self _⟩ .refl)) .refl)
  · refine RegsWithin.confined rfl (.runCmd fun u => .refuseIf ?_)
    split
    · exact .refl
    split
    · exact .refl
    · exact RegsWithin.refl.unbind fun _ => decide_eq_true rfl

end Sys2Proof.Machine
end

section
/-! PROOFS. The time base: its commands and its events (R357 to R369). -/

set_option Elab.async false

namespace Sys2Proof.Machine

/-! ## Commands of the time base (R359, R361, R366, R367, R369) -/

section
variable {s : State} {o : Origin} {k : Nat}

/-- A launcher that is armed with its first due time ahead waits for it. -/
theorem State.launchLate_armed (hk : s.clock ≤ s.launchT k) :
    ((s.setReg .timeLaunchArmed 0 k 1).setReg .timeLaunchDone 0 k 0).launchLate k =
      (s.setReg .timeLaunchArmed 0 k 1).setReg .timeLaunchDone 0 k 0 := by
  have hT : ((s.setReg .timeLaunchArmed 0 k 1).setReg .timeLaunchDone 0 k 0).launchT k = s.launchT k := by
    simp [State.launchT, State.reg64]
  have hclock : ((s.setReg .timeLaunchArmed 0 k 1).setReg .timeLaunchDone 0 k 0).clock = s.clock := by
    rw [State.clock, State.clock, State.ctrNs, State.ctrNs, State.ctr_setReg, State.ctr_setReg]
  rw [State.launchLate, if_neg]
  rw [State.launchDue, State.reg_setReg_self, hT, hclock, Nat.zero_mod, Nat.zero_mul]
  omega

/-- A write of 1 to ARM by an origin that may. -/
theorem State.launchArm_permitted (ho : s.isOwnerOrLocal o = true) (k : Nat) :
    s.launchArm o k =
      if s.reg .timeLaunchKind 0 k = 3 ∨
          (0 < s.reg .timeLaunchPeriod 0 k ∧ s.reg .timeLaunchPeriod 0 k < max 100 (5 * (s.reg .timeLaunchWidthM1 0 k + 3))) ∨
          (s.reg .timeLaunchKind 0 k = 2 ∧ s.reg .queueCfgType (s.reg .timeLaunchQueue 0 k) 0 = 0) then
        s.setReg .timeLaunchSetupErr 0 k 1
      else ((s.setReg .timeLaunchArmed 0 k 1).setReg .timeLaunchDone 0 k 0).launchLate k := by
  delta State.launchArm
  extract_lets kind p
  rw [if_neg (by simp [ho])]

/-- The value of a reference counter that has moved. -/
theorem State.refVal_shiftRef_self (s : State) (k : Nat) (d : Int) : (s.shiftRef k d).refVal k = s.refVal k + d := by
  simp only [State.refVal, State.shiftRef, State.rate, Tab.get_put_self]
  omega

theorem State.refVal_shiftRef_other {j : Nat} (h : k ≠ j) (d : Int) : (s.shiftRef j d).refVal k = s.refVal k := by
  simp only [State.refVal, State.shiftRef, State.rate]
  rw [Tab.get_put_other (by simpa using h.symm)]

/-- A reference counter whose rate is set keeps its value. -/
theorem State.refVal_setRate (s : State) (k v : Nat) : (s.setRate k v).refVal k = s.refVal k := by
  simp only [State.refVal, State.setRate, State.rate, Tab.get_put_self, Int.sub_self, Int.mul_zero, Int.add_zero]

theorem State.rate_setRate (s : State) (k v : Nat) : (s.setRate k v).rate k = clampIncr Config.rateSlack v := by
  simp only [State.setRate, State.rate, Tab.get_put_self]

/-- What depends on the time base alone: reference counters and anvil counters. -/
theorem State.refVal_of_time {s t : State} (h : t.time = s.time) (k : Nat) : t.refVal k = s.refVal k := by
  rw [State.refVal, State.refVal, State.rate, State.rate, h]

theorem State.rate_of_time {s t : State} (h : t.time = s.time) (k : Nat) : t.rate k = s.rate k := by
  rw [State.rate, State.rate, h]

theorem State.time_auditDiff (o : Origin) (p : Nat) (f : Fld) (i j : Nat) (s t : State) : (State.auditDiff o p f i j s t).time = t.time :=
  (kept_auditDiff (W := ⟨0, pieceBits [.log]⟩) ⟨rfl, by decide⟩ .refl).rest .time (by decide +kernel)

/-- After a step, references other than the moved ones are those before, and the counters have stepped. -/
theorem State.time_stepCounters (s : State) (d : Int) :
    ∃ n, (s.stepCounters d).time = { (s.addCounters d).time with ppsOutAt := n } := by
  obtain ⟨n, hn⟩ := s.stepCounters_eq d
  exact ⟨n, by rw [hn, State.time_stepActs]⟩

theorem State.refVal_stepCounters (s : State) (d : Int) (k : Nat) : (s.stepCounters d).refVal k = s.refVal k := by
  obtain ⟨n, hn⟩ := s.time_stepCounters d
  rw [State.refVal, State.rate, hn]
  rfl

theorem State.run_stepCounters (s : State) (d : Int) : (s.stepCounters d).time.run = s.time.run := by
  obtain ⟨n, hn⟩ := s.time_stepCounters d
  rw [hn]
  rfl

theorem State.busy_stepCounters (s : State) (d : Int) : (s.stepCounters d).host.busy = s.host.busy :=
  ((kept_stepCounters ⟨by decide +kernel, by decide +kernel⟩ .refl : Kept (.without [] [.commands]) s (s.stepCounters d)).part_without
    (List.mem_singleton_self _)).2.1

/-- TIME_STEP: REF0 is put at the new value, and a forward step moves REF1 as far (R369). -/
def State.steppedRefs (s : State) (d : Int) : State :=
  if 0 < d then (s.shiftRef 0 ((s.ctr 0 : Int) + d - s.refVal 0)).shiftRef 1 d
  else s.shiftRef 0 ((s.ctr 0 : Int) + d - s.refVal 0)

theorem State.refVal_steppedRefs (s : State) (d : Int) : (s.steppedRefs d).refVal 0 = (s.ctr 0 : Int) + d := by
  rw [State.steppedRefs]
  split
  · rw [State.refVal_shiftRef_other (by decide), State.refVal_shiftRef_self]
    omega
  · rw [State.refVal_shiftRef_self]
    omega

theorem State.steppedRefs_same (s : State) (d : Int) : (s.steppedRefs d).time.run = s.time.run ∧ (s.steppedRefs d).grade = s.grade ∧
    (s.steppedRefs d).host = s.host ∧ ∀ a, (s.steppedRefs d).ctr a = s.ctr a := by
  rw [State.steppedRefs]
  split <;> exact ⟨rfl, rfl, rfl, fun _ => rfl⟩

/-- The amount of a TIME_STEP, in units of 2^-32 ns. -/
def State.stepBy (s : State) (mode value : Nat) : Int :=
  if mode = 0 then signed 64 value * 2 ^ 32 else (value : Int) * 2 ^ 32 - (s.ctr 0 : Int)

theorem cmdTimeStep_permitted {r : CmdRef} {mode value : Nat} (ho : s.isOwnerOrLocal r.org = true) (hm : mode < 2)
    (hsrc : s.reg .timeCfgPhaseSrc 0 0 = 0) (htr : s.tracing = false) (hd : 0 ≤ s.stepBy mode value ∨ s.partitions = []) :
    cmdTimeStep r mode value s = ((s.steppedRefs (s.stepBy mode value)).stepCounters (s.stepBy mode value)).oks := by
  delta cmdTimeStep
  extract_lets d
  rw [refuseIf_ok]
  · rfl
  · intro c hc
    simp only [List.mem_cons, List.not_mem_nil, or_false] at hc
    rcases hc with rfl | rfl | rfl | rfl | rfl
    · simp [State.ownerOrLocal, ho]
    · exact decide_eq_false (by omega)
    · exact decide_eq_false (by simp [hsrc])
    · exact htr
    · refine decide_eq_false fun h => ?_
      rcases hd with hd | hd
      · exact absurd h.1 (Int.not_lt.2 hd)
      · exact h.2 hd

/-- TIME_STEP by an origin that may, while nothing stands against it: REF0 takes the new value, every counter steps. -/
theorem cmdTimeStep_effect {r : CmdRef} {mode value : Nat} (ho : s.isOwnerOrLocal r.org = true) (hm : mode < 2)
    (hsrc : s.reg .timeCfgPhaseSrc 0 0 = 0) (htr : s.tracing = false) (hd : 0 ≤ s.stepBy mode value ∨ s.partitions = []) :
    ∃ t : State, cmdTimeStep r mode value s = t.oks ∧ t.host.busy = s.host.busy ∧ t.refVal 0 = (s.ctr 0 : Int) + s.stepBy mode value ∧
      t.time.run = s.time.run ∧ ∀ a, a < s.grade.anvils → t.ctr a = unsigned 96 ((s.ctr a : Int) + s.stepBy mode value) := by
  obtain ⟨hrun, hgrade, hhost, hctr⟩ := s.steppedRefs_same (s.stepBy mode value)
  refine ⟨_, cmdTimeStep_permitted ho hm hsrc htr hd, ?_, ?_, ?_, fun a ha => ?_⟩
  · rw [State.busy_stepCounters, hhost]
  · rw [State.refVal_stepCounters, State.refVal_steppedRefs]
  · rw [State.run_stepCounters, hrun]
  · rw [State.ctr_stepCounters, State.ctr_addCounters _ (hgrade ▸ ha), hctr a]

/-- A register does not read the time base. -/
theorem State.reg_setTime (s : State) (x : TimeBase) (f : Fld) (i j : Nat) : ({ s with time := x } : State).reg f i j = s.reg f i j := rfl

theorem State.ctr_of_time {s t : State} (h : t.time = s.time) (a : Nat) : t.ctr a = s.ctr a := by
  rw [State.ctr, State.ctr, h]

/-- A write of INCR_NS by an origin that may, while the counters do not follow the servo. -/
theorem State.wrIncr_permitted (ho : s.isOwnerOrLocal o = true) (hfol : s.flag .timeCfgFollow 0 0 = false) (v : Nat) :
    s.wrIncr o v = State.auditDiff o 0xFFFF .timeIncrIncrNs 0 0 s { s.setReg .timeIncrIncrNs 0 0 v with
      time := { s.time with incr := v * 2 ^ 32 + (s.setReg .timeIncrIncrNs 0 0 v).reg .timeIncrFrac 0 0 } } := by
  rw [State.wrIncr, if_neg (by simp [ho]), if_neg (by simp [hfol])]
  rfl

/-- A write of 1 to CAP.ARM by an origin that may. -/
theorem State.capArm_permitted (ho : s.isOwnerOrLocal o = true) (src : Nat) :
    s.capArm o src = State.auditDiff o 0xFFFF .timeCapArm 0 0 s { (s.setReg .timeCapValid 0 0 0).setReg .timeCapSrc 0 0 src with
      time := { s.time with capArmed := some src } } := by
  rw [State.capArm, if_neg (by simp [ho])]
  rfl

end

/-- Settles O9: each row's effect, its write audited without a trace in the time base. -/
theorem timeCommandsComplete : Obligations.TimeCommandsComplete := by
  refine ⟨fun o k s hoff ho => ?_, fun o k s hoff ho => ?_, fun r mode value s hf ho hm hsrc htr hd => ?_, fun o v s hoff ho hfol => ?_,
    fun o k v s hoff ho => ?_, fun o k v s hoff ho => ?_, fun o src s hoff ho => ?_⟩
  · refine ⟨s.launchArm o k, congrArg Host.Outcome.next (if_neg (by simp [hoff])), ?_⟩
    rw [State.launchArm_permitted ho]
    split
    · exact State.flag_setReg_one ..
    · intro hk
      rw [State.launchLate_armed hk]
      have harmed := s.flag_setReg_one .timeLaunchArmed 0 k
      rw [State.flag] at harmed ⊢
      exact ⟨by simpa using harmed, by simp⟩
  · refine ⟨s.launchDisarm o k, congrArg Host.Outcome.next (if_neg (by simp [hoff])), ?_⟩
    rw [State.launchDisarm, if_pos ho]
    exact s.flag_setReg_zero ..
  · refine completes_of_oks hf rfl fun h => ?_
    obtain ⟨t, ht, hbusy, href, hrun, hctr⟩ := cmdTimeStep_effect (s := { s with host := h }) (r := r) ho hm hsrc htr hd
    have htime : (t.done r .ok).time = t.time := State.time_answer ..
    exact ⟨t, ht, hbusy, (State.refVal_of_time htime 0).trans href, (congrArg TimeBase.run htime).trans hrun,
      fun a ha => (State.ctr_of_time htime a).trans (hctr a ha)⟩
  · refine ⟨s.wrIncr o v, congrArg Host.Outcome.next (if_neg (by simp [hoff])), ?_⟩
    rw [State.wrIncr_permitted ho hfol]
    refine ⟨(congrArg TimeBase.incr (State.time_auditDiff ..)).trans ?_, (State.reg_auditDiff ..).trans (s.reg_setReg_self ..)⟩
    exact congrArg (v * 2 ^ 32 + ·) (by simp)
  · refine ⟨s.wrRate o k v, congrArg Host.Outcome.next (if_neg (by simp [hoff])), ?_⟩
    have htime : (s.wrRate o k v).time = (s.setRate k (v * 2 ^ 32 + s.reg .timeRefRateFrac 0 k)).time := by
      rw [State.wrRate, if_neg (by simp [ho]), State.time_auditDiff]
      rfl
    exact ⟨(State.rate_of_time htime k).trans (s.rate_setRate ..), (State.refVal_of_time htime k).trans (s.refVal_setRate ..)⟩
  · refine ⟨s.wrAdj o k v, congrArg Host.Outcome.next (if_neg (by simp [hoff])), ?_⟩
    rw [State.wrAdj, if_neg (show ¬(!s.mayRef o k) = true by simp [ho])]
    split
    · rfl
    · exact s.refVal_shiftRef_self ..
  · refine ⟨s.capArm o src, congrArg Host.Outcome.next (if_neg (by simp [hoff])), ?_⟩
    rw [State.capArm_permitted ho]
    refine ⟨congrArg TimeBase.capArmed (State.time_auditDiff ..), ?_⟩
    rw [State.flag, State.reg_auditDiff]
    refine decide_eq_false fun h1 => absurd ((State.reg_setTime ..).symm.trans h1) (by simp)

/-! ## Launches and the servo -/

section
variable {s : State}

/-- What a launch does, and what its end does, leaves DONE. -/
theorem State.done_launchAct (s : State) (k : Nat) : (s.launchAct k).reg .timeLaunchDone 0 k = s.reg .timeLaunchDone 0 k :=
  Kept.reg_without (fs := [.timeLaunchDone]) (ks := []) (kept_launchAct ⟨by decide +kernel, by decide +kernel⟩ .refl)
    (List.mem_singleton_self _) 0 k

theorem State.done_launchEnd (s : State) (k : Nat) : (s.launchEnd k).reg .timeLaunchDone 0 k = s.reg .timeLaunchDone 0 k :=
  Kept.reg_without (fs := [.timeLaunchDone]) (ks := []) (kept_launchEnd ⟨by decide +kernel, by decide +kernel⟩ .refl)
    (List.mem_singleton_self _) 0 k

/-- Events leave the time base. -/
theorem State.time_mEvent (s : State) (kind status detail : Nat) : (s.mEvent kind status detail).time = s.time :=
  Kept.part_without (fs := []) (ks := [.time]) (kept_mEvent ⟨by decide +kernel, by decide +kernel⟩ .refl) (List.mem_singleton_self _)

/-- The servo's state, once it has entered one. -/
theorem State.servo_servoTo {st : Nat} (h : st < 8) (s : State) : (s.servoTo st).reg .timeStatusServo 0 0 = st := by
  have hw : Fld.timeStatusServo.width = 3 := by decide +kernel
  rw [State.servoTo]
  split
  · assumption
  · rw [State.reg_setTime, State.reg_mEvent _ (by decide), State.reg_setReg_self, hw]
    omega

/-- The servo changes no field of the time base but its count of good updates. -/
theorem State.time_servoTo (s : State) (st : Nat) : ∃ g, (s.servoTo st).time = { s.time with good := g } := by
  rw [State.servoTo]
  split
  · exact ⟨s.time.good, rfl⟩
  · refine ⟨0, ?_⟩
    exact congrArg (fun x : TimeBase => { x with good := 0 }) (State.time_mEvent ..)

/-- The last accepted edge of PPS is that of before. -/
def State.samePps (s t : State) : Prop := t.time.ppsLast = s.time.ppsLast

theorem State.samePps_servoTo (s : State) (st : Nat) : s.samePps (s.servoTo st) := by
  obtain ⟨g, hg⟩ := s.time_servoTo st
  rw [State.samePps, hg]

theorem State.samePps.trans {s t u : State} (h : s.samePps t) (g : t.samePps u) : s.samePps u := Eq.trans g h

theorem State.samePps_audited (s : State) (f : Fld) (v p addr : Nat) (st : Status) :
    s.samePps ((s.setReg f 0 0 v).auditAction st p addr) := rfl

theorem State.samePps_stepCounters (s : State) (d : Int) : s.samePps (s.stepCounters d) := by
  obtain ⟨n, hn⟩ := s.time_stepCounters d
  rw [State.samePps, hn]
  rfl

theorem State.samePps_bootStep (s : State) : s.samePps s.bootStep := by
  rcases s.bootStep_cases with hd | ⟨d, hd⟩
  · rw [State.samePps, hd]
  · have hstep := State.samePps_stepCounters { s with time := { s.time with stepDue := false } } d
    rw [hd]
    exact hstep.trans (State.samePps_audited ..)

theorem State.samePps_setRate (s : State) (k v : Nat) : s.samePps (s.setRate k v) := by
  rw [State.samePps, State.setRate]

theorem State.samePps_addRef (s : State) (k : Nat) (d : Int) : s.samePps (s.addRef k d) := by
  rw [State.samePps, State.addRef, State.shiftRef]

theorem State.samePps_servoCorrect (s : State) : s.samePps s.servoCorrect := by
  delta State.servoCorrect
  extract_lets x y
  exact (State.samePps_addRef y.2 0 _).trans (State.samePps_setRate ..)

theorem State.samePps_servoBack (s : State) : s.samePps s.servoBack := by
  rw [State.servoBack]
  split
  exacts [s.samePps_servoTo 1, rfl]

/-- An update of the servo leaves the last accepted edge of PPS. -/
theorem State.samePps_servoUpdate (s : State) (off : Int) : s.samePps (s.servoUpdate off) := by
  delta State.servoUpdate
  extract_lets s0 st s1 mag l tb s2
  have hback : s.samePps s0 := s.samePps_servoBack
  have hs1 : s.samePps s1 := hback
  have hl : s.samePps l := hs1.trans (State.samePps_servoTo ..)
  have hs2 : s.samePps s2 := by
    unfold s2
    split
    · split
      · split
        · split
          exacts [hl, hl.trans l.samePps_bootStep]
        · exact hs1
      · exact hs1
    · split
      exacts [hs1.trans (State.samePps_servoTo ..), hs1]
  split
  · exact hback
  · split
    exacts [hs2.trans s2.samePps_servoCorrect, hs2]

end

/-! ## Edges of trigger inputs (R376) -/

section
variable {s t u : State}

/-- The edges that the partitions have seen are those of before. -/
structure State.sameEdges (s t : State) : Prop where
  at_part : ∀ q, (t.part q).edges = (s.part q).edges

theorem State.sameEdges.refl (s : State) : s.sameEdges s := ⟨fun _ => rfl⟩

theorem State.sameEdges.trans (h : s.sameEdges t) (g : t.sameEdges u) : s.sameEdges u := ⟨fun q => (g.at_part q).trans (h.at_part q)⟩

theorem State.sameEdges_of_parts (h : t.parts = s.parts) : s.sameEdges t :=
  ⟨fun q => by rw [State.part, State.part, h]⟩

theorem State.sameEdges_ite {c : Prop} [Decidable c] (h : s.sameEdges t) (g : s.sameEdges u) : s.sameEdges (if c then t else u) := by
  split
  exacts [h, g]

theorem State.sameEdges_modPart {f : Part → Part} (hf : ∀ x, (f x).edges = x.edges) (s : State) (p : Nat) :
    s.sameEdges (s.modPart p f) := by
  refine ⟨fun q => ?_⟩
  by_cases h : q = p
  · rw [h, State.part_modPart_self, hf]
  · rw [State.part_modPart_other (h := h)]

theorem State.sameEdges_setReg64 (s : State) (lo hi : Fld) (i j v : Nat) : s.sameEdges (s.setReg64 lo hi i j v) :=
  State.sameEdges_of_parts rfl

theorem State.sameEdges_setActive (s : State) (p m : Nat) : s.sameEdges (s.setActive p m) := by
  have hacct : s.sameEdges (s.acct p) := by
    delta State.acct
    extract_lets t x d c s1 s2
    have h1 : s.sameEdges s1 := State.sameEdges_setReg64 ..
    have h2 : s.sameEdges s2 := h1.trans (State.sameEdges_setReg64 ..)
    exact State.sameEdges_ite (h2.trans (State.sameEdges_modPart (by exact fun _ => rfl) _ p)) (.refl s)
  have hset : (s.acct p).sameEdges ((s.acct p).setReg .partQuenchActive p 0 m) := State.sameEdges_of_parts rfl
  refine (hacct.trans hset).trans ?_
  exact State.sameEdges_ite (State.sameEdges_modPart (by exact fun _ => rfl) _ p) (.refl _)

theorem State.sameEdges_setLatched (s : State) (p m : Nat) : s.sameEdges (s.setLatched p m) :=
  State.sameEdges_of_parts rfl

theorem State.sameEdges_outageStart (s : State) (p : Nat) : s.sameEdges (s.outageStart p) :=
  State.sameEdges_ite (.refl s) (State.sameEdges_of_parts rfl)

theorem State.sameEdges_assertAt (s : State) (p c : Nat) (at_ : Nat × Nat) (latch fixed : Bool) :
    s.sameEdges (s.assertAt p c at_ latch fixed) := by
  delta State.assertAt
  extract_lets s1 s2
  have h1 : s.sameEdges s1 := State.sameEdges_of_parts rfl
  have h2 : s.sameEdges s2 := State.sameEdges_ite (h1.trans (State.sameEdges_setLatched ..)) h1
  refine State.sameEdges_ite (State.sameEdges_ite h2 ?_) (State.sameEdges_ite ?_ h1)
  · exact (h2.trans (State.sameEdges_setActive ..)).trans (State.sameEdges_modPart (by exact fun _ => rfl) _ p)
  · exact ((h1.trans (State.sameEdges_setActive ..)).trans (State.sameEdges_setLatched ..)).trans (State.sameEdges_outageStart ..)

theorem State.sameEdges_testerStop (s : State) (p : Nat) : s.sameEdges (s.testerStop p) :=
  State.sameEdges_ite (State.sameEdges_assertAt ..) (State.sameEdges_assertAt ..)

theorem State.sameEdges_markOverrun (s : State) (p : Nat) : s.sameEdges
    ((s.setReg .partCmpStatusMarkOverrun p 0 1).pError p .markOverrun (Fld.addr .partCmpStatusMarkOverrun p 0)) :=
  State.sameEdges_of_parts <| Kept.part_without (fs := []) (ks := [.parts]) (k := .parts)
    (kept_pError ⟨by decide +kernel, by decide +kernel⟩ (kept_setReg (by decide +kernel) .refl)) (List.mem_singleton_self _)

theorem State.sameEdges_arrived (s : State) (p : Nat) : s.sameEdges (s.arrived p) := by
  rw [State.arrived, State.releaseCause]
  exact State.sameEdges_ite (State.sameEdges_ite (State.sameEdges_setActive ..) (.refl s)) (.refl s)

theorem State.sameEdges_deliverMarks (s : State) (p n : Nat) : s.sameEdges (s.deliverMarks p n) := by
  refine State.sameEdges_ite (.refl s) (State.sameEdges.trans ?_ (State.sameEdges_arrived ..))
  refine foldl_of (P := s.sameEdges) (fun t _ h => h.trans ?_) (.refl s)
  exact State.sameEdges_ite (State.sameEdges_of_parts rfl) (t.sameEdges_markOverrun p)

/-- Input `k` has risen, and a partition takes note of it. -/
def State.edgeOf (s : State) (k p : Nat) : State :=
  s.modPart p fun x => { x with edges := if x.edges.contains k then x.edges else x.edges ++ [k] }

/-- A partition takes note of an edge, and stops or takes a mark where it is so set. -/
def State.trigEdgeIn (k : Nat) (s : State) (p : Nat) : State :=
  let s1 := s.edgeOf k p
  let s2 := if s.flag .partStopPinEn p 0 ∧ s.reg .partStopPin p 0 = k then s1.testerStop p else s1
  if s.reg .partCmpPaceMode p 0 = 2 ∧ s.reg .partCmpPaceMarkPin p 0 = k then s2.deliverMarks p 1 else s2

theorem State.trigEdge_eq (s : State) (k : Nat) (hi : (s.inputPin (0x10 + k)).isSome = true) (hs : s.pins.stopped = false) :
    ∃ stamp, s.trigEdge k = ((s.partitions.foldl (State.trigEdgeIn k) s).capEvent (0x80 + k) stamp).traceSignal 1 k := by
  refine ⟨_, (if_neg ?_).trans rfl⟩
  obtain ⟨x, hx⟩ := Option.isSome_iff_exists.1 hi
  simp [hx, hs]

theorem State.sameEdges_trigEdgeIn (s : State) (k p : Nat) : (s.edgeOf k p).sameEdges (s.trigEdgeIn k p) := by
  have h2 := State.sameEdges_ite (c := s.flag .partStopPinEn p 0 = true ∧ s.reg .partStopPin p 0 = k)
    ((s.edgeOf k p).sameEdges_testerStop p) (.refl _)
  exact State.sameEdges_ite (h2.trans (State.sameEdges_deliverMarks ..)) h2

theorem State.edges_edgeOf (s : State) (k p q : Nat) (h : q = p ∨ k ∈ (s.part q).edges) : k ∈ ((s.edgeOf k p).part q).edges := by
  by_cases hq : q = p
  · rw [hq, State.edgeOf, State.part_modPart_self]
    show k ∈ if _ then _ else _
    split
    · next hc => exact List.contains_iff_mem.1 hc
    · exact List.mem_append_right _ (List.mem_singleton_self k)
  · rw [State.edgeOf, State.part_modPart_other (h := hq)]
    exact h.resolve_left hq

theorem State.mem_partitions {p : Nat} : p ∈ s.partitions ↔ s.pExists p = true := by
  rw [State.partitions, List.mem_filter, List.mem_range]
  refine ⟨And.right, fun h => ⟨?_, h⟩⟩
  rw [State.pExists, Bool.and_eq_true] at h
  exact of_decide_eq_true h.1

theorem State.sameEdges_capEvent (s : State) (src stamp : Nat) : s.sameEdges (s.capEvent src stamp) :=
  State.sameEdges_of_parts <| Kept.part_without (fs := []) (ks := [.parts]) (k := .parts)
    (kept_capEvent ⟨by decide +kernel, by decide +kernel⟩ .refl) (List.mem_singleton_self _)

theorem State.sameEdges_traceSignal (s : State) (kind k : Nat) : s.sameEdges (s.traceSignal kind k) :=
  State.sameEdges_of_parts <| Kept.part_without (fs := []) (ks := [.parts]) (k := .parts)
    (kept_traceSignal ⟨by decide +kernel, by decide +kernel⟩ .refl) (List.mem_singleton_self _)

/-- Every partition there is takes note of an edge. -/
theorem State.edges_trigEdge {k : Nat} (hi : (s.inputPin (0x10 + k)).isSome = true) (hs : s.pins.stopped = false) {p : Nat}
    (hp : s.pExists p = true) : k ∈ ((s.trigEdge k).part p).edges := by
  obtain ⟨stamp, hstamp⟩ := s.trigEdge_eq k hi hs
  rw [hstamp, (State.sameEdges_traceSignal _ 1 k).at_part, (State.sameEdges_capEvent ..).at_part]
  refine foldl_of_mem (P := fun q (t : State) => k ∈ (t.part q).edges) (fun t q => ?_) (fun t q r ht => ?_)
    (State.mem_partitions.2 hp)
  · rw [(t.sameEdges_trigEdgeIn k q).at_part]
    exact t.edges_edgeOf k q q (.inl rfl)
  · rw [(t.sameEdges_trigEdgeIn k q).at_part]
    exact t.edges_edgeOf k q r (.inr ht)

end

/-! ## Events of the time base (R357 to R359, R363, R364, R368) -/

section
variable {s : State} {m : PtpMsg}

/-- A launch that is due is counted. -/
theorem State.done_launchOne {k : Nat} (ha : s.flag .timeLaunchArmed 0 k = true) (hd : s.launchDue k ≤ s.clock) :
    (s.launchOne k).reg .timeLaunchDone 0 k = min (2 ^ Fld.timeLaunchDone.width - 1) (s.reg .timeLaunchDone 0 k + 1) := by
  rw [State.launchOne, if_pos ⟨ha, hd⟩, State.done_launchEnd, State.reg_bump_self, State.done_launchAct]

/-- A message of the configured domain and transport is taken for what it is. -/
theorem State.ptp_announce (hu : s.usesPtp = true) (hd : m.domain = s.reg .timePtpCfgDomain 0 0)
    (hl : m.l2 = s.flag .timePtpCfgL2 0 0) {utc rank : Nat} {arb : Bool} (hb : m.body = .announce utc rank arb) :
    s.ptp m = s.ptpAnnounce ⟨m.source, rank, utc, arb⟩ := by
  delta State.ptp
  extract_lets rx ours
  rw [if_neg (by simp [hu, hd, hl]), hb]

/-- The master shown. -/
def State.showMaster (s : State) (x : Foreign) : State :=
  if x.arb then s.setReg64 .timePtpMasterLo .timePtpMasterHi 0 0 x.id
  else (s.setReg64 .timePtpMasterLo .timePtpMasterHi 0 0 x.id).setReg .timePtpUtcOffset 0 0 x.utc

theorem State.ptpSelect_one {x : Foreign} (h : s.time.foreign = [x]) :
    ∃ b : TimeBase, b.foreign = [x] ∧ b.master = some x.id ∧ s.ptpSelect = { s with time := b }.showMaster x := by
  by_cases hm : s.time.master = some x.id
  · refine ⟨s.time, h, hm, ?_⟩
    rw [State.ptpSelect, h]
    exact congrArg (State.showMaster · x) (if_pos hm)
  · refine ⟨{ s.time with master := some x.id, sync := none, delayReq := none }, h, rfl, ?_⟩
    rw [State.ptpSelect, h]
    exact congrArg (State.showMaster · x) (if_neg hm)

theorem State.time_showMaster (s : State) (x : Foreign) : (s.showMaster x).time = s.time := by
  rw [State.showMaster]
  split <;> rfl

theorem State.master_showMaster (s : State) (x : Foreign) :
    (s.showMaster x).reg64 .timePtpMasterLo .timePtpMasterHi 0 0 = x.id % 2 ^ 64 := by
  have h := State.reg64_setReg64 s (lo := .timePtpMasterLo) (hi := .timePtpMasterHi) (by decide) (by decide +kernel)
    (by decide +kernel) 0 0 x.id
  rw [State.showMaster]
  split
  · exact h
  · rw [State.reg64] at h ⊢
    simpa using h

theorem State.utc_showMaster (s : State) (x : Foreign) :
    (s.showMaster x).reg .timePtpUtcOffset 0 0 =
      if x.arb then s.reg .timePtpUtcOffset 0 0 else x.utc % 2 ^ Fld.timePtpUtcOffset.width := by
  rw [State.showMaster]
  split
  · simp [State.setReg64]
  · exact State.reg_setReg_self ..

theorem State.ptpAnnounce_first (hf : s.time.foreign = []) (x : Foreign) :
    ∃ b : TimeBase, b.foreign = [x] ∧ b.master = some x.id ∧ s.ptpAnnounce x = { s with time := b }.showMaster x := by
  have hl : s.ptpAnnounce x = { s with time := { s.time with foreign := [x] } }.ptpSelect := by rw [State.ptpAnnounce, hf]; rfl
  rw [hl]
  exact State.ptpSelect_one (s := { s with time := { s.time with foreign := [x] } }) rfl

/-- The first master announced is the master, and is shown. -/
theorem State.ptp_firstMaster (hu : s.usesPtp = true) (hd : m.domain = s.reg .timePtpCfgDomain 0 0)
    (hl : m.l2 = s.flag .timePtpCfgL2 0 0) {utc rank : Nat} {arb : Bool} (hb : m.body = .announce utc rank arb)
    (hf : s.time.foreign = []) :
    (s.ptp m).time.foreign = [⟨m.source, rank, utc, arb⟩] ∧ (s.ptp m).time.master = some m.source ∧
      (s.ptp m).reg64 .timePtpMasterLo .timePtpMasterHi 0 0 = m.source % 2 ^ 64 ∧
      (s.ptp m).reg .timePtpUtcOffset 0 0 = if arb then s.reg .timePtpUtcOffset 0 0 else utc % 2 ^ Fld.timePtpUtcOffset.width := by
  obtain ⟨b, hfor, hmas, he⟩ := State.ptpAnnounce_first hf ⟨m.source, rank, utc, arb⟩
  rw [State.ptp_announce hu hd hl hb, he, State.time_showMaster]
  exact ⟨hfor, hmas, State.master_showMaster .., State.utc_showMaster ..⟩

/-- The answer to the outstanding Delay_Req gives the mean delay. -/
theorem State.ptp_delayResp (hu : s.usesPtp = true) (hd : m.domain = s.reg .timePtpCfgDomain 0 0)
    (hl : m.l2 = s.flag .timePtpCfgL2 0 0) (hm : s.time.master = some m.source) {seq stamp : Nat} {receive corr x : Int}
    (hb : m.body = .delayResp seq receive corr x) (hr : s.time.delayReq = some (seq, stamp)) :
    s.ptp m = { s with time := { s.time with delayReq := none, delayGap := logInterval x } }.setReg .timePtpMeanDelayNs 0 0
      (satSigned 32 ((s.time.msDelay + (receive - signed 64 stamp - corr)) / 2)) := by
  delta State.ptp
  extract_lets rx ours
  rw [if_neg (by simp [hu, hd, hl]), hb]
  dsimp only
  rw [hr]
  exact if_pos ⟨hm, rfl⟩

/-- The last master is lost: none is left. -/
theorem State.ptpLoss_last {id : Nat} (hu : s.usesPtp = true) (hm : s.time.master = some id)
    (hall : s.time.foreign.all (fun x => decide (x.id = id)) = true) :
    ∃ b : TimeBase, b.master = none ∧ b.foreign = [] ∧ s.ptpLoss = ({ s with time := b } : State).servoLoss := by
  have hnone : s.time.foreign.filter (fun x => decide (some x.id ≠ s.time.master)) = [] := by
    rw [List.filter_eq_nil_iff]
    intro x hx
    have hid := of_decide_eq_true (List.all_eq_true.1 hall x hx)
    simp [hm, hid]
  refine ⟨{ s.time with foreign := [], ptpUp := false, master := none, sync := none, delayReq := none }, rfl, rfl, ?_⟩
  rw [State.ptpLoss, if_pos hu, hnone]
  rfl

/-- A loss of the source leaves masters as they are, and takes the servo into HOLDOVER. -/
theorem State.servoLoss_effect (s : State) :
    s.servoLoss.time.master = s.time.master ∧ s.servoLoss.time.foreign = s.time.foreign ∧
      s.servoLoss.time.ppsLast = s.time.ppsLast ∧ s.servoLoss.reg .timeStatusPpsLost 0 0 = s.reg .timeStatusPpsLost 0 0 ∧
      ((s.reg .timeStatusServo 0 0 = 1 ∨ s.reg .timeStatusServo 0 0 = 2) → s.servoLoss.reg .timeStatusServo 0 0 = 3) := by
  have hpps := Kept.reg_without (fs := [.timeStatusPpsLost]) (ks := []) (kept_servoLoss ⟨by decide +kernel, by decide +kernel⟩ (.refl (s0 := s)))
    (List.mem_singleton_self _) 0 0
  by_cases h : s.reg .timeStatusServo 0 0 = 1 ∨ s.reg .timeStatusServo 0 0 = 2
  · have he : s.servoLoss = (s.servoTo 3).mError .timeSourceLost (Fld.addr .timeStatusServo 0 0) := if_pos h
    obtain ⟨g, hg⟩ := s.time_servoTo 3
    have ht : s.servoLoss.time = { s.time with good := g } := by rw [he, State.mError, State.time_mEvent, hg]
    refine ⟨by rw [ht], by rw [ht], by rw [ht], hpps, fun _ => ?_⟩
    rw [he, State.mError, State.reg_mEvent _ (by decide)]
    exact State.servo_servoTo (by decide) s
  · have he : s.servoLoss = s := if_neg h
    rw [he]
    exact ⟨rfl, rfl, rfl, rfl, fun h' => absurd h' h⟩

/-- An edge of PPS in that is on time is the last one accepted. -/
theorem State.ppsLast_ppsIn (hi : (s.inputPin 0x30).isSome = true) (hs : s.pins.stopped = false)
    (ht : ∀ u, s.time.ppsLast = some u → u + 999900000 ≤ s.now ∧ s.now ≤ u + 1000100000) :
    s.ppsIn.time.ppsLast = some s.now := by
  delta State.ppsIn
  extract_lets now ok b s1 v
  obtain ⟨x, hx⟩ := Option.isSome_iff_exists.1 hi
  have hok : ok = true := by
    unfold ok
    split
    · rfl
    · next u hu => exact decide_eq_true (ht u hu)
  rw [if_neg (by simp [hx, hs]), if_neg (by simp [hok])]
  split
  · exact State.samePps_servoUpdate ..
  · rfl

/-- Two seconds without an accepted edge. -/
theorem State.ppsLost_effect (ht : ∀ u, s.time.ppsLast = some u → u + 2000000000 ≤ s.now) :
    s.ppsLost.time.ppsLast = none ∧ s.ppsLost.flag .timeStatusPpsLost 0 0 = true := by
  delta State.ppsLost
  extract_lets due b s1
  have hdue : due = true := by
    unfold due
    split
    · rfl
    · next u hu => exact decide_eq_true (ht u hu)
  have hset : s1.flag .timeStatusPpsLost 0 0 = true := State.flag_setReg_one ..
  rw [if_pos hdue]
  split
  · obtain ⟨-, -, hpps, hreg, -⟩ := s1.servoLoss_effect
    exact ⟨hpps, by rw [State.flag, hreg]; exact hset⟩
  · exact ⟨rfl, hset⟩

/-- The 10 MHz input is lost. -/
theorem State.freqLoss_effect (hf : s.flag .timeCfgFreqSrc 0 0 = true) (hh : s.time.freqHeld = false) :
    s.freqLoss.time.freqHeld = true ∧ s.freqLoss.flag .timeStatusFreqLost 0 0 = true := by
  delta State.freqLoss
  extract_lets b s1
  rw [if_pos (by simp [hf, hh]), State.mError, State.time_mEvent, State.flag, State.reg_mEvent _ (by decide)]
  exact ⟨rfl, s1.flag_setReg_one ..⟩

/-- Counters that differ are recorded. -/
theorem State.mismatch_counterFault (s : State) : s.counterFault.flag .timeStatusMismatch 0 0 = true := by
  have hk : Kept (.without [.timeStatusMismatch] []) (s.setReg .timeStatusMismatch 0 0 1) s.counterFault :=
    kept_moduleFault ⟨by decide +kernel, by decide +kernel⟩ (kept_mError ⟨by decide +kernel, by decide +kernel⟩ .refl)
  rw [State.flag, hk.reg_without (List.mem_singleton_self _)]
  exact State.flag_setReg_one ..

end

/-- Settles O8: each event's effect, the events it raises beside it leaving the time base. -/
theorem timeEventsComplete : Obligations.TimeEventsComplete := by
  refine ⟨fun k s ha hd => ⟨_, rfl, State.done_launchOne ha hd⟩, fun s hon hdue => ?_,
    fun m utc rank arb s hoff hu hd hl hb hf => ⟨_, congrArg Host.Outcome.next (if_neg (by simp [hoff])), State.ptp_firstMaster hu hd hl hb hf⟩,
    fun m seq receive corr x stamp s hoff hu hd hl hm hb hr => ?_, fun s hoff hdue => ?_, fun s m hu hm hall => ?_,
    fun s hi hs ht => ⟨_, rfl, State.ppsLast_ppsIn hi hs ht⟩,
    fun s hoff ht => ⟨_, congrArg Host.Outcome.next (if_neg (by simp [hoff])), State.ppsLost_effect ht⟩, fun s ht => ?_,
    fun s hf hh => ⟨_, rfl, State.freqLoss_effect hf hh⟩, fun s => ⟨_, rfl, rfl, rfl⟩, fun s hoff h2 => ?_,
    fun k s hi hs => ⟨_, rfl, fun p hp => State.edges_trigEdge hi hs hp⟩⟩
  · refine ⟨_, rfl, ?_⟩
    rw [State.tick_on hon, if_neg (by simp [hdue])]
    exact ⟨rfl, fun a ha => State.ctr_ticked ha⟩
  · refine ⟨_, congrArg Host.Outcome.next (if_neg (by simp [hoff])), ?_⟩
    rw [State.ptp_delayResp hu hd hl hm hb hr]
    exact ⟨rfl, rfl, State.reg_setReg_self ..⟩
  · refine ⟨_, congrArg Host.Outcome.next (if_neg (by simp [hoff])), ?_⟩
    rw [State.delayReqOut, if_neg (show ¬(!s.delayDue) = true by simp [hdue])]
    exact ⟨rfl, rfl, rfl, List.length_append⟩
  · obtain ⟨b, hmas, hfor, he⟩ := State.ptpLoss_last hu hm hall
    obtain ⟨hmas', hfor', -, -, hservo⟩ := ({ s with time := b } : State).servoLoss_effect
    refine ⟨_, rfl, ?_⟩
    rw [he]
    exact ⟨hmas'.trans hmas, hfor'.trans hfor, hservo⟩
  · refine ⟨_, rfl, ?_⟩
    rw [State.ppsRise, if_pos ht]
    exact ⟨rfl, rfl⟩
  · exact ⟨_, congrArg Host.Outcome.next (if_neg (by simp [hoff]; omega)), s.mismatch_counterFault⟩

end Sys2Proof.Machine
end

section
/-! PROOFS. Side pins and serial peripherals (R372 to R385). -/

set_option Elab.async false

namespace Sys2Proof.Machine

/-! ## Bits of words -/

theorem testBit_bitsToNat : ∀ (l : List Bool) (k : Nat), (bitsToNat l).testBit k = l.getD k false
  | [], k => by simp [bitsToNat]
  | b :: l, 0 => by
    rw [bitsToNat, Nat.testBit_zero]
    cases b <;> simp [b2n]
  | b :: l, k + 1 => by
    have h : (b2n b + 2 * bitsToNat l) / 2 = bitsToNat l := by
      have hb : b2n b < 2 := by cases b <;> decide
      omega
    rw [bitsToNat, Nat.testBit_succ, h, testBit_bitsToNat l k, List.getD_cons_succ]

theorem and_mod_two (x m : Nat) : (x &&& m) % 2 = if x % 2 = 1 ∧ m % 2 = 1 then 1 else 0 := by
  have h := Nat.testBit_and x m 0
  simp only [Nat.testBit_zero] at h
  split
  · next hb => exact of_decide_eq_true (h.trans (by simp [hb]))
  · next hb => exact (Nat.mod_two_eq_zero_or_one _).resolve_right (of_decide_eq_false (h.trans (by simpa using hb)))

/-- Clearing bits that are set takes them away. -/
theorem testBit_sub_and : ∀ (k x m : Nat), (x - (x &&& m)).testBit k = (x.testBit k && !m.testBit k)
  | 0, x, m => by
    have hle : x &&& m ≤ x := Nat.and_le_left
    have hpar := and_mod_two x m
    generalize x &&& m = y at hle hpar ⊢
    have hsub : (x - y) % 2 = 1 ↔ x % 2 = 1 ∧ ¬m % 2 = 1 := by split at hpar <;> omega
    simp only [Nat.testBit_zero, decide_eq_decide.2 hsub, Bool.decide_and, decide_not]
  | k + 1, x, m => by
    have hle : x &&& m ≤ x := Nat.and_le_left
    have hpar := and_mod_two x m
    have hd : (x &&& m) / 2 = x / 2 &&& m / 2 := Nat.and_div_two ..
    have hsub : (x - (x &&& m)) / 2 = x / 2 - (x / 2 &&& m / 2) := by
      rw [← hd]
      generalize x &&& m = y at hle hpar ⊢
      split at hpar <;> omega
    rw [Nat.testBit_succ, hsub, testBit_sub_and k, Nat.testBit_succ, Nat.testBit_succ]

/-! ## Side pins (R372 to R374, R377, R379, R381, R383 to R385) -/

section
variable {s : State} {o : Origin}

/-- The pins of a GPIO word that the writer may write. -/
theorem State.testBit_gpioMask (hi : Bool) (mask : Nat) {k : Nat} (hk : k < if hi then 16 else 32) :
    (s.gpioMask o hi mask).testBit k = (bit mask k && s.mayPin o ((if hi then 32 else 0) + k)) := by
  rw [State.gpioMask, testBit_bitsToNat, List.getD_eq_getElem?_getD, List.getElem?_map, List.getElem?_range hk]
  rfl

/-- A register does not read the pads. -/
theorem State.reg_setPins (s : State) (x : Pins) (f : Fld) (i j : Nat) : ({ s with pins := x } : State).reg f i j = s.reg f i j := rfl

/-- A register does not read the host interface. -/
theorem State.reg_withHost (s : State) (x : HostIf) (f : Fld) (i j : Nat) : ({ s with host := x } : State).reg f i j = s.reg f i j := rfl

theorem State.reg_setSetting_fld (s : State) {f g : Fld} (h : f ≠ g) (i j v i' j' : Nat) :
    (s.setSetting f i j v).reg g i' j' = s.reg g i' j' :=
  (State.reg_of _ rfl rfl rfl rfl g i' j').trans (s.reg_setReg_fld h i j v i' j')

/-- What a write of a GPIO word leaves in it. -/
theorem State.reg_gpioPut_lo (f : Nat → Nat) {k : Nat} (hk : k < 32) :
    bit ((s.gpioPut o false f).reg .spGpioOutLo 0 0) k = (f (s.reg .spGpioOutLo 0 0)).testBit k := by
  have hw : Fld.spGpioOutLo.width = 32 := by decide +kernel
  have hr : (s.gpioPut o false f).reg .spGpioOutLo 0 0 = f (s.reg .spGpioOutLo 0 0) % 2 ^ 32 := by
    have he : s.gpioPut o false f = State.auditDiff o 0xFFFF .spGpioOutLo 0 0 s
        (s.setReg .spGpioOutLo 0 0 (f (s.reg .spGpioOutLo 0 0))) := rfl
    rw [he, State.reg_auditDiff, State.reg_setReg_self, hw]
  rw [hr, bit_eq_testBit, Nat.testBit_mod_two_pow, decide_eq_true hk, Bool.true_and]

theorem State.reg_gpioPut_hi (f : Nat → Nat) {k : Nat} (hk : k < 16) :
    bit ((s.gpioPut o true f).reg .spGpioOutHi 0 0) k = (f (s.reg .spGpioOutHi 0 0)).testBit k := by
  have hw : Fld.spGpioOutHi.width = 16 := by decide +kernel
  have hr : (s.gpioPut o true f).reg .spGpioOutHi 0 0 = f (s.reg .spGpioOutHi 0 0) % 2 ^ 16 := by
    have he : s.gpioPut o true f = State.auditDiff o 0xFFFF .spGpioOutHi 0 0 s
        (s.setReg .spGpioOutHi 0 0 (f (s.reg .spGpioOutHi 0 0))) := rfl
    rw [he, State.reg_auditDiff, State.reg_setReg_self, hw]
  rw [hr, bit_eq_testBit, Nat.testBit_mod_two_pow, decide_eq_true hk, Bool.true_and]

theorem State.testBit_gpioMask_lo (mask : Nat) {k : Nat} (hk : k < 32) :
    (s.gpioMask o false mask).testBit k = (bit mask k && s.mayPin o k) := by
  have h := State.testBit_gpioMask (s := s) (o := o) false mask hk
  rwa [if_neg Bool.false_ne_true, Nat.zero_add] at h

theorem State.testBit_gpioMask_hi (mask : Nat) {k : Nat} (hk : k < 16) :
    (s.gpioMask o true mask).testBit k = (bit mask k && s.mayPin o (32 + k)) :=
  State.testBit_gpioMask (s := s) (o := o) true mask hk

/-- Set, clear and toggle, bit by bit. -/
theorem State.gpio_effect (o : Origin) (mask : Nat) (hoff : s.sys.off = false) :
    Answers (.gpioSet o false mask) s (fun t => ∀ k, k < 32 →
      bit (t.reg .spGpioOutLo 0 0) k = (bit (s.reg .spGpioOutLo 0 0) k || (bit mask k && s.mayPin o k))) ∧
    Answers (.gpioSet o true mask) s (fun t => ∀ k, k < 16 →
      bit (t.reg .spGpioOutHi 0 0) k = (bit (s.reg .spGpioOutHi 0 0) k || (bit mask k && s.mayPin o (32 + k)))) ∧
    Answers (.gpioClr o false mask) s (fun t => ∀ k, k < 32 →
      bit (t.reg .spGpioOutLo 0 0) k = (bit (s.reg .spGpioOutLo 0 0) k && !(bit mask k && s.mayPin o k))) ∧
    Answers (.gpioClr o true mask) s (fun t => ∀ k, k < 16 →
      bit (t.reg .spGpioOutHi 0 0) k = (bit (s.reg .spGpioOutHi 0 0) k && !(bit mask k && s.mayPin o (32 + k)))) ∧
    Answers (.gpioTgl o false mask) s (fun t => ∀ k, k < 32 →
      bit (t.reg .spGpioOutLo 0 0) k = xor (bit (s.reg .spGpioOutLo 0 0) k) (bit mask k && s.mayPin o k)) ∧
    Answers (.gpioTgl o true mask) s (fun t => ∀ k, k < 16 →
      bit (t.reg .spGpioOutHi 0 0) k = xor (bit (s.reg .spGpioOutHi 0 0) k) (bit mask k && s.mayPin o (32 + k))) := by
  have hnext {u : State} : (Host.Outcome.next (if s.sys.off then s else u) : Host.Outcome State Fault Refusal) = .next u :=
    congrArg Host.Outcome.next (if_neg (by simp [hoff]))
  refine ⟨⟨_, hnext, fun k hk => ?_⟩, ⟨_, hnext, fun k hk => ?_⟩, ⟨_, hnext, fun k hk => ?_⟩, ⟨_, hnext, fun k hk => ?_⟩,
    ⟨_, hnext, fun k hk => ?_⟩, ⟨_, hnext, fun k hk => ?_⟩⟩
  · rw [← State.testBit_gpioMask_lo mask hk, State.gpioSet, State.reg_gpioPut_lo _ hk, bit_eq_testBit]
    exact Nat.testBit_or ..
  · rw [← State.testBit_gpioMask_hi mask hk, State.gpioSet, State.reg_gpioPut_hi _ hk, bit_eq_testBit]
    exact Nat.testBit_or ..
  · rw [← State.testBit_gpioMask_lo mask hk, State.gpioClr, State.reg_gpioPut_lo _ hk, bit_eq_testBit]
    exact testBit_sub_and ..
  · rw [← State.testBit_gpioMask_hi mask hk, State.gpioClr, State.reg_gpioPut_hi _ hk, bit_eq_testBit]
    exact testBit_sub_and ..
  · rw [← State.testBit_gpioMask_lo mask hk, State.gpioTgl, State.reg_gpioPut_lo _ hk, bit_eq_testBit]
    exact Nat.testBit_xor ..
  · rw [← State.testBit_gpioMask_hi mask hk, State.gpioTgl, State.reg_gpioPut_hi _ hk, bit_eq_testBit]
    exact Nat.testBit_xor ..

/-- A function that a pin may have is written, and its short is cleared. -/
theorem State.wrPinFunc_effect {n func : Nat} (hm : s.mayPin o n = true) (hf : s.pinFuncOk n func = true) :
    (s.wrPinFunc o n func).reg .spPinFunc 0 n = func ∧ (s.wrPinFunc o n func).reg .spPinShort 0 n = 0 := by
  have hw : Fld.spPinFunc.width = 8 := by decide +kernel
  have hlt : func < 2 ^ Fld.spPinFunc.width := by
    rw [hw]
    rw [State.pinFuncOk] at hf
    simp only [Bool.or_eq_true, Bool.and_eq_true, decide_eq_true_eq] at hf
    omega
  rw [State.wrPinFunc, if_neg (show ¬(!s.mayPin o n) = true by simp [hm]), if_neg (show ¬(!s.pinFuncOk n func) = true by simp [hf]),
    State.reg_auditDiff, State.reg_auditDiff]
  refine ⟨(State.reg_setReg_fld _ (by decide) ..).trans ?_, (State.reg_setReg_self ..).trans (by simp)⟩
  rw [State.reg_setSetting_self, Nat.mod_eq_of_lt hlt]

/-- An owner that R373 permits is written, and FUNC is 0. -/
theorem State.wrPinOwner_effect {n owner : Nat} (ho : s.isOwnerOrLocal o = true) (hlt : owner < 32 ∨ owner = 0x3F)
    (hq : s.modQuiet = true ∨ (s.ownerQuiet (s.reg .spPinOwner 0 n) = true ∧ s.ownerQuiet owner = true)) :
    (s.wrPinOwner o n owner).reg .spPinOwner 0 n = owner ∧ (s.wrPinOwner o n owner).reg .spPinFunc 0 n = 0 := by
  have hw : Fld.spPinOwner.width = 6 := by decide +kernel
  have h64 : owner < 2 ^ Fld.spPinOwner.width := by rw [hw]; omega
  delta State.wrPinOwner
  extract_lets s1 pins s2
  have hquiet : ¬(!(s.modQuiet || (s.ownerQuiet (s.reg .spPinOwner 0 n) && s.ownerQuiet owner))) = true := by
    rcases hq with h | ⟨h, h'⟩ <;> simp [*]
  rw [if_neg (show ¬(!s.isOwnerOrLocal o) = true by simp [ho]),
    if_neg (show ¬(!(decide (owner < 32) || decide (owner = 0x3F))) = true by rcases hlt with h | h <;> simp [h]), if_neg hquiet,
    State.reg_auditDiff, State.reg_auditDiff]
  have hs2 : ∀ f, s2.reg f 0 n = s1.reg f 0 n := fun f => s1.reg_setPins _ f 0 n
  have hown : s1.reg .spPinOwner 0 n = owner := by
    unfold s1
    rw [State.reg_setSetting_fld _ (by decide), State.reg_setSetting_self, Nat.mod_eq_of_lt h64]
  have hfunc : s1.reg .spPinFunc 0 n = 0 := (State.reg_setSetting_self ..).trans (Nat.zero_mod _)
  exact ⟨(hs2 _).trans hown, (hs2 _).trans hfunc⟩

/-- A voltage that is permitted is written; another one than before starts a ramp. -/
theorem State.wrBankVsel_effect {b vsel : Nat} (ho : s.isOwnerOrLocal o = true) (hv : vsel < 3)
    (hq : s.modQuiet = true ∨ (bankPins b).all (fun n => s.ownerQuiet (s.reg .spPinOwner 0 n)) = true) :
    (s.wrBankVsel o b vsel).reg .spBankVsel 0 b = vsel ∧
      (s.reg .spBankVsel 0 b ≠ vsel → (s.wrBankVsel o b vsel).flag .spBankRamping 0 b = true) := by
  have hw : Fld.spBankVsel.width = 2 := by decide +kernel
  have hlt : vsel < 2 ^ Fld.spBankVsel.width := by rw [hw]; omega
  have hquiet : ¬(!(s.modQuiet || (bankPins b).all (fun n => s.ownerQuiet (s.reg .spPinOwner 0 n)))) = true := by
    rcases hq with h | h <;> simp only [h, Bool.true_or, Bool.or_true, Bool.not_true, Bool.false_eq_true, not_false_eq_true]
  rw [State.wrBankVsel, if_neg (show ¬(!s.isOwnerOrLocal o) = true by simp [ho]), if_neg (Nat.not_le.2 hv), if_neg hquiet]
  split
  · next h => exact ⟨h, fun h' => absurd h h'⟩
  · rw [State.flag, State.reg_auditDiff, State.reg_auditDiff]
    refine ⟨(State.reg_setReg_fld _ (by decide) ..).trans ?_, fun _ => State.flag_setReg_one ..⟩
    rw [State.reg_setSetting_self, Nat.mod_eq_of_lt hlt]

/-- The strap opens: the service session has ended. -/
theorem State.strapOpen_effect (s : State) : s.strapOpen.flag .spCfgStrap 0 0 = false ∧ s.strapOpen.host.uartBusy = false := by
  delta State.strapOpen
  extract_lets gone s1 h
  refine ⟨(State.flag_congr _ (s1.reg_withHost ..)).trans (State.flag_setReg_zero ..), rfl⟩

/-- A short is recorded; the event beside it leaves it. -/
theorem State.pinShorted_effect {n : Nat} (hd : (s.pinDrives n).isSome = true) (hs : s.flag .spPinShort 0 n = false) :
    (s.pinShorted n).flag .spPinShort 0 n = true := by
  have hk : Kept (.without [.spPinShort] []) (s.setReg .spPinShort 0 n 1) (s.pinShorted n) := by
    rw [State.pinShorted, if_pos ⟨hd, by simp [hs]⟩]
    exact kept_mError ⟨by decide +kernel, by decide +kernel⟩ .refl
  rw [State.flag, hk.reg_without (List.mem_singleton_self _)]
  exact State.flag_setReg_one ..

/-- A byte is held, or dropped and counted. -/
theorem State.uartRx_effect {u byte : Nat} {bad : Bool} (ht : s.uartTaken u = false) (hp : s.pins.stopped = false)
    (hi : (s.inputPin (0x39 + 2 * u)).isSome = true) :
    if bad = true ∨ 4096 ≤ (s.uartFifo u).length then
      (s.uartRx u byte bad).reg .spUartRxDrop 0 u = min (2 ^ Fld.spUartRxDrop.width - 1) (s.reg .spUartRxDrop 0 u + 1) ∧
        (s.uartRx u byte bad).uartFifo u = s.uartFifo u
    else (s.uartRx u byte bad).uartFifo u = s.uartFifo u ++ [BitVec.ofNat 8 byte] := by
  obtain ⟨x, hx⟩ := Option.isSome_iff_exists.1 hi
  have hgo : ¬(s.uartTaken u = true ∨ s.pins.stopped = true ∨ (s.inputPin (0x39 + 2 * u)).isNone = true) := by simp [ht, hp, hx]
  rw [State.uartRx, if_neg hgo]
  split
  · exact ⟨s.reg_bump_self .., congrArg (fun x : Pins => Tab.get [] x.uartRx [u]) (s.pins_bump ..)⟩
  · exact Tab.get_put_self ..

end

/-! ## Serial peripherals (R384, R385) -/

section
variable {s : State} {r : CmdRef} {c : Instr} {code p : Nat} {ps : Bytes} {f : State → CmdRes} {P : Answer → State → Prop}

/-- The answer of a command that is answered for the first time. -/
theorem State.ans_answer {b : Busy} (a : Answer) (h : s.busyOf r = some b) (hb : b.ans = none) :
    ((s.answer r a).busyOf r).bind Busy.ans = some a := by
  have href : b.ref = r := by simpa using List.find?_some h
  have hcomp : ((fun x : Busy => decide (x.ref = r)) ∘ fun x => if x.ref = r then { x with ans := some a } else x) =
      fun x => decide (x.ref = r) := by
    funext x
    by_cases hx : x.ref = r <;> simp [hx]
  have hfind : s.host.busy.find? (fun x => decide (x.ref = r)) = some b := h
  rw [State.busyOf, s.busy_answer h hb, List.find?_map, hcomp, hfind]
  simp [href]

/-- A fresh command whose effect, on the state with any host interface, ends it with an answer: it has that answer. -/
theorem answers_of_answer (hf : s.fresh r = true) (he : exec c s = .next (runCmd r code ps p f s))
    (H : ∀ h : HostIf, ∃ (u : State) (a : Answer), f { s with host := h } = (u, some a) ∧ u.host.busy = h.busy ∧ P a (u.answer r a)) :
    Answers c s fun t => ∃ a, (t.busyOf r).bind Busy.ans = some a ∧ P a t := by
  obtain ⟨h, hb⟩ := s.begin_keeps r code ps p none (s.hostIdOf r.org)
  obtain ⟨u, a, hu, hbusy, hP⟩ := H h
  have hr := s.busyOf_begin (s.fresh_busy hf) code ps p none (s.hostIdOf r.org)
  rw [hb, State.busyOf, ← hbusy] at hr
  refine ⟨u.answer r a, ?_, a, State.ans_answer a hr rfl, hP⟩
  rw [he, runCmd_fresh _ hf, hb, hu]

/-- A list of conditions of which none is broken, written out. -/
theorem refuseIf_oks {cs : List (Bool × Status)} {k : State → CmdRes} (h : cs.all (fun c => !c.1) = true) : refuseIf cs s k = k s :=
  refuseIf_ok _ fun c hc => by simpa using List.all_eq_true.1 h c hc

/-- The serial commands that nothing stands against. -/
theorem cmdSpUartCfg_permitted {u baud format : Nat} (ho : s.isOwnerOrLocal r.org = true) (hu : u < 2) (hb1 : 300 ≤ baud)
    (hb2 : baud ≤ 3000000) (hf : format < 16) (hp : format % 4 ≠ 3) (ht : s.uartTaken u = false) :
    ∃ t : State, cmdSpUartCfg r u baud format s = t.oks ∧ t.host.busy = s.host.busy ∧ t.uartFifo u = [] ∧
      Tab.get 0 t.pins.uartBaud [u] = baud ∧ Tab.get 0 t.pins.uartFormat [u] = format := by
  refine ⟨_, refuseIf_oks (by simp [State.ownerOrLocal, ho, ht]; omega), rfl, ?_, Tab.get_put_self .., Tab.get_put_self ..⟩
  show Tab.get [] (Tab.put [] s.pins.uartRx [u] []) [u] = []
  exact Tab.get_put_self ..

theorem cmdSpUartSend_permitted {u len : Nat} {data : Bytes} (ho : s.isOwnerOrLocal r.org = true) (hu : u < 2) (h0 : 0 < len)
    (h1 : len ≤ 1024) (h2 : len ≤ data.length) (ht : s.uartTaken u = false) :
    cmdSpUartSend r u len data s = (s.serialOut 0 u (data.take len)).oks :=
  refuseIf_oks (by simp [State.ownerOrLocal, ho, ht]; omega)

theorem cmdSpUartRecv_permitted {u max : Nat} (ho : s.isOwnerOrLocal r.org = true) (hu : u < 2) (h0 : 0 < max)
    (h1 : max ≤ 1024) (ht : s.uartTaken u = false) :
    cmdSpUartRecv r u max s = (s.setUartFifo u ((s.uartFifo u).drop max),
      some ⟨.ok, 0, toLE 2 ((s.uartFifo u).take max).length ++ (s.uartFifo u).take max⟩) :=
  refuseIf_oks (by simp [State.ownerOrLocal, ho, ht]; omega)

/-- How an I2C transfer ends: by the pin for SDA and a free value. -/
def State.i2cEnds (s : State) (bus : Nat) : Status :=
  if (s.inputPin (0x3D + 2 * bus)).isNone then .spI2cNack
  else if Config.freeNat s.free % 4 = 1 then .spI2cNack else if Config.freeNat s.free % 4 = 2 then .spI2cTimeout
  else if Config.freeNat s.free % 4 = 3 then .spI2cArb else .ok

theorem cmdSpI2cXfer_permitted {bus speed addr wlen rlen : Nat} {data : Bytes} (ho : s.isOwnerOrLocal r.org = true) (hb : bus < 2)
    (hs : speed < 3) (ha : addr < 128) (hw : wlen ≤ 256) (hr : rlen ≤ 256) (hd : wlen ≤ data.length) :
    ∃ (u : State) (a : Answer), cmdSpI2cXfer r bus speed addr wlen rlen data s = (u, some a) ∧ u.host.busy = s.host.busy ∧
      a.status = s.i2cEnds bus := by
  rw [cmdSpI2cXfer, refuseIf_oks (by simp [State.ownerOrLocal, ho]; omega), State.i2cEnds]
  split
  · exact ⟨_, _, rfl, rfl, rfl⟩
  · extract_lets sent x y how nack
    have hx : Config.freeNat s.free = x.1 := rfl
    rw [hx]
    split
    · exact ⟨_, _, rfl, rfl, rfl⟩
    · split
      · exact ⟨_, _, rfl, rfl, rfl⟩
      · split
        exacts [⟨_, _, rfl, rfl, rfl⟩, ⟨_, _, rfl, rfl, rfl⟩]

theorem cmdSpSpiXfer_permitted {cs mode div len : Nat} {data : Bytes} (ho : s.isOwnerOrLocal r.org = true) (hc : cs < 4) (hm : mode < 4)
    (hd1 : 2 ≤ div) (hd2 : div ≤ 255) (h0 : 0 < len) (h1 : len ≤ 1024) (hl : len ≤ data.length) :
    ∃ miso, cmdSpSpiXfer r cs mode div len data s = ((s.serialOut 2 cs (data.take len)).takeNat.2, some ⟨.ok, 0, miso⟩) := by
  rw [cmdSpSpiXfer, refuseIf_oks (by simp [State.ownerOrLocal, ho]; omega)]
  dsimp only
  split
  exacts [⟨_, rfl⟩, ⟨_, rfl⟩]

end

/-- Settles O7: each row's effect; the audit and the events beside it leave the pins' registers. -/
theorem sidePinCommandsComplete : Obligations.SidePinCommandsComplete := by
  have hnext {s u : State} (hoff : s.sys.off = false) :
      (Host.Outcome.next (if s.sys.off then s else u) : Host.Outcome State Fault Refusal) = .next u :=
    congrArg Host.Outcome.next (if_neg (by simp [hoff]))
  refine ⟨fun o n func s hoff hm hf => ⟨_, hnext hoff, State.wrPinFunc_effect hm hf⟩,
    fun o n owner s hoff ho hlt hq => ⟨_, hnext hoff, State.wrPinOwner_effect ho hlt hq⟩,
    fun o b vsel s hoff ho hv hq => ⟨_, hnext hoff, State.wrBankVsel_effect ho hv hq⟩, fun b s hb => ?_,
    fun o mask s hoff => State.gpio_effect o mask hoff, fun n s hd hs => ⟨_, rfl, State.pinShorted_effect hd hs⟩,
    fun o n s hoff hm => ?_, fun s => ⟨_, rfl, State.flag_setReg_one ..⟩, fun s => ⟨_, rfl, s.strapOpen_effect⟩,
    fun u byte bad s hoff ht hp hi => ⟨_, hnext hoff, State.uartRx_effect ht hp hi⟩, fun r u baud format s hf ho hu hb1 hb2 hfm hp ht => ?_,
    fun r u len data s hf ho hu h0 h1 h2 ht => ?_, fun r u max s hf ho hu h0 h1 ht => ?_,
    fun r bus speed addr wlen rlen data s hf ho hb hs ha hw hr hd => ?_,
    fun r cs mode div len data s hf ho hc hm hd1 hd2 h0 h1 hl => ?_⟩
  · refine ⟨_, rfl, ?_⟩
    rw [State.rampDone, if_pos hb]
    exact State.flag_setReg_zero ..
  · refine ⟨_, hnext hoff, ?_⟩
    rw [State.shortClear, if_pos hm]
    exact State.flag_setReg_zero ..
  · refine completes_of_oks hf rfl fun h => ?_
    obtain ⟨t, hcmd, hbusy, hfifo, hbaud, hformat⟩ :=
      cmdSpUartCfg_permitted (s := { s with host := h }) (r := r) ho hu hb1 hb2 hfm hp ht
    have hpins : (t.done r .ok).pins = t.pins := State.pins_answer ..
    refine ⟨t, hcmd, hbusy, ?_⟩
    rw [State.uartFifo, hpins]
    exact ⟨hfifo, hbaud, hformat⟩
  · exact completes_of_oks hf rfl fun h => ⟨_, cmdSpUartSend_permitted ho hu h0 h1 h2 ht, rfl, State.out_answer ..⟩
  · obtain ⟨t, ht, a, ha, hP⟩ := answers_of_answer (c := .spUartRecv r u max) hf rfl
      (P := fun a t => a = ⟨.ok, 0, toLE 2 ((s.uartFifo u).take max).length ++ (s.uartFifo u).take max⟩ ∧
        t.uartFifo u = (s.uartFifo u).drop max)
      fun h => ⟨_, _, cmdSpUartRecv_permitted ho hu h0 h1 ht, rfl, rfl, by rw [State.uartFifo, State.pins_answer]; exact Tab.get_put_self ..⟩
    obtain ⟨rfl, hfifo⟩ := hP
    exact ⟨t, ht, congrArg (Option.map Answer.status) ha, hfifo, ha⟩
  · obtain ⟨t, ht, a, ha, hP⟩ := answers_of_answer (c := .spI2cXfer r bus speed addr wlen rlen data) hf rfl (P := fun a _ => a.status = s.i2cEnds bus) fun h => by
      obtain ⟨u, a, hcmd, hbusy, hst⟩ := cmdSpI2cXfer_permitted (s := { s with host := h }) (r := r) ho hb hs ha hw hr hd
      exact ⟨u, a, hcmd, hbusy, hst⟩
    exact ⟨t, ht, (congrArg (Option.map Answer.status) ha).trans (congrArg some hP)⟩
  · obtain ⟨t, ht, a, ha, hst, hout⟩ := answers_of_answer (c := .spSpiXfer r cs mode div len data) hf rfl
      (P := fun a t => a.status = .ok ∧ t.out = s.out ++ (data.take len).map fun b => Out.serial 2 cs b.toNat) fun h => by
        obtain ⟨miso, hcmd⟩ := cmdSpSpiXfer_permitted (s := { s with host := h }) (r := r) ho hc hm hd1 hd2 h0 h1 hl
        exact ⟨_, _, hcmd, rfl, rfl, State.out_answer ..⟩
    exact ⟨t, ht, (congrArg (Option.map Answer.status) ha).trans (congrArg some hst), hout⟩

end Sys2Proof.Machine
end

section
/-! PROOFS. Billets (R427, R428). -/

set_option Elab.async false

namespace Sys2Proof.Machine

/-! ## Billets (R427, R428) -/

/-- What holds of an element once it has been served, and is not undone by serving a later element, holds of every element. -/
theorem foldl_of_pairwise {α β : Type} {f : α → β → α} {P : β → α → Prop} {Q : β → Prop} {R : β → β → Prop}
    (hself : ∀ a x, Q x → P x (f a x)) (hkeep : ∀ a y x, R x y → P x a → P x (f a y)) :
    ∀ {l : List β} {a : α}, l.Pairwise R → (∀ x ∈ l, Q x) → ∀ {x : β}, x ∈ l → P x (l.foldl f a)
  | y :: l, a, hp, hq, x, hx => by
    obtain ⟨hyl, hl⟩ := List.pairwise_cons.1 hp
    rw [List.foldl_cons]
    rcases List.mem_cons.1 hx with rfl | hx
    · have hlast : ∀ {l : List β} {a : α}, (∀ z ∈ l, R x z) → P x a → P x (l.foldl f a) := by
        intro l
        induction l with
        | nil => exact fun _ h => h
        | cons z l ih =>
          exact fun hz h => ih (fun w hw => hz w (List.mem_cons_of_mem _ hw)) (hkeep _ z x (hz z (List.mem_cons_self ..)) h)
      exact hlast hyl (hself a x (hq x (List.mem_cons_self ..)))
    · exact foldl_of_pairwise hself hkeep hl (fun z hz => hq z (List.mem_cons_of_mem _ hz)) hx

section
variable {s t : State} {a h : Nat}

/-- A billet serves a logical BP. -/
structure State.serves (s : State) (a h k l : Nat) : Prop where
  valid : s.flag .hearthMapBilletValid (hInst a h) k = true
  lbp : s.reg .hearthMapBilletLbp (hInst a h) k = l

/-- The billets that serve a logical BP are taken out of service, one after another. -/
def State.unmapBillet (i l : Nat) (s : State) (k : Nat) : State :=
  if s.flag .hearthMapBilletValid i k ∧ s.reg .hearthMapBilletLbp i k = l then
    (s.setRecord .hearthMapBilletValid i k 0).setRecord .hearthMapBilletLbp i k 0 else s

/-- A billet that serves another BP stays in service. -/
theorem State.serves.unmapBillet {k l l' : Nat} (hs : s.serves a h k l) (hl : l ≠ l') (j : Nat) :
    (s.unmapBillet (hInst a h) l' j).serves a h k l := by
  rw [State.unmapBillet]
  split
  · next hj =>
    have hkj : j ≠ k := fun e => hl (hs.lbp.symm.trans (e ▸ hj.2))
    refine ⟨(State.flag_congr _ ?_).trans hs.valid, (?_ : _ = _).trans hs.lbp⟩ <;> simp [State.reg_setRecord, hkj]
  · exact hs

/-- A register does not read the fabric. -/
theorem State.reg_withFab (s : State) (x : Fab) (f : Fld) (i j : Nat) : ({ s with fab := x } : State).reg f i j = s.reg f i j := rfl

theorem State.mapBillet_eq (s : State) (l k : Nat) : ∃ g : Fab, s.mapBillet a h (l, k) =
    { (((List.range 32).foldl (State.unmapBillet (hInst a h) l) s).setRecord .hearthMapBilletLbp (hInst a h) k l).setRecord
      .hearthMapBilletValid (hInst a h) k 1 with fab := g } :=
  ⟨_, rfl⟩

/-- A billet that is mapped serves its logical BP. -/
theorem State.serves_mapBillet (s : State) {k l : Nat} (hl : l < 1024) : (s.mapBillet a h (l, k)).serves a h k l := by
  have hw : Fld.hearthMapBilletLbp.width = 10 := by decide +kernel
  have hv : Fld.hearthMapBilletValid.width = 1 := by decide +kernel
  obtain ⟨g, hg⟩ := s.mapBillet_eq (a := a) (h := h) l k
  rw [hg]
  refine ⟨decide_eq_true ?_, ?_⟩
  · refine (State.reg_withFab ..).trans ?_
    rw [State.reg_setRecord_self, hv]
    rfl
  · refine (State.reg_withFab ..).trans ?_
    rw [State.reg_setRecord, if_neg (by simp), State.reg_setRecord_self, hw]
    omega

/-- Another billet that serves another BP goes on serving it. -/
theorem State.serves.mapBillet {k l k' l' : Nat} (hs : s.serves a h k l) (hl : l ≠ l') (hk : k ≠ k') :
    (s.mapBillet a h (l', k')).serves a h k l := by
  obtain ⟨g, hg⟩ := s.mapBillet_eq (a := a) (h := h) l' k'
  have hfold : ((List.range 32).foldl (State.unmapBillet (hInst a h) l') s).serves a h k l :=
    foldl_of (P := fun t => State.serves t a h k l) (fun t j ht => ht.unmapBillet hl j) hs
  have hreg : ∀ f, (s.mapBillet a h (l', k')).reg f (hInst a h) k =
      ((List.range 32).foldl (State.unmapBillet (hInst a h) l') s).reg f (hInst a h) k := by
    intro f
    rw [hg]
    refine (State.reg_withFab ..).trans ?_
    rw [State.reg_setRecord, if_neg (by simp [hk.symm]), State.reg_setRecord, if_neg (by simp [hk.symm])]
  exact ⟨(State.flag_congr _ (hreg _)).trans hfold.valid, (hreg _).trans hfold.lbp⟩

/-- Billets mapped to different BPs serve them all. -/
theorem State.serves_mapBillets {ps : List (Nat × Nat)} (h1 : (ps.map Prod.fst).Nodup) (h2 : (ps.map Prod.snd).Nodup)
    (hlt : ∀ e ∈ ps, e.1 < 1024) {e : Nat × Nat} (he : e ∈ ps) : (ps.foldl (State.mapBillet a h) s).serves a h e.2 e.1 :=
  foldl_of_pairwise (P := fun e t => State.serves t a h e.2 e.1) (Q := fun e => e.1 < 1024)
    (R := fun x y => x.1 ≠ y.1 ∧ x.2 ≠ y.2)
    (fun t ⟨l, k⟩ hx => t.serves_mapBillet (l := l) (k := k) hx)
    (fun _ ⟨l', k'⟩ _ hxy hx => hx.mapBillet (l' := l') (k' := k') hxy.1 hxy.2)
    ((List.pairwise_map.1 h1).and (List.pairwise_map.1 h2)) hlt he

/-- The map of billets is that of before. -/
def State.sameBillets (s t : State) : Prop :=
  ∀ f ∈ [Fld.hearthMapBilletValid, .hearthMapBilletLbp], ∀ i j, t.reg f i j = s.reg f i j

theorem State.sameBillets_of_kept (hk : Kept (.without [.hearthMapBilletValid, .hearthMapBilletLbp] []) s t) : s.sameBillets t :=
  fun _ hf i j => hk.reg_without hf i j

theorem State.serves.same {k l : Nat} (hs : s.serves a h k l) (hst : s.sameBillets t) : t.serves a h k l :=
  ⟨(State.flag_congr _ (hst _ (by simp) ..)).trans hs.valid, (hst _ (by simp) ..).trans hs.lbp⟩

/-- Once the copies have passed, each logical BP is served by the next free billet: what follows leaves the map. -/
theorem State.copyComplete_map {i : Insertion} (hi : s.svc.insertion = some i) (hne : i.lbps ≠ [])
    (hland : ∀ p, i.part = some p → s.executing p = false ∨ s.frozen p = true) :
    ((i.lbps.zip (s.freeBillets i.anvil i.hearth)).foldl (State.mapBillet i.anvil i.hearth) s).sameBillets (s.copyComplete []) := by
  refine State.sameBillets_of_kept ?_
  delta State.copyComplete
  rw [hi]
  dsimp -zeta only
  extract_lets landed a h s1 pairs s2 s3 short s4 svc
  have h2 : Kept (.without [.hearthMapBilletValid, .hearthMapBilletLbp] []) (pairs.foldl (State.mapBillet a h) s1) s2 :=
    kept_countBillets ⟨by decide +kernel, by decide +kernel⟩ .refl
  have h3 : Kept (.without [.hearthMapBilletValid, .hearthMapBilletLbp] []) (pairs.foldl (State.mapBillet a h) s1) s3 :=
    kept_ite h2 (kept_mEvent ⟨by decide +kernel, by decide +kernel⟩ (kept_bump (by decide +kernel) h2))
  have h4 : Kept (.without [.hearthMapBilletValid, .hearthMapBilletLbp] []) (pairs.foldl (State.mapBillet a h) s1) s4 :=
    kept_billetsLow ⟨by decide +kernel, by decide +kernel⟩
      (kept_ite (kept_retireRegion ⟨by decide +kernel, by decide +kernel⟩ h3) h3)
  have hlanded : ¬((!landed) = true ∨ i.lbps = []) := by
    rintro (hl | hl)
    · cases hp : i.part with
      | none => simp [landed, hp] at hl
      | some p => rcases hland p hp with h | h <;> simp [landed, hp, h] at hl
    · exact hne hl
  rw [if_neg hlanded]
  exact kept_ite (Kept.setSvc h4 (by decide +kernel)) (kept_endInsertion ⟨by decide +kernel, by decide +kernel⟩ h4)

theorem State.nodup_freeBillets (s : State) (a h : Nat) : (s.freeBillets a h).Nodup := List.Nodup.filter _ List.nodup_range

/-- An insertion that R428 permits is asked for. -/
theorem State.billetInsertion_permitted {lbps : List Nat} (ha : a < s.grade.anvils) (hh : h < 128) (hne : lbps ≠ [])
    (hlen : lbps.length ≤ 32) (hlt : ∀ b ∈ lbps, b < 1024) (hroom : lbps.length + s.billetsAsked a h ≤ (s.freeBillets a h).length)
    (hnew : ∀ b ∈ lbps, s.insertionKnown a h b = false) : s.billetInsertion a h lbps = s.requestInsertion a h lbps none := by
  have hbig : lbps.any (fun b => decide (1024 ≤ b)) = false := List.any_eq_false.2 fun b hb => by simp [hlt b hb]
  have hknown : lbps.any (s.insertionKnown a h) = false := List.any_eq_false.2 fun b hb => by simp [hnew b hb]
  rw [State.billetInsertion, if_neg]
  rw [hbig, hknown]
  simp [hne]
  omega

/-- While one is under way, an insertion waits. -/
theorem State.requestInsertion_waits {i : Insertion} (lbps : List Nat) (ref : Option CmdRef) (hi : s.svc.insertion = some i) :
    s.requestInsertion a h lbps ref = { s with svc := { s.svc with queued := s.svc.queued ++ [(a, h, lbps, ref)] } } := by
  rw [State.requestInsertion, State.nextInsertion, hi]

end

/-- Settles O10: an insertion waits its turn in the queue or starts, and a copy that passes maps each BP to its billet. -/
theorem billetEventsComplete : Obligations.BilletEventsComplete := by
  refine ⟨fun a h lbps s ha hh hne hlen hlt hroom hnew => ⟨_, rfl, ?_⟩,
    fun i s hi hne hnodup hlt hland hroom hst => ⟨_, rfl, fun n hn k hk => ?_⟩⟩
  · rw [State.billetInsertion_permitted ha hh hne hlen hlt hroom hnew]
    refine ⟨fun hsome => ?_, fun hnone hq hd => s.insertion_requestInsertion lbps none hnone hq hd⟩
    obtain ⟨i, hi⟩ := Option.isSome_iff_exists.1 hsome
    rw [State.requestInsertion_waits lbps none hi]
    exact ⟨rfl, rfl⟩
  · have hzip : n < (i.lbps.zip (s.freeBillets i.anvil i.hearth)).length := by
      rw [List.length_zip]
      omega
    have hfst : (i.lbps.zip (s.freeBillets i.anvil i.hearth)).map Prod.fst = i.lbps := List.map_fst_zip hroom
    have hsnd : ((i.lbps.zip (s.freeBillets i.anvil i.hearth)).map Prod.snd).Nodup := by
      rw [List.zip_eq_zip_take_min, List.map_snd_zip (by simp)]
      exact (s.nodup_freeBillets ..).sublist (List.take_sublist ..)
    have hmem : (i.lbps.getD n 0, k) ∈ i.lbps.zip (s.freeBillets i.anvil i.hearth) := by
      rw [hk]
      have hget := List.getElem_mem hzip
      rw [List.getElem_zip] at hget
      rwa [List.getD_eq_getElem _ _ hn, List.getD_eq_getElem _ _ (by omega)]
    have hbound : ∀ e ∈ i.lbps.zip (s.freeBillets i.anvil i.hearth), e.1 < 1024 := fun e he => hlt _ (List.of_mem_zip he).1
    have hserves := (State.serves_mapBillets (a := i.anvil) (h := i.hearth) (s := s) (by rwa [hfst]) hsnd hbound hmem).same
      (State.copyComplete_map hi hne hland)
    exact ⟨hserves.valid, hserves.lbp⟩

end Sys2Proof.Machine
end

section
/-! PROOFS. Waltline (R329 to R353): records and registers, commands, bring-up, traffic. -/

set_option Elab.async false

namespace Sys2Proof.Machine

/-! ## Waltline: what its operations leave of its records -/

section
variable {s t u : State}

/-- A bundle's record but for its partner. -/
def Bundle.sansPartner (x : Bundle) : Bundle := { x with partner := none }

theorem Bundle.spare_sansPartner (x : Bundle) : x.sansPartner.spare = x.spare := rfl

theorem Bundle.spareWaits_sansPartner (x : Bundle) : x.sansPartner.spareWaits = x.spareWaits := rfl

theorem Bundle.bankReq_sansPartner (x : Bundle) : x.sansPartner.bankReq = x.bankReq := rfl

theorem Bundle.bankWaits_sansPartner (x : Bundle) : x.sansPartner.bankWaits = x.bankWaits := rfl

/-- The records of lanes and streams, and those of bundles but for the partner, are those of before. -/
structure State.sameRecords (s t : State) : Prop where
  lanes : t.wl.lanes = s.wl.lanes
  streams : t.wl.streams = s.wl.streams
  bundles : ∀ b, (t.bundle b).sansPartner = (s.bundle b).sansPartner

namespace State.sameRecords

theorem refl (s : State) : s.sameRecords s := ⟨rfl, rfl, fun _ => rfl⟩

theorem trans (h : s.sameRecords t) (g : t.sameRecords u) : s.sameRecords u :=
  ⟨g.lanes.trans h.lanes, g.streams.trans h.streams, fun b => (g.bundles b).trans (h.bundles b)⟩

theorem of_wl (h : t.wl = s.wl) : s.sameRecords t :=
  ⟨congrArg Wl.lanes h, congrArg Wl.streams h, fun b => by rw [State.bundle, State.bundle, h]⟩

theorem ite {c : Prop} [Decidable c] (h : s.sameRecords t) (g : s.sameRecords u) : s.sameRecords (if c then t else u) := by
  split
  exacts [h, g]

theorem foldl {β : Type} {f : State → β → State} (hf : ∀ t x, State.sameRecords t (f t x)) (l : List β) (s : State) :
    s.sameRecords (l.foldl f s) :=
  foldl_of (P := s.sameRecords) (fun t x h => h.trans (hf t x)) (.refl s)

theorem modLog (s : State) (b i : Nat) (f : LogLane → LogLane) : s.sameRecords (s.modLog b i f) := ⟨rfl, rfl, fun _ => rfl⟩

theorem lane (h : s.sameRecords t) (l : Nat) : t.lane l = s.lane l := by rw [State.lane, State.lane, h.lanes]

theorem stream (h : s.sameRecords t) (k : Nat) : t.stream k = s.stream k := by rw [State.stream, State.stream, h.streams]

theorem spare (h : s.sameRecords t) (b : Nat) : (t.bundle b).spare = (s.bundle b).spare := by
  rw [← Bundle.spare_sansPartner, h.bundles b, Bundle.spare_sansPartner]

theorem spareWaits (h : s.sameRecords t) (b : Nat) : (t.bundle b).spareWaits = (s.bundle b).spareWaits := by
  rw [← Bundle.spareWaits_sansPartner, h.bundles b, Bundle.spareWaits_sansPartner]

theorem bankReq (h : s.sameRecords t) (b : Nat) : (t.bundle b).bankReq = (s.bundle b).bankReq := by
  rw [← Bundle.bankReq_sansPartner, h.bundles b, Bundle.bankReq_sansPartner]

theorem bankWaits (h : s.sameRecords t) (b : Nat) : (t.bundle b).bankWaits = (s.bundle b).bankWaits := by
  rw [← Bundle.bankWaits_sansPartner, h.bundles b, Bundle.bankWaits_sansPartner]

end State.sameRecords

/-- The records of Waltline, but for partners of bundles, are those of before. -/
structure State.sameWl (s t : State) : Prop where
  records : s.sameRecords t
  logs : t.wl.logs = s.wl.logs

namespace State.sameWl

theorem refl (s : State) : s.sameWl s := ⟨.refl s, rfl⟩

theorem trans (h : s.sameWl t) (g : t.sameWl u) : s.sameWl u := ⟨h.records.trans g.records, g.logs.trans h.logs⟩

theorem of_wl (h : t.wl = s.wl) : s.sameWl t := ⟨.of_wl h, congrArg Wl.logs h⟩

theorem of_kept (h : Kept (.without [] [.wl]) s t) : s.sameWl t := .of_wl (h.part_without (k := .wl) (List.mem_singleton_self _))

theorem ite {c : Prop} [Decidable c] (h : s.sameWl t) (g : s.sameWl u) : s.sameWl (if c then t else u) := by
  split
  exacts [h, g]

theorem foldl {β : Type} {f : State → β → State} (hf : ∀ t x, State.sameWl t (f t x)) (l : List β) (s : State) : s.sameWl (l.foldl f s) :=
  foldl_of (P := s.sameWl) (fun t x h => h.trans (hf t x)) (.refl s)

theorem log (h : s.sameWl t) (b i : Nat) : t.log b i = s.log b i := by rw [State.log, State.log, h.logs]

end State.sameWl

@[simp] theorem State.lane_modLane_self (s : State) (l : Nat) (f : Lane → Lane) : (s.modLane l f).lane l = f (s.lane l) := Tab.get_put_self ..

@[simp] theorem State.bundle_modBundle_self (s : State) (b : Nat) (f : Bundle → Bundle) : (s.modBundle b f).bundle b = f (s.bundle b) :=
  Tab.get_put_self ..

theorem State.bundle_modBundle_other {b c : Nat} (h : c ≠ b) (s : State) (f : Bundle → Bundle) :
    (s.modBundle b f).bundle c = s.bundle c := Tab.get_put_other (by simpa using Ne.symm h)

@[simp] theorem State.log_modLog_self (s : State) (b i : Nat) (f : LogLane → LogLane) : (s.modLog b i f).log b i = f (s.log b i) :=
  Tab.get_put_self ..

theorem State.log_modLog_other {b i c j : Nat} (h : ¬(c = b ∧ j = i)) (s : State) (f : LogLane → LogLane) :
    (s.modLog b i f).log c j = s.log c j := Tab.get_put_other (by simpa [eq_comm] using h)

@[simp] theorem State.stream_modStream_self (s : State) (k : Nat) (f : Stream → Stream) : (s.modStream k f).stream k = f (s.stream k) :=
  Tab.get_put_self ..

end

/-! ## Waltline: lanes that change their state -/

section
variable {s t : State}

theorem State.sameRecords_dropPartner (s : State) (b : Nat) : s.sameRecords (s.modBundle b fun x => { x with partner := none }) := by
  refine ⟨rfl, rfl, fun c => ?_⟩
  by_cases h : c = b
  · rw [h, State.bundle_modBundle_self]
    rfl
  · rw [State.bundle_modBundle_other h]

theorem State.sameWl_strEvent (e : Nat) (s : State) (k : Nat) : s.sameWl (State.strEvent e s k) :=
  .of_kept (kept_strEvent ⟨by decide +kernel, by decide +kernel⟩ .refl)

theorem State.sameWl_strEventOn (s : State) (b e : Nat) : s.sameWl (s.strEventOn b e) :=
  .of_kept (kept_strEventOn ⟨by decide +kernel, by decide +kernel⟩ .refl)

theorem State.sameWl_mEvent (s : State) (k st d : Nat) : s.sameWl (s.mEvent k st d) :=
  .of_kept (kept_mEvent ⟨by decide +kernel, by decide +kernel⟩ .refl)

theorem State.sameWl_mError (s : State) (st : Status) (d : Nat) : s.sameWl (s.mError st d) := s.sameWl_mEvent ..

theorem State.sameWl_condition (s : State) (n : Nat) : s.sameWl (s.condition n) :=
  .of_kept (kept_condition ⟨by decide +kernel, by decide +kernel⟩ .refl)

theorem State.sameWl_doneAll (s : State) (rs : List CmdRef) (st : Status) : s.sameWl (s.doneAll rs st) :=
  .of_kept (kept_doneAll ⟨by decide +kernel, by decide +kernel⟩ .refl)

theorem State.sameWl_spareAsk (s : State) (b i : Nat) (ret : Bool) : s.sameWl (s.spareAsk b i ret) :=
  .of_kept (kept_spareAsk ⟨by decide +kernel, by decide +kernel⟩ .refl)

theorem State.sameWl_blockAll (s : State) (b type : Nat) (body : Bytes) : s.sameWl (s.blockAll b type body) :=
  .of_kept (kept_blockAll ⟨by decide +kernel, by decide +kernel⟩ .refl)

theorem State.sameWl_updateBundle (s : State) (b : Nat) : s.sameWl (s.updateBundle b) := by
  delta State.updateBundle
  extract_lets old now s1 s2
  have h1 : s.sameWl s1 := .of_wl rfl
  have h2 : s.sameWl s2 := h1.trans (.trans ⟨s1.sameRecords_dropPartner b, rfl⟩ (State.sameWl_strEventOn ..))
  exact .ite (.ite h2 (h2.trans (State.sameWl_mError ..))) h1

theorem State.sameWl_toLane (s : State) (l st code : Nat) : s.sameWl (s.toLane l st code) := by
  delta State.toLane
  extract_lets s0 s1
  have h1 : s.sameWl s1 := .ite (.of_wl rfl) (.of_wl rfl)
  exact .ite (h1.trans (State.sameWl_mEvent ..)) h1

theorem State.sameWl_laneTo (s : State) (l st code : Nat) : s.sameWl (s.laneTo l st code) :=
  (s.sameWl_toLane l st code).trans (.foldl (fun t b => t.sameWl_updateBundle b) ..)

theorem State.sameRecords_sendOn (s : State) (b i l : Nat) (h p : Bytes) : s.sameRecords (s.sendOn b i l h p) := ⟨rfl, rfl, fun _ => rfl⟩

theorem State.sameRecords_moveFrames (s : State) (b i : Nat) : s.sameRecords (s.moveFrames b i) := by
  refine .foldl (fun t f => ?_) ..
  split
  · exact .refl t
  · exact (State.sameRecords_sendOn ..).trans (.modLog ..)

theorem State.sameRecords_moveWaiting (s : State) (b : Nat) : s.sameRecords (s.moveWaiting b) :=
  .foldl (fun t _ => .ite (t.sameRecords_moveFrames ..) (.refl t)) ..

theorem State.sameRecords_laneFails (s : State) (b i l : Nat) : s.sameRecords (s.laneFails b i l) := by
  delta State.laneFails
  extract_lets code s1
  have h1 : s.sameRecords s1 :=
    ((s.sameWl_laneTo l LaneSt.failed code).trans (.trans (State.sameWl_mError ..) (State.sameWl_condition ..))).records
  exact h1.trans (.trans (.modLog ..) (State.sameRecords_moveFrames ..))

/-- A lane fault on a spare lane fails it, and asks for nothing. -/
theorem State.sameRecords_laneFault {l : Nat} (h : 64 ≤ l) (s : State) (forced : Bool) : s.sameRecords (s.laneFault l forced).1 := by
  delta State.laneFault
  extract_lets b i
  split
  · exact .refl s
  · rw [if_neg (by omega), if_neg (by omega)]
    exact s.sameRecords_laneFails b i l

/-- The records of lanes stay, whatever a fault asks for. -/
theorem State.lanes_laneFault (s : State) (l : Nat) (forced : Bool) : (s.laneFault l forced).1.wl.lanes = s.wl.lanes := by
  delta State.laneFault
  extract_lets b i
  split
  · rfl
  · split
    · rfl
    · split
      · exact (State.sameWl_spareAsk ..).records.lanes
      · exact (s.sameRecords_laneFails b i l).lanes

/-! ### The state of a lane -/

/-- The states of lanes are those of before. -/
theorem State.laneSt_of_kept (h : Kept (.without [.wlTrainState] []) s t) (l : Nat) : t.laneSt l = s.laneSt l :=
  h.reg_without (List.mem_singleton_self _) l 0

theorem State.laneSt_toLane (s : State) (l st code x : Nat) : (s.toLane l st code).laneSt x = if l = x then st % 16 else s.laneSt x := by
  have hw : 2 ^ Fld.wlTrainState.width = 16 := by decide +kernel
  have hk : Kept (.without [.wlTrainState] []) (s.setReg .wlTrainState l 0 st) (s.toLane l st code) := by
    delta State.toLane
    extract_lets s0 s1
    have h1 : Kept (.without [.wlTrainState] []) s0 s1 := kept_ite (kept_blockOut ⟨by decide +kernel, by decide +kernel⟩ .refl) .refl
    exact kept_ite (kept_mEvent ⟨by decide +kernel, by decide +kernel⟩ h1) h1
  rw [State.laneSt_of_kept hk, State.laneSt, State.reg_setReg, hw]
  simp [State.laneSt]

theorem State.laneSt_updateBundle (s : State) (b l : Nat) : (s.updateBundle b).laneSt l = s.laneSt l :=
  State.laneSt_of_kept (kept_updateBundle ⟨by decide +kernel, by decide +kernel⟩ .refl) l

theorem State.laneSt_laneTo_self {st : Nat} (h : st < 16) (s : State) (l code : Nat) : (s.laneTo l st code).laneSt l = st := by
  rw [State.laneTo, foldl_of (P := fun t : State => t.laneSt l = (s.toLane l st code).laneSt l)
    (fun t b ht => (t.laneSt_updateBundle b l).trans ht) rfl, State.laneSt_toLane, if_pos rfl, Nat.mod_eq_of_lt h]

theorem State.laneSt_laneFails (s : State) (b i l : Nat) : (s.laneFails b i l).laneSt l = LaneSt.failed := by
  delta State.laneFails
  extract_lets code s1
  have hk : Kept (.without [.wlTrainState] []) (s.laneTo l LaneSt.failed code)
      ((s1.modLog b i fun x => { x with moving := true }).moveFrames b i) :=
    kept_moveFrames ⟨by decide +kernel, by decide +kernel⟩ (kept_modLog ⟨by decide +kernel, by decide +kernel⟩
      (kept_condition ⟨by decide +kernel, by decide +kernel⟩ (kept_mError ⟨by decide +kernel, by decide +kernel⟩ .refl)))
  rw [State.laneSt_of_kept hk, State.laneSt_laneTo_self (by decide)]

theorem State.laneSt_laneDetect (s : State) (l : Nat) : (s.laneDetect l).laneSt l = LaneSt.detect :=
  State.laneSt_laneTo_self (by decide) ..

theorem State.laneSt_retrain (s : State) (l : Nat) : (s.retrain l).laneSt l = LaneSt.detect := State.laneSt_laneDetect ..

end

/-! ## Waltline: its commands (R330, R347, R349 to R351, R353) -/

section
variable {s : State} {r : CmdRef} {k l b : Nat}

theorem State.bundleOf_low (s : State) (h : l < 64) : s.bundleOf l = l / 8 := if_pos h

theorem mem_bundlesOf_spareOf (b : Nat) : b ∈ bundlesOf (spareOf b) := by
  rw [bundlesOf, spareOf, if_neg (by omega)]
  simp
  omega

/-- A spare that can be asked for has no request under way. -/
theorem State.spare_of_spareFree (h : s.spareFree b = true) : (s.bundle b).spare = none := by
  rw [State.spareFree, Bool.and_eq_true] at h
  simpa using List.all_eq_true.1 h.2 b (mem_bundlesOf_spareOf b)

/-- Fields of a block set, one after another. -/
def State.setFields (s : State) (k : Nat) (l : List (Fld × Nat)) : State := l.foldl (fun s e => s.setReg e.1 k 0 e.2) s

theorem State.reg_setFields_out {f : Fld} (l : List (Fld × Nat)) (s : State) (h : ∀ e ∈ l, e.1 ≠ f) :
    (s.setFields k l).reg f k 0 = s.reg f k 0 := by
  induction l generalizing s with
  | nil => rfl
  | cons e l ih =>
    refine (ih (s.setReg e.1 k 0 e.2) fun x hx => h x (List.mem_cons_of_mem _ hx)).trans ?_
    rw [State.reg_setReg_fld _ (h e (List.mem_cons_self ..))]

/-- A field set once reads as what it was set to. -/
theorem State.reg_setFields {f : Fld} {v : Nat} {l : List (Fld × Nat)} (s : State) (hm : (f, v) ∈ l) (hn : (l.map Prod.fst).Nodup) :
    (s.setFields k l).reg f k 0 = v % 2 ^ f.width := by
  induction l generalizing s with
  | nil => cases hm
  | cons e l ih =>
    rw [List.map_cons, List.nodup_cons] at hn
    rcases List.mem_cons.1 hm with rfl | hm
    · refine (State.reg_setFields_out l (s.setReg f k 0 v) fun e he h => hn.1 ?_).trans (State.reg_setReg_self ..)
      have hmem := List.mem_map_of_mem (f := Prod.fst) he
      rwa [h] at hmem
    · exact ih (s.setReg e.1 k 0 e.2) hm hn.2

/-- The fields of a binding. -/
def bindFields (p home bundles inEn outEn : Nat) : List (Fld × Nat) :=
  [(.wlStreamBindValid, 1), (.wlStreamBindInEn, inEn), (.wlStreamBindOutEn, outEn), (.wlStreamBindPrimary, home),
    (.wlStreamBindPart, p), (.wlStreamBindBundles, bundles), (.wlStreamInLimit, 512), (.wlStreamOutSseq, 0), (.wlStreamOutLimit, 0),
    (.wlStreamOutGen, 0), (.wlStreamInGen, 0)]

/-- A stream that R353 lets be bound. -/
theorem cmdWlStreamBind_permitted {p bundles inEn outEn : Nat} (ho : s.isOwner r.org = true) (hp : s.pExists p = true) (hk : k < 32)
    (hb : bit bundles (s.homeAnvil p) = true) (hlt : bundles < 2 ^ s.grade.anvils) (hin : inEn < 2) (hout : outEn < 2)
    (hm : s.mode p = Mode.loading ∨ s.mode p = Mode.ready) (hv : s.flag .wlStreamBindValid k 0 = false)
    (hr : s.routeClash (bindingLinks bundles (s.homeAnvil p) (decide (inEn = 1)) (decide (outEn = 1))) = false) :
    cmdWlStreamBind r k p bundles inEn outEn s =
      ((s.setFields k (bindFields p (s.homeAnvil p) bundles inEn outEn)).modStream k
        fun x => { Stream.init with received := x.received }).oks := by
  have hp32 : p < 32 := by
    rw [State.pExists, Bool.and_eq_true] at hp
    exact of_decide_eq_true hp.1
  have hmode : decide (s.mode p ≠ Mode.loading ∧ s.mode p ≠ Mode.ready) = false := by rcases hm with h | h <;> simp [h]
  rw [cmdWlStreamBind, refuseIf_oks (by simp [hmode, hr, hb, hp, hv, State.ownerOnly, ho]; omega)]
  rfl

theorem State.reg_modStream (s : State) (k : Nat) (g : Stream → Stream) (f : Fld) (i j : Nat) :
    (s.modStream k g).reg f i j = s.reg f i j := rfl

/-- The fields of a binding, given up. -/
def unbindFields : List (Fld × Nat) := [(.wlStreamBindValid, 0), (.wlStreamBindInEn, 0), (.wlStreamBindOutEn, 0),
  (.wlStreamBindPrimary, 0), (.wlStreamBindPart, 0), (.wlStreamBindBundles, 0)]

theorem State.unbind_eq (s : State) (k : Nat) : ∃ t : State, s.unbind k = (t.setFields k unbindFields).modStream k
    fun x => { Stream.init with received := x.received } := ⟨_, rfl⟩

theorem State.flag_unbind (s : State) (k : Nat) : (s.unbind k).flag .wlStreamBindValid k 0 = false := by
  obtain ⟨t, ht⟩ := s.unbind_eq k
  rw [ht, State.flag, State.reg_modStream, State.reg_setFields (f := .wlStreamBindValid) (v := 0) t (by simp [unbindFields]) (by decide)]
  simp

theorem State.busy_unbind (s : State) (k : Nat) : (s.unbind k).host.busy = s.host.busy :=
  (Kept.part_without (fs := []) (ks := [.commands]) (k := .commands) (kept_unbind ⟨by decide +kernel, by decide +kernel⟩ .refl)
    (List.mem_singleton_self _)).2.1

/-- A stream that is not bound, or may be unbound, is not bound afterwards. -/
theorem cmdWlStreamUnbind_permitted (ho : s.isOwner r.org = true) (hk : k < 32) (hm : s.flag .wlStreamBindValid k 0 = true →
      s.mode (s.reg .wlStreamBindPart k 0) = Mode.loading ∨ s.mode (s.reg .wlStreamBindPart k 0) = Mode.ready) :
    ∃ t : State, cmdWlStreamUnbind r k s = t.oks ∧ t.host.busy = s.host.busy ∧ t.flag .wlStreamBindValid k 0 = false := by
  rw [cmdWlStreamUnbind, refuseIf_oks (by simp [State.ownerOnly, ho]; omega)]
  cases hv : s.flag .wlStreamBindValid k 0 with
  | false => exact ⟨s, if_pos rfl, rfl, hv⟩
  | true =>
    have hmode : ¬(s.mode (s.reg .wlStreamBindPart k 0) ≠ Mode.loading ∧ s.mode (s.reg .wlStreamBindPart k 0) ≠ Mode.ready) := by
      rcases hm hv with h | h <;> simp [h]
    exact ⟨s.unbind k, (if_neg (by simp)).trans (if_neg hmode), s.busy_unbind k, s.flag_unbind k⟩

/-- What stands against every action of WL_LANE_CTL is not there. -/
theorem cmdWlLaneCtl_eq {action : Nat} (ho : s.isOwnerOrLocal r.org = true) (hon : s.laneOn l = true) (ha : action < 5) :
    cmdWlLaneCtl r l action s =
      if action = 0 then (if s.laneSt l = LaneSt.disabled then s.says .wlState else (s.retrain l).oks)
      else if action = 1 then
        if (s.laneSt l = LaneSt.disabled ∨ s.laneSt l = LaneSt.active ∨ s.laneSt l = LaneSt.failed) ∧ !s.laneUsed l then
          (s.laneTo l LaneSt.prbs 0).oks
        else s.says .wlState
      else if action = 2 then
        if s.laneSt l = LaneSt.prbs then ((if s.flag .wlPrbsLock l 0 then s.prbsCount l 0 else s).laneDetect l).oks else s.says .wlState
      else if action = 3 then
        if l < 64 ∧ s.logical l < 8 ∧ (s.laneSt l = LaneSt.active ∨ s.laneSt l = LaneSt.failed) then
          if (s.laneFault l true).2 then
            ((s.laneFault l true).1.modBundle (s.bundleOf l) (fun y => { y with spareWaits := y.spareWaits ++ [r] })).waits
          else (s.laneFault l true).1.says .wlSpareNone
        else s.says .wlState
      else if l < 64 ∧ s.laneSt l = LaneSt.active ∧ s.logical l = 15 ∧ s.reg .wlBundleSpareFor (s.bundleOf l) 0 = l % 8 ∧
          (s.bundle (s.bundleOf l)).spare.isNone then
        ((s.modBundle (s.bundleOf l) (fun y => { y with spare := some (l % 8, true), spareWaits := y.spareWaits ++ [r] })).spareAsk
          (s.bundleOf l) (l % 8) true).waits
      else s.says .wlState := by
  have hg : Grade.hasLane s.grade l = true := by
    rw [State.laneOn, Bool.and_eq_true] at hon
    exact hon.1
  rw [cmdWlLaneCtl, refuseIf_oks (by simp [State.ownerOrLocal, ho, hon, hg]; omega)]

/-- A fault that is forced asks for a spare that is free. -/
theorem State.laneFault_asks (hl : l < 64) (hi : s.logical l < 8) (hf : s.spareFree (l / 8) = true) :
    s.laneFault l true =
      ((s.modBundle (l / 8) (fun x => { x with spare := some (s.logical l, false) })).spareAsk (l / 8) (s.logical l) false, true) := by
  have hnone := s.spare_of_spareFree hf
  delta State.laneFault
  extract_lets b i
  have hb : b = l / 8 := s.bundleOf_low hl
  rw [hb]
  rw [if_neg (by omega), if_neg (by simp [hnone]), if_pos ⟨.inr rfl, hl, hf⟩]

/-- A bundle that is told to leave BANKED is not BANKED. -/
theorem State.flag_bankExit (s : State) (b : Nat) : (s.bankExit b).flag .wlBundleBanked b 0 = false := by
  rw [State.bankExit]
  split
  · refine (State.flag_congr _ (Kept.reg_without (fs := [.wlBundleBanked]) (ks := []) ?_ (List.mem_singleton_self _) b 0)).trans
      (s.flag_setReg_zero .wlBundleBanked b 0)
    exact kept_foldl (fun _ _ h => kept_toLane ⟨by decide +kernel, by decide +kernel⟩ h) .refl
  · next h => simpa using h

theorem cmdWlBank_leave (ho : s.isOwnerOrLocal r.org = true) (hb : b < s.grade.anvils) : cmdWlBank r b 0 s = (s.bankExit b).oks := by
  rw [cmdWlBank, refuseIf_oks (by simp [State.ownerOrLocal, ho, hb])]
  rfl

theorem cmdWlBank_enter (ho : s.isOwnerOrLocal r.org = true) (hb : b < s.grade.anvils) (hbusy : s.bankBusy b = false)
    (ha : s.activeLanes b ≠ []) : cmdWlBank r b 1 s =
      ((s.blockAll b 0xE1 (toLE 1 1 ++ zeros 5)).modBundle b (fun x => { x with bankReq := true, bankWaits := x.bankWaits ++ [r] })).waits := by
  rw [cmdWlBank, refuseIf_oks (by simp [State.ownerOrLocal, ho, hb, hbusy, ha])]
  rfl

end

section
variable {s t : State} {r : CmdRef} {k l b : Nat}

/-- What leaves the commands under way leaves those that are BUSY. -/
theorem State.busy_of_kept (h : Kept (.without [] [.commands]) s t) : t.host.busy = s.host.busy :=
  (h.part_without (k := .commands) (List.mem_singleton_self _)).2.1

theorem State.flag_done (s : State) (r : CmdRef) (st : Status) (f : Fld) (i j : Nat) : (s.done r st).flag f i j = s.flag f i j :=
  State.flag_congr _ (State.reg_done ..)

theorem State.laneSt_done (s : State) (r : CmdRef) (st : Status) (l : Nat) : (s.done r st).laneSt l = s.laneSt l := State.reg_done ..

/-- Binding a stream. -/
theorem completes_wlStreamBind {p bundles inEn outEn : Nat} (hf : s.fresh r = true) (ho : s.isOwner r.org = true)
    (hp : s.pExists p = true) (hk : k < 32) (hb : bit bundles (s.homeAnvil p) = true) (hlt : bundles < 2 ^ s.grade.anvils)
    (hin : inEn < 2) (hout : outEn < 2) (hm : s.mode p = Mode.loading ∨ s.mode p = Mode.ready)
    (hv : s.flag .wlStreamBindValid k 0 = false)
    (hr : s.routeClash (bindingLinks bundles (s.homeAnvil p) (decide (inEn = 1)) (decide (outEn = 1))) = false) :
    Completes (.wlStreamBind r k p bundles inEn outEn) r s fun t => t.flag .wlStreamBindValid k 0 = true ∧
      t.reg .wlStreamBindPart k 0 = p ∧ t.reg .wlStreamBindBundles k 0 = bundles ∧ t.reg .wlStreamInLimit k 0 = 512 ∧
      t.reg .wlStreamOutLimit k 0 = 0 ∧ t.reg .wlStreamOutSseq k 0 = 0 := by
  refine completes_of_oks hf rfl fun h => ⟨_, cmdWlStreamBind_permitted (s := { s with host := h }) ho hp hk hb hlt hin hout hm hv hr, rfl, ?_⟩
  have hp32 : p < 32 := by
    rw [State.pExists, Bool.and_eq_true] at hp
    exact of_decide_eq_true hp.1
  have h8 : s.grade.anvils ≤ 8 := by cases s.grade <;> decide
  have hlt8 : bundles < 2 ^ 8 := lt_of_lt_of_le hlt (Nat.pow_le_pow_right (by decide) h8)
  have hfld : ∀ f v, (f, v) ∈ bindFields p (s.homeAnvil p) bundles inEn outEn → v < 2 ^ f.width →
      ((((({ s with host := h } : State).setFields k (bindFields p (s.homeAnvil p) bundles inEn outEn)).modStream k
        fun x => { Stream.init with received := x.received })).done r .ok).reg f k 0 = v := by
    intro f v hm hw
    have hn : ((bindFields p (s.homeAnvil p) bundles inEn outEn).map Prod.fst).Nodup := by
      simp only [bindFields, List.map_cons, List.map_nil]
      decide
    rw [State.reg_done, State.reg_modStream, State.reg_setFields _ hm hn, Nat.mod_eq_of_lt hw]
  have hw5 : Fld.wlStreamBindPart.width = 5 := by decide +kernel
  have hw8 : Fld.wlStreamBindBundles.width = 8 := by decide +kernel
  exact ⟨decide_eq_true (hfld _ _ (by simp [bindFields]) (by decide +kernel)), hfld _ _ (by simp [bindFields]) (hw5 ▸ hp32),
    hfld _ _ (by simp [bindFields]) (hw8 ▸ hlt8), hfld _ _ (by simp [bindFields]) (by decide +kernel),
    hfld _ _ (by simp [bindFields]) (by decide +kernel), hfld _ _ (by simp [bindFields]) (by decide +kernel)⟩

/-- An action that takes a lane to another state. -/
theorem completes_wlLaneCtl {action st : Nat} (hf : s.fresh r = true)
    (H : ∀ h : HostIf, ∃ u : State, cmdWlLaneCtl r l action { s with host := h } = u.oks ∧ u.host.busy = h.busy ∧ u.laneSt l = st) :
    Completes (.wlLaneCtl r l action) r s fun t => t.laneSt l = st := by
  refine completes_of_oks hf rfl fun h => ?_
  obtain ⟨u, hu, hbusy, hst⟩ := H h
  exact ⟨u, hu, hbusy, (State.laneSt_done ..).trans hst⟩

theorem completes_wlLaneCtl_retrain (hf : s.fresh r = true) (ho : s.isOwnerOrLocal r.org = true) (hon : s.laneOn l = true)
    (hd : s.laneSt l ≠ LaneSt.disabled) : Completes (.wlLaneCtl r l 0) r s fun t => t.laneSt l = LaneSt.detect :=
  completes_wlLaneCtl hf fun h => ⟨State.retrain { s with host := h } l,
    (cmdWlLaneCtl_eq (s := { s with host := h }) ho hon (by decide)).trans ((if_pos rfl).trans (if_neg hd)),
    State.busy_of_kept (kept_retrain ⟨by decide +kernel, by decide +kernel⟩ .refl), State.laneSt_retrain ..⟩

theorem completes_wlLaneCtl_prbs (hf : s.fresh r = true) (ho : s.isOwnerOrLocal r.org = true) (hon : s.laneOn l = true)
    (hst : s.laneSt l = LaneSt.disabled ∨ s.laneSt l = LaneSt.active ∨ s.laneSt l = LaneSt.failed) (hu : s.laneUsed l = false) :
    Completes (.wlLaneCtl r l 1) r s fun t => t.laneSt l = LaneSt.prbs :=
  completes_wlLaneCtl hf fun h => ⟨State.laneTo { s with host := h } l LaneSt.prbs 0,
    (cmdWlLaneCtl_eq (s := { s with host := h }) ho hon (by decide)).trans
      ((if_neg (by decide)).trans ((if_pos rfl).trans (if_pos ⟨hst, by rw [Bool.not_eq_true']; exact hu⟩))),
    State.busy_of_kept (kept_laneTo ⟨by decide +kernel, by decide +kernel⟩ .refl), State.laneSt_laneTo_self (by decide) ..⟩

theorem completes_wlLaneCtl_leave (hf : s.fresh r = true) (ho : s.isOwnerOrLocal r.org = true) (hon : s.laneOn l = true)
    (hst : s.laneSt l = LaneSt.prbs) : Completes (.wlLaneCtl r l 2) r s fun t => t.laneSt l = LaneSt.detect :=
  completes_wlLaneCtl hf fun h => ⟨_, (cmdWlLaneCtl_eq (s := { s with host := h }) ho hon (by decide)).trans
      ((if_neg (by decide)).trans ((if_neg (by decide)).trans ((if_pos rfl).trans (if_pos hst)))),
    State.busy_of_kept (kept_laneDetect ⟨by decide +kernel, by decide +kernel⟩
      (kept_ite (kept_prbsCount ⟨by decide +kernel, by decide +kernel⟩ .refl) .refl)), State.laneSt_laneDetect ..⟩

/-- The spare is asked for. -/
theorem cmdWlLaneCtl_asks (ho : s.isOwnerOrLocal r.org = true) (hon : s.laneOn l = true) (hl : l < 64) (hi : s.logical l < 8)
    (hst : s.laneSt l = LaneSt.active) (hfree : s.spareFree (l / 8) = true) :
    ∃ u : State, cmdWlLaneCtl r l 3 s = u.waits ∧ (u.bundle (l / 8)).spare = some (s.logical l, false) ∧
      r ∈ (u.bundle (l / 8)).spareWaits := by
  refine ⟨_, (cmdWlLaneCtl_eq ho hon (by decide)).trans ((if_neg (by decide)).trans ((if_neg (by decide)).trans ((if_neg (by decide)).trans
    ((if_pos rfl).trans ((if_pos ⟨hl, hi, .inl hst⟩).trans (if_pos (by rw [s.laneFault_asks hl hi hfree]))))))), ?_⟩
  rw [s.bundleOf_low hl, State.bundle_modBundle_self, s.laneFault_asks hl hi hfree]
  refine ⟨((State.sameWl_spareAsk ..).records.spare _).trans ?_, List.mem_append_right _ (List.mem_singleton_self r)⟩
  rw [State.bundle_modBundle_self]

/-- The lane is asked to be given back. -/
theorem cmdWlLaneCtl_returns (ho : s.isOwnerOrLocal r.org = true) (hon : s.laneOn l = true) (hl : l < 64)
    (hst : s.laneSt l = LaneSt.active) (hi : s.logical l = 15) (hfor : s.reg .wlBundleSpareFor (l / 8) 0 = l % 8)
    (hnone : (s.bundle (l / 8)).spare = none) :
    ∃ u : State, cmdWlLaneCtl r l 4 s = u.waits ∧ (u.bundle (l / 8)).spare = some (l % 8, true) ∧ r ∈ (u.bundle (l / 8)).spareWaits := by
  have hb := s.bundleOf_low hl
  refine ⟨_, (cmdWlLaneCtl_eq ho hon (by decide)).trans ((if_neg (by decide)).trans ((if_neg (by decide)).trans ((if_neg (by decide)).trans
    ((if_neg (by decide)).trans (if_pos ⟨hl, hst, hi, by rw [hb, hfor], by rw [hb, hnone]; rfl⟩))))), ?_⟩
  have hsame := State.sameWl_spareAsk (s.modBundle (s.bundleOf l) fun y => { y with
    spare := some (l % 8, true), spareWaits := y.spareWaits ++ [r] }) (s.bundleOf l) (l % 8) true
  rw [hsame.records.spare, hsame.records.spareWaits, hb, State.bundle_modBundle_self]
  exact ⟨rfl, List.mem_append_right _ (List.mem_singleton_self r)⟩

end

/-- Settles O13: each command that is permitted has its effect, the answer beside it leaving registers and records. -/
theorem laneCommandsComplete : Obligations.LaneCommandsComplete := by
  refine ⟨fun r k p bundles inEn outEn s hf ho hp hk hb hlt hin hout hm hv hr =>
      completes_wlStreamBind hf ho hp hk hb hlt hin hout hm hv hr, fun r k s hf ho hk hm => ?_,
    fun r l s hf ho hon => ⟨completes_wlLaneCtl_retrain hf ho hon, completes_wlLaneCtl_prbs hf ho hon, completes_wlLaneCtl_leave hf ho hon,
      fun hl hi hst hfree => ?_, fun hl hst hi hfor hnone => ?_⟩, fun r b s hf ho hb => ⟨?_, fun hbusy ha => ?_⟩⟩
  · refine completes_of_oks hf rfl fun h => ?_
    obtain ⟨t, ht, hbusy, hflag⟩ := cmdWlStreamUnbind_permitted (s := { s with host := h }) (r := r) ho hk hm
    exact ⟨t, ht, hbusy, (State.flag_done ..).trans hflag⟩
  · exact answers_of_waits hf rfl fun h => cmdWlLaneCtl_asks (s := { s with host := h }) ho hon hl hi hst hfree
  · exact answers_of_waits hf rfl fun h => cmdWlLaneCtl_returns (s := { s with host := h }) ho hon hl hst hi hfor hnone
  · exact completes_of_oks hf rfl fun h => ⟨_, cmdWlBank_leave (s := { s with host := h }) ho hb,
      State.busy_of_kept (kept_bankExit ⟨by decide +kernel, by decide +kernel⟩ .refl), (State.flag_done ..).trans (State.flag_bankExit ..)⟩
  · refine answers_of_waits hf rfl fun h => ⟨_, cmdWlBank_enter (s := { s with host := h }) ho hb hbusy ha, ?_⟩
    rw [State.bundle_modBundle_self]
    exact ⟨rfl, List.mem_append_right _ (List.mem_singleton_self r)⟩

/-! ## Waltline: bring-up (R347 to R349) -/

section
variable {s t : State} {l b i : Nat}

/-- A lane's record, after a change of the lane's state. -/
theorem State.lane_laneTo (s : State) (l st code x : Nat) : (s.laneTo l st code).lane x = s.lane x :=
  (s.sameWl_laneTo l st code).records.lane x

/-- A lane that takes a step goes to the state the step leads to. -/
theorem State.laneSt_laneStep {src dst : Nat} (hd : dst < 16) (hon : s.laneOn l = true) (hs : s.laneSt l = src) :
    (s.laneStep l src dst).laneSt l = dst := by
  rw [State.laneStep, if_pos ⟨hon, hs⟩, State.laneSt_laneTo_self hd]

/-- Training words: polarity is set, and CAP blocks are exchanged. -/
theorem State.tsDetected_effect (s : State) (l : Nat) (f : Lane → Lane) (complement : Bool) :
    ((((s.setFlag .wlTrainPolarity l 0 complement).modLane l f).laneTo l LaneSt.capex 0).capOut l false).laneSt l = LaneSt.capex ∧
      ((((s.setFlag .wlTrainPolarity l 0 complement).modLane l f).laneTo l LaneSt.capex 0).capOut l false).flag .wlTrainPolarity l 0 =
        complement := by
  have hcap : ∀ u : State, Kept (.without [.wlTrainState] []) u (u.capOut l false) := fun u =>
    kept_capOut ⟨by decide +kernel, by decide +kernel⟩ .refl
  have hpol : Kept (.without [.wlTrainPolarity] []) (s.setFlag .wlTrainPolarity l 0 complement)
      ((((s.setFlag .wlTrainPolarity l 0 complement).modLane l f).laneTo l LaneSt.capex 0).capOut l false) :=
    kept_capOut ⟨by decide +kernel, by decide +kernel⟩ (kept_laneTo ⟨by decide +kernel, by decide +kernel⟩
      (kept_modLane ⟨by decide +kernel, by decide +kernel⟩ .refl))
  exact ⟨(State.laneSt_of_kept (hcap _) l).trans (State.laneSt_laneTo_self (by decide) ..),
    (State.flag_congr _ (hpol.reg_without (List.mem_singleton_self _) l 0)).trans (State.flag_setFlag_self ..)⟩

/-- A lane fault leaves a lane that has failed as it is. -/
theorem State.laneSt_laneFault_failed (h : s.laneSt l = LaneSt.failed) (forced : Bool) :
    (s.laneFault l forced).1.laneSt l = LaneSt.failed := by
  delta State.laneFault
  extract_lets b i
  split
  · exact h
  · split
    · exact h
    · split
      · exact (State.laneSt_of_kept (kept_spareAsk ⟨by decide +kernel, by decide +kernel⟩
          (kept_modBundle ⟨by decide +kernel, by decide +kernel⟩ .refl)) l).trans h
      · exact State.laneSt_laneFails ..

/-- A training limit passes: back to TRAIN, or, the third time, FAILED. -/
theorem State.trainTimeout_effect (hon : s.laneOn l = true) (h1 : LaneSt.train ≤ s.laneSt l) (h2 : s.laneSt l ≤ LaneSt.capex) :
    if (s.lane l).fails < 2 then (s.trainTimeout l).laneSt l = LaneSt.train ∧ ((s.trainTimeout l).lane l).fails = (s.lane l).fails + 1
    else (s.trainTimeout l).laneSt l = LaneSt.failed ∧ (s.trainTimeout l).flag .wlLaneStatusTrainFail l 0 = true := by
  delta State.trainTimeout
  extract_lets st x s1 s2
  have hst : ¬((!s.laneOn l) = true ∨ st < LaneSt.train ∨ LaneSt.capex < st) := by
    rw [hon]
    simp only [Bool.not_true, Bool.false_eq_true, false_or, not_or, not_lt]
    exact ⟨h1, h2⟩
  rw [if_neg hst]
  split
  · rw [State.lane_laneTo, State.lane_modLane_self]
    exact ⟨State.laneSt_laneTo_self (by decide) .., rfl⟩
  · have hs2 : s2.laneSt l = LaneSt.failed :=
      (State.laneSt_of_kept (kept_mError ⟨by decide +kernel, by decide +kernel⟩ .refl) l).trans (State.laneSt_laneTo_self (by decide) ..)
    have hk : Kept (.without [.wlLaneStatusTrainFail] []) ((s.modLane l fun x => { x with fails := 0, lost := false }).setReg
        .wlLaneStatusTrainFail l 0 1) s2 :=
      kept_mError ⟨by decide +kernel, by decide +kernel⟩ (kept_laneTo ⟨by decide +kernel, by decide +kernel⟩ .refl)
    have hflag := State.flag_setReg_one (s.modLane l fun x => { x with fails := 0, lost := false }) .wlLaneStatusTrainFail l 0
    split
    · have hk' : Kept (.without [.wlLaneStatusTrainFail] []) ((s.modLane l fun x => { x with fails := 0, lost := false }).setReg
          .wlLaneStatusTrainFail l 0 1) (s2.laneFault l false).1 := kept_laneFault ⟨by decide +kernel, by decide +kernel⟩ hk
      exact ⟨State.laneSt_laneFault_failed hs2 false, (State.flag_congr _ (hk'.reg_without (List.mem_singleton_self _) l 0)).trans hflag⟩
    · exact ⟨hs2, (State.flag_congr _ (hk.reg_without (List.mem_singleton_self _) l 0)).trans hflag⟩

end

/-! ## Waltline: frames sent again (R338) -/

section
variable {s t : State} {l b i : Nat}

/-- The frames of a retry buffer, sent again on a lane. -/
def State.resend (s : State) (l : Nat) (fs : List TxFrame) : State :=
  fs.foldl (fun s f => s.frameSent l f.lseq true f.header f.payload) s

/-- The retry buffer of a logical lane after its frames have been sent again. -/
def State.resent (s : State) (b i : Nat) (now : Nat) : State :=
  s.modLog b i fun x => { x with retry := x.retry.map fun f => { f with replays := f.replays + 1, since := now } }

/-- A replay in which no frame goes out for the fourth time. -/
theorem State.replay_eq (hne : (s.log b i).retry ≠ []) (h : ∀ f ∈ (s.log b i).retry, f.replays ≠ 3) (l : Nat) :
    s.replay b i l = ((((s.resend l (s.log b i).retry).resent b i s.now).bump .wlLaneErrReplayCount l 0
      (s.log b i).retry.length).strEventOn b 0) := by
  have hany : (s.log b i).retry.any (fun f => decide (f.replays = 3)) = false := List.any_eq_false.2 fun f hf => by simp [h f hf]
  delta State.replay
  extract_lets fs s1 s2
  rw [if_neg hne, if_neg (by rw [hany]; exact Bool.false_ne_true)]
  rfl

theorem State.out_resend (s : State) (l : Nat) (fs : List TxFrame) : (s.resend l fs).out =
    s.out ++ fs.map fun f => Out.frame l f.lseq true f.header f.payload (crc32 (f.header ++ f.payload)) := by
  induction fs generalizing s with
  | nil => exact (List.append_nil _).symm
  | cons f fs ih =>
    refine (ih (s.frameSent l f.lseq true f.header f.payload)).trans ?_
    rw [List.map_cons, State.frameSent, State.emit, List.append_assoc, List.singleton_append]

theorem State.wl_resend (s : State) (l : Nat) (fs : List TxFrame) : (s.resend l fs).wl = s.wl :=
  foldl_of (P := fun t : State => t.wl = s.wl)
    (f := fun (s : State) (f : TxFrame) => s.frameSent l f.lseq true f.header f.payload) (fun _ _ h => h) rfl

/-- Events of streams leave what has left the module. -/
theorem State.out_strEventOn (s : State) (b e : Nat) : (s.strEventOn b e).out = s.out :=
  (kept_strEventOn (W := .without [] [.out]) ⟨by decide +kernel, by decide +kernel⟩ .refl).part_without (k := .out) (List.mem_singleton_self _)

/-- What a replay sends. -/
theorem State.out_replay (hne : (s.log b i).retry ≠ []) (h : ∀ f ∈ (s.log b i).retry, f.replays ≠ 3) (l : Nat) :
    (s.replay b i l).out = s.out ++ (s.log b i).retry.map fun f =>
      Out.frame l f.lseq true f.header f.payload (crc32 (f.header ++ f.payload)) := by
  rw [State.replay_eq hne h, State.out_strEventOn, State.out_bump]
  exact s.out_resend l _

/-- What a replay leaves in the retry buffer. -/
theorem State.retry_replay (hne : (s.log b i).retry ≠ []) (h : ∀ f ∈ (s.log b i).retry, f.replays ≠ 3) (l : Nat) :
    ((s.replay b i l).log b i).retry = (s.log b i).retry.map fun f => { f with replays := f.replays + 1, since := s.now } := by
  have hlog : (s.resend l (s.log b i).retry).log b i = s.log b i := by rw [State.log, State.log, State.wl_resend]
  rw [State.replay_eq hne h, (State.sameWl_strEventOn ..).log, State.log, State.wl_bump]
  refine (congrArg LogLane.retry (State.log_modLog_self ..)).trans ?_
  rw [hlog]

/-- A replay in which no frame goes out for the fourth time changes no lane's state. -/
theorem State.laneSt_replay (h : ∀ f ∈ (s.log b i).retry, f.replays ≠ 3) (l x : Nat) : (s.replay b i l).laneSt x = s.laneSt x := by
  by_cases hne : (s.log b i).retry = []
  · have he : s.replay b i l = s := if_pos hne
    rw [he]
  · rw [State.replay_eq hne h]
    exact State.laneSt_of_kept (kept_strEventOn ⟨by decide +kernel, by decide +kernel⟩ (kept_bump (by decide +kernel)
      (kept_modLog ⟨by decide +kernel, by decide +kernel⟩
        (kept_foldl (fun _ _ h => kept_frameSent ⟨by decide +kernel, by decide +kernel⟩ h) .refl)))) x

theorem State.laneSt_carryAgain (h : ∀ f ∈ (s.log b i).retry, f.replays ≠ 3) (l x : Nat) :
    (s.carryAgain b i l).laneSt x = s.laneSt x := by
  have hlog : ((s.modLog b i fun x => { x with moving := false }).log b i).retry = (s.log b i).retry := by rw [State.log_modLog_self]
  refine (State.laneSt_of_kept (kept_moveWaiting ⟨by decide +kernel, by decide +kernel⟩ .refl) x).trans ?_
  exact State.laneSt_replay (hlog ▸ h) l x

/-! ## Waltline: CAP blocks (R348) -/

theorem State.laneSt_idleOut (s : State) (l x : Nat) : (s.idleOut l).laneSt x = s.laneSt x :=
  State.laneSt_of_kept (kept_idleOut ⟨by decide +kernel, by decide +kernel⟩ .refl) x

/-- The logical lane whose frames a lane sends again once it is active. -/
def State.carries (s : State) (l : Nat) : Nat := if l < 64 then l % 8 else s.logical l

theorem State.bundleOf_congr (h : ∀ b, t.reg .wlBundleSpareFor b 0 = s.reg .wlBundleSpareFor b 0) (l : Nat) :
    t.bundleOf l = s.bundleOf l := by simp only [State.bundleOf, h]

/-- The partner that a CAP block names is taken down. -/
def State.capTaken (s : State) (l : Nat) (c : CapFields) : State :=
  (s.setReg .wlTrainPartner l 0 c.lane).modLane l fun x => { x with fails := 0, lost := false }

theorem State.reg_capTaken {f : Fld} (hf : f ≠ .wlTrainPartner) (s : State) (l : Nat) (c : CapFields) (x y : Nat) :
    (s.capTaken l c).reg f x y = s.reg f x y := State.reg_setReg_fld s hf.symm l 0 c.lane x y

theorem State.log_capTaken (s : State) (l : Nat) (c : CapFields) (b i : Nat) : (s.capTaken l c).log b i = s.log b i := rfl

/-- The handshake of a working lane is complete: the lane is active. -/
theorem State.laneSt_capComplete_low {c : CapFields} (hl : l < 64) (h : ∀ f ∈ (s.log (l / 8) (l % 8)).retry, f.replays ≠ 3) :
    (s.capComplete l c).laneSt l = LaneSt.active := by
  delta State.capComplete
  extract_lets s1 b i s2 s3
  rw [if_neg (by omega)]
  split
  · exact (State.laneSt_idleOut ..).trans (State.laneSt_laneTo_self (by decide) ..)
  · have hs2 : s2.wl.logs = s.wl.logs := by
      unfold s2
      split <;> rfl
    have hs3 : (s3.log b i).retry = (s.log b i).retry := by
      rw [(State.sameWl_laneTo ..).log, State.log_modLog_self]
      exact congrArg (fun x => (Tab.get LogLane.init x [b, i]).retry) hs2
    exact (State.laneSt_carryAgain (hs3 ▸ h) ..).trans (State.laneSt_laneTo_self (by decide) ..)

/-- The handshake of a spare is complete: the lane is active. -/
theorem State.laneSt_capComplete_spare {c : CapFields} (hl : 64 ≤ l) (h : ∀ f ∈ (s.log (s.bundleOf l) (s.logical l)).retry, f.replays ≠ 3) :
    (s.capComplete l c).laneSt l = LaneSt.active := by
  have he : s.capComplete l c = if (s.capTaken l c).logical l < 8 then
        ((s.capTaken l c).laneTo l LaneSt.active 0).carryAgain ((s.capTaken l c).bundleOf l) ((s.capTaken l c).logical l) l
      else (((s.capTaken l c).setReg .wlTrainLogical l 0 15).laneTo l LaneSt.active 0).idleOut l := if_pos hl
  have hb : (s.capTaken l c).bundleOf l = s.bundleOf l := State.bundleOf_congr (fun b => State.reg_capTaken (by decide) ..) l
  have hi : (s.capTaken l c).logical l = s.logical l := State.reg_capTaken (by decide) ..
  rw [he, hb, hi]
  split
  · refine (State.laneSt_carryAgain ?_ ..).trans (State.laneSt_laneTo_self (by decide) ..)
    rw [(State.sameWl_laneTo ..).log, State.log_capTaken]
    exact h
  · exact (State.laneSt_idleOut ..).trans (State.laneSt_laneTo_self (by decide) ..)

/-- A CAP block that is refused fails the lane. -/
theorem State.capBlock_refused {c : CapFields} (hon : s.laneOn l = true) (hs : s.laneSt l = LaneSt.capex) (hr : s.capRefused l c = true) :
    (s.capBlock l c).laneSt l = LaneSt.failed ∧ (s.capBlock l c).flag .wlLaneStatusCapMismatch l 0 = true := by
  delta State.capBlock
  rw [if_neg (by rw [hon, hs]; decide), if_pos hr]
  have hk : Kept (.without [.wlLaneStatusCapMismatch] []) (s.setReg .wlLaneStatusCapMismatch l 0 1)
      (((s.setReg .wlLaneStatusCapMismatch l 0 1).laneTo l LaneSt.failed Status.wlCapMismatch.num).mError .wlCapMismatch
        (Fld.addr .wlLaneStatusCapMismatch l 0)) :=
    kept_mError ⟨by decide +kernel, by decide +kernel⟩ (kept_laneTo ⟨by decide +kernel, by decide +kernel⟩ .refl)
  exact ⟨(State.laneSt_of_kept (kept_mError ⟨by decide +kernel, by decide +kernel⟩ .refl) l).trans (State.laneSt_laneTo_self (by decide) ..),
    (State.flag_congr _ (hk.reg_without (List.mem_singleton_self _) l 0)).trans (State.flag_setReg_one ..)⟩

/-- What a CAP block that is not refused leaves in the record of a lane. -/
def Lane.capStep (x : Lane) (c : CapFields) : Lane :=
  { x with
    cap := some c
    capRun := if x.cap = some c then x.capRun + 1 else 1
    seenRun := if c.seen then (if x.cap = some c then x.seenRun + 1 else 1) else 0
    ownSeen := x.ownSeen || decide (8 ≤ if x.cap = some c then x.capRun + 1 else 1)
    capSent := if x.ownSeen then x.capSent + 1 else x.capSent }

/-- A lane's record is changed by what a function makes of it. -/
theorem State.modLane_congr {f g : Lane → Lane} (h : f (s.lane l) = g (s.lane l)) : s.modLane l f = s.modLane l g := by
  rw [State.lane] at h
  rw [State.modLane, State.modLane, Tab.modify, Tab.modify, h]

theorem State.capBlock_eq {c : CapFields} (hon : s.laneOn l = true) (hs : s.laneSt l = LaneSt.capex) (hr : s.capRefused l c = false) :
    s.capBlock l c =
      if 8 ≤ ((s.lane l).capStep c).seenRun ∧ 8 ≤ ((s.lane l).capStep c).capSent then
        ((s.modLane l fun x => x.capStep c).capOut l (s.lane l).ownSeen).capComplete l c
      else (s.modLane l fun x => x.capStep c).capOut l (s.lane l).ownSeen := by
  delta State.capBlock
  extract_lets x same run seen sent s1
  have hseen : ((s.lane l).capStep c).seenRun = seen := by simp [Lane.capStep, seen, same, x]
  have hsent : ((s.lane l).capStep c).capSent = sent := rfl
  have hs1 : s1 = (s.modLane l fun x => x.capStep c).capOut l (s.lane l).ownSeen := by
    refine congrArg (fun u : State => u.capOut l (s.lane l).ownSeen) (State.modLane_congr ?_)
    simp [Lane.capStep, seen, sent, same, run, x]
  rw [if_neg (by rw [hon, hs]; decide), if_neg (by simp [hr]), hseen, hsent, hs1]

theorem State.lane_capOut (s : State) (l x : Nat) (seen : Bool) : (s.capOut l seen).lane x = s.lane x := by
  have hwl : (s.capOut l seen).wl = s.wl := rfl
  rw [State.lane, State.lane, hwl]

/-- A CAP block that differs from the one before it is kept. -/
theorem State.capBlock_first {c : CapFields} (hon : s.laneOn l = true) (hs : s.laneSt l = LaneSt.capex) (hr : s.capRefused l c = false)
    (hc : (s.lane l).cap ≠ some c) : ((s.capBlock l c).lane l).cap = some c ∧ ((s.capBlock l c).lane l).capRun = 1 := by
  have hseen : ¬8 ≤ ((s.lane l).capStep c).seenRun := by
    simp only [Lane.capStep, if_neg hc]
    split <;> decide
  rw [State.capBlock_eq hon hs hr, if_neg fun h => hseen h.1, State.lane_capOut, State.lane_modLane_self]
  exact ⟨rfl, if_neg hc⟩

/-- The CAP block that completes the handshake makes the lane active. -/
theorem State.capBlock_last {c : CapFields} (hon : s.laneOn l = true) (hs : s.laneSt l = LaneSt.capex) (hr : s.capRefused l c = false)
    (hc : (s.lane l).cap = some c) (hseen : c.seen = true) (h7 : 7 ≤ (s.lane l).seenRun) (hown : (s.lane l).ownSeen = true)
    (hsent : 7 ≤ (s.lane l).capSent) (h : ∀ f ∈ (s.log (s.bundleOf l) (s.carries l)).retry, f.replays ≠ 3) :
    (s.capBlock l c).laneSt l = LaneSt.active := by
  have hdone : 8 ≤ ((s.lane l).capStep c).seenRun ∧ 8 ≤ ((s.lane l).capStep c).capSent := by
    simp only [Lane.capStep, if_pos hc, if_pos hseen, if_pos hown]
    omega
  rw [State.capBlock_eq hon hs hr, if_pos hdone]
  rw [State.carries] at h
  by_cases hl : l < 64
  · rw [if_pos hl, s.bundleOf_low hl] at h
    exact State.laneSt_capComplete_low hl h
  · rw [if_neg hl] at h
    exact State.laneSt_capComplete_spare (by omega) h

/-! ## Waltline: ENABLE (R347) -/

/-- A write of ENABLE by an origin that may. -/
theorem State.wrLaneEnable_eq {o : Origin} (hon : s.laneOn l = true) (ho : s.isOwnerOrLocal o = true) (on : Bool) :
    s.wrLaneEnable o l on =
      let s1 := s.auditDiff o 0xFFFF .wlLaneCtlEnable l 0 (s.setHost .wlLaneCtlEnable l 0 (b2n on))
      if on then (if s.laneSt l = LaneSt.disabled then s1.laneDetect l else s1) else s1.laneTo l LaneSt.disabled 0 := by
  rw [State.wrLaneEnable, if_neg (show ¬(!s.laneOn l) = true by simp [hon]), if_neg (show ¬(!s.isOwnerOrLocal o) = true by simp [ho])]

/-- A change of a lane's state leaves ENABLE. -/
theorem State.enable_laneTo (s : State) (l st code x : Nat) : (s.laneTo l st code).flag .wlLaneCtlEnable x 0 = s.flag .wlLaneCtlEnable x 0 :=
  State.flag_congr _ (Kept.reg_without (fs := [.wlLaneCtlEnable]) (ks := []) (kept_laneTo ⟨by decide +kernel, by decide +kernel⟩ .refl)
    (List.mem_singleton_self _) x 0)

theorem State.enable_written (s : State) (o : Origin) (l : Nat) (on : Bool) :
    (s.auditDiff o 0xFFFF .wlLaneCtlEnable l 0 (s.setHost .wlLaneCtlEnable l 0 (b2n on))).flag .wlLaneCtlEnable l 0 = on := by
  have hw : 2 ^ Fld.wlLaneCtlEnable.width = 2 := by decide +kernel
  rw [State.flag, State.reg_auditDiff, State.reg_setHost, if_pos ⟨rfl, rfl, rfl⟩, hw]
  cases on <;> rfl

theorem State.wrLaneEnable_on {o : Origin} (hon : s.laneOn l = true) (ho : s.isOwnerOrLocal o = true) :
    (s.wrLaneEnable o l true).flag .wlLaneCtlEnable l 0 = true ∧
      (s.laneSt l = LaneSt.disabled → (s.wrLaneEnable o l true).laneSt l = LaneSt.detect) := by
  rw [State.wrLaneEnable_eq hon ho]
  extract_lets s1
  rw [if_pos rfl]
  split
  · exact ⟨(State.enable_laneTo ..).trans (s.enable_written o l true), fun _ => State.laneSt_laneDetect ..⟩
  · next h => exact ⟨s.enable_written o l true, fun h' => absurd h' h⟩

theorem State.wrLaneEnable_off {o : Origin} (hon : s.laneOn l = true) (ho : s.isOwnerOrLocal o = true) :
    (s.wrLaneEnable o l false).flag .wlLaneCtlEnable l 0 = false ∧ (s.wrLaneEnable o l false).laneSt l = LaneSt.disabled := by
  rw [State.wrLaneEnable_eq hon ho]
  extract_lets s1
  rw [if_neg Bool.false_ne_true]
  exact ⟨(State.enable_laneTo ..).trans (s.enable_written o l false), State.laneSt_laneTo_self (by decide) ..⟩

end

/-- Settles O11: each row takes the lane to the state its rule names, its bundles following. -/
theorem laneBringUpCompletes : Obligations.LaneBringUpCompletes := by
  have hnext {s u : State} {c : Prop} [Decidable c] (h : c) :
      (Host.Outcome.next (if c then u else s) : Host.Outcome State Fault Refusal) = .next u := congrArg Host.Outcome.next (if_pos h)
  refine ⟨fun o l s hon ho => ⟨⟨_, rfl, ?_⟩, ⟨_, rfl, ?_⟩, fun hd => ⟨_, rfl, ?_⟩⟩,
    fun l s hon hs => ⟨_, rfl, State.laneSt_laneStep (by decide) hon hs⟩, fun l s hon hs => ⟨_, rfl, State.laneSt_laneStep (by decide) hon hs⟩,
    fun l s hon hs => ⟨_, rfl, State.laneSt_laneStep (by decide) hon hs⟩,
    fun l complement s hon hs => ⟨_, hnext ⟨hon, hs⟩, s.tsDetected_effect l _ complement⟩,
    fun l s hon h1 h2 => ⟨_, rfl, State.trainTimeout_effect hon h1 h2⟩, fun l s hon hs => ⟨_, hnext ⟨hon, hs⟩, ?_⟩,
    fun l c s hon hs => ⟨_, rfl, ?_⟩⟩
  · exact State.wrLaneEnable_on hon ho
  · exact State.wrLaneEnable_off hon ho
  · rw [State.wrRetrain, if_neg (show ¬(!s.laneOn l) = true by simp [hon]), if_neg (show ¬(!s.isOwnerOrLocal o) = true by simp [ho]), if_neg hd]
    exact s.laneSt_retrain l
  · exact ⟨State.laneSt_laneTo_self (by decide) .., congrArg Lane.lost ((State.lane_laneTo ..).trans (State.lane_modLane_self ..))⟩
  · cases hr : s.capRefused l c with
    | true => exact (if_pos rfl).mpr (State.capBlock_refused hon hs hr)
    | false => exact ⟨State.capBlock_first hon hs hr, fun hc hseen h7 hown hsent h => State.capBlock_last hon hs hr hc hseen h7 hown hsent h⟩

/-! ## Waltline: frames received, and their acknowledgement (R337, R338) -/

section
variable {s t : State} {l b i : Nat}

theorem State.logs_fifoFrom (s : State) (p : Nat) (stim : Bool) (src : Option Nat) : (s.fifoFrom p stim src).wl.logs = s.wl.logs := by
  delta State.fifoFrom
  extract_lets f s1
  have h1 : s1.wl.logs = s.wl.logs := by
    unfold s1
    split <;> rfl
  split
  · rfl
  · exact h1

theorem State.sameWl_pError (s : State) (p : Nat) (st : Status) (a : Nat) : s.sameWl (s.pError p st a) :=
  .of_kept (kept_pError ⟨by decide +kernel, by decide +kernel⟩ .refl)

theorem State.sameWl_arrived (s : State) (p : Nat) : s.sameWl (s.arrived p) :=
  .of_kept (kept_arrived ⟨by decide +kernel, by decide +kernel⟩ .refl)

/-- A frame that goes to its stream leaves the records of logical lanes. -/
theorem State.logs_frameIn (s : State) (b : Nat) (h p : Bytes) : (s.frameIn b h p).wl.logs = s.wl.logs := by
  delta State.frameIn
  extract_lets k gen q bound s1 head d
  split
  · split
    · exact (State.sameWl_pError ..).logs
    · exact (State.sameWl_mError ..).logs
  · split
    · rfl
    · split
      · split
        · split
          · exact (State.sameWl_arrived ..).logs.trans (State.logs_fifoFrom ..)
          · rfl
        · rfl
      · split
        · exact (State.sameWl_pError ..).logs
        · rfl

/-- The state in which a frame has been stamped, and its REPLAY event raised. -/
def State.frameStamped (s : State) (l : Nat) (f : WlFrame) : State :=
  let stamped := s.capEvent l (unsigned 64 ((s.ctrNs (s.bundleOf l) : Int) - signed 16 (s.reg .timeAdjWlRx 0 (s.bundleOf l))))
  if f.replay then stamped.strEventOn (s.bundleOf l) 0 else stamped

theorem State.kept_frameStamped (s : State) (l : Nat) (f : WlFrame) :
    Kept (.without [.wlLaneErrCrcCount, .wlLaneStatusCrc] [.wl]) s (s.frameStamped l f) := by
  have h : Kept (.without [.wlLaneErrCrcCount, .wlLaneStatusCrc] [.wl]) s
      (s.capEvent l (unsigned 64 ((s.ctrNs (s.bundleOf l) : Int) - signed 16 (s.reg .timeAdjWlRx 0 (s.bundleOf l))))) :=
    kept_capEvent ⟨by decide +kernel, by decide +kernel⟩ .refl
  exact kept_ite (kept_strEventOn ⟨by decide +kernel, by decide +kernel⟩ h) h

/-- A frame that fails its checks is counted. -/
theorem State.frameBlock_bad {f : WlFrame} (hon : s.laneOn l = true) (hs : s.laneSt l = LaneSt.active) (hi : s.logical l < 8)
    (hf : WlFrame.good f = false) : (s.frameBlock l f).flag .wlLaneStatusCrc l 0 = true ∧ (s.frameBlock l f).reg .wlLaneErrCrcCount l 0 =
      min (2 ^ Fld.wlLaneErrCrcCount.width - 1) (s.reg .wlLaneErrCrcCount l 0 + 1) := by
  have he : ∃ g, s.frameBlock l f = (((((s.frameStamped l f).bump .wlLaneErrCrcCount l 0 1).setReg .wlLaneStatusCrc l 0 1).modLane l g).strEventOn
      (s.bundleOf l) 1).sendAck (s.bundleOf l) (s.logical l) l true := by
    delta State.frameBlock
    extract_lets b i stamped s0 s1
    rw [if_neg (by rw [hon, hs]; simp [LaneSt.active]; omega), if_pos (by simp [hf])]
    exact ⟨_, rfl⟩
  obtain ⟨g, hg⟩ := he
  have hk : Kept (.without [.wlLaneErrCrcCount, .wlLaneStatusCrc] [])
      (((s.frameStamped l f).bump .wlLaneErrCrcCount l 0 1).setReg .wlLaneStatusCrc l 0 1) (s.frameBlock l f) := by
    rw [hg]
    exact kept_sendAck ⟨by decide +kernel, by decide +kernel⟩ (kept_strEventOn ⟨by decide +kernel, by decide +kernel⟩
      (kept_modLane ⟨by decide +kernel, by decide +kernel⟩ .refl))
  refine ⟨(State.flag_congr _ (hk.reg_without (by simp) l 0)).trans (State.flag_setReg_one ..), (hk.reg_without (by simp) l 0).trans ?_⟩
  rw [State.reg_setReg_fld _ (by decide), State.reg_bump_self, (s.kept_frameStamped l f).reg_without (by simp)]

/-- A frame that passes its checks moves the expected LSEQ on if it is in order. -/
theorem State.frameBlock_good {f : WlFrame} (hon : s.laneOn l = true) (hs : s.laneSt l = LaneSt.active) (hi : s.logical l < 8)
    (hf : WlFrame.good f = true) : ((s.frameBlock l f).log (s.bundleOf l) (s.logical l)).expect =
      if f.lseq = (s.log (s.bundleOf l) (s.logical l)).expect then (f.lseq + 1) % 256
      else (s.log (s.bundleOf l) (s.logical l)).expect := by
  have hstamp : (s.frameStamped l f).wl = s.wl := (s.kept_frameStamped l f).part_without (k := .wl) (List.mem_singleton_self _)
  have he : s.frameBlock l f = if f.lseq ≠ (s.log (s.bundleOf l) (s.logical l)).expect then s.frameStamped l f
      else (((s.frameStamped l f).modLog (s.bundleOf l) (s.logical l) (fun x => { x with expect := (x.expect + 1) % 256 })).sendAck
        (s.bundleOf l) (s.logical l) l false).frameIn (s.bundleOf l) f.header (f.payload.take (le f.header 0 2)) := by
    delta State.frameBlock
    extract_lets b i stamped s0 s1 s2
    rw [if_neg (by rw [hon, hs]; simp [LaneSt.active]; omega), if_neg (by simp [hf])]
    rfl
  have hlog : ∀ u : State, u.wl.logs = s.wl.logs → u.log (s.bundleOf l) (s.logical l) = s.log (s.bundleOf l) (s.logical l) :=
    fun u hu => by rw [State.log, State.log, hu]
  rw [he]
  by_cases hseq : f.lseq = (s.log (s.bundleOf l) (s.logical l)).expect
  · rw [if_neg (not_not.2 hseq), if_pos hseq, hseq]
    have hin : ∀ (u : State) (h p : Bytes), (u.frameIn (s.bundleOf l) h p).log (s.bundleOf l) (s.logical l) =
        u.log (s.bundleOf l) (s.logical l) := fun u h p => by rw [State.log, State.log, State.logs_frameIn]
    rw [hin]
    refine (congrArg LogLane.expect (State.log_modLog_self ..)).trans ?_
    rw [hlog _ (congrArg Wl.logs hstamp)]
  · rw [if_pos hseq, if_neg hseq, hlog _ (congrArg Wl.logs hstamp)]

end

/-! ## Waltline: acknowledgements and control blocks (R338, R340, R342 to R346) -/

section
variable {s t : State} {l b i k : Nat}

/-- With no frames waiting for places, none moves. -/
theorem State.moveWaiting_idle (h : ∀ j, j < 8 → (s.log b j).moving = false) : s.moveWaiting b = s := by
  have hfold : ∀ l : List Nat, (∀ j ∈ l, j < 8) → l.foldl (fun s i => if (s.log b i).moving then s.moveFrames b i else s) s = s := by
    intro l
    induction l with
    | nil => exact fun _ => rfl
    | cons j l ih =>
      intro hl
      rw [List.foldl_cons, if_neg (by simp [h j (hl j (List.mem_cons_self ..))])]
      exact ih fun x hx => hl x (List.mem_cons_of_mem _ hx)
  exact hfold _ fun j hj => List.mem_range.1 hj

/-- The frames up to an LSEQ leave the retry buffer. -/
def State.acked (s : State) (b i n : Nat) : State := s.modLog b i fun x => { x with retry := x.retry.drop n }

theorem State.retry_acked (s : State) (b i n : Nat) : ((s.acked b i n).log b i).retry = (s.log b i).retry.drop n := by
  rw [State.acked, State.log_modLog_self]

/-- An ACK of a frame in the buffer, while no frames of the bundle move. -/
theorem State.ackBlock_eq {lseq : Nat} {nak : Bool} {f : TxFrame} {fs : List TxFrame} (hon : s.laneOn l = true)
    (hs : s.laneSt l = LaneSt.active) (hi : i < 8) (hr : (s.log (s.bundleOf l) i).retry = f :: fs)
    (hmove : ∀ j, j < 8 → (s.log (s.bundleOf l) j).moving = false) (hd : (lseq + 256 - f.lseq) % 256 < fs.length + 1) :
    s.ackBlock l i lseq nak =
      let s1 := s.acked (s.bundleOf l) i ((lseq + 256 - f.lseq) % 256 + 1)
      if nak then
        match s1.carrier (s.bundleOf l) i with
        | some c => s1.replay (s.bundleOf l) i c
        | none => s1
      else s1 := by
  have hidle : (s.acked (s.bundleOf l) i ((lseq + 256 - f.lseq) % 256 + 1)).moveWaiting (s.bundleOf l) =
      s.acked (s.bundleOf l) i ((lseq + 256 - f.lseq) % 256 + 1) := by
    refine State.moveWaiting_idle fun j hj => ?_
    by_cases h : j = i
    · rw [h, State.acked, State.log_modLog_self]
      exact hmove i hi
    · rw [State.acked, State.log_modLog_other (by simp [h])]
      exact hmove j hj
  delta State.ackBlock
  extract_lets b xs n s1
  have hn : n = (lseq + 256 - f.lseq) % 256 + 1 := by
    have hd' : (lseq + 256 - f.lseq) % 256 < xs.length := by
      show _ < (s.log b i).retry.length
      rw [hr]
      exact hd
    show (match xs with | [] => 0 | f :: _ => _) = _
    have hxs : xs = f :: fs := hr
    rw [hxs] at hd' ⊢
    exact if_pos hd'
  have hs1 : s1 = s.acked b i ((lseq + 256 - f.lseq) % 256 + 1) := by
    unfold s1
    rw [hn]
    exact hidle
  rw [if_neg (by rw [hon, hs]; simp [LaneSt.active]; omega), hs1] <;> rfl

/-- What an ACK leaves in the retry buffer. -/
theorem State.ackBlock_ack {lseq : Nat} {f : TxFrame} {fs : List TxFrame} (hon : s.laneOn l = true)
    (hs : s.laneSt l = LaneSt.active) (hi : i < 8) (hr : (s.log (s.bundleOf l) i).retry = f :: fs)
    (hmove : ∀ j, j < 8 → (s.log (s.bundleOf l) j).moving = false) (hd : (lseq + 256 - f.lseq) % 256 < fs.length + 1) :
    ((s.ackBlock l i lseq false).log (s.bundleOf l) i).retry = fs.drop ((lseq + 256 - f.lseq) % 256) := by
  rw [State.ackBlock_eq hon hs hi hr hmove hd]
  refine (State.retry_acked ..).trans ?_
  rw [hr, List.drop_succ_cons]

/-- A NAK sends again what it does not cover. -/
theorem State.ackBlock_nak {lseq c : Nat} {f : TxFrame} {fs : List TxFrame} (hon : s.laneOn l = true)
    (hs : s.laneSt l = LaneSt.active) (hi : i < 8) (hr : (s.log (s.bundleOf l) i).retry = f :: fs)
    (hmove : ∀ j, j < 8 → (s.log (s.bundleOf l) j).moving = false) (hd : (lseq + 256 - f.lseq) % 256 < fs.length + 1)
    (hc : s.carrier (s.bundleOf l) i = some c) (h3 : ∀ x ∈ fs, x.replays ≠ 3) (hne : fs.drop ((lseq + 256 - f.lseq) % 256) ≠ []) :
    ((s.ackBlock l i lseq true).log (s.bundleOf l) i).retry.map (·.lseq) = (fs.drop ((lseq + 256 - f.lseq) % 256)).map (·.lseq) ∧
      (s.ackBlock l i lseq true).out = s.out ++ (fs.drop ((lseq + 256 - f.lseq) % 256)).map fun x =>
        Out.frame c x.lseq true x.header x.payload (crc32 (x.header ++ x.payload)) := by
  have hretry : ((s.acked (s.bundleOf l) i ((lseq + 256 - f.lseq) % 256 + 1)).log (s.bundleOf l) i).retry =
      fs.drop ((lseq + 256 - f.lseq) % 256) := by rw [State.retry_acked, hr, List.drop_succ_cons]
  have he : s.ackBlock l i lseq true =
      (s.acked (s.bundleOf l) i ((lseq + 256 - f.lseq) % 256 + 1)).replay (s.bundleOf l) i c := by
    rw [State.ackBlock_eq hon hs hi hr hmove hd]
    dsimp only
    rw [if_pos rfl]
    have hcar : (s.acked (s.bundleOf l) i ((lseq + 256 - f.lseq) % 256 + 1)).carrier (s.bundleOf l) i = some c := hc
    rw [hcar]
  have h3' : ∀ x ∈ ((s.acked (s.bundleOf l) i ((lseq + 256 - f.lseq) % 256 + 1)).log (s.bundleOf l) i).retry, x.replays ≠ 3 := by
    rw [hretry]
    exact fun x hx => h3 x (List.mem_of_mem_drop hx)
  rw [he, State.retry_replay (by rw [hretry]; exact hne) h3', State.out_replay (by rw [hretry]; exact hne) h3', hretry, List.map_map]
  exact ⟨rfl, rfl⟩

/-- A retry buffer that is due has a frame. -/
theorem State.retry_of_replayDue (h : s.replayDue l = true) : (s.log (s.bundleOf l) (s.logical l)).retry ≠ [] := by
  intro he
  rw [State.replayDue, he] at h
  simp at h

/-- The words of a stream are those of before, and its record. -/
theorem State.limit_stallUpdate (s : State) (k : Nat) : (s.stallUpdate k).reg .wlStreamOutLimit k 0 = s.reg .wlStreamOutLimit k 0 :=
  Kept.reg_without (fs := [.wlStreamOutLimit]) (ks := []) (kept_stallUpdate ⟨by decide +kernel, by decide +kernel⟩ .refl)
    (List.mem_singleton_self _) k 0

theorem State.sameWl_deliverMarks (s : State) (p n : Nat) : s.sameWl (s.deliverMarks p n) :=
  .of_kept (kept_deliverMarks ⟨by decide +kernel, by decide +kernel⟩ .refl)

theorem State.sameWl_testerStop (s : State) (p : Nat) : s.sameWl (s.testerStop p) :=
  .of_kept (kept_testerStop ⟨by decide +kernel, by decide +kernel⟩ .refl)

/-- MARK, on the primary bundle of its stream. -/
def State.markIn (s : State) (k c : Nat) : State :=
  let p := s.reg .wlStreamBindPart k 0
  let s := s.modStream k (fun x => { x with received := c })
  let d := (c + 2 ^ 16 - s.reg .wlStreamMarkCount k 0) % 2 ^ 16
  if s.partStream p ≠ some k ∨ s.mode p < Mode.freeRun ∨ s.reg .partCmpPaceMode p 0 ≠ 1 then
    s.setReg .wlStreamMarkCount k 0 c
  else if 1 ≤ d ∧ d ≤ 4096 then
    (State.strEvent 3 (s.setReg .wlStreamMarkCount k 0 c) k).deliverMarks p d
  else s

theorem State.execMark_eq (h : s.onPrimary b k = true) (count : Nat) : execMark b k count s = .next (s.markIn k (count % 2 ^ 16)) :=
  congrArg Host.Outcome.next (if_neg (by simp [h]))

/-- The count of marks is kept, and taken up if it lies within 4096 of the one before. -/
theorem State.markIn_effect {c : Nat} (hc : c < 2 ^ 16) (s : State) (k : Nat) : ((s.markIn k c).stream k).received = c ∧
    (1 ≤ (c + 2 ^ 16 - s.reg .wlStreamMarkCount k 0) % 2 ^ 16 → (c + 2 ^ 16 - s.reg .wlStreamMarkCount k 0) % 2 ^ 16 ≤ 4096 →
      (s.markIn k c).reg .wlStreamMarkCount k 0 = c) := by
  have hw : c < 2 ^ Fld.wlStreamMarkCount.width := lt_of_lt_of_eq hc (by decide +kernel)
  delta State.markIn
  extract_lets p s1 d
  have hrec : (s1.stream k).received = c := congrArg Stream.received (State.stream_modStream_self ..)
  have hset : ∀ u : State, (u.setReg .wlStreamMarkCount k 0 c).reg .wlStreamMarkCount k 0 = c := fun u => State.reg_setReg_of_lt _ hw ..
  split
  · exact ⟨hrec, fun _ _ => hset _⟩
  · split
    · have hsame := (State.sameWl_strEvent 3 (s1.setReg .wlStreamMarkCount k 0 c) k).trans (State.sameWl_deliverMarks _ p d)
      have hk : Kept (.without [.wlStreamMarkCount] []) (s1.setReg .wlStreamMarkCount k 0 c)
          ((State.strEvent 3 (s1.setReg .wlStreamMarkCount k 0 c) k).deliverMarks p d) :=
        kept_deliverMarks ⟨by decide +kernel, by decide +kernel⟩ (kept_strEvent ⟨by decide +kernel, by decide +kernel⟩ .refl)
      refine ⟨(congrArg Stream.received (hsame.records.stream k)).trans hrec, fun _ _ => ?_⟩
      exact (hk.reg_without (List.mem_singleton_self _) k 0).trans (hset _)
    · next hd => exact ⟨hrec, fun h1 h2 => absurd ⟨h1, h2⟩ hd⟩

/-- STOP with a new number, on enough lanes, is remembered. -/
theorem State.execStop_effect {number copies : Nat} (hp : s.onPrimary b k = true)
    (hc : popcount 8 (s.reg .wlBundleAligned b 0) / 2 + 1 ≤ copies) (hn : (s.stream k).lastStop ≠ some (number % 2 ^ 16)) :
    Answers (.stop b k number copies) s fun t => (t.stream k).lastStop = some (number % 2 ^ 16) := by
  refine ⟨_, congrArg Host.Outcome.next (if_neg ?_), ?_⟩
  · simp only [hp, Bool.not_true, Bool.false_eq_true, false_or, not_or, not_lt]
    exact ⟨hc, hn⟩
  · have hlast : ((s.modStream k fun x => { x with lastStop := some (number % 2 ^ 16) }).stream k).lastStop = some (number % 2 ^ 16) :=
      congrArg Stream.lastStop (State.stream_modStream_self ..)
    have hstr := State.sameWl_strEvent 2 (s.modStream k fun x => { x with lastStop := some (number % 2 ^ 16) }) k
    refine (congrArg Stream.lastStop ((State.sameWl.ite (hstr.trans (State.sameWl_testerStop ..)) hstr).records.stream k)).trans hlast

end

section
variable {s t : State} {l b i k : Nat}

/-- A block sent on lanes, one after another. -/
theorem State.out_blocks (s : State) (ls : List Nat) (type : Nat) (body : Bytes) :
    (ls.foldl (fun s l => State.blockOut s l type body) s).out = s.out ++ ls.map fun l => Out.block l (ctrlBlock type body) := by
  induction ls generalizing s with
  | nil => exact (List.append_nil _).symm
  | cons l ls ih =>
    refine (ih (s.blockOut l type body)).trans ?_
    rw [List.map_cons, State.blockOut, State.emit, List.append_assoc, List.singleton_append]

theorem State.out_blockAll (s : State) (b type : Nat) (body : Bytes) :
    (s.blockAll b type body).out = s.out ++ (s.activeLanes b).map fun l => Out.block l (ctrlBlock type body) := s.out_blocks ..

/-- The skew of markers that arrive. -/
theorem State.skew_deskew {x : Nat × Nat} {xs arrivals : List (Nat × Nat)}
    (h : arrivals.filter (fun e => (s.activeLanes b).contains e.1) = x :: xs) :
    (s.deskew b arrivals).reg .wlBundleSkewNs b 0 =
      min 255 ((x :: xs).foldl (fun m e => max m (e.2 - (x :: xs).foldl (fun m e => min m e.2) x.2)) 0) := by
  have hw : 2 ^ Fld.wlBundleSkewNs.width = 256 := by decide +kernel
  rw [State.deskew, h]
  dsimp -zeta only
  extract_lets first s1
  have hs1 : s1.reg .wlBundleSkewNs b 0 = min 255 ((x :: xs).foldl (fun m e => max m (e.2 - first)) 0) := by
    refine (State.reg_setReg_self ..).trans ?_
    rw [hw]
    omega
  refine Eq.trans (Kept.reg_without (fs := [.wlBundleSkewNs]) (ks := []) ?_ (List.mem_singleton_self _) b 0) hs1
  refine kept_foldl (fun u e hu => ?_) .refl
  extract_lets i late s2
  have h2 : Kept (.without [.wlBundleSkewNs] []) s1 s2 := kept_setReg (by decide +kernel) hu
  exact kept_ite (kept_setReg (by decide +kernel) (kept_foldl (fun _ _ h => kept_strEvent ⟨by decide +kernel, by decide +kernel⟩ h) h2)) h2

/-- The account of a stall leaves the records of logical lanes. -/
theorem State.logs_stallUpdate (s : State) (k : Nat) : (s.stallUpdate k).wl.logs = s.wl.logs := by
  delta State.stallUpdate
  extract_lets x wait
  split
  · split <;> rfl
  · split
    · rfl
    · extract_lets s1
      have h1 : s1.wl.logs = s.wl.logs := by
        unfold s1
        split <;> rfl
      exact h1

/-- One outbound frame goes to the logical lane with the fewest unacknowledged ones. -/
theorem State.frameOut_effect {x : Nat × Nat × Bytes} {e : Nat × Nat × Nat} (hv : s.flag .wlStreamBindValid k 0 = true)
    (ho : s.flag .wlStreamBindOutEn k 0 = true) (hc : s.credited k = true) (hx : (s.stream k).outBuf.head? = some x)
    (he : s.bestSender (s.reg .wlStreamBindBundles k 0) = some e) :
    (s.frameOut k).reg .wlStreamOutSseq k 0 = (s.reg .wlStreamOutSseq k 0 + 1) % 2 ^ 32 ∧
      (s.frameOut k).unacked e.1 e.2.1 = s.unacked e.1 e.2.1 + 1 := by
  obtain ⟨ys, hbuf⟩ : ∃ ys, (s.stream k).outBuf = x :: ys := by
    cases hb : (s.stream k).outBuf with
    | nil => simp [hb] at hx
    | cons y ys => exact ⟨ys, by rw [hb] at hx; rw [Option.some.inj hx]⟩
  have hout : ∃ h p g, s.frameOut k = ((((s.sendOn e.1 e.2.1 e.2.2 h p).setReg .wlStreamOutSseq k 0
      (s.reg .wlStreamOutSseq k 0 + 1)).modStream k g).stallUpdate k) := by
    delta State.frameOut
    extract_lets y
    rw [if_neg (by simp [hv, ho, hc]), show y.outBuf = x :: ys from hbuf, he]
    exact ⟨_, _, _, rfl⟩
  obtain ⟨h, p, g, hg⟩ := hout
  have hw : Fld.wlStreamOutSseq.width = 32 := by decide +kernel
  have hk : Kept (.without [.wlStreamOutSseq] []) ((s.sendOn e.1 e.2.1 e.2.2 h p).setReg .wlStreamOutSseq k 0
      (s.reg .wlStreamOutSseq k 0 + 1)) (s.frameOut k) := by
    rw [hg]
    exact kept_stallUpdate ⟨by decide +kernel, by decide +kernel⟩ (kept_modStream ⟨by decide +kernel, by decide +kernel⟩ .refl)
  refine ⟨(hk.reg_without (List.mem_singleton_self _) k 0).trans ((State.reg_setReg_self ..).trans (by rw [hw])), ?_⟩
  have hlogs : (s.frameOut k).wl.logs = (s.sendOn e.1 e.2.1 e.2.2 h p).wl.logs := by
    rw [hg]
    exact State.logs_stallUpdate ..
  rw [State.unacked, State.log, hlogs]
  refine (congrArg (fun x : LogLane => x.retry.length) (State.log_modLog_self ..)).trans ?_
  exact List.length_append.trans rfl

/-- A STATUS block and its data block, on lanes one after another. -/
theorem State.out_statusOut (s : State) (control cycle : Bytes) (ls : List Nat) :
    (ls.foldl (State.statusOut control cycle) s).out.length = s.out.length + 2 * ls.length := by
  induction ls generalizing s with
  | nil => rfl
  | cons l ls ih =>
    refine (ih (State.statusOut control cycle s l)).trans ?_
    have hone : (State.statusOut control cycle s l).out.length = s.out.length + 2 := by
      rw [State.statusOut, State.blockOut, State.emit, State.emit]
      simp
    rw [hone, List.length_cons]
    omega

/-- HOLD is sent, and remembered. -/
theorem State.statusSend_effect {p : Nat} (hk : s.partStream p = some k) (ha : s.activeLanes (s.reg .wlStreamBindPrimary k 0) ≠ [])
    (hm : s.mode p = Mode.lockstep ∨ s.holdOf p ≠ (s.part p).hold) :
    ((s.statusSend p).part p).hold = s.holdOf p ∧
      (s.statusSend p).out.length = s.out.length + 2 * (s.activeLanes (s.reg .wlStreamBindPrimary k 0)).length := by
  rw [State.statusSend, hk]
  dsimp -zeta only
  extract_lets h b free control
  have hsend : ¬(s.activeLanes b = [] ∨ (s.mode p ≠ Mode.lockstep ∧ h = (s.part p).hold)) := by
    rintro (h1 | ⟨h1, h2⟩)
    · exact ha h1
    · exact hm.elim h1 fun h3 => h3 h2
  rw [if_neg hsend]
  exact ⟨congrArg Part.hold (State.part_modPart_self ..), s.out_statusOut ..⟩

end

/-! ## Waltline: spares (R349) -/

section
variable {s t : State} {l b i : Nat}

/-- A replay on a spare lane leaves the records of lanes and bundles. -/
theorem State.sameRecords_replay (h : 64 ≤ l) (s : State) (b i : Nat) : s.sameRecords (s.replay b i l) := by
  delta State.replay
  extract_lets fs s1 s2
  have h1 : s.sameRecords s1 := .of_wl (s.wl_resend l fs)
  have h2 : s.sameRecords s2 := h1.trans ((State.sameRecords.modLog s1 b i _).trans
    ((State.sameRecords.of_wl (State.wl_bump ..)).trans (State.sameWl_strEventOn ..).records))
  refine .ite (.refl s) (.ite (h2.trans ?_) h2)
  exact (State.sameRecords.of_wl (State.wl_setReg ..)).trans ((State.sameWl_mError ..).records.trans (State.sameRecords_laneFault h ..))

theorem State.sameRecords_carryAgain (h : 64 ≤ l) (s : State) (b i : Nat) : s.sameRecords (s.carryAgain b i l) :=
  .trans (.modLog ..) (.trans (State.sameRecords_replay h ..) (State.sameRecords_moveWaiting ..))

/-- The registers that say which lane carries a logical lane. -/
def State.carriedBy (s : State) (b i src dst spareFor : Nat) : State :=
  ((s.setReg .wlTrainLogical src 0 15).setReg .wlTrainLogical dst 0 i).setReg .wlBundleSpareFor b 0 spareFor

theorem State.spareFor_carriedBy {n : Nat} (h : n < 8) (s : State) (b i src dst : Nat) :
    (s.carriedBy b i src dst n).reg .wlBundleSpareFor b 0 = n := by
  have hw : Fld.wlBundleSpareFor.width = 4 := by decide +kernel
  rw [State.carriedBy, State.reg_setReg_self, hw]
  omega

theorem State.bundle_carriedBy (s : State) (b i src dst n c : Nat) : (s.carriedBy b i src dst n).bundle c = s.bundle c := rfl

theorem State.logical_carriedBy (h : i < 8) (s : State) (b src dst n : Nat) : (s.carriedBy b i src dst n).logical dst = i := by
  have hw : Fld.wlTrainLogical.width = 4 := by decide +kernel
  rw [State.logical, State.carriedBy, State.reg_setReg_fld _ (by decide), State.reg_setReg_self, hw]
  omega

/-- The lane that fails, and the answers to the commands that waited. -/
def State.failOver (s : State) (b l code : Nat) (rs : List CmdRef) : State :=
  ((s.laneTo l LaneSt.failed code).strEventOn b 4).doneAll rs .ok

theorem State.substitute_eq (s : State) (b i : Nat) : ∃ code, s.substitute b i false =
    (((((s.modBundle b fun x => { x with spare := none, spareWaits := [] }).carriedBy b i (8 * b + i) (spareOf b) i).updateBundle b).carryAgain
      b i (spareOf b)).failOver b (8 * b + i) code (s.bundle b).spareWaits) := ⟨_, rfl⟩

theorem le_spareOf (b : Nat) : 64 ≤ spareOf b := Nat.le_add_right ..

/-- The spare takes a logical lane over. -/
theorem State.substitute_effect (hi : i < 8) (s : State) (b : Nat) :
    (s.substitute b i false).reg .wlBundleSpareFor b 0 = i ∧ (s.substitute b i false).logical (spareOf b) = i ∧
      (s.substitute b i false).laneSt (8 * b + i) = LaneSt.failed ∧ ((s.substitute b i false).bundle b).spare = none := by
  obtain ⟨code, hc⟩ := s.substitute_eq b i
  rw [hc]
  let s1 := s.modBundle b fun x => { x with spare := none, spareWaits := [] }
  let s2 := s1.carriedBy b i (8 * b + i) (spareOf b) i
  let s3 := (s2.updateBundle b).carryAgain b i (spareOf b)
  have hk : Kept (.without [.wlBundleSpareFor, .wlTrainLogical] []) s2 (s3.failOver b (8 * b + i) code (s.bundle b).spareWaits) :=
    kept_doneAll ⟨by decide +kernel, by decide +kernel⟩ (kept_strEventOn ⟨by decide +kernel, by decide +kernel⟩
      (kept_laneTo ⟨by decide +kernel, by decide +kernel⟩ (kept_carryAgain ⟨by decide +kernel, by decide +kernel⟩
        (kept_updateBundle ⟨by decide +kernel, by decide +kernel⟩ .refl))))
  have hst : Kept (.without [.wlTrainState] []) (s3.laneTo (8 * b + i) LaneSt.failed code)
      (s3.failOver b (8 * b + i) code (s.bundle b).spareWaits) :=
    kept_doneAll ⟨by decide +kernel, by decide +kernel⟩ (kept_strEventOn ⟨by decide +kernel, by decide +kernel⟩ .refl)
  have hsame : s2.sameRecords (s3.failOver b (8 * b + i) code (s.bundle b).spareWaits) :=
    (State.sameWl_updateBundle ..).records.trans (.trans (State.sameRecords_carryAgain (le_spareOf b) ..)
      (((State.sameWl_laneTo ..).trans (State.sameWl_strEventOn ..)).trans (State.sameWl_doneAll ..)).records)
  exact ⟨(hk.reg_without (by simp) b 0).trans (s1.spareFor_carriedBy hi ..), (hk.reg_without (by simp) (spareOf b) 0).trans
    (s1.logical_carriedBy hi ..), (State.laneSt_of_kept hst _).trans (State.laneSt_laneTo_self (by decide) ..),
    (hsame.spare b).trans ((congrArg Bundle.spare (s1.bundle_carriedBy ..)).trans (congrArg Bundle.spare (State.bundle_modBundle_self s b _)))⟩

/-- A request that ends without the spare fails the lane. -/
theorem State.spareRefused_effect (hr : (s.bundle b).spare = some (i, false)) (st : Status) :
    (s.spareRefused b i st).laneSt (8 * b + i) = LaneSt.failed ∧ ((s.spareRefused b i st).bundle b).spare = none := by
  let s1 := s.modBundle b fun x => { x with spare := none, spareWaits := [] }
  have he : s.spareRefused b i st = (s1.laneFails b i (8 * b + i)).doneAll (s.bundle b).spareWaits st :=
    congrArg (fun u : State => u.doneAll (s.bundle b).spareWaits st) (if_pos hr)
  rw [he]
  refine ⟨(State.laneSt_of_kept (kept_doneAll ⟨by decide +kernel, by decide +kernel⟩ .refl) _).trans (State.laneSt_laneFails ..),
    (((State.sameRecords_laneFails ..).trans (State.sameWl_doneAll ..).records).spare b).trans ?_⟩
  exact congrArg Bundle.spare (State.bundle_modBundle_self s b _)

/-- A SPARE block about a bundle. -/
theorem State.spareBlock_eq (hb : s.spareBundle l = some b) (hon : s.laneOn l = true) (hs : s.laneSt l = LaneSt.active) (hi : i < 8)
    (req ack refuse ret : Bool) : s.spareBlock l i (b / 2) req ack refuse ret =
      if req then s.spareReq b i ret
      else
        match (s.bundle b).spare with
        | some (j, r) =>
          if j ≠ i then s
          else if ack then
            if !r ∧ !s.spareMatches b then (s.spareRefused b i .wlCapMismatch).mError .wlCapMismatch (Fld.addr .wlTrainState (spareOf b) 0)
            else s.substitute b i r
          else if refuse then s.spareRefused b i .wlSpareNone else s
        | none => s := by
  rw [State.spareBlock, hb]
  dsimp only
  rw [if_neg (by rw [hon, hs]; simp [LaneSt.active]; omega)] <;> rfl

/-- The partner grants the spare. -/
theorem State.spareBlock_ack (hb : s.spareBundle l = some b) (hon : s.laneOn l = true) (hs : s.laneSt l = LaneSt.active) (hi : i < 8)
    (hr : (s.bundle b).spare = some (i, false)) (hm : s.spareMatches b = true) :
    s.spareBlock l i (b / 2) false true false false = s.substitute b i false := by
  rw [State.spareBlock_eq hb hon hs hi, hr]
  simp [hm]

/-- The partner refuses it. -/
theorem State.spareBlock_refuse (hb : s.spareBundle l = some b) (hon : s.laneOn l = true) (hs : s.laneSt l = LaneSt.active) (hi : i < 8)
    (hr : (s.bundle b).spare = some (i, false)) : s.spareBlock l i (b / 2) false false true false = s.spareRefused b i .wlSpareNone := by
  rw [State.spareBlock_eq hb hon hs hi, hr]
  simp

/-- The partner asks for the spare while it waits. -/
theorem State.spareBlock_req (hb : s.spareBundle l = some b) (hon : s.laneOn l = true) (hs : s.laneSt l = LaneSt.active) (hi : i < 8)
    (hmine : s.spareMine b = none) (hfor : s.reg .wlBundleSpareFor b 0 ≠ i) (hsp : s.laneSt (spareOf b) = LaneSt.active)
    (hlog : s.logical (spareOf b) = 15) (hm : s.spareMatches b = true) :
    s.spareBlock l i (b / 2) true false false false = (s.spareAnswer b i true).substitute b i false := by
  rw [State.spareBlock_eq hb hon hs hi, if_pos rfl, State.spareReq, hmine]
  simp [hfor, hsp, hlog, hm]

/-- A request is sent on the lanes of the bundle and on the spare. -/
theorem State.out_spareAsk (s : State) (b i : Nat) (ret : Bool) : (s.spareAsk b i ret).out = s.out ++
    ((s.activeLanes b).filter (fun x => decide (x ≠ spareOf b)) ++ [spareOf b]).map fun x =>
      Out.block x (ctrlBlock 0xC3 (toLE 1 i ++ toLE 1 (b / 2) ++ toLE 1 (1 + 8 * b2n ret) ++ zeros 3)) := s.out_blocks ..

/-! ## Waltline: banks (R351) -/

theorem State.laneSt_toLane_other {l x : Nat} (h : l ≠ x) (s : State) (st code : Nat) : (s.toLane l st code).laneSt x = s.laneSt x := by
  rw [State.laneSt_toLane, if_neg h]

/-- Lanes that change to one state are all in it. -/
theorem State.laneSt_toLanes {st : Nat} (h : st < 16) {ls : List Nat} (hl : l ∈ ls) (s : State) :
    (ls.foldl (fun s l => State.toLane s l st 0) s).laneSt l = st := by
  refine foldl_of_mem (P := fun l (t : State) => t.laneSt l = st) (fun t x => ?_) (fun t x y hy => ?_) hl
  · rw [State.laneSt_toLane, if_pos rfl, Nat.mod_eq_of_lt h]
  · rw [State.laneSt_toLane, Nat.mod_eq_of_lt h, hy, ite_self]

/-- A bundle enters BANKED. -/
theorem State.bankEnter_effect (s : State) (b : Nat) : (s.bankEnter b).flag .wlBundleBanked b 0 = true ∧
    ∀ l ∈ s.bankLanes b, s.laneSt l = LaneSt.active → (s.bankEnter b).laneSt l = LaneSt.banked := by
  let ls := (s.bankLanes b).filter fun l => decide (s.laneSt l = LaneSt.active)
  let s1 := ls.foldl (fun s l => State.toLane s l LaneSt.banked 0) (s.setReg .wlBundleBanked b 0 1)
  have hbank : Kept (.without [.wlBundleBanked] []) (s.setReg .wlBundleBanked b 0 1) (s.bankEnter b) :=
    kept_doneAll ⟨by decide +kernel, by decide +kernel⟩ (kept_modBundle ⟨by decide +kernel, by decide +kernel⟩
      (kept_updateBundle ⟨by decide +kernel, by decide +kernel⟩
        (kept_foldl (fun _ _ h => kept_toLane ⟨by decide +kernel, by decide +kernel⟩ h) .refl)))
  have hst : Kept (.without [.wlTrainState] []) s1 (s.bankEnter b) :=
    kept_doneAll ⟨by decide +kernel, by decide +kernel⟩ (kept_modBundle ⟨by decide +kernel, by decide +kernel⟩
      (kept_updateBundle ⟨by decide +kernel, by decide +kernel⟩ .refl))
  refine ⟨(State.flag_congr _ (hbank.reg_without (List.mem_singleton_self _) b 0)).trans (State.flag_setReg_one ..), fun l hl ha => ?_⟩
  exact (State.laneSt_of_kept hst l).trans (State.laneSt_toLanes (by decide) (List.mem_filter.2 ⟨hl, decide_eq_true ha⟩) _)

/-- A bundle leaves BANKED: its lanes train. -/
theorem State.bankExit_effect (hb : s.flag .wlBundleBanked b 0 = true) : ∀ l ∈ s.bankLanes b, s.laneSt l = LaneSt.banked →
    (s.bankExit b).laneSt l = LaneSt.train := by
  intro l hl ha
  rw [State.bankExit, if_pos hb]
  exact State.laneSt_toLanes (by decide) (List.mem_filter.2 ⟨hl, decide_eq_true ha⟩) _

end

/-! ## Waltline: limits, PRBS, and all rows together -/

section
variable {s t : State} {l b i k : Nat}

/-- A lane of a bundle whose spare is not free, and has not been asked for, fails. -/
theorem State.laneSt_laneFault (hi : s.logical l < 8) (hn : (s.bundle (s.bundleOf l)).spare = none) (hf : s.spareFree (s.bundleOf l) = false) :
    (s.laneFault l false).1.laneSt l = LaneSt.failed := by
  delta State.laneFault
  extract_lets b i
  have hn' : (s.bundle b).spare = none := hn
  have hf' : s.spareFree b = false := hf
  rw [if_neg (by show ¬8 ≤ s.logical l; omega), if_neg (by simp [hn']), if_neg (by simp [hf'])]
  exact s.laneSt_laneFails b i l

/-- More CRC errors than the limit are a fault, and are forgotten. -/
theorem State.crcLimit_effect (s : State) (l : Nat) :
    let t := ((s.modLane l (fun x => { x with crcTimes := [] })).laneFault l false).1
    (t.lane l).crcTimes = [] ∧ (s.logical l < 8 → (s.bundle (s.bundleOf l)).spare = none → s.spareFree (s.bundleOf l) = false →
      t.laneSt l = LaneSt.failed) := by
  refine ⟨?_, fun hi hn hf => State.laneSt_laneFault (s := s.modLane l fun x => { x with crcTimes := [] }) hi hn hf⟩
  rw [State.lane, State.lanes_laneFault]
  exact congrArg Lane.crcTimes (State.lane_modLane_self ..)

theorem State.reg_takeNat (s : State) (f : Fld) (i j : Nat) : s.takeNat.2.reg f i j = s.reg f i j := rfl

/-- The counting of a checker ends, with at least so many errors more. -/
theorem State.prbsCount_effect (s : State) (l n : Nat) : (s.prbsCount l n).flag .wlPrbsLock l 0 = false ∧
    min (2 ^ Fld.wlPrbsErrCount.width - 1) (s.reg .wlPrbsErrCount l 0 + n) ≤ (s.prbsCount l n).reg .wlPrbsErrCount l 0 := by
  refine ⟨State.flag_setReg_zero .., ?_⟩
  have he : ∃ m lo hi v, s.prbsCount l n = ((s.takeNat.2.takeNat.2.bump .wlPrbsErrCount l 0 (n + m)).setReg64 lo hi l 0 v).setReg
      .wlPrbsLock l 0 0 ∧ lo = Fld.wlPrbsBitsLo ∧ hi = .wlPrbsBitsHi := ⟨_, _, _, _, rfl, rfl, rfl⟩
  obtain ⟨m, lo, hi, v, he, rfl, rfl⟩ := he
  rw [he, State.reg_setReg_fld _ (by decide), State.setReg64, State.reg_setReg_fld _ (by decide), State.reg_setReg_fld _ (by decide),
    State.reg_bump_self, State.reg_takeNat, State.reg_takeNat]
  exact min_le_min_left _ (by omega)

/-- The oldest frame has waited too long: all go out again, and wait anew. -/
theorem State.replayTimeout_effect (hd : s.replayDue l = true)
    (h : ∀ f ∈ (s.log (s.bundleOf l) (s.logical l)).retry, f.replays ≠ 3) :
    (s.replay (s.bundleOf l) (s.logical l) l).out = s.out ++ (s.log (s.bundleOf l) (s.logical l)).retry.map (fun f =>
        Out.frame l f.lseq true f.header f.payload (crc32 (f.header ++ f.payload))) ∧
      ∀ f ∈ ((s.replay (s.bundleOf l) (s.logical l) l).log (s.bundleOf l) (s.logical l)).retry, f.since = s.now := by
  have hne := s.retry_of_replayDue hd
  refine ⟨State.out_replay hne h l, fun f hf => ?_⟩
  rw [State.retry_replay hne h] at hf
  obtain ⟨g, -, rfl⟩ := List.mem_map.1 hf
  rfl

/-- The active lanes of a bundle are read from the states of lanes and from what they carry. -/
theorem State.activeLanes_congr (hs : t.laneSt = s.laneSt) (hl : t.logical = s.logical)
    (hf : t.reg .wlBundleSpareFor b 0 = s.reg .wlBundleSpareFor b 0) : t.activeLanes b = s.activeLanes b := by
  rw [State.activeLanes, State.activeLanes, State.lanesOf, State.lanesOf, hs, hl, hf]

/-- Blocks that are sent change no register and no record. -/
theorem State.wl_blockAll (s : State) (b type : Nat) (body : Bytes) : (s.blockAll b type body).wl = s.wl :=
  (kept_blockAll (W := .without [] [.wl]) ⟨by decide +kernel, by decide +kernel⟩ .refl).part_without (k := .wl) (List.mem_singleton_self _)

theorem State.reg_blockAll (s : State) (b type : Nat) (body : Bytes) (f : Fld) (i j : Nat) :
    (s.blockAll b type body).reg f i j = s.reg f i j :=
  (kept_blockAll (W := ⟨0, pieceBits [.out]⟩) ⟨by decide +kernel, by decide +kernel⟩ .refl).reg (Nat.zero_testBit _) i j

theorem State.bundle_blockAll (s : State) (b type : Nat) (body : Bytes) : (s.blockAll b type body).bundle = s.bundle := by
  funext c
  rw [State.bundle, State.bundle, State.wl_blockAll]

theorem State.bankLanes_blockAll (s : State) (b type : Nat) (body : Bytes) (c : Nat) :
    (s.blockAll b type body).bankLanes c = s.bankLanes c := by
  have hlog : (s.blockAll b type body).logical = s.logical := funext fun _ => State.reg_blockAll ..
  rw [State.bankLanes, State.bankLanes, State.lanesOf, State.lanesOf, hlog, State.bundle_blockAll, State.reg_blockAll]

/-- The partner asks for BANKED, and the bundle enters it. -/
theorem State.bankEnter_asked (s : State) (b type : Nat) (body : Bytes) :
    ((s.blockAll b type body).bankEnter b).flag .wlBundleBanked b 0 = true ∧
      ∀ l ∈ s.bankLanes b, s.laneSt l = LaneSt.active → ((s.blockAll b type body).bankEnter b).laneSt l = LaneSt.banked := by
  obtain ⟨h1, h2⟩ := (s.blockAll b type body).bankEnter_effect b
  rw [State.bankLanes_blockAll] at h2
  exact ⟨h1, fun l hl ha => h2 l hl ((State.reg_blockAll ..).trans ha)⟩

/-- A burst of flipped bits leaves as the mode says. -/
theorem State.injGo_permitted {o : Origin} (hon : s.laneOn l = true) (ho : s.isOwnerOrLocal o = true) (hinj : s.injects l = true) :
    s.injGo o l = if s.reg .wlPrbsInjMode l 0 = 1 then s.emit (.bitFlips l 1)
      else if s.reg .wlPrbsInjMode l 0 = 2 then s.emit (.bitFlips l (s.reg .wlPrbsInjBurst l 0)) else s := by
  delta State.injGo
  extract_lets m
  rw [if_neg (show ¬(!s.laneOn l) = true by simp [hon]), if_neg (show ¬(!s.isOwnerOrLocal o) = true by simp [ho]),
    if_neg (show ¬(!s.injects l) = true by simp [hinj])]

/-- The credit that is received. -/
theorem State.credit_effect (s : State) (k limit : Nat) :
    ((s.setReg .wlStreamOutLimit k 0 limit).stallUpdate k).reg .wlStreamOutLimit k 0 = limit % 2 ^ 32 := by
  have hw : Fld.wlStreamOutLimit.width = 32 := by decide +kernel
  rw [State.limit_stallUpdate, State.reg_setReg_self, hw]

/-- The credit that is sent. -/
theorem State.creditSend_effect (s : State) (k : Nat) (body : Bytes) (b : Nat) :
    (((s.setReg .wlStreamInLimit k 0 ((s.streamHead k + 512) % 2 ^ 32)).blockAll b 0x87 body).reg .wlStreamInLimit k 0 =
      (s.streamHead k + 512) % 2 ^ 32) ∧
    ((s.setReg .wlStreamInLimit k 0 ((s.streamHead k + 512) % 2 ^ 32)).blockAll b 0x87 body).out =
      s.out ++ (s.activeLanes b).map fun l => Out.block l (ctrlBlock 0x87 body) := by
  have hw : Fld.wlStreamInLimit.width = 32 := by decide +kernel
  have hk : Kept (.without [.wlStreamInLimit] []) (s.setReg .wlStreamInLimit k 0 ((s.streamHead k + 512) % 2 ^ 32))
      ((s.setReg .wlStreamInLimit k 0 ((s.streamHead k + 512) % 2 ^ 32)).blockAll b 0x87 body) :=
    kept_blockAll ⟨by decide +kernel, by decide +kernel⟩ .refl
  have hlanes : (s.setReg .wlStreamInLimit k 0 ((s.streamHead k + 512) % 2 ^ 32)).activeLanes b = s.activeLanes b := by
    have hreg : ∀ f, f ≠ Fld.wlStreamInLimit → ∀ x y,
        (s.setReg .wlStreamInLimit k 0 ((s.streamHead k + 512) % 2 ^ 32)).reg f x y = s.reg f x y :=
      fun f hf x y => State.reg_setReg_fld _ hf.symm ..
    exact State.activeLanes_congr (funext fun _ => hreg _ (by decide) ..) (funext fun _ => hreg _ (by decide) ..) (hreg _ (by decide) ..)
  refine ⟨(hk.reg_without (List.mem_singleton_self _) k 0).trans ((State.reg_setReg_self ..).trans (by rw [hw, Nat.mod_mod])), ?_⟩
  rw [State.out_blockAll, hlanes, State.out_setReg]

end

/-- Settles O12: each block's effect; events and blocks beside it leave lanes, logical lanes and streams. -/
theorem laneTrafficCompletes : Obligations.LaneTrafficCompletes := by
  have hnext {s u : State} {c : Prop} [Decidable c] (h : c) :
      (Host.Outcome.next (if c then u else s) : Host.Outcome State Fault Refusal) = .next u := congrArg Host.Outcome.next (if_pos h)
  have helse {s u : State} {c : Prop} [Decidable c] (h : ¬c) :
      (Host.Outcome.next (if c then s else u) : Host.Outcome State Fault Refusal) = .next u := congrArg Host.Outcome.next (if_neg h)
  refine ⟨fun l f s hon hs hi => ⟨_, rfl, State.frameBlock_bad hon hs hi, State.frameBlock_good hon hs hi⟩,
    fun l i lseq s f fs hon hs hi hr hmove hd => ⟨⟨_, rfl, State.ackBlock_ack hon hs hi hr hmove hd⟩,
      fun c hc h3 hne => ⟨_, rfl, State.ackBlock_nak hon hs hi hr hmove hd hc h3 hne⟩⟩,
    fun l s hd h => ⟨_, hnext hd, State.replayTimeout_effect hd h⟩,
    fun b k gen limit s hp hg => ⟨_, hnext ⟨hp, hg⟩, s.credit_effect k limit⟩,
    fun b k count s hp => ⟨_, State.execMark_eq hp count, State.markIn_effect (Nat.mod_lt _ (by decide)) s k⟩,
    fun b k number copies s hp hc hn => State.execStop_effect hp hc hn, fun b arrivals s x xs h => ⟨_, rfl, State.skew_deskew h⟩,
    fun b s ha => ⟨_, helse ha, ?_⟩, fun k s x e hv ho hc hx he => ⟨_, rfl, State.frameOut_effect hv ho hc hx he⟩,
    fun k s hp ha => ⟨_, hnext ⟨hp, ha⟩, s.creditSend_effect k _ _⟩, fun k s t0 h0 ht hs => ⟨_, hnext ⟨?_, ?_⟩, ?_⟩,
    fun p s k hk ha hm => ⟨_, rfl, State.statusSend_effect hk ha hm⟩, fun l s hon hs hc => ⟨_, hnext ⟨hon, hs, hc⟩, s.crcLimit_effect l⟩,
    fun l b i s hb hon hs hb8 hi hr => ⟨fun hm => ⟨_, rfl, ?_⟩, ⟨_, rfl, ?_⟩⟩,
    fun l b i s hb hon hs hb8 hi hmine hfor hsp hlog hm => ⟨_, rfl, ?_⟩, fun l b i ret s hb hr => ⟨_, rfl, ?_⟩,
    fun b s ha => ⟨fun hbusy => ⟨_, helse ha, ?_⟩, fun hreq => ⟨_, helse ha, ?_⟩⟩,
    fun b s hb => ⟨_, rfl, s.flag_bankExit b, State.bankExit_effect hb⟩, fun l x s hx hon h1 h2 => ⟨_, hnext ⟨hx, hon, h1, h2⟩, s.reg_bump_self ..⟩,
    fun o l s hon ho hinj => ⟨fun hm => ⟨_, rfl, ?_⟩, fun hm => ⟨_, rfl, ?_⟩⟩,
    fun l s hinj hm => ⟨_, hnext ⟨hinj, hm⟩, rfl⟩, fun l s hon hs hchk hmode => ⟨_, hnext ⟨hon, hs, hchk, hmode⟩, State.flag_setReg_one ..⟩,
    fun l s hlock => ⟨_, hnext hlock, s.prbsCount_effect l 64⟩⟩
  · refine ⟨?_, s.out_blockAll ..⟩
    refine (congrArg Bundle.dskCount (State.bundle_modBundle_self ..)).trans ?_
    rw [State.bundle_blockAll]
  · rw [h0]
    exact decide_eq_true ht
  · simp [hs]
  · exact (congrArg Stream.stallSeen ((State.sameWl_strEvent 6 (s.modStream k fun x => { x with stallSeen := true }) k).records.stream k)).trans
      (congrArg Stream.stallSeen (State.stream_modStream_self ..))
  · rw [State.spareBlock_ack hb hon hs hi hr hm]
    exact s.substitute_effect hi b
  · rw [State.spareBlock_refuse hb hon hs hi hr]
    exact State.spareRefused_effect hr _
  · rw [State.spareBlock_req hb hon hs hi hmine hfor hsp hlog hm]
    obtain ⟨h1, h2, h3, -⟩ := (s.spareAnswer b i true).substitute_effect hi b
    exact ⟨h1, h2, h3⟩
  · rw [hb]
    dsimp only
    rw [hr]
    exact s.out_spareAsk b i ret
  · rw [if_pos rfl, if_neg (by simp [hbusy])]
    exact s.bankEnter_asked b _ _
  · rw [if_neg Bool.false_ne_true, if_pos ⟨rfl, hreq⟩]
    exact s.bankEnter_effect b
  · rw [State.injGo_permitted hon ho hinj, if_pos hm]
    rfl
  · rw [State.injGo_permitted hon ho hinj, if_neg (by rw [hm]; decide), if_pos hm]
    rfl

end Sys2Proof.Machine
end

section
/-! PROOFS. Queues and the commands of the host interface (R311 to R327). -/

set_option Elab.async false

namespace Sys2Proof.Machine

/-! ## Doorbells, and the words of a queue (R311, R314, R318, R322) -/

@[simp] theorem State.reg_rescanWith (s : State) (q : Nat) (f : Fld) (i j : Nat) : (s.rescanWith q).reg f i j = s.reg f i j :=
  have hk : Kept ⟨0, pieceBits [.queues]⟩ s (s.rescanWith q) := kept_rescanWith ⟨by decide, by decide⟩ .refl
  hk.reg (Nat.zero_testBit _) i j

/-- A doorbell that R314 accepts sets the index of the queue's way. -/
theorem State.doorbell_accepted {o : Origin} {q i : Nat} {s : State} (hoff : s.sys.off = false) (hq : q < 4096)
    (hp : (s.qPort q).isSome = true) (hm : s.mayQueue o q = true) (he : s.qEnabled q = true)
    (hi : s.indexValid q (i % 2 ^ 32) = true) :
    (s.doorbell o q i).reg (if s.qIn q then Fld.queuePidx else .queueCidx) q 0 = i % 2 ^ 32 := by
  have hsome : ¬(s.qPort q).isNone = true := fun hn => by simp [Option.isNone_iff_eq_none.1 hn] at hp
  unfold State.doorbell
  dsimp only
  rw [if_neg (show ¬_ by simp [hoff, hsome]; omega), if_neg (by simp [hm]), if_pos ⟨he, hi⟩, State.reg_rescanWith,
    State.reg_setReg_self]
  split <;> rfl

/-- A permitted write of a word of a queue leaves the registers as the write of its fields does. -/
theorem State.reg_writeWord_queue {o : Origin} {q off addr v : Nat} {s : State} (hoff : s.sys.off = false) (ha : addr % 4 = 0)
    (hw : decodeAddr addr = some ⟨.queue, q, off⟩) (hf : (⟨.queue, q, off⟩ : WordAt).fields ≠ []) (hp : (s.qPort q).isSome = true)
    (hm : s.mayQueue o q = true) (f : Fld) (i j : Nat) :
    (s.writeWord o addr v).reg f i j = (s.writeFields o (s.wordPart ⟨.queue, q, off⟩) ⟨.queue, q, off⟩ v).reg f i j :=
  (State.kept_writeWord_permitted hoff ha hw rfl hf (fun _ => hp) hm).reg (Nat.zero_testBit _) i j

theorem State.reg_queueEnable {o : Origin} {q v : Nat} {s : State} (hoff : s.sys.off = false) (hq : q < 4096)
    (hp : (s.qPort q).isSome = true) (hm : s.mayQueue o q = true) (f : Fld) (i j : Nat) :
    (s.writeWord o (Fld.addr .queueCtlEnable q 0) v).reg f i j = (s.enableQueue q (v % 2)).reg f i j := by
  rw [State.reg_writeWord_queue hoff (Fld.addr_queue_aligned q).1 (decodeAddr_queueCtl hq) (by simp [WordAt.fields_queueCtl]) hp hm,
    State.writeFields_queueCtl]

theorem State.qEnabled_enableQueue_zero (s : State) (q : Nat) : (s.enableQueue q 0).qEnabled q = false := by
  rw [State.enableQueue]
  rw [if_pos rfl, State.qEnabled, State.flag, State.reg_rescan, State.reg_setReg_self]
  rfl

theorem State.qEnabled_enableQueue_one {s : State} {q : Nat} (he : s.qEnabled q = false) (ht : s.reg .queueCfgType q 0 ≠ 0)
    (hs : s.reg .queueCfgType q 0 = QT.stimulus → s.queuesOf (s.qScope q) QT.stimulus = []) :
    (s.enableQueue q 1).qEnabled q = true := by
  rw [State.enableQueue]
  rw [if_neg (by decide), if_neg (by simp [he]), if_neg (by rintro (h | ⟨h, hne⟩); exacts [ht h, hne (hs h)]), State.qEnabled,
    State.flag, State.reg_rescan, State.reg_setReg_self]
  rfl

theorem State.reg_taskSoftFlagSet {o : Origin} {q flags : Nat} {s : State} (hoff : s.sys.off = false) (hq : q < 4096)
    (hp : (s.qPort q).isSome = true) (hm : s.mayQueue o q = true) (hf : flags < 2 ^ 16) (hs : s.reg .taskFlagsSoft q 0 < 2 ^ 16) :
    (s.writeWord o (Fld.addr .taskFlagsSoft q 0) (flags * 2 ^ 16)).reg .taskFlagsSoft q 0 =
      Nat.lor (s.reg .taskFlagsSoft q 0) flags := by
  have hv : flags * 2 ^ 16 / 2 ^ 16 % 2 ^ 16 = flags := by rw [Nat.mul_div_cancel _ (by decide), Nat.mod_eq_of_lt hf]
  rw [State.reg_writeWord_queue hoff (Fld.addr_queue_aligned q).2 (decodeAddr_taskFlags hq) (by simp [WordAt.fields_taskFlags]) hp hm,
    State.writeFields_taskFlags, State.reg_rescan, hv]
  exact State.reg_setReg_of_lt _ (Nat.or_lt_two_pow hs hf) ..

/-! ## Dispatch and coalesced interrupts (R319, R324) -/

/-- The start of a dispatch counts it (R318). -/
theorem State.reg_dispatchStart (s : State) (q engine : Nat) : (s.dispatchStart q engine).reg .taskDispatchCount q 0 =
    min (2 ^ Fld.taskDispatchCount.width - 1) (s.reg .taskDispatchCount q 0 + 1) := by
  have hdma : Kept (.without [.taskDispatchCount] []) s (if s.qIn q then s.dmaUse ((s.qPort q).getD 4) else s) :=
    kept_ite (kept_dmaUse ⟨by decide +kernel, by decide +kernel⟩ .refl) .refl
  have hsched : ∀ t : State, Kept (.without [.taskDispatchCount] []) t (t.schedEvent 1 q engine) := fun t =>
    kept_schedEvent ⟨by decide +kernel, by decide +kernel⟩ .refl
  unfold State.dispatchStart
  dsimp only
  rw [(hsched _).reg_without (by decide), State.reg_modQueue, State.reg_withHost, State.reg_bump_self, State.reg_setReg_fld _ (by decide),
    hdma.reg_without (by decide)]

/-- What follows the start of a dispatch counts none. -/
theorem State.reg_dispatch (s : State) (q engine : Nat) (entries : List Bytes) :
    (s.dispatch q engine entries).reg .taskDispatchCount q 0 = (s.dispatchStart q engine).reg .taskDispatchCount q 0 := by
  have hk : Kept (.without [.taskDispatchCount] []) (s.dispatchStart q engine) (s.dispatch q engine entries) :=
    kept_chainEvent ⟨by decide +kernel, by decide +kernel⟩ <| kept_dispatchEnd ⟨by decide +kernel, by decide +kernel⟩ <|
      kept_schedEvent ⟨by decide +kernel, by decide +kernel⟩ <| kept_fullEvent ⟨by decide +kernel, by decide +kernel⟩ <|
      kept_batchEnd ⟨by decide +kernel, by decide +kernel⟩ <| kept_moveEntries ⟨by decide +kernel, by decide +kernel⟩ .refl
  exact hk.reg_without (by decide) q 0

theorem State.reg_rescanAll (s : State) (f : Fld) (i j : Nat) : s.rescanAll.reg f i j = s.reg f i j :=
  have hk : Kept ⟨0, pieceBits [.queues]⟩ s s.rescanAll := kept_rescanAll ⟨by decide, by decide⟩ .refl
  hk.reg (Nat.zero_testBit _) i j

theorem taskDispatch_counts {engine q : Nat} {entries : List Bytes} {s : State} (hoff : s.sys.off = false)
    (hq : s.rescanAll.nextTask engine = some q) :
    Answers (.taskDispatch engine entries) s fun t =>
      t.reg .taskDispatchCount q 0 = min (2 ^ Fld.taskDispatchCount.width - 1) (s.reg .taskDispatchCount q 0 + 1) := by
  refine ⟨s.rescanAll.dispatch q engine entries, ?_, ?_⟩
  · show execTaskDispatch engine entries s = _
    unfold execTaskDispatch
    rw [if_neg (by simp [hoff])]
    dsimp only
    rw [hq]
  · dsimp only
    rw [State.reg_dispatch, State.reg_dispatchStart, State.reg_rescanAll]

/-- An interrupt of a queue signals its entries to the port (R324). -/
theorem State.queueSignal_effect {s : State} {q n : Nat} (hp : s.qPort q = some n) :
    (s.queueSignal q).queue q = { s.queue q with unsignalled := 0 } ∧
      (s.queueSignal q).out = s.out ++ [Out.msix n (s.reg .queueIntVector q 0)] := by
  have hemit : ∀ (t : State) (o : Out), (t.emit o).queue q = t.queue q := fun _ _ => rfl
  unfold State.queueSignal
  rw [hp]
  dsimp only
  exact ⟨(hemit ..).trans (State.queue_modQueue_self ..), rfl⟩

/-! ## HOST_IDENTIFY, QUEUE_ASSIGN and QUEUE_SETUP (R311, R321, R322) -/

theorem leVal_lt : ∀ bs : Bytes, leVal bs < 256 ^ bs.length
  | [] => by decide
  | b :: bs => by
    have hb : b.toNat < 256 := b.isLt
    have htail := leVal_lt bs
    rw [leVal, List.length_cons, Nat.pow_succ]
    omega

theorem le_lt (bs : Bytes) (off n : Nat) : le bs off n < 256 ^ n :=
  (leVal_lt _).trans_le (Nat.pow_le_pow_right (by decide) (by simp))

theorem State.reg_hostIdentify (s : State) (n : Nat) (ident : Bytes) {j : Nat} (hj : j < 4) :
    (([0, 1, 2, 3] : List Nat).foldl (fun s j => s.setReg .hostId n j (le ident (4 * j) 4)) s).reg .hostId n j = le ident (4 * j) 4 := by
  have hw (k : Nat) : le ident k 4 % 2 ^ Fld.hostId.width = le ident k 4 := Nat.mod_eq_of_lt (le_lt ident k 4)
  obtain rfl | rfl | rfl | rfl : j = 0 ∨ j = 1 ∨ j = 2 ∨ j = 3 := by omega
  all_goals simp [State.reg_setReg, hw]

theorem hostIdentify_completes {r : CmdRef} {ident : Bytes} {n : Nat} {s : State} (hf : s.fresh r = true) (ho : r.org = .host n) :
    Completes (.hostIdentify r ident) r s fun t => ∀ j, j < 4 → t.reg .hostId n j = le ident (4 * j) 4 :=
  completes_of_oks hf rfl fun h => ⟨([0, 1, 2, 3] : List Nat).foldl (fun s j => s.setReg .hostId n j (le ident (4 * j) 4)) { s with host := h },
    by rw [cmdHostIdentify, ho], rfl, fun j hj => by rw [State.reg_done, State.reg_hostIdentify _ _ _ hj]⟩

theorem State.busy_rescan (s : State) (q : Nat) : (s.rescan q).host.busy = s.host.busy :=
  State.busy_of_kept (kept_rescan ⟨by decide +kernel, by decide +kernel⟩ .refl)

theorem State.reg_queueDown_type (s : State) (q : Nat) : (s.queueDown q).reg .queueCfgType q 0 = 0 := by
  rw [State.queueDown, State.reg_rescan, State.reg_modQueue, State.reg_setReg_self]
  rfl

theorem State.busy_setReg (s : State) (f : Fld) (i j v : Nat) : (s.setReg f i j v).host.busy = s.host.busy := rfl

theorem State.busy_queueDown (s : State) (q : Nat) : (s.queueDown q).host.busy = s.host.busy :=
  State.busy_of_kept (kept_queueDown ⟨by decide +kernel, by decide +kernel⟩ .refl)

theorem State.pExists_lt {s : State} {p : Nat} (h : s.pExists p = true) : p < 32 := by
  rw [State.pExists, Bool.and_eq_true, decide_eq_true_eq] at h
  exact h.1

theorem queueAssign_completes {r : CmdRef} {q part port : Nat} {s : State} (hf : s.fresh r = true) (ho : s.isOwner r.org = true)
    (hq : q < 4096) (hpart : (part = 0xFF ∧ s.portPresent port = true) ∨ s.pExists part = true) (he : s.qEnabled q = false) :
    Completes (.queueAssign r q part port) r s fun t => t.qScope q = part ∧ t.reg .queueCfgType q 0 = 0 := by
  have hlt : part < 2 ^ Fld.queueCfgPart.width := by
    rcases hpart with ⟨rfl, -⟩ | hp
    · decide
    · exact (State.pExists_lt hp).trans (by decide)
  have hok : (part = 255 → s.portPresent port = true) ∧ (part = 255 ∨ s.pExists part = true) ∧ (32 ≤ part → part = 255) := by
    rcases hpart with ⟨rfl, hp⟩ | hp
    · exact ⟨fun _ => hp, .inl rfl, fun _ => rfl⟩
    · have := State.pExists_lt hp
      exact ⟨fun h => by omega, .inr hp, fun h => by omega⟩
  obtain ⟨hport, hex, hscope⟩ := hok
  refine completes_of_oks hf rfl fun h => ⟨_, refuseIf_ok _ ?_, ?_, ?_, ?_⟩
  · have hregs : ({ s with host := h } : State).isOwner r.org = true ∧ ({ s with host := h } : State).portPresent port = s.portPresent port ∧
        ({ s with host := h } : State).pExists part = s.pExists part ∧ ({ s with host := h } : State).qEnabled q = false :=
      ⟨ho, rfl, rfl, he⟩
    obtain ⟨h1, h2, h3, h4⟩ := hregs
    simp only [List.forall_mem_cons, h1, h2, h3, h4]
    refine ⟨rfl, by simpa using hq, by simpa using hscope, by simpa using hport, by simpa using or_iff_not_imp_left.1 hex, trivial, by simp⟩
  · exact (State.busy_setReg ..).trans ((State.busy_setReg ..).trans (State.busy_queueDown ..))
  · rw [State.qScope, State.reg_done, State.reg_setReg_fld _ (by decide), State.reg_setReg_of_lt _ hlt]
  · rw [State.reg_done, State.reg_setReg_fld _ (by decide), State.reg_setReg_fld _ (by decide)]
    exact State.reg_queueDown_type ..

theorem State.reg_clear_out {f : Fld} {q : Nat} {l : List Fld} (s : State) (h : f ∉ l) :
    (l.foldl (fun s x => s.setReg x q 0 (s.rst x q 0)) s).reg f q 0 = s.reg f q 0 := by
  induction l generalizing s with
  | nil => rfl
  | cons x l ih =>
    obtain ⟨hx, hl⟩ := not_or.1 (List.mem_cons.not.1 h)
    rw [List.foldl_cons, ih _ hl, State.reg_setReg_fld _ (Ne.symm hx)]

/-- A field among those put back to their reset values has its own. -/
theorem State.reg_clear_mem {f : Fld} {q : Nat} {l : List Fld} (s : State) (h : f ∈ l) :
    (l.foldl (fun s x => s.setReg x q 0 (s.rst x q 0)) s).reg f q 0 = s.rst f q 0 % 2 ^ f.width := by
  induction l generalizing s with
  | nil => cases h
  | cons x l ih =>
    by_cases hl : f ∈ l
    · exact ih _ hl
    · rw [List.foldl_cons, State.reg_clear_out _ hl, (List.mem_cons.1 h).resolve_right hl, State.reg_setReg_self]

/-- The fields that QUEUE_SETUP puts back to their reset values: the indices, the status and the task's (R322). -/
def queueCleared : List Fld :=
  [.queuePidx, .queueCidx, .queueStatusEntryErr, .queueStatusDmaErr, .queueStatusDrop, .queueStatusSetupErr, .queueStatusDbErr,
    .taskCfgChainEn, .taskCfgModeAll, .taskCfgPrio, .taskCfgBatchM1, .taskCfgPred, .taskMask, .taskFlagsSoft, .taskDispatchCount]

/-- The fields that QUEUE_SETUP writes with its operands (R322). -/
def State.queueFields (s : State) (q type sizeLog2 entryLog2 base wb pair : Nat) : State :=
  (((((s.setReg .queueCfgType q 0 type).setReg .queueCfgSizeLog2 q 0 sizeLog2).setReg .queueCfgEntryLog2 q 0 entryLog2).setReg64
    .queueBaseLo .queueBaseHi q 0 base).setReg64 .queueWbLo .queueWbHi q 0 wb).setReg .queuePair q 0 pair

theorem State.reg_setReg64_fld (s : State) {lo hi f : Fld} (hlo : lo ≠ f) (hhi : hi ≠ f) (i j v i' j' : Nat) :
    (s.setReg64 lo hi i j v).reg f i' j' = s.reg f i' j' := by
  rw [State.setReg64, State.reg_setReg_fld _ hhi, State.reg_setReg_fld _ hlo]

section
variable (s : State) (q type sizeLog2 entryLog2 base wb pair : Nat)

theorem State.reg_setupQueue (f : Fld) : (s.setupQueue q type sizeLog2 entryLog2 base wb pair).reg f q 0 =
    (queueCleared.foldl (fun s x => s.setReg x q 0 (s.rst x q 0)) (s.queueFields q type sizeLog2 entryLog2 base wb pair)).reg f q 0 := by
  rw [State.setupQueue, State.reg_rescan, State.reg_modQueue]
  rfl

theorem State.reg_setupQueue_out {f : Fld} (h : f ∉ queueCleared) : (s.setupQueue q type sizeLog2 entryLog2 base wb pair).reg f q 0 =
    (s.queueFields q type sizeLog2 entryLog2 base wb pair).reg f q 0 := by
  rw [State.reg_setupQueue, State.reg_clear_out _ h]

theorem State.reg_queueFields_other {f : Fld} (h : f ∉ [Fld.queueBaseLo, .queueBaseHi, .queueWbLo, .queueWbHi, .queuePair]) :
    (s.queueFields q type sizeLog2 entryLog2 base wb pair).reg f q 0 =
      (((s.setReg .queueCfgType q 0 type).setReg .queueCfgSizeLog2 q 0 sizeLog2).setReg .queueCfgEntryLog2 q 0 entryLog2).reg f q 0 := by
  obtain ⟨h1, h2, h3, h4, h5⟩ : f ≠ .queueBaseLo ∧ f ≠ .queueBaseHi ∧ f ≠ .queueWbLo ∧ f ≠ .queueWbHi ∧ f ≠ .queuePair := by
    simpa using h
  rw [State.queueFields, State.reg_setReg_fld _ h5.symm, State.reg_setReg64_fld _ h3.symm h4.symm,
    State.reg_setReg64_fld _ h1.symm h2.symm]

theorem State.reg64_queueFields :
    (s.queueFields q type sizeLog2 entryLog2 base wb pair).reg64 .queueBaseLo .queueBaseHi q 0 = base % 2 ^ 64 := by
  have hrest {f : Fld} (hp : Fld.queuePair ≠ f) (hlo : Fld.queueWbLo ≠ f) (hhi : Fld.queueWbHi ≠ f) (t : State) :
      ((t.setReg64 .queueWbLo .queueWbHi q 0 wb).setReg .queuePair q 0 pair).reg f q 0 = t.reg f q 0 := by
    rw [State.reg_setReg_fld _ hp, State.reg_setReg64_fld _ hlo hhi]
  rw [State.reg64, State.queueFields, hrest (by decide) (by decide) (by decide), hrest (by decide) (by decide) (by decide)]
  exact State.reg64_setReg64 _ (by decide) (by decide) (by decide) ..

theorem State.busy_setupQueue : (s.setupQueue q type sizeLog2 entryLog2 base wb pair).host.busy = s.host.busy :=
  State.busy_of_kept (kept_setupQueue ⟨by decide +kernel, by decide +kernel⟩ .refl)

/-- QUEUE_SETUP leaves the queue set up as asked, and empty. -/
theorem State.setupQueue_effect (ht : type < 8) (hz : sizeLog2 ≤ 16) (he : entryLog2 < 16) :
    (s.setupQueue q type sizeLog2 entryLog2 base wb pair).reg .queueCfgType q 0 = type ∧
    (s.setupQueue q type sizeLog2 entryLog2 base wb pair).qSize q = 2 ^ sizeLog2 ∧
    (s.setupQueue q type sizeLog2 entryLog2 base wb pair).reg .queueCfgEntryLog2 q 0 = entryLog2 ∧
    (s.setupQueue q type sizeLog2 entryLog2 base wb pair).reg64 .queueBaseLo .queueBaseHi q 0 = base % 2 ^ 64 ∧
    (s.setupQueue q type sizeLog2 entryLog2 base wb pair).reg .queuePidx q 0 = 0 ∧
    (s.setupQueue q type sizeLog2 entryLog2 base wb pair).reg .queueCidx q 0 = 0 := by
  have hclear {f : Fld} (h : f ∈ queueCleared) (h0 : ∀ t : State, t.rst f q 0 = 0) :
      (s.setupQueue q type sizeLog2 entryLog2 base wb pair).reg f q 0 = 0 := by
    rw [State.reg_setupQueue, State.reg_clear_mem _ h, h0, Nat.zero_mod]
  have hzlt : sizeLog2 < 2 ^ Fld.queueCfgSizeLog2.width := hz.trans_lt (by decide)
  refine ⟨?_, ?_, ?_, ?_, hclear (by decide) fun _ => rfl, hclear (by decide) fun _ => rfl⟩
  · rw [State.reg_setupQueue_out _ _ _ _ _ _ _ _ (by decide), State.reg_queueFields_other _ _ _ _ _ _ _ _ (by decide),
      State.reg_setReg_fld _ (by decide), State.reg_setReg_fld _ (by decide), State.reg_setReg_of_lt _ ht]
  · rw [State.qSize, State.reg_setupQueue_out _ _ _ _ _ _ _ _ (by decide), State.reg_queueFields_other _ _ _ _ _ _ _ _ (by decide),
      State.reg_setReg_fld _ (by decide), State.reg_setReg_of_lt _ hzlt]
  · rw [State.reg_setupQueue_out _ _ _ _ _ _ _ _ (by decide), State.reg_queueFields_other _ _ _ _ _ _ _ _ (by decide),
      State.reg_setReg_of_lt _ he]
  · rw [State.reg64, State.reg_setupQueue_out _ _ _ _ _ _ _ _ (by decide), State.reg_setupQueue_out _ _ _ _ _ _ _ _ (by decide)]
    exact s.reg64_queueFields ..

end

/-- A TYPE that R312 permits is one of its seven. -/
theorem State.type_lt {s : State} {q type : Nat} (h : s.typeOk q type = true) : type < 8 := by
  rw [State.typeOk] at h
  split at h <;> simp only [decide_eq_true_eq] at h <;> omega

theorem entryLog2_lt {type e : Nat} (h : entryOk type e = true) : e < 16 := by
  rw [entryOk] at h
  split_ifs at h <;> simp only [decide_eq_true_eq] at h <;> omega

theorem queueSetup_completes {r : CmdRef} {q type sizeLog2 entryLog2 base wb pair : Nat} {s : State} (hf : s.fresh r = true) (hq : q < 4096)
    (hpair : pair < 4096) (hp : (s.qPort q).isSome = true) (hm : s.mayQueue r.org q = true) (ht : s.typeOk q type = true)
    (h4 : 4 ≤ sizeLog2) (h16 : sizeLog2 ≤ 16) (he : entryOk type entryLog2 = true) (hb64 : base % 64 = 0)
    (hb : base % 2 ^ entryLog2 = 0) (hwb : wb % 8 = 0) (hen : s.qEnabled q = false)
    (hcmd : type = QT.command → s.pairOk q pair entryLog2 = true)
    (hcap : type = QT.capture → 8 + s.reg .partAcqRecBytes (s.qScope q) 0 ≤ 2 ^ entryLog2) :
    Completes (.queueSetup r q type sizeLog2 entryLog2 base wb pair) r s fun t => t.reg .queueCfgType q 0 = type ∧
      t.qSize q = 2 ^ sizeLog2 ∧ t.reg .queueCfgEntryLog2 q 0 = entryLog2 ∧
      t.reg64 .queueBaseLo .queueBaseHi q 0 = base % 2 ^ 64 ∧ t.reg .queuePidx q 0 = 0 ∧ t.reg .queueCidx q 0 = 0 := by
  refine completes_of_oks hf rfl fun h => ⟨_, refuseIf_ok _ ?_, State.busy_setupQueue .., ?_⟩
  · have hregs : ({ s with host := h } : State).qPort q = s.qPort q ∧ ({ s with host := h } : State).mayQueue r.org q = true ∧
        ({ s with host := h } : State).typeOk q type = true ∧ ({ s with host := h } : State).qEnabled q = false ∧
        ({ s with host := h } : State).pairOk q pair entryLog2 = s.pairOk q pair entryLog2 ∧
        ({ s with host := h } : State).reg .partAcqRecBytes (({ s with host := h } : State).qScope q) 0 =
          s.reg .partAcqRecBytes (s.qScope q) 0 := ⟨rfl, hm, ht, hen, rfl, rfl⟩
    obtain ⟨h1, h2, h3, h5, h6, h7⟩ := hregs
    simp only [List.forall_mem_cons, h1, h2, h3, h5, h6, h7, he]
    refine ⟨by simp; omega, by simpa using hp, rfl, rfl, by simp; omega, rfl, by simp; omega, by simp; omega, trivial, ?_, ?_, by simp⟩
    · simpa using hcmd
    · simpa using hcap
  · simp only [State.qSize, State.reg64, State.reg_done]
    exact State.setupQueue_effect _ _ _ _ _ _ _ _ (State.type_lt ht) h16 (entryLog2_lt he)

/-! ## Commands whose effect reads what the host interface holds (R321, R325, R327) -/

section
variable {s : State} {r : CmdRef} {code p : Nat} {ps : Bytes} {f : State → CmdRes} {c : Instr} {P : Answer → State → Prop}

/-- A command that starts joins those that are BUSY; the host interface keeps the rest. -/
theorem State.begin_fresh (h : s.busyOf r = none) (code : Nat) (ps : Bytes) (p : Nat) (n : Option Nat) (i : Bytes) :
    s.begin r code ps p n i =
      { s with host := { s.host with busy := s.host.busy ++ [⟨r, code, ps, n, p, s.role r.org, i, none⟩] } } := by
  rw [State.begin, if_neg (by simp [h])]

/-- A fresh command whose effect, on the state in which it has begun, ends it with an answer: it has that answer. -/
theorem exec_of_begun {u : State} {a : Answer} (hf : s.fresh r = true) (he : exec c s = .next (runCmd r code ps p f s))
    (hu : f (s.begin r code ps p none (s.hostIdOf r.org)) = (u, some a))
    (hbusy : u.host.busy = (s.begin r code ps p none (s.hostIdOf r.org)).host.busy) :
    exec c s = .next (u.answer r a) ∧ ((u.answer r a).busyOf r).bind Busy.ans = some a := by
  have hr : u.busyOf r = _ :=
    (congrArg (List.find? _) hbusy).trans (s.busyOf_begin (s.fresh_busy hf) code ps p none (s.hostIdOf r.org))
  exact ⟨by rw [he, runCmd_fresh _ hf, hu], State.ans_answer a hr rfl⟩

/-- A fresh command whose effect, on the state with any list of commands under way, ends it with an answer: it has that answer. -/
theorem answers_of_begun (hf : s.fresh r = true) (he : exec c s = .next (runCmd r code ps p f s))
    (H : ∀ l : List Busy, ∃ (u : State) (a : Answer),
      f { s with host := { s.host with busy := l } } = (u, some a) ∧ u.host.busy = l ∧ P a (u.answer r a)) :
    Answers c s fun t => ∃ a, (t.busyOf r).bind Busy.ans = some a ∧ P a t := by
  have hb := State.begin_fresh (s.fresh_busy hf) code ps p none (s.hostIdOf r.org)
  obtain ⟨u, a, hu, hbusy, hP⟩ := H (s.host.busy ++ [⟨r, code, ps, none, p, s.role r.org, s.hostIdOf r.org, none⟩])
  obtain ⟨hexec, hans⟩ := exec_of_begun hf he (by rw [hb, hu]) (by rw [hb, hbusy])
  exact ⟨_, hexec, a, hans, hP⟩

/-- What an answer says of a command is its status. -/
theorem State.statusOf_of_ans {a : Answer} {t : State} (h : (t.busyOf r).bind Busy.ans = some a) : t.statusOf r = some a.status := by
  rw [State.statusOf, h]
  rfl

theorem completes_of_begun {P : State → Prop} (hf : s.fresh r = true) (he : exec c s = .next (runCmd r code ps p f s))
    (H : ∀ l : List Busy, ∃ (u : State) (a : Answer), f { s with host := { s.host with busy := l } } = (u, some a) ∧ a.status = .ok ∧
      u.host.busy = l ∧ P (u.answer r a)) : Completes c r s P := by
  obtain ⟨t, ht, a, ha, hst, hP⟩ := answers_of_begun (P := fun a t => a.status = .ok ∧ P t) hf he fun l =>
    have ⟨u, a, hu, hst, hbusy, hP⟩ := H l
    ⟨u, a, hu, hbusy, hst, hP⟩
  exact ⟨t, ht, by rw [State.statusOf_of_ans ha, hst], hP⟩

theorem answersStatus_of_begun {P : State → Prop} {st : Status} (hf : s.fresh r = true) (he : exec c s = .next (runCmd r code ps p f s))
    (H : ∀ l : List Busy, ∃ u : State, f { s with host := { s.host with busy := l } } = u.says st ∧ u.host.busy = l ∧ P (u.done r st)) :
    Answers c s fun t => t.statusOf r = some st ∧ P t := by
  obtain ⟨t, ht, a, ha, hst, hP⟩ := answers_of_begun (P := fun a t => a.status = st ∧ P t) hf he fun l =>
    have ⟨u, hu, hbusy, hP⟩ := H l
    ⟨u, ⟨st, 0, []⟩, hu, hbusy, rfl, hP⟩
  exact ⟨t, ht, by rw [State.statusOf_of_ans ha, hst], hP⟩

end

/-- An answer leaves host memory and the certificates as they were. -/
theorem State.mem_answer (s : State) (r : CmdRef) (a : Answer) : (s.answer r a).host.mem = s.host.mem :=
  (kept_answer (W := .without [] [.hostMem]) ⟨by decide +kernel, by decide +kernel⟩ .refl).part_without (k := .hostMem) (by decide)

/-- The bytes that an AUDIT_READ brings to the host: those of at most COUNT entries that the origin may read (R325). -/
def State.auditBytes (s : State) (o : Origin) (first count : Nat) : Bytes :=
  ((s.auditHeld.filter fun e => decide (first ≤ e.seq) && s.auditVisible o e).take count).flatMap AuditEntry.bytes

theorem cmdAuditRead_host {r : CmdRef} {first count addr n : Nat} {s : State} (ho : r.org = .host n) (h1 : 1 ≤ count) (h2 : count ≤ 4096) :
    ∃ lost, cmdAuditRead r first count addr s = (s.hostWrite n addr (s.auditBytes r.org first count), some ⟨.ok, 0, lost⟩) := by
  unfold cmdAuditRead State.auditBytes
  rw [ho]
  dsimp only
  rw [refuseIf_ok _ (by simp; omega)]
  exact ⟨_, rfl⟩

theorem State.hostHas_hostWrite (s : State) (n addr : Nat) (bs : Bytes) : (s.hostWrite n addr bs).hostHas n addr bs := by
  have hrun := Tab.getRun_putRun (d := none) (pre := [n]) (t := s.host.mem) (i := addr) (vs := bs.map some)
  rwa [List.length_map] at hrun

theorem auditRead_completes {r : CmdRef} {first count addr n : Nat} {s : State} (hf : s.fresh r = true) (ho : r.org = .host n)
    (h1 : 1 ≤ count) (h2 : count ≤ 4096) :
    Completes (.auditRead r first count addr) r s fun t => t.hostHas n addr (s.auditBytes r.org first count) :=
  completes_of_begun hf rfl fun l =>
    have ⟨lost, hcmd⟩ := cmdAuditRead_host (s := { s with host := { s.host with busy := l } }) ho h1 h2
    ⟨_, ⟨.ok, 0, lost⟩, hcmd, rfl, rfl, (congrArg (Tab.getRun none · ..) (State.mem_answer ..)).trans (State.hostHas_hostWrite ..)⟩

/-! ## OWNER_CERT_SET and ROLE_GRANT: what a failing flash leaves (R321, R409) -/

theorem State.certs_answer (s : State) (r : CmdRef) (a : Answer) : (s.answer r a).host.certs = s.host.certs :=
  ((kept_answer (W := .without [] [.keys]) ⟨by decide +kernel, by decide +kernel⟩ .refl).part_without (k := .keys) (by decide)).1

theorem cmdOwnerCertSet_local {r : CmdRef} {slot : Nat} {fingerprint : Bytes} {bad : Bool} {s : State} (hr : s.role r.org = Role.local_)
    (hs : slot < 2) : cmdOwnerCertSet r slot fingerprint bad s = if bad then s.copyLost.says .flashError
      else (State.saveImage { s with host := { s.host with
        certs := Tab.put [] s.host.certs [slot] (if fingerprint = zeros 48 then [] else fingerprint) } }).oks := by
  unfold cmdOwnerCertSet
  exact refuseIf_ok _ (by simpa [hr] using hs)

theorem ownerCertSet_completes {r : CmdRef} {slot : Nat} {fingerprint : Bytes} {s : State} (hf : s.fresh r = true)
    (hr : s.role r.org = Role.local_) (hs : slot < 2) :
    Completes (.ownerCertSet r slot fingerprint false) r s fun t =>
      Tab.get [] t.host.certs [slot] = (if fingerprint = zeros 48 then [] else fingerprint) :=
  completes_of_oks hf rfl fun h => ⟨_, (cmdOwnerCertSet_local (s := { s with host := h }) hr hs).trans (if_neg (by decide)), rfl,
    (congrArg (Tab.get [] · [slot]) (State.certs_answer ..)).trans Tab.get_put_self⟩

theorem ownerCertSet_flashBad {r : CmdRef} {slot : Nat} {fingerprint : Bytes} {s : State} (hf : s.fresh r = true)
    (hr : s.role r.org = Role.local_) (hs : slot < 2) :
    Answers (.ownerCertSet r slot fingerprint true) s fun t => t.statusOf r = some .flashError ∧ t.host.certs = s.host.certs :=
  answersStatus_of_begun hf rfl fun l => ⟨_, (cmdOwnerCertSet_local (s := { s with host := { s.host with busy := l } }) hr hs).trans
    (if_pos rfl), rfl, State.certs_answer ..⟩

theorem State.reg_saveImage {f : Fld} (h : f ∉ [Fld.modBootSettingsSrc, .modBootGeneration]) (s : State) (i j : Nat) :
    s.saveImage.reg f i j = s.reg f i j := by
  obtain ⟨h1, h2⟩ : f ≠ .modBootSettingsSrc ∧ f ≠ .modBootGeneration := by simpa using h
  have hcopies : ∀ c : Tab Bytes, ({ s with sys := { s.sys with copies := c } } : State).reg f i j = s.reg f i j := fun _ => rfl
  rw [State.saveImage, State.reg_setReg_fld _ h2.symm, State.reg_setReg_fld _ h1.symm, hcopies]

theorem cmdRoleGrant_permitted {r : CmdRef} {port grant : Nat} {bad : Bool} {s : State} (ho : s.isOwnerOrLocal r.org = true)
    (hp : s.portPresent port = true) (hg : grant < 2) (hown : ¬(r.org = .host port ∧ grant = 0)) :
    cmdRoleGrant r port grant bad s =
      if bad then s.copyLost.says .flashError else (s.setSetting .hostRoleGrant port 0 grant).saveImage.oks := by
  unfold cmdRoleGrant
  refine refuseIf_ok _ ?_
  simp only [List.forall_mem_cons, State.ownerOrLocal, ho, hp, decide_eq_false hown]
  simpa using hg

theorem roleGrant_completes {r : CmdRef} {port grant : Nat} {s : State} (hf : s.fresh r = true) (ho : s.isOwnerOrLocal r.org = true)
    (hp : s.portPresent port = true) (hg : grant < 2) (hown : ¬(r.org = .host port ∧ grant = 0)) :
    Completes (.roleGrant r port grant false) r s (fun t => t.reg .hostRoleGrant port 0 = grant) ∧
    Answers (.roleGrant r port grant true) s fun t => t.statusOf r = some .flashError ∧
      t.reg .hostRoleGrant port 0 = s.reg .hostRoleGrant port 0 := by
  refine ⟨completes_of_oks hf rfl fun h => ⟨_, (cmdRoleGrant_permitted (s := { s with host := h }) ho hp hg hown).trans (if_neg (by decide)),
    rfl, ?_⟩, answersStatus_of_begun hf rfl fun l => ⟨_, (cmdRoleGrant_permitted (s := { s with host := { s.host with busy := l } }) ho hp hg
    hown).trans (if_pos rfl), rfl, State.reg_done ..⟩⟩
  rw [State.reg_done, State.reg_saveImage (by decide), State.reg_setSetting_self]
  exact Nat.mod_eq_of_lt hg

/-! ## REG_READ and REG_WRITE (R321) -/

theorem State.busy_readWords (s : State) (o : Origin) (addr n : Nat) : (s.readWords o addr n).2.host.busy = s.host.busy := by
  have hk : Kept2 (.without [] [.commands]) s (s.readWords o addr n) := kept_readWords ⟨by decide +kernel, by decide +kernel⟩ .refl
  exact State.busy_of_kept hk

theorem State.busy_writeWords (s : State) (o : Origin) (addr : Nat) (words : List Nat) : (s.writeWords o addr words).host.busy = s.host.busy :=
  State.busy_of_kept (kept_writeWords ⟨by decide +kernel, by decide +kernel⟩ .refl)

theorem cmdRegRead_ok {r : CmdRef} {addr count : Nat} (ha : addr % 4 = 0) (h1 : 1 ≤ count) (h256 : count ≤ 256) (u : State) :
    cmdRegRead r addr count u =
      ((u.readWords r.org addr count).2, some ⟨.ok, 0, (u.readWords r.org addr count).1.flatMap (toLE 4)⟩) := by
  unfold cmdRegRead
  exact refuseIf_ok _ (by simp [ha]; omega)

theorem cmdRegWrite_ok {r : CmdRef} {addr : Nat} {words : List Nat} (ha : addr % 4 = 0) (h1 : 1 ≤ words.length) (h252 : words.length ≤ 252)
    (u : State) : cmdRegWrite r addr words.length words u = (u.writeWords r.org addr words).oks := by
  have hne : words ≠ [] := List.length_pos_iff.1 h1
  unfold cmdRegWrite
  exact refuseIf_ok _ (by simpa [ha, hne] using h252)

theorem regRead_completes {r : CmdRef} {addr count : Nat} {s : State} (hf : s.fresh r = true) (ha : addr % 4 = 0) (h1 : 1 ≤ count)
    (h256 : count ≤ 256) :
    Completes (.regRead r addr count) r s fun t => ((t.busyOf r).bind Busy.ans).map Answer.results =
      some (((s.begin r 0x0B06 (formParams 0 [(.int 4, addr), (.int 2, count)]) 0xFFFF none (s.hostIdOf r.org)).readWords r.org addr count).1.flatMap
        (toLE 4)) :=
  have ⟨hexec, hans⟩ := exec_of_begun hf rfl (cmdRegRead_ok ha h1 h256 _) (State.busy_readWords ..)
  ⟨_, hexec, State.statusOf_of_ans hans, congrArg (Option.map Answer.results) hans⟩

theorem regWrite_completes {r : CmdRef} {addr : Nat} {words : List Nat} {s : State} (hf : s.fresh r = true) (ha : addr % 4 = 0)
    (h1 : 1 ≤ words.length) (h252 : words.length ≤ 252) :
    Completes (.regWrite r addr words.length words) r s fun t => ∀ f i j, t.reg f i j =
      ((s.begin r 0x0B07 (regWriteParams addr words.length words) 0xFFFF none (s.hostIdOf r.org)).writeWords r.org addr words).reg f i j :=
  have ⟨hexec, hans⟩ := exec_of_begun hf rfl (cmdRegWrite_ok ha h1 h252 _) (State.busy_writeWords ..)
  ⟨_, hexec, State.statusOf_of_ans hans, fun _ _ _ => State.reg_answer ..⟩

/-- Settles O17: each row and command of the queues and of the host interface, and what it leaves. -/
theorem queueAndRecordRowsComplete : Obligations.QueueAndRecordRowsComplete := by
  refine ⟨fun o q i s hoff hq hp hm he hi => ⟨_, rfl, State.doorbell_accepted hoff hq hp hm he hi⟩,
    fun o q s hoff hq hp hm => ⟨⟨_, rfl, ?_⟩, fun he ht hs => ⟨_, rfl, ?_⟩⟩,
    fun o q flags s hoff hq hp hm hfl hs => ⟨_, rfl, State.reg_taskSoftFlagSet hoff hq hp hm hfl hs⟩,
    fun engine entries s q hoff hq => taskDispatch_counts hoff hq,
    fun q s n hoff hint hun hp => ⟨s.queueSignal q, congrArg Host.Outcome.next (if_pos (by simp [hoff, hint, hun])), ?_⟩,
    fun r ident s n hf ho => hostIdentify_completes hf ho, fun r q part port s hf ho hq hpart he => queueAssign_completes hf ho hq hpart he,
    fun r q type z e base wb pair s hf hq hpair hp hm ht h4 h16 he hb64 hb hwb hen hcmd hcap =>
      queueSetup_completes hf hq hpair hp hm ht h4 h16 he hb64 hb hwb hen hcmd hcap,
    fun r first count addr s n hf ho h1 h2 => auditRead_completes hf ho h1 h2,
    fun r slot fingerprint s hf hr hs => ownerCertSet_completes hf hr hs, fun r slot fingerprint s hf hr hs => ownerCertSet_flashBad hf hr hs,
    fun r port grant s hf ho hp hg hown => roleGrant_completes hf ho hp hg hown,
    fun s hoff => ⟨s.persistAudit, congrArg Host.Outcome.next (if_neg (by simp [hoff])), rfl⟩,
    fun r addr count s hf ha h1 h256 => regRead_completes hf ha h1 h256,
    fun r addr count words s hf ha hl h1 h252 => hl ▸ regWrite_completes hf ha (hl ▸ h1) (hl ▸ h252)⟩
  · exact (State.flag_congr _ (State.reg_queueEnable hoff hq hp hm ..)).trans (s.qEnabled_enableQueue_zero q)
  · exact (State.flag_congr _ (State.reg_queueEnable hoff hq hp hm ..)).trans (State.qEnabled_enableQueue_one he ht hs)
  · obtain ⟨hqueue, hout⟩ := State.queueSignal_effect hp
    exact ⟨congrArg Queue.unsignalled hqueue, hout⟩

end Sys2Proof.Machine
end

section
/-! PROOFS. Start-up, settings and firmware (R406 to R418). -/

set_option Elab.async false

namespace Sys2Proof.Machine

/-! ## What a boot, a wake and a sleep leave of the module's state (R406 to R408, R415) -/

section
variable {s t : State}

theorem State.sys_of_kept (h : Kept (.without [] [.sys]) s t) : t.sys = s.sys := h.part_without (k := .sys) (by decide)

theorem State.modMode_of_kept (h : Kept (.without [.modStateMode] []) s t) : t.modMode = s.modMode := h.reg_without (by decide) 0 0

theorem State.sys_auditAction (s : State) (st : Status) (p a : Nat) : (s.auditAction st p a).sys = s.sys :=
  State.sys_of_kept (kept_auditAction ⟨by decide +kernel, by decide +kernel⟩ .refl)

theorem State.sys_doneAll (s : State) (rs : List CmdRef) (st : Status) : (s.doneAll rs st).sys = s.sys :=
  State.sys_of_kept (kept_doneAll ⟨by decide +kernel, by decide +kernel⟩ .refl)

theorem State.sys_done (s : State) (r : CmdRef) (st : Status) : (s.done r st).sys = s.sys := s.sys_doneAll [r] st

end

/-! ### The steward that a boot starts -/

section
variable {s : State}

theorem State.steward_foldl {α : Type} {f : State → α → State} (hf : ∀ u x, (f u x).sys.steward = u.sys.steward) (l : List α) (s : State) :
    (l.foldl f s).sys.steward = s.sys.steward := by
  induction l generalizing s with
  | nil => rfl
  | cons x l ih => rw [List.foldl_cons, ih, hf]

theorem State.steward_applyField {addr mask value : Nat} {t : State} (h : s.applyField addr mask value = some t) :
    t.sys.steward = s.sys.steward := by
  unfold State.applyField at h
  split at h
  · cases h
  · dsimp only at h
    split at h
    · cases h
    · cases h
      refine State.steward_foldl ?_ ..
      exact fun _ _ => rfl

theorem State.steward_applyRecord {type : Nat} {b : Bytes} {t : State} (h : s.applyRecord type b = some t) :
    t.sys.steward = s.sys.steward := by
  unfold State.applyRecord at h
  split at h
  · split at h
    · exact State.steward_applyField h
    · cases h
  · split_ifs at h <;> cases h
    · rfl
    · rfl
    · refine State.steward_foldl ?_ ..
      exact fun _ _ => rfl

theorem State.steward_applyRecords (l : List (Nat × Bytes)) (s : State) (n : Nat) : (applyRecords l s n).1.sys.steward = s.sys.steward := by
  induction l generalizing s n with
  | nil => rfl
  | cons e l ih =>
    rw [applyRecords]
    split
    · next h => rw [ih, State.steward_applyRecord h]
    · exact ih ..

theorem State.steward_settingsEvent (s : State) (st : Status) : (s.settingsEvent st).sys.steward = s.sys.steward := by
  rw [State.settingsEvent, State.sys_mEvent]

theorem State.steward_fillSettings (s : State) : s.fillSettings.sys.steward = s.sys.steward := by
  unfold State.fillSettings
  dsimp only
  split
  · exact (congrArg Sys.steward (State.sys_auditAction ..)).trans (State.steward_settingsEvent ..)
  · have hrecords (l : List (Nat × Bytes)) (u : State) (a b c : Nat) : ((((applyRecords l u 0).1.setReg .modBootRejected 0 0 a).setReg
        .modBootSettingsSrc 0 0 b).setReg .modBootGeneration 0 0 c).sys.steward = u.sys.steward := State.steward_applyRecords l u 0
    split
    · exact hrecords ..
    · exact (State.steward_settingsEvent ..).trans (hrecords ..)

theorem State.steward_bootSettings (s : State) : s.bootSettings.sys.steward = s.sys.steward := by
  have hk (u : State) (l : List Nat) : (u.keepPads l).servoSource.sys = u.sys :=
    State.sys_of_kept (kept_servoSource ⟨by decide +kernel, by decide +kernel⟩ (kept_keepPads ⟨by decide +kernel, by decide +kernel⟩ .refl))
  unfold State.bootSettings
  dsimp only
  rw [hk, State.sys_setReg]
  exact s.steward_fillSettings

theorem State.steward_withFault (s : State) :
    ({ s with sys := { s.sys with moduleFault := true } } : State).sys.steward = s.sys.steward := rfl

theorem State.steward_moduleFault (s : State) (a : Nat) : (s.moduleFault a).sys.steward = s.sys.steward := by
  have hk : Kept (.without [] [.sys]) s (((((s.partitions.filter s.executing).foldl (fun s p => s.assertEntry p Cause.uncorr) s).mError
      .moduleFault a).auditAction .moduleFault 0xFFFF a).persistAudit) :=
    kept_persistAudit ⟨by decide +kernel, by decide +kernel⟩ <| kept_auditAction ⟨by decide +kernel, by decide +kernel⟩ <|
      kept_mError ⟨by decide +kernel, by decide +kernel⟩ <|
      kept_foldl (fun _ _ h => kept_assertEntry ⟨by decide +kernel, by decide +kernel⟩ h) .refl
  exact (State.steward_withFault _).trans (congrArg Sys.steward (State.sys_of_kept hk))

theorem State.sys_fwFlags (s : State) : s.fwFlags.sys = s.sys := rfl

/-- A boot from a slot starts the steward. -/
theorem State.steward_bootWith (s : State) (k a : Nat) : (s.bootWith k a).sys.steward = true := by
  have hstart (u : State) (b : Bool) :
      (({ u with sys := { u.sys with steward := true } }.setReg .svcStewardAnvil 0 0 a).bootSettings.fwFlags.setFlag
      .modStateFactoryBad 0 0 b).sys.steward = true := by
    rw [State.sys_setFlag, State.sys_fwFlags, State.steward_bootSettings]
    rfl
  delta State.bootWith
  extract_lets n s1 s2 y s3 s4
  have heq : s4 = (({ s2 with sys := { s2.sys with steward := true } }.setReg .svcStewardAnvil 0 0 a).bootSettings.fwFlags).setFlag
      .modStateFactoryBad 0 0 s3.sys.factoryBad := rfl
  have hs4 : s4.sys.steward = true := by rw [heq, hstart]
  split
  · exact (s4.steward_moduleFault _).trans hs4
  · exact hs4

/-- The boot ROM starts the steward from a valid slot, and goes into recovery with none (R415). -/
theorem State.firmwareBoot_effect (s : State) (a : Nat) :
    if s.bootSlot.isSome = true then (s.firmwareBoot a).sys.steward = true
    else (s.firmwareBoot a).sys.recovery = true ∧ (s.firmwareBoot a).sys.steward = s.sys.steward := by
  unfold State.firmwareBoot
  cases h : s.bootSlot with
  | none => exact ⟨rfl, rfl⟩
  | some k => exact s.steward_bootWith k a

/-- A steward that moves runs on anvil 1 (R432). -/
theorem State.stewardMoved_effect (s : State) : s.stewardMoved.sys.steward = s.sys.steward ∧ s.stewardMoved.steward = 1 := by
  have hrec (u : State) (v : Nat) : (u.setRecord .svcStewardFailovers 0 0 v).sys.steward = u.sys.steward := rfl
  have hmove (u : State) : (u.condition 0).sys.steward = u.sys.steward := by
    unfold State.condition
    dsimp only
    split
    · rfl
    · rw [State.sys_auditAction, State.sys_mEvent]
      rfl
  have hk (u : State) (v : Nat) :
      Kept (.without [.svcStewardAnvil] []) u (((u.setRecord .svcStewardFailovers 0 0 v).condition 0).mEvent 0x1C 0 1) :=
    kept_mEvent ⟨by decide +kernel, by decide +kernel⟩ (kept_condition ⟨by decide +kernel, by decide +kernel⟩
      (kept_setRecord ⟨by decide +kernel, by decide +kernel⟩ (by decide +kernel) .refl))
  constructor
  · rw [State.stewardMoved]
    exact (congrArg Sys.steward (State.sys_mEvent ..)).trans ((hmove _).trans (hrec ..))
  · rw [State.stewardMoved, State.steward, (hk _ _).reg_without (by decide), State.reg_setReg_self]
    exact Nat.mod_eq_of_lt (by decide +kernel)

end

/-! ### The states of the module -/

section
variable {s t : State}

theorem State.modMode_done (s : State) (r : CmdRef) (st : Status) : (s.done r st).modMode = s.modMode := State.reg_done ..

theorem State.modMode_doneAll (s : State) (rs : List CmdRef) (st : Status) : (s.doneAll rs st).modMode = s.modMode := State.reg_doneAll ..

theorem State.modMode_modEvent (s : State) : s.modEvent.modMode = s.modMode := State.reg_mEvent _ (by decide) ..

/-- STANDBY is entered: the state is STANDBY, and nothing else of what the states rest on changes. -/
theorem State.enterStandby_effect (s : State) : s.enterStandby.modMode = Mod.standby ∧ s.enterStandby.sys = s.sys ∧
    s.enterStandby.flag .modBootAutoWake 0 0 = s.flag .modBootAutoWake 0 0 := by
  have hk : Kept (.without [.modStateMode, .modBootAutoWake] [.sys]) (s.setReg .modStateMode 0 0 Mod.standby) s.enterStandby :=
    kept_modEvent ⟨by decide +kernel, by decide +kernel⟩ (kept_ite (kept_latchPads ⟨by decide +kernel, by decide +kernel⟩ .refl) .refl)
  refine ⟨(hk.reg_without (by decide) 0 0).trans (s.modMode_setReg (by decide)),
    (hk.part_without (k := .sys) (by decide)).trans (State.sys_setReg ..), ?_⟩
  exact State.flag_congr _ ((hk.reg_without (by decide) 0 0).trans (State.reg_setReg_fld _ (by decide) ..))

theorem State.modMode_wake (s : State) : s.wake.modMode = Mod.waking := State.modMode_setReg _ (by decide)

/-- With AUTO_WAKE and a good factory region, WAKING follows. -/
theorem State.modMode_autoStart (s : State) :
    s.autoStart.modMode = if s.flag .modBootAutoWake 0 0 && !s.sys.factoryBad then Mod.waking else s.modMode := by
  rw [State.autoStart]
  by_cases h : s.flag .modBootAutoWake 0 0 = true ∧ (!s.sys.factoryBad) = true
  · rw [if_pos h, if_pos (by rw [h.1, h.2]; rfl), State.modMode_wake]
  · rw [if_neg h, if_neg (by rwa [Bool.and_eq_true])]

theorem State.modMode_bootComplete (hoff : s.sys.off = false) (hm : s.modMode = Mod.boot) (hs : s.sys.steward = true) :
    s.bootComplete.modMode = if s.flag .modBootAutoWake 0 0 && !s.sys.factoryBad then Mod.waking else Mod.standby := by
  have haudit (u : State) (e : AuditEntry) : Kept (.without [.modStateMode, .modBootAutoWake] [.sys]) u (u.audit e) :=
    kept_audit ⟨by decide +kernel, by decide +kernel⟩ .refl
  have hpersist (u : State) : ({ u with sys := { u.sys with unpersisted := 0 } } : State).modMode = u.modMode ∧
      ({ u with sys := { u.sys with unpersisted := 0 } } : State).sys.factoryBad = u.sys.factoryBad ∧
      ({ u with sys := { u.sys with unpersisted := 0 } } : State).flag .modBootAutoWake 0 0 = u.flag .modBootAutoWake 0 0 := ⟨rfl, rfl, rfl⟩
  obtain ⟨hmode, hsys, hauto⟩ := s.enterStandby_effect
  unfold State.bootComplete
  rw [if_pos ⟨by simp [hoff], hm, hs⟩]
  dsimp only
  rw [State.modMode_autoStart, (hpersist _).1, (hpersist _).2.1, (hpersist _).2.2, (haudit _ _).part_without (k := .sys) (by decide),
    State.flag_congr _ ((haudit _ _).reg_without (by decide) 0 0), hauto, hsys]
  split
  · rfl
  · exact ((haudit _ _).reg_without (by decide) 0 0).trans hmode

/-! ### WAKING and SLEEPING end (R406, R408) -/

/-- The anvil that comes up is on, and every other is as it was. -/
theorem State.anvilOn_anvilUp (s : State) (a b : Nat) : (s.anvilUp a).anvilOn b = (decide (a = b) || s.anvilOn b) := by
  by_cases hon : s.anvilOn a = true
  · rw [State.anvilUp, if_pos hon]
    by_cases hab : a = b
    · subst hab
      simp [hon]
    · simp [hab]
  · delta State.anvilUp
    rw [if_neg hon]
    extract_lets s1 y s2 s3 s4
    have h3 : Kept (.without [] [.sys]) s2 s3 :=
      kept_traceUp ⟨by decide +kernel, by decide +kernel⟩ <| kept_lanesUp ⟨by decide +kernel, by decide +kernel⟩ <|
        kept_linksFollow ⟨by decide +kernel, by decide +kernel⟩ .refl
    have h4 : Kept (.without [] [.sys]) s2 s4 :=
      kept_anvilJoins ⟨by decide +kernel, by decide +kernel⟩ (kept_modNoc ⟨by decide +kernel, by decide +kernel⟩ h3)
    have hk : Kept (.without [] [.sys]) s2 (if Tab.get false s4.noc.closed [a] then s4.routeStart none (s4.routesBack a) else s4.nocPump) :=
      kept_ite (kept_routeStart ⟨by decide +kernel, by decide +kernel⟩ h4) (kept_nocPump ⟨by decide +kernel, by decide +kernel⟩ h4)
    have h1 : s1.sys = s.sys := State.sys_of_kept
      (kept_lanesReset ⟨by decide +kernel, by decide +kernel⟩ (kept_anvilBlocks ⟨by decide +kernel, by decide +kernel⟩ .refl))
    rw [State.anvilOn, State.sys_of_kept hk]
    show Tab.get false (Tab.put false s1.sys.anvilOn [a] true) [b] = _
    rw [h1, Tab.get_put, State.anvilOn]
    by_cases hab : a = b <;> simp [hab]

/-- What WAKING does for one anvil: its domain comes up, unless its rail has faulted. -/
def State.wakeAnvil (s : State) (a : Nat) : State :=
  if Tab.get false s.pwr.failed [1, a] then s
  else ({ s with sys := { s.sys with islandOff := Tab.put false s.sys.islandOff [a] false } }).anvilUp a

theorem State.failed_wakeAnvil (s : State) (a : Nat) : (s.wakeAnvil a).pwr.failed = s.pwr.failed := by
  have hk (u : State) : Kept (.without [] [.pwr]) u (u.anvilUp a) := kept_anvilUp ⟨by decide +kernel, by decide +kernel⟩ .refl
  rw [State.wakeAnvil]
  split
  · rfl
  · exact congrArg Power.failed ((hk _).part_without (k := .pwr) (by decide))

theorem State.anvilOn_wakeAnvil (s : State) (a b : Nat) :
    (s.wakeAnvil a).anvilOn b = (decide (a = b) && !Tab.get false s.pwr.failed [1, a] || s.anvilOn b) := by
  have hisland (t : Tab Bool) : ({ s with sys := { s.sys with islandOff := t } } : State).anvilOn b = s.anvilOn b := rfl
  rw [State.wakeAnvil]
  cases hf : Tab.get false s.pwr.failed [1, a] with
  | true => simp
  | false =>
    rw [if_neg (by decide), State.anvilOn_anvilUp, hisland]
    simp

/-- Every anvil among those woken whose rail has not faulted is on. -/
theorem State.anvilOn_foldl_wakeAnvil {l : List Nat} {a : Nat} (ha : a ∈ l) (hf : Tab.get false s.pwr.failed [1, a] = false) :
    (l.foldl State.wakeAnvil s).anvilOn a = true := by
  refine foldl_of_mem (P := fun x (t : State) => t.pwr.failed = s.pwr.failed → Tab.get false s.pwr.failed [1, x] = false → t.anvilOn x = true)
    (fun t x hp hx => ?_) (fun t x y hy hp hx => ?_) ha ?_ hf
  · rw [State.failed_wakeAnvil] at hp
    simp [State.anvilOn_wakeAnvil, hp, hx]
  · rw [State.failed_wakeAnvil] at hp
    simp [State.anvilOn_wakeAnvil, hy hp hx]
  · exact foldl_of (P := fun t : State => t.pwr.failed = s.pwr.failed) (f := State.wakeAnvil)
      (fun t x ht => (State.failed_wakeAnvil t x).trans ht) rfl

theorem State.wakingComplete_effect (hm : s.modMode = Mod.waking) : s.wakingComplete.modMode = Mod.service ∧
    ∀ a, a < s.grade.anvils → Tab.get false s.pwr.failed [1, a] = false → s.wakingComplete.anvilOn a = true := by
  have hmodEvent (u : State) : (u.setReg .modStateMode 0 0 Mod.service).modEvent.sys = u.sys :=
    (State.sys_mEvent ..).trans (State.sys_setReg ..)
  have hwaking (u : State) (l : List CmdRef) : ({ u with sys := { u.sys with waking := l } } : State).modMode = u.modMode ∧
      ({ u with sys := { u.sys with waking := l } } : State).sys.anvilOn = u.sys.anvilOn := ⟨rfl, rfl⟩
  have heq : (fun (s : State) a => if Tab.get false s.pwr.failed [1, a] then s
      else ({ s with sys := { s.sys with islandOff := Tab.put false s.sys.islandOff [a] false } }).anvilUp a) = State.wakeAnvil := rfl
  rw [State.wakingComplete, if_pos hm, heq]
  dsimp only
  constructor
  · rw [State.modMode_doneAll, (hwaking ..).1, State.modMode_modEvent, State.modMode_setReg _ (by decide)]
  · intro a ha hf
    rw [State.anvilOn, State.sys_doneAll, (hwaking ..).2, hmodEvent]
    exact State.anvilOn_foldl_wakeAnvil (List.mem_range.2 ha) hf

theorem State.modMode_sleepingComplete (hm : s.modMode = Mod.sleeping) (ha : s.anvilsOn = []) :
    s.sleepingComplete.modMode = Mod.standby := by
  have hsleeping (u : State) (l : List CmdRef) : ({ u with sys := { u.sys with sleeping := l } } : State).modMode = u.modMode := rfl
  rw [State.sleepingComplete, if_pos ⟨hm, ha⟩]
  dsimp only
  rw [State.modMode_doneAll, hsleeping]
  exact s.enterStandby_effect.1

/-! ### MOD_POWER (R408) -/

/-- The way to STANDBY begins, and the command waits for its end. -/
theorem State.sleep_effect (s : State) (r : CmdRef) : (s.sleep r).modMode = Mod.sleeping ∧ r ∈ (s.sleep r).sys.sleeping := by
  have hk : Kept (.without [.modStateMode] []) ((s.persistAudit.traceBufFree).setReg .modStateMode 0 0 Mod.sleeping) (s.sleep r) :=
    Kept.setSys (kept_foldl (fun _ _ h => kept_ite (kept_fenceRegion ⟨by decide +kernel, by decide +kernel⟩ h)
      (kept_setFence ⟨by decide +kernel, by decide +kernel⟩ h)) .refl) (by decide +kernel) rfl
  refine ⟨(hk.reg_without (by decide) 0 0).trans (State.modMode_setReg _ (by decide)), ?_⟩
  exact List.mem_append_right _ (List.mem_singleton_self r)

theorem State.wakeFor_effect (s : State) (r : CmdRef) :
    ({ s.wake with sys := { s.wake.sys with waking := s.wake.sys.waking ++ [r] } } : State).modMode = Mod.waking ∧
    r ∈ ({ s.wake with sys := { s.wake.sys with waking := s.wake.sys.waking ++ [r] } } : State).sys.waking := by
  have hwaking (u : State) (l : List CmdRef) : ({ u with sys := { u.sys with waking := l } } : State).modMode = u.modMode := rfl
  exact ⟨(hwaking ..).trans s.modMode_wake, List.mem_append_right _ (List.mem_singleton_self r)⟩

end

theorem cmdModPower_conditions {r : CmdRef} {enter : Nat} {s : State} (ho : s.isOwnerOrLocal r.org = true) (hbad : s.sys.factoryBad = false)
    (he : enter < 2) (h1 : enter = 1 → s.modMode = Mod.service ∧ s.partitions = [] ∧ s.traceBusyNow = false)
    (h0 : enter = 0 → s.modMode = Mod.standby ∨ s.modMode = Mod.service) :
    cmdModPower r enter s = if enter = 1 then (s.sleep r).waits else if s.modMode = Mod.service then s.oks
      else (State.waits { s.wake with sys := { s.wake.sys with waking := s.wake.sys.waking ++ [r] } }) := by
  unfold cmdModPower
  refine refuseIf_ok _ ?_
  obtain rfl | rfl : enter = 0 ∨ enter = 1 := by omega
  · rcases h0 rfl with hm | hm <;> simp [State.ownerOrLocal, ho, hbad, hm]
  · obtain ⟨hm, hp, ht⟩ := h1 rfl
    simp [State.ownerOrLocal, ho, hbad, hm, hp, ht]

theorem modPower_completes {r : CmdRef} {s : State} (hf : s.fresh r = true) (ho : s.isOwnerOrLocal r.org = true)
    (hbad : s.sys.factoryBad = false) :
    (s.modMode = Mod.service → s.partitions = [] → s.traceBusyNow = false →
      Answers (.modPower r 1) s fun t => t.modMode = Mod.sleeping ∧ r ∈ t.sys.sleeping) ∧
    (s.modMode = Mod.standby → Answers (.modPower r 0) s fun t => t.modMode = Mod.waking ∧ r ∈ t.sys.waking) ∧
    (s.modMode = Mod.service → Completes (.modPower r 0) r s fun t => t.modMode = Mod.service) := by
  refine ⟨fun hm hp ht => answers_of_waits hf rfl fun h => ⟨_, (cmdModPower_conditions (s := { s with host := h }) ho hbad (by decide)
      (fun _ => ⟨hm, hp, ht⟩) (fun h => absurd h (by decide))).trans (if_pos rfl), State.sleep_effect ..⟩,
    fun hm => answers_of_waits hf rfl fun h => ⟨_, (cmdModPower_conditions (s := { s with host := h }) ho hbad (by decide)
      (fun h => absurd h (by decide)) (fun _ => .inl hm)).trans ((if_neg (by decide)).trans (if_neg ?_)), State.wakeFor_effect ..⟩,
    fun hm => completes_of_oks hf rfl fun h => ⟨_, (cmdModPower_conditions (s := { s with host := h }) ho hbad (by decide)
      (fun h => absurd h (by decide)) (fun _ => .inr hm)).trans ((if_neg (by decide)).trans (if_pos hm)), rfl, ?_⟩⟩
  · rw [show ({ s with host := h } : State).modMode = Mod.standby from hm]
    decide
  · exact (State.modMode_done ..).trans hm

/-! ## MOD_RESET (R417) -/

section
variable {s : State}

/-- After a power cycle a field that no input and no reset cause shows reads what reset gives it. -/
theorem State.reg_powerCycle {f : Fld}
    (h : f ∉ [Fld.modStateLastReset, .pwrStatusFeedA, .pwrStatusFeedB, .pwrStatusLowLine, .spCfgStrap]) (s : State) (last i j : Nat) :
    ∃ t : State, (s.powerCycle last).reg f i j = t.rst f i j := by
  obtain ⟨h1, h2, h3, h4, h5⟩ : f ≠ .modStateLastReset ∧ f ≠ .pwrStatusFeedA ∧ f ≠ .pwrStatusFeedB ∧ f ≠ .pwrStatusLowLine ∧
      f ≠ .spCfgStrap := by simpa using h
  delta State.powerCycle
  extract_lets _ _ _ _ _ _ _ s1
  rw [State.reg_setReg_fld _ h5.symm, State.reg_setReg_fld _ h4.symm, State.reg_setReg_fld _ h3.symm, State.reg_setReg_fld _ h2.symm,
    State.reg_setReg_fld _ h1.symm]
  exact ⟨s1, rfl⟩

theorem State.powerCycle_effect (s : State) : (s.powerCycle 1).modMode = Mod.boot ∧ (s.powerCycle 1).reg .modStateLastReset 0 0 = 1 ∧
    (s.powerCycle 1).partitions = [] := by
  refine ⟨?_, ?_, ?_⟩
  · obtain ⟨t, ht⟩ := s.reg_powerCycle (f := .modStateMode) (by decide) 1 0 0
    exact ht.trans (by decide +kernel : (Fld.info .modStateMode).reset = 1)
  · delta State.powerCycle
    extract_lets _ _ _ _ _ _ _ s1
    rw [State.reg_setReg_fld _ (by decide), State.reg_setReg_fld _ (by decide), State.reg_setReg_fld _ (by decide),
      State.reg_setReg_fld _ (by decide), State.reg_setReg_self]
    exact Nat.mod_eq_of_lt (by decide +kernel)
  · refine List.filter_eq_nil_iff.2 fun p _ hp => ?_
    obtain ⟨t, ht⟩ := s.reg_powerCycle (f := .partRunExists) (by decide) 1 p 0
    rw [State.pExists, State.flag, ht, Bool.and_eq_true, decide_eq_true_eq, decide_eq_true_eq] at hp
    exact absurd ((by decide +kernel : (Fld.info .partRunExists).reset = 0).symm.trans hp.2) (by decide)

/-- The management reset starts the trace and the queues anew; commands under way stay. -/
theorem State.mgmtReset_effect (s : State) :
    s.mgmtReset.trace = Trace.init ∧ s.mgmtReset.host.queues = [] ∧ s.mgmtReset.host.busy = s.host.busy := by
  have hregs : Kept (.without [] [.commands]) s (s.latchPads false).mgmtRegs :=
    kept_mgmtRegs ⟨by decide +kernel, by decide +kernel⟩ (kept_latchPads ⟨by decide +kernel, by decide +kernel⟩ .refl)
  have hk (u : State) : Kept (.without [] [.trace, .queues, .commands]) u u.releasePads.unthrottle :=
    kept_unthrottle ⟨by decide +kernel, by decide +kernel⟩ (kept_releasePads ⟨by decide +kernel, by decide +kernel⟩ .refl)
  delta State.mgmtReset
  extract_lets s1 gone _ _ _ s2
  refine ⟨(hk s2).part_without (k := .trace) (by decide), ((hk s2).part_without (k := .queues) (by decide)).1, ?_⟩
  have hs2 : s2.host.busy = s1.host.busy := rfl
  exact (((hk s2).part_without (k := .commands) (by decide)).2.1.trans hs2).trans (State.busy_of_kept hregs)

end

theorem cmdModReset_conditions {r : CmdRef} {scope force : Nat} {s : State} (ho : s.isOwnerOrLocal r.org = true) (hscope : scope < 2)
    (hforce : force < 2) (hp : s.partitions = [] ∨ force = 1) (hleft : scope = 1 → s.portLeftOut = false) :
    cmdModReset r scope force s =
      if scope = 0 then (((s.answerNow r .ok).persistAudit).powerCycle 1).waits else s.mgmtReset.oks := by
  have hno : ¬(s.partitions ≠ [] ∧ force ≠ 1) := fun ⟨h1, h2⟩ => hp.elim h1 h2
  have hfmt : ¬(2 ≤ scope ∨ 2 ≤ force) := by omega
  have hport : (decide (scope = 1) && s.portLeftOut) = false := by
    by_cases h : scope = 1
    · rw [hleft h, Bool.and_false]
    · rw [decide_eq_false h, Bool.false_and]
  unfold cmdModReset
  refine refuseIf_ok _ ?_
  simp only [List.forall_mem_cons, State.ownerOrLocal, ho, decide_eq_false hno, decide_eq_false hfmt, hport]
  simp

theorem State.trace_done (s : State) (r : CmdRef) (st : Status) : (s.done r st).trace = s.trace :=
  (kept_done (W := .without [] [.trace]) ⟨by decide +kernel, by decide +kernel⟩ .refl).part_without (k := .trace) (by decide)

theorem State.queues_done (s : State) (r : CmdRef) (st : Status) : (s.done r st).host.queues = s.host.queues :=
  ((kept_done (W := .without [] [.queues]) ⟨by decide +kernel, by decide +kernel⟩ .refl).part_without (k := .queues) (by decide)).1

theorem modReset_completes {r : CmdRef} {force : Nat} {s : State} (hf : s.fresh r = true) (ho : s.isOwnerOrLocal r.org = true)
    (hforce : force < 2) (hp : s.partitions = [] ∨ force = 1) :
    Answers (.modReset r 0 force) s (fun t => t.modMode = Mod.boot ∧ t.reg .modStateLastReset 0 0 = 1 ∧ t.partitions = []) ∧
    (s.portLeftOut = false → Completes (.modReset r 1 force) r s fun t => t.trace = Trace.init ∧ t.host.queues = []) := by
  refine ⟨answers_of_waits hf rfl fun h => ⟨_, (cmdModReset_conditions (s := { s with host := h }) ho (by decide) hforce hp
      (fun h => absurd h (by decide))).trans (if_pos rfl), State.powerCycle_effect _⟩,
    fun hleft => completes_of_oks hf rfl fun h => ?_⟩
  obtain ⟨htrace, hqueues, hbusy⟩ := ({ s with host := h } : State).mgmtReset_effect
  exact ⟨_, (cmdModReset_conditions (s := { s with host := h }) ho (by decide) hforce hp (fun _ => hleft)).trans (if_neg (by decide)), hbusy,
    (State.trace_done ..).trans htrace, (State.queues_done ..).trans hqueues⟩

/-! ## Settings commands (R409, R414, R418) -/

section
variable {r : CmdRef} {s : State}

theorem cmdSettingsSave_permitted {bad : Bool} (ho : s.isOwnerOrLocal r.org = true) :
    cmdSettingsSave r bad s = if bad then s.copyLost.says .flashError else s.saveImage.oks := by
  unfold cmdSettingsSave
  exact refuseIf_ok _ (by simp [State.ownerOrLocal, ho])

theorem cmdSettingsErase_permitted {bad : Bool} (ho : s.isOwnerOrLocal r.org = true) :
    cmdSettingsErase r bad s = if bad then s.copyLost.says .flashError else s.eraseSettings.saveImage.oks := by
  unfold cmdSettingsErase
  exact refuseIf_ok _ (by simp [State.ownerOrLocal, ho])

theorem State.reg_saveImage_generation (s : State) :
    s.saveImage.reg .modBootGeneration 0 0 = (s.reg .modBootGeneration 0 0 + 1) % 2 ^ 32 := by
  have hw : Fld.modBootGeneration.width = 32 := by decide +kernel
  rw [State.saveImage, State.reg_setReg_self, hw]

theorem State.reg_saveImage_source (s : State) :
    s.saveImage.reg .modBootSettingsSrc 0 0 = if s.reg .modBootSettingsSrc 0 0 = 1 then 2 else 1 := by
  have hw : Fld.modBootSettingsSrc.width = 2 := by decide +kernel
  rw [State.saveImage, State.reg_setReg_fld _ (by decide), State.reg_setReg_self, hw, State.nextCopy]
  split <;> rfl

theorem State.copies_copyLost (s : State) : Tab.get [] s.copyLost.sys.copies [s.nextCopy] = [] := by
  have h : s.copyLost.sys.copies = Tab.put [] s.sys.copies [s.nextCopy] [] := rfl
  rw [h, Tab.get_put_self]

theorem State.settings_copyLost (s : State) : s.copyLost.sys.settings = s.sys.settings := rfl

theorem settingsSave_completes (hf : s.fresh r = true) (ho : s.isOwnerOrLocal r.org = true) :
    Completes (.settingsSave r false) r s (fun t => t.reg .modBootGeneration 0 0 = (s.reg .modBootGeneration 0 0 + 1) % 2 ^ 32 ∧
      t.reg .modBootSettingsSrc 0 0 = if s.reg .modBootSettingsSrc 0 0 = 1 then 2 else 1) :=
  completes_of_oks hf rfl fun h => ⟨_, (cmdSettingsSave_permitted (s := { s with host := h }) ho).trans (if_neg (by decide)), rfl,
    (State.reg_done ..).trans (State.reg_saveImage_generation _), (State.reg_done ..).trans (State.reg_saveImage_source _)⟩

theorem settingsErase_completes (hf : s.fresh r = true) (ho : s.isOwnerOrLocal r.org = true) :
    Completes (.settingsErase r false) r s (fun t => t.sys.settings = [] ∧ t.host.keys = [] ∧ t.host.certs = []) :=
  completes_of_oks hf rfl fun h => ⟨_, (cmdSettingsErase_permitted (s := { s with host := h }) ho).trans (if_neg (by decide)), rfl,
    congrArg Sys.settings (State.sys_done ..), State.keys_done .., State.certs_answer ..⟩

theorem settingsSave_flashBad (hf : s.fresh r = true) (ho : s.isOwnerOrLocal r.org = true) :
    Answers (.settingsSave r true) s (fun t => t.statusOf r = some .flashError ∧ Tab.get [] t.sys.copies [s.nextCopy] = []) :=
  answersStatus_of_begun hf rfl fun l => ⟨_, (cmdSettingsSave_permitted (s := { s with host := { s.host with busy := l } }) ho).trans
    (if_pos rfl), rfl, (congrArg (fun y : Sys => Tab.get [] y.copies [s.nextCopy]) (State.sys_done ..)).trans (State.copies_copyLost _)⟩

theorem settingsErase_flashBad (hf : s.fresh r = true) (ho : s.isOwnerOrLocal r.org = true) :
    Answers (.settingsErase r true) s fun t => t.statusOf r = some .flashError ∧ t.sys.settings = s.sys.settings ∧ t.host.keys = s.host.keys :=
  answersStatus_of_begun hf rfl fun l => ⟨_, (cmdSettingsErase_permitted (s := { s with host := { s.host with busy := l } }) ho).trans
    (if_pos rfl), rfl, (congrArg Sys.settings (State.sys_done ..)).trans (State.settings_copyLost _), State.keys_done ..⟩

/-- Bytes of a flash area that lie within what it holds are those it holds. -/
theorem State.flashSlice_within {bs : Bytes} {off n : Nat} (s : State) (h : off + n ≤ bs.length) :
    s.flashSlice bs off n = (bs.drop off).take n := by
  have hlen : ((bs.drop off).take n).length = n := by simp; omega
  refine List.ext_getElem (by rw [State.length_flashSlice, hlen]) fun k h1 h2 => ?_
  have hk : off + k < bs.length := by rw [hlen] at h2; omega
  simp [State.flashSlice, hk]

theorem cmdSettingsRead_answer {offset length : Nat} (ho : s.isOwnerOrLocal r.org = true) (h0 : 0 < length) (h1984 : length ≤ 1984)
    (hend : offset + length ≤ 524288) (hsrc : s.reg .modBootSettingsSrc 0 0 ≠ 0)
    (hin : offset + length ≤ (Tab.get [] s.sys.copies [s.reg .modBootSettingsSrc 0 0 - 1]).length) :
    cmdSettingsRead r offset length 0 s = ({ s with free := s.free + 1 },
      some ⟨.ok, 0, ((Tab.get [] s.sys.copies [s.reg .modBootSettingsSrc 0 0 - 1]).drop offset).take length⟩) := by
  rw [← State.flashSlice_within s hin]
  unfold cmdSettingsRead
  refine (refuseIf_ok _ ?_).trans (if_pos rfl)
  have hfmt : ¬524288 < offset + length := by omega
  have hlen : ¬(length = 0 ∨ 1984 < length) := by omega
  simp only [List.forall_mem_cons, State.ownerOrLocal, ho, decide_eq_false hfmt, decide_eq_false hlen, decide_eq_false hsrc]
  simp

theorem settingsRead_completes {offset length : Nat} (hf : s.fresh r = true) (ho : s.isOwnerOrLocal r.org = true) (h0 : 0 < length)
    (h1984 : length ≤ 1984) (hend : offset + length ≤ 524288) (hsrc : s.reg .modBootSettingsSrc 0 0 ≠ 0)
    (hin : offset + length ≤ (Tab.get [] s.sys.copies [s.reg .modBootSettingsSrc 0 0 - 1]).length) :
    Completes (.settingsRead r offset length 0) r s fun t => ((t.busyOf r).bind Busy.ans).map Answer.results =
      some (((Tab.get [] s.sys.copies [s.reg .modBootSettingsSrc 0 0 - 1]).drop offset).take length) := by
  obtain ⟨t, ht, a, ha, rfl⟩ := answers_of_answer (c := .settingsRead r offset length 0) (P := fun a _ => a =
      ⟨.ok, 0, ((Tab.get [] s.sys.copies [s.reg .modBootSettingsSrc 0 0 - 1]).drop offset).take length⟩) hf rfl fun h =>
    ⟨_, _, cmdSettingsRead_answer (s := { s with host := h }) ho h0 h1984 hend hsrc hin, rfl, rfl⟩
  exact ⟨t, ht, State.statusOf_of_ans ha, congrArg (Option.map Answer.results) ha⟩

end

/-! ## Firmware commands (R416, R418) -/

section
variable {s : State}

theorem State.slotBytes_done (s : State) (r : CmdRef) (st : Status) (k : Nat) : (s.done r st).slotBytes k = s.slotBytes k :=
  congrArg (fun y : Sys => Tab.get [] y.slots [k]) (State.sys_done ..)

theorem State.slotBytes_fwFlags (s : State) (k : Nat) : s.fwFlags.slotBytes k = s.slotBytes k :=
  congrArg (fun y : Sys => Tab.get [] y.slots [k]) s.sys_fwFlags

/-- A state whose slot `k` holds other bytes. -/
def State.setSlot (s : State) (k : Nat) (bs : Bytes) : State :=
  { s with sys := { s.sys with slots := Tab.put [] s.sys.slots [k] bs } }

theorem State.slotBytes_setSlot (s : State) (k : Nat) (bs : Bytes) : (s.setSlot k bs).slotBytes k = bs := by
  have h : (s.setSlot k bs).sys.slots = Tab.put [] s.sys.slots [k] bs := rfl
  rw [State.slotBytes, h, Tab.get_put_self]

/-- Bytes written into a slot stand there from the offset on. -/
theorem State.getD_writeSlot (s : State) (k off : Nat) {data : Bytes} {i : Nat} (hi : i < data.length) :
    ((s.writeSlot k off data).slotBytes k).getD (off + i) 0 = data.getD i 0 := by
  have h : (s.writeSlot k off data).sys.slots =
      Tab.put [] s.sys.slots [k] (s.flashSlice (s.slotBytes k) 0 off ++ data ++ (s.slotBytes k).drop (off + data.length)) := rfl
  have hlen : (s.flashSlice (s.slotBytes k) 0 off).length = off := s.length_flashSlice ..
  rw [State.slotBytes, h, Tab.get_put_self, List.append_assoc, List.getD_append_right _ _ _ _ (by omega), hlen,
    Nat.add_sub_cancel_left, List.getD_append _ _ _ _ hi]

end

section
variable {r : CmdRef} {s : State} {srcPort addr length offset : Nat} {data : Bytes}

/-- FW_STAGE of a chunk that is not the last: its bytes are written, unless the flash fails. -/
theorem cmdFwStage_chunk {bad : Bool} (ho : s.isOwnerOrLocal r.org = true) (ht : s.flag .modFwTrial 0 0 = false) (h0 : 0 < length)
    (h1024 : length ≤ 1024) (hdata : length ≤ data.length) (hsize : offset + length ≤ slotSize) :
    cmdFwStage r 1 srcPort addr length offset 0 data bad s =
      if bad then (State.fwFlags ((s.writeSlot s.otherSlot offset (data.take length)).setSlot s.otherSlot [])).says .flashError
      else (s.writeSlot s.otherSlot offset (data.take length)).fwFlags.oks := by
  have h1 : ¬data.length < length := by omega
  have h2 : ¬length = 0 := by omega
  have h3 : ¬1024 < length := by omega
  have h4 : ¬slotSize < offset + length := by omega
  unfold cmdFwStage
  refine (refuseIf_ok _ ?_).trans ?_
  · simp only [List.forall_mem_cons, State.ownerOrLocal, ho, ht, decide_eq_false h1, decide_eq_false h2, decide_eq_false h3]
    simp [h4]
  · cases bad <;> rfl

/-- FW_STAGE from host memory, without a failing flash: the slot holds what the host memory holds. -/
theorem cmdFwStage_host (ho : s.isOwnerOrLocal r.org = true) (ht : s.flag .modFwTrial 0 0 = false) (h0 : 0 < length)
    (hsize : length ≤ slotSize) (hp : s.portPresent srcPort = true) :
    ∃ st, cmdFwStage r 0 srcPort addr length offset 0 data false s = ((State.fwFlags { (s.dmaUse srcPort).setSlot s.otherSlot
      ((s.dmaUse srcPort).hostRead srcPort addr length) with free := (s.dmaUse srcPort).free + 1 }), some ⟨st, 0, []⟩) := by
  have h1 : ¬length = 0 := by omega
  have h2 : ¬slotSize < length := by omega
  have hend (b : Bool) (u : State) : ∃ st, (if b then u.says .fwInvalid else u.oks) = (u, some ⟨st, 0, []⟩) := by
    cases b
    · exact ⟨.ok, rfl⟩
    · exact ⟨.fwInvalid, rfl⟩
  let u := State.fwFlags { (s.dmaUse srcPort).setSlot s.otherSlot ((s.dmaUse srcPort).hostRead srcPort addr length) with
    free := (s.dmaUse srcPort).free + 1 }
  obtain ⟨st, hst⟩ := hend (!u.slotValid s.otherSlot) u
  refine ⟨st, Eq.trans ?_ hst⟩
  unfold cmdFwStage
  refine (refuseIf_ok _ ?_).trans rfl
  simp only [List.forall_mem_cons, State.ownerOrLocal, ho, ht, hp, decide_eq_false h1]
  simp [h2]

theorem State.mem_dmaUse (s : State) (port : Nat) : (s.dmaUse port).host.mem = s.host.mem :=
  (kept_dmaUse (W := .without [] [.hostMem]) ⟨by decide +kernel, by decide +kernel⟩ .refl).part_without (k := .hostMem) (by decide)

theorem State.busy_dmaUse (s : State) (port : Nat) : (s.dmaUse port).host.busy = s.host.busy :=
  State.busy_of_kept (kept_dmaUse ⟨by decide +kernel, by decide +kernel⟩ .refl)

/-- The reads of a command through a port see the host memory as it was, with some free value for what the host wrote. -/
theorem State.hostRead_dmaUse (s : State) (l : List Busy) (port p addr n : Nat) :
    (State.dmaUse { s with host := { s.host with busy := l } } port).hostRead p addr n =
      ({ s with free := (State.dmaUse { s with host := { s.host with busy := l } } port).free } : State).hostRead p addr n := by
  have hmem : (State.dmaUse { s with host := { s.host with busy := l } } port).host.mem = s.host.mem := State.mem_dmaUse ..
  rw [State.hostRead, hmem]
  rfl

theorem State.slotBytes_withFree (s : State) (n k : Nat) : ({ s with free := n } : State).slotBytes k = s.slotBytes k := rfl

theorem fwStage_effect (hf : s.fresh r = true) (ho : s.isOwnerOrLocal r.org = true) (ht : s.flag .modFwTrial 0 0 = false) (h0 : 0 < length) :
    (length ≤ 1024 → length ≤ data.length → offset + length ≤ slotSize →
      Completes (.fwStage r 1 srcPort addr length offset 0 data false) r s fun t => ∀ k, k < length →
        (t.slotBytes s.otherSlot).getD (offset + k) 0 = data.getD k 0) ∧
    (length ≤ slotSize → srcPort < 4 → s.isOwner r.org = true ∨ r.org = .host srcPort → s.portPresent srcPort = true →
      Answers (.fwStage r 0 srcPort addr length offset 0 data false) s fun t =>
        ∃ f, t.slotBytes s.otherSlot = ({ s with free := f }).hostRead srcPort addr length) ∧
    (length ≤ 1024 → length ≤ data.length → offset + length ≤ slotSize →
      Answers (.fwStage r 1 srcPort addr length offset 0 data true) s fun t => t.statusOf r = some .flashError ∧
        t.slotBytes s.otherSlot = []) := by
  refine ⟨fun h1 h2 h3 => completes_of_oks hf rfl fun h => ⟨_, (cmdFwStage_chunk (s := { s with host := h }) ho ht h0 h1 h2 h3).trans
      (if_neg (by decide)), rfl, fun k hk => ?_⟩, fun h1 _ _ hp => ?_,
    fun h1 h2 h3 => answersStatus_of_begun hf rfl fun l => ⟨_, (cmdFwStage_chunk (s := { s with host := { s.host with busy := l } }) ho ht h0
      h1 h2 h3).trans (if_pos rfl), rfl, ?_⟩⟩
  · have hlen : k < (data.take length).length := by rw [List.length_take]; omega
    rw [State.slotBytes_done, State.slotBytes_fwFlags]
    refine (State.getD_writeSlot _ _ _ hlen).trans ?_
    rw [List.getD_eq_getElem _ _ hlen, List.getD_eq_getElem _ _ (by omega), List.getElem_take]
  · obtain ⟨t, hexec, a, -, f, hslot⟩ := answers_of_begun (c := .fwStage r 0 srcPort addr length offset 0 data false)
      (P := fun _ t => ∃ f, t.slotBytes s.otherSlot = ({ s with free := f } : State).hostRead srcPort addr length) hf rfl fun l =>
      have ⟨st, hcmd⟩ := cmdFwStage_host (s := { s with host := { s.host with busy := l } }) (offset := offset) (data := data)
        (addr := addr) ho ht h0 h1 hp
      ⟨_, _, hcmd, State.busy_dmaUse ..,
        (State.dmaUse { s with host := { s.host with busy := l } } srcPort).free, (State.slotBytes_done _ _ st _).trans ((State.slotBytes_fwFlags ..).trans
        ((State.slotBytes_withFree ..).trans ((State.slotBytes_setSlot ..).trans (State.hostRead_dmaUse ..))))⟩
    exact ⟨t, hexec, f, hslot⟩
  · exact (State.slotBytes_done ..).trans ((State.slotBytes_fwFlags ..).trans (State.slotBytes_setSlot ..))

/-! ### FW_ACTIVATE and what follows it -/

theorem State.otherSlot_lt (s : State) : s.otherSlot < 2 := by
  rw [State.otherSlot]
  omega

/-- The CPs restart on a slot. -/
theorem State.restartCps_effect (s : State) {k : Nat} (back : Bool) : (s.restartCps k back).sys.stewardDown = true ∧
    (s.restartCps k back).sys.activating = some back ∧ (s.restartCps k back).reg .modFwActive 0 0 = k % 2 ∧
    (s.restartCps k back).reg .modFwTrial 0 0 = s.reg .modFwTrial 0 0 := by
  have htrace (u : State) : Kept (.without [.modFwActive, .modFwTrial] [.sys]) u ((List.range 9).foldl State.traceRestart u) :=
    kept_foldl (fun _ _ h => kept_traceRestart ⟨by decide +kernel, by decide +kernel⟩ h) .refl
  have hsteward : Kept (.without [.modFwTrial] []) s s.stewardRestart := kept_stewardRestart ⟨by decide +kernel, by decide +kernel⟩ .refl
  have hw : Fld.modFwActive.width = 1 := by decide +kernel
  have hdown (u : State) : ({ u with sys := { u.sys with stewardDown := true, activating := some back } } : State).reg = u.reg := rfl
  delta State.restartCps
  extract_lets s1 _ s2
  have hsys := (htrace s2).part_without (k := .sys) (by decide)
  refine ⟨congrArg Sys.stewardDown hsys, congrArg Sys.activating hsys, ?_, ?_⟩
  · rw [(htrace s2).reg_without (by decide), hdown, State.reg_setReg_self, hw, Nat.pow_one]
  · rw [(htrace s2).reg_without (by decide), hdown, State.reg_setReg_fld _ (by decide), hsteward.reg_without (by decide)]

theorem cmdFwActivate_blocked {bad : Bool} (ho : s.isOwnerOrLocal r.org = true) (hb : s.activationBlocked = false) :
    cmdFwActivate r bad s =
      if s.slotValid s.otherSlot = false then s.says .fwInvalid else if bad then s.says .flashError
      else (State.restartCps (State.answerNow (State.persistAudit { s.setRecord .modFwTrial 0 0 1 with
        sys := { (s.setRecord .modFwTrial 0 0 1).sys with trialFrom := s.reg .modFwActive 0 0 } }) r .ok) s.otherSlot false).waits := by
  unfold cmdFwActivate
  rw [refuseIf_tail _ (by simp [State.ownerOrLocal, ho])]
  cases hv : s.slotValid s.otherSlot with
  | false => exact refuseIf_head _ rfl
  | true =>
    rw [refuseIf_tail _ rfl, refuseIf_tail _ hb, if_neg (by decide)]
    cases bad with
    | true => exact refuseIf_head _ rfl
    | false => exact refuseIf_tail _ rfl

/-- An activation that is under way: the CPs restart, and the other slot is on trial. -/
def State.onTrial (s : State) (k : Nat) : Prop :=
  s.sys.stewardDown = true ∧ s.sys.activating = some false ∧ s.reg .modFwActive 0 0 = k ∧ s.flag .modFwTrial 0 0 = true

theorem State.onTrial_restartCps {k : Nat} (hk : k < 2) (n : Nat) : (State.restartCps (State.answerNow (State.persistAudit
    { s.setRecord .modFwTrial 0 0 1 with sys := { (s.setRecord .modFwTrial 0 0 1).sys with trialFrom := n } }) r .ok) k false).onTrial k := by
  obtain ⟨hdown, hact, hactive, htrial⟩ := State.restartCps_effect (State.answerNow (State.persistAudit
    { s.setRecord .modFwTrial 0 0 1 with sys := { (s.setRecord .modFwTrial 0 0 1).sys with trialFrom := n } }) r .ok) (k := k) false
  have hrest (u : State) : Kept (.without [.modFwTrial] []) u (u.persistAudit.answerNow r .ok) :=
    kept_answerNow ⟨by decide +kernel, by decide +kernel⟩ (kept_persistAudit ⟨by decide +kernel, by decide +kernel⟩ .refl)
  have hfrom (u : State) : ({ u with sys := { u.sys with trialFrom := n } } : State).reg = u.reg := rfl
  refine ⟨hdown, hact, hactive.trans (Nat.mod_eq_of_lt hk), ?_⟩
  rw [State.flag, htrial, (hrest _).reg_without (by decide), hfrom, State.reg_setRecord_self]
  exact decide_eq_true (Nat.mod_eq_of_lt (by decide +kernel))

theorem fwActivate_effect (hf : s.fresh r = true) (ho : s.isOwnerOrLocal r.org = true) (hb : s.activationBlocked = false) :
    Answers (.fwActivate r false) s (fun t =>
      if s.slotValid s.otherSlot = true then t.sys.stewardDown = true ∧ t.sys.activating = some false ∧
        t.reg .modFwActive 0 0 = s.otherSlot ∧ t.flag .modFwTrial 0 0 = true
      else t.statusOf r = some .fwInvalid) ∧
    Answers (.fwActivate r true) s fun t => t.statusOf r = some (if s.slotValid s.otherSlot then .flashError else .fwInvalid) ∧
      t.reg .modFwActive 0 0 = s.reg .modFwActive 0 0 := by
  cases hv : s.slotValid s.otherSlot with
  | true =>
    refine ⟨?_, answersStatus_of_begun hf rfl fun l => ⟨_, (cmdFwActivate_blocked (s := { s with host := { s.host with busy := l } }) ho hb).trans
      ((if_neg (ne_of_eq_of_ne hv (by decide))).trans (if_pos rfl)), rfl, State.reg_done ..⟩⟩
    obtain ⟨t, ht, htrial⟩ := answers_of_waits (c := .fwActivate r false) (P := fun t => t.onTrial s.otherSlot) hf rfl fun h =>
      ⟨_, (cmdFwActivate_blocked (s := { s with host := h }) ho hb).trans ((if_neg (ne_of_eq_of_ne hv (by decide))).trans (if_neg (by decide))),
        State.onTrial_restartCps s.otherSlot_lt _⟩
    exact ⟨t, ht, htrial⟩
  | false =>
    have hinvalid (bad : Bool) : Answers (.fwActivate r bad) s fun t => t.statusOf r = some .fwInvalid ∧
        t.reg .modFwActive 0 0 = s.reg .modFwActive 0 0 := answersStatus_of_begun hf rfl fun l =>
      ⟨_, (cmdFwActivate_blocked (s := { s with host := { s.host with busy := l } }) ho hb).trans (if_pos hv), rfl, State.reg_done ..⟩
    obtain ⟨t, ht, hst, -⟩ := hinvalid false
    exact ⟨⟨t, ht, hst⟩, hinvalid true⟩

end

section
variable {s : State}

/-- The steward runs again: no activation is under way any more. -/
theorem State.stewardReady_effect (h : s.sys.stewardDown = true) :
    s.stewardReady.sys.stewardDown = false ∧ s.stewardReady.sys.activating = none := by
  have hevent (u : State) : (u.fwEvent .ok).sys = u.sys := State.sys_of_kept (kept_fwEvent ⟨by decide +kernel, by decide +kernel⟩ .refl)
  have hservo (u : State) : (u.servoTo 1).sys = u.sys := State.sys_of_kept (kept_servoTo ⟨by decide +kernel, by decide +kernel⟩ .refl)
  have hend (u : State) (i : Insertion) : (u.endInsertion i .ok).sys = u.sys :=
    State.sys_of_kept (kept_endInsertion ⟨by decide +kernel, by decide +kernel⟩ .refl)
  delta State.stewardReady
  rw [if_neg (by simp [h])]
  extract_lets act _ s1 s2 s3
  have h2 : s2.sys = s1.sys := by
    unfold s2
    split
    exacts [hevent s1, rfl]
  have h3 : s3.sys = s1.sys := by
    unfold s3
    split
    exacts [(hservo s2).trans h2, h2]
  have hall : ∀ t : State, t.sys = s1.sys → t.sys.stewardDown = false ∧ t.sys.activating = none := fun t ht =>
    ⟨congrArg Sys.stewardDown ht, congrArg Sys.activating ht⟩
  split
  · split
    · exact hall _ ((hend ..).trans h3)
    · exact hall _ h3
  · exact hall _ h3

/-- An activation that did not come up goes back to the slot before it (R416). -/
theorem State.activationTimeout_effect (hd : s.sys.stewardDown = true) (ha : s.sys.activating = some false) :
    s.activationTimeout.reg .modFwActive 0 0 = s.sys.trialFrom % 2 ∧ s.activationTimeout.flag .modFwTrial 0 0 = false := by
  obtain ⟨-, -, hactive, -⟩ := s.restartCps_effect (k := s.sys.trialFrom) true
  have hevent (u : State) : Kept (.without [.modFwActive, .modFwTrial] []) u (u.fwEvent .fwInvalid) :=
    kept_fwEvent ⟨by decide +kernel, by decide +kernel⟩ .refl
  rw [State.activationTimeout, if_pos ⟨hd, ha⟩]
  constructor
  · rw [(hevent _).reg_without (by decide), State.reg_setRecord, if_neg (by decide), hactive]
  · rw [State.flag, (hevent _).reg_without (by decide), State.reg_setRecord_self, Nat.zero_mod]
    rfl

end

section
variable {r : CmdRef} {s : State}

theorem cmdFwConfirm_trial {bad : Bool} (ho : s.isOwnerOrLocal r.org = true) (ht : s.flag .modFwTrial 0 0 = true) :
    cmdFwConfirm r bad s = if bad then s.says .flashError
      else ((((s.setRecord .modFwTrial 0 0 0).setRecord .modFwNext 0 0 (s.reg .modFwActive 0 0)).setRecord .modFwSvnMin 0 0
        (max (s.reg .modFwSvnMin 0 0) (Config.packageSvn (s.slotBytes (s.reg .modFwActive 0 0))))).fwFlags).oks := by
  unfold cmdFwConfirm
  rw [refuseIf_tail _ (by simp [State.ownerOrLocal, ho]), refuseIf_tail _ (by rw [ht]; rfl)]
  cases bad with
  | true => exact refuseIf_head _ rfl
  | false => exact refuseIf_tail _ rfl

/-- A confirmed slot is the one that boots next, and no longer on trial. -/
theorem State.confirm_effect (s : State) (k svn : Nat) :
    ((((s.setRecord .modFwTrial 0 0 0).setRecord .modFwNext 0 0 k).setRecord .modFwSvnMin 0 0 svn).fwFlags).flag .modFwTrial 0 0 = false ∧
    ((((s.setRecord .modFwTrial 0 0 0).setRecord .modFwNext 0 0 k).setRecord .modFwSvnMin 0 0 svn).fwFlags).reg .modFwNext 0 0 = k % 2 := by
  have hk (u : State) : Kept (.without [.modFwTrial, .modFwNext] []) u u.fwFlags := kept_fwFlags ⟨by decide +kernel, by decide +kernel⟩ .refl
  have hw : Fld.modFwNext.width = 1 := by decide +kernel
  constructor
  · rw [State.flag, (hk _).reg_without (by decide), State.reg_setRecord, if_neg (by decide), State.reg_setRecord, if_neg (by decide),
      State.reg_setRecord_self, Nat.zero_mod]
    rfl
  · rw [(hk _).reg_without (by decide), State.reg_setRecord, if_neg (by decide), State.reg_setRecord_self, hw, Nat.pow_one]

theorem fwConfirm_completes (hf : s.fresh r = true) (ho : s.isOwnerOrLocal r.org = true) (ht : s.flag .modFwTrial 0 0 = true) :
    Completes (.fwConfirm r false) r s (fun t => t.flag .modFwTrial 0 0 = false ∧ t.reg .modFwNext 0 0 = s.reg .modFwActive 0 0 % 2) ∧
    Answers (.fwConfirm r true) s fun t => t.statusOf r = some .flashError ∧ t.flag .modFwTrial 0 0 = true := by
  refine ⟨completes_of_oks hf rfl fun h => ?_, answersStatus_of_begun hf rfl fun l =>
    ⟨_, (cmdFwConfirm_trial (s := { s with host := { s.host with busy := l } }) ho ht).trans (if_pos rfl), rfl, (State.flag_done ..).trans ht⟩⟩
  obtain ⟨htrial, hnext⟩ := ({ s with host := h } : State).confirm_effect (s.reg .modFwActive 0 0)
    (max (s.reg .modFwSvnMin 0 0) (Config.packageSvn (s.slotBytes (s.reg .modFwActive 0 0))))
  exact ⟨_, (cmdFwConfirm_trial (s := { s with host := h }) ho ht).trans (if_neg (by decide)), rfl, (State.flag_done ..).trans htrial,
    (State.reg_done ..).trans hnext⟩

end

/-- Settles O19: each row of boot, power, reset, settings and firmware, and what it leaves. -/
theorem startUpRowsComplete : Obligations.StartUpRowsComplete := by
  have hnext {s u : State} {c : Prop} [Decidable c] (h : c) :
      (Host.Outcome.next (if c then u else s) : Host.Outcome State Fault Refusal) = .next u := congrArg Host.Outcome.next (if_pos h)
  refine ⟨fun s hb => ⟨_, hnext hb, ?_⟩, fun s hb => ⟨_, hnext hb, ?_⟩,
    fun s hoff hm hs => ⟨_, rfl, State.modMode_bootComplete hoff hm hs⟩, fun s hm => ⟨_, rfl, State.wakingComplete_effect hm⟩,
    fun s hm ha => ⟨_, rfl, State.modMode_sleepingComplete hm ha⟩, fun r s hf ho hbad => modPower_completes hf ho hbad,
    fun r force s hf ho hforce hp => modReset_completes hf ho hforce hp,
    fun r s hf ho => ⟨settingsSave_completes hf ho, settingsErase_completes hf ho, settingsSave_flashBad hf ho, settingsErase_flashBad hf ho⟩,
    fun r offset length s hf ho h0 h1 h2 hsrc hin => settingsRead_completes hf ho h0 h1 h2 hsrc hin,
    fun r srcPort addr length offset data s hf ho ht h0 => fwStage_effect hf ho ht h0, fun r s hf ho hb => fwActivate_effect hf ho hb,
    fun s hd => ⟨_, rfl, State.stewardReady_effect hd⟩, fun s hd ha => ⟨_, rfl, State.activationTimeout_effect hd ha⟩,
    fun r s hf ho ht => fwConfirm_completes hf ho ht⟩
  · have h := s.firmwareBoot_effect 0
    by_cases hslot : s.bootSlot.isSome = true
    · rw [if_pos hslot] at h
      exact (if_pos hslot).mpr h
    · rw [if_neg hslot] at h
      exact (if_neg hslot).mpr h.1
  · obtain ⟨hsteward, hone⟩ := (s.firmwareBoot 1).stewardMoved_effect
    have h := s.firmwareBoot_effect 1
    by_cases hslot : s.bootSlot.isSome = true
    · rw [if_pos hslot] at h
      refine (if_pos hslot).mpr ?_
      rw [if_pos h]
      exact ⟨hsteward.trans h, hone⟩
    · rw [if_neg hslot] at h
      obtain ⟨⟨-, hno⟩, -⟩ : ((s.sys.off = false ∧ s.modMode = Mod.boot) ∧ s.sys.steward = false) ∧ s.sys.recovery = false := by
        simpa [State.booting] using hb
      refine (if_neg hslot).mpr ?_
      rw [if_neg (by rw [h.2, hno]; decide)]
      exact h.1

end Sys2Proof.Machine
end
